-- ==== Sys2Proof/Word.lean ====
section
/-! DEFINITION. The word types of the H96 and the sparse map in which the state holds its memories and its numbered
units. -/

namespace Sys2Proof

/-- An 18-bit word (R1). -/
abbrev Word := BitVec 18

/-- An octet (8 bits). -/
abbrev Octet := BitVec 8

/-- A nonet: an octet in bits 7-0 and the tag bit in bit 8 (R3). -/
abbrev Nonet := BitVec 9

/-- A map from numbers to values that lists only the entries that differ from a default, keys strictly rising
(Machine/Cells.lean reads and writes it and says when it is in that form). -/
abbrev Cells (α : Type) := List (Nat × α)

end Sys2Proof
end

