-- ==== Sys2Proof/Syntax.lean ====
section
/-! DEFINITION. The commands of the block: one constructor of `Instr` per row of spec/opcode_table.json, in the
table's order, with the operands each row needs.  A command that a master writes or reads carries the master; an
event on a pin or on the air carries what the device measures; a core's instruction carries the core and its
fields.  Indices of numbered units are `Fin`, so a command names an existing unit by its type. -/

namespace Sys2Proof

/-- A master of the register file (01_architecture, "Reads and writes across domains"). -/
inductive Master where
  | apc | lkc | host | dbg
  deriving DecidableEq, Repr

/-- The two Fuavo cores (R273). -/
inductive Core where
  | apc | lkc
  deriving DecidableEq, Repr

/-- The two receive chains. -/
inductive RxChain where
  | a | b
  deriving DecidableEq, Repr

/-- The two transmit chains (R82). -/
inductive TxChain where
  | s | w
  deriving DecidableEq, Repr

/-- Causes of a cold reset (R399). `powerOn true`: BKD was unpowered too (its first power-up). -/
inductive ColdCause where
  | powerOn (bkdFirst : Bool) | brownout | resetPin | watchdog (c : Core) | command | lifeCycle
  deriving DecidableEq, Repr

/-- Causes of a system reset (R399, R398). -/
inductive SysCause where
  | command | watchdog (c : Core) | refLoss | pll
  deriving DecidableEq, Repr

/-- Causes of a group reset (R399). -/
inductive GroupCause where
  | command | watchdog | lockup | trial | reef
  deriving DecidableEq, Repr

/-- Causes of a shared-domain reset (R399). -/
inductive DomCause where
  | command | pll
  deriving DecidableEq, Repr

/-- What a lane measured over the sync word (R72): levels in the report's units, the received PHY code (R66) and
whether chain B won a selection (R65). -/
structure RxMeas where
  rssiA : BitVec 9
  rssiB : BitVec 9
  phase : BitVec 9
  qual : BitVec 3
  phy : BitVec 3
  selB : Bool
  deriving DecidableEq, Repr

/-- Faults a lane detects (R70). -/
inductive LaneFaultKind where
  | parity | bufferEcc | length
  deriving DecidableEq, Repr

/-- Faults a sequencer detects (R107). -/
inductive SeqFaultKind where
  | parity | overrun | contextEcc
  deriving DecidableEq, Repr


/-- A Utvis frame as it stands on the line (R248): its words (the header group, then the body groups), the CRC
received, and whether every symbol of it was valid. -/
structure UFrame where
  words : List Word
  crc : BitVec 32
  lineOk : Bool
  deriving DecidableEq, Repr

/-- Why an ACTIVE Utvis port falls (R252). -/
inductive DownWhy where
  | symbolErrors | silence | retries
  deriving DecidableEq, Repr

/-- The commands: one constructor per row of spec/opcode_table.json. -/
inductive Instr where
  -- registers, resets and bring-up
  | registerWrite (m : Master) (port : BitVec 16) (v : Word)
  | readClear (m : Master) (port : BitVec 16)
  | multiwordRead (m : Master) (port : BitVec 16)
  | coldReset (cause : ColdCause) (bootSel : BitVec 2) (stackId : BitVec 3)
  | systemReset (cause : SysCause) (bootSel : BitVec 2) (stackId : BitVec 3)
  | applicationGroupReset (cause : GroupCause)
  | linkGroupReset (cause : GroupCause)
  | domainReset (d : Fin 16) (cause : DomCause)
  | bootRomRun (nor0 nor1 : List Octet)
  | rigReady
  | liveFragmentCheck (m : Master)
  | liveFragmentApply
  -- receive chains and lanes
  | clipEvent (c : RxChain)
  | attStepDown (c : RxChain)
  | chainCalStart (c : RxChain)
  | chainCalDone (c : RxChain) (skew : BitVec 9)
  | samplingPllUnlock
  | samplingPllRelock
  | bgCalPeriod (c : RxChain)
  | bgCalApply (c : RxChain) (skew : BitVec 9)
  | bgCalForce (c : RxChain) (skew : BitVec 9)
  | rxcFullCal (m : Master) (c : RxChain)
  | rxcBgApplyCmd (m : Master) (c : RxChain)
  | laneStart (m : Master) (l : Fin 64)
  | laneStop (m : Master) (l : Fin 64)
  | laneClaim (m : Master) (l : Fin 64)
  | laneRelease (m : Master) (l : Fin 64)
  | laneTest (m : Master) (l : Fin 64)
  | laneTestDone (l : Fin 64) (pass : Bool)
  | laneFillDone (l : Fin 64)
  | syncMatch (l : Fin 64) (sync : BitVec 32) (ts : BitVec 54) (meas : RxMeas)
  | lengthFieldReceived (l : Fin 64) (air : List Octet)
  | packetEnd (l : Fin 64) (air : List Octet) (crc : BitVec 24)
  | blankingStart (t : TxChain)
  | blankingEnd (t : TxChain)
  | laneFaultDetect (l : Fin 64) (kind : LaneFaultKind)
  | laneReportRead (m : Master) (l : Fin 64)
  | watchDetection (gridW : Bool) (bin : BitVec 9) (phy : BitVec 3)
  | watchNomatchRelease (l : Fin 64)
  | watchEntryApply (m : Master) (e : Fin 8) (v : Word)
  -- transmit chains and synthesisers
  | txRequest (q : Fin 16) (pcode : BitVec 6) (wait : Word)
  | tuneStart (t : TxChain)
  | synthLock (t : TxChain)
  | rampUpStart (t : TxChain)
  | txFirstBit (t : TxChain)
  | txLastBit (t : TxChain)
  | rampDownEnd (t : TxChain)
  | txSkipLate (t : TxChain)
  | lossOfLock (t : TxChain)
  | keepExpiry (t : TxChain)
  | synthCalStart (t : TxChain)
  | synthCalYield (t : TxChain)
  | synthCalResume (t : TxChain)
  | synthCalDone (t : TxChain)
  | txcMustRunCal (m : Master) (t : TxChain)
  | txcPendingCal (m : Master) (t : TxChain)
  | testStart (m : Master) (t : TxChain)
  | testStop (m : Master) (t : TxChain)
  -- sequencers, calendar, sniff and accountant
  | insert (m : Master)
  | remove (m : Master)
  | update (m : Master)
  | eventSetup (ctx : BitVec 14)
  | contextLoad (q : Fin 16)
  | followerListenStart (q : Fin 16)
  | listenTimeout (q : Fin 16)
  | responseWindowExpiry (q : Fin 16)
  | closeTime (q : Fin 16)
  | eventClose (q : Fin 16)
  | supervisionTimeout (ctx : BitVec 14)
  | seqFaultDetect (q : Fin 16) (kind : SeqFaultKind)
  | seqTest (m : Master) (q : Fin 16)
  | seqTestDone (q : Fin 16) (pass : Bool)
  | joinWindowStart (q : Fin 16)
  | joinWindowEnd (q : Fin 16)
  | sniffRestore (e : Fin 8)
  | sniffWindowStart (e : Fin 8)
  | sniffListenEnd
  | sniffWindowEnd
  | ledgerSlotBoundary (b : Fin 8)
  | ledgerClear (m : Master)
  -- trim engine
  | horizonEntry (ctx : BitVec 14)
  | contextSwapDone (ctx : BitVec 14)
  | packetCommit (l : Fin 64)
  | drainMarker (l : Fin 64) (ctx : BitVec 14) (epoch : BitVec 6)
  | drainTimeout (ctx : BitVec 14) (epoch : BitVec 6)
  | lookup (m : Master)
  | belay (m : Master)
  | unbelay (m : Master)
  | spillBurst
  | refillBurst
  | placeRequest (m : Master)
  | placeAnswer (result : BitVec 3) (device : BitVec 3)
  | placeTimeout
  -- the Basin
  | openW (m : Master)
  | enqueue (m : Master)
  | abort (m : Master)
  | dequeue (m : Master)
  | peek (m : Master)
  | dropRem (m : Master)
  | forward (m : Master)
  | flush (m : Master)
  | deferredQueueCommand (m : Master)
  | wdataWrite (m : Master) (v : Word)
  | rdataRead (m : Master)
  | hdrWrite (m : Master) (i : Fin 8) (v : Word)
  | ieWrite (m : Master) (g : Fin 8) (v : Word)
  | audit (m : Master)
  | auditDone
  | tailIdleExpiry (q : Fin 128)
  | openPacketFetch (m : Master)
  | dramReclaim
  | dmcFreeze (cause port groups : BitVec 3) (block : BitVec 25) (tag : BitVec 16)
  | resume (m : Master)
  -- Utvis
  | symbolLock (p : Fin 2)
  | delayMeasured (p : Fin 2) (units : BitVec 12)
  | helloFrame (p : Fin 2) (f : UFrame)
  | portActive (p : Fin 2)
  | linkDown (p : Fin 2) (why : DownWhy)
  | retrain (m : Master) (p : Fin 2)
  | ackReceived (p : Fin 2) (hseq : BitVec 6) (credit : BitVec 16)
  | nakReceived (p : Fin 2) (hseq : BitVec 6)
  | resendTimeout (p : Fin 2)
  | egressFrameSend (p : Fin 2)
  | dataFrame (p : Fin 2) (f : UFrame)
  | copyFrame (p : Fin 2) (f : UFrame)
  | copyHoldEnd (ctx : BitVec 14)
  | shadowFrame (p : Fin 2) (f : UFrame)
  | mirrorFrame (p : Fin 2) (f : UFrame)
  | syncSend
  | syncMarkReceived (p : Fin 2)
  | syncFrame (p : Fin 2) (f : UFrame)
  | loadFrame (p : Fin 2) (f : UFrame)
  | syncLoss
  | reliefTakeover
  | ownerFence
  | handback (m : Master)
  | handover (m : Master)
  | handoverDone
  | helperListenStart (ctx : BitVec 14)
  | delayRemeasure (p : Fin 2) (units : BitVec 12)
  | wakeBurstSend (m : Master) (v : Word)
  | utvisWakeDetect (p : Fin 2)
  -- Fuavo instructions
  | shortPair (c : Core) (op1 op2 : BitVec 8) (cond : Bool)
  | add (c : Core) (rd ra rb : BitVec 4)
  | sub (c : Core) (rd ra rb : BitVec 4)
  | adc (c : Core) (rd ra rb : BitVec 4)
  | sbc (c : Core) (rd ra rb : BitVec 4)
  | and (c : Core) (rd ra rb : BitVec 4)
  | or (c : Core) (rd ra rb : BitVec 4)
  | xor (c : Core) (rd ra rb : BitVec 4)
  | shi (c : Core) (rd : BitVec 4) (kind : BitVec 2) (n : BitVec 6)
  | shv (c : Core) (rd : BitVec 4) (kind : BitVec 2) (rb : BitVec 4)
  | mul (c : Core) (rd ra rb : BitVec 4)
  | mulx (c : Core) (rd ra rb : BitVec 4)
  | addi (c : Core) (rd : BitVec 4) (imm : BitVec 8)
  | movi (c : Core) (rd : BitVec 4) (imm : BitVec 8)
  | cmp (c : Core) (cond ra rb : BitVec 4)
  | cmpi (c : Core) (ra : BitVec 4) (imm : BitVec 8)
  | ld (c : Core) (rd ra n : BitVec 4)
  | st (c : Core) (rs ra n : BitVec 4)
  | lda (c : Core) (r ra : BitVec 4) (abs : Bool) (off : Word)
  | sta (c : Core) (r ra : BitVec 4) (abs : Bool) (off : Word)
  | ldc (c : Core) (rd ra n : BitVec 4)
  | inp (c : Core) (rd ra : BitVec 4) (idx : Bool) (port : BitVec 16)
  | out (c : Core) (rs ra : BitVec 4) (idx : Bool) (port : BitVec 16)
  | b (c : Core) (cond : BitVec 4) (off : BitVec 8)
  | dbnz (c : Core) (rd : BitVec 4) (off : BitVec 8)
  | crd (c : Core) (r : BitVec 4) (cr : BitVec 6)
  | cwr (c : Core) (r : BitVec 4) (cr : BitVec 6)
  | movw (c : Core) (rd : BitVec 4) (imm : Word)
  | reservedMajor (c : Core) (w0 w1 : Word)
  | nop (c : Core)
  | wait (c : Core)
  | waitWake (c : Core)
  | reti (c : Core)
  | trap (c : Core) (n : BitVec 8)
  | brk (c : Core)
  | fence (c : Core)
  | ei (c : Core)
  | di (c : Core)
  | sett (c : Core)
  | clrt (c : Core)
  | jmp (c : Core) (ra : BitVec 4)
  | call (c : Core) (ra : BitVec 4)
  | jmpl (c : Core) (addr : Word)
  | calll (c : Core) (addr : Word)
  | ret (c : Core)
  | unaryMov (c : Core) (rd ra : BitVec 4)
  | not (c : Core) (rd ra : BitVec 4)
  | neg (c : Core) (rd ra : BitVec 4)
  | swn (c : Core) (rd ra : BitVec 4)
  | sxn (c : Core) (rd ra : BitVec 4)
  | zxn (c : Core) (rd ra : BitVec 4)
  | clz (c : Core) (rd ra : BitVec 4)
  | tnz (c : Core) (ra : BitVec 4)
  | interruptEntry (c : Core)
  | halt (m : Master) (c : Core)
  | run (m : Master) (c : Core)
  | step (m : Master) (c : Core) (w0 w1 : Word)
  | stepMask (m : Master) (c : Core) (w0 w1 : Word)
  | breakpointHalt (c : Core)
  -- scrub and flash
  | scrubStep
  | flashUnlockCycle (c : Core) (win : Fin 4) (off : BitVec 13) (v : Word)
  | programWord (c : Core) (win : Fin 4) (off : BitVec 13) (d : Word)
  | programRow (c : Core) (win : Fin 4) (off : BitVec 13) (d0 d1 d2 d3 : Word)
  | eraseSector (c : Core) (win : Fin 4) (off : BitVec 13)
  | abandon (c : Core) (win : Fin 4) (off : BitVec 13)
  | flashOpStart
  | flashOpDone (ok : Bool)
  | eraseSuspend
  | eraseResume
  | journalScanDone
  | apertureTimeout (c : Core)
  -- DRAM controller
  | powerup (m : Master)
  | powerupDone
  | trained (m : Master)
  | wipeDone
  | selfRefreshEntry
  | dramRequestStart
  | dramAccessDone
  | refreshDue
  | dramPeriodicCal (mr4 mr8 : BitVec 8) (drifted : Bool)
  | zqCalibration
  | dramRetrain
  | dramScrubStep
  | mrw (m : Master)
  | mrr (m : Master)
  | mpc (m : Master)
  | cbt (m : Master)
  | wlev (m : Master)
  | rdq (m : Master)
  | fifo (m : Master)
  | check (m : Master)
  | trainingHelperDone (res : BitVec 17)
  | dramPllUnlock
  -- cipher engine, verify engine, life cycle and update
  | cipherJob (m : Master)
  | cipherJobRun
  | cipherJobEnd
  | load (m : Master)
  | clear (m : Master)
  | derive (m : Master)
  | exportKey (m : Master)
  | hash (m : Master)
  | crc (m : Master)
  | ecdsa (m : Master)
  | verifyDone
  | transition (m : Master)
  | transitionComplete
  | fuseOkh (m : Master)
  | arm (m : Master)
  | armDone
  | activationDone (c : Core)
  | checkin (m : Master)
  | trialExpiry (c : Core)
  -- host port
  | status (addr : BitVec 3) (wc : BitVec 11) (h1 : Word)
  | write (addr : BitVec 3) (wc : BitVec 11) (h1 : Word) (data : List Word)
  | writeFixed (addr : BitVec 3) (wc : BitVec 11) (h1 : Word) (data : List Word)
  | readPost (addr : BitVec 3) (wc : BitVec 11) (h1 : Word)
  | readPostFixed (addr : BitVec 3) (wc : BitVec 11) (h1 : Word)
  | bell (addr : BitVec 3) (wc : BitVec 11) (h1 : Word)
  | push (addr : BitVec 3) (wc : BitVec 11) (h1 : Word) (data : List Word)
  | pull (addr : BitVec 3) (wc : BitVec 11) (h1 : Word)
  | badCmd (addr : BitVec 3) (cmd : BitVec 4) (wc : BitVec 11) (h1 : Word)
  | frameCut (addr : BitVec 3) (cmd : BitVec 4) (wc : BitVec 11) (h1 : Word) (inHeader : Bool) (data : List Word)
  | writeBufferDrain
  | postedSample
  | comparatorMatch (addr : BitVec 3)
  | hirqSet (m : Master) (v : Word)
  -- peripheral serial masters
  | psmStart (m : Master) (x : Fin 2)
  | psmAbort (m : Master) (x : Fin 2)
  | psmRelease (m : Master) (x : Fin 2)
  | psmFlush (m : Master) (x : Fin 2)
  | txdPush (m : Master) (x : Fin 2) (v : Word)
  | rxdPop (m : Master) (x : Fin 2)
  | psmUnitDone (x : Fin 2) (rx : BitVec 32)
  | psmFrameDone (x : Fin 2)
  -- power
  | enterReef1 (m : Master)
  | enterReef2 (m : Master)
  | enterReef3 (m : Master)
  | enterFurl (m : Master)
  | pwrCancel (m : Master)
  | entryQuietReached
  | entryCoresWaiting
  | wakeRequest (src : Fin 6)
  | domainRelease (d : Fin 16)
  | domOffHold (m : Master) (v : Word)
  | residencyClear (m : Master)
  -- clocks, watchdog, Sluice, temperature
  | refclkLoss
  | systemPllUnlock
  | wdgKick (m : Master) (c : Core) (v : Word)
  | wdgWarnLevel (c : Core)
  | wdgExpiry (c : Core)
  | sluiceGrant
  | sluiceAging (a : Fin 12)
  | tempSample (temp : BitVec 9) (vpaS vpaW : BitVec 12)
  | fmcMeasure (m : Master)
  | fmcDone (err : Word)
  -- event fabric and timers
  | eventRaise (p : BitVec 9)
  | taskAction (t : BitVec 9)
  | guardWindowClose (ch : Fin 48)
  | evSw (m : Master) (v : Word)
  | timerTick (n : Fin 12)
  | timStart (m : Master) (n : Fin 12)
  | timStop (m : Master) (n : Fin 12)
  | timClear (m : Master) (n : Fin 12)
  | periodWrite (m : Master) (n : Fin 12) (v : Word)
  | ccWrite (m : Master) (n : Fin 12) (k : Fin 4) (v : Word)
  | ccRead (m : Master) (n : Fin 12) (k : Fin 4)
  -- real-time clock
  | rtcSecond
  | commit (m : Master)
  | commitApply
  | clearStamp (m : Master)
  | discard (m : Master)
  | rtcSecRead (m : Master)
  | snapshotExpiry (m : Master)
  | backupSwitchover (late : Bool)
  | rtcclkStop
  | bkdSupplyLow
  -- pins and test access
  | gpioEdge (g : Fin 48) (rise : Bool)
  | gpioSet (m : Master) (k : Fin 3) (v : Word)
  | gpioClr (m : Master) (k : Fin 3) (v : Word)
  | gpioTog (m : Master) (k : Fin 3) (v : Word)
  | tapReset
  | extest (scanIn : List Bool)
  | samplePreload (balls scanIn : List Bool)
  | idcode
  | debug (writing : Bool) (port : BitVec 16) (v : Word)
  | bypass (bit : Bool)
  -- rows added to the table
  | refclkReturn (bootSel : BitVec 2) (stackId : BitVec 3)
  | mastheadRoleTaken
  | helperListenEnd (ctx : BitVec 14)
  | lenoverAirTimePassed (l : Fin 64)
  | chzscrubDone
  deriving DecidableEq, Repr

end Sys2Proof
end

