-- ==== Sys2Proof/Machine/Cells.lean ====
section
/-! DEFINITION. Reading and writing a sparse map.  `d` gives the value an unlisted key reads as. -/

namespace Sys2Proof

variable {α : Type}

/-- The value at a key: the first entry with that key, else the default. -/
def Cells.rd (d : Nat → α) : Cells α → Nat → α
  | [], k => d k
  | (j, v) :: r, k => if j = k then v else Cells.rd d r k

/-- Put an entry in its place among rising keys. -/
def Cells.put : Cells α → Nat → α → Cells α
  | [], k, v => [(k, v)]
  | (j, w) :: r, k, v =>
    if j = k then (k, v) :: r else if k < j then (k, v) :: (j, w) :: r else (j, w) :: Cells.put r k v

/-- Remove a key. -/
def Cells.del : Cells α → Nat → Cells α
  | [], _ => []
  | (j, w) :: r, k => if j = k then Cells.del r k else (j, w) :: Cells.del r k

/-- Write a value; writing the default removes the entry. -/
def Cells.wr [DecidableEq α] (d : Nat → α) (m : Cells α) (k : Nat) (v : α) : Cells α :=
  if v = d k then Cells.del m k else Cells.put m k v

/-- Keep the entries whose key meets a test; every other key reads as its default. -/
def Cells.keep (p : Nat → Bool) : Cells α → Cells α
  | [] => []
  | (j, w) :: r => if p j then (j, w) :: Cells.keep p r else Cells.keep p r

/-- Write a list of values to consecutive keys. -/
def Cells.wrs [DecidableEq α] (d : Nat → α) (m : Cells α) (k : Nat) : List α → Cells α
  | [] => m
  | v :: vs => Cells.wrs d (Cells.wr d m k v) (k + 1) vs

/-- Read a run of consecutive keys. -/
def Cells.rds (d : Nat → α) (m : Cells α) (k : Nat) : Nat → List α
  | 0 => []
  | n + 1 => Cells.rd d m k :: Cells.rds d m (k + 1) n

/-- A map with every listed value changed. -/
def Cells.mapVals [DecidableEq α] (d : Nat → α) (f : α → α) (m : Cells α) : Cells α :=
  m.foldl (fun a x => Cells.wr d a x.1 (f x.2)) []

/-- Every key is above a bound and rising, and no entry holds its default: the canonical form. -/
def Cells.wfFrom [DecidableEq α] (d : Nat → α) : Nat → Cells α → Bool
  | _, [] => true
  | b, (j, v) :: r => decide (b ≤ j) && decide (v ≠ d j) && Cells.wfFrom d (j + 1) r

/-- The canonical form of a map. -/
def Cells.wf [DecidableEq α] (d : Nat → α) (m : Cells α) : Bool := Cells.wfFrom d 0 m

/-- The lowest number from a bound on that is no key, of a map in canonical form. -/
def Cells.firstGap : Nat → Cells α → Nat
  | b, [] => b
  | b, (j, _) :: r => if j = b then Cells.firstGap (b + 1) r else if b < j then b else Cells.firstGap b r

/-- Number of entries that meet a test. -/
def Cells.count (p : α → Bool) : Cells α → Nat
  | [] => 0
  | (_, v) :: r => (if p v then 1 else 0) + Cells.count p r

end Sys2Proof
end

