-- ==== Sys2Proof/Machine/Ports.lean ====
section
/-! DEFINITION. The register tables of spec/ as data: where each register stands (`Port`), its Cold value (R8), its
access (R5) and whether it is loaded from the Rig.  Generated by hand-checked transcription of the spec's register
tables; a numbered register of several ports is a function of its number. -/

namespace Sys2Proof

/-! ## Ports -/

abbrev Port.SYS_LOT (i : Nat) : Nat := 0x0000 + i
abbrev Port.SYS_WAFER : Nat := 0x0002
abbrev Port.SYS_DIE : Nat := 0x0003
abbrev Port.SYS_PART : Nat := 0x0004
abbrev Port.SYS_LC : Nat := 0x0005
abbrev Port.PWR_STAT : Nat := 0x0100
abbrev Port.PWR_CMD : Nat := 0x0101
abbrev Port.PWR_WAKE : Nat := 0x0102
abbrev Port.PWR_WAKE_SRC : Nat := 0x0103
abbrev Port.PWR_DOM_STAT : Nat := 0x0104
abbrev Port.PWR_DOM_OFF : Nat := 0x0105
abbrev Port.PWR_MASK (i : Nat) : Nat := 0x0106 + i
abbrev Port.PWR_RES (i : Nat) : Nat := 0x0110 + i
abbrev Port.PWR_RES_CMD : Nat := 0x011A
abbrev Port.PWR_ABORTCNT : Nat := 0x011B
abbrev Port.CLK_STAT : Nat := 0x0200
abbrev Port.CLK_LOSSCNT : Nat := 0x0201
abbrev Port.RST_CAUSE : Nat := 0x0210
abbrev Port.RST_LAST : Nat := 0x0211
abbrev Port.RST_CMD : Nat := 0x0212
abbrev Port.RST_CNT (i : Nat) : Nat := 0x0213 + i
abbrev Port.RIG_STAT : Nat := 0x0300
abbrev Port.RIG_FAULT : Nat := 0x0301
abbrev Port.RIG_MEMBER : Nat := 0x0302
abbrev Port.RIG_LEN : Nat := 0x0303
abbrev Port.RIG_SECTIONS : Nat := 0x0304
abbrev Port.RIG_SERIAL (i : Nat) : Nat := 0x0305 + i
abbrev Port.RIG_STRAP : Nat := 0x0307
abbrev Port.RIG_LIVE_ADDR : Nat := 0x0308
abbrev Port.RIG_LIVE_CMD : Nat := 0x0309
abbrev Port.RIG_LIVE_COUNT : Nat := 0x030A
abbrev Port.RIG_DIGEST (i : Nat) : Nat := 0x0310 + i
abbrev Port.EVF_CH_SRC (i : Nat) : Nat := 0x0400 + 8 * i
abbrev Port.EVF_CH_GATE (i : Nat) : Nat := 0x0401 + 8 * i
abbrev Port.EVF_CH_GUARD (i : Nat) : Nat := 0x0402 + 8 * i
abbrev Port.EVF_CH_STAT (i : Nat) : Nat := 0x0403 + 8 * i
abbrev Port.EVF_CH_RAISECNT (i : Nat) : Nat := 0x0404 + 8 * i
abbrev Port.EVF_CH_STOPCNT (i : Nat) : Nat := 0x0405 + 8 * i
abbrev Port.EVF_CH_OVRCNT (i : Nat) : Nat := 0x0406 + 8 * i
abbrev Port.EVF_GRP : Nat := 0x0580
abbrev Port.EVF_SW : Nat := 0x0581
abbrev Port.EVF_IGNCNT : Nat := 0x0582
abbrev Port.EVF_MRGCNT : Nat := 0x0583
abbrev Port.EVF_LAST : Nat := 0x0584
abbrev Port.EVF_TRIP : Nat := 0x0585
abbrev Port.EVF_TASK (i : Nat) : Nat := 0x0600 + i
abbrev Port.TIM_CTRL (i : Nat) : Nat := 0x0800 + 64 * i
abbrev Port.TIM_PRE (i : Nat) : Nat := 0x0801 + 64 * i
abbrev Port.TIM_CMD (i : Nat) : Nat := 0x0802 + 64 * i
abbrev Port.TIM_STAT (i : Nat) : Nat := 0x0803 + 64 * i
abbrev Port.TIM_COUNT (i : Nat) : Nat := 0x0804 + 64 * i
abbrev Port.TIM_PERIOD (i : Nat) : Nat := 0x0805 + 64 * i
abbrev Port.TIM_CC_0 (i : Nat) : Nat := 0x0806 + 64 * i
abbrev Port.TIM_CC_1 (i : Nat) : Nat := 0x0807 + 64 * i
abbrev Port.TIM_CC_2 (i : Nat) : Nat := 0x0808 + 64 * i
abbrev Port.TIM_CC_3 (i : Nat) : Nat := 0x0809 + 64 * i
abbrev Port.TIM_IEN (i : Nat) : Nat := 0x080A + 64 * i
abbrev Port.WDG_CFG (i : Nat) : Nat := 0x0B00 + 16 * i
abbrev Port.WDG_TIME (i : Nat) : Nat := 0x0B01 + 16 * i
abbrev Port.WDG_KICK (i : Nat) : Nat := 0x0B02 + 16 * i
abbrev Port.WDG_STAT (i : Nat) : Nat := 0x0B03 + 16 * i
abbrev Port.WDG_EXPCNT (i : Nat) : Nat := 0x0B04 + 16 * i
abbrev Port.RTC_SEC : Nat := 0x0C00
abbrev Port.RTC_MIN : Nat := 0x0C01
abbrev Port.RTC_HOUR : Nat := 0x0C02
abbrev Port.RTC_DAY : Nat := 0x0C03
abbrev Port.RTC_MONTH : Nat := 0x0C04
abbrev Port.RTC_YEAR : Nat := 0x0C05
abbrev Port.RTC_SUB : Nat := 0x0C06
abbrev Port.RTC_STG_SEC : Nat := 0x0C10
abbrev Port.RTC_STG_MIN : Nat := 0x0C11
abbrev Port.RTC_STG_HOUR : Nat := 0x0C12
abbrev Port.RTC_STG_DAY : Nat := 0x0C13
abbrev Port.RTC_STG_MONTH : Nat := 0x0C14
abbrev Port.RTC_STG_YEAR : Nat := 0x0C15
abbrev Port.RTC_CMD : Nat := 0x0C16
abbrev Port.RTC_STAT : Nat := 0x0C17
abbrev Port.RTC_TRIM : Nat := 0x0C18
abbrev Port.RTC_ALM_SEC : Nat := 0x0C20
abbrev Port.RTC_ALM_MIN : Nat := 0x0C21
abbrev Port.RTC_ALM_HOUR : Nat := 0x0C22
abbrev Port.RTC_ALM_DAY : Nat := 0x0C23
abbrev Port.RTC_ALM_MONTH : Nat := 0x0C24
abbrev Port.RTC_ALM_YEAR : Nat := 0x0C25
abbrev Port.RTC_SW_SEC : Nat := 0x0C28
abbrev Port.RTC_SW_MIN : Nat := 0x0C29
abbrev Port.RTC_SW_HOUR : Nat := 0x0C2A
abbrev Port.RTC_SW_DAY : Nat := 0x0C2B
abbrev Port.RTC_SW_MONTH : Nat := 0x0C2C
abbrev Port.RTC_SW_YEAR : Nat := 0x0C2D
abbrev Port.HPT_STAT : Nat := 0x0D00
abbrev Port.HPT_CFG : Nat := 0x0D01
abbrev Port.HPT_WFREE : Nat := 0x0D02
abbrev Port.HPT_BELL_IN : Nat := 0x0D03
abbrev Port.HPT_HIRQ_SET : Nat := 0x0D04
abbrev Port.HPT_HIRQ_PEND : Nat := 0x0D05
abbrev Port.HPT_HIRQ_EN : Nat := 0x0D06
abbrev Port.HPT_QRES : Nat := 0x0D07
abbrev Port.HPT_ERRCNT : Nat := 0x0D08
abbrev Port.HPT_CUTCNT : Nat := 0x0D09
abbrev Port.HPT_FRAMECNT : Nat := 0x0D0A
abbrev Port.HPT_WAKECNT : Nat := 0x0D0B
abbrev Port.PSM_CTRL (i : Nat) : Nat := 0x0E00 + 256 * i
abbrev Port.PSM_OPT (i : Nat) : Nat := 0x0E01 + 256 * i
abbrev Port.PSM_STAT (i : Nat) : Nat := 0x0E02 + 256 * i
abbrev Port.PSM_CMD (i : Nat) : Nat := 0x0E03 + 256 * i
abbrev Port.PSM_TXD_0 (i : Nat) : Nat := 0x0E04 + 256 * i
abbrev Port.PSM_TXD_1 (i : Nat) : Nat := 0x0E05 + 256 * i
abbrev Port.PSM_RXD_0 (i : Nat) : Nat := 0x0E06 + 256 * i
abbrev Port.PSM_RXD_1 (i : Nat) : Nat := 0x0E07 + 256 * i
abbrev Port.PSM_FCMD (i : Nat) : Nat := 0x0E08 + 256 * i
abbrev Port.PSM_FPH (i : Nat) : Nat := 0x0E09 + 256 * i
abbrev Port.PSM_FADDR_0 (i : Nat) : Nat := 0x0E0A + 256 * i
abbrev Port.PSM_FADDR_1 (i : Nat) : Nat := 0x0E0B + 256 * i
abbrev Port.PSM_FLEN (i : Nat) : Nat := 0x0E0C + 256 * i
abbrev Port.PSM_FDUM (i : Nat) : Nat := 0x0E0D + 256 * i
abbrev Port.PSM_IEN (i : Nat) : Nat := 0x0E0E + 256 * i
abbrev Port.PSM_ERRCNT (i : Nat) : Nat := 0x0E0F + 256 * i
abbrev Port.FLC_STAT : Nat := 0x1000
abbrev Port.FLC_ERR : Nat := 0x1001
abbrev Port.FLC_FAIL_0 : Nat := 0x1002
abbrev Port.FLC_FAIL_1 : Nat := 0x1003
abbrev Port.FLC_CFG : Nat := 0x1004
abbrev Port.FLC_SUSPECT (i : Nat) : Nat := 0x1008 + i
abbrev Port.FLC_ROLE : Nat := 0x1010
abbrev Port.FLC_ERASECNT : Nat := 0x1011
abbrev Port.FLC_PROGCNT : Nat := 0x1012
abbrev Port.FLC_SUSPCNT : Nat := 0x1013
abbrev Port.MEM_PART (i : Nat) : Nat := 0x1400 + i
abbrev Port.MEM_STAT : Nat := 0x1402
abbrev Port.MEM_SCRUB : Nat := 0x1403
abbrev Port.MEM_SCRUB_POS : Nat := 0x1404
abbrev Port.MEM_PASSCNT : Nat := 0x1405
abbrev Port.MEM_CECNT : Nat := 0x1406
abbrev Port.MEM_UECNT : Nat := 0x1407
abbrev Port.MEM_UE_ADDR : Nat := 0x1408
abbrev Port.MEM_UE_WORD : Nat := 0x1409
abbrev Port.MEM_INJ : Nat := 0x140A
abbrev Port.MEM_CSW_GRANT : Nat := 0x140B
abbrev Port.MEM_AP_CFG (i : Nat) : Nat := 0x1410 + 2 * i
abbrev Port.MEM_AP_BASE (i : Nat) : Nat := 0x1411 + 2 * i
abbrev Port.MEM_CSW_BASE (i : Nat) : Nat := 0x1420 + i
abbrev Port.DMC_STAT : Nat := 0x1800
abbrev Port.DMC_CFG : Nat := 0x1801
abbrev Port.DMC_CMD : Nat := 0x1802
abbrev Port.DMC_FLAGS : Nat := 0x1803
abbrev Port.DMC_SR : Nat := 0x1804
abbrev Port.DMC_CAL : Nat := 0x1805
abbrev Port.DMC_AGE : Nat := 0x1806
abbrev Port.DMC_SCRUB : Nat := 0x1807
abbrev Port.DMC_PORT_0 : Nat := 0x1808
abbrev Port.DMC_PORT_1 : Nat := 0x1809
abbrev Port.DMC_PORT_2 : Nat := 0x180A
abbrev Port.DMC_PORT_3 : Nat := 0x180B
abbrev Port.DMC_PORT_4 : Nat := 0x180C
abbrev Port.DMC_PORT_5 : Nat := 0x180D
abbrev Port.DMC_TRN_CMD : Nat := 0x1810
abbrev Port.DMC_TRN_ARG : Nat := 0x1811
abbrev Port.DMC_TRN_RES : Nat := 0x1812
abbrev Port.DMC_PAT : Nat := 0x1813
abbrev Port.DMC_DLY (i : Nat) : Nat := 0x1818 + i
abbrev Port.DMC_DLY_7 : Nat := 0x181F
abbrev Port.DMC_FRZ_CAUSE : Nat := 0x1820
abbrev Port.DMC_FRZ_ADDR_0 : Nat := 0x1821
abbrev Port.DMC_FRZ_ADDR_1 : Nat := 0x1822
abbrev Port.DMC_FRZ_TAG : Nat := 0x1823
abbrev Port.DMC_FRZ_LOG (i : Nat) : Nat := 0x1830 + i
abbrev Port.DMC_CECNT : Nat := 0x1850
abbrev Port.DMC_FRZCNT : Nat := 0x1851
abbrev Port.DMC_SRCNT : Nat := 0x1852
abbrev Port.DMC_RETRNCNT : Nat := 0x1853
abbrev Port.BSN_STAT : Nat := 0x2000
abbrev Port.BSN_SFREE : Nat := 0x2001
abbrev Port.BSN_DFREE_0 : Nat := 0x2002
abbrev Port.BSN_DFREE_1 : Nat := 0x2003
abbrev Port.BSN_AUDIT_CMD : Nat := 0x2004
abbrev Port.BSN_ECCCNT : Nat := 0x2005
abbrev Port.BSN_TAGCNT : Nat := 0x2006
abbrev Port.BSN_LINKCNT : Nat := 0x2007
abbrev Port.BSN_AUDITCNT : Nat := 0x2008
abbrev Port.BSN_QCMD : Nat := 0x2010
abbrev Port.BSN_QARG : Nat := 0x2011
abbrev Port.BSN_QRES : Nat := 0x2012
abbrev Port.BSN_WCOUNT : Nat := 0x2013
abbrev Port.BSN_RPOS : Nat := 0x2014
abbrev Port.BSN_WDATA : Nat := 0x2015
abbrev Port.BSN_RDATA : Nat := 0x2016
abbrev Port.BSN_HDR (i : Nat) : Nat := 0x2018 + i
abbrev Port.BSN_NE (i : Nat) : Nat := 0x2020 + i
abbrev Port.BSN_EVS (i : Nat) : Nat := 0x2028 + i
abbrev Port.BSN_IE (i : Nat) : Nat := 0x2030 + i
abbrev Port.BSN_Q_CFG (i : Nat) : Nat := 0x2100 + 8 * i
abbrev Port.BSN_Q_MARK (i : Nat) : Nat := 0x2101 + 8 * i
abbrev Port.BSN_Q_IDLE (i : Nat) : Nat := 0x2102 + 8 * i
abbrev Port.BSN_Q_SCELLS (i : Nat) : Nat := 0x2103 + 8 * i
abbrev Port.BSN_Q_DCELLS (i : Nat) : Nat := 0x2104 + 8 * i
abbrev Port.BSN_Q_PKTS (i : Nat) : Nat := 0x2105 + 8 * i
abbrev Port.BSN_Q_STAT (i : Nat) : Nat := 0x2106 + 8 * i
abbrev Port.BSN_Q_NOCELL (i : Nat) : Nat := 0x2107 + 8 * i
abbrev Port.TRM_STAT : Nat := 0x2800
abbrev Port.TRM_POL (i : Nat) : Nat := 0x2801 + i
abbrev Port.TRM_RESIDENT : Nat := 0x2805
abbrev Port.TRM_BELAYED : Nat := 0x2806
abbrev Port.TRM_SPILL : Nat := 0x2807
abbrev Port.TRM_CTX_CMD : Nat := 0x2808
abbrev Port.TRM_CTX_ARG : Nat := 0x2809
abbrev Port.TRM_CTX_STAT : Nat := 0x280A
abbrev Port.TRM_PLACE_ARG_0 : Nat := 0x2810
abbrev Port.TRM_PLACE_ARG_1 : Nat := 0x2811
abbrev Port.TRM_PLACE_CMD : Nat := 0x2812
abbrev Port.TRM_PLACE_STAT : Nat := 0x2813
abbrev Port.TRM_LOAD : Nat := 0x2814
abbrev Port.TRM_DEV (i : Nat) : Nat := 0x2818 + i
abbrev Port.TRM_MIGCNT : Nat := 0x2820
abbrev Port.TRM_HOLECNT : Nat := 0x2821
abbrev Port.TRM_LATECNT : Nat := 0x2822
abbrev Port.TRM_NOUNITCNT : Nat := 0x2823
abbrev Port.TRM_FETCHCNT : Nat := 0x2824
abbrev Port.TRM_EVICTCNT : Nat := 0x2825
abbrev Port.TRM_FAULTMIG : Nat := 0x2826
abbrev Port.TRM_SPILLFULL : Nat := 0x2827
abbrev Port.SEQ_STAT (i : Nat) : Nat := 0x3000 + 64 * i
abbrev Port.SEQ_CTX (i : Nat) : Nat := 0x3001 + 64 * i
abbrev Port.SEQ_CMD (i : Nat) : Nat := 0x3002 + 64 * i
abbrev Port.SEQ_EVTCNT (i : Nat) : Nat := 0x3003 + 64 * i
abbrev Port.SEQ_MISSCNT (i : Nat) : Nat := 0x3004 + 64 * i
abbrev Port.SEQ_CAL_CMD : Nat := 0x3400
abbrev Port.SEQ_CAL_ARG_0 : Nat := 0x3401
abbrev Port.SEQ_CAL_ARG_1 : Nat := 0x3402
abbrev Port.SEQ_CAL_ARG_2 : Nat := 0x3403
abbrev Port.SEQ_CAL_STAT : Nat := 0x3404
abbrev Port.SEQ_UPD_STAT : Nat := 0x3405
abbrev Port.SEQ_SRCH_STAT : Nat := 0x3406
abbrev Port.SEQ_SRCH_FULL : Nat := 0x3407
abbrev Port.SEQ_SRCH_AMBIG : Nat := 0x3408
abbrev Port.SEQ_SUPVCNT : Nat := 0x3409
abbrev Port.SEQ_NORESCNT : Nat := 0x340A
abbrev Port.SEQ_SRCH (i : Nat) : Nat := 0x3410 + i
abbrev Port.LTB_TIME (i : Nat) : Nat := 0x3800 + i
abbrev Port.LTB_CFG : Nat := 0x3803
abbrev Port.LTB_WIDEN : Nat := 0x3804
abbrev Port.LTB_SEQCFG : Nat := 0x3805
abbrev Port.LTB_RTCLT (i : Nat) : Nat := 0x3806 + i
abbrev Port.LTB_STAT : Nat := 0x3809
abbrev Port.LTB_ACC_CFG : Nat := 0x3810
abbrev Port.LTB_ACC_CMD : Nat := 0x3811
abbrev Port.LTB_ACC_NOBAND : Nat := 0x3812
abbrev Port.LTB_ACC_LOW (i : Nat) : Nat := 0x3820 + 16 * i
abbrev Port.LTB_ACC_HIGH (i : Nat) : Nat := 0x3821 + 16 * i
abbrev Port.LTB_ACC_WIN (i : Nat) : Nat := 0x3822 + 16 * i
abbrev Port.LTB_ACC_ALLOW (i : Nat) : Nat := 0x3823 + 16 * i
abbrev Port.LTB_ACC_DWELL (i : Nat) : Nat := 0x3824 + 16 * i
abbrev Port.LTB_ACC_PWR (i : Nat) : Nat := 0x3825 + 16 * i
abbrev Port.LTB_ACC_USED (i : Nat) : Nat := 0x3826 + 16 * i
abbrev Port.LTB_ACC_STAT (i : Nat) : Nat := 0x3827 + 16 * i
abbrev Port.LTB_ACC_DEFERCNT (i : Nat) : Nat := 0x3828 + 16 * i
abbrev Port.LTB_ACC_NOGRANTCNT (i : Nat) : Nat := 0x3829 + 16 * i
abbrev Port.LTB_ACC_DWELLCNT (i : Nat) : Nat := 0x382A + 16 * i
abbrev Port.LTB_SNF_CTRL : Nat := 0x3900
abbrev Port.LTB_SNF_STAT : Nat := 0x3901
abbrev Port.LTB_SNF_LATE : Nat := 0x3902
abbrev Port.LTB_SNF_SKIP : Nat := 0x3903
abbrev Port.LTB_SNF_LOST : Nat := 0x3904
abbrev Port.LTB_SNF_0 (i : Nat) : Nat := 0x3910 + 16 * i
abbrev Port.LTB_SNF_1 (i : Nat) : Nat := 0x3911 + 16 * i
abbrev Port.LTB_SNF_2 (i : Nat) : Nat := 0x3912 + 16 * i
abbrev Port.LTB_SNF_3 (i : Nat) : Nat := 0x3913 + 16 * i
abbrev Port.LTB_SNF_4 (i : Nat) : Nat := 0x3914 + 16 * i
abbrev Port.LTB_SNF_5 (i : Nat) : Nat := 0x3915 + 16 * i
abbrev Port.LTB_SNF_6 (i : Nat) : Nat := 0x3916 + 16 * i
abbrev Port.LTB_SNF_7 (i : Nat) : Nat := 0x3917 + 16 * i
abbrev Port.LTB_SNF_8 (i : Nat) : Nat := 0x3918 + 16 * i
abbrev Port.LTB_SNF_9 (i : Nat) : Nat := 0x3919 + 16 * i
abbrev Port.LTB_SNF_A (i : Nat) : Nat := 0x391A + 16 * i
abbrev Port.LTB_SNF_B (i : Nat) : Nat := 0x391B + 16 * i
abbrev Port.LTB_SNF_C (i : Nat) : Nat := 0x391C + 16 * i
abbrev Port.LTB_SNF_BUF (i : Nat) : Nat := 0x3A00 + i
abbrev Port.LTB_SNF_CAP_0 : Nat := 0x3A80
abbrev Port.LTB_SNF_CAP_TS (i : Nat) : Nat := 0x3A81 + i
abbrev Port.LTB_SNF_CAP_RSSI : Nat := 0x3A84
abbrev Port.LTB_SNF_CAP_DATA (i : Nat) : Nat := 0x3A88 + i
abbrev Port.RXC_STAT (i : Nat) : Nat := 0x4000 + 256 * i
abbrev Port.RXC_AGC (i : Nat) : Nat := 0x4001 + 256 * i
abbrev Port.RXC_CAL (i : Nat) : Nat := 0x4002 + 256 * i
abbrev Port.RXC_CALCMD (i : Nat) : Nat := 0x4003 + 256 * i
abbrev Port.RXC_CALSTAT (i : Nat) : Nat := 0x4004 + 256 * i
abbrev Port.RXC_PEAK (i : Nat) : Nat := 0x4005 + 256 * i
abbrev Port.RXC_CLIPCNT (i : Nat) : Nat := 0x4006 + 256 * i
abbrev Port.RXC_STEPCNT (i : Nat) : Nat := 0x4007 + 256 * i
abbrev Port.RXC_FORCECNT (i : Nat) : Nat := 0x4008 + 256 * i
abbrev Port.RXC_PLAN (i : Nat) : Nat := 0x4400 + i
abbrev Port.RXC_PHCAL : Nat := 0x4402
abbrev Port.RXC_GUARD : Nat := 0x4403
abbrev Port.RXC_CALGAP : Nat := 0x4404
abbrev Port.RXC_WATCH_CTRL : Nat := 0x4500
abbrev Port.RXC_WATCH_SG : Nat := 0x4501
abbrev Port.RXC_WATCH_W : Nat := 0x4502
abbrev Port.RXC_WATCH_HITS : Nat := 0x4503
abbrev Port.RXC_WATCH_MISS : Nat := 0x4504
abbrev Port.RXC_WATCH_NOMATCH : Nat := 0x4505
abbrev Port.RXC_WATCH_DUP : Nat := 0x4506
abbrev Port.RXC_WM_0 (i : Nat) : Nat := 0x4510 + 4 * i
abbrev Port.RXC_WM_1 (i : Nat) : Nat := 0x4511 + 4 * i
abbrev Port.RXC_WM_2 (i : Nat) : Nat := 0x4512 + 4 * i
abbrev Port.RXC_WM_3 (i : Nat) : Nat := 0x4513 + 4 * i
abbrev Port.LAN_CFG (i : Nat) : Nat := 0x4800 + 32 * i
abbrev Port.LAN_LIM (i : Nat) : Nat := 0x4801 + 32 * i
abbrev Port.LAN_SYNC_0 (i : Nat) : Nat := 0x4802 + 32 * i
abbrev Port.LAN_SYNC_1 (i : Nat) : Nat := 0x4803 + 32 * i
abbrev Port.LAN_CRCI_0 (i : Nat) : Nat := 0x4804 + 32 * i
abbrev Port.LAN_CRCI_1 (i : Nat) : Nat := 0x4805 + 32 * i
abbrev Port.LAN_QUEUE (i : Nat) : Nat := 0x4806 + 32 * i
abbrev Port.LAN_CTX (i : Nat) : Nat := 0x4807 + 32 * i
abbrev Port.LAN_CMD (i : Nat) : Nat := 0x4808 + 32 * i
abbrev Port.LAN_STAT (i : Nat) : Nat := 0x4809 + 32 * i
abbrev Port.LAN_RSSI (i : Nat) : Nat := 0x480A + 32 * i
abbrev Port.LAN_PHASE (i : Nat) : Nat := 0x480B + 32 * i
abbrev Port.LAN_PSTAT (i : Nat) : Nat := 0x480C + 32 * i
abbrev Port.LAN_TS_0 (i : Nat) : Nat := 0x480D + 32 * i
abbrev Port.LAN_TS_1 (i : Nat) : Nat := 0x480E + 32 * i
abbrev Port.LAN_TS_2 (i : Nat) : Nat := 0x480F + 32 * i
abbrev Port.LAN_OKCNT (i : Nat) : Nat := 0x4810 + 32 * i
abbrev Port.LAN_BADCNT (i : Nat) : Nat := 0x4811 + 32 * i
abbrev Port.LAN_TRUNCCNT (i : Nat) : Nat := 0x4812 + 32 * i
abbrev Port.LAN_NOCELLCNT (i : Nat) : Nat := 0x4813 + 32 * i
abbrev Port.LAN_LENOVER (i : Nat) : Nat := 0x4814 + 32 * i
abbrev Port.TXC_STAT (i : Nat) : Nat := 0x5000 + 256 * i
abbrev Port.TXC_S_CTRL : Nat := 0x5001
abbrev Port.TXC_W_CTRL : Nat := 0x5101
abbrev Port.TXC_CAL (i : Nat) : Nat := 0x5002 + 256 * i
abbrev Port.TXC_CALCMD (i : Nat) : Nat := 0x5003 + 256 * i
abbrev Port.TXC_CALSTAT (i : Nat) : Nat := 0x5004 + 256 * i
abbrev Port.TXC_TABRANGE (i : Nat) : Nat := 0x5005 + 256 * i
abbrev Port.TXC_LAW_0 (i : Nat) : Nat := 0x5006 + 256 * i
abbrev Port.TXC_LAW_1 (i : Nat) : Nat := 0x5007 + 256 * i
abbrev Port.TXC_LAW_2 (i : Nat) : Nat := 0x5008 + 256 * i
abbrev Port.TXC_FREQ (i : Nat) : Nat := 0x5009 + 256 * i
abbrev Port.TXC_TEST (i : Nat) : Nat := 0x500A + 256 * i
abbrev Port.TXC_TESTCMD (i : Nat) : Nat := 0x500B + 256 * i
abbrev Port.TXC_LATECNT (i : Nat) : Nat := 0x500C + 256 * i
abbrev Port.TXC_YIELDCNT (i : Nat) : Nat := 0x500D + 256 * i
abbrev Port.TXC_LAWCNT (i : Nat) : Nat := 0x500E + 256 * i
abbrev Port.TXC_ABORTCNT (i : Nat) : Nat := 0x500F + 256 * i
abbrev Port.TXC_S_PT (i : Nat) : Nat := 0x5040 + i
abbrev Port.TXC_W_PT (i : Nat) : Nat := 0x5140 + i
abbrev Port.TXC_FEC (i : Nat) : Nat := 0x5200 + i
abbrev Port.TXC_FEC_MAN : Nat := 0x5208
abbrev Port.TXC_FEC_TIME : Nat := 0x5209
abbrev Port.TXC_FEC_LEVEL : Nat := 0x520A
abbrev Port.TXC_SIMUL : Nat := 0x520B
abbrev Port.CAL_TEMP : Nat := 0x5400
abbrev Port.CAL_TCFG : Nat := 0x5401
abbrev Port.CAL_VPA (i : Nat) : Nat := 0x5402 + i
abbrev Port.CAL_FMC_CMD : Nat := 0x5404
abbrev Port.CAL_FMC_CFG : Nat := 0x5405
abbrev Port.CAL_FMC_STAT : Nat := 0x5406
abbrev Port.CAL_FMC_RES : Nat := 0x5407
abbrev Port.UTV_STAT : Nat := 0x5800
abbrev Port.UTV_REACH : Nat := 0x5801
abbrev Port.UTV_PRESENT : Nat := 0x5802
abbrev Port.UTV_OFFSET : Nat := 0x5803
abbrev Port.UTV_TCFG : Nat := 0x5804
abbrev Port.UTV_MAST_CMD : Nat := 0x5805
abbrev Port.UTV_SEL : Nat := 0x5806
abbrev Port.UTV_DEFQ : Nat := 0x5807
abbrev Port.UTV_WAKE_CMD : Nat := 0x5808
abbrev Port.UTV_DEST (i : Nat) : Nat := 0x5810 + i
abbrev Port.UTV_P_STAT (i : Nat) : Nat := 0x5820 + 16 * i
abbrev Port.UTV_P_CTRL (i : Nat) : Nat := 0x5821 + 16 * i
abbrev Port.UTV_P_CMD (i : Nat) : Nat := 0x5822 + 16 * i
abbrev Port.UTV_P_DELAY (i : Nat) : Nat := 0x5823 + 16 * i
abbrev Port.UTV_P_CODEERR (i : Nat) : Nat := 0x5824 + 16 * i
abbrev Port.UTV_P_NAKCNT (i : Nat) : Nat := 0x5825 + 16 * i
abbrev Port.UTV_P_RETRYCNT (i : Nat) : Nat := 0x5826 + 16 * i
abbrev Port.UTV_P_DOWNCNT (i : Nat) : Nat := 0x5827 + 16 * i
abbrev Port.UTV_GAPCNT (i : Nat) : Nat := 0x5840 + i
abbrev Port.UTV_STALECNT (i : Nat) : Nat := 0x5848 + i
abbrev Port.UTV_SELSUB : Nat := 0x5850
abbrev Port.UTV_SELDUP : Nat := 0x5851
abbrev Port.UTV_SHLOST : Nat := 0x5852
abbrev Port.UTV_SHLATE : Nat := 0x5853
abbrev Port.UTV_SHNOENT : Nat := 0x5854
abbrev Port.UTV_SH_CFG : Nat := 0x5860
abbrev Port.UTV_SH_COUNT : Nat := 0x5861
abbrev Port.UTV_SH_HOLD : Nat := 0x5862
abbrev Port.UTV_SH_BASE : Nat := 0x5863
abbrev Port.UTV_SH_CMD : Nat := 0x5864
abbrev Port.UTV_SH_STAT : Nat := 0x5865
abbrev Port.UTV_WIDE_CFG : Nat := 0x5866
abbrev Port.UTV_WIDE_COUNT : Nat := 0x5867
abbrev Port.UTV_HELP_CFG : Nat := 0x5868
abbrev Port.UTV_HELP_BASE : Nat := 0x5869
abbrev Port.CPH_JOB_CMD : Nat := 0x6010
abbrev Port.CPH_JOB_ARG : Nat := 0x6011
abbrev Port.CPH_JOB_STAT : Nat := 0x6012
abbrev Port.CPH_KEY_CMD : Nat := 0x6020
abbrev Port.CPH_KEY_ARG_0 : Nat := 0x6021
abbrev Port.CPH_KEY_ARG_1 : Nat := 0x6022
abbrev Port.CPH_KEY_ARG_2 : Nat := 0x6023
abbrev Port.CPH_KEY_STAT : Nat := 0x6024
abbrev Port.CPH_VFY_CMD : Nat := 0x6030
abbrev Port.CPH_VFY_ARG_0 : Nat := 0x6031
abbrev Port.CPH_VFY_ARG_1 : Nat := 0x6032
abbrev Port.CPH_VFY_ARG_2 : Nat := 0x6033
abbrev Port.CPH_VFY_ARG_3 : Nat := 0x6034
abbrev Port.CPH_VFY_ARG_4 : Nat := 0x6035
abbrev Port.CPH_VFY_STAT : Nat := 0x6036
abbrev Port.CPH_DIG (i : Nat) : Nat := 0x6040 + i
abbrev Port.CPH_AUTHCNT : Nat := 0x6050
abbrev Port.CPH_SLOT_STAT (i : Nat) : Nat := 0x6100 + 8 * i
abbrev Port.CPH_SLOT_COUNT_0 (i : Nat) : Nat := 0x6101 + 8 * i
abbrev Port.CPH_SLOT_COUNT_1 (i : Nat) : Nat := 0x6102 + 8 * i
abbrev Port.CPH_SLOT_LIMIT_0 (i : Nat) : Nat := 0x6103 + 8 * i
abbrev Port.CPH_SLOT_LIMIT_1 (i : Nat) : Nat := 0x6104 + 8 * i
abbrev Port.LCF_STAT : Nat := 0x6400
abbrev Port.LCF_LC_CMD : Nat := 0x6401
abbrev Port.LCF_LC_ARG : Nat := 0x6402
abbrev Port.LCF_BOOT : Nat := 0x6403
abbrev Port.LCF_UPD_CMD : Nat := 0x6404
abbrev Port.LCF_UPD_STAT : Nat := 0x6405
abbrev Port.LCF_TRIAL : Nat := 0x6406
abbrev Port.LCF_CHECKIN : Nat := 0x6407
abbrev Port.LCF_OKH (i : Nat) : Nat := 0x6410 + i
abbrev Port.LCF_DEAD_0 (i : Nat) : Nat := 0x6420 + i
abbrev Port.LCF_DEAD_1 (i : Nat) : Nat := 0x6430 + i
abbrev Port.LCF_VER (i : Nat) : Nat := 0x6440 + i
abbrev Port.GPIO_CFG (i : Nat) : Nat := 0x6800 + i
abbrev Port.GPIO_IN (i : Nat) : Nat := 0x6830 + i
abbrev Port.GPIO_OUT (i : Nat) : Nat := 0x6834 + i
abbrev Port.GPIO_SET (i : Nat) : Nat := 0x6838 + i
abbrev Port.GPIO_CLR (i : Nat) : Nat := 0x683C + i
abbrev Port.GPIO_TOG (i : Nat) : Nat := 0x6840 + i
abbrev Port.GPIO_STAT : Nat := 0x6843
abbrev Port.MNT_GRANT : Nat := 0x7000
abbrev Port.MNT_WAIT : Nat := 0x7001
abbrev Port.MNT_AGED : Nat := 0x7002
abbrev Port.MNT_CFG : Nat := 0x7003
abbrev Port.MNT_INHIBIT : Nat := 0x7004
abbrev Port.MNT_BUSYCNT : Nat := 0x7005
abbrev Port.MNT_AGEDCNT : Nat := 0x7006
abbrev Port.DBG_CTL (i : Nat) : Nat := 0x7F00 + 16 * i
abbrev Port.DBG_STAT (i : Nat) : Nat := 0x7F01 + 16 * i
abbrev Port.DBG_CFG (i : Nat) : Nat := 0x7F02 + 16 * i
abbrev Port.DBG_PC (i : Nat) : Nat := 0x7F03 + 16 * i
abbrev Port.DBG_RSEL (i : Nat) : Nat := 0x7F04 + 16 * i
abbrev Port.DBG_RDATA (i : Nat) : Nat := 0x7F05 + 16 * i
abbrev Port.DBG_BP_0 (i : Nat) : Nat := 0x7F06 + 16 * i
abbrev Port.DBG_BP_1 (i : Nat) : Nat := 0x7F07 + 16 * i

/-- A register group: `count` ports from `base`, `stride` apart; the Cold value; the bits that a write sets (`rw`),
that a write of 1 clears (`w1c`), that a read clears (`rc`), that read as zero (`hidden`: wo and cmd fields), and
whether the Rig loads it. -/
structure RegRow where
  base : Nat
  stride : Nat
  count : Nat
  rw : Word
  w1c : Word
  rc : Word
  hidden : Word
  rig : Bool
  deriving DecidableEq, Repr

/-- Registers of ports 0x0000-0x0FFF, part 0. -/
def regRows0_0 : List RegRow := [
  ⟨0x0000, 1, 2, 0o000000, 0o000000, 0o000000, 0o000000, false⟩,
  ⟨0x0002, 1, 1, 0o000000, 0o000000, 0o000000, 0o000000, false⟩,
  ⟨0x0003, 1, 1, 0o000000, 0o000000, 0o000000, 0o000000, false⟩,
  ⟨0x0004, 1, 1, 0o000000, 0o000000, 0o000000, 0o000000, false⟩,
  ⟨0x0005, 1, 1, 0o000000, 0o000000, 0o000000, 0o000000, false⟩,
  ⟨0x0100, 1, 1, 0o000000, 0o000600, 0o000000, 0o000000, false⟩,
  ⟨0x0101, 1, 1, 0o000000, 0o000000, 0o000000, 0o777777, false⟩,
  ⟨0x0102, 1, 1, 0o000037, 0o000000, 0o000000, 0o000000, true⟩,
  ⟨0x0103, 1, 1, 0o000000, 0o000077, 0o000000, 0o000000, false⟩,
  ⟨0x0104, 1, 1, 0o000000, 0o000000, 0o000000, 0o000000, true⟩,
  ⟨0x0105, 1, 1, 0o177740, 0o000000, 0o000000, 0o000000, false⟩,
  ⟨0x0106, 1, 4, 0o000000, 0o000000, 0o000000, 0o000000, true⟩,
  ⟨0x0110, 1, 10, 0o000000, 0o000000, 0o000000, 0o000000, false⟩,
  ⟨0x011A, 1, 1, 0o000000, 0o000000, 0o000000, 0o777777, false⟩,
  ⟨0x011B, 1, 1, 0o000000, 0o000000, 0o777777, 0o000000, false⟩,
  ⟨0x0200, 1, 1, 0o000000, 0o010000, 0o000000, 0o000000, true⟩,
  ⟨0x0201, 1, 1, 0o000000, 0o000000, 0o777777, 0o000000, false⟩,
  ⟨0x0210, 1, 1, 0o000000, 0o777740, 0o000000, 0o000000, false⟩,
  ⟨0x0211, 1, 1, 0o000000, 0o000000, 0o000000, 0o000000, false⟩,
  ⟨0x0212, 1, 1, 0o000000, 0o000000, 0o000000, 0o777777, false⟩,
  ⟨0x0213, 1, 3, 0o000000, 0o000000, 0o777777, 0o000000, false⟩,
  ⟨0x0300, 1, 1, 0o000000, 0o000004, 0o000000, 0o000000, false⟩,
  ⟨0x0301, 1, 1, 0o000000, 0o000000, 0o000000, 0o000000, false⟩,
  ⟨0x0302, 1, 1, 0o000000, 0o000000, 0o000000, 0o000000, false⟩,
  ⟨0x0303, 1, 1, 0o000000, 0o000000, 0o000000, 0o000000, false⟩,
  ⟨0x0304, 1, 1, 0o000000, 0o000000, 0o000000, 0o000000, false⟩,
  ⟨0x0305, 1, 2, 0o000000, 0o000000, 0o000000, 0o000000, false⟩,
  ⟨0x0307, 1, 1, 0o000000, 0o000000, 0o000000, 0o000000, false⟩,
  ⟨0x0308, 1, 1, 0o037777, 0o000000, 0o000000, 0o000000, false⟩,
  ⟨0x0309, 1, 1, 0o000000, 0o000000, 0o000000, 0o777777, false⟩]

/-- Registers of ports 0x0000-0x0FFF, part 1. -/
def regRows0_1 : List RegRow := [
  ⟨0x030A, 1, 1, 0o000000, 0o000000, 0o000000, 0o000000, false⟩,
  ⟨0x0310, 1, 15, 0o000000, 0o000000, 0o000000, 0o000000, false⟩,
  ⟨0x0400, 8, 48, 0o070777, 0o000000, 0o000000, 0o000000, true⟩,
  ⟨0x0401, 8, 48, 0o000777, 0o000000, 0o000000, 0o000000, true⟩,
  ⟨0x0402, 8, 48, 0o777777, 0o000000, 0o000000, 0o000000, true⟩,
  ⟨0x0403, 8, 48, 0o000000, 0o200000, 0o000000, 0o000000, false⟩,
  ⟨0x0404, 8, 48, 0o000000, 0o000000, 0o777777, 0o000000, false⟩,
  ⟨0x0405, 8, 48, 0o000000, 0o000000, 0o777777, 0o000000, false⟩,
  ⟨0x0406, 8, 48, 0o000000, 0o000000, 0o777777, 0o000000, false⟩,
  ⟨0x0580, 1, 1, 0o000377, 0o000000, 0o000000, 0o000000, true⟩,
  ⟨0x0581, 1, 1, 0o000000, 0o000000, 0o000000, 0o000377, false⟩,
  ⟨0x0582, 1, 1, 0o000000, 0o000000, 0o777777, 0o000000, false⟩,
  ⟨0x0583, 1, 1, 0o000000, 0o000000, 0o777777, 0o000000, false⟩,
  ⟨0x0584, 1, 1, 0o000000, 0o000000, 0o000000, 0o000000, false⟩,
  ⟨0x0585, 1, 1, 0o000000, 0o400000, 0o000000, 0o000000, false⟩,
  ⟨0x0600, 1, 268, 0o477477, 0o000000, 0o000000, 0o000000, true⟩,
  ⟨0x0800, 64, 12, 0o777017, 0o000000, 0o000000, 0o000000, false⟩,
  ⟨0x0801, 64, 12, 0o777777, 0o000000, 0o000000, 0o000000, false⟩,
  ⟨0x0802, 64, 12, 0o000000, 0o000000, 0o000000, 0o777777, false⟩,
  ⟨0x0803, 64, 12, 0o000000, 0o176017, 0o000000, 0o000000, false⟩,
  ⟨0x0804, 64, 12, 0o777777, 0o000000, 0o000000, 0o000000, false⟩,
  ⟨0x0805, 64, 12, 0o777777, 0o000000, 0o000000, 0o000000, false⟩,
  ⟨0x0806, 64, 12, 0o777777, 0o000000, 0o000000, 0o000000, false⟩,
  ⟨0x0807, 64, 12, 0o777777, 0o000000, 0o000000, 0o000000, false⟩,
  ⟨0x0808, 64, 12, 0o777777, 0o000000, 0o000000, 0o000000, false⟩,
  ⟨0x0809, 64, 12, 0o777777, 0o000000, 0o000000, 0o000000, false⟩,
  ⟨0x080A, 64, 12, 0o000037, 0o000000, 0o000000, 0o000000, false⟩,
  ⟨0x0B00, 16, 2, 0o777700, 0o000000, 0o000000, 0o000000, false⟩,
  ⟨0x0B01, 16, 2, 0o177777, 0o000000, 0o000000, 0o000000, true⟩,
  ⟨0x0B02, 16, 2, 0o000000, 0o000000, 0o000000, 0o777777, false⟩]

/-- Registers of ports 0x0000-0x0FFF, part 2. -/
def regRows0_2 : List RegRow := [
  ⟨0x0B03, 16, 2, 0o000000, 0o000000, 0o000000, 0o000000, false⟩,
  ⟨0x0B04, 16, 2, 0o000000, 0o000000, 0o777777, 0o000000, false⟩,
  ⟨0x0C00, 1, 1, 0o000000, 0o000000, 0o000000, 0o000000, false⟩,
  ⟨0x0C01, 1, 1, 0o000000, 0o000000, 0o000000, 0o000000, false⟩,
  ⟨0x0C02, 1, 1, 0o000000, 0o000000, 0o000000, 0o000000, false⟩,
  ⟨0x0C03, 1, 1, 0o000000, 0o000000, 0o000000, 0o000000, false⟩,
  ⟨0x0C04, 1, 1, 0o000000, 0o000000, 0o000000, 0o000000, false⟩,
  ⟨0x0C05, 1, 1, 0o000000, 0o000000, 0o000000, 0o000000, false⟩,
  ⟨0x0C06, 1, 1, 0o000000, 0o000000, 0o000000, 0o000000, false⟩,
  ⟨0x0C10, 1, 1, 0o000077, 0o000000, 0o000000, 0o000000, false⟩,
  ⟨0x0C11, 1, 1, 0o000077, 0o000000, 0o000000, 0o000000, false⟩,
  ⟨0x0C12, 1, 1, 0o000037, 0o000000, 0o000000, 0o000000, false⟩,
  ⟨0x0C13, 1, 1, 0o000077, 0o000000, 0o000000, 0o000000, false⟩,
  ⟨0x0C14, 1, 1, 0o000017, 0o000000, 0o000000, 0o000000, false⟩,
  ⟨0x0C15, 1, 1, 0o000377, 0o000000, 0o000000, 0o000000, false⟩,
  ⟨0x0C16, 1, 1, 0o000000, 0o000000, 0o000000, 0o777777, false⟩,
  ⟨0x0C17, 1, 1, 0o000000, 0o600000, 0o000000, 0o000000, false⟩,
  ⟨0x0C18, 1, 1, 0o000777, 0o000000, 0o000000, 0o000000, false⟩,
  ⟨0x0C20, 1, 1, 0o400077, 0o000000, 0o000000, 0o000000, false⟩,
  ⟨0x0C21, 1, 1, 0o400077, 0o000000, 0o000000, 0o000000, false⟩,
  ⟨0x0C22, 1, 1, 0o400037, 0o000000, 0o000000, 0o000000, false⟩,
  ⟨0x0C23, 1, 1, 0o400077, 0o000000, 0o000000, 0o000000, false⟩,
  ⟨0x0C24, 1, 1, 0o400017, 0o000000, 0o000000, 0o000000, false⟩,
  ⟨0x0C25, 1, 1, 0o400377, 0o000000, 0o000000, 0o000000, false⟩,
  ⟨0x0C28, 1, 1, 0o000000, 0o000000, 0o000000, 0o000000, false⟩,
  ⟨0x0C29, 1, 1, 0o000000, 0o000000, 0o000000, 0o000000, false⟩,
  ⟨0x0C2A, 1, 1, 0o000000, 0o000000, 0o000000, 0o000000, false⟩,
  ⟨0x0C2B, 1, 1, 0o000000, 0o000000, 0o000000, 0o000000, false⟩,
  ⟨0x0C2C, 1, 1, 0o000000, 0o000000, 0o000000, 0o000000, false⟩,
  ⟨0x0C2D, 1, 1, 0o000000, 0o000000, 0o000000, 0o000000, false⟩]

/-- Registers of ports 0x0000-0x0FFF, part 3. -/
def regRows0_3 : List RegRow := [
  ⟨0x0D00, 1, 1, 0o000000, 0o005400, 0o000000, 0o000000, false⟩,
  ⟨0x0D01, 1, 1, 0o700000, 0o000000, 0o000000, 0o000000, false⟩,
  ⟨0x0D02, 1, 1, 0o000000, 0o000000, 0o000000, 0o000000, false⟩,
  ⟨0x0D03, 1, 1, 0o000000, 0o000000, 0o777777, 0o000000, false⟩,
  ⟨0x0D04, 1, 1, 0o000000, 0o000000, 0o000000, 0o177777, false⟩,
  ⟨0x0D05, 1, 1, 0o000000, 0o777777, 0o000000, 0o000000, false⟩,
  ⟨0x0D06, 1, 1, 0o777777, 0o000000, 0o000000, 0o000000, false⟩,
  ⟨0x0D07, 1, 1, 0o000000, 0o000000, 0o000000, 0o000000, false⟩,
  ⟨0x0D08, 1, 1, 0o000000, 0o000000, 0o777777, 0o000000, false⟩,
  ⟨0x0D09, 1, 1, 0o000000, 0o000000, 0o777777, 0o000000, false⟩,
  ⟨0x0D0A, 1, 1, 0o000000, 0o000000, 0o777777, 0o000000, false⟩,
  ⟨0x0D0B, 1, 1, 0o000000, 0o000000, 0o777777, 0o000000, false⟩,
  ⟨0x0E00, 256, 2, 0o777777, 0o000000, 0o000000, 0o000000, false⟩,
  ⟨0x0E01, 256, 2, 0o707777, 0o000000, 0o000000, 0o000000, false⟩,
  ⟨0x0E02, 256, 2, 0o000000, 0o060000, 0o000000, 0o000000, false⟩,
  ⟨0x0E03, 256, 2, 0o000000, 0o000000, 0o000000, 0o777777, false⟩,
  ⟨0x0E04, 256, 2, 0o000000, 0o000000, 0o000000, 0o777777, false⟩,
  ⟨0x0E05, 256, 2, 0o000000, 0o000000, 0o000000, 0o037777, false⟩,
  ⟨0x0E06, 256, 2, 0o000000, 0o000000, 0o000000, 0o000000, false⟩,
  ⟨0x0E07, 256, 2, 0o000000, 0o000000, 0o000000, 0o000000, false⟩,
  ⟨0x0E08, 256, 2, 0o177777, 0o000000, 0o000000, 0o000000, false⟩,
  ⟨0x0E09, 256, 2, 0o777760, 0o000000, 0o000000, 0o000000, false⟩,
  ⟨0x0E0A, 256, 2, 0o777777, 0o000000, 0o000000, 0o000000, false⟩,
  ⟨0x0E0B, 256, 2, 0o037777, 0o000000, 0o000000, 0o000000, false⟩,
  ⟨0x0E0C, 256, 2, 0o177777, 0o000000, 0o000000, 0o000000, false⟩,
  ⟨0x0E0D, 256, 2, 0o000037, 0o000000, 0o000000, 0o000000, false⟩,
  ⟨0x0E0E, 256, 2, 0o000007, 0o000000, 0o000000, 0o000000, false⟩,
  ⟨0x0E0F, 256, 2, 0o000000, 0o000000, 0o777777, 0o000000, false⟩]

/-- Registers of ports 0x1000-0x1FFF, part 0. -/
def regRows1_0 : List RegRow := [
  ⟨0x1000, 1, 1, 0o000000, 0o000000, 0o000000, 0o000000, false⟩,
  ⟨0x1001, 1, 1, 0o000000, 0o000000, 0o770000, 0o000000, false⟩,
  ⟨0x1002, 1, 1, 0o000000, 0o000000, 0o000000, 0o000000, false⟩,
  ⟨0x1003, 1, 1, 0o000000, 0o000000, 0o000000, 0o000000, false⟩,
  ⟨0x1004, 1, 1, 0o777777, 0o000000, 0o000000, 0o000000, false⟩,
  ⟨0x1008, 1, 5, 0o000000, 0o000000, 0o000000, 0o000000, false⟩,
  ⟨0x1010, 1, 1, 0o000000, 0o000000, 0o000000, 0o000000, true⟩,
  ⟨0x1011, 1, 1, 0o000000, 0o000000, 0o777777, 0o000000, false⟩,
  ⟨0x1012, 1, 1, 0o000000, 0o000000, 0o777777, 0o000000, false⟩,
  ⟨0x1013, 1, 1, 0o000000, 0o000000, 0o777777, 0o000000, false⟩,
  ⟨0x1400, 1, 2, 0o000000, 0o000000, 0o000000, 0o000000, true⟩,
  ⟨0x1402, 1, 1, 0o000000, 0o000002, 0o000000, 0o000000, false⟩,
  ⟨0x1403, 1, 1, 0o400077, 0o000000, 0o000000, 0o000000, false⟩,
  ⟨0x1404, 1, 1, 0o000000, 0o000000, 0o000000, 0o000000, false⟩,
  ⟨0x1405, 1, 1, 0o000000, 0o000000, 0o777777, 0o000000, false⟩,
  ⟨0x1406, 1, 1, 0o000000, 0o000000, 0o777777, 0o000000, false⟩,
  ⟨0x1407, 1, 1, 0o000000, 0o000000, 0o777777, 0o000000, false⟩,
  ⟨0x1408, 1, 1, 0o000000, 0o000000, 0o000000, 0o000000, false⟩,
  ⟨0x1409, 1, 1, 0o000000, 0o000000, 0o000000, 0o000000, false⟩,
  ⟨0x140A, 1, 1, 0o407703, 0o000000, 0o000000, 0o000000, false⟩,
  ⟨0x140B, 1, 1, 0o000001, 0o000000, 0o000000, 0o000000, false⟩,
  ⟨0x1410, 2, 8, 0o770000, 0o000000, 0o000000, 0o000000, false⟩,
  ⟨0x1411, 2, 8, 0o177777, 0o000000, 0o000000, 0o000000, false⟩,
  ⟨0x1420, 1, 2, 0o000017, 0o000000, 0o000000, 0o000000, false⟩,
  ⟨0x1800, 1, 1, 0o000000, 0o000000, 0o000000, 0o000000, false⟩,
  ⟨0x1801, 1, 1, 0o000777, 0o000000, 0o000000, 0o000000, true⟩,
  ⟨0x1802, 1, 1, 0o000000, 0o000000, 0o000000, 0o777777, false⟩,
  ⟨0x1803, 1, 1, 0o000000, 0o000077, 0o000000, 0o000000, false⟩,
  ⟨0x1804, 1, 1, 0o407777, 0o000000, 0o000000, 0o000000, false⟩,
  ⟨0x1805, 1, 1, 0o777777, 0o000000, 0o000000, 0o000000, false⟩]

/-- Registers of ports 0x1000-0x1FFF, part 1. -/
def regRows1_1 : List RegRow := [
  ⟨0x1806, 1, 1, 0o000777, 0o000000, 0o000000, 0o000000, false⟩,
  ⟨0x1807, 1, 1, 0o407777, 0o000000, 0o000000, 0o000000, false⟩,
  ⟨0x1808, 1, 1, 0o000777, 0o000000, 0o000000, 0o000000, false⟩,
  ⟨0x1809, 1, 1, 0o000777, 0o000000, 0o000000, 0o000000, false⟩,
  ⟨0x180A, 1, 1, 0o000777, 0o000000, 0o000000, 0o000000, false⟩,
  ⟨0x180B, 1, 1, 0o000777, 0o000000, 0o000000, 0o000000, false⟩,
  ⟨0x180C, 1, 1, 0o000777, 0o000000, 0o000000, 0o000000, false⟩,
  ⟨0x180D, 1, 1, 0o000777, 0o000000, 0o000000, 0o000000, false⟩,
  ⟨0x1810, 1, 1, 0o000000, 0o000000, 0o000000, 0o777777, false⟩,
  ⟨0x1811, 1, 1, 0o037777, 0o000000, 0o000000, 0o000000, false⟩,
  ⟨0x1812, 1, 1, 0o000000, 0o000000, 0o000000, 0o000000, false⟩,
  ⟨0x1813, 1, 1, 0o777777, 0o000000, 0o000000, 0o000000, false⟩,
  ⟨0x1818, 1, 7, 0o007777, 0o000000, 0o000000, 0o000000, false⟩,
  ⟨0x181F, 1, 1, 0o000077, 0o000000, 0o000000, 0o000000, false⟩,
  ⟨0x1820, 1, 1, 0o000000, 0o000000, 0o000000, 0o000000, false⟩,
  ⟨0x1821, 1, 1, 0o000000, 0o000000, 0o000000, 0o000000, false⟩,
  ⟨0x1822, 1, 1, 0o000000, 0o000000, 0o000000, 0o000000, false⟩,
  ⟨0x1823, 1, 1, 0o000000, 0o000000, 0o000000, 0o000000, false⟩,
  ⟨0x1830, 1, 32, 0o000000, 0o000000, 0o000000, 0o000000, false⟩,
  ⟨0x1850, 1, 1, 0o000000, 0o000000, 0o777777, 0o000000, false⟩,
  ⟨0x1851, 1, 1, 0o000000, 0o000000, 0o777777, 0o000000, false⟩,
  ⟨0x1852, 1, 1, 0o000000, 0o000000, 0o777777, 0o000000, false⟩,
  ⟨0x1853, 1, 1, 0o000000, 0o000000, 0o777777, 0o000000, false⟩]

/-- Registers of ports 0x2000-0x2FFF, part 0. -/
def regRows2_0 : List RegRow := [
  ⟨0x2000, 1, 1, 0o000000, 0o000000, 0o000000, 0o000000, true⟩,
  ⟨0x2001, 1, 1, 0o000000, 0o000000, 0o000000, 0o000000, true⟩,
  ⟨0x2002, 1, 1, 0o000000, 0o000000, 0o000000, 0o000000, true⟩,
  ⟨0x2003, 1, 1, 0o000000, 0o000000, 0o000000, 0o000000, true⟩,
  ⟨0x2004, 1, 1, 0o000000, 0o000000, 0o000000, 0o777777, false⟩,
  ⟨0x2005, 1, 1, 0o000000, 0o000000, 0o777777, 0o000000, false⟩,
  ⟨0x2006, 1, 1, 0o000000, 0o000000, 0o777777, 0o000000, false⟩,
  ⟨0x2007, 1, 1, 0o000000, 0o000000, 0o777777, 0o000000, false⟩,
  ⟨0x2008, 1, 1, 0o000000, 0o000000, 0o000000, 0o000000, false⟩,
  ⟨0x2010, 1, 1, 0o000000, 0o000000, 0o000000, 0o777777, false⟩,
  ⟨0x2011, 1, 1, 0o037777, 0o000000, 0o000000, 0o000000, false⟩,
  ⟨0x2012, 1, 1, 0o000000, 0o360000, 0o000000, 0o000000, false⟩,
  ⟨0x2013, 1, 1, 0o000000, 0o000000, 0o000000, 0o000000, false⟩,
  ⟨0x2014, 1, 1, 0o017777, 0o000000, 0o000000, 0o000000, false⟩,
  ⟨0x2015, 1, 1, 0o000000, 0o000000, 0o000000, 0o777777, false⟩,
  ⟨0x2016, 1, 1, 0o000000, 0o000000, 0o000000, 0o000000, false⟩,
  ⟨0x2018, 1, 8, 0o777777, 0o000000, 0o000000, 0o000000, false⟩,
  ⟨0x2020, 1, 8, 0o000000, 0o000000, 0o000000, 0o000000, false⟩,
  ⟨0x2028, 1, 8, 0o000000, 0o000000, 0o000000, 0o000000, false⟩,
  ⟨0x2030, 1, 8, 0o177777, 0o000000, 0o000000, 0o000000, false⟩,
  ⟨0x2100, 8, 128, 0o000000, 0o000000, 0o000000, 0o000000, true⟩,
  ⟨0x2101, 8, 128, 0o000000, 0o000000, 0o000000, 0o000000, true⟩,
  ⟨0x2102, 8, 128, 0o000000, 0o000000, 0o000000, 0o000000, true⟩,
  ⟨0x2103, 8, 128, 0o000000, 0o000000, 0o000000, 0o000000, false⟩,
  ⟨0x2104, 8, 128, 0o000000, 0o000000, 0o000000, 0o000000, false⟩,
  ⟨0x2105, 8, 128, 0o000000, 0o000000, 0o000000, 0o000000, false⟩,
  ⟨0x2106, 8, 128, 0o000000, 0o000036, 0o000000, 0o000000, true⟩,
  ⟨0x2107, 8, 128, 0o000000, 0o000000, 0o777777, 0o000000, false⟩,
  ⟨0x2800, 1, 1, 0o000000, 0o000000, 0o000000, 0o000000, false⟩,
  ⟨0x2801, 1, 4, 0o000000, 0o000000, 0o000000, 0o000000, true⟩]

/-- Registers of ports 0x2000-0x2FFF, part 1. -/
def regRows2_1 : List RegRow := [
  ⟨0x2805, 1, 1, 0o000000, 0o000000, 0o000000, 0o000000, true⟩,
  ⟨0x2806, 1, 1, 0o000000, 0o000000, 0o000000, 0o000000, false⟩,
  ⟨0x2807, 1, 1, 0o777777, 0o000000, 0o000000, 0o000000, false⟩,
  ⟨0x2808, 1, 1, 0o000000, 0o000000, 0o000000, 0o777777, false⟩,
  ⟨0x2809, 1, 1, 0o037777, 0o000000, 0o000000, 0o000000, false⟩,
  ⟨0x280A, 1, 1, 0o000000, 0o200000, 0o000000, 0o000000, false⟩,
  ⟨0x2810, 1, 1, 0o740777, 0o000000, 0o000000, 0o000000, false⟩,
  ⟨0x2811, 1, 1, 0o000777, 0o000000, 0o000000, 0o000000, false⟩,
  ⟨0x2812, 1, 1, 0o000000, 0o000000, 0o000000, 0o777777, false⟩,
  ⟨0x2813, 1, 1, 0o000000, 0o200000, 0o000000, 0o000000, false⟩,
  ⟨0x2814, 1, 1, 0o000000, 0o000000, 0o000000, 0o000000, false⟩,
  ⟨0x2818, 1, 8, 0o000000, 0o000000, 0o000000, 0o000000, false⟩,
  ⟨0x2820, 1, 1, 0o000000, 0o000000, 0o777777, 0o000000, false⟩,
  ⟨0x2821, 1, 1, 0o000000, 0o000000, 0o777777, 0o000000, false⟩,
  ⟨0x2822, 1, 1, 0o000000, 0o000000, 0o777777, 0o000000, false⟩,
  ⟨0x2823, 1, 1, 0o000000, 0o000000, 0o777777, 0o000000, false⟩,
  ⟨0x2824, 1, 1, 0o000000, 0o000000, 0o777777, 0o000000, false⟩,
  ⟨0x2825, 1, 1, 0o000000, 0o000000, 0o777777, 0o000000, false⟩,
  ⟨0x2826, 1, 1, 0o000000, 0o000000, 0o777777, 0o000000, false⟩,
  ⟨0x2827, 1, 1, 0o000000, 0o000000, 0o777777, 0o000000, false⟩]

/-- Registers of ports 0x3000-0x3FFF, part 0. -/
def regRows3_0 : List RegRow := [
  ⟨0x3000, 64, 16, 0o000000, 0o000000, 0o000000, 0o000000, true⟩,
  ⟨0x3001, 64, 16, 0o000000, 0o000000, 0o000000, 0o000000, false⟩,
  ⟨0x3002, 64, 16, 0o000000, 0o000000, 0o000000, 0o777777, false⟩,
  ⟨0x3003, 64, 16, 0o000000, 0o000000, 0o777777, 0o000000, false⟩,
  ⟨0x3004, 64, 16, 0o000000, 0o000000, 0o777777, 0o000000, false⟩,
  ⟨0x3400, 1, 1, 0o000000, 0o000000, 0o000000, 0o777777, false⟩,
  ⟨0x3401, 1, 1, 0o037777, 0o000000, 0o000000, 0o000000, false⟩,
  ⟨0x3402, 1, 1, 0o037777, 0o000000, 0o000000, 0o000000, false⟩,
  ⟨0x3403, 1, 1, 0o777777, 0o000000, 0o000000, 0o000000, false⟩,
  ⟨0x3404, 1, 1, 0o000000, 0o200000, 0o000000, 0o000000, false⟩,
  ⟨0x3405, 1, 1, 0o000000, 0o000000, 0o000000, 0o000000, false⟩,
  ⟨0x3406, 1, 1, 0o000000, 0o000000, 0o000000, 0o000000, false⟩,
  ⟨0x3407, 1, 1, 0o000000, 0o000000, 0o777777, 0o000000, false⟩,
  ⟨0x3408, 1, 1, 0o000000, 0o000000, 0o777777, 0o000000, false⟩,
  ⟨0x3409, 1, 1, 0o000000, 0o000000, 0o777777, 0o000000, false⟩,
  ⟨0x340A, 1, 1, 0o000000, 0o000000, 0o777777, 0o000000, false⟩,
  ⟨0x3410, 1, 16, 0o000000, 0o000000, 0o000000, 0o000000, false⟩,
  ⟨0x3800, 1, 3, 0o000000, 0o000000, 0o000000, 0o000000, false⟩,
  ⟨0x3803, 1, 1, 0o777777, 0o000000, 0o000000, 0o000000, false⟩,
  ⟨0x3804, 1, 1, 0o777777, 0o000000, 0o000000, 0o000000, false⟩,
  ⟨0x3805, 1, 1, 0o400077, 0o000000, 0o000000, 0o000000, false⟩,
  ⟨0x3806, 1, 3, 0o000000, 0o000000, 0o000000, 0o000000, false⟩,
  ⟨0x3809, 1, 1, 0o000000, 0o000001, 0o000000, 0o000000, false⟩,
  ⟨0x3810, 1, 1, 0o777000, 0o000000, 0o000000, 0o000000, false⟩,
  ⟨0x3811, 1, 1, 0o000000, 0o000000, 0o000000, 0o777777, false⟩,
  ⟨0x3812, 1, 1, 0o000000, 0o000000, 0o777777, 0o000000, false⟩,
  ⟨0x3820, 16, 8, 0o000000, 0o000000, 0o000000, 0o000000, true⟩,
  ⟨0x3821, 16, 8, 0o000000, 0o000000, 0o000000, 0o000000, true⟩,
  ⟨0x3822, 16, 8, 0o000000, 0o000000, 0o000000, 0o000000, true⟩,
  ⟨0x3823, 16, 8, 0o000000, 0o000000, 0o000000, 0o000000, true⟩]

/-- Registers of ports 0x3000-0x3FFF, part 1. -/
def regRows3_1 : List RegRow := [
  ⟨0x3824, 16, 8, 0o000000, 0o000000, 0o000000, 0o000000, true⟩,
  ⟨0x3825, 16, 8, 0o000000, 0o000000, 0o000000, 0o000000, true⟩,
  ⟨0x3826, 16, 8, 0o000000, 0o000000, 0o000000, 0o000000, false⟩,
  ⟨0x3827, 16, 8, 0o000000, 0o000000, 0o000000, 0o000000, false⟩,
  ⟨0x3828, 16, 8, 0o000000, 0o000000, 0o777777, 0o000000, false⟩,
  ⟨0x3829, 16, 8, 0o000000, 0o000000, 0o777777, 0o000000, false⟩,
  ⟨0x382A, 16, 8, 0o000000, 0o000000, 0o777777, 0o000000, false⟩,
  ⟨0x3900, 1, 1, 0o400777, 0o000000, 0o000000, 0o000000, false⟩,
  ⟨0x3901, 1, 1, 0o000000, 0o000000, 0o000000, 0o000000, false⟩,
  ⟨0x3902, 1, 1, 0o000000, 0o000000, 0o777777, 0o000000, false⟩,
  ⟨0x3903, 1, 1, 0o000000, 0o000000, 0o777777, 0o000000, false⟩,
  ⟨0x3904, 1, 1, 0o000000, 0o000000, 0o777777, 0o000000, false⟩,
  ⟨0x3910, 16, 8, 0o777777, 0o000000, 0o000000, 0o000000, false⟩,
  ⟨0x3911, 16, 8, 0o777777, 0o000000, 0o000000, 0o000000, false⟩,
  ⟨0x3912, 16, 8, 0o777600, 0o000000, 0o000000, 0o000000, false⟩,
  ⟨0x3913, 16, 8, 0o777777, 0o000000, 0o000000, 0o000000, false⟩,
  ⟨0x3914, 16, 8, 0o007777, 0o000000, 0o000000, 0o000000, false⟩,
  ⟨0x3915, 16, 8, 0o774377, 0o000000, 0o000000, 0o000000, false⟩,
  ⟨0x3916, 16, 8, 0o777777, 0o000000, 0o000000, 0o000000, false⟩,
  ⟨0x3917, 16, 8, 0o037777, 0o000000, 0o000000, 0o000000, false⟩,
  ⟨0x3918, 16, 8, 0o777777, 0o000000, 0o000000, 0o000000, false⟩,
  ⟨0x3919, 16, 8, 0o777077, 0o000000, 0o000000, 0o000000, false⟩,
  ⟨0x391A, 16, 8, 0o777777, 0o000000, 0o000000, 0o000000, false⟩,
  ⟨0x391B, 16, 8, 0o777777, 0o000000, 0o000000, 0o000000, false⟩,
  ⟨0x391C, 16, 8, 0o777777, 0o000000, 0o000000, 0o000000, false⟩,
  ⟨0x3A00, 1, 128, 0o777777, 0o000000, 0o000000, 0o000000, false⟩,
  ⟨0x3A80, 1, 1, 0o000000, 0o400000, 0o000000, 0o000000, false⟩,
  ⟨0x3A81, 1, 3, 0o000000, 0o000000, 0o000000, 0o000000, false⟩,
  ⟨0x3A84, 1, 1, 0o000000, 0o000000, 0o000000, 0o000000, false⟩,
  ⟨0x3A88, 1, 120, 0o000000, 0o000000, 0o000000, 0o000000, false⟩]

/-- Registers of ports 0x4000-0x4FFF, part 0. -/
def regRows4_0 : List RegRow := [
  ⟨0x4000, 256, 2, 0o000000, 0o000002, 0o000000, 0o000000, true⟩,
  ⟨0x4001, 256, 2, 0o777777, 0o000000, 0o000000, 0o000000, false⟩,
  ⟨0x4002, 256, 2, 0o077777, 0o000000, 0o000000, 0o000000, false⟩,
  ⟨0x4003, 256, 2, 0o000000, 0o000000, 0o000000, 0o777777, false⟩,
  ⟨0x4004, 256, 2, 0o000000, 0o000000, 0o000000, 0o000000, false⟩,
  ⟨0x4005, 256, 2, 0o000000, 0o000000, 0o000000, 0o000000, false⟩,
  ⟨0x4006, 256, 2, 0o000000, 0o000000, 0o777777, 0o000000, false⟩,
  ⟨0x4007, 256, 2, 0o000000, 0o000000, 0o777777, 0o000000, false⟩,
  ⟨0x4008, 256, 2, 0o000000, 0o000000, 0o777777, 0o000000, false⟩,
  ⟨0x4400, 1, 2, 0o000000, 0o000000, 0o000000, 0o000000, true⟩,
  ⟨0x4402, 1, 1, 0o777777, 0o000000, 0o000000, 0o000000, false⟩,
  ⟨0x4403, 1, 1, 0o777777, 0o000000, 0o000000, 0o000000, false⟩,
  ⟨0x4404, 1, 1, 0o777777, 0o000000, 0o000000, 0o000000, false⟩,
  ⟨0x4500, 1, 1, 0o470177, 0o000000, 0o000000, 0o000000, false⟩,
  ⟨0x4501, 1, 1, 0o777777, 0o000000, 0o000000, 0o000000, false⟩,
  ⟨0x4502, 1, 1, 0o077077, 0o000000, 0o000000, 0o000000, false⟩,
  ⟨0x4503, 1, 1, 0o000000, 0o000000, 0o777777, 0o000000, false⟩,
  ⟨0x4504, 1, 1, 0o000000, 0o000000, 0o777777, 0o000000, false⟩,
  ⟨0x4505, 1, 1, 0o000000, 0o000000, 0o777777, 0o000000, false⟩,
  ⟨0x4506, 1, 1, 0o000000, 0o000000, 0o777777, 0o000000, false⟩,
  ⟨0x4510, 4, 8, 0o777777, 0o000000, 0o000000, 0o000000, false⟩,
  ⟨0x4511, 4, 8, 0o777777, 0o000000, 0o000000, 0o000000, false⟩,
  ⟨0x4512, 4, 8, 0o777777, 0o000000, 0o000000, 0o000000, false⟩,
  ⟨0x4513, 4, 8, 0o777077, 0o000000, 0o000000, 0o000000, false⟩,
  ⟨0x4800, 32, 64, 0o770777, 0o000000, 0o000000, 0o000000, true⟩,
  ⟨0x4801, 32, 64, 0o771777, 0o000000, 0o000000, 0o000000, false⟩,
  ⟨0x4802, 32, 64, 0o777777, 0o000000, 0o000000, 0o000000, false⟩,
  ⟨0x4803, 32, 64, 0o037777, 0o000000, 0o000000, 0o000000, false⟩,
  ⟨0x4804, 32, 64, 0o777777, 0o000000, 0o000000, 0o000000, false⟩,
  ⟨0x4805, 32, 64, 0o777077, 0o000000, 0o000000, 0o000000, false⟩]

/-- Registers of ports 0x4000-0x4FFF, part 1. -/
def regRows4_1 : List RegRow := [
  ⟨0x4806, 32, 64, 0o000177, 0o000000, 0o000000, 0o000000, false⟩,
  ⟨0x4807, 32, 64, 0o037777, 0o000000, 0o000000, 0o000000, false⟩,
  ⟨0x4808, 32, 64, 0o000000, 0o000000, 0o000000, 0o777777, false⟩,
  ⟨0x4809, 32, 64, 0o000000, 0o000006, 0o000000, 0o000000, true⟩,
  ⟨0x480A, 32, 64, 0o000000, 0o000000, 0o000000, 0o000000, false⟩,
  ⟨0x480B, 32, 64, 0o000000, 0o000000, 0o000000, 0o000000, false⟩,
  ⟨0x480C, 32, 64, 0o000000, 0o000000, 0o000000, 0o000000, false⟩,
  ⟨0x480D, 32, 64, 0o000000, 0o000000, 0o000000, 0o000000, false⟩,
  ⟨0x480E, 32, 64, 0o000000, 0o000000, 0o000000, 0o000000, false⟩,
  ⟨0x480F, 32, 64, 0o000000, 0o000000, 0o000000, 0o000000, false⟩,
  ⟨0x4810, 32, 64, 0o000000, 0o000000, 0o777777, 0o000000, false⟩,
  ⟨0x4811, 32, 64, 0o000000, 0o000000, 0o777777, 0o000000, false⟩,
  ⟨0x4812, 32, 64, 0o000000, 0o000000, 0o777777, 0o000000, false⟩,
  ⟨0x4813, 32, 64, 0o000000, 0o000000, 0o777777, 0o000000, false⟩,
  ⟨0x4814, 32, 64, 0o000000, 0o000000, 0o777777, 0o000000, false⟩]

/-- Registers of ports 0x5000-0x5FFF, part 0. -/
def regRows5_0 : List RegRow := [
  ⟨0x5000, 256, 2, 0o000000, 0o000000, 0o000000, 0o000000, false⟩,
  ⟨0x5001, 1, 1, 0o777777, 0o000000, 0o000000, 0o000000, false⟩,
  ⟨0x5101, 1, 1, 0o777777, 0o000000, 0o000000, 0o000000, false⟩,
  ⟨0x5002, 256, 2, 0o477000, 0o000000, 0o000000, 0o000000, false⟩,
  ⟨0x5003, 256, 2, 0o000000, 0o000000, 0o000000, 0o777777, false⟩,
  ⟨0x5004, 256, 2, 0o000000, 0o000000, 0o000000, 0o000000, false⟩,
  ⟨0x5005, 256, 2, 0o777777, 0o000000, 0o000000, 0o000000, false⟩,
  ⟨0x5006, 256, 2, 0o007777, 0o000000, 0o000000, 0o000000, false⟩,
  ⟨0x5007, 256, 2, 0o777777, 0o000000, 0o000000, 0o000000, false⟩,
  ⟨0x5008, 256, 2, 0o000777, 0o000000, 0o000000, 0o000000, false⟩,
  ⟨0x5009, 256, 2, 0o777777, 0o000000, 0o000000, 0o000000, false⟩,
  ⟨0x500A, 256, 2, 0o777777, 0o000000, 0o000000, 0o000000, false⟩,
  ⟨0x500B, 256, 2, 0o000000, 0o000000, 0o000000, 0o777777, false⟩,
  ⟨0x500C, 256, 2, 0o000000, 0o000000, 0o777777, 0o000000, false⟩,
  ⟨0x500D, 256, 2, 0o000000, 0o000000, 0o777777, 0o000000, false⟩,
  ⟨0x500E, 256, 2, 0o000000, 0o000000, 0o777777, 0o000000, false⟩,
  ⟨0x500F, 256, 2, 0o000000, 0o000000, 0o777777, 0o000000, false⟩,
  ⟨0x5040, 1, 64, 0o407777, 0o000000, 0o000000, 0o000000, false⟩,
  ⟨0x5140, 1, 64, 0o407777, 0o000000, 0o000000, 0o000000, false⟩,
  ⟨0x5200, 1, 8, 0o000177, 0o000000, 0o000000, 0o000000, true⟩,
  ⟨0x5208, 1, 1, 0o000377, 0o000000, 0o000000, 0o000000, false⟩,
  ⟨0x5209, 1, 1, 0o777777, 0o000000, 0o000000, 0o000000, false⟩,
  ⟨0x520A, 1, 1, 0o000000, 0o000000, 0o000000, 0o000000, false⟩,
  ⟨0x520B, 1, 1, 0o007777, 0o000000, 0o000000, 0o000000, false⟩,
  ⟨0x5400, 1, 1, 0o000000, 0o000000, 0o000000, 0o000000, false⟩,
  ⟨0x5401, 1, 1, 0o007777, 0o000000, 0o000000, 0o000000, false⟩,
  ⟨0x5402, 1, 2, 0o000000, 0o000000, 0o000000, 0o000000, false⟩,
  ⟨0x5404, 1, 1, 0o000000, 0o000000, 0o000000, 0o777777, false⟩,
  ⟨0x5405, 1, 1, 0o007777, 0o000000, 0o000000, 0o000000, false⟩,
  ⟨0x5406, 1, 1, 0o000000, 0o000000, 0o000000, 0o000000, false⟩]

/-- Registers of ports 0x5000-0x5FFF, part 1. -/
def regRows5_1 : List RegRow := [
  ⟨0x5407, 1, 1, 0o000000, 0o000000, 0o000000, 0o000000, false⟩,
  ⟨0x5800, 1, 1, 0o000000, 0o000040, 0o000000, 0o000000, false⟩,
  ⟨0x5801, 1, 1, 0o000000, 0o000000, 0o000000, 0o000000, false⟩,
  ⟨0x5802, 1, 1, 0o000000, 0o000000, 0o000000, 0o000000, false⟩,
  ⟨0x5803, 1, 1, 0o000000, 0o000000, 0o000000, 0o000000, false⟩,
  ⟨0x5804, 1, 1, 0o770000, 0o000000, 0o000000, 0o000000, false⟩,
  ⟨0x5805, 1, 1, 0o000000, 0o000000, 0o000000, 0o777777, false⟩,
  ⟨0x5806, 1, 1, 0o777777, 0o000000, 0o000000, 0o000000, false⟩,
  ⟨0x5807, 1, 1, 0o000377, 0o000000, 0o000000, 0o000000, false⟩,
  ⟨0x5808, 1, 1, 0o000000, 0o000000, 0o000000, 0o777777, false⟩,
  ⟨0x5810, 1, 8, 0o000377, 0o000000, 0o000000, 0o000000, false⟩,
  ⟨0x5820, 16, 2, 0o000000, 0o000000, 0o000000, 0o000000, false⟩,
  ⟨0x5821, 16, 2, 0o000001, 0o000000, 0o000000, 0o000000, true⟩,
  ⟨0x5822, 16, 2, 0o000000, 0o000000, 0o000000, 0o777777, false⟩,
  ⟨0x5823, 16, 2, 0o000000, 0o000000, 0o000000, 0o000000, false⟩,
  ⟨0x5824, 16, 2, 0o000000, 0o000000, 0o777777, 0o000000, false⟩,
  ⟨0x5825, 16, 2, 0o000000, 0o000000, 0o777777, 0o000000, false⟩,
  ⟨0x5826, 16, 2, 0o000000, 0o000000, 0o777777, 0o000000, false⟩,
  ⟨0x5827, 16, 2, 0o000000, 0o000000, 0o777777, 0o000000, false⟩,
  ⟨0x5840, 1, 8, 0o000000, 0o000000, 0o777777, 0o000000, false⟩,
  ⟨0x5848, 1, 8, 0o000000, 0o000000, 0o777777, 0o000000, false⟩,
  ⟨0x5850, 1, 1, 0o000000, 0o000000, 0o777777, 0o000000, false⟩,
  ⟨0x5851, 1, 1, 0o000000, 0o000000, 0o777777, 0o000000, false⟩,
  ⟨0x5852, 1, 1, 0o000000, 0o000000, 0o777777, 0o000000, false⟩,
  ⟨0x5853, 1, 1, 0o000000, 0o000000, 0o777777, 0o000000, false⟩,
  ⟨0x5854, 1, 1, 0o000000, 0o000000, 0o777777, 0o000000, false⟩,
  ⟨0x5860, 1, 1, 0o470000, 0o000000, 0o000000, 0o000000, false⟩,
  ⟨0x5861, 1, 1, 0o037777, 0o000000, 0o000000, 0o000000, false⟩,
  ⟨0x5862, 1, 1, 0o470000, 0o000000, 0o000000, 0o000000, false⟩,
  ⟨0x5863, 1, 1, 0o037777, 0o000000, 0o000000, 0o000000, false⟩]

/-- Registers of ports 0x5000-0x5FFF, part 2. -/
def regRows5_2 : List RegRow := [
  ⟨0x5864, 1, 1, 0o000000, 0o000000, 0o000000, 0o777777, false⟩,
  ⟨0x5865, 1, 1, 0o000000, 0o000000, 0o000000, 0o000000, false⟩,
  ⟨0x5866, 1, 1, 0o400377, 0o000000, 0o000000, 0o000000, false⟩,
  ⟨0x5867, 1, 1, 0o037777, 0o000000, 0o000000, 0o000000, false⟩,
  ⟨0x5868, 1, 1, 0o470000, 0o000000, 0o000000, 0o000000, false⟩,
  ⟨0x5869, 1, 1, 0o037777, 0o000000, 0o000000, 0o000000, false⟩]

/-- Registers of ports 0x6000-0x6FFF, part 0. -/
def regRows6_0 : List RegRow := [
  ⟨0x6010, 1, 1, 0o000000, 0o000000, 0o000000, 0o777777, false⟩,
  ⟨0x6011, 1, 1, 0o037777, 0o000000, 0o000000, 0o000000, false⟩,
  ⟨0x6012, 1, 1, 0o000000, 0o200000, 0o000000, 0o000000, false⟩,
  ⟨0x6020, 1, 1, 0o000000, 0o000000, 0o000000, 0o777777, false⟩,
  ⟨0x6021, 1, 1, 0o777740, 0o000000, 0o000000, 0o000000, false⟩,
  ⟨0x6022, 1, 1, 0o037777, 0o000000, 0o000000, 0o000000, false⟩,
  ⟨0x6023, 1, 1, 0o400377, 0o000000, 0o000000, 0o000000, false⟩,
  ⟨0x6024, 1, 1, 0o000000, 0o200000, 0o000000, 0o000000, false⟩,
  ⟨0x6030, 1, 1, 0o000000, 0o000000, 0o000000, 0o777777, false⟩,
  ⟨0x6031, 1, 1, 0o777000, 0o000000, 0o000000, 0o000000, false⟩,
  ⟨0x6032, 1, 1, 0o777777, 0o000000, 0o000000, 0o000000, false⟩,
  ⟨0x6033, 1, 1, 0o000001, 0o000000, 0o000000, 0o000000, false⟩,
  ⟨0x6034, 1, 1, 0o777777, 0o000000, 0o000000, 0o000000, false⟩,
  ⟨0x6035, 1, 1, 0o000001, 0o000000, 0o000000, 0o000000, false⟩,
  ⟨0x6036, 1, 1, 0o000000, 0o200000, 0o000000, 0o000000, false⟩,
  ⟨0x6040, 1, 15, 0o000000, 0o000000, 0o000000, 0o000000, false⟩,
  ⟨0x6050, 1, 1, 0o000000, 0o000000, 0o777777, 0o000000, false⟩,
  ⟨0x6100, 8, 64, 0o000000, 0o000000, 0o000000, 0o000000, false⟩,
  ⟨0x6101, 8, 64, 0o000000, 0o000000, 0o000000, 0o000000, false⟩,
  ⟨0x6102, 8, 64, 0o000000, 0o000000, 0o000000, 0o000000, false⟩,
  ⟨0x6103, 8, 64, 0o000000, 0o000000, 0o000000, 0o000000, false⟩,
  ⟨0x6104, 8, 64, 0o000000, 0o000000, 0o000000, 0o000000, false⟩,
  ⟨0x6400, 1, 1, 0o000000, 0o000000, 0o000000, 0o000000, false⟩,
  ⟨0x6401, 1, 1, 0o000000, 0o000000, 0o000000, 0o777777, false⟩,
  ⟨0x6402, 1, 1, 0o777777, 0o000000, 0o000000, 0o000000, false⟩,
  ⟨0x6403, 1, 1, 0o000000, 0o000000, 0o000000, 0o000000, false⟩,
  ⟨0x6404, 1, 1, 0o000000, 0o000000, 0o000000, 0o777777, false⟩,
  ⟨0x6405, 1, 1, 0o000000, 0o200000, 0o000000, 0o000000, false⟩,
  ⟨0x6406, 1, 1, 0o000377, 0o000000, 0o000000, 0o000000, false⟩,
  ⟨0x6407, 1, 1, 0o000000, 0o000000, 0o000000, 0o777777, false⟩]

/-- Registers of ports 0x6000-0x6FFF, part 1. -/
def regRows6_1 : List RegRow := [
  ⟨0x6410, 1, 15, 0o000000, 0o000000, 0o000000, 0o000000, false⟩,
  ⟨0x6420, 1, 15, 0o000000, 0o000000, 0o000000, 0o000000, false⟩,
  ⟨0x6430, 1, 15, 0o000000, 0o000000, 0o000000, 0o000000, false⟩,
  ⟨0x6440, 1, 4, 0o000000, 0o000000, 0o000000, 0o000000, false⟩,
  ⟨0x6800, 1, 48, 0o077777, 0o000000, 0o000000, 0o000000, true⟩,
  ⟨0x6830, 1, 3, 0o000000, 0o000000, 0o000000, 0o000000, false⟩,
  ⟨0x6834, 1, 3, 0o177777, 0o000000, 0o000000, 0o000000, true⟩,
  ⟨0x6838, 1, 3, 0o000000, 0o000000, 0o000000, 0o177777, false⟩,
  ⟨0x683C, 1, 3, 0o000000, 0o000000, 0o000000, 0o177777, false⟩,
  ⟨0x6840, 1, 3, 0o000000, 0o000000, 0o000000, 0o177777, false⟩,
  ⟨0x6843, 1, 1, 0o000000, 0o000001, 0o000000, 0o000000, false⟩]

/-- Registers of ports 0x7000-0x7FFF, part 0. -/
def regRows7_0 : List RegRow := [
  ⟨0x7000, 1, 1, 0o000000, 0o000000, 0o000000, 0o000000, false⟩,
  ⟨0x7001, 1, 1, 0o000000, 0o000000, 0o000000, 0o000000, false⟩,
  ⟨0x7002, 1, 1, 0o000000, 0o000000, 0o000000, 0o000000, false⟩,
  ⟨0x7003, 1, 1, 0o777000, 0o000000, 0o000000, 0o000000, false⟩,
  ⟨0x7004, 1, 1, 0o007777, 0o000000, 0o000000, 0o000000, false⟩,
  ⟨0x7005, 1, 1, 0o000000, 0o000000, 0o777777, 0o000000, false⟩,
  ⟨0x7006, 1, 1, 0o000000, 0o000000, 0o777777, 0o000000, false⟩,
  ⟨0x7F00, 16, 2, 0o000000, 0o000000, 0o000000, 0o777777, false⟩,
  ⟨0x7F01, 16, 2, 0o000000, 0o000000, 0o000000, 0o000000, false⟩,
  ⟨0x7F02, 16, 2, 0o700000, 0o000000, 0o000000, 0o000000, false⟩,
  ⟨0x7F03, 16, 2, 0o777777, 0o000000, 0o000000, 0o000000, false⟩,
  ⟨0x7F04, 16, 2, 0o400077, 0o000000, 0o000000, 0o000000, false⟩,
  ⟨0x7F05, 16, 2, 0o777777, 0o000000, 0o000000, 0o000000, false⟩,
  ⟨0x7F06, 16, 2, 0o777777, 0o000000, 0o000000, 0o000000, false⟩,
  ⟨0x7F07, 16, 2, 0o777777, 0o000000, 0o000000, 0o000000, false⟩]

/-- The register rows of the 4 K port page that holds a port. -/
def regPage (page : Nat) : List RegRow :=
  if page = 0x0 then regRows0_0 ++ regRows0_1 ++ regRows0_2 ++ regRows0_3 else
  if page = 0x1 then regRows1_0 ++ regRows1_1 else
  if page = 0x2 then regRows2_0 ++ regRows2_1 else
  if page = 0x3 then regRows3_0 ++ regRows3_1 else
  if page = 0x4 then regRows4_0 ++ regRows4_1 else
  if page = 0x5 then regRows5_0 ++ regRows5_1 ++ regRows5_2 else
  if page = 0x6 then regRows6_0 ++ regRows6_1 else
  if page = 0x7 then regRows7_0 else
  []

/-- A port belongs to a register group. -/
def RegRow.holds (r : RegRow) (p : Nat) : Bool :=
  decide (r.base ≤ p) && decide ((p - r.base) % r.stride = 0) && decide ((p - r.base) / r.stride < r.count)

/-- The register group of a port; none for a reserved port (R7). -/
def regRow (p : Nat) : Option RegRow := (regPage (p / 4096)).find? fun r => r.holds p

/-! ## Cold values (R8): every register not listed is 0 -/

/-- Cold values other than 0 of ports 0x0000-0x0FFF. -/
def coldPage0 (p : Nat) : Word :=
  if p = 0x0200 then 0o600000 else
  if p = 0x0210 then 0o400000 else
  if p = 0x0211 then 0o121000 else
  if 0x0801 ≤ p ∧ p ≤ 0x0AC1 ∧ (p - 0x0801) % 64 = 0 then 0o001000 else
  if 0x0805 ≤ p ∧ p ≤ 0x0AC5 ∧ (p - 0x0805) % 64 = 0 then 0o777777 else
  if 0x0B00 ≤ p ∧ p ≤ 0x0B10 ∧ (p - 0x0B00) % 16 = 0 then 0o200100 else
  if p = 0x0C03 then 0o000001 else
  if p = 0x0C04 then 0o000001 else
  if p = 0x0C17 then 0o400000 else
  if p = 0x0D02 then 0o004000 else
  if 0x0E00 ≤ p ∧ p ≤ 0x0F00 ∧ (p - 0x0E00) % 256 = 0 then 0o030004 else
  if 0x0E01 ≤ p ∧ p ≤ 0x0F01 ∧ (p - 0x0E01) % 256 = 0 then 0o100000 else
  0

/-- Cold values other than 0 of ports 0x1000-0x1FFF. -/
def coldPage1 (p : Nat) : Word :=
  if p = 0x1004 then 0o120144 else
  if p = 0x1403 then 0o400012 else
  if p = 0x1804 then 0o400144 else
  if p = 0x1805 then 0o100020 else
  if p = 0x1806 then 0o000020 else
  if p = 0x1807 then 0o400004 else
  if p = 0x1808 then 0o200024 else
  if p = 0x1809 then 0o200012 else
  if p = 0x180A then 0o000024 else
  if p = 0x180B then 0o100050 else
  if p = 0x180C then 0o100050 else
  if p = 0x180D then 0o300764 else
  if p = 0x1813 then 0o000001 else
  0

/-- Cold values other than 0 of ports 0x2000-0x2FFF. -/
def coldPage2 (p : Nat) : Word :=
  if p = 0x2807 then 0o100040 else
  0

/-- Cold values other than 0 of ports 0x3000-0x3FFF. -/
def coldPage3 (p : Nat) : Word :=
  if p = 0x3803 then 0o040024 else
  if p = 0x3804 then 0o240000 else
  if p = 0x3805 then 0o400000 else
  if p = 0x3810 then 0o132000 else
  if p = 0x3900 then 0o000226 else
  0

/-- Cold values other than 0 of ports 0x4000-0x4FFF. -/
def coldPage4 (p : Nat) : Word :=
  if 0x4001 ≤ p ∧ p ≤ 0x4101 ∧ (p - 0x4001) % 256 = 0 then 0o030012 else
  if 0x4002 ≤ p ∧ p ≤ 0x4102 ∧ (p - 0x4002) % 256 = 0 then 0o070144 else
  if p = 0x4403 then 0o020020 else
  if p = 0x4404 then 0o040310 else
  if p = 0x4501 then 0o537000 else
  if p = 0x4502 then 0o053000 else
  0

/-- Cold values other than 0 of ports 0x5000-0x5FFF. -/
def coldPage5 (p : Nat) : Word :=
  if p = 0x5001 then 0o312062 else
  if p = 0x5101 then 0o112062 else
  if 0x5002 ≤ p ∧ p ≤ 0x5102 ∧ (p - 0x5002) % 256 = 0 then 0o417000 else
  if 0x5005 ≤ p ∧ p ≤ 0x5105 ∧ (p - 0x5005) % 256 = 0 then 0o151730 else
  if 0x5006 ≤ p ∧ p ≤ 0x5106 ∧ (p - 0x5006) % 256 = 0 then 0o001000 else
  if 0x5007 ≤ p ∧ p ≤ 0x5107 ∧ (p - 0x5007) % 256 = 0 then 0o140014 else
  if 0x5008 ≤ p ∧ p ≤ 0x5108 ∧ (p - 0x5008) % 256 = 0 then 0o000760 else
  if p = 0x5209 then 0o020020 else
  if p = 0x520B then 0o007777 else
  if p = 0x5401 then 0o000144 else
  if p = 0x5405 then 0o002000 else
  if p = 0x5804 then 0o120000 else
  if p = 0x5806 then 0o144100 else
  0

/-- Cold values other than 0 of ports 0x6000-0x6FFF. -/
def coldPage6 (p : Nat) : Word :=
  if p = 0x6406 then 0o000012 else
  0

/-- Cold values other than 0 of ports 0x7000-0x7FFF. -/
def coldPage7 (p : Nat) : Word :=
  if p = 0x7003 then 0o062000 else
  0

/-- The Cold value of a port, without its Rig and fuse fields, which read 0 until they are loaded (DESIGN CHOICE, log entry 4). -/
def coldOf (p : Nat) : Word :=
  if p / 4096 = 0x0 then coldPage0 p else
  if p / 4096 = 0x1 then coldPage1 p else
  if p / 4096 = 0x2 then coldPage2 p else
  if p / 4096 = 0x3 then coldPage3 p else
  if p / 4096 = 0x4 then coldPage4 p else
  if p / 4096 = 0x5 then coldPage5 p else
  if p / 4096 = 0x6 then coldPage6 p else
  if p / 4096 = 0x7 then coldPage7 p else
  0

end Sys2Proof
end

