-- ==== Sys2Proof/Config.lean ====
section
/-! DEFINITION. What the model leaves free, and the sizes of the H96. -/

namespace Sys2Proof

/-- A free word: the value the spec leaves open, numbered by State.free (DESIGN CHOICE, log entry 1).  It has no body. -/
opaque Config.freeWord : Nat → Word

/-- A free bit, numbered by State.free (DESIGN CHOICE, log entry 1). -/
opaque Config.freeBit : Nat → Bool

/-- A free number, numbered by State.free (DESIGN CHOICE, log entry 1); a use takes it modulo the range the spec gives. -/
opaque Config.freeNat : Nat → Nat

/-- Words of an SRAM bank (R297). -/
abbrev Config.bankWords : Nat := 16384

/-- SRAM banks (R297). -/
abbrev Config.banks : Nat := 40

/-- Words kept per flash bank in the model's flash address (bank * 524288 + offset; R308 gives each bank's size). -/
abbrev Config.flashStride : Nat := 524288

/-- The device's sequencers and lanes (00_scope, the family table). -/
abbrev Config.seqs : Nat := 16
abbrev Config.lanes : Nat := 64

end Sys2Proof
end

