-- ==== Sys2Proof/Machine/State.lean ====
section
/-! DEFINITION. The state of the block: plain data, everything the spec gives the H96.  The registers of every
register table stand in `regs`, keyed by port (`Machine/Ports.lean` names each port, its access and its Cold value);
the memories, the cores and the hidden state of every unit stand in structures of their own; `pending` is the queue
of commands that wait.  A map `Cells` lists only the entries that differ from its default (see Machine/Cells.lean). -/

namespace Sys2Proof.Machine

open Sys2Proof

/-- Per-master latches and the last value each master read (R15, R73, R435).  `data` is the model's own record of
the value a master's last read returned. -/
structure Latches where
  multi : Cells (Option Word) -- key master * 65536 + port: a latched higher word
  data : Cells Word         -- key master: value returned by its last register read
  snapAge : Cells Nat       -- key master: RTCCLK edges counted when its calendar snapshot was latched + 1, 0 none (R435)
  cycle : Cells (Option (Word × Word)) -- key 2 * master + core: CYCLE_1, CYCLE_2 as its read of CYCLE_0 latched them (R15, R292)
  stall : Option (BitVec 16 × Option Word) -- debug-bus access that stalls until READY: port, word written (R40)
  deriving DecidableEq, Repr

/-- Link time and the model's clocks (R104, R396; the tick of an empty queue). -/
structure Time where
  link : BitVec 54          -- LTB_TIME
  led : Nat                 -- link time since its cold reset without wraps and steps: the ledgers' scale (R124, R258)
  wall : Nat                -- ticks passed since power-on, link time stopped or not
  stopped : Bool            -- REFCLK stopped
  coreHalf : Bool           -- half CORECLK cycles owed to CYCLE
  rtcEdges : Nat            -- RTCCLK edges counted
  rtcAcc : Nat              -- LNKCLK ticks towards the next RTCCLK edge, scaled
  rtcRunning : Bool         -- RTCCLK shows edges
  bkdLow : Bool             -- the BKD supply is below the detector
  onBackup : Bool           -- BKD runs on VBAK (R439)
  rtcCommit : Option (Word × Word × List Word) -- a commit that awaits its edge: its fields, those staged anew, values (R436)
  rtcTrimAcc : Int          -- correction carried by RTC_TRIM (R438)
  deriving DecidableEq, Repr

/-- Memories: on-chip SRAM by physical word (bank * 16384 + word), flash by bank * 524288 + offset, DRAM words by
block * 12 + word, and their stored errors (R300, R309, R324). -/
structure Mem where
  sram : Cells Word
  sramErr : Cells Nat       -- 1 single-bit, 2 double-bit error stored in the word
  flash : Cells Word        -- default 0o777777 (erased, R309)
  flashErr : Cells Nat      -- 1 single-bit, 2 uncorrectable, 3 undefined content (R319)
  dram : Cells Word
  dramTag : Cells Nat       -- block -> OWNER * 64 + EPOCH (R324)
  dramErr : Cells Nat       -- block -> bits 0-2 groups with a single error, 3-5 double, 6 tag single, 7 tag double
  scrubAt : Nat             -- `wall` tick of the SRAM scrub engine's last step (R301)
  deriving DecidableEq, Repr

/-- A fuse value in its three copies (R351). -/
structure Tri (n : Nat) where
  a : BitVec n
  b : BitVec n
  c : BitVec n
  deriving DecidableEq, Repr

/-- Physical fuses (R351): what fuse sensing reads. -/
structure Fuses where
  lot0Tri : Tri 18
  lot1Tri : Tri 18
  waferTri : Tri 6
  dieTri : Tri 18
  partTri : Tri 18
  okhTri : Option (Tri 256)
  dukTri : Tri 256
  intent : BitVec 4         -- bit t: INTENT of target t programmed
  anchored : BitVec 4
  done : BitVec 4
  dukBad : Bool             -- the check value of the device unique key fails
  deriving DecidableEq, Repr

/-- The accepted Rig and the boot ROM's progress (R37-R47). -/
structure RigState where
  words : List Word         -- the accepted Rig, header to trailer
  booting : Bool            -- the boot ROM has still to run
  applied : Bool            -- step 6 of R42 has started
  bootExit : Bool           -- the boot ROM has exited (R26)
  live : List Word          -- the live fragment under check
  liveFault : Nat           -- the R37 code the check of the fragment gives
  liveSection : Nat
  cipherOff : Bool          -- PD_CIPHER returns to off after the live check (R44)
  debugLocked : Bool        -- SECURITY DEBUG 1 was accepted since cold reset (R353)
  source : Nat              -- the candidate accepted, as SOURCE shows it from step 7 of R42 on
  deriving DecidableEq, Repr

/-- A core's aperture access that waits on DRAM (R239): the register it loads or the word it stores, the words of the
instruction, and its target: payload word `idx` of the open read packet, or word `idx` of a DRAM block (R304, R305). -/
structure ApWait where
  addr : BitVec 18
  write : Bool
  reg : BitVec 4
  v : Word
  words : Nat
  basin : Bool
  block : Nat
  idx : Nat
  since : BitVec 54
  deriving DecidableEq, Repr

/-- A Fuavo core (R273-R295). `win` is the physical window file P0-P95, `fixed` k0-k3. -/
structure CoreState where
  win : Cells Word
  fixed : Cells Word
  pc : Word
  cs : Word
  wb : BitVec 4
  res : BitVec 4
  wpidx : BitVec 7
  vbase : Word
  tcause : Word
  tword0 : Word
  tword1 : Word
  taddr : Word
  cycle : BitVec 54
  ien : BitVec 64
  ipend : BitVec 64
  ipri : BitVec 128
  inReset : Bool
  halted : Bool
  waiting : Bool
  lockup : Bool
  bootWait : Bool           -- the APC waits in the boot ROM (R41, R363 rule 6)
  eiShadow : Bool           -- no interrupt is considered at the next boundary (R287)
  apWait : Option ApWait    -- aperture access waiting on DRAM (R239)
  gated : Bool              -- CORECLK gated at a reef level (R386)
  resumed : Bool            -- a breakpoint at the PC is passed once, after RUN or STEP (R295)
  haltReq : Bool            -- HALT came while an aperture access waited (R293)
  stepping : Nat            -- STEP is to run one word and halt: 1 STEP, 2 STEP with MASK, 0 none (R293)
  deriving DecidableEq, Repr

/-- Where a cell of a packet lies (R202, R204). -/
inductive CellLoc where
  | sram (c : Nat)
  | dram (d : Nat)
  | held (n : Nat)          -- a hole's header cell beside the pool, which had none free (log entry 65)
  | lost                    -- a cell that cannot be reached (R208, R240): reads 0x00 tagged
  deriving DecidableEq, Repr

/-- A packet as the Basin's link store holds it: its cells in order, LEN and placement epoch (R203, R205). -/
structure Pkt where
  cells : List CellLoc
  len : Nat
  epoch : BitVec 6
  deriving DecidableEq, Repr

/-- One master's copy of the Basin's command interface (R212): the open packets and a command that waits. -/
structure BsnCopy where
  wpkt : Option (Nat × Pkt) -- queue, packet being written
  rpkt : Option (Nat × Pkt) -- queue it came from, open read packet
  deferred : Nat            -- command code + 16 * queue waiting under R216, 15 held by a cipher job (R341), 0 none
  deriving DecidableEq, Repr

/-- The Basin (R202-R225). -/
structure Basin where
  queues : Cells (List Pkt)
  used : Cells Nat          -- SRAM cell -> 1 in use uncharged, q + 2 charged to queue q
  dused : Cells Nat         -- spill cell -> 1 in use, 2 flushed and awaiting reclaim
  copies : Cells BsnCopy    -- key: master number
  linkErr : Cells Nat       -- SRAM cell -> 1 one link copy bad, 2 both bad (R208)
  held : Cells Word         -- words of the hole cells beside the pool, eight to a cell
  born : Nat                -- `wall` tick at which PD_BASIN left reset: the idle timers' grid starts there (R219)
  idleFrom : Cells Nat      -- queue -> grid step of its idle timer's last restart (R219)
  idleSaid : Cells Nat      -- queue -> 1 once the idle event was raised since that restart (R219)
  catchUp : Bool            -- DRAM resumed: open packets, then heads, then spills (R240)
  deriving DecidableEq, Repr

/-- An open order-keeper entry (R182-R185). `units`: lanes whose drain marker is awaited. -/
structure OkEntry where
  ctx : Nat
  epoch : BitVec 6
  units : List Nat
  opened : BitVec 54
  hole : Option Nat         -- the hole descriptor's cell
  timeout : Nat             -- DRAIN_TIMEOUT in force when it opened, µs
  timerFrom : BitVec 54     -- link time of the last restart of the drain timer
  deriving DecidableEq, Repr

/-- A packet in a lane's delivery stage (08_trim, "Placement epochs and the order keeper"). -/
structure Staged where
  pkt : Pkt
  queue : Nat
  ctx : Option Nat          -- none: no context (watch lane without context)
  epoch : BitVec 6
  ordered : Bool            -- takes part in R228 (not a manual lane)
  wanted : Bool             -- closed for delivery: its CRC was good, or FAILDLV was 1 (R233)
  hold : Bool               -- held for copy selection (R264)
  closed : BitVec 54
  deriving DecidableEq, Repr

/-- A packet a lane is receiving (R67, R68, R71). -/
structure LanePkt where
  cells : List CellLoc
  ts : BitVec 54
  meas : RxMeas
  trunc : Bool
  agcStep : Bool
  calStep : Bool
  phaseBad : Bool
  epoch : BitVec 6
  ctx : Option Nat
  queue : Nat
  feeds : List Nat          -- chains that feed it since the first bit of its sync (R65, R72)
  lenSeen : Option Nat      -- length field once received
  crcInit : BitVec 24
  white : BitVec 9
  sync : BitVec 32
  deriving DecidableEq, Repr

/-- A listening lane beyond its registers (R62-R76). -/
structure Lane where
  stopReq : Bool
  testing : Bool
  discarding : Bool         -- a frame discarded for its length field is still on air (R152)
  badReq : Bool             -- it is a connection request of a wrong length (R141)
  seq : Option Nat          -- the sequencer whose event it serves
  helper : Option Nat       -- the helper context whose listen it serves (R263)
  slot : Option Nat         -- the search slot of a watch lane's packet
  entries : List (Nat × Word) -- watch entries as they stood at the detection (R77)
  pkt : Option LanePkt
  stage : List Staged
  deriving DecidableEq, Repr

/-- What a chain's calibration does (R57-R60). -/
inductive ChainCal where
  | off | foreground | running | waitGrant | waitGap
  deriving DecidableEq, Repr

/-- A receive chain beyond its registers. -/
structure RxState where
  cal : ChainCal
  coefValid : Bool          -- retained coefficients (AON)
  coefTemp : BitVec 9       -- die temperature at retention
  mustRun : Bool            -- a CALCMD 1 calibration is under way
  applyNext : Bool          -- CALCMD 2: apply at the next gap
  updated : BitVec 54       -- link time of the last applied update
  grantAt : BitVec 54       -- link time of its background grant
  askedFrom : Nat           -- tick of its last periodic request, or of READY (R58)
  gapFrom : Nat             -- tick since when the gap under way lasts (R58)
  stepUpAt : Option Nat     -- tick of the last step-up by a clip event (R54)
  holdFrom : Nat            -- tick at which the HOLD measurement last restarted (R55)
  readyAt : Nat             -- tick at which READY was last set
  steps : List Nat          -- ticks of the latest attenuator steps (R56)
  forced : List Nat         -- ticks of the latest forced updates (R59)
  deriving DecidableEq, Repr

/-- Receive state common to both chains. -/
structure Rx where
  chains : Cells RxState    -- 0 chain A, 1 chain B
  watchIn : Cells Word      -- watch entries in force (port offset 0-31)
  smpLost : Bool            -- the sampling PLL lost lock (R57)
  blankFrom : Cells (Option Nat) -- grid (1: 2.4 GHz) -> tick at which its blanking under way started (R78)
  blankOver : Cells (Option Nat) -- grid -> tick at which its last blanking ended (R79)
  deriving DecidableEq, Repr

/-- Who asked for a transmission. -/
inductive TxOwner where
  | seq (q : Nat) | test | sniff
  deriving DecidableEq, Repr

/-- What a transmission sends: a frame, as its octets from the header on stand on the air, or a test's unmodulated carrier
or PRBS-9 sequence (R103). -/
inductive TxSignal where
  | frame (octets : List Octet) | carrier | prbs9
  deriving DecidableEq, Repr

/-- A transmit request as R84's list gives it; `dur` is D in LNKCLK ticks. -/
structure TxAsk where
  offset : Word
  phy : BitVec 3
  pcode : BitVec 6
  tStart : BitVec 54
  tLate : BitVec 54
  dur : Nat
  signal : TxSignal
  deriving DecidableEq, Repr

/-- An accepted transmit request with its reservation (R84, R125). -/
structure TxReq where
  owner : TxOwner
  ask : TxAsk
  start : BitVec 54         -- T_start, or the deferred T' (R126)
  band : Nat
  code : BitVec 6           -- code after R95 and R98 once tuned
  ramp : Nat                -- ramp time in force at its acceptance, ticks
  deriving DecidableEq, Repr

/-- Phase of a transmission. -/
inductive TxPhase where
  | rampUp | onAir | rampDown
  deriving DecidableEq, Repr

/-- The transmission under way on a chain. -/
structure TxRun where
  req : TxReq
  phase : TxPhase
  begun : Nat               -- tick of the start of ramp-up
  begunLed : Nat            -- the same on the ledgers' scale
  span : Int × Int          -- its interval of R84, in ticks
  res : Nat × Nat           -- its reservation, on the ledgers' scale (R125)
  downAt : Nat              -- tick of the start of ramp-down
  lag : Nat                 -- FEC LAG it started with (R102)
  aborted : Bool            -- ends with TX_ABORT
  lostLock : Bool           -- lock was lost in ramp-down (R88)
  deriving DecidableEq, Repr

/-- Whether a synthesiser calibration is pending, and whether by a must-run-now request (R92, R93). -/
inductive CalPend where
  | none | pending | must
  deriving DecidableEq, Repr

/-- A transmit chain beyond its registers (R82-R103). -/
structure TxState where
  accepted : List TxReq
  cur : Option TxRun
  tuned : Option Word       -- offset the synthesiser is tuned or tuning to
  lockAt : Nat              -- tick of the last lock
  prevEnd : Option Nat      -- tick at which the previous ramp-down ended
  prevLag : Nat             -- FEC LAG of that transmission (R102)
  idleFrom : Nat            -- tick since when the chain holds no accepted request (R90)
  calValid : Bool           -- retained calibration (AON)
  tcal : BitVec 9
  pend : CalPend
  calRun : Bool             -- a calibration runs
  susp : Bool               -- a calibration yielded and is suspended (R94)
  tuneReq : Bool            -- a tune start has come for the earliest request
  drive : Nat               -- drive setting of the transmission
  law : Bool
  pcode : BitVec 6
  deriving DecidableEq, Repr

/-- A duty-cycle ledger: ticks charged per slot, settled (R124). -/
structure Ledger where
  slots : Cells Nat
  warned : Bool
  low : Word                -- LOW, HIGH and WINDOW it was kept under (R128)
  high : Word
  window : Nat
  deriving DecidableEq, Repr

/-- What a sequencer sends next: an empty frame, a packet of its TXQ counted behind the acknowledged ones, or a PDU it
builds itself: a scan request, a connection request or AUX_CONNECT_RSP (R137, R163). -/
inductive SendWhat where
  | empty | queued (i : Nat) | scanReq | connReq | connRsp
  deriving DecidableEq, Repr

/-- Where an auxiliary PDU goes: bin, transmit PHY, the start its AuxPtr gives, and that offset's unit in ticks. -/
structure AuxPdu where
  bin : Nat
  phy : Nat
  start : BitVec 54
  unit : Nat
  deriving DecidableEq, Repr

/-- An event a sequencer serves (R112). -/
structure Event where
  ctx : Nat
  words : List Word         -- context words 0-16 and protocol words as loaded
  anchor : BitVec 54
  w : Nat
  closeAt : BitVec 54
  lane : Option Nat
  loaded : Bool             -- false while it waits under R179
  evstat : BitVec 4
  resynced : Bool
  frames : Nat              -- frames the peer sent in this event (R114)
  fails : Nat               -- consecutive packets with CRC failed
  lastGood : Bool           -- the last frame received was good and whole (R136, R163)
  mdPeer : Bool
  mdOwn : Bool
  retired : Nat             -- TXQ frames acknowledged in this event (R179)
  send : SendWhat           -- the frame chosen
  onAir : Bool              -- the TXQ head was sent and is not acknowledged
  emptyOut : Bool           -- an empty LE PDU was sent and is not acknowledged
  acked : Bool              -- the peer's last frame acknowledged what was sent last (R136, R163)
  missed0 : Nat             -- MISSED as loaded (R160)
  txOnly : Bool             -- trim gave it no lane (R176)
  peer : List Word          -- address of the last advertiser heard
  aux : Option AuxPdu       -- the auxiliary PDU it sends or awaits (R131)
  window : BitVec 54        -- end of the response window
  endAt : BitVec 54         -- end of the packet or transmission last seen
  closing : Bool            -- close time has come (R112)
  join : Bool               -- in a join window (R158)
  step : Nat                -- advertising channel in use; 1 once a request for a connection is to be sent
  deriving DecidableEq, Repr

/-- Trim's decision for the event that follows one in progress (R177, R179). -/
structure Follow where
  seq : Option Nat
  lane : Option Nat
  waiting : Bool
  entered : Nat
  txOnly : Bool
  deriving DecidableEq, Repr

/-- A calendar entry (R110) with trim's decision for its next event (R176-R178). -/
structure CalEntry where
  kind : BitVec 3
  anchor : BitVec 54
  inHorizon : Bool
  seq : Option Nat
  lane : Option Nat
  waiting : Bool            -- in trim's pending list
  entered : Nat             -- order of horizon entry
  txOnly : Bool             -- transmit-only as it stood at horizon entry (R176)
  after : Option Follow     -- the event after the one in progress, once it entered the horizon (R179)
  deriving DecidableEq, Repr

/-- A pending UPDATE (R110). -/
structure Upd where
  ctx : Nat
  instant : Word
  past : Bool
  image : List Word
  deriving DecidableEq, Repr

/-- Link control: sequencers' events, the calendar, updates, search and sniff (R104-R122). -/
structure Link where
  events : Cells (Option Event)   -- by sequencer
  seqTesting : Cells Nat          -- sequencer -> 1 while its self-test runs
  calendar : Cells (Option CalEntry)
  horizonCount : Nat
  updates : List Upd
  insertWait : Option Nat         -- INSERT of a context not resident (R193)
  skipped : Cells Nat             -- context -> events skipped since the last served one (R113)
  headSent : Cells Nat            -- queue -> 1 once its head frame was sent (R164)
  emptyOut : Cells Nat            -- context -> 1 while an empty LE PDU of it awaits its acknowledgement
  sniffTill : BitVec 54           -- scheduled end of the sniff listen (R121)
  sniffFrom : BitVec 54           -- end of the sniff table's last action (R120)
  searchWait : List Nat           -- contexts in STATE 3, in order of entry
  finals : List Nat               -- contexts awaiting their FINAL in a handover (R269)
  sniff : Option (Nat × Nat × Bool) -- entry, action index, listening (R120)
  sniffOn : Bool                  -- the window's domains are restored or restoring
  ledgers : Cells Ledger
  deriving DecidableEq, Repr

/-- Trim engine (R172-R201). -/
structure Trim where
  slot : Cells Nat                -- context -> slot + 1 while it is resident
  occupant : Cells Nat            -- slot -> context + 1
  touched : Cells Nat             -- context -> stamp of its last use
  served : Cells Nat              -- context -> 1 once an event of it was served (R174, R175)
  clock : Nat                     -- stamps given so far
  fetched : Cells Nat             -- context -> 1 once fetched since the last reset (R189)
  swaps : List Nat                -- contexts to fetch, in horizon-entry order (R191)
  entries : List OkEntry
  laneBusy : Cells Nat            -- lane -> link time (ticks) of its last service
  place : Option (BitVec 54)      -- link time of the outstanding placement request
  placeAdd : Cells Nat            -- position -> contexts added since its last report
  devOcc : Cells Nat
  devFill : Cells Nat
  occAcc : Nat                    -- unit ticks in use in the present millisecond (R199)
  belayWait : Option Nat          -- BELAY of a context not resident
  deriving DecidableEq, Repr

/-- One Utvis port beyond its registers (R246-R252). -/
structure UPort where
  txHseq : BitVec 6               -- HSEQ of the next frame to send
  rxHseq : BitVec 6               -- HSEQ expected next
  answer : Nat                    -- last answer sent: 0 none, 1 ACK, 2 NAK
  unacked : List (UFrame × Nat × Nat) -- frame, times sent, queue + 1 it was read from (0 none), oldest first
  oldIn : Nat                     -- first frames of the inbox, accepted before the port last fell: no credit is owed
  oldTr : Nat                     -- first transit frames, whose arrival port has fallen since
  inbox : List UFrame             -- frames accepted here that wait for cells or for the other port
  stuck : Bool                    -- UTV_DQERR was raised for the first of them
  transit : List UFrame           -- frames to pass on out of this port
  syncs : List UFrame             -- SYNC and LOAD frames waiting to be sent here
  turn : Nat                      -- destination served last
  credit : BitVec 16              -- groups freed by the peer, as last ACKed
  used : BitVec 16                -- groups sent
  freed : BitVec 16               -- groups freed here, sent in ACK
  markAt : BitVec 54              -- arrival of the last SYNC_MARK
  burst : Bool                    -- a wake burst is owed (R271)
  burstEnd : BitVec 54            -- end of the last wake burst sent
  deriving DecidableEq, Repr

/-- Standby state of a shadowed context (R267). -/
inductive Standby where
  | none | stale | ready | taken
  deriving DecidableEq, Repr

/-- Utvis (R244-R271). -/
structure Utvis where
  ports : Cells UPort
  pseqOut : Cells Nat             -- destination -> next PSEQ
  pseqExp : Cells Nat             -- source -> expected PSEQ
  heard : Cells Nat               -- port * 8 + position -> link millisecond last heard + 1
  unreach : Cells Nat             -- position -> 1 once UTV_UNREACH was raised
  standby : Cells Standby         -- by standby context
  copies : Cells (List (List Word)) -- own context -> COPY bodies received
  lastSync : BitVec 54            -- link time of the last sync taken, or of a port's first ACTIVE
  sentMs : Nat                    -- link millisecond of the last sync sent
  everLocked : Bool
  good : Nat                      -- consecutive syncs within half a tick
  goodWas : Nat                   -- the same before the present sync
  slew : Int                      -- ticks by which link time is still ahead
  slewAcc : Nat                   -- ticks since the last corrected one
  trim : Int                      -- frequency trim, parts per 10^9 (R257)
  trimAcc : Int                   -- its sum since the last tick it added or skipped
  period : Nat                    -- period count sent or received
  hops : Nat                      -- HOPS of the copy used in that period
  loads : Cells Nat               -- position -> bit 0 LOAD this period, bit 1 last period
  started : Bool                  -- a port was ACTIVE since reset
  relief : Bool                   -- a SYNC with RELIEF 1 was heard since then
  backMs : Nat                    -- link millisecond from which position 0 holds the role handed back, 0 none (R255)
  fenced : Bool                   -- the fence was applied in the present loss of syncs (R260)
  redo : List (UFrame × Nat)      -- frames of a fallen port to send again, with their queue + 1
  outbox : List UFrame            -- SHADOW, MIRROR and COPY frames waiting to be sent
  substSeq : Cells Nat            -- context -> exchange bits of a substituted copy + 1 (R264)
  handBack : Bool                 -- the next sync carries HANDBACK
  retire : Cells Nat              -- context -> TXQ frames retired since its last record (R266)
  listen : Cells Nat              -- helper context -> 1 while its listen has still to start
  deriving DecidableEq, Repr

/-- Flash command sequences and the operation in progress (R312-R319). -/
structure FlashOp where
  op : Nat                        -- 1 program word, 2 program row, 3 erase sector
  bank : Nat
  addr : Nat
  data : List Word
  deriving DecidableEq, Repr

/-- Flash controller. -/
structure Flash where
  step : Cells Nat                -- core -> unlock cycles accepted, 3 awaiting data
  seqBank : Cells Nat
  seqAddr : Cells Nat
  rowData : Cells (List Word)
  seqRow : Cells Nat              -- core -> 1 while the sequence is PROGRAM_ROW
  op : Option FlashOp
  running : Bool
  intents : Cells Nat             -- bank -> open intent's sector + 1 (the hidden journal, R318)
  journalSeq : Cells Nat
  readAt : Nat                    -- `wall` tick of the last read of the bank of a suspended erase (R316)
  resumedAt : Option Nat          -- `wall` tick at which the erase under way last resumed (R316)
  deriving DecidableEq, Repr

/-- A request in a DRAM port's queue (R331): those of the cores, which are the ones that wait. -/
structure DramReq where
  port : Nat
  write : Bool
  block : Nat
  since : BitVec 54
  deriving DecidableEq, Repr

/-- DRAM controller beyond its registers (R322-R336). -/
structure Dmc where
  queue : List DramReq
  cur : Option DramReq
  frozeFrom : Nat                 -- state it froze from
  scrubPos : Nat
  trained : Bool                  -- training retained for a restore (AON)
  checked : Bool                  -- CHECK passed since the last DLY or MRW change
  density : Bool                  -- CHECK found another density
  helper : Nat                    -- training helper running, 0 none
  modeRegs : Cells Nat
  keepDly : Cells Word            -- DMC_DLY kept in AON
  mr8 : Option (BitVec 8)         -- MR8 as read at training (R333)
  powering : Bool                 -- the power-up sequence runs
  driftPend : Bool
  usedAt : Nat                    -- `wall` tick of the last request of a port other than P_MNT (R328)
  checkAt : Nat                   -- `wall` ticks of the last periodic check and scrub read (R335)
  scrubAt : Nat
  deriving DecidableEq, Repr

/-- A key slot's secret part (R344). -/
structure KeySlot where
  valid : Bool
  k256 : Bool
  key : BitVec 256                -- a 128-bit key stands in the high half
  deriving DecidableEq, Repr

/-- A cipher job: its master and the descriptor as it stood at the start command (R341). -/
structure SecJob where
  m : Nat
  words : List Word
  deriving DecidableEq, Repr

/-- A cipher job or a verify command in progress. -/
structure Sec where
  slots : Cells KeySlot
  jobs : List SecJob              -- jobs that wait, in start order
  running : Option SecJob         -- the job that runs
  jobResult : Nat                 -- RESULT found when the running job started, 0 OK
  vfy : Nat                       -- verify command running, 0 none
  vfyHeld : Nat                   -- command held while the LCF has the engine
  trans : Nat                     -- target of a transition under way, 0 none
  holding : Cells Nat             -- core -> 1 while its group is held for an activation
  ranAnchor : Cells Nat           -- core -> 1 when it runs its anchor
  entry : Cells Word              -- core -> ENTRY of the image it runs
  imageLen : Cells Nat            -- core -> recorded length of the image it runs
  trialEnd : Cells Nat            -- core -> link time at which its trial expires + 1 (R362)
  died : Cells Nat                -- core -> reason of a declaration, reported at its next start (R362)
  transPkg : Bool                 -- the transition under way has an anchor package
  deriving DecidableEq, Repr

/-- A command word in the host's write buffer (R372). -/
structure HostWord where
  kind : Nat                -- 0 register write, 1 bell, 2 a PUSH, 3 a posted read whose reply is discarded
  port : BitVec 16
  v : Word
  queue : Nat
  data : List Word
  size : Nat
  fresh : Bool              -- it belongs to the last completed frame
  deriving DecidableEq, Repr

/-- Host port (R366-R380). -/
structure HostPort where
  buf : List HostWord
  sample : List (BitVec 16)       -- ports still to sample of the posted read
  pull : Option Nat               -- queue of a posted PULL
  reply : List Word
  replyReady : Bool
  replyDue : Bool                 -- a reply is owed to the next frame
  out : List Word                 -- data phase driven in the last frame
  statusOut : Word                -- status word driven in the last frame
  lanes : BitVec 3                -- LANES in force (R370)
  lastFrame : BitVec 3            -- first refusal among the decided words of the frame
  deriving DecidableEq, Repr

/-- A phase that a frame sends before its data: lanes, 0 undriven, SCK cycles times lanes, and the value, most significant
bit first (R383). -/
structure PsmPhase where
  lanes : Nat
  bits : Nat
  value : Nat
  deriving DecidableEq, Repr

/-- A peripheral serial master beyond its registers (R381-R384). -/
structure Psm where
  tx : List (BitVec 32)
  rx : List (BitVec 32)
  lead : List PsmPhase            -- command, address and dummy phases of the frame that runs
  shifting : Option (BitVec 32)   -- unit or octet being shifted: its bits in line order, the first sent highest
  left : Nat                      -- octets left of a frame's data phase
  stalled : Bool
  aborting : Bool                 -- ABORT waits for the next octet or unit boundary (R383)
  deriving DecidableEq, Repr

/-- Power controller (R386-R396). -/
structure Pwr where
  on : BitVec 16                  -- switches closed (released domains are PWR_DOM_STAT)
  rigOn : BitVec 16               -- domains Run holds on under the Rig (R38)
  kick : Cells Nat                -- watchdog channel -> 1 after its first kick word (R403)
  wdgTime : Cells Nat             -- watchdog channel -> TIMEOUT in force, ms
  warned : Cells Nat              -- watchdog channel -> 1 once WDG_WARN was raised since the count's restart (R404)
  deriving DecidableEq, Repr

/-- Sluice (R406-R410). -/
structure Sluice where
  since : Cells Nat               -- activity -> `wall` tick of its request + 1
  fmcFrom : Nat                   -- RTCCLK edges counted when RTC_MEAS was granted (R412)
  deriving DecidableEq, Repr

/-- Event fabric and timers (R414-R432). -/
structure Evf where
  tasks : Cells (List Nat)        -- channel -> tasks that have still to accept its event
  opened : Cells Nat              -- channel -> link time at which its guard window opened + 1
  deriving DecidableEq, Repr

structure Tim where
  acc : Cells Nat                 -- timer -> prescaler accumulator, in 1/512 of a source cycle (R425)
  stage : Cells Word              -- even timer's staged word, key timer * 8 + register (R430)
  staged : Cells Nat
  deriving DecidableEq, Repr

/-- Balls and the TAP (R443-R447, R461). -/
structure Pins where
  bootSel : BitVec 2
  stackId : BitVec 3
  gpioIn : BitVec 48              -- levels at the GPIO balls
  hsioDriven : Bool
  tapIr : BitVec 5
  bsr : List Bool                 -- boundary-scan register
  bsrDrive : Bool                 -- EXTEST drives the balls from it
  tapOut : BitVec 32              -- register shifted out by the last TAP scan
  deriving DecidableEq, Repr

/-- Why the machine stops.  No command of this block stops with a fault: every fault the spec names is an effect on
the state (a trap, a flag, a freeze).  `unreachable` is raised by nothing; it is safe. -/
inductive Fault where
  /-- Raised by no meaning: it keeps the type inhabited (safe). -/
  | unreachable
  deriving DecidableEq, Repr

/-- Why a command has no meaning. -/
inductive Refusal where
  /-- Raised by an arm of Dispatch.lean whose command has no meaning yet (safe). -/
  | notModelled (mnemonic : String)
  deriving DecidableEq, Repr

/-- The whole state. -/
structure State where
  regs : Cells Word
  latch : Latches
  time : Time
  mem : Mem
  fuses : Fuses
  rig : RigState
  apc : CoreState
  lkc : CoreState
  basin : Basin
  lanes : Cells Lane
  rx : Rx
  tx : Cells TxState
  link : Link
  trim : Trim
  utv : Utvis
  flc : Flash
  dmc : Dmc
  sec : Sec
  host : HostPort
  psm : Cells Psm
  pwr : Pwr
  sluice : Sluice
  evf : Evf
  tim : Tim
  pins : Pins
  free : Nat
  pending : List Instr
  deriving DecidableEq, Repr

/-! ## The state right after reset

Every field at the value the spec states for cold reset; where it states none, at the value the log names. -/

def Latches.reset : Latches := { multi := [], data := [], snapAge := [], cycle := [], stall := none }

def Time.reset : Time :=
  { link := 0, led := 0, wall := 0, stopped := false, coreHalf := false, rtcEdges := 0, rtcAcc := 0,
    rtcRunning := true, bkdLow := false, onBackup := false, rtcCommit := none, rtcTrimAcc := 0 }

def Mem.reset : Mem :=
  { sram := [], sramErr := [], flash := [], flashErr := [], dram := [], dramTag := [], dramErr := [], scrubAt := 0 }

/-- Three equal copies, as fusing leaves them. -/
def Tri.all {n : Nat} (v : BitVec n) : Tri n := { a := v, b := v, c := v }

/-- A blank part (DESIGN CHOICE, log entry 5): no transition fuse programmed, identity words 0 but for SYS_PART. -/
def Fuses.reset : Fuses :=
  { lot0Tri := Tri.all 0, lot1Tri := Tri.all 0, waferTri := Tri.all 0, dieTri := Tri.all 0,
    partTri := Tri.all 0o022301, okhTri := none,
    dukTri := Tri.all 0, intent := 0, anchored := 0, done := 0, dukBad := false }

def RigState.reset : RigState :=
  { words := [], booting := true, applied := false, bootExit := false, live := [], liveFault := 0, liveSection := 0,
    cipherOff := false, debugLocked := false, source := 0 }

/-- A core right after its reset (R274, R292); k0-k3 and PC are 0 (DESIGN CHOICE, log entry 9). -/
def CoreState.reset : CoreState :=
  { win := [], fixed := [], pc := 0, cs := 0, wb := 0, res := 1, wpidx := 0, vbase := 0, tcause := 0, tword0 := 0,
    tword1 := 0, taddr := 0, cycle := 0, ien := 0, ipend := 0, ipri := 0, inReset := false,
    halted := false, waiting := false, lockup := false, bootWait := false, eiShadow := false, apWait := none,
    gated := false, resumed := false, haltReq := false, stepping := 0 }

def Basin.reset : Basin :=
  { queues := [], used := [], dused := [], copies := [], linkErr := [], held := [], born := 0, idleFrom := [],
    idleSaid := [], catchUp := false }

def BsnCopy.idle : BsnCopy := { wpkt := none, rpkt := none, deferred := 0 }

def Lane.idle : Lane :=
  { stopReq := false, testing := false, discarding := false, badReq := false, seq := none, helper := none,
    slot := none, entries := [], pkt := none, stage := [] }

def RxState.off : RxState :=
  { cal := .off, coefValid := false, coefTemp := 0, mustRun := false, applyNext := false, updated := 0, grantAt := 0,
    askedFrom := 0, gapFrom := 0, stepUpAt := none, holdFrom := 0, readyAt := 0, steps := [], forced := [] }

def Rx.reset : Rx := { chains := [], watchIn := [], smpLost := false, blankFrom := [], blankOver := [] }

def TxState.off : TxState :=
  { accepted := [], cur := none, tuned := none, lockAt := 0, prevEnd := none, prevLag := 0, idleFrom := 0,
    calValid := false, tcal := 0, pend := .none, calRun := false, susp := false, tuneReq := false, drive := 0,
    law := false, pcode := 0 }

def Ledger.empty : Ledger := { slots := [], warned := false, low := 0, high := 0, window := 0 }

def Link.reset : Link :=
  { events := [], seqTesting := [], calendar := [], horizonCount := 0, updates := [],
    insertWait := none, skipped := [], headSent := [], emptyOut := [], sniffTill := 0, sniffFrom := 0,
    searchWait := [], finals := [], sniff := none, sniffOn := false, ledgers := [] }

def Trim.reset : Trim :=
  { slot := [], occupant := [], touched := [], served := [], clock := 0, fetched := [], swaps := [],
    entries := [], laneBusy := [],
    place := none, placeAdd := [], devOcc := [], devFill := [], occAcc := 0, belayWait := none }

def UPort.down : UPort :=
  { txHseq := 0, rxHseq := 0, answer := 0, unacked := [], oldIn := 0, oldTr := 0, inbox := [], stuck := false,
    transit := [], syncs := [],
    turn := 0, credit := 0, used := 0, freed := 0, markAt := 0, burst := false, burstEnd := 0 }

def Utvis.reset : Utvis :=
  { ports := [], pseqOut := [], pseqExp := [], heard := [], unreach := [], standby := [], copies := [], lastSync := 0,
    sentMs := 0, everLocked := false, good := 0, goodWas := 0, slew := 0, slewAcc := 0, trim := 0, trimAcc := 0,
    period := 0, hops := 0, loads := [], started := false, relief := false, backMs := 0, fenced := false, redo := [],
    outbox := [], substSeq := [], handBack := false, retire := [], listen := [] }

def Flash.reset : Flash :=
  { step := [], seqBank := [], seqAddr := [], rowData := [], seqRow := [], op := none, running := false,
    intents := [], journalSeq := [], readAt := 0, resumedAt := none }

def Dmc.reset : Dmc :=
  { queue := [], cur := none, frozeFrom := 0, scrubPos := 0, trained := false, checked := false,
    density := false, helper := 0, modeRegs := [], keepDly := [], mr8 := none, powering := false, driftPend := false,
    usedAt := 0, checkAt := 0, scrubAt := 0 }

def KeySlot.empty : KeySlot := { valid := false, k256 := false, key := 0 }

def Sec.reset : Sec :=
  { slots := [], jobs := [], running := none, jobResult := 0, vfy := 0, vfyHeld := 0, trans := 0, holding := [],
    ranAnchor := [], entry := [], imageLen := [], trialEnd := [], died := [], transPkg := false }

def HostPort.reset : HostPort :=
  { buf := [], sample := [], pull := none, reply := [], replyReady := false, replyDue := false, out := [],
    statusOut := 0, lanes := 0, lastFrame := 0 }

def Psm.idle : Psm := { tx := [], rx := [], lead := [], shifting := none, left := 0, stalled := false, aborting := false }

def Pwr.reset : Pwr := { on := 1, rigOn := 0, kick := [], wdgTime := [], warned := [] }

/-- Balls, straps and the TAP at reset (DESIGN CHOICE, log entry 6). -/
def Pins.reset : Pins :=
  { bootSel := 0, stackId := 0, gpioIn := 0, hsioDriven := false, tapIr := 2, bsr := [], bsrDrive := false,
    tapOut := 0 }

/-- The machine right after cold reset (R8, R19, R40, R399): the boot ROM has still to run, the LKC's domain is off,
no command waits. -/
def State.reset : State :=
  { regs := [(0x0004, 0o022301), (0x0005, 0o002000), (0x0104, 1)], latch := Latches.reset, time := Time.reset, mem := Mem.reset,
    fuses := Fuses.reset, rig := RigState.reset, apc := CoreState.reset,
    lkc := { CoreState.reset with inReset := true }, basin := Basin.reset, lanes := [], rx := Rx.reset, tx := [],
    link := Link.reset, trim := Trim.reset, utv := Utvis.reset, flc := Flash.reset, dmc := Dmc.reset,
    sec := Sec.reset, host := HostPort.reset, psm := [], pwr := Pwr.reset, sluice := { since := [], fmcFrom := 0 },
    evf := { tasks := [], opened := [] }, tim := { acc := [], stage := [], staged := [] }, pins := Pins.reset,
    free := 0, pending := [] }

end Sys2Proof.Machine
end

