-- ==== Sys2Proof/Machine/Ops.lean ====
section
/-! DEFINITION. The named operations over registers, fields, free values, units, power domains and link time.  Every
meaning goes through them. -/

namespace Sys2Proof

/-- The number of a core (R292, R295). -/
def Core.num : Core → Nat
  | .apc => 0
  | .lkc => 1

/-- The other core. -/
def Core.other : Core → Core
  | .apc => .lkc
  | .lkc => .apc

/-- The number of a master: the key of its latches and command copies. -/
def Master.num : Master → Nat
  | .apc => 0
  | .lkc => 1
  | .host => 2
  | .dbg => 3

/-- The core that is a master. -/
def Master.core : Master → Option Core
  | .apc => some .apc
  | .lkc => some .lkc
  | .host => none
  | .dbg => none

/-- A core as a master. -/
def Core.master : Core → Master
  | .apc => .apc
  | .lkc => .lkc

def RxChain.num : RxChain → Nat
  | .a => 0
  | .b => 1

def TxChain.num : TxChain → Nat
  | .s => 0
  | .w => 1

end Sys2Proof

namespace Sys2Proof.Machine

open Sys2Proof

/-! ## Fields of a word (R1) -/

/-- Field [hi:lo] of a word. -/
def fld (w : Word) (hi lo : Nat) : Nat := (w.toNat >>> lo) % 2 ^ (hi + 1 - lo)

/-- The word whose bits [hi:lo] are ones. -/
def fieldMask (hi lo : Nat) : Word := BitVec.ofNat 18 ((2 ^ (hi + 1 - lo) - 1) <<< lo)

/-- A word with field [hi:lo] replaced. -/
def withFld (w : Word) (hi lo v : Nat) : Word :=
  (w &&& ~~~(fieldMask hi lo)) ||| (BitVec.ofNat 18 (v <<< lo) &&& fieldMask hi lo)

/-- Bit `b` of a word. -/
def bitOf (w : Word) (b : Nat) : Bool := w.getLsbD b

/-- A word with bit `b` set or cleared. -/
def withBit (w : Word) (b : Nat) (v : Bool) : Word := withFld w b b (if v then 1 else 0)

/-- A field in place, for building a word. -/
def inFld (hi lo v : Nat) : Word := withFld 0 hi lo v

/-- A Bool as a number. -/
def nat1 (b : Bool) : Nat := if b then 1 else 0

/-- Sign extension of the low `n` bits of a number. -/
def signed (n v : Nat) : Int := if v % 2 ^ n < 2 ^ (n - 1) then (v % 2 ^ n : Nat) else (v % 2 ^ n : Nat) - (2 ^ n : Nat)

/-- An integer in two's complement, `n` bits. -/
def unsigned (n : Nat) (v : Int) : Nat := (v % (2 ^ n : Nat)).toNat

/-- A multi-word value from its words, least significant first (R2). -/
def joinWords : List Word → Nat
  | [] => 0
  | w :: r => w.toNat + 2 ^ 18 * joinWords r

/-- The first `n` words of a value, least significant first (R2). -/
def splitWords : Nat → Nat → List Word
  | 0, _ => []
  | n + 1, v => BitVec.ofNat 18 v :: splitWords n (v / 2 ^ 18)

/-- A word's two nonets, the earlier one first (R3). -/
def nonets (w : Word) : Nonet × Nonet := (w.extractLsb' 9 9, w.extractLsb' 0 9)

/-- A word of two nonets (R3). -/
def ofNonets (a b : Nonet) : Word := a ++ b

/-- Increment of a saturating counter word. -/
def satInc (w : Word) : Word := if w = 0o777777 then w else w + 1

/-- A saturating sum. -/
def satAdd (top a b : Nat) : Nat := min top (a + b)

/-! ## Registers -/

/-- The register stored at a port, its Cold value where nothing is listed (R8). -/
def State.get (s : State) (p : Nat) : Word := Cells.rd coldOf s.regs p

/-- Store a register. -/
def State.set (s : State) (p : Nat) (v : Word) : State := { s with regs := Cells.wr coldOf s.regs p v }

/-- Field [hi:lo] of a register. -/
def State.getF (s : State) (p hi lo : Nat) : Nat := fld (s.get p) hi lo

/-- Store field [hi:lo] of a register. -/
def State.setF (s : State) (p hi lo v : Nat) : State := s.set p (withFld (s.get p) hi lo v)

/-- Bit `b` of a register. -/
def State.getB (s : State) (p b : Nat) : Bool := bitOf (s.get p) b

/-- Store bit `b` of a register. -/
def State.setB (s : State) (p b : Nat) (v : Bool) : State := s.set p (withBit (s.get p) b v)

/-- Increment a saturating counter register. -/
def State.count (s : State) (p : Nat) : State := s.set p (satInc (s.get p))

/-- Increment a saturating counter field. -/
def State.countF (s : State) (p hi lo : Nat) : State :=
  s.setF p hi lo (min (2 ^ (hi + 1 - lo) - 1) (s.getF p hi lo + 1))

/-- The value of consecutive registers, the first least significant (R2). -/
def State.getWide (s : State) (p n : Nat) : Nat := joinWords (Cells.rds coldOf s.regs p n)

/-- Store a value into consecutive registers (R2). -/
def State.setWide (s : State) (p n v : Nat) : State := { s with regs := Cells.wrs coldOf s.regs p (splitWords n v) }

/-- Return the registers whose port meets a test to their Cold values. -/
def State.coldRegs (s : State) (p : Nat → Bool) : State := { s with regs := Cells.keep (fun k => !p k) s.regs }

/-! ## Free values (DESIGN CHOICE, log entry 1) -/

/-- The next free word. -/
def State.freeWord (s : State) : Word := Config.freeWord s.free

/-- The next free number. -/
def State.freeNat (s : State) : Nat := Config.freeNat s.free

/-- Advance past a free value. -/
def State.nextFree (s : State) : State := { s with free := s.free + 1 }

/-! ## Numbered units -/

def State.lane (s : State) (l : Nat) : Lane := Cells.rd (fun _ => Lane.idle) s.lanes l
def State.setLane (s : State) (l : Nat) (x : Lane) : State :=
  { s with lanes := Cells.wr (fun _ => Lane.idle) s.lanes l x }

def State.chain (s : State) (c : Nat) : RxState := Cells.rd (fun _ => RxState.off) s.rx.chains c
def State.setChain (s : State) (c : Nat) (x : RxState) : State :=
  { s with rx := { s.rx with chains := Cells.wr (fun _ => RxState.off) s.rx.chains c x } }

def State.txc (s : State) (t : Nat) : TxState := Cells.rd (fun _ => TxState.off) s.tx t
def State.setTxc (s : State) (t : Nat) (x : TxState) : State :=
  { s with tx := Cells.wr (fun _ => TxState.off) s.tx t x }

def State.event (s : State) (q : Nat) : Option Event := Cells.rd (fun _ => none) s.link.events q
def State.setEvent (s : State) (q : Nat) (x : Option Event) : State :=
  { s with link := { s.link with events := Cells.wr (fun _ => none) s.link.events q x } }

def State.cal (s : State) (c : Nat) : Option CalEntry := Cells.rd (fun _ => none) s.link.calendar c
def State.setCal (s : State) (c : Nat) (x : Option CalEntry) : State :=
  { s with link := { s.link with calendar := Cells.wr (fun _ => none) s.link.calendar c x } }

def State.ledger (s : State) (b : Nat) : Ledger := Cells.rd (fun _ => Ledger.empty) s.link.ledgers b
def State.setLedger (s : State) (b : Nat) (x : Ledger) : State :=
  { s with link := { s.link with ledgers := Cells.wr (fun _ => Ledger.empty) s.link.ledgers b x } }

def State.uport (s : State) (p : Nat) : UPort := Cells.rd (fun _ => UPort.down) s.utv.ports p
def State.setUport (s : State) (p : Nat) (x : UPort) : State :=
  { s with utv := { s.utv with ports := Cells.wr (fun _ => UPort.down) s.utv.ports p x } }

def State.queue (s : State) (q : Nat) : List Pkt := Cells.rd (fun _ => []) s.basin.queues q
def State.setQueue (s : State) (q : Nat) (x : List Pkt) : State :=
  { s with basin := { s.basin with queues := Cells.wr (fun _ => []) s.basin.queues q x } }

def State.copy (s : State) (m : Nat) : BsnCopy := Cells.rd (fun _ => BsnCopy.idle) s.basin.copies m
def State.setCopy (s : State) (m : Nat) (x : BsnCopy) : State :=
  { s with basin := { s.basin with copies := Cells.wr (fun _ => BsnCopy.idle) s.basin.copies m x } }

def State.keySlot (s : State) (k : Nat) : KeySlot := Cells.rd (fun _ => KeySlot.empty) s.sec.slots k
def State.setKeySlot (s : State) (k : Nat) (x : KeySlot) : State :=
  { s with sec := { s.sec with slots := Cells.wr (fun _ => KeySlot.empty) s.sec.slots k x } }

def State.psmOf (s : State) (x : Nat) : Psm := Cells.rd (fun _ => Psm.idle) s.psm x
def State.setPsm (s : State) (x : Nat) (v : Psm) : State :=
  { s with psm := Cells.wr (fun _ => Psm.idle) s.psm x v }

def State.core (s : State) : Core → CoreState
  | .apc => s.apc
  | .lkc => s.lkc
def State.setCore (s : State) (c : Core) (x : CoreState) : State :=
  match c with
  | .apc => { s with apc := x }
  | .lkc => { s with lkc := x }

/-! ## Power domains (R10, R387) -/

/-- A domain's reset is released: its bit of PWR_DOM_STAT. -/
def State.domOn (s : State) (d : Nat) : Bool := s.getB Port.PWR_DOM_STAT d

/-- The switched domain that holds a port; none for AON, BKD and ports outside every block (R7, R10, R24). -/
def portDomain (p : Nat) : Option Nat :=
  if 0x1000 ≤ p ∧ p ≤ 0x13FF then some 14 else
  if 0x1800 ≤ p ∧ p ≤ 0x1BFF then some 12 else
  if 0x2000 ≤ p ∧ p ≤ 0x27FF then some 11 else
  if 0x2800 ≤ p ∧ p ≤ 0x2BFF then some 2 else
  if 0x3000 ≤ p ∧ p ≤ 0x37FF then some 2 else
  if 0x4000 ≤ p ∧ p ≤ 0x40FF then some 7 else
  if 0x4100 ≤ p ∧ p ≤ 0x41FF then some 8 else
  if 0x4400 ≤ p ∧ p ≤ 0x47FF then some 5 else
  if 0x4800 ≤ p ∧ p ≤ 0x4BFF then some 3 else
  if 0x4C00 ≤ p ∧ p ≤ 0x4FFF then some 4 else
  if 0x5000 ≤ p ∧ p ≤ 0x50FF then some 9 else
  if 0x5100 ≤ p ∧ p ≤ 0x51FF then some 10 else
  if 0x5800 ≤ p ∧ p ≤ 0x5BFF then some 13 else
  if 0x6000 ≤ p ∧ p ≤ 0x64FF then some 15 else
  none

/-- A port answers: it lies in no switched domain or its domain is released (R18). -/
def State.portUp (s : State) (p : Nat) : Bool :=
  match portDomain p with
  | some d => s.domOn d
  | none => true

/-- The domain of a lane (R10). -/
def laneDom (l : Nat) : Nat := if l < 32 then 3 else 4

/-- The domain of a transmit chain. -/
def txDom (t : Nat) : Nat := 9 + t

/-- RIG_STAT READY (R43). -/
def State.ready (s : State) : Bool := s.getB Port.RIG_STAT 0

/-- PWR_STAT LEVEL (R386). -/
def State.level (s : State) : Nat := s.getF Port.PWR_STAT 17 15

/-! ## Link time (R104) -/

/-- `a` is not after `b`, as a signed difference modulo 2^54.  (DEDUCED, log entry 101.) -/
def timeLe (a b : BitVec 54) : Bool := !(b - a).msb

/-- `a` is before `b`. -/
def timeLt (a b : BitVec 54) : Bool := (a - b).msb

/-- Ticks per microsecond. -/
abbrev tickUs : Nat := 16

/-- Ticks as a duration. -/
def ticks (n : Nat) : BitVec 54 := BitVec.ofNat 54 n

/-- The later of two times. -/
def timeMax (a b : BitVec 54) : BitVec 54 := if timeLe a b then b else a

/-- The signed difference of two times. -/
def timeDiff (a b : BitVec 54) : Int := (a - b).toInt

/-- The tick since power-on at which link time is `t`, by the link time that lies between. -/
def State.tickOf (s : State) (t : BitVec 54) : Int := (s.time.wall : Int) - timeDiff s.time.link t

/-- The time that three words hold (R2). -/
def timeOf (w0 w1 w2 : Word) : BitVec 54 := w2 ++ w1 ++ w0

/-- A time's words (R2). -/
def timeWords (t : BitVec 54) : List Word := splitWords 3 t.toNat

/-! ## Folding over units -/

/-- Apply an operation to 0, 1, ... in order. -/
def forNat (n : Nat) (f : Nat → State → State) (s : State) : State := (List.range n).foldl (fun t i => f i t) s

/-- Apply an operation to each of a list in order. -/
def forEach {α : Type} (l : List α) (f : α → State → State) (s : State) : State := l.foldl (fun t a => f a t) s

/-- Number the elements of a list. -/
def indexed {α : Type} (l : List α) : List (Nat × α) := (List.range l.length).zip l

end Sys2Proof.Machine
end

