-- ==== Sys2Proof/Machine/Crypto.lean ====
section
/-! DEFINITION. The published codes the spec names: CRC-32C (R33), SHA-256 (FIPS 180-4), AES (FIPS 197) with CTR, CCM,
GCM, CMAC and KW (SP 800-38A to F), and ECDSA P-256 verification (FIPS 186-5).  The spec names the standards; their
text is not in it (PRESUMED, log entry 11). -/

namespace Sys2Proof.Machine

open Sys2Proof

/-! ## Octets -/

/-- The octet form of a word: bits [17:16], [15:8], [7:0] (R30, R33). -/
def wordOctets (w : Word) : List Octet :=
  [(w.extractLsb' 16 2).setWidth 8, w.extractLsb' 8 8, w.extractLsb' 0 8]

/-- The octet form of words. -/
def octetForm (ws : List Word) : List Octet := ws.flatMap wordOctets

/-- Words from their octet form; the first octet's bits [7:2] are ignored (R30). -/
def ofOctetForm : List Octet → List Word
  | a :: b :: c :: r => (a.extractLsb' 0 2 ++ b ++ c) :: ofOctetForm r
  | _ => []

/-- A big-endian number from octets. -/
def natBE (l : List Octet) : Nat := l.foldl (fun n o => n * 256 + o.toNat) 0

/-- A little-endian number from octets. -/
def natLE : List Octet → Nat
  | [] => 0
  | o :: r => o.toNat + 256 * natLE r

/-- The `n` octets of a number, most significant first. -/
def octetsBE (n v : Nat) : List Octet := (List.range n).map fun i => BitVec.ofNat 8 (v >>> (8 * (n - 1 - i)))

/-- The `n` octets of a number, least significant first. -/
def octetsLE (n v : Nat) : List Octet := (List.range n).map fun i => BitVec.ofNat 8 (v >>> (8 * i))

/-- XOR of two octet strings, to the length of the first. -/
def xorOctets : List Octet → List Octet → List Octet
  | [], _ => []
  | a :: r, [] => a :: r
  | a :: r, b :: t => (a ^^^ b) :: xorOctets r t

/-! ## CRC-32C -/

/-- One bit of the reflected CRC-32C. -/
def crcBit (c : BitVec 32) : BitVec 32 := if c.getLsbD 0 then (c >>> 1) ^^^ 0x82F63B78#32 else c >>> 1

/-- One octet of the reflected CRC-32C. -/
def crcOctet (c : BitVec 32) (o : Octet) : BitVec 32 :=
  crcBit (crcBit (crcBit (crcBit (crcBit (crcBit (crcBit (crcBit (c ^^^ o.setWidth 32))))))))

/-- CRC-32C of octets: initial value and final XOR all ones (R33). -/
def crc32c (l : List Octet) : BitVec 32 := l.foldl crcOctet 0xFFFFFFFF#32 ^^^ 0xFFFFFFFF#32

/-! ## SHA-256 -/

/-- The integer part of the k-th root of `v`, found bit by bit from bit `n - 1` down. -/
def rootFrom (k v : Nat) : Nat → Nat → Nat
  | 0, r => r
  | n + 1, r => rootFrom k v n (if (r + 2 ^ n) ^ k ≤ v then r + 2 ^ n else r)

/-- The first 64 primes, as FIPS 180-4 counts them. -/
def shaPrimes : List Nat :=
  (List.range 312).filter fun p => decide (2 ≤ p) &&
    (List.range 18).all fun d => decide (d < 2) || decide (p ≤ d) || decide (p % d ≠ 0)

/-- The first 32 bits of the fractional part of the k-th root of `p`. -/
def rootWord (k p : Nat) : BitVec 32 := BitVec.ofNat 32 (rootFrom k (p * 2 ^ (32 * k)) 36 0)

/-- Round constants: the cube roots of the first 64 primes (FIPS 180-4). -/
def shaK : List (BitVec 32) := shaPrimes.map (rootWord 3)

/-- Initial hash value: the square roots of the first 8 primes (FIPS 180-4). -/
def shaH : List (BitVec 32) := (shaPrimes.take 8).map (rootWord 2)

/-- XOR of a word rotated right by each of some distances. -/
def turned (x : BitVec 32) (l : List Nat) : BitVec 32 := l.foldl (fun y n => y ^^^ x.rotateRight n) 0

/-- The message schedule with the newest word first, `n` words longer: each takes the words 2, 7, 15 and 16 back. -/
def shaSchedule : Nat → List (BitVec 32) → List (BitVec 32)
  | 0, w => w
  | n + 1, w =>
    let back := fun k => w.getD (k - 1) 0
    let sm := turned (back 15) [7, 18] ^^^ (back 15 >>> 3)
    let la := turned (back 2) [17, 19] ^^^ (back 2 >>> 10)
    shaSchedule n ([la, back 7, sm, back 16].sum :: w)

/-- Bits of f where e has ones, of g where it has zeros. -/
def chosen (e f g : BitVec 32) : BitVec 32 := g ^^^ (e &&& (f ^^^ g))

/-- Bits that two of three words have. -/
def agreed (a b c : BitVec 32) : BitVec 32 := (a &&& b) ||| (c &&& (a ||| b))

/-- One round on the eight working values, a to h: each moves one place on, but the new a and e. -/
def shaRound (r : List (BitVec 32)) (kw : BitVec 32 × BitVec 32) : List (BitVec 32) :=
  match r with
  | [a, b, c, d, e, f, g, h] =>
    let t := [h, turned e [6, 11, 25], chosen e f g, kw.1, kw.2].sum
    [t + turned a [2, 13, 22] + agreed a b c, a, b, c, d + t, e, f, g]
  | _ => r

/-- 32-bit words of octets, big-endian. -/
def words32 : List Octet → List (BitVec 32)
  | a :: b :: c :: d :: r => (a ++ b ++ c ++ d) :: words32 r
  | _ => []

/-- One block of 64 octets: the rounds' outcome is added to the hash value. -/
def shaBlock (h : List (BitVec 32)) (blk : List Octet) : List (BitVec 32) :=
  List.zipWith (· + ·) h ((shaK.zip (shaSchedule 48 (words32 blk).reverse).reverse).foldl shaRound h)

/-- Blocks of `k` elements, at most `n` of them. -/
def chunks {α : Type} (k : Nat) : Nat → List α → List (List α)
  | 0, _ => []
  | n + 1, l => if l.isEmpty then [] else l.take k :: chunks k n (l.drop k)

/-- Padding to whole blocks of 64 octets. -/
def shaPad (m : List Octet) : List Octet :=
  m ++ [0x80#8] ++ List.replicate ((119 - m.length % 64) % 64) 0#8 ++ octetsBE 8 (m.length * 8)

/-- SHA-256: the digest as the big-endian integer of R2. -/
def sha256 (m : List Octet) : BitVec 256 :=
  let p := shaPad m
  let h := (chunks 64 (p.length / 64) p).foldl shaBlock shaH
  BitVec.ofNat 256 (h.foldl (fun n w => n * 2 ^ 32 + w.toNat) 0)

/-! ## AES -/

/-- Multiply by x in GF(2^8). -/
def xtime (a : Octet) : Octet := if a.msb then (a <<< 1) ^^^ 0x1B#8 else a <<< 1

/-- Product in GF(2^8). -/
def gmul (a b : Octet) : Octet :=
  ((List.range 8).foldl (fun (p : Octet × Octet) i =>
    (if b.getLsbD i then p.1 ^^^ p.2 else p.1, xtime p.2)) (0#8, a)).1

/-- Inverse in GF(2^8), 0 for 0: the 254th power. -/
def ginv (a : Octet) : Octet :=
  let a2 := gmul a a
  let a4 := gmul a2 a2
  let a8 := gmul a4 a4
  let a16 := gmul a8 a8
  let a32 := gmul a16 a16
  let a64 := gmul a32 a32
  let a128 := gmul a64 a64
  gmul a2 (gmul a4 (gmul a8 (gmul a16 (gmul a32 (gmul a64 a128)))))

/-- SubBytes of one octet. -/
def sbox (a : Octet) : Octet :=
  let b := ginv a
  b ^^^ b.rotateLeft 1 ^^^ b.rotateLeft 2 ^^^ b.rotateLeft 3 ^^^ b.rotateLeft 4 ^^^ 0x63#8

/-- Inverse of SubBytes of one octet. -/
def invSbox (a : Octet) : Octet := ginv (a.rotateLeft 1 ^^^ a.rotateLeft 3 ^^^ a.rotateLeft 6 ^^^ 0x05#8)

/-- Key expansion: words newest first, `nk` key words, `n` more to make, counter `i`, round constant `rc`. -/
def keyExpand (nk : Nat) : Nat → Nat → Octet → List (List Octet) → List (List Octet)
  | 0, _, _, ws => ws
  | n + 1, i, rc, ws =>
    let t := ws.headD []
    let u := if i % nk = 0 then
        match t with
        | [a, b, c, d] => [sbox b ^^^ rc, sbox c, sbox d, sbox a]
        | _ => t
      else if nk = 8 ∧ i % 8 = 4 then t.map sbox else t
    keyExpand nk n (i + 1) (if i % nk = 0 then xtime rc else rc) (xorOctets u (ws.getD (nk - 1) []) :: ws)

/-- Round keys of 16 octets, first round first. -/
def roundKeys (key : List Octet) : List (List Octet) :=
  let nk := key.length / 4
  let total := 4 * (nk + 7)
  let ws := (keyExpand nk (total - nk) nk 1#8 (chunks 4 nk key).reverse).reverse
  (chunks 4 (nk + 7) ws).map List.flatten

/-- Permute a block by a list of source positions. -/
def permute (b : List Octet) (p : List Nat) : List Octet := p.map fun i => b.getD i 0

def shiftRows (b : List Octet) : List Octet := permute b [0, 5, 10, 15, 4, 9, 14, 3, 8, 13, 2, 7, 12, 1, 6, 11]
def invShiftRows (b : List Octet) : List Octet := permute b [0, 13, 10, 7, 4, 1, 14, 11, 8, 5, 2, 15, 12, 9, 6, 3]

/-- One column times a circulant matrix. -/
def mixColumn (m : List Octet) (c : List Octet) : List Octet :=
  (List.range 4).map fun i =>
    (List.range 4).foldl (fun a j => a ^^^ gmul (m.getD ((j + 4 - i) % 4) 0) (c.getD j 0)) 0#8

def mixColumns (m b : List Octet) : List Octet := (chunks 4 4 b).flatMap (mixColumn m)

/-- AES encryption of one block under round keys. -/
def aesRounds (rk : List (List Octet)) (b : List Octet) : List Octet :=
  match rk with
  | [] => b
  | k0 :: r =>
    let mid := r.dropLast.foldl (fun s k => xorOctets (mixColumns [2, 3, 1, 1] (shiftRows (s.map sbox))) k)
      (xorOctets b k0)
    xorOctets (shiftRows (mid.map sbox)) (r.getLastD [])

/-- AES encryption of one block. -/
def aesEnc (key b : List Octet) : List Octet := aesRounds (roundKeys key) b

/-- AES decryption of one block. -/
def aesDec (key b : List Octet) : List Octet :=
  match (roundKeys key).reverse with
  | [] => b
  | k0 :: r =>
    let mid := r.dropLast.foldl (fun s k => mixColumns [14, 11, 13, 9] (xorOctets ((invShiftRows s).map invSbox) k))
      (xorOctets b k0)
    xorOctets ((invShiftRows mid).map invSbox) (r.getLastD [])

/-- Octets padded with zeros to whole blocks of 16. -/
def pad16 (l : List Octet) : List Octet := l ++ List.replicate ((16 - l.length % 16) % 16) 0#8

/-- Blocks of 16 octets. -/
def blocks16 (l : List Octet) : List (List Octet) := chunks 16 (l.length / 16 + 1) l

/-- Counter mode from a counter block, incrementing its low `w` octets as a big-endian number. -/
def aesCtr (key ctr : List Octet) (w : Nat) (m : List Octet) : List Octet :=
  let rk := roundKeys key
  let pre := ctr.take (16 - w)
  let c0 := natBE (ctr.drop (16 - w))
  (indexed (blocks16 m)).flatMap fun x =>
    xorOctets x.2 (aesRounds rk (pre ++ octetsBE w ((c0 + x.1) % 256 ^ w)))

/-- CBC-MAC over whole blocks. -/
def cbcMac (key : List Octet) (l : List Octet) : List Octet :=
  let rk := roundKeys key
  (blocks16 l).foldl (fun x b => aesRounds rk (xorOctets x b)) (List.replicate 16 0#8)

/-- CCM's authentication blocks (SP 800-38C): nonce of 15 - q octets, tag of t octets. -/
def ccmTag (key nonce aad m : List Octet) (t : Nat) : List Octet :=
  let q := 15 - nonce.length
  let flags := (if aad.isEmpty then 0 else 64) + 8 * ((t - 2) / 2) + (q - 1)
  let b0 := BitVec.ofNat 8 flags :: (nonce ++ octetsBE q m.length)
  let a := if aad.isEmpty then [] else pad16 (octetsBE 2 aad.length ++ aad)
  let x := cbcMac key (b0 ++ a ++ pad16 m)
  let s0 := aesEnc key (BitVec.ofNat 8 (q - 1) :: (nonce ++ octetsBE q 0))
  (xorOctets x s0).take t

/-- CCM's encryption and decryption of the payload. -/
def ccmCrypt (key nonce m : List Octet) : List Octet :=
  let q := 15 - nonce.length
  aesCtr key (BitVec.ofNat 8 (q - 1) :: (nonce ++ octetsBE q 1)) q m

/-- Product in GCM's field, bit 0 the most significant. -/
def ghashMul (x y : BitVec 128) : BitVec 128 :=
  ((List.range 128).foldl (fun (p : BitVec 128 × BitVec 128) i =>
    (if x.getLsbD (127 - i) then p.1 ^^^ p.2 else p.1,
     if p.2.getLsbD 0 then (p.2 >>> 1) ^^^ (0xE1#128 <<< 120) else p.2 >>> 1)) (0#128, y)).1

/-- GHASH over whole blocks. -/
def ghash (h : BitVec 128) (l : List Octet) : BitVec 128 :=
  (blocks16 l).foldl (fun x b => ghashMul (x ^^^ BitVec.ofNat 128 (natBE b)) h) 0#128

/-- GCM's tag for a 96-bit nonce (SP 800-38D). -/
def gcmTag (key nonce aad c : List Octet) (t : Nat) : List Octet :=
  let h := BitVec.ofNat 128 (natBE (aesEnc key (List.replicate 16 0#8)))
  let s := ghash h (pad16 aad ++ pad16 c ++ octetsBE 8 (aad.length * 8) ++ octetsBE 8 (c.length * 8))
  (xorOctets (octetsBE 16 s.toNat) (aesEnc key (nonce ++ octetsBE 4 1))).take t

/-- GCM's encryption and decryption of the payload. -/
def gcmCrypt (key nonce m : List Octet) : List Octet := aesCtr key (nonce ++ octetsBE 4 2) 4 m

/-- Doubling in CMAC's field. -/
def cmacDouble (x : BitVec 128) : BitVec 128 := if x.msb then (x <<< 1) ^^^ 0x87#128 else x <<< 1

/-- CMAC (SP 800-38B), full 16 octets. -/
def aesCmac (key m : List Octet) : List Octet :=
  let k1 := cmacDouble (BitVec.ofNat 128 (natBE (aesEnc key (List.replicate 16 0#8))))
  let whole := decide (m.length % 16 = 0) && !m.isEmpty
  let n := if whole then m.length - 16 else m.length - m.length % 16
  let tail := m.drop n
  let last := if whole then xorOctets tail (octetsBE 16 k1.toNat)
    else xorOctets (pad16 (tail ++ [0x80#8])) (octetsBE 16 (cmacDouble k1).toNat)
  cbcMac key (m.take n ++ last)

/-- The initial value of KW (SP 800-38F). -/
def kwIv : List Octet := List.replicate 8 0xA6#8

/-- One step of key wrapping. -/
def kwStep (key : List Octet) (st : List Octet × List (List Octet)) (ti : Nat × Nat) : List Octet × List (List Octet) :=
  let b := aesEnc key (st.1 ++ st.2.getD ti.2 [])
  (xorOctets (b.take 8) (octetsBE 8 ti.1), st.2.set ti.2 (b.drop 8))

/-- One step of key unwrapping. -/
def kwUnstep (key : List Octet) (st : List Octet × List (List Octet)) (ti : Nat × Nat) :
    List Octet × List (List Octet) :=
  let b := aesDec key (xorOctets st.1 (octetsBE 8 ti.1) ++ st.2.getD ti.2 [])
  (b.take 8, st.2.set ti.2 (b.drop 8))

/-- The steps of KW for n semi-blocks: step number and register. -/
def kwPlan (n : Nat) : List (Nat × Nat) := (List.range (6 * n)).map fun i => (i + 1, i % n)

/-- KW wrapping of whole semi-blocks. -/
def kwWrap (key p : List Octet) : List Octet :=
  let r := chunks 8 (p.length / 8) p
  let st := (kwPlan r.length).foldl (kwStep key) (kwIv, r)
  st.1 ++ st.2.flatten

/-- KW unwrapping; none when the integrity value fails. -/
def kwUnwrap (key c : List Octet) : Option (List Octet) :=
  let r := chunks 8 (c.length / 8) c
  let st := ((kwPlan (r.length - 1)).reverse).foldl (kwUnstep key) (r.headD [], r.drop 1)
  if st.1 = kwIv then some st.2.flatten else none

/-! ## ECDSA P-256 -/

def p256P : Nat := 2 ^ 256 - 2 ^ 224 + 2 ^ 192 + 2 ^ 96 - 1
def p256N : Nat := 0xffffffff00000000ffffffffffffffffbce6faada7179e84f3b9cac2fc632551
def p256B : Nat := 0x5ac635d8aa3a93e7b3ebbd55769886bc651d06b0cc53b0f63bce3c3e27d2604b
def p256Gx : Nat := 0x6b17d1f2e12c4247f8bce6e563a440f277037d812deb33a0f4a13945d898c296
def p256Gy : Nat := 0x4fe342e2fe1a7f9b8ee7eb4a7c0f9e162bce33576b315ececbb6406837bf51f5

/-- Power modulo m by the `n` low bits of the exponent. -/
def powMod (m : Nat) : Nat → Nat → Nat → Nat
  | 0, _, _ => 1 % m
  | n + 1, b, e => let r := powMod m n (b * b % m) (e / 2)
    if e % 2 = 1 then r * b % m else r

/-- Inverse modulo a prime. -/
def invMod (m a : Nat) : Nat := powMod m 256 (a % m) (m - 2)

/-- Difference modulo m of reduced numbers. -/
def subMod (m a b : Nat) : Nat := (a + m - b % m) % m

/-- Sum of two points of P-256; none is the point at infinity. -/
def p256Add : Option (Nat × Nat) → Option (Nat × Nat) → Option (Nat × Nat)
  | none, q => q
  | p, none => p
  | some (x1, y1), some (x2, y2) =>
    if x1 = x2 ∧ (y1 + y2) % p256P = 0 then none else
    let l := if x1 = x2 then (3 * x1 * x1 + (p256P - 3)) * invMod p256P (2 * y1) % p256P
      else subMod p256P y2 y1 * invMod p256P (subMod p256P x2 x1) % p256P
    let x3 := subMod p256P (subMod p256P (l * l % p256P) x1) x2
    some (x3, subMod p256P (l * subMod p256P x1 x3 % p256P) y1)

/-- Multiple of a point by the `n` low bits of a number. -/
def p256Mul : Nat → Nat → Option (Nat × Nat) → Option (Nat × Nat)
  | 0, _, _ => none
  | n + 1, k, p =>
    let r := p256Mul n (k / 2) (p256Add p p)
    if k % 2 = 1 then p256Add r p else r

/-- A point lies on P-256. -/
def p256On (x y : Nat) : Bool :=
  decide (x < p256P) && decide (y < p256P) &&
    decide (y * y % p256P = (x * x * x + (p256P - 3) * x + p256B) % p256P)

/-- ECDSA verification of a 256-bit digest: key X, Y and signature r, s. -/
def ecdsaVerify (x y r s : Nat) (digest : BitVec 256) : Bool :=
  if p256On x y = false then false else
  if r = 0 ∨ p256N ≤ r ∨ s = 0 ∨ p256N ≤ s then false else
  let w := invMod p256N s
  let u1 := digest.toNat * w % p256N
  let u2 := r * w % p256N
  match p256Add (p256Mul 256 u1 (some (p256Gx, p256Gy))) (p256Mul 256 u2 (some (x, y))) with
  | none => false
  | some (x1, _) => decide (x1 % p256N = r)

end Sys2Proof.Machine
end

