-- ==== Sys2Proof/Machine/Radio.lean ====
section
/-! DEFINITION. Air formats: octets in air order, CRC-24 and whitening of LE and Haldaro frames (R137, R146-R150), frame
headers, and the times of the PHYs (R66, R134, R146). -/

namespace Sys2Proof.Machine

open Sys2Proof

/-! ## Bits and CRC -/

/-- The bits of octets in air order: each octet least significant bit first (R146). -/
def airBits (l : List Octet) : List Bool := l.flatMap fun o => (List.range 8).map fun i => o.getLsbD i

/-- Octets from bits in air order. -/
def ofAirBits : List Bool → List Octet
  | a :: b :: c :: d :: e :: f :: g :: h :: r =>
    BitVec.ofNat 8 (nat1 a + 2 * nat1 b + 4 * nat1 c + 8 * nat1 d + 16 * nat1 e + 32 * nat1 f + 64 * nat1 g + 128 * nat1 h)
      :: ofAirBits r
  | _ => []

/-- One bit of a 24-bit CRC, the register's most significant bit first. -/
def crc24Bit (poly : BitVec 24) (r : BitVec 24) (b : Bool) : BitVec 24 :=
  if r.msb != b then (r <<< 1) ^^^ poly else r <<< 1

/-- The 24-bit CRC over octets in air order. -/
def crc24 (poly init : BitVec 24) (l : List Octet) : BitVec 24 := (airBits l).foldl (crc24Bit poly) init

/-- The CRC of a frame ends in itself: run over the CRC octets too, the register is 0 (coefficient of x^23 first, R149). -/
def crc24Good (poly init : BitVec 24) (frame : List Octet) : Bool := decide (crc24 poly init frame = 0)

/-- R149's polynomial; and that of LE CRC-24 (PRESUMED, log entry 11). -/
abbrev halPoly : BitVec 24 := 0x864CFB
abbrev lePoly : BitVec 24 := 0x00065B

/-- The CRC octets of a frame, coefficient of x^23 sent first (R149). -/
def crcOctets (r : BitVec 24) : List Octet := ofAirBits ((List.range 24).map fun i => r.getLsbD (23 - i))

/-! ## Whitening -/

/-- Haldaro whitening of bits from a register state (R150). -/
def halWhitenBits (s : BitVec 9) : List Bool → List Bool
  | [] => []
  | b :: r => (b != s.getLsbD 0) ::
    halWhitenBits ((s >>> 1) ||| (if s.getLsbD 0 != s.getLsbD 5 then 0x100#9 else 0)) r

/-- LE whitening of bits: the 7-stage register of x^7 + x^4 + 1, position i in bit i (PRESUMED, log entry 11). -/
def leWhitenBits (s : BitVec 7) : List Bool → List Bool
  | [] => []
  | b :: r => (b != s.getLsbD 6) ::
    leWhitenBits ((s <<< 1) ^^^ (if s.getLsbD 6 then 0x11#7 else 0)) r

/-- Whitening of octets, which is its own inverse (R150). -/
def halWhiten (seed : BitVec 9) (l : List Octet) : List Octet := ofAirBits (halWhitenBits seed (airBits l))

/-- The LE register's start for a channel: position 0 is 1, the channel's bits in positions 1 to 6, most significant
first (PRESUMED, log entry 11). -/
def leSeed (ch : Nat) : BitVec 7 :=
  let c : BitVec 6 := BitVec.ofNat 6 ch
  BitVec.ofNat 7 (1 + 2 * nat1 (c.getLsbD 5) + 4 * nat1 (c.getLsbD 4) + 8 * nat1 (c.getLsbD 3) + 16 * nat1 (c.getLsbD 2) +
    32 * nat1 (c.getLsbD 1) + 64 * nat1 (c.getLsbD 0))

def leWhiten (ch : Nat) (l : List Octet) : List Octet := ofAirBits (leWhitenBits (leSeed ch) (airBits l))

/-- A frame as it stands on the air from its header on: its CRC appended, whitened (R137, R149, R150). -/
def airFrame (le : Bool) (ch : Nat) (init : BitVec 24) (seed : BitVec 9) (f : List Octet) : List Octet :=
  let g := f ++ crcOctets (crc24 (if le then lePoly else halPoly) init f)
  if le then leWhiten ch g else halWhiten seed g

/-- LE channel index of a 2.4 GHz bin (R133). -/
def leChannel (bin : Nat) : Nat :=
  if bin = 1 then 37 else if bin = 13 then 38 else if bin = 40 then 39 else
  if bin ≤ 12 then bin - 2 else bin - 3

/-- 2.4 GHz bin of an LE channel index (R133). -/
def leBin (c : Nat) : Nat :=
  if c = 37 then 1 else if c = 38 then 13 else if c = 39 then 40 else if c ≤ 10 then c + 2 else c + 3

/-! ## PHYs -/

/-- A PHY code is served: transmit codes of R82, receive codes of R66. -/
def phyIsLe (p : Nat) : Bool := decide (p ≤ 3)
def phyGridW (p : Nat) : Bool := decide (p ≤ 3) || decide (p = 6)

/-- Receive code of a transmit code (R109). -/
def rxPhy (p : Nat) : Nat := if p = 3 then 2 else p

/-- Preamble and sync duration in ticks (R134, R146). -/
def syncTicks (p : Nat) : Nat :=
  (if p = 0 then 40 else if p = 1 then 24 else if p = 2 ∨ p = 3 then 336 else
   if p = 4 then 1280 else if p = 5 then 320 else 24) * 16

/-- Duration of the sync word alone, in ticks (R134, R146). -/
def syncWordTicks (p : Nat) : Nat :=
  (if p = 0 then 32 else if p = 1 then 16 else if p = 2 ∨ p = 3 then 256 else
   if p = 4 then 640 else if p = 5 then 160 else 16) * 16

/-- Fill time in ticks (R66). -/
def fillTicks (p : Nat) : Nat := (if p = 4 then 20 else if p = 5 then 10 else 2) * 16

/-- Ticks of a Haldaro octet (R146). -/
def octetTicks (p : Nat) : Nat := (if p = 4 then 160 else if p = 5 then 40 else 4) * 16

/-- T_IFS, T_late - T_start and the guard, in ticks (R134, R162). -/
def ifsTicks (p : Nat) : Nat := (if p = 4 then 400 else if p = 5 then 200 else 150) * 16
def lateTicks (p : Nat) : Nat := (if p = 4 ∨ p = 5 then 8 else 2) * 16
def guardTicks (p : Nat) : Nat := (if p = 4 ∨ p = 5 then 8 else 4) * 16

/-- Transmit code of a frame that a lane of PHY `p` reports with a code: an LE Coded report names the coding (R66). -/
def codedAs (p rep : Nat) : Nat := if p = 2 then rep else p

/-! ## Frame headers -/

/-- Header octets of a PHY's frame (R147; two for LE). -/
def hdrOctets (p : Nat) : Nat := if phyIsLe p then 2 else 3

/-- The 24-bit Haldaro header (R147). -/
def halHeader (l : List Octet) : Nat := (l.getD 0 0).toNat + 256 * (l.getD 1 0).toNat + 65536 * (l.getD 2 0).toNat

def halLen (l : List Octet) : Nat := halHeader l % 1024
def halType (l : List Octet) : Nat := halHeader l / 1024 % 8
def halMd (l : List Octet) : Bool := (halHeader l).testBit 13
def halSeq (l : List Octet) : Nat := halHeader l / 16384 % 16
def halAkn (l : List Octet) : Nat := halHeader l / 262144 % 16
def halMic (l : List Octet) : Nat := halHeader l / 4194304 % 4
/-- MIC octets of a MIC code (R147). -/
def micOctets (m : Nat) : Nat := if m = 1 then 4 else if m = 2 then 8 else 0

/-- The length field of a frame. -/
def frameLen (p : Nat) (l : List Octet) : Nat := if phyIsLe p then (l.getD 1 0).toNat else halLen l

/-- Fields of an LE data PDU header (PRESUMED, log entry 11). -/
def leLlid (l : List Octet) : Nat := (l.getD 0 0).toNat % 4
def leNesn (l : List Octet) : Nat := (l.getD 0 0).toNat / 4 % 2
def leSn (l : List Octet) : Nat := (l.getD 0 0).toNat / 8 % 2
def leMd (l : List Octet) : Bool := (l.getD 0 0).getLsbD 4
/-- PDU type of an LE advertising PDU. -/
def leAdvType (l : List Octet) : Nat := (l.getD 0 0).toNat % 16

/-- An LE data PDU with LLID and length as given and its exchange bits set (R136, R137; the layout PRESUMED, log entry
11). -/
def leSealed (f : List Octet) (nesn sn md : Nat) : List Octet :=
  f.set 0 (BitVec.ofNat 8 (leLlid f + 4 * nesn + 8 * sn + 16 * md))

/-- A Haldaro frame with its exchange fields set (R147, R163). -/
def halSealed (f : List Octet) (md sq akn : Nat) : List Octet :=
  let h := halHeader f
  let n := h % 8192 + 8192 * md + 16384 * sq + 262144 * akn + h / 4194304 * 4194304
  [BitVec.ofNat 8 n, BitVec.ofNat 8 (n / 256), BitVec.ofNat 8 (n / 65536)] ++ f.drop 3

/-! ## Extended advertising PDUs (R131; the layout PRESUMED, log entry 11) -/

/-- Extended header length and AdvMode. -/
def extLen (f : List Octet) : Nat := (f.getD 2 0).toNat % 64
def extMode (f : List Octet) : Nat := (f.getD 2 0).toNat / 64

/-- Octets of the extended header's fields, in order: AdvA, TargetA, CTEInfo, ADI, AuxPtr, SyncInfo, TxPower. -/
def extSizes : List Nat := [6, 6, 1, 2, 3, 18, 1]

/-- A field of the extended header, when its flag is set. -/
def extField (f : List Octet) (i : Nat) : Option (List Octet) :=
  let flags := if extLen f = 0 then 0 else (f.getD 3 0).toNat
  if flags.testBit i then
    let skip := ((List.range i).map fun j => if flags.testBit j then extSizes.getD j 0 else 0).sum
    some ((f.drop (4 + skip)).take (extSizes.getD i 0))
  else none

/-- Air time in ticks of an LE data PDU of a length at a transmit PHY (PRESUMED, log entry 11). -/
def leAirTicks (p len : Nat) : Nat :=
  if p = 0 then (10 + len) * 8 * 16 else
  if p = 1 then (11 + len) * 4 * 16 else
  if p = 2 then (80 + 256 + 16 + 24 + (16 + 8 * len + 24 + 3) * 2) * 16 else
  (80 + 256 + 16 + 24 + (16 + 8 * len + 24 + 3) * 8) * 16

/-- Ticks from the first preamble bit to the last bit of a frame with a length field. -/
def frameTicks (p len : Nat) : Nat :=
  if phyIsLe p then leAirTicks p len else syncTicks p + (len + 6) * octetTicks p

end Sys2Proof.Machine
end

