-- ==== Sys2Proof/Machine/Flags.lean ====
section
/-! DEFINITION. Flag computations of the Fuavo cores (R273, R280-R282): the five flags of CS, the arithmetic that sets
them and the sixteen conditions. -/

namespace Sys2Proof.Machine

open Sys2Proof

/-- The flags, CS bits 0-4. -/
structure Flags where
  z : Bool
  n : Bool
  c : Bool
  v : Bool
  t : Bool
  deriving DecidableEq, Repr

/-- The flags of a CS value. -/
def Flags.ofCs (cs : Word) : Flags :=
  { z := bitOf cs 0, n := bitOf cs 1, c := bitOf cs 2, v := bitOf cs 3, t := bitOf cs 4 }

/-- A CS value with its flags replaced. -/
def Flags.toCs (f : Flags) (cs : Word) : Word :=
  withFld cs 4 0 (nat1 f.z + 2 * nat1 f.n + 4 * nat1 f.c + 8 * nat1 f.v + 16 * nat1 f.t)

/-- Z and N of a result. -/
def Flags.zn (f : Flags) (r : Word) : Flags := { f with z := decide (r = 0), n := r.msb }

/-- A signed value lies outside 18 bits (R281). -/
def overflows (x : Int) : Bool := decide (x < -131072) || decide (131071 < x)

/-- Sum with carry in, and its flags (R281). -/
def addFlags (f : Flags) (a b : Word) (cin : Bool) : Word × Flags :=
  let r := a + b + (if cin then 1 else 0)
  (r, { f.zn r with c := decide (2 ^ 18 ≤ a.toNat + b.toNat + nat1 cin),
                    v := overflows (a.toInt + b.toInt + nat1 cin) })

/-- Difference with borrow in, and its flags: C is 1 when no borrow occurs (R281). -/
def subFlags (f : Flags) (a b : Word) (bin : Bool) : Word × Flags :=
  let r := a - b - (if bin then 1 else 0)
  (r, { f.zn r with c := decide (b.toNat + nat1 bin ≤ a.toNat), v := overflows (a.toInt - b.toInt - nat1 bin) })

/-- Low word of a product and its flags (R281). -/
def mulFlags (f : Flags) (a b : Word) : Word × Flags :=
  let r := a * b
  (r, { f.zn r with c := decide (2 ^ 18 ≤ a.toNat * b.toNat), v := overflows (a.toInt * b.toInt) })

/-- The 36-bit product, signed or unsigned, and its flags (R280, major 11). -/
def mulxFlags (f : Flags) (sgn : Bool) (a b : Word) : BitVec 36 × Flags :=
  let p : BitVec 36 := if sgn then BitVec.ofInt 36 (a.toInt * b.toInt) else BitVec.ofNat 36 (a.toNat * b.toNat)
  (p, { f with z := decide (p = 0), n := p.msb, c := false, v := false })

/-- A shift by 0-63 and its flags (R282).  By exactly 18, C is bit 17 for LSL and bit 0 for LSR, as R282 says
(DEDUCED, log entry 10). -/
def shiftFlags (f : Flags) (kind : BitVec 2) (n : Nat) (a : Word) : Word × Flags :=
  if n = 0 then (a, f.zn a) else
  if kind = 0 then
    let r : Word := if n < 18 then a <<< n else 0
    (r, { f.zn r with c := if n < 18 then bitOf a (18 - n) else if n = 18 then bitOf a 17 else false })
  else if kind = 1 then
    let r : Word := if n < 18 then a >>> n else 0
    (r, { f.zn r with c := if n < 18 then bitOf a (n - 1) else if n = 18 then bitOf a 0 else false })
  else if kind = 2 then
    let r : Word := a.sshiftRight (min n 18)
    (r, { f.zn r with c := if n < 18 then bitOf a (n - 1) else a.msb })
  else
    let r : Word := a.rotateRight (n % 18)
    (r, { f.zn r with c := if n % 18 = 0 then f.c else r.msb })

/-- Condition code c (R280). -/
def condHolds (f : Flags) (c : BitVec 4) : Bool :=
  if c = 0 then f.z else
  if c = 1 then !f.z else
  if c = 2 then f.c else
  if c = 3 then !f.c else
  if c = 4 then f.n else
  if c = 5 then !f.n else
  if c = 6 then f.v else
  if c = 7 then !f.v else
  if c = 8 then f.c && !f.z else
  if c = 9 then !f.c || f.z else
  if c = 10 then f.n == f.v else
  if c = 11 then f.n != f.v else
  if c = 12 then !f.z && (f.n == f.v) else
  if c = 13 then f.z || (f.n != f.v) else
  if c = 14 then f.t else true

end Sys2Proof.Machine
end

