-- ==== Sys2Proof/Machine/Operands.lean ====
section
/-! DEFINITION. Operand forms of the Fuavo cores (R273, R274, R278, R280, R292): the window file, register codes,
sign-extended immediates, branch targets and the fields of CS. -/

namespace Sys2Proof.Machine

open Sys2Proof

/-- Index in the window file of visible register w_i (R274). -/
def winIndex (c : CoreState) (i : Nat) : Nat := (6 * c.wb.toNat + i) % 96

/-- A physical register of the window file. -/
def CoreState.phys (c : CoreState) (i : Nat) : Word := Cells.rd (fun _ => 0) c.win i

/-- Set a physical register of the window file. -/
def CoreState.setPhys (c : CoreState) (i : Nat) (v : Word) : CoreState :=
  { c with win := Cells.wr (fun _ => 0) c.win i v }

/-- The register a code names: w0-w11, then k0-k3 (R273). -/
def CoreState.reg (c : CoreState) (r : BitVec 4) : Word :=
  if r.toNat < 12 then c.phys (winIndex c r.toNat) else Cells.rd (fun _ => 0) c.fixed (r.toNat - 12)

/-- Set the register a code names. -/
def CoreState.setReg (c : CoreState) (r : BitVec 4) (v : Word) : CoreState :=
  if r.toNat < 12 then c.setPhys (winIndex c r.toNat) v
  else { c with fixed := Cells.wr (fun _ => 0) c.fixed (r.toNat - 12) v }

/-- A 3-bit register field of a short operation: w0-w7 (R278). -/
def shortReg (r : BitVec 3) : BitVec 4 := r.setWidth 4

/-- An 8-bit signed immediate, sign-extended (R280). -/
def simm8 (i : BitVec 8) : Word := i.signExtend 18

/-- The flags in CS. -/
def CoreState.flags (c : CoreState) : Flags := Flags.ofCs c.cs

/-- Store flags into CS. -/
def CoreState.setFlags (c : CoreState) (f : Flags) : CoreState := { c with cs := f.toCs c.cs }

/-- CS IE. -/
def CoreState.ie (c : CoreState) : Bool := bitOf c.cs 17

/-- LEVEL as it acts: 5-7 act as 4 (R292). -/
def CoreState.lvl (c : CoreState) : Nat := min 4 (fld c.cs 14 12)

/-- Store IE. -/
def CoreState.setIe (c : CoreState) (v : Bool) : CoreState := { c with cs := withBit c.cs 17 v }

/-- Go on to the next word (R280): the pc advances by the instruction's words. -/
def CoreState.advance (c : CoreState) (words : Nat) : CoreState := { c with pc := c.pc + BitVec.ofNat 18 words }

/-- Effective data address of LD, ST and LDC: ra + n, modulo 2^18 (R280). -/
def memAddr (c : CoreState) (ra n : BitVec 4) : Word := c.reg ra + n.setWidth 18

/-- Effective data address of LDA and STA (R280, major 18). -/
def longAddr (c : CoreState) (ra : BitVec 4) (abs : Bool) (off : Word) : Word :=
  if abs then off else c.reg ra + off

/-- Port of IN and OUT (R280, major 20). -/
def portAddr (c : CoreState) (ra : BitVec 4) (idx : Bool) (port : BitVec 16) : BitVec 16 :=
  if idx then port + (c.reg ra).setWidth 16 else port

/-- One short operation's value; its operands are read before either operation of the pair writes (R278, R279). -/
def shortValue (c : CoreState) (op : BitVec 8) : Word :=
  let a := c.reg (shortReg (op.extractLsb' 3 3))
  let b := c.reg (shortReg (op.extractLsb' 0 3))
  let k := op.extractLsb' 6 2
  if k = 0 then b else if k = 1 then a + b else if k = 2 then a - b else a &&& b

/-- Destination of a short operation. -/
def shortDest (op : BitVec 8) : BitVec 4 := shortReg (op.extractLsb' 3 3)

/-- Leading zeros of a word, 0-18 (R280, UNARY 6). -/
def clzWord (w : Word) : Nat := 18 - (if w = 0 then 0 else Nat.log2 w.toNat + 1)

/-- Slide the window up one frame: what CALL and entries do (R275, R276). -/
def CoreState.slide (c : CoreState) : CoreState := { c with wb := c.wb + 1, res := c.res + 1 }

/-- Slide the window back one frame (R275). -/
def CoreState.unslide (c : CoreState) : CoreState := { c with wb := c.wb - 1, res := c.res - 1 }

end Sys2Proof.Machine
end

