-- ==== Sys2Proof/Machine/Raise.lean ====
section
/-! DEFINITION. Raising an interrupt source (R287, R288) and raising a producer of the event fabric (R414-R418,
R421, R422): what every block does when its chapter says that it raises a named source or event. -/

namespace Sys2Proof.Machine

open Sys2Proof

/-- Set a source's pending bit in a core that is not in reset (R287, R288).  (DEDUCED, log entry 48.) -/
def CoreState.pend (c : CoreState) (n : Nat) : CoreState :=
  if c.inReset then c else { c with ipend := c.ipend ||| BitVec.twoPow 64 n }

/-- A raise of a source sets its pending bit in both cores' units (R287). -/
def State.pendBoth (s : State) (n : Nat) : State := { s with apc := s.apc.pend n, lkc := s.lkc.pend n }

/-- A transmit chain is in ramp-up, on air or in ramp-down. -/
def State.txBusy (s : State) (t : Nat) : Bool := (s.txc t).cur.isSome

/-- The input buffer of a GPIO ball is on: every FUNC but 0 (R445). -/
def State.gpioBuffer (s : State) (g : Nat) : Bool := decide (s.getF (Port.GPIO_CFG g) 5 0 ≠ 0)

/-- The level at a GPIO ball (R445): what its output drives, else what the board puts there; an open-drain output is low or
released; the edges of CLKOUT and RTC_OUT come with GPIO_EDGE, CLKOUT being low in Furl.  (DEDUCED, log entry 74.) -/
def State.ballLevel (s : State) (g : Nat) : Bool :=
  let f := s.getF (Port.GPIO_CFG g) 5 0
  let out := s.getB (Port.GPIO_OUT (g / 16)) (g % 16)
  let at_ := s.pins.gpioIn.getLsbD g
  if f = 2 then out else
  if f = 3 then out && at_ else
  if f = 8 then decide (s.level ≠ 4) && at_ else
  if f = 10 then decide (s.level = 0) else
  if f = 11 then s.getB Port.PWR_STAT 6 else at_

/-- The input level of a ball: 0 while its buffer is off (R445). -/
def State.gpioSeen (s : State) (g : Nat) : Bool := s.gpioBuffer g && s.ballLevel g

/-- The level of a gate source (R422); a ball's gates act only while its input buffer is on (R445).  (DEDUCED, log
entry 75.) -/
def State.gateLevel (s : State) (g : Nat) : Bool :=
  if g = 0 then true else
  if 64 ≤ g ∧ g ≤ 111 then s.gpioSeen (g - 64) else
  if 112 ≤ g ∧ g ≤ 159 then s.gpioBuffer (g - 112) && !s.ballLevel (g - 112) else
  if 160 ≤ g ∧ g ≤ 171 then s.getB (Port.TIM_STAT (g - 160)) 17 else
  if g = 176 then s.getB Port.PWR_STAT 6 else
  if g = 177 then decide (s.level = 0) else
  if g = 178 then s.txBusy 0 else
  if g = 179 then s.txBusy 1 else false

/-- A channel's group is enabled (R415). -/
def State.grpOn (s : State) (ch : Nat) : Bool := s.getB Port.EVF_GRP (s.getF (Port.EVF_CH_SRC ch) 14 12)

/-- The enabled slots of a task that name a channel, one entry each (R414). -/
def State.taskSlots (s : State) (ch t : Nat) : List Nat :=
  let w := s.get (Port.EVF_TASK t)
  (if bitOf w 17 ∧ fld w 14 9 = ch then [t] else []) ++ (if bitOf w 8 ∧ fld w 5 0 = ch then [t] else [])

/-- Every enabled slot that names a channel (R414). -/
def State.slotsOf (s : State) (ch : Nat) : List Nat := (List.range 268).flatMap fun t => s.taskSlots ch t

/-- The tasks that have still to accept a channel's event. -/
def State.chTasks (s : State) (ch : Nat) : List Nat := Cells.rd (fun _ => []) s.evf.tasks ch

/-- Set the tasks that have still to accept a channel's event, and with them PEND (R414). -/
def State.setChTasks (s : State) (ch : Nat) (l : List Nat) : State :=
  ({ s with evf := { s.evf with tasks := Cells.wr (fun _ => []) s.evf.tasks ch l } }).setB
    (Port.EVF_CH_STAT ch) 17 (!l.isEmpty)

/-- The link time at which a channel's guard window opened, plus 1; 0 while none is open. -/
def State.guardOpen (s : State) (ch : Nat) : Nat := Cells.rd (fun _ => 0) s.evf.opened ch

/-- Record or close a guard window. -/
def State.setGuard (s : State) (ch v : Nat) : State :=
  { s with evf := { s.evf with opened := Cells.wr (fun _ => 0) s.evf.opened ch v } }

/-- WINDOW × 10 µs of link time have passed since a guard window opened; in Furl it stays open (R418). -/
def State.guardOver (s : State) (ch : Nat) : Bool :=
  !s.time.stopped &&
    decide (s.getF (Port.EVF_CH_GUARD ch) 17 9 * 160 ≤ (s.time.link - BitVec.ofNat 54 (s.guardOpen ch - 1)).toNat)

/-- A guard window is open now. -/
def State.guardLive (s : State) (ch : Nat) : Bool := decide (s.guardOpen ch ≠ 0) && !s.guardOver ch

/-- The loop guard counts an event that becomes outstanding, and trips at LIMIT (R418). -/
def State.guardCount (s : State) (ch : Nat) : State :=
  let w := s.getF (Port.EVF_CH_GUARD ch) 17 9
  let lim := s.getF (Port.EVF_CH_GUARD ch) 8 0
  if w = 0 ∨ lim = 0 then s else
  let n := if s.guardLive ch then min 511 (s.getF (Port.EVF_CH_STAT ch) 8 0 + 1) else 1
  let s1 := (if s.guardLive ch then s else s.setGuard ch (s.time.link.toNat + 1)).setF (Port.EVF_CH_STAT ch) 8 0 n
  if n = lim then
    (((s1.setB Port.EVF_GRP (s1.getF (Port.EVF_CH_SRC ch) 14 12) false).setB (Port.EVF_CH_STAT ch) 16 true).set
      Port.EVF_TRIP (inFld 17 17 1 ||| inFld 5 0 ch)).pendBoth 12
  else s1

/-- A producer's raise arrives at a channel (R415). -/
def State.raiseChannel (s : State) (ch : Nat) : State :=
  if s.grpOn ch = false then s.count (Port.EVF_CH_STOPCNT ch) else
  if s.gateLevel (s.getF (Port.EVF_CH_GATE ch) 8 0) = false then s.count (Port.EVF_CH_STOPCNT ch) else
  if s.chTasks ch ≠ [] then s.count (Port.EVF_CH_OVRCNT ch) else
  ((s.count (Port.EVF_CH_RAISECNT ch)).setChTasks ch (s.slotsOf ch)).guardCount ch

/-- A producer raises: its raise reaches every channel that names it (R415, R421). -/
def State.raiseProducer (s : State) (p : Nat) : State :=
  if p = 0 then s else
  forNat 48 (fun ch t => if t.getF (Port.EVF_CH_SRC ch) 8 0 = p then t.raiseChannel ch else t) s

/-- The rise or fall of a ball between an earlier state and now raises its producer, its input buffer on in both (R421,
R445). -/
def State.ballEdge (s old : State) (g : Nat) : State :=
  if old.gpioBuffer g && s.gpioBuffer g && (old.ballLevel g != s.ballLevel g) then
    s.raiseProducer (if s.ballLevel g then 64 + g else 112 + g) else s

/-- An operation with the rises and falls it makes at the balls (R421). -/
def State.withEdges (s : State) (f : State → State) : State := forNat 48 (fun g t => t.ballEdge s g) (f s)

/-- Raise an interrupt source: both cores' pending bits, and the producer of the same number (R287, R421). -/
def State.raise (s : State) (n : Nat) : State :=
  if n = 0 ∨ (8 ≤ n ∧ n ≤ 12) then s.pendBoth n else (s.pendBoth n).raiseProducer n

/-! Interrupt sources (R291) -/

abbrev Irq.HPT_BELL : Nat := 1
abbrev Irq.HPT_CUT : Nat := 2
abbrev Irq.WDG_WARN : Nat := 3
abbrev Irq.RTC_ALARM : Nat := 4
abbrev Irq.TIM_GRP (n : Nat) : Nat := 5 + n / 4
abbrev Irq.EV_IRQ (k : Nat) : Nat := 8 + k
abbrev Irq.LOOP_TRIP : Nat := 12
abbrev Irq.PSM (x : Nat) : Nat := 13 + x
abbrev Irq.MEM_ECC : Nat := 15
abbrev Irq.FLC_DONE : Nat := 16
abbrev Irq.FLC_ERR : Nat := 17
abbrev Irq.DMC_EVT : Nat := 18
abbrev Irq.MNT_EVT : Nat := 19
abbrev Irq.PWR_EVT : Nat := 20
abbrev Irq.CPH_DONE : Nat := 21
abbrev Irq.AUTH_FAIL : Nat := 22
abbrev Irq.KEY_SPENT : Nat := 23
abbrev Irq.VFY_DONE : Nat := 24
abbrev Irq.RIG_LIVE : Nat := 25
abbrev Irq.RX_CLIP : Nat := 26
abbrev Irq.RX_CAL_FORCED : Nat := 27
abbrev Irq.LANE_FAULT : Nat := 28
abbrev Irq.WATCH_HIT : Nat := 29
abbrev Irq.WATCH_MISS : Nat := 30
abbrev Irq.TX_LATE : Nat := 31
abbrev Irq.TX_UNLOCK : Nat := 32
abbrev Irq.TX_CAL_DONE : Nat := 33
abbrev Irq.SEQ_FAULT : Nat := 34
abbrev Irq.CTX_ECC : Nat := 35
abbrev Irq.LINK_SEARCH : Nat := 36
abbrev Irq.LINK_FOUND : Nat := 37
abbrev Irq.LINK_LOST : Nat := 38
abbrev Irq.DUTY_WARN : Nat := 39
abbrev Irq.DUTY_NOGRANT : Nat := 40
abbrev Irq.SNIFF_MATCH : Nat := 41
abbrev Irq.LE_CONN : Nat := 42
abbrev Irq.LE_TXHOLD : Nat := 43
abbrev Irq.HAL_TXHOLD : Nat := 44
abbrev Irq.BEACON_LOST : Nat := 45
abbrev Irq.BEACON_EMPTY : Nat := 46
abbrev Irq.HAL_RETRY : Nat := 47
abbrev Irq.TRM_HOLE : Nat := 48
abbrev Irq.TRM_NOUNIT : Nat := 49
abbrev Irq.TRM_CTX_DONE : Nat := 50
abbrev Irq.TRM_PLACE_DONE : Nat := 51
abbrev Irq.TRM_DRAM : Nat := 52
abbrev Irq.BSN_HIGH : Nat := 53
abbrev Irq.BSN_LOW : Nat := 54
abbrev Irq.TAIL_IDLE : Nat := 55
abbrev Irq.BSN_QREADY : Nat := 56
abbrev Irq.BSN_LINK_FAULT : Nat := 57
abbrev Irq.UTV_LINK : Nat := 58
abbrev Irq.UTV_UNREACH : Nat := 59
abbrev Irq.UTV_DQERR : Nat := 60
abbrev Irq.UTV_MAST : Nat := 61
abbrev Irq.UTV_FENCE : Nat := 62
abbrev Irq.UTV_TAKEOVER : Nat := 63

/-! Producers beyond the interrupt sources (R421) -/

abbrev Ev.gpioRise (g : Nat) : Nat := 64 + g
abbrev Ev.gpioFall (g : Nat) : Nat := 112 + g
abbrev Ev.timCc (n k : Nat) : Nat := 160 + 5 * n + k
abbrev Ev.timPeriod (n : Nat) : Nat := 160 + 5 * n + 4
abbrev Ev.rtcSecond : Nat := 220
abbrev Ev.seqSetup (q : Nat) : Nat := 224 + q
abbrev Ev.seqClose (q : Nat) : Nat := 240 + q
abbrev Ev.txFirstBit (t : Nat) : Nat := 256 + 2 * t
abbrev Ev.txRampEnd (t : Nat) : Nat := 257 + 2 * t
abbrev Ev.linkMs : Nat := 260
abbrev Ev.utvSync : Nat := 261
abbrev Ev.hostFrameEnd : Nat := 262
abbrev Ev.sw (k : Nat) : Nat := 264 + k

end Sys2Proof.Machine
end

