-- ==== Sys2Proof/Machine/Memory.lean ====
section
/-! DEFINITION. On-chip memories: the bank partition (R297, R298), SRAM words with their stored errors (R300), the
context store, the Basin's cells, the mailbox, bank zeroing (R299), and flash words (R308, R309, R319). -/

namespace Sys2Proof.Machine

open Sys2Proof

/-- Roles of SRAM banks (R297). -/
inductive BankRole where
  | apc | lkc | bsn | ctx | chz | mbx
  deriving DecidableEq, Repr

/-- Banks of a role. -/
def State.roleBanks (s : State) : BankRole → Nat
  | .apc => s.getF (Port.MEM_PART 0) 5 0
  | .lkc => s.getF (Port.MEM_PART 0) 11 6
  | .bsn => s.getF (Port.MEM_PART 0) 17 12
  | .ctx => s.getF (Port.MEM_PART 1) 5 0
  | .chz => s.getF (Port.MEM_PART 1) 11 6
  | .mbx => s.getF (Port.MEM_PART 1) 17 12

/-- First bank of a role: the roles take runs of banks in the order of R297. -/
def State.roleBase (s : State) : BankRole → Nat
  | .apc => 0
  | .lkc => s.roleBanks .apc
  | .bsn => s.roleBanks .apc + s.roleBanks .lkc
  | .ctx => s.roleBanks .apc + s.roleBanks .lkc + s.roleBanks .bsn
  | .chz => s.roleBanks .apc + s.roleBanks .lkc + s.roleBanks .bsn + s.roleBanks .ctx
  | .mbx => s.roleBanks .apc + s.roleBanks .lkc + s.roleBanks .bsn + s.roleBanks .ctx + s.roleBanks .chz

/-- The domain a role's banks take (R11). -/
def BankRole.dom : BankRole → Nat
  | .apc => 0
  | .lkc => 1
  | .bsn => 11
  | .ctx => 2
  | .chz => 5
  | .mbx => 11

/-- A bank has a role. -/
def State.hasRole (s : State) (r : BankRole) (b : Nat) : Bool :=
  decide (s.roleBase r ≤ b) && decide (b < s.roleBase r + s.roleBanks r)

/-- The role of a bank; none for an unassigned bank. -/
def State.bankRole (s : State) (b : Nat) : Option BankRole :=
  [BankRole.apc, .lkc, .bsn, .ctx, .chz, .mbx].find? fun r => s.hasRole r b

/-- Physical address of a role's word (R297). -/
def State.roleWord (s : State) (r : BankRole) (w : Nat) : Nat := s.roleBase r * 16384 + w

/-- The SRAM word at a physical address. -/
def State.sramRd (s : State) (k : Nat) : Word := Cells.rd (fun _ => 0) s.mem.sram k

/-- The stored error of a word: 0 none, 1 single-bit, 2 double-bit. -/
def State.sramBad (s : State) (k : Nat) : Nat := Cells.rd (fun _ => 0) s.mem.sramErr k

/-- Write an SRAM word with fresh check bits (R300). -/
def State.sramWr (s : State) (k : Nat) (v : Word) : State :=
  { s with mem := { s.mem with sram := Cells.wr (fun _ => 0) s.mem.sram k v, sramErr := Cells.del s.mem.sramErr k } }

/-- Mark a stored error in an SRAM word. -/
def State.sramMark (s : State) (k e : Nat) : State :=
  { s with mem := { s.mem with sramErr := Cells.wr (fun _ => 0) s.mem.sramErr k e } }

/-- A master's write of an SRAM word: an armed MEM_INJ for its bank stores the word with bits flipped. -/
def State.sramWrM (s : State) (k : Nat) (v : Word) : State :=
  if s.getB Port.MEM_INJ 17 ∧ s.getF Port.MEM_INJ 11 6 = k / 16384 then
    let s1 := s.setB Port.MEM_INJ 17 false
    if s.getF Port.MEM_INJ 1 0 = 1 then (s1.sramWr k v).sramMark k 1 else
    if s.getF Port.MEM_INJ 1 0 = 2 then (s1.sramWr k (v ^^^ 3)).sramMark k 2 else s1.sramWr k v
  else s.sramWr k v

/-- Read a run of SRAM words. -/
def State.sramRds (s : State) (k n : Nat) : List Word := Cells.rds (fun _ => 0) s.mem.sram k n

/-- Write a run of SRAM words with fresh check bits. -/
def State.sramWrs (s : State) (k : Nat) : List Word → State
  | [] => s
  | v :: vs => (s.sramWr k v).sramWrs (k + 1) vs

/-- Zero the SRAM words whose bank meets a test, with matching check bits (R299). -/
def State.zeroBanks (s : State) (p : Nat → Bool) : State :=
  { s with mem := { s.mem with sram := Cells.keep (fun k => !p (k / 16384)) s.mem.sram,
                               sramErr := Cells.keep (fun k => !p (k / 16384)) s.mem.sramErr } }

/-- Zero the banks that take a domain (R299). -/
def State.zeroDomain (s : State) (d : Nat) : State :=
  s.zeroBanks fun b => match s.bankRole b with
    | some r => decide (r.dom = d)
    | none => false

/-! ## Context store (R108, R297) -/

/-- Slots of the context store: 256 a bank. -/
def State.ctxSlots (s : State) : Nat := s.roleBanks .ctx * 256

/-- Physical address of word `i` of a slot. -/
def State.slotWord (s : State) (slot i : Nat) : Nat := s.roleWord .ctx (slot * 64 + i)

/-! ## Mailbox (R307) -/

/-- Words of the mailbox. -/
def State.mbxWords (s : State) : Nat := s.roleBanks .mbx * 16384

/-- Physical address of a mailbox word. -/
def State.mbxAddr (s : State) (o : Nat) : Nat := s.roleWord .mbx o

/-- Read a mailbox word; a word outside the mailbox reads 0. -/
def State.mbxRd (s : State) (o : Nat) : Word := if o < s.mbxWords then s.sramRd (s.mbxAddr o) else 0

/-- Read a run of mailbox words. -/
def State.mbxRds (s : State) (o n : Nat) : List Word := (List.range n).map fun i => s.mbxRd (o + i)


/-! ## Flash (R308, R309) -/

/-- Words of a flash bank: FB_0-FB_3 448 K, FB_A 256 K. -/
def bankSize (b : Nat) : Nat := if b < 4 then 458752 else 262144

/-- Key of a flash word. -/
def flashKey (b o : Nat) : Nat := b * 524288 + o

/-- The stored flash word; erased reads 0o777_777 (R309).  (DESIGN CHOICE, log entry 7.) -/
def State.flashWord (s : State) (b o : Nat) : Word := Cells.rd (fun _ => 0o777777) s.mem.flash (flashKey b o)

/-- Mark of a flash word: 1 single-bit error, 2 uncorrectable, 3 content undefined, 4 programmed with all ones. -/
def State.flashBad (s : State) (b o : Nat) : Nat := Cells.rd (fun _ => 0) s.mem.flashErr (flashKey b o)

/-- The sector of an open intent of a bank, plus 1 (R318). -/
def State.openIntent (s : State) (b : Nat) : Nat := Cells.rd (fun _ => 0) s.flc.intents b

/-- A flash word's content is undefined: its program was cut or failed, or its sector's erase has an open intent
(R314, R319, R320). -/
def State.flashUndef (s : State) (b o : Nat) : Bool :=
  decide (s.flashBad b o = 3) || decide (s.openIntent b = o / 2048 + 1)

/-- What a read of a flash word returns; none for an uncorrectable error (R309).  An undefined word reads a free
value, or a free bit makes it uncorrectable (R319, log entry 1). -/
def State.flashRd (s : State) (b o : Nat) : Option Word × State :=
  if s.flashUndef b o then
    (if Config.freeBit s.free then none else some (Config.freeWord s.free), s.nextFree)
  else if s.flashBad b o = 2 then (none, s) else (some (s.flashWord b o), s)

/-- Set a flash word, with fresh check bits.  (UNVERIFIED, log entry 53.) -/
def State.flashSet (s : State) (b o : Nat) (v : Word) : State :=
  { s with mem := { s.mem with
      flash := Cells.wr (fun _ => 0o777777) s.mem.flash (flashKey b o) v,
      flashErr := Cells.wr (fun _ => 0) s.mem.flashErr (flashKey b o) (if v = 0o777777 then 4 else 0) } }

/-- Mark a flash word. -/
def State.flashMark (s : State) (b o e : Nat) : State :=
  { s with mem := { s.mem with flashErr := Cells.wr (fun _ => 0) s.mem.flashErr (flashKey b o) e } }

/-- Every cell of a flash word is erased (R314); open where the word's content is undefined. -/
def State.flashErased (s : State) (b o : Nat) : Bool :=
  if s.flashUndef b o then Config.freeBit s.free
  else decide (s.flashWord b o = 0o777777) && decide (s.flashBad b o = 0)

/-- Erase a sector: every word reads erased. -/
def State.eraseWords (s : State) (b sec : Nat) : State :=
  let inSec := fun k => decide (k / 524288 = b) && decide (k % 524288 / 2048 = sec)
  { s with mem := { s.mem with flash := Cells.keep (fun k => !inSec k) s.mem.flash,
                               flashErr := Cells.keep (fun k => !inSec k) s.mem.flashErr } }

end Sys2Proof.Machine
end

