-- ==== Sys2Proof/Machine/Rig.lean ====
section
/-! DEFINITION. The Rig: its format (R31-R36, R463), the acceptance checks of R37-R39 and reading a field of the
accepted Rig with the defaults of R36. -/

namespace Sys2Proof.Machine

open Sys2Proof

/-! ## Life-cycle state and fuses (R351-R353) -/

/-- A fuse value read by majority (R351). -/
def Tri.maj {n : Nat} (t : Tri n) : BitVec n := (t.a &&& t.b) ||| (t.a &&& t.c) ||| (t.b &&& t.c)

/-- Bits in which the three copies agree. -/
def Tri.agree {n : Nat} (t : Tri n) : BitVec n := (t.a &&& t.b &&& t.c) ||| ~~~(t.a ||| t.b ||| t.c)

/-- The identity and key values as sensed (R351). -/
def Fuses.lot0 (f : Fuses) : Word := f.lot0Tri.maj
def Fuses.lot1 (f : Fuses) : Word := f.lot1Tri.maj
def Fuses.wafer (f : Fuses) : BitVec 6 := f.waferTri.maj
def Fuses.die (f : Fuses) : Word := f.dieTri.maj
def Fuses.part (f : Fuses) : Word := f.partTri.maj
def Fuses.okh (f : Fuses) : Option (BitVec 256) := f.okhTri.map Tri.maj
def Fuses.duk (f : Fuses) : BitVec 256 := f.dukTri.maj

/-- A word of a 256-bit fuse value has three copies that agree nowhere (R352). -/
def Tri.wordBad (t : Tri 256) : Bool := (splitWords 15 t.agree.toNat).any fun w => decide (w = 0)

/-- The three copies of an identity or key word disagree in every bit position (R352). -/
def Fuses.wordBad (f : Fuses) : Bool :=
  [f.lot0Tri, f.lot1Tri, f.dieTri, f.partTri].any (fun t => decide (t.agree = 0)) || decide (f.waferTri.agree = 0) ||
    f.dukTri.wordBad || (match f.okhTri with
      | some t => t.wordBad
      | none => false)

/-- The life-cycle state: the highest target whose DONE fuse is programmed (R353). -/
def Fuses.lifeCycle (f : Fuses) : Nat :=
  if f.done.getLsbD 3 then 3 else if f.done.getLsbD 2 then 2 else if f.done.getLsbD 1 then 1 else 0

/-- The targets with an open intent: INTENT without DONE. -/
def Fuses.openIntents (f : Fuses) : List Nat :=
  [1, 2, 3].filter fun t => f.intent.getLsbD t && !f.done.getLsbD t

/-- FUSE_ERR at fuse sensing (R352). -/
def Fuses.err (f : Fuses) : Nat :=
  if f.wordBad then 1 else
  if [1, 2, 3].any (fun t => f.done.getLsbD t && !f.intent.getLsbD t) ∨ 1 < f.openIntents.length then 2 else
  if f.dukBad then 3 else 0

/-! ## Sections -/

/-- Magic value of header word 0 (R31). -/
abbrev rigMagic : Word := 0o516267

/-- A section: its type, body and framing words (R32). -/
structure RigSection where
  typ : Nat
  body : List Word
  head0 : Word
  head1 : Word
  crc0 : Word
  crc1 : Word
  deriving DecidableEq, Repr

/-- CRC words of a list of words (R33). -/
def crcWords (ws : List Word) : Word × Word :=
  let c := crc32c (octetForm ws)
  (c.extractLsb' 0 18, (c.extractLsb' 18 14).setWidth 18)

/-- Stored CRC words match (R33). -/
def crcOk (ws : List Word) (c0 c1 : Word) : Bool :=
  decide ((crcWords ws).1 = c0) && decide (fld (crcWords ws).2 13 0 = fld c1 13 0)

/-- Outcome of the walk over the sections: the sections passed, and a CRC failure or an overrun's type. -/
structure RigWalk where
  secs : List RigSection
  crcBad : Option Nat
  overrun : Option Nat
  deriving DecidableEq, Repr

/-- Walk the sections from the first (R37): `ws` are the words between header and trailer. -/
def rigWalk : Nat → List Word → RigWalk
  | 0, _ => { secs := [], crcBad := none, overrun := none }
  | _ + 1, [] => { secs := [], crcBad := none, overrun := none }
  | _ + 1, [_] => { secs := [], crcBad := none, overrun := some 0 }
  | n + 1, h0 :: h1 :: r =>
    let len := fld h1 13 0
    let typ := fld h0 17 12
    if r.length < len + 2 then { secs := [], crcBad := none, overrun := some typ } else
    let body := r.take len
    let c0 := r.getD len 0
    let c1 := r.getD (len + 1) 0
    if crcOk (h0 :: h1 :: body) c0 c1 = false then { secs := [], crcBad := some typ, overrun := none } else
    let w := rigWalk n (r.drop (len + 2))
    { w with secs := { typ := typ, body := body, head0 := h0, head1 := h1, crc0 := c0, crc1 := c1 } :: w.secs }

/-- LENGTH of a Rig (R31). -/
def rigLength (ws : List Word) : Nat := fld (ws.getD 2 0) 14 0
/-- SIGNED of a Rig. -/
def rigSigned (ws : List Word) : Bool := bitOf (ws.getD 3 0) 17
/-- MEMBER of a Rig. -/
def rigMember (ws : List Word) : Nat := fld (ws.getD 1 0) 17 12
/-- COUNT of a Rig. -/
def rigCount (ws : List Word) : Nat := fld (ws.getD 3 0) 5 0
/-- Serial of a Rig. -/
def rigSerial (ws : List Word) : Nat := joinWords [ws.getD 4 0, ws.getD 5 0]
/-- Words that a signature covers: header word 0 to the last word before the trailer (R34). -/
def rigCovered (ws : List Word) : List Word :=
  (ws.take (rigLength ws)).take (rigLength ws - (if rigSigned ws then 64 else 0))
/-- The sections of a Rig. -/
def rigSections (ws : List Word) : RigWalk := rigWalk ws.length ((rigCovered ws).drop 8)
/-- The body of a section of a type. -/
def rigBody (ws : List Word) (t : Nat) : Option (List Word) :=
  ((rigSections ws).secs.find? fun x => decide (x.typ = t)).map (·.body)

/-! ## Defaults of absent sections (R36) -/

/-- Default body of a section; the BASIN default depends on DRAM_DENSITY. -/
def defaultBody (dram : Bool) (t : Nat) : List Word :=
  if t = 1 then [0, 0, 625] else
  if t = 2 then [inFld 5 0 8 ||| inFld 11 6 4 ||| inFld 17 12 16, inFld 5 0 6 ||| inFld 11 6 2 ||| inFld 17 12 1,
                 inFld 5 3 2, inFld 5 3 1 ||| inFld 8 6 2, 1536] else
  if t = 3 then [inFld 17 9 351, inFld 11 6 43, inFld 2 0 3 ||| inFld 5 3 3] else
  if t = 4 then [inFld 5 0 56 ||| inFld 11 6 4 ||| inFld 17 12 4, inFld 5 0 4 ||| inFld 8 6 2] else
  if t = 5 then [inFld 5 0 14 ||| inFld 11 6 2, 512, 1024] else
  if t = 6 then (if dram then [1, 32] else [0, 0]) else
  if t = 7 then 128 :: (List.replicate 128 [(0 : Word), inFld 17 9 511, 0]).flatten else
  if t = 8 then [0] else
  if t = 9 then [0o177777, 0o177776, 0o002254, 0, 0o37] else
  if t = 10 then 2 :: 2 :: List.replicate 56 0 else
  if t = 11 then [0, 0] else
  if t = 12 then [150, 500, inFld 5 0 32 ||| inFld 11 6 32 ||| inFld 17 12 16, inFld 5 0 32 ||| inFld 11 6 10] else
  if t = 14 then [0, 0, 0] else [0]

/-- DRAM_DENSITY of a Rig: 0 when MEMORY_PARTITION is absent. -/
def rigDensity (ws : List Word) : Nat :=
  match rigBody ws 2 with
  | some b => fld (b.getD 2 0) 2 0
  | none => 0

/-- The body of a section, or its default (R36). -/
def rigSec (ws : List Word) (t : Nat) : List Word := (rigBody ws t).getD (defaultBody (decide (rigDensity ws ≠ 0)) t)

/-- A field of a Rig. -/
def rigFld (ws : List Word) (t w hi lo : Nat) : Nat := fld ((rigSec ws t).getD w 0) hi lo

/-- A field of the accepted Rig. -/
def State.rigF (s : State) (t w hi lo : Nat) : Nat := rigFld s.rig.words t w hi lo

/-- Spill cells of the accepted Rig: SPILL_KCELLS x 1,024 (R204). -/
def State.spillCells (s : State) : Nat := s.rigF 6 1 11 0 * 1024

/-- Lanes, sequencers and SRAM banks of a Laniura member (00_scope, R38). -/
def memberLanes (m : Nat) : Nat := if m = 1 then 4 else if m = 2 then 16 else 64
def memberSeqs (m : Nat) : Nat := if m = 1 then 2 else if m = 2 then 4 else 16
def memberBanks (m : Nat) : Nat := if m = 1 then 6 else if m = 2 then 12 else 40

/-! ## Field ranges (R36, R463) -/

/-- A value lies in a range. -/
def inRange (lo hi v : Nat) : Bool := decide (lo ≤ v) && decide (v ≤ hi)

/-- Body length of a section (R463). -/
def secLen (t : Nat) (b : List Word) : Nat :=
  if t = 1 then 3 else if t = 2 then 5 else if t = 3 then 3 else if t = 4 then 2 else if t = 5 then 3 else
  if t = 6 then 2 else if t = 7 then 1 + 3 * fld (b.getD 0 0) 7 0 else if t = 8 then 1 + 2 * fld (b.getD 0 0) 11 0 else
  if t = 9 then 5 else if t = 10 then 58 else if t = 11 then 2 else if t = 12 then 4 else
  if t = 13 then 1 + 6 * fld (b.getD 0 0) 3 0 else 3

/-- Bits of a body word that the table of R36 names; in an entry of EVENT_WIRING those that its KIND uses, and all of
CHANNEL under KIND 4 (DEDUCED, log entry 134). -/
def secMask (t : Nat) (b : List Word) (w : Nat) : Word :=
  if t = 1 then [fieldMask 2 0, fieldMask 8 0, fieldMask 11 0].getD w 0 else
  if t = 2 then [fieldMask 17 0, fieldMask 17 0, fieldMask 5 0, fieldMask 8 0, fieldMask 13 0].getD w 0 else
  if t = 3 then [fieldMask 17 0, fieldMask 11 0, fieldMask 5 0].getD w 0 else
  if t = 4 then [fieldMask 17 0, fieldMask 8 0].getD w 0 else
  if t = 5 then fieldMask 11 0 else
  if t = 6 then [fieldMask 0 0, fieldMask 11 0].getD w 0 else
  if t = 7 then if w = 0 then fieldMask 7 0 else if w % 3 = 0 then fieldMask 11 0 else fieldMask 17 0 else
  if t = 8 then
    if w = 0 then fieldMask 11 0 else
    let k := fld (b.getD (if w % 2 = 1 then w else w - 1) 0) 17 15
    if w % 2 = 1 then
      if k = 1 then fieldMask 17 12 ||| fieldMask 8 0 else
      if k = 4 then fieldMask 17 15 ||| fieldMask 5 0 else fieldMask 17 15 ||| fieldMask 8 0
    else if k = 1 then fieldMask 5 0 ||| fieldMask 14 6 ||| fieldMask 17 17
    else if k = 4 then fieldMask 17 0 else fieldMask 5 0 else
  if t = 9 then if w < 4 then fieldMask 15 0 else fieldMask 4 0 else
  if t = 10 then if w < 2 then fieldMask 2 0 else if w < 50 then fieldMask 14 0 else fieldMask 6 0 else
  if t = 11 then [fieldMask 9 0, fieldMask 5 0].getD w 0 else
  if t = 12 then [fieldMask 8 0, fieldMask 11 0, fieldMask 17 0, fieldMask 11 0].getD w 0 else
  if t = 13 then
    if w = 0 then fieldMask 3 0 else
    [fieldMask 17 0, fieldMask 17 0, fieldMask 11 0, fieldMask 17 0, fieldMask 11 0, fieldMask 8 0].getD ((w - 1) % 6) 0
  else if w = 0 then fieldMask 2 0 else fieldMask 17 0

/-- A GPIO function code is listed (R445). -/
def gpioFunc (f : Nat) : Bool := decide (f ≤ 3) || inRange 8 11 f
/-- A front-end source code is listed (R100). -/
def fecSource (f : Nat) : Bool := decide (f ≤ 6) || inRange 8 16 f
/-- A producer number is listed (R421). -/
def producerOk (p : Nat) : Bool := inRange 0 7 p || inRange 13 220 p || inRange 224 262 p || inRange 264 271 p
/-- A task number is listed (R423). -/
def taskOk (t : Nat) : Bool := inRange 0 4 t || inRange 8 267 t
/-- A gate source is listed (R422). -/
def gateOk (g : Nat) : Bool := decide (g = 0) || inRange 64 171 g || inRange 176 179 g

/-- The fields of a section are in range (R36). -/
def secRanges (t : Nat) (b : List Word) : Bool :=
  let g := fun w hi lo => fld (b.getD w 0) hi lo
  if t = 1 then decide (g 0 2 0 ≤ 1) && decide (g 1 8 0 ≠ 256) && inRange 1 4000 (g 2 11 0) else
  if t = 2 then
    inRange 1 12 (g 0 5 0) && inRange 1 12 (g 0 11 6) && inRange 1 32 (g 0 17 12) && inRange 1 12 (g 1 5 0) &&
    (decide (g 1 11 6 = 0) || decide (g 1 11 6 = 2)) && decide (g 1 17 12 ≤ 1) && decide (g 2 2 0 ≤ 5) &&
    inRange 1 2 (g 2 5 3) && decide (g 3 2 0 ≤ 2) && decide (g 3 5 3 ≤ 2) && decide (g 3 8 6 ≤ 2) &&
    decide (g 3 2 0 ≠ g 3 5 3) && decide (g 3 2 0 ≠ g 3 8 6) && decide (g 3 5 3 ≠ g 3 8 6) &&
    inRange (g 1 5 0 * 256) 12288 (g 4 13 0) else
  if t = 3 then
    decide (g 0 17 9 ≤ 351) && decide (g 0 8 0 ≤ g 0 17 9) && decide (g 1 11 6 ≤ 43) &&
    decide (g 1 5 0 ≤ g 1 11 6) && decide (g 2 2 0 ≤ 3) && decide (g 2 5 3 ≤ 3) else
  if t = 4 then decide (g 1 5 0 ≤ 8) && decide (g 1 5 0 ≤ g 0 5 0 + g 0 11 6) && decide (g 1 8 6 ≤ 2) else
  if t = 5 then decide (1 ≤ g 0 5 0) && decide (g 1 11 0 ≤ 512) && decide (g 2 11 0 ≤ 1024) else
  if t = 7 then
    decide (g 0 7 0 ≤ 128) &&
    (List.range (g 0 7 0)).all fun q => decide (g (1 + 3 * q) 17 15 ≤ 3) && decide (g (2 + 3 * q) 8 0 ≤ g (2 + 3 * q) 17 9)
  else
  if t = 8 then
    decide (g 0 11 0 ≤ 1024) && (List.range (g 0 11 0)).all fun i => inRange 1 4 (g (1 + 2 * i) 17 15) else
  if t = 10 then
    decide (g 0 2 0 ≤ 2) && decide (g 1 2 0 ≤ 2) &&
    ((List.range 48).all fun n => gpioFunc (g (2 + n) 5 0) && decide (g (2 + n) 8 6 ≤ 3) &&
      decide (g (2 + n) 11 9 ≤ 3) && decide (g (2 + n) 14 12 ≤ 1)) &&
    ((List.range 8).all fun n => fecSource (g (50 + n) 5 0)) else
  if t = 11 then decide (g 0 2 0 ≤ 2) && (decide (g 0 2 0 = 0) || decide (1 ≤ g 0 5 3)) else
  if t = 12 then decide (20 ≤ g 0 8 0) && decide (10 ≤ g 1 11 0) && decide (g 3 11 6 ≤ 50) else
  if t = 13 then
    inRange 1 8 (g 0 3 0) &&
    (List.range (g 0 3 0)).all fun i =>
      decide (g (1 + 6 * i) 17 0 < g (2 + 6 * i) 17 0) && inRange 1 3600 (g (3 + 6 * i) 11 0) &&
      inRange 1 (min 262143 (g (3 + 6 * i) 11 0 * 1000)) (g (4 + 6 * i) 17 0) && decide (g (6 + 6 * i) 8 6 ≤ 1)
  else if t = 14 then decide (g 0 2 0 ≤ 1) else true

/-- A section passes FIELD_RANGE: framing bits, length, reserved bits and ranges (R32, R36, R463); an annotation is
ignored (R35).  A framing bit that is not zero counts as a reserved bit of its section (DEDUCED, log entry 133).  The
other STACK fields are not checked under ROLE 0. -/
def secFieldsOk (x : RigSection) : Bool :=
  decide (48 ≤ x.typ) ||
    (decide (fld x.head0 11 0 = 0) && decide (fld x.head1 17 14 = 0) && decide (fld x.crc1 17 14 = 0) &&
     decide (x.body.length = secLen x.typ x.body) &&
     ((List.range x.body.length).all fun w => decide (x.body.getD w 0 &&& ~~~(secMask x.typ x.body w) = 0)) &&
     (decide (15 ≤ x.typ) || secRanges x.typ x.body))

/-! ## Acceptance (R37-R39) -/

/-- What the check of a candidate needs beside its words. -/
structure RigContext where
  live : Bool
  field : Bool                 -- the life-cycle state is FIELD
  okh : Option (BitVec 256)
  stackId : Nat
  base : List Word             -- the accepted Rig, for a live fragment
  deriving DecidableEq, Repr

/-- The body a check reads for a section: the candidate's, else the accepted Rig's for a live fragment (DEDUCED, log entry 12),
else the default. -/
def ctxSec (c : RigContext) (ws : List Word) (t : Nat) : List Word :=
  match rigBody ws t with
  | some b => b
  | none => if c.live then rigSec c.base t else defaultBody (decide (rigDensity ws ≠ 0)) t

/-- Octets of nonet-packed words (R3, R34). -/
def nonetOctets (ws : List Word) : List Octet := ws.flatMap fun w => [w.extractLsb' 9 8, w.extractLsb' 0 8]

/-- A nonet of the words has its tag bit set. -/
def anyTag (ws : List Word) : Bool := ws.any fun w => bitOf w 17 || bitOf w 8

/-- A trailer's key and signature verify over a digest (R34). -/
def trailerVerifies (tr : List Word) (digest : BitVec 256) : Bool :=
  let o := nonetOctets tr
  !anyTag tr && ecdsaVerify (natBE (o.take 32)) (natBE ((o.drop 32).take 32)) (natBE ((o.drop 64).take 32))
    (natBE ((o.drop 96).take 32)) digest

/-- SHA-256 of a trailer's 64 key octets (R39). -/
def trailerKeyHash (tr : List Word) : BitVec 256 := sha256 ((nonetOctets tr).take 64)

/-- Pairs of distinct elements meet a relation. -/
def pairsAll {α : Type} (p : α → α → Bool) : List α → Bool
  | [] => true
  | a :: r => r.all (p a) && pairsAll p r

/-- The first repeated type among 1-14 in section order. -/
def dupType : List Nat → List Nat → Option Nat
  | _, [] => none
  | seen, t :: r => if 1 ≤ t ∧ t ≤ 14 ∧ t ∈ seen then some t else dupType (t :: seen) r

/-- Checks 17-26 of R37, in table order: the fault and the section recorded. -/
def crossCheck (c : RigContext) (ws : List Word) : Nat × Nat :=
  let g := fun t w hi lo => fld ((ctxSec c ws t).getD w 0) hi lo
  let m := rigMember ws
  let small := decide (m ≠ 3)
  let banks := g 2 0 5 0 + g 2 0 11 6 + g 2 0 17 12 + g 2 1 5 0 + g 2 1 11 6 + g 2 1 17 12
  let dens := g 2 2 2 0
  let gbit := [0, 2, 3, 4, 6, 8].getD dens 0
  let nq := g 7 0 7 0
  let masks := [g 9 0 15 0, g 9 1 15 0, g 9 2 15 0, g 9 3 15 0]
  let funcs := (List.range 48).map fun n => (n, g 10 (2 + n) 5 0)
  let role := g 11 0 2 0
  let bands := (List.range (g 13 0 3 0)).map fun i => (g 13 (1 + 6 * i) 17 0, g 13 (2 + 6 * i) 17 0)
  let wires := (List.range (g 8 0 11 0)).map fun i => ((ctxSec c ws 8).getD (1 + 2 * i) 0, (ctxSec c ws 8).getD (2 + 2 * i) 0)
  let chanOf := fun (e : Word × Word) => if fld e.1 17 15 = 4 then fld e.1 5 0 else fld e.2 5 0
  if 40 < banks ∨ memberBanks m < banks then (17, 2) else
  if memberLanes m < g 4 0 5 0 + g 4 0 11 6 + g 4 0 17 12 then (18, 4) else
  if memberSeqs m < g 5 0 5 0 + g 5 0 11 6 then (18, 5) else
  if dens ≠ 0 ∧ m = 3 ∧ gbit * 4194304 / 2 < 131072 + g 6 1 11 0 * 1024 then (19, 6) else
  if g 2 0 17 12 * 2048 < ((List.range nq).map fun q => g 7 (1 + 3 * q) 14 0).sum then (20, 7) else
  if (dens = 0 ∧ (g 6 0 0 0 = 1 ∨ g 2 1 5 0 * 256 < g 2 4 13 0)) ∨ (dens ≠ 0 ∧ small) then (21, 2) else
  if masks.any (fun k => k.testBit 6 && !k.testBit 5) ∨ masks.getD 3 0 ≠ 0 ∨ (masks.getD 1 0).testBit 0 then (22, 9) else
  if (g 3 2 2 0 ≠ 0 ∨ g 3 2 5 3 ≠ 0) ∧ g 2 1 11 6 = 0 then (22, 2) else
  if pairsAll (fun a b => !(decide (8 ≤ a.2) && decide (a.2 = b.2))) funcs = false ∨
     funcs.any (fun a => decide (a.2 = 8) && decide (g 10 (if a.1 < 24 then 0 else 1) 2 0 ≠ 0)) then (23, 10) else
  if (rigBody ws 11).isSome ∧ (small ∨ (role = 2 ∧ c.stackId ≠ 0) ∨ (role = 1 ∧ c.stackId = 0) ∨
     (role ≠ 0 ∧ g 11 0 5 3 < c.stackId)) then (24, 11) else
  if bands.any (fun b => !((decide (34000 ≤ b.1) && decide (b.2 ≤ 37400)) ||
    (decide (95200 ≤ b.1) && decide (b.2 ≤ 100000)))) ∨
     pairsAll (fun a b => decide (a.2 ≤ b.1) || decide (b.2 ≤ a.1)) bands = false then (25, 13) else
  if wires.any (fun e => decide (47 < chanOf e) ||
       (decide (fld e.1 17 15 = 1) && !(producerOk (fld e.1 8 0) && gateOk (fld e.2 14 6))) ||
       ((decide (fld e.1 17 15 = 2) || decide (fld e.1 17 15 = 3)) && !taskOk (fld e.1 8 0))) ∨
     pairsAll (fun a b =>
       !(decide (fld a.1 17 15 = fld b.1 17 15) &&
         (if fld a.1 17 15 = 1 ∨ fld a.1 17 15 = 4 then decide (chanOf a = chanOf b)
          else decide (fld a.1 8 0 = fld b.1 8 0)))) wires = false then (26, 8)
  else (0, 0)

/-- Checks 27-29 of a live fragment. -/
def liveCheck (c : RigContext) (ws : List Word) (secs : List RigSection) : Nat × Nat :=
  match secs.find? fun x => !(decide (x.typ = 7) || decide (x.typ = 8) || decide (x.typ = 12) || decide (48 ≤ x.typ)) with
  | some x => (27, x.typ)
  | none =>
    let old := rigSec c.base 7
    let new := ctxSec c ws 7
    if (List.range (max old.length new.length)).any (fun w =>
        !(decide (w ≠ 0) && decide (w % 3 = 2)) && decide (old.getD w 0 ≠ new.getD w 0)) then (28, 7) else
    if rigMember ws ≠ rigMember c.base ∨ rigSerial ws ≠ rigSerial c.base then (29, 0) else (0, 0)

/-- The checks of R37 on a candidate's words, in the order of the table: the fault code and the section recorded. -/
def rigCheck (c : RigContext) (ws : List Word) : Nat × Nat :=
  let len := rigLength ws
  let w := rigSections ws
  let types := w.secs.map (·.typ)
  let tr := (ws.take len).drop (len - 64)
  let digest := sha256 (octetForm (rigCovered ws))
  let x := crossCheck c ws
  if ws.getD 0 0 ≠ rigMagic then (1, 0) else
  if crcOk (ws.take 6) (ws.getD 6 0) (ws.getD 7 0) = false then (3, 0) else
  if fld (ws.getD 1 0) 11 6 ≠ 1 then (4, 0) else
  if rigMember ws = 0 ∨ 3 < rigMember ws then (5, 0) else
  if len < 12 ∨ 16384 < len ∨ ws.length < len ∨ (rigSigned ws ∧ len < 72) then (6, 0) else
  if bitOf (ws.getD 3 0) 16 ≠ c.live then (7, 0) else
  match w.crcBad with
  | some t => (8, t)
  | none =>
  match w.overrun with
  | some t => (9, if rigCount ws = 0 then 0 else t)
  | none =>
  if rigCount ws = 0 ∨ types.length ≠ rigCount ws then (9, 0) else
  match types.find? fun t => decide (t = 0) || inRange 15 47 t with
  | some t => (10, t)
  | none =>
  match dupType [] types with
  | some t => (11, t)
  | none =>
  if c.field ∧ rigSigned ws = false then (12, 0) else
  if rigSigned ws ∧ c.okh.isSome ∧ c.okh ≠ some (trailerKeyHash tr) then (13, 0) else
  if rigSigned ws ∧ trailerVerifies tr digest = false then (14, 0) else
  if c.live = false ∧ 13 ∉ types then (15, 13) else
  if fld (ws.getD 2 0) 17 15 ≠ 0 ∨ fld (ws.getD 3 0) 15 6 ≠ 0 ∨ fld (ws.getD 7 0) 17 14 ≠ 0 then (16, 0) else
  match w.secs.find? fun s => !secFieldsOk s with
  | some s => (16, s.typ)
  | none =>
  if x.1 ≠ 0 then x else
  if c.live then liveCheck c ws w.secs else (0, 0)

/-- RIG_SECTIONS PRESENT: bit t - 1 for each type t of 1-14 present. -/
def rigPresent (ws : List Word) : Word :=
  (rigSections ws).secs.foldl (fun a x => if 1 ≤ x.typ ∧ x.typ ≤ 14 then a ||| BitVec.twoPow 18 (x.typ - 1) else a) 0

/-- RIG_STAT LIVE: 0 idle, 1 busy, 2 applied, 3 refused. -/
def State.liveState (s : State) : Nat := s.getF Port.RIG_STAT 5 3

/-- A mailbox word is protected while a fragment that holds it is checked (R45). -/
def State.mbxProtected (s : State) (o : Nat) : Bool :=
  let a := s.getF Port.RIG_LIVE_ADDR 13 0
  decide (s.liveState = 1) && decide (a ≤ o) && decide (o < a + rigLength s.rig.live)

/-- Write a run of mailbox words, within the mailbox; a protected word keeps its content (R45). -/
def State.mbxWrs (s : State) (o : Nat) : List Word → State
  | [] => s
  | v :: vs => (if decide (o < s.mbxWords) && !s.mbxProtected o then s.sramWr (s.mbxAddr o) v else s).mbxWrs (o + 1) vs

/-- The digest of R34's signed words. -/
def rigDigest (ws : List Word) : BitVec 256 := sha256 (octetForm (rigCovered ws))

end Sys2Proof.Machine
end

