-- ==== Sys2Proof/Machine/Dram.lean ====
section
/-! DEFINITION. The DRAM as the other blocks see it: blocks, tags and stored errors (R324, R325), the regions of the
map (R327), whether it is available (R238), and the freeze (R333). -/

namespace Sys2Proof.Machine

open Sys2Proof

/-- Blocks of the device: 4,194,304 per Gbit of DRAM_DENSITY (R37, R327). -/
def State.dramBlocks (s : State) : Nat := [0, 2, 3, 4, 6, 8].getD (s.rigF 2 2 2 0) 0 * 4194304

/-- First block of the spill area (R327). -/
abbrev spillBase : Nat := 131072

/-- DB: the end of the spill area rounded up to 65,536 blocks (R327). -/
def State.dramDataBase (s : State) : Nat := (spillBase + s.spillCells + 65535) / 65536 * 65536

/-- First block and block count of a core's data region (R327). -/
def State.dramRegion (s : State) : Core → Nat × Nat
  | .lkc => (s.dramDataBase, min (s.getF Port.DMC_CFG 8 0 * 65536) (s.dramBlocks - s.dramDataBase))
  | .apc =>
    let e := s.dramDataBase + min (s.getF Port.DMC_CFG 8 0 * 65536) (s.dramBlocks - s.dramDataBase)
    (e, s.dramBlocks - e)

/-- DMC_STAT STATE (R328). -/
def State.dmcState (s : State) : Nat := s.getF Port.DMC_STAT 17 15

/-- TRM_STAT DRAM: 0 no DRAM, 1 not trained, 2 available, 3 frozen (R238, R328, R329). -/
def State.dramCode (s : State) : Nat :=
  if s.rigF 2 2 2 0 = 0 then 0 else
  if s.dmcState = 4 ∨ s.dmcState = 5 then 2 else if s.dmcState = 6 then 3 else 1

/-- DRAM is available to trim, the Basin and the cores. -/
def State.dramUp (s : State) : Bool := decide (s.dramCode = 2)

/-- Run an operation and raise TRM_DRAM when it changed TRM_STAT DRAM (R238). -/
def State.noteDram (s : State) (f : State → State) : State :=
  if (f s).dramCode = s.dramCode then f s else (f s).raise Irq.TRM_DRAM

/-- Set a flag of DMC_FLAGS; every flag raises DMC_EVT. -/
def State.dmcFlag (s : State) (b : Nat) : State := (s.setB Port.DMC_FLAGS b true).raise Irq.DMC_EVT

/-- A word of a block.  (DESIGN CHOICE, log entry 8.) -/
def State.dramWord (s : State) (b i : Nat) : Word := Cells.rd (fun _ => 0) s.mem.dram (b * 12 + i)

/-- The twelve words of a block. -/
def State.dramRds (s : State) (b : Nat) : List Word := Cells.rds (fun _ => 0) s.mem.dram (b * 12) 12

/-- Stored errors of a block: bits 0-2 groups with a single-bit error, 3-5 with a double-bit error, 6 and 7 the tag. -/
def State.dramBad (s : State) (b : Nat) : Nat := Cells.rd (fun _ => 0) s.mem.dramErr b

/-- Write a block's words from a list, with fresh check bits and a tag (R325). -/
def State.dramWr (s : State) (b : Nat) (ws : List Word) (owner : Nat) (epoch : BitVec 6) : State :=
  { s with mem := { s.mem with
      dram := Cells.wrs (fun _ => 0) s.mem.dram (b * 12) ws,
      dramTag := Cells.wr (fun _ => 0) s.mem.dramTag b (owner * 64 + epoch.toNat),
      dramErr := Cells.del s.mem.dramErr b } }

/-- The tag bits [255:240] of a block as DMC_FRZ_TAG shows them, without its check bits (R324). -/
def State.dramTagBits (s : State) (b : Nat) : BitVec 16 :=
  let t := Cells.rd (fun _ => 0) s.mem.dramTag b
  BitVec.ofNat 16 ((t / 64 % 8) * 2048 + (t % 64) * 32)

/-! ## Bank, row and burst column of a block (R326) -/

def dramBank (b : Nat) : Nat := b / 64 % 8
def dramRow (b : Nat) : Nat := b / 512 % 65536
def dramCol (b : Nat) : Nat := b % 64

/-- The two words of a command in DMC_FRZ_LOG: its code, port, gap and the block it addresses (R326, R333); `other` is
ADDR for the codes that address no block. -/
def frzWords (kind port gap b other : Nat) : List Word :=
  [inFld 17 15 kind ||| inFld 14 12 (dramBank b) ||| inFld 11 9 port ||| inFld 8 0 gap,
   if kind = 0 then inFld 15 0 (dramRow b) else if kind = 1 ∨ kind = 2 then inFld 5 0 (dramCol b) else
   if kind = 5 then inFld 13 0 other else BitVec.ofNat 18 other]

/-- A command of the log that is open: its block is one of the device (log entry 13). -/
def State.freeLog (s : State) (i : Nat) : List Word :=
  let x := Config.freeNat (s.free + 2 * i)
  let port := if x / 8 % 7 = 6 then 7 else x / 8 % 7
  frzWords (x % 8) port (x / 56 % 512) (Config.freeNat (s.free + 2 * i + 1) % max 1 s.dramBlocks) (x / 28672 % 262144)

/-- DMC_FRZ_LOG at a freeze: the commands before it are open; the last one of a data error is the read of the failing block
(DEDUCED, log entry 13). -/
def State.frzLog (s : State) (cause port block : Nat) : List Word :=
  (List.range 15).flatMap s.freeLog ++
    (if cause ≤ 3 then frzWords 1 port (Config.freeNat (s.free + 30) % 512) block 0 else s.freeLog 15)

/-- A freeze (R333): the controller stalls its ports, records the cause and the failing block, and DRAM is
unavailable (R238). -/
def State.dmcFreezeOp (s : State) (cause port groups block tag : Nat) : State :=
  if s.dmcState ≠ 3 ∧ s.dmcState ≠ 4 then s else
  s.noteDram fun s =>
    let s1 := { s with dmc := { s.dmc with frozeFrom := s.dmcState } }
    let s2 := (((s1.setF Port.DMC_STAT 17 15 6).set Port.DMC_FRZ_CAUSE
        (inFld 17 15 cause ||| inFld 14 12 port ||| inFld 11 9 groups)).setWide Port.DMC_FRZ_ADDR_0 2 block).set
      Port.DMC_FRZ_TAG (BitVec.ofNat 18 tag)
    let s3 := (indexed (s.frzLog cause port block)).foldl (fun t x => t.set (Port.DMC_FRZ_LOG x.1) x.2) s2
    (({ s3 with free := s.free + 32 }).count Port.DMC_FRZCNT).dmcFlag 4

/-- A port's request leaves self-refresh; a request of another port than P_MNT puts off the next entry (R328).
(DEDUCED, log entry 166.) -/
def State.dramWake (s : State) (port : Nat) : State :=
  let t := if port < 5 then { s with dmc := { s.dmc with usedAt := s.time.wall } } else s
  if s.dmcState = 5 then t.setF Port.DMC_STAT 17 15 4 else t

/-- The words of a block with both nonets of every word of the failing groups tagged (R238). -/
def tagGroups (groups : Nat) (ws : List Word) : List Word :=
  (indexed ws).map fun x => if groups.testBit (x.1 / 4) then x.2 ||| 0o400400 else x.2

/-- A block's tag decodes to an OWNER other than the port's own or 0; P_MNT accepts every OWNER (R325). -/
def State.ownerWrong (s : State) (port b : Nat) : Bool :=
  let o := Cells.rd (fun _ => 0) s.mem.dramTag b / 64
  decide (port < 4) && decide (o ≠ 0) && decide (o ≠ [3, 4, 1, 2].getD port 0)

/-- A port's read of a block (R325), which ends self-refresh: single-bit errors are corrected and counted; an
uncorrectable group returns tagged and then the freeze takes hold (R238). -/
def State.dramRead (s0 : State) (port b : Nat) : List Word × State :=
  let s := s0.dramWake port
  let e := s.dramBad b
  let s1 := if e % 8 ≠ 0 ∨ e.testBit 6 then s.count Port.DMC_CECNT else s
  let g := e / 8 % 8
  if g ≠ 0 then (tagGroups g (s.dramRds b), s1.dmcFreezeOp 1 port g b (s.dramTagBits b).toNat)
  else if e.testBit 7 then (s.dramRds b, s1.dmcFreezeOp 2 port 0 b (s.dramTagBits b).toNat)
  else if s.ownerWrong port b then (s.dramRds b, s1.dmcFreezeOp 3 port 0 b (s.dramTagBits b).toNat)
  else (s.dramRds b, s1)

/-- Enqueue a request at a port, when its queue of 16 has room (R331). -/
def State.dramRequest (s : State) (r : DramReq) : State :=
  if 16 ≤ (s.dmc.queue.filter fun x => decide (x.port = r.port)).length then s
  else { s with dmc := { s.dmc with queue := s.dmc.queue ++ [r] } }

end Sys2Proof.Machine
end

