-- ==== Sys2Proof/Machine/Basin.lean ====
section
/-! DEFINITION. The Basin (R202-R225): cells, packets, queues, watermarks, commits, spill and refill, and the damage
rules.  Its banked commands are in BasinOps.lean. -/

namespace Sys2Proof.Machine

open Sys2Proof

/-! ## Cells (R202-R206) -/

/-- SRAM cells of the pool (R202). -/
def State.poolCells (s : State) : Nat := s.roleBanks .bsn * 2048

/-- Physical address of word `i` of SRAM cell `c`. -/
def State.cellAddr (s : State) (c i : Nat) : Nat := s.roleWord .bsn (8 * c + i)

/-- A word with both nonets 0x00 tagged (R208, R240). -/
abbrev lostWord : Word := 0o400400

/-- The stored word `i` of a cell. -/
def State.cellWord (s : State) (l : CellLoc) (i : Nat) : Word :=
  match l with
  | .sram c => s.sramRd (s.cellAddr c i)
  | .dram d => s.dramWord (spillBase + d) i
  | .held n => Cells.rd (fun _ => 0) s.basin.held (8 * n + i)
  | .lost => lostWord

/-- Read a payload word of a cell with the damage rules of R208: a corrected word counts in ECCCNT; an uncorrectable
word is delivered with both nonets tagged and counts in TAGCNT. -/
def State.cellRead (s : State) (l : CellLoc) (i : Nat) : Word × State :=
  match l with
  | .sram c =>
    let e := s.sramBad (s.cellAddr c i)
    if e = 1 then (s.cellWord l i, s.count Port.BSN_ECCCNT) else
    if e = 2 then (s.cellWord l i ||| lostWord, s.count Port.BSN_TAGCNT) else (s.cellWord l i, s)
  | _ => (s.cellWord l i, s)

/-- A cell reads at once: it does not lie in DRAM. -/
def CellLoc.near : CellLoc → Bool
  | .dram _ => false
  | _ => true

/-- Cells a packet of a LEN occupies (R205). -/
def cellsOf (len : Nat) : Nat := 1 + (len + 15) / 16

/-- The header cell of a packet. -/
def Pkt.head (p : Pkt) : CellLoc := p.cells.headD .lost

/-- A header word as it stands, under R208: H0 is rebuilt from the link entry when its word is lost; any other lost
word reads as zero; both set HDR_DMG. -/
def State.headerWord (s : State) (p : Pkt) (i : Nat) : Word :=
  match p.head with
  | .sram c =>
    let bad := fun j => decide (s.sramBad (s.cellAddr c j) = 2)
    let anyBad := (List.range 8).any bad
    if i = 0 then
      let w := if bad 0 then inFld 13 0 p.len else s.cellWord p.head 0
      if anyBad then withBit w 16 true else w
    else if bad i then 0 else s.cellWord p.head i
  | .dram _ => s.cellWord p.head i
  | .held _ => s.cellWord p.head i
  | .lost => if i = 0 then inFld 13 0 p.len ||| inFld 16 16 1 else 0

/-- The eight header words. -/
def State.header (s : State) (p : Pkt) : List Word := (List.range 8).map (s.headerWord p)

/-- Reading a header corrects and counts its words with a single-bit error (R302). -/
def State.headerSeen (s : State) (p : Pkt) : State :=
  match p.head with
  | .sram c => forNat 8 (fun i t => if s.sramBad (s.cellAddr c i) = 1 then t.count Port.BSN_ECCCNT else t) s
  | _ => s

/-- Write a header word in place. -/
def State.setHeader (s : State) (p : Pkt) (i : Nat) (v : Word) : State :=
  match p.head with
  | .sram c => s.sramWr (s.cellAddr c i) v
  | .dram d => { s with mem := { s.mem with dram := Cells.wr (fun _ => 0) s.mem.dram ((spillBase + d) * 12 + i) v } }
  | .held n => { s with basin := { s.basin with held := Cells.wr (fun _ => 0) s.basin.held (8 * n + i) v } }
  | .lost => s

/-- Write header words from word `i` on. -/
def State.setHeaders (s : State) (p : Pkt) (i : Nat) : List Word → State
  | [] => s
  | v :: r => (s.setHeader p i v).setHeaders p (i + 1) r

/-- The location of payload word `w` (R205). -/
def Pkt.payCell (p : Pkt) (w : Nat) : CellLoc := p.cells.getD (w / 8 + 1) .lost

/-- A cell's payload word as it is delivered: an uncorrectable word with both nonets tagged (R208). -/
def State.cellShown (s : State) (l : CellLoc) (i : Nat) : Word :=
  match l with
  | .sram c => if s.sramBad (s.cellAddr c i) = 2 then s.cellWord l i ||| lostWord else s.cellWord l i
  | _ => s.cellWord l i

/-- Cut the later nonet from the last word of an odd LEN (R215). -/
def Pkt.cutOdd (p : Pkt) (w : Nat) (v : Word) : Word := if 2 * w + 1 = p.len then withFld v 8 0 0 else v

/-- Payload word `w` as stored, and as delivered. -/
def State.payStored (s : State) (p : Pkt) (w : Nat) : Word := p.cutOdd w (s.cellWord (p.payCell w) (w % 8))
def State.payWord (s : State) (p : Pkt) (w : Nat) : Word := p.cutOdd w (s.cellShown (p.payCell w) (w % 8))

/-- Read payload word `w` with the damage rules. -/
def State.payRead (s : State) (p : Pkt) (w : Nat) : Word × State :=
  let r := s.cellRead (p.payCell w) (w % 8)
  (p.cutOdd w r.1, r.2)

/-- Read the first `n` payload words with the damage rules. -/
def State.payReads (s : State) (p : Pkt) (n : Nat) : List Word × State :=
  (List.range n).foldl (fun (a : List Word × State) w => let r := a.2.payRead p w; (a.1 ++ [r.1], r.2)) ([], s)

/-- The payload nonets of words, to LEN of them. -/
def nonetsOf (len : Nat) (ws : List Word) : List Nonet :=
  (ws.flatMap fun w => [(nonets w).1, (nonets w).2]).take len

/-- Pack nonets into words, earlier nonet first. -/
def packNonets : List Nonet → List Word
  | [] => []
  | [a] => [ofNonets a 0]
  | a :: b :: r => ofNonets a b :: packNonets r

/-- The payload octets of a packet, as a hardware reader takes them. -/
def State.payOctets (s : State) (p : Pkt) : List Octet × State :=
  let r := s.payReads p ((p.len + 1) / 2)
  ((nonetsOf p.len r.1).map fun n => n.extractLsb' 0 8, r.2)

/-- Some payload nonet has tag bit 1: as stored (H1 DMG, R205), and as delivered to a reader (R208). -/
def State.payTagged (s : State) (p : Pkt) : Bool :=
  (nonetsOf p.len ((List.range ((p.len + 1) / 2)).map (s.payStored p))).any fun n => n.msb
def State.payDamaged (s : State) (p : Pkt) : Bool :=
  (nonetsOf p.len ((List.range ((p.len + 1) / 2)).map (s.payWord p))).any fun n => n.msb

/-! ## Occupancy and taking cells (R209, R210) -/

/-- A queue is configured (R209). -/
def State.queueUp (s : State) (q : Nat) : Bool := s.getB (Port.BSN_Q_STAT q) 17

/-- OWNER of a queue. -/
def State.queueOwner (s : State) (q : Nat) : Nat := s.getF (Port.BSN_Q_CFG q) 17 15

/-- SRAM cells charged to a queue (R210). -/
def State.occupancy (s : State) (q : Nat) : Nat := Cells.count (fun v => decide (v = q + 2)) s.basin.used

/-- Free SRAM cells. -/
def State.freeCells (s : State) : Nat := s.poolCells - s.basin.used.length

/-- U of R210: what the other queues' reservations still claim. -/
def State.claimed (s : State) (q : Nat) : Nat :=
  ((List.range 128).map fun p =>
    if p = q then 0 else s.getF (Port.BSN_Q_CFG p) 14 0 - s.occupancy p).sum

/-- A request for an SRAM cell toward a queue is granted (R210). -/
def State.cellGranted (s : State) (q : Nat) : Bool :=
  decide (0 < s.freeCells) &&
    (decide (s.occupancy q < s.getF (Port.BSN_Q_CFG q) 14 0) || decide (s.claimed q < s.freeCells))

/-- Charge an SRAM cell: 0 frees it, 1 leaves it in use uncharged, q + 2 charges it to queue q. -/
def State.charge (s : State) (c v : Nat) : State :=
  { s with basin := { s.basin with used := Cells.wr (fun _ => 0) s.basin.used c v } }

/-- Mark a spill cell: 0 free, 1 in use, 2 awaiting reclaim. -/
def State.chargeD (s : State) (d v : Nat) : State :=
  { s with basin := { s.basin with dused := Cells.wr (fun _ => 0) s.basin.dused d v } }

/-- Charge each SRAM cell of a list. -/
def State.chargeAll (s : State) (v : Nat) (l : List CellLoc) : State :=
  forEach l (fun x t => match x with
    | .sram c => t.charge c v
    | _ => t) s

/-- Free a list of cells: SRAM cells at once, DRAM cells when DRAM is next available (R222). -/
def State.freeAll (s : State) (l : List CellLoc) : State :=
  forEach l (fun x t => match x with
    | .sram c => t.charge c 0
    | .dram d => t.chargeD d 2
    | .held n => { t with basin := { t.basin with held := Cells.keep (fun k => decide (k / 8 ≠ n)) t.basin.held } }
    | .lost => t) s

/-- A queue's event flag (HIGH_EV 1, LOW_EV 2, IDLE_EV 3, BROKEN 4). -/
def State.queueFlag (s : State) (q b : Nat) : State := s.setB (Port.BSN_Q_STAT q) b true

/-- HIGH_MARK and LOW_MARK in cells; none when the marks are off (R218). -/
def State.marks (s : State) (q : Nat) : Option (Nat × Nat) :=
  let h := s.getF (Port.BSN_Q_MARK q) 17 9
  if h = 511 then none else some (h * 64, s.getF (Port.BSN_Q_MARK q) 8 0 * 64)

/-- Raise the watermark events of a queue whose occupancy was `old` (R218). -/
def State.checkMarks (s : State) (q old : Nat) : State :=
  match s.marks q with
  | none => s
  | some (h, l) =>
    let now := s.occupancy q
    let high := s.getB (Port.BSN_Q_STAT q) 16
    if high = false ∧ old < h ∧ h ≤ now then
      ((s.queueFlag q 1).setB (Port.BSN_Q_STAT q) 16 true).raise Irq.BSN_HIGH
    else if high ∧ now ≤ l then
      ((s.queueFlag q 2).setB (Port.BSN_Q_STAT q) 16 false).raise Irq.BSN_LOW
    else s

/-- Run an operation and then raise the watermark events of a queue. -/
def State.marked (s : State) (q : Nat) (f : State → State) : State := (f s).checkMarks q (s.occupancy q)

/-- The cell a request takes: the lowest free one (DESIGN CHOICE, log entry 14). -/
def State.nextCell (s : State) : Nat := Cells.firstGap 0 s.basin.used

/-- Take an SRAM cell toward a queue; a refusal counts in NOCELL (R210).  An unconfigured queue finds none (R209). -/
def State.takeCell (s : State) (q : Nat) : Option Nat × State :=
  if s.queueUp q = false then (none, s) else
  if s.cellGranted q then (some s.nextCell, s.marked q fun t => t.charge s.nextCell (q + 2))
  else (none, s.count (Port.BSN_Q_NOCELL q))

/-- Take cells toward a queue until one is refused. -/
def State.takeCells (s : State) (q : Nat) : Nat → List CellLoc × State
  | 0 => ([], s)
  | n + 1 =>
    match s.takeCell q with
    | (none, t) => ([], t)
    | (some c, t) => let r := t.takeCells q n; (.sram c :: r.1, r.2)

/-- Take any free cell for a hole (R210); none when the pool is empty, and none toward an unconfigured queue (R209). -/
def State.takeHole (s : State) (q : Nat) : Option Nat × State :=
  if s.queueUp q && decide (0 < s.freeCells) then (some s.nextCell, s.marked q fun t => t.charge s.nextCell (q + 2))
  else (none, s)

/-- The cell of a hole that must stand now: a free one, else a cell beside the pool (R226, R233; which is the model's way
to hold it, DESIGN CHOICE, log entry 65). -/
def State.holeCell (s : State) (q : Nat) : CellLoc × State :=
  match s.takeHole q with
  | (some c, t) => (.sram c, t)
  | (none, t) => (.held (((List.range (t.basin.held.length + 1)).find? fun n =>
      decide (Cells.rd (fun _ => 0) t.basin.held (8 * n) = 0)).getD 0), t)

/-! ## Queues (R211, R219, R220) -/

/-- Steps of the 1 ms grid since PD_BASIN left reset (R219). -/
def State.gridSteps (s : State) : Nat := (s.time.wall - s.basin.born) / 16000

/-- Restart a queue's idle timer (R219). -/
def State.idleRestart (s : State) (q : Nat) : State :=
  { s with basin := { s.basin with idleFrom := Cells.wr (fun _ => 0) s.basin.idleFrom q s.gridSteps,
                                   idleSaid := Cells.wr (fun _ => 0) s.basin.idleSaid q 0 } }

/-- A queue became non-empty: BSN_QREADY when its IE bit is set (R220), and HIRQ PEND [16] for a queue of the host
(R375). -/
def State.readyCheck (s : State) (q : Nat) : State :=
  let t := if s.queueOwner q = 2 then s.setB Port.HPT_HIRQ_PEND 16 true else s
  if s.getB (Port.BSN_IE (q / 16)) (q % 16) then t.raise Irq.BSN_QREADY else t

/-- Append a packet to a queue: its SRAM cells are charged to it (R211, R220). -/
def State.commitPkt (s : State) (q : Nat) (p : Pkt) : State :=
  let t := s.marked q fun s => (s.setQueue q (s.queue q ++ [p])).chargeAll (q + 2) p.cells
  if (s.queue q).isEmpty then (t.idleRestart q).readyCheck q else t

/-- Record whether the head frame of a transmit queue was sent (R164). -/
def State.setHeadSent (s : State) (q v : Nat) : State :=
  { s with link := { s.link with headSent := Cells.wr (fun _ => 0) s.link.headSent q v } }

/-- Remove the head packet of a queue: its cells are no longer charged to it. -/
def State.popPkt (s : State) (q : Nat) : State :=
  match s.queue q with
  | [] => s
  | p :: r => ((s.marked q fun s => (s.setQueue q r).chargeAll 1 p.cells).idleRestart q).setHeadSent q 0

/-- Put a packet back at the head of a queue (R217). -/
def State.unpopPkt (s : State) (q : Nat) (p : Pkt) : State :=
  let t := s.marked q fun s => (s.setQueue q (p :: s.queue q)).chargeAll (q + 2) p.cells
  if (s.queue q).isEmpty then (t.idleRestart q).readyCheck q else t

/-- Remove the head packet and free its cells: a hardware consumer's DEQUEUE. -/
def State.dropHead (s : State) (q : Nat) : State :=
  match s.queue q with
  | [] => s
  | p :: _ => (s.popPkt q).freeAll p.cells

/-- Words of a hole descriptor (R242). -/
def holeWords (src source : Nat) (t : BitVec 54) : List Word :=
  [inFld 17 17 1, inFld 17 15 src ||| inFld 13 0 source, 0, 0, 0] ++ timeWords t

/-- A hole descriptor in a given cell. -/
def holePkt (c : CellLoc) (epoch : BitVec 6) : Pkt := { cells := [c], len := 0, epoch := epoch }

/-- Commit a hole descriptor to a queue in a given cell (R242). -/
def State.commitHole (s : State) (q : Nat) (c : CellLoc) (epoch : BitVec 6) (src source : Nat) (t : BitVec 54) : State :=
  (s.setHeaders (holePkt c epoch) 0 (holeWords src source t)).commitPkt q (holePkt c epoch)

/-- Store octets as a new packet toward a queue: the header cell, payload cells and nonets; none when a cell is refused
(its cells are freed again). -/
def State.buildPkt (s : State) (q : Nat) (hdr : List Word) (pay : List Nonet) (epoch : BitVec 6) : Option Pkt × State :=
  let n := cellsOf pay.length
  let r := s.takeCells q n
  if r.1.length < n then (none, r.2.marked q fun t => t.freeAll r.1) else
  let p : Pkt := { cells := r.1, len := pay.length, epoch := epoch }
  let t := r.2.setHeaders p 0 hdr
  let t2 := (indexed (packNonets pay)).foldl (fun u x =>
    match p.payCell x.1 with
    | .sram c => u.sramWr (u.cellAddr c (x.1 % 8)) x.2
    | _ => u) t
  (some p, t2)

/-! ## Segments (R221, R222) -/

/-- HEAD_CELLS and REFILL_AT. -/
def State.headCells (s : State) : Nat := max 8 (s.getF Port.TRM_SPILL 17 9)
def State.refillAt (s : State) : Nat := min s.headCells (s.getF Port.TRM_SPILL 8 0)

/-- The cells of a queue in order. -/
def State.queueCells (s : State) (q : Nat) : List CellLoc := (s.queue q).flatMap (·.cells)

/-- A queue has a DRAM segment (SPLIT). -/
def State.split (s : State) (q : Nat) : Bool := (s.queueCells q).any fun l => !l.near

/-- DRAM cells of a queue. -/
def State.dramCells (s : State) (q : Nat) : Nat := ((s.queueCells q).filter fun l => !l.near).length

/-- Cells of the head segment. -/
def State.headLen (s : State) (q : Nat) : Nat := ((s.queueCells q).takeWhile CellLoc.near).length

/-- The head packet's header cell is in DRAM. -/
def State.headAway (s : State) (q : Nat) : Bool :=
  match s.queue q with
  | [] => false
  | p :: _ => !p.head.near

/-- DEQUEUE of the head packet has to wait (R222). -/
def State.headWaits (s : State) (q : Nat) : Bool :=
  match s.queue q with
  | [] => false
  | p :: _ => !p.head.near || (p.cells.take (min s.headCells p.cells.length)).any fun l => !l.near

/-- Replace cell locations by a list of pairs. -/
def substCells (sub : List (CellLoc × CellLoc)) (l : List CellLoc) : List CellLoc :=
  l.map fun x => ((sub.find? fun y => decide (y.1 = x)).map (·.2)).getD x

/-- Replace cell locations in a packet. -/
def Pkt.subst (sub : List (CellLoc × CellLoc)) (p : Pkt) : Pkt := { p with cells := substCells sub p.cells }

/-- The packet of a queue that holds a cell, and whether it is its header cell. -/
def State.ownerOf (s : State) (q : Nat) (l : CellLoc) : Option (Pkt × Bool) :=
  ((s.queue q).find? fun p => decide (l ∈ p.cells)).map fun p => (p, decide (p.head = l))

/-- Words 8 and 9 of a block: the next spill cell (R204). -/
def nextSpill (d : Nat) : List Word := [BitVec.ofNat 18 d, inFld 4 0 (d / 2 ^ 18)]

/-- Block words of a spilled cell, and of the cell that follows it in DRAM (R204); with none, that field is open (log
entry 14). -/
def State.spillWords (s : State) (q : Nat) (c : Nat) : List Word :=
  let o := s.ownerOf q (.sram c)
  let first := match o with
    | some (p, true) => inFld 17 17 1 ||| inFld 13 0 p.len
    | _ => 0
  let ep := (o.map fun x => x.1.epoch.toNat).getD 0
  s.sramRds (s.cellAddr c 0) 8 ++ nextSpill s.freeNat ++ [first, inFld 17 12 ep ||| inFld 6 0 q]

/-- The last spill cell of a queue before an SRAM cell of its tail. -/
def State.lastSpilled (s : State) (q c : Nat) : Option Nat :=
  ((s.queueCells q).takeWhile fun l => decide (l ≠ .sram c)).reverse.findSome? fun l => match l with
    | .dram d => some d
    | _ => none

/-- Write the next spill cell into a spilled cell's block. -/
def State.linkSpill (s : State) (d0 d : Nat) : State :=
  { s with mem := { s.mem with dram := Cells.wrs (fun _ => 0) s.mem.dram ((spillBase + d0) * 12 + 8) (nextSpill d) } }

/-- Move one SRAM cell of a queue to the lowest free spill cell, the end of its DRAM segment (R197, R204). -/
def State.spillCell (s : State) (q c : Nat) : State :=
  let d := Cells.firstGap 0 s.basin.dused
  if s.spillCells ≤ d then s else
  let ep := ((s.ownerOf q (.sram c)).map fun x => x.1.epoch).getD 0
  let t := match s.lastSpilled q c with
    | some d0 => s.linkSpill d0 d
    | none => s
  t.marked q fun s =>
    ((((s.dramWake 3).dramWr (spillBase + d) (s.spillWords q c) 2 ep).nextFree.chargeD d 1).charge c 0).setQueue q
      ((s.queue q).map (Pkt.subst [(.sram c, .dram d)]))

/-- Words of a fetched header cell: H0 is rebuilt with LEN when its ECC group is lost, another lost word is zero, and
HDR_DMG is set (R208). -/
def mendHeader (groups len : Nat) (ws : List Word) : List Word :=
  (indexed ws).map fun x =>
    let lost := groups.testBit (x.1 / 4)
    if x.1 = 0 then (if groups % 4 = 0 then x.2 else withBit (if lost then inFld 13 0 len else x.2) 16 true)
    else if lost then 0 else x.2

/-- Bring one spilled cell into SRAM cell `c`: its words are read through P_BSN (R325).  `hdr`: LEN, for a header cell; the
words of another cell that are lost are tagged and counted (R208). -/
def State.fetchCell (s : State) (c d v : Nat) (hdr : Option Nat) : State :=
  let g := s.dramBad (spillBase + d) / 8 % 8
  let r := s.dramRead 3 (spillBase + d)
  let x := match hdr with
    | some len => (mendHeader g len ((s.dramRds (spillBase + d)).take 8), r.2)
    | none => (r.1.take 8, forNat (4 * (g % 2) + 4 * (g / 2 % 2)) (fun _ t => t.count Port.BSN_TAGCNT) r.2)
  ((x.2.sramWrs (s.cellAddr c 0) x.1).charge c v).chargeD d 0

/-- Refill the first DRAM cell of a queue, when a free SRAM cell exists (R198). -/
def State.refillCell (s : State) (q : Nat) : State :=
  match (s.queueCells q).find? fun l => !l.near with
  | some (.dram d) =>
    if s.freeCells = 0 then s else
    let c := s.nextCell
    let hdr := (s.ownerOf q (.dram d)).bind fun x => if x.2 then some x.1.len else none
    s.marked q fun s => (s.fetchCell c d (q + 2) hdr).setQueue q ((s.queue q).map (Pkt.subst [(.dram d, .sram c)]))
  | _ => s

/-! ## Broken links (R208) -/

/-- Stored error of a cell's link entry. -/
def State.linkBad (s : State) (l : CellLoc) : Nat :=
  match l with
  | .sram c => Cells.rd (fun _ => 0) s.basin.linkErr c
  | _ => 0

/-- Forget the link error of a cell. -/
def State.linkFix (s : State) (l : CellLoc) : State :=
  match l with
  | .sram c => { s with basin := { s.basin with linkErr := Cells.wr (fun _ => 0) s.basin.linkErr c 0 } }
  | _ => s

/-- Position of the first cell whose link entry is lost in both copies. -/
def State.breakAt (s : State) (p : Pkt) : Option Nat := p.cells.findIdx? fun l => decide (s.linkBad l = 2)

/-- A packet whose cells behind a lost link cannot be reached: they read as 0x00 tagged. -/
def cutPkt (k : Nat) (p : Pkt) : Pkt :=
  { p with cells := p.cells.take (k + 1) ++ List.replicate (p.cells.length - (k + 1)) .lost }

/-- The links of a packet whose other copy is good are rewritten (R208). -/
def State.mendLinks (s : State) (p : Pkt) : State :=
  forEach (p.cells.filter fun l => decide (s.linkBad l = 1)) (fun l t => t.linkFix l) s

/-- A packet's link behind cell `k` is lost in both copies: one hole stands in place of every later packet of its queue,
which is broken (R208).  The cells that can no longer be reached stay in use, uncharged, until an audit.  Answers what
stands in place of the later packets. -/
def State.breakQueue (s : State) (q k : Nat) (p : Pkt) (later : List Pkt) : List Pkt × State :=
  let gone := p.cells.drop (k + 1) ++ later.flatMap (·.cells)
  let t := ((((s.marked q fun s => s.chargeAll 1 gone).linkFix (p.cells.getD k .lost)).queueFlag q 4).count
    Port.BSN_LINKCNT).raise Irq.BSN_LINK_FAULT
  if later.isEmpty then ([], t) else
  let h := t.holeCell q
  let d := holePkt h.1 0
  ([d], h.2.setHeaders d 0 (holeWords 2 0 t.time.link))

/-- The links of a packet taken from queue `q` are followed as it is read (R208). -/
def State.followLinks (s : State) (q : Nat) (p : Pkt) : Pkt × State :=
  match s.breakAt p with
  | none => (p, s.mendLinks p)
  | some k =>
    let x := s.breakQueue q k p (s.queue q)
    (cutPkt k p, x.2.setQueue q x.1)

/-- The links of packet `i` of a queue are followed as it is read in place (R208). -/
def State.followAt (s : State) (q i : Nat) : State :=
  match (s.queue q)[i]? with
  | none => s
  | some p => match s.breakAt p with
    | none => s.mendLinks p
    | some k =>
      let x := s.breakQueue q k p ((s.queue q).drop (i + 1))
      x.2.setQueue q ((s.queue q).take i ++ cutPkt k p :: x.1)

/-- The links of a master's open read packet are followed as it is read (R208). -/
def State.followOpen (s : State) (m : Master) : State :=
  match (s.copy m.num).rpkt with
  | none => s
  | some (q, p) =>
    let x := s.followLinks q p
    x.2.setCopy m.num { x.2.copy m.num with rpkt := some (q, x.1) }

/-- A sequencer or a Utvis port reads packet `i` of a queue in place (R216): its links are followed and its words read under
R208. -/
def State.readQueued (s : State) (q i : Nat) : State :=
  let t := s.followAt q i
  match (t.queue q)[i]? with
  | none => t
  | some p => (t.payReads p ((p.len + 1) / 2)).2

/-! ## Sequencer hold (R216) -/

/-- A sequencer holds an event of the context whose TXQ a queue is. -/
def State.txqHeld (s : State) (q : Nat) : Bool :=
  s.link.events.any fun x => match x.2 with
    | some e => decide (fld (e.words.getD 1 0) 13 7 = q)
    | none => false

/-! ## Reset of the Basin (R225, R217) -/

/-- The Basin after PD_BASIN leaves reset: every queue and copy is empty, the host's among them (R225; DEDUCED, log entry
163). -/
def State.basinEmpty (s : State) : State := { s with basin := Basin.reset }

/-- Ports of the command interface banked for a master (R212): key of a banked register. -/
def bank (m : Master) (p : Nat) : Nat := p + 0x10000 * (m.num + 1)

/-- Empty a master's command copy: the write packet is freed, the read packet goes back to its queue's head, a waiting
command is dropped (R217). -/
def State.copyReset (s : State) (m : Master) : State :=
  let c := s.copy m.num
  let t := match c.wpkt with
    | some (q, p) => s.marked q fun t => t.freeAll p.cells
    | none => s
  let t2 := match c.rpkt with
    | some (q, p) => t.unpopPkt q p
    | none => t
  let t3 := t2.setCopy m.num BsnCopy.idle
  t3.coldRegs fun k => decide (bank m 0x2010 ≤ k) && decide (k ≤ bank m 0x201F)

/-! ## Registers computed from the Basin's state -/

/-- Event flags of a queue's STAT. -/
def State.queueEvents (s : State) (q : Nat) : Bool := decide (s.getF (Port.BSN_Q_STAT q) 4 1 ≠ 0)

/-- A word whose bit i is a test of queue 16 g + i. -/
def summary (g : Nat) (f : Nat → Bool) : Word :=
  (List.range 16).foldl (fun w i => if f (16 * g + i) then w ||| BitVec.twoPow 18 i else w) 0

/-- WAITING: the head waits on DRAM while DRAM is not available (R222). -/
def State.queueWaiting (s : State) (q : Nat) : Bool := s.headWaits q && !s.dramUp

/-- BSN registers whose value follows from the queues. -/
def State.basinView (s : State) (p : Nat) : Word :=
  if p = Port.BSN_STAT then
    withBit (s.get p) 1 (s.basin.dused.any fun x => decide (x.2 = 2))
  else if p = Port.BSN_SFREE then BitVec.ofNat 18 s.freeCells
  else if p = Port.BSN_DFREE_0 then BitVec.ofNat 18 (s.spillCells - s.basin.dused.length)
  else if p = Port.BSN_DFREE_1 then BitVec.ofNat 18 ((s.spillCells - s.basin.dused.length) / 2 ^ 18)
  else if 0x2020 ≤ p ∧ p ≤ 0x2027 then summary (p - 0x2020) fun q => !(s.queue q).isEmpty
  else if 0x2028 ≤ p ∧ p ≤ 0x202F then summary (p - 0x2028) s.queueEvents
  else if 0x2100 ≤ p ∧ p ≤ 0x24FF then
    let q := (p - 0x2100) / 8
    if p % 8 = 3 then BitVec.ofNat 18 (s.occupancy q)
    else if p % 8 = 4 then BitVec.ofNat 18 ((s.dramCells q + 15) / 16)
    else if p % 8 = 5 then BitVec.ofNat 18 (min 0o777777 (s.queue q).length)
    else if p % 8 = 6 then withBit (withBit (s.get p) 15 (s.split q)) 14 (s.queueWaiting q)
    else s.get p
  else s.get p

end Sys2Proof.Machine
end

