-- ==== Sys2Proof/Machine/Sluice.lean ====
section
/-! DEFINITION. The Sluice's bookkeeping as its requesters see it (R406-R410): waiting, grants, must-run-now requests
and withdrawal.  The granting step is in Power.lean. -/

namespace Sys2Proof.Machine

open Sys2Proof

/-! Activities (R406) -/

abbrev Act.temp : Nat := 0
abbrev Act.syn (t : Nat) : Nat := 1 + t
abbrev Act.rxcal (c : Nat) : Nat := 3 + c
abbrev Act.chzscrub : Nat := 5
abbrev Act.dramPcal : Nat := 6
abbrev Act.dramRetrain : Nat := 7
abbrev Act.rtcMeas : Nat := 8
abbrev Act.flash : Nat := 9
abbrev Act.sramScrub : Nat := 10
abbrev Act.srEntry : Nat := 11

/-- Two activities conflict (R407). -/
def actConflict (a b : Nat) : Bool :=
  let fmc := fun x => decide (x = 1) || decide (x = 2) || decide (x = 7) || decide (x = 8)
  let rx := fun x => decide (x = 3) || decide (x = 4)
  let dram := fun x => decide (x = 6) || decide (x = 7) || decide (x = 11)
  decide (a ≠ b) &&
    ((fmc a && fmc b) || (rx a && decide (b = 9)) || (decide (a = 9) && rx b) ||
     (decide (a = 5) && (rx b || decide (b = 10))) || (decide (b = 5) && (rx a || decide (a = 10))) ||
     (dram a && dram b))

/-- An activity holds a grant. -/
def State.granted (s : State) (a : Nat) : Bool := s.getB Port.MNT_GRANT a

/-- An activity waits. -/
def State.waits (s : State) (a : Nat) : Bool := s.getB Port.MNT_WAIT a

/-- Request an activity's grant; a holder's or a waiting request's stands. -/
def State.sluiceAsk (s : State) (a : Nat) : State :=
  if s.granted a ∨ s.waits a then s else
  ({ s with sluice := { s.sluice with
      since := Cells.wr (fun _ => 0) s.sluice.since a (s.time.wall + 1) } }).setB Port.MNT_WAIT a true

/-- Release or withdraw an activity (R410). -/
def State.sluiceDrop (s : State) (a : Nat) : State :=
  ((({ s with sluice := { s.sluice with since := Cells.wr (fun _ => 0) s.sluice.since a 0 } }).setB Port.MNT_WAIT a false).setB
    Port.MNT_GRANT a false).setB Port.MNT_AGED a false

/-- No holder conflicts with an activity. -/
def State.sluiceClear (s : State) (a : Nat) : Bool :=
  (List.range 12).all fun b => !(s.granted b && actConflict a b)

/-- Give an activity its grant. -/
def State.sluiceGive (s : State) (a : Nat) : State := (s.sluiceDrop a).setB Port.MNT_GRANT a true

/-- A must-run-now request: granted at once, or BUSY (R409, R410). -/
def State.sluiceMust (s : State) (a : Nat) : Bool × State :=
  if s.getB Port.MNT_INHIBIT a then (false, s.count Port.MNT_BUSYCNT) else
  if s.granted a then (true, s) else
  if s.sluiceClear a then (true, s.sluiceGive a) else (false, s.count Port.MNT_BUSYCNT)

end Sys2Proof.Machine
end

