-- ==== Sys2Proof/Machine/Context.lean ====
section
/-! DEFINITION. Link contexts (R108, R139, R170, R180, R188): where a context's words stand, their fields, windows,
setup points and channels (R109, R112, R115, R133, R154, R155). -/

namespace Sys2Proof.Machine

open Sys2Proof

/-! ## Where a context stands (R188) -/

/-- CTX_TOTAL. -/
def State.ctxTotal (s : State) : Nat := s.rigF 2 4 13 0

/-- The slot of a context, plus 1; 0 while it is not resident.  Unlisted contexts stand in their identity slots. -/
def State.slotNo (s : State) (c : Nat) : Nat := Cells.rd (fun c => if c < s.ctxSlots then c + 1 else 0) s.trim.slot c

/-- The context in a slot, plus 1; unlisted slots hold their identity contexts. -/
def State.occupantOf (s : State) (k : Nat) : Nat := Cells.rd (fun k => k + 1) s.trim.occupant k

/-- Place a context in a slot, its former occupant no longer resident. -/
def State.seat (s : State) (c k : Nat) : State :=
  let d := fun (c : Nat) => if c < s.ctxSlots then c + 1 else 0
  let old := s.occupantOf k
  let m := if old = 0 then s.trim.slot else Cells.wr d s.trim.slot (old - 1) 0
  { s with trim := { s.trim with slot := Cells.wr d m c (k + 1),
                                 occupant := Cells.wr (fun k => k + 1) s.trim.occupant k (c + 1) } }

/-- A context is resident. -/
def State.resident (s : State) (c : Nat) : Bool := decide (s.slotNo c ≠ 0)

/-- Contexts have homes in DRAM (R188). -/
def State.hasHomes (s : State) : Bool := decide (s.ctxTotal ≠ s.ctxSlots)

/-- A word of a context's home: 6 blocks of 12 words (R326). -/
def State.homeRd (s : State) (c i : Nat) : Word := s.dramWord (6 * c + i / 12) (i % 12)

/-- A context word: its slot's, else its home's. -/
def State.ctxRd (s : State) (c i : Nat) : Word :=
  if s.resident c then s.sramRd (s.slotWord (s.slotNo c - 1) i) else s.homeRd c i

/-- Write a context word of a resident context; DIRTY follows, also where word 63 itself changes (R180, R189). -/
def State.ctxWr (s : State) (c i : Nat) (v : Word) : State :=
  if s.resident c then
    let k := s.slotNo c - 1
    let t := s.sramWr (s.slotWord k i) v
    if s.hasHomes then t.sramWr (t.slotWord k 63) (withBit (t.sramRd (t.slotWord k 63)) 10 true) else t
  else s

/-- The 64 words of a context. -/
def State.ctxWords (s : State) (c : Nat) : List Word := (List.range 64).map (s.ctxRd c)

/-- Write context words from word `i` on. -/
def State.ctxWrs (s : State) (c i : Nat) : List Word → State
  | [] => s
  | v :: r => (s.ctxWr c i v).ctxWrs c (i + 1) r

/-- A field of a context. -/
def State.ctxF (s : State) (c i hi lo : Nat) : Nat := fld (s.ctxRd c i) hi lo

/-- Set a field of a context. -/
def State.setCtxF (s : State) (c i hi lo v : Nat) : State := s.ctxWr c i (withFld (s.ctxRd c i) hi lo v)

/-- EPOCH of a context (R180). -/
def State.epochOf (s : State) (c : Nat) : BitVec 6 := BitVec.ofNat 6 (s.ctxF c 63 17 12)

/-! ## Fields of context words -/

/-- Field [hi:lo] of word `i` of a context's words. -/
def cw (ws : List Word) (i hi lo : Nat) : Nat := fld (ws.getD i 0) hi lo

/-- Replace a field of a context's words. -/
def cset (ws : List Word) (i hi lo v : Nat) : List Word := ws.set i (withFld (ws.getD i 0) hi lo v)

def cKind (ws : List Word) : Nat := cw ws 0 17 15
def cPhy (ws : List Word) : Nat := cw ws 0 11 9
def cState (ws : List Word) : Nat := cw ws 0 8 6
def cTxq (ws : List Word) : Nat := cw ws 1 13 7
def cRxq (ws : List Word) : Nat := cw ws 1 6 0
def cNext (ws : List Word) : BitVec 54 := timeOf (ws.getD 2 0) (ws.getD 3 0) (ws.getD 4 0)
def cLast (ws : List Word) : BitVec 54 := timeOf (ws.getD 11 0) (ws.getD 12 0) (ws.getD 13 0)
def cEvcnt (ws : List Word) : Nat := cw ws 7 17 0

/-- Set NEXT_ANCHOR or LAST_ANCHOR. -/
def csetTime (ws : List Word) (i : Nat) (t : BitVec 54) : List Word :=
  let w := timeWords t
  ((ws.set i (w.getD 0 0)).set (i + 1) (w.getD 1 0)).set (i + 2) (w.getD 2 0)

/-- A context is a leader: KIND 5 is one and KIND 6 is none, whatever ROLE holds (R108). -/
def cLeader (ws : List Word) : Bool :=
  if cKind ws = 5 then true else if cKind ws = 6 then false else decide (cw ws 0 14 12 = 0)

/-- INTERVAL in ticks (R108). -/
def cInterval (ws : List Word) : Nat := cw ws 8 17 0 * 500

/-- The event never listens (R176). -/
def cTxOnly (ws : List Word) : Bool :=
  (decide (cKind ws = 2) && (decide (cw ws 17 17 15 = 2) || decide (cw ws 17 17 15 = 6))) ||
  (decide (cKind ws = 5) && decide (cw ws 24 9 2 = 0))

/-! ## Windows and setup points (R112, R115, R119) -/

/-- SETUP in ticks. -/
def State.setupTicks (s : State) : Nat := max 17 (s.getF Port.LTB_WIDEN 17 12) * 64

/-- SLACK in ticks. -/
def State.slackTicks (s : State) : Nat := s.getF Port.LTB_SEQCFG 5 0 * 16

/-- W before its limit (R115); LE connections use WSCALE 0 (R135). -/
def State.wide (s : State) (ws : List Word) : Nat :=
  let dt := (timeDiff (cNext ws) (cLast ws)).toNat
  let drift := ((min 500 (s.getF Port.LTB_CFG 8 0) + cw ws 10 8 0) * dt + 999999) / 1000000
  (drift + s.getF Port.LTB_CFG 17 9) * 2 ^ (if cKind ws = 1 then 0 else cw ws 0 4 3)

/-- The limit of W (R115). -/
def State.wLimit (s : State) (ws : List Word) : Nat :=
  let m := s.getF Port.LTB_WIDEN 11 0 * 1600
  if m = 0 then cInterval ws / 2 else min (cInterval ws / 2) m

/-- W of a context's next event: 0 for a leader, the limit while it waits for a search slot (R116). -/
def State.window (s : State) (ws : List Word) : Nat :=
  if cLeader ws then 0 else if cState ws = 3 then s.wLimit ws else s.wide ws

/-- The setup point of a context's next event (R112). -/
def State.setupPoint (s : State) (ws : List Word) : BitVec 54 :=
  cNext ws - ticks (s.setupTicks + s.window ws)

/-- The close time of an event: with EVLEN 0 the setup point of the context's next event, with that event's W (R112). -/
def State.closeTime (s : State) (ws : List Word) : BitVec 54 :=
  let e := cw ws 6 9 0
  if e = 0 then s.setupPoint (csetTime ws 2 (cNext ws + ticks (cInterval ws)))
  else cNext ws + ticks (e * 4000)

/-! ## Channels (R109, R133, R154, R155) -/

/-- Channels of the map, bits below `n` in increasing order. -/
def usedChannels (ws : List Word) (n : Nat) : List Nat :=
  (List.range n).filter fun i => bitOf (ws.getD (14 + i / 18) 0) (i % 18)

/-- Rotate a 16-bit value left. -/
def rotl16 (x r : Nat) : Nat := ((x <<< r) ||| (x >>> (16 - r))) % 65536

/-- A round of the hop function (R155). -/
def hopRound (seed x : Nat) : Nat := ((rotl16 x 5 * 0x2F5B + 0x7A3D) % 65536) ^^^ seed

/-- The hop function of R155: the channel of an event. -/
def halHop (evcnt seed n : Nat) (used : List Nat) : Nat :=
  let x := hopRound seed (hopRound seed ((evcnt ^^^ seed) % 65536))
  if x % n ∈ used then x % n else used.getD (used.length * x / 65536) 0

/-- LE channel selection #2: the permutation of a 16-bit value (PRESUMED, log entry 11). -/
def lePerm (x : Nat) : Nat :=
  let r := fun (o : Nat) => (List.range 8).foldl (fun a i => a + (if o.testBit i then 2 ^ (7 - i) else 0)) 0
  r (x % 256) + 256 * r (x / 256)

/-- LE channel selection #2 (PRESUMED, log entry 11). -/
def leHop2 (evcnt aa : Nat) (used : List Nat) : Nat :=
  let id := (aa / 65536 % 65536) ^^^ (aa % 65536)
  let f := fun (u : Nat) => (lePerm u * 17 + id) % 65536
  let u := (f (f (f ((evcnt % 65536) ^^^ id)))) ^^^ id
  if u % 37 ∈ used then u % 37 else used.getD (used.length * u / 65536) 0

/-- LE channel selection #1: the channel of an unmapped channel (PRESUMED, log entry 11). -/
def leMap1 (u : Nat) (used : List Nat) : Nat := if u ∈ used then u else used.getD (u % used.length) 0

/-- Algorithm #1's last unmapped channel after `n` more events (R139). -/
def hopSteps (n : Nat) (ws : List Word) : List Word :=
  if cKind ws = 1 ∧ bitOf (ws.getD 20 0) 17 = false then cset ws 21 17 12 ((cw ws 21 17 12 + n * cw ws 20 16 12) % 37)
  else ws

/-- Access address or sync word of a context. -/
def cSync (ws : List Word) : BitVec 32 := BitVec.ofNat 32 (cw ws 17 17 0 + 262144 * cw ws 18 13 0)

/-- CRC initial value of a context. -/
def cCrc (ws : List Word) : BitVec 24 := BitVec.ofNat 24 (cw ws 19 17 0 + 262144 * cw ws 20 5 0)

/-- Whitening seed of a Haldaro context. -/
def cWhite (ws : List Word) : BitVec 9 := BitVec.ofNat 9 (cw ws 20 17 9)

/-- The bin of a Haldaro plan's channel (R154, R170). -/
def planBin (ws : List Word) (i : Nat) : Nat := cw ws 21 17 9 + cw ws 21 8 6 * i

/-- Beacon channel of an event (R155). -/
def beaconChannel (ws : List Word) (evcnt : Nat) : Nat :=
  let nb := max 1 (cw ws 24 1 0)
  let k := evcnt % nb
  if k = 0 then cw ws 23 17 12 else if k = 1 then cw ws 23 11 6 else cw ws 23 5 0

/-- The advertising channels a KIND 2 context uses (R139). -/
def advChannels (ws : List Word) : List Nat := (List.range 3).filterMap fun i =>
  if bitOf (ws.getD 17 0) (9 + i) then some (37 + i) else none

/-- Word 5 for the event of EVCNT, and of UNMAPPED under algorithm #1, by the channel rule (R110): for
KIND 2 the event's first advertising channel, for KIND 3 the advertising channels in turn (DEDUCED, log entry 15); for KIND 7 as
written. -/
def channelled (ws : List Word) : List Word :=
  let put := fun (ws : List Word) (bin foff : Nat) => cset (cset ws 5 14 6 bin) 5 5 0 foff
  if cKind ws = 1 then
    let used := usedChannels ws 37
    if bitOf (ws.getD 20 0) 17 then put ws (leBin (leHop2 (cEvcnt ws) (cSync ws).toNat used)) 0
    else put ws (leBin (leMap1 (cw ws 21 17 12) used)) 0
  else if cKind ws = 2 then put ws (leBin ((advChannels ws).getD 0 37)) 0
  else if cKind ws = 3 then put ws (leBin (37 + cEvcnt ws % 3)) 0
  else if cKind ws = 4 then
    let n := cw ws 21 5 0
    put ws (planBin ws (halHop (cEvcnt ws) (cw ws 23 15 0) n (usedChannels ws n))) (cw ws 22 17 12)
  else if cKind ws = 5 ∨ cKind ws = 6 then
    put ws (planBin ws (beaconChannel ws (cEvcnt ws))) (cw ws 22 17 12)
  else ws

/-- A channel map has a used channel, where the protocol uses the map for the event (R110, R155). -/
def mapOk (ws : List Word) : Bool :=
  if cKind ws = 1 then !(usedChannels ws 37).isEmpty
  else if cKind ws = 4 then !(usedChannels ws (cw ws 21 5 0)).isEmpty else true

/-- The content checks of INSERT (R110): KIND, ROLE, PHY, INTERVAL and the map. -/
def contentOk (ws : List Word) : Bool :=
  decide (cKind ws ≠ 0) && (decide (cKind ws = 5) || decide (cKind ws = 6) || decide (cw ws 0 14 12 < 2)) &&
    decide (cPhy ws ≠ 7) && decide (cInterval ws ≠ 0) && mapOk ws

/-- Transmit offset of a bin and fine offset (R109). -/
def txOffset (w : Bool) (bin : Nat) (foff : Int) : Int :=
  if w then 6400 + 640 * (bin : Int) + 10 * foff else 3232 + 64 * (bin : Int) + foff

/-- Calendar entries, and those of a KIND. -/
def State.calCount (s : State) : Nat := s.link.calendar.length
def State.calKind (s : State) (k : Nat) : Nat :=
  Cells.count (fun x => match x with
    | some e => decide (e.kind.toNat = k)
    | none => false) s.link.calendar

/-- The limit of a KIND in the calendar (R132, R145). -/
def State.kindFull (s : State) (k : Nat) : Bool :=
  if k = 1 then decide (s.rigF 5 1 11 0 ≤ s.calKind 1) else
  if k = 2 then decide (16 ≤ s.calKind 2) else
  if k = 3 then decide (4 ≤ s.calKind 3) else
  if k = 4 then decide (s.rigF 5 2 11 0 ≤ s.calKind 4) else
  if k = 5 then decide (8 ≤ s.calKind 5) else
  if k = 6 then decide (8 ≤ s.calKind 6) else false

/-- The search slot a context holds. -/
def State.searchSlot (s : State) (c : Nat) : Option Nat :=
  (List.range 16).find? fun k => s.getB (Port.SEQ_SRCH k) 17 && decide (s.getF (Port.SEQ_SRCH k) 13 0 = c)

/-- Contexts that hold a search slot. -/
def State.searchers (s : State) : List Nat :=
  (List.range 16).filterMap fun k =>
    if s.getB (Port.SEQ_SRCH k) 17 then some (s.getF (Port.SEQ_SRCH k) 13 0) else none

/-- The sequencer that serves an event of a context. -/
def State.seqOfCtx (s : State) (c : Nat) : Option Nat :=
  (List.range 16).find? fun q => match s.event q with
    | some e => decide (e.ctx = c) && e.loaded
    | none => false

/-- A sequencer waits in ARMED for a context's previous CLOSE (R179). -/
def State.waitingOn (s : State) (c : Nat) : Bool :=
  (List.range 16).any fun q => match s.event q with
    | some e => decide (e.ctx = c) && !e.loaded
    | none => false

/-- SEQ_n_STAT STATE. -/
def State.seqState (s : State) (q : Nat) : Nat := s.getF (Port.SEQ_STAT q) 14 12
def State.setSeqState (s : State) (q v : Nat) : State := s.setF (Port.SEQ_STAT q) 14 12 v

/-- Change the event a sequencer serves. -/
def State.updEvent (s : State) (q : Nat) (f : Event → Event) : State :=
  match s.event q with
  | some e => s.setEvent q (some (f e))
  | none => s

/-- An event that ends with an EVSTAT goes to CLOSE (R112). -/
def State.endEvent (s : State) (q : Nat) (evstat : Nat) : State :=
  (s.updEvent q fun e => { e with evstat := BitVec.ofNat 4 evstat }).setSeqState q 7

end Sys2Proof.Machine
end

