-- ==== Sys2Proof/Machine/Account.lean ====
section
/-! DEFINITION. The duty-cycle accountant (R123-R130): bands, slots, charges, grants and settlement.  Charges are kept
in LNKCLK ticks (DESIGN CHOICE, log entry 16). -/

namespace Sys2Proof.Machine

open Sys2Proof

/-! ## Chains and intervals (R82, R84) -/

/-- TXC_x_CTRL of a chain. -/
def txCtrl (t : Nat) : Nat := Port.TXC_S_CTRL + 256 * t

/-- Ramp time of a chain in ticks. -/
def State.rampTicks (s : State) (t : Nat) : Nat := (s.getF (txCtrl t) 17 15 + 1) * 16

/-- Carrier of an offset, in 3.125 kHz units from 0 Hz (R83). -/
def carrier (t : Nat) (off : Nat) : Nat := (if t = 0 then 272000 else 761600) + off

/-- Bands configured (R36). -/
def State.bands (s : State) : Nat := if s.rig.words.isEmpty then 0 else s.rigF 13 0 3 0

/-- The band that holds a carrier (R123). -/
def State.bandOf (s : State) (t off : Nat) : Option Nat :=
  (List.range s.bands).find? fun b =>
    decide ((s.get (Port.LTB_ACC_LOW b)).toNat * 8 ≤ carrier t off) &&
      decide (carrier t off < (s.get (Port.LTB_ACC_HIGH b)).toNat * 8)

/-! ## Slots (R124) -/

/-- Ticks of a slot: WINDOW / 64. -/
def State.slotTicks (s : State) (b : Nat) : Nat := max 1 (s.getF (Port.LTB_ACC_WIN b) 11 0 * 250000)

/-- A link time on the ledgers' own scale, which neither wraps nor steps (R124, R258). -/
def State.acct (s : State) (t : BitVec 54) : Nat := ((s.time.led : Int) + timeDiff t s.time.link).toNat

/-- Key of the slot that holds a time: slots count from link time 0, kept from slot -64 on. -/
def State.slotAt (s : State) (b : Nat) (t : BitVec 54) : Nat := s.acct t / s.slotTicks b + 64

/-- Part of the interval [a, e) that lies in the slot of a key; a slot before link time 0 holds none. -/
def State.partIn (s : State) (b a e k : Nat) : Nat :=
  let w := s.slotTicks b
  let lo := (k - 64) * w
  if k < 64 then 0 else min e (lo + w) - max a lo

/-- The reservation of an accepted request: D and twice the ramp time, from T_start - ramp (R125). -/
def State.resOf (s : State) (r : TxReq) : Nat × Nat :=
  (s.acct r.start - r.ramp, s.acct r.start + r.ask.dur + r.ramp)

/-- The intervals reserved in a band, those of transmissions under way among them (R125). -/
def State.reserved (s : State) (b : Nat) : List (Nat × Nat) :=
  ([0, 1].flatMap fun t => ((s.txc t).accepted.filter fun r => decide (r.band = b)).map s.resOf) ++
  ([0, 1].flatMap fun t => match (s.txc t).cur with
    | some r => if r.req.band = b then [r.res] else []
    | none => [])

/-- Ticks charged in a slot: settled charges and reservations. -/
def State.chargedIn (s : State) (b k : Nat) : Nat :=
  Cells.rd (fun _ => 0) (s.ledger b).slots k + ((s.reserved b).map fun r => s.partIn b r.1 r.2 k).sum

/-- Charges of the span that ends in a slot. -/
def State.spanSum (s : State) (b k : Nat) : Nat := ((List.range 65).map fun i => s.chargedIn b (k - i)).sum

/-- ALLOW in ticks. -/
def State.allowTicks (s : State) (b : Nat) : Nat := (s.get (Port.LTB_ACC_ALLOW b)).toNat * 16000

/-- The reservation [a, e) fits (R124). -/
def State.fits (s : State) (b a e : Nat) : Bool :=
  let k0 := a / s.slotTicks b + 64
  let k1 := (e - 1) / s.slotTicks b + 64
  (List.range (k1 + 65 - k0)).all fun i =>
    decide (s.spanSum b (k0 + i) + ((List.range 65).map fun j => s.partIn b a e (k0 + i - j)).sum ≤ s.allowTicks b)

/-! ## USED and WARN (R130) -/

/-- USED in ms, rounded up, saturating. -/
def State.usedMs (s : State) (b : Nat) : Nat := min 262143 ((s.spanSum b (s.slotAt b s.time.link) + 15999) / 16000)

/-- WARN percent. -/
def State.warnPct (s : State) : Nat :=
  let w := s.getF Port.LTB_ACC_CFG 17 9
  if w = 0 ∨ 100 < w then 100 else w

/-- USED is at or above WARN percent of ALLOW. -/
def State.overWarn (s : State) (b : Nat) : Bool :=
  decide (s.warnPct * (s.get (Port.LTB_ACC_ALLOW b)).toNat ≤ 100 * s.usedMs b)

/-- DUTY_WARN at each rise of USED to the level (R130). -/
def State.noteWarn (s : State) (b : Nat) : State :=
  let t := s.setLedger b { s.ledger b with warned := s.overWarn b }
  if s.overWarn b && !(s.ledger b).warned then t.raise Irq.DUTY_WARN else t

/-! ## Grants (R125-R127) -/

/-- The accountant's answer: the granted start and its band, or TX_NOGRANT. -/
def State.account (s : State) (t : Nat) (off dur : Nat) (start late : BitVec 54) (free : Nat → Bool) :
    Option (BitVec 54 × Nat) × State :=
  match s.bandOf t off with
  | none => (none, s.count Port.LTB_ACC_NOBAND)
  | some b =>
    let ramp := s.rampTicks t
    let dwell := s.getF (Port.LTB_ACC_DWELL b) 11 0
    let nogrant := ((s.count (Port.LTB_ACC_NOGRANTCNT b)).raise Irq.DUTY_NOGRANT)
    let ok := fun (d : Nat) => s.fits b (s.acct start + d - ramp) (s.acct start + d + dur + ramp)
    if dwell ≠ 0 ∧ dwell * 16000 < dur + 2 * ramp then (none, s.count (Port.LTB_ACC_DWELLCNT b)) else
    if ok 0 then (some (start, b), s) else
    if s.getF (Port.LTB_ACC_PWR b) 8 6 ≠ 0 then (none, nogrant) else
    match (List.range ((timeDiff late start).toNat + 1)).find? fun d => decide (d ≠ 0) && ok d && free d with
    | some d => (some (start + ticks d, b), s.count (Port.LTB_ACC_DEFERCNT b))
    | none => (none, nogrant)

/-- Settle a transmission: the time from the start of ramp-up to its end, on the ledgers' scale, replaces the reservation
(R125). -/
def State.settle (s : State) (b : Nat) (a e : Nat) : State :=
  let k0 := a / s.slotTicks b + 64
  let k1 := e / s.slotTicks b + 64
  let l := s.ledger b
  let slots := (List.range (k1 + 1 - k0)).foldl (fun m i =>
    Cells.wr (fun _ => 0) m (k0 + i) (Cells.rd (fun _ => 0) m (k0 + i) + s.partIn b a e (k0 + i))) l.slots
  (s.setLedger b { l with slots := slots }).noteWarn b

/-- Fill a band's ledger with the average rate (R128). -/
def State.fillLedger (s : State) (b : Nat) : State :=
  let k := s.slotAt b s.time.link
  let v := (s.get (Port.LTB_ACC_ALLOW b)).toNat * 1000 / 65 * 16
  let t := s.setLedger b { slots := Cells.wrs (fun _ => 0) [] (k - 64) (List.replicate 65 v), warned := false,
                           low := s.get (Port.LTB_ACC_LOW b), high := s.get (Port.LTB_ACC_HIGH b),
                           window := s.getF (Port.LTB_ACC_WIN b) 11 0 }
  t.setLedger b { t.ledger b with warned := t.overWarn b }

/-- The ledgers once a Rig's bands are in force: a band that kept LOW, HIGH and WINDOW keeps its ledger (R128). -/
def State.bandsInForce (s : State) : State :=
  forNat 8 (fun b t =>
    if b < t.bands then
      let l := t.ledger b
      if l.low = t.get (Port.LTB_ACC_LOW b) ∧ l.high = t.get (Port.LTB_ACC_HIGH b) ∧
          l.window = t.getF (Port.LTB_ACC_WIN b) 11 0 then
        t.setLedger b { l with warned := t.overWarn b }
      else t.fillLedger b
    else t.setLedger b Ledger.empty) s

/-- LTB_ACC_CMD 1: clear settled charges in BLANK and DEVELOP (R128). -/
def State.clearLedgers (s : State) : State :=
  if s.fuses.lifeCycle ≤ 1 then
    forNat 8 (fun b t => (t.setLedger b { t.ledger b with slots := [] }).noteWarn b) s
  else s

/-- A slot boundary: slots that left every span are forgotten (R124), and WARN follows USED. -/
def State.slotBoundary (s : State) (b : Nat) : State :=
  let k := s.slotAt b s.time.link
  let l := s.ledger b
  (s.setLedger b { l with slots := Cells.keep (fun j => decide (k ≤ j + 128)) l.slots }).noteWarn b

/-- LTB registers that follow from link time and the ledgers. -/
def State.ltbView (s : State) (p : Nat) : Word :=
  if p = Port.LTB_TIME 0 then s.time.link.extractLsb' 0 18 else
  if p = Port.LTB_TIME 1 then s.time.link.extractLsb' 18 18 else
  if p = Port.LTB_TIME 2 then s.time.link.extractLsb' 36 18 else
  if 0x3820 ≤ p ∧ p ≤ 0x389F then
    let b := (p - 0x3820) / 16
    if p % 16 = 6 then (if b < s.bands then BitVec.ofNat 18 (s.usedMs b) else 0)
    else if p % 16 = 7 then (if b < s.bands then inFld 0 0 (nat1 (s.overWarn b)) else 0)
    else s.get p
  else s.get p

end Sys2Proof.Machine
end

