-- ==== Sys2Proof/Machine/Transmit.lean ====
section
/-! DEFINITION. Transmit chains and synthesisers (R82-R103, R464): requests, tuning, power, ramps, calibration, the
front-end lines and test transmission. -/

namespace Sys2Proof.Machine

open Sys2Proof

/-! ## Synthesiser state -/

/-- TXC_x_STAT SYN: 0 OFF, 1 IDLE, 2 CALIBRATING, 3 LOCKING, 4 LOCKED, 5 TRANSMITTING. -/
def State.syn (s : State) (t : Nat) : Nat := s.getF (Port.TXC_STAT t) 17 15
def State.setSyn (s : State) (t v : Nat) : State := s.setF (Port.TXC_STAT t) 17 15 v

/-- Change a chain's hidden state. -/
def State.updTxc (s : State) (t : Nat) (f : TxState → TxState) : State := s.setTxc t (f (s.txc t))

/-- Largest frequency offset of a chain (R82). -/
def maxOffset (t : Nat) : Nat := if t = 0 then 27200 else 38400

/-- A chain serves a PHY (R82). -/
def phyServed (t p : Nat) : Bool :=
  if t = 0 then decide (p = 4) || decide (p = 5) else decide (p ≤ 3) || decide (p = 6)

/-- The interval of a request, from T_start - ramp - 8 µs to T_start + D + ramp, in ticks (R84). -/
def State.reqSpan (s : State) (ramp : Nat) (start : BitVec 54) (dur : Nat) : Int × Int :=
  (s.tickOf start - (ramp + 128 : Nat), s.tickOf start + (dur + ramp : Nat))

/-- Two intervals overlap. -/
def spansMeet (a b : Int × Int) : Bool := decide (a.1 < b.2) && decide (b.1 < a.2)

/-- The intervals of the requests accepted on a chain, the running one among them. -/
def State.spansOf (s : State) (t : Nat) : List (Int × Int) :=
  ((s.txc t).accepted.map fun r => s.reqSpan r.ramp r.start r.ask.dur) ++
    (match (s.txc t).cur with
     | some r => [r.span]
     | none => [])

/-- The earliest accepted request. -/
def State.nextReq (s : State) (t : Nat) : Option TxReq := (s.txc t).accepted.head?

/-- FEC LEAD and LAG, blanking PRE and POST, in ticks. -/
def State.fecLead (s : State) : Nat := s.getF Port.TXC_FEC_TIME 17 9
def State.fecLag (s : State) : Nat := s.getF Port.TXC_FEC_TIME 8 0
def State.blankPre (s : State) : Nat := s.getF Port.RXC_GUARD 17 9
def State.blankPost (s : State) : Nat := s.getF Port.RXC_GUARD 8 0

/-- tune_start of a request (R86); the remaining time of a calibration without retained values counts as its longest,
200 µs. -/
def State.tuneAt (s : State) (t : Nat) (r : TxReq) : Int :=
  let x := s.txc t
  let tt := if s.syn t = 4 then 8 else if s.syn t = 2 then (if x.calValid then 42 else 234) else 34
  let at0 := s.tickOf r.start - (r.ramp + tt * 16 + s.getF (txCtrl t) 14 9 * 16 : Nat)
  match x.prevEnd with
  | some e => max at0 e
  | none => at0

/-- No accepted request has its tune start within the next 200 µs (R93, R94). -/
def State.tuneFar (s : State) (t : Nat) : Bool :=
  (s.txc t).accepted.all fun r => decide ((s.time.wall : Int) + 3200 < s.tuneAt t r)

/-- The first tick at which a request's ramp-up may begin, its synthesiser being locked (R87). -/
def State.rampPlan (s : State) (t : Nat) (r : TxReq) : Int :=
  max (s.tickOf r.start - r.ramp) ((s.txc t).lockAt + max s.fecLead s.blankPre : Nat)

/-- The synthesiser is locked on a request's frequency, its power chosen. -/
def State.lockedFor (s : State) (t : Nat) (r : TxReq) : Bool :=
  decide (s.syn t = 4) && decide ((s.txc t).tuned = some r.ask.offset) && (s.txc t).tuneReq

/-- A ramp-up that begins at a tick lets the first bit leave by T_late (R87). -/
def State.leavesBy (s : State) (r : TxReq) (at0 : Int) : Bool := decide (at0 + r.ramp ≤ s.tickOf r.ask.tLate)

/-- The earliest accepted request is locked and will be sent: its ramp-up is planned in time (R87). -/
def State.rampAhead (s : State) (t : Nat) (r : TxReq) : Bool :=
  s.lockedFor t r && s.leavesBy r (max (s.rampPlan t r) s.time.wall)

/-- A tick, `lead` before the planned ramp-up of the earliest request, has come. -/
def State.rampWithin (s : State) (t lead : Nat) : Bool :=
  match s.nextReq t with
  | some r => s.rampAhead t r && decide (s.rampPlan t r ≤ s.time.wall + (lead : Nat))
  | none => false

/-- A chain's blanking is due: it transmits, or its ramp-up begins within PRE (R78). -/
def State.blankDue (s : State) (t : Nat) : Bool := (s.txc t).cur.isSome || s.rampWithin t s.blankPre

/-- POST has passed since a chain's last ramp-down (R78). -/
def State.blankPosted (s : State) (t : Nat) : Bool :=
  match (s.txc t).prevEnd with
  | some e => decide (e + s.blankPost ≤ s.time.wall)
  | none => true

/-- Take accepted requests of a chain back: their reservations are released at once, which WARN follows (R125, R130), and
KEEP counts from now when none is left (R90). -/
def State.dropReqs (s : State) (t : Nat) (p : TxReq → Bool) : State :=
  let x := s.txc t
  let gone := x.accepted.filter p
  if gone.isEmpty then s else
  let l := x.accepted.filter fun r => !p r
  forEach gone (fun r u => u.noteWarn r.band)
    (s.updTxc t fun x => { x with accepted := l, idleFrom := if l.isEmpty then s.time.wall else x.idleFrom,
                                  tuneReq := x.tuneReq && decide (l.head? = x.accepted.head?) })

/-! ## Outcomes -/

/-- EVSTAT of a request's status (R112). -/
def evstatOf (code : Nat) : Nat := if code = 1 then 3 else if code = 6 then 4 else if code = 5 then 5 else 10

/-- Report a failing status to the request's owner: its event ends and the frame stays (R85, R112). -/
def State.txFail (s : State) (o : TxOwner) (code : Nat) : State :=
  match o with
  | .seq q => if (s.event q).isSome ∧ s.seqState q ≠ 7 then s.endEvent q (evstatOf code) else s
  | _ => s

/-- STAT LAST. -/
def State.setLast (s : State) (t v : Nat) : State := s.setF (Port.TXC_STAT t) 14 12 v

/-- Insert an accepted request in T_start order (R85). -/
def insertReq (r : TxReq) : List TxReq → List TxReq
  | [] => [r]
  | a :: l => if timeLt r.start a.start then r :: a :: l else a :: insertReq r l

/-- A transmit request (R84, R124-R127): the checks in the table's order, then the accountant.  A request keeps the ramp
time in force at its acceptance (DEDUCED, log entry 139). -/
def State.txAsk (s : State) (o : TxOwner) (t : Nat) (a : TxAsk) : State :=
  if s.domOn (txDom t) = false then s.txFail o 7 else
  if maxOffset t < a.offset.toNat then (s.setLast t 3).txFail o 3 else
  if phyServed t a.phy.toNat = false then (s.setLast t 4).txFail o 4 else
  let ramp := s.rampTicks t
  if (s.spansOf t).any (spansMeet (s.reqSpan ramp a.tStart a.dur)) then (s.setLast t 2).txFail o 2 else
  match s.account t a.offset.toNat a.dur a.tStart a.tLate
      (fun d => !(s.spansOf t).any (spansMeet (s.reqSpan ramp (a.tStart + ticks d) a.dur))) with
  | (none, u) => (u.setLast t 6).txFail o 6
  | (some (start, b), u) =>
    let r : TxReq := { owner := o, ask := a, start := start, band := b, code := a.pcode, ramp := ramp }
    let v := (u.updTxc t fun x =>
      { x with accepted := insertReq r x.accepted,
               tuneReq := x.tuneReq && decide ((insertReq r x.accepted).head? = x.accepted.head?) }).noteWarn b
    match o with
    | .seq q => if (v.event q).isSome then v.setSeqState q 4 else v
    | _ => v

/-! ## Tuning and power (R86, R95-R98) -/

/-- Highest power code of a chain. -/
def maxCode (t : Nat) : Nat := if t = 0 then 62 else 48

/-- The code used: the lowest of the requested code, the chain's highest, the band's PMAX and, when the request overlaps
one accepted on the other chain, the chain's CAP (R95, R98). -/
def State.cappedCode (s : State) (t : Nat) (r : TxReq) : Nat :=
  let c := min (min r.ask.pcode.toNat (maxCode t)) (s.getF (Port.LTB_ACC_PWR r.band) 5 0)
  if (s.spansOf (1 - t)).any (spansMeet (s.reqSpan r.ramp r.start r.ask.dur)) then
    min c (if t = 0 then s.getF Port.TXC_SIMUL 11 6 else s.getF Port.TXC_SIMUL 5 0)
  else c

/-- Die temperature, signed °C. -/
def State.dieTemp (s : State) : Int := signed 9 (s.getF Port.CAL_TEMP 8 0)

/-- The compensated law (R97). -/
def State.lawDrive (s : State) (t p : Nat) : Nat :=
  let slope := (s.getF (Port.TXC_LAW_1 t) 17 9 * p) / 8
  let tc := (signed 9 (s.getF (Port.TXC_LAW_1 t) 8 0) * (s.dieTemp - 25)).tdiv 64
  let vc := (signed 9 (s.getF (Port.TXC_LAW_2 t) 8 0) *
    ((s.getF (Port.CAL_VPA t) 11 0 : Int) - (if t = 0 then 420 else 330))).tdiv 64
  (max 0 (min 4095 ((s.getF (Port.TXC_LAW_0 t) 11 0 : Int) + slope + tc + vc))).toNat

/-- The drive setting of a code and whether it is the law's (R96). -/
def State.driveOf (s : State) (t p : Nat) : Nat × Bool :=
  let e := s.get (0x5040 + 256 * t + p)
  let lo := signed 9 (s.getF (Port.TXC_TABRANGE t) 8 0)
  let hi := signed 9 (s.getF (Port.TXC_TABRANGE t) 17 9)
  if bitOf e 17 && decide (lo ≤ s.dieTemp) && decide (s.dieTemp ≤ hi) then (fld e 11 0, false)
  else (s.lawDrive t p, true)

/-- Choose the power of the earliest request, at its tune start. -/
def State.choosePower (s : State) (t : Nat) (r : TxReq) : State :=
  let p := s.cappedCode t r
  let d := s.driveOf t p
  s.updTxc t fun x => { x with drive := d.1, law := d.2, pcode := BitVec.ofNat 6 p, tuneReq := true }

/-- A tune start of the earliest accepted request (R86, R90, R94). -/
def State.tuneStart (s : State) (t : Nat) : State :=
  match s.nextReq t with
  | none => s
  | some r =>
    if (s.time.wall : Int) < s.tuneAt t r then s else
    let u := s.choosePower t r
    if s.syn t = 1 then (u.updTxc t fun x => { x with tuned := some r.ask.offset }).setSyn t 3
    else if s.syn t = 4 ∧ (s.txc t).tuned ≠ some r.ask.offset then
      (u.updTxc t fun x => { x with tuned := some r.ask.offset }).setSyn t 3
    else if s.syn t = 2 ∨ s.syn t = 4 then u else s

/-- Lock detected (R90).  (DEDUCED, log entry 21.) -/
def State.synthLock (s : State) (t : Nat) : State :=
  if s.syn t = 3 then (s.updTxc t fun x => { x with lockAt := s.time.wall }).setSyn t 4 else s

/-! ## Ramps and transmission (R87-R90) -/

/-- The grid of a chain has been blanked for PRE (R78). -/
def State.preBlanked (s : State) (t : Nat) : Bool :=
  match Cells.rd (fun _ => none) s.rx.blankFrom t with
  | some b => decide (b + s.blankPre ≤ s.time.wall)
  | none => false

/-- Ramp-up of a request may begin now (R78, R87). -/
def State.rampReady (s : State) (t : Nat) (r : TxReq) : Bool :=
  s.rampAhead t r && decide (s.rampPlan t r ≤ s.time.wall) && s.preBlanked t

/-- Ramp-up of the earliest request begins (R87). -/
def State.rampUp (s : State) (t : Nat) : State :=
  match s.nextReq t with
  | none => s
  | some r =>
    if s.rampReady t r then
      let x := s.txc t
      let run : TxRun := { req := { r with code := x.pcode }, phase := .rampUp, begun := s.time.wall, begunLed := s.time.led,
                           span := s.reqSpan r.ramp r.start r.ask.dur, res := s.resOf r, downAt := 0, lag := s.fecLag,
                           aborted := false, lostLock := false }
      let u := ((s.updTxc t fun x => { x with accepted := x.accepted.tail, cur := some run, tuneReq := false }).setSyn t 5)
      let v := (u.setF (Port.TXC_STAT t) 5 0 x.pcode.toNat).setB (Port.TXC_STAT t) 11 x.law
      if x.law then v.count (Port.TXC_LAWCNT t) else v
    else s

/-- The first bit leaves, a ramp time less at most one tick after ramp-up began (R87, R91). -/
def State.firstBit (s : State) (t : Nat) : State :=
  match (s.txc t).cur with
  | some r =>
    if r.phase = .rampUp ∧ r.begun + r.req.ramp ≤ s.time.wall + 1 then
      (s.updTxc t fun x => { x with cur := some { r with phase := .onAir } }).raiseProducer (Ev.txFirstBit t)
    else s
  | none => s

/-- Begin ramp-down with TX_ABORT: the status goes to the owner at once (R88). -/
def State.abortRun (s : State) (t : Nat) (r : TxRun) (lost : Bool) : State :=
  (((s.updTxc t fun x => { x with cur := some { r with phase := .rampDown, downAt := s.time.wall, aborted := true,
                                                       lostLock := lost } }).setLast
    t 5).count (Port.TXC_ABORTCNT t)).txFail r.req.owner 5

/-- A transmission's ramp-down may end now: a ramp time less one tick after it began (R91). -/
def State.downOver (s : State) (r : TxRun) : Bool :=
  decide (r.phase = .rampDown) && decide (r.downAt + r.req.ramp ≤ s.time.wall + 1)

/-- Ramp-down ends: the time is charged, at most a ramp time and one tick from its start (R91), and the synthesiser is
LOCKED, or LOCKING after a loss of lock (R88-R90). -/
def State.rampEnd (s : State) (t : Nat) : State :=
  match (s.txc t).cur with
  | some r =>
    if s.downOver r then
      let e := s.time.led - (s.time.wall - (r.downAt + r.req.ramp + 1))
      let u := (s.updTxc t fun x => { x with cur := none, prevEnd := some s.time.wall, prevLag := r.lag,
                                             idleFrom := s.time.wall }).settle r.req.band r.begunLed e
      let v := (u.setSyn t (if r.lostLock then 3 else 4)).raiseProducer (Ev.txRampEnd t)
      if r.aborted then v else v.setLast t 0
    else s
  | none => s

/-- The earliest request's first bit can no longer leave by T_late (R87). -/
def State.tooLate (s : State) (t : Nat) (r : TxReq) : Bool :=
  if s.lockedFor t r then !s.leavesBy r (max (s.rampPlan t r) s.time.wall) else !s.leavesBy r (s.time.wall + 1)

/-- The earliest request can no longer leave by T_late and is skipped (R87, R125). -/
def State.skipLate (s : State) (t : Nat) : State :=
  match s.nextReq t with
  | none => s
  | some r =>
    if s.tooLate t r then
      ((((s.dropReqs t fun x => decide (x = r)).setLast t 1).count (Port.TXC_LATECNT t)).raise Irq.TX_LATE).txFail r.owner 1
    else s

/-- Loss of lock (R88).  SYN stays TRANSMITTING in the ramp-down that follows a loss in ramp-up or on air, and is LOCKING
from its end on (DESIGN CHOICE, log entry 142). -/
def State.lockLost (s : State) (t : Nat) : State :=
  match (s.txc t).cur with
  | some r =>
    if r.phase = .rampDown then
      (s.updTxc t fun x => { x with cur := some { r with lostLock := true } }).raise Irq.TX_UNLOCK
    else (s.abortRun t r true).raise Irq.TX_UNLOCK
  | none => if s.syn t = 4 then (s.setSyn t 3).raise Irq.TX_UNLOCK else s

/-- No accepted request for KEEP: the VCO is powered down (R86, R90). -/
def State.keepEnd (s : State) (t : Nat) : State :=
  let from0 := max (s.txc t).idleFrom (s.txc t).lockAt
  if s.syn t = 4 ∧ (s.txc t).accepted = [] ∧ from0 + s.getF (txCtrl t) 8 0 * 160 ≤ s.time.wall then
    (s.updTxc t fun x => { x with tuned := none }).setSyn t 1
  else s

/-- Cut a transmission in ramp-up or on air, and withdraw the accepted requests, of owners that meet a test (R88,
R125): a sequencer fault or a link-group reset. -/
def State.cutOwner (s : State) (own : TxOwner → Bool) : State :=
  forNat 2 (fun t s =>
    let u := s.dropReqs t fun r => own r.owner
    match (u.txc t).cur with
    | some r => if own r.req.owner ∧ r.phase ≠ .rampDown then u.abortRun t r false else u
    | none => u) s

/-- A chain's domain goes off or is reset: a transmission is cut and charged to now, every accepted request returns
TX_ABORT to its owner, and the synthesiser is OFF with its calibration retained (R90, R464). -/
def State.txOff (s : State) (t : Nat) : State :=
  let x := s.txc t
  let u := match x.cur with
    | some r => ((s.updTxc t fun x => { x with cur := none, prevEnd := some s.time.wall, prevLag := r.lag }).settle r.req.band
        r.begunLed s.time.led).txFail r.req.owner 5
    | none => s
  let v := forEach x.accepted (fun r t => t.txFail r.owner 5) (u.dropReqs t fun _ => true)
  ((v.setTxc t { TxState.off with calValid := x.calValid, tcal := x.tcal, prevEnd := (v.txc t).prevEnd,
                                  prevLag := (v.txc t).prevLag }).sluiceDrop (Act.syn t))

/-! ## Calibration (R92-R94) -/

/-- Change what a chain's calibration does; CALPEND shows one pending or suspended. -/
def State.setTxCal (s : State) (t : Nat) (f : TxState → TxState) : State :=
  let x := f (s.txc t)
  (s.setTxc t x).setB (Port.TXC_STAT t) 9 (decide (x.pend ≠ .none) || x.susp)

/-- A chain's domain is released: IDLE, or CALIBRATING with a calibration pending that waits for the grant (R90). -/
def State.txReleased (s : State) (t : Nat) : State :=
  let x := s.txc t
  let u := ((s.setB (Port.TXC_STAT t) 10 x.calValid).setF (Port.TXC_CALSTAT t) 8 0 x.tcal.toNat)
  if x.calValid then u.setSyn t 1
  else ((u.setTxCal t fun x => { x with pend := .pending }).setSyn t 2).sluiceAsk (Act.syn t)

/-- A calibration becomes pending (R92), behind one that runs or is suspended. -/
def State.calPending (s : State) (t : Nat) : State :=
  if s.domOn (txDom t) && decide ((s.txc t).pend = .none) then
    (s.setTxCal t fun x => { x with pend := .pending }).sluiceAsk (Act.syn t)
  else s

/-- A temperature sample that differs from TCAL by DT or more (R92). -/
def State.calByTemp (s : State) (t : Nat) : State :=
  let dt := max 1 (s.getF (Port.TXC_CAL t) 14 9)
  if s.getB (Port.TXC_CAL t) 17 && (s.txc t).calValid &&
      decide ((dt : Int) ≤ (s.dieTemp - signed 9 (s.txc t).tcal.toNat).natAbs) then s.calPending t
  else s

/-- A write to TXC_x_CALCMD (R92, R93). -/
def State.txCalcmd (s : State) (t : Nat) (v : Word) : State :=
  if v = 1 then
    let r := s.sluiceMust (Act.syn t)
    if r.1 then r.2.setTxCal t fun x => { x with pend := .must }
    else r.2.setF (Port.TXC_CALSTAT t) 17 15 2
  else if v = 2 then s.calPending t else s

/-- A pending calibration starts (R93). -/
def State.calStart (s : State) (t : Nat) : State :=
  let x := s.txc t
  let go := decide (x.pend ≠ .none) && !x.calRun && !x.susp && s.granted (Act.syn t)
  if go && (if s.syn t = 2 then true else (decide (s.syn t = 1) || decide (s.syn t = 4)) && s.tuneFar t) then
    (s.setTxCal t fun x => { x with pend := .none, calRun := true, tuned := none }).setSyn t 2
  else s

/-- A calibration is running. -/
def State.calRuns (s : State) (t : Nat) : Bool := decide (s.syn t = 2) && (s.txc t).calRun

/-- The calibration yields at its checkpoint to a tune start (R94).  (DEDUCED, log entry 100.) -/
def State.calYield (s : State) (t : Nat) : State :=
  match s.nextReq t with
  | some r =>
    if s.calRuns t && (s.txc t).calValid && ((s.txc t).tuneReq || decide (s.tuneAt t r ≤ s.time.wall)) then
      (((s.setTxCal t fun x => { x with calRun := false, susp := true, tuned := some r.ask.offset }).setSyn t 3).count
        (Port.TXC_YIELDCNT t)).setF (Port.TXC_CALSTAT t) 17 15 3
    else s
  | none => s

/-- A suspended calibration resumes (R94). -/
def State.calResume (s : State) (t : Nat) : State :=
  if (s.txc t).susp ∧ (s.syn t = 1 ∨ s.syn t = 4) ∧ s.tuneFar t then
    (s.setTxCal t fun x => { x with susp := false, calRun := true, tuned := none }).setSyn t 2
  else s

/-- A calibration completes; one that became pending meanwhile asks for the grant anew (R90, R93, R94). -/
def State.calDone (s : State) (t : Nat) : State :=
  if s.calRuns t then
    let temp := s.getF Port.CAL_TEMP 8 0
    let u := s.setTxCal t fun x =>
      { x with calRun := false, calValid := true, tcal := BitVec.ofNat 9 temp, tuned := none, tuneReq := false }
    let v := ((((u.setSyn t 1).setB (Port.TXC_STAT t) 10 true).setF (Port.TXC_CALSTAT t) 17 15 1).setF
      (Port.TXC_CALSTAT t) 8 0 temp |>.sluiceDrop (Act.syn t)).raise Irq.TX_CAL_DONE
    if (s.txc t).pend = .none then v else v.sluiceAsk (Act.syn t)
  else s

/-! ## Test transmission (R103) -/

/-- A write to TXC_x_TESTCMD (R103).  An unmodulated carrier passes the PHY check of R84 whatever the PHY field holds
(DESIGN CHOICE, log entry 140); a stop that finds the test's ramp-up still to begin leaves the accepted request in place
(DESIGN CHOICE, log entry 141). -/
def State.txTestcmd (s : State) (t : Nat) (v : Word) : State :=
  if v = 1 then
    let w := s.get (Port.TXC_TEST t)
    let st := s.time.link + 1024
    s.txAsk .test t { offset := s.get (Port.TXC_FREQ t),
                      phy := if fld w 17 15 = 0 then (if t = 0 then 4 else 0) else BitVec.ofNat 3 (fld w 14 12),
                      pcode := BitVec.ofNat 6 (fld w 5 0), tStart := st, tLate := st + 16000,
                      dur := max 1 (fld w 11 6) * 16000, signal := if fld w 17 15 = 0 then .carrier else .prbs9 }
  else if v = 2 then
    match (s.txc t).cur with
    | some r =>
      if r.req.owner = .test ∧ r.phase ≠ .rampDown then
        s.updTxc t fun x => { x with cur := some { r with phase := .rampDown, downAt := s.time.wall } }
      else s
    | none => s
  else s

/-! ## Front-end lines (R100-R102) -/

/-- A chain counts as active: from LEAD before its ramp-up to LAG after its ramp-down (R100). -/
def State.txActive (s : State) (t : Nat) : Bool :=
  let x := s.txc t
  x.cur.isSome || s.rampWithin t s.fecLead ||
    (match x.prevEnd with
     | some e => decide (s.time.wall < e + x.prevLag)
     | none => false)

/-- A transmission of a sequencer is under way, its ramps counted. -/
def State.seqRuns (s : State) (q : Nat) : Bool := [0, 1].any fun t => match (s.txc t).cur with
  | some r => decide (r.req.owner = .seq q)
  | none => false

/-- A sequencer drives an event's front-end bits: from the setup point on, the wait for the previous CLOSE among it, until
its event can transmit no more and its last ramp-down is over (R101). -/
def State.feOn (s : State) (q : Nat) (e : Event) : Bool := s.seqRuns q || (decide (s.seqState q ≠ 7) && !e.closing)

/-- Front-end bit of the events being served (R101). -/
def State.feBit (s : State) (b : Nat) : Bool :=
  s.link.events.any fun x => match x.2 with
    | some e => s.feOn x.1 e && bitOf (s.ctxRd e.ctx 6) (10 + b)
    | none => false

/-- Level of a front-end line before INVERT. -/
def State.fecSourceOn (s : State) (n src : Nat) : Bool :=
  if src = 1 then true else
  if src = 2 then s.txActive 0 else
  if src = 3 then s.txActive 1 else
  if src = 4 then s.txActive 0 || s.txActive 1 else
  if src = 5 then !(s.txActive 0 || s.txActive 1) else
  if src = 6 then s.txActive 0 && s.txActive 1 else
  if 8 ≤ src ∧ src ≤ 15 then s.feBit (src - 8) else
  if src = 16 then s.getB Port.TXC_FEC_MAN n else false

/-- The level driven on a front-end ball: low until a Rig is applied (R100). -/
def State.fecLevel (s : State) (n : Nat) : Bool :=
  s.rig.applied && (s.fecSourceOn n (s.getF (Port.TXC_FEC n) 5 0) != s.getB (Port.TXC_FEC n) 6)

/-- TXC registers that follow from the chains. -/
def State.txcView (s : State) (p : Nat) : Word :=
  if p = Port.TXC_FEC_LEVEL then
    (List.range 8).foldl (fun w n => if s.fecLevel n then w ||| BitVec.twoPow 18 n else w) 0
  else s.get p

end Sys2Proof.Machine
end

