-- ==== Sys2Proof/Machine/LaneOps.lean ====
section
/-! DEFINITION. Receive chains and listening lanes (R52-R79): gain steps, calibration, blanking, the lane state table,
storing a packet's cells, the report, and closing. -/

namespace Sys2Proof.Machine

open Sys2Proof

/-! ## Chains -/

/-- Change a chain's hidden state. -/
def State.updChain (s : State) (c : Nat) (f : RxState → RxState) : State := s.setChain c (f (s.chain c))

/-- Every domain of a chain is released (R57). -/
def State.chainDoms (s : State) (c : Nat) : Bool := s.domOn (7 + c) && s.domOn (5 + c) && s.domOn 5

/-- READY of a chain. -/
def State.chainReady (s : State) (c : Nat) : Bool := s.getB (Port.RXC_STAT c) 0

/-- A chain computes a grid (R61): its bit of CHAIN_A or CHAIN_B. -/
def State.gridOn (s : State) (c : Nat) (w : Bool) : Bool :=
  bitOf (s.get (Port.RXC_PLAN 1)) (12 + 3 * c + nat1 w)

/-- The start of a grid's blanking under way (R78). -/
def State.blankingFrom (s : State) (w : Bool) : Option Nat := Cells.rd (fun _ => none) s.rx.blankFrom (nat1 w)

/-- The end of a grid's last blanking (R79). -/
def State.blankedTill (s : State) (w : Bool) : Option Nat := Cells.rd (fun _ => none) s.rx.blankOver (nat1 w)

/-- A chain is blanked on a grid (R78): a chain that comes up while the grid is blanked is blanked too. -/
def State.blanked (s : State) (c : Nat) (w : Bool) : Bool := s.domOn (7 + c) && (s.blankingFrom w).isSome

/-- A chain delivers bins of a grid. -/
def State.chainLive (s : State) (c : Nat) (w : Bool) : Bool := s.gridOn c w && s.chainReady c

/-! ## Lane registers -/

def State.laneRole (s : State) (l : Nat) : Nat := s.getF (Port.LAN_STAT l) 17 15
def State.setLaneRole (s : State) (l v : Nat) : State := s.setF (Port.LAN_STAT l) 17 15 v
/-- LAN_n_STAT STATE: 0 IDLE, 1 FILLING, 2 SEARCH, 3 RECEIVE, 4 CLOSE. -/
def State.laneState (s : State) (l : Nat) : Nat := s.getF (Port.LAN_STAT l) 14 12
def State.setLaneState (s : State) (l v : Nat) : State := s.setF (Port.LAN_STAT l) 14 12 v
def State.lanePhy (s : State) (l : Nat) : Nat := s.getF (Port.LAN_CFG l) 17 15
def State.laneAnt (s : State) (l : Nat) : Nat := s.getF (Port.LAN_CFG l) 14 12
def State.laneBin (s : State) (l : Nat) : Nat := s.getF (Port.LAN_CFG l) 8 0
/-- A lane's PHY lies on the 2.4 GHz grid. -/
def State.laneW (s : State) (l : Nat) : Bool := phyGridW (s.lanePhy l)
def State.updLane (s : State) (l : Nat) (f : Lane → Lane) : State := s.setLane l (f (s.lane l))

/-- A bin lies in a grid's CHANNEL_PLAN range. -/
def State.binInPlan (s : State) (w : Bool) (bin : Nat) : Bool :=
  if w then inRange (s.getF (Port.RXC_PLAN 1) 5 0) (s.getF (Port.RXC_PLAN 1) 11 6) bin
  else inRange (s.getF (Port.RXC_PLAN 0) 8 0) (s.getF (Port.RXC_PLAN 0) 17 9) bin

/-- The configuration checks of START (R64). -/
def State.cfgOk (s : State) (phy ant bin : Nat) : Bool :=
  let w := phyGridW phy
  decide (phy ≠ 3) && decide (phy ≠ 7) && s.binInPlan w bin &&
    (if ant = 0 then s.gridOn 0 w else if ant = 1 then s.gridOn 1 w
     else if ant = 2 ∨ ant = 3 then s.gridOn 0 w || s.gridOn 1 w else false)

/-- The chains that feed a lane (R65). -/
def State.feeds (s : State) (l : Nat) : List Nat :=
  let a := s.laneAnt l
  ((if a = 0 then [0] else if a = 1 then [1] else if a = 2 ∨ a = 3 then [0, 1] else []).filter
    fun c => s.chainLive c (s.laneW l))


/-- Detection is suspended: every feeding chain is blanked or not READY (R67). -/
def State.laneBlind (s : State) (l : Nat) : Bool := (s.feeds l).all fun c => s.blanked c (s.laneW l)

/-- Lanes of a state. -/
def lanesIn (p : Nat → Bool) : List Nat := (List.range 64).filter fun l => p l

/-- A lane receives a packet. -/
def State.receiving (s : State) (l : Nat) : Bool := (s.lane l).pkt.isSome

/-- Lanes whose packet a chain feeds. -/
def State.receivingOn (s : State) (c : Nat) : List Nat :=
  lanesIn fun l => match (s.lane l).pkt with
    | some p => p.feeds.elem c
    | none => false

/-- Mark the packets that lanes receive. -/
def State.markPkts (s : State) (ls : List Nat) (f : LanePkt → LanePkt) : State :=
  forEach ls (fun l t => t.updLane l fun x => { x with pkt := x.pkt.map f }) s

/-! ## Gain (R53-R56) -/

/-- Ticks a packet still to be matched may fall around: those of the last 4,096 µs, which the longest preamble and sync
and the longest delay of R61 do not exceed. -/
def State.recent (s : State) (l : List Nat) : List Nat := l.filter fun t => decide (s.time.wall ≤ t + 65536)


/-- An attenuator step: it is counted, packets under way on the chain record it, and its time is kept for those whose
sync is still to be matched (R56). -/
def State.attStep (s : State) (c a : Nat) : State :=
  if s.getF (Port.RXC_STAT c) 11 8 = a then s else
  (((s.setF (Port.RXC_STAT c) 11 8 a).count (Port.RXC_STEPCNT c)).markPkts (s.receivingOn c)
    fun p => { p with agcStep := true }).updChain c fun x => { x with steps := s.time.wall :: s.recent x.steps }

/-- MODE of a chain's gain control (R53). -/
def State.agcMode (s : State) (c : Nat) : Nat := s.getF (Port.RXC_AGC c) 17 15

/-- A step-up may follow the last one: 1 µs has passed (R54). -/
def State.stepUpFree (s : State) (c : Nat) : Bool :=
  match (s.chain c).stepUpAt with
  | some t => decide (t + 16 ≤ s.time.wall)
  | none => true

/-- A clip event (R53, R54): the peak it reached restarts the HOLD measurement (R55).  (DESIGN CHOICE, log entry 92.) -/
def State.clip (s : State) (c : Nat) : State :=
  if s.domOn (7 + c) = false then s else
  let u := (((s.count (Port.RXC_CLIPCNT c)).setB (Port.RXC_STAT c) 1 true).raise Irq.RX_CLIP).updChain c
    fun x => { x with holdFrom := s.time.wall }
  if s.agcMode c = 0 ∧ s.stepUpFree c then
    (u.attStep c (min 15 (s.getF (Port.RXC_STAT c) 11 8 + max 1 (s.getF (Port.RXC_AGC c) 14 12)))).updChain c
      fun x => { x with stepUpAt := some s.time.wall }
  else u

/-- HOLD, in ticks (R55). -/
def State.holdTicks (s : State) (c : Nat) : Nat := max 1 (s.getF (Port.RXC_AGC c) 7 0) * 800

/-- The conditions of a step down hold (R55): a HOLD period has passed since the measurement restarted; that the peak
stayed below -12 dBFS in it is the event's. -/
def State.attMayFall (s : State) (c : Nat) : Bool :=
  s.domOn (7 + c) && decide (s.agcMode c = 0) && (s.receivingOn c).isEmpty && !s.blanked c false && !s.blanked c true &&
    decide (s.getF (Port.RXC_STAT c) 11 8 ≠ 0) && decide ((s.chain c).holdFrom + s.holdTicks c ≤ s.time.wall)

/-- The chain lowers ATT by one code and restarts the HOLD measurement (R55). -/
def State.attFall (s : State) (c : Nat) : State :=
  if s.attMayFall c then
    (s.attStep c (s.getF (Port.RXC_STAT c) 11 8 - 1)).updChain c fun x => { x with holdFrom := s.time.wall }
  else s

/-- A write of RXC_x_AGC: MODE 3-7 is discarded; manual acts at once as a step (R53). -/
def State.agcWrite (s : State) (c : Nat) (v : Word) : State :=
  if 3 ≤ fld v 17 15 then s else
  let u := s.set (Port.RXC_AGC c) v
  if fld v 17 15 = 2 then u.attStep c (fld v 11 8) else u

/-! ## Storing a packet (R68, R205, R206) -/

/-- Store octets, tag 0, into a packet's payload cells. -/
def State.storeOctets (s : State) (p : Pkt) (octs : List Octet) : State :=
  (indexed (packNonets (octs.map fun o => o.setWidth 9))).foldl (fun u x =>
    match p.payCell x.1 with
    | .sram c => u.sramWr (u.cellAddr c (x.1 % 8)) x.2
    | _ => u) s

/-- The open entries of the order keeper (R182). -/
def State.entries (s : State) : List OkEntry := s.trim.entries
def State.setEntries (s : State) (l : List OkEntry) : State := { s with trim := { s.trim with entries := l } }

/-- A named unit wrote a cell or committed a packet of an entry: its drain timer restarts (R184). -/
def State.touchEntry (s : State) (l c : Nat) (ep : BitVec 6) : State :=
  s.setEntries (s.entries.map fun e =>
    if e.ctx = c ∧ e.epoch = ep ∧ l ∈ e.units then { e with timerFrom := s.time.link } else e)

/-- A lane wrote a cell of its packet: the drain timer of the packet's entry restarts (R184). -/
def State.touchPkt (s : State) (l : Nat) (p : LanePkt) : State :=
  match p.ctx with
  | some c => s.touchEntry l c p.epoch
  | none => s

/-- Octets of a lane's packet have arrived, `n` in all: payload cell k is taken when its first octet arrives, and the
first refusal ends storing (R68, R205). -/
def State.laneArrive (s : State) (l n : Nat) : State :=
  match (s.lane l).pkt with
  | none => s
  | some lp =>
    let need := 1 + (n + 15) / 16 - lp.cells.length
    if lp.trunc ∨ need = 0 then s else
    let r := s.takeCells lp.queue need
    (if r.1.isEmpty then r.2 else r.2.touchPkt l lp).updLane l fun x =>
      { x with pkt := some { lp with cells := lp.cells ++ r.1, trunc := decide (r.1.length < need) } }

/-- Store octets into the cells a lane packet took; cells beyond them return to the pool (R68). -/
def State.fillPkt (s : State) (lp : LanePkt) (octs : List Octet) : Pkt × State :=
  let n := min octs.length (16 * (lp.cells.length - 1))
  let need := 1 + (n + 15) / 16
  let p : Pkt := { cells := lp.cells.take need, len := n, epoch := lp.epoch }
  let t := if (lp.cells.drop need).isEmpty then s else s.marked lp.queue fun t => t.freeAll (lp.cells.drop need)
  (p, t.storeOctets p (octs.take n))

/-- `n` free octets: what a lane had stored of a packet that was cut is open (R68, log entry 17). -/
def State.freeOctets (s : State) (n : Nat) : List Octet × State :=
  ((List.range n).map fun i => (Config.freeWord (s.free + i)).extractLsb' 0 8, { s with free := s.free + n })

/-! ## The report (R71, R72) -/

/-- The report words of a packet, on the chains that fed it from its sync on.  (DEDUCED, log entry 93.) -/
def State.report (s : State) (l : Nat) (lp : LanePkt) (crcOk trunc blankedBit faultBit : Bool) : List Word :=
  let w := s.laneW l
  let both := decide (lp.feeds.length = 2)
  let a := s.laneAnt l
  let one := lp.feeds.getD 0 0
  let usesA := if both then decide (a = 2) || !lp.meas.selB else decide (one = 0)
  let usesB := if both then decide (a = 2) || lp.meas.selB else decide (one = 1)
  let ant := if both then (if a = 2 then 2 else if lp.meas.selB then 4 else 3) else one
  let phok := both && !lp.phaseBad
  let phcal := if w then s.getF Port.RXC_PHCAL 17 9 else s.getF Port.RXC_PHCAL 8 0
  let ph := if phok then (lp.meas.phase.toNat + 512 - phcal) % 512 else fld s.freeWord 17 9
  let q := if phok then lp.meas.qual.toNat else fld s.freeWord 8 6
  let len := lp.lenSeen.getD (Config.freeNat s.free % 1024)
  [inFld 17 9 (if usesB then lp.meas.rssiB.toNat else 0o400) ||| inFld 8 0 (if usesA then lp.meas.rssiA.toNat else 0o400),
   inFld 17 9 ph ||| inFld 8 6 q ||| inFld 5 3 ant ||| inFld 2 0 lp.meas.phy.toNat,
   inFld 17 17 (nat1 crcOk) ||| inFld 16 16 (nat1 trunc) ||| inFld 15 15 (nat1 blankedBit) |||
     inFld 14 14 (nat1 lp.agcStep) ||| inFld 13 13 (nat1 (lp.calStep || s.waits Act.chzscrub || s.granted Act.chzscrub)) |||
       inFld 12 12 (nat1 phok) |||
     inFld 11 11 (nat1 (decide (s.laneRole l = 2))) ||| inFld 10 10 (nat1 faultBit) ||| inFld 9 0 len] ++
  timeWords lp.ts

/-- Detach a watch lane: it is free again (R75). -/
def State.laneFree (s : State) (l : Nat) : State :=
  (s.updLane l fun x => { x with pkt := none, slot := none, entries := [], discarding := false, stopReq := false }).setLaneState l 0

/-- After a packet: a watch lane is released, a lane with STOP remembered detaches, any other searches (R67). -/
def State.laneAfter (s : State) (l : Nat) : State :=
  if s.laneRole l = 2 then s.laneFree l else
  if (s.lane l).stopReq then
    (s.updLane l fun x => { x with pkt := none, discarding := false, stopReq := false }).setLaneState l 0
  else (s.updLane l fun x => { x with pkt := none, discarding := false }).setLaneState l 2

/-- Own packets with CRC failed of widened contexts are held (R264). -/
def State.copyHeld (s : State) (ctx : Option Nat) : Bool :=
  match ctx with
  | some c => s.domOn 13 && s.getB Port.UTV_WIDE_CFG 17 && decide (c < s.getF Port.UTV_WIDE_COUNT 13 0)
  | none => false

/-- A later packet of a context with CRC good ends the holds of its earlier packets (R264). -/
def State.endHolds (s : State) (ctx : Option Nat) : State :=
  match ctx with
  | some c => forNat 64 (fun l t =>
      if (t.lane l).stage.any fun g => g.hold && decide (g.ctx = some c) then
        t.updLane l fun x =>
          { x with stage := x.stage.map fun g => if g.ctx = some c then { g with hold := false } else g }
      else t) s
  | none => s

/-- Close a packet: its report, its counters, and its place in the delivery stage; a packet that is not delivered gives
its cells back (R67, R68, R71, R233).  `checked`: its CRC was received. -/
def State.laneClose (s : State) (l : Nat) (lp : LanePkt) (p : Pkt) (checked crcOk trunc blankedBit faultBit deliver : Bool) :
    State :=
  let rep := s.report l lp crcOk trunc blankedBit faultBit
  let s1 := s.nextFree.setWide (Port.LAN_RSSI l) 6 (joinWords rep)
  let s2 := if checked then s1.count (if crcOk then Port.LAN_OKCNT l else Port.LAN_BADCNT l) else s1
  let s3 := if trunc then s2.count (Port.LAN_TRUNCCNT l) else s2
  let hold := !crcOk && s.copyHeld lp.ctx
  if deliver || hold then
    let h1 := match lp.ctx with
      | some c => inFld 13 0 c
      | none => inFld 17 15 1 ||| inFld 13 0 l
    let s4 := s3.setHeaders p 0 ([inFld 13 0 p.len, h1] ++ rep)
    let g : Staged := { pkt := p, queue := lp.queue, ctx := lp.ctx, epoch := lp.epoch,
                        ordered := decide (s.laneRole l ≠ 4), wanted := deliver, hold := hold, closed := s.time.link }
    let s5 := s4.updLane l fun x => { x with stage := x.stage ++ [g], pkt := none }
    if crcOk then s5.endHolds lp.ctx else s5
  else (s3.marked lp.queue fun t => t.freeAll p.cells).updLane l fun x => { x with pkt := none }

/-- Octets of a cut packet that may have been stored. -/
def cutBound (phy : Nat) (lp : LanePkt) : Nat :=
  match lp.lenSeen with
  | some n => hdrOctets phy + n
  | none => hdrOctets phy

/-- Close a packet whose end was not received: TRUNC with the octets stored until then, fewer than the frame has
(R67, R68, R206). -/
def State.laneCut (s : State) (l : Nat) (blankedBit faultBit deliver : Bool) : State :=
  match (s.lane l).pkt with
  | none => s
  | some lp0 =>
    let n := s.freeNat % cutBound (s.lanePhy l) lp0
    let o := s.nextFree.freeOctets n
    let t := o.2.laneArrive l n
    match (t.lane l).pkt with
    | none => t
    | some lp =>
      let r := t.fillPkt lp o.1
      r.2.laneClose l lp r.1 false false true blankedBit faultBit deliver

/-- A context asks for packets whose CRC failed (R68).  (DEDUCED, log entry 96.) -/
def State.failDlv (s : State) (ctx : Option Nat) : Bool :=
  match ctx with
  | some c => decide (s.ctxF c 0 5 5 = 1)
  | none => false

/-- A cut packet of a lane is delivered (R233): a manual lane has no descriptor that asks for it. -/
def State.cutDeliver (s : State) (l : Nat) (lp : LanePkt) : Bool :=
  decide (s.laneRole l ≠ 4) && s.failDlv lp.ctx

/-! ## Loss of chains and blanking (R57, R60, R65, R79) -/

/-- Chains `cs` cease to feed a lane's packet: it goes on with the other chain and loses PHASE_OK, or closes with TRUNC
when none is left (R60, R65). -/
def State.unfeed (s : State) (cs : List Nat) (l : Nat) : State :=
  match (s.lane l).pkt with
  | some lp =>
    if lp.feeds.all cs.elem then (s.laneCut l false false (s.cutDeliver l lp)).laneAfter l
    else if lp.feeds.any cs.elem then
      s.updLane l fun x => { x with pkt := some { lp with feeds := lp.feeds.filter fun c => !cs.elem c, phaseBad := true } }
    else s
  | none => s

/-- Chains clear READY (R57, R60, R65). -/
def State.dropReady (s : State) (cs : List Nat) : State :=
  let off := cs.filter s.chainReady
  if off.isEmpty then s else
  forNat 64 (fun l t => t.unfeed off l) (forEach off (fun c t => t.setB (Port.RXC_STAT c) 0 false) s)

/-- Foreground calibration starts (R57). -/
def State.chainForeground (s : State) (c : Nat) : State :=
  (s.dropReady [c]).updChain c fun x => { x with cal := .foreground, holdFrom := s.time.wall }

/-- A chain's domain is off: no calibration, READY clear, its waiting request withdrawn (R57, R410). -/
def State.chainDown (s : State) (c : Nat) : State :=
  ((s.dropReady [c]).updChain c fun x =>
    { x with cal := .off, mustRun := false, applyNext := false, stepUpAt := none, holdFrom := s.time.wall }).sluiceDrop
    (Act.rxcal c)

/-- Retained coefficients are valid (R57): kept since the last system reset, within 20 °C. -/
def State.coefOk (s : State) (c : Nat) : Bool :=
  (s.chain c).coefValid && decide ((s.dieTemp - signed 9 (s.chain c).coefTemp.toNat).natAbs ≤ 20)

/-- Foreground calibration is done: READY (R57). -/
def State.chainDone (s : State) (c : Nat) (skew : BitVec 9) : State :=
  if (s.chain c).cal = .foreground ∧ s.chainDoms c ∧ s.rx.smpLost = false then
    let x := s.chain c
    let temp := BitVec.ofNat 9 (s.getF Port.CAL_TEMP 8 0)
    let u := (s.updChain c fun x =>
      { x with cal := .running, coefValid := true, coefTemp := temp, mustRun := false,
               updated := s.time.link, readyAt := s.time.wall, askedFrom := s.time.wall }).setB (Port.RXC_STAT c) 0 true
    let v := u.setF (Port.RXC_CALSTAT c) 8 0 skew.toNat
    if x.mustRun then (v.setF (Port.RXC_CALSTAT c) 11 9 1).sluiceDrop (Act.rxcal c) else v
  else s

/-- The last bit of a lane's packet, its length known, has reached the ANT ball by now. -/
def State.wholeAtBall (s : State) (l : Nat) (lp : LanePkt) : Bool :=
  let p := if s.lanePhy l = 2 then lp.meas.phy.toNat else s.lanePhy l
  match lp.lenSeen with
  | some n => timeLe (lp.ts + ticks (frameTicks p n - syncTicks p)) s.time.link
  | none => false

/-- Blanking of a grid starts when its transmit chain is due (R78): packets of that grid whose last bit is still to come
close with TRUNC and BLANKED (R67, R79). -/
def State.blankStart (s : State) (w : Bool) : State :=
  if (s.blankingFrom w).isSome ∨ s.blankDue (nat1 w) = false then s else
  let u := { s with rx := { s.rx with blankFrom := Cells.wr (fun _ => none) s.rx.blankFrom (nat1 w) (some s.time.wall) } }
  forNat 64 (fun l t =>
    match (t.lane l).pkt with
    | some lp => if t.laneW l = w ∧ t.wholeAtBall l lp = false then
        (t.laneCut l true false (t.cutDeliver l lp)).laneAfter l else t
    | none => t) u

/-- Blanking of a grid ends, POST after its chain's last ramp-down, unless the chain's next ramp-up is due (R78). -/
def State.blankEnd (s : State) (w : Bool) : State :=
  if (s.blankingFrom w).isNone ∨ s.blankDue (nat1 w) ∨ s.blankPosted (nat1 w) = false then s else
  { s with rx := { s.rx with blankFrom := Cells.wr (fun _ => none) s.rx.blankFrom (nat1 w) none,
                             blankOver := Cells.wr (fun _ => none) s.rx.blankOver (nat1 w) (some s.time.wall) } }

/-! ## Background calibration (R58-R60) -/

/-- Background coefficients are applied. -/
def State.coefApply (s : State) (c : Nat) (skew : BitVec 9) : State :=
  ((s.updChain c fun x => { x with cal := .running, applyNext := false, updated := s.time.link }).setF
    (Port.RXC_CALSTAT c) 8 0 skew.toNat).sluiceDrop (Act.rxcal c)

/-- No lane fed by the chain receives and it is blanked in neither grid (R58). -/
def State.chainQuiet (s : State) (c : Nat) : Bool :=
  (s.receivingOn c).isEmpty && !s.blanked c false && !s.blanked c true

/-- GAP, in ticks (R58). -/
def State.gapTicks (s : State) : Nat := max 2 (s.getF Port.RXC_CALGAP 17 12) * 16

/-- A gap: the chain has been quiet for GAP since its grant (R58).  (DEDUCED, log entry 138.) -/
def State.chainGap (s : State) (c : Nat) : Bool :=
  s.chainQuiet c && decide ((s.chain c).gapFrom + s.gapTicks ≤ s.time.wall)

/-- A tick in which a chain that waits for a gap is not quiet: its gap has still to begin (R58). -/
def State.gapTick (s : State) (c : Nat) : State :=
  if (s.chain c).cal = .waitGap ∧ s.chainQuiet c = false then s.updChain c fun x => { x with gapFrom := s.time.wall } else s

/-- A write to RXC_x_CALCMD (R60). -/
def State.rxCalcmd (s : State) (c : Nat) (v : Word) : State :=
  if v = 1 then
    let r := s.sluiceMust (Act.rxcal c)
    if r.1 then (r.2.chainForeground c).updChain c fun x => { x with mustRun := true }
    else r.2.setF (Port.RXC_CALSTAT c) 11 9 2
  else if v = 2 then
    if s.chainReady c = false then s else
    (s.updChain c fun x =>
      { x with applyNext := true, cal := if x.cal = .waitGap then .waitGap else .waitGrant }).sluiceAsk (Act.rxcal c)
  else s

/-! ## Lane commands (R63, R67, R70) -/

/-- WR_DENY. -/
def State.laneDeny (s : State) (l : Nat) : State := s.setB (Port.LAN_STAT l) 2 true

/-- START of a lane (R64, R67). -/
def State.laneStart (s : State) (l : Nat) : State :=
  if s.cfgOk (s.lanePhy l) (s.laneAnt l) (s.laneBin l) then
    (s.updLane l fun x => { x with stopReq := false }).setLaneState l 1
  else s.setB (Port.LAN_STAT l) 1 true

/-- STOP of a lane: remembered while it receives (R67).  In FILLING, for which the state table has no row of STOP, the lane
detaches as from SEARCH (DESIGN CHOICE, log entry 137). -/
def State.laneStop (s : State) (l : Nat) : State :=
  if s.receiving l ∨ (s.lane l).discarding then s.updLane l fun x => { x with stopReq := true }
  else s.setLaneState l 0

/-- A write to LAN_n_CMD. -/
def State.laneCmd (s : State) (l : Nat) (v : Word) : State :=
  let role := s.laneRole l
  let st := s.laneState l
  if v = 1 then (if role = 4 ∧ st = 0 then s.laneStart l else s.laneDeny l) else
  if v = 2 then (if role = 4 then (if st = 0 then s else s.laneStop l) else s.laneDeny l) else
  if v = 3 then (if role = 3 then s.setLaneRole l 4 else s.laneDeny l) else
  if v = 4 then (if role = 4 ∧ st = 0 then s.setLaneRole l 3 else s.laneDeny l) else
  if v = 5 then
    (if role = 5 ∧ (s.lane l).testing = false then s.updLane l fun x => { x with testing := true } else s.laneDeny l)
  else s.laneDeny l

/-- A write to LAN_n_CFG to LAN_n_CTX: only to a manual lane that is IDLE (R63). -/
def State.laneCfgWrite (s : State) (l p : Nat) (v : Word) : State :=
  if s.laneRole l = 4 ∧ s.laneState l = 0 then s.set p v else s.laneDeny l

/-- Configure a lane (R63): bin, PHY, antenna mode, fine offset, length limit, sync word, CRC and whitening, queue and
context. -/
def State.laneConfig (s : State) (l phy ant bin foff maxlen : Nat) (sync : BitVec 32) (crc : BitVec 24) (white : BitVec 9)
    (queue ctx : Nat) : State :=
  s.setWide (Port.LAN_CFG l) 8 (joinWords
    [inFld 17 15 phy ||| inFld 14 12 ant ||| inFld 8 0 bin, inFld 17 12 foff ||| inFld 9 0 maxlen,
     sync.extractLsb' 0 18, (sync.extractLsb' 18 14).setWidth 18,
     crc.extractLsb' 0 18, inFld 17 9 white.toNat ||| (crc.extractLsb' 18 6).setWidth 18,
     inFld 6 0 queue, inFld 13 0 ctx])

/-- Fill time elapsed (R67). -/
def State.laneFilled (s : State) (l : Nat) : State := if s.laneState l = 1 then s.setLaneState l 2 else s

/-! ## Frames -/

/-- A lane's frame dewhitened (R150, R137). -/
def State.dewhiten (s : State) (l : Nat) (lp : LanePkt) (air : List Octet) : List Octet :=
  if phyIsLe (s.lanePhy l) then leWhiten (leChannel (s.laneBin l)) air else halWhiten lp.white air

/-- The CRC of a lane's frame is good (R149). -/
def State.laneCrcOk (s : State) (l : Nat) (lp : LanePkt) (frame : List Octet) : Bool :=
  decide (frame.length = hdrOctets (s.lanePhy l) + frameLen (s.lanePhy l) frame + 3) &&
    crc24Good (if phyIsLe (s.lanePhy l) then lePoly else halPoly) lp.crcInit frame

/-- The access address of LE advertising (PRESUMED, log entry 11). -/
abbrev advAddress : BitVec 32 := 0x8E89BED6

/-- A length field is within a lane's limit (R142, R152); an extended advertising PDU has its extended header's length
octet at least, AUX_CONNECT_RSP both addresses (PRESUMED, log entry 11). -/
def State.lenOk (s : State) (l : Nat) (lp : LanePkt) (hdr : List Octet) : Bool :=
  let n := frameLen (s.lanePhy l) hdr
  let m := s.getF (Port.LAN_LIM l) 9 0
  if phyIsLe (s.lanePhy l) then
    if lp.sync = advAddress then
      let t := leAdvType hdr
      if t = 5 then decide (n = 34) else if t ≤ 6 then inRange 6 37 n else if t = 8 then decide (14 ≤ n) else decide (1 ≤ n)
    else decide (m = 0) || decide (n ≤ m)
  else decide (m = 0) || decide (n ≤ m)

/-- A Haldaro frame's type, MIC and length stand against the sync word on which it arrived (R148, R156, R166); `beacon`:
the sync word is a beacon's, none when unknown. -/
def halTypeOk (beacon : Option Bool) (f : List Octet) : Bool :=
  let t := halType f
  let m := halMic f
  decide (t ≠ 7) && decide (m ≠ 3) &&
    (match beacon with
     | some true => inRange 4 6 t
     | some false => decide (t ≤ 3)
     | none => true) &&
    (if t = 4 then decide (halLen f = 27 + micOctets m) else if t = 6 then decide (halLen f = 45 + micOctets m) else true)

/-- Whether a context's sync word is a beacon sync word. -/
def State.beaconCtx (s : State) (ctx : Option Nat) : Option Bool :=
  match ctx with
  | some c => if s.ctxF c 0 17 15 = 4 then some false
              else if s.ctxF c 0 17 15 = 5 ∨ s.ctxF c 0 17 15 = 6 then some true else none
  | none => none

/-- A frame is received good: its CRC and, for Haldaro, its form. -/
def State.frameGood (s : State) (l : Nat) (lp : LanePkt) (frame : List Octet) : Bool :=
  s.laneCrcOk l lp frame && (phyIsLe (s.lanePhy l) || halTypeOk (s.beaconCtx lp.ctx) frame)

/-! ## Watch detection (R74-R77) -/

/-- Watch entry `e` as in force: its four words. -/
def State.watchEntry (s : State) (e : Nat) : List Word := Cells.rds (fun _ => 0) s.rx.watchIn (4 * e) 4

/-- A write of RXC_WM_e_3 applies the staged entry (R77). -/
def State.watchApply (s : State) (e : Nat) (v : Word) : State :=
  let t := s.set (Port.RXC_WM_3 e) (v &&& ~~~(fieldMask 8 6))
  let ws := [t.get (Port.RXC_WM_0 e), t.get (Port.RXC_WM_1 e), t.get (Port.RXC_WM_2 e), t.get (Port.RXC_WM_3 e)]
  { t with rx := { t.rx with watchIn := Cells.wrs (fun _ => 0) t.rx.watchIn (4 * e) ws } }

/-- A watch entry is valid for a lane PHY.  An entry that names code 3, which the PHY table reserves, is taken as LE Coded
(DESIGN CHOICE, log entry 136). -/
def entryFor (phy : Nat) (w : List Word) : Bool := bitOf (w.getD 1 0) 14 && decide (rxPhy (cw w 1 17 15) = phy)

/-- The contexts in search for a lane PHY. -/
def State.searchFor (s : State) (phy : Nat) : List Nat :=
  s.searchers.filter fun c => decide (rxPhy (s.ctxF c 0 11 9) = phy)

/-- A bin is watched for firmware's entries (R74). -/
def State.watched (s : State) (w : Bool) (bin : Nat) : Bool :=
  s.getB Port.RXC_WATCH_CTRL 17 && s.getB Port.RXC_WATCH_CTRL (12 + nat1 w) && s.binInPlan w bin &&
    (if w then inRange (s.getF Port.RXC_WATCH_W 5 0) (s.getF Port.RXC_WATCH_W 14 9) bin
     else inRange (s.getF Port.RXC_WATCH_SG 8 0) (s.getF Port.RXC_WATCH_SG 17 9) bin)

/-- A free lane of the watch pool: role watch, IDLE, nothing staged beyond its limit. -/
def State.freeWatch (s : State) : Option Nat := (List.range 64).find? fun l =>
  decide (s.laneRole l = 2) && decide (s.laneState l = 0) && s.domOn (laneDom l)

/-- A preamble is detected (R75, R116): a watch lane attaches to the bin and searches its sync word, centred by the fine
offset of the first search slot that looks for the PHY there, else at the bin centre (DESIGN CHOICE, log entry 135, where
a firmware entry suits too).  (DEDUCED, log entry 94.) -/
def State.watchDetect (s : State) (w : Bool) (bin phy : Nat) : State :=
  let chain := s.getF Port.RXC_WATCH_CTRL 14 14
  let fw := s.watched w bin && (List.range 8).any fun e => entryFor phy (s.watchEntry e)
  let sr := if s.binInPlan w bin then s.searchFor phy else []
  if (s.chainLive chain w && !s.blanked chain w && decide (phyGridW phy = w) && s.domOn 5) = false ∨ (fw || !sr.isEmpty) = false
  then s else
  match s.freeWatch with
  | none => (s.count Port.RXC_WATCH_MISS).raise Irq.WATCH_MISS
  | some l =>
    let foff := match sr.head? with
      | some c => s.ctxF c 5 5 0
      | none => 0
    let ents := if fw then (indexed ((List.range 8).map s.watchEntry)).filterMap fun x =>
        if entryFor phy x.2 then some (x.1, x.2) else none else []
    let u := s.laneConfig l phy chain bin foff 0 0 0 0 (s.getF Port.RXC_WATCH_CTRL 6 0) 0
    (u.updLane l fun x => { x with slot := none, entries := ents.flatMap fun e => e.2.map fun v => (e.1, v) }).setLaneState l 2

end Sys2Proof.Machine
end

