-- ==== Sys2Proof/Machine/Keeper.lean ====
section
/-! DEFINITION. Placement epochs and the order keeper (R180-R187, R228): opening and closing entries, drain markers and
timers, and the commit of a lane's packets. -/

namespace Sys2Proof.Machine

open Sys2Proof

/-- A lane holds results of a context: a closed packet not yet committed, or a packet in RECEIVE (R181). -/
def State.holdsOf (s : State) (l c : Nat) : Bool :=
  ((s.lane l).stage.any fun g => g.ordered && decide (g.ctx = some c)) ||
    (match (s.lane l).pkt with
     | some p => decide (p.ctx = some c) && decide (s.laneRole l ≠ 4)
     | none => false)

/-- A lane holds results of a context under an epoch (R183). -/
def State.holdsEpoch (s : State) (l c : Nat) (e : BitVec 6) : Bool :=
  ((s.lane l).stage.any fun g => g.ordered && decide (g.ctx = some c) && decide (g.epoch = e)) ||
    (match (s.lane l).pkt with
     | some p => decide (p.ctx = some c) && decide (p.epoch = e) && decide (s.laneRole l ≠ 4)
     | none => false)


/-- Give a closed entry's hole cell back (R185). -/
def State.freeHole (s : State) (e : OkEntry) : State :=
  match e.hole with
  | some c => s.marked (s.ctxF e.ctx 1 6 0) fun t => t.charge c 0
  | none => s

/-- Entries in opening order whose markers have all come close, in epoch order per context (R182, R183). -/
def splitDone : List OkEntry → List Nat → List OkEntry × List OkEntry
  | [], _ => ([], [])
  | e :: r, blocked =>
    if e.units.isEmpty && !blocked.elem e.ctx then
      let x := splitDone r blocked; (e :: x.1, x.2)
    else
      let x := splitDone r (e.ctx :: blocked); (x.1, e :: x.2)

/-- Close the entries that are complete. -/
def State.closeDone (s : State) : State :=
  let x := splitDone s.entries []
  forEach x.1 (fun e t => t.freeHole e) (s.setEntries x.2)

/-- Expire an entry: its hole descriptor is committed, in its cell or in one found now, and it closes (R184, R233). -/
def State.expireEntry (s : State) (e : OkEntry) : State :=
  let q := s.ctxF e.ctx 1 6 0
  let u := match e.hole with
    | some c => s.commitHole q (.sram c) e.epoch 2 e.ctx e.opened
    | none => if s.queueUp q then (s.holeCell q).2.commitHole q (s.holeCell q).1 e.epoch 2 e.ctx e.opened else s
  (((u.setEntries (u.entries.erase e)).count Port.TRM_HOLECNT).raise Irq.TRM_HOLE).closeDone

/-- Open an entry for a context whose old unit holds results; its EPOCH advances (R181, R182, R185).  With all 32
open, the entry that opened first expires first (R187).  (DEDUCED, log entry 114.) -/
def State.openEntry (s : State) (c : Nat) (units : List Nat) : State :=
  let s0 := if 32 ≤ s.entries.length then (match s.entries.head? with
    | some e => s.expireEntry e
    | none => s) else s
  let old := s0.epochOf c
  let r := s0.takeHole (s0.ctxF c 1 6 0)
  let e : OkEntry := { ctx := c, epoch := old, units := units, opened := s.time.link, hole := r.1,
                       timeout := s.getF (Port.TRM_POL 1) 11 0, timerFrom := s.time.link }
  ((r.2.setEntries (r.2.entries ++ [e])).setCtxF c 63 17 12 ((old.toNat + 1) % 64)).count Port.TRM_MIGCNT

/-- The context's receiving work moves away from a lane: an entry opens when the lane holds results (R181). -/
def State.leaveLane (s : State) (c l : Nat) : State := if s.holdsOf l c then s.openEntry c [l] else s

/-- A tick in which the Basin refuses a named unit's writes: from the first refusal of a packet until it closes, the drain
timers of its entries stand still (R184; DEDUCED, log entry 156). -/
def State.timerHolds (s : State) : State :=
  if s.entries.isEmpty then s else
  s.setEntries (s.entries.map fun e =>
    if e.units.any fun l => match (s.lane l).pkt with
      | some p => p.trunc && decide (p.ctx = some e.ctx) && decide (p.epoch = e.epoch)
      | none => false
    then { e with timerFrom := e.timerFrom + 1 } else e)

/-- A packet waits behind an open entry of an earlier epoch of its context (R182). -/
def State.heldBehind (s : State) (c : Nat) (ep : BitVec 6) : Bool :=
  s.entries.any fun e => decide (e.ctx = c) && inRange 1 31 (ep - e.epoch).toNat

/-- A packet's epoch has expired: it is neither the context's nor an open entry's (R184). -/
def State.epochGone (s : State) (c : Nat) (ep : BitVec 6) : Bool :=
  decide (s.epochOf c ≠ ep) && !(s.entries.any fun e => decide (e.ctx = c) && decide (e.epoch = ep))

/-- H1 DMG of a packet (R205). -/
def State.markDmg (s : State) (p : Pkt) : State :=
  if s.payTagged p then s.setHeader p 1 (withBit (s.headerWord p 1) 14 true) else s

/-- The order keeper takes a lane's first closed packet: it commits it, discards it as late, drops a packet whose hold
ended undelivered, or leaves it held (R182, R184, R264). -/
def State.commitStage (s : State) (l : Nat) : State :=
  match (s.lane l).stage with
  | [] => s
  | g :: r =>
    let u := s.updLane l fun x => { x with stage := r }
    let drop := u.marked g.queue fun t => t.freeAll g.pkt.cells
    if g.hold then s else
    match g.ordered, g.ctx with
    | true, some c =>
      if s.heldBehind c g.epoch then s else
      if s.epochGone c g.epoch then drop.count Port.TRM_LATECNT else
      (if g.wanted then (u.markDmg g.pkt).commitPkt g.queue g.pkt else drop).touchEntry l c g.epoch
    | _, _ => if g.wanted then (u.markDmg g.pkt).commitPkt g.queue g.pkt else drop

/-- A drain marker of a lane for a context and epoch (R183). -/
def State.drainMark (s : State) (l c : Nat) (ep : BitVec 6) : State :=
  if s.holdsEpoch l c ep then s else
  (s.setEntries (s.entries.map fun e =>
    if e.ctx = c ∧ e.epoch = ep then { e with units := e.units.filter (· ≠ l) } else e)).closeDone

/-- The first open entry of a context and epoch; earlier entries of the context stand before it. -/
def State.firstEntry (s : State) (c : Nat) (ep : BitVec 6) : Option OkEntry :=
  match s.entries.find? fun e => decide (e.ctx = c) with
  | some e => if e.epoch = ep then some e else none
  | none => none

/-- A drain timer runs out (R184): it stands still while the entry waits for its hole cell. -/
def State.drainExpire (s : State) (c : Nat) (ep : BitVec 6) : State :=
  match s.firstEntry c ep with
  | none => s
  | some e =>
    if e.hole.isNone then
      match s.takeHole (s.ctxF c 1 6 0) with
      | (some k, t) => t.setEntries (t.entries.map fun x =>
        if x = e then { x with hole := some k, timerFrom := s.time.link } else x)
      | (none, _) => s
    else if timeLe (e.timerFrom + ticks (e.timeout * 16)) s.time.link then s.expireEntry e
    else s

/-- A link-group reset loses staged packets, packets under way and open entries: their cells return (R196). -/
def State.keeperReset (s : State) : State :=
  let u := forNat 64 (fun l t =>
    let x := t.lane l
    if x.stage.isEmpty && x.pkt.isNone then t else
    let t1 := forEach x.stage (fun g t => t.marked g.queue fun t => t.freeAll g.pkt.cells) t
    let t2 := match x.pkt with
      | some p => t1.marked p.queue fun t => t.freeAll p.cells
      | none => t1
    t2.updLane l fun x => { x with stage := [], pkt := none }) s
  forEach u.entries (fun e t => t.freeHole e) (u.setEntries [])

end Sys2Proof.Machine
end

