-- ==== Sys2Proof/Machine/SeqOps.lean ====
section
/-! DEFINITION. The link sequencers (R106-R118, R133-R142, R152-R164): frames to send, exchange rules, connection
creation, and the write-back of an event's end.  Setup, placement and the calendar are in Trim.lean. -/

namespace Sys2Proof.Machine

open Sys2Proof

/-! ## The frame to send (R85, R136, R142, R153, R163, R239) -/

/-- The TXQ frames an event has not retired. -/
def State.txqOf (s : State) (e : Event) : List Pkt := (s.queue (cTxq e.words)).drop e.retired

/-- A packet's cells lie in SRAM. -/
def Pkt.allNear (p : Pkt) : Bool := p.cells.all CellLoc.near

/-- The octets of a packet as stored. -/
def State.pktOctets (s : State) (p : Pkt) : List Octet :=
  (nonetsOf p.len ((List.range ((p.len + 1) / 2)).map (s.payWord p))).map fun n => n.extractLsb' 0 8

/-- A head frame may be sent on its link (R142, R153). -/
def State.sendable (s : State) (ws : List Word) (p : Pkt) : Bool :=
  let f := s.pktOctets p
  !s.payDamaged p &&
    (if cKind ws = 1 then
      let n := frameLen 0 f
      let enc := if bitOf (ws.getD 21 0) 10 then 4 else 0
      decide (n ≤ cw ws 22 7 0 + enc) && decide (leAirTicks (cw ws 29 2 0) n ≤ cw ws 23 14 0 * 16)
     else
      let m := cw ws 25 9 0
      decide (halLen f ≤ (if m = 0 then 1023 else m)) && decide (halMic f = cw ws 24 7 6))

/-- Set TXHOLD of a connection or link. -/
def setHold (ws : List Word) (v : Bool) : List Word :=
  if cKind ws = 1 then cset ws 21 11 11 (nat1 v) else cset ws 24 8 8 (nat1 v)

/-- TXHOLD of a connection or link. -/
def holdOf (ws : List Word) : Bool := if cKind ws = 1 then bitOf (ws.getD 21 0) 11 else bitOf (ws.getD 24 0) 8

/-- Choose the next frame of a connection or link: the TXQ head, or the empty frame; TXHOLD and MD follow (R142, R153,
R163, R239).  An empty LE PDU that is not acknowledged is sent again before the head (PRESUMED, log entry 11). -/
def State.chooseFrame (s : State) (q : Nat) (e : Event) : State :=
  let put := fun (s : State) (e : Event) => s.setEvent q (some e)
  match s.txqOf e with
  | [] => put s { e with send := .empty, mdOwn := false }
  | p :: r =>
    if p.allNear = false then put s { e with send := .empty, mdOwn := false } else
    if s.sendable e.words p then
      let ws := setHold e.words false
      put s (if e.emptyOut then { e with words := ws, send := .empty, mdOwn := true }
             else { e with words := ws, send := .queued 0, mdOwn := !r.isEmpty })
    else
      let t := put s { e with words := setHold e.words true, send := .empty, mdOwn := false }
      if holdOf e.words then t else t.raise (if cKind e.words = 1 then Irq.LE_TXHOLD else Irq.HAL_TXHOLD)

/-! ## Channel and PHY of an event (R109, R131, R139) -/

/-- Bin and fine offset in use: the context's, or the auxiliary PDU's. -/
def evBin (e : Event) : Nat := match e.aux with
  | some x => x.bin
  | none => cw e.words 5 14 6
def evFoff (e : Event) : Nat := match e.aux with
  | some _ => 0
  | none => cw e.words 5 5 0

/-- Transmit PHY, and the PHY its lane receives (R109, R139). -/
def evTxPhy (e : Event) : Nat := match e.aux with
  | some x => x.phy
  | none => if cKind e.words = 1 then cw e.words 29 2 0 else cPhy e.words
def evRxPhy (e : Event) : Nat := match e.aux with
  | some x => rxPhy x.phy
  | none => rxPhy (cPhy e.words)

/-! ## Lane of an event -/

/-- The CRC length limit a sequencer loads for its lane (R142, R152). -/
def maxLenOf (ws : List Word) : Nat :=
  if cKind ws = 1 then
    let enc := if bitOf (ws.getD 21 0) 9 then 4 else 0
    let fits := (List.range 256).filter fun n =>
      decide (n ≤ cw ws 24 7 0 + enc) && decide (leAirTicks (cPhy ws) n ≤ cw ws 25 14 0 * 16)
    max 1 (fits.getLast?.getD 0)
  else if cKind ws = 4 then cw ws 25 9 0 else 0

/-- Sync word, CRC initial value and whitening seed an event's lane gets: LE advertising uses the advertising address
and CRC of the LE specification (PRESUMED, log entry 11). -/
def laneKeys (ws : List Word) : BitVec 32 × BitVec 24 × BitVec 9 :=
  if cKind ws = 2 ∨ cKind ws = 3 then (advAddress, 0x555555, 0)
  else (cSync ws, cCrc ws, if cKind ws = 1 then 0 else cWhite ws)

/-- Configure an event's lane from its context (R63, R109). -/
def State.seqLane (s : State) (e : Event) (l : Nat) : State :=
  let ws := e.words
  let k := laneKeys ws
  s.laneConfig l (evRxPhy e) (s.rigF 4 1 8 6) (evBin e) (evFoff e) (maxLenOf ws) k.1 k.2.1 k.2.2 (cRxq ws) e.ctx

/-- START the lane of an event (R112). -/
def State.seqStartLane (s : State) (q : Nat) : State :=
  match s.event q with
  | some e => match e.lane with
    | some l =>
      let t := (s.seqLane e l).laneStart l
      t.updLane l fun x => { x with seq := some q }
    | none => s
  | none => s

/-- Release the lane of an event: it detaches, after a packet under way (R67). -/
def State.seqFreeLane (s : State) (q : Nat) : State :=
  match s.event q with
  | some e => match e.lane with
    | some l =>
      if (s.lane l).seq = some q then
        ((s.laneStop l).updLane l fun x => { x with seq := none })
      else s
    | none => s
  | none => s

/-! ## Resynchronisation (R114, R159) -/

/-- Anchor of a frame with a timestamp: the timestamp less the preamble and sync duration. -/
def anchorOf (ws : List Word) (ts : BitVec 54) : BitVec 54 := ts - ticks (syncTicks (cPhy ws))

/-- Resynchronise an event's words on a frame. -/
def resync (e : Event) (ts : BitVec 54) : Event :=
  let a := anchorOf e.words ts
  let ws := cset (csetTime e.words 11 a) 9 17 12 0
  { e with words := ws, resynced := true, anchor := if cLeader ws then e.anchor else a }

/-- The signed 16-bit difference of R157. -/
def beaconDiff (bcnt evcnt : Nat) : Int := signed 16 ((bcnt + 262144 - evcnt) % 65536)

/-- BCNT of a beacon frame: payload octets 19 and 20, after the 3-octet header (R156). -/
def bcntOf (f : List Octet) : Nat := (f.getD 22 0).toNat + 256 * (f.getD 23 0).toNat

/-- Increment a counter field of words that saturates. -/
def cinc (ws : List Word) (i hi lo : Nat) : List Word := cset ws i hi lo (min (2 ^ (hi + 1 - lo) - 1) (cw ws i hi lo + 1))

/-- EVCNT set by a tracked beacon (R159). -/
def bcntFix (ws : List Word) (f : List Octet) : List Word :=
  let d := beaconDiff (bcntOf f) (cEvcnt ws)
  let ws := cset ws 10 8 0 (2 * (f.getD 26 0).toNat)
  if d = 0 then ws else cinc (cset ws 7 17 0 (((cEvcnt ws : Int) + d) % 262144).toNat) 25 17 9

/-! ## Exchange rules (R136, R163) -/

/-- LE exchange on a frame received good: SN, NESN, MD; the head retired; and whether the frame is new data. -/
def leExchange (e : Event) (f : List Octet) : Event × Bool :=
  let ws := e.words
  let sn := cw ws 21 6 6
  let nesn := cw ws 21 7 7
  let fresh := decide (leSn f = nesn)
  let acked := decide (leNesn f ≠ sn)
  let ws1 := if fresh then cset ws 21 7 7 (1 - nesn) else ws
  let ws2 := if acked then cset ws1 21 6 6 (1 - sn) else ws1
  let ws3 := cset ws2 21 8 8 (nat1 (leMd f))
  ({ e with words := ws3, mdPeer := leMd f, retired := e.retired + nat1 (acked && e.onAir), onAir := e.onAir && !acked,
            emptyOut := e.emptyOut && !acked, acked := acked },
   fresh && !(decide (leLlid f = 1) && decide (frameLen 0 f = 0)))

/-- Haldaro exchange on a frame received good (R163); `held`: a head frame stands in TXQ that is not held by TXHOLD. -/
def halExchange (e : Event) (f : List Octet) (held : Bool) : Event × Bool :=
  let ws := e.words
  let sq := cw ws 24 17 14
  let nx := cw ws 24 13 10
  let acked := decide (halAkn f = (sq + 1) % 16)
  let ws1 := if acked then cset (cset ws 24 17 14 (halAkn f)) 25 17 14 0 else ws
  let r : List Word × Bool :=
    if halType f = 0 then (ws1, false) else
    if halSeq f = nx then (cset ws1 24 13 10 ((nx + 1) % 16), true) else
    if halSeq f = (nx + 15) % 16 then (cinc ws1 26 17 9, false) else
    (cinc (cset ws1 24 13 10 ((halSeq f + 1) % 16)) 26 8 0, true)
  ({ e with words := cset r.1 24 9 9 (nat1 (halMd f)), mdPeer := halMd f, retired := e.retired + nat1 (acked && held),
            onAir := e.onAir && !acked, acked := acked || decide (e.send = .empty) }, r.2)

/-! ## Address filters and connection requests (R140, R141) -/

/-- A 48-bit address and its type as three context words hold it, word 3 in [11:0] and the type in [12] (R139). -/
def addrWords (octs : List Octet) (rnd : Bool) : List Word :=
  let v := natLE octs
  [BitVec.ofNat 18 v, BitVec.ofNat 18 (v / 2 ^ 18), BitVec.ofNat 18 (v / 2 ^ 36 % 4096) ||| inFld 12 12 (nat1 rnd)]

/-- Three context words hold an address. -/
def addrAt (ws : List Word) (i : Nat) : List Word := (ws.drop i).take 2 ++ [ws.getD (i + 2) 0 &&& 0o017777]

/-- An address stands in the filter list of a KIND 2 context. -/
def inFal (ws : List Word) (a : List Word) : Bool :=
  (List.range (min 8 (cw ws 17 3 0))).any fun k => decide (addrAt ws (23 + 3 * k) = a)

/-- Filter policy of an advertiser: bit 0 of FILTER filters scan requests, bit 1 connection requests. -/
def advFilter (ws : List Word) (conn : Bool) (a : List Word) : Bool :=
  if cw ws 17 14 12 < 4 ∧ bitOf (ws.getD 17 0) (12 + nat1 conn) then inFal ws a else true

/-- TxAdd and RxAdd of an advertising PDU. -/
def txAdd (f : List Octet) : Bool := (f.getD 0 0).getLsbD 6
def rxAdd (f : List Octet) : Bool := (f.getD 0 0).getLsbD 7

/-- Context words of a connection that a request creates at an advertiser (R140; the request's layout is the LE
specification's, log entry 11): `tEnd` the request's end, `late` the transmit window delay. -/
def connWords (ws adv : List Word) (f : List Octet) (tEnd : BitVec 54) (late : Nat) : List Word :=
  let d := f.drop 2
  let n := fun (i k : Nat) => natLE ((d.drop i).take k)
  let ppm := [500, 250, 150, 100, 75, 50, 30, 20].getD (n 33 1 / 32) 20
  let win := tEnd + ticks (late + n 20 2 * 20000)
  let chm := n 28 5
  let both := (f.getD 0 0).getLsbD 5 && bitOf (ws.getD 20 0) 17
  let w0 := cset (cset (cset (cset ws 0 17 15 1) 0 14 12 1) 0 11 9 (cPhy adv)) 0 8 6 1
  let w1 := csetTime (csetTime w0 11 tEnd) 2 win
  let w2 := cset (cset (cset (cset w1 7 17 0 0) 8 17 0 (n 22 2 * 40)) 9 17 12 0) 9 11 0 (n 26 2)
  let w3 := cset (cset w2 10 17 9 (n 24 2)) 10 8 0 ppm
  let w4 := ((w3.set 14 (BitVec.ofNat 18 chm)).set 15 (BitVec.ofNat 18 (chm / 2 ^ 18))).set 16 (BitVec.ofNat 18 (chm / 2 ^ 36))
  let w5 := cset (cset w4 17 17 0 (n 12 4)) 18 13 0 (n 12 4 / 2 ^ 18)
  let w6 := cset (cset w5 19 17 0 (n 16 3)) 20 5 0 (n 16 3 / 2 ^ 18)
  let w7 := cset (cset (cset w6 20 16 12 (n 33 1 % 32)) 20 17 17 (nat1 both)) 21 17 0 0
  let w8 := cset (cset w7 21 5 5 1) 21 4 0 (n 19 1)
  let a := addrWords (d.take 6) (txAdd f)
  ((w8.set 26 (a.getD 0 0)).set 27 (a.getD 1 0)).set 28 (a.getD 2 0)

/-- The calendar entry of an event that trim has not taken yet. -/
def CalEntry.fresh (ws : List Word) : CalEntry :=
  { kind := BitVec.ofNat 3 (cKind ws), anchor := cNext ws, inHorizon := false, seq := none, lane := none, waiting := false,
    entered := 0, txOnly := false, after := none }

/-- Enter a context in the calendar with words that hold its next event. -/
def State.enterCalendar (s : State) (c : Nat) (ws : List Word) : State := s.setCal c (some (CalEntry.fresh ws))

/-- Write a context word where the context stands: its slot, or its home (R12, R178, log entry 19). -/
def State.ctxPut (s : State) (c i : Nat) (v : Word) : State :=
  if s.resident c then s.ctxWr c i v
  else { s with mem := { s.mem with dram := Cells.wr (fun _ => 0) s.mem.dram ((6 * c + i / 12) * 12 + i % 12) v } }

/-- Write context words from word `i` on, where the context stands. -/
def State.ctxPuts (s : State) (c i : Nat) : List Word → State
  | [] => s
  | v :: r => (s.ctxPut c i v).ctxPuts c (i + 1) r

/-- Take a context out of the calendar: its entry, pending updates and search place go, and a handover awaits no FINAL of
it. -/
def State.leaveCalendar (s : State) (c : Nat) : State :=
  let t := s.setCal c none
  let t1 := { t with link := { t.link with updates := t.link.updates.filter (fun u => decide (u.ctx ≠ c)),
                                           searchWait := t.link.searchWait.filter (· ≠ c),
                                           finals := t.link.finals.filter (· ≠ c) } }
  match t1.searchSlot c with
  | some k => t1.set (Port.SEQ_SRCH k) 0
  | none => t1

/-- Ticks of the transmit window delay (R140). -/
def windowDelay (aux : Bool) (phy : Nat) : Nat :=
  if aux = false then 20000 else if phy = 2 ∨ phy = 3 then 60000 else 40000

/-- A connection is created in CONN_CTX, WSCALE 0 (R135), and enters the calendar; the context that asked for it ends
(R140).  A CONN_CTX away from the store is written in its home, which counts as fetched from then on. -/
def State.createConn (s : State) (own c : Nat) (ws : List Word) : State :=
  let wn := channelled (hopSteps 1 (cset ws 0 4 3 0))
  let t := (s.ctxPuts c 0 (wn.take 63)).enterCalendar c wn
  let u := { t with trim := { t.trim with fetched := Cells.wr (fun _ => 0) t.trim.fetched c 1 } }
  (((u.leaveCalendar own).ctxPut own 0 (withFld (u.ctxRd own 0) 8 6 5))).raise Irq.LE_CONN

/-- A connection request is refused (R141). -/
def State.connRefused (s : State) (e : Event) : Bool :=
  decide (s.ctxF (cw e.words 21 13 0) 0 17 15 ≠ 0) || s.kindFull 1

/-- An initiator's CONN_CTX takes no connection: LE_MAX stand in the calendar, or the context does (R132; DESIGN CHOICE,
log entry 144). -/
def State.initBlocked (s : State) (e : Event) : Bool :=
  s.kindFull 1 || (s.cal (cw e.words 21 13 0)).isSome || decide (s.ctxTotal ≤ cw e.words 21 13 0)

/-! ## Ends of exchanges -/

/-- The auxiliary PDU an extended PDU's AuxPtr names, the PDU having begun at `a` (R131; the layout PRESUMED, log entry
11): channel, PHY, and the offset in units of 30 or 300 µs. -/
def auxOf (f : List Octet) (a : BitVec 54) : Option AuxPdu := (extField f 4).bind fun l =>
  let n := natLE l
  let unit := if n.testBit 7 then 4800 else 480
  if n % 64 < 37 ∧ n / 2 ^ 21 < 3 ∧ n / 256 % 8192 ≠ 0 then
    some { bin := leBin (n % 64), phy := if n / 2 ^ 21 = 2 then 3 else n / 2 ^ 21,
           start := a + ticks (n / 256 % 8192 * unit), unit := unit }
  else none

/-- An advertising event goes on with an auxiliary PDU, a packet of its TXQ, when the PDU just sent, which began at `a`,
points to one; else it closes (R131, R137; which packets these are is the model's: DESIGN CHOICE, log entry 145). -/
def State.nextAux (s : State) (q : Nat) (e : Event) (f : List Octet) (a : BitVec 54) (i : Nat) : State :=
  match auxOf f a, (s.txqOf e)[i]? with
  | some x, some p =>
    if p.allNear && !e.closing then
      (((s.seqFreeLane q).setEvent q (some { e with aux := some x, send := .queued i })).setSeqState q 1)
    else s.setSeqState q 7
  | _, _ => s.setSeqState q 7

/-- The first bit of a frame of an event's own that ended at `endAt`. -/
def sentFrom (e : Event) (f : List Octet) : BitVec 54 := e.endAt - ticks (frameTicks (evTxPhy e) (frameLen (evTxPhy e) f))

/-- The octets of the packet of TXQ an event sends. -/
def State.queuedOctets (s : State) (e : Event) (i : Nat) : List Octet := match (s.txqOf e)[i]? with
  | some p => s.pktOctets p
  | none => []

/-- What follows an advertising PDU: the next advertising channel, then, of an extended set, its auxiliary PDUs, then
CLOSE (R137). -/
def State.nextAdv (s : State) (q : Nat) (e : Event) : State :=
  if e.closing then s.setSeqState q 7 else
  match e.aux with
  | some _ =>
    let i := match e.send with
      | .queued k => k
      | _ => 1
    let f := s.queuedOctets e i
    s.nextAux q e f (sentFrom e f) (max 3 (i + 1))
  | none =>
    match (advChannels e.words)[e.step + 1]? with
    | some c =>
      let e1 := { e with step := e.step + 1, words := cset e.words 5 14 6 (leBin c), send := .queued 0 }
      ((s.seqFreeLane q).setEvent q (some e1)).setSeqState q 1
    | none =>
      if 4 ≤ cw e.words 17 17 15 then
        let f := s.queuedOctets e 0
        s.nextAux q e f (sentFrom e f) 2
      else s.setSeqState q 7

/-- After a frame of the peer: respond, close, or listen on (R112, R136, R163): a leader closes when neither side has MD
set and its own frame was acknowledged.  (DEDUCED, log entry 106.) (DEDUCED, log entry 110.) -/
def State.afterFrame (s : State) (q : Nat) (good : Bool) : State :=
  match s.event q with
  | none => s
  | some e =>
    if e.closing ∨ 2 ≤ e.fails then s.setSeqState q 7 else
    if cLeader e.words ∧ good ∧ e.acked ∧ e.mdOwn = false ∧ e.mdPeer = false then s.setSeqState q 7
    else (s.chooseFrame q e).setSeqState q 6

/-- A frame counts as one whose CRC failed for the close rules (R142, R152, R194). -/
def State.seqBad (s : State) (q : Nat) (tEnd : BitVec 54) : State :=
  match s.event q with
  | none => s
  | some e =>
    let e1 := { e with frames := e.frames + 1, fails := e.fails + 1, endAt := tEnd, lastGood := false }
    let t := s.setEvent q (some e1)
    if cKind e.words = 1 ∨ cKind e.words = 4 then t.afterFrame q false
    else if e.closing then t.setSeqState q 7
    else if cKind e.words = 2 then t.nextAdv q e1
    else t.setSeqState q 2

/-- A connection request that its advertiser ignores counts in REFUSED (R141). -/
def countRefused (e : Event) : Event := { e with words := cinc e.words 22 17 0 }

/-- An advertiser answers with a frame it holds or builds. -/
def State.advAnswer (s : State) (q : Nat) (w : SendWhat) : State :=
  (s.updEvent q fun e => { e with send := w }).setSeqState q 6

/-- The exchange rules on a frame of an advertiser's peer (R137, R140, R141): a scan request that passes the filter is
answered with the scan response, TXQ's second packet; an AUX_CONNECT_REQ with AUX_CONNECT_RSP. -/
def State.advFrame (s : State) (q : Nat) (e : Event) (f : List Octet) (tEnd : BitVec 54) : State :=
  let ws := e.words
  let ty := leAdvType f
  let from0 := addrWords ((f.drop 2).take 6) (txAdd f)
  let tgt := addrWords ((f.drop 8).take 6) (rxAdd f)
  let mine := decide (tgt = addrAt ws 18)
  let adv := cw ws 17 17 15
  if ty = 5 ∧ mine ∧ (adv = 0 ∨ adv = 1 ∨ adv = 4) then
    if advFilter ws true from0 = false ∨ s.connRefused e then
      let e1 := countRefused e
      (s.setEvent q (some e1)).nextAdv q e1
    else
      let c := cw ws 21 13 0
      let t := s.createConn e.ctx c (connWords (s.ctxWords c) (cset ws 0 11 9 (evRxPhy e)) f tEnd
        (windowDelay (decide (4 ≤ adv)) (evRxPhy e)))
      if adv = 4 then (t.updEvent q fun e => { e with peer := from0 }).advAnswer q .connRsp else t.setSeqState q 7
  else if ty = 3 ∧ mine ∧ (adv = 0 ∨ adv = 3 ∨ adv = 5) ∧ advFilter ws false from0 ∧
      (((s.txqOf e)[1]?).map Pkt.allNear).getD false then s.advAnswer q (.queued 1)
  else s.nextAdv q e

/-- A scanner or initiator listens on: on an auxiliary channel or on its own (R131, R139). -/
def State.scanOn (s : State) (q : Nat) (x : Option AuxPdu) : State :=
  match s.event q with
  | some e =>
    if e.aux.isNone && x.isNone then s.setSeqState q 2 else
    (((s.seqFreeLane q).updEvent q fun e => { e with aux := x }).seqStartLane q).setSeqState q 2
  | none => s

/-- The advertiser's address of an advertising PDU: AdvA, in the extended header of an extended PDU. -/
def advAddr (f : List Octet) : Option (List Word) :=
  if leAdvType f = 7 then (extField f 0).map fun a => addrWords a (txAdd f)
  else some (addrWords ((f.drop 2).take 6) (txAdd f))

/-- The exchange rules on a frame a scanner or initiator receives, begun at `a` (R131, R137, R139, R140): an initiator asks
a connectable advertiser for a connection, an active scanner a scannable one for its response; a PDU that asks nothing is
followed to the auxiliary PDU it points to.  A directed advertisement counts only when its target is OWN_ADDR.  Where FILTER
is not 0 the table gives no list for these contexts, and whether the address passes is free (DESIGN CHOICE, log entry
18). -/
def State.scanFrame (s : State) (q : Nat) (e : Event) (f : List Octet) (a : BitVec 54) : State :=
  let ws := e.words
  let ty := leAdvType f
  let ext := decide (ty = 7)
  let from0 := (advAddr f).getD []
  let init := bitOf (ws.getD 17 0) 17
  let listed := if cw ws 17 14 12 = 0 then !init || decide (from0 = addrAt ws 22) else Config.freeBit s.free
  let aimed := if ty = 1 then decide (addrWords ((f.drop 8).take 6) (rxAdd f) = addrAt ws 18) else
    match (if ext then extField f 1 else none) with
    | some t => decide (addrWords t (rxAdd f) = addrAt ws 18)
    | none => true
  let pass := (advAddr f).isSome && listed && aimed
  let asks := if ext then e.aux.isSome && decide (extMode f = (if init then 1 else 2))
    else if init then decide (ty = 0) || decide (ty = 1) else bitOf (ws.getD 17 0) 16 && (decide (ty = 0) || decide (ty = 6))
  let t := s.nextFree
  if asks && pass && (if init then !s.initBlocked e else !ext || bitOf (ws.getD 17 0) 16) then
    (t.updEvent q fun e => { e with peer := from0, step := if ext then 2 else 1,
                                    send := if init then .connReq else .scanReq }).setSeqState q 6
  else t.scanOn q (if ext then auxOf f a else none)

/-- A context with a peer whose first frame resynchronises it (R114): not an advertiser, a scanner or a beacon source.
(DEDUCED, log entry 102.) -/
def hasPeer (ws : List Word) : Bool := decide (cKind ws ≠ 2) && decide (cKind ws ≠ 3) && decide (cKind ws ≠ 5)

/-- E + W of a follower's event (R112). -/
def trackEnd (e : Event) : BitVec 54 := cNext e.words + ticks (syncTicks (cPhy e.words) + e.w)

/-- The close time of an event with EVLEN 0 follows its resynchronisation (R112). -/
def State.reclose (s : State) (e : Event) : Event :=
  if cw e.words 6 9 0 = 0 then { e with closeAt := s.closeTime (csetTime e.words 2 e.anchor) } else e

/-- A sequencer's rules on a packet its lane closes, the CRC checked: true when the packet is delivered (R68, R112,
R114, R136, R157-R163). -/
def State.seqFrame (s : State) (q : Nat) (f : List Octet) (good trunc : Bool) (ts tEnd : BitVec 54) : Bool × State :=
  match s.event q with
  | none => (good, s)
  | some e =>
    let ws := e.words
    let want := good || decide (cw ws 0 5 5 = 1)
    let take := good && !trunc
    let first := if cKind ws = 6 then decide (halType f = 4) && !e.resynced else decide (e.frames = 0) && hasPeer ws
    let e0 := { e with frames := e.frames + 1, endAt := tEnd, lastGood := take }
    let e1 := if take then { (if first then s.reclose (resync e0 ts) else e0) with evstat := 0, fails := 0 } else
      if good then { e0 with fails := 0 } else { e0 with fails := e0.fails + 1 }
    let s1 := s.setEvent q (some e1)
    if cKind ws = 1 then
      if take then let r := leExchange e1 f; (r.2, (s1.setEvent q (some r.1)).afterFrame q true)
      else (want, s1.afterFrame q false)
    else if cKind ws = 4 then
      if take then
        let r := halExchange e1 f (!(s.txqOf e1).isEmpty && !holdOf ws)
        (r.2, (s1.setEvent q (some r.1)).afterFrame q true)
      else (want, s1.afterFrame q false)
    else if cKind ws = 6 then
      if take && decide (halType f = 4) then
        (want, (s1.setEvent q (some { e1 with words := bcntFix e1.words f })).setSeqState q 7)
      else (want, s1.setSeqState q (if e.closing ∨ timeLe (trackEnd e) s.time.link then 7 else 2))
    else if cKind ws = 5 then
      let e2 := if good ∧ e.join ∧ halType f = 5 then { e1 with words := cinc e1.words 25 8 0 } else e1
      (want, (s1.setEvent q (some e2)).setSeqState q (if e.closing then 7 else 2))
    else if cKind ws = 2 then
      if take then (want, s1.advFrame q e1 f tEnd) else (want, s1.nextAdv q e1)
    else if cKind ws = 3 then
      if take ∧ e.closing = false then (want, s1.scanFrame q e1 f (anchorOf ws ts))
      else (want, s1.setSeqState q (if e.closing then 7 else 2))
    else (want, s1.setSeqState q 7)

/-! ## Sending (R112, R134, R158, R162) -/

/-- The end of the response window after the device's own last bit (R134, R162). -/
def windowEnd (p : Nat) (t : BitVec 54) : BitVec 54 := t + ticks (ifsTicks p + syncTicks p + guardTicks p)

/-- Open the response window; a lane that is not yet attached starts (R112).  (DEDUCED, log entry 107.) -/
def State.seqAwait (s : State) (q : Nat) : State :=
  match s.event q with
  | none => s
  | some e =>
    let t := (s.setEvent q (some { e with window := windowEnd (evRxPhy e) e.endAt })).setSeqState q 5
    match e.lane with
    | some l => if t.laneState l = 0 then t.seqStartLane q else t
    | none => t

/-- A sequencer's frame left whole: beacons and join responses leave their queue, a connection request creates its
connection (R140), and the response window opens (R112); a follower's answer closes the event when neither side has MD
set (R136, R163).  (DEDUCED, log entry 103.) (DEDUCED, log entry 104.) -/
def State.seqSent (s : State) (q : Nat) : State :=
  match s.event q with
  | none => s
  | some e =>
    let ws := e.words
    if cKind ws = 1 ∨ cKind ws = 4 then
      let t := if e.onAir && decide (e.retired = 0) then s.setHeadSent (cTxq ws) 1 else s
      let done := !cLeader ws && e.lastGood && !e.mdOwn && !e.mdPeer
      if e.closing ∨ done then t.setSeqState q 7 else t.seqAwait q
    else if cKind ws = 5 then
      let t := s.dropHead (cTxq ws)
      if e.join then t.setSeqState q (if e.closing then 7 else 2) else
      (t.updEvent q fun e => { e with evstat := 0 }).setSeqState q (if e.closing ∨ e.txOnly then 7 else 5)
    else if cKind ws = 2 then
      if (s.cal e.ctx).isNone then s.setSeqState q 7 else
      let asked := if 4 ≤ cw ws 17 17 15 then e.aux.isSome && decide (e.send = .queued 2) else decide (e.send = .queued 0)
      if e.txOnly || !asked || e.closing then s.nextAdv q e else s.seqAwait q
    else if cKind ws = 3 then
      if (s.cal e.ctx).isNone then s.setSeqState q 7 else s.seqAwait q
    else s.setSeqState q 7

/-- The head of TXQ is sent once more: RETRIES, and HAL_RETRY when it reaches RETRY_MAX (R164).  (DEDUCED, log entry
111.) -/
def State.countRetry (s : State) (q : Nat) (e : Event) : State :=
  let again := decide (e.send = .queued 0) && e.onAir
  let old := cw e.words 25 17 14
  let new := min 15 (old + 1)
  if cKind e.words = 4 ∧ again then
    let t := s.updEvent q fun e => { e with words := cset e.words 25 17 14 new }
    if old ≠ new ∧ new = cw e.words 24 5 2 ∧ cw e.words 24 5 2 ≠ 0 then t.raise Irq.HAL_RETRY else t
  else s

/-! ## The frame on the air and its times (R84, R109, R112, R134, R137, R140, R158, R162) -/

/-- The octets of an address that three context words hold, and its type. -/
def addrOctets (a : List Word) : List Octet :=
  octetsLE 6 ((a.getD 0 0).toNat + 2 ^ 18 * (a.getD 1 0).toNat + 2 ^ 36 * cw a 2 11 0)
def addrRnd (a : List Word) : Nat := cw a 2 12 12

/-- The coded sleep clock accuracy of a device (R135; the code PRESUMED, log entry 11). -/
def scaCode (ppm : Nat) : Nat := ([20, 30, 50, 75, 100, 150, 250].filter fun b => decide (b < ppm)).length

/-- A connection request from CONN_CTX, with WinOffset 0 and WinSize 1 (R140; the layout PRESUMED, log entry 11). -/
def connReqPdu (own peer : List Word) (ws : List Word) (ppm : Nat) (legacy : Bool) : List Octet :=
  let chm := (ws.getD 14 0).toNat + 2 ^ 18 * (ws.getD 15 0).toNat + 2 ^ 36 * (ws.getD 16 0).toNat
  let body := addrOctets own ++ addrOctets peer ++ octetsLE 4 (cSync ws).toNat ++ octetsLE 3 (cCrc ws).toNat ++
    octetsLE 1 1 ++ octetsLE 2 0 ++ octetsLE 2 (cw ws 8 17 0 / 40) ++ octetsLE 2 (cw ws 10 17 9) ++
    octetsLE 2 (cw ws 9 11 0) ++ octetsLE 5 chm ++ octetsLE 1 (cw ws 20 16 12 + 32 * (7 - scaCode ppm))
  [BitVec.ofNat 8 (5 + (if legacy then 32 * cw ws 20 17 17 else 0) + 64 * addrRnd own + 128 * addrRnd peer),
   BitVec.ofNat 8 body.length] ++ body

/-- The frame a sequencer sends, its CRC to follow (R136, R137, R140, R163).  An empty Haldaro frame carries no MIC, which
the link core alone computes (DEDUCED, log entry 148). -/
def State.frameToSend (s : State) (e : Event) : List Octet :=
  let ws := e.words
  let md := nat1 e.mdOwn
  let sealed := fun (f : List Octet) =>
    if cKind ws = 1 then leSealed f (cw ws 21 7 7) (cw ws 21 6 6) md
    else if cKind ws = 4 then halSealed f md (cw ws 24 17 14) (cw ws 24 13 10) else f
  let own := addrAt ws 18
  match e.send with
  | .empty => sealed (if cKind ws = 1 then [1, 0] else [0, 0, 0])
  | .queued i => sealed (s.queuedOctets e i)
  | .scanReq =>
    [BitVec.ofNat 8 (3 + 64 * addrRnd own + 128 * addrRnd e.peer), 12] ++ addrOctets own ++ addrOctets e.peer
  | .connReq => connReqPdu own e.peer (s.ctxWords (cw ws 21 13 0)) (min 500 (s.getF Port.LTB_CFG 8 0)) (decide (e.step = 1))
  | .connRsp =>
    [BitVec.ofNat 8 (8 + 64 * addrRnd own + 128 * addrRnd e.peer), 14, 13, 3] ++ addrOctets own ++ addrOctets e.peer

/-- The earliest start a chain assures to a request made now (R91). -/
def State.soonest (s : State) (t : Nat) : BitVec 54 :=
  s.time.link + ticks (s.rampTicks t + s.getF (txCtrl t) 14 9 * 16 + 800)

/-- A start that no rule states: the request waits some ticks past the earliest one (DESIGN CHOICE, log entry 149). -/
def State.openStart (s : State) (t : Nat) (wait : Word) : BitVec 54 := s.soonest t + ticks wait.toNat

/-- The end of a beacon source's join window (R158). -/
def joinTill (ws : List Word) : BitVec 54 := cNext ws + ticks ((cw ws 24 17 10 + cw ws 24 9 2) * 16000)

/-- T_start and T_late of a sequencer's request of a duration (R112, R134, R158, R162): a response at T_IFS; a join response
in its window at the earliest free moment, so that it ends within the window; an auxiliary PDU where its AuxPtr points; a
further advertising channel at a start no rule states (log entry 149); any other first frame at the anchor. -/
def State.startOf (s : State) (q : Nat) (e : Event) (t dur : Nat) (wait : Word) :
    BitVec 54 × BitVec 54 :=
  let ws := e.words
  if s.seqState q = 6 then (e.endAt + ticks (ifsTicks (evRxPhy e)),
    e.endAt + ticks (ifsTicks (evRxPhy e) + lateTicks (evRxPhy e)))
  else if cKind ws = 5 ∧ s.seqState q ≠ 1 then
    (timeMax (cNext ws + ticks (cw ws 24 17 10 * 16000)) (s.soonest t), joinTill ws - ticks dur)
  else
    let a := match e.aux with
      | some x => x.start
      | none => if cKind ws = 2 ∧ e.step ≠ 0 then s.openStart t wait else cNext ws
    (a, a + ticks s.slackTicks)

/-- A join response may be requested: the TXQ head is one, in SRAM, and it would end within the window (R158). -/
def State.joinHead (s : State) (q : Nat) (e : Event) : Bool :=
  match s.queue (cTxq e.words) with
  | [] => false
  | p :: _ =>
    let f := s.pktOctets p
    let w := s.startOf q e (nat1 (phyGridW (evTxPhy e))) (frameTicks (evTxPhy e) (halLen f)) 0
    p.allNear && decide (halType f = 6) && timeLe w.1 w.2

/-- A sequencer's transmit request as its event and context give it, with the chain it goes to (R84, R109). -/
def State.seqReq (s : State) (q : Nat) (e : Event) (pcode : BitVec 6) (wait : Word) : Nat × TxAsk :=
  let p := evTxPhy e
  let w := phyGridW p
  let t := nat1 w
  let f := s.frameToSend e
  let dur := frameTicks p (frameLen p f)
  let se := s.startOf q e t dur wait
  let k := laneKeys e.words
  (t, { offset := BitVec.ofInt 18 (txOffset w (evBin e) (signed 6 (evFoff e))), phy := BitVec.ofNat 3 p, pcode := pcode,
        tStart := se.1, tLate := se.2, dur := dur,
        signal := .frame (airFrame (phyIsLe p) (leChannel (evBin e)) k.2.1 k.2.2 f) })

/-- The last bit of a sequencer's frame leaves: the end is noted, and an initiator's request creates its connection
(R140). -/
def State.seqLastBit (s : State) (q : Nat) : State :=
  match s.event q with
  | none => s
  | some e =>
    let t := (s.countRetry q e).updEvent q fun e =>
      { e with endAt := s.time.link, onAir := e.onAir || decide (e.send = .queued 0),
               emptyOut := e.emptyOut || (decide (cKind e.words = 1) && decide (e.send = .empty)) }
    if cKind e.words = 3 ∧ e.send = .connReq ∧ (s.cal e.ctx).isSome then
      let c := cw e.words 21 13 0
      let ws := s.ctxWords c
      let w0 := cset (cset (cset ws 0 17 15 1) 0 14 12 0) 0 8 6 1
      let a := s.time.link + ticks (windowDelay (decide (e.step = 2)) (evRxPhy e))
      t.createConn e.ctx c (cset (csetTime (csetTime w0 2 a) 11 s.time.link) 21 5 5 0)
    else t

end Sys2Proof.Machine
end

