-- ==== Sys2Proof/Machine/Trim.lean ====
section
/-! DEFINITION. The trim engine and the calendar's events (R110-R118, R172-R196): placement of events on units,
residency, setup, close, search, supervision, and the recovery from unit faults. -/

namespace Sys2Proof.Machine

open Sys2Proof

/-! ## Ending events (R112, R118, R125) -/

/-- A sequencer's transmission is under way. -/
def State.seqTx (s : State) (q : Nat) : Bool :=
  [0, 1].any fun t => match (s.txc t).cur with
    | some r => decide (r.req.owner = .seq q) && decide (r.phase ≠ .rampDown)
    | none => false

/-- Withdraw a sequencer's requests that have not begun (R125). -/
def State.withdraw (s : State) (q : Nat) : State :=
  forNat 2 (fun t s => s.dropReqs t fun r => decide (r.owner = .seq q)) s

/-- A sequencer's event starts nothing new: a packet or a transmission under way is finished, else it closes (R112). -/
def State.finishEvent (s : State) (q : Nat) : State :=
  match s.event q with
  | some e =>
    let t := (s.updEvent q fun e => { e with closing := true }).withdraw q
    let busy := s.seqTx q || (match e.lane with
      | some l => decide ((s.lane l).seq = some q) && (s.receiving l || (s.lane l).discarding)
      | none => false)
    if busy ∨ s.seqState q = 7 then t else t.setSeqState q 7
  | none => s

/-! ## Calendar entries and the contexts' uses -/

/-- Change a calendar entry. -/
def State.updCal (s : State) (c : Nat) (f : CalEntry → CalEntry) : State :=
  match s.cal c with
  | some e => s.setCal c (some (f e))
  | none => s

/-- Note a use of a context, for the choice of victims (R190). -/
def State.touch (s : State) (c : Nat) : State :=
  { s with trim := { s.trim with clock := s.trim.clock + 1,
                                 touched := Cells.wr (fun _ => 0) s.trim.touched c (s.trim.clock + 1) } }

/-! ## Horizon and cost (R173-R177) -/

/-- L of R173 in ticks.  (DEDUCED, log entry 112.) -/
def State.leadTicks (s : State) : Nat := max (s.getF (Port.TRM_POL 0) 8 0 * 160) (s.setupTicks + 640)

/-- Horizon entry of a context's next event. -/
def State.horizonAt (s : State) (ws : List Word) : BitVec 54 := cNext ws - ticks (s.window ws + s.leadTicks)

/-- The words of the event that lies `j` events after a context's next one. -/
def wordsAt (ws : List Word) (j : Int) : List Word :=
  let w := csetTime ws 2 (cNext ws + BitVec.ofInt 54 (j * cInterval ws))
  channelled (hopSteps (j % 37).toNat (cset w 7 17 0 (((cEvcnt ws : Int) + j) % 262144).toNat))

/-- The loaded event of a context in progress. -/
def State.eventOf (s : State) (c : Nat) : Option Event := (s.seqOfCtx c).bind s.event

/-- The words of the event trim is to place for a context: its next one, or the one that follows the event in progress
(R173, R177). -/
def State.nextWords (s : State) (c : Nat) : List Word :=
  match s.eventOf c with
  | some e => wordsAt (csetTime e.words 2 e.anchor) 1
  | none => s.ctxWords c

/-- The span in which the event trim is to place holds its units, in ticks: setup point to close time (R176). -/
def State.eventSpan (s : State) (c : Nat) : Int × Int :=
  let ws := s.nextWords c
  (s.tickOf (s.setupPoint ws), s.tickOf (s.closeTime ws))

/-- The span in which a context's assigned event holds its units: an event in progress from now on. -/
def State.heldSpan (s : State) (c : Nat) : Int × Int :=
  match s.eventOf c with
  | some e => (s.time.wall, s.tickOf e.closeAt)
  | none => s.eventSpan c

/-- The calendar's contexts. -/
def State.calContexts (s : State) : List Nat := s.link.calendar.map (·.1)

/-- A unit is one of an assignment: sequencer q, or lane l at 64 + l. -/
def unitIn (u : Nat) (q l : Option Nat) : Bool := if u < 64 then decide (q = some u) else decide (l = some (u - 64))

/-- The spans in which a context's assigned events hold a unit. -/
def State.unitSpans (s : State) (u c : Nat) : List (Int × Int) :=
  match s.cal c with
  | none => []
  | some e =>
    (if unitIn u e.seq e.lane then [s.heldSpan c] else []) ++
    (match e.after with
     | some f => if unitIn u f.seq f.lane then [s.eventSpan c] else []
     | none => [])

/-- No other event holds the unit at any time of the event to place: none of another context, nor the context's own event
in progress (R176). -/
def State.unitFree (s : State) (u c : Nat) : Bool :=
  let mine := s.eventSpan c
  s.calContexts.all fun d => (s.unitSpans u d).all fun x => !spansMeet x mine || (decide (d = c) && (s.eventOf c).isNone)

/-- The event a sequencer serves closes before the event to place (R176). -/
def State.closesFor (s : State) (q c : Nat) : Bool :=
  match s.event q with
  | some e => decide (s.tickOf e.closeAt ≤ (s.eventSpan c).1)
  | none => true

/-- A sequencer is eligible (R176). -/
def State.seqEligible (s : State) (q c : Nat) : Bool :=
  decide (s.getF (Port.SEQ_STAT q) 17 15 = 1) && s.unitFree q c && s.closesFor q c

/-- A lane is eligible (R176, R187). -/
def State.laneEligible (s : State) (l c : Nat) : Bool :=
  let ws := s.nextWords c
  let last := s.ctxF c 63 9 4
  decide (s.laneRole l = 1) && s.domOn (laneDom l) && s.unitFree (64 + l) c && (s.lane l).helper.isNone &&
    (match (s.lane l).seq with
     | some q => s.closesFor q c
     | none => !s.receiving l) &&
    s.cfgOk (rxPhy (cPhy ws)) (s.rigF 4 1 8 6) (cw ws 5 14 6) &&
    (decide (s.entries.length < 32) || !s.holdsOf last c || decide (l = last))

/-- Ticks of the horizon, from now on for L, given to a unit by the events assigned to it (R174). -/
def State.busyTicks (s : State) (u : Nat) : Nat :=
  let now : Int := s.time.wall
  (s.calContexts.flatMap fun c => (s.unitSpans u c).map fun x =>
    (min x.2 (now + (s.leadTicks : Int)) - max x.1 now).toNat).sum

/-- The unit served within the last millisecond. -/
def State.servedNow (s : State) (u : Nat) : Bool :=
  let t := Cells.rd (fun _ => 0) s.trim.laneBusy u
  (if u < 64 then (s.event u).isSome else decide (s.laneState (u - 64) ≠ 0)) ||
    (decide (t ≠ 0) && timeLe s.time.link (ticks t + 16000))

/-- The unit that served a context's last event (R180): its sequencer q, or its lane l at 64 + l; none before its
first event.  (DEDUCED, log entry 113.) -/
def State.lastUnit (s : State) (c : Nat) (lane : Bool) : Option Nat :=
  if Cells.rd (fun _ => 0) s.trim.served c = 0 then none
  else some (if lane then 64 + s.ctxF c 63 9 4 else s.ctxF c 63 3 0)

/-- The cost of a unit for a context (R174): sequencer q, or lane l at 64 + l. -/
def State.unitCost (s : State) (u c : Nat) : Nat :=
  let load := min 63 (s.busyTicks u * 63 / s.leadTicks)
  let idle := decide (64 ≤ u) &&
    (List.range 32).all fun i => decide (s.laneState (if u < 96 then i else 32 + i) = 0)
  let pwr := (if s.servedNow u then 0 else 32) + (if idle then 31 else 0)
  let lat := if s.lastUnit c (decide (64 ≤ u)) = some u then 0 else if s.holdsOf (s.ctxF c 63 9 4) c then 63 else 32
  s.getF (Port.TRM_POL 2) 5 0 * load + s.getF (Port.TRM_POL 2) 17 12 * pwr + s.getF (Port.TRM_POL 2) 11 6 * lat

/-- The unit of lowest cost, the lower index on equal costs (R174). -/
def minCost (cost : Nat → Nat) : List Nat → Option Nat
  | [] => none
  | u :: r => match minCost cost r with
    | none => some u
    | some v => if cost v < cost u then some v else some u

/-- The unit an event gets: the last one unless another is better by more than HYST percent (R175). -/
def State.chooseUnit (s : State) (c : Nat) (last : Option Nat) (ok : List Nat) : Option Nat :=
  match minCost (fun u => s.unitCost u c) ok, last with
  | none, _ => none
  | some u, none => some u
  | some u, some l =>
    if l ∈ ok then
      if s.unitCost u c * 100 < s.unitCost l c * (100 - s.getF (Port.TRM_POL 3) 11 6) then some u else some l
    else some u

/-- The sequencer and the lane an event would get. -/
def State.pickSeq (s : State) (c : Nat) : Option Nat :=
  s.chooseUnit c (s.lastUnit c false) ((List.range 16).filter fun q => s.seqEligible q c)
def State.pickLane (s : State) (c : Nat) : Option Nat :=
  (s.chooseUnit c (s.lastUnit c true) (((List.range 64).filter fun l => s.laneEligible l c).map (64 + ·))).map (· - 64)

/-- Record trim's decision for the event it places: none leaves the event without units, waiting for them (R177). -/
def placeUnits (e : CalEntry) (r : Option (Nat × Option Nat)) : CalEntry :=
  let q := r.map (·.1)
  let l := r.bind (·.2)
  match e.after with
  | some f => { e with after := some { f with seq := q, lane := l, waiting := r.isNone } }
  | none => { e with seq := q, lane := l, waiting := r.isNone }

/-- The event trim places is transmit-only, as it stood when it entered the horizon (R176). -/
def placesTxOnly (e : CalEntry) : Bool := match e.after with
  | some f => f.txOnly
  | none => e.txOnly

/-- Give an event the units of an assignment; the context's receiving work may leave its last lane (R177, R181). -/
def State.giveUnits (s : State) (c q : Nat) (l : Option Nat) : State :=
  let t := match l with
    | some l => if l = s.ctxF c 63 9 4 then s else s.leaveLane c (s.ctxF c 63 9 4)
    | none => s
  t.updCal c fun e => placeUnits e (some (q, l))

/-- Assign units to the event trim is to place when each it needs has an eligible one; else the event waits (R177). -/
def State.assign (s : State) (c : Nat) : State :=
  match s.cal c with
  | none => s
  | some e =>
    match s.pickSeq c, placesTxOnly e, s.pickLane c with
    | some q, true, _ => s.giveUnits c q none
    | some q, false, some l => s.giveUnits c q (some l)
    | _, _, _ => s.updCal c fun e => placeUnits e none

/-- The contexts whose events wait for units, in horizon-entry order. -/
def State.pendingList (s : State) : List Nat :=
  let w := s.link.calendar.filterMap fun x => match x.2 with
    | some e => match e.after with
      | some f => if f.waiting then some (f.entered, x.1) else none
      | none => if e.waiting then some (e.entered, x.1) else none
    | none => none
  (w.mergeSort fun a b => decide (a.1 ≤ b.1)).map (·.2)

/-- A unit became free: the pending list is served from its head (R177). -/
def State.servePending (s : State) : State := forEach s.pendingList (fun c t => t.assign c) s

/-! ## Residency (R188-R191) -/

/-- A context is held by a unit, a search slot, a command or the horizon, or is belayed: it is no victim (R190). -/
def State.pinned (s : State) (c : Nat) : Bool :=
  decide (s.ctxF c 63 11 11 = 1) || (s.seqOfCtx c).isSome || s.waitingOn c || (s.searchSlot c).isSome ||
    decide (s.ctxF c 0 8 6 = 3) ||
    (match s.cal c with
     | some e => e.inHorizon
     | none => false) ||
    decide (s.link.insertWait = some c) || decide (s.trim.belayWait = some c) ||
    (s.getB Port.TRM_CTX_STAT 17 && decide (s.getF Port.TRM_CTX_ARG 13 0 = c))

/-- The best of a list under an order on a key. -/
def bestBy (less : Nat → Nat → Bool) : List Nat → Option Nat
  | [] => none
  | a :: r => match bestBy less r with
    | none => some a
    | some b => if less b a then some b else some a

/-- The victim slot (R190): an empty slot, one whose occupant is in no calendar entry, the least recently used first,
else the one whose occupant has the latest NEXT_ANCHOR. -/
def State.victim (s : State) : Option Nat :=
  let slots := (List.range s.ctxSlots).filter fun k =>
    decide (s.occupantOf k = 0) || !s.pinned (s.occupantOf k - 1)
  let idle := slots.filter fun k => decide (s.occupantOf k = 0) || (s.cal (s.occupantOf k - 1)).isNone
  let used := fun (k : Nat) => if s.occupantOf k = 0 then 0 else Cells.rd (fun _ => 0) s.trim.touched (s.occupantOf k - 1)
  match bestBy (fun a b => decide (used a < used b)) idle with
  | some k => some k
  | none => bestBy (fun a b => timeLt (cNext (s.ctxWords (s.occupantOf b - 1))) (cNext (s.ctxWords (s.occupantOf a - 1)))) slots

/-- Ask for the fetch of a context that is not resident: it waits its turn, for a victim, and for DRAM (R189-R193). -/
def State.startFetch (s : State) (c : Nat) : State :=
  if s.resident c ∨ c ∈ s.trim.swaps then s else { s with trim := { s.trim with swaps := s.trim.swaps ++ [c] } }

/-- An event missed for want of its context asks for it no more; a command that waits for it still does. -/
def State.dropFetch (s : State) (c : Nat) : State :=
  if s.link.insertWait = some c ∨ s.trim.belayWait = some c then s
  else { s with trim := { s.trim with swaps := s.trim.swaps.filter (· ≠ c) } }

/-- Read a block's words through P_TRM. -/
def State.homeReads (s : State) (c : Nat) : List Word × State :=
  (List.range 6).foldl (fun (a : List Word × State) i => let r := a.2.dramRead 2 (6 * c + i); (a.1 ++ r.1, r.2)) ([], s)

/-- A context's home holds its words from now on: its next fetch reads them, also where it was resident from the start
(R189; DEDUCED, log entry 157). -/
def State.homed (s : State) (c : Nat) : State :=
  { s with trim := { s.trim with fetched := Cells.wr (fun _ => 0) s.trim.fetched c 1 } }

/-- The swap of the context first in turn is done (R189, R191): a dirty occupant of the victim slot is written back, the
new one is read, or zeroed at its first fetch, DIRTY where its home holds other words (R180).  While no slot is a victim
it waits, and a freeze leaves the old occupant resident. -/
def State.swapDone (s : State) (c : Nat) : State :=
  match s.victim with
  | none => s
  | some k =>
    if s.dramUp = false ∨ s.trim.swaps.head? ≠ some c then s else
    let o := s.occupantOf k
    let old := (List.range 64).map fun i => s.sramRd (s.slotWord k i)
    let s1 := if o ≠ 0 ∧ bitOf (old.getD 63 0) 10 then
        (forNat 6 (fun i t => t.dramWr (6 * (o - 1) + i)
          (((old.set 63 (withBit (old.getD 63 0) 10 false)) ++ List.replicate 8 0).drop (12 * i) |>.take 12) 1
          (BitVec.ofNat 6 (fld (old.getD 63 0) 17 12))) ((s.homed (o - 1)).dramWake 2)).count Port.TRM_EVICTCNT
      else s
    let first := decide (Cells.rd (fun _ => 0) s1.trim.fetched c = 0)
    let stale := (List.range 64).any fun i => decide (s1.homeRd c i ≠ 0)
    let r := if first then (List.replicate 63 0 ++ [inFld 10 10 (nat1 stale)], s1) else s1.homeReads c
    if r.2.dramUp = false then r.2 else
    let s2 := ((r.2.sramWrs (r.2.slotWord k 0) (r.1.take 64)).seat c k).count Port.TRM_FETCHCNT
    { (s2.homed c) with trim := { (s2.homed c).trim with swaps := s2.trim.swaps.tail } }

/-! ## Closing an event's books (R112-R114, R160, R178) -/

/-- Ticks of the random advDelay of 0-10 ms of an advertising event (R137): free. -/
def State.advDelay (s : State) (ws : List Word) : Nat := if cKind ws = 2 then s.freeNat % 160001 else 0

/-- The words an event leaves: EVSTAT, MISSED, EVCNT, NEXT_ANCHOR and the next channel (R112).  A follower's event with no
resynchronisation leaves the anchor it was computed at, so that after k missed events the next anchor stands k + 1 intervals
after LAST_ANCHOR (DEDUCED, log entry 146).  `missed0`: MISSED as the event loaded it; the widening of three missed beacons
ends with the first event after the one that resynchronised (R160).  (DEDUCED, log entry 105.) -/
def closeWords (ws : List Word) (evstat : Nat) (resynced : Bool) (anchor : BitVec 54) (delay missed0 : Nat) : List Word :=
  let old := cw ws 9 17 12
  let missed := if resynced ∨ evstat = 6 then old else min 63 (old + 1)
  let w1 := cset (cset ws 1 17 14 evstat) 9 17 12 missed
  let w2 := csetTime (cset w1 7 17 0 ((cEvcnt ws + 1) % 262144)) 2 (anchor + ticks (cInterval ws + delay))
  let w3 := if cKind ws = 1 then cset w2 21 5 5 0 else w2
  let w4 := if cKind ws = 6 ∧ missed0 = 0 then cset w3 0 4 3 0 else w3
  let w5 := if cKind ws = 6 ∧ resynced = false ∧ evstat ≠ 6 ∧ old + 1 = 3 then cinc (cset w4 0 4 3 2) 25 8 0 else w4
  channelled (hopSteps 1 w5)

/-- The context words a CLOSE writes: words 0-16 and the protocol's exchange words (R112, R139, R170). -/
def backWords (kind : Nat) : List Nat :=
  List.range 17 ++ (if kind = 1 then [21] else if kind = 2 then [22] else if kind = 4 then [24, 25, 26]
    else if kind = 5 ∨ kind = 6 then [25] else [])

/-- The supervision deadline has come (R118). -/
def State.superviseDue (s : State) (ws : List Word) : Bool :=
  decide (cw ws 9 11 0 ≠ 0) && timeLe (cLast ws + ticks (cw ws 9 11 0 * 160000)) s.time.link

/-! ## Search (R116, R117) -/

/-- The watch pool has a lane. -/
def State.watchPool (s : State) : Bool := !(lanesIn fun l => decide (s.laneRole l = 2)).isEmpty

/-- A free search slot. -/
def State.freeSlot (s : State) : Option Nat := (List.range 16).find? fun k => !s.getB (Port.SEQ_SRCH k) 17

/-- A context takes a search slot: STATE 2 and LINK_SEARCH; work that its last lane holds opens an entry (R116, R181). -/
def State.takeSlot (s : State) (c k : Nat) : State :=
  let t := (s.set (Port.SEQ_SRCH k) (inFld 17 17 1 ||| inFld 13 0 c)).ctxPut c 0 (withFld (s.ctxRd c 0) 8 6 2)
  (({ t with link := { t.link with searchWait := t.link.searchWait.filter (· ≠ c) } }).leaveLane c
    (s.ctxF c 63 9 4)).raise Irq.LINK_SEARCH

/-- A freed search slot goes to the first context that waits (R116). -/
def State.slotFreed (s : State) : State :=
  match s.freeSlot, s.link.searchWait with
  | some k, c :: _ => if s.getB Port.LTB_SEQCFG 17 && s.watchPool then s.takeSlot c k else s
  | _, _ => s

/-- Supervision ends a connection (R118): its event ends after a transmission or packet under way, its slot, entry and
pending updates go, STATE becomes 4, LINK_LOST. -/
def State.superviseEnd (s : State) (c : Nat) : State :=
  let t := ((s.leaveCalendar c).ctxPut c 0 (withFld (s.ctxRd c 0) 8 6 4))
  let t1 := match t.seqOfCtx c with
    | some q => (t.updEvent q fun e => { e with words := cset e.words 0 8 6 4 }).finishEvent q
    | none => t
  ((t1.count Port.SEQ_SUPVCNT).raise Irq.LINK_LOST).slotFreed

/-- A calendar entry moves on to the event after the one that ended, with what trim decided for it (R177, R179). -/
def nextEntry (e : CalEntry) (anchor : BitVec 54) : CalEntry :=
  match e.after with
  | some f => { e with anchor := anchor, inHorizon := true, seq := f.seq, lane := f.lane, waiting := f.waiting,
                       entered := f.entered, txOnly := f.txOnly, after := none }
  | none => { e with anchor := anchor, inHorizon := false, seq := none, lane := none, waiting := false, txOnly := false }

/-- Write an event's books: the words, the calendar entry, BEACON_LOST and supervision. -/
def State.closeBooks (s : State) (c : Nat) (ws : List Word) (evstat : Nat) (resynced : Bool) (anchor : BitVec 54)
    (missed0 : Nat) : State :=
  let wn := closeWords ws evstat resynced anchor (s.advDelay ws) missed0
  let t := forEach (backWords (cKind ws)) (fun i t => t.ctxPut c i (wn.getD i 0)) s.nextFree
  let t1 := t.updCal c fun e => nextEntry e (cNext wn)
  let n := if evstat = 6 then Cells.rd (fun _ => 0) t1.link.skipped c + 1 else 0
  let t2 := { t1 with link := { t1.link with skipped := Cells.wr (fun _ => 0) t1.link.skipped c n } }
  let t3 := if cKind ws = 6 ∧ resynced = false ∧ evstat ≠ 6 ∧ cw ws 9 17 12 + 1 = 3 then t2.raise Irq.BEACON_LOST else t2
  if (t3.cal c).isSome && t3.superviseDue wn then t3.superviseEnd c else t3

/-- An event that no sequencer serves ends as missed (R12, R116, R178): the assigned sequencer's MISSCNT counts it. -/
def State.missEvent (s : State) (c : Nat) (ws : List Word) (evstat : Nat) (q : Option Nat) : State :=
  let t := match q with
    | some q => if evstat = 6 ∨ evstat = 7 then s else s.count (Port.SEQ_MISSCNT q)
    | none => s
  (t.closeBooks c ws evstat false (cNext ws) (cw ws 9 17 12)).servePending

/-! ## UPDATE (R110) -/

/-- An UPDATE image over a context's words: words 0-16 but EVCNT, MISSED, LAST_ANCHOR, EVSTAT and STATE. -/
def updateWords (ws img : List Word) : List Word :=
  let w := img.take 17 ++ ws.drop 17
  let w1 := cset (cset (cset w 0 8 6 (cState ws)) 1 17 14 (cw ws 1 17 14)) 7 17 0 (cEvcnt ws)
  channelled (csetTime (cset w1 9 17 12 (cw ws 9 17 12)) 11 (cLast ws))

/-- An instant has come or passed at an event count: it lies less than half the range of EVCNT behind (DESIGN CHOICE, log
entry 147). -/
def instantPast (inst evcnt : Nat) : Bool := decide ((evcnt + 262144 - inst) % 262144 < 2 ^ 17)

/-- The updates due at a context's next event. -/
def State.dueUpdates (s : State) (c : Nat) (ws : List Word) : List Upd :=
  s.link.updates.filter fun u => decide (u.ctx = c) && (u.past || instantPast u.instant.toNat (cEvcnt ws))

/-- Apply an update to a context, and its KIND and NEXT_ANCHOR to the calendar entry (R110). -/
def State.applyOne (s : State) (c : Nat) (u : Upd) : State :=
  let wn := updateWords (s.ctxWords c) u.image
  let t := (s.ctxPuts c 0 (wn.take 17)).updCal c fun e => { e with kind := BitVec.ofNat 3 (cKind wn), anchor := cNext wn }
  { t with link := { t.link with updates := t.link.updates.erase u } }

/-- Apply the updates due at a context's next event, in the order of their commands (R110). -/
def State.applyUpdate (s : State) (c : Nat) : State := forEach (s.dueUpdates c (s.ctxWords c)) (fun u t => t.applyOne c u) s

/-- A follower must search (R116): a slot, or STATE 3. -/
def State.enterSearch (s : State) (c : Nat) : State :=
  match (if s.getB Port.LTB_SEQCFG 17 && s.watchPool then s.freeSlot else none) with
  | some k => s.takeSlot c k
  | none =>
    let t := (s.ctxPut c 0 (withFld (s.ctxRd c 0) 8 6 3)).count Port.SEQ_SRCH_FULL
    { t with link := { t.link with searchWait := t.link.searchWait.filter (· ≠ c) ++ [c] } }

/-- Candidate events of a search packet (R117): the events, counted from the next one, whose computed channel is the
packet's bin and whose predicted anchor lies within that event's W of the packet's anchor. -/
def State.candidates (s : State) (ws : List Word) (bin : Nat) (a : BitVec 54) : List Int :=
  let near := if cInterval ws = 0 then 0 else (timeDiff a (cNext ws)) / (cInterval ws : Int)
  let r := s.wide (wordsAt ws near) / max 1 (cInterval ws) + 2
  ((List.range (2 * r + 1)).map fun (i : Nat) => near + (i : Int) - (r : Int)).filter fun j =>
    let wj := wordsAt ws j
    decide (cw wj 5 14 6 = bin) && decide ((timeDiff a (cNext wj)).natAbs ≤ s.wide wj)

/-- Leaving search with results in a lane opens an entry (R181). -/
def State.leaveSearch (s : State) (c : Nat) : State :=
  let ls := lanesIn fun l => s.holdsOf l c
  if ls.isEmpty then s else s.openEntry c ls

/-- A packet of a search slot is placed in the one candidate event, or counts as ambiguous (R117).  EVSTAT stays as the
event's own end left it, 7 (DESIGN CHOICE, log entry 151); EVCNT follows a beacon's BCNT only where the packet is a beacon
(R159). -/
def State.searchPlace (s : State) (c bin : Nat) (ts : BitVec 54) (f : List Octet) : State :=
  let ws := s.ctxWords c
  let a := anchorOf ws ts
  match s.candidates ws bin a with
  | [j] =>
    let w0 := cset (csetTime (wordsAt ws j) 11 a) 9 17 12 0
    let w1 := cset (if cKind ws = 6 ∧ halType f = 4 then bcntFix w0 f else w0) 0 8 6 1
    let w2 := channelled (hopSteps 1 (csetTime (cset w1 7 17 0 ((cEvcnt w1 + 1) % 262144)) 2 (a + ticks (cInterval ws))))
    let t := forEach (backWords (cKind ws) ++ [10]) (fun i t => t.ctxPut c i (w2.getD i 0)) s
    let t1 := match t.searchSlot c with
      | some k => t.set (Port.SEQ_SRCH k) 0
      | none => t
    let t2 := t1.updCal c fun e => nextEntry { e with after := none } (cNext w2)
    ((t2.leaveSearch c).raise Irq.LINK_FOUND).slotFreed
  | _ => s.count Port.SEQ_SRCH_AMBIG

end Sys2Proof.Machine
end

