-- ==== Sys2Proof/Machine/SeqEvents.lean ====
section
/-! DEFINITION. The steps of a link event (R112, R157, R158, R177-R179), the calendar commands (R110, R192, R193), and
the faults of lanes and sequencers (R70, R107, R194, R195). -/

namespace Sys2Proof.Machine

open Sys2Proof

/-! ## Unit faults (R107, R194, R195) -/

/-- The lowest-numbered spare sequencer. -/
def State.spareSeq (s : State) : Option Nat :=
  (List.range 16).find? fun r => decide (s.getF (Port.SEQ_STAT r) 17 15 = 2)

/-- The lowest-numbered spare lane of a powered domain. -/
def State.spareLane (s : State) : Option Nat :=
  (List.range 64).find? fun l => decide (s.laneRole l = 3) && s.domOn (laneDom l)

/-- The event trim places for a context loses its units and is placed anew (R194, R195). -/
def State.assignAnew (s : State) (c : Nat) : State := (s.updCal c fun e => placeUnits e none).assign c

/-- A number in an assignment replaced. -/
def swapUnit (a b : Nat) (x : Option Nat) : Option Nat := if x = some a then some b else x

/-- Calendar contexts with an event on a unit that is still to come: the sequencer q, or lane l at 64 + l. -/
def State.assignedTo (s : State) (u : Nat) : List Nat := s.calContexts.filter fun c => match s.cal c with
  | some e => match e.after with
    | some f => unitIn u f.seq f.lane
    | none => unitIn u e.seq e.lane && (s.eventOf c).isNone
  | none => false

/-- A faulted sequencer's assigned events go to the spare that took its place, or to other eligible sequencers (R195). -/
def State.moveSeqEvents (s : State) (q : Nat) (spare : Option Nat) : State :=
  forEach (s.assignedTo q) (fun c t => match spare with
    | some n => t.updCal c fun e => { e with seq := swapUnit q n e.seq,
                                             after := e.after.map fun f => { f with seq := swapUnit q n f.seq } }
    | none => t.assignAnew c) s

/-- A sequencer faults (R107, R195): its transmission ends, its lane is released, a spare takes its place, and the
interrupted CLOSE of its event in progress, or of the context `c` whose load failed, is completed from the words of the last
CLOSE.  (DEDUCED, log entry 109.) -/
def State.seqDown (s : State) (q : Nat) (kind : SeqFaultKind) (c : Option Nat) : State :=
  let e := s.event q
  let cut := (s.setEvent q none).cutOwner fun o => decide (o = .seq q) || (decide (q = 0) && decide (o = .sniff))
  let free := match e.bind (·.lane) with
    | some l => if (s.lane l).seq = some q then (cut.laneStop l).updLane l fun y => { y with seq := none } else cut
    | none => cut
  let bad := (((free.setF (Port.SEQ_STAT q) 17 15 3).setB (Port.SEQ_STAT q) 0 true).setSeqState q 0).set (Port.SEQ_CTX q) 0
  let r1 := bad.raise Irq.SEQ_FAULT
  let r2 := if kind = .contextEcc then r1.raise Irq.CTX_ECC else r1
  let spare := r2.spareSeq
  let up := match spare with
    | some r => r2.setF (Port.SEQ_STAT r) 17 15 1
    | none => r2
  let closed := match c with
    | some c => if (up.cal c).isSome then
        let ws := up.ctxWords c
        (up.count (Port.SEQ_MISSCNT q)).closeBooks c ws (if kind = SeqFaultKind.contextEcc then 9 else 8)
          false (cNext ws) (cw ws 9 17 12)
      else up
    | none => up
  ((closed.moveSeqEvents q spare).count Port.TRM_FAULTMIG).servePending

/-- A sequencer runs an event past 1 ms after its close time (R107). -/
def State.overrun (s : State) (q : Nat) : Bool := match s.event q with
  | some e => e.loaded && timeLt (e.closeAt + ticks 16000) s.time.link
  | none => false

/-- A fault of a sequencer that is on and not yet faulted (R107). -/
def State.seqFault (s : State) (q : Nat) (kind : SeqFaultKind) : State :=
  let pool := s.getF (Port.SEQ_STAT q) 17 15
  if pool = 0 ∨ pool = 3 ∨ (kind = .overrun ∧ s.overrun q = false) then s else
  s.seqDown q kind ((s.event q).bind fun e => if e.loaded then some e.ctx else none)

/-! ## Setup (R112) -/

/-- A latency skip (R113). -/
def State.latencySkip (s : State) (c : Nat) (ws : List Word) : Bool :=
  let pend := if cKind ws = 1 then bitOf (ws.getD 21 0) 8 else if cKind ws = 4 then bitOf (ws.getD 24 0) 9 else false
  !cLeader ws && decide (0 < cw ws 10 17 9) && (s.queue (cTxq ws)).isEmpty && !pend &&
    decide (Cells.rd (fun _ => 0) s.link.skipped c < cw ws 10 17 9) && (s.dueUpdates c ws).isEmpty

/-- Dequeue the stale heads of a beacon source (R157): at most `n`. -/
def State.pruneBeacons (s : State) (q : Nat) : Nat → State
  | 0 => s
  | n + 1 =>
    match s.event q with
    | none => s
    | some e =>
      match s.queue (cTxq e.words) with
      | [] => s
      | p :: _ =>
        let f := s.pktOctets p
        if p.allNear && (decide (halType f ≠ 4) || decide (beaconDiff (bcntOf f) (cEvcnt e.words) < 0)) then
          ((s.dropHead (cTxq e.words)).updEvent q fun e => { e with words := cinc e.words 25 17 9 }).pruneBeacons q n
        else s

/-- A beacon source has this event's beacon at the head of TXQ. -/
def State.beaconReady (s : State) (e : Event) : Bool :=
  match s.queue (cTxq e.words) with
  | [] => false
  | p :: _ =>
    let f := s.pktOctets p
    p.allNear && decide (halType f = 4) && decide (beaconDiff (bcntOf f) (cEvcnt e.words) = 0)

/-- What a sequencer does with an armed event before its first action: choose the frame, and close an event that has
nothing to send (R142, R153, R157, R239). -/
def State.armKind (s : State) (q : Nat) : State :=
  match s.event q with
  | none => s
  | some e =>
    let k := cKind e.words
    if k = 5 then
      let t := s.pruneBeacons q (s.queue (cTxq e.words)).length
      match t.event q with
      | some e1 => if t.beaconReady e1 then t else (t.endEvent q 1).raise Irq.BEACON_EMPTY
      | none => t
    else if k = 2 ∨ (k = 7 ∧ cLeader e.words) then
      match s.queue (cTxq e.words) with
      | [] => s.endEvent q 1
      | p :: _ => if p.allNear then s else s.endEvent q 1
    else if (k = 1 ∨ k = 4) ∧ cLeader e.words then s.chooseFrame q e
    else s

/-- An event as its context's words give it.  A leader's firmware event sends TXQ's head as an advertiser does (DESIGN
CHOICE, log entry 155). -/
def State.eventFrom (s : State) (c : Nat) (ws : List Word) (lane : Option Nat) (loaded txOnly : Bool) : Event :=
  let k := cKind ws
  let held := decide (k = 1) || decide (k = 4)
  { ctx := c, words := ws.take 63, anchor := cNext ws, w := s.window ws, closeAt := s.closeTime ws, lane := lane,
    loaded := loaded, evstat := 1, resynced := false, frames := 0, fails := 0, lastGood := false, mdPeer := false,
    mdOwn := false, retired := 0, send := if held then .empty else .queued 0,
    onAir := held && decide (Cells.rd (fun _ => 0) s.link.headSent (cTxq ws) = 1),
    emptyOut := decide (k = 1) && decide (Cells.rd (fun _ => 0) s.link.emptyOut c = 1), acked := false,
    missed0 := cw ws 9 17 12, txOnly := txOnly, peer := [], aux := none, window := 0, endAt := 0, closing := false,
    join := false, step := 0 }

/-- A sequencer takes an event: it stands in ARMED with the context's number. -/
def State.takeEvent (s : State) (q : Nat) (e : Event) : State :=
  ((s.setEvent q (some e)).set (Port.SEQ_CTX q) (inFld 17 17 1 ||| inFld 13 0 e.ctx)).setSeqState q 1

/-- A context read returns an uncorrectable ECC error (R107). -/
def State.ctxBad (s : State) (c : Nat) : Bool :=
  s.resident c && (List.range 63).any fun i => decide (s.sramBad (s.slotWord (s.slotNo c - 1) i) = 2)

/-- The context's work leaves its last lane for another while that lane holds results of its present epoch (R181). -/
def State.leaveLast (s : State) (c l : Nat) : State :=
  let last := s.ctxF c 63 9 4
  if l ≠ last ∧ s.holdsEpoch last c (s.epochOf c) then s.openEntry c [last] else s

/-- Arm a context's event on a sequencer with the lane trim assigned (R112). -/
def State.arm (s : State) (q c : Nat) (lane : Option Nat) (txOnly : Bool) : State :=
  if s.ctxBad c then s.seqDown q .contextEcc (some c) else
  let e := s.eventFrom c (s.ctxWords c) lane true txOnly
  let t := s.takeEvent q e
  let t1 := match lane with
    | some l => ((t.leaveLast c l).seqLane e l).setCtxF c 63 9 4 l
    | none => t
  let t2 := { t1 with trim := { t1.trim with served := Cells.wr (fun _ => 0) t1.trim.served c 1 } }
  (((t2.setCtxF c 63 3 0 q).touch c).raiseProducer (Ev.seqSetup q)).armKind q

/-- Serve a context's event on its units, once its previous CLOSE is complete (R112-R116, R178); `tx`: trim gave it no lane
(R176). -/
def State.setupNow (s : State) (c : Nat) (q lane : Option Nat) (tx : Bool) : State :=
  let ws0 := s.ctxWords c
  if s.resident c = false then
    let s1 := (s.applyUpdate c).dropFetch c
    (s1.count Port.SEQ_NORESCNT).missEvent c (s1.ctxWords c) 2 q
  else if s.latencySkip c ws0 then s.missEvent c ws0 6 q else
  let s1 := s.applyUpdate c
  let ws := s1.ctxWords c
  let only := tx || cTxOnly ws
  if timeLt s.time.link (s1.setupPoint ws) ∧ ¬ timeLt s.time.link (s.setupPoint ws0) then s1 else
  match q, only || lane.isSome with
  | some q, true =>
    if !cLeader ws && decide (cState ws ≠ 3) && decide (s1.wLimit ws < s1.wide ws) then
      let t := s1.enterSearch c
      if decide (t.ctxF c 0 8 6 = 2) then t.missEvent c (t.ctxWords c) 7 none else t.arm q c lane only
    else s1.arm q c lane only
  | _, _ => ((s1.count Port.TRM_NOUNITCNT).raise Irq.TRM_NOUNIT).missEvent c ws 1 none

/-- A unit still serves another event, or its packet: a sequencer serves one event at a time (R106). -/
def State.unitsTaken (s : State) (q lane : Option Nat) : Bool :=
  (match q with
   | some q => (s.event q).isSome
   | none => false) ||
  (match lane with
   | some l => (s.lane l).seq.isSome || s.receiving l
   | none => false)

/-- The setup point of a context's event (R112): a search context's event is passed over; an event whose previous CLOSE
is pending waits in ARMED on the sequencer trim gave it (R179), and one whose units still finish another event waits for
them. -/
def State.eventSetup (s : State) (c : Nat) : State :=
  match s.cal c with
  | none => s
  | some ce =>
    if s.waitingOn c ∨ timeLt s.time.link (s.setupPoint (s.nextWords c)) then s else
    match (s.eventOf c).isSome, ce.after with
    | true, some f => match f.seq with
      | some q => if (s.event q).isSome then s else s.takeEvent q (s.eventFrom c (s.nextWords c) f.lane false f.txOnly)
      | none => s
    | true, none => s
    | false, _ =>
      if s.resident c ∧ s.ctxF c 0 8 6 = 2 then (s.applyUpdate c).missEvent c ((s.applyUpdate c).ctxWords c) 7 none
      else if s.unitsTaken ce.seq ce.lane then s else s.setupNow c ce.seq ce.lane ce.txOnly

/-- A waiting sequencer loads its context once the previous CLOSE is complete (R179); a follower whose window has passed
closes. -/
def State.contextLoad (s : State) (q : Nat) : State :=
  match s.event q with
  | some e =>
    if e.loaded ∨ (s.eventOf e.ctx).isSome then s else
    let t := ((s.setEvent q none).set (Port.SEQ_CTX q) 0).setSeqState q 0
    match t.cal e.ctx with
    | none => t
    | some ce =>
      if t.unitsTaken none ce.lane then s else
      let u := t.setupNow e.ctx (some q) ce.lane ce.txOnly
      match u.event q with
      | some x =>
        if !cLeader x.words && decide (u.seqState q = 1) &&
            timeLt (cNext x.words + ticks (syncTicks (cPhy x.words) + x.w)) u.time.link then u.endEvent q 1 else u
      | none => u
  | none => s

/-! ## Listening and windows (R112) -/

/-- The listen of a follower starts (R112): at E - W - fill time. -/
def State.listenStart (s : State) (q : Nat) : State :=
  match s.event q with
  | some e =>
    let at0 := cNext e.words + ticks (syncTicks (cPhy e.words)) - ticks (e.w + fillTicks (rxPhy (cPhy e.words)))
    if s.seqState q = 1 ∧ e.loaded ∧ cLeader e.words = false ∧ cKind e.words ≠ 2 ∧ timeLe at0 s.time.link then
      (s.seqStartLane q).setSeqState q 2
    else s
  | none => s

/-- E + W, to which the first event of a connection adds its transmit window (R112, R140). -/
def listenEnd (e : Event) : BitVec 54 :=
  let win := if cKind e.words = 1 ∧ bitOf (e.words.getD 21 0) 5 then cw e.words 21 4 0 * 20000 else 0
  cNext e.words + ticks (syncTicks (cPhy e.words) + e.w + win)

/-- The latest end of the sync of an auxiliary PDU a scanner awaits: within one unit of its offset (R131; PRESUMED, log
entry 11). -/
def auxEnd (x : AuxPdu) : BitVec 54 := x.start + ticks (x.unit + syncTicks x.phy + guardTicks x.phy)

/-- E + W passed without a sync (R112); a scanner listens to its close time (R139), on an auxiliary channel until the PDU
can come no more. -/
def State.listenTimeout (s : State) (q : Nat) : State :=
  match s.event q with
  | some e =>
    if s.seqState q ≠ 2 ∨ e.join then s else
    if cKind e.words = 3 then
      match e.aux with
      | some x => if timeLe (auxEnd x) s.time.link then s.scanOn q none else s
      | none => s
    else if timeLe (listenEnd e) s.time.link then s.endEvent q 1 else s
  | none => s

/-- The response window passed (R112): an advertiser goes on to its next channel. -/
def State.windowExpiry (s : State) (q : Nat) : State :=
  match s.event q with
  | some e =>
    if s.seqState q = 5 ∧ timeLe e.window s.time.link ∧ cKind e.words ≠ 5 then
      if cKind e.words = 2 then s.nextAdv q e else
      if cKind e.words = 3 ∧ e.closing = false then s.scanOn q none else s.setSeqState q 7
    else s
  | none => s

/-- The close time is reached (R112): a packet or a transmission under way is finished, nothing new starts. -/
def State.closeReached (s : State) (q : Nat) : State :=
  match s.event q with
  | some e => if e.loaded = false ∨ timeLt s.time.link e.closeAt then s else s.finishEvent q
  | none => s

/-! ## Close (R112, R179) -/

/-- Retire the frames acknowledged in the event from TXQ (R179). -/
def State.retireFrames (s : State) (e : Event) : State :=
  if e.retired = 0 then s else
  let t := (List.range e.retired).foldl (fun t _ => t.dropHead (cTxq e.words)) s
  t.setHeadSent (cTxq e.words) (nat1 e.onAir)

/-- An unacknowledged empty LE PDU of an event stands over its CLOSE (R136). -/
def State.noteEmpty (s : State) (e : Event) : State :=
  { s with link := { s.link with emptyOut := Cells.wr (fun _ => 0) s.link.emptyOut e.ctx (nat1 e.emptyOut) } }

/-- A context that waited for a search slot resynchronised in an event of its own (R116): it waits no more, and a slot it
took during the event is released as a search packet's placement does (DESIGN CHOICE, log entry 150). -/
def State.foundAgain (s : State) (c : Nat) (slot : Option Nat) : State :=
  let t := { s with link := { s.link with searchWait := s.link.searchWait.filter (· ≠ c) } }
  match slot with
  | some k => (((t.set (Port.SEQ_SRCH k) 0).leaveSearch c).raise Irq.LINK_FOUND).slotFreed
  | none => t

/-- CLOSE of a sequencer's event (R112): state written back, frames retired, lane released, calendar updated, a free
unit offered to the pending list (R177). -/
def State.eventClose (s : State) (q : Nat) : State :=
  match s.event q with
  | some e =>
    if s.seqState q ≠ 7 ∨ e.loaded = false then s else
    let ev := e.evstat.toNat
    let t := ((s.retireFrames e).seqFreeLane q).withdraw q
    let t1 := ((t.setEvent q none).set (Port.SEQ_CTX q) 0).setSeqState q 0
    let t2 := (if ev = 6 ∨ ev = 7 then t1 else t1.count (Port.SEQ_EVTCNT q))
    let t3 := if (1 ≤ ev ∧ ev ≤ 5) ∨ (8 ≤ ev ∧ ev ≤ 10) then t2.count (Port.SEQ_MISSCNT q) else t2
    let found := e.resynced && decide (cState e.words = 3)
    let slot := t3.searchSlot e.ctx
    let kept := cset e.words 0 8 6 (if (t3.cal e.ctx).isNone then t3.ctxF e.ctx 0 8 6 else if found then 1 else
      if slot.isSome then 2 else cState e.words)
    let busy := match e.lane with
      | some l => Cells.wr (fun _ => 0) t3.trim.laneBusy (64 + l) s.time.link.toNat
      | none => t3.trim.laneBusy
    let stamp := { t3 with trim := { t3.trim with laneBusy := Cells.wr (fun _ => 0) busy q s.time.link.toNat } }
    let t4 := (stamp.closeBooks e.ctx kept ev e.resynced e.anchor e.missed0).noteEmpty e
    (((if found then t4.foundAgain e.ctx slot else t4)).raiseProducer (Ev.seqClose q)).servePending
  | none => s

/-- The supervision deadline of a context, from the last anchor, that of its event in progress among them (R118). -/
def State.supervise (s : State) (c : Nat) : State :=
  let ws := match s.eventOf c with
    | some e => e.words
    | none => s.ctxWords c
  if (s.cal c).isSome && s.superviseDue ws then s.superviseEnd c else s

/-! ## Join windows (R158) -/

/-- The join window of a beacon source starts: it listens on the beacon channel. -/
def State.joinStart (s : State) (q : Nat) : State :=
  match s.event q with
  | some e =>
    if cKind e.words = 5 ∧ e.txOnly = false ∧ s.seqState q = 5 ∧ e.join = false ∧
        timeLe (cNext e.words + ticks (cw e.words 24 17 10 * 16000)) s.time.link then
      ((s.setEvent q (some { e with join := true })).seqStartLane q).setSeqState q 2
    else s
  | none => s

/-- The join window ends, and with it the event, after a packet or frame under way. -/
def State.joinEnd (s : State) (q : Nat) : State :=
  match s.event q with
  | some e =>
    if e.join ∧ timeLe (joinTill e.words) s.time.link then s.finishEvent q else s
  | none => s

/-! ## Horizon entry (R173, R177, R189) -/

/-- The tick at which the event trim is to place for a context enters the horizon, when it has not entered yet: that of
the event after the one in progress, else that of the next one (R173, R177). -/
def State.entersAt (s : State) (c : Nat) : Option Int :=
  match s.cal c with
  | none => none
  | some e => if (if (s.eventOf c).isSome then e.after.isSome else e.inHorizon) then none
              else some (s.tickOf (s.horizonAt (s.nextWords c)))

/-- An event enters the horizon: its context is fetched when it is away, and units are assigned, the event being
transmit-only or not as it stands now (R176, R177, R189). -/
def State.enterHorizon (s : State) (c : Nat) : State :=
  let n := s.link.horizonCount
  let tx := cTxOnly (s.nextWords c)
  let f : Follow := { seq := none, lane := none, waiting := false, entered := n, txOnly := tx }
  let t := (s.updCal c fun e => if (s.eventOf c).isSome then { e with after := some f }
    else { e with inHorizon := true, entered := n, txOnly := tx }).startFetch c
  let t1 := { t with link := { t.link with horizonCount := n + 1 } }
  if s.ctxF c 0 8 6 = 2 then t1 else t1.assign c

/-- The contexts whose event is due to enter the horizon, in order of entry time, equal ones by number (R173). -/
def State.dueEntries (s : State) : List Nat :=
  let l := s.calContexts.filterMap fun c => match s.entersAt c with
    | some t => if t ≤ s.time.wall then some (t, c) else none
    | none => none
  (l.mergeSort fun a b => decide (a.1 < b.1) || (decide (a.1 = b.1) && decide (a.2 ≤ b.2))).map (·.2)

/-- An event enters the horizon, those due before it first (R173). -/
def State.horizonEntry (s : State) (c : Nat) : State :=
  let l := s.dueEntries
  if c ∈ l then forEach (l.takeWhile (· ≠ c) ++ [c]) (fun d t => t.enterHorizon d) s else s

/-! ## Calendar commands (R110, R193) -/

/-- Whole intervals by which INSERT moves a context's next anchor (R110). -/
def State.insertSteps (s : State) (ws : List Word) : Nat :=
  let gap := timeDiff (s.time.link + ticks (s.setupTicks + s.window ws)) (cNext ws)
  if gap ≤ 0 then 0 else ((gap + (cInterval ws : Int) - 1) / (cInterval ws : Int)).toNat

/-- Finish a calendar command with its result. -/
def State.calResult (s : State) (r : Nat) : State := (s.setB Port.SEQ_CAL_STAT 17 false).setF Port.SEQ_CAL_STAT 14 12 r

/-- INSERT of a resident context (R110): its result and the state. -/
def State.insertCtx (s : State) (c : Nat) : Nat × State :=
  let ws := s.ctxWords c
  if contentOk ws = false then (2, s) else
  if 2048 ≤ s.calCount ∨ s.kindFull (cKind ws) then (1, s) else
  let n := s.insertSteps ws
  let w1 := cset (csetTime ws 2 (cNext ws + ticks (n * cInterval ws))) 7 17 0 ((cEvcnt ws + n) % 262144)
  let wn := channelled (hopSteps (n + 1) w1)
  (0, ((s.ctxWrs c 0 (wn.take 63)).enterCalendar c wn).touch c)

/-- INSERT by command of a resident context. -/
def State.insertNow (s : State) (c : Nat) : State := let r := s.insertCtx c; r.2.calResult r.1

/-- SEQ_CAL_CMD INSERT: a context that is not resident waits until trim has fetched it (R193). -/
def State.calInsert (s : State) : State :=
  let c := s.getF Port.SEQ_CAL_ARG_0 13 0
  if s.ctxTotal ≤ c then s.calResult 2 else
  if (s.cal c).isSome then s.calResult 3 else
  if s.resident c then s.insertNow c else
  ({ s with link := { s.link with insertWait := some c } }.setB Port.SEQ_CAL_STAT 17 true).startFetch c

/-- SEQ_CAL_CMD REMOVE (R110): requests not begun are withdrawn (R125) and the event in progress completes.  (DEDUCED,
log entry 108.) -/
def State.calRemove (s : State) : State :=
  let c := s.getF Port.SEQ_CAL_ARG_0 13 0
  if (s.cal c).isNone then s.calResult 4 else
  let t := (s.leaveCalendar c).ctxPut c 0 (withFld (s.ctxRd c 0) 8 6 5)
  let t1 := match t.seqOfCtx c with
    | some q =>
      let pend := [0, 1].any fun x => (t.txc x).accepted.any fun r => decide (r.owner = TxOwner.seq q)
      if pend then (t.withdraw q).setSeqState q 7 else t
    | none => t
  (t1.slotFreed).calResult 0

/-- SEQ_CAL_CMD UPDATE (R110).  The instant has passed when the next event's EVCNT lies behind it by less than half the
range of EVCNT (DESIGN CHOICE, log entry 147); where several results apply, that of the image's place comes first, ABSENT
before that of its content (DESIGN CHOICE, log entry 152). -/
def State.calUpdate (s : State) : State :=
  let c := s.getF Port.SEQ_CAL_ARG_0 13 0
  let o := s.getF Port.SEQ_CAL_ARG_1 13 0
  let img := s.mbxRds o 17
  let ws := s.ctxWords c
  if s.mbxWords < o + 17 then s.calResult 2 else
  if (s.cal c).isNone then s.calResult 4 else
  if contentOk (img ++ ws.drop 17) = false then s.calResult 2 else
  if 64 ≤ s.link.updates.length then s.calResult 5 else
  let inst := s.get Port.SEQ_CAL_ARG_2
  let busy := (s.seqOfCtx c).isSome
  let past := decide (2 ^ 17 ≤ (inst.toNat + 262144 - (cEvcnt ws + nat1 busy)) % 262144)
  let u : Upd := { ctx := c, instant := inst, past := past, image := img }
  ({ s with link := { s.link with updates := s.link.updates ++ [u] } }).calResult (if past then 6 else 0)

/-- A write to SEQ_CAL_CMD (R110). -/
def State.calCmd (s : State) (v : Word) : State :=
  if s.getB Port.SEQ_CAL_STAT 17 then s.setB Port.SEQ_CAL_STAT 16 true else
  if v = 1 then s.calInsert else if v = 2 then s.calRemove else if v = 3 then s.calUpdate else s

/-! ## Context commands (R192) -/

/-- Contexts belayed: those resident whose word 63 says so. -/
def State.belayed (s : State) : Nat :=
  ((List.range s.ctxSlots).filter fun k => bitOf (s.sramRd (s.slotWord k 63)) 11).length

/-- Finish a context command. -/
def State.ctxResult (s : State) (c r : Nat) : State :=
  let bel := decide (c < s.ctxTotal) && decide (s.ctxF c 63 11 11 = 1) && s.resident c
  (s.set Port.TRM_CTX_STAT (inFld 16 16 (s.getF Port.TRM_CTX_STAT 16 16) ||| inFld 15 15 (nat1 bel) |||
    inFld 14 12 r ||| (if r = 0 then inFld 11 0 (s.slotNo c - 1) else 0))).raise Irq.TRM_CTX_DONE

/-- BELAY of a resident context: FULL when half the slots are belayed. -/
def State.belayNow (s : State) (c : Nat) : State :=
  if s.ctxF c 63 11 11 = 1 then s.ctxResult c 0 else
  if s.ctxSlots ≤ 2 * s.belayed then s.ctxResult c 2 else ((s.setCtxF c 63 11 11 1).touch c).ctxResult c 0

/-- A write to TRM_CTX_CMD (R192). -/
def State.ctxCmd (s : State) (v : Word) : State :=
  if s.getB Port.TRM_CTX_STAT 17 then s.setB Port.TRM_CTX_STAT 16 true else
  let c := s.getF Port.TRM_CTX_ARG 13 0
  if v = 1 then
    if s.ctxTotal ≤ c then s.ctxResult c 1 else if s.resident c then s.ctxResult c 0 else s.ctxResult c 5
  else if v = 2 then
    if s.ctxTotal ≤ c then s.ctxResult c 1 else
    if s.resident c then s.belayNow c else
    if s.dramUp = false then s.ctxResult c 3 else
    if s.ctxSlots ≤ 2 * s.belayed then s.ctxResult c 2 else
    ({ s with trim := { s.trim with belayWait := some c } }.setB Port.TRM_CTX_STAT 17 true).startFetch c
  else if v = 3 then
    if s.ctxTotal ≤ c then s.ctxResult c 1 else
    if s.resident c && decide (s.ctxF c 63 11 11 = 1) then (s.setCtxF c 63 11 11 0).ctxResult c 0 else s.ctxResult c 4
  else s

/-- A fetched context goes on with the command that waits for it (R192, R193). -/
def State.swapThen (s : State) (c : Nat) : State :=
  let t := s.swapDone c
  if t.resident c = false then t else
  let t1 := if t.link.insertWait = some c then ({ t with link := { t.link with insertWait := none } }).insertNow c else t
  if t1.trim.belayWait = some c then ({ t1 with trim := { t1.trim with belayWait := none } }).belayNow c else t1

/-! ## Faults (R70, R107, R194, R195) -/

/-- Tag both nonets of a payload word of a packet. -/
def State.tagPay (s : State) (p : Pkt) (i : Nat) : State :=
  match p.payCell i with
  | .sram c => s.sramWr (s.cellAddr c (i % 8)) (s.cellWord (.sram c) (i % 8) ||| lostWord)
  | _ => s

/-- The recovery read of a lane's held packets: every word whose ECC check fails has both nonets tagged, the word of the
first packet whose read met the error among them; which words those are is open (R194, log entry 17). -/
def State.tagHeld (s : State) (l : Nat) : State :=
  let words := (indexed (s.lane l).stage).flatMap fun g =>
    (List.range ((g.2.pkt.len + 1) / 2)).map fun i => (g.1, g.2.pkt, i)
  let n0 := (words.filter fun w => decide (w.1 = 0)).length
  let met := s.freeNat % max 1 n0
  let bad := (indexed words).filter fun x => (decide (x.2.1 = 0) && decide (x.2.2.2 = met)) || Config.freeBit (s.free + 1 + x.1)
  let t := forEach bad (fun x t => t.tagPay x.2.2.1 x.2.2.2) s
  { t with free := s.free + 1 + words.length }

/-- A context's event moves from a faulted lane to another (R181, R194): results the old lane holds open an entry. -/
def State.moveLane (s : State) (c l n : Nat) : State :=
  let t := if s.ctxF c 63 9 4 = l then s.leaveLane c l else s
  t.updCal c fun e => { e with lane := swapUnit l n e.lane, after := e.after.map fun f => { f with lane := swapUnit l n f.lane } }

/-- Move an event in progress from a faulted lane to another, which takes up its listening (R194). -/
def State.moveEvent (s : State) (q l n : Nat) : State :=
  match s.event q with
  | none => s
  | some e =>
    let t := ((s.moveLane e.ctx l n).setEvent q (some { e with lane := some n })).setCtxF e.ctx 63 9 4 n
    if (s.lane l).seq = some q ∧ t.seqState q ≠ 7 then t.seqStartLane q
    else t.seqLane { e with lane := some n } n

/-- A lane's packet lasts longer than the air time of its PHY's longest frame under MAXLEN, 0 the longest the PHY has
(R70). -/
def State.overlong (s : State) (l : Nat) : Bool :=
  match (s.lane l).pkt with
  | some lp =>
    let p := if s.lanePhy l = 2 then lp.meas.phy.toNat else s.lanePhy l
    let m := s.getF (Port.LAN_LIM l) 9 0
    let n := if m = 0 then (if phyIsLe p then 255 else 1023) else m
    timeLt (lp.ts + ticks (frameTicks p n - syncTicks p)) s.time.link
  | none => false

/-- A faulted lane keeps its delivery stage alone. -/
def State.laneOff (s : State) (l : Nat) : State := s.updLane l fun x =>
  { x with seq := none, slot := none, entries := [], helper := none, stopReq := false, discarding := false, badReq := false }

/-- A lane faults (R70, R194): its packet closes with TRUNC and LANE_FAULT, a spare or other eligible lanes take its
events, and its sequencer goes on when the length field was received.  (DEDUCED, log entry 98.) -/
def State.laneFault (s : State) (l : Nat) (kind : LaneFaultKind) : State :=
  if s.laneRole l = 0 ∨ s.laneRole l = 5 ∨ (kind = .length ∧ s.overlong l = false) then s else
  let hadLen := match (s.lane l).pkt with
    | some p => p.lenSeen.isSome
    | none => true
  let seq := (List.range 16).find? fun q => match s.event q with
    | some e => e.loaded && decide (e.lane = some l) && decide (s.seqState q ≠ 7)
    | none => false
  let had := s.receiving l && decide ((s.lane l).seq = seq) && seq.isSome
  let link := decide (s.laneRole l = 1)
  let t0 := match (s.lane l).pkt with
    | some lp => s.laneCut l false true (s.cutDeliver l lp)
    | none => s
  let t1 := ((t0.setB (Port.LAN_STAT l) 0 true).setLaneRole l 5).setLaneState l 0
  let t2 := if kind = .bufferEcc then t1.tagHeld l else t1
  let t3 := t2.raise Irq.LANE_FAULT
  if link = false then t3.laneOff l else
  let spare := t3.spareLane
  let t4 := match spare with
    | some n => t3.setLaneRole n 1
    | none => t3
  let t5 := match seq with
    | some q => match t4.event q with
      | some e =>
        let fresh := match spare with
          | some n => some n
          | none => (t4.setEvent q none).pickLane e.ctx
        match fresh with
        | some n =>
          let u := t4.moveEvent q l n
          if had then (if hadLen then u.seqBad q s.time.link else u.endEvent q 8) else u
        | none => t4.endEvent q 8
      | none => t4
    | none => t4
  let moved := forEach (t5.assignedTo (64 + l)) (fun c t => match spare with
    | some n => t.moveLane c l n
    | none => t.assignAnew c) (t5.laneOff l)
  (moved.count Port.TRM_FAULTMIG).servePending

/-- A write to SEQ_n_CMD: TEST of a faulted sequencer (R107). -/
def State.seqCmd (s : State) (q : Nat) (v : Word) : State :=
  if v = 1 ∧ s.getF (Port.SEQ_STAT q) 17 15 = 3 then
    { s with link := { s.link with seqTesting := Cells.wr (fun _ => 0) s.link.seqTesting q 1 } }
  else s

/-- A self-test of a sequencer ends (R107). -/
def State.seqTestEnd (s : State) (q : Nat) (pass : Bool) : State :=
  if Cells.rd (fun _ => 0) s.link.seqTesting q = 0 then s else
  let t := { s with link := { s.link with seqTesting := Cells.wr (fun _ => 0) s.link.seqTesting q 0 } }
  if pass then (t.setB (Port.SEQ_STAT q) 0 false).setF (Port.SEQ_STAT q) 17 15 2 else t

/-- A self-test of a lane ends (R70). -/
def State.laneTestEnd (s : State) (l : Nat) (pass : Bool) : State :=
  if (s.lane l).testing = false then s else
  let t := s.updLane l fun x => { x with testing := false }
  if pass then (t.setB (Port.LAN_STAT l) 0 false).setLaneRole l 3 else t

/-! ## Computed registers -/

/-- SEQ and TRM registers that follow from the calendar and trim. -/
def State.seqView (s : State) (p : Nat) : Word :=
  if p = Port.SEQ_CAL_STAT then withFld (s.get p) 11 0 s.calCount
  else if p = Port.SEQ_UPD_STAT then inFld 6 0 s.link.updates.length
  else if p = Port.SEQ_SRCH_STAT then inFld 15 5 s.link.searchWait.length ||| inFld 4 0 s.searchers.length
  else if p = Port.TRM_STAT then inFld 17 15 s.dramCode ||| inFld 11 6 s.entries.length
  else if p = Port.TRM_RESIDENT then
    inFld 11 0 ((List.range s.ctxSlots).filter fun k => decide (s.occupantOf k ≠ 0)).length
  else if p = Port.TRM_BELAYED then inFld 11 0 s.belayed
  else s.get p

end Sys2Proof.Machine
end

