-- ==== Sys2Proof/Machine/Utvis.lean ====
section
/-! DEFINITION. Utvis line and link layer (R245-R254, R271): frames, hop acknowledgement, credit, egress and routing,
and the records, mirrors and copies that the device sends (R263, R266, R269). -/

namespace Sys2Proof.Machine

open Sys2Proof

/-! ## The stack -/

/-- ROLE of the Rig's STACK section; 0 is a lone device (R36, R252). -/
def State.stackRole (s : State) : Nat := if s.rig.words.isEmpty then 0 else s.rigF 11 0 2 0

/-- SIZE, and N = SIZE + 1. -/
def State.stackSize (s : State) : Nat := s.rigF 11 0 5 3
def State.ringN (s : State) : Nat := s.stackSize + 1

/-- POS, ROLE and TSTATE of UTV_STAT. -/
def State.utvPos (s : State) : Nat := s.getF Port.UTV_STAT 14 12
def State.utvRole (s : State) : Nat := s.getF Port.UTV_STAT 17 15
def State.setUtvRole (s : State) (v : Nat) : State := s.setF Port.UTV_STAT 17 15 v
def State.tstate (s : State) : Nat := s.getF Port.UTV_STAT 8 6
def State.setTstate (s : State) (v : Nat) : State := s.setF Port.UTV_STAT 8 6 v

/-- LSTATE of a port: 0 OFF, 1 DOWN, 2 DELAY, 3 HELLO, 4 UP, 5 ACTIVE, 6 FAULT (R252). -/
def State.lstate (s : State) (p : Nat) : Nat := s.getF (Port.UTV_P_STAT p) 17 15
def State.setLstate (s : State) (p v : Nat) : State := s.setF (Port.UTV_P_STAT p) 17 15 v

/-- Change a port's hidden state. -/
def State.updPort (s : State) (p : Nat) (f : UPort → UPort) : State := s.setUport p (f (s.uport p))

/-- Change the stack's hidden state. -/
def State.updUtv (s : State) (f : Utvis → Utvis) : State := { s with utv := f s.utv }

/-! ## Frames (R248, R249) -/

def fType (f : UFrame) : Nat := fld (f.words.getD 0 0) 17 15
def fSrc (f : UFrame) : Nat := fld (f.words.getD 0 0) 14 12
def fDst (f : UFrame) : Nat := fld (f.words.getD 0 0) 11 9
def fHseq (f : UFrame) : Nat := fld (f.words.getD 0 0) 5 0
def fPseq (f : UFrame) : Nat := fld (f.words.getD 1 0) 17 6
def fTag (f : UFrame) : Nat := fld (f.words.getD 2 0) 13 0
def fFinal (f : UFrame) : Bool := bitOf (f.words.getD 3 0) 17
def fTxEmpty (f : UFrame) : Bool := bitOf (f.words.getD 3 0) 16
def fNgrp (f : UFrame) : Nat := fld (f.words.getD 3 0) 11 0
/-- Body words of a frame. -/
def fBody (f : UFrame) : List Word := f.words.drop 4

/-- Octets of words in groups of four. -/
def groupOctets : List Word → List Octet
  | a :: b :: c :: d :: r => octetsBE 9 (((a.toNat * 2 ^ 18 + b.toNat) * 2 ^ 18 + c.toNat) * 2 ^ 18 + d.toNat) ++ groupOctets r
  | _ => []

/-- The header's unused bits are zero: BCAST is SYNC's, PSEQ and TAG are those of the types that have them, DATA's TAG has
seven bits, FLAGS are SHADOW's (R249). -/
def headerOk (f : UFrame) : Bool :=
  let w := fun i => f.words.getD i 0
  let ty := fType f
  decide (fld (w 0) 7 6 = 0) && (decide (ty = 4) || decide (fld (w 0) 8 8 = 0)) &&
    decide (fld (w 1) 5 0 = 0) && (decide (ty ≤ 3) || decide (fld (w 1) 17 6 = 0)) &&
    decide (fld (w 2) 17 14 = 0) &&
      (if ty = 0 then decide (fld (w 2) 13 7 = 0) else decide (ty ≤ 3) || decide (fld (w 2) 13 0 = 0)) &&
    decide (fld (w 3) 17 12 = 0 ∨ (ty = 2 ∧ fld (w 3) 15 12 = 0))

/-- The body has the groups its type gives it, its unused bits zero (R199, R249, R252, R256, R266). -/
def bodyOk (f : UFrame) : Bool :=
  let b := fun i => (f.words.drop 4).getD i 0
  let ty := fType f
  if ty = 2 then decide (fNgrp f = 16) && decide (fld (b 63) 17 12 = 0)
  else if ty = 4 then decide (fNgrp f = 2) && decide (fld (b 4) 12 12 = 0) && decide (fld (b 4) 8 8 = 0) &&
    decide (b 6 = 0) && decide (b 7 = 0)
  else if ty = 5 then decide (fNgrp f = 1) && decide (fld (b 0) 17 12 = 0) &&
    decide (b 1 = 0) && decide (b 2 = 0) && decide (b 3 = 0)
  else if ty = 6 then decide (fNgrp f = 1) && decide (b 0 = inFld 14 12 (fld (b 0) 14 12) ||| inFld 8 6 (fld (b 0) 8 6)) &&
    decide (fld (b 2) 17 14 = 0) && decide (b 3 = 0)
  else true

/-- A frame is good: no line error, a type the table gives, reserved bits zero, NGRP its length, and its CRC (R249).
(DEDUCED, log entry 120.) -/
def frameOk (f : UFrame) : Bool :=
  f.lineOk && decide (fType f ≠ 7) && decide (fNgrp f ≤ 2050) && decide (f.words.length = 4 * (1 + fNgrp f)) &&
    headerOk f && bodyOk f && decide (crc32c (groupOctets f.words) = f.crc)

/-- A frame with its CRC. -/
def sealFrame (ws : List Word) : UFrame := { words := ws, crc := crc32c (groupOctets ws), lineOk := true }

/-- Words padded with zero words to whole groups. -/
def padGroups (ws : List Word) : List Word := ws ++ List.replicate ((4 - ws.length % 4) % 4) 0

/-- A frame of a type from this device, its sequence numbers still 0. -/
def State.mkFrame (s : State) (ty dst tag flags : Nat) (bcast : Bool) (body : List Word) : UFrame :=
  let b := padGroups body
  sealFrame ([inFld 17 15 ty ||| inFld 14 12 s.utvPos ||| inFld 11 9 dst ||| inFld 8 8 (nat1 bcast), 0, inFld 13 0 tag,
    inFld 17 12 flags ||| inFld 11 0 (b.length / 4)] ++ b)

/-- Groups of a frame. -/
def fGroups (f : UFrame) : Nat := f.words.length / 4

/-- A frame carries a pair sequence number (R249). -/
def fPaired (f : UFrame) : Bool := decide (fType f ≤ 3)

/-- A frame with HSEQ, and PSEQ, put in. -/
def withSeqs (f : UFrame) (hseq : Nat) (pseq : Option Nat) : UFrame :=
  let w0 := withFld (f.words.getD 0 0) 5 0 hseq
  let w1 := match pseq with
    | some n => withFld (f.words.getD 1 0) 17 6 n
    | none => f.words.getD 1 0
  sealFrame ((f.words.set 0 w0).set 1 w1)

/-! ## Reachability and ways (R245) -/

/-- The link millisecond. -/
def State.linkMs (s : State) : Nat := s.time.link.toNat / 16000

/-- A position was heard on a port within the last two periods. -/
def State.heardOn (s : State) (p d : Nat) : Bool :=
  let h := Cells.rd (fun _ => 0) s.utv.heard (8 * p + d)
  decide (h ≠ 0) && decide (s.linkMs < h + 1)

/-- A position is heard on a port now. -/
def State.hear (s : State) (p d : Nat) : State :=
  s.updUtv fun u => { u with heard := Cells.wr (fun _ => 0) u.heard (8 * p + d) (s.linkMs + 1),
                             unreach := Cells.wr (fun _ => 0) u.unreach d 0 }

/-- The port out of which frames to a position leave; none while it is heard on neither. -/
def State.wayTo (s : State) (d : Nat) : Option Nat :=
  let n := s.ringN
  let fwd := (d + n - s.utvPos) % n
  let pref := if fwd ≤ n - fwd then 0 else 1
  if s.heardOn pref d then some pref else if s.heardOn (1 - pref) d then some (1 - pref) else none

/-- UTV_UNREACH once per loss. -/
def State.noteUnreach (s : State) (d : Nat) : State :=
  if Cells.rd (fun _ => 0) s.utv.unreach d = 1 then s else
  (s.updUtv fun u => { u with unreach := Cells.wr (fun _ => 0) u.unreach d 1 }).raise Irq.UTV_UNREACH

/-! ## What the device sends of its own -/

/-- DATA, COPY and MIRROR body of a packet. -/
def State.packetBody (s : State) (p : Pkt) : List Word :=
  s.header p ++ (List.range ((p.len + 1) / 2)).map (s.payWord p)

/-- Queue a frame of SHADOW, MIRROR or COPY type. -/
def State.post (s : State) (f : UFrame) : State :=
  if s.domOn 13 then s.updUtv fun u => { u with outbox := u.outbox ++ [f] } else s

/-- A context is shadowed by its owner (R265). -/
def State.shadowed (s : State) (c : Nat) : Bool :=
  s.domOn 13 && decide (s.stackRole ≠ 0) && decide (s.rigF 11 0 9 9 = 1) && s.getB Port.UTV_SH_CFG 17 &&
    decide (c < s.getF Port.UTV_SH_COUNT 13 0) &&
    (match s.cal c with
     | some e => decide (e.kind = 1) || decide (e.kind = 4)
     | none => false)

/-- A context is widened by its owner: the Rig's WIDEN is 1, the device's own standing for the masthead's (R261, R263;
DEDUCED, log entry 153). -/
def State.widened (s : State) (c : Nat) : Bool :=
  s.domOn 13 && decide (s.stackRole ≠ 0) && decide (s.rigF 11 0 6 6 = 1) && s.getB Port.UTV_WIDE_CFG 17 &&
    decide (c < s.getF Port.UTV_WIDE_COUNT 13 0) &&
    (s.cal c).isSome

/-- The positions a context's records go to: its shadow, and its helpers. -/
def State.recordTo (s : State) (c : Nat) : List Nat :=
  let sp := s.getF Port.UTV_SH_CFG 14 12
  let sh := if s.shadowed c then [sp] else []
  sh ++ ((List.range 8).filter fun d => s.widened c && s.getB Port.UTV_WIDE_CFG d && decide (sh ≠ [d]))

/-- Send a context's SHADOW record to positions (R266). -/
def State.sendRecordTo (s : State) (dsts : List Nat) (c : Nat) (final : Bool) : State :=
  if dsts.isEmpty then s else
  let ret := Cells.rd (fun _ => 0) s.utv.retire c
  let body := (s.ctxWords c).take 63 ++ [inFld 11 0 ret]
  let flags := 32 * nat1 final + 16 * nat1 (s.queue (s.ctxF c 1 13 7)).isEmpty
  let t := forEach dsts (fun d t => t.post (s.mkFrame 2 d c flags false body)) s
  t.updUtv fun u => { u with retire := Cells.wr (fun _ => 0) u.retire c 0 }

/-- Send a context's SHADOW record to its shadow and helpers (R263, R266). -/
def State.sendRecord (s : State) (c : Nat) (final : Bool) : State := s.sendRecordTo (s.recordTo c) c final

/-- A packet was committed to a queue: each shadowed context whose TXQ it is sends a MIRROR frame and a record (R266). -/
def State.afterCommit (s : State) (q : Nat) : State :=
  if (s.domOn 13 && (s.getB Port.UTV_SH_CFG 17 || s.getB Port.UTV_WIDE_CFG 17)) = false then s else
  forEach (s.calContexts.filter fun c => decide (s.ctxF c 1 13 7 = q) && !(s.recordTo c).isEmpty) (fun c t =>
    let u := if t.shadowed c then match (t.queue q).getLast? with
        | some p => t.post (t.mkFrame 3 (t.getF Port.UTV_SH_CFG 14 12) c 0 false (t.packetBody p))
        | none => t
      else t
    u.sendRecord c false) s

/-- After a CLOSE: frames retired are counted, the record goes out, and a handover sends FINAL and ends the context
with STATE 5 (R266, R269).  `dsts`: where the context's records went before the CLOSE, which may itself have ended the
context. -/
def State.afterClose (s : State) (c retired : Nat) (dsts : List Nat) : State :=
  let t := if dsts.isEmpty then s else
      s.updUtv fun u => { u with retire := Cells.wr (fun _ => 0) u.retire c (Cells.rd (fun _ => 0) u.retire c + retired) }
  if c ∈ t.link.finals then
    let u := t.sendRecordTo dsts c true
    let v := { u with link := { u.link with finals := u.link.finals.filter (· ≠ c) } }
    ((v.leaveCalendar c).setCtxF c 0 8 6 5).slotFreed
  else t.sendRecordTo dsts c false

/-! ## Sending (R250, R251, R254) -/

/-- Groups a port may still send: the peer's buffer is 2,560 groups. -/
def State.creditLeft (s : State) (p : Nat) : Nat :=
  let u := s.uport p
  2560 - (u.used - u.credit).toNat

/-- Frames of a queue already sent and not acknowledged, on either port. -/
def State.inFlight (s : State) (q : Nat) : Nat :=
  ((s.uport 0).unacked.filter fun x => decide (x.2.2 = q + 1)).length +
    ((s.uport 1).unacked.filter fun x => decide (x.2.2 = q + 1)).length +
    (s.utv.redo.filter fun x => decide (x.2 = q + 1)).length

/-- The next DATA frame to a destination, and its queue + 1: the first packet of the egress queue not yet sent, its
cells in SRAM. -/
def State.dataTo (s : State) (d : Nat) : Option (UFrame × Nat) :=
  let w := s.get (Port.UTV_DEST d)
  let q := fld w 6 0
  if bitOf w 7 && s.queueUp q && decide (s.queueOwner q = 3) then
    match (s.queue q).drop (s.inFlight q) with
    | [] => none
    | k :: _ => if k.allNear then some (s.mkFrame 0 d (fld (s.headerWord k 1) 6 0) 0 false (s.packetBody k), q + 1) else none
  else none

/-- The next local frame to a destination, its queue + 1 and whether it is sent the first time: a frame of a fallen
port, then a posted frame, then a packet. -/
def State.localTo (s : State) (d : Nat) : Option (UFrame × Nat × Bool) :=
  match s.utv.redo.find? fun x => decide (fDst x.1 = d) with
  | some x => some (x.1, x.2, false)
  | none => match s.utv.outbox.find? fun f => decide (fDst f = d) with
    | some f => some (f, 0, true)
    | none => (s.dataTo d).map fun x => (x.1, x.2, true)

/-- The local frame a port sends next, destinations in turn. -/
def State.localNext (s : State) (p : Nat) : Option (UFrame × Nat × Bool) :=
  ((List.range 8).map fun i => ((s.uport p).turn + 1 + i) % 8).findSome? fun d =>
    if s.wayTo d = some p then s.localTo d else none

/-- Put a frame on the line: it takes the next HSEQ and its groups' credit, and waits for its ACK. -/
def State.launch (s : State) (p : Nat) (f : UFrame) (q : Nat) (fresh : Bool) : State :=
  let d := fDst f
  let n := Cells.rd (fun _ => 0) s.utv.pseqOut d
  let own := fresh && fPaired f
  let g := withSeqs f (s.uport p).txHseq.toNat (if own then some n else none)
  let t := s.updPort p fun u => { u with txHseq := u.txHseq + 1, used := u.used + BitVec.ofNat 16 (fGroups f),
                                         unacked := u.unacked ++ [(g, 1, q)] }
  if own then t.updUtv fun u => { u with pseqOut := Cells.wr (fun _ => 0) u.pseqOut d ((n + 1) % 4096) } else t

/-- Room for a frame: credit, and fewer than 32 unacknowledged. -/
def State.roomFor (s : State) (p : Nat) (f : UFrame) : Bool :=
  decide (fGroups f ≤ s.creditLeft p) && decide ((s.uport p).unacked.length < 32)

/-- Frames wait for a position that is heard on neither port. -/
def State.unreachable (s : State) : List Nat :=
  (List.range 8).filter fun d => decide (d ≠ s.utvPos) && decide (d < s.ringN) && (s.wayTo d).isNone && (s.localTo d).isSome

/-- UTV_UNREACH for the positions that frames wait for and that are heard on neither port (R245). -/
def State.noteLosses (s : State) : State := if s.domOn 13 then forEach s.unreachable (fun d t => t.noteUnreach d) s else s

/-- A transit frame leaves a port's buffer: its groups are freed at the port it arrived on, unless that port fell since
(R251). -/
def State.transitGone (s : State) (p : Nat) (f : UFrame) (r : List UFrame) : State :=
  let t := s.updPort p fun u => { u with transit := r, oldTr := u.oldTr - 1 }
  if (s.uport p).oldTr = 0 then t.updPort (1 - p) fun u => { u with freed := u.freed + BitVec.ofNat 16 (fGroups f) } else t

/-- At a frame boundary the port sends a transit frame, else SYNC or LOAD, else a local frame (R251). -/
def State.egressSend (s0 : State) (p : Nat) : State :=
  let s := s0.noteLosses
  if s.lstate p ≠ 5 then s else
  match (s.uport p).transit with
  | f :: r => if s.roomFor p f then (s.transitGone p f r).launch p f 0 false else s
  | [] => match (s.uport p).syncs with
    | f :: r => if s.roomFor p f then (s.updPort p fun u => { u with syncs := r }).launch p f 0 false else s
    | [] =>
      let t := s
      match t.localNext p with
      | some (f, q, fresh) =>
        if t.roomFor p f then
          let data := fresh && decide (q ≠ 0)
          let u := if fresh = false then t.updUtv fun x => { x with redo := x.redo.erase (f, q) }
            else if q = 0 then t.updUtv fun x => { x with outbox := x.outbox.erase f }
            else t.readQueued (q - 1) (t.inFlight (q - 1))
          let g := if data then ((t.followAt (q - 1) (t.inFlight (q - 1))).dataTo (fDst f)).elim f (·.1) else f
          (u.launch p g q fresh).updPort p fun x => { x with turn := fDst f }
        else t
      | none => t

/-- Resend every unacknowledged frame of a port, in order (R250). -/
def State.resend (s : State) (p : Nat) : State :=
  let l := (s.uport p).unacked
  let t := s.updPort p fun u => { u with unacked := l.map fun x => (x.1, x.2.1 + 1, x.2.2) }
  t.set (Port.UTV_P_RETRYCNT p) (BitVec.ofNat 18 (satAdd 262143 (t.get (Port.UTV_P_RETRYCNT p)).toNat l.length))

/-- A frame of a port was sent 8 times. -/
def State.exhausted (s : State) (p : Nat) : Bool := (s.uport p).unacked.any fun x => decide (8 ≤ x.2.1)

/-- A port leaves the ACTIVE state: its transit buffer, freed at the port the frames arrived on, and its unacknowledged
transit frames are discarded; the device's own unacknowledged frames are sent again, at once or by the other way; frames it
accepted stay, and hop numbers and credit begin anew.  (DEDUCED, log entry 122.) -/
def State.portDrop (s : State) (p : Nat) : State :=
  let u := s.uport p
  let mine := u.unacked.filter fun x => decide (fSrc x.1 = s.utvPos)
  let gone := ((u.transit.drop u.oldTr).map fGroups).sum
  let t := ((s.updPort p fun u =>
    { UPort.down with burst := u.burst, burstEnd := u.burstEnd, turn := u.turn, inbox := u.inbox, oldIn := u.inbox.length,
                      stuck := u.stuck, syncs := ((mine.filter fun x => !fPaired x.1).map (·.1)) ++
                        u.syncs.filter fun f => decide (fSrc f = s.utvPos) }).updUtv
      fun x => { x with redo := x.redo ++ ((mine.filter fun x => fPaired x.1).map fun y => (y.1, y.2.2)) }).updPort (1 - p)
      fun u => { u with freed := u.freed + BitVec.ofNat 16 gone, oldTr := u.transit.length }
  t.setB (Port.UTV_P_STAT p) 11 false

/-- An ACTIVE port falls to DOWN (R252). -/
def State.portDown (s : State) (p : Nat) : State :=
  (((s.portDrop p).setLstate p 1).count (Port.UTV_P_DOWNCNT p)).raise Irq.UTV_LINK

/-- A frame is covered by a cumulative ACK of HSEQ `h`: it and every older unacknowledged frame. -/
def ackSplit (h : Nat) (l : List (UFrame × Nat × Nat)) : List (UFrame × Nat × Nat) × List (UFrame × Nat × Nat) :=
  match l.findIdx? fun x => decide (fHseq x.1 = h) with
  | some i => (l.take (i + 1), l.drop (i + 1))
  | none => ([], l)

/-- An ACK: covered frames leave, packets of egress queues are retired, and the credit is the peer's (R250, R251, R254). -/
def State.ackIn (s : State) (p : Nat) (h : Nat) (credit : BitVec 16) : State :=
  if s.lstate p ≠ 5 then s else
  let x := ackSplit h (s.uport p).unacked
  let t := s.updPort p fun u => { u with unacked := x.2, credit := credit }
  forEach x.1 (fun y t => if y.2.2 = 0 then t else t.dropHead (y.2.2 - 1)) t

/-- A NAK, or 20 µs without an ACK: resend from the oldest; a frame that was sent 8 times takes the port down (R250).
(DEDUCED, log entry 126.) -/
def State.nakIn (s : State) (p : Nat) (counted : Bool) : State :=
  if s.lstate p ≠ 5 then s else
  let t := (if counted then s.count (Port.UTV_P_NAKCNT p) else s)
  if (t.uport p).unacked.isEmpty then t else if t.exhausted p then t.portDown p else t.resend p

/-! ## Training (R252) -/

/-- CTRL EN and PD_UTVIS decide OFF and DOWN; a lone device's ports stay OFF. -/
def State.portEnable (s : State) (p : Nat) : State :=
  let on := s.domOn 13 && (!s.rig.applied || (s.getB (Port.UTV_P_CTRL p) 0 && decide (s.stackRole ≠ 0)))
  if on then (if s.lstate p = 0 then s.setLstate p 1 else s)
  else (if s.lstate p = 5 then s.portDrop p else s).setLstate p 0

def State.symbolLock (s : State) (p : Nat) : State := if s.lstate p = 1 then s.setLstate p 2 else s

/-- Delay exchanges done: DELAY is set; a port without an accepted Rig goes on only once the Rig is applied (R40). -/
def State.delayDone (s : State) (p : Nat) (d : BitVec 12) : State :=
  if s.lstate p = 2 then (s.set (Port.UTV_P_DELAY p) (d.setWidth 18)).setLstate p 3 else s

/-- CHECK of a HELLO: the first four octets of AES-CMAC under the stack key of "UTVIS" (R252). -/
def State.helloCheck (s : State) : Nat :=
  let k := s.keySlot (s.rigF 11 1 5 0)
  let key := octetsBE (if k.k256 then 32 else 16) (if k.k256 then k.key.toNat else k.key.toNat / 2 ^ 128)
  natLE ((aesCmac key [0x55, 0x54, 0x56, 0x49, 0x53]).take 4)

/-- A HELLO is checked (R252); before a Rig is applied received frames are discarded (R40).  (DEDUCED, log entry 119.)
-/
def State.helloIn (s : State) (p : Nat) (f : UFrame) : State :=
  if s.lstate p ≠ 3 ∨ s.rig.applied = false then s else
  if (frameOk f && decide (fType f = 6) && decide (fNgrp f = 1)) = false then s.updPort p fun u => { u with answer := 2 } else
  let b := fBody f
  let n := s.ringN
  let pos := fld (b.getD 0 0) 14 12
  let want := if p = 0 then (s.utvPos + 1) % n else (s.utvPos + n - 1) % n
  let t := (s.updPort p fun u => { u with answer := 1 }).setF (Port.UTV_P_STAT p) 14 12 pos
  if pos ≠ want ∨ fld (b.getD 0 0) 8 6 ≠ s.stackSize then (t.setB (Port.UTV_P_STAT p) 9 true).setLstate p 6 else
  if (b.getD 1 0).toNat + 262144 * fld (b.getD 2 0) 13 0 ≠ s.helloCheck then
    (t.setB (Port.UTV_P_STAT p) 10 true).setLstate p 6
  else t.setLstate p 4

/-- IDLE_R from both sides (R252, R255, R257): a member that was not yet in time waits for a sync. -/
def State.portUpNow (s : State) (p : Nat) : State :=
  if s.lstate p ≠ 4 then s else
  let t := (s.setLstate p 5).setB (Port.UTV_P_STAT p) 11 true
  if t.utv.started then t else
  (t.updUtv fun u => { u with started := true, lastSync := s.time.link }).setTstate 1

/-- CMD RETRAIN. -/
def State.retrain (s : State) (p : Nat) : State :=
  if s.lstate p = 6 then ((s.setB (Port.UTV_P_STAT p) 9 false).setB (Port.UTV_P_STAT p) 10 false).setLstate p 1 else s

/-- An ACTIVE port falls (R252): four symbol errors, or silence, or a frame sent 8 times. -/
def State.linkFalls (s : State) (p : Nat) (why : DownWhy) : State :=
  if s.lstate p ≠ 5 then s else
  match why with
  | .symbolErrors => (s.set (Port.UTV_P_CODEERR p)
      (BitVec.ofNat 18 (satAdd 262143 (s.get (Port.UTV_P_CODEERR p)).toNat 4))).portDown p
  | .silence => s.portDown p
  | .retries => if s.exhausted p then s.portDown p else s

/-- The delay measured again on an ACTIVE port. -/
def State.delayAgain (s : State) (p : Nat) (d : BitVec 12) : State :=
  if s.lstate p = 5 then s.set (Port.UTV_P_DELAY p) (d.setWidth 18) else s

/-! ## Wake (R271) -/

/-- Send a wake burst on a port: 20 µs.  (DEDUCED, log entry 127.) -/
def State.burst (s : State) (p : Nat) : State :=
  s.updPort p fun u => { u with burst := false, burstEnd := s.time.link + 320 }

/-- A write to UTV_WAKE_CMD. -/
def State.wakeCmd (s : State) (v : Word) : State :=
  forNat 2 (fun p t => if bitOf v p then t.burst p else t) s

/-- Bursts owed since a wake by this source are sent once PD_UTVIS is restored. -/
def State.oweBursts (s : State) : State := forNat 2 (fun p t => if (t.uport p).burst then t.burst p else t) s

end Sys2Proof.Machine
end

