-- ==== Sys2Proof/Machine/Stack.lean ====
section
/-! DEFINITION. What arrives over Utvis: pair sequences (R241, R253), DATA, COPY, SHADOW, MIRROR, SYNC and LOAD frames
(R254-R269), the masthead and its relief (R255), time following (R256-R258), copy selection (R264), shadowing
(R265-R269) and helper listens (R263). -/

namespace Sys2Proof.Machine

open Sys2Proof

/-! ## Standby contexts (R265-R268) -/

def State.standbyOf (s : State) (c : Nat) : Standby := Cells.rd (fun _ => Standby.none) s.utv.standby c
def State.setStandby (s : State) (c : Nat) (x : Standby) : State :=
  s.updUtv fun u => { u with standby := Cells.wr (fun _ => Standby.none) u.standby c x }

/-- A source's standby contexts are held here. -/
def State.holdsFor (s : State) (src : Nat) : Bool :=
  decide (s.stackRole ≠ 0) && s.getB Port.UTV_SH_HOLD 17 && decide (s.getF Port.UTV_SH_HOLD 14 12 = src)

/-- A pair gap makes the READY standby contexts of its source STALE (R253). -/
def State.gapStale (s : State) (src : Nat) : State :=
  if s.holdsFor src then
    s.updUtv fun u => { u with standby := u.standby.map fun x => (x.1, if x.2 = .ready then .stale else x.2) }
  else s

/-- A standby context is taken over: INSERT, UTV_TAKEOVER (R267); one that the calendar refuses counts as lost.
(DEDUCED, log entry 123.) -/
def State.takeStandby (s : State) (c : Nat) : State :=
  match s.standbyOf c with
  | .ready =>
    let r := s.insertCtx c
    if r.1 = 0 then (r.2.setStandby c .taken).raise Irq.UTV_TAKEOVER
    else (s.setStandby c .none).count Port.UTV_SHLOST
  | .stale => (s.setStandby c .none).count Port.UTV_SHLOST
  | _ => s

/-- A sync shows PRESENT: the contexts of an owner whose bit is clear are taken over (R268). -/
def State.presence (s : State) (present : Nat) : State :=
  let t := s.setF Port.UTV_PRESENT 7 0 present
  if t.getB Port.UTV_SH_HOLD 17 && !(present.testBit (t.getF Port.UTV_SH_HOLD 14 12)) then
    forEach (t.utv.standby.map (·.1)) (fun c t => t.takeStandby c) t
  else t

/-- Write a record into a context, words 1 [13:0] kept for a standby context (R265, R266). -/
def State.writeRecord (s : State) (c : Nat) (ws : List Word) (standby : Bool) : State :=
  let old := s.ctxRd c 1
  let w1 := if standby then (ws.getD 1 0 &&& fieldMask 17 14) ||| (old &&& fieldMask 13 0) else ws.getD 1 0
  s.ctxWrs c 0 ((ws.take 63).set 1 w1)

/-- Remove frames from the head of a standby TXQ unsent. -/
def State.retireStandby (s : State) (q n : Nat) : State := forNat n (fun _ t => t.dropHead q) s

/-- Remove every packet of a queue. -/
def State.flushQueue (s : State) (q : Nat) : State := forNat (s.queue q).length (fun _ t => t.dropHead q) s

/-- A record reaches a standby context that is resident (R266, R267). -/
def State.standbyRecord (s : State) (c : Nat) (f : UFrame) : State :=
  let ws := fBody f
  let q := s.ctxF c 1 13 7
  let put := fun (s : State) => (s.writeRecord c ws true).retireStandby q (fld (ws.getD 63 0) 11 0)
  let st := fld (ws.getD 0 0) 8 6
  match s.standbyOf c with
  | .taken => s
  | .none => if fFinal f then s else (put s).setStandby c .stale
  | .stale =>
    if fFinal f then (put s).takeStandby c else
    if st = 4 ∨ st = 5 then (put s).setStandby c .none else
    if fTxEmpty f then ((put s).flushQueue q).setStandby c .ready else put s
  | .ready =>
    if fFinal f then
      let t := put s
      let late := timeLt (t.setupPoint (t.ctxWords c)) t.time.link
      (if late then t.count Port.UTV_SHLATE else t).takeStandby c
    else if st = 4 ∨ st = 5 then (put s).setStandby c .none else put s

/-- A SHADOW record is applied once its contexts are resident; none while one is away (R263, R265, R266). -/
def State.shadowIn (s : State) (f : UFrame) : Option State :=
  let src := fSrc f
  let n := fTag f
  let sb := s.getF Port.UTV_SH_BASE 13 0 + n
  let hb := s.getF Port.UTV_HELP_BASE 13 0 + n
  let hold := s.holdsFor src
  let help := decide (s.stackRole ≠ 0) && s.getB Port.UTV_HELP_CFG 17 && decide (s.getF Port.UTV_HELP_CFG 14 12 = src)
  let needS := hold && decide (sb < s.ctxTotal)
  let needH := help && decide (hb < s.ctxTotal)
  if (needS && !s.resident sb) || (needH && !s.resident hb) then none else
  let t := if hold && decide (s.ctxTotal ≤ sb) then s.count Port.UTV_SHNOENT else s
  let t1 := if needS then t.standbyRecord sb f else t
  some (if needH then (t1.writeRecord hb (fBody f) false).updUtv fun u => { u with listen := Cells.wr (fun _ => 0) u.listen hb 1 }
        else t1)

/-- The contexts a waiting record needs are fetched. -/
def State.shadowFetch (s : State) (f : UFrame) : State :=
  let sb := s.getF Port.UTV_SH_BASE 13 0 + fTag f
  let hb := s.getF Port.UTV_HELP_BASE 13 0 + fTag f
  let t := if s.holdsFor (fSrc f) && decide (sb < s.ctxTotal) then s.startFetch sb else s
  if t.getB Port.UTV_HELP_CFG 17 && decide (hb < t.ctxTotal) then t.startFetch hb else t

/-! ## Ingress (R241, R253, R254) -/

/-- The queue a DATA frame or its hole enters: the one it names, else DEFQ (R254). -/
def State.ingressQueue (s : State) (q : Nat) : Option Nat :=
  if s.queueUp q then some q else
  let w := s.get Port.UTV_DEFQ
  if bitOf w 7 && s.queueUp (fld w 6 0) then some (fld w 6 0) else none

/-- Commit the packet of a frame to a queue: H1 names Utvis and the source position for DATA (R254), and the Basin sets DMG
from the payload's tags (R205). -/
def State.commitFrame (s : State) (f : UFrame) (q : Nat) (data : Bool) : Option State :=
  let b := fBody f
  let len := fld (b.getD 0 0) 13 0
  let h1 := if data then inFld 17 15 6 ||| inFld 2 0 (fSrc f) else withBit (b.getD 1 0) 14 false
  let hdr := ((b ++ List.replicate 8 0).take 8).set 1 h1
  match s.buildPkt q hdr (nonetsOf len (b.drop 8)) 0 with
  | (some p, t) => some (((t.markDmg p).commitPkt q p).afterCommit q)
  | (none, _) => none

/-- A hole descriptor for a pair gap enters a queue when a cell is free for it; the frame waits till then (R241, R242). -/
def State.gapHole (s : State) (src q : Nat) : Option State :=
  match s.takeHole q with
  | (some c, t) => some (t.commitHole q (.sram c) 0 6 src t.time.link)
  | (none, _) => none

/-- PSEQ expected from a source. -/
def State.expected (s : State) (src : Nat) : Nat := Cells.rd (fun _ => 0) s.utv.pseqExp src
def State.setExpected (s : State) (src n : Nat) : State :=
  s.updUtv fun u => { u with pseqExp := Cells.wr (fun _ => 0) u.pseqExp src (n % 4096) }

/-- Why a frame is not delivered now. -/
inductive Ingress where
  | done (s : State)
  | wait                    -- no cell, or a context is being fetched
  | noQueue                 -- its queue is unconfigured and DEFQ is not valid

/-- A copy's own context, and the difference of timestamps that matches (R264). -/
def State.matchTol (s : State) : Nat := max 1 (s.getF Port.UTV_SEL 8 0)

/-- Timestamp of a body's header. -/
def bodyTs (b : List Word) : BitVec 54 := timeOf (b.getD 5 0) (b.getD 6 0) (b.getD 7 0)

/-- The copies of a context. -/
def State.copiesOf (s : State) (c : Nat) : List (List Word) := Cells.rd (fun _ => []) s.utv.copies c
def State.setCopies (s : State) (c : Nat) (l : List (List Word)) : State :=
  s.updUtv fun u => { u with copies := Cells.wr (fun _ => []) u.copies c l }

/-- A context has a packet on hold or in RECEIVE (R264). -/
def State.copyOpen (s : State) (c : Nat) : Bool :=
  (List.range 64).any fun l => ((s.lane l).stage.any fun g => g.hold && decide (g.ctx = some c)) ||
    (match (s.lane l).pkt with
     | some p => decide (p.ctx = some c)
     | none => false)

/-- A COPY frame: kept while its context has a packet on hold or in RECEIVE, else discarded (R264).  (DEDUCED, log
entry 124.) -/
def State.copyIn (s : State) (c : Nat) (b : List Word) : State :=
  if s.widened c && s.copyOpen c then s.setCopies c (s.copiesOf c ++ [b]) else s.count Port.UTV_SELDUP

/-- LOAD at the masthead (R199, R259). -/
def State.loadIn (s : State) (src : Nat) (b : List Word) : State :=
  if s.utvRole < 2 then s else
  let t := s.updUtv fun u => { u with loads := Cells.wr (fun _ => 0) u.loads src (Cells.rd (fun _ => 0) u.loads src ||| 1) }
  { t with trim := { t.trim with devOcc := Cells.wr (fun _ => 0) t.trim.devOcc src (fld (b.getD 0 0) 11 6),
                                 devFill := Cells.wr (fun _ => 0) t.trim.devFill src (fld (b.getD 0 0) 5 0),
                                 placeAdd := Cells.wr (fun _ => 0) t.trim.placeAdd src 0 } }

/-- A paired frame for this device whose number is the expected one is delivered by its type. -/
def State.deliverFrame (s : State) (f : UFrame) : Ingress :=
  let src := fSrc f
  let next := fun (t : State) => Ingress.done (t.setExpected src (fPseq f + 1))
  if fType f = 0 then
    match s.ingressQueue (fTag f % 128) with
    | none => .noQueue
    | some q => match s.commitFrame f q true with
      | some t => next t
      | none => .wait
  else if fType f = 1 then next (s.copyIn (fTag f) (fBody f))
  else if fType f = 2 then
    match s.shadowIn f with
    | some t => next t
    | none => .wait
  else
    let c := s.getF Port.UTV_SH_BASE 13 0 + fTag f
    if s.holdsFor src && decide (c < s.ctxTotal) && decide (s.standbyOf c ≠ .taken) then
      match s.commitFrame f (s.ctxF c 1 13 7) false with
      | some t => next t
      | none => .wait
    else next s

/-- A paired frame for this device (R241, R253): expected, later after one hole, or earlier and discarded. -/
def State.pairIn (s : State) (f : UFrame) : Ingress :=
  let src := fSrc f
  let d := (fPseq f + 4096 - s.expected src) % 4096
  if d = 0 then s.deliverFrame f else
  if 2048 ≤ d then .done (s.count (Port.UTV_STALECNT src)) else
  match (if fType f = 0 then s.ingressQueue (fTag f % 128) else s.ingressQueue 128) with
  | none => .noQueue
  | some q => match s.gapHole src q with
    | none => .wait
    | some t => (((t.count (Port.UTV_GAPCNT src)).gapStale src).setExpected src (fPseq f)).deliverFrame f

/-- The first waiting frame of a port is passed on, delivered, or waits (R251); a transit frame whose output port is not
ACTIVE, or whose own port fell before it was passed on, is discarded (R241, R252). -/
def State.inboxStep (s : State) (p : Nat) : Bool × State :=
  match (s.uport p).inbox with
  | [] => (false, s)
  | f :: r =>
    let pop := fun (t : State) (gone : Bool) => t.updPort p fun u =>
      { u with inbox := r, stuck := false, oldIn := u.oldIn - 1,
               freed := if gone && decide (u.oldIn = 0) then u.freed + BitVec.ofNat 16 (fGroups f) else u.freed }
    if fDst f ≠ s.utvPos then
      if s.lstate (1 - p) ≠ 5 ∨ (s.uport p).oldIn ≠ 0 then (true, pop s true)
      else (true, (pop s false).updPort (1 - p) fun u => { u with transit := u.transit ++ [f] })
    else if fType f = 5 then (true, pop (s.loadIn (fSrc f) (fBody f)) true)
    else match s.pairIn f with
      | .done t => (true, pop t true)
      | .wait => (false, if fType f = 2 then s.shadowFetch f else s)
      | .noQueue =>
        if (s.uport p).stuck then (false, s)
        else (false, (s.updPort p fun u => { u with stuck := true }).raise Irq.UTV_DQERR)

/-- Serve a port's waiting frames in order until one waits. -/
def State.serveInbox (s : State) (p : Nat) : Nat → State
  | 0 => s
  | n + 1 => let r := s.inboxStep p; if r.1 then r.2.serveInbox p n else r.2

/-- A frame arrives at a port (R250): good and in sequence, it is acknowledged; else a NAK discards it. -/
def State.hopIn (s : State) (p : Nat) (f : UFrame) : Bool × State :=
  if s.lstate p ≠ 5 then (false, s) else
  let t := if f.lineOk then s else s.count (Port.UTV_P_CODEERR p)
  if frameOk f && decide (fHseq f = (t.uport p).rxHseq.toNat) then
    (true, (t.updPort p fun u => { u with rxHseq := u.rxHseq + 1, answer := 1 }).hear p (fSrc f))
  else (false, t.updPort p fun u => { u with answer := 2 })

/-- A frame of types 0 to 3, or LOAD, arrives at a port. -/
def State.frameIn (s : State) (p : Nat) (f : UFrame) : State :=
  let r := s.hopIn p f
  if r.1 then
    let t := r.2.updPort p fun u => { u with inbox := u.inbox ++ [f] }
    t.serveInbox p (t.uport p).inbox.length
  else r.2.serveInbox p (r.2.uport p).inbox.length

/-- A frame that arrives as a given type: a good frame of another type is that type's own command. -/
def State.frameOfType (s : State) (ty p : Nat) (f : UFrame) : State :=
  if frameOk f && decide (fType f ≠ ty) then s else s.frameIn p f

/-! ## Load and scores (R199) -/

/-- KIND of a context: one in DRAM that was not fetched since the last reset arrives with KIND 0 (R189). -/
def State.kindOf (s : State) (c : Nat) : Nat :=
  if s.resident c || decide (Cells.rd (fun _ => 0) s.trim.fetched c = 1) then s.ctxF c 0 17 15 else 0

/-- FILL: the share of contexts that are not KIND 0, in 63rds. -/
def State.fillShare (s : State) : Nat :=
  if s.ctxTotal = 0 then 0 else
  ((List.range s.ctxTotal).filter fun c => decide (s.kindOf c ≠ 0)).length * 63 / s.ctxTotal

/-- OCC and FILL of the device. -/
def State.ownOcc (s : State) : Nat := s.getF Port.TRM_LOAD 11 6

/-- Score of a device from its terms and the contexts placed since its report. -/
def State.scoreOf (s : State) (d : Nat) : Nat :=
  let own := decide (d = s.utvPos)
  let occ := if own then s.ownOcc else Cells.rd (fun _ => 0) s.trim.devOcc d
  let fill := if own then s.fillShare else Cells.rd (fun _ => 0) s.trim.devFill d
  s.getF (Port.TRM_POL 2) 5 0 * occ +
    s.getF (Port.TRM_POL 3) 5 0 * min 63 (fill + Cells.rd (fun _ => 0) s.trim.placeAdd d)

/-- A device reported in the last sync period; the masthead itself always counts (R259). -/
def State.devValid (s : State) (d : Nat) : Bool :=
  decide (2 ≤ s.utvRole) && (decide (d = s.utvPos) || decide (2 ≤ Cells.rd (fun _ => 0) s.utv.loads d))

/-! ## Sync (R255-R259) -/

/-- PRESENT as the masthead sends it. -/
def State.presentBits (s : State) : Nat :=
  (List.range 8).foldl (fun a d =>
    if d = s.utvPos ∨ Cells.rd (fun _ => 0) s.utv.loads d ≠ 0 then a + 2 ^ d else a) 0

/-- The body of a SYNC (R256). -/
def syncBody (t : BitVec 54) (corr mpos : Nat) (relief handback : Bool) (hops present period : Nat) : List Word :=
  timeWords t ++ [BitVec.ofNat 18 corr,
    inFld 17 15 mpos ||| inFld 14 14 (nat1 relief) ||| inFld 13 13 (nat1 handback) ||| inFld 11 9 hops ||| inFld 7 0 present,
    BitVec.ofNat 18 period, 0, 0]

/-- Queue a SYNC or LOAD frame on a port. -/
def State.postSync (s : State) (p : Nat) (f : UFrame) : State :=
  if s.lstate p = 5 then s.updPort p fun u => { u with syncs := u.syncs ++ [f] } else s

/-- A device that takes the masthead role runs on its own REFCLK from the link time it has (R255, R257). -/
def State.takeRole (s : State) (role : Nat) : State :=
  ((s.setUtvRole role).setTstate 0).updUtv fun u =>
    { u with slew := 0, slewAcc := 0, trim := 0, trimAcc := 0, good := 0, backMs := 0 }

/-- Position 0 holds the role handed back from the period after the HANDBACK on (R255). -/
def State.takeBack (s : State) : State :=
  if s.utv.backMs ≠ 0 ∧ s.utv.backMs ≤ s.linkMs then s.takeRole 2 else s

/-- The masthead's own contexts placed since its last report count no more (R199). -/
def State.ownReport (s : State) : State :=
  { s with trim := { s.trim with placeAdd := Cells.wr (fun _ => 0) s.trim.placeAdd s.utvPos 0 } }

/-- The masthead's sync of a millisecond (R256); a relief device that hands back returns to standby (R255). -/
def State.syncOut (s0 : State) : State :=
  let s := s0.takeBack
  if s.utvRole < 2 ∨ s.linkMs ≤ s.utv.sentMs then s else
  let present := s.presentBits
  let n := (s.utv.period + 1) % 262144
  let relief := decide (s.utvRole = 3)
  let hb := relief && s.utv.handBack
  let f := s.mkFrame 4 0 0 0 true (syncBody s.time.link 0 s.utvPos relief hb 0 present n)
  let t := ((s.postSync 0 f).postSync 1 f).updUtv fun u =>
    { u with sentMs := s.linkMs, period := n, handBack := false, lastSync := s.time.link,
             loads := (List.range 8).foldl (fun m d =>
               Cells.wr (fun _ => 0) m d (2 * (Cells.rd (fun _ => 0) u.loads d % 2))) u.loads }
  let v := (((t.setF Port.UTV_STAT 11 9 s.utvPos).presence present).raiseProducer Ev.utvSync).ownReport
  if hb then (v.setUtvRole 1).setTstate 1 else v

/-- A SYNC_MARK arrives. -/
def State.markIn (s : State) (p : Nat) : State :=
  if s.lstate p ≠ 5 then s else
  (s.updPort p fun u => { u with markAt := s.time.link }).raiseProducer Ev.utvSync

/-- A signed offset in 1/16 tick as UTV_OFFSET holds it, held within its 18 bits. -/
def offsetWord (x : Int) : Word := BitVec.ofInt 18 (max (-131072) (min 131071 x))

/-- Nearest whole ticks of sixteenths. -/
def nearTicks (x : Int) : Int := (x + 8) / 16

/-- A stamp + 1, 0 none, moved with link time. -/
def stampOn (d : BitVec 54) (n : Nat) : Nat := if n = 0 then 0 else (BitVec.ofNat 54 (n - 1) + d).toNat + 1

/-- A transmit request moved with link time. -/
def reqOn (d : BitVec 54) (r : TxReq) : TxReq :=
  { r with start := r.start + d, ask := { r.ask with tStart := r.ask.tStart + d, tLate := r.ask.tLate + d } }

/-- Link time steps (R258): every charge keeps its age, and so does every moment that the device remembers in link time:
reserved and running transmissions, arrivals, requests and timers under way. -/
def State.stepLink (s : State) (d : BitVec 54) : State :=
  let old := s.linkMs
  let t := { s with time := { s.time with link := s.time.link + d } }
  let heard := fun (h : Nat) => if h = 0 then 0 else t.linkMs + h - old
  let t1 := t.updUtv fun u =>
    { u with heard := Cells.mapVals (fun _ => 0) heard u.heard, lastSync := u.lastSync + d,
             ports := Cells.mapVals (fun _ => UPort.down) (fun x =>
                { x with markAt := x.markAt + d, burstEnd := x.burstEnd + d }) u.ports }
  let t2 := forNat 2 (fun x t => t.updTxc x fun y =>
    { y with accepted := y.accepted.map (reqOn d), cur := y.cur.map fun r => { r with req := reqOn d r.req } }) t1
  let t3 := forNat 2 (fun c t => t.updChain c fun x => { x with updated := x.updated + d, grantAt := x.grantAt + d }) t2
  let t4 := (t3.setEntries (t3.entries.map fun e => { e with timerFrom := e.timerFrom + d }))
  let core := fun (x : CoreState) => { x with apWait := x.apWait.map fun a => { a with since := a.since + d } }
  { t4 with evf := { t4.evf with opened := Cells.mapVals (fun _ => 0) (stampOn d) t4.evf.opened },
            trim := { t4.trim with place := t4.trim.place.map (· + d) },
            dmc := { t4.dmc with queue := t4.dmc.queue.map fun r => { r with since := r.since + d } },
            apc := core t4.apc, lkc := core t4.lkc }

/-- A member follows the masthead's time (R257, R258), by the first copy of a sync, then by a better one, which counts in
its place.  The frequency trim it chooses is open: a free value within 50 ppm (DESIGN CHOICE, log entry 121). -/
def State.follow (s : State) (p : Nat) (mt : BitVec 54) (corr : Nat) (first : Bool) : State :=
  let late := corr + s.getF (Port.UTV_P_DELAY p) 11 0
  let off := timeDiff (s.uport p).markAt mt * 16 - (late : Int)
  let t := s.set Port.UTV_OFFSET (offsetWord off)
  if t.tstate = 1 ∧ t.calCount = 0 then
    let u := t.stepLink (BitVec.ofInt 54 (-(nearTicks off)))
    (u.updUtv fun x => { x with slew := 0, good := 0, goodWas := 0, fenced := false, lastSync := u.time.link }).setTstate 2
  else
    let was := if first then t.utv.good else t.utv.goodWas
    let good := if off.natAbs ≤ 8 then was + 1 else 0
    let st := if 16 < off.natAbs then 2 else if 4 ≤ good then 3
      else if t.tstate = 4 then 3 else if t.tstate = 1 then 2 else t.tstate
    let trim : Int := (t.freeNat % 100001 : Nat) - 50000
    (t.nextFree.updUtv fun u => { u with good := good, goodWas := was, slew := nearTicks off, trim := trim, fenced := false,
                                         everLocked := u.everLocked || decide (st = 3), lastSync := t.time.link }).setTstate st

/-- Send this period's LOAD toward the masthead (R259). -/
def State.sendLoad (s : State) (mpos : Nat) : State :=
  let f := s.mkFrame 5 mpos 0 0 false [inFld 11 6 s.ownOcc ||| inFld 5 0 s.fillShare]
  match s.wayTo mpos with
  | some p => s.postSync p f
  | none => s

/-- Pass a SYNC on out of the other port (R256); its residence, at most 0.5 µs, is free (DESIGN CHOICE, log entry 1). -/
def State.passSync (s : State) (p : Nat) (b : List Word) : State :=
  let hops := fld (b.getD 4 0) 11 9
  if s.stackSize ≤ hops + 1 then s else
  let corr := (b.getD 3 0).toNat + s.getF (Port.UTV_P_DELAY p) 11 0 + s.freeNat % 129
  let b2 := (b.set 3 (BitVec.ofNat 18 corr)).set 4 (withFld (b.getD 4 0) 11 9 (hops + 1))
  let f := s.mkFrame 4 0 0 0 true b2
  let g := sealFrame (f.words.set 0 (withFld (f.words.getD 0 0) 14 12 (fld (b.getD 4 0) 17 15)))
  s.nextFree.postSync (1 - p) g

/-- The masthead role moves by what a sync says (R255): a relief device yields to position 0, position 0 takes the role
back on HANDBACK, and hears that a relief acts. -/
def State.rolesBySync (s : State) (mpos : Nat) (relief handback : Bool) : State :=
  let t := if s.utvRole = 3 ∧ mpos = 0 ∧ relief = false then ((s.takeRole 1).setTstate 1).raise Irq.UTV_MAST else s
  if t.utvPos = 0 ∧ relief then
    t.updUtv fun u => { u with relief := true, backMs := if handback then s.linkMs + 1 else u.backMs }
  else t

/-- A SYNC frame (R255-R259, R268). -/
def State.syncIn (s : State) (p : Nat) (f : UFrame) : State :=
  let r := s.hopIn p f
  if r.1 = false then r.2 else
  let t := r.2.updPort p fun u => { u with freed := u.freed + BitVec.ofNat 16 (fGroups f) }
  let b := fBody f
  let w := b.getD 4 0
  let mpos := fld w 17 15
  let relief := bitOf w 14
  if (2 ≤ t.utvRole ∧ mpos = t.utvPos) ∨ (t.utvRole = 2 ∧ relief) then t else
  let v := (t.rolesBySync mpos relief (bitOf w 13)).passSync p b
  if 2 ≤ v.utvRole then v else
  let n := (b.getD 5 0).toNat
  let first := decide (n ≠ v.utv.period)
  let hops := fld w 11 9
  let better := decide (hops < v.utv.hops) || (decide (hops = v.utv.hops) && decide (p = 1))
  if (first || better) = false then v else
  let x := ((v.updUtv fun u => { u with period := n, hops := hops }).setF Port.UTV_STAT 11 9 mpos).follow p
    (timeOf (b.getD 0 0) (b.getD 1 0) (b.getD 2 0)) (b.getD 3 0).toNat first
  if first then (x.sendLoad mpos).presence (fld w 7 0) else x

/-- Ticks since the last sync. -/
def State.sinceSync (s : State) : Nat := (s.time.link - s.utv.lastSync).toNat

/-- No sync for 3 periods: HOLDOVER (R257). -/
def State.holdover (s : State) : State :=
  if s.utvRole = 1 ∧ 48000 ≤ s.sinceSync ∧ (s.tstate = 2 ∨ s.tstate = 3) then
    (s.updUtv fun u => { u with slew := 0, good := 0 }).setTstate 4
  else s

/-- Position 1 takes the masthead role (R255). -/
def State.reliefActs (s : State) : State :=
  if s.utvRole = 1 ∧ s.utvPos = 1 ∧ s.utv.started ∧
      (if s.utv.everLocked then 48000 else 160000) ≤ s.sinceSync then
    (s.takeRole 3).raise Irq.UTV_MAST
  else s

/-- Position 0 takes the masthead role 3 ms after its port went ACTIVE (R255). -/
def State.mastheadActs (s : State) : State :=
  if s.utvRole = 1 ∧ s.utvPos = 0 ∧ s.utv.started ∧ s.utv.relief = false ∧ 48000 ≤ s.sinceSync ∧ s.stackRole = 2 then
    s.takeRole 2
  else s

/-- A context ends with STATE 5 and without LINK_LOST: its event in progress starts nothing new. -/
def State.endQuiet (s : State) (c : Nat) : State :=
  let t := (s.leaveCalendar c).ctxPut c 0 (withFld (s.ctxRd c 0) 8 6 5)
  (match t.seqOfCtx c with
   | some q => (t.updEvent q fun e => { e with words := cset e.words 0 8 6 5 }).finishEvent q
   | none => t).slotFreed

/-- The owner's fence, once in a loss of syncs (R260). -/
def State.fence (s : State) : State :=
  if s.getB Port.UTV_SH_CFG 17 ∧ s.utvRole = 1 ∧ 32000 ≤ s.sinceSync ∧ s.utv.fenced = false then
    (((forEach (s.calContexts.filter fun c => s.shadowed c) (fun c t => t.endQuiet c) s).setB Port.UTV_STAT 5 true).updUtv
      fun u => { u with fenced := true }).raise Irq.UTV_FENCE
  else s

/-! ## Commands (R255, R269) -/

/-- UTV_MAST_CMD 1. -/
def State.handBackCmd (s : State) : State :=
  if s.utvRole = 3 then s.updUtv fun u => { u with handBack := true } else s

/-- UTV_SH_CMD 1: a planned handover of every shadowed context. -/
def State.handOver (s : State) : State :=
  if s.getB Port.UTV_SH_STAT 17 then s else
  let l := s.calContexts.filter fun c => s.shadowed c
  ({ s with link := { s.link with finals := l } }).setB Port.UTV_SH_STAT 17 true

/-- A FINAL has still to be acknowledged at the hop. -/
def State.finalsOut (s : State) : Bool :=
  s.utv.outbox.any fFinal || s.utv.redo.any (fun x => fFinal x.1) ||
    (List.range 2).any fun p => (s.uport p).unacked.any fun x => decide (fType x.1 = 2) && fFinal x.1

/-- BUSY clears when every FINAL has been acknowledged. -/
def State.handOverDone (s : State) : State :=
  if s.getB Port.UTV_SH_STAT 17 && s.link.finals.isEmpty && !s.finalsOut then s.setB Port.UTV_SH_STAT 17 false else s

/-! ## Copy selection (R264) -/

/-- Highest of a body's two RSSIs. -/
def bodyRssi (b : List Word) : Int :=
  max (signed 9 (fld (b.getD 2 0) 17 9)) (signed 9 (fld (b.getD 2 0) 8 0))

/-- The best of the copies that match a timestamp. -/
def bestCopy (ts : BitVec 54) (tol : Nat) : List (List Word) → Option (List Word)
  | [] => none
  | b :: r =>
    let near := decide ((timeDiff (bodyTs b) ts).natAbs ≤ tol)
    match bestCopy ts tol r with
    | none => if near then some b else none
    | some x => if near && decide (bodyRssi x ≤ bodyRssi b) then some b else some x

/-- Octets of a body's payload. -/
def bodyOctets (b : List Word) : List Octet :=
  (nonetsOf (fld (b.getD 0 0) 13 0) (b.drop 8)).map fun n => n.extractLsb' 0 8

/-- Exchange bits of a copy: SN for LE, SEQ for Haldaro. -/
def copyBits (kind : Nat) (f : List Octet) : Nat := if kind = 1 then leSn f else halSeq f

/-- A copy's exchange bits applied to a context's words as for a frame received good (R264). -/
def substWords (ws : List Word) (bits : Nat) : List Word :=
  if cKind ws = 1 then (if bits % 2 = cw ws 21 7 7 then cset ws 21 7 7 (1 - cw ws 21 7 7) else ws)
  else if cKind ws = 4 then
    let nx := cw ws 24 13 10
    if bits = nx then cset ws 24 13 10 ((nx + 1) % 16) else
    if bits = (nx + 15) % 16 then cinc ws 26 17 9 else cinc (cset ws 24 13 10 ((bits + 1) % 16)) 26 8 0
  else ws

/-- Apply a substituted copy's bits: in the open event, else at the next setup point. -/
def State.applySubst (s : State) (c bits : Nat) : State :=
  match s.seqOfCtx c with
  | some q => s.updEvent q fun e => { e with words := substWords e.words bits }
  | none => s.updUtv fun u => { u with substSeq := Cells.wr (fun _ => 0) u.substSeq c (bits + 1) }

/-- At a setup point, bits kept since a substitution are applied. -/
def State.setupSubst (s : State) (c : Nat) : State :=
  let b := Cells.rd (fun _ => 0) s.utv.substSeq c
  if b = 0 ∨ timeLt s.time.link (s.setupPoint (s.ctxWords c)) then s else
  let ws := substWords (s.ctxWords c) (b - 1)
  (forEach [21, 24, 26] (fun i t => t.ctxPut c i (ws.getD i 0)) s).updUtv
    fun u => { u with substSeq := Cells.wr (fun _ => 0) u.substSeq c 0 }

/-- Put a copy in a held packet's place in its stage; no change when its cells are refused. -/
def State.substitute (s : State) (l : Nat) (g : Staged) (c : Nat) (b : List Word) : State :=
  match s.buildPkt g.queue ((b ++ List.replicate 8 0).take 8) (nonetsOf (fld (b.getD 0 0) 13 0) (b.drop 8)) g.epoch with
  | (none, t) => t.updLane l fun x => { x with stage := x.stage.map fun y => if y = g then { y with hold := false } else y }
  | (some p, t) =>
    let u := (t.marked g.queue fun t => t.freeAll g.pkt.cells).updLane l fun x =>
      { x with stage := x.stage.map fun y => if y = g then { y with pkt := p, wanted := true, hold := false } else y }
    (u.applySubst c (copyBits (u.ctxF c 0 17 15) (bodyOctets b))).count Port.UTV_SELSUB

/-- A held packet of a context: its lane and place. -/
def State.heldOf (s : State) (c : Nat) : Option (Nat × Staged) :=
  (List.range 64).findSome? fun l =>
    ((s.lane l).stage.find? fun g => g.hold && decide (g.ctx = some c)).map fun g => (l, g)

/-- The hold of a context's packet ends SELWIN after its close (R264). -/
def State.holdEnd (s : State) (c : Nat) : State :=
  match s.heldOf c with
  | none => s
  | some (l, g) =>
    if timeLt s.time.link (g.closed + ticks (max 10 (s.getF Port.UTV_SEL 17 9) * 16)) then s else
    let ts := bodyTs (s.header g.pkt)
    match bestCopy ts s.matchTol (s.copiesOf c) with
    | some b =>
      let t := s.setCopies c ((s.copiesOf c).erase b)
      let rest := (t.copiesOf c).length
      (forNat rest (fun _ t => t.count Port.UTV_SELDUP) (t.setCopies c [])).substitute l g c b
    | none => s.updLane l fun x => { x with stage := x.stage.map fun y => if y = g then { y with hold := false } else y }

/-- A context's packet closed with CRC good: the copies kept for it are discarded and counted (R264). -/
def State.dropCopies (s : State) (c : Nat) : State :=
  let l := s.copiesOf c
  if l.isEmpty then s else (forNat l.length (fun _ t => t.count Port.UTV_SELDUP) s).setCopies c []

/-! ## Helper listens (R263) -/

/-- The span of a helper context's listen: from NEXT_ANCHOR less W and the fill time to NEXT_ANCHOR + EVLEN, or to the
next record when EVLEN is 0. -/
def State.listenFrom (s : State) (ws : List Word) : BitVec 54 :=
  cNext ws - ticks (s.window ws + fillTicks (rxPhy (cPhy ws)))
def listenTo (ws : List Word) : Option (BitVec 54) :=
  if cw ws 6 9 0 = 0 then none else some (cNext ws + ticks (cw ws 6 9 0 * 4000))

/-- The lane of a helper context's listen. -/
def State.helperLane (s : State) (c : Nat) : Option Nat := (List.range 64).find? fun l => decide ((s.lane l).helper = some c)

/-- Free a helper lane: it detaches, after a packet under way. -/
def State.freeHelper (s : State) (l : Nat) : State := (s.laneStop l).updLane l fun x => { x with helper := none }

/-- The trim of a helper places a lane-only listen (R263, R176). -/
def State.helperStart (s : State) (c : Nat) : State :=
  if Cells.rd (fun _ => 0) s.utv.listen c = 0 ∨ s.rigF 11 0 6 6 = 0 then s else
  let ws := s.ctxWords c
  if timeLt s.time.link (s.listenFrom ws) then s else
  let t := s.updUtv fun u => { u with listen := Cells.wr (fun _ => 0) u.listen c 0 }
  let t1 := match t.helperLane c with
    | some l => t.freeHelper l
    | none => t
  if (match listenTo ws with
      | some e => timeLe e s.time.link
      | none => false) then t1 else
  match (List.range 64).find? fun l => t1.laneEligible l c && decide (t1.laneState l = 0) && (t1.lane l).seq.isNone with
  | none => t1
  | some l =>
    let u := t1.laneConfig l (rxPhy (cPhy ws)) (t1.rigF 4 1 8 6) (cw ws 5 14 6) (cw ws 5 5 0) 0 (cSync ws) (cCrc ws)
      (if cKind ws = 1 then 0 else cWhite ws) (cRxq ws) c
    (u.laneStart l).updLane l fun x => { x with helper := some c }

/-- A helper's listen ends (R263). -/
def State.helperEnd (s : State) (c : Nat) : State :=
  match s.helperLane c, listenTo (s.ctxWords c) with
  | some l, some e => if timeLe e s.time.link then s.freeHelper l else s
  | some l, none => if Cells.rd (fun _ => 0) s.utv.listen c = 1 then s.freeHelper l else s
  | none, _ => s

/-- A helper's packet goes to its owner as a COPY frame: the context number is the owner's (R263). -/
def State.sendCopy (s : State) (c : Nat) (hdr pay : List Word) : State :=
  s.post (s.mkFrame 1 (s.getF Port.UTV_HELP_CFG 14 12) (c - s.getF Port.UTV_HELP_BASE 13 0) 0 false (hdr ++ pay))

/-! ## PD_UTVIS (R10, R244, R252, R271) -/

/-- PD_UTVIS is released: POS is the sampled position, the ports follow EN, owed bursts go out; a device that returns
from a reef level resumes from HOLDOVER (R271). -/
def State.utvisUp (s : State) (fromReef : Bool) : State :=
  let t := s.setF Port.UTV_STAT 14 12 s.pins.stackId.toNat
  let u := if t.stackRole = 0 then t else
    (t.setUtvRole 1).setTstate (if fromReef then 4 else 0)
  ((u.portEnable 0).portEnable 1).oweBursts

/-- UTV registers that follow from the stack's state. -/
def State.utvView (s : State) (p : Nat) : Word :=
  if p = Port.UTV_REACH then
    (List.range 8).foldl (fun w d =>
      let w1 := if s.heardOn 0 d then w ||| BitVec.twoPow 18 d else w
      if s.heardOn 1 d then w1 ||| BitVec.twoPow 18 (8 + d) else w1) 0
  else if p = Port.UTV_SH_STAT then
    withFld (s.get p) 11 0 (Cells.count (fun x => decide (x = Standby.ready)) s.utv.standby)
  else s.get p

/-! ## Records that follow other blocks' work (R266) -/

/-- A write to SEQ_CAL_CMD, and the record that follows an INSERT or UPDATE. -/
def State.calCmdRecord (s : State) (v : Word) : State :=
  let c := s.getF Port.SEQ_CAL_ARG_0 13 0
  let t := s.calCmd v
  let r := t.getF Port.SEQ_CAL_STAT 14 12
  if s.getB Port.SEQ_CAL_STAT 17 ∨ t.getB Port.SEQ_CAL_STAT 17 then t else
  if (v = 1 ∧ r = 0) ∨ (v = 3 ∧ (r = 0 ∨ r = 6)) then t.sendRecord c false else t

/-- A context swap is done (R189): commands that waited for it go on, and an INSERT among them sends its record. -/
def State.swapRecord (s : State) (c : Nat) : State :=
  let t := s.swapThen c
  if s.link.insertWait = some c ∧ t.link.insertWait = none ∧ t.getF Port.SEQ_CAL_STAT 14 12 = 0 then t.sendRecord c false
  else t

/-- The order keeper takes a lane's first closed packet; a commit to a shadowed context's TXQ is mirrored. -/
def State.commitMirror (s : State) (l : Nat) : State :=
  let t := s.commitStage l
  match (s.lane l).stage with
  | g :: _ => if (s.queue g.queue).length < (t.queue g.queue).length then t.afterCommit g.queue else t
  | [] => t

/-- CLOSE of a sequencer's event, and the record that follows it (R112, R266).  (DEDUCED, log entry 128.) -/
def State.closeRecord (s : State) (q : Nat) : State :=
  let t := s.eventClose q
  match s.event q, t.event q with
  | some e, none => t.afterClose e.ctx e.retired (s.recordTo e.ctx)
  | _, _ => t

/-- A context's setup, or its load, may close its event at once: that CLOSE sends its record too (R112, R266). -/
def State.missRecord (s t : State) (c : Nat) : State :=
  if (s.cal c).isSome && decide (t.ctxRd c 7 ≠ s.ctxRd c 7) then t.afterClose c 0 (s.recordTo c) else t

/-- A waiting sequencer loads its context, and a CLOSE at once sends its record. -/
def State.loadRecord (s : State) (q : Nat) : State :=
  match s.event q with
  | some e => s.missRecord (s.contextLoad q) e.ctx
  | none => s

/-- A sequencer faults; the CLOSE that is completed for it sends its record (R195, R266). -/
def State.faultRecord (s : State) (q : Nat) (kind : SeqFaultKind) : State :=
  let t := s.seqFault q kind
  match s.event q, t.event q with
  | some e, none => if e.loaded ∧ (s.cal e.ctx).isSome then t.afterClose e.ctx 0 (s.recordTo e.ctx) else t
  | _, _ => t

end Sys2Proof.Machine
end

