-- ==== Sys2Proof/Machine/Packets.lean ====
section
/-! DEFINITION. Packets on the air as lanes and their consumers take them (R67-R77, R116, R117, R142, R152, R263), the
background calibration of receive chains (R58, R59), placement of new connections (R199, R200), and computed RXC and TRM
registers. -/

namespace Sys2Proof.Machine

open Sys2Proof

/-! ## Sync matches (R67, R75, R76, R186) -/

/-- The lane's own sync word. -/
def State.laneSync (s : State) (l : Nat) : BitVec 32 :=
  BitVec.ofNat 32 ((s.get (Port.LAN_CFG l + 2)).toNat + 262144 * s.getF (Port.LAN_CFG l + 3) 13 0)

/-- The words of a watch entry a lane took at its detection (R77). -/
def State.laneEntry (s : State) (l e : Nat) : List Word :=
  ((s.lane l).entries.filter fun x => decide (x.1 = e)).map (·.2)

/-- A sync word, CRC initial value and whitening seed of watch entry words. -/
def entrySync (w : List Word) : BitVec 32 := BitVec.ofNat 32 (cw w 0 17 0 + 262144 * cw w 1 13 0)
def entryCrc (w : List Word) : BitVec 24 := BitVec.ofNat 24 (cw w 2 17 0 + 262144 * cw w 3 5 0)
def entryWhite (w : List Word) : BitVec 9 := BitVec.ofNat 9 (cw w 3 17 9)

/-- What a sync word means to a lane: the queue, the context, CRC initial value and whitening seed of its packet. -/
structure Match where
  queue : Nat
  ctx : Option Nat
  crc : BitVec 24
  white : BitVec 9
  slot : Option Nat

/-- The match of a watch lane: its firmware entries, the lowest first, then the search slots of its PHY (R75, R116).
That firmware's entries come first is the model's (DESIGN CHOICE, log entry 135). -/
def State.watchMatch (s : State) (l : Nat) (sync : BitVec 32) : Option Match :=
  match (List.range 8).find? fun e => !(s.laneEntry l e).isEmpty && decide (entrySync (s.laneEntry l e) = sync) with
  | some e =>
    let w := s.laneEntry l e
    some { queue := s.getF (Port.LAN_CFG l + 6) 6 0, ctx := none, crc := entryCrc w, white := entryWhite w, slot := none }
  | none =>
    ((s.searchFor (s.lanePhy l)).find? fun c => decide (cSync (s.ctxWords c) = sync)).map fun c =>
      let ws := s.ctxWords c
      { queue := cRxq ws, ctx := some c, crc := cCrc ws, white := if cKind ws = 1 then 0 else cWhite ws, slot := s.searchSlot c }

/-- The match of a link or manual lane: its configured words. -/
def State.ownMatch (s : State) (l : Nat) (sync : BitVec 32) : Option Match :=
  if s.laneSync l = sync then
    let c1 := s.get (Port.LAN_CFG l + 5)
    some { queue := s.getF (Port.LAN_CFG l + 6) 6 0, ctx := some (s.getF (Port.LAN_CFG l + 7) 13 0),
           crc := BitVec.ofNat 24 ((s.get (Port.LAN_CFG l + 4)).toNat + 262144 * fld c1 5 0),
           white := BitVec.ofNat 9 (fld c1 17 9), slot := none }
  else none

/-- A link lane receives a sync on a lane's bin (R76). -/
def State.duplicated (s : State) (l : Nat) (sync : BitVec 32) : Bool :=
  (List.range 64).any fun k => decide (s.laneRole k = 1) && decide (s.laneBin k = s.laneBin l) && (s.laneW k == s.laneW l) &&
    (match (s.lane k).pkt with
     | some p => decide (p.sync = sync)
     | none => false)

/-- A lane of the sniff window that listens: it takes no cells (R120). -/
def State.sniffLane (s : State) (l : Nat) : Bool :=
  decide (l < s.rigF 4 1 5 0) && (match s.link.sniff with
    | some (_, _, listening) => listening
    | none => false)

/-- The first bit of a lane's sync word, whose last bit came at `ts`. -/
def State.syncFrom (s : State) (l : Nat) (ts : BitVec 54) : BitVec 54 := ts - ticks (syncWordTicks (s.lanePhy l))

/-- The chains that fed a lane since a time: those that feed it now and were READY by then (R65, R72). -/
def State.feedsSince (s : State) (l : Nat) (t : BitVec 54) : List Nat :=
  (s.feeds l).filter fun c => decide (((s.chain c).readyAt : Int) ≤ s.tickOf t)

/-- A tick of a chain's list lies in an interval of link time. -/
def State.tickIn (s : State) (l : List Nat) (a e : BitVec 54) : Bool :=
  l.any fun t => decide (s.tickOf a ≤ (t : Int)) && decide ((t : Int) ≤ s.tickOf e)

/-- Receive a packet: the sequencer that listens or awaits goes to RX.  Steps since its first preamble bit and those
within the sync word are recorded (R56, R72). -/
def State.receive (s : State) (l : Nat) (m : Match) (cells : List CellLoc) (sync : BitVec 32) (ts : BitVec 54)
    (meas : RxMeas) : State :=
  let from0 := s.syncFrom l ts
  let fs := s.feedsSince l from0
  let p : LanePkt := { cells := cells, ts := ts, meas := meas, trunc := false,
                       agcStep := fs.any fun c => s.tickIn (s.chain c).steps (ts - ticks (syncTicks (s.lanePhy l))) s.time.link,
                       calStep := false,
                       phaseBad := fs.any fun c => s.tickIn (s.chain c).steps from0 ts || s.tickIn (s.chain c).forced from0 ts,
                       epoch := (m.ctx.map s.epochOf).getD 0, ctx := m.ctx, queue := m.queue, feeds := fs,
                       lenSeen := none, crcInit := m.crc, white := m.white, sync := sync }
  let t := (s.updLane l fun x => { x with pkt := some p, slot := m.slot }).setLaneState l 3
  match (s.lane l).seq with
  | some q => if t.seqState q = 2 ∨ t.seqState q = 5 then t.setSeqState q 3 else t
  | none => t

/-- Sync matched with a use for it: the header cell is taken, or NOCELLCNT counts. -/
def State.syncTake (s : State) (l : Nat) (m : Match) (sync : BitVec 32) (ts : BitVec 54) (meas : RxMeas) : State :=
  if s.sniffLane l then s.receive l m [] sync ts meas else
  let lost := fun (t : State) => (t.count (Port.LAN_NOCELLCNT l)).laneAfter l
  if 4 ≤ (s.lane l).stage.length then lost s else
  match s.takeCell m.queue with
  | (none, t) => lost t
  | (some c, t) => t.receive l m [.sram c] sync ts meas

/-- The watch logic configures a watch lane for the match it found (R63, R75). -/
def State.watchConfig (s : State) (l : Nat) (m : Match) (sync : BitVec 32) : State :=
  s.setWide (Port.LAN_CFG l + 2) 6 (joinWords
    [sync.extractLsb' 0 18, (sync.extractLsb' 18 14).setWidth 18, m.crc.extractLsb' 0 18,
     inFld 17 9 m.white.toNat ||| (m.crc.extractLsb' 18 6).setWidth 18, inFld 6 0 m.queue, inFld 13 0 (m.ctx.getD 0)])

/-- A sync is not detected: its first bit came before the grid's last blanking ended, or before any chain that feeds the
lane was READY (R67, R79). -/
def State.syncHidden (s : State) (l : Nat) (ts : BitVec 54) : Bool :=
  (s.feedsSince l (s.syncFrom l ts)).isEmpty ||
    (match s.blankedTill (s.laneW l) with
     | some t => decide (s.tickOf (s.syncFrom l ts) < (t : Int))
     | none => false)

/-- A sync word arrives at a lane (R67).  (DEDUCED, log entry 99.) -/
def State.syncMatch (s : State) (l : Nat) (sync : BitVec 32) (ts : BitVec 54) (meas : RxMeas) : State :=
  if (s.domOn (laneDom l) && decide (s.laneState l = 2) && !s.receiving l && !s.laneBlind l && !s.syncHidden l ts) = false
  then s else
  if s.laneRole l = 2 then
    match s.watchMatch l sync with
    | none => s
    | some m =>
      if s.duplicated l sync then (s.count Port.RXC_WATCH_DUP).laneFree l
      else (((s.watchConfig l m sync).count Port.RXC_WATCH_HITS).raise Irq.WATCH_HIT).syncTake l m sync ts meas
  else match s.ownMatch l sync with
    | some m => s.syncTake l m sync ts meas
    | none => s

/-- No entry matched within the sync duration: the watch lane is released (R75). -/
def State.noMatch (s : State) (l : Nat) : State :=
  if s.laneRole l = 2 ∧ s.laneState l = 2 ∧ s.receiving l = false then (s.count Port.RXC_WATCH_NOMATCH).laneFree l else s

/-! ## The length field (R142, R152) -/

/-- The length field of a lane's packet arrives in its header octets: above the limit, the frame is discarded and
counted in LENOVER alone. -/
def State.lengthSeen (s : State) (l : Nat) (air : List Octet) : State :=
  match (s.lane l).pkt with
  | none => s
  | some lp =>
    if lp.lenSeen.isSome ∨ air.length < hdrOctets (s.lanePhy l) then s else
    let hdr := s.dewhiten l lp (air.take (hdrOctets (s.lanePhy l)))
    if s.lenOk l lp hdr then
      let t := s.updLane l fun x => { x with pkt := some { lp with lenSeen := some (frameLen (s.lanePhy l) hdr) } }
      if s.sniffLane l then t else t.laneArrive l (hdrOctets (s.lanePhy l))
    else
      let bad := phyIsLe (s.lanePhy l) && decide (lp.sync = advAddress) && decide (leAdvType hdr = 5)
      ((s.marked lp.queue fun t => t.freeAll lp.cells).updLane l fun x =>
        { x with pkt := none, discarding := true, badReq := bad }).count (Port.LAN_LENOVER l)

/-- A connection request of a wrong length counts in its advertiser's REFUSED, where it takes connections (R141). -/
def State.refuseLen (s : State) (q : Nat) : State := s.updEvent q fun e =>
  let adv := cw e.words 17 17 15
  if cKind e.words = 2 ∧ (adv = 0 ∨ adv = 1 ∨ adv = 4) then countRefused e else e

/-- The air time of a discarded frame has passed: the lane searches again, and the frame counts as one whose CRC
failed (R152).  (DEDUCED, log entry 97.) -/
def State.lenOverEnd (s : State) (l : Nat) : State :=
  let x := s.lane l
  if x.discarding = false then s else
  let t := s.laneAfter l
  match x.seq with
  | some q =>
    let u := if x.badReq then t.refuseLen q else t
    (if u.seqState q = 3 then u.seqBad q s.time.link else u).servePending
  | none => t.servePending

/-! ## The end of a packet (R67, R68, R71) -/

/-- A sniff window's match is captured (R122). -/
def State.sniffCapture (s : State) (l : Nat) (lp : LanePkt) (frame : List Octet) : State :=
  match s.link.sniff with
  | none => s
  | some (e, _, _) =>
    if s.getB 0x3A80 17 then s.count Port.LTB_SNF_LOST else
    let o := frame.take 240
    let rep := s.report l lp true false false false
    let ws := [inFld 17 17 1 ||| inFld 16 14 e ||| inFld 9 0 o.length] ++ timeWords lp.ts ++ [rep.getD 0 0, 0, 0, 0] ++
      packNonets (o.map fun x => x.setWidth 9)
    (s.nextFree.setWide 0x3A80 ws.length (joinWords ws)).raise Irq.SNIFF_MATCH

/-- Octets of a lane's packet that have arrived by now, by its PHY's bit rate, as far as its length is known (R66). -/
def State.arrived (s : State) (l : Nat) (lp : LanePkt) : Nat :=
  let p := if s.lanePhy l = 2 then lp.meas.phy.toNat else s.lanePhy l
  let lead := if p = 2 ∨ p = 3 then 640 else 0
  let per := if p = 0 then 128 else if p = 2 then 256 else if p = 3 then 1024 else if p = 1 then 64 else octetTicks p
  min (cutBound (s.lanePhy l) lp) (((s.time.link - lp.ts).toNat - lead) / per)

/-- Payload cells of the packets under way are taken as their octets arrive (R68).  (DEDUCED, log entry 95.) -/
def State.arriveTick (s : State) : State :=
  forNat 64 (fun l t => match (t.lane l).pkt with
    | none => t
    | some lp => if t.sniffLane l then t else t.laneArrive l (t.arrived l lp)) s

/-- Who receives a lane's closed packet, the CRC checked: whether it is delivered, and the state after its consumer's
rules (R68, R75, R117). -/
def State.consume (s : State) (l : Nat) (lp : LanePkt) (frame : List Octet) (good short : Bool) (tEnd : BitVec 54) :
    Bool × State :=
  match (s.lane l).seq with
  | some q => s.seqFrame q frame good short lp.ts tEnd
  | none =>
    if s.laneRole l = 2 then
      match lp.ctx with
      | some c =>
        if good && !short && (s.searchSlot c).isSome then (true, s.searchPlace c (s.laneBin l) lp.ts frame)
        else (good || s.failDlv lp.ctx, s)
      | none => (good, s)
    else if s.laneRole l = 4 then (good, s)
    else (good || s.failDlv lp.ctx, s)

/-- A helper's packet: with CRC good it goes to the owner as a COPY frame (R263), and no queue gets it.  (DEDUCED, log
entry 125.) -/
def State.helperPacket (s : State) (l c : Nat) (good : Bool) : State :=
  match (s.lane l).stage.getLast? with
  | none => s
  | some g =>
    let r := s.payReads g.pkt ((g.pkt.len + 1) / 2)
    let t := if good then r.2.sendCopy c (s.header g.pkt) r.1 else s
    (t.updLane l fun x => { x with stage := x.stage.dropLast }).marked g.queue fun t => t.freeAll g.pkt.cells

/-- The last bit of a lane's packet as its length field and coding give it: the sync match's time and the rest of the
frame's air time (R134, R146). -/
def State.lastBitAt (s : State) (l : Nat) (lp : LanePkt) (frame : List Octet) : BitVec 54 :=
  let p := codedAs (s.lanePhy l) lp.meas.phy.toNat
  lp.ts + ticks (frameTicks p (frameLen (s.lanePhy l) frame) - syncTicks p)

/-- The last bit of a lane's packet arrives with the octets from its first header octet to its CRC (R67). -/
def State.packetEnd (s0 : State) (l : Nat) (air : List Octet) : State :=
  let s1 := s0.lengthSeen l air
  let s := if s1.sniffLane l then s1 else s1.laneArrive l (air.length - 3)
  match (s.lane l).pkt with
  | none => s
  | some lp =>
    let frame := s.dewhiten l lp air
    let good := s.frameGood l lp frame
    let stored := frame.take (frame.length - 3)
    if s.sniffLane l then
      let t := if good then s.sniffCapture l lp stored else s
      let rep := t.report l lp good false false false
      ((t.nextFree.setWide (Port.LAN_RSSI l) 6 (joinWords rep)).count
        (if good then Port.LAN_OKCNT l else Port.LAN_BADCNT l)).laneAfter l
    else
      let r := s.fillPkt lp stored
      let short := lp.trunc
      match (s.lane l).helper with
      | some c => (((r.2.laneClose l lp r.1 true good short false false true).helperPacket l c (good && !short)).laneAfter
          l).servePending
      | none =>
        let x := r.2.consume l lp frame good short (s.lastBitAt l lp frame)
        let t := (x.2.laneClose l lp r.1 true good short false false x.1).laneAfter l
        let u := match lp.ctx with
          | some c => if good then t.dropCopies c else t
          | none => t
        u.servePending

/-! ## Background calibration (R58, R59) -/

/-- PERIOD of a chain's background calibration, in ticks (R58). -/
def State.bgTicks (s : State) (c : Nat) : Nat := max 10 (s.getF (Port.RXC_CAL c) 11 0) * 16000

/-- Every PERIOD, from READY on, the chain requests the Sluice's grant (R58). -/
def State.bgPeriod (s : State) (c : Nat) : State :=
  if s.chainReady c && decide ((s.chain c).cal = .running) && decide (s.getF (Port.RXC_CAL c) 14 12 ≠ 0) &&
      decide ((s.chain c).askedFrom + s.bgTicks c ≤ s.time.wall) then
    (s.updChain c fun x => { x with cal := .waitGrant, askedFrom := s.time.wall }).sluiceAsk (Act.rxcal c)
  else s

/-- The grant reached a chain: it waits for a gap. -/
def State.bgGranted (s : State) (c : Nat) : State :=
  if (s.chain c).cal = .waitGrant then
    s.updChain c fun x => { x with cal := .waitGap, grantAt := s.time.link, gapFrom := s.time.wall }
  else s

/-- A gap while the grant is held: the coefficients are applied. -/
def State.bgApply (s : State) (c : Nat) (skew : BitVec 9) : State :=
  if s.chainReady c && decide ((s.chain c).cal = .waitGap) && s.granted (Act.rxcal c) && s.chainGap c then s.coefApply c skew
  else s

/-- MAXWAIT, in ticks. -/
def State.maxWait (s : State) : Nat := max 1 (s.getF Port.RXC_CALGAP 11 0) * 160000

/-- The grant was held for MAXWAIT without a gap: the coefficients are applied at once (R59). -/
def State.bgForce (s : State) (c : Nat) (skew : BitVec 9) : State :=
  if s.chainReady c && decide ((s.chain c).cal = .waitGap) && s.granted (Act.rxcal c) &&
      timeLe ((s.chain c).grantAt + ticks s.maxWait) s.time.link then
    let t := (s.markPkts (s.receivingOn c) fun p => { p with calStep := true, phaseBad := true }).updChain c
      fun x => { x with forced := s.time.wall :: s.recent x.forced }
    ((t.coefApply c skew).count (Port.RXC_FORCECNT c)).raise Irq.RX_CAL_FORCED
  else s

/-- The sampling PLL loses lock: both chains clear READY (R57). -/
def State.smpUnlock (s : State) : State :=
  if s.domOn 7 || s.domOn 8 then
    let t := (({ s with rx := { s.rx with smpLost := true } }).count Port.CLK_LOSSCNT).dropReady [0, 1]
    forNat 2 (fun c t => if (t.chain c).cal = .off then t else t.updChain c fun x => { x with cal := .off }) t
  else s

/-- The sampling PLL is locked again: the chains calibrate (R57). -/
def State.smpRelock (s : State) : State :=
  if s.rx.smpLost then
    forNat 2 (fun c t => if t.chainDoms c then t.chainForeground c else t)
      { s with rx := { s.rx with smpLost := false } }
  else s

/-- A chain starts its foreground calibration once its domains are released (R57). -/
def State.calBegin (s : State) (c : Nat) : State :=
  if s.chainDoms c ∧ (s.chain c).cal = .off ∧ s.rx.smpLost = false then s.chainForeground c else s

/-! ## Placement of new connections (R200) -/

/-- A write to TRM_PLACE_CMD. -/
def State.placeCmd (s : State) (v : Word) : State :=
  if v ≠ 1 then s else
  if s.getB Port.TRM_PLACE_STAT 17 then s.setB Port.TRM_PLACE_STAT 16 true else
  ({ s with trim := { s.trim with place := some s.time.link } }).setB Port.TRM_PLACE_STAT 17 true

/-- The outstanding request ends with a result and a device. -/
def State.placeDone (s : State) (result device : Nat) : State :=
  (({ s with trim := { s.trim with place := none } }).set Port.TRM_PLACE_STAT
    (inFld 16 16 (s.getF Port.TRM_PLACE_STAT 16 16) ||| inFld 14 12 result ||| inFld 2 0 device)).raise Irq.TRM_PLACE_DONE

/-- The device's CHANNEL_PLAN computes every bin of the requested range on one chain at least. -/
def State.rangeOk (s : State) : Bool :=
  let w := s.getB Port.TRM_PLACE_ARG_0 14
  let a := s.getF Port.TRM_PLACE_ARG_0 8 0
  let b := s.getF Port.TRM_PLACE_ARG_1 8 0
  decide (a ≤ b) && s.binInPlan w a && s.binInPlan w b && (s.gridOn 0 w || s.gridOn 1 w)

/-- This device is eligible for the outstanding request. -/
def State.selfOk (s : State) : Bool :=
  let k := s.getF Port.TRM_PLACE_ARG_0 17 15
  (decide (k = 1) || decide (k = 4)) && s.rangeOk && !s.kindFull k &&
    (List.range s.ctxTotal).any fun c => decide (s.kindOf c = 0)

/-- Devices the masthead finds eligible: its own by R200's tests; what it knows of another's contexts and bins the
spec does not say, so each reporting device is eligible or not by a free bit (DESIGN CHOICE, log entry 1).  (DEDUCED,
log entry 115.) -/
def State.placeable (s : State) : List Nat :=
  let k := s.getF Port.TRM_PLACE_ARG_0 17 15
  if s.stackRole = 0 then (if s.selfOk then [s.utvPos] else []) else
  (List.range s.ringN).filter fun d =>
    if d = s.utvPos then s.selfOk else (decide (k = 1) || decide (k = 4)) && s.devValid d && Config.freeBit (s.free + d)

/-- The device of lowest score, the lower position on equal scores. -/
def lowScore (f : Nat → Nat) : List Nat → Option Nat
  | [] => none
  | d :: r => match lowScore f r with
    | none => some d
    | some e => if f e < f d then some e else some d

/-- The masthead's choice for a requester (R200). -/
def State.choose (s : State) (r : Nat) : Option Nat :=
  let l := s.placeable
  let deep := decide (s.stackRole ≠ 0) && decide (s.rigF 11 0 7 7 = 1)
  if r ∈ l ∧ deep = false then some r else
  match lowScore s.scoreOf l with
  | none => none
  | some d =>
    if r ∈ l ∧ s.scoreOf r * (100 - s.getF (Port.TRM_POL 3) 11 6) ≤ s.scoreOf d * 100 then some r else some d

/-- The masthead counts a context it placed until that device's next report (R199). -/
def State.addPlaced (s : State) (d : Nat) : State :=
  { s with trim := { s.trim with
      placeAdd := Cells.wr (fun _ => 0) s.trim.placeAdd d (Cells.rd (fun _ => 0) s.trim.placeAdd d + 1) } }

/-- An answer to the outstanding request: a lone device and the masthead answer themselves; a member takes the
masthead's answer.  At a masthead with no request of its own it is the answer to a member, whose request the spec gives no
frame: a device that it would choose for that member counts as placed (DESIGN CHOICE, log entry 158). -/
def State.placeAnswer (s : State) (result device : Nat) : State :=
  let t := { s with free := s.free + 8 }
  if s.trim.place.isNone then
    if 2 ≤ s.utvRole ∧ result = 0 ∧ (List.range s.ringN).any (fun r => decide (r ≠ s.utvPos ∧ s.choose r = some device))
    then t.addPlaced device else s
  else if s.stackRole = 0 ∨ 2 ≤ s.utvRole then
    match s.choose s.utvPos with
    | none => t.placeDone 1 0
    | some d => (t.addPlaced d).placeDone 0 d
  else if result ≤ 1 then s.placeDone result (if result = 0 then device else 0) else s

/-- No answer within 5 ms (R200). -/
def State.placeExpire (s : State) : State :=
  match s.trim.place with
  | some t => if timeLe (t + 80000) s.time.link then s.placeDone 2 0 else s
  | none => s

/-! ## Computed registers -/

/-- RXC registers that follow from the chains: CAL, GRID, AGE, and the measured PEAK (free).  (DESIGN CHOICE, log
entry 91.) -/
def State.rxcView (s : State) (p : Nat) : Word :=
  let c := if p < 0x4100 then 0 else 1
  let x := s.chain c
  if p = Port.RXC_STAT c then
    let code := match x.cal with
      | .off => 0
      | .foreground => 1
      | .running => 2
      | .waitGrant => 3
      | .waitGap => 4
    withFld (withFld (withFld (s.get p) 14 12 code) 5 4
      (if s.rig.applied then nat1 (s.gridOn c false) + 2 * nat1 (s.gridOn c true) else 0)) 3 2
      (nat1 (s.blanked c false) + 2 * nat1 (s.blanked c true))
  else if p = Port.RXC_CALSTAT c then
    withFld (s.get p) 17 12 (if x.coefValid then min 63 ((s.time.link - x.updated).toNat / 1600000) else 0)
  else if p = Port.RXC_PEAK c then s.freeWord &&& fieldMask 6 0
  else s.get p

/-- TRM load and score registers (R199). -/
def State.trmView (s : State) (p : Nat) : Word :=
  if p = Port.TRM_LOAD then withFld (s.get p) 5 0 s.fillShare
  else if 0x2818 ≤ p ∧ p ≤ 0x281F then
    let d := p - 0x2818
    if s.devValid d then inFld 17 17 1 ||| inFld 12 0 (s.scoreOf d) else 0
  else s.seqView p

end Sys2Proof.Machine
end

