-- ==== Sys2Proof/Machine/BasinOps.lean ====
section
/-! DEFINITION. The Basin's banked command interface (R212-R217), its audit and idle tails (R219, R222), and the moves
of cells between SRAM and DRAM (R197, R198, R222). -/

namespace Sys2Proof.Machine

open Sys2Proof

/-! ## A master's copy (R212) -/

abbrev bQarg (m : Master) : Nat := bank m 0x2011
abbrev bQres (m : Master) : Nat := bank m 0x2012
abbrev bWcount (m : Master) : Nat := bank m 0x2013
abbrev bRpos (m : Master) : Nat := bank m 0x2014
abbrev bHdr (m : Master) (i : Nat) : Nat := bank m (0x2018 + i)

/-- Result codes. -/
abbrev Res.ok : Nat := 0
abbrev Res.empty : Nat := 1
abbrev Res.noQueue : Nat := 2
abbrev Res.denied : Nat := 3
abbrev Res.opened : Nat := 4
abbrev Res.noneOpen : Nat := 5
abbrev Res.badLen : Nat := 6
abbrev Res.wait : Nat := 7
abbrev Res.noCell : Nat := 8

/-- The command ends with a result. -/
def State.qRes (s : State) (m : Master) (r : Nat) : State := s.setF (bQres m) 12 9 r

/-- A flag of QRES: 16 OVR, 15 WFAIL, 14 RDWAIT, 13 PAST. -/
def State.qFlag (s : State) (m : Master) (b : Nat) : State := s.setB (bQres m) b true

/-- BUSY: a command waits under R216. -/
def State.qBusy (s : State) (m : Master) : Bool := decide ((s.copy m.num).deferred ≠ 0)

/-- SRC of a master's packets (R205). -/
def srcOf : Master → Nat
  | .apc => 3
  | .lkc => 4
  | .host => 5
  | .dbg => 7

/-- A master may read a queue (R213). -/
def State.mayRead (s : State) (m : Master) (q : Nat) : Bool :=
  let o := s.queueOwner q
  match m with
  | .apc => decide (o = 0)
  | .lkc => decide (o = 1) || decide (o = 3)
  | .host => decide (o = 2)
  | .dbg => true

/-- The queue named in QARG. -/
def State.argQueue (s : State) (m : Master) : Nat := s.getF (bQarg m) 6 0

def State.updCopy (s : State) (m : Master) (f : BsnCopy → BsnCopy) : State := s.setCopy m.num (f (s.copy m.num))

/-! ## Commands (R212-R216) -/

/-- OPEN_W. -/
def State.openW (s : State) (m : Master) (q : Nat) : State :=
  if s.queueUp q = false then s.qRes m Res.noQueue else
  if (s.copy m.num).wpkt.isSome then s.qRes m Res.opened else
  match s.takeCell q with
  | (none, t) => t.qRes m Res.noCell
  | (some c, t) =>
    ((t.updCopy m fun x => { x with wpkt := some (q, { cells := [.sram c], len := 0, epoch := 0 }) }).set (bWcount m) 0).qRes
      m Res.ok


/-- ENQUEUE with a LEN. -/
def State.enqueue (s : State) (m : Master) (len : Nat) : State :=
  match (s.copy m.num).wpkt with
  | none => s.qRes m Res.noneOpen
  | some (q, p) =>
    if 2 * (s.get (bWcount m)).toNat < len then s.qRes m Res.badLen else
    let k : Pkt := { p with cells := p.cells.take (cellsOf len), len := len }
    let t := s.marked q fun t => t.freeAll (p.cells.drop (cellsOf len))
    let h1 := inFld 17 15 (srcOf m) ||| inFld 14 14 (nat1 (t.payTagged k)) ||| (t.headerWord k 1 &&& fieldMask 13 0)
    let u := ((t.setHeader k 0 (inFld 13 0 len)).setHeader k 1 h1).updCopy m fun x => { x with wpkt := none }
    (((u.set (bWcount m) 0).commitPkt q k).afterCommit q).qRes m Res.ok

/-- ABORT. -/
def State.abortW (s : State) (m : Master) : State :=
  match (s.copy m.num).wpkt with
  | none => s.qRes m Res.noneOpen
  | some (q, p) =>
    (((s.marked q fun t => t.freeAll p.cells).updCopy m fun x => { x with wpkt := none }).set (bWcount m) 0).qRes m Res.ok

/-- Load a packet's header into BSN_HDR. -/
def State.loadHdr (s : State) (m : Master) (p : Pkt) : State :=
  forNat 8 (fun i t => t.set (bHdr m i) (s.headerWord p i)) (s.headerSeen p)

/-- DEQUEUE of a queue not held by a sequencer. -/
def State.dequeue (s : State) (m : Master) (q : Nat) : State :=
  if s.queueUp q = false then s.qRes m Res.noQueue else
  if s.mayRead m q = false then s.qRes m Res.denied else
  if (s.copy m.num).rpkt.isSome then s.qRes m Res.opened else
  match s.queue q with
  | [] => s.qRes m Res.empty
  | p :: _ =>
    if s.headWaits q then s.qRes m Res.wait else
    let r := (s.popPkt q).followLinks q p
    ((((r.2.loadHdr m r.1).updCopy m fun x => { x with rpkt := some (q, r.1) }).set (bRpos m) 0).setF (bQres m) 6 0 q).qRes m
      Res.ok

/-- PEEK. -/
def State.peek (s : State) (m : Master) (q : Nat) : State :=
  if s.queueUp q = false then s.qRes m Res.noQueue else
  if s.mayRead m q = false then s.qRes m Res.denied else
  match s.queue q with
  | [] => s.qRes m Res.empty
  | p :: _ => if p.head.near then (s.loadHdr m p).qRes m Res.ok else s.qRes m Res.wait

/-- DROP_REM.  (DEDUCED, log entry 117.) -/
def State.dropRem (s : State) (m : Master) : State :=
  match (s.copy m.num).rpkt with
  | none => s.qRes m Res.noneOpen
  | some (_, p) => ((s.freeAll p.cells).updCopy m fun x => { x with rpkt := none }).qRes m Res.ok

/-- FORWARD. -/
def State.forward (s : State) (m : Master) (q : Nat) : State :=
  match (s.copy m.num).rpkt with
  | none => s.qRes m Res.noneOpen
  | some (_, p) =>
    if s.queueUp q = false then s.qRes m Res.noQueue else
    (((s.updCopy m fun x => { x with rpkt := none }).commitPkt q p).afterCommit q).qRes m Res.ok

/-- Remove every packet of a queue at one edge: SRAM cells return at once (R222). -/
def State.flushPkts (s : State) (q : Nat) : State :=
  let gone := s.queueCells q
  ((s.marked q fun t => (t.setQueue q []).freeAll gone).idleRestart q).setHeadSent q 0

/-- FLUSH of a queue not held by a sequencer. -/
def State.flush (s : State) (m : Master) (q : Nat) : State :=
  if s.queueUp q = false then s.qRes m Res.noQueue else
  if s.mayRead m q = false then s.qRes m Res.denied else
  (s.flushPkts q).qRes m Res.ok

/-- DEQUEUE or FLUSH of the TXQ of an event a sequencer holds waits with BUSY at 1 (R216). -/
def State.orDefer (s : State) (m : Master) (code q : Nat) (act : State → State) : State :=
  if s.queueUp q && s.mayRead m q && s.txqHeld q then s.updCopy m fun x => { x with deferred := code + 16 * q } else act s

/-- A command code with its argument. -/
def State.qRun (s : State) (m : Master) (code : Nat) : State :=
  let q := s.argQueue m
  if code = 1 then s.openW m q else
  if code = 2 then s.enqueue m (s.getF (bQarg m) 13 0) else
  if code = 3 then s.abortW m else
  if code = 4 then s.orDefer m 4 q fun t => t.dequeue m q else
  if code = 5 then s.peek m q else
  if code = 6 then s.dropRem m else
  if code = 7 then s.forward m q else
  if code = 8 then s.orDefer m 8 q fun t => t.flush m q else s

/-- A write to BSN_QCMD: ignored with OVR while BUSY. -/
def State.qCmd (s : State) (m : Master) (code : Nat) : State := if s.qBusy m then s.qFlag m 16 else s.qRun m code

/-- A waiting DEQUEUE or FLUSH acts after the CLOSE (R216). -/
def State.qDeferred (s : State) (m : Master) : State :=
  let d := (s.copy m.num).deferred
  if d = 0 ∨ d = 15 ∨ s.txqHeld (d / 16) then s else
  let t := s.updCopy m fun x => { x with deferred := 0 }
  if d % 16 = 4 then t.dequeue m (d / 16) else t.flush m (d / 16)

/-! ## Streams (R214, R215) -/

/-- A write to BSN_WDATA. -/
def State.wdata (s : State) (m : Master) (v : Word) : State :=
  if s.qBusy m then s.qFlag m 16 else
  match (s.copy m.num).wpkt with
  | none => s.qFlag m 15
  | some (q, p) =>
    let n := (s.get (bWcount m)).toNat
    let put := fun (t : State) (p : Pkt) =>
      let u := match p.payCell n with
        | .sram c => t.sramWrM (t.cellAddr c (n % 8)) v
        | _ => t
      (u.updCopy m fun x => { x with wpkt := some (q, p) }).set (bWcount m) (BitVec.ofNat 18 (n + 1))
    if 8192 ≤ n then s.qFlag m 15 else
    if n % 8 = 0 then
      match s.takeCell q with
      | (none, t) => t.qFlag m 15
      | (some c, t) => put t { p with cells := p.cells ++ [.sram c] }
    else put s p

/-- A read of BSN_RDATA. -/
def State.rdata (s0 : State) (m : Master) : Word × State :=
  if s0.qBusy m then (0, s0.qFlag m 16) else
  let s := s0.followOpen m
  match (s.copy m.num).rpkt with
  | none => (0, s.qFlag m 13)
  | some (_, p) =>
    let w := s.getF (bRpos m) 12 0
    if (p.len + 1) / 2 ≤ w then (0, s.qFlag m 13) else
    if (p.payCell w).near then
      let r := s.payRead p w
      (r.1, r.2.setF (bRpos m) 12 0 (w + 1))
    else (0, s.qFlag m 14)

/-- A header word with the fields that the Basin writes kept (R205, R214). -/
def hdrKeep (i : Nat) (old v : Word) : Word := if i = 1 then (old &&& fieldMask 17 14) ||| (v &&& fieldMask 13 0) else v

/-- A master's write of a header word: an armed MEM_INJ for its bank disturbs it. -/
def State.putHeader (s : State) (p : Pkt) (i : Nat) (v : Word) : State :=
  match p.head with
  | .sram c => s.sramWrM (s.cellAddr c i) v
  | _ => s.setHeader p i v

/-- A write to BSN_HDR_i (R214, R215). -/
def State.hdrWr (s : State) (m : Master) (i : Nat) (v : Word) : State :=
  if i = 0 then s else
  match (s.copy m.num).wpkt with
  | some (_, p) => s.putHeader p i (hdrKeep i (s.headerWord p i) v)
  | none => match (s.copy m.num).rpkt with
    | some (_, p) =>
      let w := hdrKeep i (s.headerWord p i) v
      (s.putHeader p i w).set (bHdr m i) w
    | none => s

/-- A write to BSN_IE_g: BSN_QREADY for each non-empty queue whose bit is written 1 (R220). -/
def State.ieWr (s : State) (g : Nat) (v : Word) : State :=
  let t := s.set (Port.BSN_IE g) (v &&& fieldMask 15 0)
  if (List.range 16).any fun i => bitOf v i && !(s.queue (16 * g + i)).isEmpty then t.raise Irq.BSN_QREADY else t

/-- A master's view of its copy's registers. -/
def State.copyView (s : State) (m : Master) (p : Nat) : Word :=
  if p = 0x2012 then
    let c := s.copy m.num
    withFld (withBit (s.get (bQres m)) 17 (s.qBusy m)) 8 7 (2 * nat1 c.wpkt.isSome + nat1 c.rpkt.isSome)
  else s.get (bank m p)

/-! ## Idle tails and the audit (R219, R222) -/

/-- A queue's idle timer has counted TAIL_IDLE + 1 steps since its restart (R219). -/
def State.idleDue (s : State) (q : Nat) : Bool :=
  decide (Cells.rd (fun _ => 0) s.basin.idleFrom q + s.getF (Port.BSN_Q_IDLE q) 11 0 + 1 ≤ s.gridSteps)

/-- A queue's idle timer runs out: once since its restart. -/
def State.tailIdle (s : State) (q : Nat) : State :=
  if s.queueUp q && decide (s.getF (Port.BSN_Q_IDLE q) 11 0 ≠ 0) && !(s.queue q).isEmpty && s.idleDue q &&
      decide (Cells.rd (fun _ => 0) s.basin.idleSaid q = 0) then
    ((({ s with basin := { s.basin with idleSaid := Cells.wr (fun _ => 0) s.basin.idleSaid q 1 } }).queueFlag q 3)).raise
      Irq.TAIL_IDLE
  else s

/-- BSN_AUDIT_CMD. -/
def State.auditCmd (s : State) (v : Word) : State := if v = 1 then s.setB Port.BSN_STAT 2 true else s

/-- Cells reachable from a queue, an open packet, the order keeper or a lane. -/
def State.reachable (s : State) : List CellLoc :=
  s.basin.queues.flatMap (fun x => x.2.flatMap (·.cells)) ++
  s.basin.copies.flatMap (fun x => (x.2.wpkt.map (·.2.cells)).getD [] ++ (x.2.rpkt.map (·.2.cells)).getD []) ++
  s.entries.filterMap (fun e => e.hole.map CellLoc.sram) ++
  s.lanes.flatMap (fun x => x.2.stage.flatMap (fun g => g.pkt.cells) ++ (x.2.pkt.map (·.cells)).getD [])

/-- The audit is done: every other cell returns to the pool; the spill area is taken in while DRAM is available. -/
def State.auditEnd (s : State) : State :=
  if s.getB Port.BSN_STAT 2 = false then s else
  let r := s.reachable
  let su := s.basin.used.filter fun x => decide (CellLoc.sram x.1 ∈ r)
  let du := if s.dramUp then s.basin.dused.filter fun x => decide (x.2 = 2) || decide (CellLoc.dram x.1 ∈ r) else s.basin.dused
  let n := (s.basin.used.length - su.length) + (s.basin.dused.length - du.length)
  let t := { s with basin := { s.basin with used := su, dused := du } }
  (t.setB Port.BSN_STAT 2 false).set Port.BSN_AUDITCNT (BitVec.ofNat 18 (min 262143 n))

/-! ## Moves between SRAM and DRAM (R197, R198, R222) -/

/-- The SRAM tail segment of a queue: behind its DRAM segment, or at the first spill behind the front HEAD_CELLS cells. -/
def State.tailCells (s : State) (q : Nat) : List CellLoc :=
  if s.split q then ((s.queueCells q).reverse.takeWhile CellLoc.near).reverse else (s.queueCells q).drop s.headCells

/-- The queue that lies the most cells above its HIGH_MARK, of those above LOW_MARK since they crossed it. -/
def State.spillQueue (s : State) : Option Nat :=
  let c := (List.range 128).filter fun q => s.queueUp q && s.getB (Port.BSN_Q_STAT q) 16 && !(s.tailCells q).isEmpty &&
    (match s.marks q with
     | some (_, l) => decide (l < s.occupancy q)
     | none => false)
  bestBy (fun a b => decide ((s.occupancy b : Int) - ((s.marks b).map (·.1)).getD 0 <
    (s.occupancy a : Int) - ((s.marks a).map (·.1)).getD 0)) c

/-- Spill up to `n` cells of a queue from the front of its tail. -/
def State.spillRun (s : State) (q low : Nat) : Nat → State
  | 0 => s
  | n + 1 =>
    if s.occupancy q ≤ low then s else
    if s.spillCells ≤ s.basin.dused.length then s.count Port.TRM_SPILLFULL else
    match s.tailCells q with
    | .sram c :: _ => (s.spillCell q c).spillRun q low n
    | _ => s

/-- An open read packet has a cell in DRAM that a free cell can take: it is fetched ahead of every refill (R222). -/
def State.openWaits (s : State) : Bool :=
  decide (0 < s.freeCells) && s.basin.copies.any fun x => match x.2.rpkt with
    | some (_, p) => p.cells.any fun l => !l.near
    | none => false

/-- The queue with the fewest head cells of those that need refill. -/
def State.refillQueue (s : State) : Option Nat :=
  bestBy (fun a b => decide (s.headLen a < s.headLen b))
    ((List.range 128).filter fun q => s.split q && decide (s.headLen q < s.refillAt))

/-- Refill a queue's head up to HEAD_CELLS. -/
def State.refillRun (s : State) (q : Nat) : Nat → State
  | 0 => s
  | n + 1 => if s.dramUp && s.split q && decide (s.headLen q < s.headCells) && decide (0 < s.freeCells) then
      (s.refillCell q).refillRun q n else s

/-- A refill burst (R198, R222).  (DESIGN CHOICE, log entry 64.) -/
def State.refillBurst (s : State) : State :=
  if (s.dramUp && s.domOn 2 && !s.openWaits) = false then s else
  match s.refillQueue with
  | none => s
  | some q => s.refillRun q s.headCells

/-- After a resume, open packets and heads go ahead of every spill (R240). -/
def State.spillHeld (s : State) : Bool :=
  s.basin.catchUp && (s.openWaits || (s.refillQueue.isSome && decide (0 < s.freeCells)))

/-- A spill burst (R197, R240). -/
def State.spillBurst (s : State) : State :=
  if (s.getB Port.BSN_STAT 0 && s.dramUp && s.domOn 2 && !s.spillHeld) = false then s else
  let t := { s with basin := { s.basin with catchUp := false } }
  match t.spillQueue with
  | none => t
  | some q => t.spillRun q (((t.marks q).map (·.2)).getD 0) 48

/-- Fetch the first DRAM cell of a master's open read packet. -/
def State.openFetch1 (s : State) (m : Master) : State :=
  match (s.copy m.num).rpkt with
  | none => s
  | some (q, p) => match p.cells.find? fun l => !l.near with
    | some (.dram d) =>
      if s.dramUp = false ∨ s.freeCells = 0 then s else
      let c := s.nextCell
      let hdr := if p.head = .dram d then some p.len else none
      (s.fetchCell c d 1 hdr).updCopy m fun x => { x with rpkt := some (q, p.subst [(.dram d, .sram c)]) }
    | _ => s

/-- The Basin fetches the open read packet's cells that lie in DRAM (R222). -/
def State.openFetch (s : State) (m : Master) : State :=
  match (s.copy m.num).rpkt with
  | none => s
  | some (_, p) => forNat p.cells.length (fun _ t => t.openFetch1 m) s

/-- Flushed DRAM cells return to the spill area (R222). -/
def State.reclaim (s : State) : State :=
  if s.dramUp then { s with basin := { s.basin with dused := s.basin.dused.filter fun x => decide (x.2 ≠ 2) } } else s

end Sys2Proof.Machine
end

