-- ==== Sys2Proof/Machine/FlashOps.lean ====
section
/-! DEFINITION. The flash controller's command cycles, operations and journal (R312-R320), and the SRAM scrub engine
(R301-R303). -/

namespace Sys2Proof.Machine

open Sys2Proof

/-! ## Command cycles (R312) -/

/-- Error codes of FLC_ERR. -/
abbrev FlcErr.seq : Nat := 1
abbrev FlcErr.busy : Nat := 2
abbrev FlcErr.prot : Nat := 3
abbrev FlcErr.notErased : Nat := 4
abbrev FlcErr.suspect : Nat := 5
abbrev FlcErr.verify : Nat := 6
abbrev FlcErr.erase : Nat := 7

/-- A core's progress in a command: 0 none, 1 and 2 unlock cycles seen, 3 awaiting data. -/
def State.flcStep (s : State) (c : Nat) : Nat := Cells.rd (fun _ => 0) s.flc.step c

/-- Set a core's sequence state. -/
def State.setSeq (s : State) (c step bank addr row : Nat) (data : List Word) : State :=
  { s with flc := { s.flc with
      step := Cells.wr (fun _ => 0) s.flc.step c step, seqBank := Cells.wr (fun _ => 0) s.flc.seqBank c bank,
      seqAddr := Cells.wr (fun _ => 0) s.flc.seqAddr c addr, seqRow := Cells.wr (fun _ => 0) s.flc.seqRow c row,
      rowData := Cells.wr (fun _ => []) s.flc.rowData c data } }

/-- A core has no sequence. -/
def State.seqClear (s : State) (c : Nat) : State := s.setSeq c 0 0 0 0 []

/-- A refused command (R313). -/
def State.flcRefuse (s : State) (code : Nat) : State := (s.setF 0x1001 17 12 code).raise Irq.FLC_ERR

/-- A bank's suspect sector as FLC_SUSPECT shows it. -/
def State.suspect (s : State) (b : Nat) : Option Nat :=
  if s.getB (0x1008 + b) 17 then some (s.getF (0x1008 + b) 7 0) else none

/-- The refusal of a complete command from a core; 0 accepts it (R313-R315, R319).  (DEDUCED, log entry 54.) -/
def State.flcCheck (s : State) (op b a : Nat) : Nat :=
  let words := if op = 2 then [a, a + 1, a + 2, a + 3] else [a]
  if b = 4 then FlcErr.prot else
  if s.getB 0x1000 0 = false ∨ s.flc.op.isSome then FlcErr.busy else
  if op = 3 then (match s.suspect b with
    | some x => if x = a / 2048 then 0 else FlcErr.suspect
    | none => 0)
  else if s.suspect b = some (a / 2048) then FlcErr.suspect
  else if words.all (fun w => s.flashErased b w) then 0 else FlcErr.notErased

/-- A complete command is accepted or refused: an accepted one waits for the Sluice (R314). -/
def State.flcCommand (s : State) (op b a : Nat) (data : List Word) : State :=
  let code := s.flcCheck op b a
  if code ≠ 0 then s.flcRefuse code else
  let t := { s with flc := { s.flc with op := some { op := op, bank := b, addr := a, data := data }, running := false } }
  (t.set 0x1000 (inFld 17 17 1 ||| inFld 15 15 1 ||| inFld 14 12 op ||| inFld 11 9 b ||| inFld 8 1 (a / 2048) |||
    inFld 0 0 1)).sluiceAsk Act.flash

/-- A core's flash write at a bank word offset: one command cycle (R312). -/
def State.flashCycle (s : State) (c b o : Nat) (v : Word) : State :=
  let st := s.flcStep c
  let sb := Cells.rd (fun _ => 0) s.flc.seqBank c
  let sa := Cells.rd (fun _ => 0) s.flc.seqAddr c
  let bad := (s.seqClear c).flcRefuse FlcErr.seq
  let lo := o % 8192
  let row := Cells.rd (fun _ => 0) s.flc.seqRow c
  let due := if row = 0 then sa else sa + (Cells.rd (fun _ => []) s.flc.rowData c).length
  if v = 0o000360 ∧ (st = 0 ∨ b = sb) ∧ ¬(st = 3 ∧ o = due) then s.seqClear c else
  if st = 0 then (if v = 0o525252 ∧ lo = 0x0AAA then s.setSeq c 1 b 0 0 [] else bad) else
  if b ≠ sb then bad else
  if st = 1 then (if v = 0o252525 ∧ lo = 0x1555 then s.setSeq c 2 b 0 0 [] else bad) else
  if st = 2 then
    if v = 0o000240 then s.setSeq c 3 b o 0 [] else
    if v = 0o000241 ∧ o % 4 = 0 then s.setSeq c 3 b o 1 [] else
    if v = 0o000060 then (s.seqClear c).flcCommand 3 b o [] else bad
  else if row = 0 then
    (if o = sa then (s.seqClear c).flcCommand 1 b sa [v] else bad)
  else
    let d := Cells.rd (fun _ => []) s.flc.rowData c
    if o = sa + d.length then
      if d.length = 3 then (s.seqClear c).flcCommand 2 b sa (d ++ [v]) else s.setSeq c 3 b sa 1 (d ++ [v])
    else bad

/-! ## Operations (R314, R318, R319) -/

/-- The grant arrives: the operation starts; an erase programs its intent row first (R318). -/
def State.flcStart (s : State) : State :=
  match s.flc.op with
  | none => s
  | some x =>
    if s.flc.running ∨ s.granted Act.flash = false then s else
    let t := ({ s with flc := { s.flc with running := true } }).setB 0x1000 15 false
    if x.op = 3 then
      { t with flc := { t.flc with
          intents := Cells.wr (fun _ => 0) t.flc.intents x.bank (x.addr / 2048 + 1),
          journalSeq := Cells.wr (fun _ => 0) t.flc.journalSeq x.bank (Cells.rd (fun _ => 0) t.flc.journalSeq x.bank + 1) } }
    else t

/-- Record a failing address (FLC_FAIL). -/
def State.flcFail (s : State) (code b o : Nat) : State :=
  ((s.setF 0x1001 17 12 code).set 0x1002 (BitVec.ofNat 18 o)).set 0x1003 (inFld 5 3 b ||| inFld 0 0 (o / 2 ^ 18))

/-- Words programmed from a bank offset on. -/
def State.programAt (s : State) (b o : Nat) : List Word → State
  | [] => s
  | v :: r => (s.flashSet b o v).programAt b (o + 1) r

/-- A program that fails verification: one word, which of a row is open, has undefined content (R314).  (DEDUCED, log
entry 55.) -/
def State.programBad (s : State) (x : FlashOp) : State :=
  let o := x.addr + s.freeNat % max 1 x.data.length
  (((s.programAt x.bank x.addr x.data).flashMark x.bank o 3).nextFree).flcFail FlcErr.verify x.bank o

/-- An erase that fails verification leaves its intent open (R319); where it failed is open. -/
def State.eraseBad (s : State) (x : FlashOp) : State :=
  let sec := x.addr / 2048
  ((s.set (0x1008 + x.bank) (inFld 17 17 1 ||| inFld 7 0 sec)).nextFree).flcFail FlcErr.erase x.bank
    (sec * 2048 + s.freeNat % 2048)

/-- A completed erase: the sector reads all ones and the done row closes the intent. -/
def State.eraseGood (s : State) (x : FlashOp) : State :=
  let sec := x.addr / 2048
  let t := s.eraseWords x.bank sec
  let u := { t with flc := { t.flc with intents := Cells.wr (fun _ => 0) t.flc.intents x.bank 0 } }
  (if u.suspect x.bank = some sec then u.set (0x1008 + x.bank) 0 else u).count 0x1011

/-- The operation completes (R314): FLC_DONE, BUSY clear, the grant released. -/
def State.flcDone (s : State) (ok : Bool) : State :=
  match s.flc.op with
  | none => s
  | some x =>
    if s.flc.running = false ∨ s.getB 0x1000 16 then s else
    let t := if x.op = 3 then (if ok then s.eraseGood x else s.eraseBad x)
      else if ok then (s.programAt x.bank x.addr x.data).count 0x1012 else s.programBad x
    ((({ t with flc := { t.flc with op := none, running := false, resumedAt := none } }).set 0x1000
      (inFld 0 0 1)).sluiceDrop Act.flash).raise Irq.FLC_DONE

/-- An erase of a user bank is under way. -/
def State.erasing (s : State) (b : Nat) : Bool :=
  match s.flc.op with
  | some x => decide (x.op = 3) && decide (x.bank = b) && s.flc.running
  | none => false

/-- A program of a bank is under way. -/
def State.programming (s : State) (b : Nat) : Bool :=
  match s.flc.op with
  | some x => decide (x.op ≠ 3) && decide (x.bank = b) && s.flc.running
  | none => false

/-- After a resume the erase has run MINRUN µs (R316). -/
def State.ranMin (s : State) : Bool :=
  match s.flc.resumedAt with
  | some k => decide (k + max 1 (s.getF 0x1004 11 0) * 16 ≤ s.time.wall)
  | none => true

/-- The erase is suspended for a read of its bank, or the read of a suspended one is noted (R316). -/
def State.eraseSuspend (s : State) : State :=
  match s.flc.op with
  | some x =>
    let t := { s with flc := { s.flc with readAt := s.time.wall } }
    if (s.erasing x.bank && decide (x.bank < 4)) = false then s else
    if s.getB 0x1000 16 then t else
    if s.ranMin then (t.setB 0x1000 16 true).count 0x1013 else s
  | none => s

/-- The erase resumes once its bank has seen no read for RESUME_IDLE µs (R316). -/
def State.eraseResume (s : State) : State :=
  if s.getB 0x1000 16 && decide (s.flc.readAt + max 1 (s.getF 0x1004 17 12) * 16 ≤ s.time.wall) then
    ({ s with flc := { s.flc with resumedAt := some s.time.wall } }).setB 0x1000 16 false
  else s

/-- A word lies in the sector being erased, suspended or not (R317). -/
def State.inErase (s : State) (b o : Nat) : Bool :=
  match s.flc.op with
  | some x => s.erasing b && decide (x.addr / 2048 = o / 2048)
  | none => false

/-- The journal scan is complete: open intents become suspect sectors (R319). -/
def State.journalScan (s : State) : State :=
  if s.domOn 14 = false ∨ s.getB 0x1000 0 then s else
  (forNat 5 (fun b t => match t.openIntent b with
    | 0 => t.set (0x1008 + b) 0
    | k + 1 => t.set (0x1008 + b) (inFld 17 17 1 ||| inFld 7 0 k)) s).setB 0x1000 0 true

/-- PD_FLASH goes to reset or off: an erase leaves its intent open, a program's words are undefined (R320). -/
def State.flashStop (s : State) : State :=
  let t := match s.flc.op with
    | some x => if s.flc.running ∧ x.op ≠ 3 then
        forNat x.data.length (fun i u => u.flashMark x.bank (x.addr + i) 3) s else s
    | none => s
  ({ t with flc := { Flash.reset with intents := t.flc.intents, journalSeq := t.flc.journalSeq } }).sluiceDrop Act.flash

/-! ## SRAM scrub (R301-R303) -/

/-- A bank is powered and walked by the scrub engine. -/
def State.scrubbed (s : State) (b : Nat) : Bool :=
  match s.bankRole b with
  | some r => s.domOn r.dom
  | none => false

/-- A word of the Basin's banks belongs to the header cell of a packet (R205). -/
def State.isHeader (s : State) (k : Nat) : Bool :=
  let c := (k - s.roleWord .bsn 0) / 8
  let heads := s.basin.queues.flatMap (fun x => x.2.map Pkt.head) ++
    s.basin.copies.flatMap (fun x => (x.2.wpkt.map (·.2.head)).toList ++ (x.2.rpkt.map (·.2.head)).toList) ++
    s.lanes.flatMap (fun x => x.2.stage.map fun g => g.pkt.head)
  decide (CellLoc.sram c ∈ heads)

/-- Scrub one word (R302, R303).  A lost header word of a packet stands as it is, so that later reads see HDR_DMG and LEN
(R207, R208; DEDUCED, log entry 65). -/
def State.scrubWord (s : State) (b w : Nat) : State :=
  let k := b * 16384 + w
  let e := s.sramBad k
  if e = 0 then s else
  if e = 1 then (s.sramWr k (s.sramRd k)).count 0x1406 else
  let t := (((s.count 0x1407).set 0x1408 (inFld 17 12 b)).set 0x1409 (BitVec.ofNat 18 w)).raise Irq.MEM_ECC
  match s.bankRole b with
  | some .bsn => if s.isHeader k then t else t.sramWr k (s.sramRd k ||| lostWord)
  | some .chz => t.sluiceAsk Act.chzscrub
  | _ => t

/-- The next powered bank from a bank on, and whether the walk wrapped. -/
def State.nextBank (s : State) (b : Nat) : Option (Nat × Bool) :=
  match ((List.range 40).filter fun x => decide (b ≤ x)).find? fun x => s.scrubbed x with
  | some x => some (x, false)
  | none => ((List.range 40).find? fun x => s.scrubbed x).map fun x => (x, true)

/-- The scrub engine's next eight words (R301). -/
def State.scrubGroup (s : State) : State :=
  let b0 := s.getF 0x1404 17 12
  let g0 := s.getF 0x1404 10 0
  match s.nextBank b0 with
  | none => s
  | some (b, _) =>
    let g := if b = b0 then g0 else 0
    let t := forNat 8 (fun i t => t.scrubWord b (8 * g + i)) s
    if g < 2047 then t.set 0x1404 (inFld 17 12 b ||| inFld 10 0 (g + 1)) else
    match t.nextBank (b + 1) with
    | some (n, wrapped) =>
      (if wrapped then t.count 0x1405 else t).set 0x1404 (inFld 17 12 n)
    | none => t

/-- A step of the scrub engine, due RATE µs after the last one while MEM is clocked (R386): it asks for the Sluice's
grant, and holds it for eight words (R301, R406). -/
def State.scrubStep (s : State) : State :=
  if (s.getB 0x1403 17 && decide (s.level ≤ 2) && decide (s.mem.scrubAt + max 1 (s.getF 0x1403 5 0) * 16 ≤ s.time.wall))
    = false then s else
  if s.granted Act.sramScrub then
    let t := s.scrubGroup
    ({ t with mem := { t.mem with scrubAt := s.time.wall } }).sluiceDrop Act.sramScrub
  else s.sluiceAsk Act.sramScrub

/-- The channelizer coefficients are rewritten from AON (R303): the grant is released. -/
def State.chzScrubDone (s : State) : State :=
  if s.granted Act.chzscrub then
    ({ s with mem := { s.mem with sramErr := Cells.keep (fun k => !(s.hasRole .chz (k / 16384))) s.mem.sramErr } }).sluiceDrop
      Act.chzscrub
  else s

end Sys2Proof.Machine
end

