-- ==== Sys2Proof/Machine/DramOps.lean ====
section
/-! DEFINITION. The DRAM controller (R322-R337): its states, the power-up, the wipe, self-refresh, the scheduler's
choice, periodic duties, training helpers, resume, and the losses of a PD_DRAMC reset (R240). -/

namespace Sys2Proof.Machine

open Sys2Proof

/-- Set DMC_STAT STATE. -/
def State.dmcGo (s : State) (st : Nat) : State := s.noteDram fun s => s.setF Port.DMC_STAT 17 15 st

/-- A command is ignored (R328, R336). -/
def State.dmcCmdErr (s : State) : State := s.dmcFlag 1

/-- A freeze with a cause of the command path; no block failed, so the block and tag recorded are open (R333).
(DEDUCED, log entry 57.) -/
def State.dmcPathFreeze (s : State) (cause : Nat) : State :=
  let n := s.freeNat
  (s.nextFree).dmcFreezeOp cause 5 0 (n % 33554432) (n / 33554432 % 65536)

/-! ## Commands (R328, R334) -/

/-- DMC_CMD RESUME of a frozen controller; the Basin catches up in the order of R240.  After a command-path cause it
first retrains the read gate; whether that fails is open (R334, log entry 1).  (DEDUCED, log entry 58.) -/
def State.dmcResume (s : State) : State :=
  if 4 ≤ s.getF Port.DMC_FRZ_CAUSE 17 15 ∧ Config.freeBit s.free then
    ((s.nextFree).count Port.DMC_FRZCNT).dmcFlag 4
  else ({ s.nextFree with basin := { s.basin with catchUp := true } }).dmcGo s.dmc.frozeFrom

/-- A write to DMC_CMD. -/
def State.dmcCmd (s : State) (v : Word) : State :=
  if v = 1 then
    (if s.dmcState = 1 ∧ s.dmc.powering = false then { s with dmc := { s.dmc with powering := true } } else s.dmcCmdErr)
  else if v = 2 then
    (if s.dmcState = 2 ∧ s.dmc.checked ∧ s.dmc.density = false then s.dmcGo 3 else s.dmcCmdErr)
  else if v = 3 then (if s.dmcState = 6 then s.dmcResume else s.dmcCmdErr)
  else s

/-- The power-up sequence ends (R328). -/
def State.dmcPowered (s : State) : State :=
  if s.dmc.powering ∧ s.dmcState = 1 then ({ s with dmc := { s.dmc with powering := false } }).dmcGo 2 else s

/-- Every block holds zero words, matching check bits and OWNER 0 (R329).  (DESIGN CHOICE, log entry 62.) -/
def State.dramZero (s : State) : State := { s with mem := { s.mem with dram := [], dramTag := [], dramErr := [] } }

/-- The wipe's last block is written (R328). -/
def State.dmcWiped (s : State) : State :=
  if s.dmcState = 3 then ((s.dramZero.setB Port.DMC_STAT 14 false).dmcFlag 5).dmcGo 4 else s

/-- The life-cycle controller requests a wipe (R328): RUN goes to WIPING. -/
def State.dmcWipe (s : State) : State :=
  if s.dmcState = 4 ∨ s.dmcState = 5 then (s.setB Port.DMC_STAT 14 true).dmcGo 3 else s

/-- No port request waits or runs. -/
def State.dramIdle (s : State) : Bool := s.dmc.queue.isEmpty && s.dmc.cur.isNone

/-- No port but P_MNT, whose scrub never stops, has asked for SR_IDLE µs (R328). -/
def State.dramQuiet (s : State) : Bool :=
  s.dramIdle && decide (s.dmc.usedAt + max 1 (s.getF Port.DMC_SR 11 0) * 16 ≤ s.time.wall)

/-- Idle for SR_IDLE: the DRAM enters self-refresh under the Sluice's grant, which is asked for first (R328). -/
def State.selfRefresh (s : State) : State :=
  if s.dmcState ≠ 4 ∨ s.getB Port.DMC_SR 17 = false ∨ s.dramQuiet = false then s else
  if s.granted Act.srEntry then
    ((s.dmcGo 5).count Port.DMC_SRCNT).sluiceDrop Act.srEntry
  else s.sluiceAsk Act.srEntry

/-! ## Scheduler (R331, R332) -/

/-- Ticks a request has waited. -/
def State.reqWaited (s : State) (r : DramReq) : Nat := (timeDiff s.time.link r.since).toNat

/-- Effective rank of a request (R332). -/
def State.effRank (s : State) (r : DramReq) : Nat :=
  let p := s.get (Port.DMC_PORT_0 + r.port)
  let target := max 1 (fld p 8 0)
  let w := s.reqWaited r * 10
  let u := if target * 16 ≤ w then 2 else if target * 8 ≤ w then 1 else 0
  if max 1 (s.getF Port.DMC_AGE 8 0) * 160 ≤ w then 0 else fld p 17 15 - u

/-- The oldest request of each port, those behind an earlier request to the same block left out (R332). -/
def State.dramCandidates (s : State) : List DramReq :=
  (indexed s.dmc.queue).filterMap fun x =>
    let before := s.dmc.queue.take x.1
    if before.any (fun r => decide (r.port = x.2.port) || decide (r.block = x.2.block)) then none else some x.2

/-- A request goes before another (R332). -/
def State.goesFirst (s : State) (a b : DramReq) : Bool :=
  decide (s.effRank a < s.effRank b) ||
    (decide (s.effRank a = s.effRank b) &&
      (timeLt a.since b.since || (decide (a.since = b.since) && decide (a.port < b.port))))

/-- The request that starts next. -/
def State.nextDram (s : State) : Option DramReq :=
  s.dramCandidates.foldl (fun best r => match best with
    | none => some r
    | some b => if s.goesFirst r b then some r else some b) none

/-- The scheduler starts a request; a request ends self-refresh (R328).  (DESIGN CHOICE, log entry 61.) -/
def State.dramStart (s : State) : State :=
  if s.dmc.cur.isSome then s else
  match s.nextDram with
  | none => s
  | some r =>
    let t := s.dramWake r.port
    if t.dmcState ≠ 4 then t else
    { t with dmc := { t.dmc with cur := some r, queue := t.dmc.queue.erase r } }

/-- A block's write by a port of one word: the block is read, changed and written with the port's OWNER and EPOCH 0
(R325).  An uncorrectable block freezes the controller and is not written. -/
def State.dramStore (s : State) (port block idx : Nat) (v : Word) : State :=
  let r := s.dramRead port block
  if r.2.dmcState = 6 then r.2 else
  r.2.dramWr block (r.1.set idx v) ([3, 4, 1, 2].getD port 0) 0

/-! ## Periodic duties (R335) -/

/-- Every CHECK ms, under the grant of DRAM_PCAL: MR4 above the operating range sets HOT (code 7, log entry 11), an
MR8 other than the trained one freezes, and drift beyond 10 % asks for retraining.  With no MR8 read in training,
whether it differs is open.  (DEDUCED, log entry 59.) -/
def State.periodicCal (s : State) (mr4 mr8 : BitVec 8) (drifted : Bool) : State :=
  if s.dmcState ≠ 4 ∨ s.time.wall < s.dmc.checkAt + max 1 (s.getF Port.DMC_CAL 8 0) * 16000 then s else
  if s.granted Act.dramPcal = false then s.sluiceAsk Act.dramPcal else
  let t := ({ s with dmc := { s.dmc with checkAt := s.time.wall } }).sluiceDrop Act.dramPcal
  let t1 := if mr4.toNat % 8 = 7 then t.dmcFlag 3 else t
  let bad := match t1.dmc.mr8 with
    | some m => decide (m ≠ mr8)
    | none => Config.freeBit t1.free
  let t2 := if t1.dmc.mr8.isNone then t1.nextFree else t1
  if bad then t2.dmcPathFreeze 5 else
  if drifted then ({ t2 with dmc := { t2.dmc with driftPend := true } }).sluiceAsk Act.dramRetrain else t2

/-- Retraining of write DQ under its grant. -/
def State.retrainDq (s : State) : State :=
  if s.dmcState ≠ 4 ∨ s.dmc.driftPend = false then s else
  if s.granted Act.dramRetrain = false then s.sluiceAsk Act.dramRetrain else
  ((({ s with dmc := { s.dmc with driftPend := false } }).sluiceDrop Act.dramRetrain).count Port.DMC_RETRNCNT).dmcFlag 0

/-- One step of the DRAM scrub, due RATE µs after the last: a block is read through P_MNT and written back when
corrected (R335). -/
def State.dramScrub (s : State) : State :=
  if s.dmcState ≠ 4 ∨ s.getB Port.DMC_SCRUB 17 = false ∨
      s.time.wall < s.dmc.scrubAt + max 1 (s.getF Port.DMC_SCRUB 11 0) * 16 then s else
  let b := s.dmc.scrubPos
  let t := { s with dmc := { s.dmc with scrubPos := (if b + 1 < s.dramBlocks then b + 1 else 0), scrubAt := s.time.wall } }
  let r := (t.dramRead 5 b).2
  if r.dmcState = 6 then r else { r with mem := { r.mem with dramErr := Cells.del r.mem.dramErr b } }

/-! ## Training (R336) -/

/-- A write to DMC_TRN_CMD.  (DEDUCED, log entry 60.) -/
def State.trnCmd (s : State) (v : Word) : State :=
  if s.dmc.helper ≠ 0 ∨ v = 0 ∨ 8 < v.toNat ∨ (s.dmcState ≠ 2 ∧ ¬(v = 2 ∧ s.dmcState = 6)) then s.dmcCmdErr
  else ({ s with dmc := { s.dmc with helper := v.toNat } }).set Port.DMC_TRN_RES (inFld 17 17 1)

/-- Bits of RES a helper returns. -/
def helperMask (h : Nat) : Nat :=
  if h = 2 then 0xFF else if h = 4 then 0x3F else if h = 5 then 3 else if h = 6 ∨ h = 7 then 0xFFFF else
  if h = 8 then 0x1FFFF else 0

/-- The training helper ends with what it measured: RES is valid. -/
def State.helperDone (s : State) (res : BitVec 17) : State :=
  let h := s.dmc.helper
  if h = 0 then s else
  let arg := s.get Port.DMC_TRN_ARG
  let r := res.toNat &&& helperMask h
  let d := s.dmc
  let ma := fld arg 13 8
  let d1 := if h = 1 then { d with modeRegs := Cells.wr (fun _ => 0) d.modeRegs ma (fld arg 7 0), checked := false }
    else if h = 2 ∧ ma = 8 then { d with mr8 := some (BitVec.ofNat 8 r) }
    else if h = 8 then { d with checked := decide (r = 0), density := r.testBit 16 } else d
  (({ s with dmc := { d1 with helper := 0 } }).set Port.DMC_TRN_RES (BitVec.ofNat 18 r)).dmcFlag 2

/-- A write to a DMC register that firmware may change in TRAINING only (LKC_SIZE, DMC_DLY). -/
def State.dmcTrainWr (s : State) (p : Nat) (v : Word) : State :=
  if s.dmcState ≠ 2 then s else
  if p = Port.DMC_CFG then s.setF Port.DMC_CFG 8 0 (fld v 8 0) else
  ({ s with dmc := { s.dmc with checked := false } }).set p (v &&& (if p = Port.DMC_DLY 7 then fieldMask 5 0 else fieldMask 11 0))

/-! ## Reset and power of PD_DRAMC (R240, R328-R330) -/

/-- The cells of a packet that were in DRAM are lost. -/
def lostCells (p : Pkt) : Pkt := { p with cells := p.cells.map fun l => if l.near then l else .lost }

/-- Walk a queue at a PD_DRAMC reset: a run of packets whose header cells were in DRAM becomes one hole descriptor in its
place, and their SRAM cells are freed; `held` says that the run's hole stands already. -/
def State.holeRuns (s : State) (q : Nat) : Bool → List Pkt → List Pkt × State
  | _, [] => ([], s)
  | held, p :: r =>
    if p.head.near then
      let x := s.holeRuns q false r
      (lostCells p :: x.1, x.2)
    else
      let t := s.freeAll (p.cells.filter CellLoc.near)
      if held then t.holeRuns q true r else
      let c := t.holeCell q
      let h := holePkt c.1 p.epoch
      let x := (c.2.setHeaders h 0 (holeWords 2 0 s.time.link)).holeRuns q true r
      (h :: x.1, x.2)

/-- What the loss of DRAM contents does to the queues (R240). -/
def State.queuesLose (s : State) : State :=
  forNat 128 (fun q t =>
    if t.split q then
      t.marked q fun t =>
        let x := t.holeRuns q false (t.queue q)
        x.2.setQueue q x.1
    else t) s

/-- What the loss of DRAM contents does to open read packets and contexts (R240). -/
def State.contextsLose (s : State) : State :=
  let t := forEach [0, 1, 2, 3] (fun m t =>
    t.setCopy m { t.copy m with rpkt := (t.copy m).rpkt.map fun x => (x.1, lostCells x.2) }) s
  let away := t.link.calendar.map (·.1) |>.filter fun c => !t.resident c
  let t1 := forEach away (fun c t => t.leaveCalendar c) t
  let t2 := { t1 with trim := { t1.trim with
      fetched := t1.trim.fetched.filter (fun x => t1.resident x.1),
      swaps := t1.trim.swaps.filter fun c => (t1.cal c).isSome || decide (t1.link.insertWait = some c) ||
        decide (t1.trim.belayWait = some c) } }
  if t2.hasHomes then
    forNat t2.ctxSlots (fun k t =>
      if t.occupantOf k = 0 then t else t.setCtxF (t.occupantOf k - 1) 63 10 10 1) t2
  else t2

/-- A port of the DRAM controller. -/
def dmcPort (p : Nat) : Bool := inRange 0x1800 0x1BFF p

/-- PD_DRAMC is reset: training and contents are lost (R240, R328). -/
def State.dmcReset (s : State) : State :=
  s.noteDram fun s =>
    let lost := s.dmc.trained || decide (3 ≤ s.dmcState)
    let t := ({ s with dmc := Dmc.reset }).coldRegs dmcPort
    if lost then
      let u := t.queuesLose.contextsLose.dramZero
      { u with basin := { u.basin with dused := [] } }
    else t.dramZero

/-- PD_DRAMC goes off: from self-refresh training, delays and contents are kept (R328, R330). -/
def State.dmcOff (s : State) : State :=
  if s.dmcState = 5 then
    let dly := Cells.wrs (fun _ => 0) [] 0 ((List.range 8).map fun i => s.get (Port.DMC_DLY i))
    let d := s.dmc
    let d1 : Dmc := { Dmc.reset with trained := true, checked := d.checked, modeRegs := d.modeRegs, mr8 := d.mr8 }
    let keep : Dmc := { d1 with keepDly := dly, scrubPos := d.scrubPos }
    s.noteDram fun s => ({ s with dmc := keep }).coldRegs dmcPort
  else s.dmcReset

/-- PD_DRAMC is released: with retained training it returns to RUN after the read check, whose outcome is open, else it
waits in RESET for POWERUP (R328). -/
def State.dmcRelease (s : State) : State :=
  if s.rigF 2 2 2 0 = 0 then s else
  if s.dmc.trained then
    let t := s.dmc.keepDly.foldl (fun (t : State) x => t.set (Port.DMC_DLY x.1) x.2) s
    let t1 := { t with dmc := { t.dmc with trained := false, keepDly := [] } }
    if Config.freeBit t1.free then ((t1.nextFree).dmcGo 4).dmcPathFreeze 6 else (t1.nextFree).dmcGo 4
  else (s.setB Port.DMC_STAT 14 true).dmcGo 1

/-- CALWAIT: the controller waits for a grant. -/
def State.dmcView (s : State) (p : Nat) : Word :=
  if p = Port.DMC_STAT then withBit (s.get p) 13 (s.waits 6 || s.waits 7 || s.waits 11) else s.get p

end Sys2Proof.Machine
end

