-- ==== Sys2Proof/Machine/Security.lean ====
section
/-! DEFINITION. Cipher engine, key slots and verify engine (R340-R350). -/

namespace Sys2Proof.Machine

open Sys2Proof

/-! ## Nonets of the mailbox and of open packets -/

/-- Nonets of a list of words, the first `k`. -/
def nonetsTo (k : Nat) (ws : List Word) : List Nonet := (ws.flatMap fun w => [(nonets w).1, (nonets w).2]).take k

/-- A mailbox word as the engines read it: an uncorrectable word has both nonets tagged.  (DEDUCED, log entry 69.) -/
def State.mbxEngine (s : State) (o : Nat) : Word :=
  if s.sramBad (s.mbxAddr o) = 2 then s.mbxRd o ||| lostWord else s.mbxRd o

/-- `k` nonets of the mailbox from a word offset (R341). -/
def State.mbxNonets (s : State) (o k : Nat) : List Nonet :=
  nonetsTo k ((List.range ((k + 1) / 2)).map fun i => s.mbxEngine (o + i))

/-- Store a nonet of the mailbox, the other nonet of its word kept. -/
def State.mbxPut (s : State) (o j : Nat) (n : Nonet) : State :=
  let w := s.mbxRd (o + j / 2)
  s.mbxWrs (o + j / 2) [if j % 2 = 0 then ofNonets n (nonets w).2 else ofNonets (nonets w).1 n]

/-- Store nonets in the mailbox from a word offset. -/
def State.mbxPuts (s : State) (o : Nat) (l : List Nonet) : State :=
  (indexed l).foldl (fun t x => t.mbxPut o x.1 x.2) s

/-- An area of `k` nonets lies in the mailbox (R341). -/
def State.mbxHas (s : State) (o k : Nat) : Bool := decide (o + (k + 1) / 2 ≤ s.mbxWords)

/-- The open packet a job names, with its length in nonets: DATA 1 the read packet, 2 the write packet. -/
def State.jobPkt (s : State) (m data : Nat) : Option Pkt :=
  if data = 1 then (s.copy m).rpkt.map (·.2) else
  (s.copy m).wpkt.map fun x => { x.2 with len := 2 * s.get (0x2013 + 0x10000 * (m + 1)) |>.toNat }

/-- Payload nonets of a packet from a nonet on. -/
def State.pktNonets (s : State) (p : Pkt) (o k : Nat) : List Nonet × State :=
  let r := s.payReads p ((p.len + 1) / 2)
  (((nonetsTo p.len r.1).drop o).take k, r.2)

/-- Store a payload nonet of a packet, the other nonet of its word kept. -/
def State.pktPut (s : State) (p : Pkt) (j : Nat) (n : Nonet) : State :=
  let l := p.payCell (j / 2)
  let w := s.cellWord l (j / 2 % 8)
  let v := if j % 2 = 0 then ofNonets n (nonets w).2 else ofNonets (nonets w).1 n
  match l with
  | .sram c => s.sramWr (s.cellAddr c (j / 2 % 8)) v
  | _ => s

/-- Store payload nonets of a packet from a nonet on. -/
def State.pktPuts (s : State) (p : Pkt) (o : Nat) (l : List Nonet) : State :=
  (indexed l).foldl (fun t x => t.pktPut p (o + x.1) x.2) s

/-- Octets of nonets. -/
def octetsOf (l : List Nonet) : List Octet := l.map fun n => n.extractLsb' 0 8

/-- Undamaged nonets of octets. -/
def cleanNonets (l : List Octet) : List Nonet := l.map fun o => o.setWidth 9

/-- Some nonet is damaged. -/
def damaged (l : List Nonet) : Bool := l.any fun n => n.getLsbD 8

/-- Tag a nonet. -/
def tagNonet (n : Nonet) : Nonet := n ||| 0x100#9

/-! ## Key slots (R344, R348) -/

/-- Key octets of a slot. -/
def KeySlot.octets (k : KeySlot) : List Octet := (octetsBE 32 k.key.toNat).take (if k.k256 then 32 else 16)

/-- A key from 16 or 32 octets. -/
def keyOf (l : List Octet) : KeySlot :=
  { valid := true, k256 := decide (l.length = 32), key := BitVec.ofNat 256 (natBE (l ++ List.replicate (32 - l.length) 0#8)) }

/-- Usage mask of a slot. -/
def State.slotUsage (s : State) (k b : Nat) : Bool := s.getB (Port.CPH_SLOT_STAT k) b

/-- COUNT and LIMIT of a slot. -/
def State.slotCount (s : State) (k : Nat) : Nat := s.getWide (Port.CPH_SLOT_COUNT_0 k) 2
def State.slotLimit (s : State) (k : Nat) : Nat := s.getWide (Port.CPH_SLOT_LIMIT_0 k) 2

/-- Fill a slot: its key, usage mask and LIMIT, with COUNT 0. -/
def State.fillSlot (s : State) (k : Nat) (x : KeySlot) (usage limit : Nat) : State :=
  let t := (s.setKeySlot k x).set (Port.CPH_SLOT_STAT k)
    (inFld 17 17 (nat1 x.valid) ||| inFld 16 16 (nat1 x.k256) ||| inFld 7 0 usage)
  (t.setWide (Port.CPH_SLOT_COUNT_0 k) 2 0).setWide (Port.CPH_SLOT_LIMIT_0 k) 2 limit

/-- Empty a slot. -/
def State.emptySlot (s : State) (k : Nat) : State := s.fillSlot k KeySlot.empty 0 0

/-- A use of a slot (R348): false when it is spent. -/
def State.useSlot (s : State) (k : Nat) : Bool × State :=
  let l := s.slotLimit k
  let c := s.slotCount k
  if l ≠ 0 ∧ c = l then (false, s) else
  let t := s.setWide (Port.CPH_SLOT_COUNT_0 k) 2 (c + 1)
  if l ≠ 0 ∧ c + 1 = l then (true, (t.setB (Port.CPH_SLOT_STAT k) 15 true).raise Irq.KEY_SPENT) else (true, t)

/-! ## Jobs (R340-R343) -/

/-- A field of a job's descriptor. -/
def SecJob.f (j : SecJob) (w hi lo : Nat) : Nat := fld (j.words.getD w 0) hi lo

def SecJob.mode (j : SecJob) : Nat := j.f 0 17 15
def SecJob.op (j : SecJob) : Nat := j.f 0 14 12
def SecJob.slot (j : SecJob) : Nat := j.f 0 11 6
def SecJob.tag (j : SecJob) : Nat := j.f 0 5 0
def SecJob.data (j : SecJob) : Nat := j.f 1 17 15
def SecJob.off (j : SecJob) : Nat := j.f 1 13 0
def SecJob.dlen (j : SecJob) : Nat := j.f 2 13 0

/-- Port of a banked CPH register of a job's master (R341). -/
def SecJob.port (j : SecJob) (p : Nat) : Nat := p + 0x10000 * (j.m + 1)

/-- Reserved bits of the descriptor are zero (R341). -/
def SecJob.clean (j : SecJob) : Bool :=
  decide (j.f 1 14 14 = 0) && decide (j.f 2 17 14 = 0) && decide (j.f 3 17 14 = 0) && decide (j.f 4 17 14 = 0) &&
    decide (j.f 5 17 14 = 0) && decide (j.f 6 11 10 = 0) && decide (j.f 7 17 14 = 0)

/-- The limits of a mode's row (R340). -/
def SecJob.inLimits (j : SecJob) : Bool :=
  let n := j.f 6 17 12
  let a := j.f 6 9 0
  if j.mode = 0 then inRange 7 13 n && decide (j.tag % 2 = 0) && inRange 4 16 j.tag else
  if j.mode = 1 then decide (n = 12) && (decide (j.tag = 4) || decide (j.tag = 8) || inRange 12 16 j.tag) else
  if j.mode = 2 then decide (n = 16) && decide (j.tag = 0) && decide (a = 0) else
  if j.mode = 3 then decide (n = 0) && inRange 4 16 j.tag && decide (a = 0) else false

/-- The output's words partly overlap the input's (R341). -/
def SecJob.overlaps (j : SecJob) : Bool :=
  let n := (j.dlen + 1) / 2
  let o := j.f 3 13 0
  decide (o ≠ j.off) && decide (o < j.off + n) && decide (j.off < o + n)

/-- Areas in the mailbox are in order (R341). -/
def State.jobAreas (s : State) (j : SecJob) : Bool :=
  s.mbxHas (j.f 5 13 0) (j.f 6 17 12) && s.mbxHas (j.f 7 13 0) (j.f 6 9 0) &&
    (decide (j.data ≠ 0) ||
      (s.mbxHas j.off j.dlen && s.mbxHas (j.f 4 13 0) j.tag &&
        (decide (j.mode = 3) || (s.mbxHas (j.f 3 13 0) j.dlen && !j.overlaps))))

/-- RESULT of a job before its tag is checked: 0 OK, 2 SPENT, 3 NOKEY, 4 USAGE, 5 PARAM, 6 NOPACKET.  (DEDUCED, log
entry 66.) -/
def State.jobCheck (s : State) (j : SecJob) : Nat :=
  if j.words.length < 8 ∨ j.inLimits = false ∨ 1 < j.op ∨ 2 < j.data ∨ j.clean = false then 5 else
  let k := j.slot
  let usable := if (s.keySlot k).valid = false then 3 else if s.slotUsage k j.mode = false then 4 else 0
  if j.data = 0 then (if s.jobAreas j then usable else 5) else
  match s.jobPkt j.m j.data with
  | none => 6
  | some p => if s.jobAreas j = false ∨ p.len < j.off + j.dlen + j.tag then 5 else usable

/-- A use of the slot is counted for the job (R340, R348). -/
def SecJob.counts (j : SecJob) : Bool := decide (j.op = 0) || decide (j.mode = 2)

/-- Hold or free the Basin copy of a job on a packet (R341). -/
def State.jobHold (s : State) (j : SecJob) (v : Nat) : State :=
  if j.data = 1 ∨ j.data = 2 then s.setCopy j.m { s.copy j.m with deferred := v } else s

/-- A write of 1 to CPH_JOB_CMD: the descriptor is taken, or OVR set while BUSY (R341). -/
def State.jobCmd (s : State) (m : Master) (v : Word) : State :=
  if v ≠ 1 then s else
  if s.getB (bank m 0x6012) 17 then s.setB (bank m 0x6012) 16 true else
  let o := s.getF (bank m 0x6011) 13 0
  let j : SecJob := { m := m.num, words := if o + 8 ≤ s.mbxWords then s.mbxRds o 8 else [] }
  let t := if (s.copy m.num).deferred = 0 then s.jobHold j 15 else s
  ({ t with sec := { t.sec with jobs := t.sec.jobs ++ [j] } }).set (bank m 0x6012) (inFld 17 17 1)

/-- The engine starts the next job: its checks are made and its use counted (R341, R348). -/
def State.jobRun (s : State) : State :=
  if s.domOn 15 = false ∨ s.sec.running.isSome then s else
  match s.sec.jobs with
  | [] => s
  | j :: r =>
    let c := s.jobCheck j
    let u := if c = 0 ∧ j.counts then s.useSlot j.slot else (true, s)
    let res := if u.1 then c else 2
    { u.2 with sec := { u.2.sec with running := some j, jobs := r, jobResult := res } }

/-- A job ends with a result. -/
def State.jobEnd (s : State) (j : SecJob) (res : Nat) : State :=
  let t := { s with sec := { s.sec with running := none, jobResult := 0 } }
  let t1 := if (t.copy j.m).deferred = 15 then t.jobHold j 0 else t
  (t1.set (j.port 0x6012) ((t1.get (j.port 0x6012) &&& fieldMask 16 16) ||| inFld 14 12 res)).raise Irq.CPH_DONE

/-- The data nonets of a job. -/
def State.jobIn (s : State) (j : SecJob) : List Nonet × State :=
  if j.data = 0 then (s.mbxNonets j.off j.dlen, s) else
  match s.jobPkt j.m j.data with
  | none => ([], s)
  | some p => s.pktNonets p j.off j.dlen

/-- Write a job's output nonets. -/
def State.jobOut (s : State) (j : SecJob) (l : List Nonet) : State :=
  if j.data = 0 then s.mbxPuts (j.f 3 13 0) l else
  match s.jobPkt j.m j.data with
  | none => s
  | some p => s.pktPuts p j.off l

/-- The tag nonets of a job. -/
def State.jobTag (s : State) (j : SecJob) : List Nonet :=
  if j.data = 0 then s.mbxNonets (j.f 4 13 0) j.tag else
  match s.jobPkt j.m j.data with
  | none => []
  | some p => (s.pktNonets p (j.off + j.dlen) j.tag).1

/-- Write a job's tag nonets. -/
def State.jobTagOut (s : State) (j : SecJob) (l : List Nonet) : State :=
  if j.data = 0 then s.mbxPuts (j.f 4 13 0) l else
  match s.jobPkt j.m j.data with
  | none => s
  | some p => s.pktPuts p (j.off + j.dlen) l

/-- The tag of a mode over plaintext (CCM, CMAC) or ciphertext (GCM). -/
def jobMac (mode : Nat) (key nonce aad x : List Octet) (t : Nat) : List Octet :=
  if mode = 0 then ccmTag key nonce aad x t else if mode = 1 then gcmTag key nonce aad x t else
  if mode = 3 then (aesCmac key x).take t else []

/-- Encryption or decryption of a mode's payload. -/
def jobCrypt (mode : Nat) (key nonce x : List Octet) : List Octet :=
  if mode = 0 then ccmCrypt key nonce x else if mode = 1 then gcmCrypt key nonce x else
  if mode = 2 then aesCtr key nonce 4 x else []

/-- Set H0 MIC of the packet a job read (R342). -/
def State.jobMic (s : State) (j : SecJob) (v : Nat) : State :=
  if j.data ≠ 1 then s else
  match s.jobPkt j.m 1 with
  | none => s
  | some p =>
    let b := 0x2018 + 0x10000 * (j.m + 1)
    (s.setHeader p 0 (withFld (s.headerWord p 0) 15 14 v)).setF b 15 14 v

/-- A failed tag (R342): the output area is zeroed, except for CMAC. -/
def State.jobFail (s : State) (j : SecJob) : State :=
  let t := if j.mode = 3 then s else s.jobOut j (List.replicate j.dlen 0)
  ((((t.jobMic j 2).count Port.CPH_AUTHCNT).jobEnd j 1)).raise Irq.AUTH_FAIL

/-- The damaged positions of an input, tagged in its output (R343).  (DEDUCED, log entry 73.) -/
def tagLike (inp out : List Nonet) : List Nonet :=
  (inp.zip out).map fun x => if x.1.getLsbD 8 then tagNonet x.2 else x.2

/-- The job under way ends (R342, R343).  A job on a packet waits while a cell of it lies in DRAM. -/
def State.jobFinish (s : State) : State :=
  match s.sec.running with
  | none => s
  | some j =>
    if s.sec.jobResult ≠ 0 then s.jobEnd j s.sec.jobResult else
    let far := match s.jobPkt j.m j.data with
      | some p => decide (j.data ≠ 0) && p.cells.any fun l => !l.near
      | none => false
    if far then s else
    let key := (s.keySlot j.slot).octets
    let r := s.jobIn j
    let t := r.2
    let nn := t.mbxNonets (j.f 5 13 0) (j.f 6 17 12)
    let an := t.mbxNonets (j.f 7 13 0) (j.f 6 9 0)
    let dmg := damaged r.1 || damaged nn || damaged an
    let x := octetsOf r.1
    let n := octetsOf nn
    let a := octetsOf an
    if j.op = 0 then
      let y := jobCrypt j.mode key n x
      let tag := jobMac j.mode key n a (if j.mode = 1 then y else x) j.tag
      let out := tagLike r.1 (cleanNonets y)
      let t1 := if j.mode = 3 then t else t.jobOut j out
      let tn := cleanNonets tag
      let t2 := if j.mode = 2 then t1 else t1.jobTagOut j (if dmg then tn.map tagNonet else tn)
      t2.jobEnd j (if dmg then 7 else 0)
    else if j.mode = 2 then
      (if dmg then t.jobFail j else (((t.jobOut j (cleanNonets (jobCrypt 2 key n x))).jobMic j 1).jobEnd j 0))
    else
      let tn := t.jobTag j
      let y := jobCrypt j.mode key n x
      let want := jobMac j.mode key n a (if j.mode = 0 then y else x) j.tag
      if dmg || damaged tn || decide (octetsOf tn ≠ want) then t.jobFail j else
      let t1 := if j.mode = 3 then t else t.jobOut j (cleanNonets y)
      (t1.jobMic j 1).jobEnd j 0

/-! ## Key commands (R345-R347) -/

/-- A slot is named by a job from its start to its end (R346). -/
def State.slotInUse (s : State) (k : Nat) : Bool :=
  s.sec.jobs.any (fun j => decide (j.slot = k)) ||
    (match s.sec.running with
     | some j => decide (j.slot = k)
     | none => false)

/-- The key-encryption key a command names: its octets, or a result code. -/
def State.kek (s : State) (m : Master) : List Octet ⊕ Nat :=
  let a := s.get (bank m 0x6021)
  if bitOf a 5 then
    (if s.fuses.lifeCycle = 3 then .inr 5 else .inl (octetsBE 32 s.fuses.duk.toNat))
  else
    let k := fld a 11 6
    if (s.keySlot k).valid && s.slotUsage k 5 then .inl (s.keySlot k).octets else .inr 3

/-- A key command ends with a result. -/
def State.keyRes (s : State) (m : Master) (r : Nat) : State := s.setF (bank m 0x6024) 14 12 r

/-- The checks of LOAD on an unwrapped blob (R345, R346), and the slot it fills. -/
def State.loadKey (s : State) (m : Master) (k wlen : Nat) (p : List Octet) : State :=
  let o := fun i => (p.getD i 0#8).toNat
  if o 0 ≠ 1 ∨ o 1 + 16 ≠ wlen ∨ p.length + 8 ≠ wlen ∨ 128 ≤ o 2 ∨ 16 ≤ o 7 then s.keyRes m 2 else
  (s.fillSlot k (keyOf (p.drop 8)) (o 2) (natLE ((p.drop 3).take 5))).keyRes m 0

/-- LOAD. -/
def State.keyLoad (s : State) (m : Master) : State :=
  let k := s.getF (bank m 0x6021) 17 12
  let o := s.getF (bank m 0x6022) 13 0
  match s.kek m with
  | .inr r => s.keyRes m r
  | .inl kek =>
    if s.slotInUse k then s.keyRes m 4 else
    if s.mbxWords ≤ o then s.keyRes m 6 else
    let h := s.mbxEngine o
    let wlen := fld h 5 0
    if fld h 17 15 ≠ 1 ∨ fld h 14 6 ≠ 0 ∨ (wlen ≠ 32 ∧ wlen ≠ 48) then s.keyRes m 2 else
    if s.mbxHas (o + 1) wlen = false then s.keyRes m 6 else
    let n := s.mbxNonets (o + 1) wlen
    if damaged n then s.keyRes m 2 else
    match kwUnwrap kek (octetsOf n) with
    | none => s.keyRes m 1
    | some p => s.loadKey m k wlen p

/-- CLEAR. -/
def State.keyClear (s : State) (m : Master) : State :=
  let k := s.getF (bank m 0x6021) 17 12
  if s.slotInUse k then s.keyRes m 4 else (s.emptySlot k).keyRes m 0

/-- DERIVE: the source is the slot in KEK; the device unique key derives nothing (R346, R347).  (DEDUCED, log entry
67.) -/
def State.keyDerive (s : State) (m : Master) : State :=
  let a := s.get (bank m 0x6021)
  let b := s.get (bank m 0x6023)
  let k := fld a 17 12
  let src := fld a 11 6
  let o := s.getF (bank m 0x6022) 13 0
  let n := if bitOf b 17 then 32 else 16
  if bitOf a 5 then s.keyRes m 5 else
  if (s.keySlot src).valid = false ∨ s.slotUsage src 4 = false then s.keyRes m 3 else
  if s.slotInUse k then s.keyRes m 4 else
  if s.mbxHas o n = false ∨ damaged (s.mbxNonets o n) then s.keyRes m 6 else
  match s.useSlot src with
  | (false, _) => s.keyRes m 7
  | (true, t) =>
    let x := octetsOf (t.mbxNonets o n)
    let key := (t.keySlot src).octets
    let y := (blocks16 x).flatMap fun blk => aesEnc key blk
    (t.fillSlot k (keyOf (y.take n)) (fld b 7 0 &&& t.getF (Port.CPH_SLOT_STAT src) 7 0) (t.slotLimit src)).keyRes m 0

/-- EXPORT: a slot that is empty or lacks EXPORT gives DENIED. -/
def State.keyExport (s : State) (m : Master) : State :=
  let a := s.get (bank m 0x6021)
  let k := fld a 17 12
  let o := s.getF (bank m 0x6022) 13 0
  match s.kek m with
  | .inr r => s.keyRes m r
  | .inl kek =>
    if (s.keySlot k).valid = false ∨ s.slotUsage k 6 = false then s.keyRes m 5 else
    let key := (s.keySlot k).octets
    let wlen := key.length + 16
    if s.mbxHas (o + 1) wlen = false then s.keyRes m 6 else
    match (if bitOf a 5 then (true, s) else s.useSlot (fld a 11 6)) with
    | (false, _) => s.keyRes m 7
    | (true, t) =>
      let lim := if t.slotLimit k = 0 then 0 else t.slotLimit k - t.slotCount k
      let head : List Octet := [0x01#8, BitVec.ofNat 8 key.length, BitVec.ofNat 8 (t.getF (Port.CPH_SLOT_STAT k) 7 0)]
      let w := kwWrap kek (head ++ octetsLE 5 lim ++ key)
      ((t.mbxWrs o [inFld 17 15 1 ||| inFld 5 0 wlen]).mbxPuts (o + 1) (cleanNonets w)).keyRes m 0

/-- A write to CPH_KEY_CMD (R346): key commands end before BUSY can be seen.  (DEDUCED, log entry 68.) -/
def State.keyCmd (s : State) (m : Master) (v : Word) : State :=
  if v = 1 then s.keyLoad m else if v = 2 then s.keyClear m else if v = 3 then s.keyDerive m else
  if v = 4 then s.keyExport m else s

/-- Every slot is empty; jobs end without CPH_DONE and free the Basin copies they held (R349). -/
def State.slotsEmpty (s : State) : State :=
  let l := s.sec.jobs ++ s.sec.running.toList
  let t := forEach l (fun j u => if (u.copy j.m).deferred = 15 then u.jobHold j 0 else u) s
  ({ t with sec := { t.sec with slots := [], jobs := [], running := none, jobResult := 0 } }).coldRegs
    (inRange 0x6100 0x62FF)

/-! ## Verify engine (R350) -/

/-- The LCF uses the verify engine (R350). -/
def State.lcfHolds (s : State) : Bool := s.getB Port.CPH_VFY_STAT 15

/-- A write to CPH_VFY_CMD. -/
def State.vfyCmd (s : State) (v : Word) : State :=
  if v = 0 ∨ 3 < v.toNat then s else
  if s.lcfHolds ∧ s.sec.vfyHeld = 0 then { s with sec := { s.sec with vfyHeld := v.toNat } } else
  if s.getB Port.CPH_VFY_STAT 17 then s.setB Port.CPH_VFY_STAT 16 true else
  ({ s with sec := { s.sec with vfy := v.toNat } }).setB Port.CPH_VFY_STAT 17 true

/-- The LCF takes the engine, or releases it: a held command then starts. -/
def State.vfyTake (s : State) : State := s.setF Port.CPH_VFY_STAT 17 15 (4 + fld (s.get Port.CPH_VFY_STAT) 16 16 * 2 + 1)
def State.vfyFree (s : State) : State :=
  let h := s.sec.vfyHeld
  let t := ({ s with sec := { s.sec with vfyHeld := 0, vfy := if h = 0 then s.sec.vfy else h } }).setB Port.CPH_VFY_STAT 15 false
  t.setB Port.CPH_VFY_STAT 17 (decide (t.sec.vfy ≠ 0))

/-- A flash word as a hardware reader takes it: none when it is uncorrectable, undefined or in a sector being erased.
(DEDUCED, log entry 56.) -/
def State.flashHw (s : State) (b o : Nat) : Option Word :=
  if s.flashUndef b o || decide (s.flashBad b o = 2) || s.inErase b o then none else some (s.flashWord b o)

/-- A run of flash words as a hardware reader takes it. -/
def State.flashHws (s : State) (b o : Nat) : Nat → Option (List Word)
  | 0 => some []
  | n + 1 => match s.flashHw b o, s.flashHws b (o + 1) n with
    | some w, some r => some (w :: r)
    | _, _ => none

/-- The words that HASH and CRC cover, or a result code: 2 PARAM, 5 FAULT; flash is out of reach during a transition (R356;
DEDUCED, log entry 159). -/
def State.vfyWords (s : State) : List Word ⊕ Nat :=
  let a := s.get Port.CPH_VFY_ARG_0
  let start := joinWords [s.get Port.CPH_VFY_ARG_1, s.get Port.CPH_VFY_ARG_2 &&& 1]
  let n := joinWords [s.get Port.CPH_VFY_ARG_3, s.get Port.CPH_VFY_ARG_4 &&& 1]
  if 1 < fld a 17 15 ∨ 1 < fld a 11 9 then .inr 2 else
  if fld a 17 15 = 0 then (if s.mbxWords < start + n then .inr 2 else
    if (List.range n).any (fun i => decide (s.sramBad (s.mbxAddr (start + i)) = 2)) then .inr 5 else .inl (s.mbxRds start n))
  else
    let b := fld a 14 12
    if 4 < b ∨ bankSize b < start + n then .inr 2 else
    if s.domOn 14 = false ∨ s.sec.trans ≠ 0 then .inr 5 else
    match s.flashHws b start n with
    | some ws => .inl ws
    | none => .inr 5

/-- Words in the chosen form, or DAMAGED (R350). -/
def vfyOctets (form : Nat) (ws : List Word) : Option (List Octet) :=
  if form = 0 then some (octetForm ws) else if anyTag ws then none else some (nonetOctets ws)

/-- A verify command ends with a result. -/
def State.vfyEnd (s : State) (r : Nat) : State :=
  ((({ s with sec := { s.sec with vfy := 0 } }).setB Port.CPH_VFY_STAT 17 false).setF Port.CPH_VFY_STAT 14 12 r).raise
    Irq.VFY_DONE

/-- The digest in CPH_DIG. -/
def State.cphDigest (s : State) : BitVec 256 := BitVec.ofNat 256 (s.getWide (Port.CPH_DIG 0) 15)

/-- ECDSA of CPH_DIG with the key and signature at ARG_1 (R350). -/
def State.vfyEcdsa (s : State) : State :=
  let o := (s.get Port.CPH_VFY_ARG_1).toNat
  if s.mbxWords < o + 64 then s.vfyEnd 2 else
  let ws := (List.range 64).map fun i => s.mbxEngine (o + i)
  let l := nonetOctets ws
  let x := natBE (l.take 32)
  let y := natBE ((l.drop 32).take 32)
  if anyTag ws then s.vfyEnd 3 else
  if p256On x y = false then s.vfyEnd 4 else
  s.vfyEnd (if ecdsaVerify x y (natBE ((l.drop 64).take 32)) (natBE ((l.drop 96).take 32)) s.cphDigest then 0 else 1)

/-- The verify command under way ends (R350). -/
def State.vfyDone (s : State) : State :=
  if s.sec.vfy = 0 ∨ s.domOn 15 = false then s else
  if s.sec.vfy = 3 then s.vfyEcdsa else
  match s.vfyWords with
  | .inr r => s.vfyEnd r
  | .inl ws => match vfyOctets (s.getF Port.CPH_VFY_ARG_0 11 9) ws with
    | none => s.vfyEnd 3
    | some l =>
      if s.sec.vfy = 1 then (s.setWide (Port.CPH_DIG 0) 15 (sha256 l).toNat).vfyEnd 0
      else
        let c := crc32c l
        ((s.set (Port.CPH_DIG 0) (c.extractLsb' 0 18)).set (Port.CPH_DIG 1) ((c.extractLsb' 18 14).setWidth 18)).vfyEnd 0

end Sys2Proof.Machine
end

