-- ==== Sys2Proof/Machine/LifeCycle.lean ====
section
/-! DEFINITION. The life-cycle controller: fuse sensing (R351-R353), image checks (R357, R358), the LCF log and dead
records (R358, R359), ARM (R360), image selection, activation and trials (R361-R363), and the checks of a transition
(R354, R355). -/

namespace Sys2Proof.Machine

open Sys2Proof

/-! ## Life-cycle state (R352, R353) -/

/-- STATE as the registers show it: 7 after a fuse fault. -/
def State.lcState (s : State) : Nat := if s.fuses.err ≠ 0 then 7 else s.fuses.lifeCycle

/-- The debug bus is open (R353). -/
def State.debugOpen (s : State) : Bool :=
  !s.rig.debugLocked && (decide (s.lcState = 0) || decide (s.lcState = 1) || decide (s.lcState = 3))

/-- The registers of the identity set take the values sensed from the fuses (R351). -/
def State.senseFuses (s : State) : State :=
  let f := s.fuses
  let lc := inFld 17 15 s.lcState ||| inFld 14 12 f.err ||| inFld 11 11 (nat1 f.okh.isSome) ||| inFld 10 10 (nat1 s.debugOpen)
  (((((s.set (Port.SYS_LOT 0) f.lot0).set (Port.SYS_LOT 1) f.lot1).set Port.SYS_WAFER (f.wafer.setWidth 18)).set
    Port.SYS_DIE f.die).set Port.SYS_PART f.part).set Port.SYS_LC lc

/-! ## Flash of the LCF -/

/-- Physical bank of a role: 0 APC active, 1 LKC active, 2 staging. -/
def State.roleBank (s : State) (r : Nat) : Nat := s.rigF 2 3 (3 * r + 2) (3 * r)

/-- Offset of an anchor in FB_A or in a package (R354, R357). -/
def anchorBase (c : Nat) : Nat := c * 0x20000

/-- The dead record of a core: sector 206 + core of FB_3 (PRESUMED, log entry 41). -/
def State.deadRecord (s : State) (c : Nat) : List Word :=
  (List.range 15).map fun i => s.flashWord 3 ((206 + c) * 2048 + i)

/-- The registers of the LCF that show fuses and dead records. -/
def State.lcfShow (s : State) : State :=
  let t := s.set Port.LCF_STAT
    (inFld 17 15 s.lcState ||| inFld 14 12 s.fuses.err ||| inFld 11 9 (s.fuses.openIntents.headD 0))
  let t1 := t.setWide (Port.LCF_OKH 0) 15 (match s.fuses.okh with
    | some h => h.toNat
    | none => 0)
  forNat 2 (fun c t =>
    let d := t.deadRecord c
    if d.getD 14 0 = 0o777777 then t
    else { t with regs := Cells.wrs coldOf t.regs (if c = 0 then Port.LCF_DEAD_0 0 else Port.LCF_DEAD_1 0) d }) t1

/-! ## Images (R357, R358) -/

/-- A valid image's facts. -/
structure ImageInfo where
  len : Nat
  entry : Word
  version : Nat
  digest : BitVec 256
  deriving DecidableEq, Repr

/-- The check of an image of a core at a bank offset (R358): its facts, or 1 header, signature or digest, 2 version,
3 dead record. -/
def State.imageCheck (s : State) (c kind b o : Nat) : ImageInfo ⊕ Nat :=
  match s.flashHws b o 8 with
  | none => .inr 1
  | some h =>
    let g := fun i => h.getD i 0
    let len := (g 2).toNat
    let signed := bitOf (g 6) 17
    let tr := if signed then 64 else 16
    if g 0 ≠ 0o454706 ∨ fld (g 1) 17 15 ≠ c ∨ fld (g 1) 14 12 ≠ kind ∨ fld (g 1) 11 6 ≠ 1 ∨
      fld (g 1) 5 0 ≠ 0 ∨
       fld (g 6) 16 0 ≠ 0 ∨ g 7 ≠ 0 ∨ (if kind = 0 then 245760 else 131072) < len ∨ len < 9 + tr ∨
       (g 3).toNat < 0x4008 ∨ 0x4000 + (len - tr) ≤ (g 3).toNat ∨ (s.lcState = 2 ∧ signed = false) then .inr 1 else
    match s.flashHws b o len with
    | none => .inr 1
    | some ws =>
      let d := sha256 (octetForm (ws.take (len - tr)))
      let t := ws.drop (len - tr)
      let ok := if signed then
          trailerVerifies t d && (match s.fuses.okh with
            | some k => decide (k = trailerKeyHash t)
            | none => true)
        else decide (t.take 15 = splitWords 15 d.toNat) && decide (t.getD 15 1 = 0)
      let v := joinWords [g 4, g 5]
      if ok = false then .inr 1 else
      if kind = 0 ∧ v < joinWords [BitVec.ofNat 18 (s.rigF 14 1 17 0), BitVec.ofNat 18 (s.rigF 14 2 17 0)] then .inr 2 else
      if kind = 0 ∧ s.deadRecord c = splitWords 15 d.toNat then .inr 3 else
      .inl { len := len, entry := g 3, version := v, digest := d }

/-- The digest of the image that a bank holds, by its own LENGTH. -/
def State.imageDigest (s : State) (b o : Nat) : BitVec 256 :=
  let len := (s.flashWord b (o + 2)).toNat
  let tr := if bitOf (s.flashWord b (o + 6)) 17 then 64 else 16
  sha256 (octetForm ((List.range (len - tr)).map fun i => s.flashWord b (o + i)))

/-! ## The LCF log (R359) -/

/-- A log entry. -/
structure LogRow where
  kind : Nat
  core : Nat
  len : Nat
  deriving DecidableEq, Repr

/-- The words of a log row. -/
def logWords (kind core : Nat) (len : Nat) : List Word :=
  let w := inFld 17 15 kind ||| inFld 14 12 core
  [w, BitVec.ofNat 18 len, 0, ~~~w]

/-- Row `i` of sectors 217 and 218. -/
def State.logRow (s : State) (i : Nat) : Option LogRow :=
  match s.flashHws (s.roleBank 2) (217 * 2048 + 4 * i) 4 with
  | some [a, l, z, k] =>
    if k = ~~~a ∧ z = 0 ∧ 1 ≤ fld a 17 15 ∧ fld a 17 15 ≤ 5 ∧ fld a 11 0 = 0 then
      some { kind := fld a 17 15, core := fld a 14 12, len := l.toNat } else none
  | _ => none

/-- Rows whose words are not all erased end the search for a free row. -/
def State.logFree (s : State) : Option Nat :=
  (List.range 1024).find? fun i => (List.range 4).all fun k => s.flashErased (s.roleBank 2) (217 * 2048 + 4 * i + k)

/-- The log in order. -/
def State.log (s : State) : List LogRow := (List.range 1024).filterMap s.logRow

/-- What the log says of a core: 0 nothing open, 1 an ARM without COPY_DONE, 3 a COPY_DONE without CHECKIN or DEAD. -/
def logState (c : Nat) (l : List LogRow) : Nat :=
  l.foldl (fun a r => if r.core ≠ c then a else if r.kind = 1 then 1 else if r.kind = 3 then 3 else
    if r.kind = 4 ∨ r.kind = 5 then 0 else a) 0

/-- LENGTH of a core's last ARM. -/
def armLen (c : Nat) (l : List LogRow) : Nat :=
  l.foldl (fun a r => if r.core = c ∧ r.kind = 1 then r.len else a) 0

/-- Append a row; false when no erased row is left. -/
def State.logAppend (s : State) (kind core len : Nat) : Bool × State :=
  match s.logFree with
  | none => (false, s)
  | some i => (true, s.programAt (s.roleBank 2) (217 * 2048 + 4 * i) (logWords kind core len))

/-! ## Deaths, starts and trials (R361-R363) -/

/-- Set a field of Sec for a core. -/
def State.updSec (s : State) (f : Sec → Sec) : State := { s with sec := f s.sec }

/-- An image is declared dead: the DEAD row and the dead record are written; the core's image is forgotten (R362). -/
def State.declareDead (s : State) (c why : Nat) (d : BitVec 256) : State :=
  let t := (s.logAppend 5 c 0).2
  let t1 := (t.eraseWords 3 (206 + c)).programAt 3 ((206 + c) * 2048) (splitWords 15 d.toNat)
  ((t1.updSec fun x => { x with
    entry := Cells.wr (fun _ => 0) x.entry c 0, trialEnd := Cells.wr (fun _ => 0) x.trialEnd c 0,
    died := Cells.wr (fun _ => 0) x.died c why }).setB Port.LCF_UPD_STAT (3 + c) false).lcfShow

/-- Report a core's source and reason in LCF_BOOT. -/
def State.bootReport (s : State) (c src why : Nat) : State :=
  let h := if c = 0 then 17 else 8
  (s.setF Port.LCF_BOOT h (h - 2) src).setF Port.LCF_BOOT (h - 3) (h - 5) why

/-- The core of a number. -/
def coreOf (c : Nat) : Core := if c = 0 then .apc else .lkc

/-- A core leaves reset at an address. -/
def State.coreGo (s : State) (c : Nat) (entry : Word) : State :=
  s.setCore (coreOf c) { s.core (coreOf c) with inReset := false, bootWait := false, pc := entry }

/-- A core starts an image (R363). -/
def State.imageStart (s : State) (c src why : Nat) (anchor : Bool) (i : ImageInfo) : State :=
  let t := s.updSec fun x => { x with
    entry := Cells.wr (fun _ => 0) x.entry c i.entry, imageLen := Cells.wr (fun _ => 0) x.imageLen c i.len,
    ranAnchor := Cells.wr (fun _ => 0) x.ranAnchor c (nat1 anchor), died := Cells.wr (fun _ => 0) x.died c 0 }
  ((t.bootReport c src why).setWide (Port.LCF_VER (2 * c)) 2 i.version).coreGo c i.entry

/-- The core's anchor runs when it passes, else the LKC stays in reset and the APC waits in the boot ROM.  (DEDUCED,
log entry 72.) -/
def State.anchorStart (s : State) (c why : Nat) : State :=
  match s.imageCheck c 1 4 (anchorBase c) with
  | .inl i => s.imageStart c 3 why true i
  | .inr _ =>
    let t := (s.bootReport c (if c = 0 then 4 else 0) why).updSec fun x => { x with died := Cells.wr (fun _ => 0) x.died c 0 }
    if c = 0 then { t with apc := { t.apc with inReset := false, bootWait := true, pc := 0 } } else t

/-- The active image runs when it passes, else the anchor (R363, 4 to 6). -/
def State.activeStart (s : State) (c : Nat) : State :=
  let r := Cells.rd (fun _ => 0) s.sec.died c
  match s.imageCheck c 0 (s.roleBank c) 0 with
  | .inl i => s.imageStart c 1 0 false i
  | .inr e => s.anchorStart c (if r ≠ 0 then r else if e = 1 then 2 else if e = 2 then 3 else 1)

/-- A core's group is held for an activation (R361). -/
def State.held (s : State) (c : Nat) : Bool := decide (Cells.rd (fun _ => 0) s.sec.holding c ≠ 0)

/-- The LCF holds the group and begins the copy: COPY_START is appended (R361). -/
def State.activate (s : State) (c : Nat) : State :=
  ((s.logAppend 2 c (armLen c s.log)).2.updSec fun x => { x with holding := Cells.wr (fun _ => 0) x.holding c 1 }).vfyTake

/-- Image selection for a core, at a group reset or after a cold or system reset (R363). -/
def State.selectImage (s : State) (c : Nat) (group : Bool) : State :=
  let st := logState c s.log
  let e := Cells.rd (fun _ => 0) s.sec.entry c
  if s.held c then s else
  if st = 3 then
    let t := s.declareDead c 5 (s.imageDigest (s.roleBank c) 0)
    t.anchorStart c 5
  else if st = 1 then s.activate c
  else if group && decide (e ≠ 0) then s.coreGo c e
  else s.activeStart c

/-- Erase the sectors of the active bank that an image takes: a suspect sector loses its mark (R361). -/
def State.eraseBank (s : State) (b n : Nat) : State :=
  let t := forNat n (fun k u => u.eraseWords b k) s
  let k := t.openIntent b
  if k ≠ 0 ∧ k ≤ n then
    { t with flc := { t.flc with intents := Cells.wr (fun _ => 0) t.flc.intents b 0 } }.set (0x1008 + b) 0 else t

/-- Copy a run of flash words. -/
def State.copyFlash (s : State) (b o b2 o2 n : Nat) : State :=
  s.programAt b2 o2 ((List.range n).map fun i => s.flashWord b (o + i))

/-- Steps 2 and 3 of R361. -/
def State.copyImage (s : State) (c n : Nat) : State :=
  (s.eraseBank (s.roleBank c) ((n + 2047) / 2048)).copyFlash (s.roleBank 2) 0 (s.roleBank c) 0 n

/-- The trial begins (R362). -/
def State.trialStart (s : State) (c : Nat) : State :=
  let sec := max 1 (s.getF Port.LCF_TRIAL 7 0)
  (s.updSec fun x => { x with
    trialEnd := Cells.wr (fun _ => 0) x.trialEnd c (s.acct s.time.link + sec * 16000000 + 1) }).setB
    Port.LCF_UPD_STAT (3 + c) true

/-- Steps 2 to 4 of R361, run once more when the check fails and the staged image still passes. -/
def State.copyTwice (s : State) (c n : Nat) : State :=
  let t := s.copyImage c n
  let ok := fun (b : Nat) => match t.imageCheck c 0 b 0 with
    | .inl _ => true
    | .inr _ => false
  if ok (t.roleBank c) || !ok (t.roleBank 2) then t else t.copyImage c n

/-- The copy is done and checked (R361): the core starts its trial, or the image is dead and the anchor runs. -/
def State.activationEnd (s : State) (c : Nat) : State :=
  if s.held c = false then s else
  let n := armLen c s.log
  let t := (s.updSec fun x => { x with holding := Cells.wr (fun _ => 0) x.holding c 0 }).copyTwice c n
  let u := if t.sec.holding.isEmpty then t.vfyFree else t
  match u.imageCheck c 0 (u.roleBank c) 0 with
  | .inl i => (((u.logAppend 3 c n).2).imageStart c 2 0 false i).trialStart c
  | .inr _ => (u.declareDead c 6 (u.imageDigest (u.roleBank 2) 0)).anchorStart c 6

/-- The copy was cut by a cold or system reset, at a point that is open (R364, log entry 1): during the erase, whose
sector is then suspect, or during the copy, whose last row is undefined.  (DESIGN CHOICE, log entry 71.) -/
def State.activationCut (s : State) (c : Nat) : State :=
  if s.held c = false then s else
  let n := armLen c s.log
  let b := s.roleBank c
  let k := s.freeNat
  let t := (s.updSec fun x => { x with holding := Cells.wr (fun _ => 0) x.holding c 0 }).nextFree
  if Config.freeBit s.free then
    let m := k % max 1 ((n + 2047) / 2048)
    let u := t.eraseBank b m
    { u with flc := { u.flc with intents := Cells.wr (fun _ => 0) u.flc.intents b (m + 1) } }
  else
    let m := k % max 1 ((n + 3) / 4) * 4
    let u := (t.eraseBank b ((n + 2047) / 2048)).copyFlash (t.roleBank 2) 0 b 0 m
    forNat 4 (fun i v => v.flashMark b (m + i) 3) u

/-- A core checks in (R362). -/
def State.checkIn (s : State) (c : Nat) : State :=
  if Cells.rd (fun _ => 0) s.sec.trialEnd c = 0 then s else
  ((s.logAppend 4 c 0).2.updSec fun x => { x with trialEnd := Cells.wr (fun _ => 0) x.trialEnd c 0 }).setB
    Port.LCF_UPD_STAT (3 + c) false

/-! ## ARM (R360) -/

/-- A block record matches the block's words up to LENGTH - 1. -/
def State.blockOk (s : State) (len k : Nat) : Bool :=
  let b := s.roleBank 2
  match s.flashHws b (0x6C000 + 4 * k) 4, s.flashHws b (4096 * k) (min 4096 (len - 4096 * k)) with
  | some [i, c0, c1, z], some ws =>
    decide (i = BitVec.ofNat 18 k) && decide (z = 0) && decide (crcWords ws = (c0, c1))
  | _, _ => false

/-- A write to LCF_UPD_CMD: the LCF takes the verify engine. -/
def State.updCmd (s : State) (v : Word) : State :=
  if v ≠ 1 then s else
  if s.getB Port.LCF_UPD_STAT 17 then s.setB Port.LCF_UPD_STAT 16 true else
  (s.setB Port.LCF_UPD_STAT 17 true).vfyTake

/-- ARM ends with a result and a block. -/
def State.armEnd (s : State) (r blk : Nat) : State :=
  (((s.setB Port.LCF_UPD_STAT 17 false).setF Port.LCF_UPD_STAT 14 12 r).setF Port.LCF_UPD_STAT 11 6 blk).vfyFree

/-- The checks of ARM end; on success an ARM row is programmed. -/
def State.armDone (s : State) : State :=
  if s.getB Port.LCF_UPD_STAT 17 = false then s else
  if s.log.any (fun r => decide (r.kind = 1)) then s.armEnd 5 0 else
  let len := (s.flashWord (s.roleBank 2) 2).toNat
  let c := fld (s.flashWord (s.roleBank 2) 1) 17 15
  match (List.range (min 60 ((len + 4095) / 4096))).find? fun k => !s.blockOk len k with
  | some k => s.armEnd 1 k
  | none =>
    if 1 < c then s.armEnd 2 0 else
    match s.imageCheck c 0 (s.roleBank 2) 0 with
    | .inr e => s.armEnd (e + 1) 0
    | .inl _ => match s.logAppend 1 c len with
      | (true, t) => t.armEnd 0 0
      | (false, t) => t.armEnd 6 0

/-! ## Transitions (R354, R355) -/

/-- A token in the mailbox passes (R355). -/
def State.tokenOk (s : State) (o dest : Nat) : Bool :=
  if s.mbxWords < o + 72 then false else
  let ws := s.mbxRds o 72
  let tr := ws.drop 8
  decide (ws.take 8 = [0o454707, inFld 17 15 s.fuses.lifeCycle ||| inFld 14 12 dest, s.fuses.lot0, s.fuses.lot1,
    s.fuses.wafer.setWidth 18, s.fuses.die, 0, 0]) &&
  trailerVerifies tr (sha256 (octetForm (ws.take 8))) && decide (s.fuses.okh = some (trailerKeyHash tr))

/-- The anchor package in the staging bank passes (R354). -/
def State.packageOk (s : State) (signed : Bool) : Bool :=
  [0, 1].all fun c =>
    let base := anchorBase c
    (match s.imageCheck c 1 (s.roleBank 2) base with
     | .inl _ => true
     | .inr _ => false) && (!signed || bitOf (s.flashWord (s.roleBank 2) (base + 6)) 17)

/-- The result of the checks of a transition: 0 accepts it. -/
def State.transCheck (s : State) (dest o : Nat) (pkg : Bool) : Nat :=
  let lc := s.lcState
  let okh := s.fuses.okh.isSome
  if s.sec.trans ≠ 0 ∨ s.getB Port.LCF_UPD_STAT 17 ∨ !s.sec.holding.isEmpty then 6 else
  if ¬((lc = 0 ∧ (dest = 1 ∨ dest = 2)) ∨ (lc = 1 ∧ (dest = 2 ∨ dest = 3)) ∨ (lc = 2 ∧ dest = 3)) then 1 else
  if dest = 2 ∧ okh = false then 4 else
  if (lc = 1 ∧ dest = 2) ∧ s.tokenOk o dest = false then 2 else
  if dest = 3 ∧ (lc = 2 ∨ okh) ∧ s.tokenOk o dest = false then 2 else
  if (dest = 2 ∨ (dest = 1 ∧ pkg)) ∧ s.packageOk (decide (dest = 2)) = false then 3 else 0

/-- FUSE_OKH (R351): accepted only in BLANK and DEVELOP with no hash fused.  (DEDUCED, log entry 70.) -/
def State.fuseOkh (s : State) : State :=
  let o := s.getF Port.LCF_LC_ARG 13 0
  let r := fun (t : State) (v : Nat) => t.setF Port.LCF_STAT 5 3 v
  if s.sec.trans ≠ 0 ∨ s.getB Port.LCF_UPD_STAT 17 then r s 6 else
  if s.fuses.okh.isSome then r s 5 else
  if s.lcState ≠ 0 ∧ s.lcState ≠ 1 then r s 1 else
  if s.mbxWords < o + 32 ∨ anyTag (s.mbxRds o 32) then r s 2 else
  r { s with fuses := { s.fuses with okhTri := some (Tri.all (sha256 (nonetOctets (s.mbxRds o 32)))) } } 0

/-- Program a target's INTENT, ANCHORED or DONE fuse (R356). -/
def Fuses.burnIntent (f : Fuses) (t : Nat) : Fuses := { f with intent := f.intent ||| BitVec.twoPow 4 t }
def Fuses.burnAnchored (f : Fuses) (t : Nat) : Fuses := { f with anchored := f.anchored ||| BitVec.twoPow 4 t }
def Fuses.burnDone (f : Fuses) (t : Nat) : Fuses := { f with done := f.done ||| BitVec.twoPow 4 t }

/-- Every word of a bank is erased. -/
def State.eraseWhole (s : State) (b : Nat) : State :=
  let t := { s with mem := { s.mem with flash := Cells.keep (fun k => decide (k / 524288 ≠ b)) s.mem.flash,
                                        flashErr := Cells.keep (fun k => decide (k / 524288 ≠ b)) s.mem.flashErr } }
  { t with flc := { t.flc with intents := Cells.wr (fun _ => 0) t.flc.intents b 0 } }

/-- Step 3 of R356: FB_A takes the package, is left erased for RETURN, or is kept. -/
def State.transAnchor (s : State) (dest : Nat) : State :=
  if s.fuses.anchored.getLsbD dest then s else
  let t := if dest = 3 then s.eraseWhole 4 else
    if s.sec.transPkg then
      let b := s.roleBank 2
      let n := fun c => min 131072 (s.flashWord b (anchorBase c + 2)).toNat
      ((s.eraseWhole 4).copyFlash b 0 4 0 (n 0)).copyFlash b (anchorBase 1) 4 (anchorBase 1) (n 1)
    else s
  { t with fuses := t.fuses.burnAnchored dest }

/-- Step 5 of R356: key slots, SRAM, DRAM and FB_0 to FB_3 are wiped. -/
def State.transWipe (s : State) : State :=
  forNat 4 (fun b t => t.eraseWhole b) ((s.slotsEmpty.zeroBanks fun _ => true).dmcWipe)

end Sys2Proof.Machine
end

