-- ==== Sys2Proof/Machine/RigApply.lean ====
section
/-! DEFINITION. Putting an accepted Rig in force: the registers whose Cold value is "Rig" (R42, R43, R388), pools
(R62, R106), event wiring (R419, R420), pins (R445), bands (R128), and a live fragment (R44-R46). -/

namespace Sys2Proof.Machine

open Sys2Proof

/-! ## Pools (R62, R106) -/

/-- Lanes, sequencers and chains that the Rig's member has (R38). -/
def State.usableLanes (s : State) : Nat := memberLanes (rigMember s.rig.words)
def State.usableSeqs (s : State) : Nat := memberSeqs (rigMember s.rig.words)

/-- The role a lane has when the Rig is applied (R62). -/
def State.poolRole (s : State) (l : Nat) : Nat :=
  let n := s.rigF 4 0 5 0
  let w := s.rigF 4 0 11 6
  let sp := s.rigF 4 0 17 12
  let top := s.usableLanes
  if top ≤ l then 0 else if l < n then 1 else if l < n + w then 2 else if top - sp ≤ l then 3 else 0

/-- A lane's Rig-loaded registers. -/
def State.rigLane (s : State) (l : Nat) : State :=
  (s.setF (Port.LAN_CFG l) 14 12 (s.rigF 4 1 8 6)).setLaneRole l (s.poolRole l)

/-- The pool a sequencer has when the Rig is applied: 0 off, 1 active, 2 spare (R106). -/
def State.seqPool (s : State) (q : Nat) : Nat :=
  let n := s.rigF 5 0 5 0
  let sp := s.rigF 5 0 11 6
  if q < n then 1 else if q < min s.usableSeqs (n + sp) then 2 else 0

/-! ## Event wiring (R36, R419) -/

/-- Wire one entry of EVENT_WIRING. -/
def State.wire (s : State) (a b : Word) : State :=
  let k := fld a 17 15
  let ch := fld b 5 0
  let t := fld a 8 0
  if k = 1 then
    let u := (s.set (Port.EVF_CH_SRC ch) (inFld 14 12 (fld a 14 12) ||| inFld 8 0 t)).set (Port.EVF_CH_GATE ch)
      (inFld 8 0 (fld b 14 6))
    if bitOf b 17 then u.setB Port.EVF_GRP (fld a 14 12) true else u
  else if k = 2 then (s.setF (Port.EVF_TASK t) 14 9 ch).setB (Port.EVF_TASK t) 17 true
  else if k = 3 then (s.setF (Port.EVF_TASK t) 5 0 ch).setB (Port.EVF_TASK t) 8 true
  else if k = 4 then s.set (Port.EVF_CH_GUARD (fld a 5 0)) (inFld 17 9 (fld b 17 9) ||| inFld 8 0 (fld b 8 0))
  else s

/-- A channel, group or task register of the fabric. -/
def wiringPort (p : Nat) : Bool :=
  (inRange 0x0400 0x057F p && decide (p % 8 ≤ 2)) || decide (p = Port.EVF_GRP) || inRange 0x0600 0x070B p

/-- Replace the whole wiring; guard counts restart at zero (R46, R419). -/
def State.wiring (s : State) (b : List Word) : State :=
  let t := forNat 48 (fun ch u => (u.setGuard ch 0).setF (Port.EVF_CH_STAT ch) 8 0 0) (s.coldRegs wiringPort)
  forNat (fld (b.getD 0 0) 11 0) (fun i u => u.wire (b.getD (1 + 2 * i) 0) (b.getD (2 + 2 * i) 0)) t

/-! ## Registers by domain (R43, R388) -/

/-- A GPIO ball's Rig-loaded registers (R445). -/
def State.rigGpio (s : State) (g : Nat) : State :=
  let w := (rigSec s.rig.words 10).getD (2 + g) 0
  let drives := decide (fld w 5 0 = 2) || decide (fld w 5 0 = 3)
  (s.set (Port.GPIO_CFG g) (inFld 14 0 (fld w 14 0))).setB (Port.GPIO_OUT (g / 16)) (g % 16)
    (drives && decide (fld w 14 12 = 1))

/-- A band's Rig-loaded registers; a band that is not configured reads zero. -/
def State.rigBand (s : State) (b : Nat) : State :=
  if b < s.rigF 13 0 3 0 then
    let g := fun i => (rigSec s.rig.words 13).getD (6 * b + i) 0
    (((((s.set (Port.LTB_ACC_LOW b) (g 1)).set (Port.LTB_ACC_HIGH b) (g 2)).set (Port.LTB_ACC_WIN b) (g 3)).set
      (Port.LTB_ACC_ALLOW b) (g 4)).set (Port.LTB_ACC_DWELL b) (g 5)).set (Port.LTB_ACC_PWR b) (g 6)
  else s

/-- The Rig-loaded registers of AON. -/
def State.rigAon (s : State) : State :=
  let w := s.rig.words
  let t := (s.set Port.PWR_WAKE (BitVec.ofNat 18 (s.rigF 9 4 4 0))).setB Port.CLK_STAT 13 (decide (s.rigF 1 0 2 0 = 1))
  let t1 := forNat 4 (fun i u => u.set (Port.PWR_MASK i) ((rigSec w 9).getD i 0)) t
  let t2 := forNat 2 (fun i u => (u.set (Port.MEM_PART i) ((rigSec w 2).getD i 0)).set (Port.WDG_TIME i)
    (BitVec.ofNat 18 (s.rigF 1 2 11 0 * 16))) t1
  let t3 := forNat 8 (fun i u => u.set (Port.TXC_FEC i) ((rigSec w 10).getD (50 + i) 0)) t2
  let t4 := (forNat 48 (fun g u => u.rigGpio g) t3).wiring (rigSec w 8)
  (forNat 8 (fun b u => u.rigBand b) t4).bandsInForce

/-- One queue's Rig-loaded registers (R209). -/
def State.rigQueue (s : State) (q : Nat) : State :=
  if q < s.rigF 7 0 7 0 then
    let b := rigSec s.rig.words 7
    (((s.set (Port.BSN_Q_CFG q) (b.getD (1 + 3 * q) 0)).set (Port.BSN_Q_MARK q) (b.getD (2 + 3 * q) 0)).set
      (Port.BSN_Q_IDLE q) (b.getD (3 + 3 * q) 0)).setB (Port.BSN_Q_STAT q) 17 true
  else s

/-- The Rig-loaded registers of a switched domain, at its release (R388); none before a Rig is applied.  (DEDUCED, log
entry 25.) -/
def State.rigDomain (s : State) (d : Nat) : State :=
  if s.rig.applied = false then s else
  if d = 2 then
    let t := forNat 4 (fun i u => u.set (Port.TRM_POL i) ((rigSec s.rig.words 12).getD i 0)) s
    forNat 16 (fun q u => u.setF (Port.SEQ_STAT q) 17 15 (u.seqPool q)) t
  else if d = 3 then forNat 32 (fun l u => u.rigLane l) s
  else if d = 4 then forNat 32 (fun l u => u.rigLane (32 + l)) s
  else if d = 5 then
    (s.set (Port.RXC_PLAN 0) ((rigSec s.rig.words 3).getD 0 0)).set (Port.RXC_PLAN 1)
      (inFld 17 15 (s.rigF 3 2 5 3) ||| inFld 14 12 (s.rigF 3 2 2 0) ||| inFld 11 0 (s.rigF 3 1 11 0))
  else if d = 11 then
    (forNat 128 (fun q u => u.rigQueue q) s).setB Port.BSN_STAT 0 (decide (s.rigF 6 0 0 0 = 1))
  else if d = 12 then s.setF Port.DMC_CFG 17 12 (s.rigF 2 2 2 0 * 8 + s.rigF 2 2 5 3)
  else if d = 13 then
    let on := decide (s.stackRole ≠ 0)
    (s.setB (Port.UTV_P_CTRL 0) 0 on).setB (Port.UTV_P_CTRL 1) 0 on
  else if d = 14 then s.set Port.FLC_ROLE (inFld 8 0 (s.rigF 2 3 8 0))
  else s

/-- Domains that Run holds on under the Rig (R38, R386): a smaller member uses neither LAN_32-LAN_63 nor chain B, and
PD_DRAMC and PD_UTVIS stay off.  (DEDUCED, log entry 33.) -/
def State.rigDomains (s : State) : BitVec 16 := if rigMember s.rig.words = 3 then 0xFFFF else 0xCEAF

/-! ## Live re-application (R44-R46) -/

/-- What a check needs (R37-R39). -/
def State.rigContext (s : State) (live : Bool) : RigContext :=
  { live := live, field := decide (s.lcState = 2), okh := s.fuses.okh, stackId := s.pins.stackId.toNat, base := s.rig.words }


/-- A write of RIG_LIVE_CMD: the fragment is taken from the mailbox and its check starts; PD_CIPHER is powered for it
(R44).  While LIVE is busy it sets LIVE_OVR (R45).  (DESIGN CHOICE, log entry 27.) -/
def State.liveCmd (s : State) (v : Word) : State :=
  if s.ready = false then s else
  if s.liveState = 1 then s.setB Port.RIG_STAT 2 true else
  if v ≠ 1 then s else
  let o := s.getF Port.RIG_LIVE_ADDR 13 0
  let h := s.mbxRds o 8
  let n := min (s.mbxWords - o) (max 8 (rigLength h))
  let ws := s.mbxRds o n
  let r := rigCheck (s.rigContext true) ws
  { s with rig := { s.rig with live := ws, liveFault := r.1, liveSection := r.2,
                               cipherOff := !s.pwr.on.getLsbD 15 },
           pwr := { s.pwr with on := s.pwr.on ||| BitVec.twoPow 16 15 } }.setF Port.RIG_STAT 5 3 1


/-- New marks of a queue; an occupancy above the new high mark, or below the new low mark after a high crossing, raises
its event once at the apply edge (R46). -/
def State.liveMarks (s : State) (b : List Word) (q : Nat) : State :=
  if q < s.rigF 7 0 7 0 then
    let t := s.set (Port.BSN_Q_MARK q) (b.getD (2 + 3 * q) 0)
    match t.marks q with
    | none => t
    | some (hi, lo) =>
      let n := t.occupancy q
      if hi < n then ((t.setB (Port.BSN_Q_STAT q) 16 true).queueFlag q 1).raise Irq.BSN_HIGH
      else if n < lo ∧ s.getB (Port.BSN_Q_STAT q) 16 then
        ((t.setB (Port.BSN_Q_STAT q) 16 false).queueFlag q 2).raise Irq.BSN_LOW
      else t
  else s

/-- The check is complete: the fragment is applied whole or refused, and PD_CIPHER returns to its earlier state
(R44, R46).  The accepted Rig, from which later releases load, stays as it is. -/
def State.liveEnd (s : State) (cipherDown : State → State) : State :=
  if s.liveState ≠ 1 then s else
  let f := s.rig.live
  let w := s.rig.liveFault
  let t := if w ≠ 0 then s.setF Port.RIG_STAT 5 3 3 else
    let t1 := match rigBody f 12 with
      | some b => if s.domOn 2 then forNat 4 (fun i u => u.set (Port.TRM_POL i) (b.getD i 0)) s else s
      | none => s
    let t2 := match rigBody f 7 with
      | some b => if s.domOn 11 then forNat 128 (fun q u => u.liveMarks b q) t1 else t1
      | none => t1
    let t3 := match rigBody f 8 with
      | some b => t2.wiring b
      | none => t2
    (t3.setF Port.RIG_STAT 5 3 2).set Port.RIG_LIVE_COUNT (t3.get Port.RIG_LIVE_COUNT + 1)
  let u := (t.setF Port.RIG_FAULT 11 6 w).setF Port.RIG_FAULT 5 0 s.rig.liveSection
  let v := { u with rig := { u.rig with live := [], liveFault := 0, liveSection := 0, cipherOff := false } }
  (if s.rig.cipherOff then cipherDown v else v).raise Irq.RIG_LIVE

end Sys2Proof.Machine
end

