-- ==== Sys2Proof/Machine/Power.lean ====
section
/-! DEFINITION. Power domains going off, being reset and released (R299, R387-R389, R399), group resets (R19-R21), the
power controller (R386-R395), the watchdog (R403-R405) and the Sluice's granting (R408). -/

namespace Sys2Proof.Machine

open Sys2Proof

/-! ## Reset causes (R401) -/

/-- Record a reset: its RST_CAUSE bit and RST_LAST. -/
def State.resetCause (s : State) (cls bit dom : Nat) : State :=
  (s.setB Port.RST_CAUSE bit true).set Port.RST_LAST (inFld 17 15 cls ||| inFld 14 9 bit ||| inFld 3 0 dom)

/-- RST_CAUSE bits of the causes (R399, R401). -/
def coldBit : ColdCause → Nat
  | .powerOn _ => 17
  | .brownout => 16
  | .resetPin => 15
  | .watchdog c => 14 - c.num
  | .command => 10
  | .lifeCycle => 9

def sysBit : SysCause → Nat
  | .command => 10
  | .watchdog c => 14 - c.num
  | .refLoss => 8
  | .pll => 7

def groupBit (c : Core) : GroupCause → Nat
  | .command => 10
  | .watchdog => 14 - c.num
  | .lockup => 12 - c.num
  | .trial => 6
  | .reef => 5

def domBit : DomCause → Nat
  | .command => 10
  | .pll => 7

/-! ## Watchdog (R403-R405) -/

/-- TIMEOUT as it acts: 1 to 64,000 ms. -/
def State.wdgTimeout (s : State) (c : Nat) : Nat := min 64000 (max 1 (s.getF (Port.WDG_TIME c) 15 0))

/-- TIMEOUT in force since the last restart. -/
def State.wdgForce (s : State) (c : Nat) : Nat := Cells.rd (fun _ => 0) s.pwr.wdgTime c

/-- OPEN: at least CLOSED/8 of TIMEOUT has elapsed. -/
def State.wdgOpen (s : State) (c : Nat) : Bool :=
  decide (s.getF (Port.WDG_CFG c) 11 9 * s.wdgForce c ≤ 8 * (s.wdgForce c - s.getF (Port.WDG_STAT c) 15 0))

/-- Show OPEN. -/
def State.wdgShow (s : State) (c : Nat) : State := s.setB (Port.WDG_STAT c) 17 (s.getB (Port.WDG_CFG c) 17 && s.wdgOpen c)

/-- Note the first word of a kick. -/
def State.setKick (s : State) (c v : Nat) : State :=
  { s with pwr := { s.pwr with kick := Cells.wr (fun _ => 0) s.pwr.kick c v } }

/-- Restart a channel's count. -/
def State.wdgRestart (s : State) (c : Nat) : State :=
  let n := s.wdgTimeout c
  ((({ s with pwr := { s.pwr with wdgTime := Cells.wr (fun _ => 0) s.pwr.wdgTime c n,
                                  kick := Cells.wr (fun _ => 0) s.pwr.kick c 0,
                                  warned := Cells.wr (fun _ => 0) s.pwr.warned c 0 } }).setF (Port.WDG_STAT c) 15 0 n).wdgShow c)

/-- A channel counts (R403, R405). -/
def State.wdgCounts (s : State) (c : Nat) : Bool :=
  let k := s.core (coreOf c)
  s.getB (Port.WDG_CFG c) 17 && !(s.getB (Port.WDG_CFG c) 16 && k.halted) &&
  !(!s.getB (Port.WDG_CFG c) 15 && (k.gated || (decide (s.level ≠ 0) && !s.domOn c)))

/-- One millisecond of WDGCLK passes. -/
def State.wdgTick (s : State) (c : Nat) : State :=
  if s.wdgCounts c then (s.setF (Port.WDG_STAT c) 15 0 (s.getF (Port.WDG_STAT c) 15 0 - 1)).wdgShow c else s

/-! ## Domains going off or into reset -/

/-- A register of a domain, banked copies among them. -/
def domPort (d k : Nat) : Bool := decide (portDomain (k % 65536) = some d)

/-- The aperture registers and the context window base of a core (R305). -/
def aperturePort (c p : Nat) : Bool := inRange (0x1410 + 8 * c) (0x1417 + 8 * c) p || decide (p = 0x1420 + c)

/-- A core goes into reset: its registers and its aperture registers return to their Cold values, pending interrupts and
its waiting accesses are discarded, and its Basin copy is emptied (R20, R217, R274, R292, R305). -/
def State.coreReset (s : State) (c : Core) : State :=
  let t := (((s.copyReset c.master).seqClear c.num).coldRegs (aperturePort c.num)).setCore c
    { CoreState.reset with inReset := true }
  { t with dmc := { t.dmc with queue := t.dmc.queue.filter fun r => decide (r.port ≠ c.num) } }

/-- Lanes of a domain go off: packets they receive or hold are lost and their cells return (R196). -/
def State.lanesOff (s : State) (base : Nat) : State :=
  forNat 32 (fun i t =>
    let l := base + i
    let x := t.lane l
    let t1 := forEach x.stage (fun g t => t.marked g.queue fun t => t.freeAll g.pkt.cells) t
    let t2 := match x.pkt with
      | some p => t1.marked p.queue fun t => t.freeAll p.cells
      | none => t1
    t2.setLane l Lane.idle) s

/-- PD_SEQ goes off: sequencers, calendar, searches, trim and open order-keeper entries are gone; requests of
sequencers are withdrawn (R21, R125, R196).  (DEDUCED, log entry 129.) -/
def State.seqsOff (s : State) : State :=
  let t := s.cutOwner fun o => match o with
    | .test => false
    | _ => true
  let t1 := (forEach t.entries (fun e u => u.freeHole e) t).setEntries []
  let t2 := forNat 64 (fun l u =>
    let x := u.lane l
    if x.seq.isSome ∨ x.helper.isSome ∨ x.slot.isSome then
      (u.laneStop l).updLane l fun y => { y with seq := none, helper := none, slot := none } else u) t1
  let k := t2.link
  let u := t2.utv
  { t2 with
    link := { Link.reset with sniff := k.sniff, sniffOn := k.sniffOn, ledgers := k.ledgers },
    trim := Trim.reset,
    utv := { u with standby := [], copies := [], substSeq := [], retire := [], listen := [] } }

/-- PD_BASIN goes off: queues, copies and every packet of a lane are gone (R225). -/
def State.basinOff (s : State) : State :=
  let t := forNat 64 (fun l u =>
    let x := u.lane l
    if x.pkt.isNone ∧ x.stage.isEmpty then u else
    let v := u.updLane l fun y => { y with pkt := none, stage := [] }
    if x.pkt.isSome then v.laneAfter l else v) s
  let t1 := t.setEntries (t.entries.map fun e => { e with hole := none })
  ({ t1 with link := { t1.link with headSent := [] } }).basinEmpty

/-- PD_UTVIS goes off: both ports fall, the stack's state is lost; bursts owed stay (R252, R271). -/
def State.utvisOff (s : State) : State :=
  let t := forNat 2 (fun p u => if u.lstate p = 5 then u.portDown p else u) s
  let owed := fun p => (t.uport p).burst
  let u := { t with utv := Utvis.reset }
  forNat 2 (fun p v => if owed p then v.updPort p fun x => { x with burst := true } else v) u

/-- PD_CIPHER goes off or is reset: jobs and verify commands end; key slots are kept over power-off and emptied by a
reset (R349). -/
def State.cipherOff (s : State) (rst : Bool) : State :=
  let l := s.sec.jobs ++ s.sec.running.toList
  let t := forEach l (fun j u => if (u.copy j.m).deferred = 15 then u.jobHold j 0 else u) s
  let u := { t with sec := { t.sec with jobs := [], running := none, jobResult := 0, vfy := 0, vfyHeld := 0 } }
  if rst then u.slotsEmpty else u

/-- The blocks of a domain stop. -/
def State.domHidden (s : State) (d : Nat) (rst : Bool) : State :=
  if d = 0 then s.coreReset .apc else
  if d = 1 then s.coreReset .lkc else
  if d = 2 then s.seqsOff else
  if d = 3 then s.lanesOff 0 else
  if d = 4 then s.lanesOff 32 else
  if d = 5 then
    let t := ((s.dropReady [0, 1]).chainDown 0).chainDown 1
    { t with rx := { t.rx with watchIn := [] } }
  else if d = 6 then s.chainDown 1 else
  if d = 7 then s.chainDown 0 else
  if d = 8 then s.chainDown 1 else
  if d = 9 then s.txOff 0 else
  if d = 10 then s.txOff 1 else
  if d = 11 then s.basinOff else
  if d = 12 then
    let t := if rst then s.dmcReset else s.dmcOff
    ((t.sluiceDrop Act.dramPcal).sluiceDrop Act.dramRetrain).sluiceDrop Act.srEntry
  else if d = 13 then s.utvisOff else
  if d = 14 then s.flashStop else
  if d = 15 then s.cipherOff rst else s

/-- A domain goes off (rst false) or into reset: its blocks stop, its registers return to Cold, its banks lose their
contents, and it answers no access until its release (R18, R299). Slot registers of the cipher engine are kept over
power-off (R349). -/
def State.domStop (s : State) (d : Nat) (rst : Bool) : State :=
  if s.domOn d then
    let t := (s.domHidden d rst).coldRegs fun k => domPort d k && (rst || !inRange 0x6100 0x62FF k)
    (t.zeroDomain d).setB Port.PWR_DOM_STAT d false
  else s

/-- A domain's power switch opens (R391). -/
def State.domOff (s : State) (d : Nat) : State :=
  let t := s.domStop d false
  { t with pwr := { t.pwr with on := t.pwr.on &&& ~~~(BitVec.twoPow 16 d) } }

/-- A domain's power switch closes (R388). -/
def State.domClose (s : State) (d : Nat) : State :=
  { s with pwr := { s.pwr with on := s.pwr.on ||| BitVec.twoPow 16 d } }

/-- Domains of a core's group (R19). -/
def groupDoms (c : Nat) : List Nat := if c = 0 then [0] else [1, 2, 3, 4]

/-- The group of a domain: 0 application, 1 link, 2 shared. -/
def groupOf (d : Nat) : Nat := if d = 0 then 0 else if d ≤ 4 then 1 else 2

/-- Every released domain of a core's group goes into reset. -/
def State.groupDown (s : State) (c : Nat) : State := forEach (groupDoms c) (fun d t => t.domStop d true) s

/-- A reset of a core's group (R19-R21): it counts and is recorded; while the LCF holds the group it has no effect
(R361).  A link-group reset clears APC_WR of MEM_CSW_GRANT (R306). -/
def State.groupReset (s : State) (c : Core) (cause : GroupCause) : State :=
  if s.held c.num then s else
  let t := s.groupDown c.num
  ((if c = .lkc then t.set Port.MEM_CSW_GRANT 0 else t).resetCause (3 + c.num) (groupBit c cause) 0).count (Port.RST_CNT c.num)

/-- A reset of a shared domain; one of another group acts as that group's reset (R399). -/
def State.domReset (s : State) (d : Nat) (cause : DomCause) : State :=
  let g : GroupCause := .command
  if d = 0 then s.groupReset .apc g else
  if d ≤ 4 then s.groupReset .lkc g else
  ((s.domStop d true).resetCause 5 (domBit cause) d).count (Port.RST_CNT 2)

/-! ## Release (R387, R388) -/

/-- A core leaves reset at the release of its group: image selection, and the watchdog's count restarts (R363, R404).  A
group the LCF takes for an activation goes back into reset (R361). -/
def State.coreStart (s : State) (c : Nat) : State :=
  let t := s.selectImage c true
  if t.held c then t.groupDown c else t.wdgRestart c

/-- The blocks of a domain after its release. -/
def State.domStarted (s : State) (d : Nat) (fromReef : Bool) : State :=
  if 5 ≤ d ∧ d ≤ 8 then (s.calBegin 0).calBegin 1 else
  if d = 9 then s.txReleased 0 else
  if d = 10 then s.txReleased 1 else
  if d = 11 then { s with basin := { s.basin with born := s.time.wall } } else
  if d = 12 then s.dmcRelease else
  if d = 13 then s.utvisUp fromReef else
  if d = 15 then
    forNat 2 (fun c t => t.setB Port.LCF_UPD_STAT (3 + c) (decide (Cells.rd (fun _ => 0) t.sec.trialEnd c ≠ 0))) s.lcfShow
  else s

/-- A domain's reset is released: its banks are zeroed, its Rig-loaded registers are reloaded (R299, R388). -/
def State.domUp (s : State) (d : Nat) (fromReef : Bool) : State :=
  (((s.zeroDomain d).setB Port.PWR_DOM_STAT d true).rigDomain d).domStarted d fromReef

/-- Every closed switch's domain is released. -/
def State.allUp (s : State) : Bool :=
  (List.range 16).all fun d => !s.pwr.on.getLsbD d || s.domOn d

/-- PWR_STAT PHASE. -/
def State.phase (s : State) : Nat := s.getF Port.PWR_STAT 11 9
def State.setPhase (s : State) (v : Nat) : State := s.setF Port.PWR_STAT 11 9 v
/-- LEVEL changes, and with it balls that show it (R445). -/
def State.setLevel (s : State) (v : Nat) : State := s.withEdges fun t => t.setF Port.PWR_STAT 17 15 v
/-- WINDOW changes, and with it balls that show it (R445). -/
def State.setWindow (s : State) (v : Bool) : State := s.withEdges fun t => t.setB Port.PWR_STAT 6 v

/-- Gate a core's clock, or let it run. -/
def State.gateCore (s : State) (c : Nat) (v : Bool) : State :=
  s.setCore (coreOf c) { s.core (coreOf c) with gated := v }

/-- The end of an exit (R394): LEVEL is 0, gated cores run, and each core whose domain was off starts, recorded with cause
REEF.  (DEDUCED, log entry 28.) -/
def State.exitEnd (s : State) : State :=
  let t := (((s.setPhase 0).setLevel 0).gateCore 0 false).gateCore 1 false
  let go := fun (c : Nat) (u : State) =>
    if (u.core (coreOf c)).inReset ∧ u.domOn c then
      ((u.resetCause (3 + c) 5 0).count (Port.RST_CNT c)).coreStart c else u
  go 1 (go 0 t)

/-- A restored domain is released (R387): none whose switch is open or whose group the LCF holds, and no core group or
radio during a transition (R356, R361). -/
def State.domRelease (s : State) (d : Nat) : State :=
  if s.pwr.on.getLsbD d = false ∨ s.domOn d ∨ s.time.stopped ∨ (groupOf d < 2 ∧ s.held (groupOf d)) ∨
      (s.sec.trans ≠ 0 ∧ d ≤ 10) then s else
  let t := s.domUp d (decide (s.phase = 4))
  if t.phase = 4 then (if t.allUp then t.exitEnd else t)
  else if t.level = 3 then
    t.setWindow (t.link.sniffOn && t.allUp)
  else if t.ready ∧ d ≤ 1 then t.coreStart d else t

/-! ## Entry, wake and exit (R390-R394) -/

/-- MASK of a level's domains that may stay on (R36, R386). -/
def State.levelMask (s : State) (l : Nat) : Word := s.get (Port.PWR_MASK (l - 1))

/-- Domains that go off on entry to a level: in Reef 3 and Furl every one (R386). -/
def State.goesOff (s : State) (l d : Nat) : Bool :=
  s.pwr.on.getLsbD d && (decide (l = 3) || decide (l = 4) || !bitOf (s.levelMask l) d)

/-- A domain is quiet (R391 step 2).  A DRAM controller that is OFF or in RESET has no DRAM to put in self-refresh (log
entry 42). -/
def State.domQuiet (s : State) (d : Nat) : Bool :=
  if d = 14 then !s.getB Port.FLC_STAT 17 && !s.granted Act.flash
  else if d = 12 then (decide (s.dmcState = 5) || decide (s.dmcState ≤ 1)) &&
    !(s.granted Act.dramPcal || s.granted Act.dramRetrain || s.granted Act.srEntry)
  else if d = 15 then s.sec.running.isNone && s.sec.jobs.isEmpty && decide (s.sec.vfy = 0)
  else if d = 9 ∨ d = 10 then decide (s.syn (d - 9) ≠ 5) && !s.granted (Act.syn (d - 9))
  else if d = 7 ∨ d = 8 then !s.granted (Act.rxcal (d - 7))
  else true

/-- Step 2's condition for an entry. -/
def State.entryQuiet (s : State) (l : Nat) : Bool :=
  ((List.range 16).all fun d => !s.goesOff l d || s.domQuiet d) && s.host.buf.isEmpty &&
  decide (s.syn 0 ≠ 5) && decide (s.syn 1 ≠ 5)

/-- The pending, enabled source of highest priority, the lowest number on equal priority: its number and priority
(R287). -/
def CoreState.best (c : CoreState) : Option (Nat × Nat) :=
  let pri := fun n => (c.ipri.extractLsb' (2 * n) 2).toNat
  let due := (List.range 64).filter fun n => c.ipend.getLsbD n && c.ien.getLsbD n
  due.foldl (fun a n => match a with
    | none => some (n, pri n)
    | some (m, p) => if p < pri n then some (n, pri n) else some (m, p)) none

/-- The source whose interrupt is above LEVEL (R287). -/
def CoreState.above (c : CoreState) : Option (Nat × Nat) :=
  match c.best with
  | some (n, p) => if c.lvl < p + 1 then some (n, p) else none
  | none => none

/-- A core is in WAIT, with no interrupt that ends it, or is held in reset and runs nothing (DEDUCED, log entry 43). -/
def State.coreWaits (s : State) (c : Nat) : Bool :=
  let k := s.core (coreOf c)
  k.inReset || (k.waiting && k.above.isNone) || !s.domOn c

/-- A write to PWR_CMD (R390, R392). -/
def State.pwrAbandon (s : State) : State :=
  if s.phase = 1 ∨ s.phase = 2 then
    (((s.setPhase 0).setB Port.PWR_STAT 8 true).count Port.PWR_ABORTCNT).raise Irq.PWR_EVT
  else s

def State.pwrCmd (s : State) (v : Word) : State :=
  let n := v.toNat
  if n = 5 then s.pwrAbandon else
  if n = 0 ∨ 5 < n then s else
  if s.phase ≠ 0 ∨ (n = 1 ∧ s.level = 1) then s.setB Port.PWR_STAT 7 true
  else (s.setF Port.PWR_STAT 14 12 n).setPhase 1

/-- TARGET. -/
def State.target (s : State) : Nat := s.getF Port.PWR_STAT 14 12

/-- Step 2 ends. -/
def State.entryQuietNow (s : State) : State :=
  if s.phase = 1 ∧ s.entryQuiet s.target then s.setPhase 2 else s

/-- The calendar ends on entry to Reef 3 (R120). -/
def State.endCalendar (s : State) : State := forEach s.calContexts (fun c t => t.endQuiet c) s

/-- A transmission on a chain whose domain is to go off has not ended: the power-off waits for it (R464). -/
def State.sendsYet (s : State) (l : Nat) : Bool :=
  (s.goesOff l 9 && decide (s.syn 0 = 5)) || (s.goesOff l 10 && decide (s.syn 1 = 5))

/-- Steps 3 to 6: CORECLK is gated, Reef 3 ends the calendar, domains go off in decreasing bit order, LEVEL changes;
Reef 3 and Furl stop the system PLL, Furl the XREF input too (R391, R397).  (DESIGN CHOICE, log entry 29.) -/
def State.entryDone (s : State) : State :=
  if s.phase ≠ 2 ∨ !(s.coreWaits 0 && s.coreWaits 1) ∨ s.sendsYet s.target then s else
  let l := s.target
  let t := if l = 3 then s.endCalendar else s
  let off := (List.range 16).reverse.filter fun d => s.goesOff l d
  let t1 := forEach off (fun d u => u.domOff d) t
  let t2 := forNat 2 (fun c u => if u.domOn c then u.gateCore c true else u) t1
  let t3 := (t2.setPhase 0).setLevel l
  let t4 := if 3 ≤ l then t3.setB Port.CLK_STAT 16 false else t3
  if l = 4 then ({ t4 with time := { t4.time with stopped := true } }).setB Port.CLK_STAT 17 false else t4

/-- Domains that Run holds on: those of the Rig, less those held off (R386, R389). -/
def State.runDomains (s : State) : BitVec 16 := s.pwr.rigOn &&& ~~~((s.get Port.PWR_DOM_OFF).extractLsb' 0 16 &&& 0xFFE0)

/-- Exit from a level (R394): switches of the domains Run holds on close; gated cores run, from Reef 2 once every domain is
released; from Furl the XREF input starts and HALTED is set. -/
def State.levelExit (s : State) : State :=
  let l := s.level
  let t := if l = 4 then
      (({ s with time := { s.time with stopped := false } }).setB Port.CLK_STAT 17 true).setB Port.LTB_STAT 0 true
    else s
  let t1 := { t with pwr := { t.pwr with on := t.pwr.on ||| t.runDomains },
                     link := { t.link with sniff := none, sniffOn := false } }
  let t2 := (t1.setB Port.CLK_STAT 16 true).setWindow false
  let t3 := (if l = 2 then t2 else (t2.gateCore 0 false).gateCore 1 false).setPhase 4
  if t3.allUp then t3.exitEnd else t3

/-- A wake (R392, R393). -/
def State.wakeNow (s : State) : State :=
  if s.phase = 1 ∨ s.phase = 2 then s.pwrAbandon
  else if s.phase = 0 ∧ s.level ≠ 0 then s.levelExit else s

/-- An enabled wake source requests wake: it is recorded, and the device wakes (R393). -/
def State.wakeFrom (s : State) (src : Nat) : State :=
  if s.getB Port.PWR_WAKE src then (s.setB Port.PWR_WAKE_SRC src true).wakeNow else s

/-- An interrupt ended a core's WAIT: during an entry that is a wake (R392), which PWR_WAKE_SRC records (R393). -/
def State.waitEnded (s : State) : State :=
  if s.phase = 1 ∨ s.phase = 2 then (s.setB Port.PWR_WAKE_SRC 5 true).pwrAbandon else s

/-- An interrupt that ends a core's WAIT wakes the device during an entry, and in Reef 1 and Reef 2 (R392, R393). -/
def State.wakeByIrq (s : State) : State :=
  let due := [Core.apc, Core.lkc].any fun c =>
    let k := s.core c
    !k.inReset && (k.gated || k.waiting) && k.above.isSome
  if due ∧ (s.phase = 1 ∨ s.phase = 2 ∨ (s.phase = 0 ∧ (s.level = 1 ∨ s.level = 2))) then
    (s.setB Port.PWR_WAKE_SRC 5 true).wakeNow else s

/-! ## Domains held off (R389) -/

/-- Domains held off go off once quiet; domains no longer held, which the level and the Rig have on, are restored.
(DEDUCED, log entry 30.) -/
def State.holdsApply (s : State) : State :=
  if s.rig.applied = false ∨ s.level = 3 ∨ s.level = 4 then s else
  forNat 16 (fun d t =>
    if d < 5 then t else
    if s.getB Port.PWR_DOM_OFF d then
      (if t.pwr.on.getLsbD d ∧ t.domQuiet d then t.domOff d else t)
    else if s.pwr.rigOn.getLsbD d ∧ t.pwr.on.getLsbD d = false ∧ (s.level = 0 ∨ bitOf (s.levelMask s.level) d) then
      t.domClose d
    else t) s

/-- A write to PWR_DOM_OFF. -/
def State.domHold (s : State) (v : Word) : State := (s.set Port.PWR_DOM_OFF (v &&& fieldMask 15 5)).holdsApply

/-- PWR_RES_CMD 1. -/
def State.resClear (s : State) (v : Word) : State := if v = 1 then s.coldRegs (inRange 0x0110 0x0119) else s

/-! ## The Sluice grants (R408) -/

/-- One request considered: granted when it conflicts with no holder; an unaged one also with no aged request. -/
def State.sluiceTry (s : State) (aged : Bool) (a : Nat) : State :=
  let blocked := !aged && (List.range 12).any fun b => s.getB Port.MNT_AGED b && actConflict a b
  if s.waits a ∧ s.getB Port.MNT_AGED a = aged ∧ s.getB Port.MNT_INHIBIT a = false ∧
    s.sluiceClear a ∧ blocked = false then
    let t := s.sluiceGive a
    if a = Act.rxcal 0 then t.bgGranted 0 else if a = Act.rxcal 1 then t.bgGranted 1 else
    if a = Act.rtcMeas then { t with sluice := { t.sluice with fmcFrom := t.time.rtcEdges } } else t
  else s

/-- MNT and CAL are clocked: at every level but Furl, in Reef 3 within its windows (R386). -/
def State.mntClocked (s : State) : Bool := decide (s.level ≤ 2) || (decide (s.level = 3) && s.link.sniffOn)

/-- One SYSCLK cycle of the Sluice: aged requests, then the others, each class in code order. -/
def State.sluiceCycle (s : State) : State :=
  if s.mntClocked then forNat 12 (fun a t => t.sluiceTry false a) (forNat 12 (fun a t => t.sluiceTry true a) s) else s

/-- A request has waited AGE ms (R408). -/
def State.sluiceAge (s : State) (a : Nat) : State :=
  let k := Cells.rd (fun _ => 0) s.sluice.since a
  let age := max 1 (s.getF Port.MNT_CFG 17 9) * 16000
  if s.waits a ∧ s.getB Port.MNT_AGED a = false ∧ k ≠ 0 ∧ k - 1 + age ≤ s.time.wall then
    ((s.setB Port.MNT_AGED a true).count Port.MNT_AGEDCNT).raise Irq.MNT_EVT
  else s

/-! ## Temperature and frequency measurement (R411, R412) -/

/-- A sample of die temperature and supplies, taken under the grant of TEMP, which is asked for first.  (DEDUCED, log
entry 32.) -/
def State.tempSampled (s : State) (temp : BitVec 9) (vs vw : BitVec 12) : State :=
  if s.granted Act.temp = false then s.sluiceAsk Act.temp else
  let t := ((s.set Port.CAL_TEMP (inFld 17 17 1 ||| temp.setWidth 18)).set (Port.CAL_VPA 0) (vs.setWidth 18)).set
    (Port.CAL_VPA 1) (vw.setWidth 18)
  ((t.sluiceDrop Act.temp).calByTemp 0).calByTemp 1

/-- CAL_FMC_CMD 1 requests RTC_MEAS (R412); while BUSY it asks for nothing more.  (DEDUCED, log entry 165.) -/
def State.fmcCmd (s : State) (v : Word) : State :=
  if v = 1 then (s.setB Port.CAL_FMC_STAT 17 true).sluiceAsk Act.rtcMeas else s

/-- The measurement ends under its grant, PERIODS of RTCCLK after it (R412). -/
def State.fmcEnd (s : State) (err : Word) : State :=
  if s.granted Act.rtcMeas = false ∨
      s.time.rtcEdges < s.sluice.fmcFrom + max 1 (s.getF Port.CAL_FMC_CFG 11 0) then s else
  (((s.set Port.CAL_FMC_RES err).setB Port.CAL_FMC_STAT 17 false).setB Port.CAL_FMC_STAT 16 true).sluiceDrop Act.rtcMeas

/-- CLK_STAT with the locks that follow from the domains (R397). -/
def State.clkView (s : State) (p : Nat) : Word :=
  if p = Port.CLK_STAT then
    withBit (withBit (s.get p) 15 ((s.domOn 7 || s.domOn 8) && !s.rx.smpLost)) 14 (s.domOn 12)
  else s.get p

end Sys2Proof.Machine
end

