-- ==== Sys2Proof/Machine/Boot.lean ====
section
/-! DEFINITION. Cold and system resets (R399-R402), loss and return of REFCLK (R398), the boot ROM (R27-R30, R41-R43)
and life-cycle transitions (R354, R356). -/

namespace Sys2Proof.Machine

open Sys2Proof

/-! ## Resets -/

/-- BKD registers: a reset leaves them as they stand (R401, R433). -/
def bkdPort (p : Nat) : Bool := inRange 0x0C00 0x0C2D p || decide (p = Port.RST_CAUSE) || decide (p = Port.RST_LAST)

/-- Registers a system reset keeps (R402). -/
def sysKeeps (p : Nat) : Bool :=
  bkdPort p || inRange 0x3806 0x3809 p || decide (p = Port.CLK_LOSSCNT) || inRange 0x0213 0x0215 p ||
  decide (p = Port.WDG_EXPCNT 0) || decide (p = Port.WDG_EXPCNT 1) || inRange 0x0110 0x0119 p ||
  decide (p = Port.PWR_ABORTCNT)

/-- The straps sampled at the release of a reset (R27, R244). -/
def State.straps (s : State) (bootSel : BitVec 2) (stackId : BitVec 3) : State :=
  ({ s with pins := { s.pins with bootSel := bootSel, stackId := stackId, hsioDriven := false } }).set Port.RIG_STRAP
    (bootSel.setWidth 18)

/-- The state after a reset of everything: of the registers those that meet `keep`, flash, fuses, balls, and the clocks
of BKD stay; the APC's domain is released and its boot ROM has still to run. -/
def State.restart (s : State) (keep : Nat → Bool) : State :=
  let t0 := s.time
  let p := s.pins
  let time := { Time.reset with
    wall := t0.wall, rtcEdges := t0.rtcEdges, rtcAcc := t0.rtcAcc, rtcRunning := t0.rtcRunning, bkdLow := t0.bkdLow,
    onBackup := t0.onBackup, rtcCommit := t0.rtcCommit, rtcTrimAcc := t0.rtcTrimAcc }
  let mem := { Mem.reset with flash := s.mem.flash, flashErr := s.mem.flashErr }
  let flc := { Flash.reset with intents := s.flc.intents, journalSeq := s.flc.journalSeq }
  let r := State.reset
  let u := { r with
    regs := Cells.keep keep s.regs, latch := { s.latch with stall := none }, time := time, mem := mem, fuses := s.fuses,
    rig := { r.rig with debugLocked := s.rig.debugLocked }, flc := flc, pins := p, free := s.free, pending := s.pending }
  (u.set Port.PWR_DOM_STAT 1).senseFuses

/-- Flash operations and activations under way are cut (R320, R364). -/
def State.cutWork (s : State) : State := ((s.activationCut 0).activationCut 1).flashStop

/-- A cold reset (R399): all but BKD is reset and link time is 0; DRAM is wiped before it can be read (R329). -/
def State.coldResetNow (s : State) (cause : ColdCause) (bootSel : BitVec 2) (stackId : BitVec 3) : State :=
  let c := s.cutWork
  let first := decide (cause = .powerOn true)
  let t := c.restart fun p => bkdPort p && !first
  let t1 := { t with latch := Latches.reset, rig := { t.rig with debugLocked := false } }
  let on := match cause with
    | .powerOn _ => true
    | _ => false
  let time := if first then { t1.time with rtcAcc := 0, rtcRunning := true, bkdLow := false, rtcCommit := none, rtcTrimAcc := 0 }
    else t1.time
  let t2 := { t1 with time := { time with onBackup := time.onBackup && !on, bkdLow := time.bkdLow && !on },
                      pins := if on then { Pins.reset with gpioIn := t1.pins.gpioIn } else t1.pins }
  ((t2.senseFuses).straps bootSel stackId).resetCause 1 (coldBit cause) 0

/-- A system reset (R399, R402): every switched domain and every AON register but the state of R402; link time and the
ledgers go on, and a transmission under way is charged to now (R128). -/
def State.sysResetNow (s : State) (cause : SysCause) (bootSel : BitVec 2) (stackId : BitVec 3) : State :=
  let c := ((s.txOff 0).txOff 1).cutWork
  let t := c.restart sysKeeps
  let t1 := { t with time := { t.time with link := c.time.link, led := c.time.led, stopped := c.time.stopped },
                     link := { t.link with ledgers := c.link.ledgers } }
  let t2 := (t1.setB Port.CLK_STAT 12 (s.getB Port.CLK_STAT 12)).straps bootSel stackId
  let t3 := t2.resetCause 2 (sysBit cause) 0
  match cause with
  | .refLoss =>
    (((({ t3 with time := { t3.time with stopped := true } }).setB Port.CLK_STAT 12 true).setF Port.CLK_STAT 17 16 0).count
      Port.CLK_LOSSCNT).setB Port.LTB_STAT 0 true
  | .pll => t3.count Port.CLK_LOSSCNT
  | _ => t3

/-- REFCLK is lost, outside Furl (R398): a system reset, which is held until REFCLK returns. -/
def State.refLost (s : State) : State :=
  if s.level = 4 ∨ s.getB Port.CLK_STAT 17 = false then s
  else s.sysResetNow .refLoss s.pins.bootSel s.pins.stackId

/-- REFCLK has returned and the system PLL is locked: the held reset is released (R398). -/
def State.refBack (s : State) (bootSel : BitVec 2) (stackId : BitVec 3) : State :=
  if s.level = 4 ∨ s.getB Port.CLK_STAT 17 then s else
  (({ s with time := { s.time with stopped := false } }).setF Port.CLK_STAT 17 16 3).straps bootSel stackId

/-- A write to RST_CMD with its key (R400). -/
def State.rstCmd (s : State) (v : Word) : State :=
  if fld v 17 9 ≠ 0o551 then s else
  let cls := fld v 8 6
  let b := s.pins.bootSel
  let i := s.pins.stackId
  if cls = 1 then s.coldResetNow .command b i else
  if cls = 2 then s.sysResetNow .command b i else
  if cls = 3 then s.groupReset .apc .command else
  if cls = 4 then s.groupReset .lkc .command else
  if cls = 5 then s.domReset (fld v 3 0) .command else s

/-! ## Watchdog expiry (R403, R404) -/

/-- A channel expires: EXPCNT, RST_CAUSE through the reset, and ACTION.  (DEDUCED, log entry 31.) -/
def State.wdgExpire (s : State) (c : Core) : State :=
  let t := s.count (Port.WDG_EXPCNT c.num)
  let a := s.getF (Port.WDG_CFG c.num) 14 12
  if a = 0 then t.groupReset c .watchdog
  else if a = 1 then t.sysResetNow (.watchdog c) s.pins.bootSel s.pins.stackId
  else t.coldResetNow (.watchdog c) s.pins.bootSel s.pins.stackId

/-- A write to WDG_c_KICK by a master (R403). -/
def State.wdgKickBy (s : State) (m : Master) (c : Core) (v : Word) : State :=
  if m.core ≠ some c ∨ s.getB (Port.WDG_CFG c.num) 17 = false then s else
  if Cells.rd (fun _ => 0) s.pwr.kick c.num = 0 then
    (if v = 0o252525 then s.setKick c.num 1 else s.wdgExpire c)
  else if v = 0o525252 ∧ s.wdgOpen c.num then s.wdgRestart c.num else s.wdgExpire c

/-- The remaining time has come to 0; the group reset of a core that is off at a reef level restarts the count, since no
release follows it (R404, R405; DEDUCED, log entry 31). -/
def State.wdgEnd (s : State) (c : Core) : State :=
  if s.wdgCounts c.num ∧ (s.domOn c.num ∨ s.level ≠ 0) ∧ s.getF (Port.WDG_STAT c.num) 15 0 = 0 then
    (if s.domOn c.num ∨ s.getF (Port.WDG_CFG c.num) 14 12 ≠ 0 then s.wdgExpire c else (s.wdgExpire c).wdgRestart c.num)
  else s

/-- The remaining time has fallen to WARN/8 of TIMEOUT: WDG_WARN once in a count (R404). -/
def State.wdgWarn (s : State) (c : Nat) : State :=
  let w := s.getF (Port.WDG_CFG c) 8 6
  if s.wdgCounts c ∧ w ≠ 0 ∧ Cells.rd (fun _ => 0) s.pwr.warned c = 0 ∧
    8 * s.getF (Port.WDG_STAT c) 15 0 ≤ w * s.wdgForce c then
    ({ s with pwr := { s.pwr with warned := Cells.wr (fun _ => 0) s.pwr.warned c 1 } }).raise Irq.WDG_WARN else s

/-- A write to WDG_c_CFG: ACTION 3-7 is discarded, and EN can be cleared only in BLANK and DEVELOP (R404). -/
def State.wdgCfg (s : State) (c : Nat) (v : Word) : State :=
  if 2 < fld v 14 12 then s else
  let old := s.getB (Port.WDG_CFG c) 17
  let keep := old && !(decide (s.lcState = 0) || decide (s.lcState = 1))
  let t := s.set (Port.WDG_CFG c) (withBit (v &&& fieldMask 17 6) 17 (bitOf v 17 || keep))
  if old = false ∧ bitOf v 17 then t.wdgRestart c else t.wdgShow c

/-! ## The boot ROM (R28-R30, R37-R43) -/

/-- A candidate and the outcome of its check: SOURCE, the R37 code, the section recorded, its words. -/
structure Candidate where
  source : Nat
  fault : Nat
  section_ : Nat
  words : List Word
  deriving DecidableEq, Repr

/-- Words of a candidate in NOR: octets not given read as all ones (R30). -/
def norWords (l : List Octet) (n : Nat) : List Word :=
  let o := l.take (3 * n)
  ofOctetForm (o ++ List.replicate (3 * n - o.length) 0xFF#8)

/-- The check of the words of a candidate, of which the header tells how many are read. -/
def State.checkWords (s : State) (source : Nat) (rd : Nat → List Word) : Candidate :=
  let n := max 8 (min 16384 (rigLength (rd 8)))
  let ws := rd n
  let r := rigCheck (s.rigContext false) ws
  { source := source, fault := r.1, section_ := r.2, words := ws }

/-- A slot of FB_3 (R29): 0 A, 1 B.  A word without a defined value reads a free one (DESIGN CHOICE, log entry 1).
(DESIGN CHOICE, log entry 26.) -/
def State.slotCheck (s : State) (i : Nat) : Candidate :=
  let sec := s.openIntent 3
  if 208 + 8 * i < sec ∧ sec ≤ 216 + 8 * i then { source := 1 + i, fault := 2, section_ := 0, words := [] } else
  s.checkWords (1 + i) fun n => (List.range n).map fun k =>
    (s.flashHw 3 (0x68000 + 0x4000 * i + k)).getD (Config.freeWord (s.free + 16384 * i + k))

/-- Candidates up to the first that passes. -/
def uptoPass : List Candidate → List Candidate
  | [] => []
  | c :: r => if c.fault = 0 then [c] else c :: uptoPass r

/-- The candidates that are checked, in order, under BOOT_SEL (R28). -/
def State.candidatesOf (s : State) (nor0 nor1 : List Octet) : List Candidate :=
  let nor := uptoPass [s.checkWords 3 (norWords nor0), s.checkWords 4 (norWords nor1)]
  let slots := [s.slotCheck 0, s.slotCheck 1]
  let b := s.pins.bootSel
  if b = 0 then slots else if b = 1 then [s.slotCheck 0] else if b = 2 then nor
  else if nor.any (fun c => decide (c.fault = 0)) then nor else nor ++ slots

/-- The accepted candidate: of those that pass, the one with the larger serial, the earlier on equal serials (R28). -/
def acceptedOf (l : List Candidate) : Option Candidate :=
  l.foldl (fun a c => if c.fault ≠ 0 then a else match a with
    | none => some c
    | some x => if rigSerial x.words < rigSerial c.words then some c else some x) none

/-- Step 6 of R42 starts: the accepted Rig is in force, AON and the domains on already load it, and the switches of the
domains it uses close. -/
def State.rigApply (s : State) (c : Candidate) : State :=
  let w := c.words.take (rigLength c.words)
  let lock := s.rig.debugLocked || decide (rigFld w 14 0 2 0 = 1)
  let t := { s with rig := { s.rig with words := w, booting := false, applied := true, debugLocked := lock, source := c.source } }
  let t1 := (((((t.setF Port.RIG_STAT 14 12 2).setB Port.RIG_STAT 1 (rigSigned w)).set Port.RIG_MEMBER (w.getD 1 0)).set
    Port.RIG_LEN (inFld 14 0 (rigLength w))).set Port.RIG_SECTIONS (rigPresent w)).setWide (Port.RIG_SERIAL 0) 2 (rigSerial w)
  let t2 := ((t1.rigAon).set Port.RTC_TRIM (BitVec.ofNat 18 (t1.rigF 1 1 8 0))).zeroBanks fun _ => true
  let on := t2.rigDomains
  let t3 := { t2 with pwr := { t2.pwr with on := on ||| 1, rigOn := on } }
  let t4 := forEach [13, 14, 15] (fun d u => if u.domOn d then (if on.getLsbD d then u.rigDomain d else u.domOff d) else u) t3
  ((t4.portEnable 0).portEnable 1).senseFuses

/-- The boot ROM's work is refused (R41). -/
def State.rigRefused (s : State) : State :=
  let t := (s.domOff 15).domOff 14
  { (t.setF Port.RIG_STAT 14 12 3) with rig := { t.rig with booting := false }, apc := { t.apc with bootWait := true } }

/-- Steps 1 to 5 of R42, and the start of step 6.  A fuse fault refuses with fault NONE; an open INTENT resumes its
transition before any Rig is read (R356).  The package of an interrupted transition to DEVELOP counts as present when
the staging bank holds one that passes (DEDUCED, log entry 44).  PD_UTVIS is powered, so that its ports train (R40,
log entry 45).  (DEDUCED, log entry 45.) -/
def State.bootRom (s : State) (nor0 nor1 : List Octet) : State :=
  if s.rig.booting = false ∨ s.time.stopped ∨ s.sec.trans ≠ 0 then s else
  if s.fuses.err ≠ 0 then s.rigRefused else
  match s.fuses.openIntents with
  | d :: _ =>
    (s.updSec fun x => { x with trans := d, transPkg := decide (d = 2) || (decide (d = 1) && s.packageOk false) }).setF
      Port.LCF_STAT 11 6 (8 * d + (if s.fuses.anchored.getLsbD d then 3 else 2))
  | [] =>
    let t := ((((s.domClose 13).domClose 14).domClose 15).domUp 14 false).domUp 15 false
    let u := t.journalScan
    let l := u.candidatesOf nor0 nor1
    let f := fun (o : Option Candidate) => match o with
      | some c => c.fault
      | none => 0
    let v := ((u.setF Port.RIG_STAT 8 6 l.length).set Port.RIG_FAULT
      (inFld 17 12 (f l.head?) ||| inFld 11 6 (f l.getLast?) ||| inFld 5 0 (match l.getLast? with
        | some c => c.section_
        | none => 0)))
    let v1 := { v with free := v.free + 32768 }
    match acceptedOf l with
    | some c => v1.rigApply c
    | none => v1.rigRefused

/-- Step 8 for a core: its image is selected; a group the LCF takes for an activation goes into reset (R361, R363). -/
def State.bootCore (s : State) (c : Nat) : State :=
  let t := s.selectImage c false
  if t.held c then t.groupDown c else t

/-- Steps 7 and 8 of R42: every domain that step 6 powers is released. -/
def State.rigReadyNow (s : State) : State :=
  if s.rig.applied = false ∨ s.ready ∨ s.allUp = false ∨ s.time.stopped then s else
  let t := ((s.setF Port.RIG_STAT 11 9 s.rig.source).setWide (Port.RIG_DIGEST 0) 15 (rigDigest s.rig.words).toNat).setB
    Port.RIG_STAT 0 true
  let t1 := { t with rig := { t.rig with bootExit := true } }
  let t2 := forNat 2 (fun c u => (u.setB (Port.WDG_CFG c) 17 true).wdgRestart c) t1
  (t2.bootCore 0).bootCore 1

/-! ## Life-cycle transitions (R354-R356) -/

/-- A write to LCF_LC_CMD: FUSE_OKH, or TRANSITION, whose checks are step 1; an accepted one programs INTENT, holds both
core groups in reset and switches the radios off. -/
def State.lcCmd (s : State) (v : Word) : State :=
  if v = 2 then s.fuseOkh else
  if v ≠ 1 then s else
  let dest := s.getF Port.LCF_LC_ARG 17 15
  let pkg := s.getB Port.LCF_LC_ARG 14
  let r := s.transCheck dest (s.getF Port.LCF_LC_ARG 13 0) pkg
  let t := s.setF Port.LCF_STAT 5 3 r
  if r ≠ 0 then t else
  let t1 := { t with fuses := t.fuses.burnIntent dest }
  let t2 := ((t1.updSec fun x => { x with trans := dest, transPkg := decide (dest = 2) || (decide (dest = 1) && pkg) }).setF
    Port.LCF_STAT 11 9 dest).setF Port.LCF_STAT 8 6 2
  forEach [10, 9, 8, 7, 6, 5] (fun d u => u.domOff d) ((t2.groupDown 0).groupDown 1)

/-- Steps 3 to 6 are done: the anchor is in place, everything is wiped, DONE is programmed, and a cold reset follows. -/
def State.transDone (s : State) : State :=
  let d := s.sec.trans
  if d = 0 then s else
  let t := (s.transAnchor d).transWipe
  ({ t with fuses := t.fuses.burnDone d }).coldResetNow .lifeCycle s.pins.bootSel s.pins.stackId

/-- The LCF's copy ends: the core starts its trial or its anchor, and the group's domains are released (R361, R362). -/
def State.activationEnds (s : State) (c : Nat) : State :=
  if s.held c = false ∨ s.sec.trans ≠ 0 then s else
  let u := forEach (groupDoms c) (fun d u => if u.pwr.on.getLsbD d then u.domUp d false else u) s
  (u.activationEnd c).wdgRestart c

/-- A core's trial has expired: its image is dead, and its group is reset (R362). -/
def State.trialEnds (s : State) (c : Nat) : State :=
  let e := Cells.rd (fun _ => 0) s.sec.trialEnd c
  if e = 0 ∨ s.acct s.time.link + 1 < e then s else
  (s.declareDead c 4 (s.imageDigest (s.roleBank c) 0)).groupReset (coreOf c) .trial

end Sys2Proof.Machine
end

