-- ==== Sys2Proof/Machine/Sniff.lean ====
section
/-! DEFINITION. The sniff table in Reef 3 (R120-R122, R395): restoring a window's domains, its actions on each channel,
and their end. -/

namespace Sys2Proof.Machine

open Sys2Proof

/-- KIND of a sniff entry: 4-7 act as 0, and PERIOD 0 is not served (R120). -/
def State.sniffKind (s : State) (e : Nat) : Nat :=
  let k := s.getF (Port.LTB_SNF_0 e) 17 15
  if 3 < k ∨ s.get (Port.LTB_SNF_3 e) = 0 then 0 else k

/-- Channels of an entry. -/
def State.sniffBins (s : State) (e : Nat) : Nat := max 1 (s.getF (Port.LTB_SNF_2 e) 8 7)

/-- BIN of a channel. -/
def State.sniffBin (s : State) (e i : Nat) : Nat :=
  if i = 0 then s.getF (Port.LTB_SNF_1 e) 17 9 else
  if i = 1 then s.getF (Port.LTB_SNF_1 e) 8 0 else s.getF (Port.LTB_SNF_2 e) 17 9

def State.sniffPhy (s : State) (e : Nat) : Nat := s.getF (Port.LTB_SNF_0 e) 14 12

/-- NEXT of an entry. -/
def State.sniffNext (s : State) (e : Nat) : BitVec 54 := BitVec.ofNat 54 (s.getWide (Port.LTB_SNF_A e) 3)

/-- The transmit chain of an entry's PHY. -/
def State.sniffChain (s : State) (e : Nat) : Nat := nat1 (phyGridW (s.sniffPhy e))

/-- The domains an entry needs: PD_SEQ, those of the sniff lanes and chain A when it listens, and its transmit chain's
when it transmits (R120, R121). -/
def State.sniffDoms (s : State) (e : Nat) : List Nat :=
  let k := s.sniffKind e
  [2] ++ (if k = 2 ∨ k = 3 then [3, 5, 7] else []) ++ (if k = 1 ∨ k = 3 then [txDom (s.sniffChain e)] else [])

/-- The sniff table is served: EN in Reef 3 (R120). -/
def State.sniffing (s : State) : Bool :=
  decide (s.level = 3) && decide (s.phase = 0) && s.getB Port.LTB_SNF_CTRL 17

/-- The power controller can restore an entry's domains. -/
def State.sniffAble (s : State) (e : Nat) : Bool :=
  (s.sniffDoms e).all fun d => bitOf (s.levelMask 3) d && s.runDomains.getLsbD d

/-- Link time has come to an entry's NEXT - LEAD. -/
def State.sniffDue (s : State) (e : Nat) : Bool :=
  decide (s.sniffKind e ≠ 0) && timeLe (s.sniffNext e - ticks (s.getF Port.LTB_SNF_CTRL 8 0 * 16)) s.time.link

/-- An entry's NEXT moves on by PERIOD. -/
def State.sniffStep (s : State) (e : Nat) : State :=
  s.setWide (Port.LTB_SNF_A e) 3 (s.sniffNext e + ticks ((s.get (Port.LTB_SNF_3 e)).toNat * 500)).toNat

/-- At NEXT - LEAD an entry's domains are restored; one whose domains MASK_REEF3 leaves out is skipped (R121). -/
def State.sniffRestore (s : State) (e : Nat) : State :=
  if s.sniffing = false ∨ s.sniffDue e = false then s else
  if s.sniffAble e = false then (s.count Port.LTB_SNF_SKIP).sniffStep e else
  let t := ({ s with link := { s.link with sniffOn := true } }).setB Port.CLK_STAT 16 true
  let u := forEach (s.sniffDoms e) (fun d v => if v.pwr.on.getLsbD d then v else v.domClose d) t
  u.setWindow u.allUp

/-- Record where the window stands: entry, channel, listening. -/
def State.setSniff (s : State) (x : Option (Nat × Nat × Bool)) : State := { s with link := { s.link with sniff := x } }

/-- A transmission of the sniff window is accepted or under way. -/
def State.sniffSends (s : State) : Bool := [0, 1].any fun t =>
  (s.txc t).accepted.any (fun r => decide (r.owner = .sniff)) ||
  (match (s.txc t).cur with
   | some r => decide (r.req.owner = .sniff)
   | none => false)

/-- The lane that listens: the first sniff lane; none when SNIFF_LANES is 0.  (DEDUCED, log entry 118.) -/
def State.sniffUnit (s : State) : Option Nat := if 0 < s.rigF 4 1 5 0 then some 0 else none

/-- The CRC initial value and whitening seed of an entry. -/
def State.sniffCrc (s : State) (e : Nat) : BitVec 24 :=
  BitVec.ofNat 24 ((s.get (Port.LTB_SNF_8 e)).toNat + 262144 * s.getF (Port.LTB_SNF_9 e) 5 0)
def State.sniffWhite (s : State) (e : Nat) : BitVec 9 := BitVec.ofNat 9 (s.getF (Port.LTB_SNF_9 e) 17 9)

/-- The sniff lane starts on a channel, on chain A alone (R120). -/
def State.sniffHear (s : State) (e i : Nat) : State :=
  match s.sniffUnit with
  | none => s
  | some l =>
    let sync : BitVec 32 := BitVec.ofNat 32 (s.getWide (Port.LTB_SNF_6 e) 2)
    ((s.setLaneRole l 1).laneConfig l (rxPhy (s.sniffPhy e)) 0 (s.sniffBin e i)
      (s.getF (Port.LTB_SNF_0 e) 11 6) 0 sync (s.sniffCrc e)
      (s.sniffWhite e) 0 0).laneStart l

/-- The start of an entry's first action: its NEXT, which has moved on by PERIOD once its window started, or the end of an
earlier window's last action when that comes later (R120). -/
def State.sniffFirst (s : State) (e : Nat) : BitVec 54 :=
  let n := match s.link.sniff with
    | some (f, _, _) => if f = e then s.sniffNext e - ticks ((s.get (Port.LTB_SNF_3 e)).toNat * 500) else s.sniffNext e
    | none => s.sniffNext e
  timeMax n s.link.sniffFrom

/-- The listen of a channel starts, to end LISTEN after its scheduled start; while chain A is not READY it is late and waits
for it in LISTEN (R120, R121). -/
def State.sniffListen (s : State) (e i : Nat) (from0 : BitVec 54) : State :=
  let u := s.setSeqState 0 2
  let t := { u with link := { u.link with sniffTill := from0 + ticks (s.getF (Port.LTB_SNF_4 e) 11 0 * 16) } }
  if t.chainReady 0 then (t.sniffHear e i).setSniff (some (e, i, true))
  else (t.count Port.LTB_SNF_LATE).setSniff (some (e, i, false))

/-- The next channel: an entry of KIND 2 listens at once, another waits for its transmission; behind the last channel the
window waits for its end. -/
def State.sniffGo (s : State) (e i : Nat) : State :=
  if i < s.sniffBins e ∧ s.sniffKind e = 2 then s.sniffListen e i (if i = 0 then s.sniffFirst e else s.time.link)
  else (s.setSeqState 0 0).setSniff (some (e, i, false))

/-- An action of the window has ended, and the next channel follows (R120). -/
def State.sniffNextBin (s : State) (e i : Nat) : State :=
  { s with link := { s.link with sniffFrom := s.time.link } }.sniffGo e (i + 1)

/-- SEQ_0 serves an entry at NEXT, once an earlier entry's window has ended (R120). -/
def State.sniffStart (s : State) (e : Nat) : State :=
  let before := (List.range 8).any fun f => decide (s.sniffKind f ≠ 0) && s.link.sniffOn && s.sniffDue f &&
    (timeLt (s.sniffNext f) (s.sniffNext e) || (decide (f < e) && decide (s.sniffNext f = s.sniffNext e)))
  if s.sniffing = false ∨ s.link.sniffOn = false ∨ s.sniffKind e = 0 ∨ s.link.sniff.isSome ∨
      timeLt s.time.link (s.sniffNext e) ∨ before then s else
  let t := (s.sniffStep e).setF Port.LTB_SNF_STAT 17 15 e
  let u := t.setSniff (some (e, 0, false))
  if s.sniffSends then u else u.sniffGo e 0

/-- Chain A became READY: a listen that waits for it starts (R121). -/
def State.sniffReady (s : State) : State :=
  match s.link.sniff with
  | some (e, i, false) =>
    if s.seqState 0 = 2 ∧ s.chainReady 0 then (s.sniffHear e i).setSniff (some (e, i, true)) else s
  | _ => s

/-- A transmission of the window has ended: the entry listens, or goes to its next channel (R120). -/
def State.sniffSent (s : State) : State :=
  match s.link.sniff with
  | some (e, i, false) =>
    if s.sniffSends ∨ s.seqState 0 ≠ 4 then s
    else if s.sniffKind e = 3 then s.sniffListen e i s.time.link else s.sniffNextBin e i
  | _ => s

/-- A listen ends at its scheduled end, after a packet under way (R121). -/
def State.sniffHeard (s : State) : State :=
  if timeLt s.time.link s.link.sniffTill then s else
  match s.link.sniff with
  | some (e, i, true) =>
    let t := match s.sniffUnit with
      | some l => s.laneStop l
      | none => s
    if (s.sniffUnit.map fun l => t.receiving l || (t.lane l).discarding) = some true then t else t.sniffNextBin e i
  | some (e, i, false) => if s.seqState 0 = 2 then s.sniffNextBin e i else s
  | none => s

/-- The sniff lane detached after a packet that outlived its listen. -/
def State.sniffDetached (s : State) : State :=
  match s.link.sniff, s.sniffUnit with
  | some (_, _, true), some l => if s.laneState l = 0 then s.sniffHeard else s
  | _, _ => s

/-- The entry whose transmission SEQ_0 asks for, with its channel: the window's, else the entry due next. -/
def State.sniffTxEntry (s : State) : Option (Nat × Nat) :=
  let sends := fun e => decide (s.sniffKind e = 1) || decide (s.sniffKind e = 3)
  match s.link.sniff with
  | some (e, i, false) => if i < s.sniffBins e ∧ sends e ∧ s.seqState 0 = 0 then some (e, i) else none
  | some _ => none
  | none =>
    let due := (List.range 8).filter fun e => s.sniffDue e && s.sniffAble e
    match due.foldl (fun a e => match a with
      | none => some e
      | some b => if timeLt (s.sniffNext e) (s.sniffNext b) then some e else some b) none with
    | some e => if sends e then some (e, 0) else none
    | none => none

/-- The octets an entry sends: LEN octets of the buffer from OFF on (R120). -/
def State.sniffOctets (s : State) (e : Nat) : List Octet :=
  let w5 := s.get (Port.LTB_SNF_5 e)
  let words := (List.range (128 - fld w5 17 11)).map fun k => s.get (Port.LTB_SNF_BUF (fld w5 17 11 + k))
  ((words.flatMap fun x => [(nonets x).1, (nonets x).2]).map fun n => n.extractLsb' 0 8).take (fld w5 7 0)

/-- The transmit request of a channel of an entry (R84, R120, R121): the octets with the CRC and whitening the entry gives
(DEDUCED, log entry 154), at the entry's start on its first channel, else at a start no rule states (DESIGN CHOICE, log entry
149). -/
def State.sniffReq (s : State) (e i : Nat) (wait : Word) : TxAsk :=
  let p := s.sniffPhy e
  let w := phyGridW p
  let f := s.sniffOctets e
  let first := s.sniffFirst e
  let start := if i = 0 ∧ timeLt s.link.sniffFrom first then first
    else timeMax s.link.sniffFrom (s.openStart (s.sniffChain e) wait)
  { offset := BitVec.ofInt 18 (txOffset w (s.sniffBin e i) (signed 6 (s.getF (Port.LTB_SNF_0 e) 11 6))),
    phy := BitVec.ofNat 3 p, pcode := BitVec.ofNat 6 (s.getF (Port.LTB_SNF_0 e) 5 0), tStart := start,
    tLate := start + ticks s.slackTicks, dur := frameTicks p (f.length - hdrOctets p),
    signal := .frame (airFrame (phyIsLe p) (leChannel (s.sniffBin e i)) (s.sniffCrc e) (s.sniffWhite e) f) }

/-- SEQ_0's transmit request in a sniff window: while the chain's domain is not released, the action waits for it (R84,
R120, R121). -/
def State.sniffAsk (s : State) (wait : Word) : State :=
  if s.sniffing = false ∨ s.link.sniffOn = false ∨ s.sniffSends then s else
  match s.sniffTxEntry with
  | none => s
  | some (e, i) =>
    if s.domOn (txDom (s.sniffChain e)) = false then s else
    ((s.setSeqState 0 4).txAsk .sniff (s.sniffChain e) (s.sniffReq e i wait)).sniffSent

/-- After a window's last action its domains go off again, in decreasing bit order, but for those a due entry needs
(R395). -/
def State.sniffEnd (s : State) : State :=
  let done := match s.link.sniff with
    | some (e, i, h) => !h && decide (s.seqState 0 = 0) && decide (s.sniffBins e ≤ i)
    | none => true
  if s.level ≠ 3 ∨ s.link.sniffOn = false ∨ done = false then s else
  let keep := ((List.range 8).filter fun f => s.sniffDue f && s.sniffAble f && s.sniffing).flatMap s.sniffDoms
  let off := (List.range 16).reverse.filter fun d => s.pwr.on.getLsbD d && !keep.contains d
  let t := (forEach off (fun d u => u.domOff d) s).setSniff none
  if keep.isEmpty then
    (({ t with link := { t.link with sniffOn := false } }).setB Port.CLK_STAT 16 false).setWindow false
  else t

/-- A sniff transmission is late when its first bit leaves after its granted start, or never does (R121). -/
def State.sniffLate (s : State) (start : BitVec 54) (o : TxOwner) : State :=
  if o = .sniff ∧ timeLt start s.time.link then s.count Port.LTB_SNF_LATE else s

end Sys2Proof.Machine
end

