-- ==== Sys2Proof/Machine/Psm.lean ====
section
/-! DEFINITION. The peripheral serial masters (R381-R384): FIFOs, units of normal service, frames, and their commands. -/

namespace Sys2Proof.Machine

open Sys2Proof

/-- Change a master's hidden state. -/
def State.updPsm (s : State) (x : Nat) (f : Psm → Psm) : State := s.setPsm x (f (s.psmOf x))

/-- ERR and its counter. -/
def State.psmErr (s : State) (x : Nat) : State := (s.setB (Port.PSM_STAT x) 14 true).count (Port.PSM_ERRCNT x)

/-- DONE, with the interrupt while enabled (R384). -/
def State.psmDone (s : State) (x : Nat) : State :=
  let t := s.setB (Port.PSM_STAT x) 13 true
  if s.getB (Port.PSM_IEN x) 2 then t.raise (Irq.PSM x) else t

def State.psmBusy (s : State) (x : Nat) : Bool := s.getB (Port.PSM_STAT x) 17

/-- A frame is running. -/
def State.psmFrame (s : State) (x : Nat) : Bool := s.getB (Port.PSM_STAT x) 15

/-- BUSY, SELACT and FRAME. -/
def State.psmFlags (s : State) (x busy sel frame : Nat) : State :=
  s.setF (Port.PSM_STAT x) 17 15 (4 * busy + 2 * sel + frame)

/-- UNIT as it acts: 4 to 32 bits. -/
def State.psmUnit (s : State) (x : Nat) : Nat := max 4 (min 32 (s.getF (Port.PSM_CTRL x) 5 0))

/-- The low `n` bits of a unit. -/
def unitBits (n : Nat) (v : BitVec 32) : BitVec 32 := BitVec.ofNat 32 (v.toNat % 2 ^ n)

/-- The low `n` bits of a unit in line order, the first bit highest: least significant bit first under LSBF (R382). -/
def lineBits (lsbf : Bool) (n : Nat) (v : BitVec 32) : BitVec 32 :=
  if lsbf then BitVec.ofNat 32 (((List.range n).map fun i => nat1 (v.getLsbD i) * 2 ^ (n - 1 - i)).sum) else unitBits n v

/-- LSBF of normal service. -/
def State.psmLsbf (s : State) (x : Nat) : Bool := s.getB (Port.PSM_OPT x) 17

/-- A select is asserted: only the one that SEL names ever is (R381). -/
def State.psmSelect (s : State) (x k : Nat) : Bool := s.getB (Port.PSM_STAT x) 16 && decide (s.getF (Port.PSM_CTRL x) 11 9 = k)

/-- Lanes of a lane code (R383). -/
def laneCount (code : Nat) : Nat := if code = 3 then 4 else code

/-- Bits of the address phase. -/
def addrBits (aw : Nat) : Nat := 8 * min 4 aw

/-- The phases before the data that a START sends (R383); a lane code above 3 stands for four lanes (DESIGN CHOICE, log entry
164). -/
def State.psmLead (s : State) (x : Nat) : List PsmPhase :=
  let lanes := fun (hi : Nat) => laneCount (min 3 (s.getF (Port.PSM_FPH x) hi (hi - 2)))
  let n := if s.getB (Port.PSM_FPH x) 4 then 16 else 8
  let aw := addrBits (s.getF (Port.PSM_FPH x) 8 6)
  let addr := (s.get (Port.PSM_FADDR_0 x)).toNat + 2 ^ 18 * s.getF (Port.PSM_FADDR_1 x) 13 0
  let dum := s.getF (Port.PSM_FDUM x) 4 0
  (if lanes 17 = 0 then [] else [{ lanes := lanes 17, bits := n, value := (s.get (Port.PSM_FCMD x)).toNat % 2 ^ n }]) ++
    (if lanes 14 = 0 ∨ aw = 0 then [] else [{ lanes := lanes 14, bits := aw, value := addr % 2 ^ aw }]) ++
    (if dum = 0 then [] else [{ lanes := 0, bits := dum, value := 0 }])

/-- The masters are clocked: in Run only (R386). -/
def State.psmClocked (s : State) : Bool := decide (s.level = 0) && !s.time.stopped

/-- Run an operation on a master and raise its interrupt when a FIFO crossed an enabled threshold (R384). -/
def State.psmWatch (s : State) (x : Nat) (f : State → State) : State :=
  let t := f s
  let tx := s.getF (Port.PSM_OPT x) 11 6
  let rx := s.getF (Port.PSM_OPT x) 5 0
  let txHit := s.getB (Port.PSM_IEN x) 1 && decide (tx ≠ 0) && decide (tx < (s.psmOf x).tx.length) &&
    decide ((t.psmOf x).tx.length ≤ tx)
  let rxHit := s.getB (Port.PSM_IEN x) 0 && decide (rx ≠ 0) && decide ((s.psmOf x).rx.length < rx) &&
    decide (rx ≤ (t.psmOf x).rx.length)
  if txHit || rxHit then t.raise (Irq.PSM x) else t

/-- What normal service does at a unit boundary (R382): the next unit starts, SCK stops for want of room, or the
select releases unless HOLD is 1.  (DEDUCED, log entry 90.) -/
def State.psmNext (s : State) (x : Nat) : State :=
  let p := s.psmOf x
  if p.shifting.isSome then s else
  match p.tx with
  | [] => if s.getB (Port.PSM_OPT x) 16 then s else s.psmFlags x 0 0 0
  | u :: r =>
    if s.getB (Port.PSM_OPT x) 15 = false ∨ p.rx.length < 16 then
      (s.setPsm x { p with tx := r, shifting := some (lineBits (s.psmLsbf x) (s.psmUnit x) u), stalled := false }).psmFlags x 1 1 0
    else s.setPsm x { p with stalled := true }

/-- What a frame's data phase does at an octet boundary (R383). -/
def State.psmOctet (s : State) (x : Nat) : State :=
  let p := s.psmOf x
  if p.shifting.isSome ∨ p.left = 0 then s else
  if s.getB (Port.PSM_FPH x) 5 then
    match p.tx with
    | u :: r => s.setPsm x { p with tx := r, shifting := some (unitBits 8 u), left := p.left - 1, stalled := false }
    | [] => s.setPsm x { p with stalled := true }
  else if p.rx.length < 16 then s.setPsm x { p with shifting := some 0, left := p.left - 1, stalled := false }
  else s.setPsm x { p with stalled := true }

/-- Go on at a boundary. -/
def State.psmGo (s : State) (x : Nat) : State := if s.psmFrame x then s.psmOctet x else s.psmNext x

/-- START (R383). -/
def State.psmStart (s : State) (x : Nat) : State :=
  if s.psmBusy x ∨ (s.getB (Port.PSM_FPH x) 5 = false ∧ (s.psmOf x).tx ≠ []) then s.psmErr x else
  let n := if s.getF (Port.PSM_FPH x) 11 9 = 0 then 0 else s.getF (Port.PSM_FLEN x) 15 0
  s.psmWatch x fun s => ((s.updPsm x fun p => { p with left := n, lead := s.psmLead x }).psmFlags x 1 1 1).psmOctet x

/-- At the boundary ABORT releases the select, empties both FIFOs and sets DONE (R383). -/
def State.psmStop (s : State) (x : Nat) : State :=
  s.psmWatch x fun s => ((s.setPsm x Psm.idle).psmFlags x 0 0 0).psmDone x

/-- ABORT: at once between units, else when the unit or octet under way has been shifted (R383). -/
def State.psmAbort (s : State) (x : Nat) : State :=
  if (s.psmOf x).shifting.isSome then s.updPsm x fun p => { p with aborting := true } else s.psmStop x

/-- RELEASE of a select held by HOLD (R382). -/
def State.psmRelease (s : State) (x : Nat) : State :=
  if s.psmFrame x ∨ (s.psmOf x).shifting.isSome ∨ (s.psmOf x).tx ≠ [] then s else s.psmFlags x 0 0 0

/-- FLUSH: both FIFOs, with BUSY at 0 only. -/
def State.psmFlush (s : State) (x : Nat) : State :=
  if s.psmBusy x then s else s.psmWatch x fun s => s.updPsm x fun p => { p with tx := [], rx := [], stalled := false }

/-- A write to PSM_x_CMD. -/
def State.psmCmd (s : State) (x : Nat) (v : Word) : State :=
  if v = 1 then s.psmStart x else
  if v = 2 then s.psmAbort x else
  if v = 3 then s.psmRelease x else
  if v = 4 then s.psmFlush x else s

/-- A write to PSM_x_TXD_0 pushes an entry with the staged TXD_1; a full FIFO discards it with ERR (R382). -/
def State.psmPush (s : State) (x : Nat) (v : Word) : State :=
  if 16 ≤ (s.psmOf x).tx.length then s.psmErr x else
  let e : BitVec 32 := (s.get (Port.PSM_TXD_1 x)).extractLsb' 0 14 ++ v
  s.psmWatch x fun s => (s.updPsm x fun p => { p with tx := p.tx ++ [e] }).psmGo x

/-- A read of PSM_x_RXD_0 pops an entry; of an empty FIFO the value is open (DESIGN CHOICE, log entry 1). -/
def State.psmPop (s : State) (x : Nat) : BitVec 32 × State :=
  match (s.psmOf x).rx with
  | [] => ((0#14) ++ s.freeWord, s.nextFree)
  | e :: r => (e, s.psmWatch x fun s => (s.updPsm x fun p => { p with rx := r }).psmGo x)

/-- A unit or an octet has been shifted, and `v` was sampled, its bits in line order (R382, R383). -/
def State.psmShifted (s : State) (x : Nat) (v : BitVec 32) : State :=
  let p := s.psmOf x
  if p.shifting.isNone ∨ s.psmClocked = false then s else
  if p.aborting then s.psmStop x else
  let keep := if s.psmFrame x then !s.getB (Port.PSM_FPH x) 5 else s.getB (Port.PSM_OPT x) 15
  let e := if s.psmFrame x then unitBits 8 v else lineBits (s.psmLsbf x) (s.psmUnit x) v
  s.psmWatch x fun s => (s.setPsm x { p with shifting := none, rx := if keep then p.rx ++ [e] else p.rx }).psmGo x

/-- A frame ends once its data phase is over: DONE, and the select is released (R383). -/
def State.psmEnd (s : State) (x : Nat) : State :=
  let p := s.psmOf x
  if s.psmFrame x = false ∨ p.left ≠ 0 ∨ p.shifting.isSome ∨ s.psmClocked = false then s else
  s.psmWatch x fun s => (((s.updPsm x fun p => { p with lead := [] }).psmFlags x 0 0 0).psmDone x).psmNext x

/-- A write of PSM_x_CTRL: discarded for SEL or MODE above 3, and with ERR while BUSY. -/
def State.psmCtrl (s : State) (x : Nat) (v : Word) : State :=
  if s.psmBusy x then s.psmErr x else
  if 3 < fld v 11 9 ∨ 3 < fld v 8 6 then s else s.set (Port.PSM_CTRL x) v

/-- A write of PSM_x_OPT, discarded with ERR while BUSY. -/
def State.psmOpt (s : State) (x : Nat) (v : Word) : State :=
  if s.psmBusy x then s.psmErr x else
  s.psmWatch x fun s => (s.set (Port.PSM_OPT x) (v &&& 0o707777)).psmGo x

/-- PSM_x_STAT with the FIFO counts. -/
def State.psmView (s : State) (x : Nat) : Word :=
  s.get (Port.PSM_STAT x) ||| inFld 11 6 (s.psmOf x).tx.length ||| inFld 5 0 (s.psmOf x).rx.length

end Sys2Proof.Machine
end

