-- ==== Sys2Proof/Machine/Pins.lean ====
section
/-! DEFINITION. GPIO (R445, R446) and the test access port (R461, R353). -/

namespace Sys2Proof.Machine

open Sys2Proof

/-! ## GPIO -/

/-- FUNC of a ball. -/
def State.gpioFunc (s : State) (g : Nat) : Nat := s.getF (Port.GPIO_CFG g) 5 0

/-- What the board, or the ball's own clock, puts at a ball rises or falls; the ball's producer raises when its level follows
and its buffer is on (R421, R445).  (DESIGN CHOICE, log entry 74.) -/
def State.gpioMove (s : State) (g : Nat) (rise : Bool) : State :=
  if s.pins.gpioIn.getLsbD g = rise then s else
  let t := { s with pins := { s.pins with gpioIn := s.pins.gpioIn ^^^ BitVec.twoPow 48 g } }
  t.ballEdge s g

/-- GPIO_IN_k: 0 where the buffer is off. -/
def State.gpioLevels (s : State) (k : Nat) : Word := summary k fun g => s.gpioSeen g

/-- Output levels of word k take a value. -/
def State.gpioOutW (s : State) (k : Nat) (v : Word) : State := s.withEdges fun t => t.set (Port.GPIO_OUT k) v

/-- Set, clear and invert output levels of word k (R446). -/
def State.gpioSetW (s : State) (k : Nat) (v : Word) : State := s.gpioOutW k (s.get (Port.GPIO_OUT k) ||| (v &&& 0o177777))

def State.gpioClrW (s : State) (k : Nat) (v : Word) : State := s.gpioOutW k (s.get (Port.GPIO_OUT k) &&& ~~~v)

def State.gpioTogW (s : State) (k : Nat) (v : Word) : State := s.gpioOutW k (s.get (Port.GPIO_OUT k) ^^^ (v &&& 0o177777))

/-- A GPIO task changes a ball only while its function is an output (R423). -/
def State.gpioTask (s : State) (g act : Nat) : State :=
  if s.gpioFunc g ≠ 2 ∧ s.gpioFunc g ≠ 3 then s else
  let v : Word := inFld (g % 16) (g % 16) 1
  if act = 0 then s.gpioSetW (g / 16) v else if act = 1 then s.gpioClrW (g / 16) v else s.gpioTogW (g / 16) v

/-- FUNC, DRIVE, PULL and INIT hold codes of R445. -/
def gpioCodes (v : Word) : Bool :=
  (decide (fld v 5 0 ≤ 3) || inRange 8 11 (fld v 5 0)) && decide (fld v 8 6 ≤ 3) && decide (fld v 11 9 ≤ 3) &&
    decide (fld v 14 12 ≤ 1)

/-- A write of GPIO_g_CFG: a reserved code, or a single-instance function another ball holds, is discarded with ERR
(R446). -/
def State.gpioCfg (s : State) (g : Nat) (v : Word) : State :=
  let held := decide (8 ≤ fld v 5 0) && (List.range 48).any fun h => decide (h ≠ g) && decide (s.gpioFunc h = fld v 5 0)
  if gpioCodes v = false ∨ held then s.setB Port.GPIO_STAT 0 true else
    s.withEdges fun t => t.set (Port.GPIO_CFG g) (v &&& 0o077777)

/-- HIRQ_N is low (R375). -/
def State.hirqLow (s : State) : Bool := decide (s.get Port.HPT_HIRQ_PEND &&& s.get Port.HPT_HIRQ_EN ≠ 0)

/-! ## Test access port -/

/-- EXTEST is allowed: in FIELD, and after a fuse fault, it acts as BYPASS (R352, R353). -/
def State.extestOk (s : State) : Bool := decide (s.lcState ≠ 2) && decide (s.lcState ≠ 7)

/-- Shift out a register: TDO carries its bits. -/
def State.tapShift (s : State) (ir : BitVec 5) (out : BitVec 32) : State :=
  { s with pins := { s.pins with tapIr := ir, tapOut := out, bsrDrive := s.pins.bsrDrive && decide (ir = 0) } }

/-- A TRST_N pulse: the instruction register selects IDCODE, and EXTEST ends. -/
def State.tapClear (s : State) : State := { s with pins := { s.pins with tapIr := 2, bsrDrive := false } }

/-- The first 32 bits of a boundary-scan register, as shifted out. -/
def scanWord (l : List Bool) : BitVec 32 :=
  BitVec.ofNat 32 (((indexed (l.take 32)).map fun x => nat1 x.2 * 2 ^ x.1).sum)

/-- Length of the boundary-scan register: the 140 signal balls less the five of the TAP and the RF balls, XREF, XRTC_IN,
XRTC_OUT, ZQ and the Utvis pairs, one bit each (R443, R461; PRESUMED, log entry 81). -/
abbrev bsrLength : Nat := 119

/-- What a boundary-scan register of that length holds after a scan: bits not given are 0. -/
def scanned (l : List Bool) : List Bool := (l ++ List.replicate bsrLength false).take bsrLength

/-- EXTEST: the scanned-in register drives the balls; in FIELD it acts as BYPASS.  (DEDUCED, log entry 81.) -/
def State.tapExtest (s : State) (scanIn : List Bool) : State :=
  if s.extestOk = false then s.tapShift 0 (BitVec.ofNat 32 (2 * nat1 (scanIn.headD false))) else
  let t := s.tapShift 0 (scanWord s.pins.bsr)
  { t with pins := { t.pins with bsr := scanned scanIn, bsrDrive := true } }

/-- SAMPLE/PRELOAD: the balls are captured and shifted out while the register is loaded. -/
def State.tapSample (s : State) (balls scanIn : List Bool) : State :=
  let t := s.tapShift 1 (scanWord balls)
  { t with pins := { t.pins with bsr := scanned scanIn } }

/-- IDCODE: STEPPING [3:0], part, manufacturer, 1 (R461). -/
def State.tapId (s : State) : State :=
  s.tapShift 2 (BitVec.ofNat 32 (s.getF Port.SYS_PART 5 0 % 16 * 2 ^ 28 + 0x0496058B))

/-- BYPASS: one bit, captured as 0 and followed by the bit shifted in. -/
def State.tapBypass (s : State) (bit : Bool) : State := s.tapShift 0x1F (BitVec.ofNat 32 (2 * nat1 bit))

end Sys2Proof.Machine
end

