-- ==== Sys2Proof/Machine/Timers.lean ====
section
/-! DEFINITION. The twelve timers (R423-R432) and the tasks of the event fabric (R416-R418, R423). -/

namespace Sys2Proof.Machine

open Sys2Proof

/-! ## Timers -/

/-- An even timer is paired (R430). -/
def State.timPair (s : State) (n : Nat) : Bool := decide (n % 2 = 0) && s.getB (Port.TIM_CTRL n) 13

/-- An odd timer whose even one governs it. -/
def State.timSlave (s : State) (n : Nat) : Bool := decide (n % 2 = 1) && s.timPair (n - 1)

/-- The value of a timer's register at an offset: 36 bits in a pair. -/
def State.timVal (s : State) (n off : Nat) : Nat :=
  (s.get (Port.TIM_CTRL n + off)).toNat + (if s.timPair n then 2 ^ 18 * (s.get (Port.TIM_CTRL (n + 1) + off)).toNat else 0)

/-- Store the value of a timer's register at an offset. -/
def State.setTimVal (s : State) (n off v : Nat) : State :=
  let t := s.set (Port.TIM_CTRL n + off) (BitVec.ofNat 18 v)
  if s.timPair n then t.set (Port.TIM_CTRL (n + 1) + off) (BitVec.ofNat 18 (v / 2 ^ 18)) else t

/-- Offsets of COUNT, PERIOD and CC_k. -/
abbrev tCount : Nat := 4
abbrev tPeriod : Nat := 5
abbrev tCc (k : Nat) : Nat := 6 + k

def State.timRun (s : State) (n : Nat) : Bool := s.getB (Port.TIM_STAT n) 17

def State.setTimRun (s : State) (n : Nat) (v : Bool) : State := s.setB (Port.TIM_STAT n) 17 v

def State.timErr (s : State) (n : Nat) : State := s.setB (Port.TIM_STAT n) 15 true

/-- Channel k captures. -/
def State.timCaptures (s : State) (n k : Nat) : Bool := s.getB (Port.TIM_CTRL n) k

/-- A timer is frozen while the core its DBG_CORE names is halted (R432). -/
def State.timFrozen (s : State) (n : Nat) : Bool :=
  let c := s.getF (Port.TIM_CTRL n) 11 9
  s.getB (Port.TIM_CTRL n) 12 &&
    (decide (c = 0) && s.apc.halted || decide (c = 1) && s.lkc.halted || decide (c = 2) && (s.apc.halted || s.lkc.halted))

/-- A timer's clock and source run: TIM_0-TIM_7 in Run only; in Furl RTCCLK only; SYSCLK stops in Reef 3 outside windows
(R386, R397, R424). -/
def State.timClocked (s : State) (n : Nat) : Bool :=
  let src := s.getF (Port.TIM_CTRL n) 17 15
  if src = 2 ∧ s.time.rtcRunning = false then false else
  if src ≠ 2 ∧ s.time.stopped then false else
  if src = 0 ∧ s.level = 3 ∧ s.link.sniffOn = false then false else
  if s.level = 0 then true else decide (8 ≤ n) && (decide (s.level ≠ 4) || decide (src = 2))

/-- A compare or period event of TIM_8-TIM_11 requests wake (R393). -/
def State.timWake (s : State) (n : Nat) : State := if 8 ≤ n then s.wakeFrom 3 else s

/-- The event of channel k: its producer, and its interrupt while IEN enables it. -/
def State.timCcEvent (s : State) (n k : Nat) : State :=
  let t := s.raiseProducer (Ev.timCc n k)
  if s.getB (Port.TIM_IEN n) k then t.raise (Irq.TIM_GRP n) else t

/-- A compare event: CMPF_k (R428). -/
def State.timCompare (s : State) (n k : Nat) : State :=
  ((s.setB (Port.TIM_STAT n) k true).timCcEvent n k).timWake n

/-- The period event: PERF, and RUN clears in one-shot (R426). -/
def State.timPeriodEvent (s : State) (n : Nat) : State :=
  let t := (s.setB (Port.TIM_STAT n) 14 true).raiseProducer (Ev.timPeriod n)
  let u := if s.getB (Port.TIM_IEN n) 4 then t.raise (Irq.TIM_GRP n) else t
  (if s.getB (Port.TIM_CTRL n) 14 then u.setTimRun n false else u).timWake n

/-- One tick (R426, R428).  From a count above PERIOD the next count is open (DESIGN CHOICE, log entry 1).  (DEDUCED,
log entry 78.) -/
def State.timTick (s : State) (n : Nat) : State :=
  let c := s.timVal n tCount
  let p := s.timVal n tPeriod
  let next := if c < p then c + 1 else if c = p then 0 else s.freeNat % 2 ^ (if s.timPair n then 36 else 18)
  let t := (if p < c then s.nextFree else s).setTimVal n tCount next
  let u := if c = p then t.timPeriodEvent n else t
  forNat 4 (fun k v => if s.timCaptures n k = false ∧ s.timVal n (tCc k) = next then v.timCompare n k else v) u


/-- The prescaler's divisor in 1/512 (R425). -/
def State.timDivisor (s : State) (n : Nat) : Nat :=
  let i := s.getF (Port.TIM_PRE n) 17 9
  if i = 0 then 512 else 512 * i + s.getF (Port.TIM_PRE n) 8 0

/-- Set a prescaler accumulator. -/
def State.setTimAcc (s : State) (n v : Nat) : State :=
  { s with tim := { s.tim with acc := Cells.wr (fun _ => 0) s.tim.acc n v } }

/-- The prescaler accumulator, in 1/512 of a source cycle (R425). -/
def State.timAcc (s : State) (n : Nat) : Nat := Cells.rd (fun _ => 0) s.tim.acc n

/-- A timer takes the cycles of its source: it runs, is not frozen, and its clock and source run (R424, R432). -/
def State.timCounts (s : State) (n : Nat) : Bool :=
  !s.timSlave n && s.timRun n && !s.timFrozen n && s.timClocked n

/-- Source cycles pass, in 1/512: a timer that takes them adds them to its accumulator (R425). -/
def State.timPass (s : State) (src by_ n : Nat) : State :=
  if s.timCounts n && decide (s.getF (Port.TIM_CTRL n) 17 15 = src) then s.setTimAcc n (s.timAcc n + by_) else s

/-- Cycles of one source pass for every timer. -/
def State.timsPass (s : State) (src by_ : Nat) : State := forNat 12 (fun n t => t.timPass src by_ n) s

/-- A tick whose source cycles have passed is taken (R425, R426).  (DESIGN CHOICE, log entry 161.) -/
def State.timTicked (s : State) (n : Nat) : State :=
  if s.timCounts n && decide (s.timDivisor n ≤ s.timAcc n) then (s.setTimAcc n (s.timAcc n - s.timDivisor n)).timTick n else s

/-- One source cycle of SRC 4 through the prescaler (R424, R425). -/
def State.timSourceCycle (s : State) (n : Nat) : State := (s.timPass 4 512 n).timTicked n

/-- CLEAR: count and prescaler accumulator. -/
def State.timZero (s : State) (n : Nat) : State := (s.setTimVal n tCount 0).setTimAcc n 0

/-- A write to TIM_n_CMD; of a governed timer it is discarded with ERR (R430). -/
def State.timCmd (s : State) (n : Nat) (v : Word) : State :=
  if s.timSlave n then s.timErr n else
  if v = 1 then s.setTimRun n true else
  if v = 2 then s.setTimRun n false else
  if v = 3 then s.timZero n else s

/-- A write to TIM_n_CTRL (R424, R426, R430). -/
def State.timCtrl (s : State) (n : Nat) (v : Word) : State :=
  if s.timSlave n ∨ s.timRun n then s.timErr n else
  if 4 < fld v 17 15 then s else
  s.set (Port.TIM_CTRL n) (v &&& (if n % 2 = 0 then 0o777017 else 0o757017))

/-- A write to TIM_n_PRE. -/
def State.timPre (s : State) (n : Nat) (v : Word) : State := if s.timSlave n then s.timErr n else s.set (Port.TIM_PRE n) v

/-- Stage the even word of a pair (R430). -/
def State.timStage (s : State) (n off : Nat) (v : Word) : State :=
  { s with tim := { s.tim with stage := Cells.wr (fun _ => 0) s.tim.stage (16 * n + off) v,
                               staged := Cells.wr (fun _ => 0) s.tim.staged (16 * n + off) 1 } }

/-- The 36-bit value a write to the odd word makes, with the staged even word, and the stage emptied. -/
def State.timJoin (s : State) (n off : Nat) (hi : Word) : Nat × State :=
  let lo := if Cells.rd (fun _ => 0) s.tim.staged (16 * n + off) = 1 then Cells.rd (fun _ => 0) s.tim.stage (16 * n + off)
    else s.get (Port.TIM_CTRL n + off)
  (lo.toNat + 2 ^ 18 * hi.toNat,
   { s with tim := { s.tim with stage := Cells.wr (fun _ => 0) s.tim.stage (16 * n + off) 0,
                                staged := Cells.wr (fun _ => 0) s.tim.staged (16 * n + off) 0 } })

/-- A write of a value register of timer n takes effect with `act`: at once, or staged and joined in a pair (R430). -/
def State.timWrite (s : State) (n off : Nat) (v : Word) (act : State → Nat → Nat → State) : State :=
  if s.timPair n then s.timStage n off v
  else if s.timSlave n then
    let j := s.timJoin (n - 1) off v
    act j.2 (n - 1) j.1
  else act s n v.toNat

/-- A write to TIM_n_COUNT: discarded with ERR while RUN is 1 (R426). -/
def State.timCountWrite (s : State) (n : Nat) (v : Word) : State :=
  if s.timRun (if s.timSlave n then n - 1 else n) then s.timErr n
  else s.timWrite n tCount v fun t n x => t.setTimVal n tCount x

/-- A write to TIM_n_PERIOD: at or below the count, the period event fires and the count reloads (R427).  (DEDUCED,
log entry 77.) -/
def State.timPeriodWrite (s : State) (n : Nat) (v : Word) : State :=
  s.timWrite n tPeriod v fun t n x =>
    let u := t.setTimVal n tPeriod x
    if x ≤ t.timVal n tCount then (u.setTimVal n tCount 0).timPeriodEvent n else u

/-- A write to TIM_n_CC_k: discarded with ERR in capture mode; at or below the count of a running timer, the event fires
once (R428). -/
def State.timCcWrite (s : State) (n k : Nat) (v : Word) : State :=
  if s.timCaptures (if s.timSlave n then n - 1 else n) k then s.timErr n else
  s.timWrite n (tCc k) v fun t n x =>
    let u := t.setTimVal n (tCc k) x
    if t.timRun n ∧ x ≤ t.timVal n tCount ∧ x ≤ t.timVal n tPeriod then u.timCompare n k else u

/-- A capture (R429). -/
def State.timCapture (s : State) (n k : Nat) : State :=
  if s.timCaptures n k = false then s else
  let t := s.setTimVal n (tCc k) (s.timVal n tCount)
  let u := if s.getB (Port.TIM_STAT n) (6 + k) then t.setB (Port.TIM_STAT n) (10 + k) true else t
  (u.setB (Port.TIM_STAT n) (6 + k) true).timCcEvent n k

/-- A read of TIM_n_CC_k clears CF_k (R429). -/
def State.timCcRead (s : State) (n k : Nat) : State := s.setB (Port.TIM_STAT n) (6 + k) false

/-- TIM_n_STAT with FROZEN. -/
def State.timView (s : State) (n : Nat) : Word := withBit (s.get (Port.TIM_STAT n)) 16 (s.timFrozen n)

/-! ## Tasks -/

/-- A task is busy (R416, R423). -/
def State.taskBusy (s : State) (t : Nat) : Bool :=
  if 168 ≤ t ∧ t ≤ 263 then decide ((t - 168) / 8 < 8) && decide (s.level ≠ 0) else
  if t = 264 ∨ t = 265 then s.psmBusy (t - 264) || decide (s.level ≠ 0) else false

/-- What a task does (R423). -/
def State.taskDo (s : State) (t : Nat) : State :=
  if t < 4 then s.raise (Irq.EV_IRQ t) else
  if t = 4 then s.wakeFrom 1 else
  if 8 ≤ t ∧ t ≤ 15 then s.setB Port.EVF_GRP (t - 8) true else
  if 16 ≤ t ∧ t ≤ 23 then s.setB Port.EVF_GRP (t - 16) false else
  if 24 ≤ t ∧ t ≤ 71 then s.gpioTask (t - 24) 0 else
  if 72 ≤ t ∧ t ≤ 119 then s.gpioTask (t - 72) 1 else
  if 120 ≤ t ∧ t ≤ 167 then s.gpioTask (t - 120) 2 else
  if 168 ≤ t ∧ t ≤ 263 then
    let n := (t - 168) / 8
    let k := (t - 168) % 8
    if s.timSlave n then s else
    if k = 0 then s.setTimRun n true else
    if k = 1 then s.setTimRun n false else
    if k = 2 then s.timZero n else
    if k = 3 then s.timSourceCycle n else s.timCapture n (k - 4)
  else if t = 264 ∨ t = 265 then s.psmStart (t - 264)
  else if t = 266 ∨ t = 267 then s.psmAbort (t - 266) else s

/-- Slots of a task that an outstanding event of a channel has still to reach. -/
def State.slotsDue (s : State) (t ch : Nat) : Nat := ((s.chTasks ch).filter fun x => decide (x = t)).length

/-- Channels whose outstanding event a task has still to accept or ignore. -/
def State.chansDue (s : State) (t : Nat) : List Nat := (List.range 48).filter fun ch => decide (0 < s.slotsDue t ch)

/-- A task takes its events (R416): a busy task ignores each; a free one acts once, and one merged event counts when both
slots received one. -/
def State.taskTake (s : State) (t : Nat) : State :=
  let chs := s.chansDue t
  if chs.isEmpty then s else
  let n := (chs.map (s.slotsDue t)).sum
  let u := forEach chs (fun ch v => v.setChTasks ch ((v.chTasks ch).filter fun x => decide (x ≠ t))) s
  if s.taskBusy t then (forNat n (fun _ v => v.count Port.EVF_IGNCNT) u).setF Port.EVF_LAST 17 9 t
  else
    let w := if 1 < n then (u.count Port.EVF_MRGCNT).setF Port.EVF_LAST 8 0 t else u
    w.taskDo t

/-- A loop guard's window closes (R418): WINDOW × 10 µs after it opened, while LNKCLK runs. -/
def State.guardClose (s : State) (ch : Nat) : State :=
  if s.guardOpen ch = 0 ∨ s.guardOver ch = false then s else
  (s.setGuard ch 0).setF (Port.EVF_CH_STAT ch) 8 0 0

/-- A write to EVF_SW raises EV_SW_k for each bit. -/
def State.evSwWrite (s : State) (v : Word) : State :=
  forNat 8 (fun k t => if bitOf v k then t.raiseProducer (Ev.sw k) else t) s

/-- A write to a channel's SRC, GATE or GUARD: one that names a reserved producer or gate is discarded; a GUARD write
restarts the window with a count of zero (R419). -/
def State.evfChannelWrite (s : State) (ch reg : Nat) (v : Word) : State :=
  if reg = 0 then
    (if producerOk (fld v 8 0) then s.set (Port.EVF_CH_SRC ch) (v &&& 0o070777) else s)
  else if reg = 1 then (if gateOk (fld v 8 0) then s.set (Port.EVF_CH_GATE ch) (v &&& 0o000777) else s)
  else (((s.set (Port.EVF_CH_GUARD ch) v).setGuard ch 0).setF (Port.EVF_CH_STAT ch) 8 0 0)

/-- A write to a task's slots: a reserved channel discards it (R419). -/
def State.evfTaskWrite (s : State) (t : Nat) (v : Word) : State :=
  if 48 ≤ fld v 14 9 ∨ 48 ≤ fld v 5 0 then s else s.set (Port.EVF_TASK t) (v &&& 0o477477)

/-- EVF_CH_n_STAT with GRPEN and GATELVL. -/
def State.evfView (s : State) (ch : Nat) : Word :=
  let w := s.get (Port.EVF_CH_STAT ch)
  withBit (withBit (if s.guardLive ch then w else withFld w 8 0 0) 15 (s.grpOn ch)) 14
    (s.gateLevel (s.getF (Port.EVF_CH_GATE ch) 8 0))

end Sys2Proof.Machine
end

