-- ==== Sys2Proof/Machine/Rtc.lean ====
section
/-! DEFINITION. The real-time clock (R433-R441) and its copy of link time (R105). -/

namespace Sys2Proof.Machine

open Sys2Proof

/-- The calendar: seconds, minutes, hours, day, month, year. -/
structure Calendar where
  sec : Nat
  min : Nat
  hour : Nat
  day : Nat
  month : Nat
  year : Nat
  deriving DecidableEq, Repr

/-- A field that counts to its normal maximum, or from above it to its largest value, and then wraps with a carry
(R434). -/
def clockStep (normal largest v : Nat) : Nat × Bool :=
  if v = normal ∨ v = largest then (0, true) else (v + 1, false)

/-- Month length (R434). -/
def monthDays (month year : Nat) : Nat :=
  if month = 2 then (if year % 4 = 0 then 29 else 28)
  else if month = 4 ∨ month = 6 ∨ month = 9 ∨ month = 11 then 30 else 31

/-- DAY of R434. -/
def dayStep (l v : Nat) : Nat × Bool :=
  if v = 0 then (1, false)
  else if v < l then (v + 1, false)
  else if v = l ∨ v = 31 ∨ v = 63 then (1, true)
  else (v + 1, false)

/-- MONTH of R434. -/
def monthStep (v : Nat) : Nat × Bool :=
  if v = 0 then (1, false) else if v = 12 ∨ v = 15 then (1, true) else (v + 1, false)

/-- YEAR of R434. -/
def yearStep (v : Nat) : Nat := if v = 199 ∨ v = 255 then 0 else v + 1

/-- The calendar one second later (R434). -/
def Calendar.next (c : Calendar) : Calendar :=
  let s := clockStep 59 63 c.sec
  let m := if s.2 then clockStep 59 63 c.min else (c.min, false)
  let h := if m.2 then clockStep 23 31 c.hour else (c.hour, false)
  let d := if h.2 then dayStep (monthDays c.month c.year) c.day else (c.day, false)
  let mo := if d.2 then monthStep c.month else (c.month, false)
  { sec := s.1, min := m.1, hour := h.1, day := d.1, month := mo.1, year := if mo.2 then yearStep c.year else c.year }

/-- The calendar as the registers hold it. -/
def State.calendar (s : State) : Calendar :=
  { sec := (s.get Port.RTC_SEC).toNat, min := (s.get Port.RTC_MIN).toNat, hour := (s.get Port.RTC_HOUR).toNat,
    day := (s.get Port.RTC_DAY).toNat, month := (s.get Port.RTC_MONTH).toNat, year := (s.get Port.RTC_YEAR).toNat }

def Calendar.words (c : Calendar) : List Word := [c.sec, c.min, c.hour, c.day, c.month, c.year].map (BitVec.ofNat 18)

/-- Store calendar words from a port on. -/
def State.setFields (s : State) (p : Nat) (l : List Word) : State := { s with regs := Cells.wrs coldOf s.regs p l }

/-- Mask of a calendar field's width (R433). -/
def fieldBits (i : Nat) : Word := [0o77, 0o77, 0o37, 0o77, 0o17, 0o377].getD i 0

/-- An alarm with a field enabled whose enabled fields all equal the calendar's (R437). -/
def State.alarmMeets (s : State) : Bool :=
  let on := (List.range 6).filter fun i => s.getB (Port.RTC_ALM_SEC + i) 17
  !on.isEmpty && on.all fun i => decide (s.get (Port.RTC_ALM_SEC + i) &&& fieldBits i = s.get (Port.RTC_SEC + i))

/-- The calendar took a value: ALARMF, RTC_ALARM and wake source 2 on a match (R437, R393). -/
def State.alarmCheck (s : State) : State :=
  if s.alarmMeets then ((s.setB Port.RTC_STAT 16 true).raise Irq.RTC_ALARM).wakeFrom 2 else s

/-- A second boundary: link time is copied (R105) and producer 220 raises. -/
def State.secondEdge (s : State) : State :=
  (s.setWide (Port.LTB_RTCLT 0) 3 s.time.link.toNat).raiseProducer Ev.rtcSecond

/-- Set the divider. -/
def State.setDiv (s : State) (v : Nat) : State := s.set Port.RTC_SUB (BitVec.ofNat 18 v)

/-- COMMIT: the staged fields wait for the next RTCCLK edge (R436). -/
def State.rtcCommit (s : State) : State :=
  let img : Word × Word × List Word :=
    (BitVec.ofNat 18 (s.getF Port.RTC_STAT 5 0), 0, (List.range 6).map fun i => s.get (Port.RTC_STG_SEC + i))
  ({ s with time := { s.time with rtcCommit := some img } }).setB Port.RTC_STAT 13 true

/-- A write to a staging register sets the field and its STAGED bit; during a pending commit it belongs to the next one
(R16, R436). -/
def State.rtcStage (s : State) (i : Nat) (v : Word) : State :=
  let t := (s.set (Port.RTC_STG_SEC + i) (v &&& fieldBits i)).setB Port.RTC_STAT i true
  match s.time.rtcCommit with
  | some (m, again, l) => { t with time := { t.time with rtcCommit := some (m, withBit again i true, l) } }
  | none => t

/-- A pending commit applies at an edge: no roll-over happens there (R436). -/
def State.commitEdge (s : State) : State :=
  match s.time.rtcCommit with
  | none => s
  | some (m, again, l) =>
    let t := { s with time := { s.time with rtcCommit := none, rtcRunning := true } }
    let u := forNat 6 (fun i v => if bitOf m i then v.set (Port.RTC_SEC + i) (l.getD i 0) else v) t
    let keep := (s.get Port.RTC_STAT &&& ~~~(m &&& ~~~again)) &&& fieldMask 5 0
    let w := ((u.setF Port.RTC_STAT 5 0 keep.toNat).setB Port.RTC_STAT 13 false).setDiv 0
    w.secondEdge.alarmCheck

/-- The divider stands at its last count and wraps (R434); a commit that meets it stands and the roll-over is dropped (R436).
An edge shows that RTCCLK runs again.  (DESIGN CHOICE, log entry 162.) -/
def State.rtcWrap (s : State) : State :=
  if s.time.rtcCommit.isSome then s.commitEdge else
  let t := { s with time := { s.time with rtcRunning := true } }
  if s.time.rtcRunning = false ∨ s.get Port.RTC_SUB ≠ 32767 then t else
  ((t.setDiv 0).setFields Port.RTC_SEC s.calendar.next.words).secondEdge.alarmCheck

/-- A write to RTC_CMD: COMMIT, CLEAR_STAMP, DISCARD. -/
def State.rtcCmd (s : State) (v : Word) : State :=
  if v = 1 then s.rtcCommit else
  if v = 2 then s.setB Port.RTC_STAT 15 false else
  if v = 3 then s.setF Port.RTC_STAT 5 0 0 else s

/-- A write to RTC_STAT: ALARMF clears by a 1; OSF only while RTCCLK runs and the supply is above the detector's
threshold, which is open once the detector has tripped (R440, log entry 1).  (DEDUCED, log entry 79.) -/
def State.rtcStatWrite (s : State) (v : Word) : State :=
  let t := if bitOf v 16 then s.setB Port.RTC_STAT 16 false else s
  if bitOf v 17 = false ∨ s.time.rtcRunning = false then t else
  if s.time.bkdLow then
    (if Config.freeBit t.free then
      ({ t with time := { t.time with bkdLow := false } }).setB Port.RTC_STAT 17 false
     else t).nextFree
  else t.setB Port.RTC_STAT 17 false

/-- Key of a master's latch of a port. -/
def latchKey (m : Master) (p : Nat) : Nat := m.num * 65536 + p

/-- Latch a word for a master. -/
def State.setLatch (s : State) (m : Master) (p : Nat) (v : Word) : State :=
  { s with latch := { s.latch with multi := Cells.wr (fun _ => none) s.latch.multi (latchKey m p) (some v) } }

/-- A latched word; none when the master has latched none. -/
def State.latched (s : State) (m : Master) (p : Nat) : Option Word :=
  Cells.rd (fun _ => none) s.latch.multi (latchKey m p)

/-- A master's calendar snapshot lives for 32,768 cycles of RTCCLK (R435). -/
def State.snapped (s : State) (m : Master) : Bool :=
  let a := Cells.rd (fun _ => 0) s.latch.snapAge m.num
  decide (a ≠ 0) && decide (s.time.rtcEdges < a - 1 + 32768)

def State.setSnap (s : State) (m : Master) (v : Nat) : State :=
  { s with latch := { s.latch with snapAge := Cells.wr (fun _ => 0) s.latch.snapAge m.num v } }

/-- A master's read of RTC_SEC latches the calendar and the divider for it (R435).  (DEDUCED, log entry 80.) -/
def State.rtcSnap (s : State) (m : Master) : Word × State :=
  (s.get Port.RTC_SEC,
   (forNat 6 (fun i t => t.setLatch m (Port.RTC_MIN + i) (s.get (Port.RTC_MIN + i))) s).setSnap m (s.time.rtcEdges + 1))

/-- A calendar register as a master reads it. -/
def State.rtcRead (s : State) (m : Master) (p : Nat) : Word :=
  if s.snapped m then (s.latched m p).getD (s.get p) else s.get p

/-- A snapshot lapses once its time is over (R435). -/
def State.snapEnd (s : State) (m : Master) : State := if s.snapped m then s else s.setSnap m 0

/-- BKD switches to VBAK: the stamp is taken unless one is held; a switch-over that takes too long sets OSF (R439,
R440). -/
def State.backup (s : State) (late : Bool) : State :=
  if s.time.onBackup then s else
  let t := { s with time := { s.time with onBackup := true } }
  let u := if s.getB Port.RTC_STAT 15 then t
    else (t.setFields Port.RTC_SW_SEC s.calendar.words).setB Port.RTC_STAT 15 true
  if late then u.setB Port.RTC_STAT 17 true else u

/-- RTCCLK shows no edge (R440). -/
def State.rtcStop (s : State) : State :=
  ({ s with time := { s.time with rtcRunning := false } }).setB Port.RTC_STAT 17 true

/-- The BKD supply falls below the detector (R440). -/
def State.bkdLowNow (s : State) : State :=
  ({ s with time := { s.time with bkdLow := true } }).setB Port.RTC_STAT 17 true

end Sys2Proof.Machine
end

