-- ==== Sys2Proof/Machine/FuavoBase.lean ====
section
/-! DEFINITION. What every Fuavo instruction shares: when a core may run its next word, the fetch (R26, R286, R310,
R316, R317), taking a trap (R276, R289, R290) or an interrupt (R287), halting (R293), the data space (R25, R304-R307)
and the accesses that wait on DRAM (R239). -/

namespace Sys2Proof.Machine

open Sys2Proof

/-- Change a core. -/
def State.updCore (s : State) (c : Core) (f : CoreState → CoreState) : State := s.setCore c (f (s.core c))

/-! ## Debug halts (R293, R295) -/

/-- A core halts, with its CAUSE: 1 HALT, 2 BRK, 3 breakpoint, 4 step done. -/
def State.haltCore (s : State) (c : Core) (cause : Nat) : State :=
  (s.updCore c fun x => { x with halted := true, haltReq := false, stepping := 0 }).setF (Port.DBG_STAT c.num) 14 12 cause

/-- An instruction has completed: a STEP, or a HALT that came during its access, halts the core. -/
def State.retire (s : State) (c : Core) : State :=
  let x := s.core c
  if x.apWait.isSome ∨ x.halted then s else
  if x.stepping ≠ 0 then s.haltCore c 4 else
  if x.haltReq then s.haltCore c 1 else s

/-- An enabled breakpoint stands at the next word, and has not been passed by RUN or STEP. -/
def State.breakHere (s : State) (c : Core) : Bool :=
  let x := s.core c
  !x.resumed &&
    ((s.getB (Port.DBG_CFG c.num) 16 && decide (s.get (Port.DBG_BP_0 c.num) = x.pc)) ||
     (s.getB (Port.DBG_CFG c.num) 15 && decide (s.get (Port.DBG_BP_1 c.num) = x.pc)))

/-! ## Boundaries (R287) -/

/-- A core's domain is released and it is out of reset, neither halted nor in lockup, and its clock runs. -/
def State.coreLive (s : State) (c : Core) : Bool :=
  let x := s.core c
  s.domOn c.num && !x.inReset && !x.halted && !x.lockup && !x.bootWait && !x.gated

/-- An interrupt is taken at the present boundary (R276, R287, R293). -/
def State.irqDue (s : State) (c : Core) : Bool :=
  let x := s.core c
  x.ie && !x.eiShadow && decide (x.res ≠ 15) && decide (x.stepping ≠ 2) && x.apWait.isNone && x.above.isSome

/-- A core executes its next word now.  (DEDUCED, log entry 35.) -/
def State.coreReady (s : State) (c : Core) : Bool :=
  let x := s.core c
  s.coreLive c && !x.waiting && x.apWait.isNone && !s.irqDue c && !s.breakHere c

/-! ## Traps and interrupts -/

/-- An entry into a handler: the window slides, w11 takes the return address and w10 CS (R276). -/
def CoreState.enter (x : CoreState) (ret target : Word) : CoreState :=
  let y := (x.slide.setReg 11 ret).setReg 10 x.cs
  { y with pc := target, waiting := false }

/-- The vector of a number (R289). -/
def CoreState.vector (x : CoreState) (n : Nat) : Word := x.vbase + BitVec.ofNat 18 (4 * n)

/-- A trap condition at RES 15: lockup and a reset of the core's group (R290). -/
def State.lockUp (s : State) (c : Core) : State :=
  ((s.updCore c fun x => { x with lockup := true }).setF (Port.DBG_STAT c.num) 14 12 5).groupReset c .lockup

/-- TCAUSE of a trap: KIND is stated for traps 3 to 6, ARG for trap 7; the other fields are open (DESIGN CHOICE, log entry 46). -/
def trapCause (free : Word) (n : Nat) (kind arg : Option Nat) : Word :=
  inFld 17 12 n ||| inFld 11 9 (kind.getD (fld free 11 9)) ||| inFld 7 0 (arg.getD (fld free 7 0))

/-- What a trap records beside TCAUSE. -/
structure TrapInfo where
  n : Nat
  ret : Word
  kind : Option Nat
  arg : Option Nat
  addr : Option Word
  words : Option (Word × Word)
  deriving DecidableEq, Repr

/-- The entry of a trap that the window takes.  (DEDUCED, log entry 38.) -/
def State.trapNow (s : State) (c : Core) (t : TrapInfo) : State :=
  let cause := trapCause s.freeWord t.n t.kind t.arg
  (s.updCore c fun x =>
    let y := (x.enter t.ret (x.vector t.n)).setIe false
    { y with tcause := cause, taddr := t.addr.getD y.taddr, tword0 := (t.words.map Prod.fst).getD y.tword0,
             tword1 := (t.words.map Prod.snd).getD y.tword1 }).nextFree

/-- WIN_OVF at a word. -/
def winOvf (ret : Word) : TrapInfo := { n := 1, ret := ret, kind := none, arg := none, addr := none, words := none }

/-- Take a trap (R276, R289): at RES 15 lockup; at RES 14 every trap but WIN_OVF is replaced by WIN_OVF at the
trapping word. -/
def State.trapTo (s : State) (c : Core) (t : TrapInfo) : State :=
  let x := s.core c
  if x.res = 15 then s.lockUp c else
  if x.res = 14 ∧ t.n ≠ 1 then s.trapNow c (winOvf x.pc) else s.trapNow c t

/-- A fault of the present instruction: INSTR_FAULT 3, DATA_FAULT 4, IO_FAULT 5 or ECC_FAULT 6. -/
def State.faultAt (s : State) (c : Core) (n kind : Nat) (addr : Word) : State :=
  s.trapTo c { n := n, ret := (s.core c).pc, kind := some kind, arg := none, addr := some addr, words := none }

/-- IO_FAULT of an access of a domain that is off or in reset, read KIND 4, write KIND 5 (R18, R289): taken by a core that
runs, at the word at its pc. -/
def State.ioFault (s : State) (c : Core) (write : Bool) (p : Nat) : State :=
  if s.coreLive c then (s.faultAt c 5 (if write then 5 else 4) (BitVec.ofNat 18 p)).retire c else s

/-- The interrupt entry (R276, R287): at RES 14 WIN_OVF, and the interrupt stays pending. -/
def State.irqEnter (s : State) (c : Core) : State :=
  let x := s.core c
  match x.above with
  | none => s
  | some (n, p) =>
    if x.res = 14 then s.trapNow c (winOvf x.pc) else
    s.updCore c fun x =>
      let y := x.enter x.pc (x.vector (16 + n))
      { y with cs := withFld y.cs 14 12 (p + 1), ipend := y.ipend &&& ~~~(BitVec.twoPow 64 n) }

/-! ## Fetch -/

/-- What a read of a space gives a core: a word, a bus fault, an uncorrectable error, or it has to wait. -/
inductive Reach where
  | ok (w : Word) | fault | ecc | hold
  deriving DecidableEq, Repr

/-- A core's read of a flash word (R309, R316, R317, R319): a read of an erasing bank suspends the erase.  (DEDUCED,
log entry 40.)  The fetch path's buffers are not state (DESIGN CHOICE, log entry 160). -/
def State.flashReach (s : State) (b o : Nat) : Reach × State :=
  if s.domOn 14 = false then (.fault, s) else
  if s.getB Port.FLC_STAT 0 = false then (.hold, s) else
  if s.inErase b o ∨ (b = 4 ∧ s.flc.running ∧ (s.flc.op.map FlashOp.bank) = some 4) then (.fault, s) else
  if s.programming b ∨ (s.erasing b ∧ s.getB Port.FLC_STAT 16 = false ∧ s.ranMin = false) then (.hold, s) else
  let t := if s.erasing b then s.eraseSuspend else s
  match t.flashRd b o with
  | (some w, u) => (.ok w, u)
  | (none, u) => (.ecc, u)

/-- The flash place of an instruction address: the core's active image, or its anchor (R26, R308, R357, R363). -/
def State.codePlace (s : State) (c : Core) (a : Word) : Nat × Nat :=
  if Cells.rd (fun _ => 0) s.sec.ranAnchor c.num = 1 then (4, anchorBase c.num + (a.toNat - 0x4000))
  else (s.roleBank c.num, a.toNat - 0x4000)

/-- A core's read of instruction space (R26).  What a word of the boot ROM holds is open (DESIGN CHOICE, log entry 1). -/
def State.codeReach (s : State) (c : Core) (a : Word) : Reach × State :=
  if a.toNat < 0x4000 then
    if s.rig.bootExit then (.fault, s) else (.ok s.freeWord, s)
  else if Cells.rd (fun _ => 0) s.sec.imageLen c.num ≤ a.toNat - 0x4000 then (.fault, s)
  else s.flashReach (s.codePlace c a).1 (s.codePlace c a).2

/-- Run one instruction of a core: nothing happens unless the core executes its next word now; a word that cannot be
fetched traps, and one that has to wait leaves the core where it is (R289, R316).  `f` answers none when its access
has to wait.  (DESIGN CHOICE, log entry 23.) -/
def State.coreRun (s : State) (c : Core) (words : Nat) (f : State → Option State) : State :=
  if s.coreReady c = false then s else
  let pc := (s.core c).pc
  let go := fun (t : State) =>
    match f (t.updCore c fun x => { x with eiShadow := false, resumed := false }) with
    | some u => u.retire c
    | none => s
  match s.codeReach c pc with
  | (.hold, _) => s
  | (.fault, t) => (t.faultAt c 3 2 pc).retire c
  | (.ecc, t) => (t.faultAt c 6 2 pc).retire c
  | (.ok _, t) =>
    if words = 1 then go t else
    match t.codeReach c (pc + 1) with
    | (.hold, _) => s
    | (.fault, u) => (u.faultAt c 3 2 (pc + 1)).retire c
    | (.ecc, u) => (u.faultAt c 6 2 (pc + 1)).retire c
    | (.ok _, u) => go u

/-- An instruction that changes only the core's own registers and goes on to the next word. -/
def State.alu (s : State) (c : Core) (words : Nat) (f : CoreState → CoreState) : State :=
  s.coreRun c words fun t => some (t.updCore c fun x => (f x).advance words)

/-! ## Data space (R25) -/

/-- The SRAM role of a core's local banks. -/
def localRole : Core → BankRole
  | .apc => .apc
  | .lkc => .lkc

/-- Where a data address leads (R25, R304, R306, R307). -/
inductive Place where
  | none                                  -- the map marks it as faulting
  | sram (k : Nat)                        -- an SRAM word, physical address
  | csw (slot i : Nat)                    -- context store
  | mbx (o : Nat)
  | basin (o : Nat)
  | dram (block i : Nat)
  | flash (b o : Nat)
  deriving DecidableEq, Repr

/-- The place an aperture shows at an offset (R304). -/
def State.aperture (s : State) (c : Core) (w o : Nat) : Place :=
  let cfg := s.get (Port.MEM_AP_CFG (4 * c.num + w))
  let k := (s.get (Port.MEM_AP_BASE (4 * c.num + w))).toNat % 65536 * 8192 + o
  if fld cfg 17 15 = 1 then .basin o else
  if fld cfg 17 15 = 2 then
    let r := s.dramRegion c
    if k < r.2 * 12 then .dram (r.1 + k / 12) (k % 12) else .none
  else if fld cfg 17 15 = 3 then
    if fld cfg 14 12 ≤ 4 ∧ k < bankSize (fld cfg 14 12) then .flash (fld cfg 14 12) k else .none
  else .none

/-- The place of a data address of a core. -/
def State.place (s : State) (c : Core) (a : Word) : Place :=
  let n := a.toNat
  if n < 0x30000 then
    if n < s.roleBanks (localRole c) * 16384 then .sram (s.roleWord (localRole c) n) else .none
  else if n < 0x38000 then s.aperture c ((n - 0x30000) / 8192) (n % 8192)
  else if n < 0x3C000 then
    let k := (s.get (Port.MEM_CSW_BASE c.num)).toNat * 16384 + (n - 0x38000)
    if s.domOn 2 ∧ k < s.roleBanks .ctx * 16384 then .csw (k / 64) (k % 64) else .none
  else if s.domOn 11 ∧ n - 0x3C000 < s.mbxWords then .mbx (n - 0x3C000) else .none

/-- A stored SRAM word as a core reads it (R286). -/
def State.sramReach (s : State) (k : Nat) : Reach := if s.sramBad k = 2 then .ecc else .ok (s.sramRd k)

/-- What a data access gives: a word (0 for a store), a fault, an error, or a wait. -/
inductive Access where
  | done (w : Word) | fault | ecc | hold | dram (basin : Bool) (block i : Nat)
  deriving DecidableEq, Repr

/-- A reach as an access. -/
def Reach.access : Reach → Access
  | .ok w => .done w
  | .fault => .fault
  | .ecc => .ecc
  | .hold => .hold

/-- A load (R284, R304). -/
def State.dataRead (s : State) (c : Core) (a : Word) : Access × State :=
  match s.place c a with
  | .none => (.fault, s)
  | .sram k => ((s.sramReach k).access, s)
  | .csw slot i => ((s.sramReach (s.slotWord slot i)).access, s)
  | .mbx o => ((s.sramReach (s.mbxAddr o)).access, s)
  | .basin o =>
    let s := s.followOpen c.master
    match (s.copy c.num).rpkt with
    | none => (.fault, s)
    | some (_, p) =>
      if (p.len + 1) / 2 ≤ o then (.done 0, s) else
      if (p.payCell o).near then let r := s.payRead p o; (.done r.1, r.2)
      else (.dram true 0 o, s)
  | .dram block i => (.dram false block i, s)
  | .flash b o => let r := s.flashReach b o; (r.1.access, r.2)

/-- A core may write a context store word through its window (R111, R180, R306). -/
def State.cswOk (s : State) (c : Core) (slot i : Nat) : Bool :=
  let o := s.occupantOf slot
  (decide (c = .lkc) || s.getB Port.MEM_CSW_GRANT 0) && decide (i ≠ 63) &&
    !(decide (i ≤ 16) && decide (o ≠ 0) && (s.cal (o - 1)).isSome)

/-- A store (R284, R304-R307, R312). -/
def State.dataWrite (s : State) (c : Core) (a v : Word) : Access × State :=
  match s.place c a with
  | .none => (.fault, s)
  | .sram k => (.done 0, s.sramWrM k v)
  | .csw slot i =>
    if s.cswOk c slot i = false then (.fault, s) else
    let t := s.sramWrM (s.slotWord slot i) v
    (.done 0, if s.hasHomes then t.sramWr (t.slotWord slot 63) (withBit (t.sramRd (t.slotWord slot 63)) 10 true) else t)
  | .mbx o => if s.mbxProtected o then (.fault, s) else (.done 0, s.sramWrM (s.mbxAddr o) v)
  | .basin _ => (.fault, s)
  | .dram block i => (.dram false block i, s)
  | .flash b o =>
    if s.domOn 14 = false then (.fault, s) else (.done 0, s.flashCycle c.num b o v)

/-- An aperture access starts to wait on DRAM: a DRAM target's request enters the core's port queue (R239, R331).
(DEDUCED, log entry 39.) -/
def State.startWait (s : State) (c : Core) (w : ApWait) : State :=
  let t := s.updCore c fun x => { x with apWait := some w }
  if w.basin then t else
  t.dramRequest { port := c.num, write := w.write, block := w.block, since := s.time.link }

/-- The waiting access completes with a word. -/
def State.endWait (s : State) (c : Core) (w : ApWait) (v : Word) : State :=
  (s.updCore c fun x =>
    { ((if w.write then x else x.setReg w.reg v).advance w.words) with apWait := none }).retire c

/-- A load into a register (R280, R284). -/
def State.load (s : State) (c : Core) (words : Nat) (rd : BitVec 4) (a : Word) : State :=
  s.coreRun c words fun t =>
    match t.dataRead c a with
    | (.done v, u) => some (u.updCore c fun x => (x.setReg rd v).advance words)
    | (.fault, u) => some (u.faultAt c 4 0 a)
    | (.ecc, u) => some (u.faultAt c 6 0 a)
    | (.hold, _) => none
    | (.dram basin block i, u) => some (u.startWait c
        { addr := a, write := false, reg := rd, v := 0, words := words, basin := basin, block := block, idx := i,
          since := u.time.link })

/-- A store of a word (R280, R284). -/
def State.store (s : State) (c : Core) (words : Nat) (a v : Word) : State :=
  s.coreRun c words fun t =>
    match t.dataWrite c a v with
    | (.done _, u) => some (u.updCore c fun x => x.advance words)
    | (.fault, u) => some (u.faultAt c 4 1 a)
    | (.ecc, u) => some (u.faultAt c 6 1 a)
    | (.hold, _) => none
    | (.dram basin block i, u) => some (u.startWait c
        { addr := a, write := true, reg := 0, v := v, words := words, basin := basin, block := block, idx := i,
          since := u.time.link })

/-- A transfer of a core's port has completed: its waiting access completes with it (R239, R325, R332). -/
def State.dramDone (s : State) : State :=
  match s.dmc.cur with
  | none => s
  | some r =>
    let s1 := { s with dmc := { s.dmc with cur := none } }
    let c := coreOf r.port
    match (s1.core c).apWait with
    | none => s1
    | some w =>
      if w.basin ∨ w.block ≠ r.block then s1 else
      if w.write then (s1.dramStore r.port r.block w.idx w.v).endWait c w 0
      else let x := s1.dramRead r.port r.block; x.2.endWait c w (x.1.getD w.idx 0)

/-- The Basin has fetched cells of a core's open read packet: an access that waits for one of them completes. -/
def State.basinWaitEnd (s : State) (c : Core) : State :=
  match (s.core c).apWait, (s.copy c.num).rpkt with
  | some w, some (_, p) =>
    if w.basin ∧ (p.payCell w.idx).near then let r := s.payRead p w.idx; r.2.endWait c w r.1 else s
  | _, _ => s

/-- An aperture access has waited 64 µs: it completes with the data fault trap; a read returns zero, a write is discarded,
and the request is withdrawn (R239).  (DEDUCED, log entry 36.) -/
def State.waitExpire (s : State) (c : Core) : State :=
  match (s.core c).apWait with
  | none => s
  | some w =>
    if (timeDiff s.time.link w.since).toNat < 64 * tickUs then s else
    let t := s.updCore c fun x => { (if w.write then x else x.setReg w.reg 0) with apWait := none }
    let u := { t with dmc := { t.dmc with queue := t.dmc.queue.filter fun r => decide (r.port ≠ c.num) } }
    (u.faultAt c 4 (nat1 w.write) w.addr).retire c

end Sys2Proof.Machine
end

