-- ==== Sys2Proof/Machine/FuavoOps.lean ====
section
/-! DEFINITION. The operations of the Fuavo instruction set (R275-R292) that touch no port: arithmetic, shifts, memory,
branches, calls, the system operations and the control registers.  A command of an instruction and a debugger's STEP
call the same operation. -/

namespace Sys2Proof.Machine

open Sys2Proof

/-! ## Arithmetic -/

/-- A short pair (R278, R279). -/
def State.opPair (s : State) (c : Core) (op1 op2 : BitVec 8) (cond : Bool) : State :=
  s.alu c 1 fun x =>
    if cond && !x.flags.t then x
    else (x.setReg (shortDest op1) (shortValue x op1)).setReg (shortDest op2) (shortValue x op2)

/-- A result with flags into a register. -/
def CoreState.put (x : CoreState) (rd : BitVec 4) (r : Word × Flags) : CoreState := (x.setReg rd r.1).setFlags r.2

/-- A bitwise operation: Z and N. -/
def CoreState.logic (x : CoreState) (rd : BitVec 4) (r : Word) : CoreState := x.put rd (r, x.flags.zn r)

def State.opAdd (s : State) (c : Core) (rd ra rb : BitVec 4) : State :=
  s.alu c 1 fun x => x.put rd (addFlags x.flags (x.reg ra) (x.reg rb) false)

def State.opSub (s : State) (c : Core) (rd ra rb : BitVec 4) : State :=
  s.alu c 1 fun x => x.put rd (subFlags x.flags (x.reg ra) (x.reg rb) false)

def State.opAdc (s : State) (c : Core) (rd ra rb : BitVec 4) : State :=
  s.alu c 1 fun x => x.put rd (addFlags x.flags (x.reg ra) (x.reg rb) x.flags.c)

def State.opSbc (s : State) (c : Core) (rd ra rb : BitVec 4) : State :=
  s.alu c 1 fun x => x.put rd (subFlags x.flags (x.reg ra) (x.reg rb) (!x.flags.c))

def State.opAnd (s : State) (c : Core) (rd ra rb : BitVec 4) : State :=
  s.alu c 1 fun x => x.logic rd (x.reg ra &&& x.reg rb)

def State.opOr (s : State) (c : Core) (rd ra rb : BitVec 4) : State :=
  s.alu c 1 fun x => x.logic rd (x.reg ra ||| x.reg rb)

def State.opXor (s : State) (c : Core) (rd ra rb : BitVec 4) : State :=
  s.alu c 1 fun x => x.logic rd (x.reg ra ^^^ x.reg rb)

/-- SHI rd, kind, n (R282). -/
def State.opShi (s : State) (c : Core) (rd : BitVec 4) (kind : BitVec 2) (n : BitVec 6) : State :=
  s.alu c 1 fun x => x.put rd (shiftFlags x.flags kind n.toNat (x.reg rd))

/-- SHV rd, kind, rb: n = rb[5:0]. -/
def State.opShv (s : State) (c : Core) (rd : BitVec 4) (kind : BitVec 2) (rb : BitVec 4) : State :=
  s.alu c 1 fun x => x.put rd (shiftFlags x.flags kind (fld (x.reg rb) 5 0) (x.reg rd))

def State.opMul (s : State) (c : Core) (rd ra rb : BitVec 4) : State :=
  s.alu c 1 fun x => x.put rd (mulFlags x.flags (x.reg ra) (x.reg rb))

/-- MULX: an even rd unsigned into rd and rd + 1, an odd rd signed into rd - 1 and rd, low word first. -/
def State.opMulx (s : State) (c : Core) (rd ra rb : BitVec 4) : State :=
  s.alu c 1 fun x =>
    let r := mulxFlags x.flags (rd.getLsbD 0) (x.reg ra) (x.reg rb)
    let lo : BitVec 4 := if rd.getLsbD 0 then rd - 1 else rd
    ((x.setReg lo (r.1.extractLsb' 0 18)).setReg (lo + 1) (r.1.extractLsb' 18 18)).setFlags r.2

def State.opAddi (s : State) (c : Core) (rd : BitVec 4) (imm : BitVec 8) : State :=
  s.alu c 1 fun x => x.put rd (addFlags x.flags (x.reg rd) (simm8 imm) false)

def State.opMovi (s : State) (c : Core) (rd : BitVec 4) (imm : BitVec 8) : State :=
  s.alu c 1 fun x => x.setReg rd (simm8 imm)

/-- CMP c, ra, rb: the flags of ra - rb, then T from the condition; c = 14 leaves T. -/
def State.opCmp (s : State) (c : Core) (cond ra rb : BitVec 4) : State :=
  s.alu c 1 fun x =>
    let f := (subFlags x.flags (x.reg ra) (x.reg rb) false).2
    x.setFlags { f with t := condHolds f cond }

/-- CMPI: T takes Z. -/
def State.opCmpi (s : State) (c : Core) (ra : BitVec 4) (imm : BitVec 8) : State :=
  s.alu c 1 fun x =>
    let f := (subFlags x.flags (x.reg ra) (simm8 imm) false).2
    x.setFlags { f with t := f.z }

def State.opMovw (s : State) (c : Core) (rd : BitVec 4) (imm : Word) : State :=
  s.alu c 2 fun x => x.setReg rd imm

def State.opMov (s : State) (c : Core) (rd ra : BitVec 4) : State :=
  s.alu c 1 fun x => x.setReg rd (x.reg ra)

def State.opNot (s : State) (c : Core) (rd ra : BitVec 4) : State :=
  s.alu c 1 fun x => x.logic rd (~~~(x.reg ra))

def State.opNeg (s : State) (c : Core) (rd ra : BitVec 4) : State :=
  s.alu c 1 fun x => x.put rd (subFlags x.flags 0 (x.reg ra) false)

/-- SWN exchanges the nonets. -/
def State.opSwn (s : State) (c : Core) (rd ra : BitVec 4) : State :=
  s.alu c 1 fun x => x.logic rd (ofNonets (nonets (x.reg ra)).2 (nonets (x.reg ra)).1)

def State.opSxn (s : State) (c : Core) (rd ra : BitVec 4) : State :=
  s.alu c 1 fun x => x.logic rd ((nonets (x.reg ra)).2.signExtend 18)

def State.opZxn (s : State) (c : Core) (rd ra : BitVec 4) : State :=
  s.alu c 1 fun x => x.logic rd (x.reg ra &&& 0o000777)

/-- CLZ: Z of the count, N 0. -/
def State.opClz (s : State) (c : Core) (rd ra : BitVec 4) : State :=
  s.alu c 1 fun x =>
    let r := BitVec.ofNat 18 (clzWord (x.reg ra))
    x.put rd (r, { x.flags with z := decide (r = 0), n := false })

def State.opTnz (s : State) (c : Core) (ra : BitVec 4) : State :=
  s.alu c 1 fun x => x.setFlags { x.flags with t := decide (x.reg ra ≠ 0) }

def State.opSetT (s : State) (c : Core) (v : Bool) : State :=
  s.alu c 1 fun x => x.setFlags { x.flags with t := v }

/-! ## Memory -/

def State.opLd (s : State) (c : Core) (rd ra n : BitVec 4) : State := s.load c 1 rd (memAddr (s.core c) ra n)

def State.opSt (s : State) (c : Core) (rs ra n : BitVec 4) : State :=
  s.store c 1 (memAddr (s.core c) ra n) ((s.core c).reg rs)

def State.opLda (s : State) (c : Core) (r ra : BitVec 4) (abs : Bool) (off : Word) : State :=
  s.load c 2 r (longAddr (s.core c) ra abs off)

def State.opSta (s : State) (c : Core) (r ra : BitVec 4) (abs : Bool) (off : Word) : State :=
  s.store c 2 (longAddr (s.core c) ra abs off) ((s.core c).reg r)

/-- LDC reads instruction space; a word that cannot be read takes DATA_FAULT with KIND 3 (R26, R317, log entry 47). -/
def State.opLdc (s : State) (c : Core) (rd ra n : BitVec 4) : State :=
  let a := memAddr (s.core c) ra n
  s.coreRun c 1 fun t =>
    match t.codeReach c a with
    | (.ok v, u) =>
      some ((if a.toNat < 0x4000 then u.nextFree else u).updCore c fun x => (x.setReg rd v).advance 1)
    | (.fault, u) => some (u.faultAt c 4 3 a)
    | (.ecc, u) => some (u.faultAt c 6 3 a)
    | (.hold, _) => none

/-! ## Branches, calls and returns -/

/-- Go on at an address. -/
def State.jump (s : State) (c : Core) (a : Word) : State := s.updCore c fun x => { x with pc := a }

/-- B c, soff8. -/
def State.opB (s : State) (c : Core) (cond : BitVec 4) (off : BitVec 8) : State :=
  s.alu c 1 fun x => if condHolds x.flags cond then { x with pc := x.pc + simm8 off } else x

/-- DBNZ rd, soff8. -/
def State.opDbnz (s : State) (c : Core) (rd : BitVec 4) (off : BitVec 8) : State :=
  s.alu c 1 fun x =>
    let v := x.reg rd - 1
    let y := x.setReg rd v
    if v = 0 then y else { y with pc := y.pc + simm8 off }

def State.opJmp (s : State) (c : Core) (ra : BitVec 4) : State :=
  s.coreRun c 1 fun t => some (t.jump c ((t.core c).reg ra))

def State.opJmpl (s : State) (c : Core) (a : Word) : State := s.coreRun c 2 fun t => some (t.jump c a)

/-- CALL and CALLL of `words` words to a target (R275).  (DEDUCED, log entry 37.) -/
def State.callTo (s : State) (c : Core) (words : Nat) (target : Word) : State :=
  let x := s.core c
  if 14 ≤ x.res.toNat then s.trapTo c (winOvf x.pc) else
  s.updCore c fun x => { x.slide.setReg 5 (x.pc + BitVec.ofNat 18 words) with pc := target }

def State.opCall (s : State) (c : Core) (ra : BitVec 4) : State :=
  s.coreRun c 1 fun t => some (t.callTo c 1 ((t.core c).reg ra))

def State.opCalll (s : State) (c : Core) (a : Word) : State := s.coreRun c 2 fun t => some (t.callTo c 2 a)

/-- WIN_UNF of a RET or RETI with RES 1. -/
def State.winUnf (s : State) (c : Core) : State :=
  s.trapTo c { n := 2, ret := (s.core c).pc, kind := none, arg := none, addr := none, words := none }

def State.opRet (s : State) (c : Core) : State :=
  s.coreRun c 1 fun t =>
    some (if (t.core c).res = 1 then t.winUnf c else t.updCore c fun x => { x.unslide with pc := x.reg 5 })

/-- Writable bits of CS (R292). -/
abbrev csMask : Word := 0o470037

/-- RETI (R276). -/
def State.opReti (s : State) (c : Core) : State :=
  s.coreRun c 1 fun t =>
    some (if (t.core c).res = 1 then t.winUnf c
      else t.updCore c fun x => { x.unslide with pc := x.reg 11, cs := x.reg 10 &&& csMask })

/-! ## System operations -/

def State.opNop (s : State) (c : Core) : State := s.alu c 1 fun x => x

/-- WAIT: the core stops until a source is pending, enabled and above LEVEL (R287). -/
def State.opWait (s : State) (c : Core) : State := s.alu c 1 fun x => { x with waiting := x.above.isNone }

/-- A pending, enabled source above LEVEL ends WAIT (R287), which abandons an entry (R392). -/
def State.wakeWait (s : State) (c : Core) : State :=
  if s.coreLive c && (s.core c).waiting && (s.core c).above.isSome then
    (s.updCore c fun x => { x with waiting := false }).waitEnded else s

/-- TRAP n: SOFT, whose w11 is the next word. -/
def State.opTrap (s : State) (c : Core) (n : BitVec 8) : State :=
  s.coreRun c 1 fun t =>
    some (t.trapTo c { n := 7, ret := (t.core c).pc + 1, kind := none, arg := some n.toNat, addr := none, words := none })

/-- BRK: a halt under BRKEN, else BREAK (R291, R295). -/
def State.opBrk (s : State) (c : Core) : State :=
  s.coreRun c 1 fun t =>
    some (if t.getB (Port.DBG_CFG c.num) 17 then (t.updCore c fun x => x.advance 1).haltCore c 2
      else t.trapTo c { n := 8, ret := (t.core c).pc + 1, kind := none, arg := none, addr := none, words := none })

/-- FENCE: every earlier access has taken effect by then, since each completes before the next word (R284, R285). -/
def State.opFence (s : State) (c : Core) : State := s.alu c 1 fun x => x

/-- EI: interrupts are first considered after the next word (R287). -/
def State.opEi (s : State) (c : Core) : State := s.alu c 1 fun x => { x.setIe true with eiShadow := true }

def State.opDi (s : State) (c : Core) : State := s.alu c 1 fun x => x.setIe false

/-- RESERVED_OP at a word (R283, R289). -/
def State.reservedOp (s : State) (c : Core) (w0 w1 : Word) : State :=
  let pc := (s.core c).pc
  s.trapTo c { n := 0, ret := pc, kind := none, arg := none, addr := some pc, words := some (w0, w1) }

/-- The word that follows, for TWORD_1: 0 when its fetch would fault (R283). -/
def State.nextWord (s : State) (c : Core) : Option Word × State :=
  match s.codeReach c ((s.core c).pc + 1) with
  | (.ok v, u) => (some v, if ((s.core c).pc + 1).toNat < 0x4000 then u.nextFree else u)
  | (.hold, u) => (none, u)
  | (_, u) => (some 0, u)

/-! ## Control registers (R292) -/

/-- The core's 64-bit interrupt words as control registers. -/
def slice16 (v : BitVec 64) (g : Nat) : Word := (v.extractLsb' (16 * g) 16).setWidth 18

/-- Replace a 16-bit slice. -/
def putSlice (n : Nat) (v : BitVec n) (g : Nat) (w : Word) : BitVec n :=
  (v &&& ~~~((0xFFFF : BitVec n) <<< (16 * g))) ||| (((w.setWidth 16).setWidth n) <<< (16 * g))

/-- IACT: the highest pending, enabled source and its priority. -/
def CoreState.iact (x : CoreState) : Word :=
  match x.best with
  | some (n, p) => inFld 17 17 1 ||| inFld 13 12 p ||| inFld 5 0 n
  | none => 0

/-- A control register's value; none when the table does not list it. -/
def CoreState.crValue (x : CoreState) (c : Core) (n : Nat) : Option Word :=
  if n = 0 then some x.cs else
  if n = 1 then some (inFld 15 12 x.wb.toNat ||| inFld 3 0 x.res.toNat) else
  if n = 2 then some (x.wpidx.setWidth 18) else
  if n = 3 then some (x.phys x.wpidx.toNat) else
  if n = 4 then some x.vbase else
  if n = 5 then some x.tcause else
  if n = 6 then some x.tword0 else
  if n = 7 then some x.tword1 else
  if n = 8 then some x.taddr else
  if n = 9 then some (BitVec.ofNat 18 c.num) else
  if n = 10 then some (x.cycle.extractLsb' 0 18) else
  if n = 11 then some (x.cycle.extractLsb' 18 18) else
  if n = 12 then some (x.cycle.extractLsb' 36 18) else
  if 16 ≤ n ∧ n ≤ 19 then some (slice16 x.ien (n - 16)) else
  if 20 ≤ n ∧ n ≤ 23 then some (slice16 x.ipend (n - 20)) else
  if 24 ≤ n ∧ n ≤ 31 then some ((x.ipri.extractLsb' (16 * (n - 24)) 16).setWidth 18) else
  if n = 32 then some x.iact else
  if n = 33 then some 0 else none

/-- WPIDX moves on, modulo 96 (R277). -/
def CoreState.wpStep (x : CoreState) : CoreState := { x with wpidx := BitVec.ofNat 7 ((x.wpidx.toNat + 1) % 96) }

/-- What the core's own read of a control register changes in it: WPDATA moves WPIDX on. -/
def CoreState.crTouch (x : CoreState) (n : Nat) : CoreState := if n = 3 then x.wpStep else x

/-- CYCLE_1 and CYCLE_2 of a core as a master's last read of its CYCLE_0 latched them (R15, R292). -/
def State.cycleHi (s : State) (m : Master) (c : Core) : Option (Word × Word) :=
  Cells.rd (fun _ => none) s.latch.cycle (2 * m.num + c.num)

/-- A control register of a core as a master reads it: the core itself, or the debugger (R292, R295). -/
def State.crRead (s : State) (m : Master) (c : Core) (n : Nat) : Option Word :=
  match s.cycleHi m c with
  | none => (s.core c).crValue c n
  | some h => if n = 11 then some h.1 else if n = 12 then some h.2 else (s.core c).crValue c n

/-- A master's read of CYCLE_0 latches CYCLE_1 and CYCLE_2 for that master alone (R15). -/
def State.crLatch (s : State) (m : Master) (c : Core) (n : Nat) : State :=
  if n ≠ 10 then s else
  let hi := ((s.core c).cycle.extractLsb' 18 18, (s.core c).cycle.extractLsb' 36 18)
  { s with latch := { s.latch with cycle := Cells.wr (fun _ => none) s.latch.cycle (2 * m.num + c.num) (some hi) } }

/-- A write of a control register. -/
def CoreState.crWrite (x : CoreState) (n : Nat) (v : Word) : CoreState :=
  if n = 0 then { x with cs := v &&& csMask, eiShadow := x.eiShadow || (bitOf v 17 && !x.ie) } else
  if n = 1 then { x with res := if fld v 3 0 = 0 then 1 else if fld v 3 0 = 15 then 14 else v.setWidth 4 } else
  if n = 2 then (if fld v 6 0 < 96 then { x with wpidx := v.setWidth 7 } else x) else
  if n = 3 then (x.setPhys x.wpidx.toNat v).wpStep else
  if n = 4 then { x with vbase := v &&& 0o777000 } else
  if 16 ≤ n ∧ n ≤ 19 then { x with ien := putSlice 64 x.ien (n - 16) v } else
  if 20 ≤ n ∧ n ≤ 23 then { x with ipend := x.ipend &&& ~~~(putSlice 64 0 (n - 20) v) } else
  if 24 ≤ n ∧ n ≤ 31 then { x with ipri := putSlice 128 x.ipri (n - 24) v } else x

/-- A write of a control register of a core; BELL 1 raises source 0 at the other core. -/
def State.crSet (s : State) (c : Core) (n : Nat) (v : Word) : State :=
  if n = 33 then (if v = 1 then s.updCore c.other fun x => x.pend 0 else s)
  else s.updCore c fun x => x.crWrite n v

/-- The first word of CRD and CWR. -/
def crWord (r : BitVec 4) (w : Bool) (cr : BitVec 6) : Word :=
  inFld 16 12 25 ||| inFld 11 8 r.toNat ||| inFld 7 7 (nat1 w) ||| inFld 5 0 cr.toNat

/-- CRD and CWR of an unlisted number (R283). -/
def State.crReserved (s : State) (c : Core) (w : Word) : Option State :=
  match s.nextWord c with
  | (some v, t) => some (t.reservedOp c w v)
  | (none, _) => none

def State.opCrd (s : State) (c : Core) (r : BitVec 4) (cr : BitVec 6) : State :=
  s.coreRun c 1 fun t =>
    match t.crRead c.master c cr.toNat with
    | some v =>
      some ((t.crLatch c.master c cr.toNat).updCore c fun x => ((x.crTouch cr.toNat).setReg r v).advance 1)
    | none => t.crReserved c (crWord r false cr)

def State.opCwr (s : State) (c : Core) (r : BitVec 4) (cr : BitVec 6) : State :=
  s.coreRun c 1 fun t =>
    if ((t.core c).crValue c cr.toNat).isSome then
      some ((t.crSet c cr.toNat ((t.core c).reg r)).updCore c fun x => x.advance 1)
    else t.crReserved c (crWord r true cr)

/-- Reserved encodings that the first word shows (R283). -/
def reservedFirst (w : Word) : Bool :=
  let m := fld w 16 12
  let sub := fld w 11 8
  let cr := fld w 5 0
  !w.msb &&
    (decide (28 ≤ m) ||
     (decide (m = 0) && (decide (10 ≤ sub) || (decide (sub ≠ 3) && decide (fld w 7 0 ≠ 0)))) ||
     (decide (m = 9) && decide (fld w 5 4 ≠ 0)) ||
     (decide (m = 18) && decide (fld w 1 0 ≠ 0)) ||
     ((decide (m = 20) || decide (m = 21)) && decide (fld w 2 0 ≠ 0)) ||
     (decide (m = 23) && (decide (5 ≤ sub) || decide (fld w 3 0 ≠ 0) || (decide (2 ≤ sub) && decide (fld w 7 4 ≠ 0)))) ||
     (decide (m = 25) && (bitOf w 6 || (CoreState.reset.crValue .apc cr).isNone)) ||
     (decide (m = 26) && decide (8 ≤ fld w 3 0)) ||
     (decide (m = 27) && decide (fld w 7 0 ≠ 0)))

/-- A reserved field of the second word: [17:16] of IN and OUT. -/
def reservedSecond (w0 w1 : Word) : Bool :=
  !w0.msb && (decide (fld w0 16 12 = 20) || decide (fld w0 16 12 = 21)) && decide (fld w1 17 16 ≠ 0)

/-- A word with a reserved encoding (R283).  Words whose encoding is not reserved are not this command's: they leave
the state as it is. -/
def State.opReserved (s : State) (c : Core) (w0 w1 : Word) : State :=
  if reservedFirst w0 then
    s.coreRun c 1 fun t =>
      match t.codeReach c ((t.core c).pc + 1) with
      | (.ok _, u) => some (u.reservedOp c w0 w1)
      | (.hold, _) => none
      | (_, u) => some (u.reservedOp c w0 0)
  else if reservedSecond w0 w1 then s.coreRun c 2 fun t => some (t.reservedOp c w0 w1)
  else s

end Sys2Proof.Machine
end

