-- ==== Sys2Proof/Machine/Access.lean ====
section
/-! DEFINITION. Reads and writes of ports by a master (R5-R8, R14-R18, R24, R40): which accesses a block answers, what
a register shows, what a read changes, and which operation a write starts. -/

namespace Sys2Proof.Machine

open Sys2Proof

/-! ## Who is answered -/

/-- How an access is answered: a register, NOT_READY before a Rig is accepted (R40), OFF_DOMAIN (R18). -/
inductive IoRes where
  | ok | notReady | offDomain
  deriving DecidableEq, Repr

/-- Ports of the identity set (R40). -/
def identityPort (p : Nat) : Bool := decide (p ≤ 0x000F) || inRange 0x0300 0x0307 p

/-- Ports of the debug block (R24). -/
def debugPort (p : Nat) : Bool := inRange 0x7F00 0x7FFF p

/-- How a master's access of a port is answered. -/
def State.ioGate (s : State) (p : Nat) : IoRes :=
  if s.ready = false ∧ identityPort p = false then .notReady else
  if s.portUp p then .ok else .offDomain

/-- An access that finds no register: the debug block answers the debugger and cores while it is open (R24); a locked
debug bus gives the debugger nothing at all (R353), and none before READY, when its accesses stall (R40).  (DEDUCED, log
entry 50.) -/
def State.ioBlind (s : State) (m : Master) (p : Nat) : Bool :=
  if m = .dbg then !s.ready || !s.debugOpen else debugPort p && (decide (m = .host) || !s.debugOpen)

/-- What becomes of an access that no register answers: a core's access of a domain that is off takes IO_FAULT (R18); a
debug-bus access before READY stalls, `w` the word written, and the bus holds one (R40, log entry 130); any other is
discarded.  (DEDUCED, log entry 130.) -/
def State.unanswered (s : State) (m : Master) (p : Nat) (w : Option Word) : State :=
  if m = .dbg ∧ s.ready = false then
    (if s.latch.stall.isSome then s else { s with latch := { s.latch with stall := some (BitVec.ofNat 16 p, w) } })
  else match m.core with
  | some c => if s.ioGate p = .offDomain then s.ioFault c w.isSome p else s
  | none => s

/-! ## Debug registers (R293, R295) -/

/-- A write to DBG_c_CTL. -/
def State.dbgCmd (s : State) (c : Core) (v : Word) : State :=
  let x := s.core c
  if v = 1 then
    if x.halted ∨ x.inReset ∨ x.lockup ∨ s.domOn c.num = false then s else
    if x.apWait.isSome then s.updCore c fun y => { y with haltReq := true } else s.haltCore c 1
  else if x.halted = false ∨ v = 0 ∨ 4 < v.toNat then s
  else (s.updCore c fun y => { y with halted := false, resumed := true, stepping := v.toNat - 2 }).setF
    (Port.DBG_STAT c.num) 14 12 0

/-- The register DBG_c_RSEL selects: a control register, or a register code. -/
def State.dbgSel (s : State) (c : Core) : Bool × Nat :=
  let w := s.get (Port.DBG_RSEL c.num)
  (bitOf w 17, fld w 5 0)

/-- DBG_c_RDATA as a master reads it. -/
def State.dbgValue (s : State) (m : Master) (c : Core) : Word :=
  let r := s.dbgSel c
  if r.1 then (s.crRead m c r.2).getD 0
  else if r.2 < 16 then (s.core c).reg (BitVec.ofNat 4 r.2) else 0

/-- A write to DBG_c_RDATA of a halted core. -/
def State.dbgStore (s : State) (c : Core) (v : Word) : State :=
  let r := s.dbgSel c
  if (s.core c).halted = false then s else
  if r.1 then s.crSet c r.2 v
  else if r.2 < 16 then s.updCore c fun x => x.setReg (BitVec.ofNat 4 r.2) v else s

/-- The core of a debug port. -/
def dbgCore (p : Nat) : Core := if p < 0x7F10 then .apc else .lkc

/-! ## Where a register stands -/

/-- Ports of which every master has its own copy: the Basin's command interface and the cipher engine's jobs and key
commands (R212, R341). -/
def bankedPort (p : Nat) : Bool := inRange 0x2010 0x201F p || inRange 0x6010 0x6024 p

/-- The key of a port's register for a master. -/
def regKey (m : Master) (p : Nat) : Nat := if bankedPort p then bank m p else p

/-- The host's free write-buffer words (R372). -/
def State.hostFree (s : State) : Nat := 2048 - (s.host.buf.map HostWord.size).sum

/-- DSTATE of the status word (R369, R376). -/
def State.dstate (s : State) : Nat := if s.ready then 1 else if s.getF Port.RIG_STAT 14 12 = 3 then 2 else 0

/-- Higher words that a read of a register latches for the master (R15, R73, R382, R430): their ports and values. -/
def State.higherWords (s : State) (p : Nat) : List Nat :=
  if p = 0x3800 ∨ p = 0x3806 then [p + 1, p + 2] else
  if inRange 0x0110 0x0118 p ∧ p % 2 = 0 then [p + 1] else
  if p = 0x2002 then [p + 1] else
  if inRange 0x6101 0x62F9 p ∧ p % 8 = 1 then [p + 1] else
  if inRange 0x4800 0x4FFF p ∧ p % 32 = 10 then [p + 1, p + 2, p + 3, p + 4, p + 5] else
  if inRange 0x0800 0x0AFF p ∧ inRange 4 9 (p % 64) ∧ s.timPair ((p - 0x0800) / 64) then [p + 64] else
  if p = 0x0E06 ∨ p = 0x0F06 then [p + 1] else
  []

/-- A port holds a latched word for masters that read its _0 word; a timer's only while it is paired. -/
def State.latchable (s : State) (p : Nat) : Bool :=
  inRange 0x3801 0x3802 p || inRange 0x3807 0x3808 p || (inRange 0x0111 0x0119 p && decide (p % 2 = 1)) ||
    decide (p = 0x2003) || (inRange 0x6102 0x62FA p && decide (p % 8 = 2)) ||
    (inRange 0x4800 0x4FFF p && inRange 11 15 (p % 32)) ||
    (inRange 0x0800 0x0AFF p && inRange 4 9 (p % 64) && s.timSlave ((p - 0x0800) / 64)) ||
    decide (p = 0x0E07) || decide (p = 0x0F07)

/-! ## What a register shows -/

/-- Registers of ports 0x0000-0x0FFF that do not show stored bits alone. -/
def State.view0 (s : State) (m : Master) (p : Nat) : Word :=
  if p = Port.CLK_STAT then s.clkView p else
  if inRange 0x0400 0x057F p ∧ p % 8 = 3 then s.evfView ((p - 0x0400) / 8) else
  if inRange 0x0800 0x0AFF p ∧ p % 64 = 3 then s.timView ((p - 0x0800) / 64) else
  if inRange 0x0C00 0x0C06 p then s.rtcRead m p else
  if p = Port.RTC_STAT then withBit (s.get p) 14 (s.snapped m) else
  if p = Port.HPT_STAT then withBit (withFld (s.get p) 17 15 s.dstate) 10 (!s.host.buf.isEmpty) else
  if p = Port.HPT_WFREE then BitVec.ofNat 18 s.hostFree else
  if p = 0x0E02 ∨ p = 0x0F02 then s.psmView ((p - 0x0E00) / 256) else
  if p = 0x0E06 ∨ p = 0x0F06 then (s.psmPop ((p - 0x0E00) / 256)).1.extractLsb' 0 18 else s.get p

/-- Registers of ports 0x1000-0x2FFF. -/
def State.view12 (s : State) (m : Master) (p : Nat) : Word :=
  if p = Port.MEM_STAT then withBit (s.get p) 0 (s.granted Act.sramScrub) else
  if p < 0x1800 then s.get p else
  if p < 0x2000 then s.dmcView p else
  if p = Port.BSN_RDATA then (s.rdata m).1 else
  if inRange 0x2010 0x201F p then s.copyView m p else
  if p < 0x2800 then s.basinView p else s.trmView p

/-- Registers of the debug block (R295). -/
def State.viewDbg (s : State) (m : Master) (p : Nat) : Word :=
  let c := dbgCore p
  if p % 16 = 1 then withBit (s.get p) 17 (s.core c).halted else
  if p % 16 = 3 then (s.core c).pc else
  if p % 16 = 5 then s.dbgValue m c else s.get p

/-- The live value of a register for a master, before its write-only bits are hidden: the holding copy of R14 is never
behind its register (DESIGN CHOICE, log entry 131).  (DESIGN CHOICE, log entry 24.) -/
def State.view (s : State) (m : Master) (p : Nat) : Word :=
  if p < 0x1000 then s.view0 m p else
  if p < 0x3000 then s.view12 m p else
  if p < 0x3800 then s.seqView p else
  if p < 0x4000 then s.ltbView p else
  if p < 0x4800 then s.rxcView p else
  if p < 0x5000 then s.get p else
  if p < 0x5400 then s.txcView p else
  if p < 0x5800 then s.get p else
  if p < 0x6000 then s.utvView p else
  if inRange 0x6830 0x6832 p then s.gpioLevels (p - 0x6830) else
  if p < 0x7F00 then s.get (regKey m p) else s.viewDbg m p

/-- What a master's read of a port shows: a reserved port 0, a latched word, or the register with its cmd and wo bits
as zero (R5, R7, R15). -/
def State.readValue (s : State) (m : Master) (p : Nat) : Word :=
  match regRow p with
  | none => 0
  | some r =>
    if s.latchable p then (s.latched m p).getD (s.view m p &&& ~~~r.hidden) else s.view m p &&& ~~~r.hidden

/-- What a master's read of a port changes: rc bits clear, higher words are latched, and streams move on (R5, R15,
R215, R382, R429, R435). -/
def State.readEffect (s : State) (m : Master) (p : Nat) : State :=
  if p = Port.BSN_RDATA then (s.rdata m).2 else
  if p = Port.RTC_SEC then (s.rtcSnap m).2 else
  if p = 0x0E06 ∨ p = 0x0F06 then
    let r := s.psmPop ((p - 0x0E00) / 256)
    r.2.setLatch m (p + 1) ((r.1.extractLsb' 18 14).setWidth 18)
  else
  let t := forEach (s.higherWords p) (fun q u => u.setLatch m q (u.view m q)) s
  if inRange 0x0800 0x0AFF p ∧ inRange 6 9 (p % 64) then t.timCcRead ((p - 0x0800) / 64) (p % 64 - 6) else
  if p = 0x4005 ∨ p = 0x4105 then t.nextFree else
  if p = 0x7F05 ∨ p = 0x7F15 then
    (if (s.dbgSel (dbgCore p)).1 then s.crLatch m (dbgCore p) (s.dbgSel (dbgCore p)).2 else s)
  else
  match regRow p with
  | some r => if r.rc = 0 then t else t.set p (t.get p &&& ~~~r.rc)
  | none => t

/-- A master's read of a port: how it is answered, the word returned, and the state after. -/
def State.ioRead (s : State) (m : Master) (p : Nat) : IoRes × Word × State :=
  match s.ioGate p with
  | .ok => if s.ioBlind m p then (.ok, 0, s) else (.ok, s.readValue m p, s.readEffect m p)
  | r => (r, 0, s)

/-! ## What a write does -/

/-- The effect of the access codes: rw bits take the value, w1c bits clear by a 1 (R5). -/
def State.plainWrite (s : State) (m : Master) (p : Nat) (v : Word) : State :=
  match regRow p with
  | none => s
  | some r =>
    let k := regKey m p
    s.set k ((((s.get k) &&& ~~~r.rw) ||| (v &&& r.rw)) &&& ~~~(v &&& r.w1c))

/-- Writable bits of a register. -/
def rwBits (p : Nat) : Word :=
  match regRow p with
  | none => 0
  | some r => r.rw

/-- Writes of a timer's registers. -/
def State.timWriteAt (s : State) (m : Master) (p : Nat) (v : Word) : State :=
  let n := (p - 0x0800) / 64
  let o := p % 64
  if o = 0 then s.timCtrl n v else
  if o = 1 then s.timPre n v else
  if o = 2 then s.timCmd n v else
  if o = 4 then s.timCountWrite n v else
  if o = 5 then s.timPeriodWrite n v else
  if inRange 6 9 o then s.timCcWrite n (o - 6) v else s.plainWrite m p v

/-- Writes of a serial master's registers. -/
def State.psmWriteAt (s : State) (m : Master) (p : Nat) (v : Word) : State :=
  let x := (p - 0x0E00) / 256
  let o := p % 256
  if o = 0 then s.psmCtrl x v else
  if o = 1 then s.psmOpt x v else
  if o = 3 then s.psmCmd x v else
  if o = 4 then s.psmPush x v else
  if o = 5 then s.set p (v &&& fieldMask 13 0) else s.plainWrite m p v

/-- Writes of ports 0x0000-0x0FFF. -/
def State.write0 (s : State) (m : Master) (p : Nat) (v : Word) : State :=
  if p = Port.PWR_CMD then (if m = .dbg then s else s.pwrCmd v) else
  if p = Port.PWR_DOM_OFF then s.domHold v else
  if p = Port.PWR_RES_CMD then s.resClear v else
  if p = Port.RST_CMD then s.rstCmd v else
  if p = Port.RIG_LIVE_ADDR then (if s.liveState = 1 then s else s.plainWrite m p v) else
  if p = Port.RIG_LIVE_CMD then s.liveCmd v else
  if inRange 0x0400 0x057F p ∧ p % 8 < 3 then s.evfChannelWrite ((p - 0x0400) / 8) (p % 8) v else
  if p = Port.EVF_SW then s.evSwWrite v else
  if inRange 0x0600 0x070B p then s.evfTaskWrite (p - 0x0600) v else
  if inRange 0x0800 0x0AFF p then s.timWriteAt m p v else
  if p = 0x0B00 ∨ p = 0x0B10 then s.wdgCfg ((p - 0x0B00) / 16) v else
  if p = 0x0B02 then s.wdgKickBy m .apc v else
  if p = 0x0B12 then s.wdgKickBy m .lkc v else
  if inRange 0x0C10 0x0C15 p then s.rtcStage (p - 0x0C10) v else
  if p = Port.RTC_CMD then s.rtcCmd v else
  if p = Port.RTC_STAT then s.rtcStatWrite v else
  if p = Port.HPT_CFG then (if 1 < fld v 17 15 then s else s.plainWrite m p v) else
  if p = Port.HPT_HIRQ_SET then s.set Port.HPT_HIRQ_PEND (s.get Port.HPT_HIRQ_PEND ||| (v &&& 0o177777)) else
  if inRange 0x0E00 0x0FFF p then s.psmWriteAt m p v else s.plainWrite m p v

/-- Writes of the aperture registers (R304-R306): a core's writes of the other core's are discarded with DENY.
(DEDUCED, log entry 51.) -/
def State.apertureWrite (s : State) (m : Master) (p : Nat) (v : Word) : State :=
  let c := if p < 0x1420 then (p - 0x1410) / 8 else p - 0x1420
  if m.core.isSome ∧ m.num ≠ c then s.setB Port.MEM_STAT 1 true else
  if p < 0x1420 ∧ p % 2 = 0 ∧ (3 < fld v 17 15 ∨ 4 < fld v 14 12) then s else s.plainWrite m p v

/-- Writes of ports 0x1000-0x2FFF. -/
def State.write12 (s : State) (m : Master) (p : Nat) (v : Word) : State :=
  if p = Port.MEM_CSW_GRANT then (if m = .lkc then s.plainWrite m p v else s) else
  if inRange 0x1410 0x1421 p then s.apertureWrite m p v else
  if p = Port.DMC_CFG ∨ inRange 0x1818 0x181F p then s.dmcTrainWr p v else
  if p = Port.DMC_CMD then s.dmcCmd v else
  if p = Port.DMC_TRN_CMD then s.trnCmd v else
  if p = Port.BSN_AUDIT_CMD then s.auditCmd v else
  if p = Port.BSN_QCMD then s.qCmd m v.toNat else
  if p = Port.BSN_WDATA then s.wdata m v else
  if inRange 0x2018 0x201F p then s.hdrWr m (p - 0x2018) v else
  if inRange 0x2030 0x2037 p then s.ieWr (p - 0x2030) v else
  if p = Port.TRM_CTX_CMD then s.ctxCmd v else
  if p = Port.TRM_CTX_ARG then (if s.getB Port.TRM_CTX_STAT 17 then s else s.plainWrite m p v) else
  if p = Port.TRM_PLACE_CMD then s.placeCmd v else s.plainWrite m p v

/-- Writes of ports 0x3000-0x4FFF. -/
def State.write34 (s : State) (m : Master) (p : Nat) (v : Word) : State :=
  if inRange 0x3000 0x33FF p ∧ p % 64 = 2 then s.seqCmd ((p - 0x3000) / 64) v else
  if p = Port.SEQ_CAL_CMD then s.calCmdRecord v else
  if p = Port.LTB_ACC_CMD then (if v = 1 then s.clearLedgers else s) else
  if p = 0x4001 ∨ p = 0x4101 then s.agcWrite ((p - 0x4000) / 256) v else
  if p = 0x4003 ∨ p = 0x4103 then
    (if v = 1 then (s.rxCalcmd ((p - 0x4000) / 256) v).sniffDetached else s.rxCalcmd ((p - 0x4000) / 256) v) else
  if inRange 0x4510 0x452F p ∧ p % 4 = 3 then s.watchApply ((p - 0x4510) / 4) v else
  if inRange 0x4800 0x4FFF p ∧ p % 32 < 8 then s.laneCfgWrite ((p - 0x4800) / 32) p (v &&& rwBits p) else
  if inRange 0x4800 0x4FFF p ∧ p % 32 = 8 then s.laneCmd ((p - 0x4800) / 32) v else s.plainWrite m p v

/-- A front-end source code that R100 lists. -/
def fecListed (n : Nat) : Bool := decide (n ≤ 6) || inRange 8 16 n

/-- Writes of ports 0x5000-0x5FFF; a reserved front-end source is discarded (R100). -/
def State.write5 (s : State) (m : Master) (p : Nat) (v : Word) : State :=
  if p = 0x5003 ∨ p = 0x5103 then s.txCalcmd ((p - 0x5000) / 256) v else
  if p = 0x500A ∨ p = 0x510A then (if 1 < fld v 17 15 then s else s.plainWrite m p v) else
  if inRange 0x5200 0x5207 p then (if fecListed (fld v 5 0) then s.plainWrite m p v else s) else
  if p = 0x500B ∨ p = 0x510B then s.txTestcmd ((p - 0x5000) / 256) v else
  if p = Port.CAL_FMC_CMD then s.fmcCmd v else
  if p = Port.UTV_MAST_CMD then (if v = 1 then s.handBackCmd else s) else
  if p = Port.UTV_WAKE_CMD then s.wakeCmd v else
  if p = 0x5821 ∨ p = 0x5831 then (s.plainWrite m p v).portEnable ((p - 0x5821) / 16) else
  if p = 0x5822 ∨ p = 0x5832 then (if v = 1 then s.retrain ((p - 0x5822) / 16) else s) else
  if (inRange 0x5860 0x5863 p || inRange 0x5866 0x5869 p) && s.getB Port.UTV_SH_STAT 17 then s else
  if p = Port.UTV_SH_CMD then (if v = 1 then s.handOver else s) else s.plainWrite m p v

/-- Writes of ports 0x6000-0x7FFF. -/
def State.write67 (s : State) (m : Master) (p : Nat) (v : Word) : State :=
  if p = Port.CPH_JOB_CMD then s.jobCmd m v else
  if p = Port.CPH_KEY_CMD then s.keyCmd m v else
  if p = Port.CPH_VFY_CMD then s.vfyCmd v else
  if p = Port.LCF_LC_CMD then s.lcCmd v else
  if p = Port.LCF_UPD_CMD then s.updCmd v else
  if p = Port.LCF_CHECKIN then (if v = 1 ∧ m.core.isSome then s.checkIn m.num else s) else
  if inRange 0x6800 0x682F p then s.gpioCfg (p - 0x6800) v else
  if inRange 0x6834 0x6836 p then s.gpioOutW (p - 0x6834) (v &&& 0o177777) else
  if inRange 0x6838 0x683A p then s.gpioSetW (p - 0x6838) v else
  if inRange 0x683C 0x683E p then s.gpioClrW (p - 0x683C) v else
  if inRange 0x6840 0x6842 p then s.gpioTogW (p - 0x6840) v else
  if p = 0x7F00 ∨ p = 0x7F10 then s.dbgCmd (dbgCore p) v else
  if p = 0x7F03 ∨ p = 0x7F13 then
    (if (s.core (dbgCore p)).halted then s.updCore (dbgCore p) fun x => { x with pc := v } else s) else
  if p = 0x7F05 ∨ p = 0x7F15 then s.dbgStore (dbgCore p) v else s.plainWrite m p v

/-- The effect of a write that a register answers. -/
def State.writeEffect (s : State) (m : Master) (p : Nat) (v : Word) : State :=
  if p < 0x1000 then s.write0 m p v else
  if p < 0x3000 then s.write12 m p v else
  if p < 0x5000 then s.write34 m p v else
  if p < 0x6000 then s.write5 m p v else s.write67 m p v

/-- A master's write of a port: how it is answered, and the state after.  Writes take effect in issue order, also to blocks
on different clocks, which R16 leaves open (DESIGN CHOICE, log entry 132). -/
def State.ioWrite (s : State) (m : Master) (p : Nat) (v : Word) : IoRes × State :=
  match s.ioGate p with
  | .ok => if s.ioBlind m p then (.ok, s) else (.ok, s.writeEffect m p v)
  | r => (r, s)

/-- A register answers a master: a Rig is accepted or the port is of the identity set, its domain is released, and the
debug bus shows it (R18, R24, R40, R353). -/
def State.answers (s : State) (m : Master) (p : Nat) : Bool := decide (s.ioGate p = .ok) && !s.ioBlind m p

/-- The command of a master that writes a port. -/
def State.masterWrite (s : State) (m : Master) (p : Nat) (v : Word) : State :=
  if s.answers m p then s.writeEffect m p v else s.unanswered m p (some v)

/-- The word a read returned stands in `latch.data` (DESIGN CHOICE, log entry 3). -/
def State.setData (s : State) (m : Master) (v : Word) : State :=
  { s with latch := { s.latch with data := Cells.wr (fun _ => 0) s.latch.data m.num v } }

/-- The command of a master that reads a port: a read that no register answers returns 0, but for one that stalls, which
returns nothing yet (R18, R40). -/
def State.masterRead (s : State) (m : Master) (p : Nat) : State :=
  if s.answers m p then (s.readEffect m p).setData m (s.readValue m p) else
  if m = .dbg ∧ s.ready = false then s.unanswered m p none else (s.unanswered m p none).setData m 0

/-- A named command that a master gives by writing `v` to port `p`: it acts when the block answers (R18, R40) and the
debug bus shows the port to the master (R24, R353).  (DESIGN CHOICE, log entry 22.) -/
def State.portCmd (s : State) (m : Master) (p : Nat) (v : Word) (act : State → State) : State :=
  if s.answers m p then act s else s.unanswered m p (some v)

/-- READY is 1: the debug-bus access that stalled completes (R40). -/
def State.stallEnd (s : State) : State :=
  match s.latch.stall with
  | none => s
  | some (p, w) =>
    if s.ready = false then s else
    let t := { s with latch := { s.latch with stall := none } }
    match w with
    | some v => t.masterWrite .dbg p.toNat v
    | none => t.masterRead .dbg p.toNat

end Sys2Proof.Machine
end

