-- ==== Sys2Proof/Machine/DramCmds.lean ====
section
/-! DEFINITION. Meanings of the commands of the DRAM controller (R328-R336, R398). -/

namespace Sys2Proof.Machine

open Sys2Proof

/-- DMC_CMD POWERUP runs the JESD209-4 power-up sequence (R328). -/
def execPowerup (m : Master) (s : State) : Host.Outcome State Fault Refusal :=
  .next (s.portCmd m (Port.DMC_CMD) 1 fun t => t.dmcCmd 1)

/-- The power-up sequence ends in TRAINING (R328). -/
def execPowerupDone (s : State) : Host.Outcome State Fault Refusal :=
  .next (s.dmcPowered)

/-- DMC_CMD TRAINED switches to FSP 1 and starts the wipe (R328). -/
def execTrained (m : Master) (s : State) : Host.Outcome State Fault Refusal :=
  .next (s.portCmd m (Port.DMC_CMD) 2 fun t => t.dmcCmd 2)

/-- The last block is written, WIPED is set and the controller runs (R329). -/
def execWipeDone (s : State) : Host.Outcome State Fault Refusal :=
  .next (s.dmcWiped)

/-- After SR_IDLE and a grant the DRAM enters self-refresh (R328). -/
def execSelfRefreshEntry (s : State) : Host.Outcome State Fault Refusal :=
  .next (s.selfRefresh)

/-- The scheduler starts the request with the lowest effective rank (R332). -/
def execDramRequestStart (s : State) : Host.Outcome State Fault Refusal :=
  .next (s.dramStart)

/-- A DRAM block transfer completes to its port (R332). -/
def execDramAccessDone (s : State) : Host.Outcome State Fault Refusal :=
  .next (s.dramDone)

/-- A REFab falls due and goes before the next request; it changes no word, register or queued request (R335).
(DESIGN CHOICE, log entry 63.) -/
def execRefreshDue (s : State) : Host.Outcome State Fault Refusal :=
  .next (s)

/-- Every CHECK ms MR4, MR8 and the oscillator are read (R335). -/
def execDramPeriodicCal (mr4 mr8 : BitVec 8) (drifted : Bool) (s : State) : Host.Outcome State Fault Refusal :=
  .next (s.periodicCal mr4 mr8 drifted)

/-- ZQ calibration runs in a pause of the ports; it changes no word, register or queued request (R335). -/
def execZqCalibration (s : State) : Host.Outcome State Fault Refusal :=
  .next (s)

/-- Oscillator drift beyond 10 % of a UI starts write-DQ retraining (R335). -/
def execDramRetrain (s : State) : Host.Outcome State Fault Refusal :=
  .next (s.retrainDq)

/-- Every RATE µs the controller reads and corrects one block (R335). -/
def execDramScrubStep (s : State) : Host.Outcome State Fault Refusal :=
  .next (s.dramScrub)

/-- Training helper MRW writes a mode register (R336). -/
def execMrw (m : Master) (s : State) : Host.Outcome State Fault Refusal :=
  .next (s.portCmd m (Port.DMC_TRN_CMD) 1 fun t => t.trnCmd 1)

/-- Training helper MRR reads a mode register (R336). -/
def execMrr (m : Master) (s : State) : Host.Outcome State Fault Refusal :=
  .next (s.portCmd m (Port.DMC_TRN_CMD) 2 fun t => t.trnCmd 2)

/-- Training helper MPC issues an MPC opcode (R336). -/
def execMpc (m : Master) (s : State) : Host.Outcome State Fault Refusal :=
  .next (s.portCmd m (Port.DMC_TRN_CMD) 3 fun t => t.trnCmd 3)

/-- Training helper CBT runs command bus training (R336). -/
def execCbt (m : Master) (s : State) : Host.Outcome State Fault Refusal :=
  .next (s.portCmd m (Port.DMC_TRN_CMD) 4 fun t => t.trnCmd 4)

/-- Training helper WLEV runs write leveling (R336). -/
def execWlev (m : Master) (s : State) : Host.Outcome State Fault Refusal :=
  .next (s.portCmd m (Port.DMC_TRN_CMD) 5 fun t => t.trnCmd 5)

/-- Training helper RDQ runs read DQ calibration (R336). -/
def execRdq (m : Master) (s : State) : Host.Outcome State Fault Refusal :=
  .next (s.portCmd m (Port.DMC_TRN_CMD) 6 fun t => t.trnCmd 6)

/-- Training helper FIFO runs write FIFO training (R336). -/
def execFifo (m : Master) (s : State) : Host.Outcome State Fault Refusal :=
  .next (s.portCmd m (Port.DMC_TRN_CMD) 7 fun t => t.trnCmd 7)

/-- Training helper CHECK writes and reads blocks and checks density (R336). -/
def execCheck (m : Master) (s : State) : Host.Outcome State Fault Refusal :=
  .next (s.portCmd m (Port.DMC_TRN_CMD) 8 fun t => t.trnCmd 8)

/-- A training helper completes, RES is valid and TRNDONE is set (R336). -/
def execTrainingHelperDone (res : BitVec 17) (s : State) : Host.Outcome State Fault Refusal :=
  .next (s.helperDone res)

/-- The DRAM PLL loses lock: it is counted, and PD_DRAMC is reset (R398). -/
def State.dramPllLost (s : State) : State :=
  if s.domOn 12 then (s.count Port.CLK_LOSSCNT).domReset 12 .pll else s

/-- The DRAM PLL loses lock and PD_DRAMC is reset (R398). -/
def execDramPllUnlock (s : State) : Host.Outcome State Fault Refusal :=
  .next (s.dramPllLost)

end Sys2Proof.Machine
end

