-- ==== Sys2Proof/Machine/EventCmds.lean ====
section
/-! DEFINITION. Meanings of the commands of the event fabric and the timers (R415-R430). -/

namespace Sys2Proof.Machine

open Sys2Proof

/-- A producer's raise reaches its channel and is stopped, merged or delivered (R415). -/
def execEventRaise (p : BitVec 9) (s : State) : Host.Outcome State Fault Refusal :=
  .next (if producerOk p.toNat then s.raiseProducer p.toNat else s)

/-- A task accepts and acts on an event, or ignores it when busy (R416). -/
def execTaskAction (t : BitVec 9) (s : State) : Host.Outcome State Fault Refusal :=
  .next (s.taskTake t.toNat)

/-- A loop guard window closes (R418). -/
def execGuardWindowClose (ch : Fin 48) (s : State) : Host.Outcome State Fault Refusal :=
  .next (s.guardClose ch.val)

/-- A write to EVF_SW raises EV_SW_k (R421). -/
def execEvSw (m : Master) (v : Word) (s : State) : Host.Outcome State Fault Refusal :=
  .next (s.portCmd m (Port.EVF_SW) v fun t => t.evSwWrite v)

/-- A prescaled tick advances or reloads a timer's count (R426). -/
def execTimerTick (n : Fin 12) (s : State) : Host.Outcome State Fault Refusal :=
  .next (s.timTicked n.val)

/-- TIM CMD 1 sets RUN (R423). -/
def execTimStart (m : Master) (n : Fin 12) (s : State) : Host.Outcome State Fault Refusal :=
  .next (s.portCmd m (Port.TIM_CMD n.val) 1 fun t => t.timCmd n.val 1)

/-- TIM CMD 2 clears RUN (R423). -/
def execTimStop (m : Master) (n : Fin 12) (s : State) : Host.Outcome State Fault Refusal :=
  .next (s.portCmd m (Port.TIM_CMD n.val) 2 fun t => t.timCmd n.val 2)

/-- TIM CMD 3 zeroes the count and prescaler (R423). -/
def execTimClear (m : Master) (n : Fin 12) (s : State) : Host.Outcome State Fault Refusal :=
  .next (s.portCmd m (Port.TIM_CMD n.val) 3 fun t => t.timCmd n.val 3)

/-- Writing PERIOD at or below the count fires the period event (R427). -/
def execPeriodWrite (m : Master) (n : Fin 12) (v : Word) (s : State) : Host.Outcome State Fault Refusal :=
  .next (s.portCmd m (Port.TIM_PERIOD n.val) v fun t => t.timPeriodWrite n.val v)

/-- Writing CC_k at or below the count fires the compare event once (R428). -/
def execCcWrite (m : Master) (n : Fin 12) (k : Fin 4) (v : Word) (s : State) : Host.Outcome State Fault Refusal :=
  .next (s.portCmd m (Port.TIM_CC_0 n.val + k.val) v fun t => t.timCcWrite n.val k.val v)

/-- A read of a capture CC_k clears CF_k (R429). -/
def execCcRead (m : Master) (n : Fin 12) (k : Fin 4) (s : State) : Host.Outcome State Fault Refusal :=
  .next (s.masterRead m (Port.TIM_CC_0 n.val + k.val))

end Sys2Proof.Machine
end

