-- ==== Sys2Proof/Machine/FlashCmds.lean ====
section
/-! DEFINITION. Meanings of the commands of the scrub engine and the flash controller (R239, R301, R312-R319). -/

namespace Sys2Proof.Machine

open Sys2Proof

/-- A flash command cycle that a core writes through aperture window `win` at offset `off` (R304, R312).  A write
beyond the bank, or through a window without a target, takes DATA_FAULT; a window onto DRAM takes no command cycle.
(DEDUCED, log entry 52.) -/
def State.flashWrite (s : State) (c : Core) (win : Fin 4) (off : BitVec 13) (v : Word) : State :=
  let a : Word := BitVec.ofNat 18 (0x30000 + win.val * 0x2000 + off.toNat)
  match s.dataWrite c a v with
  | (.done _, t) => t
  | (.fault, t) => t.faultAt c 4 1 a
  | _ => s

/-- Cycles that a core writes in turn, each a value at an offset (R312). -/
def State.flashCycles (s : State) (c : Core) (win : Fin 4) : List (BitVec 13 × Word) → State
  | [] => s
  | (o, v) :: l => (s.flashWrite c win o v).flashCycles c win l

/-- Every RATE µs under grant the scrub engine reads 8 words (R301). -/
def execScrubStep (s : State) : Host.Outcome State Fault Refusal :=
  .next (s.scrubStep)

/-- An unlock cycle of a flash command is written through an aperture (R312). -/
def execFlashUnlockCycle (c : Core) (win : Fin 4) (off : BitVec 13) (v : Word)
    (s : State) : Host.Outcome State Fault Refusal :=
  .next (s.flashWrite c win off v)

/-- PROGRAM_WORD, its unlock cycles written: cycle 3 names the word and cycle 4 carries the data (R312). -/
def execProgramWord (c : Core) (win : Fin 4) (off : BitVec 13) (d : Word)
    (s : State) : Host.Outcome State Fault Refusal :=
  .next (s.flashCycles c win [(off, 0o000240), (off, d)])

/-- PROGRAM_ROW, its unlock cycles written: cycle 3 names the row and cycles 4-7 carry its words (R312). -/
def execProgramRow (c : Core) (win : Fin 4) (off : BitVec 13) (d0 d1 d2 d3 : Word)
    (s : State) : Host.Outcome State Fault Refusal :=
  .next (s.flashCycles c win [(off, 0o000241), (off, d0), (off + 1, d1), (off + 2, d2), (off + 3, d3)])

/-- ERASE_SECTOR, its unlock cycles written: cycle 3 names a word of the sector (R312). -/
def execEraseSector (c : Core) (win : Fin 4) (off : BitVec 13) (s : State) : Host.Outcome State Fault Refusal :=
  .next (s.flashWrite c win off 0o000060)

/-- ABANDON abandons a command sequence under way (R312). -/
def execAbandon (c : Core) (win : Fin 4) (off : BitVec 13) (s : State) : Host.Outcome State Fault Refusal :=
  .next (s.flashWrite c win off 0o000360)

/-- An accepted flash command starts when the Sluice grants (R314). -/
def execFlashOpStart (s : State) : Host.Outcome State Fault Refusal :=
  .next (s.flcStart)

/-- A flash operation ends and FLC_DONE is raised (R314). -/
def execFlashOpDone (ok : Bool) (s : State) : Host.Outcome State Fault Refusal :=
  .next (s.flcDone ok)

/-- A read of an erasing bank suspends the erase at its next suspend point (R316). -/
def execEraseSuspend (s : State) : Host.Outcome State Fault Refusal :=
  .next (s.eraseSuspend)

/-- After RESUME_IDLE without reads the erase resumes (R316). -/
def execEraseResume (s : State) : Host.Outcome State Fault Refusal :=
  .next (s.eraseResume)

/-- The journal scan completes, suspect sectors are set and SCANNED is 1 (R319). -/
def execJournalScanDone (s : State) : Host.Outcome State Fault Refusal :=
  .next (s.journalScan)

/-- An aperture access waiting on DRAM for 64 µs takes the data fault (R239). -/
def execApertureTimeout (c : Core) (s : State) : Host.Outcome State Fault Refusal :=
  .next (s.waitExpire c)

end Sys2Proof.Machine
end

