-- ==== Sys2Proof/Machine/Host.lean ====
section
/-! DEFINITION. The host port (R366-R380): its frames, the write buffer, posted reads, PUSH and PULL, cut frames and
the wake comparator. -/

namespace Sys2Proof.Machine

open Sys2Proof

/-- Change the host port's hidden state. -/
def State.updHost (s : State) (f : HostPort → HostPort) : State := { s with host := f s.host }

/-- Refusal codes of LAST (R369). -/
abbrev Last.notReady : Nat := 1
abbrev Last.offDomain : Nat := 2
abbrev Last.badCmd : Nat := 4
abbrev Last.cut : Nat := 5
abbrev Last.queue : Nat := 6

/-- LAST of an answer. -/
def IoRes.last : IoRes → Nat
  | .ok => 0
  | .notReady => Last.notReady
  | .offDomain => Last.offDomain

/-- A word is refused: the first refusal of the last completed frame stands in LAST; a word of an earlier frame shows
in HPT_STAT alone (R369). -/
def State.hostRefuse (s : State) (fresh : Bool) (code : Nat) : State :=
  if code = 0 then s else
  let t := if s.getF Port.HPT_STAT 14 12 = 0 then s.setF Port.HPT_STAT 14 12 code else s
  if fresh ∧ t.host.lastFrame = 0 then t.updHost fun h => { h with lastFrame := BitVec.ofNat 3 code } else t

/-- Words refused one by one are counted (R372). -/
def State.hostCount (s : State) (n : Nat) : State :=
  s.set Port.HPT_ERRCNT (BitVec.ofNat 18 (satAdd 0o777777 (s.get Port.HPT_ERRCNT).toNat n))

/-- HPT_QRES of a PUSH (1) or PULL (2); a result other than OK shows as QUEUE in LAST. -/
def State.hostQres (s : State) (fresh : Bool) (op r : Nat) : State :=
  let t := s.set Port.HPT_QRES (inFld 5 4 op ||| inFld 3 0 r)
  if r = 0 then t else t.hostRefuse fresh Last.queue

/-! ## PUSH and PULL (R374) -/

/-- Store words in the payload cells of a packet, from word `i` on. -/
def State.putPay (s : State) (p : Pkt) (i : Nat) : List Word → State
  | [] => s
  | v :: vs =>
    (match p.payCell i with
     | .sram c => s.sramWrM (s.cellAddr c (i % 8)) v
     | _ => s).putPay p (i + 1) vs

/-- A PUSH leaves the write buffer: OPEN_W, the payload, ENQUEUE, in the host port's Basin copy.  LEN is data word 0.
(DEDUCED, log entry 85.) (DEDUCED, log entry 86.) -/
def State.pushRun (s : State) (q : Nat) (data : List Word) (fresh : Bool) : State :=
  let n := data.length - 1
  let len := (data.headD 0).toNat
  let need := 1 + (n + 7) / 8
  let t := fun (u : State) (r b : Nat) => (u.qRes .host b).hostQres fresh 1 r
  if s.domOn 11 = false then (s.hostRefuse fresh Last.offDomain).hostCount data.length else
  if s.qBusy .host then s.hostQres fresh 1 6 else
  if s.queueUp q = false then t s 2 Res.noQueue else
  if (s.copy Master.host.num).wpkt.isSome then t s 4 Res.opened else
  if data = [] ∨ 2 * n < len then t s 5 Res.badLen else
  let r := s.takeCells q need
  if r.1.length < need then t (r.2.marked q fun u => u.freeAll r.1) 7 Res.noCell else
  let p : Pkt := { cells := r.1, len := 2 * n, epoch := 0 }
  let k : Pkt := { cells := r.1.take (cellsOf len), len := len, epoch := 0 }
  let u := (r.2.putPay p 0 (data.drop 1)).marked q fun u => u.freeAll (r.1.drop (cellsOf len))
  let h := [inFld 13 0 len, inFld 17 15 (srcOf .host) ||| inFld 14 14 (nat1 (u.payTagged k)), 0, 0, 0] ++ timeWords u.time.link
  t (((u.setHeaders k 0 h).commitPkt q k).afterCommit q) 0 Res.ok

/-- The result a PULL finds on its queue; a head that a sequencer holds, or with a cell in DRAM, makes it WAIT. -/
def State.pullCode (s : State) (q : Nat) : Nat :=
  if s.queueUp q = false then 2 else
  if s.mayRead .host q = false then 3 else
  match s.queue q with
  | [] => 1
  | p :: _ => if p.allNear = false ∨ s.txqHeld q then 6 else 0

/-- The reply of a PULL to a frame of `wc` words: the packet whole, or TOO_BIG with its header. -/
def State.pullReply (s : State) (q wc : Nat) : List Word × State :=
  match s.pullCode q, s.queue q with
  | 0, p :: _ =>
    if 9 + (p.len + 1) / 2 ≤ wc then
      let r := (s.popPkt q).followLinks q p
      let w := (r.2.loadHdr .host r.1).payReads r.1 ((r.1.len + 1) / 2)
      (0 :: s.header p ++ w.1, ((w.2.freeAll r.1.cells).qRes .host Res.ok).hostQres false 2 0)
    else (8 :: s.header p, s.hostQres false 2 8)
  | k, _ => ([BitVec.ofNat 18 k], s.hostQres false 2 k)

/-! ## Frames -/

/-- The status word the device drives, as the host reads it (R368, R369). -/
def State.hostStatus (s : State) (reply : Bool) : Word :=
  inFld 17 15 7 ||| inFld 14 12 s.dstate ||| inFld 11 9 s.host.lastFrame.toNat |||
    (if s.dstate = 2 then inFld 8 3 (s.getF Port.RIG_FAULT 11 6) else 0) ||| inFld 2 2 (nat1 (!s.host.buf.isEmpty)) |||
    inFld 1 1 (nat1 (s.getB Port.HPT_STAT 11)) ||| inFld 0 0 (nat1 reply)

/-- A flag of HPT_STAT: 9 TRUNC, 8 LATE. -/
def State.hostFlag (s : State) (b : Nat) : State := s.setB Port.HPT_STAT b true

/-- A frame's data phase carries host data. -/
def hostData (cmd : Nat) : Bool := decide (cmd = 1) || decide (cmd = 2) || decide (cmd = 6)

/-- The reply owed to this frame (R373): whether the status carries REPLY, and the words driven.  (DEDUCED, log entry
87.) (DEDUCED, log entry 88.) -/
def State.giveReply (s : State) (cmd wc : Nat) : Bool × List Word × State :=
  let none3 := hostData cmd && decide (s.host.lanes = 1)
  let zeros : List Word := if none3 ∨ 8 ≤ cmd then [] else List.replicate wc 0
  let clear := fun (t : State) => t.updHost fun h =>
    { h with sample := [], pull := none, reply := [], replyReady := false, replyDue := false }
  if s.host.replyDue = false then (false, zeros, s) else
  if s.host.replyReady = false then
    let late : List HostWord := if s.host.sample = [] then [] else
      [{ kind := 3, port := 0, v := 0, queue := 0, data := s.host.sample.map fun p => p.setWidth 18, size := 0, fresh := false }]
    (false, zeros, ((clear s).updHost fun h => { h with buf := h.buf ++ late }).hostFlag 8)
  else if none3 ∨ 8 ≤ cmd then (false, zeros, (clear s).hostFlag 9)
  else
    let r := match s.host.pull with
      | some q => s.pullReply q wc
      | none => (s.host.reply, s)
    let t := clear r.2
    (true, r.1.take wc ++ List.replicate (wc - r.1.length) 0, if wc < r.1.length then t.hostFlag 9 else t)

/-- Enter words in the write buffer. -/
def State.hostEnter (s : State) (l : List HostWord) : State := s.updHost fun h => { h with buf := h.buf ++ l }

/-- A buffer entry of one word. -/
def hostWord (p : BitVec 16) (v : Word) : HostWord :=
  { kind := 0, port := p, v := v, queue := 0, data := [], size := 1, fresh := true }

/-- Header word 1 has a bit set where its command requires zero (R371). -/
def badHeader (cmd : Nat) (h1 : Word) : Bool :=
  (decide (1 ≤ cmd ∧ cmd ≤ 4) && decide (fld h1 17 16 ≠ 0)) ||
    ((decide (cmd = 6) || decide (cmd = 7)) && decide (fld h1 17 7 ≠ 0))

/-- The command of a complete header: `data` are the complete words of a data phase the host drives, `cut` says that
the frame was cut in it (R371-R375, R377). -/
def State.hostCommand (s : State) (cmd wc : Nat) (h1 : Word) (data : List Word) (cut : Bool) : State :=
  let port : BitVec 16 := h1.setWidth 16
  if 8 ≤ cmd ∨ badHeader cmd h1 then s.hostRefuse true Last.badCmd else
  if cmd = 0 then s else
  if cmd = 3 then
    s.updHost fun h => { h with sample := (List.range wc).map fun i => port + BitVec.ofNat 16 i, replyDue := true,
                                replyReady := decide (wc = 0) }
  else if cmd = 4 then
    s.updHost fun h => { h with sample := List.replicate wc port, replyDue := true, replyReady := decide (wc = 0) }
  else if s.ready = false then
    (s.hostRefuse true Last.notReady).hostCount (if hostData cmd then data.length else 0)
  else if cmd = 5 then
    s.hostEnter [{ kind := 1, port := 0, v := h1, queue := 0, data := [], size := 0, fresh := true }]
  else if cmd = 7 then s.updHost fun h => { h with pull := some (fld h1 6 0), replyDue := true }
  else if s.hostFree < wc then s.hostRefuse true Last.notReady
  else if cmd = 1 then s.hostEnter ((indexed data).map fun x => hostWord (port + BitVec.ofNat 16 x.1) x.2)
  else if cmd = 2 then s.hostEnter (data.map fun v => hostWord port v)
  else if cut then s
  else s.hostEnter [{ kind := 2, port := 0, v := 0, queue := fld h1 6 0, data := data, size := wc, fresh := true }]

/-- CUT, and PEND [17] with it (R375, R377). -/
def State.setCut (s : State) : State := (s.hostFlag 11).setB Port.HPT_HIRQ_PEND 17 true

/-- A frame counts as cut (R377). -/
def State.hostCut (s : State) : State :=
  ((((s.setCut.count Port.HPT_CUTCNT).raise Irq.HPT_CUT).setF Port.HPT_STAT 14 12 Last.cut).updHost
    fun h => { h with lastFrame := BitVec.ofNat 3 Last.cut })

/-- SYSCLK is stopped for AON, or the device is restoring: the comparator answers (R379). -/
def State.hostAsleep (s : State) : Bool := decide (s.level ≠ 0) || decide (s.phase = 4)

/-- The comparator (R379): it requests wake once, and answers WAKING. -/
def State.comparator (s : State) : State :=
  if s.getB Port.PWR_WAKE 0 = false then s.updHost fun h => { h with statusOut := 0o777777, out := [] } else
  let t := s.updHost fun h => { h with statusOut := inFld 17 15 7 ||| inFld 14 12 3 ||| inFld 11 9 3, out := [] }
  if t.level ≠ 0 ∧ t.phase = 0 then (t.count Port.HPT_WAKECNT).wakeFrom 0 else t

/-- A frame whose header words are complete arrives.  `driven` says that the host drives `data`; words short of WC cut
the frame, and words beyond it set CUT.  (DEDUCED, log entry 84.) -/
def State.hostFrame (s : State) (addr : BitVec 3) (cmd wc : Nat) (h1 : Word) (driven : Bool) (data : List Word)
    (cutNow : Bool) : State :=
  if addr ≠ s.pins.stackId then s else
  if s.time.stopped ∧ s.level = 0 then s.updHost fun h => { h with statusOut := 0o777777, out := [] } else
  if s.hostAsleep then s.comparator else
  let a := s.updHost fun h => { h with lanes := BitVec.ofNat 3 (s.getF Port.HPT_CFG 17 15) }
  let r := a.giveReply cmd wc
  let b := r.2.2.updHost fun h =>
    { h with statusOut := a.hostStatus r.1, out := r.2.1, lastFrame := 0, buf := h.buf.map fun x => { x with fresh := false } }
  let cut := cutNow || (driven && decide (data.length < wc))
  let d := (b.setF Port.HPT_STAT 14 12 0).hostCommand cmd wc h1 (data.take wc) cut
  let e := if cut then d.hostCut else if driven && decide (wc < data.length) then d.setCut else d
  (e.count Port.HPT_FRAMECNT).raiseProducer Ev.hostFrameEnd

/-- A frame cut within a header word counts as cut, and its command has no effect at all: the reply owed stays for the
next frame (R377).  (DEDUCED, log entry 83.) -/
def State.hostHeaderCut (s : State) (addr : BitVec 3) : State :=
  if addr ≠ s.pins.stackId then s else
  if s.time.stopped ∧ s.level = 0 then s.updHost fun h => { h with statusOut := 0o777777, out := [] } else
  if s.hostAsleep then s.comparator else
  let b := s.updHost fun h =>
    { h with statusOut := s.hostStatus false, out := [], buf := h.buf.map fun x => { x with fresh := false } }
  (b.hostCut.count Port.HPT_FRAMECNT).raiseProducer Ev.hostFrameEnd

/-- A frame cut within a word (R377). -/
def State.hostFrameCut (s : State) (addr : BitVec 3) (cmd wc : Nat) (h1 : Word) (inHeader : Bool) (data : List Word) : State :=
  if inHeader then s.hostHeaderCut addr else s.hostFrame addr cmd wc h1 (hostData cmd) data true

/-! ## The write buffer and posted reads -/

/-- Sample ports in order: the words, and whether and how one was refused.  (DEDUCED, log entry 89.) -/
def State.hostSample (s : State) : List (BitVec 16) → List Word × Nat × State
  | [] => ([], 0, s)
  | p :: ps =>
    let r := s.ioRead .host p.toNat
    let t := r.2.2.hostSample ps
    (r.2.1 :: t.1, (if r.1.last = 0 then t.2.1 else r.1.last), t.2.2)

/-- The next entry of the write buffer takes effect (R230, R372). -/
def State.hostDrain (s : State) : State :=
  match s.host.buf with
  | [] => s
  | x :: rest =>
    let t := s.updHost fun h => { h with buf := rest }
    if x.kind = 0 then
      let r := t.ioWrite .host x.port.toNat x.v
      if r.1 = .ok then r.2 else (r.2.hostRefuse x.fresh r.1.last).hostCount 1
    else if x.kind = 1 then (t.set Port.HPT_BELL_IN (t.get Port.HPT_BELL_IN ||| x.v)).raise Irq.HPT_BELL
    else if x.kind = 2 then t.pushRun x.queue x.data x.fresh
    else (t.hostSample (x.data.map fun v => v.setWidth 16)).2.2

/-- A posted read samples, once every earlier write has taken effect (R373, R374). -/
def State.hostPost (s : State) : State :=
  if s.host.replyDue = false ∨ s.host.replyReady ∨ s.host.buf ≠ [] then s else
  match s.host.pull with
  | some q =>
    if s.domOn 11 = false then
      (s.updHost fun h => { h with pull := none, reply := [0], replyReady := true }).hostRefuse true Last.offDomain
    else
    let k := s.pullCode q
    if k = 0 then
      let t := match s.queue q with
        | p :: _ => (s.loadHdr .host p).qRes .host Res.ok
        | [] => s
      (t.updHost fun h => { h with replyReady := true }).hostQres true 2 0
    else
    (s.updHost fun h => { h with pull := none, reply := [BitVec.ofNat 18 k], replyReady := true }).hostQres true 2 k
  | none =>
    let r := s.hostSample s.host.sample
    (r.2.2.updHost fun h => { h with sample := [], reply := r.1, replyReady := true }).hostRefuse true r.2.1

end Sys2Proof.Machine
end

