-- ==== Sys2Proof/Machine/FuavoIo.lean ====
section
/-! DEFINITION. IN and OUT (R284), and the debugger's STEP, which executes the word it fetches (R278-R283, R293). -/

namespace Sys2Proof.Machine

open Sys2Proof

/-- IN rd, port: an access of a domain that is off takes IO_FAULT (R18, R289). -/
def State.opIn (s : State) (c : Core) (rd ra : BitVec 4) (idx : Bool) (port : BitVec 16) : State :=
  s.coreRun c 2 fun t =>
    let p := portAddr (t.core c) ra idx port
    let r := t.ioRead c.master p.toNat
    if r.1 = .offDomain then some (t.faultAt c 5 4 (p.setWidth 18))
    else some (r.2.2.updCore c fun x => (x.setReg rd r.2.1).advance 2)

/-- OUT rs, port.  The pc has moved on when the write takes effect. -/
def State.opOut (s : State) (c : Core) (rs ra : BitVec 4) (idx : Bool) (port : BitVec 16) : State :=
  s.coreRun c 2 fun t =>
    let p := portAddr (t.core c) ra idx port
    if t.ioGate p.toNat = .offDomain then some (t.faultAt c 5 5 (p.setWidth 18))
    else some ((t.updCore c fun x => x.advance 2).ioWrite c.master p.toNat ((t.core c).reg rs)).2

/-! ## The word a STEP executes -/

/-- SYS sub-operations (major 0). -/
def State.runSys (s : State) (c : Core) (w : Word) : State :=
  let sub := fld w 11 8
  if sub = 0 then s.opNop c else
  if sub = 1 then s.opWait c else
  if sub = 2 then s.opReti c else
  if sub = 3 then s.opTrap c (w.setWidth 8) else
  if sub = 4 then s.opBrk c else
  if sub = 5 then s.opFence c else
  if sub = 6 then s.opEi c else
  if sub = 7 then s.opDi c else
  if sub = 8 then s.opSetT c true else s.opSetT c false

/-- The JMP group (major 23). -/
def State.runJmp (s : State) (c : Core) (w0 w1 : Word) : State :=
  let sub := fld w0 11 8
  let ra := w0.extractLsb' 4 4
  if sub = 0 then s.opJmp c ra else
  if sub = 1 then s.opCall c ra else
  if sub = 2 then s.opJmpl c w1 else
  if sub = 3 then s.opCalll c w1 else s.opRet c

/-- UNARY (major 26). -/
def State.runUnary (s : State) (c : Core) (w : Word) : State :=
  let sub := fld w 3 0
  let rd := w.extractLsb' 8 4
  let ra := w.extractLsb' 4 4
  if sub = 0 then s.opMov c rd ra else
  if sub = 1 then s.opNot c rd ra else
  if sub = 2 then s.opNeg c rd ra else
  if sub = 3 then s.opSwn c rd ra else
  if sub = 4 then s.opSxn c rd ra else
  if sub = 5 then s.opZxn c rd ra else
  if sub = 6 then s.opClz c rd ra else s.opTnz c ra

/-- Majors 1-15 with three register fields or an immediate. -/
def State.runAlu (s : State) (c : Core) (w : Word) : State :=
  let m := fld w 16 12
  let rd := w.extractLsb' 8 4
  let ra := w.extractLsb' 4 4
  let rb := w.extractLsb' 0 4
  let i := w.extractLsb' 0 8
  if m = 1 then s.opAdd c rd ra rb else
  if m = 2 then s.opSub c rd ra rb else
  if m = 3 then s.opAdc c rd ra rb else
  if m = 4 then s.opSbc c rd ra rb else
  if m = 5 then s.opAnd c rd ra rb else
  if m = 6 then s.opOr c rd ra rb else
  if m = 7 then s.opXor c rd ra rb else
  if m = 8 then s.opShi c rd (w.extractLsb' 6 2) (w.extractLsb' 0 6) else
  if m = 9 then s.opShv c rd (w.extractLsb' 6 2) rb else
  if m = 10 then s.opMul c rd ra rb else
  if m = 11 then s.opMulx c rd ra rb else
  if m = 12 then s.opAddi c rd i else
  if m = 13 then s.opMovi c rd i else
  if m = 14 then s.opCmp c rd ra rb else s.opCmpi c rd i

/-- Execute the word at the pc, `w0` with the word `w1` behind it (R278, R280, R283). -/
def State.runWord (s : State) (c : Core) (w0 w1 : Word) : State :=
  let m := fld w0 16 12
  let rd := w0.extractLsb' 8 4
  let ra := w0.extractLsb' 4 4
  let rb := w0.extractLsb' 0 4
  if w0.msb then s.opPair c (w0.extractLsb' 9 8) (w0.extractLsb' 1 8) (w0.getLsbD 0) else
  if reservedFirst w0 || reservedSecond w0 w1 then s.opReserved c w0 w1 else
  if m = 0 then s.runSys c w0 else
  if m < 16 then s.runAlu c w0 else
  if m = 16 then s.opLd c rd ra rb else
  if m = 17 then s.opSt c rd ra rb else
  if m = 18 then (if bitOf w0 3 then s.opSta c rd ra (bitOf w0 2) w1 else s.opLda c rd ra (bitOf w0 2) w1) else
  if m = 19 then s.opLdc c rd ra rb else
  if m = 20 then s.opIn c rd ra (bitOf w0 3) (w1.setWidth 16) else
  if m = 21 then s.opOut c rd ra (bitOf w0 3) (w1.setWidth 16) else
  if m = 22 then s.opB c rd (w0.extractLsb' 0 8) else
  if m = 23 then s.runJmp c w0 w1 else
  if m = 24 then s.opDbnz c rd (w0.extractLsb' 0 8) else
  if m = 25 then (if bitOf w0 7 then s.opCwr c rd (w0.extractLsb' 0 6) else s.opCrd c rd (w0.extractLsb' 0 6)) else
  if m = 26 then s.runUnary c w0 else s.opMovw c rd w1

/-- STEP and STEP with MASK by a write to DBG_c_CTL: the halted core executes one word, or performs the interrupt
entry that is due (R293).  (DEDUCED, log entry 49.) -/
def State.stepCore (s : State) (m : Master) (c : Core) (mask : Bool) (w0 w1 : Word) : State :=
  let t := s.masterWrite m (Port.DBG_CTL c.num) (if mask then 4 else 3)
  if (s.core c).halted = false ∨ (t.core c).halted then t else
  if t.coreLive c && t.irqDue c then (t.irqEnter c).retire c else t.runWord c w0 w1

/-- INTERRUPT_ENTRY at a boundary (R287), also out of WAIT, whose end abandons an entry (R392). -/
def State.takeIrq (s : State) (c : Core) : State :=
  if s.coreLive c && s.irqDue c then
    let t := (s.irqEnter c).retire c
    if (s.core c).waiting then t.waitEnded else t
  else s

/-- BREAKPOINT_HALT (R295): before the word at an enabled breakpoint. -/
def State.breakHalt (s : State) (c : Core) : State :=
  if s.coreLive c && !(s.core c).waiting && (s.core c).apWait.isNone && !s.irqDue c && s.breakHere c then s.haltCore c 3
  else s

end Sys2Proof.Machine
end

