-- ==== Sys2Proof/Machine/Fuavo.lean ====
section
/-! DEFINITION. Meanings of the Fuavo instructions, of interrupt entry and of the debug commands (R273-R295).  A
command of a core names the word at its pc; nothing happens when the core does not execute its next word now. -/

namespace Sys2Proof.Machine

open Sys2Proof

/-! ## Arithmetic and logic -/

/-- A short-pair word executes two short operations, subject to COND (R279). -/
def execShortPair (c : Core) (op1 op2 : BitVec 8) (cond : Bool) (s : State) : Host.Outcome State Fault Refusal :=
  .next (s.opPair c op1 op2 cond)

/-- ADD adds two registers (R280). -/
def execAdd (c : Core) (rd ra rb : BitVec 4) (s : State) : Host.Outcome State Fault Refusal :=
  .next (s.opAdd c rd ra rb)

/-- SUB subtracts two registers (R280). -/
def execSub (c : Core) (rd ra rb : BitVec 4) (s : State) : Host.Outcome State Fault Refusal :=
  .next (s.opSub c rd ra rb)

/-- ADC adds with carry (R280). -/
def execAdc (c : Core) (rd ra rb : BitVec 4) (s : State) : Host.Outcome State Fault Refusal :=
  .next (s.opAdc c rd ra rb)

/-- SBC subtracts with borrow (R280). -/
def execSbc (c : Core) (rd ra rb : BitVec 4) (s : State) : Host.Outcome State Fault Refusal :=
  .next (s.opSbc c rd ra rb)

/-- AND of two registers (R280). -/
def execAnd (c : Core) (rd ra rb : BitVec 4) (s : State) : Host.Outcome State Fault Refusal :=
  .next (s.opAnd c rd ra rb)

/-- OR of two registers (R280). -/
def execOr (c : Core) (rd ra rb : BitVec 4) (s : State) : Host.Outcome State Fault Refusal :=
  .next (s.opOr c rd ra rb)

/-- XOR of two registers (R280). -/
def execXor (c : Core) (rd ra rb : BitVec 4) (s : State) : Host.Outcome State Fault Refusal :=
  .next (s.opXor c rd ra rb)

/-- SHI shifts a register by an immediate amount (R282). -/
def execShi (c : Core) (rd : BitVec 4) (kind : BitVec 2) (n : BitVec 6)
    (s : State) : Host.Outcome State Fault Refusal :=
  .next (s.opShi c rd kind n)

/-- SHV shifts a register by a register amount (R282). -/
def execShv (c : Core) (rd : BitVec 4) (kind : BitVec 2) (rb : BitVec 4)
    (s : State) : Host.Outcome State Fault Refusal :=
  .next (s.opShv c rd kind rb)

/-- MUL keeps the low 18 bits of a product (R280). -/
def execMul (c : Core) (rd ra rb : BitVec 4) (s : State) : Host.Outcome State Fault Refusal :=
  .next (s.opMul c rd ra rb)

/-- MULX writes a 36-bit product into a register pair (R280). -/
def execMulx (c : Core) (rd ra rb : BitVec 4) (s : State) : Host.Outcome State Fault Refusal :=
  .next (s.opMulx c rd ra rb)

/-- ADDI adds a signed immediate (R280). -/
def execAddi (c : Core) (rd : BitVec 4) (imm : BitVec 8) (s : State) : Host.Outcome State Fault Refusal :=
  .next (s.opAddi c rd imm)

/-- MOVI loads a signed immediate (R280). -/
def execMovi (c : Core) (rd : BitVec 4) (imm : BitVec 8) (s : State) : Host.Outcome State Fault Refusal :=
  .next (s.opMovi c rd imm)

/-- MOVW loads an 18-bit immediate word (R280). -/
def execMovw (c : Core) (rd : BitVec 4) (imm : Word) (s : State) : Host.Outcome State Fault Refusal :=
  .next (s.opMovw c rd imm)

/-- CMP sets flags of a subtraction and T from a condition (R280). -/
def execCmp (c : Core) (cond ra rb : BitVec 4) (s : State) : Host.Outcome State Fault Refusal :=
  .next (s.opCmp c cond ra rb)

/-- CMPI compares with an immediate and sets T from Z (R280). -/
def execCmpi (c : Core) (ra : BitVec 4) (imm : BitVec 8) (s : State) : Host.Outcome State Fault Refusal :=
  .next (s.opCmpi c ra imm)

/-- The unary MOV copies a register (R280). -/
def execUnaryMov (c : Core) (rd ra : BitVec 4) (s : State) : Host.Outcome State Fault Refusal :=
  .next (s.opMov c rd ra)

/-- NOT inverts a register (R280). -/
def execNot (c : Core) (rd ra : BitVec 4) (s : State) : Host.Outcome State Fault Refusal :=
  .next (s.opNot c rd ra)

/-- NEG negates a register (R280). -/
def execNeg (c : Core) (rd ra : BitVec 4) (s : State) : Host.Outcome State Fault Refusal :=
  .next (s.opNeg c rd ra)

/-- SWN exchanges the two nonets (R280). -/
def execSwn (c : Core) (rd ra : BitVec 4) (s : State) : Host.Outcome State Fault Refusal :=
  .next (s.opSwn c rd ra)

/-- SXN sign-extends the low nonet (R280). -/
def execSxn (c : Core) (rd ra : BitVec 4) (s : State) : Host.Outcome State Fault Refusal :=
  .next (s.opSxn c rd ra)

/-- ZXN zero-extends the low nonet (R280). -/
def execZxn (c : Core) (rd ra : BitVec 4) (s : State) : Host.Outcome State Fault Refusal :=
  .next (s.opZxn c rd ra)

/-- CLZ counts leading zeros (R280). -/
def execClz (c : Core) (rd ra : BitVec 4) (s : State) : Host.Outcome State Fault Refusal :=
  .next (s.opClz c rd ra)

/-- TNZ sets T when a register is non-zero (R280). -/
def execTnz (c : Core) (ra : BitVec 4) (s : State) : Host.Outcome State Fault Refusal :=
  .next (s.opTnz c ra)

/-- SETT sets T (R280). -/
def execSett (c : Core) (s : State) : Host.Outcome State Fault Refusal :=
  .next (s.opSetT c true)

/-- CLRT clears T (R280). -/
def execClrt (c : Core) (s : State) : Host.Outcome State Fault Refusal :=
  .next (s.opSetT c false)

/-! ## Memory and ports -/

/-- LD loads a data-space word (R284). -/
def execLd (c : Core) (rd ra n : BitVec 4) (s : State) : Host.Outcome State Fault Refusal :=
  .next (s.opLd c rd ra n)

/-- ST stores a word to data space (R284). -/
def execSt (c : Core) (rs ra n : BitVec 4) (s : State) : Host.Outcome State Fault Refusal :=
  .next (s.opSt c rs ra n)

/-- LDA loads from an absolute or offset address (R280). -/
def execLda (c : Core) (r ra : BitVec 4) (abs : Bool) (off : Word) (s : State) : Host.Outcome State Fault Refusal :=
  .next (s.opLda c r ra abs off)

/-- STA stores to an absolute or offset address (R280). -/
def execSta (c : Core) (r ra : BitVec 4) (abs : Bool) (off : Word) (s : State) : Host.Outcome State Fault Refusal :=
  .next (s.opSta c r ra abs off)

/-- LDC reads instruction space (R284). -/
def execLdc (c : Core) (rd ra n : BitVec 4) (s : State) : Host.Outcome State Fault Refusal :=
  .next (s.opLdc c rd ra n)

/-- IN reads an I/O port (R284). -/
def execInp (c : Core) (rd ra : BitVec 4) (idx : Bool) (port : BitVec 16)
    (s : State) : Host.Outcome State Fault Refusal :=
  .next (s.opIn c rd ra idx port)

/-- OUT writes an I/O port (R284). -/
def execOut (c : Core) (rs ra : BitVec 4) (idx : Bool) (port : BitVec 16)
    (s : State) : Host.Outcome State Fault Refusal :=
  .next (s.opOut c rs ra idx port)

/-! ## Control flow and control registers -/

/-- B branches when its condition holds (R280). -/
def execB (c : Core) (cond : BitVec 4) (off : BitVec 8) (s : State) : Host.Outcome State Fault Refusal :=
  .next (s.opB c cond off)

/-- DBNZ decrements and branches when non-zero (R280). -/
def execDbnz (c : Core) (rd : BitVec 4) (off : BitVec 8) (s : State) : Host.Outcome State Fault Refusal :=
  .next (s.opDbnz c rd off)

/-- JMP jumps to a register address (R280). -/
def execJmp (c : Core) (ra : BitVec 4) (s : State) : Host.Outcome State Fault Refusal :=
  .next (s.opJmp c ra)

/-- JMPL jumps to an absolute address (R280). -/
def execJmpl (c : Core) (addr : Word) (s : State) : Host.Outcome State Fault Refusal :=
  .next (s.opJmpl c addr)

/-- CALL slides the window and jumps to a register address (R275). -/
def execCall (c : Core) (ra : BitVec 4) (s : State) : Host.Outcome State Fault Refusal :=
  .next (s.opCall c ra)

/-- CALLL calls an absolute address (R275). -/
def execCalll (c : Core) (addr : Word) (s : State) : Host.Outcome State Fault Refusal :=
  .next (s.opCalll c addr)

/-- RET returns from lk and slides the window back (R275). -/
def execRet (c : Core) (s : State) : Host.Outcome State Fault Refusal :=
  .next (s.opRet c)

/-- RETI restores CS and PC and slides the window back (R276). -/
def execReti (c : Core) (s : State) : Host.Outcome State Fault Refusal :=
  .next (s.opReti c)

/-- NOP does nothing (R280). -/
def execNop (c : Core) (s : State) : Host.Outcome State Fault Refusal :=
  .next (s.opNop c)

/-- WAIT stops the core until an enabled source is pending (R287). -/
def execWait (c : Core) (s : State) : Host.Outcome State Fault Refusal :=
  .next (s.opWait c)

/-- A pending enabled source ends WAIT (R287). -/
def execWaitWake (c : Core) (s : State) : Host.Outcome State Fault Refusal :=
  .next (s.wakeWait c)

/-- TRAP n takes trap 7 with ARG n (R289). -/
def execTrap (c : Core) (n : BitVec 8) (s : State) : Host.Outcome State Fault Refusal :=
  .next (s.opTrap c n)

/-- BRK halts under BRKEN or takes trap 8 (R291). -/
def execBrk (c : Core) (s : State) : Host.Outcome State Fault Refusal :=
  .next (s.opBrk c)

/-- FENCE waits until earlier stores and OUTs take effect (R285). -/
def execFence (c : Core) (s : State) : Host.Outcome State Fault Refusal :=
  .next (s.opFence c)

/-- EI enables interrupts from the boundary after the next word (R287). -/
def execEi (c : Core) (s : State) : Host.Outcome State Fault Refusal :=
  .next (s.opEi c)

/-- DI disables interrupts (R280). -/
def execDi (c : Core) (s : State) : Host.Outcome State Fault Refusal :=
  .next (s.opDi c)

/-- CRD reads a control register (R292). -/
def execCrd (c : Core) (r : BitVec 4) (cr : BitVec 6) (s : State) : Host.Outcome State Fault Refusal :=
  .next (s.opCrd c r cr)

/-- CWR writes a control register with its own effect (R292). -/
def execCwr (c : Core) (r : BitVec 4) (cr : BitVec 6) (s : State) : Host.Outcome State Fault Refusal :=
  .next (s.opCwr c r cr)

/-- A word with a reserved encoding is not executed (R283). -/
def execReservedMajor (c : Core) (w0 w1 : Word) (s : State) : Host.Outcome State Fault Refusal :=
  .next (s.opReserved c w0 w1)

/-! ## Interrupts and debug -/

/-- At a boundary the highest pending enabled source above LEVEL is entered (R287). -/
def execInterruptEntry (c : Core) (s : State) : Host.Outcome State Fault Refusal :=
  .next (s.takeIrq c)

/-- DBG CTL 1 halts a core at an instruction boundary (R293). -/
def execHalt (m : Master) (c : Core) (s : State) : Host.Outcome State Fault Refusal :=
  .next (s.portCmd m (Port.DBG_CTL c.num) 1 fun t => t.dbgCmd c 1)

/-- DBG CTL 2 resumes a halted core (R293). -/
def execRun (m : Master) (c : Core) (s : State) : Host.Outcome State Fault Refusal :=
  .next (s.portCmd m (Port.DBG_CTL c.num) 2 fun t => t.dbgCmd c 2)

/-- DBG CTL 3 executes one word or an interrupt entry (R293). -/
def execStep (m : Master) (c : Core) (w0 w1 : Word) (s : State) : Host.Outcome State Fault Refusal :=
  .next (s.stepCore m c false w0 w1)

/-- DBG CTL 4 steps one word with interrupts masked (R293). -/
def execStepMask (m : Master) (c : Core) (w0 w1 : Word) (s : State) : Host.Outcome State Fault Refusal :=
  .next (s.stepCore m c true w0 w1)

/-- An enabled breakpoint halts the core before the word (R295). -/
def execBreakpointHalt (c : Core) (s : State) : Host.Outcome State Fault Refusal :=
  .next (s.breakHalt c)

end Sys2Proof.Machine
end

