-- ==== Sys2Proof/Machine/HostCmds.lean ====
section
/-! DEFINITION. Meanings of the frames of the host port and of its commands (R366-R379). -/

namespace Sys2Proof.Machine

open Sys2Proof

/-- A STATUS frame returns the status word and any reply (R371). -/
def execStatus (addr : BitVec 3) (wc : BitVec 11) (h1 : Word) (s : State) : Host.Outcome State Fault Refusal :=
  .next (s.hostFrame addr 0 wc.toNat h1 false [] false)

/-- A WRITE frame writes words to consecutive ports (R371). -/
def execWrite (addr : BitVec 3) (wc : BitVec 11) (h1 : Word) (data : List Word)
    (s : State) : Host.Outcome State Fault Refusal :=
  .next (s.hostFrame addr 1 wc.toNat h1 true data false)

/-- A WRITE_FIXED frame writes every word to one port (R371). -/
def execWriteFixed (addr : BitVec 3) (wc : BitVec 11) (h1 : Word) (data : List Word)
    (s : State) : Host.Outcome State Fault Refusal :=
  .next (s.hostFrame addr 2 wc.toNat h1 true data false)

/-- A READ_POST frame samples consecutive ports for the next frame (R373). -/
def execReadPost (addr : BitVec 3) (wc : BitVec 11) (h1 : Word) (s : State) : Host.Outcome State Fault Refusal :=
  .next (s.hostFrame addr 3 wc.toNat h1 false [] false)

/-- A READ_POST_FIXED frame samples one port repeatedly (R373). -/
def execReadPostFixed (addr : BitVec 3) (wc : BitVec 11) (h1 : Word) (s : State) : Host.Outcome State Fault Refusal :=
  .next (s.hostFrame addr 4 wc.toNat h1 false [] false)

/-- A BELL frame ORs a value into HPT_BELL_IN (R375). -/
def execBell (addr : BitVec 3) (wc : BitVec 11) (h1 : Word) (s : State) : Host.Outcome State Fault Refusal :=
  .next (s.hostFrame addr 5 wc.toNat h1 false [] false)

/-- A PUSH frame carries a packet for a queue (R374). -/
def execPush (addr : BitVec 3) (wc : BitVec 11) (h1 : Word) (data : List Word)
    (s : State) : Host.Outcome State Fault Refusal :=
  .next (s.hostFrame addr 6 wc.toNat h1 true data false)

/-- A PULL frame removes a queue's head packet into the next reply (R374). -/
def execPull (addr : BitVec 3) (wc : BitVec 11) (h1 : Word) (s : State) : Host.Outcome State Fault Refusal :=
  .next (s.hostFrame addr 7 wc.toNat h1 false [] false)

/-- A frame with a reserved command or bits is discarded (R371). -/
def execBadCmd (addr : BitVec 3) (cmd : BitVec 4) (wc : BitVec 11) (h1 : Word)
    (s : State) : Host.Outcome State Fault Refusal :=
  .next (if 8 ≤ cmd.toNat ∨ badHeader cmd.toNat h1 then s.hostFrame addr cmd.toNat wc.toNat h1 false [] false else s)

/-- HSEL_N rises mid-word or early and the frame counts as cut (R377). -/
def execFrameCut (addr : BitVec 3) (cmd : BitVec 4) (wc : BitVec 11) (h1 : Word) (inHeader : Bool) (data : List Word)
    (s : State) : Host.Outcome State Fault Refusal :=
  .next (s.hostFrameCut addr cmd.toNat wc.toNat h1 inHeader data)

/-- The next host-data word takes effect from the write buffer (R372). -/
def execWriteBufferDrain (s : State) : Host.Outcome State Fault Refusal :=
  .next (s.hostDrain)

/-- After earlier writes take effect a posted read samples its ports (R373). -/
def execPostedSample (s : State) : Host.Outcome State Fault Refusal :=
  .next (s.hostPost)

/-- The wake comparator matches ADDR and requests wake (R379). -/
def execComparatorMatch (addr : BitVec 3) (s : State) : Host.Outcome State Fault Refusal :=
  .next (if addr = s.pins.stackId ∧ s.hostAsleep then s.comparator else s)

/-- HPT_HIRQ_SET sets PEND bits toward HIRQ_N (R375). -/
def execHirqSet (m : Master) (v : Word) (s : State) : Host.Outcome State Fault Refusal :=
  .next (s.portCmd m Port.HPT_HIRQ_SET v fun t =>
    t.set Port.HPT_HIRQ_PEND (t.get Port.HPT_HIRQ_PEND ||| (v &&& 0o177777)))

end Sys2Proof.Machine
end

