-- ==== Sys2Proof/Machine/PinCmds.lean ====
section
/-! DEFINITION. Meanings of the commands of the balls and of the TAP (R421, R446, R461). -/

namespace Sys2Proof.Machine

open Sys2Proof

/-- The DEBUG instruction: an access of the debug bus, which stalls until READY (R40, R353, R461). -/
def State.tapDebug (s : State) (writing : Bool) (p : Nat) (v : Word) : State :=
  let t := { s with pins := { s.pins with tapIr := 8, bsrDrive := false } }
  if writing then t.masterWrite .dbg p v else t.masterRead .dbg p

/-- A GPIO input rises or falls and its producer raises (R421). -/
def execGpioEdge (g : Fin 48) (rise : Bool) (s : State) : Host.Outcome State Fault Refusal :=
  .next (s.gpioMove g.val rise)

/-- GPIO_SET bits set output levels (R446). -/
def execGpioSet (m : Master) (k : Fin 3) (v : Word) (s : State) : Host.Outcome State Fault Refusal :=
  .next (s.portCmd m (Port.GPIO_SET k.val) v fun t => t.gpioSetW k.val v)

/-- GPIO_CLR bits clear output levels (R446). -/
def execGpioClr (m : Master) (k : Fin 3) (v : Word) (s : State) : Host.Outcome State Fault Refusal :=
  .next (s.portCmd m (Port.GPIO_CLR k.val) v fun t => t.gpioClrW k.val v)

/-- GPIO_TOG bits invert output levels (R446). -/
def execGpioTog (m : Master) (k : Fin 3) (v : Word) (s : State) : Host.Outcome State Fault Refusal :=
  .next (s.portCmd m (Port.GPIO_TOG k.val) v fun t => t.gpioTogW k.val v)

/-- A TRST_N pulse resets the TAP (R461). -/
def execTapReset (s : State) : Host.Outcome State Fault Refusal :=
  .next (s.tapClear)

/-- TAP EXTEST drives the boundary-scan register (R461). -/
def execExtest (scanIn : List Bool) (s : State) : Host.Outcome State Fault Refusal :=
  .next (s.tapExtest scanIn)

/-- TAP SAMPLE/PRELOAD captures the boundary-scan register (R461). -/
def execSamplePreload (balls scanIn : List Bool) (s : State) : Host.Outcome State Fault Refusal :=
  .next (s.tapSample balls scanIn)

/-- TAP IDCODE selects the 32-bit identity register (R461). -/
def execIdcode (s : State) : Host.Outcome State Fault Refusal :=
  .next (s.tapId)

/-- TAP DEBUG reaches the debug bus (R461). -/
def execDebug (writing : Bool) (port : BitVec 16) (v : Word) (s : State) : Host.Outcome State Fault Refusal :=
  .next (s.tapDebug writing port.toNat v)

/-- TAP BYPASS selects the 1-bit register (R461). -/
def execBypass (bit : Bool) (s : State) : Host.Outcome State Fault Refusal :=
  .next (s.tapBypass bit)

end Sys2Proof.Machine
end

