-- ==== Sys2Proof/Machine/PowerCmds.lean ====
section
/-! DEFINITION. Meanings of the commands of the power controller, clocks, watchdogs, the Sluice and the sensors
(R387-R412). -/

namespace Sys2Proof.Machine

open Sys2Proof

/-- A master's write of PWR_CMD with a code: a level 1 to 4, or 5 CANCEL; the debugger's has no effect (R390).
(DEDUCED, log entry 82.) -/
def State.levelCmd (s : State) (m : Master) (v : Word) : State :=
  s.portCmd m Port.PWR_CMD v fun t => if m = .dbg then t else t.pwrCmd v

/-- A wake source requests wake: sources 0 to 4 by their bit of PWR_WAKE, source 5 by an interrupt that ends WAIT
(R393). -/
def State.wakeBy (s : State) (src : Nat) : State := if src = 5 then s.wakeByIrq else s.wakeFrom src

/-- PWR_CMD 1 requests Reef 1 (R390). -/
def execEnterReef1 (m : Master) (s : State) : Host.Outcome State Fault Refusal :=
  .next (s.levelCmd m 1)

/-- PWR_CMD 2 requests Reef 2 (R390). -/
def execEnterReef2 (m : Master) (s : State) : Host.Outcome State Fault Refusal :=
  .next (s.levelCmd m 2)

/-- PWR_CMD 3 requests Reef 3 (R390). -/
def execEnterReef3 (m : Master) (s : State) : Host.Outcome State Fault Refusal :=
  .next (s.levelCmd m 3)

/-- PWR_CMD 4 requests Furl (R390). -/
def execEnterFurl (m : Master) (s : State) : Host.Outcome State Fault Refusal :=
  .next (s.levelCmd m 4)

/-- PWR_CMD 5 cancels an entry before its point of no return (R390). -/
def execPwrCancel (m : Master) (s : State) : Host.Outcome State Fault Refusal :=
  .next (s.levelCmd m 5)

/-- Every domain to go off is quiet and entry proceeds to step 3 (R391). -/
def execEntryQuietReached (s : State) : Host.Outcome State Fault Refusal :=
  .next (s.entryQuietNow)

/-- Every core is in WAIT; CORECLK is gated and the domains go off (R391). -/
def execEntryCoresWaiting (s : State) : Host.Outcome State Fault Refusal :=
  .next (s.entryDone)

/-- An enabled wake source requests wake (R393). -/
def execWakeRequest (src : Fin 6) (s : State) : Host.Outcome State Fault Refusal :=
  .next (s.wakeBy src.val)

/-- A restored domain's reset is released after its restore delay (R387). -/
def execDomainRelease (d : Fin 16) (s : State) : Host.Outcome State Fault Refusal :=
  .next (s.domRelease d.val)

/-- Setting or clearing a PWR_DOM_OFF bit powers a shared domain off or on (R389). -/
def execDomOffHold (m : Master) (v : Word) (s : State) : Host.Outcome State Fault Refusal :=
  .next (s.portCmd m (Port.PWR_DOM_OFF) v fun t => t.domHold v)

/-- PWR_RES_CMD 1 clears every residency counter (R396). -/
def execResidencyClear (m : Master) (s : State) : Host.Outcome State Fault Refusal :=
  .next (s.portCmd m (Port.PWR_RES_CMD) 1 fun t => t.resClear 1)

/-- No REFCLK edge for 8 WDGCLK cycles starts a held system reset (R398). -/
def execRefclkLoss (s : State) : Host.Outcome State Fault Refusal :=
  .next (s.refLost)

/-- Loss of system PLL lock starts a system reset (R398). -/
def execSystemPllUnlock (s : State) : Host.Outcome State Fault Refusal :=
  .next (s.sysResetNow .pll s.pins.bootSel s.pins.stackId)

/-- A two-word kick restarts the watchdog or expires it when early or wrong (R403). -/
def execWdgKick (m : Master) (c : Core) (v : Word) (s : State) : Host.Outcome State Fault Refusal :=
  .next (s.portCmd m (Port.WDG_KICK c.num) v fun t => t.wdgKickBy m c v)

/-- The remaining time falls to WARN and WDG_WARN is raised (R404). -/
def execWdgWarnLevel (c : Core) (s : State) : Host.Outcome State Fault Refusal :=
  .next (s.wdgWarn c.num)

/-- A watchdog channel expires and performs its ACTION (R404). -/
def execWdgExpiry (c : Core) (s : State) : Host.Outcome State Fault Refusal :=
  .next (s.wdgEnd c)

/-- The Sluice grants waiting requests that conflict with no holder (R408). -/
def execSluiceGrant (s : State) : Host.Outcome State Fault Refusal :=
  .next (s.sluiceCycle)

/-- A request waits AGE ms and raises MNT_EVT (R408). -/
def execSluiceAging (a : Fin 12) (s : State) : Host.Outcome State Fault Refusal :=
  .next (s.sluiceAge a.val)

/-- A TEMP grant samples die temperature and VPA supplies (R411). -/
def execTempSample (temp : BitVec 9) (vpaS vpaW : BitVec 12) (s : State) : Host.Outcome State Fault Refusal :=
  .next (s.tempSampled temp vpaS vpaW)

/-- CAL_FMC_CMD 1 requests an RTC measurement (R412). -/
def execFmcMeasure (m : Master) (s : State) : Host.Outcome State Fault Refusal :=
  .next (s.portCmd m (Port.CAL_FMC_CMD) 1 fun t => t.fmcCmd 1)

/-- The measurement ends and CAL_FMC_RES is valid (R412). -/
def execFmcDone (err : Word) (s : State) : Host.Outcome State Fault Refusal :=
  .next (s.fmcEnd err)

end Sys2Proof.Machine
end

