-- ==== Sys2Proof/Machine/Queues.lean ====
section
/-! DEFINITION. Meanings of the commands of the Basin (R212-R222) and of a DRAM freeze and its RESUME (R333, R334).
-/

namespace Sys2Proof.Machine

open Sys2Proof

/-- OPEN_W takes a header cell and opens a write packet toward a queue (R212). -/
def execOpenW (m : Master) (s : State) : Host.Outcome State Fault Refusal :=
  .next (s.portCmd m (Port.BSN_QCMD) 1 fun t => t.qCmd m 1)

/-- ENQUEUE commits the write packet with the given LEN (R212). -/
def execEnqueue (m : Master) (s : State) : Host.Outcome State Fault Refusal :=
  .next (s.portCmd m (Port.BSN_QCMD) 2 fun t => t.qCmd m 2)

/-- ABORT frees the write packet's cells (R212). -/
def execAbort (m : Master) (s : State) : Host.Outcome State Fault Refusal :=
  .next (s.portCmd m (Port.BSN_QCMD) 3 fun t => t.qCmd m 3)

/-- DEQUEUE removes the head packet and opens it for reading (R212). -/
def execDequeue (m : Master) (s : State) : Host.Outcome State Fault Refusal :=
  .next (s.portCmd m (Port.BSN_QCMD) 4 fun t => t.qCmd m 4)

/-- PEEK loads the head packet's header and leaves it in place (R212). -/
def execPeek (m : Master) (s : State) : Host.Outcome State Fault Refusal :=
  .next (s.portCmd m (Port.BSN_QCMD) 5 fun t => t.qCmd m 5)

/-- DROP_REM closes the read packet and frees its cells (R212). -/
def execDropRem (m : Master) (s : State) : Host.Outcome State Fault Refusal :=
  .next (s.portCmd m (Port.BSN_QCMD) 6 fun t => t.qCmd m 6)

/-- FORWARD commits the read packet whole to another queue (R212). -/
def execForward (m : Master) (s : State) : Host.Outcome State Fault Refusal :=
  .next (s.portCmd m (Port.BSN_QCMD) 7 fun t => t.qCmd m 7)

/-- FLUSH removes every committed packet of a queue (R222). -/
def execFlush (m : Master) (s : State) : Host.Outcome State Fault Refusal :=
  .next (s.portCmd m (Port.BSN_QCMD) 8 fun t => t.qCmd m 8)

/-- A DEQUEUE or FLUSH of a TXQ held by an event acts after the event's CLOSE (R216). -/
def execDeferredQueueCommand (m : Master) (s : State) : Host.Outcome State Fault Refusal :=
  .next (s.qDeferred m)

/-- A BSN_WDATA write stores one payload word and takes a cell when needed (R214). -/
def execWdataWrite (m : Master) (v : Word) (s : State) : Host.Outcome State Fault Refusal :=
  .next (s.portCmd m (Port.BSN_WDATA) v fun t => t.wdata m v)

/-- A BSN_RDATA read returns a payload word and advances RPOS (R215). -/
def execRdataRead (m : Master) (s : State) : Host.Outcome State Fault Refusal :=
  .next (s.masterRead m Port.BSN_RDATA)

/-- A write to BSN_HDR_1 to _7 sets a header word of the open packet (R214). -/
def execHdrWrite (m : Master) (i : Fin 8) (v : Word) (s : State) : Host.Outcome State Fault Refusal :=
  .next (s.portCmd m (Port.BSN_HDR i.val) v fun t => t.hdrWr m i.val v)

/-- A 1 written to an IE bit of a non-empty queue raises BSN_QREADY (R220). -/
def execIeWrite (m : Master) (g : Fin 8) (v : Word) (s : State) : Host.Outcome State Fault Refusal :=
  .next (s.portCmd m (Port.BSN_IE g.val) v fun t => t.ieWr g.val v)

/-- BSN_AUDIT_CMD 1 starts an audit of unreachable cells (R222). -/
def execAudit (m : Master) (s : State) : Host.Outcome State Fault Refusal :=
  .next (s.portCmd m (Port.BSN_AUDIT_CMD) 1 fun t => t.auditCmd 1)

/-- The audit ends and returns unreachable cells to the pool (R222). -/
def execAuditDone (s : State) : Host.Outcome State Fault Refusal :=
  .next (s.auditEnd)

/-- A non-empty queue's idle timer reaches TAIL_IDLE plus one step (R219). -/
def execTailIdleExpiry (q : Fin 128) (s : State) : Host.Outcome State Fault Refusal :=
  .next (s.tailIdle q.val)

/-- The Basin fetches a master's open read packet, and an aperture access of that core that waited for it goes on (R222,
R239). -/
def State.fetchOpen (s : State) (m : Master) : State :=
  let t := s.openFetch m
  match m.core with
  | some c => t.basinWaitEnd c
  | none => t

/-- A freeze while PD_DRAMC is on: causes 1 to 3 carry the failing block, causes 4 to 6 are command-path faults (R333). -/
def State.freezeNow (s : State) (cause port groups block tag : Nat) : State :=
  if s.domOn 12 = false ∨ cause = 0 ∨ cause = 7 then s else
  if cause ≤ 3 then s.dmcFreezeOp cause port groups block tag else s.dmcPathFreeze cause

/-- The Basin fetches an open packet's remaining DRAM cells (R222). -/
def execOpenPacketFetch (m : Master) (s : State) : Host.Outcome State Fault Refusal :=
  .next (s.fetchOpen m)

/-- Flushed DRAM cells return to the spill area once DRAM is available (R222). -/
def execDramReclaim (s : State) : Host.Outcome State Fault Refusal :=
  .next (s.reclaim)

/-- A freeze cause stalls every DRAM port and records the cause (R333). -/
def execDmcFreeze (cause port groups : BitVec 3) (block : BitVec 25) (tag : BitVec 16)
    (s : State) : Host.Outcome State Fault Refusal :=
  .next (s.freezeNow cause.toNat port.toNat groups.toNat block.toNat tag.toNat)

/-- DMC_CMD RESUME unstalls the ports after a freeze (R334). -/
def execResume (m : Master) (s : State) : Host.Outcome State Fault Refusal :=
  .next (s.portCmd m (Port.DMC_CMD) 3 fun t => t.dmcCmd 3)

end Sys2Proof.Machine
end

