-- ==== Sys2Proof/Machine/Receive.lean ====
section
/-! DEFINITION. Meanings of the commands of the receive chains, the lanes and the detector bank (R53-R79, R152). -/

namespace Sys2Proof.Machine

open Sys2Proof

/-! ## Receive chains -/

/-- Four samples in 1 µs reach 0.9 of full scale, counting CLIPCNT and raising RX_CLIP (R53). -/
def execClipEvent (c : RxChain) (s : State) : Host.Outcome State Fault Refusal :=
  .next (s.clip c.num)

/-- After a quiet HOLD period in auto mode the attenuator falls by one code (R55). -/
def execAttStepDown (c : RxChain) (s : State) : Host.Outcome State Fault Refusal :=
  .next (s.attFall c.num)

/-- When a chain's domains are all released the chain starts its foreground calibration (R57). -/
def execChainCalStart (c : RxChain) (s : State) : Host.Outcome State Fault Refusal :=
  .next (s.calBegin c.num)

/-- The foreground calibration ends and the chain sets READY (R57). -/
def execChainCalDone (c : RxChain) (skew : BitVec 9) (s : State) : Host.Outcome State Fault Refusal :=
  .next ((s.chainDone c.num skew).sniffReady)

/-- The sampling PLL loses lock and both chains clear READY (R57). -/
def execSamplingPllUnlock (s : State) : Host.Outcome State Fault Refusal :=
  .next (s.smpUnlock.servePending.sniffDetached)

/-- The sampling PLL relocks and the chains calibrate with retained coefficients (R57). -/
def execSamplingPllRelock (s : State) : Host.Outcome State Fault Refusal :=
  .next (s.smpRelock)

/-- Every PERIOD the chain requests the Sluice's RX background calibration grant (R58). -/
def execBgCalPeriod (c : RxChain) (s : State) : Host.Outcome State Fault Refusal :=
  .next (s.bgPeriod c.num)

/-- With the grant held, new coefficients are applied in the first gap (R58). -/
def execBgCalApply (c : RxChain) (skew : BitVec 9) (s : State) : Host.Outcome State Fault Refusal :=
  .next (s.bgApply c.num skew)

/-- After MAXWAIT without a gap the coefficients are applied at once, flagging lanes in RECEIVE (R59). -/
def execBgCalForce (c : RxChain) (skew : BitVec 9) (s : State) : Host.Outcome State Fault Refusal :=
  .next (s.bgForce c.num skew)

/-- RXC CALCMD 1 requests a must-run-now foreground calibration (R60). -/
def execRxcFullCal (m : Master) (c : RxChain) (s : State) : Host.Outcome State Fault Refusal :=
  .next (s.portCmd m (Port.RXC_CALCMD c.num) 1 fun t => (t.rxCalcmd c.num 1).servePending.sniffDetached)

/-- RXC CALCMD 2 requests a background application at the next gap (R60). -/
def execRxcBgApplyCmd (m : Master) (c : RxChain) (s : State) : Host.Outcome State Fault Refusal :=
  .next (s.portCmd m (Port.RXC_CALCMD c.num) 2 fun t => t.rxCalcmd c.num 2)

/-! ## Lanes -/

/-- START checks a manual lane's configuration and attaches it to its bin, or sets CFG_ERR (R64). -/
def execLaneStart (m : Master) (l : Fin 64) (s : State) : Host.Outcome State Fault Refusal :=
  .next (s.portCmd m (Port.LAN_CMD l.val) 1 fun t => t.laneCmd l.val 1)

/-- STOP detaches a searching lane or is remembered until its packet closes (R67). -/
def execLaneStop (m : Master) (l : Fin 64) (s : State) : Host.Outcome State Fault Refusal :=
  .next (s.portCmd m (Port.LAN_CMD l.val) 2 fun t => t.laneCmd l.val 2)

/-- CLAIM turns a spare lane into a manual lane (R62). -/
def execLaneClaim (m : Master) (l : Fin 64) (s : State) : Host.Outcome State Fault Refusal :=
  .next (s.portCmd m (Port.LAN_CMD l.val) 3 fun t => t.laneCmd l.val 3)

/-- RELEASE returns an idle manual lane to the spare pool (R62). -/
def execLaneRelease (m : Master) (l : Fin 64) (s : State) : Host.Outcome State Fault Refusal :=
  .next (s.portCmd m (Port.LAN_CMD l.val) 4 fun t => t.laneCmd l.val 4)

/-- TEST starts the 50 µs self-test of a faulted lane (R70). -/
def execLaneTest (m : Master) (l : Fin 64) (s : State) : Host.Outcome State Fault Refusal :=
  .next (s.portCmd m (Port.LAN_CMD l.val) 5 fun t => t.laneCmd l.val 5)

/-- The lane self-test ends; a pass makes the lane spare (R70). -/
def execLaneTestDone (l : Fin 64) (pass : Bool) (s : State) : Host.Outcome State Fault Refusal :=
  .next (s.laneTestEnd l.val pass)

/-- The PHY's fill time elapses and the lane arms its detector in SEARCH (R67). -/
def execLaneFillDone (l : Fin 64) (s : State) : Host.Outcome State Fault Refusal :=
  .next (s.laneFilled l.val)

/-- A lane matches its sync word, takes a header cell and stamps link time (R67). -/
def execSyncMatch (l : Fin 64) (sync : BitVec 32) (ts : BitVec 54) (meas : RxMeas)
    (s : State) : Host.Outcome State Fault Refusal :=
  .next (s.syncMatch l.val sync ts meas)

/-- At header time a length field above the limit discards the frame and counts LENOVER (R152). -/
def execLengthFieldReceived (l : Fin 64) (air : List Octet) (s : State) : Host.Outcome State Fault Refusal :=
  .next (s.lengthSeen l.val air)

/-- The last bit arrives, the CRC is checked and the lane closes the packet for its sequencer (R67). -/
def execPacketEnd (l : Fin 64) (air : List Octet) (crc : BitVec 24) (s : State) : Host.Outcome State Fault Refusal :=
  .next ((s.packetEnd l.val (air ++ crcOctets crc)).sniffDetached)

/-- Once the air time of a frame discarded for its length field has passed, the lane returns to SEARCH (R152). -/
def execLenoverAirTimePassed (l : Fin 64) (s : State) : Host.Outcome State Fault Refusal :=
  .next ((s.lenOverEnd l.val).sniffDetached)

/-- PRE ticks before ramp-up a grid is blanked on both chains, closing packets in RECEIVE (R78). -/
def execBlankingStart (t : TxChain) (s : State) : Host.Outcome State Fault Refusal :=
  .next ((s.blankStart (decide (t.num = 1))).servePending.sniffDetached)

/-- POST ticks after ramp-down blanking of the grid ends (R78). -/
def execBlankingEnd (t : TxChain) (s : State) : Host.Outcome State Fault Refusal :=
  .next (s.blankEnd (decide (t.num = 1)))

/-- A lane detects a parity, ECC or length fault, closes its packet and becomes faulted (R70). -/
def execLaneFaultDetect (l : Fin 64) (kind : LaneFaultKind) (s : State) : Host.Outcome State Fault Refusal :=
  .next ((s.laneFault l.val kind).sniffDetached)

/-- A read of LAN_n_RSSI latches the rest of the report for that master (R73). -/
def execLaneReportRead (m : Master) (l : Fin 64) (s : State) : Host.Outcome State Fault Refusal :=
  .next (s.masterRead m (Port.LAN_RSSI l.val))

/-! ## Detector bank -/

/-- The detector bank finds a preamble and the lowest free watch lane attaches to the bin (R75). -/
def execWatchDetection (gridW : Bool) (bin : BitVec 9) (phy : BitVec 3)
    (s : State) : Host.Outcome State Fault Refusal :=
  .next (s.watchDetect gridW bin.toNat phy.toNat)

/-- No entry matches within the sync duration and the watch lane is released (R75). -/
def execWatchNomatchRelease (l : Fin 64) (s : State) : Host.Outcome State Fault Refusal :=
  .next (s.noMatch l.val)

/-- A write to RXC_WM_e_3 applies the staged watch match entry (R77). -/
def execWatchEntryApply (m : Master) (e : Fin 8) (v : Word) (s : State) : Host.Outcome State Fault Refusal :=
  .next (s.portCmd m (Port.RXC_WM_3 e.val) v fun t => t.watchApply e.val v)

/-- The rewrite of the channelizer coefficients is complete: its grant is released and lanes are no longer marked
(R303). -/
def execChzscrubDone (s : State) : Host.Outcome State Fault Refusal :=
  .next (s.chzScrubDone)

end Sys2Proof.Machine
end

