-- ==== Sys2Proof/Machine/Registers.lean ====
section
/-! DEFINITION. Meanings of the commands that read and write registers, of the resets and of bring-up (R5, R15, R20,
R21, R42-R46, R399, R402). -/

namespace Sys2Proof.Machine

open Sys2Proof

/-- A master writes a register that has no row of its own, with the effect its access code gives (R5). -/
def execRegisterWrite (m : Master) (port : BitVec 16) (v : Word) (s : State) : Host.Outcome State Fault Refusal :=
  .next (s.masterWrite m port.toNat v)

/-- A read of an rc field returns it and then clears it, keeping any coinciding event (R5). -/
def execReadClear (m : Master) (port : BitVec 16) (s : State) : Host.Outcome State Fault Refusal :=
  .next (s.masterRead m port.toNat)

/-- A read of the _0 word of a multi-word counter latches its higher words for that master alone (R15). -/
def execMultiwordRead (m : Master) (port : BitVec 16) (s : State) : Host.Outcome State Fault Refusal :=
  .next (s.masterRead m port.toNat)

/-- Power-on, brownout, RESET_N, watchdog ACTION 2, RST_CMD or a transition resets everything but BKD and zeroes
link time (R399). -/
def execColdReset (cause : ColdCause) (bootSel : BitVec 2) (stackId : BitVec 3)
    (s : State) : Host.Outcome State Fault Refusal :=
  .next (s.coldResetNow cause bootSel stackId)

/-- RST_CMD, watchdog ACTION 1, REFCLK loss or PLL unlock resets every switched domain and AON except the kept state
(R402). -/
def execSystemReset (cause : SysCause) (bootSel : BitVec 2) (stackId : BitVec 3)
    (s : State) : Host.Outcome State Fault Refusal :=
  .next (s.sysResetNow cause bootSel stackId)

/-- PD_APC is reset and its banks zeroed while every established link keeps being served (R20). -/
def execApplicationGroupReset (cause : GroupCause) (s : State) : Host.Outcome State Fault Refusal :=
  .next (s.groupReset .apc cause)

/-- The link group is reset, ending every connection and returning uncommitted lane cells to the pool (R21). -/
def execLinkGroupReset (cause : GroupCause) (s : State) : Host.Outcome State Fault Refusal :=
  .next (s.groupReset .lkc cause)

/-- One switched domain of the shared group is reset by RST_CMD or a named path (R399). -/
def execDomainReset (d : Fin 16) (cause : DomCause) (s : State) : Host.Outcome State Fault Refusal :=
  .next (s.domReset d.val cause)

/-- After cold or system reset the boot ROM latches straps, reads fuses, scans the journal and checks the Rig
candidates (R42). -/
def execBootRomRun (nor0 nor1 : List Octet) (s : State) : Host.Outcome State Fault Refusal :=
  .next (s.bootRom nor0 nor1)

/-- Once every domain powered by the Rig is released, READY is set and the boot ROM starts the images (R43). -/
def execRigReady (s : State) : Host.Outcome State Fault Refusal :=
  .next s.rigReadyNow.stallEnd

/-- RIG_LIVE_CMD 1 starts the checks of a live fragment in the mailbox and write-protects it (R44). -/
def execLiveFragmentCheck (m : Master) (s : State) : Host.Outcome State Fault Refusal :=
  .next (s.portCmd m (Port.RIG_LIVE_CMD) 1 fun t => t.liveCmd 1)

/-- A passing live fragment is applied whole at one SYSCLK edge, or a failing one changes nothing (R46). -/
def execLiveFragmentApply (s : State) : Host.Outcome State Fault Refusal :=
  .next (s.liveEnd fun t => t.domOff 15)

/-- REFCLK returns after a loss and the system PLL locks, releasing the held system reset and letting link time
count again (R398). -/
def execRefclkReturn (bootSel : BitVec 2) (stackId : BitVec 3) (s : State) : Host.Outcome State Fault Refusal :=
  .next (s.refBack bootSel stackId)

end Sys2Proof.Machine
end

