-- ==== Sys2Proof/Machine/RtcCmds.lean ====
section
/-! DEFINITION. Meanings of the commands of the real-time clock (R434-R440). -/

namespace Sys2Proof.Machine

open Sys2Proof

/-- The RTC divider wraps and the calendar advances (R434). -/
def execRtcSecond (s : State) : Host.Outcome State Fault Refusal :=
  .next (s.rtcWrap)

/-- RTC_CMD 1 commits the staged calendar fields (R436). -/
def execCommit (m : Master) (s : State) : Host.Outcome State Fault Refusal :=
  .next (s.portCmd m (Port.RTC_CMD) 1 fun t => t.rtcCmd 1)

/-- At the next RTCCLK edge staged fields apply and the divider zeroes (R436). -/
def execCommitApply (s : State) : Host.Outcome State Fault Refusal :=
  .next (s.commitEdge)

/-- RTC_CMD 2 clears SWVALID (R439). -/
def execClearStamp (m : Master) (s : State) : Host.Outcome State Fault Refusal :=
  .next (s.portCmd m (Port.RTC_CMD) 2 fun t => t.rtcCmd 2)

/-- RTC_CMD 3 clears STAGED (R436). -/
def execDiscard (m : Master) (s : State) : Host.Outcome State Fault Refusal :=
  .next (s.portCmd m (Port.RTC_CMD) 3 fun t => t.rtcCmd 3)

/-- A read of RTC_SEC latches a calendar snapshot for that master (R435). -/
def execRtcSecRead (m : Master) (s : State) : Host.Outcome State Fault Refusal :=
  .next (s.masterRead m Port.RTC_SEC)

/-- After 32,768 RTCCLK cycles the snapshot lapses (R435). -/
def execSnapshotExpiry (m : Master) (s : State) : Host.Outcome State Fault Refusal :=
  .next (s.snapEnd m)

/-- BKD switches to VBAK and the calendar is stamped (R439). -/
def execBackupSwitchover (late : Bool) (s : State) : Host.Outcome State Fault Refusal :=
  .next (s.backup late)

/-- RTCCLK shows no edge and OSF is set (R440). -/
def execRtcclkStop (s : State) : Host.Outcome State Fault Refusal :=
  .next (s.rtcStop)

/-- The BKD supply falls below the detector and OSF is set (R440). -/
def execBkdSupplyLow (s : State) : Host.Outcome State Fault Refusal :=
  .next (s.bkdLowNow)

end Sys2Proof.Machine
end

