-- ==== Sys2Proof/Machine/SecurityCmds.lean ====
section
/-! DEFINITION. Meanings of the commands of the cipher and verify engines, the life-cycle controller and the update
engine (R341-R362). -/

namespace Sys2Proof.Machine

open Sys2Proof

/-- CPH_JOB_CMD 1 submits a job descriptor from the mailbox (R341). -/
def execCipherJob (m : Master) (s : State) : Host.Outcome State Fault Refusal :=
  .next (s.portCmd m (Port.CPH_JOB_CMD) 1 fun t => t.jobCmd m 1)

/-- The engine starts the next job in start-command order (R341). -/
def execCipherJobRun (s : State) : Host.Outcome State Fault Refusal :=
  .next (s.jobRun)

/-- A job ends with its result and CPH_DONE is raised (R342). -/
def execCipherJobEnd (s : State) : Host.Outcome State Fault Refusal :=
  .next (s.jobFinish)

/-- Key LOAD unwraps a blob into a slot (R346). -/
def execLoad (m : Master) (s : State) : Host.Outcome State Fault Refusal :=
  .next (s.portCmd m (Port.CPH_KEY_CMD) 1 fun t => t.keyCmd m 1)

/-- Key CLEAR empties a slot (R346). -/
def execClear (m : Master) (s : State) : Host.Outcome State Fault Refusal :=
  .next (s.portCmd m (Port.CPH_KEY_CMD) 2 fun t => t.keyCmd m 2)

/-- DERIVE writes an ECB-derived key into a slot (R347). -/
def execDerive (m : Master) (s : State) : Host.Outcome State Fault Refusal :=
  .next (s.portCmd m (Port.CPH_KEY_CMD) 3 fun t => t.keyCmd m 3)

/-- EXPORT wraps a slot into a blob (R346). -/
def execExportKey (m : Master) (s : State) : Host.Outcome State Fault Refusal :=
  .next (s.portCmd m (Port.CPH_KEY_CMD) 4 fun t => t.keyCmd m 4)

/-- Verify HASH computes SHA-256 over words (R350). -/
def execHash (m : Master) (s : State) : Host.Outcome State Fault Refusal :=
  .next (s.portCmd m (Port.CPH_VFY_CMD) 1 fun t => t.vfyCmd 1)

/-- Verify CRC computes CRC-32C over words (R350). -/
def execCrc (m : Master) (s : State) : Host.Outcome State Fault Refusal :=
  .next (s.portCmd m (Port.CPH_VFY_CMD) 2 fun t => t.vfyCmd 2)

/-- Verify ECDSA checks a P-256 signature of CPH_DIG (R350). -/
def execEcdsa (m : Master) (s : State) : Host.Outcome State Fault Refusal :=
  .next (s.portCmd m (Port.CPH_VFY_CMD) 3 fun t => t.vfyCmd 3)

/-- A verify command ends and VFY_DONE is raised (R350). -/
def execVerifyDone (s : State) : Host.Outcome State Fault Refusal :=
  .next (s.vfyDone)

/-- LCF TRANSITION checks and starts a life-cycle transition (R354). -/
def execTransition (m : Master) (s : State) : Host.Outcome State Fault Refusal :=
  .next (s.portCmd m (Port.LCF_LC_CMD) 1 fun t => t.lcCmd 1)

/-- The transition programs DONE and causes a cold reset (R356). -/
def execTransitionComplete (s : State) : Host.Outcome State Fault Refusal :=
  .next (s.transDone)

/-- FUSE_OKH fuses the owner key hash (R351). -/
def execFuseOkh (m : Master) (s : State) : Host.Outcome State Fault Refusal :=
  .next (s.portCmd m (Port.LCF_LC_CMD) 2 fun t => t.lcCmd 2)

/-- LCF_UPD_CMD ARM checks the staged image (R360). -/
def execArm (m : Master) (s : State) : Host.Outcome State Fault Refusal :=
  .next (s.portCmd m (Port.LCF_UPD_CMD) 1 fun t => t.updCmd 1)

/-- The ARM checks end and an ARM row is programmed on success (R360). -/
def execArmDone (s : State) : Host.Outcome State Fault Refusal :=
  .next (s.armDone)

/-- The copy is checked; the core starts the trial or runs its anchor (R361). -/
def execActivationDone (c : Core) (s : State) : Host.Outcome State Fault Refusal :=
  .next (s.activationEnds c.num)

/-- The core under trial checks in and CHECKIN is appended (R362). -/
def execCheckin (m : Master) (s : State) : Host.Outcome State Fault Refusal :=
  .next (s.portCmd m Port.LCF_CHECKIN 1 fun t => if m.core.isSome then t.checkIn m.num else t)

/-- The trial expires without check-in (R362). -/
def execTrialExpiry (c : Core) (s : State) : Host.Outcome State Fault Refusal :=
  .next (s.trialEnds c.num)

end Sys2Proof.Machine
end

