-- ==== Sys2Proof/Machine/Sequencers.lean ====
section
/-! DEFINITION. Meanings of the commands of the link timebase: calendar, sequencers, sniff windows and the
transmit-time accountant (R107-R128, R158, R179, R395). -/

namespace Sys2Proof.Machine

open Sys2Proof

/-- INSERT enters a context in the calendar, advancing a passed anchor (R110). -/
def execInsert (m : Master) (s : State) : Host.Outcome State Fault Refusal :=
  .next (s.portCmd m (Port.SEQ_CAL_CMD) 1 fun t => t.calCmdRecord 1)

/-- REMOVE takes a context from the calendar after its event in progress (R110). -/
def execRemove (m : Master) (s : State) : Host.Outcome State Fault Refusal :=
  .next (s.portCmd m (Port.SEQ_CAL_CMD) 2 fun t => t.calCmdRecord 2)

/-- UPDATE copies a 17-word image into a pending slot for its instant (R110). -/
def execUpdate (m : Master) (s : State) : Host.Outcome State Fault Refusal :=
  .next (s.portCmd m (Port.SEQ_CAL_CMD) 3 fun t => t.calCmdRecord 3)

/-- At an event's setup point the assigned sequencer arms the event or closes it as missed (R112). -/
def execEventSetup (ctx : BitVec 14) (s : State) : Host.Outcome State Fault Refusal :=
  .next (s.missRecord ((s.setupSubst ctx.toNat).eventSetup ctx.toNat) ctx.toNat)

/-- A waiting sequencer loads the context once the previous event's CLOSE is complete (R179). -/
def execContextLoad (q : Fin 16) (s : State) : Host.Outcome State Fault Refusal :=
  .next (s.loadRecord q.val)

/-- At E less W less fill time a follower starts its lane (R112). -/
def execFollowerListenStart (q : Fin 16) (s : State) : Host.Outcome State Fault Refusal :=
  .next (s.listenStart q.val)

/-- E plus W passes without sync and the event closes with EVSTAT 1 (R112). -/
def execListenTimeout (q : Fin 16) (s : State) : Host.Outcome State Fault Refusal :=
  .next (s.listenTimeout q.val)

/-- The response window passes without sync and the event closes (R112). -/
def execResponseWindowExpiry (q : Fin 16) (s : State) : Host.Outcome State Fault Refusal :=
  .next (s.windowExpiry q.val)

/-- The event's close time arrives and nothing new starts (R112). -/
def execCloseTime (q : Fin 16) (s : State) : Host.Outcome State Fault Refusal :=
  .next (s.closeReached q.val)

/-- CLOSE writes the context's state, releases the lane and updates the calendar (R112). -/
def execEventClose (q : Fin 16) (s : State) : Host.Outcome State Fault Refusal :=
  .next (s.closeRecord q.val)

/-- Link time reaches LAST_ANCHOR plus SUPV and the connection ends with LINK_LOST (R118). -/
def execSupervisionTimeout (ctx : BitVec 14) (s : State) : Host.Outcome State Fault Refusal :=
  .next (s.supervise ctx.toNat)

/-- A sequencer detects a fault, ends its transmission and becomes faulted (R107). -/
def execSeqFaultDetect (q : Fin 16) (kind : SeqFaultKind) (s : State) : Host.Outcome State Fault Refusal :=
  .next (s.faultRecord q.val kind)

/-- TEST starts the 100 µs self-test of a faulted sequencer (R107). -/
def execSeqTest (m : Master) (q : Fin 16) (s : State) : Host.Outcome State Fault Refusal :=
  .next (s.portCmd m (Port.SEQ_CMD q.val) 1 fun t => t.seqCmd q.val 1)

/-- The sequencer self-test ends; a pass makes it spare (R107). -/
def execSeqTestDone (q : Fin 16) (pass : Bool) (s : State) : Host.Outcome State Fault Refusal :=
  .next (s.seqTestEnd q.val pass)

/-- At anchor plus JOINOFF the source sends queued join responses and listens (R158). -/
def execJoinWindowStart (q : Fin 16) (s : State) : Host.Outcome State Fault Refusal :=
  .next (s.joinStart q.val)

/-- The join window ends (R158). -/
def execJoinWindowEnd (q : Fin 16) (s : State) : Host.Outcome State Fault Refusal :=
  .next (s.joinEnd q.val)

/-- At NEXT less LEAD LTB asks the power controller to restore an entry's domains (R121). -/
def execSniffRestore (e : Fin 8) (s : State) : Host.Outcome State Fault Refusal :=
  .next (s.sniffRestore e.val)

/-- At NEXT SEQ_0 serves a sniff entry and adds PERIOD to NEXT (R120). -/
def execSniffWindowStart (e : Fin 8) (s : State) : Host.Outcome State Fault Refusal :=
  .next (s.sniffStart e.val)

/-- A sniff listen ends at its scheduled end (R121). -/
def execSniffListenEnd (s : State) : Host.Outcome State Fault Refusal :=
  .next (s.sniffHeard)

/-- After a window's last action its domains go off again (R395). -/
def execSniffWindowEnd (s : State) : Host.Outcome State Fault Refusal :=
  .next (s.sniffEnd)

/-- A new ledger slot begins and the oldest slot leaves the span (R124). -/
def execLedgerSlotBoundary (b : Fin 8) (s : State) : Host.Outcome State Fault Refusal :=
  .next (s.slotBoundary b.val)

/-- LTB_ACC_CMD 1 clears settled charges in BLANK and DEVELOP (R128). -/
def execLedgerClear (m : Master) (s : State) : Host.Outcome State Fault Refusal :=
  .next (s.portCmd m (Port.LTB_ACC_CMD) 1 fun t => t.clearLedgers)

end Sys2Proof.Machine
end

