-- ==== Sys2Proof/Machine/SerialCmds.lean ====
section
/-! DEFINITION. Meanings of the commands of the peripheral serial masters (R382-R384). -/

namespace Sys2Proof.Machine

open Sys2Proof

/-- PSM CMD START starts a frame-mode transfer (R383). -/
def execPsmStart (m : Master) (x : Fin 2) (s : State) : Host.Outcome State Fault Refusal :=
  .next (s.portCmd m (Port.PSM_CMD x.val) 1 fun t => t.psmStart x.val)

/-- PSM CMD ABORT stops at the next boundary (R383). -/
def execPsmAbort (m : Master) (x : Fin 2) (s : State) : Host.Outcome State Fault Refusal :=
  .next (s.portCmd m (Port.PSM_CMD x.val) 2 fun t => t.psmAbort x.val)

/-- PSM CMD RELEASE releases a held select (R382). -/
def execPsmRelease (m : Master) (x : Fin 2) (s : State) : Host.Outcome State Fault Refusal :=
  .next (s.portCmd m (Port.PSM_CMD x.val) 3 fun t => t.psmRelease x.val)

/-- PSM CMD FLUSH empties both FIFOs (R382). -/
def execPsmFlush (m : Master) (x : Fin 2) (s : State) : Host.Outcome State Fault Refusal :=
  .next (s.portCmd m (Port.PSM_CMD x.val) 4 fun t => t.psmFlush x.val)

/-- A write to TXD_0 pushes a TX FIFO entry (R382). -/
def execTxdPush (m : Master) (x : Fin 2) (v : Word) (s : State) : Host.Outcome State Fault Refusal :=
  .next (s.portCmd m (Port.PSM_TXD_0 x.val) v fun t => t.psmPush x.val v)

/-- A read of RXD_0 pops an RX FIFO entry (R382). -/
def execRxdPop (m : Master) (x : Fin 2) (s : State) : Host.Outcome State Fault Refusal :=
  .next (s.masterRead m (Port.PSM_RXD_0 x.val))

/-- A unit or octet finishes shifting (R382). -/
def execPsmUnitDone (x : Fin 2) (rx : BitVec 32) (s : State) : Host.Outcome State Fault Refusal :=
  .next (s.psmShifted x.val rx)

/-- A frame-mode transfer ends and DONE is set (R383). -/
def execPsmFrameDone (x : Fin 2) (s : State) : Host.Outcome State Fault Refusal :=
  .next (s.psmEnd x.val)

end Sys2Proof.Machine
end

