-- ==== Sys2Proof/Machine/Transmitters.lean ====
section
/-! DEFINITION. Meanings of the commands of the transmit chains and their synthesisers (R84-R94, R103). -/

namespace Sys2Proof.Machine

open Sys2Proof

/-- SEQ_q may ask for a transmission now: its event is loaded and not closing, and it is to send (state RESPOND), or stands
before the first action of a leader or an advertiser (ARMED), or has a join response to send in its join window (R84, R112,
R158). -/
def State.seqMayAsk (s : State) (q : Nat) : Bool :=
  match s.event q with
  | some e => e.loaded && !e.closing && (decide (s.seqState q = 6) ||
      (decide (s.seqState q = 1) && ((cLeader e.words && decide (cKind e.words ≠ 3)) || decide (cKind e.words = 2))) ||
      (e.join && decide (s.seqState q = 2) && s.joinHead q e))
  | none => false

/-- A sequencer reads the TXQ frame its event is to send (R179, R208). -/
def State.readFrame (s : State) (e : Event) : State :=
  match e.send with
  | .queued i => s.readQueued (cTxq e.words) (e.retired + i)
  | _ => s

/-- A transmit request of a sequencer: its event's, with the power code given, or in Reef 3 that of SEQ_0's sniff window
(R84, R120). -/
def State.seqAsk (s : State) (q : Nat) (pcode : BitVec 6) (wait : Word) : State :=
  if s.level = 3 then (if q = 0 then s.sniffAsk wait else s) else
  match s.event q with
  | some e =>
    if s.seqMayAsk q then
      let t := s.readFrame e
      t.txAsk (.seq q) (t.seqReq q e pcode wait).1 (t.seqReq q e pcode wait).2
    else s
  | none => s

/-- The first bit of a transmission leaves; a sniff transmission that leaves after its granted start is late (R87,
R121). -/
def State.bitLeaves (s : State) (t : Nat) : State :=
  let u := s.firstBit t
  match (s.txc t).cur, (u.txc t).cur with
  | some r, some k => if r.phase = .rampUp ∧ k.phase = .onAir then u.sniffLate r.req.start r.req.owner else u
  | _, _ => u

/-- The last bit of a transmission leaves, its duration after the first: ramp-down begins, and a sequencer notes the end
of its frame (R89). -/
def State.lastBit (s : State) (t : Nat) : State :=
  match (s.txc t).cur with
  | none => s
  | some r =>
    if r.phase = .onAir ∧ r.begun + r.req.ramp + r.req.ask.dur ≤ s.time.wall + 1 then
      let u := s.updTxc t fun x => { x with cur := some { r with phase := .rampDown, downAt := s.time.wall } }
      match r.req.owner with
      | .seq q => u.seqLastBit q
      | _ => u
    else s

/-- Ramp-down is complete: a transmission that was not aborted was sent, and its owner goes on (R90, R112, R120). -/
def State.rampDone (s : State) (t : Nat) : State :=
  match (s.txc t).cur with
  | none => s
  | some r =>
    if s.downOver r then
      let u := s.rampEnd t
      match r.req.owner with
      | .seq q => if r.aborted then u else u.seqSent q
      | .sniff => u.sniffSent
      | .test => u
    else s

/-- The earliest request is skipped as late; a sniff window goes on with its next action (R87, R121). -/
def State.skipNow (s : State) (t : Nat) : State :=
  let u := s.skipLate t
  match s.nextReq t with
  | some r => if (u.txc t).accepted.length < (s.txc t).accepted.length then
      ((if r.owner = .sniff then u.count Port.LTB_SNF_LATE else u)).sniffSent else u
  | none => u

/-- A sequencer's transmit request reaches the chain of its PHY and is checked and accepted or refused (R84, R109).  The
power code is the command's: no context field holds one (DESIGN CHOICE, log entry 143). -/
def execTxRequest (q : Fin 16) (pcode : BitVec 6) (wait : Word) (s : State) : Host.Outcome State Fault Refusal :=
  .next (s.seqAsk q.val pcode wait)

/-- At tune_start the synthesiser starts tuning for the earliest accepted request (R86). -/
def execTuneStart (t : TxChain) (s : State) : Host.Outcome State Fault Refusal :=
  .next (s.tuneStart t.num)

/-- The synthesiser detects lock and enters LOCKED (R90). -/
def execSynthLock (t : TxChain) (s : State) : Host.Outcome State Fault Refusal :=
  .next (s.synthLock t.num)

/-- Ramp-up begins at the later of T_start less ramp and lock plus lead (R87). -/
def execRampUpStart (t : TxChain) (s : State) : Host.Outcome State Fault Refusal :=
  .next (s.rampUp t.num)

/-- The first bit leaves one ramp time after ramp-up began (R87). -/
def execTxFirstBit (t : TxChain) (s : State) : Host.Outcome State Fault Refusal :=
  .next (s.bitLeaves t.num)

/-- The last bit leaves and ramp-down begins (R89). -/
def execTxLastBit (t : TxChain) (s : State) : Host.Outcome State Fault Refusal :=
  .next (s.lastBit t.num)

/-- Ramp-down ends, status OK is reported and the time is charged (R90). -/
def execRampDownEnd (t : TxChain) (s : State) : Host.Outcome State Fault Refusal :=
  .next (s.rampDone t.num)

/-- When the first bit can no longer leave by T_late, the request is skipped with TX_LATE (R87). -/
def execTxSkipLate (t : TxChain) (s : State) : Host.Outcome State Fault Refusal :=
  .next (s.skipNow t.num)

/-- The lock detector reports loss of lock, aborting a transmission and relocking (R88). -/
def execLossOfLock (t : TxChain) (s : State) : Host.Outcome State Fault Refusal :=
  .next ((s.lockLost t.num).sniffSent)

/-- KEEP passes with no accepted request and the VCO powers down to IDLE (R90). -/
def execKeepExpiry (t : TxChain) (s : State) : Host.Outcome State Fault Refusal :=
  .next (s.keepEnd t.num)

/-- A pending synthesiser calibration starts under the Sluice grant (R93). -/
def execSynthCalStart (t : TxChain) (s : State) : Host.Outcome State Fault Refusal :=
  .next (s.calStart t.num)

/-- At a checkpoint after tune start the calibration yields and restores retained values (R94). -/
def execSynthCalYield (t : TxChain) (s : State) : Host.Outcome State Fault Refusal :=
  .next (s.calYield t.num)

/-- A suspended calibration resumes from its checkpoint (R94). -/
def execSynthCalResume (t : TxChain) (s : State) : Host.Outcome State Fault Refusal :=
  .next (s.calResume t.num)

/-- Calibration completes, TCAL is recorded and TX_CAL_DONE raised (R90). -/
def execSynthCalDone (t : TxChain) (s : State) : Host.Outcome State Fault Refusal :=
  .next (s.calDone t.num)

/-- TXC CALCMD 1 requests a must-run-now synthesiser calibration (R93). -/
def execTxcMustRunCal (m : Master) (t : TxChain) (s : State) : Host.Outcome State Fault Refusal :=
  .next (s.portCmd m (Port.TXC_CALCMD t.num) 1 fun u => u.txCalcmd t.num 1)

/-- TXC CALCMD 2 makes a calibration pending (R92). -/
def execTxcPendingCal (m : Master) (t : TxChain) (s : State) : Host.Outcome State Fault Refusal :=
  .next (s.portCmd m (Port.TXC_CALCMD t.num) 2 fun u => u.txCalcmd t.num 2)

/-- TESTCMD 1 builds and submits a test transmit request (R103). -/
def execTestStart (m : Master) (t : TxChain) (s : State) : Host.Outcome State Fault Refusal :=
  .next (s.portCmd m (Port.TXC_TESTCMD t.num) 1 fun u => u.txTestcmd t.num 1)

/-- TESTCMD 2 starts ramp-down of a test transmission (R103). -/
def execTestStop (m : Master) (t : TxChain) (s : State) : Host.Outcome State Fault Refusal :=
  .next (s.portCmd m (Port.TXC_TESTCMD t.num) 2 fun u => u.txTestcmd t.num 2)

end Sys2Proof.Machine
end

