-- ==== Sys2Proof/Machine/TrimCmds.lean ====
section
/-! DEFINITION. Meanings of the commands of the trim engine: horizon, context swaps, the order keeper, context
commands, spill and refill, placement (R173-R200). -/

namespace Sys2Proof.Machine

open Sys2Proof

/-- An event enters the schedule horizon and trim decides units and residency (R173). -/
def execHorizonEntry (ctx : BitVec 14) (s : State) : Host.Outcome State Fault Refusal :=
  .next (s.horizonEntry ctx.toNat)

/-- A context write-back and fetch completes and the context is resident (R189). -/
def execContextSwapDone (ctx : BitVec 14) (s : State) : Host.Outcome State Fault Refusal :=
  .next (s.swapRecord ctx.toNat)

/-- The order keeper commits a lane's closed packet to its queue (R182). -/
def execPacketCommit (l : Fin 64) (s : State) : Host.Outcome State Fault Refusal :=
  .next (s.commitMirror l.val)

/-- A unit's drain marker arrives and an entry closes when all have come (R183). -/
def execDrainMarker (l : Fin 64) (ctx : BitVec 14) (epoch : BitVec 6)
    (s : State) : Host.Outcome State Fault Refusal :=
  .next (s.drainMark l.val ctx.toNat epoch)

/-- An entry's drain timer expires and a hole descriptor stands for its packets (R184). -/
def execDrainTimeout (ctx : BitVec 14) (epoch : BitVec 6) (s : State) : Host.Outcome State Fault Refusal :=
  .next (s.drainExpire ctx.toNat epoch)

/-- LOOKUP reports a context's slot without fetching it (R192). -/
def execLookup (m : Master) (s : State) : Host.Outcome State Fault Refusal :=
  .next (s.portCmd m (Port.TRM_CTX_CMD) 1 fun t => t.ctxCmd 1)

/-- BELAY fetches a context if needed and pins it to its slot (R192). -/
def execBelay (m : Master) (s : State) : Host.Outcome State Fault Refusal :=
  .next (s.portCmd m (Port.TRM_CTX_CMD) 2 fun t => t.ctxCmd 2)

/-- UNBELAY clears a context's BELAY flag (R192). -/
def execUnbelay (m : Master) (s : State) : Host.Outcome State Fault Refusal :=
  .next (s.portCmd m (Port.TRM_CTX_CMD) 3 fun t => t.ctxCmd 3)

/-- Trim moves up to 48 tail cells of the queue most above its high mark to DRAM (R197). -/
def execSpillBurst (s : State) : Host.Outcome State Fault Refusal :=
  .next (s.spillBurst)

/-- Trim refills a short head segment from the queue's DRAM segment (R198). -/
def execRefillBurst (s : State) : Host.Outcome State Fault Refusal :=
  .next (s.refillBurst)

/-- TRM_PLACE_CMD 1 asks for a device for a new connection (R200). -/
def execPlaceRequest (m : Master) (s : State) : Host.Outcome State Fault Refusal :=
  .next (s.portCmd m (Port.TRM_PLACE_CMD) 1 fun t => t.placeCmd 1)

/-- The masthead's placement answer arrives and RESULT and DEVICE are set (R200). -/
def execPlaceAnswer (result : BitVec 3) (device : BitVec 3) (s : State) : Host.Outcome State Fault Refusal :=
  .next (s.placeAnswer result.toNat device.toNat)

/-- No placement answer within 5 ms gives NO_MASTHEAD (R200). -/
def execPlaceTimeout (s : State) : Host.Outcome State Fault Refusal :=
  .next (s.placeExpire)

end Sys2Proof.Machine
end

