-- ==== Sys2Proof/Machine/UtvisCmds.lean ====
section
/-! DEFINITION. Meanings of the commands of Utvis stacking (R250-R271). -/

namespace Sys2Proof.Machine

open Sys2Proof

/-- A wake burst reaches a port: an ACTIVE port ignores it.  With the wake source enabled a sleeping device wakes, and
owes the burst on its other port (R271). -/
def State.stackWake (s : State) (p : Nat) : State :=
  if s.lstate p = 5 ∨ s.getB Port.PWR_WAKE 4 = false then s else
  let asleep := decide (s.level ≠ 0) || decide (s.phase = 1) || decide (s.phase = 2)
  let t := s.wakeFrom 4
  if asleep = false then t else
  if t.domOn 13 then t.burst (1 - p) else t.updPort (1 - p) fun u => { u with burst := true }

/-! ## Ports -/

/-- 256 valid symbols take a DOWN port to DELAY (R252). -/
def execSymbolLock (p : Fin 2) (s : State) : Host.Outcome State Fault Refusal :=
  .next (s.symbolLock p.val)

/-- 16 delay exchanges complete and DELAY is set (R252). -/
def execDelayMeasured (p : Fin 2) (units : BitVec 12) (s : State) : Host.Outcome State Fault Refusal :=
  .next (s.delayDone p.val units)

/-- A HELLO is checked and the port goes UP or FAULT (R252). -/
def execHelloFrame (p : Fin 2) (f : UFrame) (s : State) : Host.Outcome State Fault Refusal :=
  .next (s.helloIn p.val f)

/-- IDLE_R from both sides makes the port ACTIVE (R252). -/
def execPortActive (p : Fin 2) (s : State) : Host.Outcome State Fault Refusal :=
  .next (s.portUpNow p.val)

/-- Symbol errors, silence or retry exhaustion take the port DOWN (R252). -/
def execLinkDown (p : Fin 2) (why : DownWhy) (s : State) : Host.Outcome State Fault Refusal :=
  .next (s.linkFalls p.val why)

/-- Port CMD RETRAIN clears errors and returns a FAULT port to DOWN (R252). -/
def execRetrain (m : Master) (p : Fin 2) (s : State) : Host.Outcome State Fault Refusal :=
  .next (s.portCmd m (Port.UTV_P_CMD p.val) 1 fun t => t.retrain p.val)

/-- An ACK retires acknowledged frames and returns credit (R250). -/
def execAckReceived (p : Fin 2) (hseq : BitVec 6) (credit : BitVec 16)
    (s : State) : Host.Outcome State Fault Refusal :=
  .next (s.ackIn p.val hseq.toNat credit)

/-- A NAK makes the sender resend from the oldest unacknowledged frame (R250). -/
def execNakReceived (p : Fin 2) (_hseq : BitVec 6) (s : State) : Host.Outcome State Fault Refusal :=
  .next (s.nakIn p.val true)

/-- 20 µs without ACK makes the sender resend in order (R250). -/
def execResendTimeout (p : Fin 2) (s : State) : Host.Outcome State Fault Refusal :=
  .next (s.nakIn p.val false)

/-- At a frame boundary with credit the port sends the next frame (R251). -/
def execEgressFrameSend (p : Fin 2) (s : State) : Host.Outcome State Fault Refusal :=
  .next (s.egressSend p.val)

/-- Every 64 ms an ACTIVE port repeats the delay measurement (R252). -/
def execDelayRemeasure (p : Fin 2) (units : BitVec 12) (s : State) : Host.Outcome State Fault Refusal :=
  .next (s.delayAgain p.val units)

/-- UTV_WAKE_CMD sends a 20 µs wake burst on the named ports (R271). -/
def execWakeBurstSend (m : Master) (v : Word) (s : State) : Host.Outcome State Fault Refusal :=
  .next (s.portCmd m (Port.UTV_WAKE_CMD) v fun t => t.wakeCmd v)

/-- The AON detector sees a wake burst and requests wake (R271). -/
def execUtvisWakeDetect (p : Fin 2) (s : State) : Host.Outcome State Fault Refusal :=
  .next (s.stackWake p.val)

/-! ## Frames -/

/-- A DATA frame is received, forwarded or committed to its queue (R254). -/
def execDataFrame (p : Fin 2) (f : UFrame) (s : State) : Host.Outcome State Fault Refusal :=
  .next (s.frameOfType 0 p.val f)

/-- A helper's COPY frame arrives for copy selection (R264). -/
def execCopyFrame (p : Fin 2) (f : UFrame) (s : State) : Host.Outcome State Fault Refusal :=
  .next (s.frameOfType 1 p.val f)

/-- The hold of a failed own packet ends and the best copy is chosen (R264). -/
def execCopyHoldEnd (ctx : BitVec 14) (s : State) : Host.Outcome State Fault Refusal :=
  .next (s.holdEnd ctx.toNat)

/-- A SHADOW record is applied to a standby or helper context (R266). -/
def execShadowFrame (p : Fin 2) (f : UFrame) (s : State) : Host.Outcome State Fault Refusal :=
  .next (s.frameOfType 2 p.val f)

/-- A MIRROR frame is committed to the standby TXQ (R266). -/
def execMirrorFrame (p : Fin 2) (f : UFrame) (s : State) : Host.Outcome State Fault Refusal :=
  .next (s.frameOfType 3 p.val f)

/-- Every 1 ms the masthead sends SYNC_MARK and SYNC on both ports (R256). -/
def execSyncSend (s : State) : Host.Outcome State Fault Refusal :=
  .next (s.syncOut)

/-- A member takes a SYNC_MARK and passes it on (R256). -/
def execSyncMarkReceived (p : Fin 2) (s : State) : Host.Outcome State Fault Refusal :=
  .next (s.markIn p.val)

/-- A member takes a SYNC frame and follows the masthead's time (R257). -/
def execSyncFrame (p : Fin 2) (f : UFrame) (s : State) : Host.Outcome State Fault Refusal :=
  .next (s.syncIn p.val f)

/-- The masthead receives a LOAD frame and updates presence and scores (R259). -/
def execLoadFrame (p : Fin 2) (f : UFrame) (s : State) : Host.Outcome State Fault Refusal :=
  .next (s.frameOfType 5 p.val f)

/-! ## Roles, handover and helpers -/

/-- No sync for 3 periods puts a member in HOLDOVER (R257). -/
def execSyncLoss (s : State) : Host.Outcome State Fault Refusal :=
  .next (s.holdover)

/-- Position 1 takes the masthead role after missing syncs (R255). -/
def execReliefTakeover (s : State) : Host.Outcome State Fault Refusal :=
  .next (s.reliefActs)

/-- Position 0 takes the masthead role, 3 ms after its port went ACTIVE without a SYNC that carries RELIEF 1 (R255).
-/
def execMastheadRoleTaken (s : State) : Host.Outcome State Fault Refusal :=
  .next (s.mastheadActs)

/-- A shadowing owner without sync for 2 periods fences itself (R260). -/
def execOwnerFence (s : State) : Host.Outcome State Fault Refusal :=
  .next (s.fence)

/-- UTV_MAST_CMD 1 hands the masthead role back to position 0 (R255). -/
def execHandback (m : Master) (s : State) : Host.Outcome State Fault Refusal :=
  .next (s.portCmd m (Port.UTV_MAST_CMD) 1 fun t => t.handBackCmd)

/-- UTV_SH_CMD 1 starts a planned handover of every shadowed context (R269). -/
def execHandover (m : Master) (s : State) : Host.Outcome State Fault Refusal :=
  .next (s.portCmd m (Port.UTV_SH_CMD) 1 fun t => t.handOver)

/-- Every FINAL is acknowledged and BUSY clears (R269). -/
def execHandoverDone (s : State) : Host.Outcome State Fault Refusal :=
  .next (s.handOverDone)

/-- A helper starts a lane-only listen for an owner's event (R263). -/
def execHelperListenStart (ctx : BitVec 14) (s : State) : Host.Outcome State Fault Refusal :=
  .next (s.helperStart ctx.toNat)

/-- A helper's lane-only listen ends at NEXT_ANCHOR plus EVLEN, or at the next record, and its lane is freed (R263).
-/
def execHelperListenEnd (ctx : BitVec 14) (s : State) : Host.Outcome State Fault Refusal :=
  .next (s.helperEnd ctx.toNat)

end Sys2Proof.Machine
end

