-- ==== Sys2Proof/Machine/Dispatch.lean ====
section
/-! DEFINITION. The dispatch: one arm per command of the table, each one direct call of its meaning. -/

namespace Sys2Proof.Machine

open Sys2Proof

/-- The effect of a command on everything but the queue. -/
def exec (i : Instr) (s : State) : Host.Outcome State Fault Refusal :=
  match i with
  | .registerWrite m port v => Sys2Proof.Machine.execRegisterWrite m port v s
  | .readClear m port => Sys2Proof.Machine.execReadClear m port s
  | .multiwordRead m port => Sys2Proof.Machine.execMultiwordRead m port s
  | .coldReset cause bootSel stackId => Sys2Proof.Machine.execColdReset cause bootSel stackId s
  | .systemReset cause bootSel stackId => Sys2Proof.Machine.execSystemReset cause bootSel stackId s
  | .applicationGroupReset cause => Sys2Proof.Machine.execApplicationGroupReset cause s
  | .linkGroupReset cause => Sys2Proof.Machine.execLinkGroupReset cause s
  | .domainReset d cause => Sys2Proof.Machine.execDomainReset d cause s
  | .bootRomRun nor0 nor1 => Sys2Proof.Machine.execBootRomRun nor0 nor1 s
  | .rigReady  => Sys2Proof.Machine.execRigReady  s
  | .liveFragmentCheck m => Sys2Proof.Machine.execLiveFragmentCheck m s
  | .liveFragmentApply  => Sys2Proof.Machine.execLiveFragmentApply  s
  | .clipEvent c => Sys2Proof.Machine.execClipEvent c s
  | .attStepDown c => Sys2Proof.Machine.execAttStepDown c s
  | .chainCalStart c => Sys2Proof.Machine.execChainCalStart c s
  | .chainCalDone c skew => Sys2Proof.Machine.execChainCalDone c skew s
  | .samplingPllUnlock  => Sys2Proof.Machine.execSamplingPllUnlock  s
  | .samplingPllRelock  => Sys2Proof.Machine.execSamplingPllRelock  s
  | .bgCalPeriod c => Sys2Proof.Machine.execBgCalPeriod c s
  | .bgCalApply c skew => Sys2Proof.Machine.execBgCalApply c skew s
  | .bgCalForce c skew => Sys2Proof.Machine.execBgCalForce c skew s
  | .rxcFullCal m c => Sys2Proof.Machine.execRxcFullCal m c s
  | .rxcBgApplyCmd m c => Sys2Proof.Machine.execRxcBgApplyCmd m c s
  | .laneStart m l => Sys2Proof.Machine.execLaneStart m l s
  | .laneStop m l => Sys2Proof.Machine.execLaneStop m l s
  | .laneClaim m l => Sys2Proof.Machine.execLaneClaim m l s
  | .laneRelease m l => Sys2Proof.Machine.execLaneRelease m l s
  | .laneTest m l => Sys2Proof.Machine.execLaneTest m l s
  | .laneTestDone l pass => Sys2Proof.Machine.execLaneTestDone l pass s
  | .laneFillDone l => Sys2Proof.Machine.execLaneFillDone l s
  | .syncMatch l sync ts meas => Sys2Proof.Machine.execSyncMatch l sync ts meas s
  | .lengthFieldReceived l air => Sys2Proof.Machine.execLengthFieldReceived l air s
  | .packetEnd l air crc => Sys2Proof.Machine.execPacketEnd l air crc s
  | .blankingStart t => Sys2Proof.Machine.execBlankingStart t s
  | .blankingEnd t => Sys2Proof.Machine.execBlankingEnd t s
  | .laneFaultDetect l kind => Sys2Proof.Machine.execLaneFaultDetect l kind s
  | .laneReportRead m l => Sys2Proof.Machine.execLaneReportRead m l s
  | .watchDetection gridW bin phy => Sys2Proof.Machine.execWatchDetection gridW bin phy s
  | .watchNomatchRelease l => Sys2Proof.Machine.execWatchNomatchRelease l s
  | .watchEntryApply m e v => Sys2Proof.Machine.execWatchEntryApply m e v s
  | .txRequest q pcode wait => Sys2Proof.Machine.execTxRequest q pcode wait s
  | .tuneStart t => Sys2Proof.Machine.execTuneStart t s
  | .synthLock t => Sys2Proof.Machine.execSynthLock t s
  | .rampUpStart t => Sys2Proof.Machine.execRampUpStart t s
  | .txFirstBit t => Sys2Proof.Machine.execTxFirstBit t s
  | .txLastBit t => Sys2Proof.Machine.execTxLastBit t s
  | .rampDownEnd t => Sys2Proof.Machine.execRampDownEnd t s
  | .txSkipLate t => Sys2Proof.Machine.execTxSkipLate t s
  | .lossOfLock t => Sys2Proof.Machine.execLossOfLock t s
  | .keepExpiry t => Sys2Proof.Machine.execKeepExpiry t s
  | .synthCalStart t => Sys2Proof.Machine.execSynthCalStart t s
  | .synthCalYield t => Sys2Proof.Machine.execSynthCalYield t s
  | .synthCalResume t => Sys2Proof.Machine.execSynthCalResume t s
  | .synthCalDone t => Sys2Proof.Machine.execSynthCalDone t s
  | .txcMustRunCal m t => Sys2Proof.Machine.execTxcMustRunCal m t s
  | .txcPendingCal m t => Sys2Proof.Machine.execTxcPendingCal m t s
  | .testStart m t => Sys2Proof.Machine.execTestStart m t s
  | .testStop m t => Sys2Proof.Machine.execTestStop m t s
  | .insert m => Sys2Proof.Machine.execInsert m s
  | .remove m => Sys2Proof.Machine.execRemove m s
  | .update m => Sys2Proof.Machine.execUpdate m s
  | .eventSetup ctx => Sys2Proof.Machine.execEventSetup ctx s
  | .contextLoad q => Sys2Proof.Machine.execContextLoad q s
  | .followerListenStart q => Sys2Proof.Machine.execFollowerListenStart q s
  | .listenTimeout q => Sys2Proof.Machine.execListenTimeout q s
  | .responseWindowExpiry q => Sys2Proof.Machine.execResponseWindowExpiry q s
  | .closeTime q => Sys2Proof.Machine.execCloseTime q s
  | .eventClose q => Sys2Proof.Machine.execEventClose q s
  | .supervisionTimeout ctx => Sys2Proof.Machine.execSupervisionTimeout ctx s
  | .seqFaultDetect q kind => Sys2Proof.Machine.execSeqFaultDetect q kind s
  | .seqTest m q => Sys2Proof.Machine.execSeqTest m q s
  | .seqTestDone q pass => Sys2Proof.Machine.execSeqTestDone q pass s
  | .joinWindowStart q => Sys2Proof.Machine.execJoinWindowStart q s
  | .joinWindowEnd q => Sys2Proof.Machine.execJoinWindowEnd q s
  | .sniffRestore e => Sys2Proof.Machine.execSniffRestore e s
  | .sniffWindowStart e => Sys2Proof.Machine.execSniffWindowStart e s
  | .sniffListenEnd  => Sys2Proof.Machine.execSniffListenEnd  s
  | .sniffWindowEnd  => Sys2Proof.Machine.execSniffWindowEnd  s
  | .ledgerSlotBoundary b => Sys2Proof.Machine.execLedgerSlotBoundary b s
  | .ledgerClear m => Sys2Proof.Machine.execLedgerClear m s
  | .horizonEntry ctx => Sys2Proof.Machine.execHorizonEntry ctx s
  | .contextSwapDone ctx => Sys2Proof.Machine.execContextSwapDone ctx s
  | .packetCommit l => Sys2Proof.Machine.execPacketCommit l s
  | .drainMarker l ctx epoch => Sys2Proof.Machine.execDrainMarker l ctx epoch s
  | .drainTimeout ctx epoch => Sys2Proof.Machine.execDrainTimeout ctx epoch s
  | .lookup m => Sys2Proof.Machine.execLookup m s
  | .belay m => Sys2Proof.Machine.execBelay m s
  | .unbelay m => Sys2Proof.Machine.execUnbelay m s
  | .spillBurst  => Sys2Proof.Machine.execSpillBurst  s
  | .refillBurst  => Sys2Proof.Machine.execRefillBurst  s
  | .placeRequest m => Sys2Proof.Machine.execPlaceRequest m s
  | .placeAnswer result device => Sys2Proof.Machine.execPlaceAnswer result device s
  | .placeTimeout  => Sys2Proof.Machine.execPlaceTimeout  s
  | .openW m => Sys2Proof.Machine.execOpenW m s
  | .enqueue m => Sys2Proof.Machine.execEnqueue m s
  | .abort m => Sys2Proof.Machine.execAbort m s
  | .dequeue m => Sys2Proof.Machine.execDequeue m s
  | .peek m => Sys2Proof.Machine.execPeek m s
  | .dropRem m => Sys2Proof.Machine.execDropRem m s
  | .forward m => Sys2Proof.Machine.execForward m s
  | .flush m => Sys2Proof.Machine.execFlush m s
  | .deferredQueueCommand m => Sys2Proof.Machine.execDeferredQueueCommand m s
  | .wdataWrite m v => Sys2Proof.Machine.execWdataWrite m v s
  | .rdataRead m => Sys2Proof.Machine.execRdataRead m s
  | .hdrWrite m xi v => Sys2Proof.Machine.execHdrWrite m xi v s
  | .ieWrite m g v => Sys2Proof.Machine.execIeWrite m g v s
  | .audit m => Sys2Proof.Machine.execAudit m s
  | .auditDone  => Sys2Proof.Machine.execAuditDone  s
  | .tailIdleExpiry q => Sys2Proof.Machine.execTailIdleExpiry q s
  | .openPacketFetch m => Sys2Proof.Machine.execOpenPacketFetch m s
  | .dramReclaim  => Sys2Proof.Machine.execDramReclaim  s
  | .dmcFreeze cause port groups block tag => Sys2Proof.Machine.execDmcFreeze cause port groups block tag s
  | .resume m => Sys2Proof.Machine.execResume m s
  | .symbolLock p => Sys2Proof.Machine.execSymbolLock p s
  | .delayMeasured p units => Sys2Proof.Machine.execDelayMeasured p units s
  | .helloFrame p f => Sys2Proof.Machine.execHelloFrame p f s
  | .portActive p => Sys2Proof.Machine.execPortActive p s
  | .linkDown p why => Sys2Proof.Machine.execLinkDown p why s
  | .retrain m p => Sys2Proof.Machine.execRetrain m p s
  | .ackReceived p hseq credit => Sys2Proof.Machine.execAckReceived p hseq credit s
  | .nakReceived p hseq => Sys2Proof.Machine.execNakReceived p hseq s
  | .resendTimeout p => Sys2Proof.Machine.execResendTimeout p s
  | .egressFrameSend p => Sys2Proof.Machine.execEgressFrameSend p s
  | .dataFrame p f => Sys2Proof.Machine.execDataFrame p f s
  | .copyFrame p f => Sys2Proof.Machine.execCopyFrame p f s
  | .copyHoldEnd ctx => Sys2Proof.Machine.execCopyHoldEnd ctx s
  | .shadowFrame p f => Sys2Proof.Machine.execShadowFrame p f s
  | .mirrorFrame p f => Sys2Proof.Machine.execMirrorFrame p f s
  | .syncSend  => Sys2Proof.Machine.execSyncSend  s
  | .syncMarkReceived p => Sys2Proof.Machine.execSyncMarkReceived p s
  | .syncFrame p f => Sys2Proof.Machine.execSyncFrame p f s
  | .loadFrame p f => Sys2Proof.Machine.execLoadFrame p f s
  | .syncLoss  => Sys2Proof.Machine.execSyncLoss  s
  | .reliefTakeover  => Sys2Proof.Machine.execReliefTakeover  s
  | .ownerFence  => Sys2Proof.Machine.execOwnerFence  s
  | .handback m => Sys2Proof.Machine.execHandback m s
  | .handover m => Sys2Proof.Machine.execHandover m s
  | .handoverDone  => Sys2Proof.Machine.execHandoverDone  s
  | .helperListenStart ctx => Sys2Proof.Machine.execHelperListenStart ctx s
  | .delayRemeasure p units => Sys2Proof.Machine.execDelayRemeasure p units s
  | .wakeBurstSend m v => Sys2Proof.Machine.execWakeBurstSend m v s
  | .utvisWakeDetect p => Sys2Proof.Machine.execUtvisWakeDetect p s
  | .shortPair c op1 op2 cond => Sys2Proof.Machine.execShortPair c op1 op2 cond s
  | .add c rd ra rb => Sys2Proof.Machine.execAdd c rd ra rb s
  | .sub c rd ra rb => Sys2Proof.Machine.execSub c rd ra rb s
  | .adc c rd ra rb => Sys2Proof.Machine.execAdc c rd ra rb s
  | .sbc c rd ra rb => Sys2Proof.Machine.execSbc c rd ra rb s
  | .and c rd ra rb => Sys2Proof.Machine.execAnd c rd ra rb s
  | .or c rd ra rb => Sys2Proof.Machine.execOr c rd ra rb s
  | .xor c rd ra rb => Sys2Proof.Machine.execXor c rd ra rb s
  | .shi c rd kind n => Sys2Proof.Machine.execShi c rd kind n s
  | .shv c rd kind rb => Sys2Proof.Machine.execShv c rd kind rb s
  | .mul c rd ra rb => Sys2Proof.Machine.execMul c rd ra rb s
  | .mulx c rd ra rb => Sys2Proof.Machine.execMulx c rd ra rb s
  | .addi c rd imm => Sys2Proof.Machine.execAddi c rd imm s
  | .movi c rd imm => Sys2Proof.Machine.execMovi c rd imm s
  | .cmp c cond ra rb => Sys2Proof.Machine.execCmp c cond ra rb s
  | .cmpi c ra imm => Sys2Proof.Machine.execCmpi c ra imm s
  | .ld c rd ra n => Sys2Proof.Machine.execLd c rd ra n s
  | .st c rs ra n => Sys2Proof.Machine.execSt c rs ra n s
  | .lda c r ra abs off => Sys2Proof.Machine.execLda c r ra abs off s
  | .sta c r ra abs off => Sys2Proof.Machine.execSta c r ra abs off s
  | .ldc c rd ra n => Sys2Proof.Machine.execLdc c rd ra n s
  | .inp c rd ra idx port => Sys2Proof.Machine.execInp c rd ra idx port s
  | .out c rs ra idx port => Sys2Proof.Machine.execOut c rs ra idx port s
  | .b c cond off => Sys2Proof.Machine.execB c cond off s
  | .dbnz c rd off => Sys2Proof.Machine.execDbnz c rd off s
  | .crd c r cr => Sys2Proof.Machine.execCrd c r cr s
  | .cwr c r cr => Sys2Proof.Machine.execCwr c r cr s
  | .movw c rd imm => Sys2Proof.Machine.execMovw c rd imm s
  | .reservedMajor c w0 w1 => Sys2Proof.Machine.execReservedMajor c w0 w1 s
  | .nop c => Sys2Proof.Machine.execNop c s
  | .wait c => Sys2Proof.Machine.execWait c s
  | .waitWake c => Sys2Proof.Machine.execWaitWake c s
  | .reti c => Sys2Proof.Machine.execReti c s
  | .trap c n => Sys2Proof.Machine.execTrap c n s
  | .brk c => Sys2Proof.Machine.execBrk c s
  | .fence c => Sys2Proof.Machine.execFence c s
  | .ei c => Sys2Proof.Machine.execEi c s
  | .di c => Sys2Proof.Machine.execDi c s
  | .sett c => Sys2Proof.Machine.execSett c s
  | .clrt c => Sys2Proof.Machine.execClrt c s
  | .jmp c ra => Sys2Proof.Machine.execJmp c ra s
  | .call c ra => Sys2Proof.Machine.execCall c ra s
  | .jmpl c addr => Sys2Proof.Machine.execJmpl c addr s
  | .calll c addr => Sys2Proof.Machine.execCalll c addr s
  | .ret c => Sys2Proof.Machine.execRet c s
  | .unaryMov c rd ra => Sys2Proof.Machine.execUnaryMov c rd ra s
  | .not c rd ra => Sys2Proof.Machine.execNot c rd ra s
  | .neg c rd ra => Sys2Proof.Machine.execNeg c rd ra s
  | .swn c rd ra => Sys2Proof.Machine.execSwn c rd ra s
  | .sxn c rd ra => Sys2Proof.Machine.execSxn c rd ra s
  | .zxn c rd ra => Sys2Proof.Machine.execZxn c rd ra s
  | .clz c rd ra => Sys2Proof.Machine.execClz c rd ra s
  | .tnz c ra => Sys2Proof.Machine.execTnz c ra s
  | .interruptEntry c => Sys2Proof.Machine.execInterruptEntry c s
  | .halt m c => Sys2Proof.Machine.execHalt m c s
  | .run m c => Sys2Proof.Machine.execRun m c s
  | .step m c w0 w1 => Sys2Proof.Machine.execStep m c w0 w1 s
  | .stepMask m c w0 w1 => Sys2Proof.Machine.execStepMask m c w0 w1 s
  | .breakpointHalt c => Sys2Proof.Machine.execBreakpointHalt c s
  | .scrubStep  => Sys2Proof.Machine.execScrubStep  s
  | .flashUnlockCycle c win off v => Sys2Proof.Machine.execFlashUnlockCycle c win off v s
  | .programWord c win off d => Sys2Proof.Machine.execProgramWord c win off d s
  | .programRow c win off d0 d1 d2 d3 => Sys2Proof.Machine.execProgramRow c win off d0 d1 d2 d3 s
  | .eraseSector c win off => Sys2Proof.Machine.execEraseSector c win off s
  | .abandon c win off => Sys2Proof.Machine.execAbandon c win off s
  | .flashOpStart  => Sys2Proof.Machine.execFlashOpStart  s
  | .flashOpDone ok => Sys2Proof.Machine.execFlashOpDone ok s
  | .eraseSuspend  => Sys2Proof.Machine.execEraseSuspend  s
  | .eraseResume  => Sys2Proof.Machine.execEraseResume  s
  | .journalScanDone  => Sys2Proof.Machine.execJournalScanDone  s
  | .apertureTimeout c => Sys2Proof.Machine.execApertureTimeout c s
  | .powerup m => Sys2Proof.Machine.execPowerup m s
  | .powerupDone  => Sys2Proof.Machine.execPowerupDone  s
  | .trained m => Sys2Proof.Machine.execTrained m s
  | .wipeDone  => Sys2Proof.Machine.execWipeDone  s
  | .selfRefreshEntry  => Sys2Proof.Machine.execSelfRefreshEntry  s
  | .dramRequestStart  => Sys2Proof.Machine.execDramRequestStart  s
  | .dramAccessDone  => Sys2Proof.Machine.execDramAccessDone  s
  | .refreshDue  => Sys2Proof.Machine.execRefreshDue  s
  | .dramPeriodicCal mr4 mr8 drifted => Sys2Proof.Machine.execDramPeriodicCal mr4 mr8 drifted s
  | .zqCalibration  => Sys2Proof.Machine.execZqCalibration  s
  | .dramRetrain  => Sys2Proof.Machine.execDramRetrain  s
  | .dramScrubStep  => Sys2Proof.Machine.execDramScrubStep  s
  | .mrw m => Sys2Proof.Machine.execMrw m s
  | .mrr m => Sys2Proof.Machine.execMrr m s
  | .mpc m => Sys2Proof.Machine.execMpc m s
  | .cbt m => Sys2Proof.Machine.execCbt m s
  | .wlev m => Sys2Proof.Machine.execWlev m s
  | .rdq m => Sys2Proof.Machine.execRdq m s
  | .fifo m => Sys2Proof.Machine.execFifo m s
  | .check m => Sys2Proof.Machine.execCheck m s
  | .trainingHelperDone res => Sys2Proof.Machine.execTrainingHelperDone res s
  | .dramPllUnlock  => Sys2Proof.Machine.execDramPllUnlock  s
  | .cipherJob m => Sys2Proof.Machine.execCipherJob m s
  | .cipherJobRun  => Sys2Proof.Machine.execCipherJobRun  s
  | .cipherJobEnd  => Sys2Proof.Machine.execCipherJobEnd  s
  | .load m => Sys2Proof.Machine.execLoad m s
  | .clear m => Sys2Proof.Machine.execClear m s
  | .derive m => Sys2Proof.Machine.execDerive m s
  | .exportKey m => Sys2Proof.Machine.execExportKey m s
  | .hash m => Sys2Proof.Machine.execHash m s
  | .crc m => Sys2Proof.Machine.execCrc m s
  | .ecdsa m => Sys2Proof.Machine.execEcdsa m s
  | .verifyDone  => Sys2Proof.Machine.execVerifyDone  s
  | .transition m => Sys2Proof.Machine.execTransition m s
  | .transitionComplete  => Sys2Proof.Machine.execTransitionComplete  s
  | .fuseOkh m => Sys2Proof.Machine.execFuseOkh m s
  | .arm m => Sys2Proof.Machine.execArm m s
  | .armDone  => Sys2Proof.Machine.execArmDone  s
  | .activationDone c => Sys2Proof.Machine.execActivationDone c s
  | .checkin m => Sys2Proof.Machine.execCheckin m s
  | .trialExpiry c => Sys2Proof.Machine.execTrialExpiry c s
  | .status addr wc h1 => Sys2Proof.Machine.execStatus addr wc h1 s
  | .write addr wc h1 data => Sys2Proof.Machine.execWrite addr wc h1 data s
  | .writeFixed addr wc h1 data => Sys2Proof.Machine.execWriteFixed addr wc h1 data s
  | .readPost addr wc h1 => Sys2Proof.Machine.execReadPost addr wc h1 s
  | .readPostFixed addr wc h1 => Sys2Proof.Machine.execReadPostFixed addr wc h1 s
  | .bell addr wc h1 => Sys2Proof.Machine.execBell addr wc h1 s
  | .push addr wc h1 data => Sys2Proof.Machine.execPush addr wc h1 data s
  | .pull addr wc h1 => Sys2Proof.Machine.execPull addr wc h1 s
  | .badCmd addr cmd wc h1 => Sys2Proof.Machine.execBadCmd addr cmd wc h1 s
  | .frameCut addr cmd wc h1 inHeader data => Sys2Proof.Machine.execFrameCut addr cmd wc h1 inHeader data s
  | .writeBufferDrain  => Sys2Proof.Machine.execWriteBufferDrain  s
  | .postedSample  => Sys2Proof.Machine.execPostedSample  s
  | .comparatorMatch addr => Sys2Proof.Machine.execComparatorMatch addr s
  | .hirqSet m v => Sys2Proof.Machine.execHirqSet m v s
  | .psmStart m x => Sys2Proof.Machine.execPsmStart m x s
  | .psmAbort m x => Sys2Proof.Machine.execPsmAbort m x s
  | .psmRelease m x => Sys2Proof.Machine.execPsmRelease m x s
  | .psmFlush m x => Sys2Proof.Machine.execPsmFlush m x s
  | .txdPush m x v => Sys2Proof.Machine.execTxdPush m x v s
  | .rxdPop m x => Sys2Proof.Machine.execRxdPop m x s
  | .psmUnitDone x rx => Sys2Proof.Machine.execPsmUnitDone x rx s
  | .psmFrameDone x => Sys2Proof.Machine.execPsmFrameDone x s
  | .enterReef1 m => Sys2Proof.Machine.execEnterReef1 m s
  | .enterReef2 m => Sys2Proof.Machine.execEnterReef2 m s
  | .enterReef3 m => Sys2Proof.Machine.execEnterReef3 m s
  | .enterFurl m => Sys2Proof.Machine.execEnterFurl m s
  | .pwrCancel m => Sys2Proof.Machine.execPwrCancel m s
  | .entryQuietReached  => Sys2Proof.Machine.execEntryQuietReached  s
  | .entryCoresWaiting  => Sys2Proof.Machine.execEntryCoresWaiting  s
  | .wakeRequest src => Sys2Proof.Machine.execWakeRequest src s
  | .domainRelease d => Sys2Proof.Machine.execDomainRelease d s
  | .domOffHold m v => Sys2Proof.Machine.execDomOffHold m v s
  | .residencyClear m => Sys2Proof.Machine.execResidencyClear m s
  | .refclkLoss  => Sys2Proof.Machine.execRefclkLoss  s
  | .systemPllUnlock  => Sys2Proof.Machine.execSystemPllUnlock  s
  | .wdgKick m c v => Sys2Proof.Machine.execWdgKick m c v s
  | .wdgWarnLevel c => Sys2Proof.Machine.execWdgWarnLevel c s
  | .wdgExpiry c => Sys2Proof.Machine.execWdgExpiry c s
  | .sluiceGrant  => Sys2Proof.Machine.execSluiceGrant  s
  | .sluiceAging a => Sys2Proof.Machine.execSluiceAging a s
  | .tempSample temp vpaS vpaW => Sys2Proof.Machine.execTempSample temp vpaS vpaW s
  | .fmcMeasure m => Sys2Proof.Machine.execFmcMeasure m s
  | .fmcDone err => Sys2Proof.Machine.execFmcDone err s
  | .eventRaise p => Sys2Proof.Machine.execEventRaise p s
  | .taskAction t => Sys2Proof.Machine.execTaskAction t s
  | .guardWindowClose ch => Sys2Proof.Machine.execGuardWindowClose ch s
  | .evSw m v => Sys2Proof.Machine.execEvSw m v s
  | .timerTick n => Sys2Proof.Machine.execTimerTick n s
  | .timStart m n => Sys2Proof.Machine.execTimStart m n s
  | .timStop m n => Sys2Proof.Machine.execTimStop m n s
  | .timClear m n => Sys2Proof.Machine.execTimClear m n s
  | .periodWrite m n v => Sys2Proof.Machine.execPeriodWrite m n v s
  | .ccWrite m n k v => Sys2Proof.Machine.execCcWrite m n k v s
  | .ccRead m n k => Sys2Proof.Machine.execCcRead m n k s
  | .rtcSecond  => Sys2Proof.Machine.execRtcSecond  s
  | .commit m => Sys2Proof.Machine.execCommit m s
  | .commitApply  => Sys2Proof.Machine.execCommitApply  s
  | .clearStamp m => Sys2Proof.Machine.execClearStamp m s
  | .discard m => Sys2Proof.Machine.execDiscard m s
  | .rtcSecRead m => Sys2Proof.Machine.execRtcSecRead m s
  | .snapshotExpiry m => Sys2Proof.Machine.execSnapshotExpiry m s
  | .backupSwitchover late => Sys2Proof.Machine.execBackupSwitchover late s
  | .rtcclkStop  => Sys2Proof.Machine.execRtcclkStop  s
  | .bkdSupplyLow  => Sys2Proof.Machine.execBkdSupplyLow  s
  | .gpioEdge g rise => Sys2Proof.Machine.execGpioEdge g rise s
  | .gpioSet m k v => Sys2Proof.Machine.execGpioSet m k v s
  | .gpioClr m k v => Sys2Proof.Machine.execGpioClr m k v s
  | .gpioTog m k v => Sys2Proof.Machine.execGpioTog m k v s
  | .tapReset  => Sys2Proof.Machine.execTapReset  s
  | .extest scanIn => Sys2Proof.Machine.execExtest scanIn s
  | .samplePreload balls scanIn => Sys2Proof.Machine.execSamplePreload balls scanIn s
  | .idcode  => Sys2Proof.Machine.execIdcode  s
  | .debug writing port v => Sys2Proof.Machine.execDebug writing port v s
  | .bypass bit => Sys2Proof.Machine.execBypass bit s
  | .refclkReturn bootSel stackId => Sys2Proof.Machine.execRefclkReturn bootSel stackId s
  | .mastheadRoleTaken  => Sys2Proof.Machine.execMastheadRoleTaken  s
  | .helperListenEnd ctx => Sys2Proof.Machine.execHelperListenEnd ctx s
  | .lenoverAirTimePassed l => Sys2Proof.Machine.execLenoverAirTimePassed l s
  | .chzscrubDone  => Sys2Proof.Machine.execChzscrubDone  s

end Sys2Proof.Machine
end

