-- ==== Sys2Proof/Machine/Idle.lean ====
section
/-! DEFINITION. What an empty queue does: one LNKCLK period, 62.5 ns, passes (DESIGN CHOICE, log entry
2).  What the spec ties to the mere passing of time happens here: link time, its milliseconds, the cycle counters, the RTC's divider, the residency
counters, the watchdogs' remaining time, the temperature sensor's requests and unit occupancy.  Everything that the
opcode table lists as a row of its own waits for its command. -/

namespace Sys2Proof.Machine

open Sys2Proof

/-- Link time one tick on: the frequency trim, and slewing at no more than SLEW ppm, skip or add single ticks (R104, R257).
(DESIGN CHOICE, log entry 121.) -/
def State.linkTick (s : State) : State :=
  let rate := max 1 (min 50 (s.getF Port.UTV_TCFG 17 12))
  let due := decide (s.utv.slew ≠ 0) && decide (1000000 ≤ (s.utv.slewAcc + 1) * rate)
  let phase : Int := if due then (if 0 < s.utv.slew then -1 else 1) else 0
  let acc := if s.utv.slew = 0 ∨ due then 0 else s.utv.slewAcc + 1
  let sum := s.utv.trimAcc + s.utv.trim
  let freq : Int := if 1000000000 ≤ sum then 1 else if sum ≤ -1000000000 then -1 else 0
  let by_ := (1 + phase + freq).toNat
  { s with time := { s.time with link := s.time.link + BitVec.ofNat 54 by_, led := s.time.led + by_ },
           utv := { s.utv with slew := s.utv.slew + phase, slewAcc := acc, trimAcc := sum - freq * 1000000000 } }

/-- Units that are busy now, and those that count: active sequencers and link lanes (R199). -/
def State.unitsBusy (s : State) : Nat × Nat :=
  let q := (List.range 16).filter fun q => decide (s.getF (Port.SEQ_STAT q) 17 15 = 1)
  let l := (List.range 64).filter fun l => decide (s.laneRole l = 1)
  ((q.filter fun q => (s.event q).isSome).length + (l.filter fun l => decide (s.laneState l ≠ 0)).length,
   q.length + l.length)

/-- Occupancy accumulates over a millisecond, and OCC shows the last one (R199).  (DEDUCED, log entry 116.) -/
def State.occTick (s : State) (msEnd : Bool) : State :=
  let u := s.unitsBusy
  let n := s.trim.occAcc + u.1
  if msEnd then
    let t := if u.2 = 0 ∨ s.domOn 2 = false then s else s.setF Port.TRM_LOAD 11 6 (min 63 (n * 63 / (16000 * u.2)))
    { t with trim := { t.trim with occAcc := 0 } }
  else { s with trim := { s.trim with occAcc := n } }

/-- A core's CYCLE counts 12.5 CORECLK cycles a tick while its clock runs and it is not halted (R292).  (DESIGN
CHOICE, log entry 34.) -/
def State.cycleTick (s : State) (c : Core) : State :=
  let x := s.core c
  if s.domOn c.num && !x.inReset && !x.halted && !x.gated then
    s.setCore c { x with cycle := x.cycle + (if s.time.coreHalf then 13 else 12) }
  else s

/-- One RTCCLK edge: residency (R396), timers on RTCCLK (R424), and the divider with its trim (R434, R438), which waits at
its last count for the wrap. -/
def State.rtcEdge (s : State) : State :=
  let r := Port.PWR_RES (2 * s.level)
  let t := s.setWide r 2 ((s.getWide r 2 + 1) % 2 ^ 36)
  let acc := t.time.rtcTrimAcc + signed 9 (t.getF Port.RTC_TRIM 8 0)
  let by_ : Nat := if 8000000 ≤ acc then 2 else if acc ≤ -8000000 then 0 else 1
  let left : Int := if 8000000 ≤ acc then acc - 8000000 else if acc ≤ -8000000 then acc + 8000000 else acc
  (({ t with time := { t.time with rtcTrimAcc := left, rtcEdges := t.time.rtcEdges + 1 } }).set Port.RTC_SUB
    (BitVec.ofNat 18 (min 32767 ((t.get Port.RTC_SUB).toNat + by_)))).timsPass 2 512

/-- RTCCLK runs on its own crystal: 32,768 edges in 16,000,000 ticks. -/
def State.rtcTick (s : State) : State :=
  if s.time.rtcRunning = false then s else
  let n := s.time.rtcAcc + 32768
  if 16000000 ≤ n then ({ s with time := { s.time with rtcAcc := n - 16000000 } }).rtcEdge
  else { s with time := { s.time with rtcAcc := n } }

/-- A millisecond of real time: the watchdogs count (R403), and every PERIOD ms the temperature sensor, while clocked, asks
for its grant (R386, R411). -/
def State.wallMs (s : State) : State :=
  let t := (s.wdgTick 0).wdgTick 1
  let per := max 1 (t.getF Port.CAL_TCFG 11 0)
  if t.mntClocked ∧ t.time.stopped = false ∧ t.time.wall / 16000 % per = 0 then t.sluiceAsk Act.temp else t

/-- The cores' cycle counters over one tick. -/
def State.cyclesTick (s : State) : State :=
  let v := (s.cycleTick .apc).cycleTick .lkc
  { v with time := { v.time with coreHalf := !s.time.coreHalf } }

/-- Link time has come to a millisecond between two states. -/
def linkMsPassed (s t : State) : Bool := !(t.time.link.toNat / 16000 == s.time.link.toNat / 16000)

/-- The link millisecond's producer (R421), and domains held off that have become quiet (R389). -/
def State.msTick (s : State) (ms : Bool) : State :=
  let x := if ms then (s.raiseProducer Ev.linkMs).takeBack.noteLosses else s
  if x.level ≤ 2 ∧ x.phase = 0 then x.holdsApply else x

/-- Cycles of SYSCLK, LNKCLK and REFCLK / 8 that pass in a tick: 6.25, 1 and 0.25 (R424). -/
def State.timersTick (s : State) : State := ((s.timsPass 0 3200).timsPass 1 512).timsPass 3 128

/-- What passes while REFCLK runs. -/
def State.refTick (s : State) : State :=
  if s.time.stopped then s else
  let ms := linkMsPassed s s.linkTick
  (((((((s.linkTick.timerHolds).arriveTick).gapTick 0).gapTick 1).occTick ms).cyclesTick).timersTick).msTick ms

/-- One LNKCLK period passes. -/
def idleTick (s : State) : State :=
  let t := ({ s with time := { s.time with wall := s.time.wall + 1 } }).rtcTick
  let u := if t.time.wall % 16000 = 0 then t.wallMs else t
  u.refTick

end Sys2Proof.Machine
end

