-- ==== Sys2Proof/Safety.lean ====
section
/-! DEFINITION. The terms in which claims speak of the machine: what counts as a well-kept state, when a register answers
a master, and what a step may not undo. -/

namespace Sys2Proof.Machine

open Sys2Proof

/-- SRAM, flash, DRAM and their stored errors and tags are in canonical form: keys rising, no entry equal to what an
unlisted word reads as. -/
def Memory.wf (m : Mem) : Bool :=
  Cells.wf (fun _ => 0) m.sram && Cells.wf (fun _ => 0) m.sramErr && Cells.wf (fun _ => 0o777777) m.flash &&
    Cells.wf (fun _ => 0) m.flashErr && Cells.wf (fun _ => 0) m.dram && Cells.wf (fun _ => 0) m.dramTag &&
    Cells.wf (fun _ => 0) m.dramErr

/-- The memories and the register file are in canonical form. -/
def State.mapsWf (s : State) : Bool := Cells.wf coldOf s.regs && Memory.wf s.mem


/-- Source `n` is pending in a core (R287). -/
def State.isPending (s : State) (c : Core) (n : Nat) : Bool := (s.core c).ipend.getLsbD n

/-- A command is answered by a next state that meets `P`. -/
def Completes (i : Instr) (s : State) (P : State → Prop) : Prop := ∃ t, exec i s = .next t ∧ P t

/-- The parts of the state, for saying what a command leaves alone: its fields, with the pending bits of both cores
(`pends`) apart from everything else of them (`cores`).  Which free value comes next is no part. -/
inductive Part where
  | regs | latch | time | mem | fuses | rig | cores | pends | basin | lanes | rx | tx | link | trim | utv | flc | dmc
  | sec | host | psm | pwr | sluice | evf | tim | pins | queue
  deriving DecidableEq, Repr

/-- A part of `t` is that of `s`. -/
def Part.same (s t : State) : Part → Prop
  | .regs => t.regs = s.regs
  | .latch => t.latch = s.latch
  | .time => t.time = s.time
  | .mem => t.mem = s.mem
  | .fuses => t.fuses = s.fuses
  | .rig => t.rig = s.rig
  | .cores => t.apc = { s.apc with ipend := t.apc.ipend } ∧ t.lkc = { s.lkc with ipend := t.lkc.ipend }
  | .pends => t.apc.ipend = s.apc.ipend ∧ t.lkc.ipend = s.lkc.ipend
  | .basin => t.basin = s.basin
  | .lanes => t.lanes = s.lanes
  | .rx => t.rx = s.rx
  | .tx => t.tx = s.tx
  | .link => t.link = s.link
  | .trim => t.trim = s.trim
  | .utv => t.utv = s.utv
  | .flc => t.flc = s.flc
  | .dmc => t.dmc = s.dmc
  | .sec => t.sec = s.sec
  | .host => t.host = s.host
  | .psm => t.psm = s.psm
  | .pwr => t.pwr = s.pwr
  | .sluice => t.sluice = s.sluice
  | .evf => t.evf = s.evf
  | .tim => t.tim = s.tim
  | .pins => t.pins = s.pins
  | .queue => t.pending = s.pending

/-! The port ranges of the blocks (R10, "Block structure"), first and last port. -/

abbrev Blk.sys : Nat × Nat := (0x0000, 0x03FF)
abbrev Blk.evf : Nat × Nat := (0x0400, 0x07FF)
abbrev Blk.tim : Nat × Nat := (0x0800, 0x0AFF)
abbrev Blk.wdg : Nat × Nat := (0x0B00, 0x0B3F)
abbrev Blk.rtc : Nat × Nat := (0x0C00, 0x0CFF)
abbrev Blk.hpt : Nat × Nat := (0x0D00, 0x0DFF)
abbrev Blk.psm : Nat × Nat := (0x0E00, 0x0FFF)
abbrev Blk.flc : Nat × Nat := (0x1000, 0x13FF)
abbrev Blk.mem : Nat × Nat := (0x1400, 0x14FF)
abbrev Blk.dmc : Nat × Nat := (0x1800, 0x1BFF)
abbrev Blk.bsn : Nat × Nat := (0x2000, 0x27FF)
abbrev Blk.trm : Nat × Nat := (0x2800, 0x2BFF)
abbrev Blk.seq : Nat × Nat := (0x3000, 0x37FF)
abbrev Blk.ltb : Nat × Nat := (0x3800, 0x3FFF)
abbrev Blk.rxc : Nat × Nat := (0x4000, 0x47FF)
abbrev Blk.lan : Nat × Nat := (0x4800, 0x4FFF)
abbrev Blk.txc : Nat × Nat := (0x5000, 0x53FF)
abbrev Blk.cal : Nat × Nat := (0x5400, 0x55FF)
abbrev Blk.utv : Nat × Nat := (0x5800, 0x5BFF)
abbrev Blk.cph : Nat × Nat := (0x6000, 0x64FF)
abbrev Blk.gpio : Nat × Nat := (0x6800, 0x68FF)
abbrev Blk.mnt : Nat × Nat := (0x7000, 0x70FF)
abbrev Blk.dbg : Nat × Nat := (0x7F00, 0x7FFF)
/-- The masters' own copies of the Basin's and the cipher engine's command registers (R212, R341). -/
abbrev Blk.own : Nat × Nat := (0x10000, 0x4FFFF)

/-- From `s` to `t` no part changes but the listed ones, and no register but those of the listed blocks. -/
def State.touches (parts : List Part) (blocks : List (Nat × Nat)) (s t : State) : Prop :=
  (∀ p, p ∉ parts → Part.same s t p) ∧ ∀ q, (∀ b ∈ blocks, q < b.1 ∨ b.2 < q) → t.get q = s.get q

/-- A source is pending in every core that is not in reset (R287). -/
def State.raises (s : State) (n : Nat) (t : State) : Prop := ∀ k, (s.core k).inReset = false → t.isPending k n = true

/-- A saturating counter register went up by one. -/
def State.counts (s : State) (p : Nat) (t : State) : Prop := t.get p = satInc (s.get p)

/-- Every lane but `l` is as it was: its registers and what lies beyond them. -/
def State.otherLanes (s : State) (l : Nat) (t : State) : Prop :=
  ∀ k, k < 64 → k ≠ l → t.lane k = s.lane k ∧ ∀ r, r < 32 → t.get (0x4800 + 32 * k + r) = s.get (0x4800 + 32 * k + r)

/-- No lane receives a packet (R67). -/
def State.lanesQuiet (s : State) : Bool := (List.range 64).all fun l => !s.receiving l

/-- No fuse programmed in `f` reads as not programmed in `g` (R351). -/
def Fuses.keeps (f g : Fuses) : Prop :=
  (∀ t, f.intent.getLsbD t = true → g.intent.getLsbD t = true) ∧
  (∀ t, f.anchored.getLsbD t = true → g.anchored.getLsbD t = true) ∧
  (∀ t, f.done.getLsbD t = true → g.done.getLsbD t = true) ∧
  (∀ h, f.okh = some h → g.okh = some h) ∧
  g.lot0 = f.lot0 ∧ g.lot1 = f.lot1 ∧ g.wafer = f.wafer ∧ g.die = f.die ∧ g.part = f.part ∧ g.duk = f.duk

/-- The life-cycle fuses are in order: DONE and ANCHORED stand only behind their INTENT, and so does the transition under
way (R352, R356). -/
abbrev State.fuseOrder (s : State) : Prop :=
  (∀ t, t < 4 → s.fuses.done.getLsbD t = true → s.fuses.intent.getLsbD t = true) ∧
  (∀ t, t < 4 → s.fuses.anchored.getLsbD t = true → s.fuses.intent.getLsbD t = true) ∧
  (s.sec.trans ≠ 0 → s.fuses.intent.getLsbD s.sec.trans = true)

/-! ## What an instruction of a core may touch -/

/-- The state once a core has fetched the `words` words of its next instruction, when it executes it now (R26, R287,
R310). -/
def State.fetched (s : State) (c : Core) (words : Nat) : Option State :=
  if s.coreReady c = false then none else
  match s.codeReach c (s.core c).pc with
  | (.ok _, t) =>
    if words = 1 then some t else
    match t.codeReach c ((s.core c).pc + 1) with
    | (.ok _, u) => some u
    | _ => none
  | _ => none

/-- From `u` to `t` nothing changes but core `c`, its halt cause, and which free values come next. -/
def State.coreOnly (c : Core) (u t : State) : Prop :=
  t = { u.setCore c (t.core c) with regs := t.regs, free := t.free } ∧
  ∀ p, p ≠ Port.DBG_STAT c.num → t.get p = u.get p

/-- A core keeps every register that is not listed, every physical register outside its window, its window, the status
bits above the flags, and its control and interrupt registers. -/
def CoreState.keepsBut (rds : List (BitVec 4)) (x y : CoreState) : Prop :=
  (∀ r, r ∉ rds → y.reg r = x.reg r) ∧
  (∀ i, i < 96 → (∀ r : BitVec 4, r.toNat < 12 → winIndex x r.toNat ≠ i) → y.phys i = x.phys i) ∧
  y.wb = x.wb ∧ y.res = x.res ∧ y.cs >>> 5 = x.cs >>> 5 ∧ y.wpidx = x.wpidx ∧ y.vbase = x.vbase ∧
  y.tcause = x.tcause ∧ y.tword0 = x.tword0 ∧ y.tword1 = x.tword1 ∧ y.taddr = x.taddr ∧ y.cycle = x.cycle ∧
  y.ien = x.ien ∧ y.ipend = x.ipend ∧ y.ipri = x.ipri ∧ y.inReset = x.inReset ∧ y.lockup = x.lockup ∧
  y.waiting = x.waiting ∧ y.apWait = x.apWait

/-- Core `c` went on by `words` words and changed at most the listed registers and its flags. -/
def State.moved (c : Core) (words : Nat) (rds : List (BitVec 4)) (u t : State) : Prop :=
  (u.core c).keepsBut rds (t.core c) ∧ (t.core c).pc = (u.core c).pc + BitVec.ofNat 18 words

/-- Core `c` went on and nothing changed beside what `moved` allows. -/
def State.wentOn (c : Core) (words : Nat) (rds : List (BitVec 4)) (u t : State) : Prop :=
  State.coreOnly c u t ∧ State.moved c words rds u t

/-- Core `c` entered a handler (R276): the pc is the vector of `n`, the window slid by one frame, w11 holds `ret`, w10 the
former status. -/
def State.entered (c : Core) (n : Nat) (ret : Word) (u t : State) : Prop :=
  (t.core c).pc = (u.core c).vbase + BitVec.ofNat 18 (4 * n) ∧ (t.core c).wb = (u.core c).wb + 1 ∧
  (t.core c).res = (u.core c).res + 1 ∧ (t.core c).reg 11 = ret ∧ (t.core c).reg 10 = (u.core c).cs ∧
  State.coreOnly c u t

/-- Core `c` took trap `n` (R276, R289): an entry with interrupts off and the number in TCAUSE. -/
def State.trapped (c : Core) (n : Nat) (ret : Word) (u t : State) : Prop :=
  State.entered c n ret u t ∧ fld (t.core c).cs 17 17 = 0 ∧ fld (t.core c).tcause 17 12 = n

/-- The flash controller is at rest: no operation, no scan under way, and its domain is up (R310, R318). -/
def State.flashQuiet (s : State) : Prop :=
  s.domOn 14 = true ∧ s.getB Port.FLC_STAT 0 = true ∧ s.flc.op = none ∧ s.flc.running = false

end Sys2Proof.Machine
end

