-- ==== Sys2Proof/Certificates/Slice0/Obligations.lean ====
section
/-! DEFINITION. The statements about the model, for the provers.  A statement that a command completes says so by
`Completes i s P`: exec answers a next state, and that state meets P. -/

open Sys2Proof Sys2Proof.Machine

/-- The commands of a receive chain, each with the state in which it acts, and what it changes there and nowhere else.
  (1) A clip event of a powered ADC counts in CLIPCNT, sets CLIP and raises RX_CLIP; in auto mode, 1 µs after the last
  step up, ATT rises by CLIP_STEP, at least one, up to 15; in any other mode ATT stays. (2) A step down, its
  conditions met (auto mode, no packet in RECEIVE, no blanking, ATT above 0, HOLD passed), lowers ATT by one, counts
  it in STEPCNT and restarts the HOLD measurement. (3) Once PERIOD has passed since the last request, a READY chain
  that waits for nothing asks for the RX background calibration grant and waits for it. (4) Under the grant, the first
  gap of GAP microseconds applies the coefficients, records SKEW and gives the grant back. (5) MAXWAIT after the grant
  without a gap the coefficients are applied at once, FORCECNT counts and RX_CAL_FORCED is raised; every packet that
  the chain feeds is marked and loses PHASE_OK. (6) A chain whose domains are all released starts its foreground
  calibration. (7) The foreground calibration ends: READY, SKEW, and the coefficients are retained with the die's
  temperature. (8) While a chain is powered and no lane receives, a loss of lock of the sampling PLL clears READY of
  both chains and counts it. (9) The relock makes every powered chain calibrate. (10) CALCMD 1 while the Sluice grants
  it and no lane receives starts a foreground calibration that must run: READY clears and the grant is held. (11)
  CALCMD 1 that the Sluice inhibits starts nothing: BUSYCNT counts and the result reads 2. (12) CALCMD 2 to a READY
  chain has the coefficients applied at the next gap, for which it asks for the grant. (13) The end of the rewrite of
  the channelizer's coefficients gives its grant back. -/
def Obligations.ReceiveChainGainAndCalibration : Prop :=
  ∀ s : State,
    (∀ (c : RxChain), s.domOn (7 + c.num) = true → Completes (.clipEvent c) s fun t => s.touches [.regs, .pends,
      .lanes, .rx, .evf] [Blk.evf, Blk.rxc] t ∧ s.counts (Port.RXC_CLIPCNT c.num) t ∧ t.getB (Port.RXC_STAT c.num) 1 =
      true ∧ s.raises Irq.RX_CLIP t ∧ (s.agcMode c.num = 0 ∧ s.stepUpFree c.num = true → t.getF (Port.RXC_STAT c.num)
      11 8 = min 15 (s.getF (Port.RXC_STAT c.num) 11 8 + max 1 (s.getF (Port.RXC_AGC c.num) 14 12))) ∧ (s.agcMode
      c.num ≠ 0 → t.getF (Port.RXC_STAT c.num) 11 8 = s.getF (Port.RXC_STAT c.num) 11 8)) ∧
    (∀ (c : RxChain), s.attMayFall c.num = true → Completes (.attStepDown c) s fun t => s.touches [.regs, .lanes, .rx]
      [Blk.rxc] t ∧ t.getF (Port.RXC_STAT c.num) 11 8 + 1 = s.getF (Port.RXC_STAT c.num) 11 8 ∧ s.counts
      (Port.RXC_STEPCNT c.num) t ∧ (t.chain c.num).holdFrom = s.time.wall) ∧
    (∀ (c : RxChain), s.chainReady c.num = true → (s.chain c.num).cal = .running → s.getF (Port.RXC_CAL c.num) 14 12 ≠
      0 → (s.chain c.num).askedFrom + s.bgTicks c.num ≤ s.time.wall → Completes (.bgCalPeriod c) s fun t => s.touches
      [.regs, .rx, .sluice] [Blk.mnt] t ∧ (t.chain c.num).cal = .waitGrant ∧ (t.granted (Act.rxcal c.num) || t.waits
      (Act.rxcal c.num)) = true) ∧
    (∀ (c : RxChain) (skew : BitVec 9), s.chainReady c.num = true → (s.chain c.num).cal = .waitGap → s.granted
      (Act.rxcal c.num) = true → s.chainGap c.num = true → Completes (.bgCalApply c skew) s fun t => s.touches [.regs,
      .rx, .sluice] [Blk.rxc, Blk.mnt] t ∧ (t.chain c.num).cal = .running ∧ t.getF (Port.RXC_CALSTAT c.num) 8 0 =
      skew.toNat ∧ t.granted (Act.rxcal c.num) = false) ∧
    (∀ (c : RxChain) (skew : BitVec 9), s.chainReady c.num = true → (s.chain c.num).cal = .waitGap → s.granted
      (Act.rxcal c.num) = true → timeLe ((s.chain c.num).grantAt + ticks s.maxWait) s.time.link = true → Completes
      (.bgCalForce c skew) s fun t => s.touches [.regs, .pends, .lanes, .rx, .sluice, .evf] [Blk.evf, Blk.rxc,
      Blk.mnt] t ∧ (t.chain c.num).cal = .running ∧ t.getF (Port.RXC_CALSTAT c.num) 8 0 = skew.toNat ∧ t.granted
      (Act.rxcal c.num) = false ∧ s.counts (Port.RXC_FORCECNT c.num) t ∧ s.raises Irq.RX_CAL_FORCED t ∧
      ((s.receivingOn c.num).all fun l => (t.lane l).pkt.any fun p => p.calStep && p.phaseBad) = true) ∧
    (∀ (c : RxChain), s.chainDoms c.num = true → (s.chain c.num).cal = .off → s.rx.smpLost = false → Completes
      (.chainCalStart c) s fun t => s.touches [.regs, .mem, .pends, .basin, .lanes, .rx, .trim, .evf] [Blk.evf,
      Blk.bsn, Blk.rxc, Blk.lan] t ∧ (t.chain c.num).cal = .foreground ∧ t.chainReady c.num = false) ∧
    (∀ (c : RxChain) (skew : BitVec 9), (s.chain c.num).cal = .foreground → s.chainDoms c.num = true → s.rx.smpLost =
      false → s.link.sniff = none → Completes (.chainCalDone c skew) s fun t => s.touches [.regs, .rx, .sluice]
      [Blk.rxc, Blk.mnt] t ∧ t.chainReady c.num = true ∧ t.getF (Port.RXC_CALSTAT c.num) 8 0 = skew.toNat ∧ (t.chain
      c.num).cal = .running ∧ (t.chain c.num).coefValid = true ∧ (t.chain c.num).coefTemp.toNat = s.getF Port.CAL_TEMP
      8 0) ∧
    ((s.domOn 7 || s.domOn 8) = true → s.lanesQuiet = true → s.link.sniff = none → Completes .samplingPllUnlock s fun
      t => s.touches [.regs, .mem, .pends, .basin, .lanes, .rx, .link, .trim, .evf] [Blk.sys, Blk.evf, Blk.hpt,
      Blk.bsn, Blk.trm, Blk.rxc, Blk.lan] t ∧ t.rx.smpLost = true ∧ t.chainReady 0 = false ∧ t.chainReady 1 = false ∧
      s.counts Port.CLK_LOSSCNT t) ∧
    (∀ (c : RxChain), s.rx.smpLost = true → s.chainDoms c.num = true → s.lanesQuiet = true → Completes
      .samplingPllRelock s fun t => s.touches [.regs, .mem, .pends, .basin, .lanes, .rx, .trim, .evf] [Blk.evf,
      Blk.bsn, Blk.rxc, Blk.lan] t ∧ t.rx.smpLost = false ∧ (t.chain c.num).cal = .foreground) ∧
    (∀ (m : Master) (c : RxChain), s.answers m (Port.RXC_CALCMD c.num) = true → s.getB Port.MNT_INHIBIT (Act.rxcal
      c.num) = false → (s.granted (Act.rxcal c.num) || s.sluiceClear (Act.rxcal c.num)) = true → s.link.sniff = none →
      s.lanesQuiet = true → Completes (.rxcFullCal m c) s fun t => s.touches [.regs, .mem, .pends, .basin, .lanes,
      .rx, .link, .trim, .sluice, .evf] [Blk.evf, Blk.hpt, Blk.bsn, Blk.trm, Blk.rxc, Blk.lan, Blk.mnt] t ∧ (t.chain
      c.num).cal = .foreground ∧ (t.chain c.num).mustRun = true ∧ t.chainReady c.num = false ∧ t.granted (Act.rxcal
      c.num) = true) ∧
    (∀ (m : Master) (c : RxChain), s.answers m (Port.RXC_CALCMD c.num) = true → s.getB Port.MNT_INHIBIT (Act.rxcal
      c.num) = true → s.link.sniff = none → Completes (.rxcFullCal m c) s fun t => s.touches [.regs, .mem, .pends,
      .basin, .lanes, .rx, .link, .trim, .sluice, .evf] [Blk.evf, Blk.hpt, Blk.bsn, Blk.trm, Blk.rxc, Blk.lan,
      Blk.mnt] t ∧ t.getF (Port.RXC_CALSTAT c.num) 11 9 = 2 ∧ t.get Port.MNT_GRANT = s.get Port.MNT_GRANT) ∧
    (∀ (m : Master) (c : RxChain), s.answers m (Port.RXC_CALCMD c.num) = true → s.chainReady c.num = true → Completes
      (.rxcBgApplyCmd m c) s fun t => s.touches [.regs, .mem, .pends, .basin, .lanes, .rx, .trim, .sluice, .evf]
      [Blk.evf, Blk.bsn, Blk.rxc, Blk.lan, Blk.mnt] t ∧ (t.chain c.num).applyNext = true ∧ (t.granted (Act.rxcal
      c.num) || t.waits (Act.rxcal c.num)) = true) ∧
    (s.granted Act.chzscrub = true → Completes .chzscrubDone s fun t => s.touches [.regs, .mem, .sluice] [Blk.mnt] t ∧
      t.granted Act.chzscrub = false)

/-- The commands of a lane, each with the role and state in which it acts, and those in which it is denied; each
  changes that lane alone. (1) START of an idle manual lane whose configuration lies in the plan takes it to FILLING.
  (2) START of an idle manual lane with any other configuration sets CFG_ERR and leaves it idle. (3) START of any
  other lane sets WR_DENY and changes nothing else. (4) The fill time takes a lane in FILLING to SEARCH. (5) STOP
  detaches a manual lane that receives no packet: it is idle. (6) STOP of a manual lane that receives is remembered
  until its packet closes. (7) STOP of a lane that is not manual sets WR_DENY and changes nothing else. (8) CLAIM
  makes a spare lane manual. (9) CLAIM of a lane that is not spare sets WR_DENY and changes nothing else. (10) RELEASE
  makes an idle manual lane spare. (11) RELEASE of any other lane sets WR_DENY and changes nothing else. (12) TEST
  starts the self-test of a faulted lane. (13) TEST of a lane that is not faulted sets WR_DENY and changes nothing
  else. (14) A self-test that passes makes a faulted lane spare. (15) A self-test that fails leaves it faulted. -/
def Obligations.LaneCommandsMoveALaneThroughItsRoles : Prop :=
  ∀ s : State,
    (∀ (m : Master) (l : Fin 64), s.answers m (Port.LAN_CMD l.val) = true → s.laneRole l.val = 4 → s.laneState l.val =
      0 → s.cfgOk (s.lanePhy l.val) (s.laneAnt l.val) (s.laneBin l.val) = true → Completes (.laneStart m l) s fun t =>
      s.touches [.regs, .lanes] [Blk.lan] t ∧ t.laneState l.val = 1 ∧ t.laneRole l.val = 4 ∧ s.otherLanes l.val t) ∧
    (∀ (m : Master) (l : Fin 64), s.answers m (Port.LAN_CMD l.val) = true → s.laneRole l.val = 4 → s.laneState l.val =
      0 → s.cfgOk (s.lanePhy l.val) (s.laneAnt l.val) (s.laneBin l.val) = false → Completes (.laneStart m l) s fun t
      => s.touches [.regs, .lanes] [Blk.lan] t ∧ t.laneState l.val = 0 ∧ t.getB (Port.LAN_STAT l.val) 1 = true ∧
      s.otherLanes l.val t) ∧
    (∀ (m : Master) (l : Fin 64), s.answers m (Port.LAN_CMD l.val) = true → (s.laneRole l.val ≠ 4 ∨ s.laneState l.val
      ≠ 0) → Completes (.laneStart m l) s fun t => t = s.setB (Port.LAN_STAT l.val) 2 true) ∧
    (∀ (l : Fin 64), s.laneState l.val = 1 → Completes (.laneFillDone l) s fun t => s.touches [.regs] [Blk.lan] t ∧
      t.laneState l.val = 2 ∧ t.laneRole l.val = s.laneRole l.val ∧ s.otherLanes l.val t) ∧
    (∀ (m : Master) (l : Fin 64), s.answers m (Port.LAN_CMD l.val) = true → s.laneRole l.val = 4 → s.receiving l.val =
      false → (s.lane l.val).discarding = false → Completes (.laneStop m l) s fun t => s.touches [.regs, .lanes]
      [Blk.lan] t ∧ t.laneState l.val = 0 ∧ t.laneRole l.val = 4 ∧ s.otherLanes l.val t) ∧
    (∀ (m : Master) (l : Fin 64), s.answers m (Port.LAN_CMD l.val) = true → s.laneRole l.val = 4 → s.laneState l.val ≠
      0 → s.receiving l.val = true → Completes (.laneStop m l) s fun t => t = s.updLane l.val fun x =>
      { x with stopReq := true }) ∧
    (∀ (m : Master) (l : Fin 64), s.answers m (Port.LAN_CMD l.val) = true → s.laneRole l.val ≠ 4 → Completes
      (.laneStop m l) s fun t => t = s.setB (Port.LAN_STAT l.val) 2 true) ∧
    (∀ (m : Master) (l : Fin 64), s.answers m (Port.LAN_CMD l.val) = true → s.laneRole l.val = 3 → Completes
      (.laneClaim m l) s fun t => s.touches [.regs, .lanes] [Blk.lan] t ∧ t.laneRole l.val = 4 ∧ t.laneState l.val =
      s.laneState l.val ∧ s.otherLanes l.val t) ∧
    (∀ (m : Master) (l : Fin 64), s.answers m (Port.LAN_CMD l.val) = true → s.laneRole l.val ≠ 3 → Completes
      (.laneClaim m l) s fun t => t = s.setB (Port.LAN_STAT l.val) 2 true) ∧
    (∀ (m : Master) (l : Fin 64), s.answers m (Port.LAN_CMD l.val) = true → s.laneRole l.val = 4 → s.laneState l.val =
      0 → Completes (.laneRelease m l) s fun t => s.touches [.regs, .lanes] [Blk.lan] t ∧ t.laneRole l.val = 3 ∧
      t.laneState l.val = 0 ∧ s.otherLanes l.val t) ∧
    (∀ (m : Master) (l : Fin 64), s.answers m (Port.LAN_CMD l.val) = true → (s.laneRole l.val ≠ 4 ∨ s.laneState l.val
      ≠ 0) → Completes (.laneRelease m l) s fun t => t = s.setB (Port.LAN_STAT l.val) 2 true) ∧
    (∀ (m : Master) (l : Fin 64), s.answers m (Port.LAN_CMD l.val) = true → s.laneRole l.val = 5 → (s.lane
      l.val).testing = false → Completes (.laneTest m l) s fun t => t = s.updLane l.val fun x =>
      { x with testing := true }) ∧
    (∀ (m : Master) (l : Fin 64), s.answers m (Port.LAN_CMD l.val) = true → s.laneRole l.val ≠ 5 → Completes
      (.laneTest m l) s fun t => t = s.setB (Port.LAN_STAT l.val) 2 true) ∧
    (∀ (l : Fin 64), (s.lane l.val).testing = true → s.laneRole l.val = 5 → Completes (.laneTestDone l true) s fun t
      => s.touches [.regs, .lanes] [Blk.lan] t ∧ t.laneRole l.val = 3 ∧ (t.lane l.val).testing = false ∧ t.getB
      (Port.LAN_STAT l.val) 0 = false ∧ s.otherLanes l.val t) ∧
    (∀ (l : Fin 64), (s.lane l.val).testing = true → s.laneRole l.val = 5 → Completes (.laneTestDone l false) s fun t
      => t = s.updLane l.val fun x => { x with testing := false })

/-- A lane outside any sequencer's event, sniff window and helper listen receives a packet. (1) A lane in SEARCH, its
  detection not suspended, that hears its own sync word takes a header cell and stands in RECEIVE with the packet's
  time stamp and measurements. (2) With no cell granted the packet is lost: NOCELLCNT counts and the lane searches on.
  (3) A length field above the limit discards the frame, gives its cells back and counts in LENOVER alone. (4) A
  length field within the limit is taken as the packet's length, once. (5) The last bit of a good frame on a manual
  lane closes the packet with CRC_OK in its report, counts OKCNT, stages it for its queue, and the lane searches on.
  (6) The last bit of a frame that is not good closes it with CRC_OK 0, counts BADCNT and gives its cells back; the
  lane searches on. (7) Once the air time of a discarded frame has passed, the lane searches on. -/
def Obligations.LaneReceivesAPacket : Prop :=
  ∀ s : State,
    (∀ (l : Fin 64) (sync : BitVec 32) (ts : BitVec 54) (meas : RxMeas), s.domOn (laneDom l.val) = true → s.laneState
      l.val = 2 → s.receiving l.val = false → s.laneBlind l.val = false → s.syncHidden l.val ts = false → s.laneRole
      l.val ≠ 2 → s.laneSync l.val = sync → s.link.sniff = none → (s.lane l.val).stage.length < 4 → s.queueUp (s.getF
      (Port.LAN_CFG l.val + 6) 6 0) = true → s.cellGranted (s.getF (Port.LAN_CFG l.val + 6) 6 0) = true → Completes
      (.syncMatch l sync ts meas) s fun t => s.touches [.regs, .pends, .basin, .lanes, .evf] [Blk.evf, Blk.bsn,
      Blk.seq, Blk.rxc, Blk.lan] t ∧ t.laneState l.val = 3 ∧ ((t.lane l.val).pkt.any fun lp => decide (lp.ts = ts ∧
      lp.meas = meas ∧ lp.sync = sync ∧ lp.cells = [.sram s.nextCell])) = true ∧ s.otherLanes l.val t) ∧
    (∀ (l : Fin 64) (sync : BitVec 32) (ts : BitVec 54) (meas : RxMeas), s.domOn (laneDom l.val) = true → s.laneState
      l.val = 2 → s.receiving l.val = false → s.laneBlind l.val = false → s.syncHidden l.val ts = false → s.laneRole
      l.val ≠ 2 → s.laneSync l.val = sync → s.link.sniff = none → (s.lane l.val).stopReq = false → s.queueUp (s.getF
      (Port.LAN_CFG l.val + 6) 6 0) = true → s.cellGranted (s.getF (Port.LAN_CFG l.val + 6) 6 0) = false → Completes
      (.syncMatch l sync ts meas) s fun t => s.touches [.regs, .pends, .basin, .lanes, .evf] [Blk.evf, Blk.bsn,
      Blk.seq, Blk.rxc, Blk.lan] t ∧ t.laneState l.val = 2 ∧ t.receiving l.val = false ∧ s.counts (Port.LAN_NOCELLCNT
      l.val) t ∧ s.otherLanes l.val t) ∧
    (∀ (l : Fin 64) (air : List Octet) (lp : LanePkt), (s.lane l.val).pkt = some lp → lp.lenSeen = none → hdrOctets
      (s.lanePhy l.val) ≤ air.length → s.lenOk l.val lp (s.dewhiten l.val lp (air.take (hdrOctets (s.lanePhy l.val))))
      = false → Completes (.lengthFieldReceived l air) s fun t => s.touches [.regs, .pends, .basin, .lanes, .trim,
      .evf] [Blk.evf, Blk.bsn, Blk.lan] t ∧ t.receiving l.val = false ∧ (t.lane l.val).discarding = true ∧ s.counts
      (Port.LAN_LENOVER l.val) t ∧ t.get (Port.LAN_OKCNT l.val) = s.get (Port.LAN_OKCNT l.val) ∧ t.get
      (Port.LAN_BADCNT l.val) = s.get (Port.LAN_BADCNT l.val) ∧ t.get (Port.LAN_TRUNCCNT l.val) = s.get
      (Port.LAN_TRUNCCNT l.val) ∧ s.otherLanes l.val t) ∧
    (∀ (l : Fin 64) (air : List Octet) (lp : LanePkt), (s.lane l.val).pkt = some lp → lp.lenSeen = none → hdrOctets
      (s.lanePhy l.val) ≤ air.length → s.lenOk l.val lp (s.dewhiten l.val lp (air.take (hdrOctets (s.lanePhy l.val))))
      = true → Completes (.lengthFieldReceived l air) s fun t => s.touches [.regs, .pends, .basin, .lanes, .trim,
      .evf] [Blk.evf, Blk.bsn, Blk.lan] t ∧ ((t.lane l.val).pkt.any fun q => decide (q.lenSeen = some (frameLen
      (s.lanePhy l.val) (s.dewhiten l.val lp (air.take (hdrOctets (s.lanePhy l.val))))))) = true ∧ t.get
      (Port.LAN_LENOVER l.val) = s.get (Port.LAN_LENOVER l.val) ∧ s.otherLanes l.val t) ∧
    (∀ (l : Fin 64) (air : List Octet) (crc : BitVec 24) (lp : LanePkt), (s.lane l.val).pkt = some lp →
      lp.lenSeen.isSome = true → lp.ctx = none → s.laneRole l.val = 4 → (s.lane l.val).seq = none → (s.lane
      l.val).helper = none → (s.lane l.val).stopReq = false → s.link.sniff = none → s.link.calendar = [] → s.frameGood
      l.val lp (s.dewhiten l.val lp (air ++ crcOctets crc)) = true → Completes (.packetEnd l air crc) s fun t =>
      s.touches [.regs, .mem, .pends, .basin, .lanes, .link, .trim, .utv, .evf] [Blk.evf, Blk.hpt, Blk.bsn, Blk.trm,
      Blk.seq, Blk.ltb, Blk.lan, Blk.utv] t ∧ t.receiving l.val = false ∧ t.laneState l.val = 2 ∧ s.counts
      (Port.LAN_OKCNT l.val) t ∧ t.get (Port.LAN_BADCNT l.val) = s.get (Port.LAN_BADCNT l.val) ∧ t.getB (Port.LAN_RSSI
      l.val + 2) 17 = true ∧ (t.lane l.val).stage.length = (s.lane l.val).stage.length + 1 ∧ s.otherLanes l.val t) ∧
    (∀ (l : Fin 64) (air : List Octet) (crc : BitVec 24) (lp : LanePkt), (s.lane l.val).pkt = some lp →
      lp.lenSeen.isSome = true → lp.ctx = none → s.laneRole l.val = 4 → (s.lane l.val).seq = none → (s.lane
      l.val).helper = none → (s.lane l.val).stopReq = false → s.link.sniff = none → s.link.calendar = [] → s.frameGood
      l.val lp (s.dewhiten l.val lp (air ++ crcOctets crc)) = false → Completes (.packetEnd l air crc) s fun t =>
      s.touches [.regs, .mem, .pends, .basin, .lanes, .link, .trim, .utv, .evf] [Blk.evf, Blk.hpt, Blk.bsn, Blk.trm,
      Blk.seq, Blk.ltb, Blk.lan, Blk.utv] t ∧ t.receiving l.val = false ∧ t.laneState l.val = 2 ∧ s.counts
      (Port.LAN_BADCNT l.val) t ∧ t.get (Port.LAN_OKCNT l.val) = s.get (Port.LAN_OKCNT l.val) ∧ t.getB (Port.LAN_RSSI
      l.val + 2) 17 = false ∧ (t.lane l.val).stage = (s.lane l.val).stage ∧ s.otherLanes l.val t) ∧
    (∀ (l : Fin 64), (s.lane l.val).discarding = true → s.laneRole l.val = 4 → (s.lane l.val).seq = none → (s.lane
      l.val).stopReq = false → s.link.sniff = none → s.link.calendar = [] → Completes (.lenoverAirTimePassed l) s fun
      t => s.touches [.regs, .mem, .pends, .basin, .lanes, .link, .trim, .evf] [Blk.evf, Blk.hpt, Blk.bsn, Blk.trm,
      Blk.seq, Blk.lan] t ∧ (t.lane l.val).discarding = false ∧ t.laneState l.val = 2 ∧ s.otherLanes l.val t)

/-- Blanking of a grid, the fault of a lane, its report, and the detector bank with its watch lanes. (1) Blanking, due
  for a transmit chain while both receive chains are powered and no lane receives, blanks both on the grid of that
  chain: 2.4 GHz for TX_W, sub-GHz for TX_S. (2) Blanking ends POST after the chain's last ramp-down, no further
  ramp-up being due. (3) A fault of a watch, spare or manual lane that receives nothing makes it faulted and idle and
  raises LANE_FAULT; its length fault needs a packet. (4) A read of LAN_n_RSSI returns it and latches the five other
  report words for that master alone. (5) A preamble in a watched bin of the watched chain, of a PHY that an entry in
  force names, attaches the lowest free watch lane to the bin, searching. (6) With no watch lane free it counts in
  WATCH_MISS and raises it. (7) No match within the sync duration frees the watch lane and counts NOMATCH. (8) A write
  of the fourth word of an entry puts its staged words and that word, its reserved bits zero, in force; no other entry
  changes. -/
def Obligations.BlankingLaneFaultsAndWatchLanes : Prop :=
  ∀ s : State,
    (∀ (x : TxChain), s.domOn 7 = true → s.domOn 8 = true → s.blankDue x.num = true → s.blankingFrom (decide (x.num =
      1)) = none → s.lanesQuiet = true → s.link.sniff = none → Completes (.blankingStart x) s fun t => s.touches
      [.regs, .mem, .pends, .basin, .lanes, .rx, .link, .trim, .evf] [Blk.evf, Blk.hpt, Blk.bsn, Blk.trm, Blk.lan] t ∧
      t.blanked 0 (decide (x.num = 1)) = true ∧ t.blanked 1 (decide (x.num = 1)) = true ∧ t.blankingFrom (decide
      (x.num = 1)) = some s.time.wall) ∧
    (∀ (x : TxChain), (s.blankingFrom (decide (x.num = 1))).isSome = true → s.blankDue x.num = false → s.blankPosted
      x.num = true → Completes (.blankingEnd x) s fun t => s.touches [.rx] [] t ∧ t.blanked 0 (decide (x.num = 1)) =
      false ∧ t.blanked 1 (decide (x.num = 1)) = false ∧ t.blankedTill (decide (x.num = 1)) = some s.time.wall) ∧
    (∀ (l : Fin 64) (kind : LaneFaultKind), kind ≠ .length → s.laneRole l.val ≠ 0 → s.laneRole l.val ≠ 1 → s.laneRole
      l.val ≠ 5 → s.receiving l.val = false → (s.lane l.val).stage = [] → s.link.sniff = none → Completes
      (.laneFaultDetect l kind) s fun t => s.touches [.regs, .mem, .pends, .basin, .lanes, .link, .trim, .evf]
      [Blk.evf, Blk.hpt, Blk.bsn, Blk.trm, Blk.seq, Blk.lan] t ∧ t.laneRole l.val = 5 ∧ t.laneState l.val = 0 ∧ t.getB
      (Port.LAN_STAT l.val) 0 = true ∧ s.raises Irq.LANE_FAULT t ∧ s.otherLanes l.val t) ∧
    (∀ (m : Master) (l : Fin 64), s.answers m (Port.LAN_RSSI l.val) = true → Completes (.laneReportRead m l) s fun t
      => s.touches [.latch] [] t ∧ Cells.rd (fun _ => 0) t.latch.data m.num = s.get (Port.LAN_RSSI l.val) ∧ (∀ i : Fin
      5, t.latched m (Port.LAN_RSSI l.val + 1 + i.val) = some (s.get (Port.LAN_RSSI l.val + 1 + i.val))) ∧ ∀ n :
      Master, n ≠ m → ∀ i : Fin 5, t.latched n (Port.LAN_RSSI l.val + 1 + i.val) = s.latched n (Port.LAN_RSSI l.val +
      1 + i.val)) ∧
    (∀ (gridW : Bool) (bin : BitVec 9) (phy : BitVec 3) (l : Nat), s.chainLive (s.getF Port.RXC_WATCH_CTRL 14 14)
      gridW = true → s.blanked (s.getF Port.RXC_WATCH_CTRL 14 14) gridW = false → phyGridW phy.toNat = gridW → s.domOn
      5 = true → s.watched gridW bin.toNat = true → (List.range 8).any (fun e => entryFor phy.toNat (s.watchEntry e))
      = true → s.freeWatch = some l → Completes (.watchDetection gridW bin phy) s fun t => s.touches [.regs, .pends,
      .lanes, .evf] [Blk.evf, Blk.rxc, Blk.lan] t ∧ t.laneState l = 2 ∧ t.laneBin l = bin.toNat ∧ t.lanePhy l =
      phy.toNat ∧ t.laneAnt l = s.getF Port.RXC_WATCH_CTRL 14 14 ∧ s.otherLanes l t) ∧
    (∀ (gridW : Bool) (bin : BitVec 9) (phy : BitVec 3), s.chainLive (s.getF Port.RXC_WATCH_CTRL 14 14) gridW = true →
      s.blanked (s.getF Port.RXC_WATCH_CTRL 14 14) gridW = false → phyGridW phy.toNat = gridW → s.domOn 5 = true →
      s.watched gridW bin.toNat = true → (List.range 8).any (fun e => entryFor phy.toNat (s.watchEntry e)) = true →
      s.freeWatch = none → Completes (.watchDetection gridW bin phy) s fun t => s.touches [.regs, .pends, .lanes,
      .evf] [Blk.evf, Blk.rxc, Blk.lan] t ∧ s.counts Port.RXC_WATCH_MISS t ∧ s.raises Irq.WATCH_MISS t ∧ t.lanes =
      s.lanes) ∧
    (∀ (l : Fin 64), s.laneRole l.val = 2 → s.laneState l.val = 2 → s.receiving l.val = false → Completes
      (.watchNomatchRelease l) s fun t => s.touches [.regs, .lanes] [Blk.rxc, Blk.lan] t ∧ t.laneState l.val = 0 ∧
      s.counts Port.RXC_WATCH_NOMATCH t ∧ s.otherLanes l.val t) ∧
    (∀ (m : Master) (e : Fin 8) (v : Word), s.answers m (Port.RXC_WM_3 e.val) = true → Completes (.watchEntryApply m e
      v) s fun t => s.touches [.regs, .rx] [Blk.rxc] t ∧ t.watchEntry e.val = [s.get (Port.RXC_WM_0 e.val), s.get
      (Port.RXC_WM_1 e.val), s.get (Port.RXC_WM_2 e.val), v &&& ~~~(fieldMask 8 6)] ∧ ∀ f : Fin 8, f ≠ e →
      t.watchEntry f.val = s.watchEntry f.val)

/-- A sequencer that may ask sends the request its event makes: the chain of its PHY, the offset of its bin, its
  start, latest start, duration and frame. (1) A request that passes the checks and gets its grant stands among the
  accepted ones in order of start, with the granted start, its band and the ramp time in force, and its sequencer
  waits for it. (2) While its chain's domain is off its event ends with EVSTAT 10 and no chain changes. (3) A request
  that overlaps an accepted one on its chain is refused with LAST 2, and the accepted ones stay. (4) A request whose
  offset lies in no band gets no grant: NOBAND counts, LAST reads 6 and its event ends with EVSTAT 4. (5) At its tune
  start the earliest request's power is chosen and an IDLE synthesiser tunes to its offset: LOCKING. (6) Lock makes a
  LOCKING synthesiser LOCKED. (7) KEEP after the later of the lock and the last accepted request, none being accepted,
  a LOCKED synthesiser is IDLE. -/
def Obligations.TransmitRequestTuningAndLock : Prop :=
  ∀ s : State,
    (∀ (q : Fin 16) (pcode : BitVec 6) (wait : Word) (e : Event) (u : State) (x : Nat) (ask : TxAsk) (st : BitVec 54)
      (b : Nat), s.level ≠ 3 → s.seqMayAsk q.val = true → s.event q.val = some e → u = s.readFrame e → (x, ask) =
      u.seqReq q.val e pcode wait → s.domOn (txDom x) = true → ask.offset.toNat ≤ maxOffset x → phyServed x
      ask.phy.toNat = true → (u.spansOf x).any (spansMeet (u.reqSpan (u.rampTicks x) ask.tStart ask.dur)) = false →
      (u.account x ask.offset.toNat ask.dur ask.tStart ask.tLate (fun d => !(u.spansOf x).any (spansMeet (u.reqSpan
      (u.rampTicks x) (ask.tStart + ticks d) ask.dur)))).1 = some (st, b) → Completes (.txRequest q pcode wait) s fun
      t => s.touches [.regs, .mem, .pends, .basin, .lanes, .tx, .link, .evf] [Blk.evf, Blk.bsn, Blk.seq, Blk.ltb,
      Blk.lan, Blk.txc] t ∧ (t.txc x).accepted = insertReq {
        owner := .seq q.val, ask := ask, start := st, band := b, code := pcode, ramp := s.rampTicks x } (s.txc
      x).accepted ∧ t.seqState q.val = 4) ∧
    (∀ (q : Fin 16) (pcode : BitVec 6) (wait : Word) (e : Event) (x : Nat) (ask : TxAsk), s.level ≠ 3 → s.seqMayAsk
      q.val = true → s.event q.val = some e → (x, ask) = (s.readFrame e).seqReq q.val e pcode wait → s.domOn (txDom x)
      = false → Completes (.txRequest q pcode wait) s fun t => s.touches [.regs, .mem, .pends, .basin, .lanes, .tx,
      .link, .evf] [Blk.evf, Blk.bsn, Blk.seq, Blk.ltb, Blk.lan, Blk.txc] t ∧ t.seqState q.val = 7 ∧ ((t.event
      q.val).any fun f => decide (f.evstat = 10)) = true ∧ t.tx = s.tx) ∧
    (∀ (q : Fin 16) (pcode : BitVec 6) (wait : Word) (e : Event) (u : State) (x : Nat) (ask : TxAsk), s.level ≠ 3 →
      s.seqMayAsk q.val = true → s.event q.val = some e → u = s.readFrame e → (x, ask) = u.seqReq q.val e pcode wait →
      s.domOn (txDom x) = true → ask.offset.toNat ≤ maxOffset x → phyServed x ask.phy.toNat = true → (u.spansOf x).any
      (spansMeet (u.reqSpan (u.rampTicks x) ask.tStart ask.dur)) = true → Completes (.txRequest q pcode wait) s fun t
      => s.touches [.regs, .mem, .pends, .basin, .lanes, .tx, .link, .evf] [Blk.evf, Blk.bsn, Blk.seq, Blk.ltb,
      Blk.lan, Blk.txc] t ∧ t.getF (Port.TXC_STAT x) 14 12 = 2 ∧ (t.txc x).accepted = (s.txc x).accepted ∧ t.seqState
      q.val = 7) ∧
    (∀ (q : Fin 16) (pcode : BitVec 6) (wait : Word) (e : Event) (u : State) (x : Nat) (ask : TxAsk), s.level ≠ 3 →
      s.seqMayAsk q.val = true → s.event q.val = some e → u = s.readFrame e → (x, ask) = u.seqReq q.val e pcode wait →
      s.domOn (txDom x) = true → ask.offset.toNat ≤ maxOffset x → phyServed x ask.phy.toNat = true → (u.spansOf x).any
      (spansMeet (u.reqSpan (u.rampTicks x) ask.tStart ask.dur)) = false → s.bandOf x ask.offset.toNat = none →
      Completes (.txRequest q pcode wait) s fun t => s.touches [.regs, .mem, .pends, .basin, .lanes, .tx, .link, .evf]
      [Blk.evf, Blk.bsn, Blk.seq, Blk.ltb, Blk.lan, Blk.txc] t ∧ s.counts Port.LTB_ACC_NOBAND t ∧ t.getF
      (Port.TXC_STAT x) 14 12 = 6 ∧ ((t.event q.val).any fun f => decide (f.evstat = 4)) = true ∧ (t.txc x).accepted =
      (s.txc x).accepted) ∧
    (∀ (x : TxChain) (r : TxReq), s.nextReq x.num = some r → s.tuneAt x.num r ≤ s.time.wall → s.syn x.num = 1 →
      Completes (.tuneStart x) s fun t => s.touches [.regs, .tx] [Blk.txc] t ∧ t.syn x.num = 3 ∧ (t.txc x.num).tuned =
      some r.ask.offset ∧ (t.txc x.num).tuneReq = true ∧ (t.txc x.num).pcode = BitVec.ofNat 6 (s.cappedCode x.num r) ∧
      (t.txc x.num).drive = (s.driveOf x.num (s.cappedCode x.num r)).1) ∧
    (∀ (x : TxChain), s.syn x.num = 3 → Completes (.synthLock x) s fun t => s.touches [.regs, .tx] [Blk.txc] t ∧ t.syn
      x.num = 4 ∧ (t.txc x.num).lockAt = s.time.wall) ∧
    (∀ (x : TxChain), s.syn x.num = 4 → (s.txc x.num).accepted = [] → max (s.txc x.num).idleFrom (s.txc x.num).lockAt
      + s.getF (txCtrl x.num) 8 0 * 160 ≤ s.time.wall → Completes (.keepExpiry x) s fun t => s.touches [.regs, .tx]
      [Blk.txc] t ∧ t.syn x.num = 1 ∧ (t.txc x.num).tuned = none)

/-- The course of a transmission on a chain. Last bits, late requests and aborted transmissions here are a test's;
  what their sequencer does stands with the sequencers. (1) Ramp-up of the earliest request, once it is locked on its
  frequency, blanked for PRE and due, makes the synthesiser TRANSMITTING and takes the request from the accepted ones.
  (2) The first bit leaves one ramp time after ramp-up began, one tick less at the least: the transmission is on air.
  (3) The last bit, the duration after the first, begins ramp-down. (4) The end of ramp-down clears the transmission
  and leaves the synthesiser LOCKED with LAST 0. (5) After a loss of lock it leaves it LOCKING. (6) A request whose
  first bit can no longer leave by T_late is taken off with LAST 1, counted in LATECNT, and TX_LATE is raised. (7)
  Loss of lock of a LOCKED synthesiser that transmits nothing makes it LOCKING and raises TX_UNLOCK. (8) Loss of lock
  in ramp-up or on air aborts the transmission: ramp-down begins, LAST reads 5, ABORTCNT counts and TX_UNLOCK is
  raised. -/
def Obligations.TransmissionRunsFromRampUpToRampDown : Prop :=
  ∀ s : State,
    (∀ (x : TxChain) (r : TxReq), s.nextReq x.num = some r → s.rampReady x.num r = true → Completes (.rampUpStart x) s
      fun t => s.touches [.regs, .tx] [Blk.txc] t ∧ t.syn x.num = 5 ∧ (t.txc x.num).accepted = (s.txc
      x.num).accepted.tail ∧ t.getF (Port.TXC_STAT x.num) 5 0 = (s.txc x.num).pcode.toNat ∧ ((t.txc x.num).cur.any fun
      k => decide (k.phase = .rampUp ∧ k.begun = s.time.wall ∧ k.req.ask = r.ask)) = true) ∧
    (∀ (x : TxChain) (k : TxRun), (s.txc x.num).cur = some k → k.phase = .rampUp → k.begun + k.req.ramp ≤ s.time.wall
      + 1 → k.req.owner ≠ .sniff → Completes (.txFirstBit x) s fun t => s.touches [.regs, .pends, .tx, .evf] [Blk.evf,
      Blk.ltb, Blk.txc] t ∧ (t.txc x.num).cur = some { k with phase := .onAir }) ∧
    (∀ (x : TxChain) (k : TxRun), (s.txc x.num).cur = some k → k.phase = .onAir → k.req.owner = .test → k.begun +
      k.req.ramp + k.req.ask.dur ≤ s.time.wall + 1 → Completes (.txLastBit x) s fun t => s.touches [.tx] [] t ∧ (t.txc
      x.num).cur = some { k with phase := .rampDown, downAt := s.time.wall }) ∧
    (∀ (x : TxChain) (k : TxRun), (s.txc x.num).cur = some k → s.downOver k = true → k.req.owner = .test → k.lostLock
      = false → k.aborted = false → Completes (.rampDownEnd x) s fun t => s.touches [.regs, .pends, .tx, .link, .evf]
      [Blk.evf, Blk.txc] t ∧ (t.txc x.num).cur = none ∧ (t.txc x.num).prevEnd = some s.time.wall ∧ t.syn x.num = 4 ∧
      t.getF (Port.TXC_STAT x.num) 14 12 = 0) ∧
    (∀ (x : TxChain) (k : TxRun), (s.txc x.num).cur = some k → s.downOver k = true → k.req.owner = .test → k.lostLock
      = true → Completes (.rampDownEnd x) s fun t => s.touches [.regs, .pends, .tx, .link, .evf] [Blk.evf, Blk.txc] t
      ∧ (t.txc x.num).cur = none ∧ t.syn x.num = 3) ∧
    (∀ (x : TxChain) (r : TxReq), s.nextReq x.num = some r → s.tooLate x.num r = true → r.owner = .test → s.link.sniff
      = none → (s.txc x.num).accepted.filter (fun y => decide (y = r)) = [r] → Completes (.txSkipLate x) s fun t =>
      s.touches [.regs, .pends, .tx, .link, .evf] [Blk.evf, Blk.ltb, Blk.txc] t ∧ (t.txc x.num).accepted = (s.txc
      x.num).accepted.filter (fun y => !decide (y = r)) ∧ t.getF (Port.TXC_STAT x.num) 14 12 = 1 ∧ s.counts
      (Port.TXC_LATECNT x.num) t ∧ s.raises Irq.TX_LATE t) ∧
    (∀ (x : TxChain), (s.txc x.num).cur = none → s.syn x.num = 4 → s.link.sniff = none → Completes (.lossOfLock x) s
      fun t => s.touches [.regs, .pends, .tx, .evf] [Blk.evf, Blk.txc] t ∧ t.syn x.num = 3 ∧ s.raises Irq.TX_UNLOCK t) ∧
    (∀ (x : TxChain) (k : TxRun), (s.txc x.num).cur = some k → k.phase ≠ .rampDown → k.req.owner = .test →
      s.link.sniff = none → Completes (.lossOfLock x) s fun t => s.touches [.regs, .pends, .tx, .evf] [Blk.evf,
      Blk.txc] t ∧ (t.txc x.num).cur = some
      { k with phase := .rampDown, downAt := s.time.wall, aborted := true, lostLock := true } ∧ s.counts
      (Port.TXC_ABORTCNT x.num) t ∧ t.getF (Port.TXC_STAT x.num) 14 12 = 5 ∧ s.raises Irq.TX_UNLOCK t)

/-- The calibration of a synthesiser and its test transmissions. (1) CALCMD 2 to a powered chain with none pending
  makes a calibration pending, shown by CALPEND, and asks for the grant. (2) CALCMD 1 that the Sluice grants makes the
  calibration one that must run, under the grant. (3) CALCMD 1 that the Sluice inhibits starts nothing: LAST of
  CALSTAT reads 2 and BUSYCNT counts. (4) Under its grant a pending calibration starts when the synthesiser waits for
  it, or is IDLE or LOCKED with no tune start within 200 µs: CALIBRATING, and CALPEND clears. (5) A calibration with
  retained values yields to a tune start that has come: it is suspended, CALPEND reads 1, YIELDCNT counts, LAST of
  CALSTAT reads 3, and the synthesiser is LOCKING on the request's offset. (6) A suspended calibration resumes when
  the synthesiser is IDLE or LOCKED and no tune start is near. (7) Its end sets VALID, records the die temperature in
  TCAL, reads 1 in LAST of CALSTAT, leaves the synthesiser IDLE, gives the grant back and raises TX_CAL_DONE. (8)
  TESTCMD 1 submits a request of TXC_FREQ and TXC_TEST, 1,024 ticks ahead, that passes R84's checks in MODE 0 and gets
  its grant. (9) TESTCMD 2 begins the ramp-down of a test transmission. -/
def Obligations.SynthesiserCalibrationAndTestTransmission : Prop :=
  ∀ s : State,
    (∀ (m : Master) (x : TxChain), s.answers m (Port.TXC_CALCMD x.num) = true → s.domOn (txDom x.num) = true → (s.txc
      x.num).pend = .none → Completes (.txcPendingCal m x) s fun t => s.touches [.regs, .tx, .sluice] [Blk.txc,
      Blk.mnt] t ∧ (t.txc x.num).pend = .pending ∧ t.getB (Port.TXC_STAT x.num) 9 = true ∧ (t.granted (Act.syn x.num)
      || t.waits (Act.syn x.num)) = true) ∧
    (∀ (m : Master) (x : TxChain), s.answers m (Port.TXC_CALCMD x.num) = true → s.getB Port.MNT_INHIBIT (Act.syn
      x.num) = false → (s.granted (Act.syn x.num) || s.sluiceClear (Act.syn x.num)) = true → Completes (.txcMustRunCal
      m x) s fun t => s.touches [.regs, .tx, .sluice] [Blk.txc, Blk.mnt] t ∧ (t.txc x.num).pend = .must ∧ t.getB
      (Port.TXC_STAT x.num) 9 = true ∧ t.granted (Act.syn x.num) = true) ∧
    (∀ (m : Master) (x : TxChain), s.answers m (Port.TXC_CALCMD x.num) = true → s.getB Port.MNT_INHIBIT (Act.syn
      x.num) = true → Completes (.txcMustRunCal m x) s fun t => s.touches [.regs, .tx, .sluice] [Blk.txc, Blk.mnt] t ∧
      t.getF (Port.TXC_CALSTAT x.num) 17 15 = 2 ∧ s.counts Port.MNT_BUSYCNT t ∧ t.tx = s.tx) ∧
    (∀ (x : TxChain), (s.txc x.num).pend ≠ .none → (s.txc x.num).calRun = false → (s.txc x.num).susp = false →
      s.granted (Act.syn x.num) = true → (s.syn x.num = 2 ∨ (s.syn x.num = 1 ∨ s.syn x.num = 4) ∧ s.tuneFar x.num =
      true) → Completes (.synthCalStart x) s fun t => s.touches [.regs, .tx] [Blk.txc] t ∧ t.syn x.num = 2 ∧ t.calRuns
      x.num = true ∧ (t.txc x.num).pend = .none ∧ t.getB (Port.TXC_STAT x.num) 9 = false ∧ (t.txc x.num).tuned = none) ∧
    (∀ (x : TxChain) (r : TxReq), s.nextReq x.num = some r → s.calRuns x.num = true → (s.txc x.num).calValid = true →
      (s.txc x.num).tuneReq = true → Completes (.synthCalYield x) s fun t => s.touches [.regs, .tx] [Blk.txc] t ∧
      (t.txc x.num).susp = true ∧ t.getB (Port.TXC_STAT x.num) 9 = true ∧ t.syn x.num = 3 ∧ s.counts
      (Port.TXC_YIELDCNT x.num) t ∧ t.getF (Port.TXC_CALSTAT x.num) 17 15 = 3 ∧ (t.txc x.num).tuned = some
      r.ask.offset) ∧
    (∀ (x : TxChain), (s.txc x.num).susp = true → (s.syn x.num = 1 ∨ s.syn x.num = 4) → s.tuneFar x.num = true →
      Completes (.synthCalResume x) s fun t => s.touches [.regs, .tx] [Blk.txc] t ∧ t.syn x.num = 2 ∧ t.calRuns x.num
      = true ∧ (t.txc x.num).susp = false) ∧
    (∀ (x : TxChain), s.calRuns x.num = true → (s.txc x.num).pend = .none → Completes (.synthCalDone x) s fun t =>
      s.touches [.regs, .pends, .tx, .sluice, .evf] [Blk.evf, Blk.txc, Blk.mnt] t ∧ t.syn x.num = 1 ∧ t.getB
      (Port.TXC_STAT x.num) 10 = true ∧ (t.txc x.num).calValid = true ∧ t.getF (Port.TXC_CALSTAT x.num) 17 15 = 1 ∧
      t.getF (Port.TXC_CALSTAT x.num) 8 0 = s.getF Port.CAL_TEMP 8 0 ∧ t.granted (Act.syn x.num) = false ∧ s.raises
      Irq.TX_CAL_DONE t) ∧
    (∀ (m : Master) (x : TxChain) (st : BitVec 54) (b : Nat), s.answers m (Port.TXC_TESTCMD x.num) = true → s.domOn
      (txDom x.num) = true → (s.get (Port.TXC_FREQ x.num)).toNat ≤ maxOffset x.num → s.getF (Port.TXC_TEST x.num) 17
      15 = 0 → (s.spansOf x.num).any (spansMeet (s.reqSpan (s.rampTicks x.num) (s.time.link + 1024) (max 1 (s.getF
      (Port.TXC_TEST x.num) 11 6) * 16000))) = false → (s.account x.num (s.get (Port.TXC_FREQ x.num)).toNat (max 1
      (s.getF (Port.TXC_TEST x.num) 11 6) * 16000) (s.time.link + 1024) (s.time.link + 1024 + 16000) (fun d =>
      !(s.spansOf x.num).any (spansMeet (s.reqSpan (s.rampTicks x.num) (s.time.link + 1024 + ticks d) (max 1 (s.getF
      (Port.TXC_TEST x.num) 11 6) * 16000))))).1 = some (st, b) → Completes (.testStart m x) s fun t => s.touches
      [.regs, .pends, .tx, .link, .evf] [Blk.evf, Blk.seq, Blk.ltb, Blk.txc] t ∧ ((t.txc x.num).accepted.any fun r =>
      decide (r.owner = .test ∧ r.start = st ∧ r.band = b ∧ r.ask.offset = s.get (Port.TXC_FREQ x.num) ∧ r.ask.tStart
      = s.time.link + 1024 ∧ r.ask.tLate = s.time.link + 17024 ∧ r.ask.signal = .carrier ∧ r.ask.pcode.toNat = s.getF
      (Port.TXC_TEST x.num) 5 0)) = true ∧ (t.txc x.num).accepted.length = (s.txc x.num).accepted.length + 1) ∧
    (∀ (m : Master) (x : TxChain) (k : TxRun), s.answers m (Port.TXC_TESTCMD x.num) = true → (s.txc x.num).cur = some
      k → k.req.owner = .test → k.phase ≠ .rampDown → Completes (.testStop m x) s fun t => s.touches [.tx] [] t ∧
      (t.txc x.num).cur = some { k with phase := .rampDown, downAt := s.time.wall })

/-- The three calendar commands take their context from SEQ_CAL_ARG_0 and report in SEQ_CAL_STAT. (1) INSERT given
  while one is pending sets OVERRUN and changes nothing else. (2) So does REMOVE. (3) So does UPDATE. (4) INSERT of a
  context that does not exist answers 2. (5) INSERT of a context that is entered already answers 3. (6) INSERT of a
  resident context whose content is bad answers 2. (7) INSERT of a resident context while the calendar, or its kind,
  is full answers 1 and enters nothing. (8) INSERT of a good resident context enters it with result 0. (9) INSERT of a
  context that is away waits for its fetch. (10) REMOVE of a context that is not entered answers 4. (11) REMOVE of an
  entered one takes it out with result 0. (12) UPDATE of a context that is not entered answers 4. (13) UPDATE with an
  image that is bad answers 2. (14) UPDATE of an entered context with a good image queues it for its instant, with
  result 0, or 6 when the instant has passed. -/
def Obligations.CalendarCommandsReportTheirResult : Prop :=
  ∀ s : State,
    (∀ (m : Master), s.answers m Port.SEQ_CAL_CMD = true → s.getB Port.SEQ_CAL_STAT 17 = true → Completes (.insert m)
      s fun t => t = s.setB Port.SEQ_CAL_STAT 16 true) ∧
    (∀ (m : Master), s.answers m Port.SEQ_CAL_CMD = true → s.getB Port.SEQ_CAL_STAT 17 = true → Completes (.remove m)
      s fun t => t = s.setB Port.SEQ_CAL_STAT 16 true) ∧
    (∀ (m : Master), s.answers m Port.SEQ_CAL_CMD = true → s.getB Port.SEQ_CAL_STAT 17 = true → Completes (.update m)
      s fun t => t = s.setB Port.SEQ_CAL_STAT 16 true) ∧
    (∀ (m : Master), s.answers m Port.SEQ_CAL_CMD = true → s.getB Port.SEQ_CAL_STAT 17 = false → s.ctxTotal ≤ s.getF
      Port.SEQ_CAL_ARG_0 13 0 → Completes (.insert m) s fun t => t = s.calResult 2 ∧ t.getF Port.SEQ_CAL_STAT 14 12 =
      2) ∧
    (∀ (m : Master), s.answers m Port.SEQ_CAL_CMD = true → s.getB Port.SEQ_CAL_STAT 17 = false → s.getF
      Port.SEQ_CAL_ARG_0 13 0 < s.ctxTotal → (s.cal (s.getF Port.SEQ_CAL_ARG_0 13 0)).isSome = true → Completes
      (.insert m) s fun t => t = s.calResult 3 ∧ t.getF Port.SEQ_CAL_STAT 14 12 = 3) ∧
    (∀ (m : Master), s.answers m Port.SEQ_CAL_CMD = true → s.getB Port.SEQ_CAL_STAT 17 = false → s.getF
      Port.SEQ_CAL_ARG_0 13 0 < s.ctxTotal → s.cal (s.getF Port.SEQ_CAL_ARG_0 13 0) = none → s.resident (s.getF
      Port.SEQ_CAL_ARG_0 13 0) = true → contentOk (s.ctxWords (s.getF Port.SEQ_CAL_ARG_0 13 0)) = false → Completes
      (.insert m) s fun t => t = s.calResult 2) ∧
    (∀ (m : Master), s.answers m Port.SEQ_CAL_CMD = true → s.getB Port.SEQ_CAL_STAT 17 = false → s.getF
      Port.SEQ_CAL_ARG_0 13 0 < s.ctxTotal → s.cal (s.getF Port.SEQ_CAL_ARG_0 13 0) = none → s.resident (s.getF
      Port.SEQ_CAL_ARG_0 13 0) = true → contentOk (s.ctxWords (s.getF Port.SEQ_CAL_ARG_0 13 0)) = true → (2048 ≤
      s.calCount ∨ s.kindFull (cKind (s.ctxWords (s.getF Port.SEQ_CAL_ARG_0 13 0))) = true) → Completes (.insert m) s
      fun t => t = s.calResult 1) ∧
    (∀ (m : Master), s.answers m Port.SEQ_CAL_CMD = true → s.getB Port.SEQ_CAL_STAT 17 = false → s.getF
      Port.SEQ_CAL_ARG_0 13 0 < s.ctxTotal → s.cal (s.getF Port.SEQ_CAL_ARG_0 13 0) = none → s.resident (s.getF
      Port.SEQ_CAL_ARG_0 13 0) = true → contentOk (s.ctxWords (s.getF Port.SEQ_CAL_ARG_0 13 0)) = true → s.calCount <
      2048 → s.kindFull (cKind (s.ctxWords (s.getF Port.SEQ_CAL_ARG_0 13 0))) = false → Completes (.insert m) s fun t
      => s.touches [.regs, .mem, .pends, .basin, .tx, .link, .trim, .utv, .evf] [Blk.evf, Blk.hpt, Blk.bsn, Blk.trm,
      Blk.seq] t ∧ t.getF Port.SEQ_CAL_STAT 14 12 = 0 ∧ t.getB Port.SEQ_CAL_STAT 17 = false ∧ ((t.cal (s.getF
      Port.SEQ_CAL_ARG_0 13 0)).any fun e => decide (e.kind.toNat = cKind (s.ctxWords (s.getF Port.SEQ_CAL_ARG_0 13
      0)))) = true ∧ ∀ c, c ≠ s.getF Port.SEQ_CAL_ARG_0 13 0 → t.cal c = s.cal c) ∧
    (∀ (m : Master), s.answers m Port.SEQ_CAL_CMD = true → s.getB Port.SEQ_CAL_STAT 17 = false → s.getF
      Port.SEQ_CAL_ARG_0 13 0 < s.ctxTotal → s.cal (s.getF Port.SEQ_CAL_ARG_0 13 0) = none → s.resident (s.getF
      Port.SEQ_CAL_ARG_0 13 0) = false → Completes (.insert m) s fun t => s.touches [.regs, .mem, .pends, .basin, .tx,
      .link, .trim, .utv, .evf] [Blk.evf, Blk.hpt, Blk.bsn, Blk.trm, Blk.seq] t ∧ t.getB Port.SEQ_CAL_STAT 17 = true ∧
      t.link.insertWait = some (s.getF Port.SEQ_CAL_ARG_0 13 0) ∧ s.getF Port.SEQ_CAL_ARG_0 13 0 ∈ t.trim.swaps) ∧
    (∀ (m : Master), s.answers m Port.SEQ_CAL_CMD = true → s.getB Port.SEQ_CAL_STAT 17 = false → s.cal (s.getF
      Port.SEQ_CAL_ARG_0 13 0) = none → Completes (.remove m) s fun t => t = s.calResult 4) ∧
    (∀ (m : Master), s.answers m Port.SEQ_CAL_CMD = true → s.getB Port.SEQ_CAL_STAT 17 = false → (s.cal (s.getF
      Port.SEQ_CAL_ARG_0 13 0)).isSome = true → Completes (.remove m) s fun t => s.touches [.regs, .mem, .pends,
      .basin, .tx, .link, .trim, .utv, .evf] [Blk.evf, Blk.hpt, Blk.bsn, Blk.trm, Blk.seq] t ∧ t.getF
      Port.SEQ_CAL_STAT 14 12 = 0 ∧ t.cal (s.getF Port.SEQ_CAL_ARG_0 13 0) = none) ∧
    (∀ (m : Master), s.answers m Port.SEQ_CAL_CMD = true → s.getB Port.SEQ_CAL_STAT 17 = false → s.getF
      Port.SEQ_CAL_ARG_1 13 0 + 17 ≤ s.mbxWords → s.cal (s.getF Port.SEQ_CAL_ARG_0 13 0) = none → Completes (.update
      m) s fun t => t = s.calResult 4) ∧
    (∀ (m : Master), s.answers m Port.SEQ_CAL_CMD = true → s.getB Port.SEQ_CAL_STAT 17 = false → s.getF
      Port.SEQ_CAL_ARG_1 13 0 + 17 ≤ s.mbxWords → (s.cal (s.getF Port.SEQ_CAL_ARG_0 13 0)).isSome = true → contentOk
      (s.mbxRds (s.getF Port.SEQ_CAL_ARG_1 13 0) 17 ++ (s.ctxWords (s.getF Port.SEQ_CAL_ARG_0 13 0)).drop 17) = false
      → Completes (.update m) s fun t => t = s.calResult 2) ∧
    (∀ (m : Master), s.answers m Port.SEQ_CAL_CMD = true → s.getB Port.SEQ_CAL_STAT 17 = false → s.getF
      Port.SEQ_CAL_ARG_1 13 0 + 17 ≤ s.mbxWords → (s.cal (s.getF Port.SEQ_CAL_ARG_0 13 0)).isSome = true → contentOk
      (s.mbxRds (s.getF Port.SEQ_CAL_ARG_1 13 0) 17 ++ (s.ctxWords (s.getF Port.SEQ_CAL_ARG_0 13 0)).drop 17) = true →
      s.link.updates.length < 64 → Completes (.update m) s fun t => s.touches [.regs, .mem, .pends, .basin, .tx,
      .link, .trim, .utv, .evf] [Blk.evf, Blk.hpt, Blk.bsn, Blk.trm, Blk.seq] t ∧ (t.link.updates.any fun u => decide
      (u.ctx = s.getF Port.SEQ_CAL_ARG_0 13 0 ∧ u.instant = s.get Port.SEQ_CAL_ARG_2 ∧ u.image = s.mbxRds (s.getF
      Port.SEQ_CAL_ARG_1 13 0) 17 ∧ t.getF Port.SEQ_CAL_STAT 14 12 = (if u.past then 6 else 0))) = true ∧
      t.link.updates.length = s.link.updates.length + 1)

/-- The events of a Haldaro leader (KIND 4) and of a follower. (1) At its setup point the event of a resident leader
  is armed on the sequencer and the lane trim assigned, both being free. (2) With no unit assigned it is not served:
  NOUNITCNT counts, TRM_NOUNIT is raised, and no sequencer takes it. (3) A sequencer that waited for a context that
  has left the calendar is idle again. (4) One whose context's previous CLOSE is complete loads it. (5) A follower
  listens from E less W less the fill time. (6) E plus W without a sync, to which a connection's first event adds its
  transmit window, ends its event with EVSTAT 1. (7) The response window of a connection or link that passes ends its
  event. -/
def Obligations.AnEventIsSetUpListensAndTimesOut : Prop :=
  ∀ s : State,
    (∀ (ctx : BitVec 14) (ce : CalEntry) (q l : Nat), s.cal ctx.toNat = some ce → ce.seq = some q → ce.lane = some l →
      q < 16 → s.waitingOn ctx.toNat = false → s.eventOf ctx.toNat = none → s.unitsTaken ce.seq ce.lane = false →
      s.resident ctx.toNat = true → s.ctxBad ctx.toNat = false → s.link.updates = [] → Cells.rd (fun _ => 0)
      s.utv.substSeq ctx.toNat = 0 → cLeader (s.ctxWords ctx.toNat) = true → cKind (s.ctxWords ctx.toNat) = 4 → cState
      (s.ctxWords ctx.toNat) = 1 → timeLt s.time.link (s.setupPoint (s.ctxWords ctx.toNat)) = false → Completes
      (.eventSetup ctx) s fun t => s.touches [.regs, .mem, .pends, .basin, .lanes, .tx, .link, .trim, .utv, .evf]
      [Blk.evf, Blk.hpt, Blk.bsn, Blk.trm, Blk.seq, Blk.lan, Blk.txc] t ∧ ((t.event q).any fun e => decide (e.ctx =
      ctx.toNat ∧ e.loaded = true ∧ e.lane = some l)) = true ∧ t.seqState q = 1 ∧ t.getF (Port.SEQ_CTX q) 13 0 =
      ctx.toNat) ∧
    (∀ (ctx : BitVec 14) (ce : CalEntry), s.cal ctx.toNat = some ce → ce.seq = none → ce.lane = none → s.waitingOn
      ctx.toNat = false → s.eventOf ctx.toNat = none → s.resident ctx.toNat = true → s.link.updates = [] → Cells.rd
      (fun _ => 0) s.utv.substSeq ctx.toNat = 0 → s.link.finals = [] → cLeader (s.ctxWords ctx.toNat) = true → cKind
      (s.ctxWords ctx.toNat) = 4 → cState (s.ctxWords ctx.toNat) = 1 → cw (s.ctxWords ctx.toNat) 9 11 0 = 0 → timeLt
      s.time.link (s.setupPoint (s.ctxWords ctx.toNat)) = false → Completes (.eventSetup ctx) s fun t => s.touches
      [.regs, .mem, .pends, .basin, .lanes, .tx, .link, .trim, .utv, .evf] [Blk.evf, Blk.hpt, Blk.bsn, Blk.trm,
      Blk.seq, Blk.lan, Blk.txc] t ∧ s.counts Port.TRM_NOUNITCNT t ∧ s.raises Irq.TRM_NOUNIT t ∧ t.link.events =
      s.link.events ∧ t.ctxF ctx.toNat 1 17 14 = 1) ∧
    (∀ (q : Fin 16) (e : Event), (s.event q.val) = some e → e.loaded = false → s.eventOf e.ctx = none → s.cal e.ctx =
      none → s.link.finals = [] → Completes (.contextLoad q) s fun t => s.touches [.regs, .mem, .pends, .basin,
      .lanes, .tx, .link, .trim, .utv, .evf] [Blk.evf, Blk.hpt, Blk.bsn, Blk.trm, Blk.seq, Blk.lan, Blk.txc] t ∧
      t.event q.val = none ∧ t.seqState q.val = 0) ∧
    (∀ (q : Fin 16) (e : Event) (ce : CalEntry) (l : Nat), (s.event q.val) = some e → e.loaded = false → s.eventOf
      e.ctx = none → s.cal e.ctx = some ce → ce.lane = some l → s.unitsTaken none ce.lane = false → s.resident e.ctx =
      true → s.ctxBad e.ctx = false → s.link.updates = [] → cLeader (s.ctxWords e.ctx) = true → cKind (s.ctxWords
      e.ctx) = 4 → Completes (.contextLoad q) s fun t => s.touches [.regs, .mem, .pends, .basin, .lanes, .tx, .link,
      .trim, .utv, .evf] [Blk.evf, Blk.hpt, Blk.bsn, Blk.trm, Blk.seq, Blk.lan, Blk.txc] t ∧ ((t.event q.val).any fun
      x => decide (x.ctx = e.ctx ∧ x.loaded = true ∧ x.lane = some l)) = true ∧ t.seqState q.val = 1) ∧
    (∀ (q : Fin 16) (e : Event), (s.event q.val) = some e → s.seqState q.val = 1 → e.loaded = true → cLeader e.words =
      false → cKind e.words ≠ 2 → timeLe (cNext e.words + ticks (syncTicks (cPhy e.words)) - ticks (e.w + fillTicks
      (rxPhy (cPhy e.words)))) s.time.link = true → Completes (.followerListenStart q) s fun t => s.touches [.regs,
      .lanes] [Blk.seq, Blk.lan] t ∧ t.seqState q.val = 2 ∧ t.event q.val = s.event q.val) ∧
    (∀ (q : Fin 16) (e : Event), (s.event q.val) = some e → s.seqState q.val = 2 → e.join = false → cKind e.words ≠ 3
      → timeLe (listenEnd e) s.time.link = true → Completes (.listenTimeout q) s fun t => s.touches [.regs, .lanes,
      .link] [Blk.seq, Blk.lan] t ∧ t.seqState q.val = 7 ∧ ((t.event q.val).any fun x => decide (x.evstat = 1)) =
      true) ∧
    (∀ (q : Fin 16) (e : Event), (s.event q.val) = some e → s.seqState q.val = 5 → timeLe e.window s.time.link = true
      → cKind e.words ≠ 2 → cKind e.words ≠ 3 → cKind e.words ≠ 5 → Completes (.responseWindowExpiry q) s fun t =>
      s.touches [.regs] [Blk.seq] t ∧ t.seqState q.val = 7 ∧ t.event q.val = s.event q.val)

/-- The ends of an event and of a context, the faults of a sequencer, and the ledgers' slots. (1) At the close time an
  event with no transmission under way and no lane goes to CLOSE. (2) One whose lane receives is only marked. (3)
  CLOSE clears the event and leaves the sequencer idle; a served event counts in EVTCNT, a failed one in MISSCNT too.
  (4) At LAST_ANCHOR plus SUPV a context without an event in progress leaves the calendar, is counted in SUPVCNT and
  raises LINK_LOST. (5) The join window of a beacon source listens from anchor plus JOINOFF. (6) It ends, and with it
  the event, when no packet or frame is under way. (7) A fault of an active sequencer that serves no event makes it
  faulted, counts in FAULTMIG, raises SEQ_FAULT and makes the lowest spare one active. (8) TEST starts the self-test
  of a faulted sequencer. (9) TEST of any other sequencer changes nothing. (10) A self-test that passes makes the
  sequencer spare and clears its fault. (11) One that fails leaves it as it is. (12) At a slot boundary the slots of a
  band more than 128 behind are forgotten and the others stand. (13) LTB_ACC_CMD 1 clears every band's settled charges
  in BLANK and DEVELOP. (14) In FIELD and RETURN it changes nothing. -/
def Obligations.EventsCloseSequencersFaultAndLedgersClear : Prop :=
  ∀ s : State,
    (∀ (q : Fin 16) (e : Event), (s.event q.val) = some e → e.loaded = true → timeLe e.closeAt s.time.link = true →
      s.seqTx q.val = false → e.lane = none → Completes (.closeTime q) s fun t => s.touches [.regs, .pends, .tx,
      .link, .evf] [Blk.evf, Blk.seq] t ∧ t.seqState q.val = 7 ∧ ((t.event q.val).any (·.closing)) = true) ∧
    (∀ (q : Fin 16) (e : Event) (l : Nat), (s.event q.val) = some e → e.loaded = true → timeLe e.closeAt s.time.link =
      true → e.lane = some l → (s.lane l).seq = some q.val → s.receiving l = true → Completes (.closeTime q) s fun t
      => s.touches [.regs, .pends, .tx, .link, .evf] [Blk.evf, Blk.seq] t ∧ t.seqState q.val = s.seqState q.val ∧
      ((t.event q.val).any (·.closing)) = true) ∧
    (∀ (q : Fin 16) (e : Event), (s.event q.val) = some e → s.seqState q.val = 7 → e.loaded = true → e.evstat ≠ 6 →
      e.evstat ≠ 7 → Completes (.eventClose q) s fun t => s.touches [.regs, .mem, .pends, .basin, .lanes, .tx, .link,
      .trim, .utv, .evf] [Blk.evf, Blk.hpt, Blk.bsn, Blk.trm, Blk.seq, Blk.lan] t ∧ t.event q.val = none ∧ t.seqState
      q.val = 0 ∧ t.get (Port.SEQ_CTX q.val) = 0 ∧ s.counts (Port.SEQ_EVTCNT q.val) t ∧ (((1 ≤ e.evstat.toNat ∧
      e.evstat.toNat ≤ 5) ∨ (8 ≤ e.evstat.toNat ∧ e.evstat.toNat ≤ 10)) → s.counts (Port.SEQ_MISSCNT q.val) t)) ∧
    (∀ (ctx : BitVec 14), (s.cal ctx.toNat).isSome = true → s.eventOf ctx.toNat = none → s.superviseDue (s.ctxWords
      ctx.toNat) = true → s.link.searchWait = [] → Completes (.supervisionTimeout ctx) s fun t => s.touches [.regs,
      .mem, .pends, .basin, .tx, .link, .trim, .evf] [Blk.evf, Blk.hpt, Blk.bsn, Blk.trm, Blk.seq] t ∧ t.cal ctx.toNat
      = none ∧ s.counts Port.SEQ_SUPVCNT t ∧ s.raises Irq.LINK_LOST t ∧ (s.resident ctx.toNat = true → t.ctxF
      ctx.toNat 0 8 6 = 4)) ∧
    (∀ (q : Fin 16) (e : Event), (s.event q.val) = some e → cKind e.words = 5 → e.txOnly = false → s.seqState q.val =
      5 → e.join = false → timeLe (cNext e.words + ticks (cw e.words 24 17 10 * 16000)) s.time.link = true → Completes
      (.joinWindowStart q) s fun t => s.touches [.regs, .lanes, .link] [Blk.seq, Blk.lan] t ∧ t.seqState q.val = 2 ∧
      ((t.event q.val).any (·.join)) = true) ∧
    (∀ (q : Fin 16) (e : Event), (s.event q.val) = some e → e.join = true → timeLe (joinTill e.words) s.time.link =
      true → s.seqTx q.val = false → e.lane = none → Completes (.joinWindowEnd q) s fun t => s.touches [.regs, .pends,
      .tx, .link, .evf] [Blk.evf, Blk.seq] t ∧ t.seqState q.val = 7 ∧ ((t.event q.val).any (·.closing)) = true) ∧
    (∀ (q : Fin 16) (kind : SeqFaultKind) (r : Nat), kind ≠ .overrun → s.getF (Port.SEQ_STAT q.val) 17 15 = 1 →
      s.event q.val = none → s.link.calendar = [] → (List.range 16).find? (fun r => decide (s.getF (Port.SEQ_STAT r)
      17 15 = 2)) = some r → Completes (.seqFaultDetect q kind) s fun t => s.touches [.regs, .mem, .pends, .basin,
      .lanes, .tx, .link, .trim, .utv, .evf] [Blk.evf, Blk.hpt, Blk.bsn, Blk.trm, Blk.seq, Blk.lan, Blk.txc] t ∧
      t.getF (Port.SEQ_STAT q.val) 17 15 = 3 ∧ t.getB (Port.SEQ_STAT q.val) 0 = true ∧ t.getF (Port.SEQ_STAT r) 17 15
      = 1 ∧ s.counts Port.TRM_FAULTMIG t ∧ s.raises Irq.SEQ_FAULT t) ∧
    (∀ (m : Master) (q : Fin 16), s.answers m (Port.SEQ_CMD q.val) = true → s.getF (Port.SEQ_STAT q.val) 17 15 = 3 →
      Completes (.seqTest m q) s fun t => s.touches [.link] [] t ∧ Cells.rd (fun _ => 0) t.link.seqTesting q.val = 1 ∧
      ∀ p : Fin 16, p ≠ q → Cells.rd (fun _ => 0) t.link.seqTesting p.val = Cells.rd (fun _ => 0) s.link.seqTesting
      p.val) ∧
    (∀ (m : Master) (q : Fin 16), s.answers m (Port.SEQ_CMD q.val) = true → s.getF (Port.SEQ_STAT q.val) 17 15 ≠ 3 →
      Completes (.seqTest m q) s fun t => t = s) ∧
    (∀ (q : Fin 16), Cells.rd (fun _ => 0) s.link.seqTesting q.val = 1 → Completes (.seqTestDone q true) s fun t =>
      s.touches [.regs, .link] [Blk.seq] t ∧ Cells.rd (fun _ => 0) t.link.seqTesting q.val = 0 ∧ t.getF (Port.SEQ_STAT
      q.val) 17 15 = 2 ∧ t.getB (Port.SEQ_STAT q.val) 0 = false) ∧
    (∀ (q : Fin 16), Cells.rd (fun _ => 0) s.link.seqTesting q.val = 1 → Completes (.seqTestDone q false) s fun t =>
      s.touches [.regs, .link] [Blk.seq] t ∧ Cells.rd (fun _ => 0) t.link.seqTesting q.val = 0 ∧ t.regs = s.regs) ∧
    (∀ (b : Fin 8), Completes (.ledgerSlotBoundary b) s fun t => s.touches [.regs, .pends, .link, .evf] [Blk.evf] t ∧
      (∀ j, s.slotAt b.val s.time.link ≤ j + 128 → Cells.rd (fun _ => 0) (t.ledger b.val).slots j = Cells.rd (fun _ =>
      0) (s.ledger b.val).slots j) ∧ (∀ j, j + 128 < s.slotAt b.val s.time.link → Cells.rd (fun _ => 0) (t.ledger
      b.val).slots j = 0)) ∧
    (∀ (m : Master), s.answers m Port.LTB_ACC_CMD = true → s.fuses.lifeCycle ≤ 1 → Completes (.ledgerClear m) s fun t
      => s.touches [.regs, .pends, .link, .evf] [Blk.evf] t ∧ ∀ b : Fin 8, (t.ledger b.val).slots = []) ∧
    (∀ (m : Master), s.answers m Port.LTB_ACC_CMD = true → 2 ≤ s.fuses.lifeCycle → Completes (.ledgerClear m) s fun t
      => t = s)

/-- The sniff table in Reef 3. (1) An entry whose time has come and whose domains may be restored has their switches
  closed. (2) One whose domains the mask leaves out is counted as skipped, and its NEXT moves on by PERIOD. (3) At
  NEXT the only entry is served: CUR names it and its NEXT moves on by PERIOD. (4) The scheduled end of the listen of
  the last channel, no packet being received, leaves SEQ_0 idle. (5) After its last action, with no other entry due,
  the window ends and the sniff mode is off. -/
def Obligations.SniffWindowsOpenServeAndClose : Prop :=
  ∀ s : State,
    (∀ (e : Fin 8), s.sniffing = true → s.sniffDue e.val = true → s.sniffAble e.val = true → Completes (.sniffRestore
      e) s fun t => s.touches [.regs, .pends, .link, .pwr, .evf] [Blk.sys, Blk.evf, Blk.ltb] t ∧ t.link.sniffOn = true
      ∧ (s.sniffDoms e.val).all (fun d => t.pwr.on.getLsbD d) = true) ∧
    (∀ (e : Fin 8), s.sniffing = true → s.sniffDue e.val = true → s.sniffAble e.val = false → Completes (.sniffRestore
      e) s fun t => s.touches [.regs] [Blk.ltb] t ∧ s.counts Port.LTB_SNF_SKIP t ∧ t.sniffNext e.val = s.sniffNext
      e.val + ticks ((s.get (Port.LTB_SNF_3 e.val)).toNat * 500)) ∧
    (∀ (e : Fin 8), s.sniffing = true → s.link.sniffOn = true → s.sniffKind e.val ≠ 0 → s.link.sniff = none → timeLe
      (s.sniffNext e.val) s.time.link = true → (List.range 8).all (fun f => f == e.val || s.sniffKind f == 0) = true →
      Completes (.sniffWindowStart e) s fun t => s.touches [.regs, .lanes, .link] [Blk.seq, Blk.ltb, Blk.lan] t ∧
      t.getF Port.LTB_SNF_STAT 17 15 = e.val ∧ (t.link.sniff.any fun x => decide (x.1 = e.val ∧ x.2.1 = 0)) = true ∧
      t.sniffNext e.val = s.sniffNext e.val + ticks ((s.get (Port.LTB_SNF_3 e.val)).toNat * 500)) ∧
    (∀ (e i l : Nat), s.link.sniff = some (e, i, true) → timeLe s.link.sniffTill s.time.link = true → s.sniffUnit =
      some l → s.receiving l = false → (s.lane l).discarding = false → s.sniffBins e ≤ i + 1 → Completes
      .sniffListenEnd s fun t => s.touches [.regs, .lanes, .link] [Blk.seq, Blk.ltb, Blk.lan] t ∧ t.seqState 0 = 0 ∧
      t.link.sniff = some (e, i + 1, false) ∧ t.laneState l = 0) ∧
    (∀ (e i : Nat), s.level = 3 → s.link.sniffOn = true → s.link.sniff = some (e, i, false) → s.seqState 0 = 0 →
      s.sniffBins e ≤ i → (List.range 8).all (fun f => !s.sniffDue f) = true → Completes .sniffWindowEnd s fun t =>
      s.touches [.regs, .latch, .time, .mem, .fuses, .rig, .cores, .pends, .basin, .lanes, .rx, .tx, .link, .trim,
      .utv, .flc, .dmc, .sec, .host, .psm, .pwr, .sluice, .evf, .tim, .pins] [Blk.sys, Blk.evf, Blk.hpt, Blk.flc,
      Blk.mem, Blk.dmc, Blk.bsn, Blk.trm, Blk.seq, Blk.rxc, Blk.lan, Blk.txc, Blk.utv, Blk.cph, Blk.mnt, Blk.own] t ∧
      t.link.sniffOn = false ∧ t.link.sniff = none ∧ t.getB Port.PWR_STAT 6 = false)

/-- Events enter the horizon in the order of R173, contexts are fetched in that order, and the context commands act on
  TRM_CTX_ARG. (1) The event that is first of those due enters the horizon, with the entry number next in turn; its
  context, when away, is queued for a fetch. (2) While an event of the context is in progress, it is its next event
  that enters. (3) An event whose entry time has not come, or that has entered, does not enter. (4) The first fetch of
  a context into a free or clean slot makes it resident there with zero words and counts in FETCHCNT. (5) A dirty
  occupant of the slot is written to its home first, is away from then on, and counts in EVICTCNT. (6) With DRAM
  unavailable, or every slot pinned, the context stays waiting. (7) LOOKUP while a context command is pending sets
  OVERRUN and nothing else. (8) So does BELAY. (9) So does UNBELAY. (10) LOOKUP of a resident context answers 0 with
  its slot. (11) LOOKUP of a context that is away answers 5. (12) LOOKUP of a number outside the store answers 1. (13)
  BELAY of a resident context sets its flag and answers 0. (14) With half the slots belayed it answers 2 and sets no
  flag. (15) A BELAY of a context that is away waits for its fetch, BUSY set. (16) With DRAM unavailable it answers 3.
  (17) UNBELAY clears the flag of a belayed context and answers 0. (18) UNBELAY of one that is not belayed answers 4.
  -/
def Obligations.ContextsAreFetchedPinnedAndLookedUp : Prop :=
  ∀ s : State,
    (∀ (ctx : BitVec 14), s.dueEntries.head? = some ctx.toNat → s.eventOf ctx.toNat = none → Completes (.horizonEntry
      ctx) s fun t => s.touches [.regs, .mem, .pends, .basin, .tx, .link, .trim, .evf] [Blk.evf, Blk.hpt, Blk.bsn,
      Blk.trm] t ∧ ((t.cal ctx.toNat).any fun e => e.inHorizon && e.entered == s.link.horizonCount) = true ∧
      t.link.horizonCount = s.link.horizonCount + 1 ∧ (s.resident ctx.toNat = false → ctx.toNat ∈ t.trim.swaps)) ∧
    (∀ (ctx : BitVec 14), s.dueEntries.head? = some ctx.toNat → (s.eventOf ctx.toNat).isSome = true → Completes
      (.horizonEntry ctx) s fun t => s.touches [.regs, .mem, .pends, .basin, .tx, .link, .trim, .evf] [Blk.evf,
      Blk.hpt, Blk.bsn, Blk.trm] t ∧ ((t.cal ctx.toNat).any fun e => e.after.any fun f => f.entered ==
      s.link.horizonCount) = true ∧ t.link.horizonCount = s.link.horizonCount + 1) ∧
    (∀ (ctx : BitVec 14), ctx.toNat ∉ s.dueEntries → Completes (.horizonEntry ctx) s fun t => t = s) ∧
    (∀ (ctx : BitVec 14) (r : List Nat) (k : Nat), s.trim.swaps = ctx.toNat :: r → s.victim = some k → s.dramUp = true
      → Cells.rd (fun _ => 0) s.trim.fetched ctx.toNat = 0 → (s.occupantOf k = 0 ∨ bitOf (s.sramRd (s.slotWord k 63))
      10 = false) → s.link.insertWait ≠ some ctx.toNat → s.trim.belayWait ≠ some ctx.toNat → Completes
      (.contextSwapDone ctx) s fun t => s.touches [.regs, .mem, .pends, .link, .trim, .utv, .dmc, .evf] [Blk.evf,
      Blk.dmc, Blk.trm, Blk.seq] t ∧ t.resident ctx.toNat = true ∧ t.slotNo ctx.toNat = k + 1 ∧ (List.range 63).all
      (fun i => t.sramRd (t.slotWord k i) == 0) = true ∧ s.counts Port.TRM_FETCHCNT t ∧ t.get Port.TRM_EVICTCNT =
      s.get Port.TRM_EVICTCNT ∧ t.trim.swaps = r) ∧
    (∀ (ctx : BitVec 14) (r : List Nat) (k : Nat), s.trim.swaps = ctx.toNat :: r → s.victim = some k → s.dramUp = true
      → Cells.rd (fun _ => 0) s.trim.fetched ctx.toNat = 0 → s.occupantOf k ≠ 0 → s.occupantOf k ≠ ctx.toNat + 1 →
      bitOf (s.sramRd (s.slotWord k 63)) 10 = true → s.link.insertWait ≠ some ctx.toNat → s.trim.belayWait ≠ some
      ctx.toNat → Completes (.contextSwapDone ctx) s fun t => s.touches [.regs, .mem, .pends, .link, .trim, .utv,
      .dmc, .evf] [Blk.evf, Blk.dmc, Blk.trm, Blk.seq] t ∧ t.resident ctx.toNat = true ∧ t.resident (s.occupantOf k -
      1) = false ∧ s.counts Port.TRM_EVICTCNT t ∧ s.counts Port.TRM_FETCHCNT t ∧ (List.range 63).all (fun i =>
      t.homeRd (s.occupantOf k - 1) i == s.sramRd (s.slotWord k i)) = true) ∧
    (∀ (ctx : BitVec 14), (s.dramUp = false ∨ s.victim = none) → s.link.insertWait ≠ some ctx.toNat → s.resident
      ctx.toNat = false → Completes (.contextSwapDone ctx) s fun t => t = s) ∧
    (∀ (m : Master), s.answers m Port.TRM_CTX_CMD = true → s.getB Port.TRM_CTX_STAT 17 = true → Completes (.lookup m)
      s fun t => t = s.setB Port.TRM_CTX_STAT 16 true) ∧
    (∀ (m : Master), s.answers m Port.TRM_CTX_CMD = true → s.getB Port.TRM_CTX_STAT 17 = true → Completes (.belay m) s
      fun t => t = s.setB Port.TRM_CTX_STAT 16 true) ∧
    (∀ (m : Master), s.answers m Port.TRM_CTX_CMD = true → s.getB Port.TRM_CTX_STAT 17 = true → Completes (.unbelay m)
      s fun t => t = s.setB Port.TRM_CTX_STAT 16 true) ∧
    (∀ (m : Master), s.answers m Port.TRM_CTX_CMD = true → s.getB Port.TRM_CTX_STAT 17 = false → s.getF
      Port.TRM_CTX_ARG 13 0 < s.ctxTotal → s.resident (s.getF Port.TRM_CTX_ARG 13 0) = true → Completes (.lookup m) s
      fun t => s.touches [.regs, .mem, .pends, .trim, .evf] [Blk.evf, Blk.trm] t ∧ t.getF Port.TRM_CTX_STAT 14 12 = 0
      ∧ t.getF Port.TRM_CTX_STAT 11 0 = (s.slotNo (s.getF Port.TRM_CTX_ARG 13 0) - 1) % 4096 ∧ s.raises
      Irq.TRM_CTX_DONE t) ∧
    (∀ (m : Master), s.answers m Port.TRM_CTX_CMD = true → s.getB Port.TRM_CTX_STAT 17 = false → s.getF
      Port.TRM_CTX_ARG 13 0 < s.ctxTotal → s.resident (s.getF Port.TRM_CTX_ARG 13 0) = false → Completes (.lookup m) s
      fun t => s.touches [.regs, .mem, .pends, .trim, .evf] [Blk.evf, Blk.trm] t ∧ t.getF Port.TRM_CTX_STAT 14 12 = 5
      ∧ s.raises Irq.TRM_CTX_DONE t) ∧
    (∀ (m : Master), s.answers m Port.TRM_CTX_CMD = true → s.getB Port.TRM_CTX_STAT 17 = false → s.ctxTotal ≤ s.getF
      Port.TRM_CTX_ARG 13 0 → Completes (.lookup m) s fun t => s.touches [.regs, .mem, .pends, .trim, .evf] [Blk.evf,
      Blk.trm] t ∧ t.getF Port.TRM_CTX_STAT 14 12 = 1 ∧ s.raises Irq.TRM_CTX_DONE t) ∧
    (∀ (m : Master), s.answers m Port.TRM_CTX_CMD = true → s.getB Port.TRM_CTX_STAT 17 = false → s.getF
      Port.TRM_CTX_ARG 13 0 < s.ctxTotal → s.resident (s.getF Port.TRM_CTX_ARG 13 0) = true → 2 * s.belayed <
      s.ctxSlots → Completes (.belay m) s fun t => s.touches [.regs, .mem, .pends, .trim, .evf] [Blk.evf, Blk.trm] t ∧
      t.getF Port.TRM_CTX_STAT 14 12 = 0 ∧ t.ctxF (s.getF Port.TRM_CTX_ARG 13 0) 63 11 11 = 1 ∧ s.raises
      Irq.TRM_CTX_DONE t) ∧
    (∀ (m : Master), s.answers m Port.TRM_CTX_CMD = true → s.getB Port.TRM_CTX_STAT 17 = false → s.getF
      Port.TRM_CTX_ARG 13 0 < s.ctxTotal → s.resident (s.getF Port.TRM_CTX_ARG 13 0) = true → s.ctxF (s.getF
      Port.TRM_CTX_ARG 13 0) 63 11 11 = 0 → s.ctxSlots ≤ 2 * s.belayed → Completes (.belay m) s fun t => s.touches
      [.regs, .mem, .pends, .trim, .evf] [Blk.evf, Blk.trm] t ∧ t.getF Port.TRM_CTX_STAT 14 12 = 2 ∧ t.mem = s.mem ∧
      s.raises Irq.TRM_CTX_DONE t) ∧
    (∀ (m : Master), s.answers m Port.TRM_CTX_CMD = true → s.getB Port.TRM_CTX_STAT 17 = false → s.getF
      Port.TRM_CTX_ARG 13 0 < s.ctxTotal → s.resident (s.getF Port.TRM_CTX_ARG 13 0) = false → s.dramUp = true → 2 *
      s.belayed < s.ctxSlots → Completes (.belay m) s fun t => s.touches [.regs, .mem, .pends, .trim, .evf] [Blk.evf,
      Blk.trm] t ∧ t.getB Port.TRM_CTX_STAT 17 = true ∧ t.trim.belayWait = some (s.getF Port.TRM_CTX_ARG 13 0) ∧
      s.getF Port.TRM_CTX_ARG 13 0 ∈ t.trim.swaps) ∧
    (∀ (m : Master), s.answers m Port.TRM_CTX_CMD = true → s.getB Port.TRM_CTX_STAT 17 = false → s.getF
      Port.TRM_CTX_ARG 13 0 < s.ctxTotal → s.resident (s.getF Port.TRM_CTX_ARG 13 0) = false → s.dramUp = false →
      Completes (.belay m) s fun t => s.touches [.regs, .mem, .pends, .trim, .evf] [Blk.evf, Blk.trm] t ∧ t.getF
      Port.TRM_CTX_STAT 14 12 = 3 ∧ t.mem = s.mem ∧ s.raises Irq.TRM_CTX_DONE t) ∧
    (∀ (m : Master), s.answers m Port.TRM_CTX_CMD = true → s.getB Port.TRM_CTX_STAT 17 = false → s.getF
      Port.TRM_CTX_ARG 13 0 < s.ctxTotal → s.resident (s.getF Port.TRM_CTX_ARG 13 0) = true → s.ctxF (s.getF
      Port.TRM_CTX_ARG 13 0) 63 11 11 = 1 → Completes (.unbelay m) s fun t => s.touches [.regs, .mem, .pends, .trim,
      .evf] [Blk.evf, Blk.trm] t ∧ t.getF Port.TRM_CTX_STAT 14 12 = 0 ∧ t.ctxF (s.getF Port.TRM_CTX_ARG 13 0) 63 11 11
      = 0 ∧ s.raises Irq.TRM_CTX_DONE t) ∧
    (∀ (m : Master), s.answers m Port.TRM_CTX_CMD = true → s.getB Port.TRM_CTX_STAT 17 = false → s.getF
      Port.TRM_CTX_ARG 13 0 < s.ctxTotal → (s.resident (s.getF Port.TRM_CTX_ARG 13 0) = false ∨ s.ctxF (s.getF
      Port.TRM_CTX_ARG 13 0) 63 11 11 = 0) → Completes (.unbelay m) s fun t => s.touches [.regs, .mem, .pends, .trim,
      .evf] [Blk.evf, Blk.trm] t ∧ t.getF Port.TRM_CTX_STAT 14 12 = 4 ∧ t.mem = s.mem ∧ s.raises Irq.TRM_CTX_DONE t)

/-- The order keeper takes each lane's first closed packet. (1) A packet closed for delivery whose epoch is the
  context's, no entry of an earlier epoch being open, is committed behind its queue's packets and leaves the lane; no
  other queue changes. (2) So is a packet of a manual lane, which takes no part in the order. (3) One that is not
  delivered leaves the lane and no queue changes. (4) One behind an open entry of an earlier epoch stays. (5) One
  whose epoch is gone is discarded with its cells and counts in LATECNT. (6) A marker of a lane that still holds work
  of the epoch does not arrive. (7) The last marker closes the only entry, whose hole cell returns to the pool. (8)
  One of two leaves it open for the other. (9) A drain timer that has not run out changes nothing. (10) An entry that
  has no hole cell yet takes the next free one of its queue, and its timer starts from now. (11) A timer that has run
  out puts the entry's hole descriptor, with the words R242 gives it, behind the queue's packets, counts in HOLECNT,
  raises TRM_HOLE and closes the entry. -/
def Obligations.TheOrderKeeperCommitsHoldsAndExpires : Prop :=
  ∀ s : State,
    (∀ (l : Fin 64) (g : Staged) (r : List Staged) (c : Nat), (s.lane l.val).stage = g :: r → g.hold = false →
      g.ordered = true → g.ctx = some c → s.heldBehind c g.epoch = false → s.epochGone c g.epoch = false → g.wanted =
      true → Completes (.packetCommit l) s fun t => s.touches [.regs, .mem, .pends, .basin, .lanes, .trim, .utv, .evf]
      [Blk.evf, Blk.hpt, Blk.bsn, Blk.trm] t ∧ t.queue g.queue = s.queue g.queue ++ [g.pkt] ∧ (t.lane l.val).stage = r
      ∧ ∀ q, q ≠ g.queue → t.queue q = s.queue q) ∧
    (∀ (l : Fin 64) (g : Staged) (r : List Staged), (s.lane l.val).stage = g :: r → g.hold = false → g.ordered = false
      → g.wanted = true → Completes (.packetCommit l) s fun t => s.touches [.regs, .mem, .pends, .basin, .lanes,
      .trim, .utv, .evf] [Blk.evf, Blk.hpt, Blk.bsn, Blk.trm] t ∧ t.queue g.queue = s.queue g.queue ++ [g.pkt] ∧
      (t.lane l.val).stage = r ∧ t.trim = s.trim) ∧
    (∀ (l : Fin 64) (g : Staged) (r : List Staged) (c : Nat), (s.lane l.val).stage = g :: r → g.hold = false →
      g.ordered = true → g.ctx = some c → s.heldBehind c g.epoch = false → s.epochGone c g.epoch = false → g.wanted =
      false → Completes (.packetCommit l) s fun t => s.touches [.regs, .mem, .pends, .basin, .lanes, .trim, .utv,
      .evf] [Blk.evf, Blk.hpt, Blk.bsn, Blk.trm] t ∧ t.basin.queues = s.basin.queues ∧ (t.lane l.val).stage = r ∧ ∀ k,
      CellLoc.sram k ∈ g.pkt.cells → Cells.rd (fun _ => 0) t.basin.used k = 0) ∧
    (∀ (l : Fin 64) (g : Staged) (r : List Staged) (c : Nat), (s.lane l.val).stage = g :: r → g.hold = false →
      g.ordered = true → g.ctx = some c → s.heldBehind c g.epoch = true → Completes (.packetCommit l) s fun t => t =
      s) ∧
    (∀ (l : Fin 64) (g : Staged) (r : List Staged) (c : Nat), (s.lane l.val).stage = g :: r → g.hold = false →
      g.ordered = true → g.ctx = some c → s.heldBehind c g.epoch = false → s.epochGone c g.epoch = true → Completes
      (.packetCommit l) s fun t => s.touches [.regs, .mem, .pends, .basin, .lanes, .trim, .utv, .evf] [Blk.evf,
      Blk.hpt, Blk.bsn, Blk.trm] t ∧ t.basin.queues = s.basin.queues ∧ (t.lane l.val).stage = r ∧ s.counts
      Port.TRM_LATECNT t ∧ ∀ k, CellLoc.sram k ∈ g.pkt.cells → Cells.rd (fun _ => 0) t.basin.used k = 0) ∧
    (∀ (l : Fin 64) (ctx : BitVec 14) (epoch : BitVec 6), s.holdsEpoch l.val ctx.toNat epoch = true → Completes
      (.drainMarker l ctx epoch) s fun t => t = s) ∧
    (∀ (l : Fin 64) (ctx : BitVec 14) (epoch : BitVec 6) (e : OkEntry), s.holdsEpoch l.val ctx.toNat epoch = false →
      s.entries = [e] → e.ctx = ctx.toNat → e.epoch = epoch → e.units = [l.val] → Completes (.drainMarker l ctx epoch)
      s fun t => s.touches [.regs, .pends, .basin, .trim, .evf] [Blk.evf, Blk.bsn] t ∧ t.entries = [] ∧ t.basin.queues
      = s.basin.queues ∧ (∀ k, e.hole = some k → Cells.rd (fun _ => 0) t.basin.used k = 0)) ∧
    (∀ (l : Fin 64) (ctx : BitVec 14) (epoch : BitVec 6) (e : OkEntry) (k : Nat), s.holdsEpoch l.val ctx.toNat epoch =
      false → s.entries = [e] → e.ctx = ctx.toNat → e.epoch = epoch → e.units = [l.val, k] → k ≠ l.val → Completes
      (.drainMarker l ctx epoch) s fun t => s.touches [.regs, .pends, .basin, .trim, .evf] [Blk.evf, Blk.bsn] t ∧
      t.entries = [{ e with units := [k] }] ∧ t.basin = s.basin) ∧
    (∀ (ctx : BitVec 14) (epoch : BitVec 6) (e : OkEntry), s.firstEntry ctx.toNat epoch = some e → e.hole.isSome =
      true → timeLe (e.timerFrom + ticks (e.timeout * 16)) s.time.link = false → Completes (.drainTimeout ctx epoch) s
      fun t => t = s) ∧
    (∀ (ctx : BitVec 14) (epoch : BitVec 6) (e : OkEntry), s.entries = [e] → e.ctx = ctx.toNat → e.epoch = epoch →
      e.hole = none → s.queueUp (s.ctxF ctx.toNat 1 6 0) = true → 0 < s.freeCells → Completes (.drainTimeout ctx
      epoch) s fun t => s.touches [.regs, .mem, .pends, .basin, .trim, .evf] [Blk.evf, Blk.hpt, Blk.bsn, Blk.trm] t ∧
      t.entries = [{ e with hole := some s.nextCell, timerFrom := s.time.link }] ∧ Cells.rd (fun _ => 0) t.basin.used
      s.nextCell = s.ctxF ctx.toNat 1 6 0 + 2 ∧ t.basin.queues = s.basin.queues) ∧
    (∀ (ctx : BitVec 14) (epoch : BitVec 6) (e : OkEntry) (k : Nat), s.entries = [e] → e.ctx = ctx.toNat → e.epoch =
      epoch → e.hole = some k → timeLe (e.timerFrom + ticks (e.timeout * 16)) s.time.link = true → Completes
      (.drainTimeout ctx epoch) s fun t => s.touches [.regs, .mem, .pends, .basin, .trim, .evf] [Blk.evf, Blk.hpt,
      Blk.bsn, Blk.trm] t ∧ t.queue (s.ctxF ctx.toNat 1 6 0) = s.queue (s.ctxF ctx.toNat 1 6 0) ++ [holePkt (.sram k)
      epoch] ∧ t.entries = [] ∧ (List.range 8).all (fun i => t.sramRd (s.cellAddr k i) == (holeWords 2 ctx.toNat
      e.opened).getD i 0) = true ∧ s.counts Port.TRM_HOLECNT t ∧ s.raises Irq.TRM_HOLE t)

/-- Trim moves cells between SRAM and DRAM, and asks for a device for a new connection. (1) The first tail cell of the
  chosen queue, which lies one cell above its LOW_MARK, moves to the lowest free spill cell with its eight words. (2)
  With the spill area full nothing moves and SPILLFULL counts. (3) After a resume no spill goes before the open
  packets' fetches and the heads' refills. (4) A refill of one missing head cell brings the queue's first DRAM cell
  into the next free cell with its words and frees its spill cell. (5) An open packet's fetch goes before every
  refill. (6) TRM_PLACE_CMD 1 while a request is busy sets OVERRUN and nothing else. (7) Otherwise it sets BUSY and
  the request is out from now. (8) A lone device that is eligible answers its own request with itself. (9) One that is
  not eligible answers NONE. (10) A member takes the masthead's device. (11) It takes the masthead's NONE. (12) The
  masthead answers its own request with the device it chooses, and counts the placement. (13) After 5 ms without an
  answer the request ends with NO_MASTHEAD. (14) Before that it goes on waiting. -/
def Obligations.SpillRefillAndPlacement : Prop :=
  ∀ s : State,
    (∀ (q h lo c d : Nat) (r : List CellLoc), s.getB Port.BSN_STAT 0 = true → s.dramUp = true → s.domOn 2 = true →
      s.spillHeld = false → s.spillQueue = some q → s.marks q = some (h, lo) → s.occupancy q = lo + 1 → Cells.wf (fun
      _ => 0) s.basin.used = true → Cells.rd (fun _ => 0) s.basin.used c = q + 2 → s.tailCells q = .sram c :: r →
      s.basin.dused.length < s.spillCells → Cells.firstGap 0 s.basin.dused = d → d < s.spillCells → Completes
      .spillBurst s fun t => s.touches [.regs, .mem, .pends, .basin, .dmc, .evf] [Blk.evf, Blk.dmc, Blk.bsn, Blk.trm]
      t ∧ Cells.rd (fun _ => 0) t.basin.used c = 0 ∧ Cells.rd (fun _ => 0) t.basin.dused d = 1 ∧ (List.range 8).all
      (fun i => t.dramWord (spillBase + d) i == s.sramRd (s.cellAddr c i)) = true) ∧
    (∀ (q h lo : Nat), s.getB Port.BSN_STAT 0 = true → s.dramUp = true → s.domOn 2 = true → s.spillHeld = false →
      s.spillQueue = some q → s.marks q = some (h, lo) → lo < s.occupancy q → s.spillCells ≤ s.basin.dused.length →
      Completes .spillBurst s fun t => s.touches [.regs, .mem, .pends, .basin, .dmc, .evf] [Blk.evf, Blk.dmc, Blk.bsn,
      Blk.trm] t ∧ s.counts Port.TRM_SPILLFULL t ∧ t.basin = { s.basin with catchUp := false } ∧ t.mem = s.mem) ∧
    (s.spillHeld = true → Completes .spillBurst s fun t => t = s) ∧
    (∀ (q d : Nat), s.dramUp = true → s.domOn 2 = true → s.openWaits = false → s.refillQueue = some q → s.headLen q +
      1 = s.headCells → 0 < s.freeCells → (s.queueCells q).find? (fun l => !l.near) = some (.dram d) → s.dramBad
      (spillBase + d) = 0 → s.ownerWrong 3 (spillBase + d) = false → Completes .refillBurst s fun t => s.touches
      [.regs, .mem, .pends, .basin, .dmc, .evf] [Blk.evf, Blk.dmc, Blk.bsn] t ∧ (List.range 8).all (fun i => t.sramRd
      (s.cellAddr s.nextCell i) == s.dramWord (spillBase + d) i) = true ∧ Cells.rd (fun _ => 0) t.basin.used
      s.nextCell = q + 2 ∧ Cells.rd (fun _ => 0) t.basin.dused d = 0) ∧
    (s.openWaits = true → Completes .refillBurst s fun t => t = s) ∧
    (∀ (m : Master), s.answers m Port.TRM_PLACE_CMD = true → s.getB Port.TRM_PLACE_STAT 17 = true → Completes
      (.placeRequest m) s fun t => t = s.setB Port.TRM_PLACE_STAT 16 true) ∧
    (∀ (m : Master), s.answers m Port.TRM_PLACE_CMD = true → s.getB Port.TRM_PLACE_STAT 17 = false → Completes
      (.placeRequest m) s fun t => s.touches [.regs, .trim] [Blk.trm] t ∧ t.getB Port.TRM_PLACE_STAT 17 = true ∧
      t.trim.place = some s.time.link) ∧
    (∀ (result device : BitVec 3), s.trim.place.isSome = true → s.stackRole = 0 → s.selfOk = true → Completes
      (.placeAnswer result device) s fun t => s.touches [.regs, .pends, .trim, .evf] [Blk.evf, Blk.trm] t ∧ t.getF
      Port.TRM_PLACE_STAT 14 12 = 0 ∧ t.getF Port.TRM_PLACE_STAT 2 0 = s.utvPos ∧ t.getB Port.TRM_PLACE_STAT 17 =
      false ∧ t.trim.place = none ∧ s.raises Irq.TRM_PLACE_DONE t) ∧
    (∀ (result device : BitVec 3), s.trim.place.isSome = true → s.stackRole = 0 → s.selfOk = false → Completes
      (.placeAnswer result device) s fun t => s.touches [.regs, .pends, .trim, .evf] [Blk.evf, Blk.trm] t ∧ t.getF
      Port.TRM_PLACE_STAT 14 12 = 1 ∧ t.getF Port.TRM_PLACE_STAT 2 0 = 0 ∧ t.getB Port.TRM_PLACE_STAT 17 = false ∧
      t.trim.place = none ∧ s.raises Irq.TRM_PLACE_DONE t) ∧
    (∀ (result device : BitVec 3), s.trim.place.isSome = true → s.stackRole ≠ 0 → s.utvRole < 2 → result = 0 →
      Completes (.placeAnswer result device) s fun t => s.touches [.regs, .pends, .trim, .evf] [Blk.evf, Blk.trm] t ∧
      t.getF Port.TRM_PLACE_STAT 14 12 = 0 ∧ t.getF Port.TRM_PLACE_STAT 2 0 = device.toNat ∧ t.getB
      Port.TRM_PLACE_STAT 17 = false ∧ t.trim.place = none ∧ s.raises Irq.TRM_PLACE_DONE t) ∧
    (∀ (result device : BitVec 3), s.trim.place.isSome = true → s.stackRole ≠ 0 → s.utvRole < 2 → result = 1 →
      Completes (.placeAnswer result device) s fun t => s.touches [.regs, .pends, .trim, .evf] [Blk.evf, Blk.trm] t ∧
      t.getF Port.TRM_PLACE_STAT 14 12 = 1 ∧ t.getF Port.TRM_PLACE_STAT 2 0 = 0 ∧ t.getB Port.TRM_PLACE_STAT 17 =
      false ∧ t.trim.place = none ∧ s.raises Irq.TRM_PLACE_DONE t) ∧
    (∀ (result device : BitVec 3) (d : Nat), s.trim.place.isSome = true → 2 ≤ s.utvRole → s.choose s.utvPos = some d →
      Completes (.placeAnswer result device) s fun t => s.touches [.regs, .pends, .trim, .evf] [Blk.evf, Blk.trm] t ∧
      t.getF Port.TRM_PLACE_STAT 14 12 = 0 ∧ t.getF Port.TRM_PLACE_STAT 2 0 = d % 8 ∧ t.trim.place = none ∧ Cells.rd
      (fun _ => 0) t.trim.placeAdd d = Cells.rd (fun _ => 0) s.trim.placeAdd d + 1 ∧ s.raises Irq.TRM_PLACE_DONE t) ∧
    (∀ (since : BitVec 54), s.trim.place = some since → timeLe (since + 80000) s.time.link = true → Completes
      .placeTimeout s fun t => s.touches [.regs, .pends, .trim, .evf] [Blk.evf, Blk.trm] t ∧ t.getF
      Port.TRM_PLACE_STAT 14 12 = 2 ∧ t.getB Port.TRM_PLACE_STAT 17 = false ∧ t.trim.place = none ∧ s.raises
      Irq.TRM_PLACE_DONE t) ∧
    (∀ (since : BitVec 54), s.trim.place = some since → timeLe (since + 80000) s.time.link = false → Completes
      .placeTimeout s fun t => t = s)

/-- Each master has its own copy of the Basin's command registers; a command acts on the queue that its QARG names.
  (1) OPEN_W given while a command waits is ignored with OVR. (2) ENQUEUE given while a command waits is ignored with
  OVR. (3) ABORT given while a command waits is ignored with OVR. (4) OPEN_W toward a configured queue takes the next
  free cell for the header, charged to the queue, and opens a write packet with result 0 and WCOUNT 0. (5) Toward a
  queue that is not configured it answers 2 and does nothing else. (6) With a write packet open it answers 4 and does
  nothing else. (7) With no cell granted it answers 8 and counts in the queue's NOCELL. (8) A WDATA write within a
  cell stores its word where WCOUNT says, and WCOUNT goes on by one; no other SRAM word changes. (9) The first word of
  a further cell takes that cell. (10) With no write packet open, or 8 192 words written, it sets WFAIL and stores
  nothing. (11) A write of header word 1 to 7 of the open write packet stores it, the Basin's own fields of word 1
  kept; no other SRAM word changes. (12) A write of word 0, or with no packet open, changes nothing. (13) ENQUEUE
  commits the write packet with its LEN in H0 behind the queue's packets, answers 0 and closes it; no other queue
  changes. (14) A LEN longer than the words written is answered with 6 and nothing else. (15) With no write packet
  open ENQUEUE answers 5 and does nothing else. (16) ABORT frees the packet's cells and answers 0 with WCOUNT 0. (17)
  With no write packet open it answers 5 and does nothing else. -/
def Obligations.AMasterWritesAPacket : Prop :=
  ∀ s : State,
    (∀ (m : Master), s.answers m Port.BSN_QCMD = true → s.qBusy m = true → Completes (.openW m) s fun t => t = s.setB
      (bQres m) 16 true) ∧
    (∀ (m : Master), s.answers m Port.BSN_QCMD = true → s.qBusy m = true → Completes (.enqueue m) s fun t => t =
      s.setB (bQres m) 16 true) ∧
    (∀ (m : Master), s.answers m Port.BSN_QCMD = true → s.qBusy m = true → Completes (.abort m) s fun t => t = s.setB
      (bQres m) 16 true) ∧
    (∀ (m : Master), s.answers m Port.BSN_QCMD = true → s.qBusy m = false → s.queueUp (s.argQueue m) = true → (s.copy
      m.num).wpkt = none → s.cellGranted (s.argQueue m) = true → Completes (.openW m) s fun t => s.touches [.regs,
      .mem, .pends, .basin, .link, .utv, .evf] [Blk.evf, Blk.hpt, Blk.bsn, Blk.own] t ∧ t.getF (bQres m) 12 9 = 0 ∧
      (t.copy m.num).wpkt = some (s.argQueue m, ⟨[.sram s.nextCell], 0, 0⟩) ∧ t.get (bWcount m) = 0 ∧ Cells.rd (fun _
      => 0) t.basin.used s.nextCell = s.argQueue m + 2 ∧ t.basin.queues = s.basin.queues) ∧
    (∀ (m : Master), s.answers m Port.BSN_QCMD = true → s.qBusy m = false → s.queueUp (s.argQueue m) = false →
      Completes (.openW m) s fun t => t = s.setF (bQres m) 12 9 2) ∧
    (∀ (m : Master), s.answers m Port.BSN_QCMD = true → s.qBusy m = false → s.queueUp (s.argQueue m) = true → (s.copy
      m.num).wpkt.isSome = true → Completes (.openW m) s fun t => t = s.setF (bQres m) 12 9 4) ∧
    (∀ (m : Master), s.answers m Port.BSN_QCMD = true → s.qBusy m = false → s.queueUp (s.argQueue m) = true → (s.copy
      m.num).wpkt = none → s.cellGranted (s.argQueue m) = false → Completes (.openW m) s fun t => s.touches [.regs,
      .mem, .pends, .basin, .link, .utv, .evf] [Blk.evf, Blk.hpt, Blk.bsn, Blk.own] t ∧ t.getF (bQres m) 12 9 = 8 ∧
      t.basin = s.basin ∧ s.counts (Port.BSN_Q_NOCELL (s.argQueue m)) t) ∧
    (∀ (m : Master) (v : Word) (x c n : Nat) (p : Pkt), s.answers m Port.BSN_WDATA = true → s.qBusy m = false →
      (s.copy m.num).wpkt = some (x, p) → (s.get (bWcount m)).toNat = n → n < 8192 → n % 8 ≠ 0 → p.payCell n = .sram c
      → s.getB Port.MEM_INJ 17 = false → Completes (.wdataWrite m v) s fun t => s.touches [.regs, .mem, .pends,
      .basin, .evf] [Blk.evf, Blk.mem, Blk.bsn, Blk.own] t ∧ t.sramRd (s.cellAddr c (n % 8)) = v ∧ t.get (bWcount m) =
      BitVec.ofNat 18 (n + 1) ∧ t.basin.queues = s.basin.queues ∧ ∀ k, k ≠ s.cellAddr c (n % 8) → t.sramRd k =
      s.sramRd k) ∧
    (∀ (m : Master) (v : Word) (x n : Nat) (p : Pkt), s.answers m Port.BSN_WDATA = true → s.qBusy m = false → (s.copy
      m.num).wpkt = some (x, p) → (s.get (bWcount m)).toNat = n → n < 8192 → n % 8 = 0 → p.cells.length = n / 8 + 1 →
      s.queueUp x = true → s.cellGranted x = true → s.getB Port.MEM_INJ 17 = false → Completes (.wdataWrite m v) s fun
      t => s.touches [.regs, .mem, .pends, .basin, .evf] [Blk.evf, Blk.mem, Blk.bsn, Blk.own] t ∧ t.sramRd (s.cellAddr
      s.nextCell 0) = v ∧ t.get (bWcount m) = BitVec.ofNat 18 (n + 1) ∧ (t.copy m.num).wpkt = some (x, ⟨p.cells ++
      [.sram s.nextCell], p.len, p.epoch⟩) ∧ ∀ k, k ≠ s.cellAddr s.nextCell 0 → t.sramRd k = s.sramRd k) ∧
    (∀ (m : Master) (v : Word), s.answers m Port.BSN_WDATA = true → s.qBusy m = false → ((s.copy m.num).wpkt = none ∨
      8192 ≤ (s.get (bWcount m)).toNat) → Completes (.wdataWrite m v) s fun t => t = s.setB (bQres m) 15 true) ∧
    (∀ (m : Master) (i : Fin 8) (v : Word) (x c : Nat) (p : Pkt), s.answers m (Port.BSN_HDR i.val) = true → i ≠ 0 →
      (s.copy m.num).wpkt = some (x, p) → p.head = .sram c → s.sramBad (s.cellAddr c i.val) = 0 → s.getB Port.MEM_INJ
      17 = false → Completes (.hdrWrite m i v) s fun t => s.touches [.regs, .mem, .basin] [Blk.mem, Blk.own] t ∧
      t.sramRd (s.cellAddr c i.val) = hdrKeep i.val (s.sramRd (s.cellAddr c i.val)) v ∧ t.basin = s.basin ∧ ∀ k, k ≠
      s.cellAddr c i.val → t.sramRd k = s.sramRd k) ∧
    (∀ (m : Master) (i : Fin 8) (v : Word), s.answers m (Port.BSN_HDR i.val) = true → (i = 0 ∨ ((s.copy m.num).wpkt =
      none ∧ (s.copy m.num).rpkt = none)) → Completes (.hdrWrite m i v) s fun t => t = s) ∧
    (∀ (m : Master) (x c len : Nat) (p : Pkt), s.answers m Port.BSN_QCMD = true → s.qBusy m = false → (s.copy
      m.num).wpkt = some (x, p) → s.getF (bQarg m) 13 0 = len → len ≤ 2 * (s.get (bWcount m)).toNat → p.head = .sram c
      → Completes (.enqueue m) s fun t => s.touches [.regs, .mem, .pends, .basin, .link, .utv, .evf] [Blk.evf,
      Blk.hpt, Blk.bsn, Blk.own] t ∧ t.getF (bQres m) 12 9 = 0 ∧ (t.copy m.num).wpkt = none ∧ t.queue x = s.queue x ++
      [⟨p.cells.take (cellsOf len), len, p.epoch⟩] ∧ t.sramRd (s.cellAddr c 0) = inFld 13 0 len ∧ ∀ y, y ≠ x → t.queue
      y = s.queue y) ∧
    (∀ (m : Master) (x : Nat) (p : Pkt), s.answers m Port.BSN_QCMD = true → s.qBusy m = false → (s.copy m.num).wpkt =
      some (x, p) → 2 * (s.get (bWcount m)).toNat < s.getF (bQarg m) 13 0 → Completes (.enqueue m) s fun t => t =
      s.setF (bQres m) 12 9 6) ∧
    (∀ (m : Master), s.answers m Port.BSN_QCMD = true → s.qBusy m = false → (s.copy m.num).wpkt = none → Completes
      (.enqueue m) s fun t => t = s.setF (bQres m) 12 9 5) ∧
    (∀ (m : Master) (x : Nat) (p : Pkt), s.answers m Port.BSN_QCMD = true → s.qBusy m = false → (s.copy m.num).wpkt =
      some (x, p) → Completes (.abort m) s fun t => s.touches [.regs, .mem, .pends, .basin, .link, .utv, .evf]
      [Blk.evf, Blk.hpt, Blk.bsn, Blk.own] t ∧ t.getF (bQres m) 12 9 = 0 ∧ (t.copy m.num).wpkt = none ∧ (∀ c,
      CellLoc.sram c ∈ p.cells → Cells.rd (fun _ => 0) t.basin.used c = 0) ∧ t.get (bWcount m) = 0 ∧ t.basin.queues =
      s.basin.queues) ∧
    (∀ (m : Master), s.answers m Port.BSN_QCMD = true → s.qBusy m = false → (s.copy m.num).wpkt = none → Completes
      (.abort m) s fun t => t = s.setF (bQres m) 12 9 5)

/-- The read side of a master's copy, for the queue that its QARG names. (1) DEQUEUE while a command waits sets OVR
  alone. (2) PEEK while a command waits sets OVR alone. (3) DROP_REM while a command waits sets OVR alone. (4) FORWARD
  while a command waits sets OVR alone. (5) FLUSH while a command waits sets OVR alone. (6) DEQUEUE takes the head
  packet of a readable queue into the master's copy with its header words, RPOS 0, the queue's number and result 0; no
  other queue changes. (7) Of an unconfigured queue it answers 2 alone. (8) Of one it may not read it answers 3 alone.
  (9) With a read packet open it answers 4 alone. (10) Of an empty queue it answers 1 alone. (11) Of a queue whose
  head waits for DRAM it answers 7 alone. (12) Of a TXQ that an event holds it waits, BUSY. (13) A waiting DEQUEUE
  acts once no event holds the queue. (14) So does a waiting FLUSH. (15) While an event holds the queue it goes on
  waiting. (16) PEEK loads the head packet's header words and answers 0; the queues and the copy stand. (17) PEEK of
  an unconfigured queue answers 2 alone. (18) Of one it may not read it answers 3 alone. (19) Of an empty queue it
  answers 1 alone. (20) Of a queue whose head lies in DRAM it answers 7 alone. (21) DROP_REM frees the open read
  packet's cells and answers 0. (22) With none open it answers 5 alone. (23) FORWARD puts the open read packet whole
  behind the packets of the queue that QARG names and answers 0; no other queue changes. (24) With no read packet open
  it answers 5 alone. (25) Toward an unconfigured queue it answers 2 alone. (26) FLUSH of a readable queue that no
  event holds empties it and answers 0; no other queue changes. (27) Of an unconfigured one it answers 2 alone. (28)
  Of one it may not read it answers 3 alone. (29) A read of RDATA returns the payload word at RPOS, which goes on by
  one. (30) Past the packet's last word it returns 0 and sets PAST. (31) At a word that lies in DRAM it returns 0 and
  sets RDWAIT, RPOS standing. -/
def Obligations.AMasterReadsAPacket : Prop :=
  ∀ s : State,
    (∀ (m : Master), s.answers m Port.BSN_QCMD = true → s.qBusy m = true → Completes (.dequeue m) s fun t => t =
      s.setB (bQres m) 16 true) ∧
    (∀ (m : Master), s.answers m Port.BSN_QCMD = true → s.qBusy m = true → Completes (.peek m) s fun t => t = s.setB
      (bQres m) 16 true) ∧
    (∀ (m : Master), s.answers m Port.BSN_QCMD = true → s.qBusy m = true → Completes (.dropRem m) s fun t => t =
      s.setB (bQres m) 16 true) ∧
    (∀ (m : Master), s.answers m Port.BSN_QCMD = true → s.qBusy m = true → Completes (.forward m) s fun t => t =
      s.setB (bQres m) 16 true) ∧
    (∀ (m : Master), s.answers m Port.BSN_QCMD = true → s.qBusy m = true → Completes (.flush m) s fun t => t = s.setB
      (bQres m) 16 true) ∧
    (∀ (m : Master) (p : Pkt) (r : List Pkt), s.answers m Port.BSN_QCMD = true → s.qBusy m = false → s.txqHeld
      (s.argQueue m) = false → s.queueUp (s.argQueue m) = true → s.mayRead m (s.argQueue m) = true → (s.copy
      m.num).rpkt = none → s.queue (s.argQueue m) = p :: r → s.headWaits (s.argQueue m) = false → s.breakAt p = none →
      Completes (.dequeue m) s fun t => s.touches [.regs, .mem, .pends, .basin, .link, .utv, .evf] [Blk.evf, Blk.hpt,
      Blk.bsn, Blk.own] t ∧ t.getF (bQres m) 12 9 = 0 ∧ t.queue (s.argQueue m) = r ∧ (t.copy m.num).rpkt = some
      (s.argQueue m, p) ∧ t.getF (bRpos m) 12 0 = 0 ∧ t.getF (bQres m) 6 0 = s.argQueue m ∧ (List.range 8).all (fun i
      => t.get (bHdr m i) == s.headerWord p i) = true ∧ ∀ y, y ≠ s.argQueue m → t.queue y = s.queue y) ∧
    (∀ (m : Master), s.answers m Port.BSN_QCMD = true → s.qBusy m = false → s.queueUp (s.argQueue m) = false →
      Completes (.dequeue m) s fun t => t = s.setF (bQres m) 12 9 2) ∧
    (∀ (m : Master), s.answers m Port.BSN_QCMD = true → s.qBusy m = false → s.queueUp (s.argQueue m) = true →
      s.mayRead m (s.argQueue m) = false → Completes (.dequeue m) s fun t => t = s.setF (bQres m) 12 9 3) ∧
    (∀ (m : Master), s.answers m Port.BSN_QCMD = true → s.qBusy m = false → s.txqHeld (s.argQueue m) = false →
      s.queueUp (s.argQueue m) = true → s.mayRead m (s.argQueue m) = true → (s.copy m.num).rpkt.isSome = true →
      Completes (.dequeue m) s fun t => t = s.setF (bQres m) 12 9 4) ∧
    (∀ (m : Master), s.answers m Port.BSN_QCMD = true → s.qBusy m = false → s.txqHeld (s.argQueue m) = false →
      s.queueUp (s.argQueue m) = true → s.mayRead m (s.argQueue m) = true → (s.copy m.num).rpkt = none → s.queue
      (s.argQueue m) = [] → Completes (.dequeue m) s fun t => t = s.setF (bQres m) 12 9 1) ∧
    (∀ (m : Master), s.answers m Port.BSN_QCMD = true → s.qBusy m = false → s.txqHeld (s.argQueue m) = false →
      s.queueUp (s.argQueue m) = true → s.mayRead m (s.argQueue m) = true → (s.copy m.num).rpkt = none → s.headWaits
      (s.argQueue m) = true → Completes (.dequeue m) s fun t => t = s.setF (bQres m) 12 9 7) ∧
    (∀ (m : Master), s.answers m Port.BSN_QCMD = true → s.qBusy m = false → s.queueUp (s.argQueue m) = true →
      s.mayRead m (s.argQueue m) = true → s.txqHeld (s.argQueue m) = true → Completes (.dequeue m) s fun t =>
      s.touches [.regs, .mem, .pends, .basin, .link, .utv, .evf] [Blk.evf, Blk.hpt, Blk.bsn, Blk.own] t ∧ (t.copy
      m.num).deferred = 4 + 16 * s.argQueue m ∧ t.qBusy m = true ∧ t.basin.queues = s.basin.queues) ∧
    (∀ (m : Master) (y : Nat) (p : Pkt) (r : List Pkt), (s.copy m.num).deferred = 4 + 16 * y → y < 128 → s.txqHeld y =
      false → s.queueUp y = true → s.mayRead m y = true → (s.copy m.num).rpkt = none → s.queue y = p :: r →
      s.headWaits y = false → s.breakAt p = none → Completes (.deferredQueueCommand m) s fun t => s.touches [.regs,
      .mem, .pends, .basin, .link, .evf] [Blk.evf, Blk.bsn, Blk.own] t ∧ (t.copy m.num).deferred = 0 ∧ t.queue y = r ∧
      (t.copy m.num).rpkt = some (y, p) ∧ t.getF (bQres m) 12 9 = 0) ∧
    (∀ (m : Master) (y : Nat), (s.copy m.num).deferred = 8 + 16 * y → y < 128 → s.txqHeld y = false → s.queueUp y =
      true → s.mayRead m y = true → Completes (.deferredQueueCommand m) s fun t => s.touches [.regs, .mem, .pends,
      .basin, .link, .evf] [Blk.evf, Blk.bsn, Blk.own] t ∧ (t.copy m.num).deferred = 0 ∧ t.queue y = [] ∧ t.getF
      (bQres m) 12 9 = 0) ∧
    (∀ (m : Master), s.txqHeld ((s.copy m.num).deferred / 16) = true → Completes (.deferredQueueCommand m) s fun t =>
      t = s) ∧
    (∀ (m : Master) (p : Pkt) (r : List Pkt), s.answers m Port.BSN_QCMD = true → s.qBusy m = false → s.queueUp
      (s.argQueue m) = true → s.mayRead m (s.argQueue m) = true → s.queue (s.argQueue m) = p :: r → p.head.near = true
      → Completes (.peek m) s fun t => s.touches [.regs, .mem, .pends, .basin, .link, .utv, .evf] [Blk.evf, Blk.hpt,
      Blk.bsn, Blk.own] t ∧ t.getF (bQres m) 12 9 = 0 ∧ (List.range 8).all (fun i => t.get (bHdr m i) == s.headerWord
      p i) = true ∧ t.basin = s.basin) ∧
    (∀ (m : Master), s.answers m Port.BSN_QCMD = true → s.qBusy m = false → s.queueUp (s.argQueue m) = false →
      Completes (.peek m) s fun t => t = s.setF (bQres m) 12 9 2) ∧
    (∀ (m : Master), s.answers m Port.BSN_QCMD = true → s.qBusy m = false → s.queueUp (s.argQueue m) = true →
      s.mayRead m (s.argQueue m) = false → Completes (.peek m) s fun t => t = s.setF (bQres m) 12 9 3) ∧
    (∀ (m : Master), s.answers m Port.BSN_QCMD = true → s.qBusy m = false → s.queueUp (s.argQueue m) = true →
      s.mayRead m (s.argQueue m) = true → s.queue (s.argQueue m) = [] → Completes (.peek m) s fun t => t = s.setF
      (bQres m) 12 9 1) ∧
    (∀ (m : Master), s.answers m Port.BSN_QCMD = true → s.qBusy m = false → s.queueUp (s.argQueue m) = true →
      s.mayRead m (s.argQueue m) = true → s.headAway (s.argQueue m) = true → Completes (.peek m) s fun t => t = s.setF
      (bQres m) 12 9 7) ∧
    (∀ (m : Master) (x : Nat) (p : Pkt), s.answers m Port.BSN_QCMD = true → s.qBusy m = false → (s.copy m.num).rpkt =
      some (x, p) → Completes (.dropRem m) s fun t => s.touches [.regs, .mem, .pends, .basin, .link, .utv, .evf]
      [Blk.evf, Blk.hpt, Blk.bsn, Blk.own] t ∧ t.getF (bQres m) 12 9 = 0 ∧ (t.copy m.num).rpkt = none ∧ (∀ c,
      CellLoc.sram c ∈ p.cells → Cells.rd (fun _ => 0) t.basin.used c = 0) ∧ t.basin.queues = s.basin.queues) ∧
    (∀ (m : Master), s.answers m Port.BSN_QCMD = true → s.qBusy m = false → (s.copy m.num).rpkt = none → Completes
      (.dropRem m) s fun t => t = s.setF (bQres m) 12 9 5) ∧
    (∀ (m : Master) (x : Nat) (p : Pkt), s.answers m Port.BSN_QCMD = true → s.qBusy m = false → s.queueUp (s.argQueue
      m) = true → (s.copy m.num).rpkt = some (x, p) → Completes (.forward m) s fun t => s.touches [.regs, .mem,
      .pends, .basin, .link, .utv, .evf] [Blk.evf, Blk.hpt, Blk.bsn, Blk.own] t ∧ t.getF (bQres m) 12 9 = 0 ∧ (t.copy
      m.num).rpkt = none ∧ t.queue (s.argQueue m) = s.queue (s.argQueue m) ++ [p] ∧ ∀ y, y ≠ s.argQueue m → t.queue y
      = s.queue y) ∧
    (∀ (m : Master), s.answers m Port.BSN_QCMD = true → s.qBusy m = false → (s.copy m.num).rpkt = none → Completes
      (.forward m) s fun t => t = s.setF (bQres m) 12 9 5) ∧
    (∀ (m : Master), s.answers m Port.BSN_QCMD = true → s.qBusy m = false → (s.copy m.num).rpkt.isSome = true →
      s.queueUp (s.argQueue m) = false → Completes (.forward m) s fun t => t = s.setF (bQres m) 12 9 2) ∧
    (∀ (m : Master), s.answers m Port.BSN_QCMD = true → s.qBusy m = false → s.txqHeld (s.argQueue m) = false →
      s.queueUp (s.argQueue m) = true → s.mayRead m (s.argQueue m) = true → Completes (.flush m) s fun t => s.touches
      [.regs, .mem, .pends, .basin, .link, .utv, .evf] [Blk.evf, Blk.hpt, Blk.bsn, Blk.own] t ∧ t.getF (bQres m) 12 9
      = 0 ∧ t.queue (s.argQueue m) = [] ∧ ∀ y, y ≠ s.argQueue m → t.queue y = s.queue y) ∧
    (∀ (m : Master), s.answers m Port.BSN_QCMD = true → s.qBusy m = false → s.queueUp (s.argQueue m) = false →
      Completes (.flush m) s fun t => t = s.setF (bQres m) 12 9 2) ∧
    (∀ (m : Master), s.answers m Port.BSN_QCMD = true → s.qBusy m = false → s.queueUp (s.argQueue m) = true →
      s.mayRead m (s.argQueue m) = false → Completes (.flush m) s fun t => t = s.setF (bQres m) 12 9 3) ∧
    (∀ (m : Master) (x w c : Nat) (p : Pkt), s.answers m Port.BSN_RDATA = true → s.qBusy m = false → (s.copy
      m.num).rpkt = some (x, p) → s.breakAt p = none → s.getF (bRpos m) 12 0 = w → w < 8191 → 2 * w < p.len →
      p.payCell w = .sram c → s.sramBad (s.cellAddr c (w % 8)) = 0 → Completes (.rdataRead m) s fun t => s.touches
      [.regs, .latch, .mem, .pends, .basin, .evf] [Blk.evf, Blk.bsn, Blk.own] t ∧ Cells.rd (fun _ => 0) t.latch.data
      m.num = s.payWord p w ∧ t.getF (bRpos m) 12 0 = w + 1 ∧ (t.copy m.num).rpkt = some (x, p) ∧ t.basin.queues =
      s.basin.queues) ∧
    (∀ (m : Master) (x : Nat) (p : Pkt), s.answers m Port.BSN_RDATA = true → s.qBusy m = false → (s.copy m.num).rpkt =
      some (x, p) → s.breakAt p = none → (p.len + 1) / 2 ≤ s.getF (bRpos m) 12 0 → Completes (.rdataRead m) s fun t =>
      s.touches [.regs, .latch, .mem, .pends, .basin, .evf] [Blk.evf, Blk.bsn, Blk.own] t ∧ Cells.rd (fun _ => 0)
      t.latch.data m.num = 0 ∧ t.getB (bQres m) 13 = true) ∧
    (∀ (m : Master) (x : Nat) (p : Pkt), s.answers m Port.BSN_RDATA = true → s.qBusy m = false → (s.copy m.num).rpkt =
      some (x, p) → s.breakAt p = none → 2 * s.getF (bRpos m) 12 0 < p.len → (p.payCell (s.getF (bRpos m) 12 0)).near
      = false → Completes (.rdataRead m) s fun t => s.touches [.regs, .latch, .mem, .pends, .basin, .evf] [Blk.evf,
      Blk.bsn, Blk.own] t ∧ Cells.rd (fun _ => 0) t.latch.data m.num = 0 ∧ t.getB (bQres m) 14 = true ∧ t.get (bRpos
      m) = s.get (bRpos m))

/-- The Basin's own work on its pool and its queues. (1) A 1 written to the IE bit of a non-empty queue raises
  BSN_QREADY. (2) A write that sets no bit of a non-empty queue only stores its 16 bits. (3) The idle timer of a
  non-empty queue that runs out flags TAIL_IDLE and raises it, once until it restarts. (4) One that is off, of an
  empty queue, not yet due or already reported changes nothing. (5) BSN_AUDIT_CMD 1 starts an audit. (6) At its end
  the cells that nothing reaches are back in the pool and the others stand. (7) The DRAM cell of an open read packet
  is fetched into the next free cell and its spill cell freed. (8) With no DRAM available, or no free cell, nothing is
  fetched. (9) While DRAM is available its flushed cells return to the spill area and the others stand. (10) While it
  is not, they wait. (11) A freeze by a failing block stalls the controller and records cause, port, groups, block and
  tag; it counts in FRZCNT and flags the freeze. (12) In RUN a command-path cause freezes it too, with free values for
  block and tag. (13) No freeze comes with PD_DRAMC off, or of cause 0 or 7. (14) RESUME after a freeze by a failing
  block returns the controller to the state it froze from. (15) In any other state it flags a command error. -/
def Obligations.TheBasinKeepsItsPool : Prop :=
  ∀ s : State,
    (∀ (m : Master) (g : Fin 8) (v : Word), s.answers m (Port.BSN_IE g.val) = true → (List.range 16).any (fun i =>
      bitOf v i && !(s.queue (16 * g.val + i)).isEmpty) = true → Completes (.ieWrite m g v) s fun t => s.touches
      [.regs, .pends, .evf] [Blk.evf, Blk.bsn] t ∧ t.get (Port.BSN_IE g.val) = v &&& fieldMask 15 0 ∧ s.raises
      Irq.BSN_QREADY t) ∧
    (∀ (m : Master) (g : Fin 8) (v : Word), s.answers m (Port.BSN_IE g.val) = true → (List.range 16).any (fun i =>
      bitOf v i && !(s.queue (16 * g.val + i)).isEmpty) = false → Completes (.ieWrite m g v) s fun t => t = s.set
      (Port.BSN_IE g.val) (v &&& fieldMask 15 0)) ∧
    (∀ (q : Fin 128), s.queueUp q.val = true → s.getF (Port.BSN_Q_IDLE q.val) 11 0 ≠ 0 → s.queue q.val ≠ [] →
      s.idleDue q.val = true → Cells.rd (fun _ => 0) s.basin.idleSaid q.val = 0 → Completes (.tailIdleExpiry q) s fun
      t => s.touches [.regs, .pends, .basin, .evf] [Blk.evf, Blk.bsn] t ∧ t.getB (Port.BSN_Q_STAT q.val) 3 = true ∧
      Cells.rd (fun _ => 0) t.basin.idleSaid q.val = 1 ∧ t.basin.queues = s.basin.queues ∧ s.raises Irq.TAIL_IDLE t) ∧
    (∀ (q : Fin 128), (s.getF (Port.BSN_Q_IDLE q.val) 11 0 = 0 ∨ s.queue q.val = [] ∨ s.idleDue q.val = false ∨
      Cells.rd (fun _ => 0) s.basin.idleSaid q.val = 1) → Completes (.tailIdleExpiry q) s fun t => t = s) ∧
    (∀ (m : Master), s.answers m Port.BSN_AUDIT_CMD = true → Completes (.audit m) s fun t => s.touches [.regs]
      [Blk.bsn] t ∧ t.getB Port.BSN_STAT 2 = true ∧ t.basin = s.basin) ∧
    (s.getB Port.BSN_STAT 2 = true → Completes .auditDone s fun t => s.touches [.regs, .basin] [Blk.bsn] t ∧ t.getB
      Port.BSN_STAT 2 = false ∧ t.basin.queues = s.basin.queues ∧ (∀ c, CellLoc.sram c ∉ s.reachable → Cells.rd (fun _
      => 0) t.basin.used c = 0) ∧ (∀ c, CellLoc.sram c ∈ s.reachable → Cells.rd (fun _ => 0) t.basin.used c = Cells.rd
      (fun _ => 0) s.basin.used c)) ∧
    (∀ (m : Master) (x k d n : Nat) (e : BitVec 6), s.dramUp = true → 0 < s.freeCells → (s.copy m.num).rpkt = some (x,
      ⟨[.sram k, .dram d], n, e⟩) → s.dramBad (spillBase + d) = 0 → s.ownerWrong 3 (spillBase + d) = false → (∀ c,
      m.core = some c → (s.core c).apWait = none) → Completes (.openPacketFetch m) s fun t => s.touches [.regs, .mem,
      .pends, .basin, .dmc, .evf] [Blk.evf, Blk.dmc, Blk.bsn] t ∧ (t.copy m.num).rpkt = some (x, ⟨[.sram k, .sram
      s.nextCell], n, e⟩) ∧ (List.range 8).all (fun i => t.sramRd (s.cellAddr s.nextCell i) == s.dramWord (spillBase +
      d) i) = true ∧ Cells.rd (fun _ => 0) t.basin.dused d = 0 ∧ t.basin.queues = s.basin.queues) ∧
    (∀ (m : Master), (s.dramUp = false ∨ s.freeCells = 0) → (∀ c, m.core = some c → (s.core c).apWait = none) →
      Completes (.openPacketFetch m) s fun t => t = s) ∧
    (∀ (d : Nat), s.dramUp = true → (s.basin.dused.filter fun x => x.1 == d).length ≤ 1 → Completes .dramReclaim s fun
      t => s.touches [.basin] [] t ∧ (Cells.rd (fun _ => 0) s.basin.dused d = 2 → Cells.rd (fun _ => 0) t.basin.dused
      d = 0) ∧ (Cells.rd (fun _ => 0) s.basin.dused d ≠ 2 → Cells.rd (fun _ => 0) t.basin.dused d = Cells.rd (fun _ =>
      0) s.basin.dused d) ∧ t.basin.queues = s.basin.queues) ∧
    (s.dramUp = false → Completes .dramReclaim s fun t => t = s) ∧
    (∀ (cause port groups : BitVec 3) (block : BitVec 25) (tag : BitVec 16), s.domOn 12 = true → (s.dmcState = 3 ∨
      s.dmcState = 4) → 1 ≤ cause.toNat → cause.toNat ≤ 3 → Completes (.dmcFreeze cause port groups block tag) s fun t
      => s.touches [.regs, .pends, .dmc, .evf] [Blk.evf, Blk.dmc] t ∧ t.dmcState = 6 ∧ t.getF Port.DMC_FRZ_CAUSE 17 15
      = cause.toNat ∧ t.getF Port.DMC_FRZ_CAUSE 14 12 = port.toNat ∧ t.getF Port.DMC_FRZ_CAUSE 11 9 = groups.toNat ∧
      t.getWide Port.DMC_FRZ_ADDR_0 2 = block.toNat ∧ (t.get Port.DMC_FRZ_TAG).toNat = tag.toNat ∧ s.counts
      Port.DMC_FRZCNT t ∧ t.getB Port.DMC_FLAGS 4 = true ∧ t.dmc.frozeFrom = s.dmcState ∧ s.raises Irq.DMC_EVT t) ∧
    (∀ (cause port groups : BitVec 3) (block : BitVec 25) (tag : BitVec 16), s.domOn 12 = true → s.dmcState = 4 → 4 ≤
      cause.toNat → cause.toNat ≤ 6 → Completes (.dmcFreeze cause port groups block tag) s fun t => s.touches [.regs,
      .pends, .dmc, .evf] [Blk.evf, Blk.dmc] t ∧ t.dmcState = 6 ∧ t.getF Port.DMC_FRZ_CAUSE 17 15 = cause.toNat ∧
      s.counts Port.DMC_FRZCNT t ∧ t.getB Port.DMC_FLAGS 4 = true ∧ t.dmc.frozeFrom = 4) ∧
    (∀ (cause port groups : BitVec 3) (block : BitVec 25) (tag : BitVec 16), (s.domOn 12 = false ∨ cause = 0 ∨ cause =
      7) → Completes (.dmcFreeze cause port groups block tag) s fun t => t = s) ∧
    (∀ (m : Master), s.answers m Port.DMC_CMD = true → s.dmcState = 6 → s.getF Port.DMC_FRZ_CAUSE 17 15 < 4 →
      s.dmc.frozeFrom < 8 → Completes (.resume m) s fun t => s.touches [.regs, .pends, .basin, .dmc, .evf] [Blk.evf,
      Blk.dmc] t ∧ t.dmcState = s.dmc.frozeFrom ∧ t.basin.catchUp = true) ∧
    (∀ (m : Master), s.answers m Port.DMC_CMD = true → s.dmcState ≠ 6 → Completes (.resume m) s fun t => s.touches
      [.regs, .pends, .basin, .dmc, .evf] [Blk.evf, Blk.dmc] t ∧ t.getB Port.DMC_FLAGS 1 = true ∧ t.dmcState =
      s.dmcState ∧ t.dmc = s.dmc ∧ s.raises Irq.DMC_EVT t)

/-- A port goes through the states of R252 one by one; the other port keeps its state. (1) Symbol lock takes a DOWN
  port to DELAY. (2) In any other state it changes nothing. (3) The exchanges set DELAY and take the port to HELLO.
  (4) In any other state they change nothing. (5) A HELLO of the right neighbour and size takes the port to UP with
  the neighbour's position if its check word is right; if it is wrong, it sets bit 10 and the port goes to FAULT. (6)
  One from the wrong position, or of another size, sets bit 9 and the port goes to FAULT. (7) A bad frame in HELLO is
  answered by NAK. (8) A HELLO in another state, or before a Rig is applied, changes nothing. (9) IDLE_R makes an UP
  port ACTIVE; the device's first ACTIVE port starts the wait for a sync. (10) A later one only becomes ACTIVE. (11)
  In any other state IDLE_R changes nothing. (12) An ACTIVE port that falls is DOWN, counts in DOWNCNT and raises
  UTV_LINK; the device's own unacknowledged frames with a pair number are kept to be sent again. (13) It does not fall
  for retries before a frame was sent 8 times, and a port that is not ACTIVE does not fall. (14) RETRAIN takes a FAULT
  port to DOWN with its two error bits clear. (15) In any other state it changes nothing. (16) An ACTIVE port takes
  the delay it measures again. (17) A port that is not ACTIVE does not. -/
def Obligations.APortTrainsAndFalls : Prop :=
  ∀ s : State,
    (∀ (p : Fin 2), s.lstate p.val = 1 → Completes (.symbolLock p) s fun t => t = s.setF (Port.UTV_P_STAT p.val) 17 15
      2) ∧
    (∀ (p : Fin 2), s.lstate p.val ≠ 1 → Completes (.symbolLock p) s fun t => t = s) ∧
    (∀ (p : Fin 2) (units : BitVec 12), s.lstate p.val = 2 → Completes (.delayMeasured p units) s fun t => t = (s.set
      (Port.UTV_P_DELAY p.val) (units.setWidth 18)).setF (Port.UTV_P_STAT p.val) 17 15 3) ∧
    (∀ (p : Fin 2) (units : BitVec 12), s.lstate p.val ≠ 2 → Completes (.delayMeasured p units) s fun t => t = s) ∧
    (∀ (p : Fin 2) (f : UFrame), s.lstate p.val = 3 → s.rig.applied = true → frameOk f = true → fType f = 6 → fNgrp f
      = 1 → fld ((fBody f).getD 0 0) 8 6 = s.stackSize → fld ((fBody f).getD 0 0) 14 12 = (if p.val = 0 then (s.utvPos
      + 1) % s.ringN else (s.utvPos + s.ringN - 1) % s.ringN) → Completes (.helloFrame p f) s fun t => s.touches
      [.regs, .utv] [Blk.utv] t ∧ (if ((fBody f).getD 1 0).toNat + 262144 * fld ((fBody f).getD 2 0) 13 0 =
      s.helloCheck then t.lstate p.val = 4 ∧ t.getF (Port.UTV_P_STAT p.val) 14 12 = fld ((fBody f).getD 0 0) 14 12 ∧
      (t.uport p.val).answer = 1 else t.lstate p.val = 6 ∧ t.getB (Port.UTV_P_STAT p.val) 10 = true) ∧ t.lstate (1 -
      p.val) = s.lstate (1 - p.val)) ∧
    (∀ (p : Fin 2) (f : UFrame), s.lstate p.val = 3 → s.rig.applied = true → frameOk f = true → fType f = 6 → fNgrp f
      = 1 → (fld ((fBody f).getD 0 0) 14 12 ≠ (if p.val = 0 then (s.utvPos + 1) % s.ringN else (s.utvPos + s.ringN -
      1) % s.ringN) ∨ fld ((fBody f).getD 0 0) 8 6 ≠ s.stackSize) → Completes (.helloFrame p f) s fun t => s.touches
      [.regs, .utv] [Blk.utv] t ∧ t.lstate p.val = 6 ∧ t.getB (Port.UTV_P_STAT p.val) 9 = true ∧ t.lstate (1 - p.val)
      = s.lstate (1 - p.val)) ∧
    (∀ (p : Fin 2) (f : UFrame), s.lstate p.val = 3 → s.rig.applied = true → frameOk f = false → Completes
      (.helloFrame p f) s fun t => t = s.updPort p.val fun u => { u with answer := 2 }) ∧
    (∀ (p : Fin 2) (f : UFrame), (s.lstate p.val ≠ 3 ∨ s.rig.applied = false) → Completes (.helloFrame p f) s fun t =>
      t = s) ∧
    (∀ (p : Fin 2), s.lstate p.val = 4 → s.utv.started = false → Completes (.portActive p) s fun t => s.touches
      [.regs, .utv] [Blk.utv] t ∧ t.lstate p.val = 5 ∧ t.getB (Port.UTV_P_STAT p.val) 11 = true ∧ t.utv =
      { s.utv with started := true, lastSync := s.time.link } ∧ t.tstate = 1 ∧ t.lstate (1 - p.val) = s.lstate (1 -
      p.val)) ∧
    (∀ (p : Fin 2), s.lstate p.val = 4 → s.utv.started = true → Completes (.portActive p) s fun t => s.touches [.regs,
      .utv] [Blk.utv] t ∧ t.lstate p.val = 5 ∧ t.getB (Port.UTV_P_STAT p.val) 11 = true ∧ t.utv = s.utv ∧ t.lstate (1
      - p.val) = s.lstate (1 - p.val)) ∧
    (∀ (p : Fin 2), s.lstate p.val ≠ 4 → Completes (.portActive p) s fun t => t = s) ∧
    (∀ (p : Fin 2) (why : DownWhy), s.lstate p.val = 5 → (why ≠ .retries ∨ s.exhausted p.val = true) → Completes
      (.linkDown p why) s fun t => s.touches [.regs, .pends, .utv, .evf] [Blk.evf, Blk.utv] t ∧ t.lstate p.val = 1 ∧
      t.getB (Port.UTV_P_STAT p.val) 11 = false ∧ (t.uport p.val).unacked = [] ∧ (t.uport p.val).transit = [] ∧
      t.utv.redo = s.utv.redo ++ (((s.uport p.val).unacked.filter fun x => decide (fSrc x.1 = s.utvPos) && fPaired
      x.1).map fun y => (y.1, y.2.2)) ∧ s.counts (Port.UTV_P_DOWNCNT p.val) t ∧ s.raises Irq.UTV_LINK t ∧ t.lstate (1
      - p.val) = s.lstate (1 - p.val)) ∧
    (∀ (p : Fin 2) (why : DownWhy), (s.lstate p.val ≠ 5 ∨ (why = .retries ∧ s.exhausted p.val = false)) → Completes
      (.linkDown p why) s fun t => t = s) ∧
    (∀ (m : Master) (p : Fin 2), s.answers m (Port.UTV_P_CMD p.val) = true → s.lstate p.val = 6 → Completes (.retrain
      m p) s fun t => s.touches [.regs] [Blk.utv] t ∧ t.lstate p.val = 1 ∧ t.getF (Port.UTV_P_STAT p.val) 10 9 = 0 ∧
      t.lstate (1 - p.val) = s.lstate (1 - p.val)) ∧
    (∀ (m : Master) (p : Fin 2), s.answers m (Port.UTV_P_CMD p.val) = true → s.lstate p.val ≠ 6 → Completes (.retrain
      m p) s fun t => t = s) ∧
    (∀ (p : Fin 2) (units : BitVec 12), s.lstate p.val = 5 → Completes (.delayRemeasure p units) s fun t => t = s.set
      (Port.UTV_P_DELAY p.val) (units.setWidth 18)) ∧
    (∀ (p : Fin 2) (units : BitVec 12), s.lstate p.val ≠ 5 → Completes (.delayRemeasure p units) s fun t => t = s)

/-- A port sends its frames one at a time and keeps each until its ACK. (1) An ACK takes away the frame it names and
  those sent before it, and sets the credit. (2) The packet whose DATA frame is acknowledged leaves its queue. (3) An
  ACK that names no unacknowledged frame sets the credit only. (4) A NAK resends every unacknowledged frame, each sent
  one time more, counts once in NAKCNT and the frames in RETRYCNT. (5) A NAK when a frame was sent 8 times takes the
  port down. (6) A NAK with nothing unacknowledged counts and does nothing else. (7) 20 µs without an ACK resend in
  the same way, without NAKCNT. (8) They take the port down once a frame was sent 8 times. (9) With nothing
  unacknowledged, or on a port that is not ACTIVE, they do nothing. (10) An ACTIVE port with room sends its first
  transit frame: it takes the next HSEQ, its groups are charged, and it waits for its ACK. (11) With no transit frame,
  a SYNC or LOAD frame that waits goes next. (12) With neither, the next local frame that was posted goes, with its
  destination's next pair number. (13) Else the first packet of an egress queue that was not yet sent goes as a DATA
  frame and stays in its queue. (14) A port that is not ACTIVE, or has no room for its transit frame, sends nothing.
  (15) A position that a frame waits for and that neither port hears raises UTV_UNREACH. (16) UTV_WAKE_CMD starts a
  burst of 320 ticks on each port named and leaves the other ports alone. (17) A burst that reaches a port which is
  not ACTIVE is a wake from source 4, where that source is enabled. (18) It owes the burst on its other port, when the
  device sleeps with PD_UTVIS off. (19) An ACTIVE port ignores a burst, and so does every port while source 4 is not
  enabled. -/
def Obligations.FramesAreSentAcknowledgedAndResent : Prop :=
  ∀ s : State,
    (∀ (p : Fin 2) (hseq : BitVec 6) (credit : BitVec 16) (a r : List (UFrame × Nat × Nat)) (x : UFrame × Nat × Nat),
      s.lstate p.val = 5 → (s.uport p.val).unacked = a ++ x :: r → fHseq x.1 = hseq.toNat → a.all (fun y => decide
      (fHseq y.1 ≠ hseq.toNat)) = true → Completes (.ackReceived p hseq credit) s fun t => s.touches [.regs, .pends,
      .basin, .link, .utv, .evf] [Blk.evf, Blk.bsn] t ∧ (t.uport p.val).unacked = r ∧ (t.uport p.val).credit = credit
      ∧ t.uport (1 - p.val) = s.uport (1 - p.val)) ∧
    (∀ (p : Fin 2) (hseq : BitVec 6) (credit : BitVec 16) (r : List (UFrame × Nat × Nat)) (f : UFrame) (n q : Nat) (k
      : Pkt) (l : List Pkt), s.lstate p.val = 5 → (s.uport p.val).unacked = (f, n, q + 1) :: r → fHseq f = hseq.toNat
      → s.queue q = k :: l → Completes (.ackReceived p hseq credit) s fun t => s.touches [.regs, .pends, .basin,
      .link, .utv, .evf] [Blk.evf, Blk.bsn] t ∧ t.queue q = l ∧ ∀ y, y ≠ q → t.queue y = s.queue y) ∧
    (∀ (p : Fin 2) (hseq : BitVec 6) (credit : BitVec 16), s.lstate p.val = 5 → (s.uport p.val).unacked.all (fun y =>
      decide (fHseq y.1 ≠ hseq.toNat)) = true → Completes (.ackReceived p hseq credit) s fun t => t = s.updPort p.val
      fun u => { u with credit := credit }) ∧
    (∀ (p : Fin 2) (hseq : BitVec 6), s.lstate p.val = 5 → (s.uport p.val).unacked ≠ [] → s.exhausted p.val = false →
      Completes (.nakReceived p hseq) s fun t => s.touches [.regs, .pends, .utv, .evf] [Blk.evf, Blk.utv] t ∧ (t.uport
      p.val).unacked = (s.uport p.val).unacked.map (fun x => (x.1, x.2.1 + 1, x.2.2)) ∧ s.counts (Port.UTV_P_NAKCNT
      p.val) t ∧ (t.get (Port.UTV_P_RETRYCNT p.val)).toNat = min 262143 ((s.get (Port.UTV_P_RETRYCNT p.val)).toNat +
      (s.uport p.val).unacked.length) ∧ t.lstate p.val = 5) ∧
    (∀ (p : Fin 2) (hseq : BitVec 6), s.lstate p.val = 5 → s.exhausted p.val = true → Completes (.nakReceived p hseq)
      s fun t => s.touches [.regs, .pends, .utv, .evf] [Blk.evf, Blk.utv] t ∧ t.lstate p.val = 1 ∧ (t.uport
      p.val).unacked = [] ∧ s.counts (Port.UTV_P_DOWNCNT p.val) t ∧ s.raises Irq.UTV_LINK t) ∧
    (∀ (p : Fin 2) (hseq : BitVec 6), s.lstate p.val = 5 → (s.uport p.val).unacked = [] → Completes (.nakReceived p
      hseq) s fun t => t = s.count (Port.UTV_P_NAKCNT p.val)) ∧
    (∀ (p : Fin 2), s.lstate p.val = 5 → (s.uport p.val).unacked ≠ [] → s.exhausted p.val = false → Completes
      (.resendTimeout p) s fun t => s.touches [.regs, .pends, .utv, .evf] [Blk.evf, Blk.utv] t ∧ (t.uport
      p.val).unacked = (s.uport p.val).unacked.map (fun x => (x.1, x.2.1 + 1, x.2.2)) ∧ t.get (Port.UTV_P_NAKCNT
      p.val) = s.get (Port.UTV_P_NAKCNT p.val) ∧ (t.get (Port.UTV_P_RETRYCNT p.val)).toNat = min 262143 ((s.get
      (Port.UTV_P_RETRYCNT p.val)).toNat + (s.uport p.val).unacked.length) ∧ t.lstate p.val = 5) ∧
    (∀ (p : Fin 2), s.lstate p.val = 5 → s.exhausted p.val = true → Completes (.resendTimeout p) s fun t => s.touches
      [.regs, .pends, .utv, .evf] [Blk.evf, Blk.utv] t ∧ t.lstate p.val = 1 ∧ s.counts (Port.UTV_P_DOWNCNT p.val) t) ∧
    (∀ (p : Fin 2), (s.lstate p.val ≠ 5 ∨ (s.uport p.val).unacked = []) → Completes (.resendTimeout p) s fun t => t =
      s) ∧
    (∀ (p : Fin 2) (f : UFrame) (r : List UFrame), s.lstate p.val = 5 → (s.uport p.val).transit = f :: r → s.roomFor
      p.val f = true → Completes (.egressFrameSend p) s fun t => s.touches [.regs, .mem, .pends, .basin, .utv, .evf]
      [Blk.evf, Blk.bsn] t ∧ (t.uport p.val).transit = r ∧ (t.uport p.val).txHseq = (s.uport p.val).txHseq + 1 ∧
      (t.uport p.val).used = (s.uport p.val).used + BitVec.ofNat 16 (fGroups f) ∧ (t.uport p.val).unacked = (s.uport
      p.val).unacked ++ [(withSeqs f (s.uport p.val).txHseq.toNat none, 1, 0)]) ∧
    (∀ (p : Fin 2) (f : UFrame) (r : List UFrame), s.lstate p.val = 5 → (s.uport p.val).transit = [] → (s.uport
      p.val).syncs = f :: r → 4 ≤ fType f → s.roomFor p.val f = true → Completes (.egressFrameSend p) s fun t =>
      s.touches [.regs, .mem, .pends, .basin, .utv, .evf] [Blk.evf, Blk.bsn] t ∧ (t.uport p.val).syncs = r ∧ (t.uport
      p.val).unacked = (s.uport p.val).unacked ++ [(withSeqs f (s.uport p.val).txHseq.toNat none, 1, 0)]) ∧
    (∀ (p : Fin 2) (f : UFrame), s.lstate p.val = 5 → (s.uport p.val).transit = [] → (s.uport p.val).syncs = [] →
      s.localNext p.val = some (f, 0, true) → fPaired f = true → s.roomFor p.val f = true → Completes
      (.egressFrameSend p) s fun t => s.touches [.regs, .mem, .pends, .basin, .utv, .evf] [Blk.evf, Blk.bsn] t ∧
      t.utv.outbox = s.utv.outbox.erase f ∧ (t.uport p.val).unacked = (s.uport p.val).unacked ++ [(withSeqs f (s.uport
      p.val).txHseq.toNat (some (Cells.rd (fun _ => 0) s.utv.pseqOut (fDst f))), 1, 0)] ∧ Cells.rd (fun _ => 0)
      t.utv.pseqOut (fDst f) = (Cells.rd (fun _ => 0) s.utv.pseqOut (fDst f) + 1) % 4096 ∧ (t.uport p.val).turn = fDst
      f) ∧
    (∀ (p : Fin 2) (f : UFrame) (q : Nat) (k : Pkt), s.lstate p.val = 5 → (s.uport p.val).transit = [] → (s.uport
      p.val).syncs = [] → s.localNext p.val = some (f, q + 1, true) → (s.queue q)[s.inFlight q]? = some k → s.breakAt
      k = none → s.roomFor p.val f = true → Completes (.egressFrameSend p) s fun t => s.touches [.regs, .mem, .pends,
      .basin, .utv, .evf] [Blk.evf, Blk.bsn] t ∧ t.basin.queues = s.basin.queues ∧ (t.uport p.val).unacked.length =
      (s.uport p.val).unacked.length + 1 ∧ ((t.uport p.val).unacked.getLast?.any fun x => x.2 == (1, q + 1) && fDst
      x.1 == fDst f) = true ∧ Cells.rd (fun _ => 0) t.utv.pseqOut (fDst f) = (Cells.rd (fun _ => 0) s.utv.pseqOut
      (fDst f) + 1) % 4096) ∧
    (∀ (p : Fin 2), (s.lstate p.val ≠ 5 ∨ ((s.uport p.val).transit.head?.any fun f => !s.roomFor p.val f) = true) →
      s.unreachable = [] → Completes (.egressFrameSend p) s fun t => t = s) ∧
    (∀ (p : Fin 2) (d : Nat), s.domOn 13 = true → d ∈ s.unreachable → Cells.rd (fun _ => 0) s.utv.unreach d = 0 →
      Completes (.egressFrameSend p) s fun t => s.touches [.regs, .mem, .pends, .basin, .utv, .evf] [Blk.evf, Blk.bsn]
      t ∧ s.raises Irq.UTV_UNREACH t ∧ Cells.rd (fun _ => 0) t.utv.unreach d = 1) ∧
    (∀ (m : Master) (v : Word), s.answers m Port.UTV_WAKE_CMD = true → Completes (.wakeBurstSend m v) s fun t =>
      s.touches [.utv] [] t ∧ ∀ p : Fin 2, (bitOf v p.val = true → (t.uport p.val).burstEnd = s.time.link + 320 ∧
      (t.uport p.val).burst = false) ∧ (bitOf v p.val = false → t.uport p.val = s.uport p.val)) ∧
    (∀ (p : Fin 2), s.lstate p.val ≠ 5 → s.getB Port.PWR_WAKE 4 = true → Completes (.utvisWakeDetect p) s fun t =>
      s.touches [.regs, .latch, .time, .mem, .fuses, .rig, .cores, .pends, .basin, .lanes, .rx, .tx, .link, .trim,
      .utv, .flc, .dmc, .sec, .host, .psm, .pwr, .sluice, .evf, .tim, .pins] [Blk.sys, Blk.evf, Blk.wdg, Blk.hpt,
      Blk.flc, Blk.mem, Blk.dmc, Blk.bsn, Blk.trm, Blk.seq, Blk.ltb, Blk.rxc, Blk.lan, Blk.txc, Blk.utv, Blk.cph,
      Blk.mnt, Blk.own] t ∧ t.getB Port.PWR_WAKE_SRC 4 = true) ∧
    (∀ (p : Fin 2), s.lstate p.val ≠ 5 → s.getB Port.PWR_WAKE 4 = true → s.level ≠ 0 → (s.wakeFrom 4).domOn 13 = false
      → Completes (.utvisWakeDetect p) s fun t => s.touches [.regs, .latch, .time, .mem, .fuses, .rig, .cores, .pends,
      .basin, .lanes, .rx, .tx, .link, .trim, .utv, .flc, .dmc, .sec, .host, .psm, .pwr, .sluice, .evf, .tim, .pins]
      [Blk.sys, Blk.evf, Blk.wdg, Blk.hpt, Blk.flc, Blk.mem, Blk.dmc, Blk.bsn, Blk.trm, Blk.seq, Blk.ltb, Blk.rxc,
      Blk.lan, Blk.txc, Blk.utv, Blk.cph, Blk.mnt, Blk.own] t ∧ (t.uport (1 - p.val)).burst = true) ∧
    (∀ (p : Fin 2), (s.lstate p.val = 5 ∨ s.getB Port.PWR_WAKE 4 = false) → Completes (.utvisWakeDetect p) s fun t =>
      t = s)

/-- A frame that is good and next in hop order is acknowledged and passed on or delivered; the port has no other frame
  waiting. (1) A bad frame is answered by NAK and discarded. (2) So is one out of hop order. (3) A frame for another
  device is passed to the other port when that is ACTIVE. (4) When that port is not ACTIVE it is discarded and its
  groups are freed. (5) A DATA frame with the expected pair number is committed as a packet of its length behind the
  packets of the queue it names, or DEFQ. (6) One whose number has passed is discarded and counts in STALECNT. (7) One
  that no queue takes waits, and UTV_DQERR is raised. (8) A number that was skipped puts one hole into the queue
  before its frame is delivered, and counts in GAPCNT. (9) A COPY of a widened context that has a packet on hold or in
  RECEIVE is kept. (10) Any other COPY is discarded and counts in SELDUP. (11) A first SHADOW record is written into
  its resident standby context, its queue numbers kept, and makes it STALE. (12) A record of a source that is neither
  held nor helped changes no context. (13) A MIRROR of a standby context's source is committed to the context's TXQ.
  (14) A MIRROR of any other source stores nothing. (15) A LOAD at the masthead sets its source's OCC and FILL and
  marks it as reported. (16) A held packet waits until SELWIN after its close. (17) Then, with no copy kept, the
  packet goes on as it is. (18) With a copy that matches, the copy takes its place for delivery and counts in SELSUB.
  (19) A helper's listen of a record starts at its time on the first lane that is eligible and free. (20) Before its
  time, or with no record that waits, no listen starts. (21) At NEXT_ANCHOR plus EVLEN it ends and its lane is freed.
  (22) Where no lane listens for the context nothing ends. -/
def Obligations.FramesAreDeliveredInPairOrder : Prop :=
  ∀ s : State,
    (∀ (p : Fin 2) (f : UFrame), s.lstate p.val = 5 → frameOk f = false → (s.uport p.val).inbox = [] → Completes
      (.dataFrame p f) s fun t => s.touches [.regs, .mem, .pends, .basin, .link, .trim, .utv, .evf] [Blk.evf, Blk.hpt,
      Blk.bsn, Blk.utv] t ∧ (t.uport p.val).answer = 2 ∧ (t.uport p.val).rxHseq = (s.uport p.val).rxHseq ∧ t.basin =
      s.basin ∧ t.mem = s.mem) ∧
    (∀ (p : Fin 2) (f : UFrame), s.lstate p.val = 5 → frameOk f = true → fType f = 0 → fHseq f ≠ (s.uport
      p.val).rxHseq.toNat → (s.uport p.val).inbox = [] → Completes (.dataFrame p f) s fun t => s.touches [.regs, .mem,
      .pends, .basin, .link, .trim, .utv, .evf] [Blk.evf, Blk.hpt, Blk.bsn, Blk.utv] t ∧ (t.uport p.val).answer = 2 ∧
      (t.uport p.val).rxHseq = (s.uport p.val).rxHseq ∧ t.basin = s.basin ∧ t.mem = s.mem) ∧
    (∀ (p : Fin 2) (f : UFrame), s.lstate p.val = 5 → frameOk f = true → fHseq f = (s.uport p.val).rxHseq.toNat →
      (s.uport p.val).inbox = [] → fType f = 0 → fDst f ≠ s.utvPos → s.lstate (1 - p.val) = 5 → (s.uport p.val).oldIn
      = 0 → Completes (.dataFrame p f) s fun t => s.touches [.regs, .mem, .pends, .basin, .link, .trim, .utv, .evf]
      [Blk.evf, Blk.hpt, Blk.bsn, Blk.utv] t ∧ (t.uport p.val).rxHseq = (s.uport p.val).rxHseq + 1 ∧ (t.uport
      p.val).answer = 1 ∧ (t.uport p.val).inbox = [] ∧ (t.uport (1 - p.val)).transit = (s.uport (1 - p.val)).transit
      ++ [f] ∧ t.basin = s.basin) ∧
    (∀ (p : Fin 2) (f : UFrame), s.lstate p.val = 5 → frameOk f = true → fHseq f = (s.uport p.val).rxHseq.toNat →
      (s.uport p.val).inbox = [] → fType f = 0 → fDst f ≠ s.utvPos → s.lstate (1 - p.val) ≠ 5 → (s.uport p.val).oldIn
      = 0 → Completes (.dataFrame p f) s fun t => s.touches [.regs, .mem, .pends, .basin, .link, .trim, .utv, .evf]
      [Blk.evf, Blk.hpt, Blk.bsn, Blk.utv] t ∧ (t.uport p.val).rxHseq = (s.uport p.val).rxHseq + 1 ∧ (t.uport
      p.val).answer = 1 ∧ (t.uport p.val).inbox = [] ∧ (t.uport p.val).freed = (s.uport p.val).freed + BitVec.ofNat 16
      (fGroups f) ∧ t.uport (1 - p.val) = s.uport (1 - p.val) ∧ t.basin = s.basin) ∧
    (∀ (p : Fin 2) (f : UFrame) (q : Nat), s.lstate p.val = 5 → frameOk f = true → fHseq f = (s.uport
      p.val).rxHseq.toNat → (s.uport p.val).inbox = [] → fType f = 0 → fDst f = s.utvPos → fPseq f = s.expected (fSrc
      f) → s.ingressQueue (fTag f % 128) = some q → (s.takeCells q (cellsOf (fld ((fBody f).getD 0 0) 13 0))).1.length
      = cellsOf (fld ((fBody f).getD 0 0) 13 0) → (nonetsOf (fld ((fBody f).getD 0 0) 13 0) ((fBody f).drop 8)).length
      = fld ((fBody f).getD 0 0) 13 0 → Completes (.dataFrame p f) s fun t => s.touches [.regs, .mem, .pends, .basin,
      .link, .trim, .utv, .evf] [Blk.evf, Blk.hpt, Blk.bsn, Blk.utv] t ∧ (t.uport p.val).rxHseq = (s.uport
      p.val).rxHseq + 1 ∧ (t.uport p.val).answer = 1 ∧ (t.uport p.val).inbox = [] ∧ t.expected (fSrc f) = (fPseq f +
      1) % 4096 ∧ (t.queue q).length = (s.queue q).length + 1 ∧ ((t.queue q).getLast?.any fun k => k.len == fld
      ((fBody f).getD 0 0) 13 0) = true ∧ (t.queue q).take (s.queue q).length = s.queue q) ∧
    (∀ (p : Fin 2) (f : UFrame), s.lstate p.val = 5 → frameOk f = true → fHseq f = (s.uport p.val).rxHseq.toNat →
      (s.uport p.val).inbox = [] → fType f = 0 → fDst f = s.utvPos → 2048 ≤ (fPseq f + 4096 - s.expected (fSrc f)) %
      4096 → Completes (.dataFrame p f) s fun t => s.touches [.regs, .mem, .pends, .basin, .link, .trim, .utv, .evf]
      [Blk.evf, Blk.hpt, Blk.bsn, Blk.utv] t ∧ (t.uport p.val).rxHseq = (s.uport p.val).rxHseq + 1 ∧ (t.uport
      p.val).answer = 1 ∧ (t.uport p.val).inbox = [] ∧ t.expected (fSrc f) = s.expected (fSrc f) ∧ s.counts
      (Port.UTV_STALECNT (fSrc f)) t ∧ t.basin = s.basin) ∧
    (∀ (p : Fin 2) (f : UFrame), s.lstate p.val = 5 → frameOk f = true → fHseq f = (s.uport p.val).rxHseq.toNat →
      (s.uport p.val).inbox = [] → fType f = 0 → fDst f = s.utvPos → fPseq f = s.expected (fSrc f) → s.ingressQueue
      (fTag f % 128) = none → (s.uport p.val).stuck = false → Completes (.dataFrame p f) s fun t => s.touches [.regs,
      .mem, .pends, .basin, .link, .trim, .utv, .evf] [Blk.evf, Blk.hpt, Blk.bsn, Blk.utv] t ∧ (t.uport p.val).inbox =
      [f] ∧ (t.uport p.val).stuck = true ∧ s.raises Irq.UTV_DQERR t ∧ t.basin = s.basin) ∧
    (∀ (p : Fin 2) (f : UFrame) (q : Nat), s.lstate p.val = 5 → frameOk f = true → fHseq f = (s.uport
      p.val).rxHseq.toNat → (s.uport p.val).inbox = [] → fType f = 1 → fDst f = s.utvPos → 0 < (fPseq f + 4096 -
      s.expected (fSrc f)) % 4096 → (fPseq f + 4096 - s.expected (fSrc f)) % 4096 < 2048 → s.ingressQueue 128 = some q
      → 0 < s.freeCells → s.widened (fTag f) = false → Completes (.copyFrame p f) s fun t => s.touches [.regs, .mem,
      .pends, .basin, .link, .trim, .utv, .evf] [Blk.evf, Blk.hpt, Blk.bsn, Blk.utv] t ∧ (t.uport p.val).rxHseq =
      (s.uport p.val).rxHseq + 1 ∧ (t.uport p.val).answer = 1 ∧ (t.uport p.val).inbox = [] ∧ t.expected (fSrc f) =
      (fPseq f + 1) % 4096 ∧ s.counts (Port.UTV_GAPCNT (fSrc f)) t ∧ t.queue q = s.queue q ++ [holePkt (.sram
      s.nextCell) 0]) ∧
    (∀ (p : Fin 2) (f : UFrame), s.lstate p.val = 5 → frameOk f = true → fHseq f = (s.uport p.val).rxHseq.toNat →
      (s.uport p.val).inbox = [] → fType f = 1 → fDst f = s.utvPos → fPseq f = s.expected (fSrc f) → s.widened (fTag
      f) = true → s.copyOpen (fTag f) = true → Completes (.copyFrame p f) s fun t => s.touches [.regs, .mem, .pends,
      .basin, .link, .trim, .utv, .evf] [Blk.evf, Blk.hpt, Blk.bsn, Blk.utv] t ∧ (t.uport p.val).rxHseq = (s.uport
      p.val).rxHseq + 1 ∧ (t.uport p.val).answer = 1 ∧ (t.uport p.val).inbox = [] ∧ t.expected (fSrc f) = (fPseq f +
      1) % 4096 ∧ t.copiesOf (fTag f) = s.copiesOf (fTag f) ++ [fBody f] ∧ t.basin = s.basin) ∧
    (∀ (p : Fin 2) (f : UFrame), s.lstate p.val = 5 → frameOk f = true → fHseq f = (s.uport p.val).rxHseq.toNat →
      (s.uport p.val).inbox = [] → fType f = 1 → fDst f = s.utvPos → fPseq f = s.expected (fSrc f) → (s.widened (fTag
      f) = false ∨ s.copyOpen (fTag f) = false) → Completes (.copyFrame p f) s fun t => s.touches [.regs, .mem,
      .pends, .basin, .link, .trim, .utv, .evf] [Blk.evf, Blk.hpt, Blk.bsn, Blk.utv] t ∧ (t.uport p.val).rxHseq =
      (s.uport p.val).rxHseq + 1 ∧ (t.uport p.val).answer = 1 ∧ (t.uport p.val).inbox = [] ∧ t.expected (fSrc f) =
      (fPseq f + 1) % 4096 ∧ s.counts Port.UTV_SELDUP t ∧ t.basin = s.basin) ∧
    (∀ (p : Fin 2) (f : UFrame) (c : Nat), s.lstate p.val = 5 → frameOk f = true → fHseq f = (s.uport
      p.val).rxHseq.toNat → (s.uport p.val).inbox = [] → fType f = 2 → fDst f = s.utvPos → fPseq f = s.expected (fSrc
      f) → s.holdsFor (fSrc f) = true → s.getB Port.UTV_HELP_CFG 17 = false → s.getF Port.UTV_SH_BASE 13 0 + fTag f =
      c → c < s.ctxTotal → s.resident c = true → s.standbyOf c = .none → fFinal f = false → Completes (.shadowFrame p
      f) s fun t => s.touches [.regs, .mem, .pends, .basin, .link, .trim, .utv, .evf] [Blk.evf, Blk.hpt, Blk.bsn,
      Blk.utv] t ∧ (t.uport p.val).rxHseq = (s.uport p.val).rxHseq + 1 ∧ (t.uport p.val).answer = 1 ∧ (t.uport
      p.val).inbox = [] ∧ t.expected (fSrc f) = (fPseq f + 1) % 4096 ∧ t.standbyOf c = .stale ∧ (List.range 62).all
      (fun i => i == 1 || t.ctxRd c i == (fBody f).getD i 0) = true ∧ t.ctxF c 1 13 0 = s.ctxF c 1 13 0) ∧
    (∀ (p : Fin 2) (f : UFrame), s.lstate p.val = 5 → frameOk f = true → fHseq f = (s.uport p.val).rxHseq.toNat →
      (s.uport p.val).inbox = [] → fType f = 2 → fDst f = s.utvPos → fPseq f = s.expected (fSrc f) → s.holdsFor (fSrc
      f) = false → s.getB Port.UTV_HELP_CFG 17 = false → Completes (.shadowFrame p f) s fun t => s.touches [.regs,
      .mem, .pends, .basin, .link, .trim, .utv, .evf] [Blk.evf, Blk.hpt, Blk.bsn, Blk.utv] t ∧ (t.uport p.val).rxHseq
      = (s.uport p.val).rxHseq + 1 ∧ (t.uport p.val).answer = 1 ∧ (t.uport p.val).inbox = [] ∧ t.expected (fSrc f) =
      (fPseq f + 1) % 4096 ∧ t.mem = s.mem ∧ t.basin = s.basin) ∧
    (∀ (p : Fin 2) (f : UFrame) (c : Nat), s.lstate p.val = 5 → frameOk f = true → fHseq f = (s.uport
      p.val).rxHseq.toNat → (s.uport p.val).inbox = [] → fType f = 3 → fDst f = s.utvPos → fPseq f = s.expected (fSrc
      f) → s.holdsFor (fSrc f) = true → s.getF Port.UTV_SH_BASE 13 0 + fTag f = c → c < s.ctxTotal → s.standbyOf c ≠
      .taken → (s.takeCells (s.ctxF c 1 13 7) (cellsOf (fld ((fBody f).getD 0 0) 13 0))).1.length = cellsOf (fld
      ((fBody f).getD 0 0) 13 0) → (nonetsOf (fld ((fBody f).getD 0 0) 13 0) ((fBody f).drop 8)).length = fld ((fBody
      f).getD 0 0) 13 0 → Completes (.mirrorFrame p f) s fun t => s.touches [.regs, .mem, .pends, .basin, .link,
      .trim, .utv, .evf] [Blk.evf, Blk.hpt, Blk.bsn, Blk.utv] t ∧ (t.uport p.val).rxHseq = (s.uport p.val).rxHseq + 1
      ∧ (t.uport p.val).answer = 1 ∧ (t.uport p.val).inbox = [] ∧ t.expected (fSrc f) = (fPseq f + 1) % 4096 ∧
      (t.queue (s.ctxF c 1 13 7)).length = (s.queue (s.ctxF c 1 13 7)).length + 1 ∧ ((t.queue (s.ctxF c 1 13
      7)).getLast?.any fun k => k.len == fld ((fBody f).getD 0 0) 13 0) = true) ∧
    (∀ (p : Fin 2) (f : UFrame), s.lstate p.val = 5 → frameOk f = true → fHseq f = (s.uport p.val).rxHseq.toNat →
      (s.uport p.val).inbox = [] → fType f = 3 → fDst f = s.utvPos → fPseq f = s.expected (fSrc f) → s.holdsFor (fSrc
      f) = false → Completes (.mirrorFrame p f) s fun t => s.touches [.regs, .mem, .pends, .basin, .link, .trim, .utv,
      .evf] [Blk.evf, Blk.hpt, Blk.bsn, Blk.utv] t ∧ (t.uport p.val).rxHseq = (s.uport p.val).rxHseq + 1 ∧ (t.uport
      p.val).answer = 1 ∧ (t.uport p.val).inbox = [] ∧ t.expected (fSrc f) = (fPseq f + 1) % 4096 ∧ t.mem = s.mem ∧
      t.basin = s.basin) ∧
    (∀ (p : Fin 2) (f : UFrame), s.lstate p.val = 5 → frameOk f = true → fHseq f = (s.uport p.val).rxHseq.toNat →
      (s.uport p.val).inbox = [] → fType f = 5 → fDst f = s.utvPos → 2 ≤ s.utvRole → Cells.rd (fun _ => 0) s.utv.loads
      (fSrc f) < 4 → Completes (.loadFrame p f) s fun t => s.touches [.regs, .mem, .pends, .basin, .link, .trim, .utv,
      .evf] [Blk.evf, Blk.hpt, Blk.bsn, Blk.utv] t ∧ (t.uport p.val).rxHseq = (s.uport p.val).rxHseq + 1 ∧ (t.uport
      p.val).answer = 1 ∧ (t.uport p.val).inbox = [] ∧ Cells.rd (fun _ => 0) t.trim.devOcc (fSrc f) = fld ((fBody
      f).getD 0 0) 11 6 ∧ Cells.rd (fun _ => 0) t.trim.devFill (fSrc f) = fld ((fBody f).getD 0 0) 5 0 ∧ Cells.rd (fun
      _ => 0) t.utv.loads (fSrc f) % 2 = 1 ∧ t.basin = s.basin) ∧
    (∀ (ctx : BitVec 14) (l : Nat) (g : Staged), s.heldOf ctx.toNat = some (l, g) → timeLt s.time.link (g.closed +
      ticks (max 10 (s.getF Port.UTV_SEL 17 9) * 16)) = true → Completes (.copyHoldEnd ctx) s fun t => t = s) ∧
    (∀ (ctx : BitVec 14) (l : Nat) (g : Staged), s.heldOf ctx.toNat = some (l, g) → timeLt s.time.link (g.closed +
      ticks (max 10 (s.getF Port.UTV_SEL 17 9) * 16)) = false → s.copiesOf ctx.toNat = [] → Completes (.copyHoldEnd
      ctx) s fun t => t = s.updLane l fun x =>
      { x with stage := x.stage.map fun y => if y = g then { y with hold := false } else y }) ∧
    (∀ (ctx : BitVec 14) (l : Nat) (g : Staged) (b : List Word), s.heldOf ctx.toNat = some (l, g) → timeLt s.time.link
      (g.closed + ticks (max 10 (s.getF Port.UTV_SEL 17 9) * 16)) = false → s.copiesOf ctx.toNat = [b] → bestCopy
      (bodyTs (s.header g.pkt)) s.matchTol [b] = some b → (s.takeCells g.queue (cellsOf (nonetsOf (fld (b.getD 0 0) 13
      0) (b.drop 8)).length)).1.length = cellsOf (nonetsOf (fld (b.getD 0 0) 13 0) (b.drop 8)).length → Completes
      (.copyHoldEnd ctx) s fun t => s.touches [.regs, .mem, .pends, .basin, .lanes, .link, .utv, .evf] [Blk.evf,
      Blk.bsn, Blk.utv] t ∧ t.copiesOf ctx.toNat = [] ∧ s.counts Port.UTV_SELSUB t ∧ ((t.lane l).stage.any fun y =>
      !y.hold && y.wanted && y.pkt.len == (nonetsOf (fld (b.getD 0 0) 13 0) (b.drop 8)).length) = true) ∧
    (∀ (ctx : BitVec 14) (l : Nat), Cells.rd (fun _ => 0) s.utv.listen ctx.toNat = 1 → s.rigF 11 0 6 6 = 1 → timeLt
      s.time.link (s.listenFrom (s.ctxWords ctx.toNat)) = false → s.helperLane ctx.toNat = none → (listenTo
      (s.ctxWords ctx.toNat)).all (fun e => !timeLe e s.time.link) = true → (List.range 64).find? (fun l =>
      s.laneEligible l ctx.toNat && decide (s.laneState l = 0) && (s.lane l).seq.isNone) = some l → Completes
      (.helperListenStart ctx) s fun t => s.touches [.regs, .lanes, .utv] [Blk.lan] t ∧ Cells.rd (fun _ => 0)
      t.utv.listen ctx.toNat = 0 ∧ (t.lane l).helper = some ctx.toNat) ∧
    (∀ (ctx : BitVec 14), (Cells.rd (fun _ => 0) s.utv.listen ctx.toNat = 0 ∨ timeLt s.time.link (s.listenFrom
      (s.ctxWords ctx.toNat)) = true) → Completes (.helperListenStart ctx) s fun t => t = s) ∧
    (∀ (ctx : BitVec 14) (l : Nat), s.helperLane ctx.toNat = some l → (listenTo (s.ctxWords ctx.toNat)).any (fun e =>
      timeLe e s.time.link) = true → Completes (.helperListenEnd ctx) s fun t => s.touches [.regs, .lanes] [Blk.lan] t
      ∧ (t.lane l).helper = none) ∧
    (∀ (ctx : BitVec 14), s.helperLane ctx.toNat = none → Completes (.helperListenEnd ctx) s fun t => t = s)

/-- The masthead sends a sync each link millisecond and the members follow it. (1) A masthead that has not sent its
  sync of this millisecond sends it on both ACTIVE ports and shows itself as MPOS. (2) A relief masthead asked to hand
  back says so in that sync and is a member from then on. (3) Position 0, to which the role was handed back, takes it
  in the following millisecond. (4) A member, and a masthead that has sent this millisecond's, sends none. (5) A
  SYNC_MARK on an ACTIVE port is timestamped. (6) On any other port it is not. (7) A sync that is bad or out of hop
  order is answered by NAK and changes no time. (8) A member takes the first good sync of a period: PERIOD, MPOS,
  PRESENT and the OFFSET of its clock. (9) One that waits for its first sync with an empty calendar steps its link
  time by the offset and follows. (10) The fourth sync in a row within half a tick locks it. (11) 48 000 ticks without
  a sync put a following or locked member into HOLDOVER. (12) A masthead, or a member that had a sync since, goes on.
  (13) Position 1 takes the role as relief after 3 ms without a sync, 10 ms if it was never locked, and raises
  UTV_MAST. (14) No other position does, and none sooner. (15) Position 0 of a stack takes the role 3 ms after a port
  went ACTIVE when it heard no relief. (16) No other position does, and not while a relief acts. (17) A shadowing
  member without sync for 32 000 ticks fences itself, once: its shadowed contexts leave the calendar, FENCED is set
  and UTV_FENCE raised. (18) One that shadows nothing, had a sync since, or has fenced itself already does not. (19)
  HANDBACK of a relief masthead is kept for its next sync. (20) Any other device ignores it. (21) A handover sets BUSY
  and asks a FINAL of every shadowed context. (22) While one is busy a second is ignored. (23) BUSY clears once no
  FINAL is owed or unacknowledged. (24) Until then it stays. -/
def Obligations.SyncsAndTheMastheadRole : Prop :=
  ∀ s : State,
    (2 ≤ s.utvRole → s.utv.sentMs < s.linkMs → s.utv.backMs = 0 → (s.utvRole = 3 → s.utv.handBack = false) → s.lstate
      0 = 5 → s.lstate 1 = 5 → s.getB Port.UTV_SH_HOLD 17 = false → Completes .syncSend s fun t => s.touches [.regs,
      .mem, .pends, .link, .trim, .utv, .evf] [Blk.evf, Blk.utv] t ∧ t.utv.sentMs = s.linkMs ∧ t.utv.period =
      (s.utv.period + 1) % 262144 ∧ t.getF Port.UTV_STAT 11 9 = s.utvPos ∧ t.utvRole = s.utvRole ∧ (t.uport 0).syncs =
      (s.uport 0).syncs ++ [s.mkFrame 4 0 0 0 true (syncBody s.time.link 0 s.utvPos (decide (s.utvRole = 3)) false 0
      s.presentBits ((s.utv.period + 1) % 262144))] ∧ (t.uport 1).syncs = (s.uport 1).syncs ++ [s.mkFrame 4 0 0 0 true
      (syncBody s.time.link 0 s.utvPos (decide (s.utvRole = 3)) false 0 s.presentBits ((s.utv.period + 1) % 262144))]) ∧
    (s.utvRole = 3 → s.utv.sentMs < s.linkMs → s.utv.backMs = 0 → s.utv.handBack = true → s.lstate 0 = 5 → s.getB
      Port.UTV_SH_HOLD 17 = false → Completes .syncSend s fun t => s.touches [.regs, .mem, .pends, .link, .trim, .utv,
      .evf] [Blk.evf, Blk.utv] t ∧ t.utvRole = 1 ∧ t.tstate = 1 ∧ t.utv.handBack = false ∧ (t.uport 0).syncs =
      (s.uport 0).syncs ++ [s.mkFrame 4 0 0 0 true (syncBody s.time.link 0 s.utvPos (decide (s.utvRole = 3)) true 0
      s.presentBits ((s.utv.period + 1) % 262144))]) ∧
    (s.utvRole = 1 → s.utv.backMs ≠ 0 → s.utv.backMs ≤ s.linkMs → s.utv.sentMs < s.linkMs → s.getB Port.UTV_SH_HOLD 17
      = false → Completes .syncSend s fun t => s.touches [.regs, .mem, .pends, .link, .trim, .utv, .evf] [Blk.evf,
      Blk.utv] t ∧ t.utvRole = 2 ∧ t.tstate = 0 ∧ t.utv.backMs = 0 ∧ t.utv.sentMs = s.linkMs) ∧
    ((s.utvRole < 2 ∨ s.linkMs ≤ s.utv.sentMs) → s.utv.backMs = 0 → Completes .syncSend s fun t => t = s) ∧
    (∀ (p : Fin 2), s.lstate p.val = 5 → Completes (.syncMarkReceived p) s fun t => s.touches [.regs, .pends, .utv,
      .evf] [Blk.evf] t ∧ t.utv = (s.updPort p.val fun u => { u with markAt := s.time.link }).utv) ∧
    (∀ (p : Fin 2), s.lstate p.val ≠ 5 → Completes (.syncMarkReceived p) s fun t => t = s) ∧
    (∀ (p : Fin 2) (f : UFrame), s.lstate p.val = 5 → (frameOk f = false ∨ fHseq f ≠ (s.uport p.val).rxHseq.toNat) →
      Completes (.syncFrame p f) s fun t => s.touches [.regs, .time, .mem, .cores, .pends, .rx, .tx, .link, .trim,
      .utv, .dmc, .evf] [Blk.evf, Blk.utv] t ∧ (t.uport p.val).answer = 2 ∧ t.time = s.time ∧ t.get Port.UTV_OFFSET =
      s.get Port.UTV_OFFSET ∧ t.utv.period = s.utv.period) ∧
    (∀ (p : Fin 2) (f : UFrame), s.lstate p.val = 5 → frameOk f = true → fHseq f = (s.uport p.val).rxHseq.toNat →
      s.utvRole = 1 → ((fBody f).getD 5 0).toNat ≠ s.utv.period → bitOf ((fBody f).getD 4 0) 14 = false → s.getB
      Port.UTV_SH_HOLD 17 = false → Completes (.syncFrame p f) s fun t => s.touches [.regs, .time, .mem, .cores,
      .pends, .rx, .tx, .link, .trim, .utv, .dmc, .evf] [Blk.evf, Blk.utv] t ∧ (t.uport p.val).rxHseq = (s.uport
      p.val).rxHseq + 1 ∧ t.utv.period = ((fBody f).getD 5 0).toNat ∧ t.getF Port.UTV_STAT 11 9 = fld ((fBody f).getD
      4 0) 17 15 ∧ t.getF Port.UTV_PRESENT 7 0 = fld ((fBody f).getD 4 0) 7 0 ∧ t.get Port.UTV_OFFSET = offsetWord
      (timeDiff (s.uport p.val).markAt (timeOf ((fBody f).getD 0 0) ((fBody f).getD 1 0) ((fBody f).getD 2 0)) * 16 -
      (((fBody f).getD 3 0).toNat + s.getF (Port.UTV_P_DELAY p.val) 11 0 : Nat))) ∧
    (∀ (p : Fin 2) (f : UFrame), s.lstate p.val = 5 → frameOk f = true → fHseq f = (s.uport p.val).rxHseq.toNat →
      s.utvRole = 1 → ((fBody f).getD 5 0).toNat ≠ s.utv.period → bitOf ((fBody f).getD 4 0) 14 = false → s.getB
      Port.UTV_SH_HOLD 17 = false → s.tstate = 1 → s.calCount = 0 → Completes (.syncFrame p f) s fun t => s.touches
      [.regs, .time, .mem, .cores, .pends, .rx, .tx, .link, .trim, .utv, .dmc, .evf] [Blk.evf, Blk.utv] t ∧
      t.time.link = s.time.link + BitVec.ofInt 54 (-nearTicks (timeDiff (s.uport p.val).markAt (timeOf ((fBody f).getD
      0 0) ((fBody f).getD 1 0) ((fBody f).getD 2 0)) * 16 - (((fBody f).getD 3 0).toNat + s.getF (Port.UTV_P_DELAY
      p.val) 11 0 : Nat))) ∧ t.tstate = 2 ∧ t.utv.lastSync = t.time.link) ∧
    (∀ (p : Fin 2) (f : UFrame), s.lstate p.val = 5 → frameOk f = true → fHseq f = (s.uport p.val).rxHseq.toNat →
      s.utvRole = 1 → ((fBody f).getD 5 0).toNat ≠ s.utv.period → bitOf ((fBody f).getD 4 0) 14 = false → s.getB
      Port.UTV_SH_HOLD 17 = false → s.tstate = 2 → (timeDiff (s.uport p.val).markAt (timeOf ((fBody f).getD 0 0)
      ((fBody f).getD 1 0) ((fBody f).getD 2 0)) * 16 - (((fBody f).getD 3 0).toNat + s.getF (Port.UTV_P_DELAY p.val)
      11 0 : Nat)).natAbs ≤ 8 → 3 ≤ s.utv.good → Completes (.syncFrame p f) s fun t => s.touches [.regs, .time, .mem,
      .cores, .pends, .rx, .tx, .link, .trim, .utv, .dmc, .evf] [Blk.evf, Blk.utv] t ∧ t.tstate = 3 ∧ t.utv.everLocked
      = true ∧ t.utv.lastSync = s.time.link ∧ t.time = s.time) ∧
    (s.utvRole = 1 → 48000 ≤ s.sinceSync → (s.tstate = 2 ∨ s.tstate = 3) → Completes .syncLoss s fun t => s.touches
      [.regs, .utv] [Blk.utv] t ∧ t.tstate = 4 ∧ t.utv = { s.utv with slew := 0, good := 0 }) ∧
    ((s.utvRole ≠ 1 ∨ s.sinceSync < 48000) → Completes .syncLoss s fun t => t = s) ∧
    (s.utvRole = 1 → s.utvPos = 1 → s.utv.started = true → (if s.utv.everLocked then 48000 else 160000) ≤ s.sinceSync
      → Completes .reliefTakeover s fun t => s.touches [.regs, .pends, .trim, .utv, .evf] [Blk.evf, Blk.utv] t ∧
      t.utvRole = 3 ∧ t.tstate = 0 ∧ t.utv.slew = 0 ∧ s.raises Irq.UTV_MAST t) ∧
    ((s.utvPos ≠ 1 ∨ s.sinceSync < 48000) → Completes .reliefTakeover s fun t => t = s) ∧
    (s.utvRole = 1 → s.utvPos = 0 → s.utv.started = true → s.utv.relief = false → 48000 ≤ s.sinceSync → s.stackRole =
      2 → Completes .mastheadRoleTaken s fun t => s.touches [.regs, .trim, .utv] [Blk.utv] t ∧ t.utvRole = 2 ∧
      t.tstate = 0) ∧
    ((s.utvPos ≠ 0 ∨ s.utv.relief = true) → Completes .mastheadRoleTaken s fun t => t = s) ∧
    (s.getB Port.UTV_SH_CFG 17 = true → s.utvRole = 1 → 32000 ≤ s.sinceSync → s.utv.fenced = false → Completes
      .ownerFence s fun t => s.touches [.regs, .mem, .pends, .basin, .tx, .link, .trim, .utv, .evf] [Blk.evf, Blk.hpt,
      Blk.bsn, Blk.trm, Blk.seq, Blk.utv] t ∧ t.getB Port.UTV_STAT 5 = true ∧ t.utv.fenced = true ∧ s.raises
      Irq.UTV_FENCE t ∧ ∀ c, s.shadowed c = true → t.cal c = none) ∧
    ((s.getB Port.UTV_SH_CFG 17 = false ∨ s.sinceSync < 32000 ∨ s.utv.fenced = true) → Completes .ownerFence s fun t
      => t = s) ∧
    (∀ (m : Master), s.answers m Port.UTV_MAST_CMD = true → s.utvRole = 3 → Completes (.handback m) s fun t => t =
      s.updUtv fun u => { u with handBack := true }) ∧
    (∀ (m : Master), s.answers m Port.UTV_MAST_CMD = true → s.utvRole ≠ 3 → Completes (.handback m) s fun t => t = s) ∧
    (∀ (m : Master), s.answers m Port.UTV_SH_CMD = true → s.getB Port.UTV_SH_STAT 17 = false → Completes (.handover m)
      s fun t => s.touches [.regs, .link] [Blk.utv] t ∧ t.getB Port.UTV_SH_STAT 17 = true ∧ t.link =
      { s.link with finals := s.calContexts.filter (fun c => s.shadowed c) }) ∧
    (∀ (m : Master), s.answers m Port.UTV_SH_CMD = true → s.getB Port.UTV_SH_STAT 17 = true → Completes (.handover m)
      s fun t => t = s) ∧
    (s.getB Port.UTV_SH_STAT 17 = true → s.link.finals = [] → s.finalsOut = false → Completes .handoverDone s fun t =>
      t = s.setB Port.UTV_SH_STAT 17 false) ∧
    ((s.link.finals ≠ [] ∨ s.finalsOut = true) → Completes .handoverDone s fun t => t = s)

/-- A core that executes its next word now, with x and y its source registers: Z and N are those of the result, V says
  that the exact signed result does not fit 18 bits, T stays, the core goes on at the next word and nothing else
  changes. (1) ADD writes x + y; C is the carry out. (2) SUB writes x - y; C is the absence of a borrow. (3) ADC
  writes x + y + C; C is the carry out. (4) SBC writes x - y - (1 - C); C is the absence of a borrow. (5) ADDI adds
  its signed immediate to rd; C is the carry out. (6) NEG writes 0 - x; C is 1 for 0 alone, V for the most negative
  word alone. (7) CMP writes no register, sets the flags of x - y and sets T to its condition on them. (8) CMPI writes
  no register, sets the flags of x less its signed immediate and sets T to Z. -/
def Obligations.SumsAndDifferencesSetFlags : Prop :=
  ∀ s : State,
    (∀ (c : Core) (rd ra rb : BitVec 4) (x y : Word) (u : State), s.fetched c 1 = some u → (u.core c).reg ra = x →
      (u.core c).reg rb = y → Completes (.add c rd ra rb) s fun t => State.wentOn c 1 [rd] u t ∧ (t.core c).reg rd =
      (x + y) ∧ (t.core c).flags = ⟨decide ((x + y) = 0), ((x + y)).msb, decide (2 ^ 18 ≤ x.toNat + y.toNat + 0),
      overflows (x.toInt + y.toInt + 0), (u.core c).flags.t⟩) ∧
    (∀ (c : Core) (rd ra rb : BitVec 4) (x y : Word) (u : State), s.fetched c 1 = some u → (u.core c).reg ra = x →
      (u.core c).reg rb = y → Completes (.sub c rd ra rb) s fun t => State.wentOn c 1 [rd] u t ∧ (t.core c).reg rd =
      (x - y) ∧ (t.core c).flags = ⟨decide ((x - y) = 0), ((x - y)).msb, decide (y.toNat + 0 ≤ x.toNat), overflows
      (x.toInt - y.toInt - 0), (u.core c).flags.t⟩) ∧
    (∀ (c : Core) (rd ra rb : BitVec 4) (x y : Word) (u : State), s.fetched c 1 = some u → (u.core c).reg ra = x →
      (u.core c).reg rb = y → Completes (.adc c rd ra rb) s fun t => State.wentOn c 1 [rd] u t ∧ (t.core c).reg rd =
      (x + y + BitVec.ofNat 18 (nat1 (u.core c).flags.c)) ∧ (t.core c).flags = ⟨decide ((x + y + BitVec.ofNat 18 (nat1
      (u.core c).flags.c)) = 0), ((x + y + BitVec.ofNat 18 (nat1 (u.core c).flags.c))).msb, decide (2 ^ 18 ≤ x.toNat +
      y.toNat + nat1 (u.core c).flags.c), overflows (x.toInt + y.toInt + nat1 (u.core c).flags.c), (u.core
      c).flags.t⟩) ∧
    (∀ (c : Core) (rd ra rb : BitVec 4) (x y : Word) (u : State), s.fetched c 1 = some u → (u.core c).reg ra = x →
      (u.core c).reg rb = y → Completes (.sbc c rd ra rb) s fun t => State.wentOn c 1 [rd] u t ∧ (t.core c).reg rd =
      (x - y - BitVec.ofNat 18 (nat1 (!(u.core c).flags.c))) ∧ (t.core c).flags = ⟨decide ((x - y - BitVec.ofNat 18
      (nat1 (!(u.core c).flags.c))) = 0), ((x - y - BitVec.ofNat 18 (nat1 (!(u.core c).flags.c)))).msb, decide
      (y.toNat + nat1 (!(u.core c).flags.c) ≤ x.toNat), overflows (x.toInt - y.toInt - nat1 (!(u.core c).flags.c)),
      (u.core c).flags.t⟩) ∧
    (∀ (c : Core) (rd : BitVec 4) (imm : BitVec 8) (x : Word) (u : State), s.fetched c 1 = some u → (u.core c).reg rd
      = x → Completes (.addi c rd imm) s fun t => State.wentOn c 1 [rd] u t ∧ (t.core c).reg rd = (x + imm.signExtend
      18) ∧ (t.core c).flags = ⟨decide ((x + imm.signExtend 18) = 0), ((x + imm.signExtend 18)).msb, decide (2 ^ 18 ≤
      x.toNat + (imm.signExtend 18).toNat), overflows (x.toInt + imm.toInt), (u.core c).flags.t⟩) ∧
    (∀ (c : Core) (rd ra : BitVec 4) (x : Word) (u : State), s.fetched c 1 = some u → (u.core c).reg ra = x →
      Completes (.neg c rd ra) s fun t => State.wentOn c 1 [rd] u t ∧ (t.core c).reg rd = (0 - x) ∧ (t.core c).flags =
      ⟨decide ((0 - x) = 0), ((0 - x)).msb, decide (x = 0), decide (x = 0o400000), (u.core c).flags.t⟩) ∧
    (∀ (c : Core) (cond ra rb : BitVec 4) (x y : Word) (u : State), s.fetched c 1 = some u → (u.core c).reg ra = x →
      (u.core c).reg rb = y → Completes (.cmp c cond ra rb) s fun t => State.wentOn c 1 [] u t ∧ (t.core c).flags =
      ⟨decide (x = y), (x - y).msb, decide (y.toNat ≤ x.toNat), overflows (x.toInt - y.toInt), condHolds ⟨decide (x =
      y), (x - y).msb, decide (y.toNat ≤ x.toNat), overflows (x.toInt - y.toInt), (u.core c).flags.t⟩ cond⟩) ∧
    (∀ (c : Core) (ra : BitVec 4) (imm : BitVec 8) (x : Word) (u : State), s.fetched c 1 = some u → (u.core c).reg ra
      = x → Completes (.cmpi c ra imm) s fun t => State.wentOn c 1 [] u t ∧ (t.core c).flags = ⟨decide (x =
      imm.signExtend 18), (x - imm.signExtend 18).msb, decide ((imm.signExtend 18).toNat ≤ x.toNat), overflows
      (x.toInt - imm.toInt), decide (x = imm.signExtend 18)⟩)

/-- As for the sums. What C is after LSL or LSR by exactly 18 is left to log entry 10. (1) MUL writes the low 18 bits
  of the product; C and V say that the unsigned and the signed product do not fit. (2) MULX writes the 36-bit product,
  signed for an odd rd and unsigned for an even one, into the pair of rd, low word first; Z and N are those of the
  whole product, C and V are 0. (3) SHI moves rd by 0 to 63 as its kind says; Z and N are the result's, V and T stay;
  C is the last bit moved out by 1 to 17, 0 for LSL and LSR above 18, the sign for ASR from 18 on, and stays for 0.
  (4) SHV moves rd by the low six bits of rb in the same way. -/
def Obligations.ProductsAndShiftsSetFlags : Prop :=
  ∀ s : State,
    (∀ (c : Core) (rd ra rb : BitVec 4) (x y : Word) (u : State), s.fetched c 1 = some u → (u.core c).reg ra = x →
      (u.core c).reg rb = y → Completes (.mul c rd ra rb) s fun t => State.wentOn c 1 [rd] u t ∧ (t.core c).reg rd =
      (x * y) ∧ (t.core c).flags = ⟨decide ((x * y) = 0), ((x * y)).msb, decide (2 ^ 18 ≤ x.toNat * y.toNat),
      overflows (x.toInt * y.toInt), (u.core c).flags.t⟩) ∧
    (∀ (c : Core) (rd ra rb : BitVec 4) (x y : Word) (p : Int) (u : State), s.fetched c 1 = some u → (u.core c).reg ra
      = x → (u.core c).reg rb = y → (if rd.getLsbD 0 then x.toInt * y.toInt else (x.toNat * y.toNat : Int)) = p →
      Completes (.mulx c rd ra rb) s fun t => State.wentOn c 1 [rd, if rd.getLsbD 0 then rd - 1 else rd + 1] u t ∧
      (t.core c).reg (if rd.getLsbD 0 then rd - 1 else rd) = BitVec.ofInt 18 p ∧ (t.core c).reg ((if rd.getLsbD 0 then
      rd - 1 else rd) + 1) = BitVec.ofInt 18 (p / 262144) ∧ (t.core c).flags = ⟨decide (p = 0), decide (p %
      68719476736 ≥ 34359738368), false, false, (u.core c).flags.t⟩) ∧
    (∀ (c : Core) (rd : BitVec 4) (kind : BitVec 2) (n : BitVec 6) (x : Word) (u : State), s.fetched c 1 = some u →
      (u.core c).reg rd = x → Completes (.shi c rd kind n) s fun t => State.wentOn c 1 [rd] u t ∧ (t.core c).reg rd =
      (if n.toNat = 0 then x else if kind = 0 then x <<< n.toNat else if kind = 1 then x >>> n.toNat else if kind = 2
      then x.sshiftRight n.toNat else x.rotateRight (n.toNat % 18)) ∧ (t.core c).flags.z = decide ((t.core c).reg rd =
      0) ∧ (t.core c).flags.n = ((t.core c).reg rd).msb ∧ (t.core c).flags.v = (u.core c).flags.v ∧ (t.core c).flags.t
      = (u.core c).flags.t ∧ (n.toNat = 0 → (t.core c).flags.c = (u.core c).flags.c) ∧ (0 < n.toNat → n.toNat < 18 →
      kind = 0 → (t.core c).flags.c = bitOf x (18 - n.toNat)) ∧ (0 < n.toNat → n.toNat < 18 → kind = 1 ∨ kind = 2 →
      (t.core c).flags.c = bitOf x (n.toNat - 1)) ∧ (18 < n.toNat → kind = 0 ∨ kind = 1 → (t.core c).flags.c = false)
      ∧ (18 ≤ n.toNat → kind = 2 → (t.core c).flags.c = x.msb)) ∧
    (∀ (c : Core) (rd : BitVec 4) (kind : BitVec 2) (rb : BitVec 4) (n : Nat) (x : Word) (u : State), s.fetched c 1 =
      some u → (u.core c).reg rd = x → ((u.core c).reg rb).toNat % 64 = n → Completes (.shv c rd kind rb) s fun t =>
      State.wentOn c 1 [rd] u t ∧ (t.core c).reg rd = (if n = 0 then x else if kind = 0 then x <<< n else if kind = 1
      then x >>> n else if kind = 2 then x.sshiftRight n else x.rotateRight (n % 18)) ∧ (t.core c).flags.z = decide
      ((t.core c).reg rd = 0) ∧ (t.core c).flags.n = ((t.core c).reg rd).msb ∧ (t.core c).flags.v = (u.core c).flags.v
      ∧ (t.core c).flags.t = (u.core c).flags.t ∧ (n = 0 → (t.core c).flags.c = (u.core c).flags.c) ∧ (0 < n → n < 18
      → kind = 0 → (t.core c).flags.c = bitOf x (18 - n)) ∧ (0 < n → n < 18 → kind = 1 ∨ kind = 2 → (t.core c).flags.c
      = bitOf x (n - 1)) ∧ (18 < n → kind = 0 ∨ kind = 1 → (t.core c).flags.c = false) ∧ (18 ≤ n → kind = 2 → (t.core
      c).flags.c = x.msb))

/-- A core that executes its next word now goes on at the word after it, and nothing changes but what is said. (1) AND
  writes x and y; Z and N are the result's, C, V and T stay. (2) OR writes x or y; Z and N are the result's, C, V and
  T stay. (3) XOR writes x exclusive-or y; Z and N are the result's, C, V and T stay. (4) NOT writes the complement of
  x; Z and N are the result's, C, V and T stay. (5) SWN exchanges the nonets of x; Z and N are the result's, C, V and
  T stay. (6) SXN sign-extends the low nonet of x; Z and N are the result's, C, V and T stay. (7) ZXN zero-extends the
  low nonet of x; Z and N are the result's, C, V and T stay. (8) CLZ writes the number of leading zeros of x; Z says
  it is 0, N is 0, C, V and T stay. (9) MOV copies a register and keeps the status. (10) MOVI writes its signed
  immediate and keeps the status. (11) MOVW writes its second word and keeps the status. (12) TNZ sets T to whether
  the register is not 0, no other flag. (13) SETT sets T, no other flag. (14) CLRT clears T, no other flag. (15) NOP
  changes nothing. (16) FENCE changes nothing. (17) A short pair whose COND finds T 0 changes nothing. (18) Else it
  writes the results of both operations, each from the registers before the pair, the second over the first when they
  name one register, and keeps the status. -/
def Obligations.LogicAndMovesKeepCarryAndOverflow : Prop :=
  ∀ s : State,
    (∀ (c : Core) (rd ra rb : BitVec 4) (x y : Word) (u : State), s.fetched c 1 = some u → (u.core c).reg ra = x →
      (u.core c).reg rb = y → Completes (.and c rd ra rb) s fun t => State.wentOn c 1 [rd] u t ∧ (t.core c).reg rd =
      (x &&& y) ∧ (t.core c).flags = ⟨decide ((x &&& y) = 0), ((x &&& y)).msb, (u.core c).flags.c, (u.core c).flags.v,
      (u.core c).flags.t⟩) ∧
    (∀ (c : Core) (rd ra rb : BitVec 4) (x y : Word) (u : State), s.fetched c 1 = some u → (u.core c).reg ra = x →
      (u.core c).reg rb = y → Completes (.or c rd ra rb) s fun t => State.wentOn c 1 [rd] u t ∧ (t.core c).reg rd = (x
      ||| y) ∧ (t.core c).flags = ⟨decide ((x ||| y) = 0), ((x ||| y)).msb, (u.core c).flags.c, (u.core c).flags.v,
      (u.core c).flags.t⟩) ∧
    (∀ (c : Core) (rd ra rb : BitVec 4) (x y : Word) (u : State), s.fetched c 1 = some u → (u.core c).reg ra = x →
      (u.core c).reg rb = y → Completes (.xor c rd ra rb) s fun t => State.wentOn c 1 [rd] u t ∧ (t.core c).reg rd =
      (x ^^^ y) ∧ (t.core c).flags = ⟨decide ((x ^^^ y) = 0), ((x ^^^ y)).msb, (u.core c).flags.c, (u.core c).flags.v,
      (u.core c).flags.t⟩) ∧
    (∀ (c : Core) (rd ra : BitVec 4) (x : Word) (u : State), s.fetched c 1 = some u → (u.core c).reg ra = x →
      Completes (.not c rd ra) s fun t => State.wentOn c 1 [rd] u t ∧ (t.core c).reg rd = (~~~x) ∧ (t.core c).flags =
      ⟨decide ((~~~x) = 0), ((~~~x)).msb, (u.core c).flags.c, (u.core c).flags.v, (u.core c).flags.t⟩) ∧
    (∀ (c : Core) (rd ra : BitVec 4) (x : Word) (u : State), s.fetched c 1 = some u → (u.core c).reg ra = x →
      Completes (.swn c rd ra) s fun t => State.wentOn c 1 [rd] u t ∧ (t.core c).reg rd = (x.rotateLeft 9) ∧ (t.core
      c).flags = ⟨decide ((x.rotateLeft 9) = 0), ((x.rotateLeft 9)).msb, (u.core c).flags.c, (u.core c).flags.v,
      (u.core c).flags.t⟩) ∧
    (∀ (c : Core) (rd ra : BitVec 4) (x : Word) (u : State), s.fetched c 1 = some u → (u.core c).reg ra = x →
      Completes (.sxn c rd ra) s fun t => State.wentOn c 1 [rd] u t ∧ (t.core c).reg rd = ((x.setWidth 9).signExtend
      18) ∧ (t.core c).flags = ⟨decide (((x.setWidth 9).signExtend 18) = 0), (((x.setWidth 9).signExtend 18)).msb,
      (u.core c).flags.c, (u.core c).flags.v, (u.core c).flags.t⟩) ∧
    (∀ (c : Core) (rd ra : BitVec 4) (x : Word) (u : State), s.fetched c 1 = some u → (u.core c).reg ra = x →
      Completes (.zxn c rd ra) s fun t => State.wentOn c 1 [rd] u t ∧ (t.core c).reg rd = ((x.setWidth 9).setWidth 18)
      ∧ (t.core c).flags = ⟨decide (((x.setWidth 9).setWidth 18) = 0), (((x.setWidth 9).setWidth 18)).msb, (u.core
      c).flags.c, (u.core c).flags.v, (u.core c).flags.t⟩) ∧
    (∀ (c : Core) (rd ra : BitVec 4) (x : Word) (n : Nat) (u : State), s.fetched c 1 = some u → (u.core c).reg ra = x
      → n ≤ 18 → x.toNat < 2 ^ (18 - n) → (n = 18 ∨ 2 ^ (17 - n) ≤ x.toNat) → Completes (.clz c rd ra) s fun t =>
      State.wentOn c 1 [rd] u t ∧ ((t.core c).reg rd).toNat = n ∧ (t.core c).flags = ⟨decide (n = 0), false, (u.core
      c).flags.c, (u.core c).flags.v, (u.core c).flags.t⟩) ∧
    (∀ (c : Core) (rd ra : BitVec 4) (x : Word) (u : State), s.fetched c 1 = some u → (u.core c).reg ra = x →
      Completes (.unaryMov c rd ra) s fun t => State.wentOn c 1 [rd] u t ∧ (t.core c).reg rd = x ∧ (t.core c).cs =
      (u.core c).cs) ∧
    (∀ (c : Core) (rd : BitVec 4) (imm : BitVec 8) (u : State), s.fetched c 1 = some u → Completes (.movi c rd imm) s
      fun t => State.wentOn c 1 [rd] u t ∧ (t.core c).reg rd = imm.signExtend 18 ∧ (t.core c).cs = (u.core c).cs) ∧
    (∀ (c : Core) (rd : BitVec 4) (imm : Word) (u : State), s.fetched c 2 = some u → Completes (.movw c rd imm) s fun
      t => State.wentOn c 2 [rd] u t ∧ (t.core c).reg rd = imm ∧ (t.core c).cs = (u.core c).cs) ∧
    (∀ (c : Core) (ra : BitVec 4) (x : Word) (u : State), s.fetched c 1 = some u → (u.core c).reg ra = x → Completes
      (.tnz c ra) s fun t => State.wentOn c 1 [] u t ∧ (t.core c).flags = ⟨(u.core c).flags.z, (u.core c).flags.n,
      (u.core c).flags.c, (u.core c).flags.v, decide (x ≠ 0)⟩) ∧
    (∀ (c : Core) (u : State), s.fetched c 1 = some u → Completes (.sett c) s fun t => State.wentOn c 1 [] u t ∧
      (t.core c).flags = ⟨(u.core c).flags.z, (u.core c).flags.n, (u.core c).flags.c, (u.core c).flags.v, true⟩) ∧
    (∀ (c : Core) (u : State), s.fetched c 1 = some u → Completes (.clrt c) s fun t => State.wentOn c 1 [] u t ∧
      (t.core c).flags = ⟨(u.core c).flags.z, (u.core c).flags.n, (u.core c).flags.c, (u.core c).flags.v, false⟩) ∧
    (∀ (c : Core) (u : State), s.fetched c 1 = some u → Completes (.nop c) s fun t => State.wentOn c 1 [] u t ∧
      (t.core c).cs = (u.core c).cs) ∧
    (∀ (c : Core) (u : State), s.fetched c 1 = some u → Completes (.fence c) s fun t => State.wentOn c 1 [] u t ∧
      (t.core c).cs = (u.core c).cs) ∧
    (∀ (c : Core) (op1 op2 : BitVec 8) (cond : Bool) (u : State), s.fetched c 1 = some u → cond = true → (u.core
      c).flags.t = false → Completes (.shortPair c op1 op2 cond) s fun t => State.wentOn c 1 [] u t ∧ (t.core c).cs =
      (u.core c).cs) ∧
    (∀ (c : Core) (op1 op2 : BitVec 8) (cond : Bool) (a b v v1 : Word) (u : State), s.fetched c 1 = some u → (cond =
      false ∨ (u.core c).flags.t = true) → (u.core c).reg ((op2.extractLsb' 3 3).setWidth 4) = a → (u.core c).reg
      ((op2.extractLsb' 0 3).setWidth 4) = b → ((op2.extractLsb' 6 2 = 0 → v = b) ∧ (op2.extractLsb' 6 2 = 1 → v = a +
      b) ∧ (op2.extractLsb' 6 2 = 2 → v = a - b) ∧ (op2.extractLsb' 6 2 = 3 → v = a &&& b)) → shortValue (u.core c)
      op1 = v1 → Completes (.shortPair c op1 op2 cond) s fun t => State.wentOn c 1 [shortDest op1, shortDest op2] u t
      ∧ (t.core c).cs = (u.core c).cs ∧ (t.core c).reg (shortDest op2) = v ∧ (shortDest op1 ≠ shortDest op2 → (t.core
      c).reg (shortDest op1) = v1))

/-- A core that executes its next word now; an access goes to the place that the data map of R25 and the apertures
  give its address. (1) LD from an SRAM word writes that word to rd and changes nothing else. (2) LD from an address
  that the map marks takes DATA_FAULT with KIND 0 and the address. (3) LD from a word with an uncorrectable error
  takes ECC_FAULT with KIND 0 and the address. (4) LDA from an SRAM word does the same as LD with its own address. (5)
  LDA from an address that the map marks takes DATA_FAULT with KIND 0 and the address. (6) ST to an SRAM word stores
  rs there and changes no other word of SRAM, flash or DRAM and no register or flag. (7) ST to an address that the map
  marks takes DATA_FAULT with KIND 1 and the address and stores nothing. (8) ST to a context word that the core may
  not write does so too. (9) STA to an SRAM word does the same as ST with its own address. (10) STA to an address that
  the map marks takes DATA_FAULT with KIND 1 and the address and stores nothing. (11) STA to a context word that the
  core may not write does so too. (12) LDC writes the word of instruction space to rd. (13) LDC of a word that cannot
  be read takes DATA_FAULT with KIND 3 and the address. (14) IN of a port of trim, the sequencers or link timing that
  answers writes the register as the core reads it to rd. (15) IN of a port of a domain that is off takes IO_FAULT
  with KIND 4 and the port. (16) OUT to such a port takes IO_FAULT with KIND 5 and the port. (17) OUT to SEQ_CAL_ARG_2
  writes rs there and no other register. (18) LD of a context word through the core's window writes that word to rd.
  (19) ST to a context word that the core may write stores it, of a store without homes in DRAM no other word. (20) LD
  of a DRAM word through an aperture waits for its transfer, the core standing at the instruction. (21) A word of an
  SRAM-resident open read packet is read through a Basin aperture as RDATA reads it. -/
def Obligations.LoadsStoresAndPortsReachTheirSpaces : Prop :=
  ∀ s : State,
    (∀ (c : Core) (rd ra n : BitVec 4) (k : Nat) (u : State), s.fetched c 1 = some u → u.place c ((u.core c).reg ra +
      n.setWidth 18) = .sram k → u.sramBad k ≠ 2 → Completes (.ld c rd ra n) s fun t => State.wentOn c 1 [rd] u t ∧
      (t.core c).reg rd = u.sramRd k ∧ (t.core c).cs = (u.core c).cs) ∧
    (∀ (c : Core) (rd ra n : BitVec 4) (u : State), s.fetched c 1 = some u → u.place c ((u.core c).reg ra + n.setWidth
      18) = .none → (u.core c).res.toNat < 14 → Completes (.ld c rd ra n) s fun t => State.trapped c 4 ((u.core c).pc)
      u t ∧ t.mem = u.mem ∧ fld (t.core c).tcause 11 9 = 0 ∧ (t.core c).taddr = (u.core c).reg ra + n.setWidth 18) ∧
    (∀ (c : Core) (rd ra n : BitVec 4) (k : Nat) (u : State), s.fetched c 1 = some u → u.place c ((u.core c).reg ra +
      n.setWidth 18) = .sram k → u.sramBad k = 2 → (u.core c).res.toNat < 14 → Completes (.ld c rd ra n) s fun t =>
      State.trapped c 6 ((u.core c).pc) u t ∧ t.mem = u.mem ∧ fld (t.core c).tcause 11 9 = 0 ∧ (t.core c).taddr =
      (u.core c).reg ra + n.setWidth 18) ∧
    (∀ (c : Core) (r ra : BitVec 4) (abs : Bool) (off : Word) (k : Nat) (u : State), s.fetched c 2 = some u → u.place
      c (if abs then off else (u.core c).reg ra + off) = .sram k → u.sramBad k ≠ 2 → Completes (.lda c r ra abs off) s
      fun t => State.wentOn c 2 [r] u t ∧ (t.core c).reg r = u.sramRd k ∧ (t.core c).cs = (u.core c).cs) ∧
    (∀ (c : Core) (r ra : BitVec 4) (abs : Bool) (off : Word) (u : State), s.fetched c 2 = some u → u.place c (if abs
      then off else (u.core c).reg ra + off) = .none → (u.core c).res.toNat < 14 → Completes (.lda c r ra abs off) s
      fun t => State.trapped c 4 ((u.core c).pc) u t ∧ t.mem = u.mem ∧ fld (t.core c).tcause 11 9 = 0 ∧ (t.core
      c).taddr = (if abs then off else (u.core c).reg ra + off)) ∧
    (∀ (c : Core) (rs ra n : BitVec 4) (k : Nat) (u : State), s.fetched c 1 = some u → u.place c ((u.core c).reg ra +
      n.setWidth 18) = .sram k → u.getB Port.MEM_INJ 17 = false → Completes (.st c rs ra n) s fun t => State.moved c 1
      [] u t ∧ (t.core c).cs = (u.core c).cs ∧ t.sramRd k = (u.core c).reg rs ∧ (∀ j, j ≠ k → t.sramRd j = u.sramRd j)
      ∧ t.basin = u.basin ∧ t.mem.flash = u.mem.flash ∧ t.mem.dram = u.mem.dram) ∧
    (∀ (c : Core) (rs ra n : BitVec 4) (u : State), s.fetched c 1 = some u → u.place c ((u.core c).reg ra + n.setWidth
      18) = .none → (u.core c).res.toNat < 14 → Completes (.st c rs ra n) s fun t => State.trapped c 4 ((u.core c).pc)
      u t ∧ t.mem = u.mem ∧ fld (t.core c).tcause 11 9 = 1 ∧ (t.core c).taddr = (u.core c).reg ra + n.setWidth 18) ∧
    (∀ (c : Core) (rs ra n : BitVec 4) (sl i : Nat) (u : State), s.fetched c 1 = some u → u.place c ((u.core c).reg ra
      + n.setWidth 18) = .csw sl i → u.cswOk c sl i = false → (u.core c).res.toNat < 14 → Completes (.st c rs ra n) s
      fun t => State.trapped c 4 ((u.core c).pc) u t ∧ t.mem = u.mem ∧ fld (t.core c).tcause 11 9 = 1 ∧ (t.core
      c).taddr = (u.core c).reg ra + n.setWidth 18) ∧
    (∀ (c : Core) (r ra : BitVec 4) (abs : Bool) (off : Word) (k : Nat) (u : State), s.fetched c 2 = some u → u.place
      c ((if abs then off else (u.core c).reg ra + off)) = .sram k → u.getB Port.MEM_INJ 17 = false → Completes (.sta
      c r ra abs off) s fun t => State.moved c 2 [] u t ∧ (t.core c).cs = (u.core c).cs ∧ t.sramRd k = (u.core c).reg
      r ∧ (∀ j, j ≠ k → t.sramRd j = u.sramRd j) ∧ t.basin = u.basin ∧ t.mem.flash = u.mem.flash ∧ t.mem.dram =
      u.mem.dram) ∧
    (∀ (c : Core) (r ra : BitVec 4) (abs : Bool) (off : Word) (u : State), s.fetched c 2 = some u → u.place c ((if abs
      then off else (u.core c).reg ra + off)) = .none → (u.core c).res.toNat < 14 → Completes (.sta c r ra abs off) s
      fun t => State.trapped c 4 ((u.core c).pc) u t ∧ t.mem = u.mem ∧ fld (t.core c).tcause 11 9 = 1 ∧ (t.core
      c).taddr = (if abs then off else (u.core c).reg ra + off)) ∧
    (∀ (c : Core) (r ra : BitVec 4) (abs : Bool) (off : Word) (sl i : Nat) (u : State), s.fetched c 2 = some u →
      u.place c ((if abs then off else (u.core c).reg ra + off)) = .csw sl i → u.cswOk c sl i = false → (u.core
      c).res.toNat < 14 → Completes (.sta c r ra abs off) s fun t => State.trapped c 4 ((u.core c).pc) u t ∧ t.mem =
      u.mem ∧ fld (t.core c).tcause 11 9 = 1 ∧ (t.core c).taddr = (if abs then off else (u.core c).reg ra + off)) ∧
    (∀ (c : Core) (rd ra n : BitVec 4) (v : Word) (u : State), s.fetched c 1 = some u → (u.codeReach c ((u.core c).reg
      ra + n.setWidth 18)) = (.ok v, u) → Completes (.ldc c rd ra n) s fun t => State.moved c 1 [rd] u t ∧ (t.core
      c).reg rd = v ∧ (t.core c).cs = (u.core c).cs ∧ t.mem = u.mem) ∧
    (∀ (c : Core) (rd ra n : BitVec 4) (u : State), s.fetched c 1 = some u → (u.codeReach c ((u.core c).reg ra +
      n.setWidth 18)) = (.fault, u) → (u.core c).res.toNat < 14 → Completes (.ldc c rd ra n) s fun t => State.trapped
      c 4 ((u.core c).pc) u t ∧ t.mem = u.mem ∧ fld (t.core c).tcause 11 9 = 3 ∧ (t.core c).taddr = (u.core c).reg ra
      + n.setWidth 18) ∧
    (∀ (c : Core) (rd ra : BitVec 4) (idx : Bool) (port : BitVec 16) (u : State), s.fetched c 2 = some u → u.ioGate
      (portAddr (u.core c) ra idx port).toNat = .ok → u.ioBlind c.master (portAddr (u.core c) ra idx port).toNat =
      false → inRange 0x2800 0x3FFF (portAddr (u.core c) ra idx port).toNat = true → Completes (.inp c rd ra idx port)
      s fun t => State.moved c 2 [rd] u t ∧ (t.core c).reg rd = u.readValue c.master (portAddr (u.core c) ra idx
      port).toNat ∧ (t.core c).cs = (u.core c).cs) ∧
    (∀ (c : Core) (rd ra : BitVec 4) (idx : Bool) (port : BitVec 16) (u : State), s.fetched c 2 = some u → u.ioGate
      (portAddr (u.core c) ra idx port).toNat = .offDomain → (u.core c).res.toNat < 14 → Completes (.inp c rd ra idx
      port) s fun t => State.trapped c 5 ((u.core c).pc) u t ∧ t.mem = u.mem ∧ fld (t.core c).tcause 11 9 = 4 ∧
      (t.core c).taddr = (portAddr (u.core c) ra idx port).setWidth 18) ∧
    (∀ (c : Core) (rs ra : BitVec 4) (idx : Bool) (port : BitVec 16) (u : State), s.fetched c 2 = some u → u.ioGate
      (portAddr (u.core c) ra idx port).toNat = .offDomain → (u.core c).res.toNat < 14 → Completes (.out c rs ra idx
      port) s fun t => State.trapped c 5 ((u.core c).pc) u t ∧ t.mem = u.mem ∧ fld (t.core c).tcause 11 9 = 5 ∧
      (t.core c).taddr = (portAddr (u.core c) ra idx port).setWidth 18) ∧
    (∀ (c : Core) (rs ra : BitVec 4) (idx : Bool) (port : BitVec 16) (u : State), s.fetched c 2 = some u → u.ioGate
      (portAddr (u.core c) ra idx port).toNat = .ok → (portAddr (u.core c) ra idx port).toNat = Port.SEQ_CAL_ARG_2 →
      (u.core c).stepping = 0 → (u.core c).haltReq = false → Completes (.out c rs ra idx port) s fun t => State.moved
      c 2 [] u t ∧ (t.core c).cs = (u.core c).cs ∧ t.get Port.SEQ_CAL_ARG_2 = (u.core c).reg rs ∧ (∀ p, p ≠
      Port.SEQ_CAL_ARG_2 → t.get p = u.get p) ∧ t.mem = u.mem ∧ t.link = u.link) ∧
    (∀ (c : Core) (rd ra n : BitVec 4) (sl i : Nat) (u : State), s.fetched c 1 = some u → u.place c ((u.core c).reg ra
      + n.setWidth 18) = .csw sl i → u.sramBad (u.slotWord sl i) ≠ 2 → Completes (.ld c rd ra n) s fun t =>
      State.wentOn c 1 [rd] u t ∧ (t.core c).reg rd = u.sramRd (u.slotWord sl i)) ∧
    (∀ (c : Core) (rs ra n : BitVec 4) (sl i : Nat) (u : State), s.fetched c 1 = some u → u.place c ((u.core c).reg ra
      + n.setWidth 18) = .csw sl i → u.cswOk c sl i = true → u.hasHomes = false → u.getB Port.MEM_INJ 17 = false →
      Completes (.st c rs ra n) s fun t => State.moved c 1 [] u t ∧ t.sramRd (u.slotWord sl i) = (u.core c).reg rs ∧ ∀
      j, j ≠ u.slotWord sl i → t.sramRd j = u.sramRd j) ∧
    (∀ (c : Core) (rd ra n : BitVec 4) (b i : Nat) (u : State), s.fetched c 1 = some u → u.place c ((u.core c).reg ra
      + n.setWidth 18) = .dram b i → Completes (.ld c rd ra n) s fun t => (t.core c).pc = (u.core c).pc ∧ ((t.core
      c).apWait.any fun w => w.block == b && w.idx == i && w.reg == rd && !w.write && !w.basin) = true ∧ t.mem =
      u.mem) ∧
    (∀ (c : Core) (rd ra n : BitVec 4) (o x : Nat) (p : Pkt) (u : State), s.fetched c 1 = some u → u.place c ((u.core
      c).reg ra + n.setWidth 18) = .basin o → (u.copy c.num).rpkt = some (x, p) → u.breakAt p = none → 2 * o < p.len →
      (p.payCell o).near = true → Completes (.ld c rd ra n) s fun t => State.moved c 1 [rd] u t ∧ (t.core c).reg rd =
      u.payWord p o ∧ t.basin.queues = u.basin.queues)

/-- A core that executes its next word now; nothing changes but the core, and in it only what is said. (1) B goes to
  its offset from the next word when its condition holds, else to the next word. (2) DBNZ writes the register less one
  and goes to its offset from the next word, or to the next word when the result is 0; flags stay. (3) JMP goes to the
  address in its register. (4) JMPL goes to its address. (5) CALL goes to the address in its register: the window
  slides by one frame, w5 holds the address of the next word, and the caller's w6 to w10 show as w0 to w4. (6) CALL
  with RES 14 takes WIN_OVF at the call. (7) CALLL goes to its address in the same way. (8) CALLL with RES 14 takes
  WIN_OVF at the call. (9) RET goes to w5 and slides the window back. (10) RET with RES 1 takes WIN_UNF. (11) RETI
  restores the pc from w11 and the status from w10 and slides the window back. (12) RETI with RES 1 takes WIN_UNF. -/
def Obligations.BranchesCallsAndReturns : Prop :=
  ∀ s : State,
    (∀ (c : Core) (cond : BitVec 4) (off : BitVec 8) (u : State), s.fetched c 1 = some u → Completes (.b c cond off) s
      fun t => State.coreOnly c u t ∧ (u.core c).keepsBut [] (t.core c) ∧ (t.core c).cs = (u.core c).cs ∧ (t.core
      c).pc = (if condHolds (u.core c).flags cond then (u.core c).pc + 1 + off.signExtend 18 else (u.core c).pc + 1)) ∧
    (∀ (c : Core) (rd : BitVec 4) (off : BitVec 8) (x : Word) (u : State), s.fetched c 1 = some u → (u.core c).reg rd
      = x → Completes (.dbnz c rd off) s fun t => State.coreOnly c u t ∧ (u.core c).keepsBut [rd] (t.core c) ∧ (t.core
      c).cs = (u.core c).cs ∧ (t.core c).reg rd = x - 1 ∧ (t.core c).pc = (if x = 1 then (u.core c).pc + 1 else
      (u.core c).pc + 1 + off.signExtend 18)) ∧
    (∀ (c : Core) (ra : BitVec 4) (u : State), s.fetched c 1 = some u → Completes (.jmp c ra) s fun t =>
      State.coreOnly c u t ∧ (u.core c).keepsBut [] (t.core c) ∧ (t.core c).cs = (u.core c).cs ∧ (t.core c).pc =
      (u.core c).reg ra) ∧
    (∀ (c : Core) (addr : Word) (u : State), s.fetched c 2 = some u → Completes (.jmpl c addr) s fun t =>
      State.coreOnly c u t ∧ (u.core c).keepsBut [] (t.core c) ∧ (t.core c).cs = (u.core c).cs ∧ (t.core c).pc = addr) ∧
    (∀ (c : Core) (ra : BitVec 4) (u : State), s.fetched c 1 = some u → (u.core c).res.toNat < 14 → Completes (.call c
      ra) s fun t => (t.core c).pc = (u.core c).reg ra ∧ (t.core c).wb = (u.core c).wb + 1 ∧ (t.core c).res = (u.core
      c).res + 1 ∧ (t.core c).reg 5 = (u.core c).pc + 1 ∧ (List.range 5).all (fun i => (t.core c).reg (BitVec.ofNat 4
      i) == (u.core c).reg (BitVec.ofNat 4 (i + 6))) = true ∧ (t.core c).cs = (u.core c).cs ∧ State.coreOnly c u t) ∧
    (∀ (c : Core) (ra : BitVec 4) (u : State), s.fetched c 1 = some u → (u.core c).res = 14 → Completes (.call c ra) s
      fun t => State.trapped c 1 ((u.core c).pc) u t ∧ t.mem = u.mem) ∧
    (∀ (c : Core) (addr : Word) (u : State), s.fetched c 2 = some u → (u.core c).res.toNat < 14 → Completes (.calll c
      addr) s fun t => (t.core c).pc = addr ∧ (t.core c).wb = (u.core c).wb + 1 ∧ (t.core c).res = (u.core c).res + 1
      ∧ (t.core c).reg 5 = (u.core c).pc + 2 ∧ (List.range 5).all (fun i => (t.core c).reg (BitVec.ofNat 4 i) ==
      (u.core c).reg (BitVec.ofNat 4 (i + 6))) = true ∧ (t.core c).cs = (u.core c).cs ∧ State.coreOnly c u t) ∧
    (∀ (c : Core) (addr : Word) (u : State), s.fetched c 2 = some u → (u.core c).res = 14 → Completes (.calll c addr)
      s fun t => State.trapped c 1 ((u.core c).pc) u t ∧ t.mem = u.mem) ∧
    (∀ (c : Core) (u : State), s.fetched c 1 = some u → (u.core c).res ≠ 1 → Completes (.ret c) s fun t => (t.core
      c).pc = (u.core c).reg 5 ∧ (t.core c).wb = (u.core c).wb - 1 ∧ (t.core c).res = (u.core c).res - 1 ∧ (t.core
      c).cs = (u.core c).cs ∧ (List.range 5).all (fun i => (t.core c).reg (BitVec.ofNat 4 (i + 6)) == (u.core c).reg
      (BitVec.ofNat 4 i)) = true ∧ State.coreOnly c u t) ∧
    (∀ (c : Core) (u : State), s.fetched c 1 = some u → (u.core c).res = 1 → Completes (.ret c) s fun t =>
      State.trapped c 2 ((u.core c).pc) u t ∧ t.mem = u.mem) ∧
    (∀ (c : Core) (u : State), s.fetched c 1 = some u → (u.core c).res ≠ 1 → Completes (.reti c) s fun t => (t.core
      c).pc = (u.core c).reg 11 ∧ (t.core c).cs = (u.core c).reg 10 &&& 0o470037 ∧ (t.core c).wb = (u.core c).wb - 1 ∧
      (t.core c).res = (u.core c).res - 1 ∧ (List.range 5).all (fun i => (t.core c).reg (BitVec.ofNat 4 (i + 6)) ==
      (u.core c).reg (BitVec.ofNat 4 i)) = true ∧ State.coreOnly c u t) ∧
    (∀ (c : Core) (u : State), s.fetched c 1 = some u → (u.core c).res = 1 → Completes (.reti c) s fun t =>
      State.trapped c 2 ((u.core c).pc) u t ∧ t.mem = u.mem)

/-- A core that executes its next word now; a handler is entered as R276 says: the pc is the vector's, the window
  slides by one frame, w11 holds the return address and w10 the status. (1) TRAP takes trap 7 with its number in ARG
  and returns to the next word. (2) With RES 14 it takes WIN_OVF at the word instead. (3) BRK takes trap 8 and returns
  to the next word. (4) Under BRKEN it halts the core behind the word with CAUSE 2. (5) EI sets IE; no interrupt is
  considered before the word after it. (6) DI clears IE. (7) WAIT waits unless a source above LEVEL is pending. (8) A
  pending source above LEVEL ends the wait of a core that runs. (9) Without one a waiting core waits on. (10) CRD
  writes the value of a listed control register to its register. (11) CWR of VBASE writes its bits [17:9]. (12) CWR of
  CS writes its writable bits. (13) CWR of BELL with 1 raises source 0 at the other core, any other value nothing.
  (14) A reserved word takes trap 0 with the words in TWORD_0 and TWORD_1 and its address in TADDR. (15) A word whose
  encoding is not reserved is not this command's. (16) A word that cannot be fetched takes FETCH_FAULT with KIND 2 and
  its address. (17) An interrupt that is due enters the vector of its source at a boundary: LEVEL rises to its
  priority plus one, its pending bit clears, a wait ends. (18) One that is not due is not entered. (19) CRD of CYCLE_0
  reads it and latches CYCLE_1 and CYCLE_2 for the core's next reads of them. -/
def Obligations.SystemInstructionsTrapWaitAndReadControls : Prop :=
  ∀ s : State,
    (∀ (c : Core) (n : BitVec 8) (u : State), s.fetched c 1 = some u → (u.core c).res.toNat < 14 → Completes (.trap c
      n) s fun t => State.trapped c 7 ((u.core c).pc + 1) u t ∧ t.mem = u.mem ∧ fld (t.core c).tcause 7 0 = n.toNat) ∧
    (∀ (c : Core) (n : BitVec 8) (u : State), s.fetched c 1 = some u → (u.core c).res = 14 → Completes (.trap c n) s
      fun t => State.trapped c 1 ((u.core c).pc) u t ∧ t.mem = u.mem) ∧
    (∀ (c : Core) (u : State), s.fetched c 1 = some u → (u.core c).res.toNat < 14 → u.getB (Port.DBG_CFG c.num) 17 =
      false → Completes (.brk c) s fun t => State.trapped c 8 ((u.core c).pc + 1) u t ∧ t.mem = u.mem) ∧
    (∀ (c : Core) (u : State), s.fetched c 1 = some u → u.getB (Port.DBG_CFG c.num) 17 = true → Completes (.brk c) s
      fun t => (t.core c).halted = true ∧ t.getF (Port.DBG_STAT c.num) 14 12 = 2 ∧ (t.core c).pc = (u.core c).pc + 1 ∧
      (u.core c).keepsBut [] (t.core c) ∧ (t.core c).cs = (u.core c).cs ∧ State.coreOnly c u t) ∧
    (∀ (c : Core) (u : State), s.fetched c 1 = some u → Completes (.ei c) s fun t => State.coreOnly c u t ∧ (t.core
      c).pc = (u.core c).pc + 1 ∧ (t.core c).cs = (u.core c).cs ||| 0o400000 ∧ (t.core c).eiShadow = true) ∧
    (∀ (c : Core) (u : State), s.fetched c 1 = some u → Completes (.di c) s fun t => State.coreOnly c u t ∧ (t.core
      c).pc = (u.core c).pc + 1 ∧ (t.core c).cs = (u.core c).cs &&& 0o377777) ∧
    (∀ (c : Core) (u : State), s.fetched c 1 = some u → Completes (.wait c) s fun t => State.coreOnly c u t ∧ (t.core
      c).pc = (u.core c).pc + 1 ∧ (t.core c).cs = (u.core c).cs ∧ (t.core c).waiting = (u.core c).above.isNone) ∧
    (∀ (c : Core), s.coreLive c = true → (s.core c).waiting = true → s.phase ≠ 1 → s.phase ≠ 2 → (s.core
      c).above.isSome = true → Completes (.waitWake c) s fun t => (t.core c).waiting = false ∧ (t.core c).pc = (s.core
      c).pc ∧ t.mem = s.mem ∧ t.regs = s.regs) ∧
    (∀ (c : Core), (s.core c).above = none → Completes (.waitWake c) s fun t => t = s) ∧
    (∀ (c : Core) (r : BitVec 4) (cr : BitVec 6) (v : Word) (u : State), s.fetched c 1 = some u → u.crRead c.master c
      cr.toNat = some v → cr ≠ 3 → cr ≠ 10 → Completes (.crd c r cr) s fun t => (t.core c).reg r = v ∧ (t.core c).pc =
      (u.core c).pc + 1 ∧ (t.core c).cs = (u.core c).cs ∧ State.coreOnly c u t) ∧
    (∀ (c : Core) (r : BitVec 4) (cr : BitVec 6) (u : State), s.fetched c 1 = some u → cr = 4 → Completes (.cwr c r
      cr) s fun t => (t.core c).vbase = (u.core c).reg r &&& 0o777000 ∧ (t.core c).pc = (u.core c).pc + 1 ∧ (t.core
      c).cs = (u.core c).cs ∧ State.coreOnly c u t) ∧
    (∀ (c : Core) (r : BitVec 4) (cr : BitVec 6) (u : State), s.fetched c 1 = some u → cr = 0 → Completes (.cwr c r
      cr) s fun t => (t.core c).cs = (u.core c).reg r &&& 0o470037 ∧ (t.core c).pc = (u.core c).pc + 1 ∧
      State.coreOnly c u t) ∧
    (∀ (c : Core) (r : BitVec 4) (cr : BitVec 6) (u : State), s.fetched c 1 = some u → cr = 33 → Completes (.cwr c r
      cr) s fun t => ((t.core c.other).ipend = (if (u.core c).reg r = 1 ∧ (u.core c.other).inReset = false then
      (u.core c.other).ipend ||| 1 else (u.core c.other).ipend)) ∧ (t.core c).pc = (u.core c).pc + 1 ∧ t.mem = u.mem) ∧
    (∀ (c : Core) (w0 w1 : Word) (u : State), s.fetched c 1 = some u → reservedFirst w0 = true → u.codeReach c
      ((u.core c).pc + 1) = (.ok w1, u) → (u.core c).res.toNat < 14 → Completes (.reservedMajor c w0 w1) s fun t =>
      (t.core c).tword0 = w0 ∧ (t.core c).tword1 = w1 ∧ (t.core c).taddr = (u.core c).pc ∧ State.trapped c 0 ((u.core
      c).pc) u t ∧ t.mem = u.mem) ∧
    (∀ (c : Core) (w0 w1 : Word), reservedFirst w0 = false → reservedSecond w0 w1 = false → Completes (.reservedMajor
      c w0 w1) s fun t => t = s) ∧
    (∀ (c : Core), s.coreReady c = true → s.codeReach c (s.core c).pc = (.fault, s) → (s.core c).res.toNat < 14 →
      Completes (.nop c) s fun t => State.trapped c 3 (s.core c).pc s t ∧ fld (t.core c).tcause 11 9 = 2 ∧ (t.core
      c).taddr = (s.core c).pc) ∧
    (∀ (c : Core) (n p : Nat), s.coreLive c = true → ((s.core c).waiting = true → s.phase ≠ 1 ∧ s.phase ≠ 2) →
      s.irqDue c = true → (s.core c).above = some (n, p) → (s.core c).res.toNat < 14 → Completes (.interruptEntry c) s
      fun t => (t.core c).pc = (s.core c).vbase + BitVec.ofNat 18 (4 * (16 + n)) ∧ (t.core c).reg 11 = (s.core c).pc ∧
      (t.core c).reg 10 = (s.core c).cs ∧ (t.core c).wb = (s.core c).wb + 1 ∧ (t.core c).res = (s.core c).res + 1 ∧
      fld (t.core c).cs 14 12 = p + 1 ∧ (t.core c).ipend.getLsbD n = false ∧ (t.core c).waiting = false ∧
      State.coreOnly c s t) ∧
    (∀ (c : Core), s.irqDue c = false → Completes (.interruptEntry c) s fun t => t = s) ∧
    (∀ (c : Core) (r : BitVec 4) (cr : BitVec 6) (u : State), s.fetched c 1 = some u → cr = 10 → Completes (.crd c r
      cr) s fun t => (t.core c).pc = (u.core c).pc + 1 ∧ (t.core c).cs = (u.core c).cs ∧ (t.core c).reg r = (u.core
      c).cycle.extractLsb' 0 18 ∧ t.crRead c.master c 11 = some ((u.core c).cycle.extractLsb' 18 18) ∧ t.crRead
      c.master c 12 = some ((u.core c).cycle.extractLsb' 36 18))

/-- The debug control register of a core answers; memory, the other core and the core's registers stay as they are but
  where it is said. (1) HALT of a running core halts it with CAUSE 1. (2) HALT of a halted core changes nothing. (3)
  RUN lets a halted core go on. (4) RUN of a running core changes nothing. (5) STEP over NOP goes on by one word and
  halts with CAUSE 4. (6) STEP with an interrupt due performs the entry and halts with CAUSE 4. (7) STEP with MASK
  over NOP goes on by one word and halts with CAUSE 4, an interrupt being due or not. (8) An enabled breakpoint at the
  next word halts the core before it with CAUSE 3. (9) Without one nothing halts. (10) HALT of a core whose aperture
  access waits is kept until that access ends. -/
def Obligations.TheDebuggerHaltsRunsAndSteps : Prop :=
  ∀ s : State,
    (∀ (m : Master) (c : Core), s.answers m (Port.DBG_CTL c.num) = true → (s.core c).halted = false → (s.core
      c).inReset = false → (s.core c).lockup = false → s.domOn c.num = true → (s.core c).apWait = none → Completes
      (.halt m c) s fun t => (t.core c).halted = true ∧ t.getF (Port.DBG_STAT c.num) 14 12 = 1 ∧ (t.core c).pc =
      (s.core c).pc ∧ (s.core c).keepsBut [] (t.core c) ∧ (t.core c).cs = (s.core c).cs ∧ State.coreOnly c s t) ∧
    (∀ (m : Master) (c : Core), s.answers m (Port.DBG_CTL c.num) = true → (s.core c).halted = true → Completes (.halt
      m c) s fun t => t = s) ∧
    (∀ (m : Master) (c : Core), s.answers m (Port.DBG_CTL c.num) = true → (s.core c).halted = true → Completes (.run m
      c) s fun t => (t.core c).halted = false ∧ (t.core c).pc = (s.core c).pc ∧ (s.core c).keepsBut [] (t.core c) ∧
      (t.core c).cs = (s.core c).cs ∧ State.coreOnly c s t) ∧
    (∀ (m : Master) (c : Core), s.answers m (Port.DBG_CTL c.num) = true → (s.core c).halted = false → Completes (.run
      m c) s fun t => t = s) ∧
    (∀ (m : Master) (c : Core) (w0 w1 v : Word), s.answers m (Port.DBG_CTL c.num) = true → (s.core c).halted = true →
      (s.core c).inReset = false → (s.core c).lockup = false → (s.core c).bootWait = false → (s.core c).gated = false
      → (s.core c).waiting = false → (s.core c).apWait = none → s.domOn c.num = true → s.codeReach c (s.core c).pc =
      (.ok v, s) → w0 = 0 → ((s.core c).ie = false ∨ (s.core c).above = none) → Completes (.step m c w0 w1) s fun t =>
      (t.core c).halted = true ∧ t.getF (Port.DBG_STAT c.num) 14 12 = 4 ∧ (t.core c).pc = (s.core c).pc + 1 ∧ (s.core
      c).keepsBut [] (t.core c) ∧ (t.core c).cs = (s.core c).cs ∧ t.mem = s.mem ∧ t.core c.other = s.core c.other) ∧
    (∀ (m : Master) (c : Core) (w0 w1 v : Word) (n p : Nat), s.answers m (Port.DBG_CTL c.num) = true → (s.core
      c).halted = true → (s.core c).inReset = false → (s.core c).lockup = false → (s.core c).bootWait = false →
      (s.core c).gated = false → (s.core c).waiting = false → (s.core c).apWait = none → s.domOn c.num = true →
      s.codeReach c (s.core c).pc = (.ok v, s) → (s.core c).ie = true → (s.core c).eiShadow = false → (s.core c).above
      = some (n, p) → (s.core c).res.toNat < 14 → Completes (.step m c w0 w1) s fun t => (t.core c).halted = true ∧
      t.getF (Port.DBG_STAT c.num) 14 12 = 4 ∧ (t.core c).pc = (s.core c).vbase + BitVec.ofNat 18 (4 * (16 + n)) ∧
      (t.core c).reg 11 = (s.core c).pc ∧ t.mem = s.mem ∧ t.core c.other = s.core c.other) ∧
    (∀ (m : Master) (c : Core) (w0 w1 v : Word), s.answers m (Port.DBG_CTL c.num) = true → (s.core c).halted = true →
      (s.core c).inReset = false → (s.core c).lockup = false → (s.core c).bootWait = false → (s.core c).gated = false
      → (s.core c).waiting = false → (s.core c).apWait = none → s.domOn c.num = true → s.codeReach c (s.core c).pc =
      (.ok v, s) → w0 = 0 → Completes (.stepMask m c w0 w1) s fun t => (t.core c).halted = true ∧ t.getF
      (Port.DBG_STAT c.num) 14 12 = 4 ∧ (t.core c).pc = (s.core c).pc + 1 ∧ (s.core c).keepsBut [] (t.core c) ∧
      (t.core c).cs = (s.core c).cs ∧ t.mem = s.mem ∧ t.core c.other = s.core c.other) ∧
    (∀ (c : Core), s.coreLive c = true → (s.core c).waiting = false → (s.core c).apWait = none → s.irqDue c = false →
      (s.core c).resumed = false → s.getB (Port.DBG_CFG c.num) 15 = true → s.get (Port.DBG_BP_1 c.num) = (s.core c).pc
      → Completes (.breakpointHalt c) s fun t => (t.core c).halted = true ∧ t.getF (Port.DBG_STAT c.num) 14 12 = 3 ∧
      (t.core c).pc = (s.core c).pc ∧ (s.core c).keepsBut [] (t.core c) ∧ (t.core c).cs = (s.core c).cs ∧
      State.coreOnly c s t) ∧
    (∀ (c : Core), s.breakHere c = false → Completes (.breakpointHalt c) s fun t => t = s) ∧
    (∀ (m : Master) (c : Core), s.answers m (Port.DBG_CTL c.num) = true → (s.core c).halted = false → (s.core
      c).inReset = false → (s.core c).lockup = false → s.domOn c.num = true → (s.core c).apWait.isSome = true →
      Completes (.halt m c) s fun t => (t.core c).haltReq = true ∧ (t.core c).halted = false ∧ (t.core c).apWait =
      (s.core c).apWait)

/-- A core's write through an aperture window that shows flash bank b, at word o of the bank, with the flash domain
  up. A command that is accepted waits for the Sluice. (1) The first unlock cycle starts the core's sequence in the
  bank. (2) The second, in the same bank, carries it on. (3) Another write where the first cycle is due, ABANDON
  apart, ends the sequence with error 1 and FLC_ERR. (4) A write to an address that the map marks takes DATA_FAULT
  with KIND 1 and the address. (5) PROGRAM of an erased word of a user bank without a suspect sector is accepted. (6)
  Of a word that is not erased it is refused with error 4. (7) While another operation stands it is refused with error
  2. (8) In the suspect sector it is refused with error 5. (9) PROGRAM_ROW of four erased words from a multiple of 4
  on is accepted. (10) ERASE of a sector of a user bank is accepted. (11) Of another sector than the bank's suspect
  one it is refused with error 5. (12) In the boot bank 4 it is refused with error 3. (13) ABANDON ends the sequence
  and is no error. -/
def Obligations.FlashCommandsAreWrittenInCycles : Prop :=
  ∀ s : State,
    (∀ (c : Core) (win : Fin 4) (off : BitVec 13) (v : Word) (b o : Nat), s.place c (BitVec.ofNat 18 (0x30000 +
      win.val * 0x2000 + off.toNat)) = .flash b o → s.domOn 14 = true → s.flcStep c.num = 0 → v = 0o525252 → o % 8192
      = 0x0AAA → Completes (.flashUnlockCycle c win off v) s fun t => s.touches [.regs, .pends, .flc, .sluice, .evf]
      [Blk.evf, Blk.flc, Blk.mnt] t ∧ t.flcStep c.num = 1 ∧ Cells.rd (fun _ => 0) t.flc.seqBank c.num = b ∧ t.flc.op =
      s.flc.op ∧ t.get Port.FLC_ERR = s.get Port.FLC_ERR) ∧
    (∀ (c : Core) (win : Fin 4) (off : BitVec 13) (v : Word) (b o : Nat), s.place c (BitVec.ofNat 18 (0x30000 +
      win.val * 0x2000 + off.toNat)) = .flash b o → s.domOn 14 = true → s.flcStep c.num = 1 → Cells.rd (fun _ => 0)
      s.flc.seqBank c.num = b → v = 0o252525 → o % 8192 = 0x1555 → Completes (.flashUnlockCycle c win off v) s fun t
      => s.touches [.regs, .pends, .flc, .sluice, .evf] [Blk.evf, Blk.flc, Blk.mnt] t ∧ t.flcStep c.num = 2 ∧ Cells.rd
      (fun _ => 0) t.flc.seqBank c.num = b ∧ t.flc.op = s.flc.op ∧ t.get Port.FLC_ERR = s.get Port.FLC_ERR) ∧
    (∀ (c : Core) (win : Fin 4) (off : BitVec 13) (v : Word) (b o : Nat), s.place c (BitVec.ofNat 18 (0x30000 +
      win.val * 0x2000 + off.toNat)) = .flash b o → s.domOn 14 = true → s.flcStep c.num = 0 → v ≠ 0o000360 → (v ≠
      0o525252 ∨ o % 8192 ≠ 0x0AAA) → Completes (.flashUnlockCycle c win off v) s fun t => s.touches [.regs, .pends,
      .flc, .sluice, .evf] [Blk.evf, Blk.flc, Blk.mnt] t ∧ t.flcStep c.num = 0 ∧ t.flc.op = s.flc.op ∧ t.getF
      Port.FLC_ERR 17 12 = 1 ∧ s.raises Irq.FLC_ERR t) ∧
    (∀ (c : Core) (win : Fin 4) (off : BitVec 13) (v : Word), s.place c (BitVec.ofNat 18 (0x30000 + win.val * 0x2000 +
      off.toNat)) = .none → (s.core c).res.toNat < 14 → Completes (.flashUnlockCycle c win off v) s fun t => s.touches
      [.regs, .latch, .time, .mem, .fuses, .rig, .cores, .pends, .basin, .lanes, .rx, .tx, .link, .trim, .utv, .flc,
      .dmc, .sec, .host, .psm, .pwr, .sluice, .evf, .tim, .pins] [Blk.sys, Blk.evf, Blk.hpt, Blk.flc, Blk.mem,
      Blk.dmc, Blk.bsn, Blk.trm, Blk.seq, Blk.rxc, Blk.lan, Blk.txc, Blk.utv, Blk.cph, Blk.mnt, Blk.dbg, Blk.own] t ∧
      State.trapped c 4 (s.core c).pc s t ∧ fld (t.core c).tcause 11 9 = 1 ∧ (t.core c).taddr = BitVec.ofNat 18
      (0x30000 + win.val * 0x2000 + off.toNat)) ∧
    (∀ (c : Core) (win : Fin 4) (off : BitVec 13) (d : Word) (b o : Nat), s.place c (BitVec.ofNat 18 (0x30000 +
      win.val * 0x2000 + off.toNat)) = .flash b o → s.domOn 14 = true → s.flcStep c.num = 2 → Cells.rd (fun _ => 0)
      s.flc.seqBank c.num = b → b < 4 → s.getB Port.FLC_STAT 0 = true → s.flc.op = none → s.flashErased b o = true →
      s.suspect b = none → Completes (.programWord c win off d) s fun t => s.touches [.regs, .pends, .flc, .sluice,
      .evf] [Blk.evf, Blk.flc, Blk.mnt] t ∧ t.flc.op = some ⟨1, b, o, [d]⟩ ∧ t.flc.running = false ∧ t.flcStep c.num =
      0 ∧ t.get Port.FLC_STAT = inFld 17 17 1 ||| inFld 15 15 1 ||| inFld 14 12 1 ||| inFld 11 9 b ||| inFld 8 1 (o /
      2048) ||| inFld 0 0 1 ∧ (s.granted Act.flash = false → t.waits Act.flash = true)) ∧
    (∀ (c : Core) (win : Fin 4) (off : BitVec 13) (d : Word) (b o : Nat), s.place c (BitVec.ofNat 18 (0x30000 +
      win.val * 0x2000 + off.toNat)) = .flash b o → s.domOn 14 = true → s.flcStep c.num = 2 → Cells.rd (fun _ => 0)
      s.flc.seqBank c.num = b → b < 4 → s.getB Port.FLC_STAT 0 = true → s.flc.op = none → s.flashUndef b o = false →
      s.flashErased b o = false → s.suspect b = none → Completes (.programWord c win off d) s fun t => s.touches
      [.regs, .pends, .flc, .sluice, .evf] [Blk.evf, Blk.flc, Blk.mnt] t ∧ t.flcStep c.num = 0 ∧ t.flc.op = s.flc.op ∧
      t.getF Port.FLC_ERR 17 12 = 4 ∧ s.raises Irq.FLC_ERR t) ∧
    (∀ (c : Core) (win : Fin 4) (off : BitVec 13) (d : Word) (b o : Nat), s.place c (BitVec.ofNat 18 (0x30000 +
      win.val * 0x2000 + off.toNat)) = .flash b o → s.domOn 14 = true → s.flcStep c.num = 2 → Cells.rd (fun _ => 0)
      s.flc.seqBank c.num = b → b < 4 → s.flc.op.isSome = true → Completes (.programWord c win off d) s fun t =>
      s.touches [.regs, .pends, .flc, .sluice, .evf] [Blk.evf, Blk.flc, Blk.mnt] t ∧ t.flcStep c.num = 0 ∧ t.flc.op =
      s.flc.op ∧ t.getF Port.FLC_ERR 17 12 = 2 ∧ s.raises Irq.FLC_ERR t) ∧
    (∀ (c : Core) (win : Fin 4) (off : BitVec 13) (d : Word) (b o : Nat), s.place c (BitVec.ofNat 18 (0x30000 +
      win.val * 0x2000 + off.toNat)) = .flash b o → s.domOn 14 = true → s.flcStep c.num = 2 → Cells.rd (fun _ => 0)
      s.flc.seqBank c.num = b → b < 4 → s.getB Port.FLC_STAT 0 = true → s.flc.op = none → s.suspect b = some (o /
      2048) → Completes (.programWord c win off d) s fun t => s.touches [.regs, .pends, .flc, .sluice, .evf] [Blk.evf,
      Blk.flc, Blk.mnt] t ∧ t.flcStep c.num = 0 ∧ t.flc.op = s.flc.op ∧ t.getF Port.FLC_ERR 17 12 = 5 ∧ s.raises
      Irq.FLC_ERR t) ∧
    (∀ (c : Core) (win : Fin 4) (off : BitVec 13) (d0 d1 d2 d3 : Word) (b o : Nat), s.place c (BitVec.ofNat 18
      (0x30000 + win.val * 0x2000 + off.toNat)) = .flash b o → s.domOn 14 = true → s.flcStep c.num = 2 → Cells.rd (fun
      _ => 0) s.flc.seqBank c.num = b → b < 4 → s.getB Port.FLC_STAT 0 = true → s.flc.op = none → off.toNat % 4 = 0 →
      [o, o + 1, o + 2, o + 3].all (s.flashErased b) = true → s.suspect b = none → Completes (.programRow c win off d0
      d1 d2 d3) s fun t => s.touches [.regs, .pends, .flc, .sluice, .evf] [Blk.evf, Blk.flc, Blk.mnt] t ∧ t.flc.op =
      some ⟨2, b, o, [d0, d1, d2, d3]⟩ ∧ t.flc.running = false ∧ t.flcStep c.num = 0 ∧ t.get Port.FLC_STAT = inFld 17
      17 1 ||| inFld 15 15 1 ||| inFld 14 12 2 ||| inFld 11 9 b ||| inFld 8 1 (o / 2048) ||| inFld 0 0 1 ∧ (s.granted
      Act.flash = false → t.waits Act.flash = true)) ∧
    (∀ (c : Core) (win : Fin 4) (off : BitVec 13) (b o : Nat), s.place c (BitVec.ofNat 18 (0x30000 + win.val * 0x2000
      + off.toNat)) = .flash b o → s.domOn 14 = true → s.flcStep c.num = 2 → Cells.rd (fun _ => 0) s.flc.seqBank c.num
      = b → b < 4 → s.getB Port.FLC_STAT 0 = true → s.flc.op = none → s.suspect b = none → Completes (.eraseSector c
      win off) s fun t => s.touches [.regs, .pends, .flc, .sluice, .evf] [Blk.evf, Blk.flc, Blk.mnt] t ∧ t.flc.op =
      some ⟨3, b, o, []⟩ ∧ t.flc.running = false ∧ t.flcStep c.num = 0 ∧ t.get Port.FLC_STAT = inFld 17 17 1 ||| inFld
      15 15 1 ||| inFld 14 12 3 ||| inFld 11 9 b ||| inFld 8 1 (o / 2048) ||| inFld 0 0 1 ∧ (s.granted Act.flash =
      false → t.waits Act.flash = true)) ∧
    (∀ (c : Core) (win : Fin 4) (off : BitVec 13) (b o k : Nat), s.place c (BitVec.ofNat 18 (0x30000 + win.val *
      0x2000 + off.toNat)) = .flash b o → s.domOn 14 = true → s.flcStep c.num = 2 → Cells.rd (fun _ => 0)
      s.flc.seqBank c.num = b → b < 4 → s.getB Port.FLC_STAT 0 = true → s.flc.op = none → s.suspect b = some k → k ≠ o
      / 2048 → Completes (.eraseSector c win off) s fun t => s.touches [.regs, .pends, .flc, .sluice, .evf] [Blk.evf,
      Blk.flc, Blk.mnt] t ∧ t.flcStep c.num = 0 ∧ t.flc.op = s.flc.op ∧ t.getF Port.FLC_ERR 17 12 = 5 ∧ s.raises
      Irq.FLC_ERR t) ∧
    (∀ (c : Core) (win : Fin 4) (off : BitVec 13) (b o : Nat), s.place c (BitVec.ofNat 18 (0x30000 + win.val * 0x2000
      + off.toNat)) = .flash b o → s.domOn 14 = true → s.flcStep c.num = 2 → Cells.rd (fun _ => 0) s.flc.seqBank c.num
      = b → b = 4 → Completes (.eraseSector c win off) s fun t => s.touches [.regs, .pends, .flc, .sluice, .evf]
      [Blk.evf, Blk.flc, Blk.mnt] t ∧ t.flcStep c.num = 0 ∧ t.flc.op = s.flc.op ∧ t.getF Port.FLC_ERR 17 12 = 3 ∧
      s.raises Irq.FLC_ERR t) ∧
    (∀ (c : Core) (win : Fin 4) (off : BitVec 13) (b o : Nat), s.place c (BitVec.ofNat 18 (0x30000 + win.val * 0x2000
      + off.toNat)) = .flash b o → s.domOn 14 = true → s.flcStep c.num = 2 → Cells.rd (fun _ => 0) s.flc.seqBank c.num
      = b → Completes (.abandon c win off) s fun t => s.touches [.regs, .pends, .flc, .sluice, .evf] [Blk.evf,
      Blk.flc, Blk.mnt] t ∧ t.flcStep c.num = 0 ∧ t.flc.op = s.flc.op ∧ t.get Port.FLC_ERR = s.get Port.FLC_ERR)

/-- Log entry 36 names what a read that waited too long leaves in its register. (1) Without an operation, in a running
  one or without its grant the start does nothing. (2) With it a program runs and no longer waits. (3) An erase does
  so with its intent in the bank's journal, under the next sequence number. (4) A program of a word that verifies
  stores it and no other, and ends with FLC_DONE, counted. (5) A program of a row stores its four words and no other.
  (6) An erase that verifies leaves its sector all ones and no other word changed, its intent closed and its sector no
  longer suspect. (7) One that fails leaves its sector suspect and its intent open, with error 7; what the sector
  reads is undefined. (8) A program that fails to verify ends with error 6. (9) A read that reaches a bank under erase
  suspends it after its minimum run, counted. (10) Without an erase that runs there is nothing to suspend. (11) Before
  its minimum run is over it is not suspended. (12) It resumes once the bank has seen no read for RESUME_IDLE. (13)
  Not before, and not when none is suspended. (14) The scan makes each open intent the suspect sector of its bank and
  sets SCANNED. (15) Scanned once, or with the flash domain down, it does nothing. (16) No scrub step comes with
  scrubbing off or in Reef 3 and 4 or before its rate. (17) One that is due asks the Sluice. (18) With its grant it
  corrects a single-bit error of its eight words, counts it, moves on by one group and gives the grant back. (19) An
  access that waits for DRAM goes on waiting before 64 µs. (20) After 64 µs it takes DATA_FAULT with its KIND and
  address and withdraws its request. -/
def Obligations.FlashOperationsRunToTheirEnd : Prop :=
  ∀ s : State,
    ((s.flc.op = none ∨ s.flc.running = true ∨ s.granted Act.flash = false) → Completes .flashOpStart s fun t => t =
      s) ∧
    (∀ (x : FlashOp), s.flc.op = some x → s.flc.running = false → s.granted Act.flash = true → x.op ≠ 3 → Completes
      .flashOpStart s fun t => s.touches [.regs, .flc] [Blk.flc] t ∧ t.flc = { s.flc with running := true } ∧ t.getB
      Port.FLC_STAT 15 = false) ∧
    (∀ (x : FlashOp), s.flc.op = some x → s.flc.running = false → s.granted Act.flash = true → x.op = 3 → Completes
      .flashOpStart s fun t => s.touches [.regs, .flc] [Blk.flc] t ∧ t.flc.running = true ∧ t.flc.op = s.flc.op ∧
      t.getB Port.FLC_STAT 15 = false ∧ t.openIntent x.bank = x.addr / 2048 + 1 ∧ Cells.rd (fun _ => 0)
      t.flc.journalSeq x.bank = Cells.rd (fun _ => 0) s.flc.journalSeq x.bank + 1) ∧
    (∀ (ok : Bool) (x : FlashOp) (d : Word), s.flc.op = some x → s.flc.running = true → s.getB Port.FLC_STAT 16 =
      false → x.op = 1 → x.data = [d] → ok = true → Completes (.flashOpDone ok) s fun t => s.touches [.regs, .mem,
      .pends, .flc, .sec, .sluice, .evf] [Blk.evf, Blk.flc, Blk.mnt] t ∧ t.flashWord x.bank x.addr = d ∧ (∀ k, k ≠
      flashKey x.bank x.addr → Cells.rd (fun _ => 0o777777) t.mem.flash k = Cells.rd (fun _ => 0o777777) s.mem.flash
      k) ∧ t.mem.sram = s.mem.sram ∧ s.counts 0x1012 t ∧ t.flc.op = none ∧ t.flc.running = false ∧ t.get Port.FLC_STAT
      = inFld 0 0 1 ∧ t.granted Act.flash = false ∧ s.raises Irq.FLC_DONE t) ∧
    (∀ (ok : Bool) (x : FlashOp), s.flc.op = some x → s.flc.running = true → s.getB Port.FLC_STAT 16 = false → x.op =
      2 → x.data.length = 4 → ok = true → Completes (.flashOpDone ok) s fun t => s.touches [.regs, .mem, .pends, .flc,
      .sec, .sluice, .evf] [Blk.evf, Blk.flc, Blk.mnt] t ∧ (∀ i, i < 4 → t.flashWord x.bank (x.addr + i) = x.data.getD
      i 0) ∧ (∀ k, k < flashKey x.bank x.addr ∨ flashKey x.bank x.addr + 4 ≤ k → Cells.rd (fun _ => 0o777777)
      t.mem.flash k = Cells.rd (fun _ => 0o777777) s.mem.flash k) ∧ t.mem.sram = s.mem.sram ∧ s.counts 0x1012 t ∧
      t.flc.op = none ∧ t.flc.running = false ∧ t.get Port.FLC_STAT = inFld 0 0 1 ∧ t.granted Act.flash = false ∧
      s.raises Irq.FLC_DONE t) ∧
    (∀ (ok : Bool) (x : FlashOp), s.flc.op = some x → s.flc.running = true → s.getB Port.FLC_STAT 16 = false → x.op =
      3 → x.bank < 4 → x.addr < 458752 → ok = true → Completes (.flashOpDone ok) s fun t => s.touches [.regs, .mem,
      .pends, .flc, .sec, .sluice, .evf] [Blk.evf, Blk.flc, Blk.mnt] t ∧ (∀ i, i < 2048 → t.flashWord x.bank (x.addr /
      2048 * 2048 + i) = 0o777777) ∧ t.openIntent x.bank = 0 ∧ t.suspect x.bank ≠ some (x.addr / 2048) ∧ (∀ k, k /
      2048 ≠ flashKey x.bank x.addr / 2048 → Cells.rd (fun _ => 0o777777) t.mem.flash k = Cells.rd (fun _ => 0o777777)
      s.mem.flash k) ∧ t.mem.sram = s.mem.sram ∧ s.counts 0x1011 t ∧ t.flc.op = none ∧ t.flc.running = false ∧ t.get
      Port.FLC_STAT = inFld 0 0 1 ∧ t.granted Act.flash = false ∧ s.raises Irq.FLC_DONE t) ∧
    (∀ (ok : Bool) (x : FlashOp), s.flc.op = some x → s.flc.running = true → s.getB Port.FLC_STAT 16 = false → x.op =
      3 → x.bank < 4 → x.addr < 458752 → ok = false → Completes (.flashOpDone ok) s fun t => s.touches [.regs, .mem,
      .pends, .flc, .sec, .sluice, .evf] [Blk.evf, Blk.flc, Blk.mnt] t ∧ t.getF Port.FLC_ERR 17 12 = 7 ∧ t.suspect
      x.bank = some (x.addr / 2048) ∧ t.openIntent x.bank = s.openIntent x.bank ∧ t.flc.op = none ∧ t.flc.running =
      false ∧ t.get Port.FLC_STAT = inFld 0 0 1 ∧ t.granted Act.flash = false ∧ s.raises Irq.FLC_DONE t) ∧
    (∀ (ok : Bool) (x : FlashOp), s.flc.op = some x → s.flc.running = true → s.getB Port.FLC_STAT 16 = false → (x.op =
      1 ∨ x.op = 2) → ok = false → Completes (.flashOpDone ok) s fun t => s.touches [.regs, .mem, .pends, .flc, .sec,
      .sluice, .evf] [Blk.evf, Blk.flc, Blk.mnt] t ∧ t.getF Port.FLC_ERR 17 12 = 6 ∧ t.flc.op = none ∧ t.flc.running =
      false ∧ t.get Port.FLC_STAT = inFld 0 0 1 ∧ t.granted Act.flash = false ∧ s.raises Irq.FLC_DONE t) ∧
    (∀ (x : FlashOp), s.flc.op = some x → s.flc.running = true → s.getB Port.FLC_STAT 16 = false → x.op = 3 → x.bank <
      4 → s.ranMin = true → Completes .eraseSuspend s fun t => s.touches [.regs, .flc] [Blk.flc] t ∧ t.getB
      Port.FLC_STAT 16 = true ∧ s.counts Port.FLC_SUSPCNT t ∧ t.flc = { s.flc with readAt := s.time.wall }) ∧
    ((s.flc.op = none ∨ s.flc.running = false) → Completes .eraseSuspend s fun t => t = s) ∧
    (s.getB Port.FLC_STAT 16 = false → s.ranMin = false → Completes .eraseSuspend s fun t => t = s) ∧
    (s.getB Port.FLC_STAT 16 = true → s.flc.readAt + max 1 (s.getF 0x1004 17 12) * 16 ≤ s.time.wall → Completes
      .eraseResume s fun t => s.touches [.regs, .flc] [Blk.flc] t ∧ t.getB Port.FLC_STAT 16 = false ∧ t.flc =
      { s.flc with resumedAt := some s.time.wall }) ∧
    ((s.getB Port.FLC_STAT 16 = false ∨ s.time.wall < s.flc.readAt + max 1 (s.getF 0x1004 17 12) * 16) → Completes
      .eraseResume s fun t => t = s) ∧
    (s.domOn 14 = true → s.getB Port.FLC_STAT 0 = false → Completes .journalScanDone s fun t => s.touches [.regs]
      [Blk.flc] t ∧ t.getB Port.FLC_STAT 0 = true ∧ (∀ b, b < 5 → t.suspect b = (if s.openIntent b = 0 then none else
      some ((s.openIntent b - 1) % 256))) ∧ t.flc = s.flc) ∧
    ((s.domOn 14 = false ∨ s.getB Port.FLC_STAT 0 = true) → Completes .journalScanDone s fun t => t = s) ∧
    ((s.getB Port.MEM_SCRUB 17 = false ∨ 2 < s.level ∨ s.time.wall < s.mem.scrubAt + max 1 (s.getF Port.MEM_SCRUB 5 0)
      * 16) → Completes .scrubStep s fun t => t = s) ∧
    (s.getB Port.MEM_SCRUB 17 = true → s.level ≤ 2 → s.mem.scrubAt + max 1 (s.getF Port.MEM_SCRUB 5 0) * 16 ≤
      s.time.wall → s.granted Act.sramScrub = false → Completes .scrubStep s fun t => s.touches [.regs, .sluice]
      [Blk.mnt] t ∧ t.waits Act.sramScrub = true) ∧
    (∀ (b g i : Nat), s.getB Port.MEM_SCRUB 17 = true → s.level ≤ 2 → s.mem.scrubAt + max 1 (s.getF Port.MEM_SCRUB 5
      0) * 16 ≤ s.time.wall → s.granted Act.sramScrub = true → s.getF Port.MEM_SCRUB_POS 17 12 = b → s.getF
      Port.MEM_SCRUB_POS 10 0 = g → b < 40 → s.scrubbed b = true → g < 2047 → i < 8 → s.sramBad (b * 16384 + 8 * g +
      i) = 1 → Completes .scrubStep s fun t => s.touches [.regs, .mem, .pends, .sluice, .evf] [Blk.evf, Blk.mem,
      Blk.mnt] t ∧ t.sramBad (b * 16384 + 8 * g + i) = 0 ∧ t.sramRd (b * 16384 + 8 * g + i) = s.sramRd (b * 16384 + 8
      * g + i) ∧ t.getF Port.MEM_SCRUB_POS 10 0 = g + 1 ∧ t.getF Port.MEM_SCRUB_POS 17 12 = b ∧ t.granted
      Act.sramScrub = false ∧ t.mem.scrubAt = s.time.wall) ∧
    (∀ (c : Core) (w : ApWait), (s.core c).apWait = some w → (timeDiff s.time.link w.since).toNat < 1024 → Completes
      (.apertureTimeout c) s fun t => t = s) ∧
    (∀ (c : Core) (w : ApWait), (s.core c).apWait = some w → 1024 ≤ (timeDiff s.time.link w.since).toNat → (s.core
      c).res.toNat < 14 → Completes (.apertureTimeout c) s fun t => s.touches [.regs, .latch, .time, .mem, .fuses,
      .rig, .cores, .pends, .basin, .lanes, .rx, .tx, .link, .trim, .utv, .flc, .dmc, .sec, .host, .psm, .pwr,
      .sluice, .evf, .tim, .pins] [Blk.sys, Blk.evf, Blk.hpt, Blk.flc, Blk.mem, Blk.dmc, Blk.bsn, Blk.trm, Blk.seq,
      Blk.rxc, Blk.lan, Blk.txc, Blk.utv, Blk.cph, Blk.mnt, Blk.dbg, Blk.own] t ∧ (t.core c).apWait = none ∧ (t.core
      c).pc = (s.core c).vbase + 16 ∧ fld (t.core c).tcause 17 12 = 4 ∧ fld (t.core c).tcause 11 9 = nat1 w.write ∧
      (t.core c).taddr = w.addr ∧ (t.core c).reg 11 = (s.core c).pc ∧ t.dmc.queue = s.dmc.queue.filter fun r => decide
      (r.port ≠ c.num))

/-- A command is refused by DMC_FLAGS BADCMD with DMC_EVT; the register answers the master. (1) POWERUP in RESET
  begins the power-up. (2) In another state, or under way, it is refused. (3) Its end makes the state TRAINING. (4)
  Without a power-up there is no end. (5) TRAINED after a good CHECK makes it WIPING. (6) In another state, without
  one or with a wrong density it is refused. (7) The end of the wipe makes it RUN: every word of DRAM is 0, with
  TRM_DRAM and DMC_EVT. (8) There is none outside WIPING. (9) DRAM that was idle for SR_IDLE asks the Sluice for
  self-refresh. (10) With the grant it enters SELF_REFRESH, counted, and gives the grant back. (11) Outside RUN, not
  enabled or not idle so long it stays. (12) A loss of the DRAM PLL with its domain down is none. (13) With it up it
  is counted and resets the domain, with its cause and count. -/
def Obligations.TheDramControllerPowersTrainsAndWipes : Prop :=
  ∀ s : State,
    (∀ (m : Master), s.answers m Port.DMC_CMD = true → s.dmcState = 1 → s.dmc.powering = false → Completes (.powerup
      m) s fun t => t = { s with dmc := { s.dmc with powering := true } }) ∧
    (∀ (m : Master), s.answers m Port.DMC_CMD = true → (s.dmcState ≠ 1 ∨ s.dmc.powering = true) → Completes (.powerup
      m) s fun t => s.touches [.regs, .pends, .evf] [Blk.evf, Blk.dmc] t ∧ t.dmcState = s.dmcState ∧ t.getB
      Port.DMC_FLAGS 1 = true ∧ s.raises Irq.DMC_EVT t) ∧
    (s.dmc.powering = true → s.dmcState = 1 → Completes .powerupDone s fun t => s.touches [.regs, .pends, .dmc, .evf]
      [Blk.evf, Blk.dmc] t ∧ t.dmcState = 2 ∧ t.dmc = { s.dmc with powering := false }) ∧
    ((s.dmc.powering = false ∨ s.dmcState ≠ 1) → Completes .powerupDone s fun t => t = s) ∧
    (∀ (m : Master), s.answers m Port.DMC_CMD = true → s.dmcState = 2 → s.dmc.checked = true → s.dmc.density = false →
      Completes (.trained m) s fun t => s.touches [.regs, .pends, .evf] [Blk.evf, Blk.dmc] t ∧ t.dmcState = 3 ∧ t.dmc
      = s.dmc) ∧
    (∀ (m : Master), s.answers m Port.DMC_CMD = true → (s.dmcState ≠ 2 ∨ s.dmc.checked = false ∨ s.dmc.density = true)
      → Completes (.trained m) s fun t => s.touches [.regs, .pends, .evf] [Blk.evf, Blk.dmc] t ∧ t.dmcState =
      s.dmcState ∧ t.getB Port.DMC_FLAGS 1 = true ∧ s.raises Irq.DMC_EVT t) ∧
    (s.dmcState = 3 → s.rigF 2 2 2 0 ≠ 0 → Completes .wipeDone s fun t => s.touches [.regs, .mem, .pends, .evf]
      [Blk.evf, Blk.dmc] t ∧ t.dmcState = 4 ∧ t.getB Port.DMC_STAT 14 = false ∧ t.getB Port.DMC_FLAGS 5 = true ∧ (∀ b
      i, t.dramWord b i = 0 ∧ t.dramBad b = 0) ∧ t.mem.sram = s.mem.sram ∧ t.mem.flash = s.mem.flash ∧ s.raises
      Irq.DMC_EVT t ∧ s.raises Irq.TRM_DRAM t) ∧
    (s.dmcState ≠ 3 → Completes .wipeDone s fun t => t = s) ∧
    (s.dmcState = 4 → s.getB Port.DMC_SR 17 = true → s.dramQuiet = true → s.granted Act.srEntry = false → Completes
      .selfRefreshEntry s fun t => s.touches [.regs, .sluice] [Blk.mnt] t ∧ t.waits Act.srEntry = true ∧ t.dmcState =
      4) ∧
    (s.dmcState = 4 → s.getB Port.DMC_SR 17 = true → s.dramQuiet = true → s.granted Act.srEntry = true → Completes
      .selfRefreshEntry s fun t => s.touches [.regs, .pends, .sluice, .evf] [Blk.evf, Blk.dmc, Blk.mnt] t ∧ t.dmcState
      = 5 ∧ s.counts Port.DMC_SRCNT t ∧ t.granted Act.srEntry = false ∧ t.dmc = s.dmc) ∧
    ((s.dmcState ≠ 4 ∨ s.getB Port.DMC_SR 17 = false ∨ s.dramQuiet = false) → Completes .selfRefreshEntry s fun t => t
      = s) ∧
    (s.domOn 12 = false → Completes .dramPllUnlock s fun t => t = s) ∧
    (s.domOn 12 = true → Completes .dramPllUnlock s fun t => s.touches [.regs, .latch, .time, .mem, .fuses, .rig,
      .cores, .pends, .basin, .lanes, .rx, .tx, .link, .trim, .utv, .flc, .dmc, .sec, .host, .psm, .pwr, .sluice,
      .evf, .tim, .pins] [Blk.sys, Blk.evf, Blk.hpt, Blk.flc, Blk.mem, Blk.dmc, Blk.bsn, Blk.trm, Blk.seq, Blk.rxc,
      Blk.lan, Blk.txc, Blk.utv, Blk.cph, Blk.mnt, Blk.own] t ∧ s.counts Port.CLK_LOSSCNT t ∧ s.counts (Port.RST_CNT
      2) t ∧ t.domOn 12 = false)

/-- The order of R332: the lower effective rank, then the older, then the lower port number. Refresh and ZQ
  calibration change nothing that the spec lets a master see. (1) While a request is under way or none waits nothing
  starts. (2) Else the one that goes first starts, and DRAM leaves self-refresh. (3) Of two requests of different
  ports and blocks the one with the lower rank goes first. (4) In another state it waits. (5) No transfer ends when
  none runs. (6) A core's read that ends writes the word to its register, and the core goes on. (7) A write that ends
  stores its word and changes no other. (8) A refresh changes nothing. (9) A ZQ calibration changes nothing. (10) A
  periodic check outside RUN or before CHECK ms does nothing. (11) One that is due asks the Sluice. (12) A density
  that differs freezes DRAM with cause 5. (13) Without a drift the check gives its grant back and goes on. (14) A
  drift makes a retrain due and asks the Sluice for it. (15) A temperature code of 7 sets its flag with DMC_EVT. (16)
  A retrain with its grant clears the drift, counted, with its flag and DMC_EVT. (17) None is due outside RUN or
  without a drift. (18) A scrub step that is due corrects its block and moves on by one, from the last to the first.
  (19) None comes outside RUN, not enabled or before its rate. -/
def Obligations.DramRequestsAreServedInOrder : Prop :=
  ∀ s : State,
    ((s.dmc.cur.isSome = true ∨ s.dmc.queue = []) → Completes .dramRequestStart s fun t => t = s) ∧
    (∀ (r : DramReq), s.dmc.cur = none → s.nextDram = some r → (s.dmcState = 4 ∨ s.dmcState = 5) → Completes
      .dramRequestStart s fun t => s.touches [.regs, .dmc] [Blk.dmc] t ∧ t.dmc.cur = some r ∧ t.dmc.queue =
      s.dmc.queue.erase r ∧ t.dmcState = 4) ∧
    (∀ (a b : DramReq), s.dmc.cur = none → s.dmcState = 4 → s.dmc.queue = [a, b] → a.port ≠ b.port → a.block ≠ b.block
      → s.effRank b < s.effRank a → Completes .dramRequestStart s fun t => s.touches [.regs, .dmc] [Blk.dmc] t ∧
      t.dmc.cur = some b ∧ t.dmc.queue = [a]) ∧
    (s.dmcState ≠ 4 → s.dmcState ≠ 5 → Completes .dramRequestStart s fun t => s.touches [.regs, .dmc] [Blk.dmc] t ∧
      t.dmc.cur = s.dmc.cur ∧ t.dmc.queue = s.dmc.queue ∧ t.dmcState = s.dmcState) ∧
    (s.dmc.cur = none → Completes .dramAccessDone s fun t => t = s) ∧
    (∀ (c : Core) (r : DramReq) (w : ApWait), s.dmc.cur = some r → coreOf r.port = c → (s.core c).apWait = some w →
      w.basin = false → w.write = false → w.block = r.block → w.idx < 12 → s.dmcState = 4 → s.dramBad r.block = 0 →
      s.ownerWrong r.port r.block = false → Completes .dramAccessDone s fun t => s.touches [.regs, .mem, .cores,
      .pends, .dmc, .evf] [Blk.evf, Blk.dmc, Blk.dbg] t ∧ t.dmc.cur = none ∧ (t.core c).apWait = none ∧ (t.core c).reg
      w.reg = s.dramWord w.block w.idx ∧ (t.core c).pc = (s.core c).pc + BitVec.ofNat 18 w.words ∧ t.mem = s.mem) ∧
    (∀ (c : Core) (r : DramReq) (w : ApWait), s.dmc.cur = some r → coreOf r.port = c → (s.core c).apWait = some w →
      w.basin = false → w.write = true → w.block = r.block → w.idx < 12 → s.dmcState = 4 → s.dramBad r.block = 0 →
      s.ownerWrong r.port r.block = false → Completes .dramAccessDone s fun t => s.touches [.regs, .mem, .cores,
      .pends, .dmc, .evf] [Blk.evf, Blk.dmc, Blk.dbg] t ∧ t.dmc.cur = none ∧ (t.core c).apWait = none ∧ t.dramWord
      w.block w.idx = w.v ∧ (∀ b i, i < 12 → (b ≠ w.block ∨ i ≠ w.idx) → t.dramWord b i = s.dramWord b i) ∧ (t.core
      c).pc = (s.core c).pc + BitVec.ofNat 18 w.words ∧ t.mem.sram = s.mem.sram ∧ t.mem.flash = s.mem.flash) ∧
    (Completes .refreshDue s fun t => t = s) ∧
    (Completes .zqCalibration s fun t => t = s) ∧
    (∀ (mr4 mr8 : BitVec 8) (drifted : Bool), (s.dmcState ≠ 4 ∨ s.time.wall < s.dmc.checkAt + max 1 (s.getF
      Port.DMC_CAL 8 0) * 16000) → Completes (.dramPeriodicCal mr4 mr8 drifted) s fun t => t = s) ∧
    (∀ (mr4 mr8 : BitVec 8) (drifted : Bool), s.dmcState = 4 → s.dmc.checkAt + max 1 (s.getF Port.DMC_CAL 8 0) * 16000
      ≤ s.time.wall → s.granted Act.dramPcal = false → Completes (.dramPeriodicCal mr4 mr8 drifted) s fun t =>
      s.touches [.regs, .sluice] [Blk.mnt] t ∧ t.waits Act.dramPcal = true) ∧
    (∀ (mr4 mr8 k : BitVec 8) (drifted : Bool), s.dmcState = 4 → s.dmc.checkAt + max 1 (s.getF Port.DMC_CAL 8 0) *
      16000 ≤ s.time.wall → s.granted Act.dramPcal = true → s.dmc.mr8 = some k → k ≠ mr8 → Completes (.dramPeriodicCal
      mr4 mr8 drifted) s fun t => s.touches [.regs, .pends, .dmc, .sluice, .evf] [Blk.evf, Blk.dmc, Blk.mnt] t ∧
      t.dmcState = 6 ∧ t.getF Port.DMC_FRZ_CAUSE 17 15 = 5 ∧ s.counts Port.DMC_FRZCNT t ∧ t.getB Port.DMC_FLAGS 4 =
      true ∧ s.raises Irq.DMC_EVT t ∧ t.granted Act.dramPcal = false) ∧
    (∀ (mr4 mr8 : BitVec 8), s.dmcState = 4 → s.dmc.checkAt + max 1 (s.getF Port.DMC_CAL 8 0) * 16000 ≤ s.time.wall →
      s.granted Act.dramPcal = true → s.dmc.mr8 = some mr8 → Completes (.dramPeriodicCal mr4 mr8 false) s fun t =>
      s.touches [.regs, .pends, .dmc, .sluice, .evf] [Blk.evf, Blk.dmc, Blk.mnt] t ∧ t.dmcState = 4 ∧ t.granted
      Act.dramPcal = false ∧ t.dmc = { s.dmc with checkAt := s.time.wall }) ∧
    (∀ (mr4 mr8 : BitVec 8), s.dmcState = 4 → s.dmc.checkAt + max 1 (s.getF Port.DMC_CAL 8 0) * 16000 ≤ s.time.wall →
      s.granted Act.dramPcal = true → s.dmc.mr8 = some mr8 → s.granted Act.dramRetrain = false → Completes
      (.dramPeriodicCal mr4 mr8 true) s fun t => s.touches [.regs, .pends, .dmc, .sluice, .evf] [Blk.evf, Blk.dmc,
      Blk.mnt] t ∧ t.dmcState = 4 ∧ t.granted Act.dramPcal = false ∧ t.dmc.driftPend = true ∧ t.waits Act.dramRetrain
      = true) ∧
    (∀ (mr4 mr8 : BitVec 8) (drifted : Bool), s.dmcState = 4 → s.dmc.checkAt + max 1 (s.getF Port.DMC_CAL 8 0) * 16000
      ≤ s.time.wall → s.granted Act.dramPcal = true → mr4.toNat % 8 = 7 → Completes (.dramPeriodicCal mr4 mr8 drifted)
      s fun t => s.touches [.regs, .pends, .dmc, .sluice, .evf] [Blk.evf, Blk.dmc, Blk.mnt] t ∧ t.getB Port.DMC_FLAGS
      3 = true ∧ s.raises Irq.DMC_EVT t) ∧
    (s.dmcState = 4 → s.dmc.driftPend = true → s.granted Act.dramRetrain = true → Completes .dramRetrain s fun t =>
      s.touches [.regs, .pends, .dmc, .sluice, .evf] [Blk.evf, Blk.dmc, Blk.mnt] t ∧ t.dmc =
      { s.dmc with driftPend := false } ∧ t.granted Act.dramRetrain = false ∧ t.getB Port.DMC_FLAGS 0 = true ∧
      s.counts Port.DMC_RETRNCNT t ∧ s.raises Irq.DMC_EVT t) ∧
    ((s.dmcState ≠ 4 ∨ s.dmc.driftPend = false) → Completes .dramRetrain s fun t => t = s) ∧
    (s.dmcState = 4 → s.getB Port.DMC_SCRUB 17 = true → s.dmc.scrubAt + max 1 (s.getF Port.DMC_SCRUB 11 0) * 16 ≤
      s.time.wall → s.dramBad s.dmc.scrubPos / 8 % 8 = 0 → s.dramBad s.dmc.scrubPos < 128 → Completes .dramScrubStep s
      fun t => s.touches [.regs, .mem, .pends, .dmc, .evf] [Blk.evf, Blk.dmc] t ∧ t.dramBad s.dmc.scrubPos = 0 ∧ t.dmc
      = { s.dmc with
        scrubPos := (if s.dmc.scrubPos + 1 < s.dramBlocks then s.dmc.scrubPos + 1 else 0), scrubAt := s.time.wall } ∧
      t.mem.dram = s.mem.dram ∧ t.dmcState = 4) ∧
    ((s.dmcState ≠ 4 ∨ s.getB Port.DMC_SCRUB 17 = false ∨ s.time.wall < s.dmc.scrubAt + max 1 (s.getF Port.DMC_SCRUB
      11 0) * 16) → Completes .dramScrubStep s fun t => t = s)

/-- One helper runs at a time; DMC_TRN_RES shows it by BUSY alone. (1) MRW starts in TRAINING. (2) Else, or with a
  helper running, MRW is refused. (3) MRR starts in TRAINING or FROZEN. (4) Else, or with a helper running, MRR is
  refused. (5) MPC starts in TRAINING. (6) Else, or with a helper running, MPC is refused. (7) CBT starts in TRAINING.
  (8) Else, or with a helper running, CBT is refused. (9) WLEV starts in TRAINING. (10) Else, or with a helper
  running, WLEV is refused. (11) RDQ starts in TRAINING. (12) Else, or with a helper running, RDQ is refused. (13)
  FIFO starts in TRAINING. (14) Else, or with a helper running, FIFO is refused. (15) CHECK starts in TRAINING. (16)
  Else, or with a helper running, CHECK is refused. (17) Without a helper there is no end. (18) A helper that ends
  leaves the bits of its result, its flag and DMC_EVT. (19) CHECK is good when its result is 0, and keeps what it
  found of the density. (20) MRR of register 8 keeps what it read there. (21) MRW writes its mode register, and a
  CHECK before it no longer counts. -/
def Obligations.TrainingHelpersRunInTraining : Prop :=
  ∀ s : State,
    (∀ (m : Master), s.answers m Port.DMC_TRN_CMD = true → s.dmc.helper = 0 → s.dmcState = 2 → Completes (.mrw m) s
      fun t => s.touches [.regs, .pends, .dmc, .evf] [Blk.evf, Blk.dmc] t ∧ t.dmc = { s.dmc with helper := 1 } ∧ t.get
      Port.DMC_TRN_RES = inFld 17 17 1) ∧
    (∀ (m : Master), s.answers m Port.DMC_TRN_CMD = true → (s.dmc.helper ≠ 0 ∨ s.dmcState ≠ 2) → Completes (.mrw m) s
      fun t => s.touches [.regs, .pends, .evf] [Blk.evf, Blk.dmc] t ∧ t.getB Port.DMC_FLAGS 1 = true ∧ s.raises
      Irq.DMC_EVT t) ∧
    (∀ (m : Master), s.answers m Port.DMC_TRN_CMD = true → s.dmc.helper = 0 → (s.dmcState = 2 ∨ s.dmcState = 6) →
      Completes (.mrr m) s fun t => s.touches [.regs, .pends, .dmc, .evf] [Blk.evf, Blk.dmc] t ∧ t.dmc =
      { s.dmc with helper := 2 } ∧ t.get Port.DMC_TRN_RES = inFld 17 17 1) ∧
    (∀ (m : Master), s.answers m Port.DMC_TRN_CMD = true → (s.dmc.helper ≠ 0 ∨ (s.dmcState ≠ 2 ∧ s.dmcState ≠ 6)) →
      Completes (.mrr m) s fun t => s.touches [.regs, .pends, .evf] [Blk.evf, Blk.dmc] t ∧ t.getB Port.DMC_FLAGS 1 =
      true ∧ s.raises Irq.DMC_EVT t) ∧
    (∀ (m : Master), s.answers m Port.DMC_TRN_CMD = true → s.dmc.helper = 0 → s.dmcState = 2 → Completes (.mpc m) s
      fun t => s.touches [.regs, .pends, .dmc, .evf] [Blk.evf, Blk.dmc] t ∧ t.dmc = { s.dmc with helper := 3 } ∧ t.get
      Port.DMC_TRN_RES = inFld 17 17 1) ∧
    (∀ (m : Master), s.answers m Port.DMC_TRN_CMD = true → (s.dmc.helper ≠ 0 ∨ s.dmcState ≠ 2) → Completes (.mpc m) s
      fun t => s.touches [.regs, .pends, .evf] [Blk.evf, Blk.dmc] t ∧ t.getB Port.DMC_FLAGS 1 = true ∧ s.raises
      Irq.DMC_EVT t) ∧
    (∀ (m : Master), s.answers m Port.DMC_TRN_CMD = true → s.dmc.helper = 0 → s.dmcState = 2 → Completes (.cbt m) s
      fun t => s.touches [.regs, .pends, .dmc, .evf] [Blk.evf, Blk.dmc] t ∧ t.dmc = { s.dmc with helper := 4 } ∧ t.get
      Port.DMC_TRN_RES = inFld 17 17 1) ∧
    (∀ (m : Master), s.answers m Port.DMC_TRN_CMD = true → (s.dmc.helper ≠ 0 ∨ s.dmcState ≠ 2) → Completes (.cbt m) s
      fun t => s.touches [.regs, .pends, .evf] [Blk.evf, Blk.dmc] t ∧ t.getB Port.DMC_FLAGS 1 = true ∧ s.raises
      Irq.DMC_EVT t) ∧
    (∀ (m : Master), s.answers m Port.DMC_TRN_CMD = true → s.dmc.helper = 0 → s.dmcState = 2 → Completes (.wlev m) s
      fun t => s.touches [.regs, .pends, .dmc, .evf] [Blk.evf, Blk.dmc] t ∧ t.dmc = { s.dmc with helper := 5 } ∧ t.get
      Port.DMC_TRN_RES = inFld 17 17 1) ∧
    (∀ (m : Master), s.answers m Port.DMC_TRN_CMD = true → (s.dmc.helper ≠ 0 ∨ s.dmcState ≠ 2) → Completes (.wlev m) s
      fun t => s.touches [.regs, .pends, .evf] [Blk.evf, Blk.dmc] t ∧ t.getB Port.DMC_FLAGS 1 = true ∧ s.raises
      Irq.DMC_EVT t) ∧
    (∀ (m : Master), s.answers m Port.DMC_TRN_CMD = true → s.dmc.helper = 0 → s.dmcState = 2 → Completes (.rdq m) s
      fun t => s.touches [.regs, .pends, .dmc, .evf] [Blk.evf, Blk.dmc] t ∧ t.dmc = { s.dmc with helper := 6 } ∧ t.get
      Port.DMC_TRN_RES = inFld 17 17 1) ∧
    (∀ (m : Master), s.answers m Port.DMC_TRN_CMD = true → (s.dmc.helper ≠ 0 ∨ s.dmcState ≠ 2) → Completes (.rdq m) s
      fun t => s.touches [.regs, .pends, .evf] [Blk.evf, Blk.dmc] t ∧ t.getB Port.DMC_FLAGS 1 = true ∧ s.raises
      Irq.DMC_EVT t) ∧
    (∀ (m : Master), s.answers m Port.DMC_TRN_CMD = true → s.dmc.helper = 0 → s.dmcState = 2 → Completes (.fifo m) s
      fun t => s.touches [.regs, .pends, .dmc, .evf] [Blk.evf, Blk.dmc] t ∧ t.dmc = { s.dmc with helper := 7 } ∧ t.get
      Port.DMC_TRN_RES = inFld 17 17 1) ∧
    (∀ (m : Master), s.answers m Port.DMC_TRN_CMD = true → (s.dmc.helper ≠ 0 ∨ s.dmcState ≠ 2) → Completes (.fifo m) s
      fun t => s.touches [.regs, .pends, .evf] [Blk.evf, Blk.dmc] t ∧ t.getB Port.DMC_FLAGS 1 = true ∧ s.raises
      Irq.DMC_EVT t) ∧
    (∀ (m : Master), s.answers m Port.DMC_TRN_CMD = true → s.dmc.helper = 0 → s.dmcState = 2 → Completes (.check m) s
      fun t => s.touches [.regs, .pends, .dmc, .evf] [Blk.evf, Blk.dmc] t ∧ t.dmc = { s.dmc with helper := 8 } ∧ t.get
      Port.DMC_TRN_RES = inFld 17 17 1) ∧
    (∀ (m : Master), s.answers m Port.DMC_TRN_CMD = true → (s.dmc.helper ≠ 0 ∨ s.dmcState ≠ 2) → Completes (.check m)
      s fun t => s.touches [.regs, .pends, .evf] [Blk.evf, Blk.dmc] t ∧ t.getB Port.DMC_FLAGS 1 = true ∧ s.raises
      Irq.DMC_EVT t) ∧
    (∀ (res : BitVec 17), s.dmc.helper = 0 → Completes (.trainingHelperDone res) s fun t => t = s) ∧
    (∀ (res : BitVec 17), s.dmc.helper ≠ 0 → s.dmc.helper ≤ 8 → Completes (.trainingHelperDone res) s fun t =>
      s.touches [.regs, .pends, .dmc, .evf] [Blk.evf, Blk.dmc] t ∧ t.dmc.helper = 0 ∧ (t.get Port.DMC_TRN_RES).toNat =
      res.toNat &&& helperMask s.dmc.helper ∧ t.getB Port.DMC_FLAGS 2 = true ∧ s.raises Irq.DMC_EVT t) ∧
    (∀ (res : BitVec 17), s.dmc.helper = 8 → Completes (.trainingHelperDone res) s fun t => s.touches [.regs, .pends,
      .dmc, .evf] [Blk.evf, Blk.dmc] t ∧ t.dmc =
      { s.dmc with helper := 0, checked := decide (res = 0), density := res.getLsbD 16 }) ∧
    (∀ (res : BitVec 17), s.dmc.helper = 2 → s.getF Port.DMC_TRN_ARG 13 8 = 8 → Completes (.trainingHelperDone res) s
      fun t => s.touches [.regs, .pends, .dmc, .evf] [Blk.evf, Blk.dmc] t ∧ t.dmc =
      { s.dmc with helper := 0, mr8 := some (res.setWidth 8) }) ∧
    (∀ (res : BitVec 17), s.dmc.helper = 1 → Completes (.trainingHelperDone res) s fun t => s.touches [.regs, .pends,
      .dmc, .evf] [Blk.evf, Blk.dmc] t ∧ Cells.rd (fun _ => 0) t.dmc.modeRegs (s.getF Port.DMC_TRN_ARG 13 8) = s.getF
      Port.DMC_TRN_ARG 7 0 ∧ (∀ k, k ≠ s.getF Port.DMC_TRN_ARG 13 8 → Cells.rd (fun _ => 0) t.dmc.modeRegs k =
      Cells.rd (fun _ => 0) s.dmc.modeRegs k) ∧ t.dmc.checked = false)

/-- One engine runs the jobs of all masters, the oldest first; a job whose area is the mailbox has DATA 0. A job
  command reaches its port. (1) A job command while the master's BUSY is 1 sets OVR and is ignored. (2) Else the eight
  words of the descriptor join the jobs and BUSY is 1. (3) A job on the master's open packet keeps that packet from
  Basin commands of the master until it ends. (4) No job starts with the cipher domain down, while one runs, or with
  none waiting. (5) The oldest starts; one that its checks refuse keeps their code and counts no use. (6) A verifying
  job that passes them counts no use. (7) A job that is a use of a slot without a limit counts one. (8) The use that
  reaches the limit sets SPENT with KEY_SPENT. (9) A use of a spent slot ends with code 2 and counts nothing. (10) A
  refused job ends with its code, CPH_DONE raised and nothing written. (11) A CMAC check ends with 0 if its tag is the
  tag of its data, counting no failure; if not, with 1, counted, with AUTH_FAIL; it writes nothing. (12) One with
  damaged data ends in the same way. (13) A CTR job writes its data under the key stream to its output area, no other
  SRAM word, and ends with 0. (14) Without a running job none ends. -/
def Obligations.CipherJobsRunInOrder : Prop :=
  ∀ s : State,
    (∀ (m : Master), s.answers m Port.CPH_JOB_CMD = true → s.getB (bank m 0x6012) 17 = true → Completes (.cipherJob m)
      s fun t => s.touches [.regs, .basin, .sec] [Blk.own] t ∧ t.getB (bank m 0x6012) 16 = true ∧ t.getB (bank m
      0x6012) 17 = true ∧ t.sec = s.sec) ∧
    (∀ (m : Master), s.answers m Port.CPH_JOB_CMD = true → s.getB (bank m 0x6012) 17 = false → s.getF (bank m 0x6011)
      13 0 + 8 ≤ s.mbxWords → Completes (.cipherJob m) s fun t => s.touches [.regs, .basin, .sec] [Blk.own] t ∧ t.get
      (bank m 0x6012) = inFld 17 17 1 ∧ t.sec =
      { s.sec with jobs := s.sec.jobs ++ [⟨m.num, s.mbxRds (s.getF (bank m 0x6011) 13 0) 8⟩] }) ∧
    (∀ (m : Master), s.answers m Port.CPH_JOB_CMD = true → s.getB (bank m 0x6012) 17 = false → s.getF (bank m 0x6011)
      13 0 + 8 ≤ s.mbxWords → fld (s.mbxRd (s.getF (bank m 0x6011) 13 0 + 1)) 17 15 = 1 → (s.copy m.num).deferred = 0
      → Completes (.cipherJob m) s fun t => s.touches [.regs, .basin, .sec] [Blk.own] t ∧ t.get (bank m 0x6012) =
      inFld 17 17 1 ∧ (t.copy m.num).deferred = 15) ∧
    ((s.domOn 15 = false ∨ s.sec.running.isSome = true ∨ s.sec.jobs = []) → Completes .cipherJobRun s fun t => t = s) ∧
    (∀ (j : SecJob) (r : List SecJob), s.domOn 15 = true → s.sec.running = none → s.sec.jobs = j :: r → s.jobCheck j ≠
      0 → Completes .cipherJobRun s fun t => t =
      { s with sec := { s.sec with running := some j, jobs := r, jobResult := s.jobCheck j } }) ∧
    (∀ (j : SecJob) (r : List SecJob), s.domOn 15 = true → s.sec.running = none → s.sec.jobs = j :: r → s.jobCheck j =
      0 → j.counts = false → Completes .cipherJobRun s fun t => t =
      { s with sec := { s.sec with running := some j, jobs := r, jobResult := 0 } }) ∧
    (∀ (j : SecJob) (r : List SecJob), s.domOn 15 = true → s.sec.running = none → s.sec.jobs = j :: r → s.jobCheck j =
      0 → j.counts = true → s.slotLimit j.slot = 0 → s.slotCount j.slot < 2 ^ 36 - 1 → Completes .cipherJobRun s fun t
      => s.touches [.regs, .pends, .sec, .evf] [Blk.evf, Blk.cph] t ∧ t.sec =
      { s.sec with running := some j, jobs := r, jobResult := 0 } ∧ t.slotCount j.slot = s.slotCount j.slot + 1) ∧
    (∀ (j : SecJob) (r : List SecJob), s.domOn 15 = true → s.sec.running = none → s.sec.jobs = j :: r → s.jobCheck j =
      0 → j.counts = true → s.slotLimit j.slot ≠ 0 → s.slotCount j.slot + 1 = s.slotLimit j.slot → Completes
      .cipherJobRun s fun t => s.touches [.regs, .pends, .sec, .evf] [Blk.evf, Blk.cph] t ∧ t.sec =
      { s.sec with running := some j, jobs := r, jobResult := 0 } ∧ t.slotCount j.slot = s.slotLimit j.slot ∧ t.getB
      (Port.CPH_SLOT_STAT j.slot) 15 = true ∧ s.raises Irq.KEY_SPENT t) ∧
    (∀ (j : SecJob) (r : List SecJob), s.domOn 15 = true → s.sec.running = none → s.sec.jobs = j :: r → s.jobCheck j =
      0 → j.counts = true → s.slotLimit j.slot ≠ 0 → s.slotCount j.slot = s.slotLimit j.slot → Completes .cipherJobRun
      s fun t => t = { s with sec := { s.sec with running := some j, jobs := r, jobResult := 2 } }) ∧
    (∀ (j : SecJob), s.sec.running = some j → s.sec.jobResult ≠ 0 → s.sec.jobResult < 8 → Completes .cipherJobEnd s
      fun t => s.touches [.regs, .pends, .basin, .sec, .evf] [Blk.evf, Blk.own] t ∧ t.getF (j.port 0x6012) 14 12 =
      s.sec.jobResult ∧ t.getB (j.port 0x6012) 17 = false ∧ t.sec = { s.sec with running := none, jobResult := 0 } ∧
      s.raises Irq.CPH_DONE t) ∧
    (∀ (j : SecJob), s.sec.running = some j → s.sec.jobResult = 0 → j.data = 0 → j.op = 1 → j.mode = 3 → damaged
      (s.jobIn j).1 = false → damaged (s.mbxNonets (j.f 5 13 0) (j.f 6 17 12)) = false → damaged (s.mbxNonets (j.f 7
      13 0) (j.f 6 9 0)) = false → damaged (s.jobTag j) = false → Completes .cipherJobEnd s fun t => s.touches [.regs,
      .pends, .basin, .sec, .evf] [Blk.evf, Blk.cph, Blk.own] t ∧ t.getB (j.port 0x6012) 17 = false ∧ (if octetsOf
      (s.jobTag j) = (aesCmac (s.keySlot j.slot).octets (octetsOf (s.jobIn j).1)).take j.tag then t.getF (j.port
      0x6012) 14 12 = 0 ∧ t.get Port.CPH_AUTHCNT = s.get Port.CPH_AUTHCNT else t.getF (j.port 0x6012) 14 12 = 1 ∧
      s.counts Port.CPH_AUTHCNT t ∧ s.raises Irq.AUTH_FAIL t) ∧ t.sec = { s.sec with running := none, jobResult := 0 }
      ∧ s.raises Irq.CPH_DONE t) ∧
    (∀ (j : SecJob), s.sec.running = some j → s.sec.jobResult = 0 → j.data = 0 → j.op = 1 → j.mode = 3 → damaged
      (s.jobIn j).1 = true → Completes .cipherJobEnd s fun t => s.touches [.regs, .pends, .basin, .sec, .evf]
      [Blk.evf, Blk.cph, Blk.own] t ∧ t.getF (j.port 0x6012) 14 12 = 1 ∧ t.getB (j.port 0x6012) 17 = false ∧ s.counts
      Port.CPH_AUTHCNT t ∧ s.raises Irq.AUTH_FAIL t ∧ t.sec = { s.sec with running := none, jobResult := 0 } ∧
      s.raises Irq.CPH_DONE t) ∧
    (∀ (j : SecJob), s.sec.running = some j → s.sec.jobResult = 0 → j.data = 0 → j.op = 0 → j.mode = 2 → (s.jobIn
      j).1.length = j.dlen → s.mbxHas (j.f 3 13 0) j.dlen = true → s.liveState ≠ 1 → damaged (s.jobIn j).1 = false →
      damaged (s.mbxNonets (j.f 5 13 0) (j.f 6 17 12)) = false → damaged (s.mbxNonets (j.f 7 13 0) (j.f 6 9 0)) =
      false → Completes .cipherJobEnd s fun t => s.touches [.regs, .mem, .pends, .basin, .sec, .evf] [Blk.evf,
      Blk.bsn, Blk.own] t ∧ t.getF (j.port 0x6012) 14 12 = 0 ∧ t.mbxNonets (j.f 3 13 0) j.dlen = cleanNonets (aesCtr
      (s.keySlot j.slot).octets (octetsOf (s.mbxNonets (j.f 5 13 0) (j.f 6 17 12))) 4 (octetsOf (s.jobIn j).1)) ∧ (∀
      x, (x < s.mbxAddr (j.f 3 13 0) ∨ s.mbxAddr (j.f 3 13 0) + (j.dlen + 1) / 2 ≤ x) → t.sramRd x = s.sramRd x) ∧
      t.mem.flash = s.mem.flash ∧ t.mem.dram = s.mem.dram ∧ t.sec = { s.sec with running := none, jobResult := 0 } ∧
      s.raises Irq.CPH_DONE t) ∧
    (s.sec.running = none → Completes .cipherJobEnd s fun t => t = s)

/-- A key command of a master reaches its port; k is the slot its SLOT names, o its mailbox offset. A command that
  fails changes no slot. (1) LOAD under a key-encryption key that may not be used answers its code. (2) LOAD into a
  slot that a job names answers 4. (3) LOAD of a blob with a wrong header or length answers 2. (4) LOAD of a blob that
  does not unwrap answers 1. (5) LOAD of one whose plaintext breaks R345 answers 2. (6) LOAD of a good one fills the
  slot with its key, usage and limit, COUNT 0, answers 0 and changes no other slot. (7) CLEAR of a slot that a job
  names answers 4. (8) CLEAR of another empties it, answers 0 and changes no other slot. (9) DERIVE under the device
  key answers 5. (10) DERIVE from a slot that is empty or may not derive answers 3. (11) DERIVE into a slot that a job
  names answers 4. (12) DERIVE from a spent slot answers 7. (13) DERIVE fills the slot with the encryption of the
  mailbox block under the source, the usage that both name, the source's limit and COUNT 0, and counts a use of the
  source. (14) EXPORT under a key-encryption key that may not be used answers its code. (15) EXPORT of a slot that is
  empty or may not leave answers 5. (16) EXPORT of a slot without a limit under the device key writes the blob of R345
  to the mailbox, no other SRAM word, answers 0 and changes no slot. -/
def Obligations.KeySlotsAreFilledAndEmptied : Prop :=
  ∀ s : State,
    (∀ (m : Master) (k o : Nat) (r : Nat), s.answers m Port.CPH_KEY_CMD = true → s.getF (bank m 0x6021) 17 12 = k →
      s.getF (bank m 0x6022) 13 0 = o → s.kek m = .inr r → Completes (.load m) s fun t => t = s.keyRes m r) ∧
    (∀ (m : Master) (k o : Nat) (key : List Octet), s.answers m Port.CPH_KEY_CMD = true → s.getF (bank m 0x6021) 17 12
      = k → s.getF (bank m 0x6022) 13 0 = o → s.kek m = .inl key → s.slotInUse k = true → Completes (.load m) s fun t
      => t = s.keyRes m 4) ∧
    (∀ (m : Master) (k o : Nat) (key : List Octet), s.answers m Port.CPH_KEY_CMD = true → s.getF (bank m 0x6021) 17 12
      = k → s.getF (bank m 0x6022) 13 0 = o → s.kek m = .inl key → s.slotInUse k = false → o < s.mbxWords → (fld
      (s.mbxEngine o) 17 15 ≠ 1 ∨ fld (s.mbxEngine o) 14 6 ≠ 0 ∨ (fld (s.mbxEngine o) 5 0 ≠ 32 ∧ fld (s.mbxEngine o) 5
      0 ≠ 48)) → Completes (.load m) s fun t => t = s.keyRes m 2) ∧
    (∀ (m : Master) (k o : Nat) (n : Nat) (key : List Octet), s.answers m Port.CPH_KEY_CMD = true → s.getF (bank m
      0x6021) 17 12 = k → s.getF (bank m 0x6022) 13 0 = o → s.kek m = .inl key → s.slotInUse k = false → o <
      s.mbxWords → fld (s.mbxEngine o) 17 15 = 1 → fld (s.mbxEngine o) 14 6 = 0 → fld (s.mbxEngine o) 5 0 = n → (n =
      32 ∨ n = 48) → s.mbxHas (o + 1) n = true → damaged (s.mbxNonets (o + 1) n) = false → Completes (.load m) s fun t
      => s.touches [.regs, .sec] [Blk.cph, Blk.own] t ∧ (kwUnwrap key (octetsOf (s.mbxNonets (o + 1) n)) = none → t =
      s.keyRes m 1)) ∧
    (∀ (m : Master) (k o : Nat) (n : Nat) (key p : List Octet), s.answers m Port.CPH_KEY_CMD = true → s.getF (bank m
      0x6021) 17 12 = k → s.getF (bank m 0x6022) 13 0 = o → s.kek m = .inl key → s.slotInUse k = false → o <
      s.mbxWords → fld (s.mbxEngine o) 17 15 = 1 → fld (s.mbxEngine o) 14 6 = 0 → fld (s.mbxEngine o) 5 0 = n → (n =
      32 ∨ n = 48) → s.mbxHas (o + 1) n = true → damaged (s.mbxNonets (o + 1) n) = false → Completes (.load m) s fun t
      => s.touches [.regs, .sec] [Blk.cph, Blk.own] t ∧ (kwUnwrap key (octetsOf (s.mbxNonets (o + 1) n)) = some p →
      ¬((p.getD 0 0).toNat = 1 ∧ (p.getD 1 0).toNat + 16 = n ∧ p.length + 8 = n ∧ (p.getD 2 0).toNat < 128 ∧ (p.getD 7
      0).toNat < 16) → t = s.keyRes m 2)) ∧
    (∀ (m : Master) (k o : Nat) (n : Nat) (key p : List Octet), s.answers m Port.CPH_KEY_CMD = true → s.getF (bank m
      0x6021) 17 12 = k → s.getF (bank m 0x6022) 13 0 = o → s.kek m = .inl key → s.slotInUse k = false → o <
      s.mbxWords → fld (s.mbxEngine o) 17 15 = 1 → fld (s.mbxEngine o) 14 6 = 0 → fld (s.mbxEngine o) 5 0 = n → (n =
      32 ∨ n = 48) → s.mbxHas (o + 1) n = true → damaged (s.mbxNonets (o + 1) n) = false → Completes (.load m) s fun t
      => s.touches [.regs, .sec] [Blk.cph, Blk.own] t ∧ (kwUnwrap key (octetsOf (s.mbxNonets (o + 1) n)) = some p →
      (p.getD 0 0).toNat = 1 → (p.getD 1 0).toNat + 16 = n → p.length + 8 = n → (p.getD 2 0).toNat < 128 → (p.getD 7
      0).toNat < 16 → t.getF (bank m 0x6024) 14 12 = 0 ∧ t.keySlot k = keyOf (p.drop 8) ∧ t.getF (Port.CPH_SLOT_STAT
      k) 7 0 = (p.getD 2 0).toNat ∧ t.getB (Port.CPH_SLOT_STAT k) 17 = (keyOf (p.drop 8)).valid ∧ t.slotLimit k =
      natLE ((p.drop 3).take 5) ∧ t.slotCount k = 0 ∧ (∀ j, j < 64 → j ≠ k → t.keySlot j = s.keySlot j ∧ t.get
      (Port.CPH_SLOT_STAT j) = s.get (Port.CPH_SLOT_STAT j)))) ∧
    (∀ (m : Master) (k o : Nat), s.answers m Port.CPH_KEY_CMD = true → s.getF (bank m 0x6021) 17 12 = k → s.getF (bank
      m 0x6022) 13 0 = o → s.slotInUse k = true → Completes (.clear m) s fun t => t = s.keyRes m 4) ∧
    (∀ (m : Master) (k o : Nat), s.answers m Port.CPH_KEY_CMD = true → s.getF (bank m 0x6021) 17 12 = k → s.getF (bank
      m 0x6022) 13 0 = o → s.slotInUse k = false → Completes (.clear m) s fun t => s.touches [.regs, .sec] [Blk.cph,
      Blk.own] t ∧ t.getF (bank m 0x6024) 14 12 = 0 ∧ t.keySlot k = KeySlot.empty ∧ t.get (Port.CPH_SLOT_STAT k) = 0 ∧
      t.slotCount k = 0 ∧ t.slotLimit k = 0 ∧ (∀ j, j < 64 → j ≠ k → t.keySlot j = s.keySlot j ∧ t.get
      (Port.CPH_SLOT_STAT j) = s.get (Port.CPH_SLOT_STAT j))) ∧
    (∀ (m : Master) (k o : Nat), s.answers m Port.CPH_KEY_CMD = true → s.getF (bank m 0x6021) 17 12 = k → s.getF (bank
      m 0x6022) 13 0 = o → s.getB (bank m 0x6021) 5 = true → Completes (.derive m) s fun t => t = s.keyRes m 5) ∧
    (∀ (m : Master) (k o : Nat) (src : Nat), s.answers m Port.CPH_KEY_CMD = true → s.getF (bank m 0x6021) 17 12 = k →
      s.getF (bank m 0x6022) 13 0 = o → s.getB (bank m 0x6021) 5 = false → s.getF (bank m 0x6021) 11 6 = src →
      ((s.keySlot src).valid = false ∨ s.slotUsage src 4 = false) → Completes (.derive m) s fun t => t = s.keyRes m 3) ∧
    (∀ (m : Master) (k o : Nat) (src : Nat), s.answers m Port.CPH_KEY_CMD = true → s.getF (bank m 0x6021) 17 12 = k →
      s.getF (bank m 0x6022) 13 0 = o → s.getB (bank m 0x6021) 5 = false → s.getF (bank m 0x6021) 11 6 = src →
      (s.keySlot src).valid = true → s.slotUsage src 4 = true → s.slotInUse k = true → Completes (.derive m) s fun t
      => t = s.keyRes m 4) ∧
    (∀ (m : Master) (k o : Nat) (src : Nat), s.answers m Port.CPH_KEY_CMD = true → s.getF (bank m 0x6021) 17 12 = k →
      s.getF (bank m 0x6022) 13 0 = o → s.getB (bank m 0x6021) 5 = false → s.getF (bank m 0x6021) 11 6 = src →
      (s.keySlot src).valid = true → s.slotUsage src 4 = true → s.slotInUse k = false → s.mbxHas o 16 = true → damaged
      (s.mbxNonets o 16) = false → s.getB (bank m 0x6023) 17 = false → s.slotLimit src ≠ 0 → s.slotCount src =
      s.slotLimit src → Completes (.derive m) s fun t => t = s.keyRes m 7) ∧
    (∀ (m : Master) (k o : Nat) (src : Nat), s.answers m Port.CPH_KEY_CMD = true → s.getF (bank m 0x6021) 17 12 = k →
      s.getF (bank m 0x6022) 13 0 = o → s.getB (bank m 0x6021) 5 = false → s.getF (bank m 0x6021) 11 6 = src →
      (s.keySlot src).valid = true → s.slotUsage src 4 = true → s.slotInUse k = false → s.mbxHas o 16 = true → damaged
      (s.mbxNonets o 16) = false → s.getB (bank m 0x6023) 17 = false → s.slotLimit src = 0 → s.slotCount src < 2 ^ 36
      - 1 → src ≠ k → Completes (.derive m) s fun t => s.touches [.regs, .pends, .sec, .evf] [Blk.evf, Blk.cph,
      Blk.own] t ∧ t.getF (bank m 0x6024) 14 12 = 0 ∧ t.keySlot k = keyOf (aesEnc (s.keySlot src).octets (octetsOf
      (s.mbxNonets o 16))) ∧ t.getF (Port.CPH_SLOT_STAT k) 7 0 = s.getF (bank m 0x6023) 7 0 &&& s.getF
      (Port.CPH_SLOT_STAT src) 7 0 ∧ t.slotLimit k = 0 ∧ t.slotCount k = 0 ∧ t.slotCount src = s.slotCount src + 1 ∧
      (∀ j, j ≠ k → t.keySlot j = s.keySlot j)) ∧
    (∀ (m : Master) (k o : Nat) (r : Nat), s.answers m Port.CPH_KEY_CMD = true → s.getF (bank m 0x6021) 17 12 = k →
      s.getF (bank m 0x6022) 13 0 = o → s.kek m = .inr r → Completes (.exportKey m) s fun t => t = s.keyRes m r) ∧
    (∀ (m : Master) (k o : Nat) (key : List Octet), s.answers m Port.CPH_KEY_CMD = true → s.getF (bank m 0x6021) 17 12
      = k → s.getF (bank m 0x6022) 13 0 = o → s.kek m = .inl key → ((s.keySlot k).valid = false ∨ s.slotUsage k 6 =
      false) → Completes (.exportKey m) s fun t => t = s.keyRes m 5) ∧
    (∀ (m : Master) (k o : Nat) (key : List Octet), s.answers m Port.CPH_KEY_CMD = true → s.getF (bank m 0x6021) 17 12
      = k → s.getF (bank m 0x6022) 13 0 = o → s.getB (bank m 0x6021) 5 = true → s.kek m = .inl key → (s.keySlot
      k).valid = true → s.slotUsage k 6 = true → s.slotLimit k = 0 → s.liveState ≠ 1 → s.mbxHas (o + 1) ((s.keySlot
      k).octets.length + 16) = true → Completes (.exportKey m) s fun t => s.touches [.regs, .mem, .pends, .evf]
      [Blk.evf, Blk.cph, Blk.own] t ∧ t.getF (bank m 0x6024) 14 12 = 0 ∧ t.mbxRd o = inFld 17 15 1 ||| inFld 5 0
      ((s.keySlot k).octets.length + 16) ∧ octetsOf (t.mbxNonets (o + 1) ((s.keySlot k).octets.length + 16)) = kwWrap
      key ([0x01#8, BitVec.ofNat 8 (s.keySlot k).octets.length, BitVec.ofNat 8 (s.getF (Port.CPH_SLOT_STAT k) 7 0), 0,
      0, 0, 0, 0] ++ (s.keySlot k).octets) ∧ t.sec = s.sec ∧ (∀ x, (x < s.mbxAddr o ∨ s.mbxAddr o + 25 ≤ x) → t.sramRd
      x = s.sramRd x) ∧ t.mem.flash = s.mem.flash ∧ t.mem.dram = s.mem.dram)

/-- A command of a master reaches its port. The LCF holds the verify engine for an ARM and for activations. (1) HASH
  on an idle engine starts and shows BUSY. (2) CRC on an idle engine starts and shows BUSY. (3) ECDSA on an idle
  engine starts and shows BUSY. (4) HASH while a command runs sets OVR and is ignored. (5) CRC while a command runs
  sets OVR and is ignored. (6) ECDSA while a command runs sets OVR and is ignored. (7) A command while the LCF holds
  the engine is kept, when none is kept yet. (8) A HASH that ends leaves the SHA-256 digest of its octets. (9) A CRC
  that ends leaves their CRC-32C in the first two digest words. (10) Either over words that it cannot read ends with
  their code, the digest unchanged. (11) Damaged nonets in nonet form end it with 3. (12) An ECDSA check with a public
  key off the curve ends with 4. (13) No verify command ends that does not run. (14) ARM takes the verify engine and
  shows BUSY. (15) ARM while one runs sets OVR and is ignored. (16) No ARM ends that does not run. (17) With an ARM
  row in the log it ends with 5. (18) The first block whose record fails ends it with 1 and names the block. (19) A
  staged image that R358 refuses ends it with the code of its fault. (20) When every check passes it ends with 0 and
  the log holds an ARM row of the image. (21) An activation copies the staged image into the core's bank and releases
  the group. (22) When the copy passes R358 the core starts at its ENTRY on trial. (23) When neither the copy nor the
  staged image passes, the image is dead with reason 6 and the core runs its anchor. (24) No activation ends for a
  group that is not held. (25) A check-in of the core under trial ends the trial and is logged. (26) A check-in of
  another core or master changes nothing. (27) A trial that runs out resets the core's group, its image dead with
  reason 4 and a DEAD row logged. (28) Before its end, and without a trial, nothing happens. -/
def Obligations.VerifyCommandsAndTheArmedImage : Prop :=
  ∀ s : State,
    (∀ (m : Master), s.answers m Port.CPH_VFY_CMD = true → s.getB Port.CPH_VFY_STAT 15 = false → s.getB
      Port.CPH_VFY_STAT 17 = false → Completes (.hash m) s fun t => s.touches [.regs, .sec] [Blk.cph] t ∧ t.sec =
      { s.sec with vfy := 1 } ∧ t.getB Port.CPH_VFY_STAT 17 = true) ∧
    (∀ (m : Master), s.answers m Port.CPH_VFY_CMD = true → s.getB Port.CPH_VFY_STAT 15 = false → s.getB
      Port.CPH_VFY_STAT 17 = false → Completes (.crc m) s fun t => s.touches [.regs, .sec] [Blk.cph] t ∧ t.sec =
      { s.sec with vfy := 2 } ∧ t.getB Port.CPH_VFY_STAT 17 = true) ∧
    (∀ (m : Master), s.answers m Port.CPH_VFY_CMD = true → s.getB Port.CPH_VFY_STAT 15 = false → s.getB
      Port.CPH_VFY_STAT 17 = false → Completes (.ecdsa m) s fun t => s.touches [.regs, .sec] [Blk.cph] t ∧ t.sec =
      { s.sec with vfy := 3 } ∧ t.getB Port.CPH_VFY_STAT 17 = true) ∧
    (∀ (m : Master), s.answers m Port.CPH_VFY_CMD = true → s.getB Port.CPH_VFY_STAT 15 = false → s.getB
      Port.CPH_VFY_STAT 17 = true → Completes (.hash m) s fun t => t = s.setB Port.CPH_VFY_STAT 16 true) ∧
    (∀ (m : Master), s.answers m Port.CPH_VFY_CMD = true → s.getB Port.CPH_VFY_STAT 15 = false → s.getB
      Port.CPH_VFY_STAT 17 = true → Completes (.crc m) s fun t => t = s.setB Port.CPH_VFY_STAT 16 true) ∧
    (∀ (m : Master), s.answers m Port.CPH_VFY_CMD = true → s.getB Port.CPH_VFY_STAT 15 = false → s.getB
      Port.CPH_VFY_STAT 17 = true → Completes (.ecdsa m) s fun t => t = s.setB Port.CPH_VFY_STAT 16 true) ∧
    (∀ (m : Master), s.answers m Port.CPH_VFY_CMD = true → s.getB Port.CPH_VFY_STAT 15 = true → s.sec.vfyHeld = 0 →
      Completes (.crc m) s fun t => t = { s with sec := { s.sec with vfyHeld := 2 } }) ∧
    (∀ (ws : List Word) (l : List Octet), s.domOn 15 = true → s.sec.vfy = 1 → s.vfyWords = .inl ws → vfyOctets (s.getF
      Port.CPH_VFY_ARG_0 11 9) ws = some l → Completes .verifyDone s fun t => s.touches [.regs, .pends, .sec, .evf]
      [Blk.evf, Blk.cph] t ∧ t.getF Port.CPH_VFY_STAT 14 12 = 0 ∧ t.cphDigest = sha256 l ∧ t.sec =
      { s.sec with vfy := 0 } ∧ t.getB Port.CPH_VFY_STAT 17 = false ∧ s.raises Irq.VFY_DONE t) ∧
    (∀ (ws : List Word) (l : List Octet), s.domOn 15 = true → s.sec.vfy = 2 → s.vfyWords = .inl ws → vfyOctets (s.getF
      Port.CPH_VFY_ARG_0 11 9) ws = some l → Completes .verifyDone s fun t => s.touches [.regs, .pends, .sec, .evf]
      [Blk.evf, Blk.cph] t ∧ t.getF Port.CPH_VFY_STAT 14 12 = 0 ∧ (t.get (Port.CPH_DIG 0)).toNat + 262144 * (t.get
      (Port.CPH_DIG 1)).toNat = (crc32c l).toNat ∧ t.sec = { s.sec with vfy := 0 } ∧ t.getB Port.CPH_VFY_STAT 17 =
      false ∧ s.raises Irq.VFY_DONE t) ∧
    (∀ (r : Nat), s.domOn 15 = true → (s.sec.vfy = 1 ∨ s.sec.vfy = 2) → s.vfyWords = .inr r → r < 8 → Completes
      .verifyDone s fun t => s.touches [.regs, .pends, .sec, .evf] [Blk.evf, Blk.cph] t ∧ t.getF Port.CPH_VFY_STAT 14
      12 = r ∧ t.cphDigest = s.cphDigest ∧ t.sec = { s.sec with vfy := 0 } ∧ t.getB Port.CPH_VFY_STAT 17 = false ∧
      s.raises Irq.VFY_DONE t) ∧
    (∀ (ws : List Word), s.domOn 15 = true → (s.sec.vfy = 1 ∨ s.sec.vfy = 2) → s.vfyWords = .inl ws → vfyOctets
      (s.getF Port.CPH_VFY_ARG_0 11 9) ws = none → Completes .verifyDone s fun t => s.touches [.regs, .pends, .sec,
      .evf] [Blk.evf, Blk.cph] t ∧ t.getF Port.CPH_VFY_STAT 14 12 = 3 ∧ t.cphDigest = s.cphDigest ∧ t.sec =
      { s.sec with vfy := 0 } ∧ t.getB Port.CPH_VFY_STAT 17 = false ∧ s.raises Irq.VFY_DONE t) ∧
    (∀ (o : Nat) (l : List Octet), s.domOn 15 = true → s.sec.vfy = 3 → (s.get Port.CPH_VFY_ARG_1).toNat = o → o + 64 ≤
      s.mbxWords → anyTag ((List.range 64).map fun i => s.mbxEngine (o + i)) = false → nonetOctets ((List.range
      64).map fun i => s.mbxEngine (o + i)) = l → p256On (natBE (l.take 32)) (natBE ((l.drop 32).take 32)) = false →
      Completes .verifyDone s fun t => s.touches [.regs, .pends, .sec, .evf] [Blk.evf, Blk.cph] t ∧ t.getF
      Port.CPH_VFY_STAT 14 12 = 4 ∧ t.cphDigest = s.cphDigest ∧ t.sec = { s.sec with vfy := 0 } ∧ t.getB
      Port.CPH_VFY_STAT 17 = false ∧ s.raises Irq.VFY_DONE t) ∧
    ((s.sec.vfy = 0 ∨ s.domOn 15 = false) → Completes .verifyDone s fun t => t = s) ∧
    (∀ (m : Master), s.answers m Port.LCF_UPD_CMD = true → s.getB Port.LCF_UPD_STAT 17 = false → Completes (.arm m) s
      fun t => s.touches [.regs] [Blk.cph] t ∧ t.getB Port.LCF_UPD_STAT 17 = true ∧ t.getB Port.CPH_VFY_STAT 15 = true
      ∧ t.getB Port.CPH_VFY_STAT 17 = true) ∧
    (∀ (m : Master), s.answers m Port.LCF_UPD_CMD = true → s.getB Port.LCF_UPD_STAT 17 = true → Completes (.arm m) s
      fun t => t = s.setB Port.LCF_UPD_STAT 16 true) ∧
    (s.getB Port.LCF_UPD_STAT 17 = false → Completes .armDone s fun t => t = s) ∧
    (s.getB Port.LCF_UPD_STAT 17 = true → s.log.any (fun r => decide (r.kind = 1)) = true → Completes .armDone s fun t
      => s.touches [.regs, .sec] [Blk.cph] t ∧ t.getF Port.LCF_UPD_STAT 14 12 = 5 ∧ t.getB Port.LCF_UPD_STAT 17 =
      false ∧ t.getB Port.CPH_VFY_STAT 15 = false) ∧
    (∀ (len k : Nat), s.getB Port.LCF_UPD_STAT 17 = true → s.log.any (fun r => decide (r.kind = 1)) = false →
      (s.flashWord (s.roleBank 2) 2).toNat = len → k < min 60 ((len + 4095) / 4096) → s.blockOk len k = false → (∀ i,
      i < k → s.blockOk len i = true) → Completes .armDone s fun t => s.touches [.regs, .sec] [Blk.cph] t ∧ t.getF
      Port.LCF_UPD_STAT 14 12 = 1 ∧ t.getF Port.LCF_UPD_STAT 11 6 = k ∧ t.getB Port.LCF_UPD_STAT 17 = false ∧ t.getB
      Port.CPH_VFY_STAT 15 = false) ∧
    (∀ (len c e : Nat), s.getB Port.LCF_UPD_STAT 17 = true → s.log.any (fun r => decide (r.kind = 1)) = false →
      (s.flashWord (s.roleBank 2) 2).toNat = len → (∀ i, i < min 60 ((len + 4095) / 4096) → s.blockOk len i = true) →
      fld (s.flashWord (s.roleBank 2) 1) 17 15 = c → c ≤ 1 → s.imageCheck c 0 (s.roleBank 2) 0 = .inr e → e < 4 →
      Completes .armDone s fun t => s.touches [.regs, .sec] [Blk.cph] t ∧ t.getF Port.LCF_UPD_STAT 14 12 = e + 1 ∧
      t.getB Port.LCF_UPD_STAT 17 = false ∧ t.getB Port.CPH_VFY_STAT 15 = false) ∧
    (∀ (len c k : Nat) (i : ImageInfo), s.getB Port.LCF_UPD_STAT 17 = true → s.log.any (fun r => decide (r.kind = 1))
      = false → (s.flashWord (s.roleBank 2) 2).toNat = len → (∀ i, i < min 60 ((len + 4095) / 4096) → s.blockOk len i
      = true) → fld (s.flashWord (s.roleBank 2) 1) 17 15 = c → c ≤ 1 → s.imageCheck c 0 (s.roleBank 2) 0 = .inl i →
      s.logFree = some k → Completes .armDone s fun t => s.touches [.regs, .mem, .sec] [Blk.cph] t ∧ t.getF
      Port.LCF_UPD_STAT 14 12 = 0 ∧ t.logRow k = some { kind := 1, core := c, len := len } ∧ (∀ x, x < flashKey
      (s.roleBank 2) (217 * 2048 + 4 * k) ∨ flashKey (s.roleBank 2) (217 * 2048 + 4 * k) + 4 ≤ x → Cells.rd (fun _ =>
      0o777777) t.mem.flash x = Cells.rd (fun _ => 0o777777) s.mem.flash x) ∧ t.getB Port.LCF_UPD_STAT 17 = false ∧
      t.getB Port.CPH_VFY_STAT 15 = false) ∧
    (∀ (c : Core) (n : Nat) (i : Nat), s.held c.num = true → s.sec.trans = 0 → armLen c.num s.log = n → n ≤ 245760 →
      s.roleBank c.num ≠ s.roleBank 2 → s.roleBank c.num < 4 → i < n → Completes (.activationDone c) s fun t =>
      s.touches [.regs, .mem, .cores, .pends, .basin, .lanes, .rx, .tx, .trim, .utv, .flc, .dmc, .sec, .pwr, .sluice,
      .evf] [Blk.sys, Blk.evf, Blk.wdg, Blk.flc, Blk.dmc, Blk.bsn, Blk.trm, Blk.seq, Blk.rxc, Blk.lan, Blk.txc,
      Blk.utv, Blk.cph, Blk.mnt] t ∧ t.held c.num = false ∧ t.flashWord (s.roleBank c.num) i = s.flashWord (s.roleBank
      2) i) ∧
    (∀ (c : Core) (i : ImageInfo), s.held c.num = true → s.sec.trans = 0 → s.roleBank c.num ≠ s.roleBank 2 →
      s.roleBank c.num < 4 → s.domOn c.num = true → s.imageCheck c.num 0 (s.roleBank 2) 0 = .inl i → armLen c.num
      s.log = i.len → i.len ≤ 245760 → Completes (.activationDone c) s fun t => s.touches [.regs, .mem, .cores,
      .pends, .basin, .lanes, .rx, .tx, .trim, .utv, .flc, .dmc, .sec, .pwr, .sluice, .evf] [Blk.sys, Blk.evf,
      Blk.wdg, Blk.flc, Blk.dmc, Blk.bsn, Blk.trm, Blk.seq, Blk.rxc, Blk.lan, Blk.txc, Blk.utv, Blk.cph, Blk.mnt] t ∧
      t.held c.num = false ∧ (t.core c).pc = i.entry ∧ (t.core c).inReset = false ∧ Cells.rd (fun _ => 0)
      t.sec.trialEnd c.num = s.acct s.time.link + max 1 (s.getF Port.LCF_TRIAL 7 0) * 16000000 + 1 ∧ t.getB
      Port.LCF_UPD_STAT (3 + c.num) = true) ∧
    (∀ (c : Core) (e : Nat) (a : ImageInfo), s.held c.num = true → s.sec.trans = 0 → s.roleBank c.num ≠ s.roleBank 2 →
      s.roleBank c.num < 4 → armLen c.num s.log = 0 → s.imageCheck c.num 0 (s.roleBank 2) 0 = .inr e → s.imageCheck
      c.num 0 (s.roleBank c.num) 0 = .inr e → s.imageCheck c.num 1 4 (anchorBase c.num) = .inl a → Completes
      (.activationDone c) s fun t => s.touches [.regs, .mem, .cores, .pends, .basin, .lanes, .rx, .tx, .trim, .utv,
      .flc, .dmc, .sec, .pwr, .sluice, .evf] [Blk.sys, Blk.evf, Blk.wdg, Blk.flc, Blk.dmc, Blk.bsn, Blk.trm, Blk.seq,
      Blk.rxc, Blk.lan, Blk.txc, Blk.utv, Blk.cph, Blk.mnt] t ∧ t.held c.num = false ∧ (t.core c).pc = a.entry ∧
      Cells.rd (fun _ => 0) t.sec.ranAnchor c.num = 1 ∧ Cells.rd (fun _ => 0) t.sec.trialEnd c.num = 0) ∧
    (∀ (c : Core), s.held c.num = false → Completes (.activationDone c) s fun t => t = s) ∧
    (∀ (m : Master) (k : Nat), s.answers m Port.LCF_CHECKIN = true → m.core.isSome = true → Cells.rd (fun _ => 0)
      s.sec.trialEnd m.num ≠ 0 → s.logFree = some k → Completes (.checkin m) s fun t => s.touches [.regs, .mem, .sec]
      [Blk.cph] t ∧ t.sec = { s.sec with trialEnd := t.sec.trialEnd } ∧ Cells.rd (fun _ => 0) t.sec.trialEnd m.num = 0
      ∧ t.getB Port.LCF_UPD_STAT (3 + m.num) = false ∧ t.logRow k = some { kind := 4, core := m.num, len := 0 }) ∧
    (∀ (m : Master), s.answers m Port.LCF_CHECKIN = true → (m.core = none ∨ Cells.rd (fun _ => 0) s.sec.trialEnd m.num
      = 0) → Completes (.checkin m) s fun t => t = s) ∧
    (∀ (c : Core) (e k : Nat), Cells.rd (fun _ => 0) s.sec.trialEnd c.num = e → e ≠ 0 → e ≤ s.acct s.time.link + 1 →
      s.held c.num = false → s.domOn c.num = true → s.logFree = some k → s.roleBank 2 < 3 → Completes (.trialExpiry c)
      s fun t => s.touches [.regs, .latch, .time, .mem, .fuses, .rig, .cores, .pends, .basin, .lanes, .rx, .tx, .link,
      .trim, .utv, .flc, .dmc, .sec, .host, .psm, .pwr, .sluice, .evf, .tim, .pins] [Blk.sys, Blk.evf, Blk.hpt,
      Blk.flc, Blk.mem, Blk.dmc, Blk.bsn, Blk.trm, Blk.seq, Blk.rxc, Blk.lan, Blk.txc, Blk.utv, Blk.cph, Blk.mnt,
      Blk.own] t ∧ Cells.rd (fun _ => 0) t.sec.trialEnd c.num = 0 ∧ Cells.rd (fun _ => 0) t.sec.died c.num = 4 ∧
      (t.core c).inReset = true ∧ t.domOn c.num = false ∧ s.counts (Port.RST_CNT c.num) t ∧ t.logRow k = some
      { kind := 5, core := c.num, len := 0 }) ∧
    (∀ (c : Core), (Cells.rd (fun _ => 0) s.sec.trialEnd c.num = 0 ∨ s.acct s.time.link + 1 < Cells.rd (fun _ => 0)
      s.sec.trialEnd c.num) → Completes (.trialExpiry c) s fun t => t = s)

/-- A command of a master reaches its port; the argument is in LCF_LC_ARG. (1) A transition that its checks refuse
  answers their code and burns no fuse. (2) An accepted one burns INTENT of its target and no other fuse, is under way
  and holds both core groups and the radio domains down. (3) With none under way nothing completes. (4) Its completion
  burns DONE, and the cold reset finds SRAM, DRAM and banks 0 to 3 wiped and every key slot empty. (5) FUSE_OKH during
  a transition or an ARM answers 6. (6) With a hash fused it answers 5. (7) Outside BLANK and DEVELOP it answers 1.
  (8) Of a damaged key it answers 2. (9) Else it fuses the digest of the key in the mailbox, no other fuse, and
  answers 0. -/
def Obligations.TheLifeCycleMovesOneWay : Prop :=
  ∀ s : State,
    (∀ (m : Master) (d : Nat), s.answers m Port.LCF_LC_CMD = true → s.getF Port.LCF_LC_ARG 17 15 = d → s.transCheck d
      (s.getF Port.LCF_LC_ARG 13 0) (s.getB Port.LCF_LC_ARG 14) ≠ 0 → Completes (.transition m) s fun t => t = s.setF
      Port.LCF_STAT 5 3 (s.transCheck d (s.getF Port.LCF_LC_ARG 13 0) (s.getB Port.LCF_LC_ARG 14))) ∧
    (∀ (m : Master) (d : Nat), s.answers m Port.LCF_LC_CMD = true → s.getF Port.LCF_LC_ARG 17 15 = d → s.transCheck d
      (s.getF Port.LCF_LC_ARG 13 0) (s.getB Port.LCF_LC_ARG 14) = 0 → Completes (.transition m) s fun t => s.touches
      [.regs, .latch, .time, .mem, .fuses, .rig, .cores, .pends, .basin, .lanes, .rx, .tx, .link, .trim, .utv, .flc,
      .dmc, .sec, .host, .psm, .pwr, .sluice, .evf, .tim, .pins] [Blk.sys, Blk.evf, Blk.hpt, Blk.flc, Blk.mem,
      Blk.dmc, Blk.bsn, Blk.trm, Blk.seq, Blk.rxc, Blk.lan, Blk.txc, Blk.utv, Blk.cph, Blk.mnt, Blk.own] t ∧ t.getF
      Port.LCF_STAT 5 3 = 0 ∧ t.getF Port.LCF_STAT 11 9 = d ∧ t.fuses = s.fuses.burnIntent d ∧ t.sec.trans = d ∧ (∀ k,
      k ≤ 10 → t.domOn k = false)) ∧
    (s.sec.trans = 0 → Completes .transitionComplete s fun t => t = s) ∧
    (∀ (d : Nat), s.sec.trans = d → d ≠ 0 → d < 4 → s.fuses.err = 0 → Completes .transitionComplete s fun t =>
      t.fuses.done = s.fuses.done ||| BitVec.twoPow 4 d ∧ t.fuses.intent = s.fuses.intent ∧ t.fuses.okh = s.fuses.okh
      ∧ t.fuses.duk = s.fuses.duk ∧ t.rig.booting = true ∧ t.sec.trans = 0 ∧ (∀ k, t.sramRd k = 0) ∧ (∀ k, t.keySlot k
      = KeySlot.empty) ∧ (∀ b o, b < 4 → o < 524288 → t.flashWord b o = 0o777777) ∧ t.pending = s.pending) ∧
    (∀ (m : Master), s.answers m Port.LCF_LC_CMD = true → (s.sec.trans ≠ 0 ∨ s.getB Port.LCF_UPD_STAT 17 = true) →
      Completes (.fuseOkh m) s fun t => t = s.setF Port.LCF_STAT 5 3 6) ∧
    (∀ (m : Master), s.answers m Port.LCF_LC_CMD = true → s.sec.trans = 0 → s.getB Port.LCF_UPD_STAT 17 = false →
      s.fuses.okh.isSome = true → Completes (.fuseOkh m) s fun t => t = s.setF Port.LCF_STAT 5 3 5) ∧
    (∀ (m : Master), s.answers m Port.LCF_LC_CMD = true → s.sec.trans = 0 → s.getB Port.LCF_UPD_STAT 17 = false →
      s.fuses.okh = none → s.lcState ≠ 0 → s.lcState ≠ 1 → Completes (.fuseOkh m) s fun t => t = s.setF Port.LCF_STAT
      5 3 1) ∧
    (∀ (m : Master) (o : Nat), s.answers m Port.LCF_LC_CMD = true → s.sec.trans = 0 → s.getB Port.LCF_UPD_STAT 17 =
      false → s.fuses.okh = none → (s.lcState = 0 ∨ s.lcState = 1) → s.getF Port.LCF_LC_ARG 13 0 = o → anyTag
      (s.mbxRds o 32) = true → Completes (.fuseOkh m) s fun t => t = s.setF Port.LCF_STAT 5 3 2) ∧
    (∀ (m : Master) (o : Nat), s.answers m Port.LCF_LC_CMD = true → s.sec.trans = 0 → s.getB Port.LCF_UPD_STAT 17 =
      false → s.fuses.okh = none → (s.lcState = 0 ∨ s.lcState = 1) → s.getF Port.LCF_LC_ARG 13 0 = o → o + 32 ≤
      s.mbxWords → anyTag (s.mbxRds o 32) = false → Completes (.fuseOkh m) s fun t => s.touches [.regs, .fuses]
      [Blk.cph] t ∧ t.getF Port.LCF_STAT 5 3 = 0 ∧ t.fuses.okh = some (sha256 (nonetOctets (s.mbxRds o 32))) ∧ t.fuses
      = { s.fuses with okhTri := t.fuses.okhTri })

/-- A frame that names this device, which is awake with its clock running, when no reply is owed: it returns the
  status of the moment, counts in HPT_FRAMECNT, and its data words enter the write buffer behind those that wait. (1)
  A frame that names another device does nothing. (2) STATUS returns the status word and WC words of zeros and clears
  LAST. (3) A frame after a posted read whose reply is complete returns it, cut to WC words with TRUNC or followed by
  zeros. (4) A frame before the reply is complete returns zeros, sets LATE and drops it; the ports are still sampled
  in their turn. (5) WRITE enters its words for consecutive ports. (6) A frame whose words do not fit is refused whole
  with NOT_READY. (7) WRITE_FIXED enters them all for one port. (8) Before READY it is refused with NOT_READY and its
  words are counted. (9) READ_POST owes a reply of consecutive ports. (10) READ_POST_FIXED owes one of a port read WC
  times. (11) BELL takes its place in line. (12) PUSH takes its place in line with its packet. (13) PULL owes a reply
  of the queue's head packet. (14) A reserved command, or a header with reserved bits, is refused with BAD_CMD. (15) A
  frame cut in its header has no effect but CUT, LAST 5, its count and HPT_CUT; a reply owed stays. (16) A WRITE cut
  in its data enters the words that were complete, with CUT. -/
def Obligations.FramesOfTheHostPort : Prop :=
  ∀ s : State,
    (∀ (addr : BitVec 3) (wc : BitVec 11) (h1 : Word), addr ≠ s.pins.stackId → Completes (.status addr wc h1) s fun t
      => t = s) ∧
    (∀ (addr : BitVec 3) (wc : BitVec 11) (h1 : Word), addr = s.pins.stackId → s.hostAsleep = false → s.time.stopped =
      false → s.host.replyDue = false → Completes (.status addr wc h1) s fun t => s.touches [.regs, .pends, .lanes,
      .host, .evf] [Blk.evf, Blk.hpt] t ∧ t.host.statusOut = s.hostStatus false ∧ t.host.out = List.replicate wc.toNat
      0 ∧ t.host.lastFrame = 0 ∧ t.getF Port.HPT_STAT 14 12 = 0 ∧ t.host.buf = (s.host.buf.map fun x =>
      { x with fresh := false }) ∧ s.counts Port.HPT_FRAMECNT t) ∧
    (∀ (addr : BitVec 3) (wc : BitVec 11) (h1 : Word), addr = s.pins.stackId → s.hostAsleep = false → s.time.stopped =
      false → s.host.replyDue = true → s.host.replyReady = true → s.host.pull = none → Completes (.status addr wc h1)
      s fun t => s.touches [.regs, .pends, .lanes, .host, .evf] [Blk.evf, Blk.hpt] t ∧ t.host.statusOut = s.hostStatus
      true ∧ t.host.out = s.host.reply.take wc.toNat ++ List.replicate (wc.toNat - s.host.reply.length) 0 ∧
      t.host.replyDue = false ∧ (wc.toNat < s.host.reply.length → t.getB Port.HPT_STAT 9 = true) ∧ s.counts
      Port.HPT_FRAMECNT t) ∧
    (∀ (addr : BitVec 3) (wc : BitVec 11) (h1 : Word), addr = s.pins.stackId → s.hostAsleep = false → s.time.stopped =
      false → s.host.replyDue = true → s.host.replyReady = false → s.host.sample ≠ [] → Completes (.status addr wc h1)
      s fun t => s.touches [.regs, .pends, .lanes, .host, .evf] [Blk.evf, Blk.hpt] t ∧ t.host.statusOut = s.hostStatus
      false ∧ t.host.out = List.replicate wc.toNat 0 ∧ t.host.replyDue = false ∧ t.getB Port.HPT_STAT 8 = true ∧
      t.host.buf.length = s.host.buf.length + 1 ∧ s.counts Port.HPT_FRAMECNT t) ∧
    (∀ (addr : BitVec 3) (wc : BitVec 11) (h1 : Word) (data : List Word), addr = s.pins.stackId → s.hostAsleep = false
      → s.time.stopped = false → s.host.replyDue = false → s.ready = true → fld h1 17 16 = 0 → data.length = wc.toNat
      → wc.toNat ≤ s.hostFree → Completes (.write addr wc h1 data) s fun t => s.touches [.regs, .pends, .lanes, .host,
      .evf] [Blk.evf, Blk.hpt] t ∧ t.host.buf = (s.host.buf.map fun x => { x with fresh := false }) ++ ((indexed
      data).map fun x => hostWord ((h1.setWidth 16 : BitVec 16) + BitVec.ofNat 16 x.1) x.2) ∧ t.host.lastFrame = 0 ∧
      s.counts Port.HPT_FRAMECNT t) ∧
    (∀ (addr : BitVec 3) (wc : BitVec 11) (h1 : Word) (data : List Word), addr = s.pins.stackId → s.hostAsleep = false
      → s.time.stopped = false → s.host.replyDue = false → s.ready = true → fld h1 17 16 = 0 → data.length = wc.toNat
      → s.hostFree < wc.toNat → Completes (.write addr wc h1 data) s fun t => s.touches [.regs, .pends, .lanes, .host,
      .evf] [Blk.evf, Blk.hpt] t ∧ t.host.buf = (s.host.buf.map fun x => { x with fresh := false }) ∧ t.host.lastFrame
      = 1 ∧ t.getF Port.HPT_STAT 14 12 = 1 ∧ s.counts Port.HPT_FRAMECNT t) ∧
    (∀ (addr : BitVec 3) (wc : BitVec 11) (h1 : Word) (data : List Word), addr = s.pins.stackId → s.hostAsleep = false
      → s.time.stopped = false → s.host.replyDue = false → s.ready = true → fld h1 17 16 = 0 → data.length = wc.toNat
      → wc.toNat ≤ s.hostFree → Completes (.writeFixed addr wc h1 data) s fun t => s.touches [.regs, .pends, .lanes,
      .host, .evf] [Blk.evf, Blk.hpt] t ∧ t.host.buf = (s.host.buf.map fun x => { x with fresh := false }) ++
      (data.map fun v => hostWord (h1.setWidth 16 : BitVec 16) v) ∧ t.host.lastFrame = 0 ∧ s.counts Port.HPT_FRAMECNT
      t) ∧
    (∀ (addr : BitVec 3) (wc : BitVec 11) (h1 : Word) (data : List Word), addr = s.pins.stackId → s.hostAsleep = false
      → s.time.stopped = false → s.host.replyDue = false → s.ready = false → fld h1 17 16 = 0 → data.length = wc.toNat
      → Completes (.writeFixed addr wc h1 data) s fun t => s.touches [.regs, .pends, .lanes, .host, .evf] [Blk.evf,
      Blk.hpt] t ∧ t.host.buf = (s.host.buf.map fun x => { x with fresh := false }) ∧ t.host.lastFrame = 1 ∧ t.get
      Port.HPT_ERRCNT = BitVec.ofNat 18 (min 262143 ((s.get Port.HPT_ERRCNT).toNat + data.length)) ∧ s.counts
      Port.HPT_FRAMECNT t) ∧
    (∀ (addr : BitVec 3) (wc : BitVec 11) (h1 : Word), addr = s.pins.stackId → s.hostAsleep = false → s.time.stopped =
      false → s.host.replyDue = false → fld h1 17 16 = 0 → Completes (.readPost addr wc h1) s fun t => s.touches
      [.regs, .pends, .lanes, .host, .evf] [Blk.evf, Blk.hpt] t ∧ t.host.sample = (List.range wc.toNat).map (fun i =>
      (h1.setWidth 16 : BitVec 16) + BitVec.ofNat 16 i) ∧ t.host.replyDue = true ∧ t.host.buf = (s.host.buf.map fun x
      => { x with fresh := false }) ∧ s.counts Port.HPT_FRAMECNT t) ∧
    (∀ (addr : BitVec 3) (wc : BitVec 11) (h1 : Word), addr = s.pins.stackId → s.hostAsleep = false → s.time.stopped =
      false → s.host.replyDue = false → fld h1 17 16 = 0 → Completes (.readPostFixed addr wc h1) s fun t => s.touches
      [.regs, .pends, .lanes, .host, .evf] [Blk.evf, Blk.hpt] t ∧ t.host.sample = List.replicate wc.toNat (h1.setWidth
      16 : BitVec 16) ∧ t.host.replyDue = true ∧ t.host.buf = (s.host.buf.map fun x => { x with fresh := false }) ∧
      s.counts Port.HPT_FRAMECNT t) ∧
    (∀ (addr : BitVec 3) (wc : BitVec 11) (h1 : Word), addr = s.pins.stackId → s.hostAsleep = false → s.time.stopped =
      false → s.host.replyDue = false → s.ready = true → Completes (.bell addr wc h1) s fun t => s.touches [.regs,
      .pends, .lanes, .host, .evf] [Blk.evf, Blk.hpt] t ∧ t.host.buf = (s.host.buf.map fun x =>
      { x with fresh := false }) ++
      [{ kind := 1, port := 0, v := h1, queue := 0, data := [], size := 0, fresh := true }] ∧ t.get Port.HPT_BELL_IN =
      s.get Port.HPT_BELL_IN ∧ s.counts Port.HPT_FRAMECNT t) ∧
    (∀ (addr : BitVec 3) (wc : BitVec 11) (h1 : Word) (data : List Word), addr = s.pins.stackId → s.hostAsleep = false
      → s.time.stopped = false → s.host.replyDue = false → s.ready = true → fld h1 17 7 = 0 → data.length = wc.toNat →
      wc.toNat ≤ s.hostFree → Completes (.push addr wc h1 data) s fun t => s.touches [.regs, .pends, .lanes, .host,
      .evf] [Blk.evf, Blk.hpt] t ∧ t.host.buf = (s.host.buf.map fun x => { x with fresh := false }) ++ [{
        kind := 2, port := 0, v := 0, queue := fld h1 6 0, data := data, size := wc.toNat, fresh := true }] ∧ s.counts
      Port.HPT_FRAMECNT t) ∧
    (∀ (addr : BitVec 3) (wc : BitVec 11) (h1 : Word), addr = s.pins.stackId → s.hostAsleep = false → s.time.stopped =
      false → s.host.replyDue = false → s.ready = true → fld h1 17 7 = 0 → Completes (.pull addr wc h1) s fun t =>
      s.touches [.regs, .pends, .lanes, .host, .evf] [Blk.evf, Blk.hpt] t ∧ t.host.pull = some (fld h1 6 0) ∧
      t.host.replyDue = true ∧ t.host.buf = (s.host.buf.map fun x => { x with fresh := false }) ∧ s.counts
      Port.HPT_FRAMECNT t) ∧
    (∀ (addr : BitVec 3) (cmd : BitVec 4) (wc : BitVec 11) (h1 : Word), addr = s.pins.stackId → s.hostAsleep = false →
      s.time.stopped = false → s.host.replyDue = false → (8 ≤ cmd.toNat ∨ badHeader cmd.toNat h1 = true) → Completes
      (.badCmd addr cmd wc h1) s fun t => s.touches [.regs, .pends, .lanes, .host, .evf] [Blk.evf, Blk.hpt] t ∧
      t.host.lastFrame = 4 ∧ t.getF Port.HPT_STAT 14 12 = 4 ∧ t.host.buf = (s.host.buf.map fun x =>
      { x with fresh := false }) ∧ t.host.replyDue = false ∧ s.counts Port.HPT_FRAMECNT t) ∧
    (∀ (addr : BitVec 3) (cmd : BitVec 4) (wc : BitVec 11) (h1 : Word) (data : List Word), addr = s.pins.stackId →
      s.hostAsleep = false → s.time.stopped = false → Completes (.frameCut addr cmd wc h1 true data) s fun t =>
      s.touches [.regs, .pends, .host, .evf] [Blk.evf, Blk.hpt] t ∧ t.host.buf = (s.host.buf.map fun x =>
      { x with fresh := false }) ∧ t.host.replyDue = s.host.replyDue ∧ t.host.reply = s.host.reply ∧ t.host.lastFrame
      = 5 ∧ t.getF Port.HPT_STAT 14 12 = 5 ∧ t.getB Port.HPT_STAT 11 = true ∧ t.getB Port.HPT_HIRQ_PEND 17 = true ∧
      s.counts Port.HPT_CUTCNT t ∧ s.raises Irq.HPT_CUT t ∧ s.counts Port.HPT_FRAMECNT t) ∧
    (∀ (addr : BitVec 3) (wc : BitVec 11) (h1 : Word) (data : List Word), addr = s.pins.stackId → s.hostAsleep = false
      → s.time.stopped = false → s.host.replyDue = false → s.ready = true → fld h1 17 16 = 0 → data.length ≤ wc.toNat
      → wc.toNat ≤ s.hostFree → Completes (.frameCut addr 1 wc h1 false data) s fun t => s.touches [.regs, .pends,
      .lanes, .host, .evf] [Blk.evf, Blk.hpt] t ∧ t.host.buf = (s.host.buf.map fun x => { x with fresh := false }) ++
      ((indexed data).map fun x => hostWord ((h1.setWidth 16 : BitVec 16) + BitVec.ofNat 16 x.1) x.2) ∧
      t.host.lastFrame = 5 ∧ t.getF Port.HPT_STAT 14 12 = 5 ∧ t.getB Port.HPT_STAT 11 = true ∧ t.getB
      Port.HPT_HIRQ_PEND 17 = true ∧ s.counts Port.HPT_CUTCNT t ∧ s.raises Irq.HPT_CUT t ∧ s.counts Port.HPT_FRAMECNT
      t)

/-- The entry at the front of the write buffer takes effect as the host's; r are the entries behind it. (1) An empty
  buffer stays. (2) A word for HPT_HIRQ_EN is written there. (3) A word for a port that may not be reached is refused
  and counted, and changes no register beside. (4) A BELL ORs its value into HPT_BELL_IN with HPT_BELL. (5) A PUSH for
  a queue that is not set up answers NOQUEUE. (6) One whose words are fewer than its LEN answers BADLEN. (7) A good
  one commits a packet of LEN nonets with its words at the queue's tail and answers 0. (8) A posted read waits for a
  reply that is owed and for the words before it. (9) Then it reads its ports in order: a port of HPT_HIRQ_EN gives
  that register. (10) A PULL of an empty queue answers EMPTY. (11) The comparator of an awake device, or of another,
  does nothing. (12) It is not enabled: the device stays asleep and its line reads as 1. (13) Enabled in a reef level
  at rest it answers WAKING and requests wake, counted. (14) During the restore it answers WAKING alone. (15)
  HPT_HIRQ_SET sets pending bits of its value below bit 16 and changes no other register. -/
def Obligations.TheWriteBufferAndPostedReads : Prop :=
  ∀ s : State,
    (s.host.buf = [] → Completes .writeBufferDrain s fun t => t = s) ∧
    (∀ (x : HostWord) (r : List HostWord), s.host.buf = x :: r → x.kind = 0 → x.port = 0x0D06 → s.ready = true →
      Completes .writeBufferDrain s fun t => s.touches [.regs, .host] [Blk.hpt] t ∧ t.host = { s.host with buf := r }
      ∧ t.get Port.HPT_HIRQ_EN = x.v ∧ (∀ p, p ≠ Port.HPT_HIRQ_EN → t.get p = s.get p)) ∧
    (∀ (x : HostWord) (r : List HostWord), s.host.buf = x :: r → x.kind = 0 → s.ioGate x.port.toNat ≠ .ok → Completes
      .writeBufferDrain s fun t => s.touches [.regs, .host] [Blk.hpt] t ∧ t.host.buf = r ∧ s.counts Port.HPT_ERRCNT t
      ∧ (∀ p, p ≠ Port.HPT_ERRCNT → p ≠ Port.HPT_STAT → t.get p = s.get p)) ∧
    (∀ (x : HostWord) (r : List HostWord), s.host.buf = x :: r → x.kind = 1 → Completes .writeBufferDrain s fun t =>
      s.touches [.regs, .pends, .host, .evf] [Blk.evf, Blk.hpt] t ∧ t.host.buf = r ∧ t.get Port.HPT_BELL_IN = s.get
      Port.HPT_BELL_IN ||| x.v ∧ s.raises Irq.HPT_BELL t) ∧
    (∀ (x : HostWord) (r : List HostWord), s.host.buf = x :: r → x.kind = 2 → s.domOn 11 = true → s.qBusy .host =
      false → s.queueUp x.queue = false → Completes .writeBufferDrain s fun t => s.touches [.regs, .host] [Blk.hpt,
      Blk.own] t ∧ t.host.buf = r ∧ t.get Port.HPT_QRES = inFld 5 4 1 ||| 2) ∧
    (∀ (x : HostWord) (r : List HostWord), s.host.buf = x :: r → x.kind = 2 → s.domOn 11 = true → s.qBusy .host =
      false → s.queueUp x.queue = true → (s.copy Master.host.num).wpkt = none → 2 * (x.data.length - 1) <
      (x.data.headD 0).toNat → Completes .writeBufferDrain s fun t => s.touches [.regs, .host] [Blk.hpt, Blk.own] t ∧
      t.host.buf = r ∧ t.get Port.HPT_QRES = inFld 5 4 1 ||| 5) ∧
    (∀ (x : HostWord) (r : List HostWord) (n : Nat), s.host.buf = x :: r → x.kind = 2 → s.domOn 11 = true → s.qBusy
      .host = false → s.queueUp x.queue = true → (s.copy Master.host.num).wpkt = none → x.data.length = n + 1 →
      (x.data.headD 0).toNat = 2 * n → (s.takeCells x.queue (1 + (n + 7) / 8)).1.length = 1 + (n + 7) / 8 → Completes
      .writeBufferDrain s fun t => s.touches [.regs, .mem, .pends, .basin, .utv, .host, .evf] [Blk.evf, Blk.hpt,
      Blk.mem, Blk.bsn, Blk.own] t ∧ t.host.buf = r ∧ t.get Port.HPT_QRES = inFld 5 4 1 ∧ (t.queue x.queue).dropLast =
      s.queue x.queue ∧ ((t.queue x.queue).getLast?.map Pkt.len) = some (2 * n) ∧ ∀ i, i < n → ((t.queue
      x.queue).getLast?.map fun p => t.payWord p i) = some (x.data.getD (i + 1) 0)) ∧
    ((s.host.replyDue = false ∨ s.host.replyReady = true ∨ s.host.buf ≠ []) → Completes .postedSample s fun t => t =
      s) ∧
    (s.host.replyDue = true → s.host.replyReady = false → s.host.buf = [] → s.host.pull = none → s.host.sample =
      [0x0D06] → s.ready = true → Completes .postedSample s fun t => s.touches [.host] [] t ∧ t.host =
      { s.host with sample := [], reply := [s.get Port.HPT_HIRQ_EN], replyReady := true } ∧ t.regs = s.regs) ∧
    (∀ (q : Nat), s.host.replyDue = true → s.host.replyReady = false → s.host.buf = [] → s.host.pull = some q →
      s.domOn 11 = true → s.queueUp q = true → s.mayRead .host q = true → s.queue q = [] → Completes .postedSample s
      fun t => s.touches [.regs, .host] [Blk.hpt] t ∧ t.host.replyReady = true ∧ t.host.reply = [1] ∧ t.host.pull =
      none ∧ t.get Port.HPT_QRES = inFld 5 4 2 ||| 1) ∧
    (∀ (addr : BitVec 3), (addr ≠ s.pins.stackId ∨ s.hostAsleep = false) → Completes (.comparatorMatch addr) s fun t
      => t = s) ∧
    (∀ (addr : BitVec 3), addr = s.pins.stackId → s.hostAsleep = true → s.getB Port.PWR_WAKE 0 = false → Completes
      (.comparatorMatch addr) s fun t => s.touches [.host] [] t ∧ t.host =
      { s.host with statusOut := 0o777777, out := [] }) ∧
    (∀ (addr : BitVec 3), addr = s.pins.stackId → s.getB Port.PWR_WAKE 0 = true → s.level = 3 → s.phase = 0 →
      s.pwr.rigOn.getLsbD 11 = true → s.domOn 11 = false → s.getB Port.PWR_DOM_OFF 11 = false → Completes
      (.comparatorMatch addr) s fun t => t.host.statusOut = inFld 17 15 7 ||| inFld 14 12 3 ||| inFld 11 9 3 ∧ t.getB
      Port.PWR_WAKE_SRC 0 = true ∧ t.phase ≠ 0 ∧ s.counts Port.HPT_WAKECNT t) ∧
    (∀ (addr : BitVec 3), addr = s.pins.stackId → s.getB Port.PWR_WAKE 0 = true → s.phase = 4 → Completes
      (.comparatorMatch addr) s fun t => s.touches [.host] [] t ∧ t.host =
      { s.host with statusOut := inFld 17 15 7 ||| inFld 14 12 3 ||| inFld 11 9 3, out := [] }) ∧
    (∀ (m : Master) (v : Word), s.answers m Port.HPT_HIRQ_SET = true → Completes (.hirqSet m v) s fun t => t = s.set
      Port.HPT_HIRQ_PEND (s.get Port.HPT_HIRQ_PEND ||| (v &&& 0o177777)))

/-- A command of a master for serial master x reaches its port; the other serial master does not change. (1) START
  while BUSY sets ERR, counted, and does nothing else. (2) So does START of a frame that receives with entries in the
  TX FIFO. (3) START of a frame without data selects the device and sends the phases of its registers. (4) START of a
  frame that sends takes its first octet from the TX FIFO. (5) ABORT between units releases the select, empties both
  FIFOs and sets DONE. (6) ABORT within a unit is kept for its boundary. (7) RELEASE releases a select that HOLD keeps
  when nothing is left to send. (8) RELEASE in a frame or with units to send does nothing. (9) FLUSH with BUSY 0
  empties both FIFOs. (10) FLUSH while BUSY does nothing. (11) A push while a unit is shifted adds TXD_1 and the value
  behind the entries of the TX FIFO. (12) A push to an idle master, outside a frame and without RX, starts to shift
  the unit with the device selected. (13) A push to a full TX FIFO is discarded with ERR. (14) A read of RXD_0 pops
  the oldest entry of the RX FIFO and latches its high bits for RXD_1. (15) No unit ends that is not shifted, or while
  the masters are not clocked. (16) The last unit of normal service enters the RX FIFO when RX is on, and the select
  is released without HOLD. (17) A unit whose boundary an ABORT waits for ends as ABORT says. (18) A threshold of the
  TX FIFO that the next unit crosses raises the master's interrupt while enabled. (19) A frame whose data phase is
  over releases the select and sets DONE. (20) No other frame ends. -/
def Obligations.SerialMastersMoveUnitsAndFrames : Prop :=
  ∀ s : State,
    (∀ (m : Master) (x : Fin 2), s.answers m (Port.PSM_CMD x.val) = true → s.psmBusy x.val = true → Completes
      (.psmStart m x) s fun t => s.touches [.regs] [Blk.psm] t ∧ t.getB (Port.PSM_STAT x.val) 14 = true ∧ s.counts
      (Port.PSM_ERRCNT x.val) t ∧ t.psm = s.psm) ∧
    (∀ (m : Master) (x : Fin 2), s.answers m (Port.PSM_CMD x.val) = true → s.psmBusy x.val = false → s.getB
      (Port.PSM_FPH x.val) 5 = false → (s.psmOf x.val).tx ≠ [] → Completes (.psmStart m x) s fun t => s.touches
      [.regs] [Blk.psm] t ∧ t.getB (Port.PSM_STAT x.val) 14 = true ∧ s.counts (Port.PSM_ERRCNT x.val) t ∧ t.psm =
      s.psm) ∧
    (∀ (m : Master) (x : Fin 2), s.answers m (Port.PSM_CMD x.val) = true → s.psmBusy x.val = false → (s.psmOf
      x.val).tx = [] → s.getF (Port.PSM_FPH x.val) 11 9 = 0 → Completes (.psmStart m x) s fun t => s.touches [.regs,
      .pends, .psm, .evf] [Blk.evf, Blk.psm] t ∧ t.getF (Port.PSM_STAT x.val) 17 15 = 7 ∧ t.psmOf x.val =
      { s.psmOf x.val with left := 0, lead := s.psmLead x.val } ∧ (∀ y, y ≠ x.val → t.psmOf y = s.psmOf y)) ∧
    (∀ (m : Master) (x : Fin 2) (u : BitVec 32) (r : List (BitVec 32)), s.answers m (Port.PSM_CMD x.val) = true →
      s.psmBusy x.val = false → (s.psmOf x.val).tx = u :: r → (s.psmOf x.val).shifting = none → s.getB (Port.PSM_FPH
      x.val) 5 = true → s.getF (Port.PSM_FPH x.val) 11 9 ≠ 0 → s.getF (Port.PSM_FLEN x.val) 15 0 ≠ 0 → Completes
      (.psmStart m x) s fun t => s.touches [.regs, .pends, .psm, .evf] [Blk.evf, Blk.psm] t ∧ t.getF (Port.PSM_STAT
      x.val) 17 15 = 7 ∧ t.psmOf x.val = { s.psmOf x.val with
        tx := r, shifting := some (unitBits 8 u), left := s.getF (Port.PSM_FLEN x.val) 15 0 - 1, lead := s.psmLead
          x.val, stalled := false } ∧ (∀ y, y ≠ x.val → t.psmOf y = s.psmOf y)) ∧
    (∀ (m : Master) (x : Fin 2), s.answers m (Port.PSM_CMD x.val) = true → (s.psmOf x.val).shifting = none → Completes
      (.psmAbort m x) s fun t => s.touches [.regs, .pends, .psm, .evf] [Blk.evf, Blk.psm] t ∧ t.getF (Port.PSM_STAT
      x.val) 17 15 = 0 ∧ t.psmOf x.val = Psm.idle ∧ t.getB (Port.PSM_STAT x.val) 13 = true ∧ (∀ y, y ≠ x.val → t.psmOf
      y = s.psmOf y)) ∧
    (∀ (m : Master) (x : Fin 2), s.answers m (Port.PSM_CMD x.val) = true → (s.psmOf x.val).shifting.isSome = true →
      Completes (.psmAbort m x) s fun t => s.touches [.psm] [] t ∧ t.psmOf x.val =
      { s.psmOf x.val with aborting := true } ∧ t.regs = s.regs ∧ (∀ y, y ≠ x.val → t.psmOf y = s.psmOf y)) ∧
    (∀ (m : Master) (x : Fin 2), s.answers m (Port.PSM_CMD x.val) = true → s.psmFrame x.val = false → (s.psmOf
      x.val).shifting = none → (s.psmOf x.val).tx = [] → Completes (.psmRelease m x) s fun t => t = s.psmFlags x.val 0
      0 0) ∧
    (∀ (m : Master) (x : Fin 2), s.answers m (Port.PSM_CMD x.val) = true → (s.psmFrame x.val = true ∨ (s.psmOf
      x.val).tx ≠ []) → Completes (.psmRelease m x) s fun t => t = s) ∧
    (∀ (m : Master) (x : Fin 2), s.answers m (Port.PSM_CMD x.val) = true → s.psmBusy x.val = false → Completes
      (.psmFlush m x) s fun t => s.touches [.regs, .pends, .psm, .evf] [Blk.evf] t ∧ t.psmOf x.val =
      { s.psmOf x.val with tx := [], rx := [], stalled := false } ∧ (∀ y, y ≠ x.val → t.psmOf y = s.psmOf y)) ∧
    (∀ (m : Master) (x : Fin 2), s.answers m (Port.PSM_CMD x.val) = true → s.psmBusy x.val = true → Completes
      (.psmFlush m x) s fun t => t = s) ∧
    (∀ (m : Master) (x : Fin 2) (v : Word), s.answers m (Port.PSM_TXD_0 x.val) = true → (s.psmOf x.val).tx.length < 16
      → (s.psmOf x.val).shifting.isSome = true → Completes (.txdPush m x v) s fun t => s.touches [.regs, .pends, .psm,
      .evf] [Blk.evf, Blk.psm] t ∧ t.psmOf x.val = { s.psmOf x.val with
        tx := (s.psmOf x.val).tx ++ [((s.get (Port.PSM_TXD_1 x.val)).extractLsb' 0 14 ++ v : BitVec 32)] } ∧ (∀ y, y ≠
      x.val → t.psmOf y = s.psmOf y)) ∧
    (∀ (m : Master) (x : Fin 2) (v : Word), s.answers m (Port.PSM_TXD_0 x.val) = true → s.psmOf x.val = Psm.idle →
      s.psmFrame x.val = false → s.getB (Port.PSM_OPT x.val) 15 = false → Completes (.txdPush m x v) s fun t =>
      s.touches [.regs, .pends, .psm, .evf] [Blk.evf, Blk.psm] t ∧ t.getF (Port.PSM_STAT x.val) 17 15 = 6 ∧ t.psmOf
      x.val = { Psm.idle with
        shifting := some (lineBits (s.psmLsbf x.val) (s.psmUnit x.val) ((s.get (Port.PSM_TXD_1 x.val)).extractLsb' 0
          14 ++ v)) } ∧ (∀ y, y ≠ x.val → t.psmOf y = s.psmOf y)) ∧
    (∀ (m : Master) (x : Fin 2) (v : Word), s.answers m (Port.PSM_TXD_0 x.val) = true → 16 ≤ (s.psmOf x.val).tx.length
      → Completes (.txdPush m x v) s fun t => s.touches [.regs] [Blk.psm] t ∧ t.getB (Port.PSM_STAT x.val) 14 = true ∧
      s.counts (Port.PSM_ERRCNT x.val) t ∧ t.psm = s.psm) ∧
    (∀ (m : Master) (x : Fin 2) (e : BitVec 32) (r : List (BitVec 32)), s.answers m (Port.PSM_RXD_0 x.val) = true →
      (s.psmOf x.val).rx = e :: r → (s.psmOf x.val).shifting.isSome = true → Completes (.rxdPop m x) s fun t =>
      s.touches [.regs, .latch, .pends, .psm, .evf] [Blk.evf, Blk.psm] t ∧ Cells.rd (fun _ => 0) t.latch.data m.num =
      e.extractLsb' 0 18 ∧ t.psmOf x.val = { s.psmOf x.val with rx := r } ∧ t.latched m (Port.PSM_RXD_1 x.val) = some
      ((e.extractLsb' 18 14).setWidth 18) ∧ (∀ y, y ≠ x.val → t.psmOf y = s.psmOf y)) ∧
    (∀ (x : Fin 2) (rx : BitVec 32), ((s.psmOf x.val).shifting = none ∨ s.psmClocked = false) → Completes
      (.psmUnitDone x rx) s fun t => t = s) ∧
    (∀ (x : Fin 2) (rx : BitVec 32), (s.psmOf x.val).shifting.isSome = true → s.psmClocked = true → (s.psmOf
      x.val).aborting = false → s.psmFrame x.val = false → s.getB (Port.PSM_OPT x.val) 15 = true → s.getB
      (Port.PSM_OPT x.val) 16 = false → (s.psmOf x.val).tx = [] → Completes (.psmUnitDone x rx) s fun t => s.touches
      [.regs, .pends, .psm, .evf] [Blk.evf, Blk.psm] t ∧ t.psmOf x.val = { s.psmOf x.val with
        rx := (s.psmOf x.val).rx ++ [lineBits (s.psmLsbf x.val) (s.psmUnit x.val) rx], shifting := none } ∧ t.getF
      (Port.PSM_STAT x.val) 17 15 = 0 ∧ (∀ y, y ≠ x.val → t.psmOf y = s.psmOf y)) ∧
    (∀ (x : Fin 2) (rx : BitVec 32), (s.psmOf x.val).shifting.isSome = true → s.psmClocked = true → (s.psmOf
      x.val).aborting = true → Completes (.psmUnitDone x rx) s fun t => s.touches [.regs, .pends, .psm, .evf]
      [Blk.evf, Blk.psm] t ∧ t.getF (Port.PSM_STAT x.val) 17 15 = 0 ∧ t.psmOf x.val = Psm.idle ∧ t.getB (Port.PSM_STAT
      x.val) 13 = true ∧ (∀ y, y ≠ x.val → t.psmOf y = s.psmOf y)) ∧
    (∀ (x : Fin 2) (rx : BitVec 32), (s.psmOf x.val).shifting.isSome = true → s.psmClocked = true → (s.psmOf
      x.val).aborting = false → s.psmFrame x.val = false → s.getB (Port.PSM_OPT x.val) 15 = false → s.getB
      (Port.PSM_IEN x.val) 1 = true → s.getF (Port.PSM_OPT x.val) 11 6 ≠ 0 → (s.psmOf x.val).tx.length = s.getF
      (Port.PSM_OPT x.val) 11 6 + 1 → Completes (.psmUnitDone x rx) s fun t => s.touches [.regs, .pends, .psm, .evf]
      [Blk.evf, Blk.psm] t ∧ (t.psmOf x.val).tx = (s.psmOf x.val).tx.drop 1 ∧ s.raises (Irq.PSM x.val) t) ∧
    (∀ (x : Fin 2), s.psmFrame x.val = true → s.psmClocked = true → (s.psmOf x.val).left = 0 → (s.psmOf
      x.val).shifting = none → (s.psmOf x.val).tx = [] → s.getB (Port.PSM_OPT x.val) 16 = false → Completes
      (.psmFrameDone x) s fun t => s.touches [.regs, .pends, .psm, .evf] [Blk.evf, Blk.psm] t ∧ t.getF (Port.PSM_STAT
      x.val) 17 15 = 0 ∧ t.getB (Port.PSM_STAT x.val) 13 = true ∧ t.psmOf x.val = { s.psmOf x.val with lead := [] } ∧
      (∀ y, y ≠ x.val → t.psmOf y = s.psmOf y)) ∧
    (∀ (x : Fin 2), (s.psmFrame x.val = false ∨ (s.psmOf x.val).left ≠ 0 ∨ s.psmClocked = false) → Completes
      (.psmFrameDone x) s fun t => t = s)

/-- Which balls the boundary scan holds, and what EXTEST does outside FIELD, is said in log entry 81, the stall of the
  debug bus in log entry 130. (1) A level that a ball has already is no edge. (2) An edge of a ball whose buffer is
  off shows in its level alone. (3) With its buffer on, as an input, it raises its producer: a channel that names it
  counts a raise. (4) GPIO_SET sets the output levels of its bits; of balls that are no outputs nothing else follows.
  (5) GPIO_CLR clears the output levels of its bits; of balls that are no outputs nothing else follows. (6) GPIO_TOG
  inverts the output levels of its bits; of balls that are no outputs nothing else follows. (7) A set output whose
  level rises raises the ball's producer. (8) A TRST_N pulse selects IDCODE and ends EXTEST. (9) EXTEST outside FIELD
  and without a fuse fault drives the balls from the scanned word and shifts out the former one. (10) In FIELD, and
  after a fuse fault, it acts as BYPASS. (11) SAMPLE/PRELOAD shifts the balls out and loads the register. (12) IDCODE
  shifts out the stepping and 0x496058B. (13) BYPASS shifts out a 0 and then the bit. (14) DEBUG before READY stalls
  its access; a second one is not taken while the first stalls. (15) DEBUG when READY writes a register as the
  debugger would. (16) And reads one. -/
def Obligations.BallsAndTheTestAccessPort : Prop :=
  ∀ s : State,
    (∀ (g : Fin 48) (rise : Bool), s.pins.gpioIn.getLsbD g.val = rise → Completes (.gpioEdge g rise) s fun t => t = s) ∧
    (∀ (g : Fin 48) (rise : Bool), s.pins.gpioIn.getLsbD g.val ≠ rise → s.gpioBuffer g.val = false → Completes
      (.gpioEdge g rise) s fun t => t = { s with pins := { s.pins with gpioIn := t.pins.gpioIn } } ∧
      t.pins.gpioIn.getLsbD g.val = rise ∧ (∀ h, h ≠ g.val → t.pins.gpioIn.getLsbD h = s.pins.gpioIn.getLsbD h)) ∧
    (∀ (g : Fin 48) (rise : Bool) (ch : Fin 48), s.pins.gpioIn.getLsbD g.val ≠ rise → s.gpioFunc g.val = 1 → s.getF
      (Port.EVF_CH_SRC ch.val) 8 0 = (if rise then Ev.gpioRise g.val else Ev.gpioFall g.val) → s.grpOn ch.val = true →
      s.getF (Port.EVF_CH_GATE ch.val) 8 0 = 0 → s.chTasks ch.val = [] → s.slotsOf ch.val ≠ [] → s.getF
      (Port.EVF_CH_GUARD ch.val) 17 9 = 0 → (∀ c, c < 48 → c ≠ ch.val → s.getF (Port.EVF_CH_SRC c) 8 0 ≠ (if rise then
      Ev.gpioRise g.val else Ev.gpioFall g.val)) → Completes (.gpioEdge g rise) s fun t => s.touches [.regs, .evf,
      .pins] [Blk.evf] t ∧ t.pins.gpioIn.getLsbD g.val = rise ∧ t.getB (Port.EVF_CH_STAT ch.val) 17 = true ∧ s.counts
      (Port.EVF_CH_RAISECNT ch.val) t) ∧
    (∀ (m : Master) (k : Fin 3) (v : Word), s.answers m (Port.GPIO_SET k.val) = true → (∀ g, g < 48 → s.gpioFunc g ≠ 2
      ∧ s.gpioFunc g ≠ 3) → Completes (.gpioSet m k v) s fun t => t = s.set (Port.GPIO_OUT k.val) (s.get
      (Port.GPIO_OUT k.val) ||| (v &&& 0o177777))) ∧
    (∀ (m : Master) (k : Fin 3) (v : Word), s.answers m (Port.GPIO_CLR k.val) = true → (∀ g, g < 48 → s.gpioFunc g ≠ 2
      ∧ s.gpioFunc g ≠ 3) → Completes (.gpioClr m k v) s fun t => t = s.set (Port.GPIO_OUT k.val) (s.get
      (Port.GPIO_OUT k.val) &&& ~~~v)) ∧
    (∀ (m : Master) (k : Fin 3) (v : Word), s.answers m (Port.GPIO_TOG k.val) = true → (∀ g, g < 48 → s.gpioFunc g ≠ 2
      ∧ s.gpioFunc g ≠ 3) → Completes (.gpioTog m k v) s fun t => t = s.set (Port.GPIO_OUT k.val) (s.get
      (Port.GPIO_OUT k.val) ^^^ (v &&& 0o177777))) ∧
    (∀ (m : Master) (g : Fin 16) (ch : Fin 48) (v : Word), s.answers m (Port.GPIO_SET 0) = true → v = BitVec.twoPow 18
      g.val → s.gpioFunc g.val = 2 → s.getB (Port.GPIO_OUT 0) g.val = false → s.pins.bsrDrive = false →
      s.time.onBackup = false → s.getF (Port.EVF_CH_SRC ch.val) 8 0 = Ev.gpioRise g.val → s.grpOn ch.val = true →
      s.getF (Port.EVF_CH_GATE ch.val) 8 0 = 0 → s.chTasks ch.val = [] → s.slotsOf ch.val ≠ [] → s.getF
      (Port.EVF_CH_GUARD ch.val) 17 9 = 0 → Completes (.gpioSet m 0 v) s fun t => t.getB (Port.GPIO_OUT 0) g.val =
      true ∧ t.getB (Port.EVF_CH_STAT ch.val) 17 = true ∧ s.counts (Port.EVF_CH_RAISECNT ch.val) t) ∧
    (Completes .tapReset s fun t => t = { s with pins := { s.pins with tapIr := 2, bsrDrive := false } }) ∧
    (∀ (scanIn : List Bool), s.lcState ≠ 2 → s.lcState ≠ 7 → Completes (.extest scanIn) s fun t => t = { s with
        pins := { s.pins with
            tapIr := 0, tapOut := scanWord s.pins.bsr, bsr := scanned scanIn, bsrDrive := true } }) ∧
    (∀ (scanIn : List Bool), (s.lcState = 2 ∨ s.lcState = 7) → Completes (.extest scanIn) s fun t => t = { s with
        pins := { s.pins with tapIr := 0, tapOut := BitVec.ofNat 32 (2 * nat1 (scanIn.headD false)) } }) ∧
    (∀ (balls scanIn : List Bool), Completes (.samplePreload balls scanIn) s fun t => t = { s with
        pins := { s.pins with tapIr := 1, tapOut := scanWord balls, bsr := scanned scanIn, bsrDrive := false } }) ∧
    (Completes .idcode s fun t => t =
      { s with pins := { s.pins with tapIr := 2, tapOut := t.pins.tapOut, bsrDrive := false } } ∧
      t.pins.tapOut.extractLsb' 0 28 = 0x496058B ∧ t.pins.tapOut.extractLsb' 28 4 = BitVec.ofNat 4 (s.get
      Port.SYS_PART).toNat) ∧
    (∀ (bit : Bool), Completes (.bypass bit) s fun t => t = { s with
        pins := { s.pins with tapIr := 31, tapOut := BitVec.ofNat 32 (2 * nat1 bit), bsrDrive := false } }) ∧
    (∀ (writing : Bool) (port : BitVec 16) (v : Word), s.ready = false → writing = true → s.latch.stall = none →
      Completes (.debug writing port v) s fun t => t = { s with
        pins := { s.pins with tapIr := 8, bsrDrive := false }, latch := { s.latch with stall := some (port, some v) }
          }) ∧
    (∀ (writing : Bool) (port : BitVec 16) (v : Word), s.answers .dbg Port.HPT_HIRQ_EN = true → writing = true → port
      = 0x0D06 → Completes (.debug writing port v) s fun t => t =
      { s.set Port.HPT_HIRQ_EN v with pins := { s.pins with tapIr := 8, bsrDrive := false } }) ∧
    (∀ (writing : Bool) (port : BitVec 16) (v : Word), s.answers .dbg Port.HPT_HIRQ_EN = true → writing = false → port
      = 0x0D06 → Completes (.debug writing port v) s fun t => s.touches [.latch, .pins] [] t ∧ t.pins.tapIr = 8 ∧
      Cells.rd (fun _ => 0) t.latch.data Master.dbg.num = s.get Port.HPT_HIRQ_EN)

/-- PHASE is 0 at rest, 1 while domains become quiet, 2 while cores come to wait, 4 during an exit. That the
  debugger's write has no effect is deduced (log entry 82). (1) Reef 1 asked for at rest outside Reef 1 becomes
  TARGET, and PHASE becomes 1. (2) Reef 2 asked for at rest becomes TARGET, and PHASE becomes 1. (3) Reef 3 asked for
  at rest becomes TARGET, and PHASE becomes 1. (4) Furl asked for at rest becomes TARGET, and PHASE becomes 1. (5)
  Asked for while an entry or an exit is under way a level sets OVR and nothing else. (6) So does Reef 1 asked for in
  Reef 1. (7) The debugger's has no effect. (8) CANCEL before the point of no return gives the entry up, counted, with
  PWR_EVT. (9) CANCEL without an entry does nothing. (10) When every domain to go off is quiet PHASE becomes 2. (11)
  Else it stays. (12) When both cores wait, the domains that the level does not keep go off, the others stay, and
  LEVEL becomes TARGET. (13) A core whose domain stays on has its clock gated. (14) Into Reef 3 the system PLL stops
  as well, link time going on. (15) Into Furl the system PLL and REFCLK stop. (16) Without them all waiting, or with a
  transmission that a chain to go off has begun, nothing goes off. (17) A wake source that is not enabled does
  nothing. (18) An enabled one before the point of no return is recorded and gives the entry up. (19) In a level at
  rest it closes the switches of the domains of Run; while one of them is not up PHASE is 4. (20) With all of them up
  the device is in Run at once. (21) An interrupt above the level of a waiting core ends an entry in the same way.
  (22) Without one it does nothing. -/
def Obligations.EntryToAndExitFromALevel : Prop :=
  ∀ s : State,
    (∀ (m : Master), s.answers m Port.PWR_CMD = true → m ≠ .dbg → s.phase = 0 → s.level ≠ 1 → Completes (.enterReef1
      m) s fun t => s.touches [.regs] [Blk.sys] t ∧ t.phase = 1 ∧ t.target = 1 ∧ t.level = s.level ∧ (∀ p, p ≠
      Port.PWR_STAT → t.get p = s.get p)) ∧
    (∀ (m : Master), s.answers m Port.PWR_CMD = true → m ≠ .dbg → s.phase = 0 → Completes (.enterReef2 m) s fun t =>
      s.touches [.regs] [Blk.sys] t ∧ t.phase = 1 ∧ t.target = 2 ∧ t.level = s.level ∧ (∀ p, p ≠ Port.PWR_STAT → t.get
      p = s.get p)) ∧
    (∀ (m : Master), s.answers m Port.PWR_CMD = true → m ≠ .dbg → s.phase = 0 → Completes (.enterReef3 m) s fun t =>
      s.touches [.regs] [Blk.sys] t ∧ t.phase = 1 ∧ t.target = 3 ∧ t.level = s.level ∧ (∀ p, p ≠ Port.PWR_STAT → t.get
      p = s.get p)) ∧
    (∀ (m : Master), s.answers m Port.PWR_CMD = true → m ≠ .dbg → s.phase = 0 → Completes (.enterFurl m) s fun t =>
      s.touches [.regs] [Blk.sys] t ∧ t.phase = 1 ∧ t.target = 4 ∧ t.level = s.level ∧ (∀ p, p ≠ Port.PWR_STAT → t.get
      p = s.get p)) ∧
    (∀ (m : Master), s.answers m Port.PWR_CMD = true → m ≠ .dbg → s.phase ≠ 0 → Completes (.enterReef2 m) s fun t => t
      = s.setB Port.PWR_STAT 7 true) ∧
    (∀ (m : Master), s.answers m Port.PWR_CMD = true → m ≠ .dbg → s.phase = 0 → s.level = 1 → Completes (.enterReef1
      m) s fun t => t = s.setB Port.PWR_STAT 7 true) ∧
    (∀ (m : Master), s.answers m Port.PWR_CMD = true → m = .dbg → Completes (.enterReef3 m) s fun t => t = s) ∧
    (∀ (m : Master), s.answers m Port.PWR_CMD = true → m ≠ .dbg → (s.phase = 1 ∨ s.phase = 2) → Completes (.pwrCancel
      m) s fun t => s.touches [.regs, .pends, .evf] [Blk.sys, Blk.evf] t ∧ t.phase = 0 ∧ t.getB Port.PWR_STAT 8 = true
      ∧ t.level = s.level ∧ s.counts Port.PWR_ABORTCNT t ∧ s.raises Irq.PWR_EVT t) ∧
    (∀ (m : Master), s.answers m Port.PWR_CMD = true → s.phase ≠ 1 → s.phase ≠ 2 → Completes (.pwrCancel m) s fun t =>
      t = s) ∧
    (s.phase = 1 → s.entryQuiet s.target = true → Completes .entryQuietReached s fun t => t = s.setPhase 2) ∧
    ((s.phase ≠ 1 ∨ s.entryQuiet s.target = false) → Completes .entryQuietReached s fun t => t = s) ∧
    (s.phase = 2 → s.coreWaits 0 = true → s.coreWaits 1 = true → s.sendsYet s.target = false → Completes
      .entryCoresWaiting s fun t => t.level = s.target ∧ t.phase = 0 ∧ (∀ d, d < 16 → (s.goesOff s.target d = true →
      t.domOn d = false ∧ t.pwr.on.getLsbD d = false) ∧ (s.goesOff s.target d = false → t.domOn d = s.domOn d ∧
      t.pwr.on.getLsbD d = s.pwr.on.getLsbD d)) ∧ t.time.link = s.time.link ∧ t.mem.flash = s.mem.flash) ∧
    (∀ (c : Core), s.phase = 2 → s.coreWaits 0 = true → s.coreWaits 1 = true → s.sendsYet s.target = false → s.goesOff
      s.target c.num = false → s.domOn c.num = true → s.target = 1 → Completes .entryCoresWaiting s fun t => (t.core
      c).gated = true ∧ t.level = 1) ∧
    (s.phase = 2 → s.coreWaits 0 = true → s.coreWaits 1 = true → s.sendsYet s.target = false → s.target = 3 →
      Completes .entryCoresWaiting s fun t => t.level = 3 ∧ t.getB Port.CLK_STAT 16 = false ∧ t.time.stopped =
      s.time.stopped) ∧
    (s.phase = 2 → s.coreWaits 0 = true → s.coreWaits 1 = true → s.sendsYet s.target = false → s.target = 4 →
      Completes .entryCoresWaiting s fun t => t.level = 4 ∧ t.getB Port.CLK_STAT 16 = false ∧ t.getB Port.CLK_STAT 17
      = false ∧ t.time.stopped = true) ∧
    ((s.phase ≠ 2 ∨ s.coreWaits 0 = false ∨ s.coreWaits 1 = false ∨ s.sendsYet s.target = true) → Completes
      .entryCoresWaiting s fun t => t = s) ∧
    (∀ (src : Fin 6), src.val ≠ 5 → s.getB Port.PWR_WAKE src.val = false → Completes (.wakeRequest src) s fun t => t =
      s) ∧
    (∀ (src : Fin 6), src.val ≠ 5 → s.getB Port.PWR_WAKE src.val = true → (s.phase = 1 ∨ s.phase = 2) → Completes
      (.wakeRequest src) s fun t => s.touches [.regs, .pends, .evf] [Blk.sys, Blk.evf] t ∧ t.getB Port.PWR_WAKE_SRC
      src.val = true ∧ t.phase = 0 ∧ t.getB Port.PWR_STAT 8 = true ∧ t.level = s.level ∧ s.counts Port.PWR_ABORTCNT t
      ∧ s.raises Irq.PWR_EVT t) ∧
    (∀ (src : Fin 6) (d : Fin 16), src.val ≠ 5 → s.getB Port.PWR_WAKE src.val = true → s.phase = 0 → s.level ≠ 0 →
      s.runDomains.getLsbD d.val = true → s.domOn d.val = false → Completes (.wakeRequest src) s fun t => t.getB
      Port.PWR_WAKE_SRC src.val = true ∧ t.pwr.on = s.pwr.on ||| s.runDomains ∧ t.phase = 4 ∧ t.level = s.level ∧
      t.getB Port.CLK_STAT 16 = true ∧ t.time.stopped = (s.time.stopped && decide (s.level ≠ 4)) ∧ t.mem = s.mem) ∧
    (∀ (src : Fin 6), src.val ≠ 5 → s.getB Port.PWR_WAKE src.val = true → s.phase = 0 → s.level = 1 → (∀ d, d < 16 →
      (s.pwr.on ||| s.runDomains).getLsbD d = true → s.domOn d = true) → Completes (.wakeRequest src) s fun t =>
      t.getB Port.PWR_WAKE_SRC src.val = true ∧ t.level = 0 ∧ t.phase = 0 ∧ (t.core .apc).gated = false ∧ (t.core
      .lkc).gated = false) ∧
    (∀ (c : Core), s.phase = 2 → (s.core c).inReset = false → (s.core c).waiting = true → (s.core c).above.isSome =
      true → Completes (.wakeRequest 5) s fun t => s.touches [.regs, .pends, .evf] [Blk.sys, Blk.evf] t ∧ t.getB
      Port.PWR_WAKE_SRC 5 = true ∧ t.phase = 0 ∧ t.getB Port.PWR_STAT 8 = true ∧ t.level = s.level ∧ s.counts
      Port.PWR_ABORTCNT t ∧ s.raises Irq.PWR_EVT t) ∧
    (∀ (src : Fin 6), src.val = 5 → (s.core .apc).above = none → (s.core .lkc).above = none → Completes (.wakeRequest
      src) s fun t => t = s)

/-- A domain whose switch is closed is released after its restore delay. (1) A domain that is released, or whose
  switch is open, stays. (2) A shared domain whose switch is closed is released, with no other. (3) A domain of a held
  group, of a transition under way or without REFCLK is not. (4) PWR_DOM_OFF keeps the bits of the shared domains;
  before the Rig is applied no domain follows. (5) A quiet domain that it names goes off. (6) A domain of the Rig that
  it no longer names has its switch closed again. (7) PWR_RES_CMD 1 sets every residency counter to 0 and changes
  nothing else. -/
def Obligations.DomainsAreReleasedAndHeldOff : Prop :=
  ∀ s : State,
    (∀ (d : Fin 16), (s.pwr.on.getLsbD d.val = false ∨ s.domOn d.val = true) → Completes (.domainRelease d) s fun t =>
      t = s) ∧
    (∀ (d : Fin 16), s.pwr.on.getLsbD d.val = true → s.domOn d.val = false → s.time.stopped = false → 11 ≤ d.val →
      s.phase ≠ 4 → Completes (.domainRelease d) s fun t => s.touches [.regs, .latch, .time, .mem, .fuses, .rig,
      .cores, .pends, .basin, .lanes, .rx, .tx, .link, .trim, .utv, .flc, .dmc, .sec, .host, .psm, .pwr, .sluice,
      .evf, .tim, .pins] [Blk.sys, Blk.evf, Blk.wdg, Blk.hpt, Blk.flc, Blk.mem, Blk.dmc, Blk.bsn, Blk.trm, Blk.seq,
      Blk.rxc, Blk.lan, Blk.txc, Blk.utv, Blk.cph, Blk.mnt, Blk.own] t ∧ t.domOn d.val = true ∧ (∀ e, e < 16 → e ≠
      d.val → t.domOn e = s.domOn e) ∧ t.pwr = s.pwr ∧ t.mem.flash = s.mem.flash) ∧
    (∀ (d : Fin 16), (s.time.stopped = true ∨ (d.val ≤ 10 ∧ s.sec.trans ≠ 0)) → Completes (.domainRelease d) s fun t
      => t = s) ∧
    (∀ (m : Master) (v : Word), s.answers m Port.PWR_DOM_OFF = true → s.rig.applied = false → Completes (.domOffHold m
      v) s fun t => t = s.set Port.PWR_DOM_OFF (v &&& fieldMask 15 5)) ∧
    (∀ (m : Master) (v : Word) (d : Fin 16), s.answers m Port.PWR_DOM_OFF = true → s.rig.applied = true → s.level = 0
      → 5 ≤ d.val → bitOf v d.val = true → s.domQuiet d.val = true → s.pwr.on.getLsbD d.val = true → s.domOn d.val =
      true → Completes (.domOffHold m v) s fun t => t.get Port.PWR_DOM_OFF = v &&& fieldMask 15 5 ∧ t.domOn d.val =
      false ∧ t.pwr.on.getLsbD d.val = false ∧ t.level = 0) ∧
    (∀ (m : Master) (v : Word) (d : Fin 16), s.answers m Port.PWR_DOM_OFF = true → s.rig.applied = true → s.level = 0
      → 5 ≤ d.val → v = 0 → s.pwr.rigOn.getLsbD d.val = true → Completes (.domOffHold m v) s fun t => t.get
      Port.PWR_DOM_OFF = 0 ∧ t.pwr.on.getLsbD d.val = true ∧ t.regs = (s.set Port.PWR_DOM_OFF 0).regs) ∧
    (∀ (m : Master), s.answers m Port.PWR_RES_CMD = true → Completes (.residencyClear m) s fun t => (∀ i, i < 10 →
      t.get (Port.PWR_RES 0 + i) = 0) ∧ (∀ p, (p < Port.PWR_RES 0 ∨ Port.PWR_RES 0 + 10 ≤ p) → t.get p = s.get p) ∧ t
      = { s with regs := t.regs })

/-- A system reset keeps link time, the fuses and the commands that wait. (1) Loss of REFCLK outside Furl sets
  REFLOSS, is counted and recorded, and starts a system reset that is held. (2) In Furl, or lost already, it is none.
  (3) Its return ends the hold and samples the straps. (4) A REFCLK that was not lost does not return. (5) Loss of the
  system PLL's lock is counted and recorded and starts a system reset. (6) Another master's kick does nothing. (7) The
  first word of a kick is noted. (8) The second in the open part of the window restarts the count. (9) Any other first
  word expires the channel; with ACTION 0 that resets the core's group, counted and recorded. (10) So does another
  second word, or one too early. (11) The warning level raises WDG_WARN once. (12) Raised already, with WARN 0 or with
  the channel at a stand it does nothing. (13) A count of 0 expires the channel. (14) With ACTION 1 that is a system
  reset. (15) With ACTION 2 it is a cold reset. (16) Of a core whose domain a level turned off the group is recorded
  as reset and the count starts again. (17) No other count expires. -/
def Obligations.ClocksAndWatchdogs : Prop :=
  ∀ s : State,
    (s.level ≠ 4 → s.getB Port.CLK_STAT 17 = true → Completes .refclkLoss s fun t => t.get Port.RST_LAST = inFld 17 15
      2 ||| inFld 14 9 8 ∧ t.getB Port.RST_CAUSE 8 = true ∧ s.counts Port.CLK_LOSSCNT t ∧ t.time.stopped = true ∧
      t.getB Port.CLK_STAT 12 = true ∧ t.getF Port.CLK_STAT 17 16 = 0 ∧ t.time.link = s.time.link ∧ t.fuses = s.fuses
      ∧ t.rig.booting = true ∧ t.get Port.EVF_GRP = 0 ∧ t.pending = s.pending) ∧
    ((s.level = 4 ∨ s.getB Port.CLK_STAT 17 = false) → Completes .refclkLoss s fun t => t = s) ∧
    (∀ (bootSel : BitVec 2) (stackId : BitVec 3), s.level ≠ 4 → s.getB Port.CLK_STAT 17 = false → Completes
      (.refclkReturn bootSel stackId) s fun t => s.touches [.regs, .time, .pins] [Blk.sys] t ∧ t.time.stopped = false
      ∧ t.getF Port.CLK_STAT 17 16 = 3 ∧ t.time.link = s.time.link ∧ t.pins.bootSel = bootSel ∧ t.pins.stackId =
      stackId) ∧
    (∀ (bootSel : BitVec 2) (stackId : BitVec 3), (s.level = 4 ∨ s.getB Port.CLK_STAT 17 = true) → Completes
      (.refclkReturn bootSel stackId) s fun t => t = s) ∧
    (Completes .systemPllUnlock s fun t => t.get Port.RST_LAST = inFld 17 15 2 ||| inFld 14 9 7 ∧ t.getB
      Port.RST_CAUSE 7 = true ∧ s.counts Port.CLK_LOSSCNT t ∧ t.time.link = s.time.link ∧ t.fuses = s.fuses ∧
      t.rig.booting = true ∧ t.get Port.EVF_GRP = 0 ∧ t.pending = s.pending) ∧
    (∀ (m : Master) (c : Core) (v : Word), s.answers m (Port.WDG_KICK c.num) = true → m.core ≠ some c → Completes
      (.wdgKick m c v) s fun t => t = s) ∧
    (∀ (m : Master) (c : Core) (v : Word), s.answers m (Port.WDG_KICK c.num) = true → m.core = some c → s.getB
      (Port.WDG_CFG c.num) 17 = true → Cells.rd (fun _ => 0) s.pwr.kick c.num = 0 → v = 0o252525 → Completes (.wdgKick
      m c v) s fun t => t = s.setKick c.num 1) ∧
    (∀ (m : Master) (c : Core) (v : Word), s.answers m (Port.WDG_KICK c.num) = true → m.core = some c → s.getB
      (Port.WDG_CFG c.num) 17 = true → Cells.rd (fun _ => 0) s.pwr.kick c.num ≠ 0 → v = 0o525252 → s.wdgOpen c.num =
      true → Completes (.wdgKick m c v) s fun t => s.touches [.regs, .pwr] [Blk.wdg] t ∧ t.getF (Port.WDG_STAT c.num)
      15 0 = s.wdgTimeout c.num ∧ Cells.rd (fun _ => 0) t.pwr.kick c.num = 0 ∧ Cells.rd (fun _ => 0) t.pwr.warned
      c.num = 0 ∧ (∀ p, p ≠ Port.WDG_STAT c.num → t.get p = s.get p)) ∧
    (∀ (m : Master) (c : Core) (v : Word), s.answers m (Port.WDG_KICK c.num) = true → m.core = some c → s.getB
      (Port.WDG_CFG c.num) 17 = true → Cells.rd (fun _ => 0) s.pwr.kick c.num = 0 → v ≠ 0o252525 → s.getF
      (Port.WDG_CFG c.num) 14 12 = 0 → s.held c.num = false → s.domOn c.num = true → Completes (.wdgKick m c v) s fun
      t => s.counts (Port.WDG_EXPCNT c.num) t ∧ t.getB Port.RST_CAUSE (14 - c.num) = true ∧ t.domOn c.num = false ∧
      (t.core c).inReset = true ∧ s.counts (Port.RST_CNT c.num) t ∧ t.get Port.RST_LAST = inFld 17 15 (3 + c.num) |||
      inFld 14 9 (14 - c.num)) ∧
    (∀ (m : Master) (c : Core) (v : Word), s.answers m (Port.WDG_KICK c.num) = true → m.core = some c → s.getB
      (Port.WDG_CFG c.num) 17 = true → Cells.rd (fun _ => 0) s.pwr.kick c.num ≠ 0 → (v ≠ 0o525252 ∨ s.wdgOpen c.num =
      false) → s.getF (Port.WDG_CFG c.num) 14 12 = 0 → s.held c.num = false → s.domOn c.num = true → Completes
      (.wdgKick m c v) s fun t => s.counts (Port.WDG_EXPCNT c.num) t ∧ t.getB Port.RST_CAUSE (14 - c.num) = true ∧
      t.domOn c.num = false ∧ (t.core c).inReset = true ∧ s.counts (Port.RST_CNT c.num) t ∧ t.get Port.RST_LAST =
      inFld 17 15 (3 + c.num) ||| inFld 14 9 (14 - c.num)) ∧
    (∀ (c : Core), s.wdgCounts c.num = true → s.getF (Port.WDG_CFG c.num) 8 6 ≠ 0 → Cells.rd (fun _ => 0) s.pwr.warned
      c.num = 0 → 8 * s.getF (Port.WDG_STAT c.num) 15 0 ≤ s.getF (Port.WDG_CFG c.num) 8 6 * s.wdgForce c.num →
      Completes (.wdgWarnLevel c) s fun t => s.touches [.regs, .pends, .pwr, .evf] [Blk.evf] t ∧ Cells.rd (fun _ => 0)
      t.pwr.warned c.num = 1 ∧ s.raises Irq.WDG_WARN t) ∧
    (∀ (c : Core), (s.wdgCounts c.num = false ∨ s.getF (Port.WDG_CFG c.num) 8 6 = 0 ∨ Cells.rd (fun _ => 0)
      s.pwr.warned c.num ≠ 0) → Completes (.wdgWarnLevel c) s fun t => t = s) ∧
    (∀ (c : Core), s.wdgCounts c.num = true → s.getF (Port.WDG_STAT c.num) 15 0 = 0 → s.getF (Port.WDG_CFG c.num) 14
      12 = 0 → s.held c.num = false → s.domOn c.num = true → Completes (.wdgExpiry c) s fun t => s.counts
      (Port.WDG_EXPCNT c.num) t ∧ t.getB Port.RST_CAUSE (14 - c.num) = true ∧ t.domOn c.num = false ∧ (t.core
      c).inReset = true ∧ s.counts (Port.RST_CNT c.num) t ∧ t.get Port.RST_LAST = inFld 17 15 (3 + c.num) ||| inFld 14
      9 (14 - c.num)) ∧
    (∀ (c : Core), s.wdgCounts c.num = true → s.getF (Port.WDG_STAT c.num) 15 0 = 0 → s.domOn c.num = true → s.getF
      (Port.WDG_CFG c.num) 14 12 = 1 → Completes (.wdgExpiry c) s fun t => s.counts (Port.WDG_EXPCNT c.num) t ∧ t.getB
      Port.RST_CAUSE (14 - c.num) = true ∧ t.time.link = s.time.link ∧ t.fuses = s.fuses ∧ t.rig.booting = true ∧
      t.get Port.EVF_GRP = 0 ∧ t.pending = s.pending) ∧
    (∀ (c : Core), s.wdgCounts c.num = true → s.getF (Port.WDG_STAT c.num) 15 0 = 0 → s.domOn c.num = true → s.getF
      (Port.WDG_CFG c.num) 14 12 = 2 → Completes (.wdgExpiry c) s fun t => t.getB Port.RST_CAUSE (14 - c.num) = true ∧
      t.rig.booting = true ∧ t.time.link = 0 ∧ t.fuses.okh = s.fuses.okh ∧ t.pending = s.pending) ∧
    (∀ (c : Core), s.wdgCounts c.num = true → s.getF (Port.WDG_STAT c.num) 15 0 = 0 → s.domOn c.num = false → s.level
      ≠ 0 → s.held c.num = false → s.getF (Port.WDG_CFG c.num) 14 12 = 0 → Completes (.wdgExpiry c) s fun t =>
      s.counts (Port.WDG_EXPCNT c.num) t ∧ t.getF (Port.WDG_STAT c.num) 15 0 = s.wdgTimeout c.num) ∧
    (∀ (c : Core), (s.wdgCounts c.num = false ∨ s.getF (Port.WDG_STAT c.num) 15 0 ≠ 0) → Completes (.wdgExpiry c) s
      fun t => t = s)

/-- The activities and their conflicts are those of R407. A result that a measurement brings is the command's operand.
  (1) When no two conflicting activities hold grants, none do after the Sluice has granted. (2) The one activity that
  waits, is not inhibited and conflicts with no holder gets its grant and waits no more. (3) Of two waiting activities
  in conflict the one that aged goes before the lower code. (4) One that is inhibited or conflicts with a holder gets
  none. (5) Without its clock the Sluice does nothing. (6) A request that has waited AGE ms is aged, counted, with
  MNT_EVT. (7) No other request ages. (8) A temperature sample without its grant asks for one. (9) With it the three
  results take the sample and the grant is given back. (10) A measurement shows BUSY and asks for its grant. (11)
  After PERIODS periods of RTCCLK under its grant it ends with the error, VALID. (12) Before that, or without the
  grant, it does not end. -/
def Obligations.TheSluiceAndTheSensors : Prop :=
  ∀ s : State,
    ((∀ x, x < 12 → (∀ y, y < 12 → actConflict x y = true → (s.granted x && s.granted y) = false)) → Completes
      .sluiceGrant s fun t => s.touches [.regs, .rx, .sluice] [Blk.mnt] t ∧ (∀ x, x < 12 → (∀ y, y < 12 → actConflict
      x y = true → (t.granted x && t.granted y) = false)) ∧ t.mem = s.mem) ∧
    (∀ (a : Fin 12), s.mntClocked = true → s.waits a.val = true → s.getB Port.MNT_INHIBIT a.val = false →
      s.sluiceClear a.val = true → (∀ b, b < 12 → b ≠ a.val → s.waits b = false ∧ s.getB Port.MNT_AGED b = false) →
      a.val ≠ Act.rxcal 0 → a.val ≠ Act.rxcal 1 → Completes .sluiceGrant s fun t => s.touches [.regs, .sluice]
      [Blk.mnt] t ∧ t.granted a.val = true ∧ t.waits a.val = false ∧ (∀ b, b < 12 → b ≠ a.val → t.granted b =
      s.granted b)) ∧
    (∀ (a b : Fin 12), s.mntClocked = true → s.waits a.val = true → s.waits b.val = true → actConflict a.val b.val =
      true → s.get Port.MNT_INHIBIT = 0 → s.get Port.MNT_GRANT = 0 → s.getB Port.MNT_AGED b.val = true → (∀ x, x < 12
      → x ≠ b.val → s.getB Port.MNT_AGED x = false) → Completes .sluiceGrant s fun t => t.granted b.val = true ∧
      t.granted a.val = false) ∧
    (∀ (a : Fin 12), (s.getB Port.MNT_INHIBIT a.val = true ∨ s.sluiceClear a.val = false) → s.granted a.val = false →
      Completes .sluiceGrant s fun t => t.granted a.val = false ∧ t.waits a.val = s.waits a.val) ∧
    (s.mntClocked = false → Completes .sluiceGrant s fun t => t = s) ∧
    (∀ (a : Fin 12) (k : Nat), s.waits a.val = true → s.getB Port.MNT_AGED a.val = false → Cells.rd (fun _ => 0)
      s.sluice.since a.val = k + 1 → k + max 1 (s.getF Port.MNT_CFG 17 9) * 16000 ≤ s.time.wall → Completes
      (.sluiceAging a) s fun t => s.touches [.regs, .pends, .evf] [Blk.evf, Blk.mnt] t ∧ t.getB Port.MNT_AGED a.val =
      true ∧ s.counts Port.MNT_AGEDCNT t ∧ s.raises Irq.MNT_EVT t) ∧
    (∀ (a : Fin 12), (s.waits a.val = false ∨ s.getB Port.MNT_AGED a.val = true) → Completes (.sluiceAging a) s fun t
      => t = s) ∧
    (∀ (temp : BitVec 9) (vs vw : BitVec 12), s.granted Act.temp = false → Completes (.tempSample temp vs vw) s fun t
      => s.touches [.regs, .sluice] [Blk.mnt] t ∧ t.waits Act.temp = true ∧ t.get Port.CAL_TEMP = s.get Port.CAL_TEMP) ∧
    (∀ (temp : BitVec 9) (vs vw : BitVec 12), s.granted Act.temp = true → Completes (.tempSample temp vs vw) s fun t
      => s.touches [.regs, .tx, .sluice] [Blk.txc, Blk.cal, Blk.mnt] t ∧ t.get Port.CAL_TEMP = inFld 17 17 1 |||
      temp.setWidth 18 ∧ t.get (Port.CAL_VPA 0) = vs.setWidth 18 ∧ t.get (Port.CAL_VPA 1) = vw.setWidth 18 ∧ t.granted
      Act.temp = false) ∧
    (∀ (m : Master), s.answers m Port.CAL_FMC_CMD = true → s.granted Act.rtcMeas = false → Completes (.fmcMeasure m) s
      fun t => s.touches [.regs, .sluice] [Blk.cal, Blk.mnt] t ∧ t.getB Port.CAL_FMC_STAT 17 = true ∧ t.waits
      Act.rtcMeas = true ∧ t.get Port.CAL_FMC_RES = s.get Port.CAL_FMC_RES) ∧
    (∀ (err : Word), s.granted Act.rtcMeas = true → s.sluice.fmcFrom + max 1 (s.getF Port.CAL_FMC_CFG 11 0) ≤
      s.time.rtcEdges → Completes (.fmcDone err) s fun t => s.touches [.regs, .sluice] [Blk.cal, Blk.mnt] t ∧ t.get
      Port.CAL_FMC_RES = err ∧ t.getB Port.CAL_FMC_STAT 17 = false ∧ t.getB Port.CAL_FMC_STAT 16 = true ∧ t.granted
      Act.rtcMeas = false) ∧
    (∀ (err : Word), (s.granted Act.rtcMeas = false ∨ s.time.rtcEdges < s.sluice.fmcFrom + max 1 (s.getF
      Port.CAL_FMC_CFG 11 0)) → Completes (.fmcDone err) s fun t => t = s)

/-- Channel ch alone names producer p. (1) A raise with the channel's group disabled or its gate low is stopped and
  counted. (2) With an event outstanding it is lost and counted. (3) Else it is outstanding for every enabled slot
  that names the channel, counted. (4) A guarded channel counts it in its window, which the first one opens. (5) The
  event that makes the window's count LIMIT disables the group, sets TRIP and raises LOOP_TRIP. (6) A reserved
  producer raises nothing. (7) A task without an event does nothing. (8) Tasks 0 to 3 take their event and raise their
  interrupt source in every core that is not in reset. (9) Task 4 is the power controller's wake task: in Run the
  source alone is recorded while it is enabled. (10) Tasks 8 to 15 enable their group. (11) Tasks 16 to 23 disable it.
  (12) A busy task ignores its event, counted, with its number in EVF_LAST. (13) A task whose two slots name channels
  with an event each acts once, counted as merged. (14) A guard window whose time is over closes with a count of 0.
  (15) Its time is WINDOW × 10 µs of link time; before that, and with none open, nothing closes. (16) A bit of EVF_SW
  raises its producer. (17) A value of 0 raises none. -/
def Obligations.TheEventFabricDelivers : Prop :=
  ∀ s : State,
    (∀ (p : BitVec 9) (ch : Fin 48), s.getF (Port.EVF_CH_SRC ch.val) 8 0 = p.toNat → producerOk p.toNat = true → p ≠ 0
      → (∀ c, c < 48 → c ≠ ch.val → s.getF (Port.EVF_CH_SRC c) 8 0 ≠ p.toNat) → (s.grpOn ch.val = false ∨ s.gateLevel
      (s.getF (Port.EVF_CH_GATE ch.val) 8 0) = false) → Completes (.eventRaise p) s fun t => t = s.count
      (Port.EVF_CH_STOPCNT ch.val)) ∧
    (∀ (p : BitVec 9) (ch : Fin 48), s.getF (Port.EVF_CH_SRC ch.val) 8 0 = p.toNat → producerOk p.toNat = true → p ≠ 0
      → (∀ c, c < 48 → c ≠ ch.val → s.getF (Port.EVF_CH_SRC c) 8 0 ≠ p.toNat) → s.grpOn ch.val = true → s.gateLevel
      (s.getF (Port.EVF_CH_GATE ch.val) 8 0) = true → s.chTasks ch.val ≠ [] → Completes (.eventRaise p) s fun t => t =
      s.count (Port.EVF_CH_OVRCNT ch.val)) ∧
    (∀ (p : BitVec 9) (ch : Fin 48), s.getF (Port.EVF_CH_SRC ch.val) 8 0 = p.toNat → producerOk p.toNat = true → p ≠ 0
      → (∀ c, c < 48 → c ≠ ch.val → s.getF (Port.EVF_CH_SRC c) 8 0 ≠ p.toNat) → s.grpOn ch.val = true → s.gateLevel
      (s.getF (Port.EVF_CH_GATE ch.val) 8 0) = true → s.chTasks ch.val = [] → s.slotsOf ch.val ≠ [] → s.getF
      (Port.EVF_CH_GUARD ch.val) 17 9 = 0 → Completes (.eventRaise p) s fun t => s.touches [.regs, .evf] [Blk.evf] t ∧
      t.chTasks ch.val = s.slotsOf ch.val ∧ s.counts (Port.EVF_CH_RAISECNT ch.val) t ∧ t.getB (Port.EVF_CH_STAT
      ch.val) 17 = true ∧ (∀ c, c < 48 → c ≠ ch.val → t.chTasks c = s.chTasks c)) ∧
    (∀ (p : BitVec 9) (ch : Fin 48), s.getF (Port.EVF_CH_SRC ch.val) 8 0 = p.toNat → producerOk p.toNat = true → p ≠ 0
      → (∀ c, c < 48 → c ≠ ch.val → s.getF (Port.EVF_CH_SRC c) 8 0 ≠ p.toNat) → s.grpOn ch.val = true → s.gateLevel
      (s.getF (Port.EVF_CH_GATE ch.val) 8 0) = true → s.chTasks ch.val = [] → s.slotsOf ch.val ≠ [] → s.getF
      (Port.EVF_CH_GUARD ch.val) 17 9 ≠ 0 → 1 < s.getF (Port.EVF_CH_GUARD ch.val) 8 0 → s.guardOpen ch.val = 0 →
      Completes (.eventRaise p) s fun t => s.touches [.regs, .evf] [Blk.evf] t ∧ t.guardOpen ch.val =
      s.time.link.toNat + 1 ∧ t.getF (Port.EVF_CH_STAT ch.val) 8 0 = 1 ∧ t.grpOn ch.val = true ∧ t.chTasks ch.val =
      s.slotsOf ch.val ∧ s.counts (Port.EVF_CH_RAISECNT ch.val) t ∧ t.getB (Port.EVF_CH_STAT ch.val) 17 = true ∧ (∀ c,
      c < 48 → c ≠ ch.val → t.chTasks c = s.chTasks c)) ∧
    (∀ (p : BitVec 9) (ch : Fin 48), s.getF (Port.EVF_CH_SRC ch.val) 8 0 = p.toNat → producerOk p.toNat = true → p ≠ 0
      → (∀ c, c < 48 → c ≠ ch.val → s.getF (Port.EVF_CH_SRC c) 8 0 ≠ p.toNat) → s.grpOn ch.val = true → s.gateLevel
      (s.getF (Port.EVF_CH_GATE ch.val) 8 0) = true → s.chTasks ch.val = [] → s.slotsOf ch.val ≠ [] → s.getF
      (Port.EVF_CH_GUARD ch.val) 17 9 ≠ 0 → s.guardLive ch.val = true → s.getF (Port.EVF_CH_STAT ch.val) 8 0 + 1 =
      s.getF (Port.EVF_CH_GUARD ch.val) 8 0 → Completes (.eventRaise p) s fun t => s.touches [.regs, .pends, .evf]
      [Blk.evf] t ∧ t.grpOn ch.val = false ∧ t.getB (Port.EVF_CH_STAT ch.val) 16 = true ∧ t.get Port.EVF_TRIP = inFld
      17 17 1 ||| inFld 5 0 ch.val ∧ s.raises Irq.LOOP_TRIP t ∧ t.chTasks ch.val = s.slotsOf ch.val ∧ s.counts
      (Port.EVF_CH_RAISECNT ch.val) t ∧ t.getB (Port.EVF_CH_STAT ch.val) 17 = true ∧ (∀ c, c < 48 → c ≠ ch.val →
      t.chTasks c = s.chTasks c)) ∧
    (∀ (p : BitVec 9), (producerOk p.toNat = false ∨ p = 0) → Completes (.eventRaise p) s fun t => t = s) ∧
    (∀ (k : BitVec 9), (s.chansDue k.toNat).isEmpty = true → Completes (.taskAction k) s fun t => t = s) ∧
    (∀ (k : BitVec 9) (ch : Fin 48), s.chTasks ch.val = [k.toNat] → (∀ c, c < 48 → c ≠ ch.val → s.slotsDue k.toNat c =
      0) → k.toNat < 4 → Completes (.taskAction k) s fun t => s.touches [.regs, .pends, .evf] [Blk.evf] t ∧ s.raises
      (Irq.EV_IRQ k.toNat) t ∧ t.chTasks ch.val = [] ∧ t.getB (Port.EVF_CH_STAT ch.val) 17 = false ∧ (∀ c, c < 48 → c
      ≠ ch.val → t.chTasks c = s.chTasks c)) ∧
    (∀ (k : BitVec 9) (ch : Fin 48), s.chTasks ch.val = [k.toNat] → (∀ c, c < 48 → c ≠ ch.val → s.slotsDue k.toNat c =
      0) → k.toNat = 4 → s.phase = 0 → s.level = 0 → s.getB Port.PWR_WAKE 1 = true → Completes (.taskAction k) s fun t
      => s.touches [.regs, .evf] [Blk.sys, Blk.evf] t ∧ t.getB Port.PWR_WAKE_SRC 1 = true ∧ t.chTasks ch.val = [] ∧
      t.getB (Port.EVF_CH_STAT ch.val) 17 = false ∧ (∀ c, c < 48 → c ≠ ch.val → t.chTasks c = s.chTasks c)) ∧
    (∀ (k : BitVec 9) (ch : Fin 48), s.chTasks ch.val = [k.toNat] → (∀ c, c < 48 → c ≠ ch.val → s.slotsDue k.toNat c =
      0) → 8 ≤ k.toNat → k.toNat ≤ 15 → Completes (.taskAction k) s fun t => s.touches [.regs, .evf] [Blk.evf] t ∧
      t.getB Port.EVF_GRP (k.toNat - 8) = true ∧ (∀ i, i ≠ k.toNat - 8 → t.getB Port.EVF_GRP i = s.getB Port.EVF_GRP
      i) ∧ t.chTasks ch.val = [] ∧ t.getB (Port.EVF_CH_STAT ch.val) 17 = false ∧ (∀ c, c < 48 → c ≠ ch.val → t.chTasks
      c = s.chTasks c)) ∧
    (∀ (k : BitVec 9) (ch : Fin 48), s.chTasks ch.val = [k.toNat] → (∀ c, c < 48 → c ≠ ch.val → s.slotsDue k.toNat c =
      0) → 16 ≤ k.toNat → k.toNat ≤ 23 → Completes (.taskAction k) s fun t => s.touches [.regs, .evf] [Blk.evf] t ∧
      t.getB Port.EVF_GRP (k.toNat - 16) = false ∧ (∀ i, i ≠ k.toNat - 16 → t.getB Port.EVF_GRP i = s.getB
      Port.EVF_GRP i) ∧ t.chTasks ch.val = [] ∧ t.getB (Port.EVF_CH_STAT ch.val) 17 = false ∧ (∀ c, c < 48 → c ≠
      ch.val → t.chTasks c = s.chTasks c)) ∧
    (∀ (k : BitVec 9) (ch : Fin 48), s.chTasks ch.val = [k.toNat] → (∀ c, c < 48 → c ≠ ch.val → s.slotsDue k.toNat c =
      0) → s.taskBusy k.toNat = true → Completes (.taskAction k) s fun t => s.touches [.regs, .evf] [Blk.evf] t ∧
      s.counts Port.EVF_IGNCNT t ∧ t.getF Port.EVF_LAST 17 9 = k.toNat ∧ t.chTasks ch.val = [] ∧ t.getB
      (Port.EVF_CH_STAT ch.val) 17 = false ∧ (∀ c, c < 48 → c ≠ ch.val → t.chTasks c = s.chTasks c)) ∧
    (∀ (k : BitVec 9) (a b : Fin 48), a ≠ b → s.chTasks a.val = [k.toNat] → s.chTasks b.val = [k.toNat] → (∀ c, c < 48
      → c ≠ a.val → c ≠ b.val → s.slotsDue k.toNat c = 0) → 8 ≤ k.toNat → k.toNat ≤ 15 → Completes (.taskAction k) s
      fun t => s.touches [.regs, .evf] [Blk.evf] t ∧ s.counts Port.EVF_MRGCNT t ∧ t.getF Port.EVF_LAST 8 0 = k.toNat ∧
      t.getB Port.EVF_GRP (k.toNat - 8) = true ∧ t.chTasks a.val = [] ∧ t.chTasks b.val = []) ∧
    (∀ (ch : Fin 48), s.guardOpen ch.val ≠ 0 → s.guardOver ch.val = true → Completes (.guardWindowClose ch) s fun t =>
      s.touches [.regs, .evf] [Blk.evf] t ∧ t.guardOpen ch.val = 0 ∧ t.getF (Port.EVF_CH_STAT ch.val) 8 0 = 0 ∧ t.getB
      (Port.EVF_CH_STAT ch.val) 17 = s.getB (Port.EVF_CH_STAT ch.val) 17 ∧ (∀ c, t.chTasks c = s.chTasks c)) ∧
    (∀ (ch : Fin 48), (s.guardOpen ch.val = 0 ∨ s.time.stopped = true ∨ (s.time.link - BitVec.ofNat 54 (s.guardOpen
      ch.val - 1)).toNat < s.getF (Port.EVF_CH_GUARD ch.val) 17 9 * 160) → Completes (.guardWindowClose ch) s fun t =>
      t = s) ∧
    (∀ (m : Master) (v : Word) (k : Fin 8) (ch : Fin 48), s.answers m Port.EVF_SW = true → v = inFld k.val k.val 1 →
      s.getF (Port.EVF_CH_SRC ch.val) 8 0 = Ev.sw k.val → (∀ c, c < 48 → c ≠ ch.val → s.getF (Port.EVF_CH_SRC c) 8 0 ≠
      Ev.sw k.val) → s.grpOn ch.val = true → s.gateLevel (s.getF (Port.EVF_CH_GATE ch.val) 8 0) = true → s.chTasks
      ch.val = [] → s.slotsOf ch.val ≠ [] → s.getF (Port.EVF_CH_GUARD ch.val) 17 9 = 0 → Completes (.evSw m v) s fun t
      => s.touches [.regs, .evf] [Blk.evf] t ∧ t.chTasks ch.val = s.slotsOf ch.val ∧ s.counts (Port.EVF_CH_RAISECNT
      ch.val) t ∧ t.getB (Port.EVF_CH_STAT ch.val) 17 = true ∧ (∀ c, c < 48 → c ≠ ch.val → t.chTasks c = s.chTasks c)) ∧
    (∀ (m : Master) (v : Word), s.answers m Port.EVF_SW = true → v = 0 → Completes (.evSw m v) s fun t => t = s)

/-- The value of a pair is 36 bits wide. TIMER_TICK takes a tick whose source cycles have passed (log entry 161); what
  a write of PERIOD does to a one-shot is deduced (log entry 77). (1) A tick that is not due, or of a timer that does
  not count, is none. (2) A tick below PERIOD adds one to the count. (3) A compare value that the count reaches sets
  its CMPF; without an enabled interrupt, a producer or a wake nothing else follows. (4) With its interrupt enabled it
  raises the source of the timer's group. (5) At PERIOD the count goes to 0 and PERF is set; in one-shot RUN clears.
  (6) START sets RUN. (7) STOP clears RUN. (8) CLEAR makes the count and the prescaler 0. (9) Of a timer that a pair
  governs a command sets ERR alone. (10) A PERIOD above the count is taken. (11) One at or below it makes the count 0
  and sets PERF. (12) The even word of a pair is staged. (13) The odd word takes effect with it. (14) A compare value
  above the count, or of a timer that does not run, is taken. (15) At or below the count of a running timer it sets
  CMPF at once. (16) Of a capturing channel a write sets ERR alone. (17) A read of a CC register answers it and clears
  its CF. -/
def Obligations.TimersCount : Prop :=
  ∀ s : State,
    (∀ (n : Fin 12), (s.timCounts n.val = false ∨ s.timAcc n.val < s.timDivisor n.val) → Completes (.timerTick n) s
      fun t => t = s) ∧
    (∀ (n : Fin 12), s.timCounts n.val = true → s.timDivisor n.val ≤ s.timAcc n.val → s.timVal n.val tCount < s.timVal
      n.val tPeriod → (∀ k, k < 4 → s.timCaptures n.val k = true ∨ s.timVal n.val (tCc k) ≠ s.timVal n.val tCount + 1)
      → Completes (.timerTick n) s fun t => s.touches [.regs, .tim] [Blk.tim] t ∧ t.timVal n.val tCount = s.timVal
      n.val tCount + 1 ∧ t.get (Port.TIM_STAT n.val) = s.get (Port.TIM_STAT n.val) ∧ t.timAcc n.val = s.timAcc n.val -
      s.timDivisor n.val) ∧
    (∀ (n : Fin 12) (k : Fin 4), s.timCounts n.val = true → s.timDivisor n.val ≤ s.timAcc n.val → s.timVal n.val
      tCount < s.timVal n.val tPeriod → s.timCaptures n.val k.val = false → s.timVal n.val (tCc k.val) = s.timVal
      n.val tCount + 1 → (∀ c, c < 48 → s.getF (Port.EVF_CH_SRC c) 8 0 = 0) → s.get (Port.TIM_IEN n.val) = 0 → n.val <
      8 → Completes (.timerTick n) s fun t => s.touches [.regs, .tim] [Blk.tim] t ∧ t.timVal n.val tCount = s.timVal
      n.val tCount + 1 ∧ t.getB (Port.TIM_STAT n.val) k.val = true) ∧
    (∀ (n : Fin 12) (k : Fin 4), s.timCounts n.val = true → s.timDivisor n.val ≤ s.timAcc n.val → s.timVal n.val
      tCount < s.timVal n.val tPeriod → s.timCaptures n.val k.val = false → s.timVal n.val (tCc k.val) = s.timVal
      n.val tCount + 1 → s.getB (Port.TIM_IEN n.val) k.val = true → s.level = 0 → s.phase = 0 → Completes (.timerTick
      n) s fun t => t.getB (Port.TIM_STAT n.val) k.val = true ∧ s.raises (Irq.TIM_GRP n.val) t) ∧
    (∀ (n : Fin 12), s.timCounts n.val = true → s.timDivisor n.val ≤ s.timAcc n.val → s.timVal n.val tCount = s.timVal
      n.val tPeriod → s.level = 0 → s.phase = 0 → Completes (.timerTick n) s fun t => t.timVal n.val tCount = 0 ∧
      t.getB (Port.TIM_STAT n.val) 14 = true ∧ t.timRun n.val = !s.getB (Port.TIM_CTRL n.val) 14 ∧ t.timAcc n.val =
      s.timAcc n.val - s.timDivisor n.val) ∧
    (∀ (m : Master) (n : Fin 12), s.answers m (Port.TIM_CMD n.val) = true → s.timSlave n.val = false → Completes
      (.timStart m n) s fun t => t = s.setTimRun n.val true) ∧
    (∀ (m : Master) (n : Fin 12), s.answers m (Port.TIM_CMD n.val) = true → s.timSlave n.val = false → Completes
      (.timStop m n) s fun t => t = s.setTimRun n.val false) ∧
    (∀ (m : Master) (n : Fin 12), s.answers m (Port.TIM_CMD n.val) = true → s.timSlave n.val = false → Completes
      (.timClear m n) s fun t => s.touches [.regs, .tim] [Blk.tim] t ∧ t.timVal n.val tCount = 0 ∧ t.timAcc n.val = 0
      ∧ t.timRun n.val = s.timRun n.val) ∧
    (∀ (m : Master) (n : Fin 12), s.answers m (Port.TIM_CMD n.val) = true → s.timSlave n.val = true → Completes
      (.timStart m n) s fun t => t = s.timErr n.val) ∧
    (∀ (m : Master) (n : Fin 12) (v : Word), s.answers m (Port.TIM_PERIOD n.val) = true → s.timSlave n.val = false →
      s.timPair n.val = false → s.timVal n.val tCount < v.toNat → Completes (.periodWrite m n v) s fun t => t = s.set
      (Port.TIM_PERIOD n.val) v) ∧
    (∀ (m : Master) (n : Fin 12) (v : Word), s.answers m (Port.TIM_PERIOD n.val) = true → s.timSlave n.val = false →
      s.timPair n.val = false → v.toNat ≤ s.timVal n.val tCount → s.level = 0 → s.phase = 0 → Completes (.periodWrite
      m n v) s fun t => t.timVal n.val tPeriod = v.toNat ∧ t.timVal n.val tCount = 0 ∧ t.getB (Port.TIM_STAT n.val) 14
      = true ∧ t.timRun n.val = (s.timRun n.val && !s.getB (Port.TIM_CTRL n.val) 14)) ∧
    (∀ (m : Master) (n : Fin 12) (v : Word), s.answers m (Port.TIM_PERIOD n.val) = true → s.timPair n.val = true →
      Completes (.periodWrite m n v) s fun t => t = s.timStage n.val tPeriod v) ∧
    (∀ (m : Master) (n : Fin 12) (v : Word), s.answers m (Port.TIM_PERIOD n.val) = true → s.timSlave n.val = true →
      Cells.rd (fun _ => 0) s.tim.staged (16 * (n.val - 1) + tPeriod) = 1 → s.timVal (n.val - 1) tCount < (Cells.rd
      (fun _ => 0) s.tim.stage (16 * (n.val - 1) + tPeriod)).toNat + 2 ^ 18 * v.toNat → Completes (.periodWrite m n v)
      s fun t => s.touches [.regs, .tim] [Blk.tim] t ∧ t.timVal (n.val - 1) tPeriod = (Cells.rd (fun _ => 0)
      s.tim.stage (16 * (n.val - 1) + tPeriod)).toNat + 2 ^ 18 * v.toNat ∧ t.timVal (n.val - 1) tCount = s.timVal
      (n.val - 1) tCount) ∧
    (∀ (m : Master) (n : Fin 12) (k : Fin 4) (v : Word), s.answers m (Port.TIM_CC_0 n.val + k.val) = true → s.timSlave
      n.val = false → s.timPair n.val = false → s.timCaptures n.val k.val = false → (s.timRun n.val = false ∨ s.timVal
      n.val tCount < v.toNat ∨ s.timVal n.val tPeriod < v.toNat) → Completes (.ccWrite m n k v) s fun t => t = s.set
      (Port.TIM_CC_0 n.val + k.val) v) ∧
    (∀ (m : Master) (n : Fin 12) (k : Fin 4) (v : Word), s.answers m (Port.TIM_CC_0 n.val + k.val) = true → s.timSlave
      n.val = false → s.timPair n.val = false → s.timCaptures n.val k.val = false → s.timRun n.val = true → v.toNat ≤
      s.timVal n.val tCount → v.toNat ≤ s.timVal n.val tPeriod → s.level = 0 → s.phase = 0 → Completes (.ccWrite m n k
      v) s fun t => t.timVal n.val (tCc k.val) = v.toNat ∧ t.getB (Port.TIM_STAT n.val) k.val = true ∧ t.timVal n.val
      tCount = s.timVal n.val tCount) ∧
    (∀ (m : Master) (n : Fin 12) (k : Fin 4) (v : Word), s.answers m (Port.TIM_CC_0 n.val + k.val) = true → s.timSlave
      n.val = false → s.timCaptures n.val k.val = true → Completes (.ccWrite m n k v) s fun t => t = s.timErr n.val) ∧
    (∀ (m : Master) (n : Fin 12) (k : Fin 4), s.answers m (Port.TIM_CC_0 n.val + k.val) = true → s.timSlave n.val =
      false → Completes (.ccRead m n k) s fun t => s.touches [.regs, .latch] [Blk.tim] t ∧ Cells.rd (fun _ => 0)
      t.latch.data m.num = s.get (Port.TIM_CC_0 n.val + k.val) ∧ t.getB (Port.TIM_STAT n.val) (6 + k.val) = false ∧ (∀
      p, p ≠ Port.TIM_STAT n.val → t.get p = s.get p))

/-- The divider waits at its last count for the command that takes the second (log entry 162). (1) A second within a
  minute advances SEC alone, makes the divider 0 and copies link time. (2) The last second of a February of 28 days
  leads to 1 March 00:00:00. (3) An alarm on the second that comes sets ALARMF with RTC_ALARM. (4) With the divider
  elsewhere no second comes. (5) COMMIT keeps the calendar and waits with the staged fields for the next edge. (6)
  Without a commit no edge applies one. (7) At the edge the staged fields are taken, the others stay, the divider is 0
  and no second comes. (8) CLEAR_STAMP clears SWVALID. (9) DISCARD clears STAGED. (10) A read of RTC_SEC answers it
  and holds the calendar for that master. (11) A snapshot that lives stays; one of 32,768 edges of RTCCLK is over.
  (12) One that is over no longer shows. (13) A second switch to backup changes nothing. (14) A switch to backup
  without a stamp copies the calendar into it and sets SWVALID; one that takes too long sets OSF. (15) With a stamp it
  keeps that. (16) RTCCLK without edges sets OSF. (17) A BKD supply below the detector sets OSF. -/
def Obligations.TheCalendarAndItsCommands : Prop :=
  ∀ s : State,
    (s.time.rtcCommit = none → s.time.rtcRunning = true → s.get Port.RTC_SUB = 32767 → (∀ i, i < 6 → s.getB
      (Port.RTC_ALM_SEC + i) 17 = false) → (s.get Port.RTC_SEC).toNat < 59 → Completes .rtcSecond s fun t => s.touches
      [.regs, .time, .evf] [Blk.evf, Blk.rtc, Blk.ltb] t ∧ t.get Port.RTC_SEC = s.get Port.RTC_SEC + 1 ∧ t.get
      Port.RTC_MIN = s.get Port.RTC_MIN ∧ t.get Port.RTC_HOUR = s.get Port.RTC_HOUR ∧ t.get Port.RTC_DAY = s.get
      Port.RTC_DAY ∧ t.get Port.RTC_MONTH = s.get Port.RTC_MONTH ∧ t.get Port.RTC_YEAR = s.get Port.RTC_YEAR ∧ t.get
      Port.RTC_SUB = 0 ∧ t.getWide (Port.LTB_RTCLT 0) 3 = s.time.link.toNat) ∧
    (s.time.rtcCommit = none → s.time.rtcRunning = true → s.get Port.RTC_SUB = 32767 → (∀ i, i < 6 → s.getB
      (Port.RTC_ALM_SEC + i) 17 = false) → s.get Port.RTC_SEC = 59 → s.get Port.RTC_MIN = 59 → s.get Port.RTC_HOUR =
      23 → s.get Port.RTC_DAY = 28 → s.get Port.RTC_MONTH = 2 → (s.get Port.RTC_YEAR).toNat % 4 ≠ 0 → (s.get
      Port.RTC_YEAR).toNat < 256 → Completes .rtcSecond s fun t => s.touches [.regs, .time, .evf] [Blk.evf, Blk.rtc,
      Blk.ltb] t ∧ t.get Port.RTC_SEC = 0 ∧ t.get Port.RTC_MIN = 0 ∧ t.get Port.RTC_HOUR = 0 ∧ t.get Port.RTC_DAY = 1
      ∧ t.get Port.RTC_MONTH = 3 ∧ t.get Port.RTC_YEAR = s.get Port.RTC_YEAR) ∧
    (s.time.rtcCommit = none → s.time.rtcRunning = true → s.get Port.RTC_SUB = 32767 → s.get Port.RTC_SEC = 6 → s.get
      Port.RTC_ALM_SEC = inFld 17 17 1 ||| 7 → (∀ i, 1 ≤ i → i < 6 → s.getB (Port.RTC_ALM_SEC + i) 17 = false) →
      s.level = 0 → s.phase = 0 → Completes .rtcSecond s fun t => t.getB Port.RTC_STAT 16 = true ∧ s.raises
      Irq.RTC_ALARM t) ∧
    (s.time.rtcCommit = none → s.time.rtcRunning = true → s.get Port.RTC_SUB ≠ 32767 → Completes .rtcSecond s fun t =>
      t = s) ∧
    (∀ (m : Master), s.answers m Port.RTC_CMD = true → Completes (.commit m) s fun t => s.touches [.regs, .time]
      [Blk.rtc] t ∧ t.getB Port.RTC_STAT 13 = true ∧ t.time = { s.time with
        rtcCommit := some (BitVec.ofNat 18 (s.getF Port.RTC_STAT 5 0), 0, (List.range 6).map fun i => s.get
          (Port.RTC_STG_SEC + i)) } ∧ (∀ p, p ≠ Port.RTC_STAT → t.get p = s.get p)) ∧
    (s.time.rtcCommit = none → Completes .commitApply s fun t => t = s) ∧
    (∀ (f g : Word) (l : List Word), s.time.rtcCommit = some (f, g, l) → (∀ i, i < 6 → s.getB (Port.RTC_ALM_SEC + i)
      17 = false) → Completes .commitApply s fun t => s.touches [.regs, .time, .evf] [Blk.evf, Blk.rtc, Blk.ltb] t ∧
      (∀ i, i < 6 → bitOf f i = true → t.get (Port.RTC_SEC + i) = l.getD i 0) ∧ (∀ i, i < 6 → bitOf f i = false →
      t.get (Port.RTC_SEC + i) = s.get (Port.RTC_SEC + i)) ∧ t.get Port.RTC_SUB = 0 ∧ t.getB Port.RTC_STAT 13 = false
      ∧ (∀ i, i < 6 → bitOf f i = true → bitOf g i = false → t.getB Port.RTC_STAT i = false) ∧ t.time =
      { s.time with rtcCommit := none, rtcRunning := true }) ∧
    (∀ (m : Master), s.answers m Port.RTC_CMD = true → Completes (.clearStamp m) s fun t => t = s.setB Port.RTC_STAT
      15 false) ∧
    (∀ (m : Master), s.answers m Port.RTC_CMD = true → Completes (.discard m) s fun t => t = s.setF Port.RTC_STAT 5 0
      0) ∧
    (∀ (m : Master), s.answers m Port.RTC_SEC = true → Completes (.rtcSecRead m) s fun t => s.touches [.latch] [] t ∧
      Cells.rd (fun _ => 0) t.latch.data m.num = s.get Port.RTC_SEC ∧ t.snapped m = true ∧ (∀ i, i < 6 → t.rtcRead m
      (Port.RTC_MIN + i) = s.get (Port.RTC_MIN + i))) ∧
    (∀ (m : Master), s.snapped m = true → Completes (.snapshotExpiry m) s fun t => t = s) ∧
    (∀ (m : Master), s.snapped m = false → Completes (.snapshotExpiry m) s fun t => s.touches [.latch] [] t ∧
      t.snapped m = false ∧ t.rtcRead m Port.RTC_MIN = s.get Port.RTC_MIN) ∧
    (∀ (late : Bool), s.time.onBackup = true → Completes (.backupSwitchover late) s fun t => t = s) ∧
    (∀ (late : Bool), s.time.onBackup = false → s.getB Port.RTC_STAT 15 = false → Completes (.backupSwitchover late) s
      fun t => s.touches [.regs, .time] [Blk.rtc] t ∧ t.getB Port.RTC_STAT 15 = true ∧ t.time =
      { s.time with onBackup := true } ∧ t.getB Port.RTC_STAT 17 = (s.getB Port.RTC_STAT 17 || late) ∧ (∀ i, i < 6 →
      t.get (Port.RTC_SW_SEC + i) = BitVec.ofNat 18 ([s.calendar.sec, s.calendar.min, s.calendar.hour, s.calendar.day,
      s.calendar.month, s.calendar.year].getD i 0)) ∧ t.get Port.RTC_SEC = s.get Port.RTC_SEC ∧ t.get Port.RTC_MIN =
      s.get Port.RTC_MIN ∧ t.get Port.RTC_HOUR = s.get Port.RTC_HOUR ∧ t.get Port.RTC_DAY = s.get Port.RTC_DAY ∧ t.get
      Port.RTC_MONTH = s.get Port.RTC_MONTH ∧ t.get Port.RTC_YEAR = s.get Port.RTC_YEAR) ∧
    (∀ (late : Bool), s.time.onBackup = false → s.getB Port.RTC_STAT 15 = true → Completes (.backupSwitchover late) s
      fun t => s.touches [.regs, .time] [Blk.rtc] t ∧ t.time = { s.time with onBackup := true } ∧ t.getB Port.RTC_STAT
      15 = true ∧ t.getB Port.RTC_STAT 17 = (s.getB Port.RTC_STAT 17 || late) ∧ (∀ p, p ≠ Port.RTC_STAT → t.get p =
      s.get p)) ∧
    (Completes .rtcclkStop s fun t => t =
      { s.setB Port.RTC_STAT 17 true with time := { s.time with rtcRunning := false } }) ∧
    (Completes .bkdSupplyLow s fun t => t =
      { s.setB Port.RTC_STAT 17 true with time := { s.time with bkdLow := true } })

/-- bootSel and stackId are the balls at the release. (1) A cold reset makes link time 0 and records class 1 and its
  cause. (2) Then the boot ROM has to run, no Rig is accepted, the cores are as reset and PD_APC alone is released.
  (3) SRAM is zeroed; the Basin, calendar, events, trim, Utvis, event fabric and timers are as after reset. (4) The
  fuses stay, and the straps are taken. (5) The RTC's registers stay, but at the first power-on of BKD, which leaves
  them cold. (6) Flash stays while no operation and no activation is under way. (7) A system reset lets link time go
  on and records class 2 and its cause. (8) Boot ROM, Rig, cores and domains are as in (2). (9) SRAM and the blocks
  are as in (3). (10) The fuses and the RTC's registers stay, and the straps are taken. (11) So do the group reset
  counts, the watchdogs' expiry counts and PWR_ABORTCNT. (12) By command, with no transmission accepted or running,
  the ledgers, CLK_LOSSCNT and REFCLK's state stay. (13) One by loss of REFCLK stops link time, counts in CLK_LOSSCNT
  and shows REFLOSS. (14) Flash stays while no operation and no activation is under way. (15) An application-group
  reset resets PD_APC and its core; it is counted and recorded. (16) A released PD_APC: its SRAM banks are zeroed and
  its core stands in reset. (17) It leaves the link core, links, lanes, chains, the Basin's queues, every other
  domain, flash and the fuses. (18) While the life-cycle controller holds the group for an activation the reset has no
  effect. (19) A link-group reset resets the group's four domains and withdraws the APC's context-store grant; it is
  counted and recorded. (20) With these released, it ends every event, empties the calendar, resets the link core and
  zeroes the group's SRAM banks. (21) It leaves the application core, its domain, link time, DRAM, flash and the
  fuses. (22) A shared domain's reset resets that domain alone, counted and recorded. (23) One of PD_APC, or of a
  link-group domain, is that group's reset by command. -/
def Obligations.ResetsReachWhatTheyMay : Prop :=
  ∀ s : State,
    (∀ (cause : ColdCause) (bootSel : BitVec 2) (stackId : BitVec 3), Completes (.coldReset cause bootSel stackId) s
      fun t => t.time.link = 0 ∧ t.time.stopped = false ∧ t.get Port.RST_LAST = inFld 17 15 1 ||| inFld 14 9 (coldBit
      cause) ∧ t.getB Port.RST_CAUSE (coldBit cause) = true) ∧
    (∀ (cause : ColdCause) (bootSel : BitVec 2) (stackId : BitVec 3), Completes (.coldReset cause bootSel stackId) s
      fun t => t.rig.booting = true ∧ t.rig.applied = false ∧ t.rig.words = [] ∧ t.apc = State.reset.apc ∧ t.lkc =
      State.reset.lkc ∧ (∀ d, d < 16 → t.domOn d = decide (d = 0))) ∧
    (∀ (cause : ColdCause) (bootSel : BitVec 2) (stackId : BitVec 3), Completes (.coldReset cause bootSel stackId) s
      fun t => t.mem.sram = [] ∧ t.link.calendar = [] ∧ t.link.events = [] ∧ t.basin = State.reset.basin ∧ t.utv =
      State.reset.utv ∧ t.trim = State.reset.trim ∧ t.evf = State.reset.evf ∧ t.tim = State.reset.tim ∧ (∀ p, 0x0400 ≤
      p → p < 0x0B00 → t.get p = coldOf p)) ∧
    (∀ (cause : ColdCause) (bootSel : BitVec 2) (stackId : BitVec 3), Completes (.coldReset cause bootSel stackId) s
      fun t => t.fuses = s.fuses ∧ t.pins.stackId = stackId ∧ t.pins.bootSel = bootSel ∧ t.pending = s.pending) ∧
    (∀ (cause : ColdCause) (bootSel : BitVec 2) (stackId : BitVec 3), Completes (.coldReset cause bootSel stackId) s
      fun t => ∀ p, 0x0C00 ≤ p → p ≤ 0x0C2D → t.get p = if cause = .powerOn true then coldOf p else s.get p) ∧
    (∀ (cause : ColdCause) (bootSel : BitVec 2) (stackId : BitVec 3), s.flc.op = none → s.sec.holding = [] → Completes
      (.coldReset cause bootSel stackId) s fun t => t.mem.flash = s.mem.flash) ∧
    (∀ (cause : SysCause) (bootSel : BitVec 2) (stackId : BitVec 3), Completes (.systemReset cause bootSel stackId) s
      fun t => t.time.link = s.time.link ∧ t.get Port.RST_LAST = inFld 17 15 2 ||| inFld 14 9 (sysBit cause) ∧ t.getB
      Port.RST_CAUSE (sysBit cause) = true) ∧
    (∀ (cause : SysCause) (bootSel : BitVec 2) (stackId : BitVec 3), Completes (.systemReset cause bootSel stackId) s
      fun t => t.rig.booting = true ∧ t.rig.applied = false ∧ t.rig.words = [] ∧ t.apc = State.reset.apc ∧ t.lkc =
      State.reset.lkc ∧ (∀ d, d < 16 → t.domOn d = decide (d = 0))) ∧
    (∀ (cause : SysCause) (bootSel : BitVec 2) (stackId : BitVec 3), Completes (.systemReset cause bootSel stackId) s
      fun t => t.mem.sram = [] ∧ t.link.calendar = [] ∧ t.link.events = [] ∧ t.basin = State.reset.basin ∧ t.utv =
      State.reset.utv ∧ t.trim = State.reset.trim ∧ t.evf = State.reset.evf ∧ t.tim = State.reset.tim ∧ (∀ p, 0x0400 ≤
      p → p < 0x0B00 → t.get p = coldOf p)) ∧
    (∀ (cause : SysCause) (bootSel : BitVec 2) (stackId : BitVec 3), Completes (.systemReset cause bootSel stackId) s
      fun t => t.fuses = s.fuses ∧ t.pins.stackId = stackId ∧ t.pins.bootSel = bootSel ∧ t.pending = s.pending ∧ ∀ p,
      0x0C00 ≤ p → p ≤ 0x0C2D → t.get p = s.get p) ∧
    (∀ (cause : SysCause) (bootSel : BitVec 2) (stackId : BitVec 3), Completes (.systemReset cause bootSel stackId) s
      fun t => (∀ i, i < 3 → t.get (Port.RST_CNT i) = s.get (Port.RST_CNT i)) ∧ (∀ i, i < 2 → t.get (Port.WDG_EXPCNT
      i) = s.get (Port.WDG_EXPCNT i)) ∧ t.get Port.PWR_ABORTCNT = s.get Port.PWR_ABORTCNT) ∧
    (∀ (bootSel : BitVec 2) (stackId : BitVec 3), (∀ x, x < 2 → (s.txc x).cur = none ∧ (s.txc x).accepted = []) →
      Completes (.systemReset .command bootSel stackId) s fun t => t.link.ledgers = s.link.ledgers ∧ t.get
      Port.CLK_LOSSCNT = s.get Port.CLK_LOSSCNT ∧ t.time.stopped = s.time.stopped) ∧
    (∀ (bootSel : BitVec 2) (stackId : BitVec 3), Completes (.systemReset .refLoss bootSel stackId) s fun t =>
      t.time.stopped = true ∧ s.counts Port.CLK_LOSSCNT t ∧ t.getB Port.CLK_STAT 12 = true ∧ t.getB Port.LTB_STAT 0 =
      true) ∧
    (∀ (cause : SysCause) (bootSel : BitVec 2) (stackId : BitVec 3), s.flc.op = none → s.sec.holding = [] → Completes
      (.systemReset cause bootSel stackId) s fun t => t.mem.flash = s.mem.flash) ∧
    (∀ (cause : GroupCause), s.held 0 = false → Completes (.applicationGroupReset cause) s fun t => t.domOn 0 = false
      ∧ s.counts (Port.RST_CNT 0) t ∧ t.get Port.RST_LAST = inFld 17 15 3 ||| inFld 14 9 (groupBit .apc cause) ∧
      t.getB Port.RST_CAUSE (groupBit .apc cause) = true) ∧
    (∀ (cause : GroupCause), s.held 0 = false → s.domOn 0 = true → Completes (.applicationGroupReset cause) s fun t =>
      t.apc = { CoreState.reset with inReset := true } ∧ (∀ k, k < 655360 → ((s.bankRole (k / 16384)).any fun r =>
      decide (r.dom = 0)) = true → Cells.rd (fun _ => 0) t.mem.sram k = 0)) ∧
    (∀ (cause : GroupCause), s.held 0 = false → Completes (.applicationGroupReset cause) s fun t => t.lkc = s.lkc ∧
      t.link = s.link ∧ t.lanes = s.lanes ∧ t.rx = s.rx ∧ t.tx = s.tx ∧ t.basin.queues = s.basin.queues ∧ (∀ d, 0 < d
      → d < 16 → t.domOn d = s.domOn d) ∧ t.mem.flash = s.mem.flash ∧ t.mem.dram = s.mem.dram ∧ t.fuses = s.fuses ∧
      t.time = s.time) ∧
    (∀ (cause : GroupCause), s.held 0 = true → Completes (.applicationGroupReset cause) s fun t => t = s) ∧
    (∀ (cause : GroupCause), s.held 1 = false → Completes (.linkGroupReset cause) s fun t => (∀ d, 1 ≤ d → d ≤ 4 →
      t.domOn d = false) ∧ t.get Port.MEM_CSW_GRANT = 0 ∧ s.counts (Port.RST_CNT 1) t ∧ t.get Port.RST_LAST = inFld 17
      15 4 ||| inFld 14 9 (groupBit .lkc cause) ∧ t.getB Port.RST_CAUSE (groupBit .lkc cause) = true) ∧
    (∀ (cause : GroupCause), s.held 1 = false → s.domOn 1 = true → s.domOn 2 = true → Completes (.linkGroupReset
      cause) s fun t => t.lkc = { CoreState.reset with inReset := true } ∧ t.link.events = [] ∧ t.link.calendar = [] ∧
      (∀ k, k < 655360 → ((s.bankRole (k / 16384)).any fun r => decide (r.dom = 1 ∨ r.dom = 2)) = true → Cells.rd (fun
      _ => 0) t.mem.sram k = 0)) ∧
    (∀ (cause : GroupCause), s.held 1 = false → Completes (.linkGroupReset cause) s fun t => t.apc = s.apc ∧ t.domOn 0
      = s.domOn 0 ∧ (∀ d, 5 ≤ d → d < 16 → t.domOn d = s.domOn d) ∧ t.time = s.time ∧ t.mem.dram = s.mem.dram ∧
      t.mem.flash = s.mem.flash ∧ t.fuses = s.fuses) ∧
    (∀ (d : Fin 16) (cause : DomCause), 5 ≤ d.val → Completes (.domainReset d cause) s fun t => t.domOn d.val = false
      ∧ (∀ e, e < 16 → e ≠ d.val → t.domOn e = s.domOn e) ∧ t.get Port.RST_LAST = inFld 17 15 5 ||| inFld 14 9 (domBit
      cause) ||| inFld 3 0 d.val ∧ t.getB Port.RST_CAUSE (domBit cause) = true ∧ t.pwr.on = s.pwr.on ∧ s.counts
      (Port.RST_CNT 2) t) ∧
    (∀ (d : Fin 16) (cause : DomCause), d.val < 5 → Completes (.domainReset d cause) s fun t => t = if d.val = 0 then
      s.groupReset .apc .command else s.groupReset .lkc .command)

/-- The operands of the boot ROM's command are what the two NOR copies hold. An interrupted life-cycle transition is
  completed first (chapter 15). (1) With nothing to boot, REFCLK stopped or a transition under way the boot ROM
  changes nothing. (2) A fuse fault refuses: STATE shows REFUSED, the APC waits in the boot ROM with PD_FLASH and
  PD_CIPHER off, and flash stays. (3) An open life-cycle transition is taken up first, at the step its ANCHOR fuse
  shows. (4) Else the run ends with the accepted Rig in force, its serial shown, or refused; READY is not yet set. (5)
  READY does not come before the Rig is applied and every powered domain is released. (6) Then it does: SOURCE is
  shown, the boot ROM exits and both watchdogs are enabled. (7) A live fragment given while LIVE is busy is ignored
  and sets LIVE_OVR. (8) Else LIVE shows busy, PD_CIPHER is powered, and the fragment at RIG_LIVE_ADDR and the outcome
  of its check are taken. (9) Without a check under way nothing is applied. (10) A fragment that fails changes nothing
  else: LIVE and RIG_FAULT show it and RIG_LIVE is raised. (11) One that passes is applied and counted; the accepted
  Rig stays. (12) TRIM_POLICY loads trim's policy. (13) QUEUES replaces the marks of every configured queue. (14)
  EVENT_WIRING replaces the whole table and restarts the guards' counts; an outstanding event stays (a section without
  entries). -/
def Obligations.BringUpAndLiveFragments : Prop :=
  ∀ s : State,
    (∀ (a b : List Octet), (s.rig.booting = false ∨ s.time.stopped = true ∨ s.sec.trans ≠ 0) → Completes (.bootRomRun
      a b) s fun t => t = s) ∧
    (∀ (a b : List Octet), s.rig.booting = true → s.time.stopped = false → s.sec.trans = 0 → s.fuses.err ≠ 0 →
      s.flc.op = none → Completes (.bootRomRun a b) s fun t => t.getF Port.RIG_STAT 14 12 = 3 ∧ t.rig.booting = false
      ∧ t.rig.applied = s.rig.applied ∧ t.apc.bootWait = true ∧ t.domOn 14 = false ∧ t.domOn 15 = false ∧ t.ready =
      s.ready ∧ t.mem.flash = s.mem.flash ∧ t.fuses = s.fuses) ∧
    (∀ (a b : List Octet) (d : Nat) (r : List Nat), s.rig.booting = true → s.time.stopped = false → s.sec.trans = 0 →
      s.fuses.err = 0 → s.fuses.openIntents = d :: r → Completes (.bootRomRun a b) s fun t => s.touches [.regs, .sec]
      [Blk.cph] t ∧ t.sec.trans = d ∧ t.rig = s.rig ∧ t.fuses = s.fuses ∧ t.getF Port.LCF_STAT 11 6 = (8 * d + if
      s.fuses.anchored.getLsbD d then 3 else 2) % 64) ∧
    (∀ (a b : List Octet), s.rig.booting = true → s.time.stopped = false → s.sec.trans = 0 → s.fuses.err = 0 →
      s.fuses.openIntents = [] → Completes (.bootRomRun a b) s fun t => t.rig.booting = false ∧ (t.getF Port.RIG_STAT
      14 12 = 2 ∨ t.getF Port.RIG_STAT 14 12 = 3) ∧ (t.getF Port.RIG_STAT 14 12 = 2 → t.rig.applied = true ∧ rigSerial
      t.rig.words = t.getWide (Port.RIG_SERIAL 0) 2) ∧ t.ready = s.ready ∧ t.fuses = s.fuses) ∧
    ((s.rig.applied = false ∨ s.ready = true ∨ s.allUp = false ∨ s.time.stopped = true) → s.latch.stall = none →
      Completes .rigReady s fun t => t = s) ∧
    (s.rig.applied = true → s.ready = false → s.allUp = true → s.time.stopped = false → s.latch.stall = none →
      Completes .rigReady s fun t => t.ready = true ∧ t.getF Port.RIG_STAT 11 9 = s.rig.source % 8 ∧ t.rig.bootExit =
      true ∧ t.getB (Port.WDG_CFG 0) 17 = true ∧ t.getB (Port.WDG_CFG 1) 17 = true ∧ t.fuses = s.fuses ∧ t.time =
      s.time) ∧
    (∀ (m : Master), s.answers m Port.RIG_LIVE_CMD = true → s.ready = true → s.liveState = 1 → Completes
      (.liveFragmentCheck m) s fun t => t = s.setB Port.RIG_STAT 2 true) ∧
    (∀ (m : Master), s.answers m Port.RIG_LIVE_CMD = true → s.ready = true → s.liveState ≠ 1 → Completes
      (.liveFragmentCheck m) s fun t => s.touches [.regs, .rig, .pwr] [Blk.sys] t ∧ t.liveState = 1 ∧ t.rig.words =
      s.rig.words ∧ t.pwr.on.getLsbD 15 = true ∧ (t.rig.liveFault, t.rig.liveSection) = rigCheck (s.rigContext true)
      t.rig.live) ∧
    (s.liveState ≠ 1 → Completes .liveFragmentApply s fun t => t = s) ∧
    (s.liveState = 1 → s.rig.liveFault ≠ 0 → s.rig.liveFault < 64 → s.rig.cipherOff = false → Completes
      .liveFragmentApply s fun t => s.touches [.regs, .rig, .pends, .evf] [Blk.sys, Blk.evf] t ∧ t.liveState = 3 ∧
      t.getF Port.RIG_FAULT 11 6 = s.rig.liveFault ∧ (∀ p, (p < 0x0300 ∨ 0x03FF < p) → t.get p = s.get p) ∧ t.get
      Port.RIG_LIVE_COUNT = s.get Port.RIG_LIVE_COUNT ∧ t.rig.words = s.rig.words ∧ s.raises Irq.RIG_LIVE t) ∧
    (s.liveState = 1 → s.rig.liveFault = 0 → Completes .liveFragmentApply s fun t => t.liveState = 2 ∧ t.getF
      Port.RIG_FAULT 11 6 = 0 ∧ t.get Port.RIG_LIVE_COUNT = s.get Port.RIG_LIVE_COUNT + 1 ∧ t.rig.words = s.rig.words
      ∧ s.raises Irq.RIG_LIVE t) ∧
    (∀ (b : List Word), s.liveState = 1 → s.rig.liveFault = 0 → s.domOn 2 = true → rigBody s.rig.live 12 = some b →
      rigBody s.rig.live 7 = none → rigBody s.rig.live 8 = none → Completes .liveFragmentApply s fun t => ∀ i, i < 4 →
      t.get (Port.TRM_POL i) = b.getD i 0) ∧
    (∀ (b : List Word), s.liveState = 1 → s.rig.liveFault = 0 → s.domOn 11 = true → rigBody s.rig.live 7 = some b →
      rigBody s.rig.live 8 = none → rigBody s.rig.live 12 = none → Completes .liveFragmentApply s fun t => ∀ q, q <
      128 → t.get (Port.BSN_Q_MARK q) = if q < s.rigF 7 0 7 0 then b.getD (2 + 3 * q) 0 else s.get (Port.BSN_Q_MARK
      q)) ∧
    (∀ (b : List Word) (ch : Fin 48), s.liveState = 1 → s.rig.liveFault = 0 → rigBody s.rig.live 8 = some b → fld
      (b.getD 0 0) 11 0 = 0 → rigBody s.rig.live 7 = none → rigBody s.rig.live 12 = none → Completes
      .liveFragmentApply s fun t => t.get (Port.EVF_CH_SRC ch.val) = coldOf (Port.EVF_CH_SRC ch.val) ∧ t.getF
      (Port.EVF_CH_STAT ch.val) 8 0 = 0 ∧ t.guardOpen ch.val = 0 ∧ t.chTasks ch.val = s.chTasks ch.val)

/-- A command that a master gives by writing a register acts as the register write of its port with its code: for
  every named command of this shape the two commands answer the same, from every state and for every master. -/
def Obligations.NamedCommandsAreRegisterWrites : Prop :=
  ∀ (m : Master) (s : State), (exec (.powerup m) s = exec (.registerWrite m (BitVec.ofNat 16 Port.DMC_CMD) 1) s) ∧
    (exec (.trained m) s = exec (.registerWrite m (BitVec.ofNat 16 Port.DMC_CMD) 2) s) ∧ (exec (.mrw m) s = exec
    (.registerWrite m (BitVec.ofNat 16 Port.DMC_TRN_CMD) 1) s) ∧ (exec (.mrr m) s = exec (.registerWrite m
    (BitVec.ofNat 16 Port.DMC_TRN_CMD) 2) s) ∧ (exec (.mpc m) s = exec (.registerWrite m (BitVec.ofNat 16
    Port.DMC_TRN_CMD) 3) s) ∧ (exec (.cbt m) s = exec (.registerWrite m (BitVec.ofNat 16 Port.DMC_TRN_CMD) 4) s) ∧
    (exec (.wlev m) s = exec (.registerWrite m (BitVec.ofNat 16 Port.DMC_TRN_CMD) 5) s) ∧ (exec (.rdq m) s = exec
    (.registerWrite m (BitVec.ofNat 16 Port.DMC_TRN_CMD) 6) s) ∧ (exec (.fifo m) s = exec (.registerWrite m
    (BitVec.ofNat 16 Port.DMC_TRN_CMD) 7) s) ∧ (exec (.check m) s = exec (.registerWrite m (BitVec.ofNat 16
    Port.DMC_TRN_CMD) 8) s) ∧ (∀ (v : Word), exec (.evSw m v) s = exec (.registerWrite m (BitVec.ofNat 16 Port.EVF_SW)
    v) s) ∧ (∀ (n : Fin 12), exec (.timStart m n) s = exec (.registerWrite m (BitVec.ofNat 16 (Port.TIM_CMD n.val)) 1)
    s) ∧ (∀ (n : Fin 12), exec (.timStop m n) s = exec (.registerWrite m (BitVec.ofNat 16 (Port.TIM_CMD n.val)) 2) s)
    ∧ (∀ (n : Fin 12), exec (.timClear m n) s = exec (.registerWrite m (BitVec.ofNat 16 (Port.TIM_CMD n.val)) 3) s) ∧
    (∀ (n : Fin 12) (v : Word), exec (.periodWrite m n v) s = exec (.registerWrite m (BitVec.ofNat 16 (Port.TIM_PERIOD
    n.val)) v) s) ∧ (∀ (n : Fin 12) (k : Fin 4) (v : Word), exec (.ccWrite m n k v) s = exec (.registerWrite m
    (BitVec.ofNat 16 (Port.TIM_CC_0 n.val + k.val)) v) s) ∧ (∀ (c : Core), exec (.halt m c) s = exec (.registerWrite m
    (BitVec.ofNat 16 (Port.DBG_CTL c.num)) 1) s) ∧ (∀ (c : Core), exec (.run m c) s = exec (.registerWrite m
    (BitVec.ofNat 16 (Port.DBG_CTL c.num)) 2) s) ∧ (∀ (k : Fin 3) (v : Word), exec (.gpioSet m k v) s = exec
    (.registerWrite m (BitVec.ofNat 16 (Port.GPIO_SET k.val)) v) s) ∧ (∀ (k : Fin 3) (v : Word), exec (.gpioClr m k v)
    s = exec (.registerWrite m (BitVec.ofNat 16 (Port.GPIO_CLR k.val)) v) s) ∧ (∀ (k : Fin 3) (v : Word), exec
    (.gpioTog m k v) s = exec (.registerWrite m (BitVec.ofNat 16 (Port.GPIO_TOG k.val)) v) s) ∧ (∀ (v : Word), exec
    (.domOffHold m v) s = exec (.registerWrite m (BitVec.ofNat 16 Port.PWR_DOM_OFF) v) s) ∧ (exec (.residencyClear m)
    s = exec (.registerWrite m (BitVec.ofNat 16 Port.PWR_RES_CMD) 1) s) ∧ (∀ (c : Core) (v : Word), exec (.wdgKick m c
    v) s = exec (.registerWrite m (BitVec.ofNat 16 (Port.WDG_KICK c.num)) v) s) ∧ (exec (.fmcMeasure m) s = exec
    (.registerWrite m (BitVec.ofNat 16 Port.CAL_FMC_CMD) 1) s) ∧ (exec (.openW m) s = exec (.registerWrite m
    (BitVec.ofNat 16 Port.BSN_QCMD) 1) s) ∧ (exec (.enqueue m) s = exec (.registerWrite m (BitVec.ofNat 16
    Port.BSN_QCMD) 2) s) ∧ (exec (.abort m) s = exec (.registerWrite m (BitVec.ofNat 16 Port.BSN_QCMD) 3) s) ∧ (exec
    (.dequeue m) s = exec (.registerWrite m (BitVec.ofNat 16 Port.BSN_QCMD) 4) s) ∧ (exec (.peek m) s = exec
    (.registerWrite m (BitVec.ofNat 16 Port.BSN_QCMD) 5) s) ∧ (exec (.dropRem m) s = exec (.registerWrite m
    (BitVec.ofNat 16 Port.BSN_QCMD) 6) s) ∧ (exec (.forward m) s = exec (.registerWrite m (BitVec.ofNat 16
    Port.BSN_QCMD) 7) s) ∧ (exec (.flush m) s = exec (.registerWrite m (BitVec.ofNat 16 Port.BSN_QCMD) 8) s) ∧ (∀ (v :
    Word), exec (.wdataWrite m v) s = exec (.registerWrite m (BitVec.ofNat 16 Port.BSN_WDATA) v) s) ∧ (∀ (i : Fin 8)
    (v : Word), exec (.hdrWrite m i v) s = exec (.registerWrite m (BitVec.ofNat 16 (Port.BSN_HDR i.val)) v) s) ∧ (∀ (g
    : Fin 8) (v : Word), exec (.ieWrite m g v) s = exec (.registerWrite m (BitVec.ofNat 16 (Port.BSN_IE g.val)) v) s)
    ∧ (exec (.audit m) s = exec (.registerWrite m (BitVec.ofNat 16 Port.BSN_AUDIT_CMD) 1) s) ∧ (exec (.resume m) s =
    exec (.registerWrite m (BitVec.ofNat 16 Port.DMC_CMD) 3) s) ∧ (∀ (c : RxChain), exec (.rxcFullCal m c) s = exec
    (.registerWrite m (BitVec.ofNat 16 (Port.RXC_CALCMD c.num)) 1) s) ∧ (∀ (c : RxChain), exec (.rxcBgApplyCmd m c) s
    = exec (.registerWrite m (BitVec.ofNat 16 (Port.RXC_CALCMD c.num)) 2) s) ∧ (∀ (l : Fin 64), exec (.laneStart m l)
    s = exec (.registerWrite m (BitVec.ofNat 16 (Port.LAN_CMD l.val)) 1) s) ∧ (∀ (l : Fin 64), exec (.laneStop m l) s
    = exec (.registerWrite m (BitVec.ofNat 16 (Port.LAN_CMD l.val)) 2) s) ∧ (∀ (l : Fin 64), exec (.laneClaim m l) s =
    exec (.registerWrite m (BitVec.ofNat 16 (Port.LAN_CMD l.val)) 3) s) ∧ (∀ (l : Fin 64), exec (.laneRelease m l) s =
    exec (.registerWrite m (BitVec.ofNat 16 (Port.LAN_CMD l.val)) 4) s) ∧ (∀ (l : Fin 64), exec (.laneTest m l) s =
    exec (.registerWrite m (BitVec.ofNat 16 (Port.LAN_CMD l.val)) 5) s) ∧ (∀ (e : Fin 8) (v : Word), exec
    (.watchEntryApply m e v) s = exec (.registerWrite m (BitVec.ofNat 16 (Port.RXC_WM_3 e.val)) v) s) ∧ (exec
    (.liveFragmentCheck m) s = exec (.registerWrite m (BitVec.ofNat 16 Port.RIG_LIVE_CMD) 1) s) ∧ (exec (.commit m) s
    = exec (.registerWrite m (BitVec.ofNat 16 Port.RTC_CMD) 1) s) ∧ (exec (.clearStamp m) s = exec (.registerWrite m
    (BitVec.ofNat 16 Port.RTC_CMD) 2) s) ∧ (exec (.discard m) s = exec (.registerWrite m (BitVec.ofNat 16
    Port.RTC_CMD) 3) s) ∧ (exec (.cipherJob m) s = exec (.registerWrite m (BitVec.ofNat 16 Port.CPH_JOB_CMD) 1) s) ∧
    (exec (.load m) s = exec (.registerWrite m (BitVec.ofNat 16 Port.CPH_KEY_CMD) 1) s) ∧ (exec (.clear m) s = exec
    (.registerWrite m (BitVec.ofNat 16 Port.CPH_KEY_CMD) 2) s) ∧ (exec (.derive m) s = exec (.registerWrite m
    (BitVec.ofNat 16 Port.CPH_KEY_CMD) 3) s) ∧ (exec (.exportKey m) s = exec (.registerWrite m (BitVec.ofNat 16
    Port.CPH_KEY_CMD) 4) s) ∧ (exec (.hash m) s = exec (.registerWrite m (BitVec.ofNat 16 Port.CPH_VFY_CMD) 1) s) ∧
    (exec (.crc m) s = exec (.registerWrite m (BitVec.ofNat 16 Port.CPH_VFY_CMD) 2) s) ∧ (exec (.ecdsa m) s = exec
    (.registerWrite m (BitVec.ofNat 16 Port.CPH_VFY_CMD) 3) s) ∧ (exec (.transition m) s = exec (.registerWrite m
    (BitVec.ofNat 16 Port.LCF_LC_CMD) 1) s) ∧ (exec (.fuseOkh m) s = exec (.registerWrite m (BitVec.ofNat 16
    Port.LCF_LC_CMD) 2) s) ∧ (exec (.arm m) s = exec (.registerWrite m (BitVec.ofNat 16 Port.LCF_UPD_CMD) 1) s) ∧
    (exec (.insert m) s = exec (.registerWrite m (BitVec.ofNat 16 Port.SEQ_CAL_CMD) 1) s) ∧ (exec (.remove m) s = exec
    (.registerWrite m (BitVec.ofNat 16 Port.SEQ_CAL_CMD) 2) s) ∧ (exec (.update m) s = exec (.registerWrite m
    (BitVec.ofNat 16 Port.SEQ_CAL_CMD) 3) s) ∧ (∀ (q : Fin 16), exec (.seqTest m q) s = exec (.registerWrite m
    (BitVec.ofNat 16 (Port.SEQ_CMD q.val)) 1) s) ∧ (exec (.ledgerClear m) s = exec (.registerWrite m (BitVec.ofNat 16
    Port.LTB_ACC_CMD) 1) s) ∧ (∀ (x : Fin 2), exec (.psmStart m x) s = exec (.registerWrite m (BitVec.ofNat 16
    (Port.PSM_CMD x.val)) 1) s) ∧ (∀ (x : Fin 2), exec (.psmAbort m x) s = exec (.registerWrite m (BitVec.ofNat 16
    (Port.PSM_CMD x.val)) 2) s) ∧ (∀ (x : Fin 2), exec (.psmRelease m x) s = exec (.registerWrite m (BitVec.ofNat 16
    (Port.PSM_CMD x.val)) 3) s) ∧ (∀ (x : Fin 2), exec (.psmFlush m x) s = exec (.registerWrite m (BitVec.ofNat 16
    (Port.PSM_CMD x.val)) 4) s) ∧ (∀ (x : Fin 2) (v : Word), exec (.txdPush m x v) s = exec (.registerWrite m
    (BitVec.ofNat 16 (Port.PSM_TXD_0 x.val)) v) s) ∧ (∀ (t : TxChain), exec (.txcMustRunCal m t) s = exec
    (.registerWrite m (BitVec.ofNat 16 (Port.TXC_CALCMD t.num)) 1) s) ∧ (∀ (t : TxChain), exec (.txcPendingCal m t) s
    = exec (.registerWrite m (BitVec.ofNat 16 (Port.TXC_CALCMD t.num)) 2) s) ∧ (∀ (t : TxChain), exec (.testStart m t)
    s = exec (.registerWrite m (BitVec.ofNat 16 (Port.TXC_TESTCMD t.num)) 1) s) ∧ (∀ (t : TxChain), exec (.testStop m
    t) s = exec (.registerWrite m (BitVec.ofNat 16 (Port.TXC_TESTCMD t.num)) 2) s) ∧ (exec (.lookup m) s = exec
    (.registerWrite m (BitVec.ofNat 16 Port.TRM_CTX_CMD) 1) s) ∧ (exec (.belay m) s = exec (.registerWrite m
    (BitVec.ofNat 16 Port.TRM_CTX_CMD) 2) s) ∧ (exec (.unbelay m) s = exec (.registerWrite m (BitVec.ofNat 16
    Port.TRM_CTX_CMD) 3) s) ∧ (exec (.placeRequest m) s = exec (.registerWrite m (BitVec.ofNat 16 Port.TRM_PLACE_CMD)
    1) s) ∧ (∀ (p : Fin 2), exec (.retrain m p) s = exec (.registerWrite m (BitVec.ofNat 16 (Port.UTV_P_CMD p.val)) 1)
    s) ∧ (∀ (v : Word), exec (.wakeBurstSend m v) s = exec (.registerWrite m (BitVec.ofNat 16 Port.UTV_WAKE_CMD) v) s)
    ∧ (exec (.handback m) s = exec (.registerWrite m (BitVec.ofNat 16 Port.UTV_MAST_CMD) 1) s) ∧ (exec (.handover m) s
    = exec (.registerWrite m (BitVec.ofNat 16 Port.UTV_SH_CMD) 1) s) ∧ (exec (.enterReef1 m) s = exec (.registerWrite
    m (BitVec.ofNat 16 Port.PWR_CMD) 1) s) ∧ (exec (.enterReef2 m) s = exec (.registerWrite m (BitVec.ofNat 16
    Port.PWR_CMD) 2) s) ∧ (exec (.enterReef3 m) s = exec (.registerWrite m (BitVec.ofNat 16 Port.PWR_CMD) 3) s) ∧
    (exec (.enterFurl m) s = exec (.registerWrite m (BitVec.ofNat 16 Port.PWR_CMD) 4) s) ∧ (exec (.pwrCancel m) s =
    exec (.registerWrite m (BitVec.ofNat 16 Port.PWR_CMD) 5) s) ∧ (exec (.checkin m) s = exec (.registerWrite m
    (BitVec.ofNat 16 Port.LCF_CHECKIN) 1) s) ∧ (∀ (v : Word), exec (.hirqSet m v) s = exec (.registerWrite m
    (BitVec.ofNat 16 Port.HPT_HIRQ_SET) v) s)

/-- Where a core takes the I/O fault and where a debugger's access stalls is said by log entry 130. (1) A write to a
  port of a domain that is off is discarded: no register changes but those the fault of a core writes; by the host or
  the debugger nothing changes. (2) A core takes the I/O fault there. (3) Before READY a write outside the identity
  set changes nothing, by a core or the host. (4) The debugger's access stalls then; further ones are not taken. (5)
  READY completes a write that stalled. (6) A port that no table lists takes no write. (7) A rw field (HPT_HIRQ_EN)
  takes the value written; nothing else changes. (8) A w1c field (HPT_HIRQ_PEND) loses the bits written 1; nothing
  else changes. (9) A read returns what the register shows and clears its rc bits; no other register changes. (10) A
  read that finds no answer returns 0 to the host; no register changes. (11) A core's read of a domain that is off
  returns 0 and takes the I/O fault. (12) A read of LTB_TIME_0 answers link time's low word and holds the two higher
  words for that master, which its later reads return; no other master's latch moves. -/
def Obligations.RegistersAnswerByTheirAccess : Prop :=
  ∀ s : State,
    (∀ (m : Master) (port : BitVec 16) (v : Word), s.ready = true → s.ioGate port.toNat = .offDomain → m.core = none →
      Completes (.registerWrite m port v) s fun t => t = s) ∧
    (∀ (m : Master) (c : Core) (port : BitVec 16) (v : Word), s.ready = true → s.ioGate port.toNat = .offDomain →
      m.core = some c → Completes (.registerWrite m port v) s fun t => t = s.ioFault c true port.toNat) ∧
    (∀ (m : Master) (port : BitVec 16) (v : Word), s.ioGate port.toNat = .notReady → m ≠ .dbg → Completes
      (.registerWrite m port v) s fun t => t = s) ∧
    (∀ (port : BitVec 16) (v : Word), s.ready = false → Completes (.registerWrite .dbg port v) s fun t =>
      t.latch.stall = (if s.latch.stall.isSome then s.latch.stall else some (port, some v)) ∧ t =
      { s with latch := { s.latch with stall := t.latch.stall } }) ∧
    (∀ (port : BitVec 16) (v : Word), s.rigReadyNow.ready = true → s.rigReadyNow.latch.stall = some (port, some v) →
      Completes .rigReady s fun t => t =
      { s.rigReadyNow with latch := { s.rigReadyNow.latch with stall := none } }.masterWrite .dbg port.toNat v) ∧
    (∀ (m : Master) (port : BitVec 16) (v : Word), s.answers m port.toNat = true → regRow port.toNat = none →
      Completes (.registerWrite m port v) s fun t => t = s) ∧
    (∀ (m : Master) (port : BitVec 16) (v : Word), s.answers m Port.HPT_HIRQ_EN = true → port = 0x0D06 → Completes
      (.registerWrite m port v) s fun t => t = s.set Port.HPT_HIRQ_EN v) ∧
    (∀ (m : Master) (port : BitVec 16) (v : Word), s.answers m Port.HPT_HIRQ_PEND = true → port = 0x0D05 → Completes
      (.registerWrite m port v) s fun t => t = s.set Port.HPT_HIRQ_PEND (s.get Port.HPT_HIRQ_PEND &&& ~~~v)) ∧
    (∀ (m : Master) (port : BitVec 16) (r : RegRow), s.answers m port.toNat = true → regRow port.toNat = some r → r.rc
      ≠ 0 → Completes (.readClear m port) s fun t => Cells.rd (fun _ => 0) t.latch.data m.num = s.readValue m
      port.toNat ∧ t.get port.toNat = s.get port.toNat &&& ~~~r.rc ∧ (∀ q, q ≠ port.toNat → t.get q = s.get q) ∧ t =
      { s with regs := t.regs, latch := t.latch }) ∧
    (∀ (port : BitVec 16), s.ioGate port.toNat ≠ .ok → Completes (.readClear .host port) s fun t => Cells.rd (fun _ =>
      0) t.latch.data Master.host.num = 0 ∧ t = { s with latch := { s.latch with data := t.latch.data } }) ∧
    (∀ (m : Master) (c : Core) (port : BitVec 16), s.ready = true → s.ioGate port.toNat = .offDomain → m.core = some c
      → Completes (.readClear m port) s fun t => Cells.rd (fun _ => 0) t.latch.data m.num = 0 ∧ t =
      { s.ioFault c false port.toNat with latch := t.latch }) ∧
    (∀ (m : Master) (port : BitVec 16), s.answers m (Port.LTB_TIME 0) = true → port = 0x3800 → Completes
      (.multiwordRead m port) s fun t => Cells.rd (fun _ => 0) t.latch.data m.num = s.time.link.extractLsb' 0 18 ∧
      t.readValue m (Port.LTB_TIME 1) = s.time.link.extractLsb' 18 18 ∧ t.readValue m (Port.LTB_TIME 2) =
      s.time.link.extractLsb' 36 18 ∧ (∀ n : Master, n ≠ m → t.readValue n (Port.LTB_TIME 1) = s.readValue n
      (Port.LTB_TIME 1) ∧ t.readValue n (Port.LTB_TIME 2) = s.readValue n (Port.LTB_TIME 2)) ∧ t =
      { s with latch := t.latch })

/-- For every state whose queue has a command in front, step answers what that command's exec answers on the state
  with the rest of the queue. (The queue is the model's: commands wait first in, first out.) -/
def Obligations.AStepRunsTheCommandAtTheFront : Prop :=
  ∀ (s : State) (c : Instr) (r : List Instr), s.pending = c :: r → step s = exec c { s with pending := r }

/-- The model's choice (log entry 2): on an empty queue a step answers a next state with the queue still empty and the
  fuses and flash as they were; while REFCLK is stopped link time holds; while it runs with no correction of phase or
  frequency under way, link time is one tick later (R104). -/
def Obligations.AnEmptyQueueLetsOneTickPass : Prop :=
  ∀ s : State, s.pending = [] → ∃ t, step s = .next t ∧ t.pending = [] ∧ t.fuses = s.fuses ∧ t.mem.flash = s.mem.flash
    ∧ (s.time.stopped = true → t.time.link = s.time.link) ∧ (s.time.stopped = false → s.utv.slew = 0 → s.utv.trim = 0
    → s.utv.trimAcc < 1000000000 → -1000000000 < s.utv.trimAcc → t.time.link = s.time.link + 1)

/-- A write to RST_CMD whose KEY is not 0o551 changes nothing, RST_CAUSE among it; with the key, classes 1 to 5 act as
  the cold, system, application-group, link-group and domain reset with cause command, whichever master writes. -/
def Obligations.ResetCommandsNeedTheirKey : Prop :=
  ∀ (m : Master) (v : Word) (s : State), s.answers m Port.RST_CMD = true → (fld v 17 9 ≠ 0o551 → Completes
    (.registerWrite m (BitVec.ofNat 16 Port.RST_CMD) v) s fun t => t = s) ∧ (fld v 17 9 = 0o551 → (fld v 8 6 = 1 →
    exec (.registerWrite m (BitVec.ofNat 16 Port.RST_CMD) v) s = exec (.coldReset .command s.pins.bootSel
    s.pins.stackId) s) ∧ (fld v 8 6 = 2 → exec (.registerWrite m (BitVec.ofNat 16 Port.RST_CMD) v) s = exec
    (.systemReset .command s.pins.bootSel s.pins.stackId) s) ∧ (fld v 8 6 = 3 → exec (.registerWrite m (BitVec.ofNat
    16 Port.RST_CMD) v) s = exec (.applicationGroupReset .command) s) ∧ (fld v 8 6 = 4 → exec (.registerWrite m
    (BitVec.ofNat 16 Port.RST_CMD) v) s = exec (.linkGroupReset .command) s) ∧ (∀ d : Fin 16, fld v 8 6 = 5 → fld v 3
    0 = d.val → exec (.registerWrite m (BitVec.ofNat 16 Port.RST_CMD) v) s = exec (.domainReset d .command) s))

/-- (1) After a cold reset RIG_STRAP holds the BOOT_SEL balls as they are at its release. (2) So it does after a
  system reset. (3) A system reset that loss of REFCLK started is released when REFCLK returns, and samples them then.
  -/
def Obligations.StrapsAreSampledAtEveryRelease : Prop :=
  ∀ s : State,
    (∀ (cause : ColdCause) (b : BitVec 2) (i : BitVec 3), Completes (.coldReset cause b i) s fun t => t.get
      Port.RIG_STRAP = b.setWidth 18 ∧ t.pins.bootSel = b) ∧
    (∀ (cause : SysCause) (b : BitVec 2) (i : BitVec 3), Completes (.systemReset cause b i) s fun t => t.get
      Port.RIG_STRAP = b.setWidth 18 ∧ t.pins.bootSel = b) ∧
    (∀ (b : BitVec 2) (i : BitVec 3), s.level ≠ 4 → s.getB Port.CLK_STAT 17 = false → Completes (.refclkReturn b i) s
      fun t => s.touches [.regs, .time, .pins] [Blk.sys] t ∧ t.get Port.RIG_STRAP = b.setWidth 18 ∧ t.pins.bootSel = b
      ∧ t.time.stopped = false)

/-- With every enabled alarm field equal to the calendar's field, and some field enabled, when the calendar takes a
  value at a roll-over or a commit: (1) At a roll-over ALARMF is set and RTC_ALARM is pending in every core that is
  not in reset. (2) At a roll-over with an enabled field that differs, or with no field enabled, ALARMF does not
  change. (3) At a commit ALARMF is set and RTC_ALARM is pending in every core that is not in reset. (4) At a commit
  with an enabled field that differs, or with no field enabled, ALARMF does not change. -/
def Obligations.AnAlarmThatMatchesIsRaised : Prop :=
  ∀ s : State,
    (s.time.rtcRunning = true → s.time.rtcCommit = none → s.get Port.RTC_SUB = 32767 → Completes .rtcSecond s fun t =>
      (((List.range 6).any (fun i => t.getB (Port.RTC_ALM_SEC + i) 17) = true ∧ ∀ i, i < 6 → t.getB (Port.RTC_ALM_SEC
      + i) 17 = true → t.get (Port.RTC_ALM_SEC + i) &&& fieldBits i = t.get (Port.RTC_SEC + i)) → t.getB Port.RTC_STAT
      16 = true ∧ s.raises Irq.RTC_ALARM t)) ∧
    (s.time.rtcRunning = true → s.time.rtcCommit = none → s.get Port.RTC_SUB = 32767 → Completes .rtcSecond s fun t =>
      (∀ i, i < 6 → t.getB (Port.RTC_ALM_SEC + i) 17 = true → t.get (Port.RTC_ALM_SEC + i) &&& fieldBits i ≠ t.get
      (Port.RTC_SEC + i) → t.getB Port.RTC_STAT 16 = s.getB Port.RTC_STAT 16) ∧ ((List.range 6).any (fun i => s.getB
      (Port.RTC_ALM_SEC + i) 17) = false → t.getB Port.RTC_STAT 16 = s.getB Port.RTC_STAT 16)) ∧
    (s.time.rtcCommit.isSome = true → Completes .commitApply s fun t => (((List.range 6).any (fun i => t.getB
      (Port.RTC_ALM_SEC + i) 17) = true ∧ ∀ i, i < 6 → t.getB (Port.RTC_ALM_SEC + i) 17 = true → t.get
      (Port.RTC_ALM_SEC + i) &&& fieldBits i = t.get (Port.RTC_SEC + i)) → t.getB Port.RTC_STAT 16 = true ∧ s.raises
      Irq.RTC_ALARM t)) ∧
    (s.time.rtcCommit.isSome = true → Completes .commitApply s fun t => (∀ i, i < 6 → t.getB (Port.RTC_ALM_SEC + i) 17
      = true → t.get (Port.RTC_ALM_SEC + i) &&& fieldBits i ≠ t.get (Port.RTC_SEC + i) → t.getB Port.RTC_STAT 16 =
      s.getB Port.RTC_STAT 16) ∧ ((List.range 6).any (fun i => s.getB (Port.RTC_ALM_SEC + i) 17) = false → t.getB
      Port.RTC_STAT 16 = s.getB Port.RTC_STAT 16))

/-- (1) A switch from main power to VBAK with SWVALID 0 copies the calendar into RTC_SW_SEC to RTC_SW_YEAR and sets
  SWVALID. (2) With SWVALID 1 it leaves the stamp and SWVALID. (3) CLEAR_STAMP clears SWVALID and leaves the stamp's
  words. -/
def Obligations.TheSwitchOverStampIsTakenOnce : Prop :=
  ∀ s : State,
    (∀ (late : Bool), s.time.onBackup = false → s.getB Port.RTC_STAT 15 = false → Completes (.backupSwitchover late) s
      fun t => s.touches [.regs, .time] [Blk.rtc] t ∧ (∀ i, i < 6 → t.get (Port.RTC_SW_SEC + i) = s.get (Port.RTC_SEC
      + i)) ∧ t.getB Port.RTC_STAT 15 = true ∧ t.time.onBackup = true) ∧
    (∀ (late : Bool), s.time.onBackup = false → s.getB Port.RTC_STAT 15 = true → Completes (.backupSwitchover late) s
      fun t => s.touches [.regs, .time] [Blk.rtc] t ∧ (∀ i, i < 6 → t.get (Port.RTC_SW_SEC + i) = s.get
      (Port.RTC_SW_SEC + i)) ∧ t.getB Port.RTC_STAT 15 = true ∧ t.time.onBackup = true) ∧
    (∀ (m : Master), s.answers m Port.RTC_CMD = true → Completes (.clearStamp m) s fun t => t = s.setB Port.RTC_STAT
      15 false)

/-- For every state whose programmed DONE and ANCHOR fuses have their INTENT programmed, and whose transition under
  way has its own, every step that answers a next state leads to such a state again, and leaves every programmed
  life-cycle fuse programmed, the fused hash and the identity fuses and the device unique key as they read. The rule
  is kept by every command and by the empty queue's tick. -/
def Obligations.NoStepUndoesAFuse : Prop :=
  ∀ s t : State, s.fuseOrder → step s = .next t → t.fuseOrder ∧ s.fuses.keeps t.fuses

/-- The order of the fuses that NoStepUndoesAFuse keeps holds in the state after reset. (That the part is blank there
  is the model's choice, log entry 5.) -/
def Obligations.TheFuseOrderHoldsAtReset : Prop :=
  State.reset.fuseOrder
end

