-- ==== Sys2Proof/Laws/Cells.lean ====
section
/-! SUPPORT. Laws of the sparse map: a read after a write, and the canonical form that every write keeps. -/

namespace Sys2Proof

variable {α : Type}

theorem Cells.rd_put (d : Nat → α) (m : Cells α) (k j : Nat) (v : α) :
    Cells.rd d (Cells.put m k v) j = if k = j then v else Cells.rd d m j := by
  induction m with
  | nil => simp [Cells.put, Cells.rd]
  | cons x r ih =>
    obtain ⟨i, w⟩ := x
    simp only [Cells.put]
    split
    · subst i; simp only [Cells.rd]; split <;> simp_all
    · split
      · simp only [Cells.rd]
      · simp only [Cells.rd, ih]
        split <;> split <;> simp_all

theorem Cells.rd_del (d : Nat → α) (m : Cells α) (k j : Nat) :
    Cells.rd d (Cells.del m k) j = if k = j then d j else Cells.rd d m j := by
  induction m with
  | nil => simp [Cells.del, Cells.rd]
  | cons x r ih =>
    obtain ⟨i, w⟩ := x
    simp only [Cells.del]
    split
    · subst i; rw [ih]; simp only [Cells.rd]; split <;> simp_all
    · simp only [Cells.rd, ih]
      split <;> split <;> simp_all

/-- A read after a write: the value written at its key, the old value at every other. -/
theorem Cells.rd_wr [DecidableEq α] (d : Nat → α) (m : Cells α) (k j : Nat) (v : α) :
    Cells.rd d (Cells.wr d m k v) j = if k = j then v else Cells.rd d m j := by
  unfold Cells.wr
  split
  · rename_i h; rw [Cells.rd_del]; split
    · rename_i e; subst e; exact h.symm
    · rfl
  · exact Cells.rd_put d m k j v

@[simp] theorem Cells.rd_wr_same [DecidableEq α] (d : Nat → α) (m : Cells α) (k : Nat) (v : α) :
    Cells.rd d (Cells.wr d m k v) k = v := by rw [Cells.rd_wr, if_pos rfl]

theorem Cells.rd_wr_other [DecidableEq α] (d : Nat → α) (m : Cells α) {k j : Nat} (v : α) (h : k ≠ j) :
    Cells.rd d (Cells.wr d m k v) j = Cells.rd d m j := by rw [Cells.rd_wr, if_neg h]

@[simp] theorem Cells.rd_nil (d : Nat → α) (k : Nat) : Cells.rd d [] k = d k := rfl

/-- A kept key reads as before, every other as its default. -/
theorem Cells.rd_keep (d : Nat → α) (p : Nat → Bool) (m : Cells α) (k : Nat) :
    Cells.rd d (Cells.keep p m) k = if p k then Cells.rd d m k else d k := by
  induction m with
  | nil => simp [Cells.keep, Cells.rd]
  | cons x r ih =>
    obtain ⟨i, w⟩ := x
    simp only [Cells.keep]
    split
    · simp only [Cells.rd, ih]; split <;> simp_all
    · rw [ih]; simp only [Cells.rd]
      split
      · split
        · simp_all
        · rfl
      · rfl

/-- A run of writes: the keys of the run read the values written, in order, every other key as before. -/
theorem Cells.rd_wrs [DecidableEq α] (d : Nat → α) (l : List α) : ∀ (m : Cells α) (k j : Nat),
    Cells.rd d (Cells.wrs d m k l) j =
      if k ≤ j ∧ j < k + l.length then l.getD (j - k) (d j) else Cells.rd d m j := by
  induction l with
  | nil => intro m k j; simp only [Cells.wrs, List.length_nil]; rw [if_neg]; omega
  | cons v vs ih =>
    intro m k j
    simp only [Cells.wrs, ih, List.length_cons]
    by_cases h : k = j
    · subst h
      rw [if_neg (by omega), if_pos (by omega), Cells.rd_wr_same]; simp
    · by_cases h2 : k + 1 ≤ j ∧ j < k + 1 + vs.length
      · rw [if_pos h2, if_pos (by omega)]
        obtain ⟨n, hn⟩ : ∃ n, j - k = n + 1 := ⟨j - k - 1, by omega⟩
        have h3 : j - (k + 1) = n := by omega
        rw [hn, h3, List.getD_cons_succ]
      · rw [if_neg h2, if_neg (by omega), Cells.rd_wr_other _ _ _ h]

/-! ## The canonical form -/

theorem Cells.wfFrom_mono [DecidableEq α] (d : Nat → α) (m : Cells α) {a b : Nat} (h : a ≤ b)
    (w : Cells.wfFrom d b m = true) : Cells.wfFrom d a m = true := by
  cases m with
  | nil => rfl
  | cons x r =>
    obtain ⟨j, v⟩ := x
    simp only [Cells.wfFrom, Bool.and_eq_true, decide_eq_true_eq] at w ⊢
    exact ⟨⟨by omega, w.1.2⟩, w.2⟩

theorem Cells.wfFrom_put [DecidableEq α] (d : Nat → α) (m : Cells α) (k : Nat) (v : α) (hv : v ≠ d k) :
    ∀ b, b ≤ k → Cells.wfFrom d b m = true → Cells.wfFrom d b (Cells.put m k v) = true := by
  induction m with
  | nil => intro b hb _; simp [Cells.put, Cells.wfFrom, hb, hv]
  | cons x r ih =>
    obtain ⟨j, w⟩ := x
    intro b hb h
    simp only [Cells.wfFrom, Bool.and_eq_true, decide_eq_true_eq] at h
    simp only [Cells.put]
    split
    · rename_i e; subst e
      simp [Cells.wfFrom, hv, h.1.1, h.2]
    · split
      · rename_i hlt
        have h2 := Cells.wfFrom_mono d ((j, w) :: r) (a := k + 1) (b := j) (by omega)
          (by simp [Cells.wfFrom, h.1.2, h.2])
        simp [Cells.wfFrom, hb, hv]; simpa [Cells.wfFrom] using h2
      · rename_i hne hlt
        simp only [Cells.wfFrom, Bool.and_eq_true, decide_eq_true_eq]
        exact ⟨h.1, ih (j + 1) (by omega) h.2⟩

theorem Cells.wfFrom_del [DecidableEq α] (d : Nat → α) (m : Cells α) (k : Nat) :
    ∀ b, Cells.wfFrom d b m = true → Cells.wfFrom d b (Cells.del m k) = true := by
  induction m with
  | nil => intro b h; exact h
  | cons x r ih =>
    obtain ⟨j, w⟩ := x
    intro b h
    simp only [Cells.wfFrom, Bool.and_eq_true, decide_eq_true_eq] at h
    simp only [Cells.del]
    split
    · exact ih b (Cells.wfFrom_mono d r (by omega) h.2)
    · simp only [Cells.wfFrom, Bool.and_eq_true, decide_eq_true_eq]
      exact ⟨h.1, ih (j + 1) h.2⟩

/-- A write keeps the canonical form. -/
theorem Cells.wf_del [DecidableEq α] (d : Nat → α) (m : Cells α) (k : Nat) (h : Cells.wf d m = true) :
    Cells.wf d (Cells.del m k) = true := Cells.wfFrom_del d m k 0 h

theorem Cells.wf_wr [DecidableEq α] (d : Nat → α) (m : Cells α) (k : Nat) (v : α) (h : Cells.wf d m = true) :
    Cells.wf d (Cells.wr d m k v) = true := by
  unfold Cells.wr Cells.wf at *
  split
  · exact Cells.wfFrom_del d m k 0 h
  · rename_i hv; exact Cells.wfFrom_put d m k v hv 0 (Nat.zero_le _) h

/-- A run of writes keeps the canonical form. -/
theorem Cells.wf_wrs [DecidableEq α] (d : Nat → α) (l : List α) : ∀ (m : Cells α) (k : Nat),
    Cells.wf d m = true → Cells.wf d (Cells.wrs d m k l) = true := by
  induction l with
  | nil => intro m k h; exact h
  | cons v vs ih => intro m k h; exact ih _ _ (Cells.wf_wr d m k v h)

theorem Cells.wfFrom_keep [DecidableEq α] (d : Nat → α) (p : Nat → Bool) (m : Cells α) :
    ∀ b, Cells.wfFrom d b m = true → Cells.wfFrom d b (Cells.keep p m) = true := by
  induction m with
  | nil => intro b h; exact h
  | cons x r ih =>
    obtain ⟨j, w⟩ := x
    intro b h
    simp only [Cells.wfFrom, Bool.and_eq_true, decide_eq_true_eq] at h
    simp only [Cells.keep]
    split
    · simp only [Cells.wfFrom, Bool.and_eq_true, decide_eq_true_eq]; exact ⟨h.1, ih (j + 1) h.2⟩
    · exact ih b (Cells.wfFrom_mono d r (by omega) h.2)

/-- Dropping keys keeps the canonical form. -/
theorem Cells.wf_keep [DecidableEq α] (d : Nat → α) (p : Nat → Bool) (m : Cells α) (h : Cells.wf d m = true) :
    Cells.wf d (Cells.keep p m) = true := Cells.wfFrom_keep d p m 0 h

end Sys2Proof
end

