-- ==== Sys2Proof/Laws/Fields.lean ====
section
/-! SUPPORT. Laws of the fields of a word (R1): a field reads what was stored in it, and storing one leaves every field
apart from it alone. -/

namespace Sys2Proof.Machine

open Sys2Proof

theorem testBit_fld (w : Word) (hi lo j : Nat) :
    (fld w hi lo).testBit j = (decide (j < hi + 1 - lo) && w.getLsbD (lo + j)) := by
  unfold fld
  rw [Nat.testBit_mod_two_pow, Nat.testBit_shiftRight]
  simp [BitVec.getLsbD]

theorem getLsbD_fieldMask (hi lo i : Nat) :
    (fieldMask hi lo).getLsbD i = (decide (i < 18) && (decide (lo ≤ i) && decide (i < hi + 1))) := by
  unfold fieldMask
  rw [BitVec.getLsbD_ofNat, Nat.testBit_shiftLeft, Nat.testBit_two_pow_sub_one]
  by_cases h : lo ≤ i
  · have e : (i - lo < hi + 1 - lo) ↔ i < hi + 1 := by omega
    simp [h, e]
  · simp [h]

/-- Each bit of a word after a field is stored. -/
theorem getLsbD_withFld (w : Word) (hi lo v i : Nat) (h : hi < 18) :
    (withFld w hi lo v).getLsbD i =
      if lo ≤ i ∧ i ≤ hi then v.testBit (i - lo) else w.getLsbD i := by
  unfold withFld
  rw [BitVec.getLsbD_or, BitVec.getLsbD_and, BitVec.getLsbD_and, BitVec.getLsbD_not, getLsbD_fieldMask,
    BitVec.getLsbD_ofNat, Nat.testBit_shiftLeft]
  by_cases a : lo ≤ i
  · by_cases b : i ≤ hi
    · have c : i < 18 := by omega
      have e : i < hi + 1 := by omega
      simp [a, b, c, e]
    · have e : ¬ i < hi + 1 := by omega
      by_cases c : i < 18
      · simp [a, b, c, e]
      · simp [a, b, e, c]
        exact (BitVec.getLsbD_of_ge w i (by omega))
  · by_cases c : i < 18
    · simp [a, c]
    · simp [a, c]
      exact (BitVec.getLsbD_of_ge w i (by omega))

/-- A field reads what was stored in it. -/
theorem fld_withFld_same (w : Word) (hi lo v : Nat) (h : hi < 18) :
    fld (withFld w hi lo v) hi lo = v % 2 ^ (hi + 1 - lo) := by
  apply Nat.eq_of_testBit_eq
  intro j
  rw [testBit_fld, getLsbD_withFld _ _ _ _ _ h, Nat.testBit_mod_two_pow]
  by_cases c : j < hi + 1 - lo
  · have e : lo ≤ lo + j ∧ lo + j ≤ hi := by omega
    simp [c, e]
  · simp [c]

/-- Storing a field leaves every field apart from it alone. -/
theorem fld_withFld_apart (w : Word) (hi lo v a b : Nat) (h : hi < 18) (d : a < lo ∨ hi < b) :
    fld (withFld w hi lo v) a b = fld w a b := by
  apply Nat.eq_of_testBit_eq
  intro j
  rw [testBit_fld, testBit_fld, getLsbD_withFld _ _ _ _ _ h]
  by_cases c : j < a + 1 - b
  · have e : ¬ (lo ≤ b + j ∧ b + j ≤ hi) := by omega
    simp [c, e]
  · simp [c]

theorem bitOf_withBit_same (w : Word) (b : Nat) (v : Bool) (h : b < 18) : bitOf (withBit w b v) b = v := by
  unfold bitOf withBit
  rw [getLsbD_withFld _ _ _ _ _ h]
  cases v <;> simp

theorem bitOf_withBit_other (w : Word) (a b : Nat) (v : Bool) (h : a < 18) (d : a ≠ b) :
    bitOf (withBit w a v) b = bitOf w b := by
  unfold bitOf withBit
  rw [getLsbD_withFld _ _ _ _ _ h, if_neg (by omega)]

theorem bitOf_withFld_apart (w : Word) (hi lo v b : Nat) (h : hi < 18) (d : b < lo ∨ hi < b) :
    bitOf (withFld w hi lo v) b = bitOf w b := by
  unfold bitOf
  rw [getLsbD_withFld _ _ _ _ _ h, if_neg (by omega)]

theorem fld_withBit_apart (w : Word) (c a b : Nat) (v : Bool) (h : c < 18) (d : a < c ∨ c < b) :
    fld (withBit w c v) a b = fld w a b := fld_withFld_apart w c c _ a b h d

/-! ## Registers -/

/-- A register reads what was stored in it; every other register reads as before. -/
theorem State.get_set (s : State) (p q : Nat) (v : Word) : (s.set p v).get q = if p = q then v else s.get q :=
  Cells.rd_wr coldOf s.regs p q v

@[simp] theorem State.get_set_same (s : State) (p : Nat) (v : Word) : (s.set p v).get p = v := by
  rw [State.get_set, if_pos rfl]

theorem State.get_set_other (s : State) {p q : Nat} (v : Word) (h : p ≠ q) : (s.set p v).get q = s.get q := by
  rw [State.get_set, if_neg h]

theorem State.get_setF_other (s : State) {p q : Nat} (hi lo v : Nat) (h : p ≠ q) :
    (s.setF p hi lo v).get q = s.get q := s.get_set_other _ h

theorem State.get_setB_other (s : State) {p q : Nat} (b : Nat) (v : Bool) (h : p ≠ q) :
    (s.setB p b v).get q = s.get q := s.get_set_other _ h

theorem State.get_count_other (s : State) {p q : Nat} (h : p ≠ q) : (s.count p).get q = s.get q :=
  s.get_set_other _ h

theorem State.getF_setF_same (s : State) (p hi lo v : Nat) (h : hi < 18) :
    (s.setF p hi lo v).getF p hi lo = v % 2 ^ (hi + 1 - lo) := by
  unfold State.getF State.setF; rw [State.get_set_same]; exact fld_withFld_same _ _ _ _ h

theorem State.getF_setF_apart (s : State) (p q hi lo v a b : Nat) (h : hi < 18) (d : a < lo ∨ hi < b) :
    (s.setF p hi lo v).getF q a b = s.getF q a b := by
  unfold State.getF State.setF; rw [State.get_set]; split
  · rename_i e; subst e; exact fld_withFld_apart _ _ _ _ _ _ h d
  · rfl

theorem State.getB_setB_same (s : State) (p b : Nat) (v : Bool) (h : b < 18) : (s.setB p b v).getB p b = v := by
  unfold State.getB State.setB; rw [State.get_set_same]; exact bitOf_withBit_same _ _ _ h

theorem State.getB_setB_other (s : State) (p q a b : Nat) (v : Bool) (h : a < 18) (d : a ≠ b) :
    (s.setB p a v).getB q b = s.getB q b := by
  unfold State.getB State.setB; rw [State.get_set]; split
  · rename_i e; subst e; exact bitOf_withBit_other _ _ _ _ h d
  · rfl

theorem State.get_count_same (s : State) (p : Nat) : (s.count p).get p = satInc (s.get p) := s.get_set_same _ _

/-- Consecutive registers read the words stored in them; every other register reads as before. -/
theorem State.get_setWide (s : State) (p n v q : Nat) :
    (s.setWide p n v).get q =
      if p ≤ q ∧ q < p + (splitWords n v).length then (splitWords n v).getD (q - p) (coldOf q) else s.get q :=
  Cells.rd_wrs coldOf (splitWords n v) s.regs p q

/-- Registers that meet the test return to their Cold values, every other stands. -/
theorem State.get_coldRegs (s : State) (p : Nat → Bool) (q : Nat) :
    (s.coldRegs p).get q = if p q then coldOf q else s.get q := by
  unfold State.coldRegs State.get; rw [Cells.rd_keep]
  cases p q <;> simp

@[simp] theorem length_splitWords (n : Nat) : ∀ v, (splitWords n v).length = n := by
  induction n with
  | zero => intro v; rfl
  | succ n ih => intro v; simp [splitWords, ih]

end Sys2Proof.Machine
end

