-- ==== Sys2Proof/Laws/Memory.lean ====
section
/-! SUPPORT. Laws of the memories: a read after a write gives the word written, a write leaves every other word, and every
operation that writes a memory keeps its canonical form. -/

namespace Sys2Proof.Machine

open Sys2Proof

/-! ## The canonical form, taken apart -/

theorem Memory.wf_iff (m : Mem) : Memory.wf m = true ↔
    Cells.wf (fun _ => 0) m.sram = true ∧ Cells.wf (fun _ => 0) m.sramErr = true ∧
    Cells.wf (fun _ => 0o777777) m.flash = true ∧ Cells.wf (fun _ => 0) m.flashErr = true ∧
    Cells.wf (fun _ => 0) m.dram = true ∧ Cells.wf (fun _ => 0) m.dramTag = true ∧ Cells.wf (fun _ => 0) m.dramErr = true := by
  simp only [Memory.wf, Bool.and_eq_true, and_assoc]

theorem Memory.wf_reset : Memory.wf State.reset.mem = true := by decide

/-! ## SRAM (R296-R301) -/

theorem State.sramRd_sramWr (s : State) (k j : Nat) (v : Word) :
    (s.sramWr k v).sramRd j = if k = j then v else s.sramRd j := Cells.rd_wr _ _ _ _ _

theorem State.sramBad_sramWr_self (s : State) (k : Nat) (v : Word) : (s.sramWr k v).sramBad k = 0 := by
  simp only [State.sramBad, State.sramWr, Cells.rd_del, if_true]

theorem State.sramWr_wf {s : State} (k : Nat) (v : Word) (h : Memory.wf s.mem = true) :
    Memory.wf (s.sramWr k v).mem = true := by
  rw [Memory.wf_iff] at h ⊢
  exact ⟨Cells.wf_wr _ _ _ _ h.1, Cells.wf_del _ _ _ h.2.1, h.2.2⟩

theorem State.sramMark_wf {s : State} (k e : Nat) (h : Memory.wf s.mem = true) :
    Memory.wf (s.sramMark k e).mem = true := by
  rw [Memory.wf_iff] at h ⊢
  exact ⟨h.1, Cells.wf_wr _ _ _ _ h.2.1, h.2.2⟩

theorem State.sramWrM_wf {s : State} (k : Nat) (v : Word) (h : Memory.wf s.mem = true) :
    Memory.wf (s.sramWrM k v).mem = true := by
  have e : Memory.wf (s.setB Port.MEM_INJ 17 false).mem = true := h
  unfold State.sramWrM
  split
  · split
    · exact State.sramMark_wf _ _ (State.sramWr_wf _ _ e)
    · split
      · exact State.sramMark_wf _ _ (State.sramWr_wf _ _ e)
      · exact State.sramWr_wf _ _ e
  · exact State.sramWr_wf _ _ h

theorem State.sramWrs_wf (l : List Word) : ∀ (s : State) (k : Nat), Memory.wf s.mem = true →
    Memory.wf (s.sramWrs k l).mem = true := by
  induction l with
  | nil => intro s k h; exact h
  | cons v r ih => intro s k h; exact ih _ _ (State.sramWr_wf _ _ h)

theorem State.mbxWrs_wf (l : List Word) : ∀ (s : State) (o : Nat), Memory.wf s.mem = true →
    Memory.wf (s.mbxWrs o l).mem = true := by
  induction l with
  | nil => intro s o h; exact h
  | cons v r ih =>
    intro s o h
    refine ih _ _ ?_
    split
    · exact State.sramWr_wf _ _ h
    · exact h

theorem State.zeroBanks_wf {s : State} (p : Nat → Bool) (h : Memory.wf s.mem = true) :
    Memory.wf (s.zeroBanks p).mem = true := by
  rw [Memory.wf_iff] at h ⊢
  exact ⟨Cells.wf_keep _ _ _ h.1, Cells.wf_keep _ _ _ h.2.1, h.2.2⟩

theorem State.zeroDomain_wf {s : State} (d : Nat) (h : Memory.wf s.mem = true) :
    Memory.wf (s.zeroDomain d).mem = true := State.zeroBanks_wf _ h

/-! ## Flash (R308-R320) -/

theorem State.flashWord_flashSet (s : State) (b o c p : Nat) (v : Word) :
    (s.flashSet b o v).flashWord c p = if flashKey b o = flashKey c p then v else s.flashWord c p := Cells.rd_wr _ _ _ _ _

theorem State.flashSet_wf {s : State} (b o : Nat) (v : Word) (h : Memory.wf s.mem = true) :
    Memory.wf (s.flashSet b o v).mem = true := by
  rw [Memory.wf_iff] at h ⊢
  exact ⟨h.1, h.2.1, Cells.wf_wr _ _ _ _ h.2.2.1, Cells.wf_wr _ _ _ _ h.2.2.2.1, h.2.2.2.2⟩

theorem State.flashMark_wf {s : State} (b o e : Nat) (h : Memory.wf s.mem = true) :
    Memory.wf (s.flashMark b o e).mem = true := by
  rw [Memory.wf_iff] at h ⊢
  exact ⟨h.1, h.2.1, h.2.2.1, Cells.wf_wr _ _ _ _ h.2.2.2.1, h.2.2.2.2⟩

theorem State.eraseWords_wf {s : State} (b sec : Nat) (h : Memory.wf s.mem = true) :
    Memory.wf (s.eraseWords b sec).mem = true := by
  rw [Memory.wf_iff] at h ⊢
  exact ⟨h.1, h.2.1, Cells.wf_keep _ _ _ h.2.2.1, Cells.wf_keep _ _ _ h.2.2.2.1, h.2.2.2.2⟩

theorem State.eraseWhole_wf {s : State} (b : Nat) (h : Memory.wf s.mem = true) :
    Memory.wf (s.eraseWhole b).mem = true := by
  rw [Memory.wf_iff] at h ⊢
  exact ⟨h.1, h.2.1, Cells.wf_keep _ _ _ h.2.2.1, Cells.wf_keep _ _ _ h.2.2.2.1, h.2.2.2.2⟩

/-! ## DRAM (R324-R330) -/

theorem State.dramWr_wf {s : State} (b : Nat) (ws : List Word) (owner : Nat) (epoch : BitVec 6)
    (h : Memory.wf s.mem = true) : Memory.wf (s.dramWr b ws owner epoch).mem = true := by
  rw [Memory.wf_iff] at h ⊢
  exact ⟨h.1, h.2.1, h.2.2.1, h.2.2.2.1, Cells.wf_wrs _ _ _ _ h.2.2.2.2.1, Cells.wf_wr _ _ _ _ h.2.2.2.2.2.1,
    Cells.wf_del _ _ _ h.2.2.2.2.2.2⟩

theorem State.dramZero_wf {s : State} (h : Memory.wf s.mem = true) : Memory.wf s.dramZero.mem = true := by
  rw [Memory.wf_iff] at h ⊢
  exact ⟨h.1, h.2.1, h.2.2.1, h.2.2.2.1, rfl, rfl, rfl⟩

theorem State.setHeader_wf {s : State} (p : Pkt) (i : Nat) (v : Word) (h : Memory.wf s.mem = true) :
    Memory.wf (s.setHeader p i v).mem = true := by
  unfold State.setHeader
  split
  · exact State.sramWr_wf _ _ h
  · rw [Memory.wf_iff] at h ⊢
    exact ⟨h.1, h.2.1, h.2.2.1, h.2.2.2.1, Cells.wf_wr _ _ _ _ h.2.2.2.2.1, h.2.2.2.2.2⟩
  · exact h
  · exact h

theorem State.setHeaders_wf (p : Pkt) (l : List Word) : ∀ (s : State) (i : Nat), Memory.wf s.mem = true →
    Memory.wf (s.setHeaders p i l).mem = true := by
  induction l with
  | nil => intro s i h; exact h
  | cons v r ih => intro s i h; exact ih _ _ (State.setHeader_wf _ _ _ h)

theorem State.ctxWr_wf {s : State} (c i : Nat) (v : Word) (h : Memory.wf s.mem = true) :
    Memory.wf (s.ctxWr c i v).mem = true := by
  unfold State.ctxWr
  split
  · simp only
    split
    · exact State.sramWr_wf _ _ (State.sramWr_wf _ _ h)
    · exact State.sramWr_wf _ _ h
  · exact h

theorem State.ctxPut_wf {s : State} (c i : Nat) (v : Word) (h : Memory.wf s.mem = true) :
    Memory.wf (s.ctxPut c i v).mem = true := by
  unfold State.ctxPut
  split
  · exact State.ctxWr_wf _ _ _ h
  · rw [Memory.wf_iff] at h ⊢
    exact ⟨h.1, h.2.1, h.2.2.1, h.2.2.2.1, Cells.wf_wr _ _ _ _ h.2.2.2.2.1, h.2.2.2.2.2⟩

end Sys2Proof.Machine
end

