-- ==== Sys2Proof/Laws/State.lean ====
section
/-! SUPPORT. Laws of the state: what each named update leaves alone, one lemma per field, and what it makes its own
reader read.  No later proof needs to unfold a record update. -/

namespace Sys2Proof.Machine

open Sys2Proof

@[simp] theorem State.set_latch (s : State) (p : Nat) (v : Word) : (s.set p v).latch = s.latch := rfl
@[simp] theorem State.set_time (s : State) (p : Nat) (v : Word) : (s.set p v).time = s.time := rfl
@[simp] theorem State.set_mem (s : State) (p : Nat) (v : Word) : (s.set p v).mem = s.mem := rfl
@[simp] theorem State.set_fuses (s : State) (p : Nat) (v : Word) : (s.set p v).fuses = s.fuses := rfl
@[simp] theorem State.set_rig (s : State) (p : Nat) (v : Word) : (s.set p v).rig = s.rig := rfl
@[simp] theorem State.set_apc (s : State) (p : Nat) (v : Word) : (s.set p v).apc = s.apc := rfl
@[simp] theorem State.set_lkc (s : State) (p : Nat) (v : Word) : (s.set p v).lkc = s.lkc := rfl
@[simp] theorem State.set_basin (s : State) (p : Nat) (v : Word) : (s.set p v).basin = s.basin := rfl
@[simp] theorem State.set_lanes (s : State) (p : Nat) (v : Word) : (s.set p v).lanes = s.lanes := rfl
@[simp] theorem State.set_rx (s : State) (p : Nat) (v : Word) : (s.set p v).rx = s.rx := rfl
@[simp] theorem State.set_tx (s : State) (p : Nat) (v : Word) : (s.set p v).tx = s.tx := rfl
@[simp] theorem State.set_link (s : State) (p : Nat) (v : Word) : (s.set p v).link = s.link := rfl
@[simp] theorem State.set_trim (s : State) (p : Nat) (v : Word) : (s.set p v).trim = s.trim := rfl
@[simp] theorem State.set_utv (s : State) (p : Nat) (v : Word) : (s.set p v).utv = s.utv := rfl
@[simp] theorem State.set_flc (s : State) (p : Nat) (v : Word) : (s.set p v).flc = s.flc := rfl
@[simp] theorem State.set_dmc (s : State) (p : Nat) (v : Word) : (s.set p v).dmc = s.dmc := rfl
@[simp] theorem State.set_sec (s : State) (p : Nat) (v : Word) : (s.set p v).sec = s.sec := rfl
@[simp] theorem State.set_host (s : State) (p : Nat) (v : Word) : (s.set p v).host = s.host := rfl
@[simp] theorem State.set_psm (s : State) (p : Nat) (v : Word) : (s.set p v).psm = s.psm := rfl
@[simp] theorem State.set_pwr (s : State) (p : Nat) (v : Word) : (s.set p v).pwr = s.pwr := rfl
@[simp] theorem State.set_sluice (s : State) (p : Nat) (v : Word) : (s.set p v).sluice = s.sluice := rfl
@[simp] theorem State.set_evf (s : State) (p : Nat) (v : Word) : (s.set p v).evf = s.evf := rfl
@[simp] theorem State.set_tim (s : State) (p : Nat) (v : Word) : (s.set p v).tim = s.tim := rfl
@[simp] theorem State.set_pins (s : State) (p : Nat) (v : Word) : (s.set p v).pins = s.pins := rfl
@[simp] theorem State.set_free (s : State) (p : Nat) (v : Word) : (s.set p v).free = s.free := rfl
@[simp] theorem State.set_pending (s : State) (p : Nat) (v : Word) : (s.set p v).pending = s.pending := rfl

@[simp] theorem State.setF_latch (s : State) (p hi lo v : Nat) : (s.setF p hi lo v).latch = s.latch := rfl
@[simp] theorem State.setF_time (s : State) (p hi lo v : Nat) : (s.setF p hi lo v).time = s.time := rfl
@[simp] theorem State.setF_mem (s : State) (p hi lo v : Nat) : (s.setF p hi lo v).mem = s.mem := rfl
@[simp] theorem State.setF_fuses (s : State) (p hi lo v : Nat) : (s.setF p hi lo v).fuses = s.fuses := rfl
@[simp] theorem State.setF_rig (s : State) (p hi lo v : Nat) : (s.setF p hi lo v).rig = s.rig := rfl
@[simp] theorem State.setF_apc (s : State) (p hi lo v : Nat) : (s.setF p hi lo v).apc = s.apc := rfl
@[simp] theorem State.setF_lkc (s : State) (p hi lo v : Nat) : (s.setF p hi lo v).lkc = s.lkc := rfl
@[simp] theorem State.setF_basin (s : State) (p hi lo v : Nat) : (s.setF p hi lo v).basin = s.basin := rfl
@[simp] theorem State.setF_lanes (s : State) (p hi lo v : Nat) : (s.setF p hi lo v).lanes = s.lanes := rfl
@[simp] theorem State.setF_rx (s : State) (p hi lo v : Nat) : (s.setF p hi lo v).rx = s.rx := rfl
@[simp] theorem State.setF_tx (s : State) (p hi lo v : Nat) : (s.setF p hi lo v).tx = s.tx := rfl
@[simp] theorem State.setF_link (s : State) (p hi lo v : Nat) : (s.setF p hi lo v).link = s.link := rfl
@[simp] theorem State.setF_trim (s : State) (p hi lo v : Nat) : (s.setF p hi lo v).trim = s.trim := rfl
@[simp] theorem State.setF_utv (s : State) (p hi lo v : Nat) : (s.setF p hi lo v).utv = s.utv := rfl
@[simp] theorem State.setF_flc (s : State) (p hi lo v : Nat) : (s.setF p hi lo v).flc = s.flc := rfl
@[simp] theorem State.setF_dmc (s : State) (p hi lo v : Nat) : (s.setF p hi lo v).dmc = s.dmc := rfl
@[simp] theorem State.setF_sec (s : State) (p hi lo v : Nat) : (s.setF p hi lo v).sec = s.sec := rfl
@[simp] theorem State.setF_host (s : State) (p hi lo v : Nat) : (s.setF p hi lo v).host = s.host := rfl
@[simp] theorem State.setF_psm (s : State) (p hi lo v : Nat) : (s.setF p hi lo v).psm = s.psm := rfl
@[simp] theorem State.setF_pwr (s : State) (p hi lo v : Nat) : (s.setF p hi lo v).pwr = s.pwr := rfl
@[simp] theorem State.setF_sluice (s : State) (p hi lo v : Nat) : (s.setF p hi lo v).sluice = s.sluice := rfl
@[simp] theorem State.setF_evf (s : State) (p hi lo v : Nat) : (s.setF p hi lo v).evf = s.evf := rfl
@[simp] theorem State.setF_tim (s : State) (p hi lo v : Nat) : (s.setF p hi lo v).tim = s.tim := rfl
@[simp] theorem State.setF_pins (s : State) (p hi lo v : Nat) : (s.setF p hi lo v).pins = s.pins := rfl
@[simp] theorem State.setF_free (s : State) (p hi lo v : Nat) : (s.setF p hi lo v).free = s.free := rfl
@[simp] theorem State.setF_pending (s : State) (p hi lo v : Nat) : (s.setF p hi lo v).pending = s.pending := rfl

@[simp] theorem State.setB_latch (s : State) (p b : Nat) (v : Bool) : (s.setB p b v).latch = s.latch := rfl
@[simp] theorem State.setB_time (s : State) (p b : Nat) (v : Bool) : (s.setB p b v).time = s.time := rfl
@[simp] theorem State.setB_mem (s : State) (p b : Nat) (v : Bool) : (s.setB p b v).mem = s.mem := rfl
@[simp] theorem State.setB_fuses (s : State) (p b : Nat) (v : Bool) : (s.setB p b v).fuses = s.fuses := rfl
@[simp] theorem State.setB_rig (s : State) (p b : Nat) (v : Bool) : (s.setB p b v).rig = s.rig := rfl
@[simp] theorem State.setB_apc (s : State) (p b : Nat) (v : Bool) : (s.setB p b v).apc = s.apc := rfl
@[simp] theorem State.setB_lkc (s : State) (p b : Nat) (v : Bool) : (s.setB p b v).lkc = s.lkc := rfl
@[simp] theorem State.setB_basin (s : State) (p b : Nat) (v : Bool) : (s.setB p b v).basin = s.basin := rfl
@[simp] theorem State.setB_lanes (s : State) (p b : Nat) (v : Bool) : (s.setB p b v).lanes = s.lanes := rfl
@[simp] theorem State.setB_rx (s : State) (p b : Nat) (v : Bool) : (s.setB p b v).rx = s.rx := rfl
@[simp] theorem State.setB_tx (s : State) (p b : Nat) (v : Bool) : (s.setB p b v).tx = s.tx := rfl
@[simp] theorem State.setB_link (s : State) (p b : Nat) (v : Bool) : (s.setB p b v).link = s.link := rfl
@[simp] theorem State.setB_trim (s : State) (p b : Nat) (v : Bool) : (s.setB p b v).trim = s.trim := rfl
@[simp] theorem State.setB_utv (s : State) (p b : Nat) (v : Bool) : (s.setB p b v).utv = s.utv := rfl
@[simp] theorem State.setB_flc (s : State) (p b : Nat) (v : Bool) : (s.setB p b v).flc = s.flc := rfl
@[simp] theorem State.setB_dmc (s : State) (p b : Nat) (v : Bool) : (s.setB p b v).dmc = s.dmc := rfl
@[simp] theorem State.setB_sec (s : State) (p b : Nat) (v : Bool) : (s.setB p b v).sec = s.sec := rfl
@[simp] theorem State.setB_host (s : State) (p b : Nat) (v : Bool) : (s.setB p b v).host = s.host := rfl
@[simp] theorem State.setB_psm (s : State) (p b : Nat) (v : Bool) : (s.setB p b v).psm = s.psm := rfl
@[simp] theorem State.setB_pwr (s : State) (p b : Nat) (v : Bool) : (s.setB p b v).pwr = s.pwr := rfl
@[simp] theorem State.setB_sluice (s : State) (p b : Nat) (v : Bool) : (s.setB p b v).sluice = s.sluice := rfl
@[simp] theorem State.setB_evf (s : State) (p b : Nat) (v : Bool) : (s.setB p b v).evf = s.evf := rfl
@[simp] theorem State.setB_tim (s : State) (p b : Nat) (v : Bool) : (s.setB p b v).tim = s.tim := rfl
@[simp] theorem State.setB_pins (s : State) (p b : Nat) (v : Bool) : (s.setB p b v).pins = s.pins := rfl
@[simp] theorem State.setB_free (s : State) (p b : Nat) (v : Bool) : (s.setB p b v).free = s.free := rfl
@[simp] theorem State.setB_pending (s : State) (p b : Nat) (v : Bool) : (s.setB p b v).pending = s.pending := rfl

@[simp] theorem State.count_latch (s : State) (p : Nat) : (s.count p).latch = s.latch := rfl
@[simp] theorem State.count_time (s : State) (p : Nat) : (s.count p).time = s.time := rfl
@[simp] theorem State.count_mem (s : State) (p : Nat) : (s.count p).mem = s.mem := rfl
@[simp] theorem State.count_fuses (s : State) (p : Nat) : (s.count p).fuses = s.fuses := rfl
@[simp] theorem State.count_rig (s : State) (p : Nat) : (s.count p).rig = s.rig := rfl
@[simp] theorem State.count_apc (s : State) (p : Nat) : (s.count p).apc = s.apc := rfl
@[simp] theorem State.count_lkc (s : State) (p : Nat) : (s.count p).lkc = s.lkc := rfl
@[simp] theorem State.count_basin (s : State) (p : Nat) : (s.count p).basin = s.basin := rfl
@[simp] theorem State.count_lanes (s : State) (p : Nat) : (s.count p).lanes = s.lanes := rfl
@[simp] theorem State.count_rx (s : State) (p : Nat) : (s.count p).rx = s.rx := rfl
@[simp] theorem State.count_tx (s : State) (p : Nat) : (s.count p).tx = s.tx := rfl
@[simp] theorem State.count_link (s : State) (p : Nat) : (s.count p).link = s.link := rfl
@[simp] theorem State.count_trim (s : State) (p : Nat) : (s.count p).trim = s.trim := rfl
@[simp] theorem State.count_utv (s : State) (p : Nat) : (s.count p).utv = s.utv := rfl
@[simp] theorem State.count_flc (s : State) (p : Nat) : (s.count p).flc = s.flc := rfl
@[simp] theorem State.count_dmc (s : State) (p : Nat) : (s.count p).dmc = s.dmc := rfl
@[simp] theorem State.count_sec (s : State) (p : Nat) : (s.count p).sec = s.sec := rfl
@[simp] theorem State.count_host (s : State) (p : Nat) : (s.count p).host = s.host := rfl
@[simp] theorem State.count_psm (s : State) (p : Nat) : (s.count p).psm = s.psm := rfl
@[simp] theorem State.count_pwr (s : State) (p : Nat) : (s.count p).pwr = s.pwr := rfl
@[simp] theorem State.count_sluice (s : State) (p : Nat) : (s.count p).sluice = s.sluice := rfl
@[simp] theorem State.count_evf (s : State) (p : Nat) : (s.count p).evf = s.evf := rfl
@[simp] theorem State.count_tim (s : State) (p : Nat) : (s.count p).tim = s.tim := rfl
@[simp] theorem State.count_pins (s : State) (p : Nat) : (s.count p).pins = s.pins := rfl
@[simp] theorem State.count_free (s : State) (p : Nat) : (s.count p).free = s.free := rfl
@[simp] theorem State.count_pending (s : State) (p : Nat) : (s.count p).pending = s.pending := rfl

@[simp] theorem State.countF_latch (s : State) (p hi lo : Nat) : (s.countF p hi lo).latch = s.latch := rfl
@[simp] theorem State.countF_time (s : State) (p hi lo : Nat) : (s.countF p hi lo).time = s.time := rfl
@[simp] theorem State.countF_mem (s : State) (p hi lo : Nat) : (s.countF p hi lo).mem = s.mem := rfl
@[simp] theorem State.countF_fuses (s : State) (p hi lo : Nat) : (s.countF p hi lo).fuses = s.fuses := rfl
@[simp] theorem State.countF_rig (s : State) (p hi lo : Nat) : (s.countF p hi lo).rig = s.rig := rfl
@[simp] theorem State.countF_apc (s : State) (p hi lo : Nat) : (s.countF p hi lo).apc = s.apc := rfl
@[simp] theorem State.countF_lkc (s : State) (p hi lo : Nat) : (s.countF p hi lo).lkc = s.lkc := rfl
@[simp] theorem State.countF_basin (s : State) (p hi lo : Nat) : (s.countF p hi lo).basin = s.basin := rfl
@[simp] theorem State.countF_lanes (s : State) (p hi lo : Nat) : (s.countF p hi lo).lanes = s.lanes := rfl
@[simp] theorem State.countF_rx (s : State) (p hi lo : Nat) : (s.countF p hi lo).rx = s.rx := rfl
@[simp] theorem State.countF_tx (s : State) (p hi lo : Nat) : (s.countF p hi lo).tx = s.tx := rfl
@[simp] theorem State.countF_link (s : State) (p hi lo : Nat) : (s.countF p hi lo).link = s.link := rfl
@[simp] theorem State.countF_trim (s : State) (p hi lo : Nat) : (s.countF p hi lo).trim = s.trim := rfl
@[simp] theorem State.countF_utv (s : State) (p hi lo : Nat) : (s.countF p hi lo).utv = s.utv := rfl
@[simp] theorem State.countF_flc (s : State) (p hi lo : Nat) : (s.countF p hi lo).flc = s.flc := rfl
@[simp] theorem State.countF_dmc (s : State) (p hi lo : Nat) : (s.countF p hi lo).dmc = s.dmc := rfl
@[simp] theorem State.countF_sec (s : State) (p hi lo : Nat) : (s.countF p hi lo).sec = s.sec := rfl
@[simp] theorem State.countF_host (s : State) (p hi lo : Nat) : (s.countF p hi lo).host = s.host := rfl
@[simp] theorem State.countF_psm (s : State) (p hi lo : Nat) : (s.countF p hi lo).psm = s.psm := rfl
@[simp] theorem State.countF_pwr (s : State) (p hi lo : Nat) : (s.countF p hi lo).pwr = s.pwr := rfl
@[simp] theorem State.countF_sluice (s : State) (p hi lo : Nat) : (s.countF p hi lo).sluice = s.sluice := rfl
@[simp] theorem State.countF_evf (s : State) (p hi lo : Nat) : (s.countF p hi lo).evf = s.evf := rfl
@[simp] theorem State.countF_tim (s : State) (p hi lo : Nat) : (s.countF p hi lo).tim = s.tim := rfl
@[simp] theorem State.countF_pins (s : State) (p hi lo : Nat) : (s.countF p hi lo).pins = s.pins := rfl
@[simp] theorem State.countF_free (s : State) (p hi lo : Nat) : (s.countF p hi lo).free = s.free := rfl
@[simp] theorem State.countF_pending (s : State) (p hi lo : Nat) : (s.countF p hi lo).pending = s.pending := rfl

@[simp] theorem State.setWide_latch (s : State) (p n v : Nat) : (s.setWide p n v).latch = s.latch := rfl
@[simp] theorem State.setWide_time (s : State) (p n v : Nat) : (s.setWide p n v).time = s.time := rfl
@[simp] theorem State.setWide_mem (s : State) (p n v : Nat) : (s.setWide p n v).mem = s.mem := rfl
@[simp] theorem State.setWide_fuses (s : State) (p n v : Nat) : (s.setWide p n v).fuses = s.fuses := rfl
@[simp] theorem State.setWide_rig (s : State) (p n v : Nat) : (s.setWide p n v).rig = s.rig := rfl
@[simp] theorem State.setWide_apc (s : State) (p n v : Nat) : (s.setWide p n v).apc = s.apc := rfl
@[simp] theorem State.setWide_lkc (s : State) (p n v : Nat) : (s.setWide p n v).lkc = s.lkc := rfl
@[simp] theorem State.setWide_basin (s : State) (p n v : Nat) : (s.setWide p n v).basin = s.basin := rfl
@[simp] theorem State.setWide_lanes (s : State) (p n v : Nat) : (s.setWide p n v).lanes = s.lanes := rfl
@[simp] theorem State.setWide_rx (s : State) (p n v : Nat) : (s.setWide p n v).rx = s.rx := rfl
@[simp] theorem State.setWide_tx (s : State) (p n v : Nat) : (s.setWide p n v).tx = s.tx := rfl
@[simp] theorem State.setWide_link (s : State) (p n v : Nat) : (s.setWide p n v).link = s.link := rfl
@[simp] theorem State.setWide_trim (s : State) (p n v : Nat) : (s.setWide p n v).trim = s.trim := rfl
@[simp] theorem State.setWide_utv (s : State) (p n v : Nat) : (s.setWide p n v).utv = s.utv := rfl
@[simp] theorem State.setWide_flc (s : State) (p n v : Nat) : (s.setWide p n v).flc = s.flc := rfl
@[simp] theorem State.setWide_dmc (s : State) (p n v : Nat) : (s.setWide p n v).dmc = s.dmc := rfl
@[simp] theorem State.setWide_sec (s : State) (p n v : Nat) : (s.setWide p n v).sec = s.sec := rfl
@[simp] theorem State.setWide_host (s : State) (p n v : Nat) : (s.setWide p n v).host = s.host := rfl
@[simp] theorem State.setWide_psm (s : State) (p n v : Nat) : (s.setWide p n v).psm = s.psm := rfl
@[simp] theorem State.setWide_pwr (s : State) (p n v : Nat) : (s.setWide p n v).pwr = s.pwr := rfl
@[simp] theorem State.setWide_sluice (s : State) (p n v : Nat) : (s.setWide p n v).sluice = s.sluice := rfl
@[simp] theorem State.setWide_evf (s : State) (p n v : Nat) : (s.setWide p n v).evf = s.evf := rfl
@[simp] theorem State.setWide_tim (s : State) (p n v : Nat) : (s.setWide p n v).tim = s.tim := rfl
@[simp] theorem State.setWide_pins (s : State) (p n v : Nat) : (s.setWide p n v).pins = s.pins := rfl
@[simp] theorem State.setWide_free (s : State) (p n v : Nat) : (s.setWide p n v).free = s.free := rfl
@[simp] theorem State.setWide_pending (s : State) (p n v : Nat) : (s.setWide p n v).pending = s.pending := rfl

@[simp] theorem State.coldRegs_latch (s : State) (p : Nat → Bool) : (s.coldRegs p).latch = s.latch := rfl
@[simp] theorem State.coldRegs_time (s : State) (p : Nat → Bool) : (s.coldRegs p).time = s.time := rfl
@[simp] theorem State.coldRegs_mem (s : State) (p : Nat → Bool) : (s.coldRegs p).mem = s.mem := rfl
@[simp] theorem State.coldRegs_fuses (s : State) (p : Nat → Bool) : (s.coldRegs p).fuses = s.fuses := rfl
@[simp] theorem State.coldRegs_rig (s : State) (p : Nat → Bool) : (s.coldRegs p).rig = s.rig := rfl
@[simp] theorem State.coldRegs_apc (s : State) (p : Nat → Bool) : (s.coldRegs p).apc = s.apc := rfl
@[simp] theorem State.coldRegs_lkc (s : State) (p : Nat → Bool) : (s.coldRegs p).lkc = s.lkc := rfl
@[simp] theorem State.coldRegs_basin (s : State) (p : Nat → Bool) : (s.coldRegs p).basin = s.basin := rfl
@[simp] theorem State.coldRegs_lanes (s : State) (p : Nat → Bool) : (s.coldRegs p).lanes = s.lanes := rfl
@[simp] theorem State.coldRegs_rx (s : State) (p : Nat → Bool) : (s.coldRegs p).rx = s.rx := rfl
@[simp] theorem State.coldRegs_tx (s : State) (p : Nat → Bool) : (s.coldRegs p).tx = s.tx := rfl
@[simp] theorem State.coldRegs_link (s : State) (p : Nat → Bool) : (s.coldRegs p).link = s.link := rfl
@[simp] theorem State.coldRegs_trim (s : State) (p : Nat → Bool) : (s.coldRegs p).trim = s.trim := rfl
@[simp] theorem State.coldRegs_utv (s : State) (p : Nat → Bool) : (s.coldRegs p).utv = s.utv := rfl
@[simp] theorem State.coldRegs_flc (s : State) (p : Nat → Bool) : (s.coldRegs p).flc = s.flc := rfl
@[simp] theorem State.coldRegs_dmc (s : State) (p : Nat → Bool) : (s.coldRegs p).dmc = s.dmc := rfl
@[simp] theorem State.coldRegs_sec (s : State) (p : Nat → Bool) : (s.coldRegs p).sec = s.sec := rfl
@[simp] theorem State.coldRegs_host (s : State) (p : Nat → Bool) : (s.coldRegs p).host = s.host := rfl
@[simp] theorem State.coldRegs_psm (s : State) (p : Nat → Bool) : (s.coldRegs p).psm = s.psm := rfl
@[simp] theorem State.coldRegs_pwr (s : State) (p : Nat → Bool) : (s.coldRegs p).pwr = s.pwr := rfl
@[simp] theorem State.coldRegs_sluice (s : State) (p : Nat → Bool) : (s.coldRegs p).sluice = s.sluice := rfl
@[simp] theorem State.coldRegs_evf (s : State) (p : Nat → Bool) : (s.coldRegs p).evf = s.evf := rfl
@[simp] theorem State.coldRegs_tim (s : State) (p : Nat → Bool) : (s.coldRegs p).tim = s.tim := rfl
@[simp] theorem State.coldRegs_pins (s : State) (p : Nat → Bool) : (s.coldRegs p).pins = s.pins := rfl
@[simp] theorem State.coldRegs_free (s : State) (p : Nat → Bool) : (s.coldRegs p).free = s.free := rfl
@[simp] theorem State.coldRegs_pending (s : State) (p : Nat → Bool) : (s.coldRegs p).pending = s.pending := rfl

@[simp] theorem State.nextFree_regs (s : State) : (s.nextFree).regs = s.regs := rfl
@[simp] theorem State.nextFree_latch (s : State) : (s.nextFree).latch = s.latch := rfl
@[simp] theorem State.nextFree_time (s : State) : (s.nextFree).time = s.time := rfl
@[simp] theorem State.nextFree_mem (s : State) : (s.nextFree).mem = s.mem := rfl
@[simp] theorem State.nextFree_fuses (s : State) : (s.nextFree).fuses = s.fuses := rfl
@[simp] theorem State.nextFree_rig (s : State) : (s.nextFree).rig = s.rig := rfl
@[simp] theorem State.nextFree_apc (s : State) : (s.nextFree).apc = s.apc := rfl
@[simp] theorem State.nextFree_lkc (s : State) : (s.nextFree).lkc = s.lkc := rfl
@[simp] theorem State.nextFree_basin (s : State) : (s.nextFree).basin = s.basin := rfl
@[simp] theorem State.nextFree_lanes (s : State) : (s.nextFree).lanes = s.lanes := rfl
@[simp] theorem State.nextFree_rx (s : State) : (s.nextFree).rx = s.rx := rfl
@[simp] theorem State.nextFree_tx (s : State) : (s.nextFree).tx = s.tx := rfl
@[simp] theorem State.nextFree_link (s : State) : (s.nextFree).link = s.link := rfl
@[simp] theorem State.nextFree_trim (s : State) : (s.nextFree).trim = s.trim := rfl
@[simp] theorem State.nextFree_utv (s : State) : (s.nextFree).utv = s.utv := rfl
@[simp] theorem State.nextFree_flc (s : State) : (s.nextFree).flc = s.flc := rfl
@[simp] theorem State.nextFree_dmc (s : State) : (s.nextFree).dmc = s.dmc := rfl
@[simp] theorem State.nextFree_sec (s : State) : (s.nextFree).sec = s.sec := rfl
@[simp] theorem State.nextFree_host (s : State) : (s.nextFree).host = s.host := rfl
@[simp] theorem State.nextFree_psm (s : State) : (s.nextFree).psm = s.psm := rfl
@[simp] theorem State.nextFree_pwr (s : State) : (s.nextFree).pwr = s.pwr := rfl
@[simp] theorem State.nextFree_sluice (s : State) : (s.nextFree).sluice = s.sluice := rfl
@[simp] theorem State.nextFree_evf (s : State) : (s.nextFree).evf = s.evf := rfl
@[simp] theorem State.nextFree_tim (s : State) : (s.nextFree).tim = s.tim := rfl
@[simp] theorem State.nextFree_pins (s : State) : (s.nextFree).pins = s.pins := rfl
@[simp] theorem State.nextFree_pending (s : State) : (s.nextFree).pending = s.pending := rfl

@[simp] theorem State.setLane_regs (s : State) (l : Nat) (x : Lane) : (s.setLane l x).regs = s.regs := rfl
@[simp] theorem State.setLane_latch (s : State) (l : Nat) (x : Lane) : (s.setLane l x).latch = s.latch := rfl
@[simp] theorem State.setLane_time (s : State) (l : Nat) (x : Lane) : (s.setLane l x).time = s.time := rfl
@[simp] theorem State.setLane_mem (s : State) (l : Nat) (x : Lane) : (s.setLane l x).mem = s.mem := rfl
@[simp] theorem State.setLane_fuses (s : State) (l : Nat) (x : Lane) : (s.setLane l x).fuses = s.fuses := rfl
@[simp] theorem State.setLane_rig (s : State) (l : Nat) (x : Lane) : (s.setLane l x).rig = s.rig := rfl
@[simp] theorem State.setLane_apc (s : State) (l : Nat) (x : Lane) : (s.setLane l x).apc = s.apc := rfl
@[simp] theorem State.setLane_lkc (s : State) (l : Nat) (x : Lane) : (s.setLane l x).lkc = s.lkc := rfl
@[simp] theorem State.setLane_basin (s : State) (l : Nat) (x : Lane) : (s.setLane l x).basin = s.basin := rfl
@[simp] theorem State.setLane_rx (s : State) (l : Nat) (x : Lane) : (s.setLane l x).rx = s.rx := rfl
@[simp] theorem State.setLane_tx (s : State) (l : Nat) (x : Lane) : (s.setLane l x).tx = s.tx := rfl
@[simp] theorem State.setLane_link (s : State) (l : Nat) (x : Lane) : (s.setLane l x).link = s.link := rfl
@[simp] theorem State.setLane_trim (s : State) (l : Nat) (x : Lane) : (s.setLane l x).trim = s.trim := rfl
@[simp] theorem State.setLane_utv (s : State) (l : Nat) (x : Lane) : (s.setLane l x).utv = s.utv := rfl
@[simp] theorem State.setLane_flc (s : State) (l : Nat) (x : Lane) : (s.setLane l x).flc = s.flc := rfl
@[simp] theorem State.setLane_dmc (s : State) (l : Nat) (x : Lane) : (s.setLane l x).dmc = s.dmc := rfl
@[simp] theorem State.setLane_sec (s : State) (l : Nat) (x : Lane) : (s.setLane l x).sec = s.sec := rfl
@[simp] theorem State.setLane_host (s : State) (l : Nat) (x : Lane) : (s.setLane l x).host = s.host := rfl
@[simp] theorem State.setLane_psm (s : State) (l : Nat) (x : Lane) : (s.setLane l x).psm = s.psm := rfl
@[simp] theorem State.setLane_pwr (s : State) (l : Nat) (x : Lane) : (s.setLane l x).pwr = s.pwr := rfl
@[simp] theorem State.setLane_sluice (s : State) (l : Nat) (x : Lane) : (s.setLane l x).sluice = s.sluice := rfl
@[simp] theorem State.setLane_evf (s : State) (l : Nat) (x : Lane) : (s.setLane l x).evf = s.evf := rfl
@[simp] theorem State.setLane_tim (s : State) (l : Nat) (x : Lane) : (s.setLane l x).tim = s.tim := rfl
@[simp] theorem State.setLane_pins (s : State) (l : Nat) (x : Lane) : (s.setLane l x).pins = s.pins := rfl
@[simp] theorem State.setLane_free (s : State) (l : Nat) (x : Lane) : (s.setLane l x).free = s.free := rfl
@[simp] theorem State.setLane_pending (s : State) (l : Nat) (x : Lane) : (s.setLane l x).pending = s.pending := rfl

@[simp] theorem State.setChain_regs (s : State) (c : Nat) (x : RxState) : (s.setChain c x).regs = s.regs := rfl
@[simp] theorem State.setChain_latch (s : State) (c : Nat) (x : RxState) : (s.setChain c x).latch = s.latch := rfl
@[simp] theorem State.setChain_time (s : State) (c : Nat) (x : RxState) : (s.setChain c x).time = s.time := rfl
@[simp] theorem State.setChain_mem (s : State) (c : Nat) (x : RxState) : (s.setChain c x).mem = s.mem := rfl
@[simp] theorem State.setChain_fuses (s : State) (c : Nat) (x : RxState) : (s.setChain c x).fuses = s.fuses := rfl
@[simp] theorem State.setChain_rig (s : State) (c : Nat) (x : RxState) : (s.setChain c x).rig = s.rig := rfl
@[simp] theorem State.setChain_apc (s : State) (c : Nat) (x : RxState) : (s.setChain c x).apc = s.apc := rfl
@[simp] theorem State.setChain_lkc (s : State) (c : Nat) (x : RxState) : (s.setChain c x).lkc = s.lkc := rfl
@[simp] theorem State.setChain_basin (s : State) (c : Nat) (x : RxState) : (s.setChain c x).basin = s.basin := rfl
@[simp] theorem State.setChain_lanes (s : State) (c : Nat) (x : RxState) : (s.setChain c x).lanes = s.lanes := rfl
@[simp] theorem State.setChain_tx (s : State) (c : Nat) (x : RxState) : (s.setChain c x).tx = s.tx := rfl
@[simp] theorem State.setChain_link (s : State) (c : Nat) (x : RxState) : (s.setChain c x).link = s.link := rfl
@[simp] theorem State.setChain_trim (s : State) (c : Nat) (x : RxState) : (s.setChain c x).trim = s.trim := rfl
@[simp] theorem State.setChain_utv (s : State) (c : Nat) (x : RxState) : (s.setChain c x).utv = s.utv := rfl
@[simp] theorem State.setChain_flc (s : State) (c : Nat) (x : RxState) : (s.setChain c x).flc = s.flc := rfl
@[simp] theorem State.setChain_dmc (s : State) (c : Nat) (x : RxState) : (s.setChain c x).dmc = s.dmc := rfl
@[simp] theorem State.setChain_sec (s : State) (c : Nat) (x : RxState) : (s.setChain c x).sec = s.sec := rfl
@[simp] theorem State.setChain_host (s : State) (c : Nat) (x : RxState) : (s.setChain c x).host = s.host := rfl
@[simp] theorem State.setChain_psm (s : State) (c : Nat) (x : RxState) : (s.setChain c x).psm = s.psm := rfl
@[simp] theorem State.setChain_pwr (s : State) (c : Nat) (x : RxState) : (s.setChain c x).pwr = s.pwr := rfl
@[simp] theorem State.setChain_sluice (s : State) (c : Nat) (x : RxState) : (s.setChain c x).sluice = s.sluice := rfl
@[simp] theorem State.setChain_evf (s : State) (c : Nat) (x : RxState) : (s.setChain c x).evf = s.evf := rfl
@[simp] theorem State.setChain_tim (s : State) (c : Nat) (x : RxState) : (s.setChain c x).tim = s.tim := rfl
@[simp] theorem State.setChain_pins (s : State) (c : Nat) (x : RxState) : (s.setChain c x).pins = s.pins := rfl
@[simp] theorem State.setChain_free (s : State) (c : Nat) (x : RxState) : (s.setChain c x).free = s.free := rfl
@[simp] theorem State.setChain_pending (s : State) (c : Nat) (x : RxState) : (s.setChain c x).pending = s.pending := rfl

@[simp] theorem State.setTxc_regs (s : State) (t : Nat) (x : TxState) : (s.setTxc t x).regs = s.regs := rfl
@[simp] theorem State.setTxc_latch (s : State) (t : Nat) (x : TxState) : (s.setTxc t x).latch = s.latch := rfl
@[simp] theorem State.setTxc_time (s : State) (t : Nat) (x : TxState) : (s.setTxc t x).time = s.time := rfl
@[simp] theorem State.setTxc_mem (s : State) (t : Nat) (x : TxState) : (s.setTxc t x).mem = s.mem := rfl
@[simp] theorem State.setTxc_fuses (s : State) (t : Nat) (x : TxState) : (s.setTxc t x).fuses = s.fuses := rfl
@[simp] theorem State.setTxc_rig (s : State) (t : Nat) (x : TxState) : (s.setTxc t x).rig = s.rig := rfl
@[simp] theorem State.setTxc_apc (s : State) (t : Nat) (x : TxState) : (s.setTxc t x).apc = s.apc := rfl
@[simp] theorem State.setTxc_lkc (s : State) (t : Nat) (x : TxState) : (s.setTxc t x).lkc = s.lkc := rfl
@[simp] theorem State.setTxc_basin (s : State) (t : Nat) (x : TxState) : (s.setTxc t x).basin = s.basin := rfl
@[simp] theorem State.setTxc_lanes (s : State) (t : Nat) (x : TxState) : (s.setTxc t x).lanes = s.lanes := rfl
@[simp] theorem State.setTxc_rx (s : State) (t : Nat) (x : TxState) : (s.setTxc t x).rx = s.rx := rfl
@[simp] theorem State.setTxc_link (s : State) (t : Nat) (x : TxState) : (s.setTxc t x).link = s.link := rfl
@[simp] theorem State.setTxc_trim (s : State) (t : Nat) (x : TxState) : (s.setTxc t x).trim = s.trim := rfl
@[simp] theorem State.setTxc_utv (s : State) (t : Nat) (x : TxState) : (s.setTxc t x).utv = s.utv := rfl
@[simp] theorem State.setTxc_flc (s : State) (t : Nat) (x : TxState) : (s.setTxc t x).flc = s.flc := rfl
@[simp] theorem State.setTxc_dmc (s : State) (t : Nat) (x : TxState) : (s.setTxc t x).dmc = s.dmc := rfl
@[simp] theorem State.setTxc_sec (s : State) (t : Nat) (x : TxState) : (s.setTxc t x).sec = s.sec := rfl
@[simp] theorem State.setTxc_host (s : State) (t : Nat) (x : TxState) : (s.setTxc t x).host = s.host := rfl
@[simp] theorem State.setTxc_psm (s : State) (t : Nat) (x : TxState) : (s.setTxc t x).psm = s.psm := rfl
@[simp] theorem State.setTxc_pwr (s : State) (t : Nat) (x : TxState) : (s.setTxc t x).pwr = s.pwr := rfl
@[simp] theorem State.setTxc_sluice (s : State) (t : Nat) (x : TxState) : (s.setTxc t x).sluice = s.sluice := rfl
@[simp] theorem State.setTxc_evf (s : State) (t : Nat) (x : TxState) : (s.setTxc t x).evf = s.evf := rfl
@[simp] theorem State.setTxc_tim (s : State) (t : Nat) (x : TxState) : (s.setTxc t x).tim = s.tim := rfl
@[simp] theorem State.setTxc_pins (s : State) (t : Nat) (x : TxState) : (s.setTxc t x).pins = s.pins := rfl
@[simp] theorem State.setTxc_free (s : State) (t : Nat) (x : TxState) : (s.setTxc t x).free = s.free := rfl
@[simp] theorem State.setTxc_pending (s : State) (t : Nat) (x : TxState) : (s.setTxc t x).pending = s.pending := rfl

@[simp] theorem State.setEvent_regs (s : State) (q : Nat) (x : Option Event) : (s.setEvent q x).regs = s.regs := rfl
@[simp] theorem State.setEvent_latch (s : State) (q : Nat) (x : Option Event) : (s.setEvent q x).latch = s.latch := rfl
@[simp] theorem State.setEvent_time (s : State) (q : Nat) (x : Option Event) : (s.setEvent q x).time = s.time := rfl
@[simp] theorem State.setEvent_mem (s : State) (q : Nat) (x : Option Event) : (s.setEvent q x).mem = s.mem := rfl
@[simp] theorem State.setEvent_fuses (s : State) (q : Nat) (x : Option Event) : (s.setEvent q x).fuses = s.fuses := rfl
@[simp] theorem State.setEvent_rig (s : State) (q : Nat) (x : Option Event) : (s.setEvent q x).rig = s.rig := rfl
@[simp] theorem State.setEvent_apc (s : State) (q : Nat) (x : Option Event) : (s.setEvent q x).apc = s.apc := rfl
@[simp] theorem State.setEvent_lkc (s : State) (q : Nat) (x : Option Event) : (s.setEvent q x).lkc = s.lkc := rfl
@[simp] theorem State.setEvent_basin (s : State) (q : Nat) (x : Option Event) : (s.setEvent q x).basin = s.basin := rfl
@[simp] theorem State.setEvent_lanes (s : State) (q : Nat) (x : Option Event) : (s.setEvent q x).lanes = s.lanes := rfl
@[simp] theorem State.setEvent_rx (s : State) (q : Nat) (x : Option Event) : (s.setEvent q x).rx = s.rx := rfl
@[simp] theorem State.setEvent_tx (s : State) (q : Nat) (x : Option Event) : (s.setEvent q x).tx = s.tx := rfl
@[simp] theorem State.setEvent_trim (s : State) (q : Nat) (x : Option Event) : (s.setEvent q x).trim = s.trim := rfl
@[simp] theorem State.setEvent_utv (s : State) (q : Nat) (x : Option Event) : (s.setEvent q x).utv = s.utv := rfl
@[simp] theorem State.setEvent_flc (s : State) (q : Nat) (x : Option Event) : (s.setEvent q x).flc = s.flc := rfl
@[simp] theorem State.setEvent_dmc (s : State) (q : Nat) (x : Option Event) : (s.setEvent q x).dmc = s.dmc := rfl
@[simp] theorem State.setEvent_sec (s : State) (q : Nat) (x : Option Event) : (s.setEvent q x).sec = s.sec := rfl
@[simp] theorem State.setEvent_host (s : State) (q : Nat) (x : Option Event) : (s.setEvent q x).host = s.host := rfl
@[simp] theorem State.setEvent_psm (s : State) (q : Nat) (x : Option Event) : (s.setEvent q x).psm = s.psm := rfl
@[simp] theorem State.setEvent_pwr (s : State) (q : Nat) (x : Option Event) : (s.setEvent q x).pwr = s.pwr := rfl
@[simp] theorem State.setEvent_sluice (s : State) (q : Nat) (x : Option Event) : (s.setEvent q x).sluice = s.sluice := rfl
@[simp] theorem State.setEvent_evf (s : State) (q : Nat) (x : Option Event) : (s.setEvent q x).evf = s.evf := rfl
@[simp] theorem State.setEvent_tim (s : State) (q : Nat) (x : Option Event) : (s.setEvent q x).tim = s.tim := rfl
@[simp] theorem State.setEvent_pins (s : State) (q : Nat) (x : Option Event) : (s.setEvent q x).pins = s.pins := rfl
@[simp] theorem State.setEvent_free (s : State) (q : Nat) (x : Option Event) : (s.setEvent q x).free = s.free := rfl
@[simp] theorem State.setEvent_pending (s : State) (q : Nat) (x : Option Event) : (s.setEvent q x).pending = s.pending := rfl

@[simp] theorem State.setCal_regs (s : State) (c : Nat) (x : Option CalEntry) : (s.setCal c x).regs = s.regs := rfl
@[simp] theorem State.setCal_latch (s : State) (c : Nat) (x : Option CalEntry) : (s.setCal c x).latch = s.latch := rfl
@[simp] theorem State.setCal_time (s : State) (c : Nat) (x : Option CalEntry) : (s.setCal c x).time = s.time := rfl
@[simp] theorem State.setCal_mem (s : State) (c : Nat) (x : Option CalEntry) : (s.setCal c x).mem = s.mem := rfl
@[simp] theorem State.setCal_fuses (s : State) (c : Nat) (x : Option CalEntry) : (s.setCal c x).fuses = s.fuses := rfl
@[simp] theorem State.setCal_rig (s : State) (c : Nat) (x : Option CalEntry) : (s.setCal c x).rig = s.rig := rfl
@[simp] theorem State.setCal_apc (s : State) (c : Nat) (x : Option CalEntry) : (s.setCal c x).apc = s.apc := rfl
@[simp] theorem State.setCal_lkc (s : State) (c : Nat) (x : Option CalEntry) : (s.setCal c x).lkc = s.lkc := rfl
@[simp] theorem State.setCal_basin (s : State) (c : Nat) (x : Option CalEntry) : (s.setCal c x).basin = s.basin := rfl
@[simp] theorem State.setCal_lanes (s : State) (c : Nat) (x : Option CalEntry) : (s.setCal c x).lanes = s.lanes := rfl
@[simp] theorem State.setCal_rx (s : State) (c : Nat) (x : Option CalEntry) : (s.setCal c x).rx = s.rx := rfl
@[simp] theorem State.setCal_tx (s : State) (c : Nat) (x : Option CalEntry) : (s.setCal c x).tx = s.tx := rfl
@[simp] theorem State.setCal_trim (s : State) (c : Nat) (x : Option CalEntry) : (s.setCal c x).trim = s.trim := rfl
@[simp] theorem State.setCal_utv (s : State) (c : Nat) (x : Option CalEntry) : (s.setCal c x).utv = s.utv := rfl
@[simp] theorem State.setCal_flc (s : State) (c : Nat) (x : Option CalEntry) : (s.setCal c x).flc = s.flc := rfl
@[simp] theorem State.setCal_dmc (s : State) (c : Nat) (x : Option CalEntry) : (s.setCal c x).dmc = s.dmc := rfl
@[simp] theorem State.setCal_sec (s : State) (c : Nat) (x : Option CalEntry) : (s.setCal c x).sec = s.sec := rfl
@[simp] theorem State.setCal_host (s : State) (c : Nat) (x : Option CalEntry) : (s.setCal c x).host = s.host := rfl
@[simp] theorem State.setCal_psm (s : State) (c : Nat) (x : Option CalEntry) : (s.setCal c x).psm = s.psm := rfl
@[simp] theorem State.setCal_pwr (s : State) (c : Nat) (x : Option CalEntry) : (s.setCal c x).pwr = s.pwr := rfl
@[simp] theorem State.setCal_sluice (s : State) (c : Nat) (x : Option CalEntry) : (s.setCal c x).sluice = s.sluice := rfl
@[simp] theorem State.setCal_evf (s : State) (c : Nat) (x : Option CalEntry) : (s.setCal c x).evf = s.evf := rfl
@[simp] theorem State.setCal_tim (s : State) (c : Nat) (x : Option CalEntry) : (s.setCal c x).tim = s.tim := rfl
@[simp] theorem State.setCal_pins (s : State) (c : Nat) (x : Option CalEntry) : (s.setCal c x).pins = s.pins := rfl
@[simp] theorem State.setCal_free (s : State) (c : Nat) (x : Option CalEntry) : (s.setCal c x).free = s.free := rfl
@[simp] theorem State.setCal_pending (s : State) (c : Nat) (x : Option CalEntry) : (s.setCal c x).pending = s.pending := rfl

@[simp] theorem State.setLedger_regs (s : State) (b : Nat) (x : Ledger) : (s.setLedger b x).regs = s.regs := rfl
@[simp] theorem State.setLedger_latch (s : State) (b : Nat) (x : Ledger) : (s.setLedger b x).latch = s.latch := rfl
@[simp] theorem State.setLedger_time (s : State) (b : Nat) (x : Ledger) : (s.setLedger b x).time = s.time := rfl
@[simp] theorem State.setLedger_mem (s : State) (b : Nat) (x : Ledger) : (s.setLedger b x).mem = s.mem := rfl
@[simp] theorem State.setLedger_fuses (s : State) (b : Nat) (x : Ledger) : (s.setLedger b x).fuses = s.fuses := rfl
@[simp] theorem State.setLedger_rig (s : State) (b : Nat) (x : Ledger) : (s.setLedger b x).rig = s.rig := rfl
@[simp] theorem State.setLedger_apc (s : State) (b : Nat) (x : Ledger) : (s.setLedger b x).apc = s.apc := rfl
@[simp] theorem State.setLedger_lkc (s : State) (b : Nat) (x : Ledger) : (s.setLedger b x).lkc = s.lkc := rfl
@[simp] theorem State.setLedger_basin (s : State) (b : Nat) (x : Ledger) : (s.setLedger b x).basin = s.basin := rfl
@[simp] theorem State.setLedger_lanes (s : State) (b : Nat) (x : Ledger) : (s.setLedger b x).lanes = s.lanes := rfl
@[simp] theorem State.setLedger_rx (s : State) (b : Nat) (x : Ledger) : (s.setLedger b x).rx = s.rx := rfl
@[simp] theorem State.setLedger_tx (s : State) (b : Nat) (x : Ledger) : (s.setLedger b x).tx = s.tx := rfl
@[simp] theorem State.setLedger_trim (s : State) (b : Nat) (x : Ledger) : (s.setLedger b x).trim = s.trim := rfl
@[simp] theorem State.setLedger_utv (s : State) (b : Nat) (x : Ledger) : (s.setLedger b x).utv = s.utv := rfl
@[simp] theorem State.setLedger_flc (s : State) (b : Nat) (x : Ledger) : (s.setLedger b x).flc = s.flc := rfl
@[simp] theorem State.setLedger_dmc (s : State) (b : Nat) (x : Ledger) : (s.setLedger b x).dmc = s.dmc := rfl
@[simp] theorem State.setLedger_sec (s : State) (b : Nat) (x : Ledger) : (s.setLedger b x).sec = s.sec := rfl
@[simp] theorem State.setLedger_host (s : State) (b : Nat) (x : Ledger) : (s.setLedger b x).host = s.host := rfl
@[simp] theorem State.setLedger_psm (s : State) (b : Nat) (x : Ledger) : (s.setLedger b x).psm = s.psm := rfl
@[simp] theorem State.setLedger_pwr (s : State) (b : Nat) (x : Ledger) : (s.setLedger b x).pwr = s.pwr := rfl
@[simp] theorem State.setLedger_sluice (s : State) (b : Nat) (x : Ledger) : (s.setLedger b x).sluice = s.sluice := rfl
@[simp] theorem State.setLedger_evf (s : State) (b : Nat) (x : Ledger) : (s.setLedger b x).evf = s.evf := rfl
@[simp] theorem State.setLedger_tim (s : State) (b : Nat) (x : Ledger) : (s.setLedger b x).tim = s.tim := rfl
@[simp] theorem State.setLedger_pins (s : State) (b : Nat) (x : Ledger) : (s.setLedger b x).pins = s.pins := rfl
@[simp] theorem State.setLedger_free (s : State) (b : Nat) (x : Ledger) : (s.setLedger b x).free = s.free := rfl
@[simp] theorem State.setLedger_pending (s : State) (b : Nat) (x : Ledger) : (s.setLedger b x).pending = s.pending := rfl

@[simp] theorem State.setUport_regs (s : State) (p : Nat) (x : UPort) : (s.setUport p x).regs = s.regs := rfl
@[simp] theorem State.setUport_latch (s : State) (p : Nat) (x : UPort) : (s.setUport p x).latch = s.latch := rfl
@[simp] theorem State.setUport_time (s : State) (p : Nat) (x : UPort) : (s.setUport p x).time = s.time := rfl
@[simp] theorem State.setUport_mem (s : State) (p : Nat) (x : UPort) : (s.setUport p x).mem = s.mem := rfl
@[simp] theorem State.setUport_fuses (s : State) (p : Nat) (x : UPort) : (s.setUport p x).fuses = s.fuses := rfl
@[simp] theorem State.setUport_rig (s : State) (p : Nat) (x : UPort) : (s.setUport p x).rig = s.rig := rfl
@[simp] theorem State.setUport_apc (s : State) (p : Nat) (x : UPort) : (s.setUport p x).apc = s.apc := rfl
@[simp] theorem State.setUport_lkc (s : State) (p : Nat) (x : UPort) : (s.setUport p x).lkc = s.lkc := rfl
@[simp] theorem State.setUport_basin (s : State) (p : Nat) (x : UPort) : (s.setUport p x).basin = s.basin := rfl
@[simp] theorem State.setUport_lanes (s : State) (p : Nat) (x : UPort) : (s.setUport p x).lanes = s.lanes := rfl
@[simp] theorem State.setUport_rx (s : State) (p : Nat) (x : UPort) : (s.setUport p x).rx = s.rx := rfl
@[simp] theorem State.setUport_tx (s : State) (p : Nat) (x : UPort) : (s.setUport p x).tx = s.tx := rfl
@[simp] theorem State.setUport_link (s : State) (p : Nat) (x : UPort) : (s.setUport p x).link = s.link := rfl
@[simp] theorem State.setUport_trim (s : State) (p : Nat) (x : UPort) : (s.setUport p x).trim = s.trim := rfl
@[simp] theorem State.setUport_flc (s : State) (p : Nat) (x : UPort) : (s.setUport p x).flc = s.flc := rfl
@[simp] theorem State.setUport_dmc (s : State) (p : Nat) (x : UPort) : (s.setUport p x).dmc = s.dmc := rfl
@[simp] theorem State.setUport_sec (s : State) (p : Nat) (x : UPort) : (s.setUport p x).sec = s.sec := rfl
@[simp] theorem State.setUport_host (s : State) (p : Nat) (x : UPort) : (s.setUport p x).host = s.host := rfl
@[simp] theorem State.setUport_psm (s : State) (p : Nat) (x : UPort) : (s.setUport p x).psm = s.psm := rfl
@[simp] theorem State.setUport_pwr (s : State) (p : Nat) (x : UPort) : (s.setUport p x).pwr = s.pwr := rfl
@[simp] theorem State.setUport_sluice (s : State) (p : Nat) (x : UPort) : (s.setUport p x).sluice = s.sluice := rfl
@[simp] theorem State.setUport_evf (s : State) (p : Nat) (x : UPort) : (s.setUport p x).evf = s.evf := rfl
@[simp] theorem State.setUport_tim (s : State) (p : Nat) (x : UPort) : (s.setUport p x).tim = s.tim := rfl
@[simp] theorem State.setUport_pins (s : State) (p : Nat) (x : UPort) : (s.setUport p x).pins = s.pins := rfl
@[simp] theorem State.setUport_free (s : State) (p : Nat) (x : UPort) : (s.setUport p x).free = s.free := rfl
@[simp] theorem State.setUport_pending (s : State) (p : Nat) (x : UPort) : (s.setUport p x).pending = s.pending := rfl

@[simp] theorem State.setQueue_regs (s : State) (q : Nat) (x : List Pkt) : (s.setQueue q x).regs = s.regs := rfl
@[simp] theorem State.setQueue_latch (s : State) (q : Nat) (x : List Pkt) : (s.setQueue q x).latch = s.latch := rfl
@[simp] theorem State.setQueue_time (s : State) (q : Nat) (x : List Pkt) : (s.setQueue q x).time = s.time := rfl
@[simp] theorem State.setQueue_mem (s : State) (q : Nat) (x : List Pkt) : (s.setQueue q x).mem = s.mem := rfl
@[simp] theorem State.setQueue_fuses (s : State) (q : Nat) (x : List Pkt) : (s.setQueue q x).fuses = s.fuses := rfl
@[simp] theorem State.setQueue_rig (s : State) (q : Nat) (x : List Pkt) : (s.setQueue q x).rig = s.rig := rfl
@[simp] theorem State.setQueue_apc (s : State) (q : Nat) (x : List Pkt) : (s.setQueue q x).apc = s.apc := rfl
@[simp] theorem State.setQueue_lkc (s : State) (q : Nat) (x : List Pkt) : (s.setQueue q x).lkc = s.lkc := rfl
@[simp] theorem State.setQueue_lanes (s : State) (q : Nat) (x : List Pkt) : (s.setQueue q x).lanes = s.lanes := rfl
@[simp] theorem State.setQueue_rx (s : State) (q : Nat) (x : List Pkt) : (s.setQueue q x).rx = s.rx := rfl
@[simp] theorem State.setQueue_tx (s : State) (q : Nat) (x : List Pkt) : (s.setQueue q x).tx = s.tx := rfl
@[simp] theorem State.setQueue_link (s : State) (q : Nat) (x : List Pkt) : (s.setQueue q x).link = s.link := rfl
@[simp] theorem State.setQueue_trim (s : State) (q : Nat) (x : List Pkt) : (s.setQueue q x).trim = s.trim := rfl
@[simp] theorem State.setQueue_utv (s : State) (q : Nat) (x : List Pkt) : (s.setQueue q x).utv = s.utv := rfl
@[simp] theorem State.setQueue_flc (s : State) (q : Nat) (x : List Pkt) : (s.setQueue q x).flc = s.flc := rfl
@[simp] theorem State.setQueue_dmc (s : State) (q : Nat) (x : List Pkt) : (s.setQueue q x).dmc = s.dmc := rfl
@[simp] theorem State.setQueue_sec (s : State) (q : Nat) (x : List Pkt) : (s.setQueue q x).sec = s.sec := rfl
@[simp] theorem State.setQueue_host (s : State) (q : Nat) (x : List Pkt) : (s.setQueue q x).host = s.host := rfl
@[simp] theorem State.setQueue_psm (s : State) (q : Nat) (x : List Pkt) : (s.setQueue q x).psm = s.psm := rfl
@[simp] theorem State.setQueue_pwr (s : State) (q : Nat) (x : List Pkt) : (s.setQueue q x).pwr = s.pwr := rfl
@[simp] theorem State.setQueue_sluice (s : State) (q : Nat) (x : List Pkt) : (s.setQueue q x).sluice = s.sluice := rfl
@[simp] theorem State.setQueue_evf (s : State) (q : Nat) (x : List Pkt) : (s.setQueue q x).evf = s.evf := rfl
@[simp] theorem State.setQueue_tim (s : State) (q : Nat) (x : List Pkt) : (s.setQueue q x).tim = s.tim := rfl
@[simp] theorem State.setQueue_pins (s : State) (q : Nat) (x : List Pkt) : (s.setQueue q x).pins = s.pins := rfl
@[simp] theorem State.setQueue_free (s : State) (q : Nat) (x : List Pkt) : (s.setQueue q x).free = s.free := rfl
@[simp] theorem State.setQueue_pending (s : State) (q : Nat) (x : List Pkt) : (s.setQueue q x).pending = s.pending := rfl

@[simp] theorem State.setCopy_regs (s : State) (m : Nat) (x : BsnCopy) : (s.setCopy m x).regs = s.regs := rfl
@[simp] theorem State.setCopy_latch (s : State) (m : Nat) (x : BsnCopy) : (s.setCopy m x).latch = s.latch := rfl
@[simp] theorem State.setCopy_time (s : State) (m : Nat) (x : BsnCopy) : (s.setCopy m x).time = s.time := rfl
@[simp] theorem State.setCopy_mem (s : State) (m : Nat) (x : BsnCopy) : (s.setCopy m x).mem = s.mem := rfl
@[simp] theorem State.setCopy_fuses (s : State) (m : Nat) (x : BsnCopy) : (s.setCopy m x).fuses = s.fuses := rfl
@[simp] theorem State.setCopy_rig (s : State) (m : Nat) (x : BsnCopy) : (s.setCopy m x).rig = s.rig := rfl
@[simp] theorem State.setCopy_apc (s : State) (m : Nat) (x : BsnCopy) : (s.setCopy m x).apc = s.apc := rfl
@[simp] theorem State.setCopy_lkc (s : State) (m : Nat) (x : BsnCopy) : (s.setCopy m x).lkc = s.lkc := rfl
@[simp] theorem State.setCopy_lanes (s : State) (m : Nat) (x : BsnCopy) : (s.setCopy m x).lanes = s.lanes := rfl
@[simp] theorem State.setCopy_rx (s : State) (m : Nat) (x : BsnCopy) : (s.setCopy m x).rx = s.rx := rfl
@[simp] theorem State.setCopy_tx (s : State) (m : Nat) (x : BsnCopy) : (s.setCopy m x).tx = s.tx := rfl
@[simp] theorem State.setCopy_link (s : State) (m : Nat) (x : BsnCopy) : (s.setCopy m x).link = s.link := rfl
@[simp] theorem State.setCopy_trim (s : State) (m : Nat) (x : BsnCopy) : (s.setCopy m x).trim = s.trim := rfl
@[simp] theorem State.setCopy_utv (s : State) (m : Nat) (x : BsnCopy) : (s.setCopy m x).utv = s.utv := rfl
@[simp] theorem State.setCopy_flc (s : State) (m : Nat) (x : BsnCopy) : (s.setCopy m x).flc = s.flc := rfl
@[simp] theorem State.setCopy_dmc (s : State) (m : Nat) (x : BsnCopy) : (s.setCopy m x).dmc = s.dmc := rfl
@[simp] theorem State.setCopy_sec (s : State) (m : Nat) (x : BsnCopy) : (s.setCopy m x).sec = s.sec := rfl
@[simp] theorem State.setCopy_host (s : State) (m : Nat) (x : BsnCopy) : (s.setCopy m x).host = s.host := rfl
@[simp] theorem State.setCopy_psm (s : State) (m : Nat) (x : BsnCopy) : (s.setCopy m x).psm = s.psm := rfl
@[simp] theorem State.setCopy_pwr (s : State) (m : Nat) (x : BsnCopy) : (s.setCopy m x).pwr = s.pwr := rfl
@[simp] theorem State.setCopy_sluice (s : State) (m : Nat) (x : BsnCopy) : (s.setCopy m x).sluice = s.sluice := rfl
@[simp] theorem State.setCopy_evf (s : State) (m : Nat) (x : BsnCopy) : (s.setCopy m x).evf = s.evf := rfl
@[simp] theorem State.setCopy_tim (s : State) (m : Nat) (x : BsnCopy) : (s.setCopy m x).tim = s.tim := rfl
@[simp] theorem State.setCopy_pins (s : State) (m : Nat) (x : BsnCopy) : (s.setCopy m x).pins = s.pins := rfl
@[simp] theorem State.setCopy_free (s : State) (m : Nat) (x : BsnCopy) : (s.setCopy m x).free = s.free := rfl
@[simp] theorem State.setCopy_pending (s : State) (m : Nat) (x : BsnCopy) : (s.setCopy m x).pending = s.pending := rfl

@[simp] theorem State.setKeySlot_regs (s : State) (k : Nat) (x : KeySlot) : (s.setKeySlot k x).regs = s.regs := rfl
@[simp] theorem State.setKeySlot_latch (s : State) (k : Nat) (x : KeySlot) : (s.setKeySlot k x).latch = s.latch := rfl
@[simp] theorem State.setKeySlot_time (s : State) (k : Nat) (x : KeySlot) : (s.setKeySlot k x).time = s.time := rfl
@[simp] theorem State.setKeySlot_mem (s : State) (k : Nat) (x : KeySlot) : (s.setKeySlot k x).mem = s.mem := rfl
@[simp] theorem State.setKeySlot_fuses (s : State) (k : Nat) (x : KeySlot) : (s.setKeySlot k x).fuses = s.fuses := rfl
@[simp] theorem State.setKeySlot_rig (s : State) (k : Nat) (x : KeySlot) : (s.setKeySlot k x).rig = s.rig := rfl
@[simp] theorem State.setKeySlot_apc (s : State) (k : Nat) (x : KeySlot) : (s.setKeySlot k x).apc = s.apc := rfl
@[simp] theorem State.setKeySlot_lkc (s : State) (k : Nat) (x : KeySlot) : (s.setKeySlot k x).lkc = s.lkc := rfl
@[simp] theorem State.setKeySlot_basin (s : State) (k : Nat) (x : KeySlot) : (s.setKeySlot k x).basin = s.basin := rfl
@[simp] theorem State.setKeySlot_lanes (s : State) (k : Nat) (x : KeySlot) : (s.setKeySlot k x).lanes = s.lanes := rfl
@[simp] theorem State.setKeySlot_rx (s : State) (k : Nat) (x : KeySlot) : (s.setKeySlot k x).rx = s.rx := rfl
@[simp] theorem State.setKeySlot_tx (s : State) (k : Nat) (x : KeySlot) : (s.setKeySlot k x).tx = s.tx := rfl
@[simp] theorem State.setKeySlot_link (s : State) (k : Nat) (x : KeySlot) : (s.setKeySlot k x).link = s.link := rfl
@[simp] theorem State.setKeySlot_trim (s : State) (k : Nat) (x : KeySlot) : (s.setKeySlot k x).trim = s.trim := rfl
@[simp] theorem State.setKeySlot_utv (s : State) (k : Nat) (x : KeySlot) : (s.setKeySlot k x).utv = s.utv := rfl
@[simp] theorem State.setKeySlot_flc (s : State) (k : Nat) (x : KeySlot) : (s.setKeySlot k x).flc = s.flc := rfl
@[simp] theorem State.setKeySlot_dmc (s : State) (k : Nat) (x : KeySlot) : (s.setKeySlot k x).dmc = s.dmc := rfl
@[simp] theorem State.setKeySlot_host (s : State) (k : Nat) (x : KeySlot) : (s.setKeySlot k x).host = s.host := rfl
@[simp] theorem State.setKeySlot_psm (s : State) (k : Nat) (x : KeySlot) : (s.setKeySlot k x).psm = s.psm := rfl
@[simp] theorem State.setKeySlot_pwr (s : State) (k : Nat) (x : KeySlot) : (s.setKeySlot k x).pwr = s.pwr := rfl
@[simp] theorem State.setKeySlot_sluice (s : State) (k : Nat) (x : KeySlot) : (s.setKeySlot k x).sluice = s.sluice := rfl
@[simp] theorem State.setKeySlot_evf (s : State) (k : Nat) (x : KeySlot) : (s.setKeySlot k x).evf = s.evf := rfl
@[simp] theorem State.setKeySlot_tim (s : State) (k : Nat) (x : KeySlot) : (s.setKeySlot k x).tim = s.tim := rfl
@[simp] theorem State.setKeySlot_pins (s : State) (k : Nat) (x : KeySlot) : (s.setKeySlot k x).pins = s.pins := rfl
@[simp] theorem State.setKeySlot_free (s : State) (k : Nat) (x : KeySlot) : (s.setKeySlot k x).free = s.free := rfl
@[simp] theorem State.setKeySlot_pending (s : State) (k : Nat) (x : KeySlot) : (s.setKeySlot k x).pending = s.pending := rfl

@[simp] theorem State.setPsm_regs (s : State) (x : Nat) (v : Psm) : (s.setPsm x v).regs = s.regs := rfl
@[simp] theorem State.setPsm_latch (s : State) (x : Nat) (v : Psm) : (s.setPsm x v).latch = s.latch := rfl
@[simp] theorem State.setPsm_time (s : State) (x : Nat) (v : Psm) : (s.setPsm x v).time = s.time := rfl
@[simp] theorem State.setPsm_mem (s : State) (x : Nat) (v : Psm) : (s.setPsm x v).mem = s.mem := rfl
@[simp] theorem State.setPsm_fuses (s : State) (x : Nat) (v : Psm) : (s.setPsm x v).fuses = s.fuses := rfl
@[simp] theorem State.setPsm_rig (s : State) (x : Nat) (v : Psm) : (s.setPsm x v).rig = s.rig := rfl
@[simp] theorem State.setPsm_apc (s : State) (x : Nat) (v : Psm) : (s.setPsm x v).apc = s.apc := rfl
@[simp] theorem State.setPsm_lkc (s : State) (x : Nat) (v : Psm) : (s.setPsm x v).lkc = s.lkc := rfl
@[simp] theorem State.setPsm_basin (s : State) (x : Nat) (v : Psm) : (s.setPsm x v).basin = s.basin := rfl
@[simp] theorem State.setPsm_lanes (s : State) (x : Nat) (v : Psm) : (s.setPsm x v).lanes = s.lanes := rfl
@[simp] theorem State.setPsm_rx (s : State) (x : Nat) (v : Psm) : (s.setPsm x v).rx = s.rx := rfl
@[simp] theorem State.setPsm_tx (s : State) (x : Nat) (v : Psm) : (s.setPsm x v).tx = s.tx := rfl
@[simp] theorem State.setPsm_link (s : State) (x : Nat) (v : Psm) : (s.setPsm x v).link = s.link := rfl
@[simp] theorem State.setPsm_trim (s : State) (x : Nat) (v : Psm) : (s.setPsm x v).trim = s.trim := rfl
@[simp] theorem State.setPsm_utv (s : State) (x : Nat) (v : Psm) : (s.setPsm x v).utv = s.utv := rfl
@[simp] theorem State.setPsm_flc (s : State) (x : Nat) (v : Psm) : (s.setPsm x v).flc = s.flc := rfl
@[simp] theorem State.setPsm_dmc (s : State) (x : Nat) (v : Psm) : (s.setPsm x v).dmc = s.dmc := rfl
@[simp] theorem State.setPsm_sec (s : State) (x : Nat) (v : Psm) : (s.setPsm x v).sec = s.sec := rfl
@[simp] theorem State.setPsm_host (s : State) (x : Nat) (v : Psm) : (s.setPsm x v).host = s.host := rfl
@[simp] theorem State.setPsm_pwr (s : State) (x : Nat) (v : Psm) : (s.setPsm x v).pwr = s.pwr := rfl
@[simp] theorem State.setPsm_sluice (s : State) (x : Nat) (v : Psm) : (s.setPsm x v).sluice = s.sluice := rfl
@[simp] theorem State.setPsm_evf (s : State) (x : Nat) (v : Psm) : (s.setPsm x v).evf = s.evf := rfl
@[simp] theorem State.setPsm_tim (s : State) (x : Nat) (v : Psm) : (s.setPsm x v).tim = s.tim := rfl
@[simp] theorem State.setPsm_pins (s : State) (x : Nat) (v : Psm) : (s.setPsm x v).pins = s.pins := rfl
@[simp] theorem State.setPsm_free (s : State) (x : Nat) (v : Psm) : (s.setPsm x v).free = s.free := rfl
@[simp] theorem State.setPsm_pending (s : State) (x : Nat) (v : Psm) : (s.setPsm x v).pending = s.pending := rfl

@[simp] theorem State.setCore_regs (s : State) (c : Core) (x : CoreState) : (s.setCore c x).regs = s.regs := by cases c <;> rfl
@[simp] theorem State.setCore_latch (s : State) (c : Core) (x : CoreState) : (s.setCore c x).latch = s.latch := by cases c <;> rfl
@[simp] theorem State.setCore_time (s : State) (c : Core) (x : CoreState) : (s.setCore c x).time = s.time := by cases c <;> rfl
@[simp] theorem State.setCore_mem (s : State) (c : Core) (x : CoreState) : (s.setCore c x).mem = s.mem := by cases c <;> rfl
@[simp] theorem State.setCore_fuses (s : State) (c : Core) (x : CoreState) : (s.setCore c x).fuses = s.fuses := by cases c <;> rfl
@[simp] theorem State.setCore_rig (s : State) (c : Core) (x : CoreState) : (s.setCore c x).rig = s.rig := by cases c <;> rfl
@[simp] theorem State.setCore_basin (s : State) (c : Core) (x : CoreState) : (s.setCore c x).basin = s.basin := by cases c <;> rfl
@[simp] theorem State.setCore_lanes (s : State) (c : Core) (x : CoreState) : (s.setCore c x).lanes = s.lanes := by cases c <;> rfl
@[simp] theorem State.setCore_rx (s : State) (c : Core) (x : CoreState) : (s.setCore c x).rx = s.rx := by cases c <;> rfl
@[simp] theorem State.setCore_tx (s : State) (c : Core) (x : CoreState) : (s.setCore c x).tx = s.tx := by cases c <;> rfl
@[simp] theorem State.setCore_link (s : State) (c : Core) (x : CoreState) : (s.setCore c x).link = s.link := by cases c <;> rfl
@[simp] theorem State.setCore_trim (s : State) (c : Core) (x : CoreState) : (s.setCore c x).trim = s.trim := by cases c <;> rfl
@[simp] theorem State.setCore_utv (s : State) (c : Core) (x : CoreState) : (s.setCore c x).utv = s.utv := by cases c <;> rfl
@[simp] theorem State.setCore_flc (s : State) (c : Core) (x : CoreState) : (s.setCore c x).flc = s.flc := by cases c <;> rfl
@[simp] theorem State.setCore_dmc (s : State) (c : Core) (x : CoreState) : (s.setCore c x).dmc = s.dmc := by cases c <;> rfl
@[simp] theorem State.setCore_sec (s : State) (c : Core) (x : CoreState) : (s.setCore c x).sec = s.sec := by cases c <;> rfl
@[simp] theorem State.setCore_host (s : State) (c : Core) (x : CoreState) : (s.setCore c x).host = s.host := by cases c <;> rfl
@[simp] theorem State.setCore_psm (s : State) (c : Core) (x : CoreState) : (s.setCore c x).psm = s.psm := by cases c <;> rfl
@[simp] theorem State.setCore_pwr (s : State) (c : Core) (x : CoreState) : (s.setCore c x).pwr = s.pwr := by cases c <;> rfl
@[simp] theorem State.setCore_sluice (s : State) (c : Core) (x : CoreState) : (s.setCore c x).sluice = s.sluice := by cases c <;> rfl
@[simp] theorem State.setCore_evf (s : State) (c : Core) (x : CoreState) : (s.setCore c x).evf = s.evf := by cases c <;> rfl
@[simp] theorem State.setCore_tim (s : State) (c : Core) (x : CoreState) : (s.setCore c x).tim = s.tim := by cases c <;> rfl
@[simp] theorem State.setCore_pins (s : State) (c : Core) (x : CoreState) : (s.setCore c x).pins = s.pins := by cases c <;> rfl
@[simp] theorem State.setCore_free (s : State) (c : Core) (x : CoreState) : (s.setCore c x).free = s.free := by cases c <;> rfl
@[simp] theorem State.setCore_pending (s : State) (c : Core) (x : CoreState) : (s.setCore c x).pending = s.pending := by cases c <;> rfl

/-! ## Readers after writers -/

@[simp] theorem State.core_setCore (s : State) (c : Core) (x : CoreState) : (s.setCore c x).core c = x := by
  cases c <;> rfl

theorem State.core_setCore_other (s : State) {c d : Core} (x : CoreState) (h : c ≠ d) : (s.setCore c x).core d = s.core d := by
  cases c <;> cases d <;> simp_all [State.setCore, State.core]

@[simp] theorem State.setCore_get (s : State) (c : Core) (x : CoreState) (p : Nat) : (s.setCore c x).get p = s.get p := by
  cases c <;> rfl

@[simp] theorem State.lane_setLane (s : State) (l : Nat) (v : Lane) : (s.setLane l v).lane l = v :=
  Cells.rd_wr_same _ _ _ _

theorem State.lane_setLane_other (s : State) {l j : Nat} (v : Lane) (h : l ≠ j) : (s.setLane l v).lane j = s.lane j :=
  Cells.rd_wr_other _ _ _ h

@[simp] theorem State.chain_setChain (s : State) (c : Nat) (v : RxState) : (s.setChain c v).chain c = v :=
  Cells.rd_wr_same _ _ _ _

theorem State.chain_setChain_other (s : State) {c j : Nat} (v : RxState) (h : c ≠ j) : (s.setChain c v).chain j = s.chain j :=
  Cells.rd_wr_other _ _ _ h

@[simp] theorem State.txc_setTxc (s : State) (t : Nat) (v : TxState) : (s.setTxc t v).txc t = v :=
  Cells.rd_wr_same _ _ _ _

theorem State.txc_setTxc_other (s : State) {t j : Nat} (v : TxState) (h : t ≠ j) : (s.setTxc t v).txc j = s.txc j :=
  Cells.rd_wr_other _ _ _ h

@[simp] theorem State.event_setEvent (s : State) (q : Nat) (v : Option Event) : (s.setEvent q v).event q = v :=
  Cells.rd_wr_same _ _ _ _

theorem State.event_setEvent_other (s : State) {q j : Nat} (v : Option Event) (h : q ≠ j) : (s.setEvent q v).event j = s.event j :=
  Cells.rd_wr_other _ _ _ h

@[simp] theorem State.cal_setCal (s : State) (c : Nat) (v : Option CalEntry) : (s.setCal c v).cal c = v :=
  Cells.rd_wr_same _ _ _ _

theorem State.cal_setCal_other (s : State) {c j : Nat} (v : Option CalEntry) (h : c ≠ j) : (s.setCal c v).cal j = s.cal j :=
  Cells.rd_wr_other _ _ _ h

@[simp] theorem State.ledger_setLedger (s : State) (b : Nat) (v : Ledger) : (s.setLedger b v).ledger b = v :=
  Cells.rd_wr_same _ _ _ _

theorem State.ledger_setLedger_other (s : State) {b j : Nat} (v : Ledger) (h : b ≠ j) : (s.setLedger b v).ledger j = s.ledger j :=
  Cells.rd_wr_other _ _ _ h

@[simp] theorem State.uport_setUport (s : State) (p : Nat) (v : UPort) : (s.setUport p v).uport p = v :=
  Cells.rd_wr_same _ _ _ _

theorem State.uport_setUport_other (s : State) {p j : Nat} (v : UPort) (h : p ≠ j) : (s.setUport p v).uport j = s.uport j :=
  Cells.rd_wr_other _ _ _ h

@[simp] theorem State.queue_setQueue (s : State) (q : Nat) (v : List Pkt) : (s.setQueue q v).queue q = v :=
  Cells.rd_wr_same _ _ _ _

theorem State.queue_setQueue_other (s : State) {q j : Nat} (v : List Pkt) (h : q ≠ j) : (s.setQueue q v).queue j = s.queue j :=
  Cells.rd_wr_other _ _ _ h

@[simp] theorem State.copy_setCopy (s : State) (m : Nat) (v : BsnCopy) : (s.setCopy m v).copy m = v :=
  Cells.rd_wr_same _ _ _ _

theorem State.copy_setCopy_other (s : State) {m j : Nat} (v : BsnCopy) (h : m ≠ j) : (s.setCopy m v).copy j = s.copy j :=
  Cells.rd_wr_other _ _ _ h

@[simp] theorem State.keySlot_setKeySlot (s : State) (k : Nat) (v : KeySlot) : (s.setKeySlot k v).keySlot k = v :=
  Cells.rd_wr_same _ _ _ _

theorem State.keySlot_setKeySlot_other (s : State) {k j : Nat} (v : KeySlot) (h : k ≠ j) : (s.setKeySlot k v).keySlot j = s.keySlot j :=
  Cells.rd_wr_other _ _ _ h

@[simp] theorem State.psmOf_setPsm (s : State) (x : Nat) (v : Psm) : (s.setPsm x v).psmOf x = v :=
  Cells.rd_wr_same _ _ _ _

theorem State.psmOf_setPsm_other (s : State) {x j : Nat} (v : Psm) (h : x ≠ j) : (s.setPsm x v).psmOf j = s.psmOf j :=
  Cells.rd_wr_other _ _ _ h

@[simp] theorem State.set_lane (s : State) (p : Nat) (v : Word) (j : Nat) : (s.set p v).lane j = s.lane j := rfl
@[simp] theorem State.setF_lane (s : State) (p hi lo v : Nat) (j : Nat) : (s.setF p hi lo v).lane j = s.lane j := rfl
@[simp] theorem State.setB_lane (s : State) (p b : Nat) (v : Bool) (j : Nat) : (s.setB p b v).lane j = s.lane j := rfl
@[simp] theorem State.count_lane (s : State) (p : Nat) (j : Nat) : (s.count p).lane j = s.lane j := rfl
@[simp] theorem State.countF_lane (s : State) (p hi lo : Nat) (j : Nat) : (s.countF p hi lo).lane j = s.lane j := rfl
@[simp] theorem State.setWide_lane (s : State) (p n v : Nat) (j : Nat) : (s.setWide p n v).lane j = s.lane j := rfl
@[simp] theorem State.coldRegs_lane (s : State) (p : Nat → Bool) (j : Nat) : (s.coldRegs p).lane j = s.lane j := rfl
@[simp] theorem State.nextFree_lane (s : State) (j : Nat) : (s.nextFree).lane j = s.lane j := rfl
@[simp] theorem State.set_chain (s : State) (p : Nat) (v : Word) (j : Nat) : (s.set p v).chain j = s.chain j := rfl
@[simp] theorem State.setF_chain (s : State) (p hi lo v : Nat) (j : Nat) : (s.setF p hi lo v).chain j = s.chain j := rfl
@[simp] theorem State.setB_chain (s : State) (p b : Nat) (v : Bool) (j : Nat) : (s.setB p b v).chain j = s.chain j := rfl
@[simp] theorem State.count_chain (s : State) (p : Nat) (j : Nat) : (s.count p).chain j = s.chain j := rfl
@[simp] theorem State.countF_chain (s : State) (p hi lo : Nat) (j : Nat) : (s.countF p hi lo).chain j = s.chain j := rfl
@[simp] theorem State.setWide_chain (s : State) (p n v : Nat) (j : Nat) : (s.setWide p n v).chain j = s.chain j := rfl
@[simp] theorem State.coldRegs_chain (s : State) (p : Nat → Bool) (j : Nat) : (s.coldRegs p).chain j = s.chain j := rfl
@[simp] theorem State.nextFree_chain (s : State) (j : Nat) : (s.nextFree).chain j = s.chain j := rfl
@[simp] theorem State.set_txc (s : State) (p : Nat) (v : Word) (j : Nat) : (s.set p v).txc j = s.txc j := rfl
@[simp] theorem State.setF_txc (s : State) (p hi lo v : Nat) (j : Nat) : (s.setF p hi lo v).txc j = s.txc j := rfl
@[simp] theorem State.setB_txc (s : State) (p b : Nat) (v : Bool) (j : Nat) : (s.setB p b v).txc j = s.txc j := rfl
@[simp] theorem State.count_txc (s : State) (p : Nat) (j : Nat) : (s.count p).txc j = s.txc j := rfl
@[simp] theorem State.countF_txc (s : State) (p hi lo : Nat) (j : Nat) : (s.countF p hi lo).txc j = s.txc j := rfl
@[simp] theorem State.setWide_txc (s : State) (p n v : Nat) (j : Nat) : (s.setWide p n v).txc j = s.txc j := rfl
@[simp] theorem State.coldRegs_txc (s : State) (p : Nat → Bool) (j : Nat) : (s.coldRegs p).txc j = s.txc j := rfl
@[simp] theorem State.nextFree_txc (s : State) (j : Nat) : (s.nextFree).txc j = s.txc j := rfl
@[simp] theorem State.set_event (s : State) (p : Nat) (v : Word) (j : Nat) : (s.set p v).event j = s.event j := rfl
@[simp] theorem State.setF_event (s : State) (p hi lo v : Nat) (j : Nat) : (s.setF p hi lo v).event j = s.event j := rfl
@[simp] theorem State.setB_event (s : State) (p b : Nat) (v : Bool) (j : Nat) : (s.setB p b v).event j = s.event j := rfl
@[simp] theorem State.count_event (s : State) (p : Nat) (j : Nat) : (s.count p).event j = s.event j := rfl
@[simp] theorem State.countF_event (s : State) (p hi lo : Nat) (j : Nat) : (s.countF p hi lo).event j = s.event j := rfl
@[simp] theorem State.setWide_event (s : State) (p n v : Nat) (j : Nat) : (s.setWide p n v).event j = s.event j := rfl
@[simp] theorem State.coldRegs_event (s : State) (p : Nat → Bool) (j : Nat) : (s.coldRegs p).event j = s.event j := rfl
@[simp] theorem State.nextFree_event (s : State) (j : Nat) : (s.nextFree).event j = s.event j := rfl
@[simp] theorem State.set_cal (s : State) (p : Nat) (v : Word) (j : Nat) : (s.set p v).cal j = s.cal j := rfl
@[simp] theorem State.setF_cal (s : State) (p hi lo v : Nat) (j : Nat) : (s.setF p hi lo v).cal j = s.cal j := rfl
@[simp] theorem State.setB_cal (s : State) (p b : Nat) (v : Bool) (j : Nat) : (s.setB p b v).cal j = s.cal j := rfl
@[simp] theorem State.count_cal (s : State) (p : Nat) (j : Nat) : (s.count p).cal j = s.cal j := rfl
@[simp] theorem State.countF_cal (s : State) (p hi lo : Nat) (j : Nat) : (s.countF p hi lo).cal j = s.cal j := rfl
@[simp] theorem State.setWide_cal (s : State) (p n v : Nat) (j : Nat) : (s.setWide p n v).cal j = s.cal j := rfl
@[simp] theorem State.coldRegs_cal (s : State) (p : Nat → Bool) (j : Nat) : (s.coldRegs p).cal j = s.cal j := rfl
@[simp] theorem State.nextFree_cal (s : State) (j : Nat) : (s.nextFree).cal j = s.cal j := rfl
@[simp] theorem State.set_ledger (s : State) (p : Nat) (v : Word) (j : Nat) : (s.set p v).ledger j = s.ledger j := rfl
@[simp] theorem State.setF_ledger (s : State) (p hi lo v : Nat) (j : Nat) : (s.setF p hi lo v).ledger j = s.ledger j := rfl
@[simp] theorem State.setB_ledger (s : State) (p b : Nat) (v : Bool) (j : Nat) : (s.setB p b v).ledger j = s.ledger j := rfl
@[simp] theorem State.count_ledger (s : State) (p : Nat) (j : Nat) : (s.count p).ledger j = s.ledger j := rfl
@[simp] theorem State.countF_ledger (s : State) (p hi lo : Nat) (j : Nat) : (s.countF p hi lo).ledger j = s.ledger j := rfl
@[simp] theorem State.setWide_ledger (s : State) (p n v : Nat) (j : Nat) : (s.setWide p n v).ledger j = s.ledger j := rfl
@[simp] theorem State.coldRegs_ledger (s : State) (p : Nat → Bool) (j : Nat) : (s.coldRegs p).ledger j = s.ledger j := rfl
@[simp] theorem State.nextFree_ledger (s : State) (j : Nat) : (s.nextFree).ledger j = s.ledger j := rfl
@[simp] theorem State.set_uport (s : State) (p : Nat) (v : Word) (j : Nat) : (s.set p v).uport j = s.uport j := rfl
@[simp] theorem State.setF_uport (s : State) (p hi lo v : Nat) (j : Nat) : (s.setF p hi lo v).uport j = s.uport j := rfl
@[simp] theorem State.setB_uport (s : State) (p b : Nat) (v : Bool) (j : Nat) : (s.setB p b v).uport j = s.uport j := rfl
@[simp] theorem State.count_uport (s : State) (p : Nat) (j : Nat) : (s.count p).uport j = s.uport j := rfl
@[simp] theorem State.countF_uport (s : State) (p hi lo : Nat) (j : Nat) : (s.countF p hi lo).uport j = s.uport j := rfl
@[simp] theorem State.setWide_uport (s : State) (p n v : Nat) (j : Nat) : (s.setWide p n v).uport j = s.uport j := rfl
@[simp] theorem State.coldRegs_uport (s : State) (p : Nat → Bool) (j : Nat) : (s.coldRegs p).uport j = s.uport j := rfl
@[simp] theorem State.nextFree_uport (s : State) (j : Nat) : (s.nextFree).uport j = s.uport j := rfl
@[simp] theorem State.set_queue (s : State) (p : Nat) (v : Word) (j : Nat) : (s.set p v).queue j = s.queue j := rfl
@[simp] theorem State.setF_queue (s : State) (p hi lo v : Nat) (j : Nat) : (s.setF p hi lo v).queue j = s.queue j := rfl
@[simp] theorem State.setB_queue (s : State) (p b : Nat) (v : Bool) (j : Nat) : (s.setB p b v).queue j = s.queue j := rfl
@[simp] theorem State.count_queue (s : State) (p : Nat) (j : Nat) : (s.count p).queue j = s.queue j := rfl
@[simp] theorem State.countF_queue (s : State) (p hi lo : Nat) (j : Nat) : (s.countF p hi lo).queue j = s.queue j := rfl
@[simp] theorem State.setWide_queue (s : State) (p n v : Nat) (j : Nat) : (s.setWide p n v).queue j = s.queue j := rfl
@[simp] theorem State.coldRegs_queue (s : State) (p : Nat → Bool) (j : Nat) : (s.coldRegs p).queue j = s.queue j := rfl
@[simp] theorem State.nextFree_queue (s : State) (j : Nat) : (s.nextFree).queue j = s.queue j := rfl
@[simp] theorem State.set_copy (s : State) (p : Nat) (v : Word) (j : Nat) : (s.set p v).copy j = s.copy j := rfl
@[simp] theorem State.setF_copy (s : State) (p hi lo v : Nat) (j : Nat) : (s.setF p hi lo v).copy j = s.copy j := rfl
@[simp] theorem State.setB_copy (s : State) (p b : Nat) (v : Bool) (j : Nat) : (s.setB p b v).copy j = s.copy j := rfl
@[simp] theorem State.count_copy (s : State) (p : Nat) (j : Nat) : (s.count p).copy j = s.copy j := rfl
@[simp] theorem State.countF_copy (s : State) (p hi lo : Nat) (j : Nat) : (s.countF p hi lo).copy j = s.copy j := rfl
@[simp] theorem State.setWide_copy (s : State) (p n v : Nat) (j : Nat) : (s.setWide p n v).copy j = s.copy j := rfl
@[simp] theorem State.coldRegs_copy (s : State) (p : Nat → Bool) (j : Nat) : (s.coldRegs p).copy j = s.copy j := rfl
@[simp] theorem State.nextFree_copy (s : State) (j : Nat) : (s.nextFree).copy j = s.copy j := rfl
@[simp] theorem State.set_keySlot (s : State) (p : Nat) (v : Word) (j : Nat) : (s.set p v).keySlot j = s.keySlot j := rfl
@[simp] theorem State.setF_keySlot (s : State) (p hi lo v : Nat) (j : Nat) : (s.setF p hi lo v).keySlot j = s.keySlot j := rfl
@[simp] theorem State.setB_keySlot (s : State) (p b : Nat) (v : Bool) (j : Nat) : (s.setB p b v).keySlot j = s.keySlot j := rfl
@[simp] theorem State.count_keySlot (s : State) (p : Nat) (j : Nat) : (s.count p).keySlot j = s.keySlot j := rfl
@[simp] theorem State.countF_keySlot (s : State) (p hi lo : Nat) (j : Nat) : (s.countF p hi lo).keySlot j = s.keySlot j := rfl
@[simp] theorem State.setWide_keySlot (s : State) (p n v : Nat) (j : Nat) : (s.setWide p n v).keySlot j = s.keySlot j := rfl
@[simp] theorem State.coldRegs_keySlot (s : State) (p : Nat → Bool) (j : Nat) : (s.coldRegs p).keySlot j = s.keySlot j := rfl
@[simp] theorem State.nextFree_keySlot (s : State) (j : Nat) : (s.nextFree).keySlot j = s.keySlot j := rfl
@[simp] theorem State.set_psmOf (s : State) (p : Nat) (v : Word) (j : Nat) : (s.set p v).psmOf j = s.psmOf j := rfl
@[simp] theorem State.setF_psmOf (s : State) (p hi lo v : Nat) (j : Nat) : (s.setF p hi lo v).psmOf j = s.psmOf j := rfl
@[simp] theorem State.setB_psmOf (s : State) (p b : Nat) (v : Bool) (j : Nat) : (s.setB p b v).psmOf j = s.psmOf j := rfl
@[simp] theorem State.count_psmOf (s : State) (p : Nat) (j : Nat) : (s.count p).psmOf j = s.psmOf j := rfl
@[simp] theorem State.countF_psmOf (s : State) (p hi lo : Nat) (j : Nat) : (s.countF p hi lo).psmOf j = s.psmOf j := rfl
@[simp] theorem State.setWide_psmOf (s : State) (p n v : Nat) (j : Nat) : (s.setWide p n v).psmOf j = s.psmOf j := rfl
@[simp] theorem State.coldRegs_psmOf (s : State) (p : Nat → Bool) (j : Nat) : (s.coldRegs p).psmOf j = s.psmOf j := rfl
@[simp] theorem State.nextFree_psmOf (s : State) (j : Nat) : (s.nextFree).psmOf j = s.psmOf j := rfl
@[simp] theorem State.set_core (s : State) (p : Nat) (v : Word) (d : Core) : (s.set p v).core d = s.core d := by cases d <;> rfl
@[simp] theorem State.setF_core (s : State) (p hi lo v : Nat) (d : Core) : (s.setF p hi lo v).core d = s.core d := by cases d <;> rfl
@[simp] theorem State.setB_core (s : State) (p b : Nat) (v : Bool) (d : Core) : (s.setB p b v).core d = s.core d := by cases d <;> rfl
@[simp] theorem State.count_core (s : State) (p : Nat) (d : Core) : (s.count p).core d = s.core d := by cases d <;> rfl
@[simp] theorem State.countF_core (s : State) (p hi lo : Nat) (d : Core) : (s.countF p hi lo).core d = s.core d := by cases d <;> rfl
@[simp] theorem State.setWide_core (s : State) (p n v : Nat) (d : Core) : (s.setWide p n v).core d = s.core d := by cases d <;> rfl
@[simp] theorem State.coldRegs_core (s : State) (p : Nat → Bool) (d : Core) : (s.coldRegs p).core d = s.core d := by cases d <;> rfl
@[simp] theorem State.nextFree_core (s : State) (d : Core) : (s.nextFree).core d = s.core d := by cases d <;> rfl
@[simp] theorem State.nextFree_get (s : State) (j : Nat) : (s.nextFree).get j = s.get j := rfl
@[simp] theorem State.setLane_get (s : State) (l : Nat) (x : Lane) (j : Nat) : (s.setLane l x).get j = s.get j := rfl
@[simp] theorem State.setChain_get (s : State) (c : Nat) (x : RxState) (j : Nat) : (s.setChain c x).get j = s.get j := rfl
@[simp] theorem State.setTxc_get (s : State) (t : Nat) (x : TxState) (j : Nat) : (s.setTxc t x).get j = s.get j := rfl
@[simp] theorem State.setEvent_get (s : State) (q : Nat) (x : Option Event) (j : Nat) : (s.setEvent q x).get j = s.get j := rfl
@[simp] theorem State.setCal_get (s : State) (c : Nat) (x : Option CalEntry) (j : Nat) : (s.setCal c x).get j = s.get j := rfl
@[simp] theorem State.setLedger_get (s : State) (b : Nat) (x : Ledger) (j : Nat) : (s.setLedger b x).get j = s.get j := rfl
@[simp] theorem State.setUport_get (s : State) (p : Nat) (x : UPort) (j : Nat) : (s.setUport p x).get j = s.get j := rfl
@[simp] theorem State.setQueue_get (s : State) (q : Nat) (x : List Pkt) (j : Nat) : (s.setQueue q x).get j = s.get j := rfl
@[simp] theorem State.setCopy_get (s : State) (m : Nat) (x : BsnCopy) (j : Nat) : (s.setCopy m x).get j = s.get j := rfl
@[simp] theorem State.setKeySlot_get (s : State) (k : Nat) (x : KeySlot) (j : Nat) : (s.setKeySlot k x).get j = s.get j := rfl
@[simp] theorem State.setPsm_get (s : State) (x : Nat) (v : Psm) (j : Nat) : (s.setPsm x v).get j = s.get j := rfl

end Sys2Proof.Machine
end

