-- ==== Sys2Proof/Laws/Ops.lean ====
section
/-! SUPPORT. One law per shared operation: what a fold over units keeps, what a raise can change, when a named command of
a master acts, and what a step runs. -/

namespace Sys2Proof.Machine

open Sys2Proof

variable {β : Type}

/-! ## Folds -/

/-- What every pass of a fold keeps, the fold keeps. -/
theorem forEach_keeps {α : Type} (g : State → β) (f : α → State → State) (h : ∀ a t, g (f a t) = g t) (l : List α) :
    ∀ s, g (forEach l f s) = g s := by
  unfold forEach
  induction l with
  | nil => intro s; rfl
  | cons a r ih => intro s; rw [List.foldl_cons, ih, h]

theorem forNat_keeps (g : State → β) (f : Nat → State → State) (h : ∀ i t, g (f i t) = g t) (n : Nat) (s : State) :
    g (forNat n f s) = g s := by
  unfold forNat
  exact forEach_keeps g f h (List.range n) s

/-- What holds before a fold and survives every pass holds after it. -/
theorem forEach_inv {α : Type} (P : State → Prop) (f : α → State → State) (h : ∀ a t, P t → P (f a t)) (l : List α) :
    ∀ s, P s → P (forEach l f s) := by
  unfold forEach
  induction l with
  | nil => intro s hs; exact hs
  | cons a r ih => intro s hs; exact ih _ (h a s hs)

theorem forNat_inv (P : State → Prop) (f : Nat → State → State) (h : ∀ i t, P t → P (f i t)) (n : Nat) (s : State)
    (hs : P s) : P (forNat n f s) := by
  unfold forNat
  exact forEach_inv P f h (List.range n) s hs

/-! ## Raising (R287, R414-R421) -/

/-- What raising a source or a producer leaves alone: everything but the registers of the event fabric, the fabric's own
state and the pending bits of the cores. -/
structure RaiseFrame (s t : State) : Prop where
  regs : ∀ p, (p < 0x0400 ∨ 0x0586 ≤ p) → t.get p = s.get p
  apc : ∃ b, t.apc = { s.apc with ipend := s.apc.ipend ||| b }
  lkc : ∃ b, t.lkc = { s.lkc with ipend := s.lkc.ipend ||| b }
  rest : ∃ r a l e, t = { s with regs := r, apc := a, lkc := l, evf := e }

theorem RaiseFrame.refl (s : State) : RaiseFrame s s :=
  ⟨fun _ _ => rfl, ⟨0, by simp⟩, ⟨0, by simp⟩, s.regs, s.apc, s.lkc, s.evf, rfl⟩

theorem RaiseFrame.trans {s t u : State} (h : RaiseFrame s t) (k : RaiseFrame t u) : RaiseFrame s u := by
  obtain ⟨h1, ⟨a, ha⟩, ⟨b, hb⟩, r, x, y, e, hr⟩ := h
  obtain ⟨k1, ⟨a', ka⟩, ⟨b', kb⟩, r', x', y', e', kr⟩ := k
  refine ⟨fun p hp => (k1 p hp).trans (h1 p hp), ⟨a ||| a', ?_⟩, ⟨b ||| b', ?_⟩, r', x', y', e', ?_⟩
  · rw [ka, ha]; simp [BitVec.or_assoc]
  · rw [kb, hb]; simp [BitVec.or_assoc]
  · rw [kr, hr]

theorem CoreState.pend_or (c : CoreState) (n : Nat) : ∃ b, c.pend n = { c with ipend := c.ipend ||| b } := by
  unfold CoreState.pend
  split
  · exact ⟨0, by simp⟩
  · exact ⟨_, rfl⟩

theorem pendBoth_frame (s : State) (n : Nat) : RaiseFrame s (s.pendBoth n) :=
  ⟨fun _ _ => rfl, s.apc.pend_or n, s.lkc.pend_or n, s.regs, _, _, s.evf, rfl⟩

theorem set_frame (s : State) (p : Nat) (v : Word) (h : 0x0400 ≤ p ∧ p < 0x0586) : RaiseFrame s (s.set p v) :=
  ⟨fun q hq => s.get_set_other v (by omega), ⟨0, by simp⟩, ⟨0, by simp⟩, _, _, _, _, rfl⟩

theorem evf_frame (s : State) (e : Evf) : RaiseFrame s { s with evf := e } :=
  ⟨fun _ _ => rfl, ⟨0, by simp⟩, ⟨0, by simp⟩, _, _, _, _, rfl⟩

theorem setChTasks_frame (s : State) (ch : Nat) (l : List Nat) (h : ch < 48) : RaiseFrame s (s.setChTasks ch l) :=
  (evf_frame s _).trans (set_frame _ _ _ (by unfold Port.EVF_CH_STAT; omega))

theorem ite_frame {s a b : State} {p : Prop} [Decidable p] (h : p → RaiseFrame s a) (k : ¬p → RaiseFrame s b) :
    RaiseFrame s (if p then a else b) := by
  split
  · rename_i x; exact h x
  · rename_i x; exact k x

theorem guardCount_frame (s : State) (ch : Nat) (h : ch < 48) : RaiseFrame s (s.guardCount ch) := by
  have stat : 0x0400 ≤ Port.EVF_CH_STAT ch ∧ Port.EVF_CH_STAT ch < 0x0586 := by unfold Port.EVF_CH_STAT; omega
  have grp : 0x0400 ≤ Port.EVF_GRP ∧ Port.EVF_GRP < 0x0586 := by decide
  have trip : 0x0400 ≤ Port.EVF_TRIP ∧ Port.EVF_TRIP < 0x0586 := by decide
  unfold State.guardCount
  refine ite_frame (fun _ => .refl s) fun _ => ?_
  have f1 : RaiseFrame s (if s.guardLive ch then s else s.setGuard ch (s.time.link.toNat + 1)) :=
    ite_frame (fun _ => .refl s) fun _ => evf_frame s _
  have f2 := fun v => f1.trans (set_frame _ (Port.EVF_CH_STAT ch) v stat)
  exact ite_frame (fun _ => ((f2 _).trans (set_frame _ Port.EVF_GRP _ grp)).trans
    ((set_frame _ (Port.EVF_CH_STAT ch) _ stat).trans ((set_frame _ Port.EVF_TRIP _ trip).trans (pendBoth_frame _ _))))
    fun _ => f2 _

theorem raiseChannel_frame (s : State) (ch : Nat) (h : ch < 48) : RaiseFrame s (s.raiseChannel ch) := by
  unfold State.raiseChannel
  split
  · exact set_frame _ _ _ (by unfold Port.EVF_CH_STOPCNT; omega)
  · split
    · exact set_frame _ _ _ (by unfold Port.EVF_CH_STOPCNT; omega)
    · split
      · exact set_frame _ _ _ (by unfold Port.EVF_CH_OVRCNT; omega)
      · exact ((set_frame _ _ _ (by unfold Port.EVF_CH_RAISECNT; omega)).trans (setChTasks_frame _ _ _ h)).trans
          (guardCount_frame _ _ h)

theorem raiseProducer_frame (s : State) (p : Nat) : RaiseFrame s (s.raiseProducer p) := by
  unfold State.raiseProducer
  split
  · exact .refl s
  · unfold forNat
    have go : ∀ (l : List Nat), (∀ x ∈ l, x < 48) → ∀ u, RaiseFrame s u → RaiseFrame s
        (l.foldl (fun t i => if t.getF (Port.EVF_CH_SRC i) 8 0 = p then t.raiseChannel i else t) u) := by
      intro l
      induction l with
      | nil => intro _ u hu; exact hu
      | cons a r ih =>
        intro hl u hu
        rw [List.foldl_cons]
        refine ih (fun x hx => hl x (List.mem_cons_of_mem _ hx)) _ ?_
        split
        · exact hu.trans (raiseChannel_frame u a (hl a List.mem_cons_self))
        · exact hu
    exact go _ (fun x hx => List.mem_range.mp hx) s (.refl s)

/-- Raising a source changes pending bits and the event fabric, and nothing else. -/
theorem raise_frame (s : State) (n : Nat) : RaiseFrame s (s.raise n) := by
  unfold State.raise
  split
  · exact pendBoth_frame s n
  · exact (pendBoth_frame s n).trans (raiseProducer_frame _ n)

/-- A register outside the event fabric reads as before a raise. -/
theorem raise_get (s : State) (n p : Nat) (h : p < 0x0400 ∨ 0x0586 ≤ p) : (s.raise n).get p = s.get p :=
  (raise_frame s n).regs p h

theorem raiseProducer_get (s : State) (n p : Nat) (h : p < 0x0400 ∨ 0x0586 ≤ p) : (s.raiseProducer n).get p = s.get p :=
  (raiseProducer_frame s n).regs p h

/-- A raise sets its source's pending bit in a core that is not in reset (R287, R288). -/
theorem raise_pends (s : State) (n : Nat) (c : Core) (h : (s.core c).inReset = false) (hn : n < 64) :
    ((s.raise n).core c).ipend.getLsbD n = true := by
  have k : ((s.pendBoth n).core c).ipend.getLsbD n = true := by
    have e : (s.pendBoth n).core c = (s.core c).pend n := by cases c <;> rfl
    rw [e]; unfold CoreState.pend; rw [h]; simp [hn]
  unfold State.raise
  split
  · exact k
  · obtain ⟨_, ⟨a, ha⟩, ⟨b, hb⟩, _⟩ := raiseProducer_frame (s.pendBoth n) n
    cases c
    · change ((s.pendBoth n).raiseProducer n).apc.ipend.getLsbD n = true
      rw [ha, BitVec.getLsbD_or, show (s.pendBoth n).apc.ipend.getLsbD n = true from k, Bool.true_or]
    · change ((s.pendBoth n).raiseProducer n).lkc.ipend.getLsbD n = true
      rw [hb, BitVec.getLsbD_or, show (s.pendBoth n).lkc.ipend.getLsbD n = true from k, Bool.true_or]

/-- An edge at a ball is at most a producer's raise (R421, R445). -/
theorem ballEdge_frame (s old : State) (g : Nat) : RaiseFrame s (s.ballEdge old g) := by
  unfold State.ballEdge
  exact ite_frame (fun _ => raiseProducer_frame s _) fun _ => .refl s

/-- The edges that an operation makes at the balls raise producers and do nothing else. -/
theorem withEdges_frame (s : State) (f : State → State) : RaiseFrame (f s) (s.withEdges f) := by
  unfold State.withEdges
  exact forNat_inv (fun t => RaiseFrame (f s) t) _ (fun g t h => h.trans (ballEdge_frame t s g)) 48 (f s) (.refl _)

/-! ## Commands of a master -/

/-- A named command acts where its register answers the master; elsewhere it is what an unanswered write is. -/
theorem portCmd_cases (s : State) (m : Master) (p : Nat) (v : Word) (act : State → State) :
    s.portCmd m p v act = if s.answers m p then act s else s.unanswered m p (some v) := rfl

theorem portCmd_acts (s : State) (m : Master) (p : Nat) (v : Word) (act : State → State) (h : s.answers m p = true) :
    s.portCmd m p v act = act s := by rw [portCmd_cases, h]; rfl

theorem portCmd_idle (s : State) (m : Master) (p : Nat) (v : Word) (act : State → State) (h : s.answers m p = false) :
    s.portCmd m p v act = s.unanswered m p (some v) := by rw [portCmd_cases, h]; rfl

/-- What the host's unanswered access leaves: everything. -/
theorem unanswered_host (s : State) (p : Nat) (w : Option Word) : s.unanswered .host p w = s := by
  unfold State.unanswered; simp [Master.core]

/-! ## A step -/

/-- A step runs the command at the front with the queue's rest, or lets a tick pass. -/
theorem step_cases (s : State) :
    (s.pending = [] ∧ step s = .next (idleTick s)) ∨
      ∃ c r, s.pending = c :: r ∧ step s = exec c { s with pending := r } := by
  unfold step
  cases h : s.pending with
  | nil => exact .inl ⟨rfl, rfl⟩
  | cons c r => exact .inr ⟨c, r, rfl, rfl⟩

end Sys2Proof.Machine
end

