-- ==== Sys2Proof/Laws/Units.lean ====
section
/-! SUPPORT. Laws of the updates that belong to one unit: what each leaves alone, one lemma per field, and what its own
reader reads after it. -/

namespace Sys2Proof.Machine

open Sys2Proof

@[simp] theorem State.updUtv_regs (s : State) (f : Utvis → Utvis) : (s.updUtv f).regs = s.regs := rfl
@[simp] theorem State.updUtv_latch (s : State) (f : Utvis → Utvis) : (s.updUtv f).latch = s.latch := rfl
@[simp] theorem State.updUtv_time (s : State) (f : Utvis → Utvis) : (s.updUtv f).time = s.time := rfl
@[simp] theorem State.updUtv_mem (s : State) (f : Utvis → Utvis) : (s.updUtv f).mem = s.mem := rfl
@[simp] theorem State.updUtv_fuses (s : State) (f : Utvis → Utvis) : (s.updUtv f).fuses = s.fuses := rfl
@[simp] theorem State.updUtv_rig (s : State) (f : Utvis → Utvis) : (s.updUtv f).rig = s.rig := rfl
@[simp] theorem State.updUtv_apc (s : State) (f : Utvis → Utvis) : (s.updUtv f).apc = s.apc := rfl
@[simp] theorem State.updUtv_lkc (s : State) (f : Utvis → Utvis) : (s.updUtv f).lkc = s.lkc := rfl
@[simp] theorem State.updUtv_basin (s : State) (f : Utvis → Utvis) : (s.updUtv f).basin = s.basin := rfl
@[simp] theorem State.updUtv_lanes (s : State) (f : Utvis → Utvis) : (s.updUtv f).lanes = s.lanes := rfl
@[simp] theorem State.updUtv_rx (s : State) (f : Utvis → Utvis) : (s.updUtv f).rx = s.rx := rfl
@[simp] theorem State.updUtv_tx (s : State) (f : Utvis → Utvis) : (s.updUtv f).tx = s.tx := rfl
@[simp] theorem State.updUtv_link (s : State) (f : Utvis → Utvis) : (s.updUtv f).link = s.link := rfl
@[simp] theorem State.updUtv_trim (s : State) (f : Utvis → Utvis) : (s.updUtv f).trim = s.trim := rfl
@[simp] theorem State.updUtv_flc (s : State) (f : Utvis → Utvis) : (s.updUtv f).flc = s.flc := rfl
@[simp] theorem State.updUtv_dmc (s : State) (f : Utvis → Utvis) : (s.updUtv f).dmc = s.dmc := rfl
@[simp] theorem State.updUtv_sec (s : State) (f : Utvis → Utvis) : (s.updUtv f).sec = s.sec := rfl
@[simp] theorem State.updUtv_host (s : State) (f : Utvis → Utvis) : (s.updUtv f).host = s.host := rfl
@[simp] theorem State.updUtv_psm (s : State) (f : Utvis → Utvis) : (s.updUtv f).psm = s.psm := rfl
@[simp] theorem State.updUtv_pwr (s : State) (f : Utvis → Utvis) : (s.updUtv f).pwr = s.pwr := rfl
@[simp] theorem State.updUtv_sluice (s : State) (f : Utvis → Utvis) : (s.updUtv f).sluice = s.sluice := rfl
@[simp] theorem State.updUtv_evf (s : State) (f : Utvis → Utvis) : (s.updUtv f).evf = s.evf := rfl
@[simp] theorem State.updUtv_tim (s : State) (f : Utvis → Utvis) : (s.updUtv f).tim = s.tim := rfl
@[simp] theorem State.updUtv_pins (s : State) (f : Utvis → Utvis) : (s.updUtv f).pins = s.pins := rfl
@[simp] theorem State.updUtv_free (s : State) (f : Utvis → Utvis) : (s.updUtv f).free = s.free := rfl
@[simp] theorem State.updUtv_pending (s : State) (f : Utvis → Utvis) : (s.updUtv f).pending = s.pending := rfl
@[simp] theorem State.updUtv_get (s : State) (f : Utvis → Utvis) (j : Nat) : (s.updUtv f).get j = s.get j := rfl

@[simp] theorem State.updHost_regs (s : State) (f : HostPort → HostPort) : (s.updHost f).regs = s.regs := rfl
@[simp] theorem State.updHost_latch (s : State) (f : HostPort → HostPort) : (s.updHost f).latch = s.latch := rfl
@[simp] theorem State.updHost_time (s : State) (f : HostPort → HostPort) : (s.updHost f).time = s.time := rfl
@[simp] theorem State.updHost_mem (s : State) (f : HostPort → HostPort) : (s.updHost f).mem = s.mem := rfl
@[simp] theorem State.updHost_fuses (s : State) (f : HostPort → HostPort) : (s.updHost f).fuses = s.fuses := rfl
@[simp] theorem State.updHost_rig (s : State) (f : HostPort → HostPort) : (s.updHost f).rig = s.rig := rfl
@[simp] theorem State.updHost_apc (s : State) (f : HostPort → HostPort) : (s.updHost f).apc = s.apc := rfl
@[simp] theorem State.updHost_lkc (s : State) (f : HostPort → HostPort) : (s.updHost f).lkc = s.lkc := rfl
@[simp] theorem State.updHost_basin (s : State) (f : HostPort → HostPort) : (s.updHost f).basin = s.basin := rfl
@[simp] theorem State.updHost_lanes (s : State) (f : HostPort → HostPort) : (s.updHost f).lanes = s.lanes := rfl
@[simp] theorem State.updHost_rx (s : State) (f : HostPort → HostPort) : (s.updHost f).rx = s.rx := rfl
@[simp] theorem State.updHost_tx (s : State) (f : HostPort → HostPort) : (s.updHost f).tx = s.tx := rfl
@[simp] theorem State.updHost_link (s : State) (f : HostPort → HostPort) : (s.updHost f).link = s.link := rfl
@[simp] theorem State.updHost_trim (s : State) (f : HostPort → HostPort) : (s.updHost f).trim = s.trim := rfl
@[simp] theorem State.updHost_utv (s : State) (f : HostPort → HostPort) : (s.updHost f).utv = s.utv := rfl
@[simp] theorem State.updHost_flc (s : State) (f : HostPort → HostPort) : (s.updHost f).flc = s.flc := rfl
@[simp] theorem State.updHost_dmc (s : State) (f : HostPort → HostPort) : (s.updHost f).dmc = s.dmc := rfl
@[simp] theorem State.updHost_sec (s : State) (f : HostPort → HostPort) : (s.updHost f).sec = s.sec := rfl
@[simp] theorem State.updHost_psm (s : State) (f : HostPort → HostPort) : (s.updHost f).psm = s.psm := rfl
@[simp] theorem State.updHost_pwr (s : State) (f : HostPort → HostPort) : (s.updHost f).pwr = s.pwr := rfl
@[simp] theorem State.updHost_sluice (s : State) (f : HostPort → HostPort) : (s.updHost f).sluice = s.sluice := rfl
@[simp] theorem State.updHost_evf (s : State) (f : HostPort → HostPort) : (s.updHost f).evf = s.evf := rfl
@[simp] theorem State.updHost_tim (s : State) (f : HostPort → HostPort) : (s.updHost f).tim = s.tim := rfl
@[simp] theorem State.updHost_pins (s : State) (f : HostPort → HostPort) : (s.updHost f).pins = s.pins := rfl
@[simp] theorem State.updHost_free (s : State) (f : HostPort → HostPort) : (s.updHost f).free = s.free := rfl
@[simp] theorem State.updHost_pending (s : State) (f : HostPort → HostPort) : (s.updHost f).pending = s.pending := rfl
@[simp] theorem State.updHost_get (s : State) (f : HostPort → HostPort) (j : Nat) : (s.updHost f).get j = s.get j := rfl

@[simp] theorem State.updSec_regs (s : State) (f : Sec → Sec) : (s.updSec f).regs = s.regs := rfl
@[simp] theorem State.updSec_latch (s : State) (f : Sec → Sec) : (s.updSec f).latch = s.latch := rfl
@[simp] theorem State.updSec_time (s : State) (f : Sec → Sec) : (s.updSec f).time = s.time := rfl
@[simp] theorem State.updSec_mem (s : State) (f : Sec → Sec) : (s.updSec f).mem = s.mem := rfl
@[simp] theorem State.updSec_fuses (s : State) (f : Sec → Sec) : (s.updSec f).fuses = s.fuses := rfl
@[simp] theorem State.updSec_rig (s : State) (f : Sec → Sec) : (s.updSec f).rig = s.rig := rfl
@[simp] theorem State.updSec_apc (s : State) (f : Sec → Sec) : (s.updSec f).apc = s.apc := rfl
@[simp] theorem State.updSec_lkc (s : State) (f : Sec → Sec) : (s.updSec f).lkc = s.lkc := rfl
@[simp] theorem State.updSec_basin (s : State) (f : Sec → Sec) : (s.updSec f).basin = s.basin := rfl
@[simp] theorem State.updSec_lanes (s : State) (f : Sec → Sec) : (s.updSec f).lanes = s.lanes := rfl
@[simp] theorem State.updSec_rx (s : State) (f : Sec → Sec) : (s.updSec f).rx = s.rx := rfl
@[simp] theorem State.updSec_tx (s : State) (f : Sec → Sec) : (s.updSec f).tx = s.tx := rfl
@[simp] theorem State.updSec_link (s : State) (f : Sec → Sec) : (s.updSec f).link = s.link := rfl
@[simp] theorem State.updSec_trim (s : State) (f : Sec → Sec) : (s.updSec f).trim = s.trim := rfl
@[simp] theorem State.updSec_utv (s : State) (f : Sec → Sec) : (s.updSec f).utv = s.utv := rfl
@[simp] theorem State.updSec_flc (s : State) (f : Sec → Sec) : (s.updSec f).flc = s.flc := rfl
@[simp] theorem State.updSec_dmc (s : State) (f : Sec → Sec) : (s.updSec f).dmc = s.dmc := rfl
@[simp] theorem State.updSec_host (s : State) (f : Sec → Sec) : (s.updSec f).host = s.host := rfl
@[simp] theorem State.updSec_psm (s : State) (f : Sec → Sec) : (s.updSec f).psm = s.psm := rfl
@[simp] theorem State.updSec_pwr (s : State) (f : Sec → Sec) : (s.updSec f).pwr = s.pwr := rfl
@[simp] theorem State.updSec_sluice (s : State) (f : Sec → Sec) : (s.updSec f).sluice = s.sluice := rfl
@[simp] theorem State.updSec_evf (s : State) (f : Sec → Sec) : (s.updSec f).evf = s.evf := rfl
@[simp] theorem State.updSec_tim (s : State) (f : Sec → Sec) : (s.updSec f).tim = s.tim := rfl
@[simp] theorem State.updSec_pins (s : State) (f : Sec → Sec) : (s.updSec f).pins = s.pins := rfl
@[simp] theorem State.updSec_free (s : State) (f : Sec → Sec) : (s.updSec f).free = s.free := rfl
@[simp] theorem State.updSec_pending (s : State) (f : Sec → Sec) : (s.updSec f).pending = s.pending := rfl
@[simp] theorem State.updSec_get (s : State) (f : Sec → Sec) (j : Nat) : (s.updSec f).get j = s.get j := rfl

@[simp] theorem State.setEntries_regs (s : State) (l : List OkEntry) : (s.setEntries l).regs = s.regs := rfl
@[simp] theorem State.setEntries_latch (s : State) (l : List OkEntry) : (s.setEntries l).latch = s.latch := rfl
@[simp] theorem State.setEntries_time (s : State) (l : List OkEntry) : (s.setEntries l).time = s.time := rfl
@[simp] theorem State.setEntries_mem (s : State) (l : List OkEntry) : (s.setEntries l).mem = s.mem := rfl
@[simp] theorem State.setEntries_fuses (s : State) (l : List OkEntry) : (s.setEntries l).fuses = s.fuses := rfl
@[simp] theorem State.setEntries_rig (s : State) (l : List OkEntry) : (s.setEntries l).rig = s.rig := rfl
@[simp] theorem State.setEntries_apc (s : State) (l : List OkEntry) : (s.setEntries l).apc = s.apc := rfl
@[simp] theorem State.setEntries_lkc (s : State) (l : List OkEntry) : (s.setEntries l).lkc = s.lkc := rfl
@[simp] theorem State.setEntries_basin (s : State) (l : List OkEntry) : (s.setEntries l).basin = s.basin := rfl
@[simp] theorem State.setEntries_lanes (s : State) (l : List OkEntry) : (s.setEntries l).lanes = s.lanes := rfl
@[simp] theorem State.setEntries_rx (s : State) (l : List OkEntry) : (s.setEntries l).rx = s.rx := rfl
@[simp] theorem State.setEntries_tx (s : State) (l : List OkEntry) : (s.setEntries l).tx = s.tx := rfl
@[simp] theorem State.setEntries_link (s : State) (l : List OkEntry) : (s.setEntries l).link = s.link := rfl
@[simp] theorem State.setEntries_utv (s : State) (l : List OkEntry) : (s.setEntries l).utv = s.utv := rfl
@[simp] theorem State.setEntries_flc (s : State) (l : List OkEntry) : (s.setEntries l).flc = s.flc := rfl
@[simp] theorem State.setEntries_dmc (s : State) (l : List OkEntry) : (s.setEntries l).dmc = s.dmc := rfl
@[simp] theorem State.setEntries_sec (s : State) (l : List OkEntry) : (s.setEntries l).sec = s.sec := rfl
@[simp] theorem State.setEntries_host (s : State) (l : List OkEntry) : (s.setEntries l).host = s.host := rfl
@[simp] theorem State.setEntries_psm (s : State) (l : List OkEntry) : (s.setEntries l).psm = s.psm := rfl
@[simp] theorem State.setEntries_pwr (s : State) (l : List OkEntry) : (s.setEntries l).pwr = s.pwr := rfl
@[simp] theorem State.setEntries_sluice (s : State) (l : List OkEntry) : (s.setEntries l).sluice = s.sluice := rfl
@[simp] theorem State.setEntries_evf (s : State) (l : List OkEntry) : (s.setEntries l).evf = s.evf := rfl
@[simp] theorem State.setEntries_tim (s : State) (l : List OkEntry) : (s.setEntries l).tim = s.tim := rfl
@[simp] theorem State.setEntries_pins (s : State) (l : List OkEntry) : (s.setEntries l).pins = s.pins := rfl
@[simp] theorem State.setEntries_free (s : State) (l : List OkEntry) : (s.setEntries l).free = s.free := rfl
@[simp] theorem State.setEntries_pending (s : State) (l : List OkEntry) : (s.setEntries l).pending = s.pending := rfl
@[simp] theorem State.setEntries_get (s : State) (l : List OkEntry) (j : Nat) : (s.setEntries l).get j = s.get j := rfl

@[simp] theorem State.setSniff_regs (s : State) (x : Option (Nat × Nat × Bool)) : (s.setSniff x).regs = s.regs := rfl
@[simp] theorem State.setSniff_latch (s : State) (x : Option (Nat × Nat × Bool)) : (s.setSniff x).latch = s.latch := rfl
@[simp] theorem State.setSniff_time (s : State) (x : Option (Nat × Nat × Bool)) : (s.setSniff x).time = s.time := rfl
@[simp] theorem State.setSniff_mem (s : State) (x : Option (Nat × Nat × Bool)) : (s.setSniff x).mem = s.mem := rfl
@[simp] theorem State.setSniff_fuses (s : State) (x : Option (Nat × Nat × Bool)) : (s.setSniff x).fuses = s.fuses := rfl
@[simp] theorem State.setSniff_rig (s : State) (x : Option (Nat × Nat × Bool)) : (s.setSniff x).rig = s.rig := rfl
@[simp] theorem State.setSniff_apc (s : State) (x : Option (Nat × Nat × Bool)) : (s.setSniff x).apc = s.apc := rfl
@[simp] theorem State.setSniff_lkc (s : State) (x : Option (Nat × Nat × Bool)) : (s.setSniff x).lkc = s.lkc := rfl
@[simp] theorem State.setSniff_basin (s : State) (x : Option (Nat × Nat × Bool)) : (s.setSniff x).basin = s.basin := rfl
@[simp] theorem State.setSniff_lanes (s : State) (x : Option (Nat × Nat × Bool)) : (s.setSniff x).lanes = s.lanes := rfl
@[simp] theorem State.setSniff_rx (s : State) (x : Option (Nat × Nat × Bool)) : (s.setSniff x).rx = s.rx := rfl
@[simp] theorem State.setSniff_tx (s : State) (x : Option (Nat × Nat × Bool)) : (s.setSniff x).tx = s.tx := rfl
@[simp] theorem State.setSniff_trim (s : State) (x : Option (Nat × Nat × Bool)) : (s.setSniff x).trim = s.trim := rfl
@[simp] theorem State.setSniff_utv (s : State) (x : Option (Nat × Nat × Bool)) : (s.setSniff x).utv = s.utv := rfl
@[simp] theorem State.setSniff_flc (s : State) (x : Option (Nat × Nat × Bool)) : (s.setSniff x).flc = s.flc := rfl
@[simp] theorem State.setSniff_dmc (s : State) (x : Option (Nat × Nat × Bool)) : (s.setSniff x).dmc = s.dmc := rfl
@[simp] theorem State.setSniff_sec (s : State) (x : Option (Nat × Nat × Bool)) : (s.setSniff x).sec = s.sec := rfl
@[simp] theorem State.setSniff_host (s : State) (x : Option (Nat × Nat × Bool)) : (s.setSniff x).host = s.host := rfl
@[simp] theorem State.setSniff_psm (s : State) (x : Option (Nat × Nat × Bool)) : (s.setSniff x).psm = s.psm := rfl
@[simp] theorem State.setSniff_pwr (s : State) (x : Option (Nat × Nat × Bool)) : (s.setSniff x).pwr = s.pwr := rfl
@[simp] theorem State.setSniff_sluice (s : State) (x : Option (Nat × Nat × Bool)) : (s.setSniff x).sluice = s.sluice := rfl
@[simp] theorem State.setSniff_evf (s : State) (x : Option (Nat × Nat × Bool)) : (s.setSniff x).evf = s.evf := rfl
@[simp] theorem State.setSniff_tim (s : State) (x : Option (Nat × Nat × Bool)) : (s.setSniff x).tim = s.tim := rfl
@[simp] theorem State.setSniff_pins (s : State) (x : Option (Nat × Nat × Bool)) : (s.setSniff x).pins = s.pins := rfl
@[simp] theorem State.setSniff_free (s : State) (x : Option (Nat × Nat × Bool)) : (s.setSniff x).free = s.free := rfl
@[simp] theorem State.setSniff_pending (s : State) (x : Option (Nat × Nat × Bool)) : (s.setSniff x).pending = s.pending := rfl
@[simp] theorem State.setSniff_get (s : State) (x : Option (Nat × Nat × Bool)) (j : Nat) : (s.setSniff x).get j = s.get j := rfl

@[simp] theorem State.setHeadSent_regs (s : State) (q v : Nat) : (s.setHeadSent q v).regs = s.regs := rfl
@[simp] theorem State.setHeadSent_latch (s : State) (q v : Nat) : (s.setHeadSent q v).latch = s.latch := rfl
@[simp] theorem State.setHeadSent_time (s : State) (q v : Nat) : (s.setHeadSent q v).time = s.time := rfl
@[simp] theorem State.setHeadSent_mem (s : State) (q v : Nat) : (s.setHeadSent q v).mem = s.mem := rfl
@[simp] theorem State.setHeadSent_fuses (s : State) (q v : Nat) : (s.setHeadSent q v).fuses = s.fuses := rfl
@[simp] theorem State.setHeadSent_rig (s : State) (q v : Nat) : (s.setHeadSent q v).rig = s.rig := rfl
@[simp] theorem State.setHeadSent_apc (s : State) (q v : Nat) : (s.setHeadSent q v).apc = s.apc := rfl
@[simp] theorem State.setHeadSent_lkc (s : State) (q v : Nat) : (s.setHeadSent q v).lkc = s.lkc := rfl
@[simp] theorem State.setHeadSent_basin (s : State) (q v : Nat) : (s.setHeadSent q v).basin = s.basin := rfl
@[simp] theorem State.setHeadSent_lanes (s : State) (q v : Nat) : (s.setHeadSent q v).lanes = s.lanes := rfl
@[simp] theorem State.setHeadSent_rx (s : State) (q v : Nat) : (s.setHeadSent q v).rx = s.rx := rfl
@[simp] theorem State.setHeadSent_tx (s : State) (q v : Nat) : (s.setHeadSent q v).tx = s.tx := rfl
@[simp] theorem State.setHeadSent_trim (s : State) (q v : Nat) : (s.setHeadSent q v).trim = s.trim := rfl
@[simp] theorem State.setHeadSent_utv (s : State) (q v : Nat) : (s.setHeadSent q v).utv = s.utv := rfl
@[simp] theorem State.setHeadSent_flc (s : State) (q v : Nat) : (s.setHeadSent q v).flc = s.flc := rfl
@[simp] theorem State.setHeadSent_dmc (s : State) (q v : Nat) : (s.setHeadSent q v).dmc = s.dmc := rfl
@[simp] theorem State.setHeadSent_sec (s : State) (q v : Nat) : (s.setHeadSent q v).sec = s.sec := rfl
@[simp] theorem State.setHeadSent_host (s : State) (q v : Nat) : (s.setHeadSent q v).host = s.host := rfl
@[simp] theorem State.setHeadSent_psm (s : State) (q v : Nat) : (s.setHeadSent q v).psm = s.psm := rfl
@[simp] theorem State.setHeadSent_pwr (s : State) (q v : Nat) : (s.setHeadSent q v).pwr = s.pwr := rfl
@[simp] theorem State.setHeadSent_sluice (s : State) (q v : Nat) : (s.setHeadSent q v).sluice = s.sluice := rfl
@[simp] theorem State.setHeadSent_evf (s : State) (q v : Nat) : (s.setHeadSent q v).evf = s.evf := rfl
@[simp] theorem State.setHeadSent_tim (s : State) (q v : Nat) : (s.setHeadSent q v).tim = s.tim := rfl
@[simp] theorem State.setHeadSent_pins (s : State) (q v : Nat) : (s.setHeadSent q v).pins = s.pins := rfl
@[simp] theorem State.setHeadSent_free (s : State) (q v : Nat) : (s.setHeadSent q v).free = s.free := rfl
@[simp] theorem State.setHeadSent_pending (s : State) (q v : Nat) : (s.setHeadSent q v).pending = s.pending := rfl
@[simp] theorem State.setHeadSent_get (s : State) (q v : Nat) (j : Nat) : (s.setHeadSent q v).get j = s.get j := rfl

@[simp] theorem State.setGuard_regs (s : State) (ch v : Nat) : (s.setGuard ch v).regs = s.regs := rfl
@[simp] theorem State.setGuard_latch (s : State) (ch v : Nat) : (s.setGuard ch v).latch = s.latch := rfl
@[simp] theorem State.setGuard_time (s : State) (ch v : Nat) : (s.setGuard ch v).time = s.time := rfl
@[simp] theorem State.setGuard_mem (s : State) (ch v : Nat) : (s.setGuard ch v).mem = s.mem := rfl
@[simp] theorem State.setGuard_fuses (s : State) (ch v : Nat) : (s.setGuard ch v).fuses = s.fuses := rfl
@[simp] theorem State.setGuard_rig (s : State) (ch v : Nat) : (s.setGuard ch v).rig = s.rig := rfl
@[simp] theorem State.setGuard_apc (s : State) (ch v : Nat) : (s.setGuard ch v).apc = s.apc := rfl
@[simp] theorem State.setGuard_lkc (s : State) (ch v : Nat) : (s.setGuard ch v).lkc = s.lkc := rfl
@[simp] theorem State.setGuard_basin (s : State) (ch v : Nat) : (s.setGuard ch v).basin = s.basin := rfl
@[simp] theorem State.setGuard_lanes (s : State) (ch v : Nat) : (s.setGuard ch v).lanes = s.lanes := rfl
@[simp] theorem State.setGuard_rx (s : State) (ch v : Nat) : (s.setGuard ch v).rx = s.rx := rfl
@[simp] theorem State.setGuard_tx (s : State) (ch v : Nat) : (s.setGuard ch v).tx = s.tx := rfl
@[simp] theorem State.setGuard_link (s : State) (ch v : Nat) : (s.setGuard ch v).link = s.link := rfl
@[simp] theorem State.setGuard_trim (s : State) (ch v : Nat) : (s.setGuard ch v).trim = s.trim := rfl
@[simp] theorem State.setGuard_utv (s : State) (ch v : Nat) : (s.setGuard ch v).utv = s.utv := rfl
@[simp] theorem State.setGuard_flc (s : State) (ch v : Nat) : (s.setGuard ch v).flc = s.flc := rfl
@[simp] theorem State.setGuard_dmc (s : State) (ch v : Nat) : (s.setGuard ch v).dmc = s.dmc := rfl
@[simp] theorem State.setGuard_sec (s : State) (ch v : Nat) : (s.setGuard ch v).sec = s.sec := rfl
@[simp] theorem State.setGuard_host (s : State) (ch v : Nat) : (s.setGuard ch v).host = s.host := rfl
@[simp] theorem State.setGuard_psm (s : State) (ch v : Nat) : (s.setGuard ch v).psm = s.psm := rfl
@[simp] theorem State.setGuard_pwr (s : State) (ch v : Nat) : (s.setGuard ch v).pwr = s.pwr := rfl
@[simp] theorem State.setGuard_sluice (s : State) (ch v : Nat) : (s.setGuard ch v).sluice = s.sluice := rfl
@[simp] theorem State.setGuard_tim (s : State) (ch v : Nat) : (s.setGuard ch v).tim = s.tim := rfl
@[simp] theorem State.setGuard_pins (s : State) (ch v : Nat) : (s.setGuard ch v).pins = s.pins := rfl
@[simp] theorem State.setGuard_free (s : State) (ch v : Nat) : (s.setGuard ch v).free = s.free := rfl
@[simp] theorem State.setGuard_pending (s : State) (ch v : Nat) : (s.setGuard ch v).pending = s.pending := rfl
@[simp] theorem State.setGuard_get (s : State) (ch v : Nat) (j : Nat) : (s.setGuard ch v).get j = s.get j := rfl

@[simp] theorem State.setTimAcc_regs (s : State) (n v : Nat) : (s.setTimAcc n v).regs = s.regs := rfl
@[simp] theorem State.setTimAcc_latch (s : State) (n v : Nat) : (s.setTimAcc n v).latch = s.latch := rfl
@[simp] theorem State.setTimAcc_time (s : State) (n v : Nat) : (s.setTimAcc n v).time = s.time := rfl
@[simp] theorem State.setTimAcc_mem (s : State) (n v : Nat) : (s.setTimAcc n v).mem = s.mem := rfl
@[simp] theorem State.setTimAcc_fuses (s : State) (n v : Nat) : (s.setTimAcc n v).fuses = s.fuses := rfl
@[simp] theorem State.setTimAcc_rig (s : State) (n v : Nat) : (s.setTimAcc n v).rig = s.rig := rfl
@[simp] theorem State.setTimAcc_apc (s : State) (n v : Nat) : (s.setTimAcc n v).apc = s.apc := rfl
@[simp] theorem State.setTimAcc_lkc (s : State) (n v : Nat) : (s.setTimAcc n v).lkc = s.lkc := rfl
@[simp] theorem State.setTimAcc_basin (s : State) (n v : Nat) : (s.setTimAcc n v).basin = s.basin := rfl
@[simp] theorem State.setTimAcc_lanes (s : State) (n v : Nat) : (s.setTimAcc n v).lanes = s.lanes := rfl
@[simp] theorem State.setTimAcc_rx (s : State) (n v : Nat) : (s.setTimAcc n v).rx = s.rx := rfl
@[simp] theorem State.setTimAcc_tx (s : State) (n v : Nat) : (s.setTimAcc n v).tx = s.tx := rfl
@[simp] theorem State.setTimAcc_link (s : State) (n v : Nat) : (s.setTimAcc n v).link = s.link := rfl
@[simp] theorem State.setTimAcc_trim (s : State) (n v : Nat) : (s.setTimAcc n v).trim = s.trim := rfl
@[simp] theorem State.setTimAcc_utv (s : State) (n v : Nat) : (s.setTimAcc n v).utv = s.utv := rfl
@[simp] theorem State.setTimAcc_flc (s : State) (n v : Nat) : (s.setTimAcc n v).flc = s.flc := rfl
@[simp] theorem State.setTimAcc_dmc (s : State) (n v : Nat) : (s.setTimAcc n v).dmc = s.dmc := rfl
@[simp] theorem State.setTimAcc_sec (s : State) (n v : Nat) : (s.setTimAcc n v).sec = s.sec := rfl
@[simp] theorem State.setTimAcc_host (s : State) (n v : Nat) : (s.setTimAcc n v).host = s.host := rfl
@[simp] theorem State.setTimAcc_psm (s : State) (n v : Nat) : (s.setTimAcc n v).psm = s.psm := rfl
@[simp] theorem State.setTimAcc_pwr (s : State) (n v : Nat) : (s.setTimAcc n v).pwr = s.pwr := rfl
@[simp] theorem State.setTimAcc_sluice (s : State) (n v : Nat) : (s.setTimAcc n v).sluice = s.sluice := rfl
@[simp] theorem State.setTimAcc_evf (s : State) (n v : Nat) : (s.setTimAcc n v).evf = s.evf := rfl
@[simp] theorem State.setTimAcc_pins (s : State) (n v : Nat) : (s.setTimAcc n v).pins = s.pins := rfl
@[simp] theorem State.setTimAcc_free (s : State) (n v : Nat) : (s.setTimAcc n v).free = s.free := rfl
@[simp] theorem State.setTimAcc_pending (s : State) (n v : Nat) : (s.setTimAcc n v).pending = s.pending := rfl
@[simp] theorem State.setTimAcc_get (s : State) (n v : Nat) (j : Nat) : (s.setTimAcc n v).get j = s.get j := rfl

@[simp] theorem State.timStage_regs (s : State) (n off : Nat) (v : Word) : (s.timStage n off v).regs = s.regs := rfl
@[simp] theorem State.timStage_latch (s : State) (n off : Nat) (v : Word) : (s.timStage n off v).latch = s.latch := rfl
@[simp] theorem State.timStage_time (s : State) (n off : Nat) (v : Word) : (s.timStage n off v).time = s.time := rfl
@[simp] theorem State.timStage_mem (s : State) (n off : Nat) (v : Word) : (s.timStage n off v).mem = s.mem := rfl
@[simp] theorem State.timStage_fuses (s : State) (n off : Nat) (v : Word) : (s.timStage n off v).fuses = s.fuses := rfl
@[simp] theorem State.timStage_rig (s : State) (n off : Nat) (v : Word) : (s.timStage n off v).rig = s.rig := rfl
@[simp] theorem State.timStage_apc (s : State) (n off : Nat) (v : Word) : (s.timStage n off v).apc = s.apc := rfl
@[simp] theorem State.timStage_lkc (s : State) (n off : Nat) (v : Word) : (s.timStage n off v).lkc = s.lkc := rfl
@[simp] theorem State.timStage_basin (s : State) (n off : Nat) (v : Word) : (s.timStage n off v).basin = s.basin := rfl
@[simp] theorem State.timStage_lanes (s : State) (n off : Nat) (v : Word) : (s.timStage n off v).lanes = s.lanes := rfl
@[simp] theorem State.timStage_rx (s : State) (n off : Nat) (v : Word) : (s.timStage n off v).rx = s.rx := rfl
@[simp] theorem State.timStage_tx (s : State) (n off : Nat) (v : Word) : (s.timStage n off v).tx = s.tx := rfl
@[simp] theorem State.timStage_link (s : State) (n off : Nat) (v : Word) : (s.timStage n off v).link = s.link := rfl
@[simp] theorem State.timStage_trim (s : State) (n off : Nat) (v : Word) : (s.timStage n off v).trim = s.trim := rfl
@[simp] theorem State.timStage_utv (s : State) (n off : Nat) (v : Word) : (s.timStage n off v).utv = s.utv := rfl
@[simp] theorem State.timStage_flc (s : State) (n off : Nat) (v : Word) : (s.timStage n off v).flc = s.flc := rfl
@[simp] theorem State.timStage_dmc (s : State) (n off : Nat) (v : Word) : (s.timStage n off v).dmc = s.dmc := rfl
@[simp] theorem State.timStage_sec (s : State) (n off : Nat) (v : Word) : (s.timStage n off v).sec = s.sec := rfl
@[simp] theorem State.timStage_host (s : State) (n off : Nat) (v : Word) : (s.timStage n off v).host = s.host := rfl
@[simp] theorem State.timStage_psm (s : State) (n off : Nat) (v : Word) : (s.timStage n off v).psm = s.psm := rfl
@[simp] theorem State.timStage_pwr (s : State) (n off : Nat) (v : Word) : (s.timStage n off v).pwr = s.pwr := rfl
@[simp] theorem State.timStage_sluice (s : State) (n off : Nat) (v : Word) : (s.timStage n off v).sluice = s.sluice := rfl
@[simp] theorem State.timStage_evf (s : State) (n off : Nat) (v : Word) : (s.timStage n off v).evf = s.evf := rfl
@[simp] theorem State.timStage_pins (s : State) (n off : Nat) (v : Word) : (s.timStage n off v).pins = s.pins := rfl
@[simp] theorem State.timStage_free (s : State) (n off : Nat) (v : Word) : (s.timStage n off v).free = s.free := rfl
@[simp] theorem State.timStage_pending (s : State) (n off : Nat) (v : Word) : (s.timStage n off v).pending = s.pending := rfl
@[simp] theorem State.timStage_get (s : State) (n off : Nat) (v : Word) (j : Nat) : (s.timStage n off v).get j = s.get j := rfl

@[simp] theorem State.setLatch_regs (s : State) (m : Master) (p : Nat) (v : Word) : (s.setLatch m p v).regs = s.regs := rfl
@[simp] theorem State.setLatch_time (s : State) (m : Master) (p : Nat) (v : Word) : (s.setLatch m p v).time = s.time := rfl
@[simp] theorem State.setLatch_mem (s : State) (m : Master) (p : Nat) (v : Word) : (s.setLatch m p v).mem = s.mem := rfl
@[simp] theorem State.setLatch_fuses (s : State) (m : Master) (p : Nat) (v : Word) : (s.setLatch m p v).fuses = s.fuses := rfl
@[simp] theorem State.setLatch_rig (s : State) (m : Master) (p : Nat) (v : Word) : (s.setLatch m p v).rig = s.rig := rfl
@[simp] theorem State.setLatch_apc (s : State) (m : Master) (p : Nat) (v : Word) : (s.setLatch m p v).apc = s.apc := rfl
@[simp] theorem State.setLatch_lkc (s : State) (m : Master) (p : Nat) (v : Word) : (s.setLatch m p v).lkc = s.lkc := rfl
@[simp] theorem State.setLatch_basin (s : State) (m : Master) (p : Nat) (v : Word) : (s.setLatch m p v).basin = s.basin := rfl
@[simp] theorem State.setLatch_lanes (s : State) (m : Master) (p : Nat) (v : Word) : (s.setLatch m p v).lanes = s.lanes := rfl
@[simp] theorem State.setLatch_rx (s : State) (m : Master) (p : Nat) (v : Word) : (s.setLatch m p v).rx = s.rx := rfl
@[simp] theorem State.setLatch_tx (s : State) (m : Master) (p : Nat) (v : Word) : (s.setLatch m p v).tx = s.tx := rfl
@[simp] theorem State.setLatch_link (s : State) (m : Master) (p : Nat) (v : Word) : (s.setLatch m p v).link = s.link := rfl
@[simp] theorem State.setLatch_trim (s : State) (m : Master) (p : Nat) (v : Word) : (s.setLatch m p v).trim = s.trim := rfl
@[simp] theorem State.setLatch_utv (s : State) (m : Master) (p : Nat) (v : Word) : (s.setLatch m p v).utv = s.utv := rfl
@[simp] theorem State.setLatch_flc (s : State) (m : Master) (p : Nat) (v : Word) : (s.setLatch m p v).flc = s.flc := rfl
@[simp] theorem State.setLatch_dmc (s : State) (m : Master) (p : Nat) (v : Word) : (s.setLatch m p v).dmc = s.dmc := rfl
@[simp] theorem State.setLatch_sec (s : State) (m : Master) (p : Nat) (v : Word) : (s.setLatch m p v).sec = s.sec := rfl
@[simp] theorem State.setLatch_host (s : State) (m : Master) (p : Nat) (v : Word) : (s.setLatch m p v).host = s.host := rfl
@[simp] theorem State.setLatch_psm (s : State) (m : Master) (p : Nat) (v : Word) : (s.setLatch m p v).psm = s.psm := rfl
@[simp] theorem State.setLatch_pwr (s : State) (m : Master) (p : Nat) (v : Word) : (s.setLatch m p v).pwr = s.pwr := rfl
@[simp] theorem State.setLatch_sluice (s : State) (m : Master) (p : Nat) (v : Word) : (s.setLatch m p v).sluice = s.sluice := rfl
@[simp] theorem State.setLatch_evf (s : State) (m : Master) (p : Nat) (v : Word) : (s.setLatch m p v).evf = s.evf := rfl
@[simp] theorem State.setLatch_tim (s : State) (m : Master) (p : Nat) (v : Word) : (s.setLatch m p v).tim = s.tim := rfl
@[simp] theorem State.setLatch_pins (s : State) (m : Master) (p : Nat) (v : Word) : (s.setLatch m p v).pins = s.pins := rfl
@[simp] theorem State.setLatch_free (s : State) (m : Master) (p : Nat) (v : Word) : (s.setLatch m p v).free = s.free := rfl
@[simp] theorem State.setLatch_pending (s : State) (m : Master) (p : Nat) (v : Word) : (s.setLatch m p v).pending = s.pending := rfl
@[simp] theorem State.setLatch_get (s : State) (m : Master) (p : Nat) (v : Word) (j : Nat) : (s.setLatch m p v).get j = s.get j := rfl

@[simp] theorem State.setSnap_regs (s : State) (m : Master) (v : Nat) : (s.setSnap m v).regs = s.regs := rfl
@[simp] theorem State.setSnap_time (s : State) (m : Master) (v : Nat) : (s.setSnap m v).time = s.time := rfl
@[simp] theorem State.setSnap_mem (s : State) (m : Master) (v : Nat) : (s.setSnap m v).mem = s.mem := rfl
@[simp] theorem State.setSnap_fuses (s : State) (m : Master) (v : Nat) : (s.setSnap m v).fuses = s.fuses := rfl
@[simp] theorem State.setSnap_rig (s : State) (m : Master) (v : Nat) : (s.setSnap m v).rig = s.rig := rfl
@[simp] theorem State.setSnap_apc (s : State) (m : Master) (v : Nat) : (s.setSnap m v).apc = s.apc := rfl
@[simp] theorem State.setSnap_lkc (s : State) (m : Master) (v : Nat) : (s.setSnap m v).lkc = s.lkc := rfl
@[simp] theorem State.setSnap_basin (s : State) (m : Master) (v : Nat) : (s.setSnap m v).basin = s.basin := rfl
@[simp] theorem State.setSnap_lanes (s : State) (m : Master) (v : Nat) : (s.setSnap m v).lanes = s.lanes := rfl
@[simp] theorem State.setSnap_rx (s : State) (m : Master) (v : Nat) : (s.setSnap m v).rx = s.rx := rfl
@[simp] theorem State.setSnap_tx (s : State) (m : Master) (v : Nat) : (s.setSnap m v).tx = s.tx := rfl
@[simp] theorem State.setSnap_link (s : State) (m : Master) (v : Nat) : (s.setSnap m v).link = s.link := rfl
@[simp] theorem State.setSnap_trim (s : State) (m : Master) (v : Nat) : (s.setSnap m v).trim = s.trim := rfl
@[simp] theorem State.setSnap_utv (s : State) (m : Master) (v : Nat) : (s.setSnap m v).utv = s.utv := rfl
@[simp] theorem State.setSnap_flc (s : State) (m : Master) (v : Nat) : (s.setSnap m v).flc = s.flc := rfl
@[simp] theorem State.setSnap_dmc (s : State) (m : Master) (v : Nat) : (s.setSnap m v).dmc = s.dmc := rfl
@[simp] theorem State.setSnap_sec (s : State) (m : Master) (v : Nat) : (s.setSnap m v).sec = s.sec := rfl
@[simp] theorem State.setSnap_host (s : State) (m : Master) (v : Nat) : (s.setSnap m v).host = s.host := rfl
@[simp] theorem State.setSnap_psm (s : State) (m : Master) (v : Nat) : (s.setSnap m v).psm = s.psm := rfl
@[simp] theorem State.setSnap_pwr (s : State) (m : Master) (v : Nat) : (s.setSnap m v).pwr = s.pwr := rfl
@[simp] theorem State.setSnap_sluice (s : State) (m : Master) (v : Nat) : (s.setSnap m v).sluice = s.sluice := rfl
@[simp] theorem State.setSnap_evf (s : State) (m : Master) (v : Nat) : (s.setSnap m v).evf = s.evf := rfl
@[simp] theorem State.setSnap_tim (s : State) (m : Master) (v : Nat) : (s.setSnap m v).tim = s.tim := rfl
@[simp] theorem State.setSnap_pins (s : State) (m : Master) (v : Nat) : (s.setSnap m v).pins = s.pins := rfl
@[simp] theorem State.setSnap_free (s : State) (m : Master) (v : Nat) : (s.setSnap m v).free = s.free := rfl
@[simp] theorem State.setSnap_pending (s : State) (m : Master) (v : Nat) : (s.setSnap m v).pending = s.pending := rfl
@[simp] theorem State.setSnap_get (s : State) (m : Master) (v : Nat) (j : Nat) : (s.setSnap m v).get j = s.get j := rfl

@[simp] theorem State.setData_regs (s : State) (m : Master) (v : Word) : (s.setData m v).regs = s.regs := rfl
@[simp] theorem State.setData_time (s : State) (m : Master) (v : Word) : (s.setData m v).time = s.time := rfl
@[simp] theorem State.setData_mem (s : State) (m : Master) (v : Word) : (s.setData m v).mem = s.mem := rfl
@[simp] theorem State.setData_fuses (s : State) (m : Master) (v : Word) : (s.setData m v).fuses = s.fuses := rfl
@[simp] theorem State.setData_rig (s : State) (m : Master) (v : Word) : (s.setData m v).rig = s.rig := rfl
@[simp] theorem State.setData_apc (s : State) (m : Master) (v : Word) : (s.setData m v).apc = s.apc := rfl
@[simp] theorem State.setData_lkc (s : State) (m : Master) (v : Word) : (s.setData m v).lkc = s.lkc := rfl
@[simp] theorem State.setData_basin (s : State) (m : Master) (v : Word) : (s.setData m v).basin = s.basin := rfl
@[simp] theorem State.setData_lanes (s : State) (m : Master) (v : Word) : (s.setData m v).lanes = s.lanes := rfl
@[simp] theorem State.setData_rx (s : State) (m : Master) (v : Word) : (s.setData m v).rx = s.rx := rfl
@[simp] theorem State.setData_tx (s : State) (m : Master) (v : Word) : (s.setData m v).tx = s.tx := rfl
@[simp] theorem State.setData_link (s : State) (m : Master) (v : Word) : (s.setData m v).link = s.link := rfl
@[simp] theorem State.setData_trim (s : State) (m : Master) (v : Word) : (s.setData m v).trim = s.trim := rfl
@[simp] theorem State.setData_utv (s : State) (m : Master) (v : Word) : (s.setData m v).utv = s.utv := rfl
@[simp] theorem State.setData_flc (s : State) (m : Master) (v : Word) : (s.setData m v).flc = s.flc := rfl
@[simp] theorem State.setData_dmc (s : State) (m : Master) (v : Word) : (s.setData m v).dmc = s.dmc := rfl
@[simp] theorem State.setData_sec (s : State) (m : Master) (v : Word) : (s.setData m v).sec = s.sec := rfl
@[simp] theorem State.setData_host (s : State) (m : Master) (v : Word) : (s.setData m v).host = s.host := rfl
@[simp] theorem State.setData_psm (s : State) (m : Master) (v : Word) : (s.setData m v).psm = s.psm := rfl
@[simp] theorem State.setData_pwr (s : State) (m : Master) (v : Word) : (s.setData m v).pwr = s.pwr := rfl
@[simp] theorem State.setData_sluice (s : State) (m : Master) (v : Word) : (s.setData m v).sluice = s.sluice := rfl
@[simp] theorem State.setData_evf (s : State) (m : Master) (v : Word) : (s.setData m v).evf = s.evf := rfl
@[simp] theorem State.setData_tim (s : State) (m : Master) (v : Word) : (s.setData m v).tim = s.tim := rfl
@[simp] theorem State.setData_pins (s : State) (m : Master) (v : Word) : (s.setData m v).pins = s.pins := rfl
@[simp] theorem State.setData_free (s : State) (m : Master) (v : Word) : (s.setData m v).free = s.free := rfl
@[simp] theorem State.setData_pending (s : State) (m : Master) (v : Word) : (s.setData m v).pending = s.pending := rfl
@[simp] theorem State.setData_get (s : State) (m : Master) (v : Word) (j : Nat) : (s.setData m v).get j = s.get j := rfl

@[simp] theorem State.setKick_regs (s : State) (c v : Nat) : (s.setKick c v).regs = s.regs := rfl
@[simp] theorem State.setKick_latch (s : State) (c v : Nat) : (s.setKick c v).latch = s.latch := rfl
@[simp] theorem State.setKick_time (s : State) (c v : Nat) : (s.setKick c v).time = s.time := rfl
@[simp] theorem State.setKick_mem (s : State) (c v : Nat) : (s.setKick c v).mem = s.mem := rfl
@[simp] theorem State.setKick_fuses (s : State) (c v : Nat) : (s.setKick c v).fuses = s.fuses := rfl
@[simp] theorem State.setKick_rig (s : State) (c v : Nat) : (s.setKick c v).rig = s.rig := rfl
@[simp] theorem State.setKick_apc (s : State) (c v : Nat) : (s.setKick c v).apc = s.apc := rfl
@[simp] theorem State.setKick_lkc (s : State) (c v : Nat) : (s.setKick c v).lkc = s.lkc := rfl
@[simp] theorem State.setKick_basin (s : State) (c v : Nat) : (s.setKick c v).basin = s.basin := rfl
@[simp] theorem State.setKick_lanes (s : State) (c v : Nat) : (s.setKick c v).lanes = s.lanes := rfl
@[simp] theorem State.setKick_rx (s : State) (c v : Nat) : (s.setKick c v).rx = s.rx := rfl
@[simp] theorem State.setKick_tx (s : State) (c v : Nat) : (s.setKick c v).tx = s.tx := rfl
@[simp] theorem State.setKick_link (s : State) (c v : Nat) : (s.setKick c v).link = s.link := rfl
@[simp] theorem State.setKick_trim (s : State) (c v : Nat) : (s.setKick c v).trim = s.trim := rfl
@[simp] theorem State.setKick_utv (s : State) (c v : Nat) : (s.setKick c v).utv = s.utv := rfl
@[simp] theorem State.setKick_flc (s : State) (c v : Nat) : (s.setKick c v).flc = s.flc := rfl
@[simp] theorem State.setKick_dmc (s : State) (c v : Nat) : (s.setKick c v).dmc = s.dmc := rfl
@[simp] theorem State.setKick_sec (s : State) (c v : Nat) : (s.setKick c v).sec = s.sec := rfl
@[simp] theorem State.setKick_host (s : State) (c v : Nat) : (s.setKick c v).host = s.host := rfl
@[simp] theorem State.setKick_psm (s : State) (c v : Nat) : (s.setKick c v).psm = s.psm := rfl
@[simp] theorem State.setKick_sluice (s : State) (c v : Nat) : (s.setKick c v).sluice = s.sluice := rfl
@[simp] theorem State.setKick_evf (s : State) (c v : Nat) : (s.setKick c v).evf = s.evf := rfl
@[simp] theorem State.setKick_tim (s : State) (c v : Nat) : (s.setKick c v).tim = s.tim := rfl
@[simp] theorem State.setKick_pins (s : State) (c v : Nat) : (s.setKick c v).pins = s.pins := rfl
@[simp] theorem State.setKick_free (s : State) (c v : Nat) : (s.setKick c v).free = s.free := rfl
@[simp] theorem State.setKick_pending (s : State) (c v : Nat) : (s.setKick c v).pending = s.pending := rfl
@[simp] theorem State.setKick_get (s : State) (c v : Nat) (j : Nat) : (s.setKick c v).get j = s.get j := rfl

@[simp] theorem State.setSeq_regs (s : State) (c step bank addr row : Nat) (data : List Word) : (s.setSeq c step bank addr row data).regs = s.regs := rfl
@[simp] theorem State.setSeq_latch (s : State) (c step bank addr row : Nat) (data : List Word) : (s.setSeq c step bank addr row data).latch = s.latch := rfl
@[simp] theorem State.setSeq_time (s : State) (c step bank addr row : Nat) (data : List Word) : (s.setSeq c step bank addr row data).time = s.time := rfl
@[simp] theorem State.setSeq_mem (s : State) (c step bank addr row : Nat) (data : List Word) : (s.setSeq c step bank addr row data).mem = s.mem := rfl
@[simp] theorem State.setSeq_fuses (s : State) (c step bank addr row : Nat) (data : List Word) : (s.setSeq c step bank addr row data).fuses = s.fuses := rfl
@[simp] theorem State.setSeq_rig (s : State) (c step bank addr row : Nat) (data : List Word) : (s.setSeq c step bank addr row data).rig = s.rig := rfl
@[simp] theorem State.setSeq_apc (s : State) (c step bank addr row : Nat) (data : List Word) : (s.setSeq c step bank addr row data).apc = s.apc := rfl
@[simp] theorem State.setSeq_lkc (s : State) (c step bank addr row : Nat) (data : List Word) : (s.setSeq c step bank addr row data).lkc = s.lkc := rfl
@[simp] theorem State.setSeq_basin (s : State) (c step bank addr row : Nat) (data : List Word) : (s.setSeq c step bank addr row data).basin = s.basin := rfl
@[simp] theorem State.setSeq_lanes (s : State) (c step bank addr row : Nat) (data : List Word) : (s.setSeq c step bank addr row data).lanes = s.lanes := rfl
@[simp] theorem State.setSeq_rx (s : State) (c step bank addr row : Nat) (data : List Word) : (s.setSeq c step bank addr row data).rx = s.rx := rfl
@[simp] theorem State.setSeq_tx (s : State) (c step bank addr row : Nat) (data : List Word) : (s.setSeq c step bank addr row data).tx = s.tx := rfl
@[simp] theorem State.setSeq_link (s : State) (c step bank addr row : Nat) (data : List Word) : (s.setSeq c step bank addr row data).link = s.link := rfl
@[simp] theorem State.setSeq_trim (s : State) (c step bank addr row : Nat) (data : List Word) : (s.setSeq c step bank addr row data).trim = s.trim := rfl
@[simp] theorem State.setSeq_utv (s : State) (c step bank addr row : Nat) (data : List Word) : (s.setSeq c step bank addr row data).utv = s.utv := rfl
@[simp] theorem State.setSeq_dmc (s : State) (c step bank addr row : Nat) (data : List Word) : (s.setSeq c step bank addr row data).dmc = s.dmc := rfl
@[simp] theorem State.setSeq_sec (s : State) (c step bank addr row : Nat) (data : List Word) : (s.setSeq c step bank addr row data).sec = s.sec := rfl
@[simp] theorem State.setSeq_host (s : State) (c step bank addr row : Nat) (data : List Word) : (s.setSeq c step bank addr row data).host = s.host := rfl
@[simp] theorem State.setSeq_psm (s : State) (c step bank addr row : Nat) (data : List Word) : (s.setSeq c step bank addr row data).psm = s.psm := rfl
@[simp] theorem State.setSeq_pwr (s : State) (c step bank addr row : Nat) (data : List Word) : (s.setSeq c step bank addr row data).pwr = s.pwr := rfl
@[simp] theorem State.setSeq_sluice (s : State) (c step bank addr row : Nat) (data : List Word) : (s.setSeq c step bank addr row data).sluice = s.sluice := rfl
@[simp] theorem State.setSeq_evf (s : State) (c step bank addr row : Nat) (data : List Word) : (s.setSeq c step bank addr row data).evf = s.evf := rfl
@[simp] theorem State.setSeq_tim (s : State) (c step bank addr row : Nat) (data : List Word) : (s.setSeq c step bank addr row data).tim = s.tim := rfl
@[simp] theorem State.setSeq_pins (s : State) (c step bank addr row : Nat) (data : List Word) : (s.setSeq c step bank addr row data).pins = s.pins := rfl
@[simp] theorem State.setSeq_free (s : State) (c step bank addr row : Nat) (data : List Word) : (s.setSeq c step bank addr row data).free = s.free := rfl
@[simp] theorem State.setSeq_pending (s : State) (c step bank addr row : Nat) (data : List Word) : (s.setSeq c step bank addr row data).pending = s.pending := rfl
@[simp] theorem State.setSeq_get (s : State) (c step bank addr row : Nat) (data : List Word) (j : Nat) : (s.setSeq c step bank addr row data).get j = s.get j := rfl

@[simp] theorem State.updUtv_utv (s : State) (f : Utvis → Utvis) : (s.updUtv f).utv = f s.utv := rfl
@[simp] theorem State.updHost_host (s : State) (f : HostPort → HostPort) : (s.updHost f).host = f s.host := rfl
@[simp] theorem State.updSec_sec (s : State) (f : Sec → Sec) : (s.updSec f).sec = f s.sec := rfl
@[simp] theorem State.setEntries_entries (s : State) (l : List OkEntry) : (s.setEntries l).trim.entries = l := rfl
@[simp] theorem State.setSniff_sniff (s : State) (x : Option (Nat × Nat × Bool)) : (s.setSniff x).link.sniff = x := rfl

@[simp] theorem State.guardOpen_setGuard (s : State) (ch v : Nat) : (s.setGuard ch v).guardOpen ch = v := Cells.rd_wr_same _ _ _ _

theorem State.guardOpen_setGuard_other (s : State) {ch j : Nat} (v : Nat) (h : ch ≠ j) :
    (s.setGuard ch v).guardOpen j = s.guardOpen j := Cells.rd_wr_other _ _ _ h

@[simp] theorem State.timAcc_setTimAcc (s : State) (n v : Nat) : (s.setTimAcc n v).timAcc n = v := Cells.rd_wr_same _ _ _ _

theorem State.timAcc_setTimAcc_other (s : State) {n j : Nat} (v : Nat) (h : n ≠ j) :
    (s.setTimAcc n v).timAcc j = s.timAcc j := Cells.rd_wr_other _ _ _ h

end Sys2Proof.Machine
end

