-- ==== Sys2Proof/WellFormed.lean ====
section
/-! DEFINITION. Which terms of `Instr` are commands: what the spec asks of an operand beyond its type.  The meanings
answer on every term; a term that is not well formed leaves the state as it is or takes the spec's own refusal. -/

namespace Sys2Proof

/-- Domains 5 to 15 stand outside the application and link groups (R10, R399). -/
def sharedDomain (d : Nat) : Bool := decide (5 ≤ d) && decide (d ≤ 15)

/-- A Utvis frame is a header group and at most 2050 body groups of four words (R248, R249). -/
def frameWhole (f : UFrame) : Bool :=
  decide (4 ≤ f.words.length) && decide (f.words.length % 4 = 0) && decide (f.words.length ≤ 8204)

/-- A data phase carries at most the 2047 words that WC can name (R366). -/
def dataOk (l : List Word) : Bool := decide (l.length ≤ 2047)

/-- A command code from 8 on, or a header word whose reserved bits are not zero (R371). -/
def reservedHeader (cmd : BitVec 4) (h1 : Word) : Bool :=
  decide (8 ≤ cmd.toNat) || (decide (1 ≤ cmd.toNat ∧ cmd.toNat ≤ 4) && decide (h1.extractLsb' 16 2 ≠ 0)) ||
    (decide (cmd = 6 ∨ cmd = 7) && decide (h1.extractLsb' 7 11 ≠ 0))

/-- Causes 1 to 6 freeze the DRAM controller, and a port is one of five or the controller itself (R331, R333). -/
def freezeOk (cause port : BitVec 3) : Bool := decide (1 ≤ cause.toNat ∧ cause.toNat ≤ 6) && decide (port.toNat ≤ 5)

/-- Producer numbers that R421 lists, 0 apart. -/
def producerListed (p : BitVec 9) : Bool :=
  let n := p.toNat
  decide (1 ≤ n ∧ n ≤ 7) || decide (13 ≤ n ∧ n ≤ 220) || decide (224 ≤ n ∧ n ≤ 262) || decide (264 ≤ n ∧ n ≤ 271)

/-- Task numbers that R423 lists. -/
def taskListed (t : BitVec 9) : Bool := decide (t.toNat ≤ 4) || decide (8 ≤ t.toNat ∧ t.toNat ≤ 267)

/-- The operands are ones the spec gives the command. -/
def WellFormed (i : Instr) : Bool :=
  match i with
  | .registerWrite _ _ _ => true
  | .readClear _ _ => true
  | .multiwordRead _ _ => true
  | .coldReset _ _ _ => true
  | .systemReset _ _ _ => true
  | .applicationGroupReset _ => true
  | .linkGroupReset _ => true
  | .domainReset d _ => sharedDomain d.val
  | .bootRomRun _ _ => true
  | .rigReady => true
  | .liveFragmentCheck _ => true
  | .liveFragmentApply => true
  | .clipEvent _ => true
  | .attStepDown _ => true
  | .chainCalStart _ => true
  | .chainCalDone _ _ => true
  | .samplingPllUnlock => true
  | .samplingPllRelock => true
  | .bgCalPeriod _ => true
  | .bgCalApply _ _ => true
  | .bgCalForce _ _ => true
  | .rxcFullCal _ _ => true
  | .rxcBgApplyCmd _ _ => true
  | .laneStart _ _ => true
  | .laneStop _ _ => true
  | .laneClaim _ _ => true
  | .laneRelease _ _ => true
  | .laneTest _ _ => true
  | .laneTestDone _ _ => true
  | .laneFillDone _ => true
  | .syncMatch _ _ _ _ => true
  | .lengthFieldReceived _ _ => true
  | .packetEnd _ _ _ => true
  | .blankingStart _ => true
  | .blankingEnd _ => true
  | .laneFaultDetect _ _ => true
  | .laneReportRead _ _ => true
  | .watchDetection _ _ _ => true
  | .watchNomatchRelease _ => true
  | .watchEntryApply _ _ _ => true
  | .txRequest _ _ _ => true
  | .tuneStart _ => true
  | .synthLock _ => true
  | .rampUpStart _ => true
  | .txFirstBit _ => true
  | .txLastBit _ => true
  | .rampDownEnd _ => true
  | .txSkipLate _ => true
  | .lossOfLock _ => true
  | .keepExpiry _ => true
  | .synthCalStart _ => true
  | .synthCalYield _ => true
  | .synthCalResume _ => true
  | .synthCalDone _ => true
  | .txcMustRunCal _ _ => true
  | .txcPendingCal _ _ => true
  | .testStart _ _ => true
  | .testStop _ _ => true
  | .insert _ => true
  | .remove _ => true
  | .update _ => true
  | .eventSetup _ => true
  | .contextLoad _ => true
  | .followerListenStart _ => true
  | .listenTimeout _ => true
  | .responseWindowExpiry _ => true
  | .closeTime _ => true
  | .eventClose _ => true
  | .supervisionTimeout _ => true
  | .seqFaultDetect _ _ => true
  | .seqTest _ _ => true
  | .seqTestDone _ _ => true
  | .joinWindowStart _ => true
  | .joinWindowEnd _ => true
  | .sniffRestore _ => true
  | .sniffWindowStart _ => true
  | .sniffListenEnd => true
  | .sniffWindowEnd => true
  | .ledgerSlotBoundary _ => true
  | .ledgerClear _ => true
  | .horizonEntry _ => true
  | .contextSwapDone _ => true
  | .packetCommit _ => true
  | .drainMarker _ _ _ => true
  | .drainTimeout _ _ => true
  | .lookup _ => true
  | .belay _ => true
  | .unbelay _ => true
  | .spillBurst => true
  | .refillBurst => true
  | .placeRequest _ => true
  | .placeAnswer _ _ => true
  | .placeTimeout => true
  | .openW _ => true
  | .enqueue _ => true
  | .abort _ => true
  | .dequeue _ => true
  | .peek _ => true
  | .dropRem _ => true
  | .forward _ => true
  | .flush _ => true
  | .deferredQueueCommand _ => true
  | .wdataWrite _ _ => true
  | .rdataRead _ => true
  | .hdrWrite _ _ _ => true
  | .ieWrite _ _ _ => true
  | .audit _ => true
  | .auditDone => true
  | .tailIdleExpiry _ => true
  | .openPacketFetch _ => true
  | .dramReclaim => true
  | .dmcFreeze cause port _ _ _ => freezeOk cause port
  | .resume _ => true
  | .symbolLock _ => true
  | .delayMeasured _ _ => true
  | .helloFrame _ f => frameWhole f
  | .portActive _ => true
  | .linkDown _ _ => true
  | .retrain _ _ => true
  | .ackReceived _ _ _ => true
  | .nakReceived _ _ => true
  | .resendTimeout _ => true
  | .egressFrameSend _ => true
  | .dataFrame _ f => frameWhole f
  | .copyFrame _ f => frameWhole f
  | .copyHoldEnd _ => true
  | .shadowFrame _ f => frameWhole f
  | .mirrorFrame _ f => frameWhole f
  | .syncSend => true
  | .syncMarkReceived _ => true
  | .syncFrame _ f => frameWhole f
  | .loadFrame _ f => frameWhole f
  | .syncLoss => true
  | .reliefTakeover => true
  | .ownerFence => true
  | .handback _ => true
  | .handover _ => true
  | .handoverDone => true
  | .helperListenStart _ => true
  | .delayRemeasure _ _ => true
  | .wakeBurstSend _ _ => true
  | .utvisWakeDetect _ => true
  | .shortPair _ _ _ _ => true
  | .add _ _ _ _ => true
  | .sub _ _ _ _ => true
  | .adc _ _ _ _ => true
  | .sbc _ _ _ _ => true
  | .and _ _ _ _ => true
  | .or _ _ _ _ => true
  | .xor _ _ _ _ => true
  | .shi _ _ _ _ => true
  | .shv _ _ _ _ => true
  | .mul _ _ _ _ => true
  | .mulx _ _ _ _ => true
  | .addi _ _ _ => true
  | .movi _ _ _ => true
  | .cmp _ _ _ _ => true
  | .cmpi _ _ _ => true
  | .ld _ _ _ _ => true
  | .st _ _ _ _ => true
  | .lda _ _ _ _ _ => true
  | .sta _ _ _ _ _ => true
  | .ldc _ _ _ _ => true
  | .inp _ _ _ _ _ => true
  | .out _ _ _ _ _ => true
  | .b _ _ _ => true
  | .dbnz _ _ _ => true
  | .crd _ _ _ => true
  | .cwr _ _ _ => true
  | .movw _ _ _ => true
  | .reservedMajor _ _ _ => true
  | .nop _ => true
  | .wait _ => true
  | .waitWake _ => true
  | .reti _ => true
  | .trap _ _ => true
  | .brk _ => true
  | .fence _ => true
  | .ei _ => true
  | .di _ => true
  | .sett _ => true
  | .clrt _ => true
  | .jmp _ _ => true
  | .call _ _ => true
  | .jmpl _ _ => true
  | .calll _ _ => true
  | .ret _ => true
  | .unaryMov _ _ _ => true
  | .not _ _ _ => true
  | .neg _ _ _ => true
  | .swn _ _ _ => true
  | .sxn _ _ _ => true
  | .zxn _ _ _ => true
  | .clz _ _ _ => true
  | .tnz _ _ => true
  | .interruptEntry _ => true
  | .halt _ _ => true
  | .run _ _ => true
  | .step _ _ _ _ => true
  | .stepMask _ _ _ _ => true
  | .breakpointHalt _ => true
  | .scrubStep => true
  | .flashUnlockCycle _ _ _ _ => true
  | .programWord _ _ _ _ => true
  | .programRow _ _ _ _ _ _ _ => true
  | .eraseSector _ _ _ => true
  | .abandon _ _ _ => true
  | .flashOpStart => true
  | .flashOpDone _ => true
  | .eraseSuspend => true
  | .eraseResume => true
  | .journalScanDone => true
  | .apertureTimeout _ => true
  | .powerup _ => true
  | .powerupDone => true
  | .trained _ => true
  | .wipeDone => true
  | .selfRefreshEntry => true
  | .dramRequestStart => true
  | .dramAccessDone => true
  | .refreshDue => true
  | .dramPeriodicCal _ _ _ => true
  | .zqCalibration => true
  | .dramRetrain => true
  | .dramScrubStep => true
  | .mrw _ => true
  | .mrr _ => true
  | .mpc _ => true
  | .cbt _ => true
  | .wlev _ => true
  | .rdq _ => true
  | .fifo _ => true
  | .check _ => true
  | .trainingHelperDone _ => true
  | .dramPllUnlock => true
  | .cipherJob _ => true
  | .cipherJobRun => true
  | .cipherJobEnd => true
  | .load _ => true
  | .clear _ => true
  | .derive _ => true
  | .exportKey _ => true
  | .hash _ => true
  | .crc _ => true
  | .ecdsa _ => true
  | .verifyDone => true
  | .transition _ => true
  | .transitionComplete => true
  | .fuseOkh _ => true
  | .arm _ => true
  | .armDone => true
  | .activationDone _ => true
  | .checkin _ => true
  | .trialExpiry _ => true
  | .status _ _ _ => true
  | .write _ _ _ data => dataOk data
  | .writeFixed _ _ _ data => dataOk data
  | .readPost _ _ _ => true
  | .readPostFixed _ _ _ => true
  | .bell _ _ _ => true
  | .push _ _ _ data => dataOk data
  | .pull _ _ _ => true
  | .badCmd _ cmd _ h1 => reservedHeader cmd h1
  | .frameCut _ _ _ _ _ data => dataOk data
  | .writeBufferDrain => true
  | .postedSample => true
  | .comparatorMatch _ => true
  | .hirqSet _ _ => true
  | .psmStart _ _ => true
  | .psmAbort _ _ => true
  | .psmRelease _ _ => true
  | .psmFlush _ _ => true
  | .txdPush _ _ _ => true
  | .rxdPop _ _ => true
  | .psmUnitDone _ _ => true
  | .psmFrameDone _ => true
  | .enterReef1 _ => true
  | .enterReef2 _ => true
  | .enterReef3 _ => true
  | .enterFurl _ => true
  | .pwrCancel _ => true
  | .entryQuietReached => true
  | .entryCoresWaiting => true
  | .wakeRequest _ => true
  | .domainRelease _ => true
  | .domOffHold _ _ => true
  | .residencyClear _ => true
  | .refclkLoss => true
  | .systemPllUnlock => true
  | .wdgKick _ _ _ => true
  | .wdgWarnLevel _ => true
  | .wdgExpiry _ => true
  | .sluiceGrant => true
  | .sluiceAging _ => true
  | .tempSample _ _ _ => true
  | .fmcMeasure _ => true
  | .fmcDone _ => true
  | .eventRaise p => producerListed p
  | .taskAction t => taskListed t
  | .guardWindowClose _ => true
  | .evSw _ _ => true
  | .timerTick _ => true
  | .timStart _ _ => true
  | .timStop _ _ => true
  | .timClear _ _ => true
  | .periodWrite _ _ _ => true
  | .ccWrite _ _ _ _ => true
  | .ccRead _ _ _ => true
  | .rtcSecond => true
  | .commit _ => true
  | .commitApply => true
  | .clearStamp _ => true
  | .discard _ => true
  | .rtcSecRead _ => true
  | .snapshotExpiry _ => true
  | .backupSwitchover _ => true
  | .rtcclkStop => true
  | .bkdSupplyLow => true
  | .gpioEdge _ _ => true
  | .gpioSet _ _ _ => true
  | .gpioClr _ _ _ => true
  | .gpioTog _ _ _ => true
  | .tapReset => true
  | .extest _ => true
  | .samplePreload _ _ => true
  | .idcode => true
  | .debug _ _ _ => true
  | .bypass _ => true
  | .refclkReturn _ _ => true
  | .mastheadRoleTaken => true
  | .helperListenEnd _ => true
  | .lenoverAirTimePassed _ => true
  | .chzscrubDone => true

end Sys2Proof
end

