-- ==== Sys2Proof/Tests/Slice0.lean ====
section
/-! SUPPORT. Tests: ill-formed terms are refused, small steps against the spec's own examples, and for every statement
with hypotheses a state and operands that meet them. -/

namespace Sys2Proof.Machine

open Sys2Proof

set_option Elab.async false

/-! ## A small state -/

/-- A state with registers replaced. -/
def State.w (s : State) (l : List (Nat × Word)) : State := l.foldl (fun t x => t.set x.1 x.2) s

/-- After a cold reset with a Rig accepted, every domain released and the SRAM banks divided, both cores out of reset. -/
def live : State :=
  { State.reset.w [(Port.PWR_DOM_STAT, 0o777777), (Port.RIG_STAT, 1),
      (Port.MEM_PART 0, inFld 5 0 8 ||| inFld 11 6 4 ||| inFld 17 12 16),
      (Port.MEM_PART 1, inFld 5 0 4 ||| inFld 11 6 4 ||| inFld 17 12 2)] with
    rig := { RigState.reset with booting := false, applied := true, bootExit := true }, lkc := CoreState.reset }

/-- A packet that a lane began to receive with one cell. -/
def somePkt : LanePkt :=
  { cells := [.sram 0], ts := 5, meas := { rssiA := 300, rssiB := 256, phase := 0, qual := 0, phy := 2, selB := false },
    trunc := false, agcStep := false, calStep := false, phaseBad := false, epoch := 0, ctx := none, queue := 3, feeds := [0, 1],
    lenSeen := none, crcInit := 0x555555, white := 0, sync := 0x8E89BED6 }

/-- Lane `l` in a role and a state (LAN_n_STAT). -/
def State.withLane (s : State) (l role st : Nat) (x : Lane) : State :=
  (s.w [(Port.LAN_STAT l, inFld 17 15 role ||| inFld 14 12 st)]).setLane l x

/-- Both chains READY with their grids in the plan, and queue 0 set up with a pool. -/
def rxLive : State :=
  { live.w [(Port.RXC_STAT 0, 1), (Port.RXC_STAT 1, 1), (Port.RXC_PLAN 0, inFld 17 9 500),
      (Port.RXC_PLAN 1, inFld 17 12 63 ||| inFld 11 6 40), (Port.BSN_Q_STAT 0, inFld 17 17 1),
      (Port.BSN_Q_CFG 0, inFld 14 0 100)] with
    basin := Basin.reset }

/-- Firmware watches the 2.4 GHz grid for LE 1M with entry 0. -/
def watchLive : State :=
  { rxLive.w [(Port.RXC_WATCH_CTRL, inFld 17 17 1 ||| inFld 13 13 1), (Port.RXC_WATCH_W, inFld 5 0 2 ||| inFld 14 9 38),
      (Port.RXC_PLAN 1, inFld 17 12 63 ||| inFld 5 0 2 ||| inFld 11 6 38)] with
    rx := { Rx.reset with watchIn := [(1, inFld 14 14 1)] } }

/-- A Rig section with its CRC words (R32, R33). -/
def secOf (typ : Nat) (body : List Word) : List Word :=
  let h := inFld 17 12 typ :: inFld 13 0 body.length :: body
  h ++ [(crcWords h).1, (crcWords h).2]

/-- An unsigned Rig of one section. -/
def rigOf (typ : Nat) (body : List Word) : List Word :=
  [rigMagic, 0, BitVec.ofNat 18 (8 + body.length + 4), 1, 0, 0, 0, 0] ++ secOf typ body

/-- One band over all of TX_W's carriers with a wide allowance. -/
def bandLive : State :=
  { live.w [(Port.LTB_ACC_LOW 0, 0), (Port.LTB_ACC_HIGH 0, 0o777777), (Port.LTB_ACC_WIN 0, 4095),
      (Port.LTB_ACC_ALLOW 0, 0o777777)] with rig := { live.rig with words := rigOf 13 [1] } }

/-- A request of a test transmission. -/
def someReq : TxReq :=
  { owner := .test, ask := { offset := 100, phy := 0, pcode := 5, tStart := 4000, tLate := 5000, dur := 160, signal := .carrier },
    start := 4000, band := 0, code := 5, ramp := 16 }

/-- Chain `x` with the synthesiser in a state, at a link time. -/
def State.withTx (s : State) (x st : Nat) (now : BitVec 54) (v : TxState) : State :=
  { (s.w [(Port.TXC_STAT x, inFld 17 15 st)]).setTxc x v with time := { Time.reset with link := now, led := now.toNat, wall := now.toNat } }

/-- An event of a manual kind that sequencer 1 serves. -/
def someEvent : Event :=
  { ctx := 3, words := List.replicate 64 0, anchor := 0, w := 0, closeAt := 100000, lane := none, loaded := true,
    evstat := 0, resynced := false, frames := 0, fails := 0, lastGood := false, mdPeer := false, mdOwn := false,
    retired := 0, send := .empty, onAir := false, emptyOut := false, acked := false, missed0 := 0, txOnly := false,
    peer := [], aux := none, window := 0, endAt := 0, closing := false, join := false, step := 0 }

/-- A test transmission in ramp-up. -/
def someRun : TxRun :=
  { req := someReq, phase := .rampUp, begun := 3984, begunLed := 3984, span := (3856, 4176), res := (3984, 4176), downAt := 0,
    lag := 0, aborted := false, lostLock := false }

/-- The first words of a Haldaro leader's context: interval 50 000 ticks, next anchor 100 000, the whole map. -/
def someCtx : List Word :=
  [inFld 17 15 4 ||| inFld 11 9 4 ||| inFld 8 6 1, inFld 13 7 4 ||| inFld 6 0 5, 100000, 0, 0, 0, 0, 0, 100, 0, 0, 0, 0, 0,
   0o777777, 0o777777, 0o777777, 0, 0, 0, 0, 8]

/-- Sequencer 1 serves a Haldaro leader's event, about to send at its anchor. -/
def haldaroEvent : Event := { someEvent with words := someCtx ++ List.replicate 44 0, anchor := 100000 }

/-- Sequencer 1 may ask for the transmission of that event. -/
def askLive : State := ({ bandLive with time := { Time.reset with link := 90000, led := 90000, wall := 90000 } }.w
  [(Port.SEQ_STAT 1, inFld 14 12 1)]).setEvent 1 (some haldaroEvent)

/-- A resident context's words. -/
def State.withCtx (s : State) (c : Nat) (ws : List Word) : State :=
  { s with mem := { s.mem with sram := Cells.wrs (fun _ => 0) s.mem.sram (s.slotWord c 0) ws } }

/-- A link time. -/
def State.at_ (s : State) (t : BitVec 54) : State :=
  { s with time := { s.time with link := t, led := t.toNat, wall := t.toNat } }

/-- A calendar entry of KIND 4 with sequencer 1 and lane 6. -/
def someEntry : CalEntry :=
  { kind := 4, anchor := 100000, inHorizon := true, seq := some 1, lane := some 6, waiting := false, entered := 0,
    txOnly := false, after := none }

/-- Reef 3 with the sniff table on and one entry of KIND 2 whose time has come. -/
def sniffLive : State :=
  { (live.w [(Port.PWR_STAT, inFld 17 15 3), (Port.LTB_SNF_CTRL, inFld 17 17 1), (Port.LTB_SNF_0 2, inFld 17 15 2),
      (Port.LTB_SNF_3 2, 4), (Port.LTB_SNF_A 2, 64), (Port.PWR_MASK 2, 0o777777)]).at_ 64 with
    pwr := { Pwr.reset with rigOn := 0xFFFF } }

/-- Mailbox words. -/
def State.withMbx (s : State) (o : Nat) (ws : List Word) : State :=
  { s with mem := { s.mem with sram := Cells.wrs (fun _ => 0) s.mem.sram (s.roleWord .mbx o) ws } }

/-- The event of a Haldaro follower without a lane. -/
def followerEvent : Event :=
  { someEvent with words := (someCtx.set 0 (inFld 17 15 4 ||| inFld 14 12 1 ||| inFld 11 9 4 ||| inFld 8 6 1)).set 2 500 }

/-- The event of a beacon source that has a join window. -/
def sourceEvent : Event :=
  { someEvent with
    words := ((List.replicate 64 0).set 0 (inFld 17 15 5 ||| inFld 11 9 4 ||| inFld 8 6 1)).set 24 (inFld 17 10 1 ||| inFld 9 2 2) }


/-- A section with a small partition, DRAM of density 1 and 4 096 contexts. -/
def dramPart : List Word :=
  [inFld 5 0 8 ||| inFld 11 6 4 ||| inFld 17 12 16, inFld 5 0 4 ||| inFld 11 6 4 ||| inFld 17 12 2,
   inFld 5 3 2 ||| inFld 2 0 1, inFld 5 3 1 ||| inFld 8 6 2, 4096]

/-- An unsigned Rig of two sections. -/
def rigOf2 (t : Nat) (b : List Word) (u : Nat) (c : List Word) : List Word :=
  [rigMagic, 0, BitVec.ofNat 18 (8 + b.length + 4 + c.length + 4), 2, 0, 0, 0, 0] ++ secOf t b ++ secOf u c

/-- A state whose accepted Rig has given words. -/
def State.withRig (s : State) (ws : List Word) : State := { s with rig := { s.rig with words := ws } }

/-- DRAM is available: a Rig with DRAM of density 1 and 4 096 contexts, the controller in RUN. -/
def dramLive : State :=
  { live.w [(Port.DMC_STAT, inFld 17 15 4)] with
    rig := { live.rig with words := rigOf 2 dramPart } }

/-- A packet of 3 nonets in two SRAM cells. -/
def twoCells : Pkt := { cells := [.sram 0, .sram 1], len := 3, epoch := 0 }

/-- A closed packet that a lane holds for context 3 and queue 5. -/
def someStaged : Staged :=
  { pkt := twoCells, queue := 5, ctx := some 3, epoch := 0, ordered := true, wanted := true, hold := false, closed := 0 }

/-- A lane with one closed packet. -/
def laneHolds : Lane := { Lane.idle with stage := [someStaged] }

/-- An order-keeper entry of context 3 that waits for lane 6. -/
def someOk : OkEntry := { ctx := 3, epoch := 0, units := [6], opened := 5, hole := some 9, timeout := 100, timerFrom := 5 }

/-- A state whose queue `q` is configured and holds packets. -/
def State.withQueue (s : State) (q : Nat) (l : List Pkt) : State :=
  (s.w [(Port.BSN_Q_STAT q, inFld 17 17 1), (Port.BSN_Q_CFG q, inFld 14 0 100)]).setQueue q l

/-- A master's command registers name queue `q`, and its copy has packets open. -/
def State.withCopy (s : State) (m : Master) (q : Nat) (x : BsnCopy) : State :=
  (s.w [(bQarg m, BitVec.ofNat 18 q)]).setCopy m.num x

/-- Queue 5 lies one cell above its low mark, with its tail behind 8 cells of its head. -/
def spillLive : State :=
  let s := (dramLive.w [(Port.BSN_STAT, 1), (Port.TRM_SPILL, inFld 17 9 8 ||| inFld 8 0 8)]).withQueue 5
    [{ cells := (List.range 65).map CellLoc.sram, len := 1000, epoch := 0 }]
  { s.w [(Port.BSN_Q_STAT 5, inFld 17 16 3), (Port.BSN_Q_MARK 5, inFld 17 9 1 ||| inFld 8 0 1)] with
    basin := { s.basin with used := (List.range 65).map fun c => (c, 7) } }

/-- Queue 5 has one head cell short of its head segment, and one cell in DRAM. -/
def refillLive : State :=
  let s := (dramLive.w [(Port.BSN_STAT, 1), (Port.TRM_SPILL, inFld 17 9 8 ||| inFld 8 0 8)]).withQueue 5
    [{ cells := (List.range 7).map CellLoc.sram ++ [.dram 0], len := 100, epoch := 0 }]
  { s with basin := { s.basin with used := (List.range 7).map fun c => (c, 7), dused := [(0, 1)] } }

/-- The member at position 1 of a stack of three, both ports ACTIVE. -/
def stackLive : State :=
  (live.w [(Port.UTV_STAT, inFld 17 15 1 ||| inFld 14 12 1), (Port.UTV_P_STAT 0, inFld 17 15 5),
    (Port.UTV_P_STAT 1, inFld 17 15 5)]).withRig (rigOf 11 [inFld 2 0 1 ||| inFld 5 3 2, 0])

/-- The masthead at position 0 of that stack. -/
def mastLive : State :=
  ((stackLive.w [(Port.UTV_STAT, inFld 17 15 2)]).withRig (rigOf 11 [inFld 2 0 2 ||| inFld 5 3 2, 0])).at_ 32000

/-- A frame of a type from position 2 to position 1 with HSEQ 0 and PSEQ 0. -/
def someFrame (ty : Nat) (tag : Nat) (body : List Word) : UFrame :=
  sealFrame ([inFld 17 15 ty ||| inFld 14 12 2 ||| inFld 11 9 1, 0, inFld 13 0 tag,
    inFld 11 0 ((padGroups body).length / 4)] ++ padGroups body)

/-- A DATA frame for queue 5 with a packet of one octet. -/
def dataFive : UFrame := someFrame 0 5 [inFld 13 0 1, 0, 0, 0, 0, 0, 0, 0, 0o252000]

/-- A frame that waits for its ACK at a port. -/
def State.withUnacked (s : State) (p : Nat) (l : List (UFrame × Nat × Nat)) : State :=
  s.updPort p fun u => { u with unacked := l }

/-- A port in a state. -/
def State.withPort (s : State) (p st : Nat) : State := s.w [(Port.UTV_P_STAT p, inFld 17 15 st)]

/-- Both cores run from flash at 0x04000 with images of 1 000 words. -/
def running : State :=
  { live.w [(Port.FLC_STAT, 1)] with
    sec := { Sec.reset with imageLen := [(0, 1000), (1, 1000)] },
    apc := { CoreState.reset with pc := 0x4000 }, lkc := { CoreState.reset with pc := 0x4000 } }

/-- A state with core `c` changed. -/
def State.withCore (s : State) (c : Core) (f : CoreState → CoreState) : State := s.setCore c (f (s.core c))

/-- The LKC's aperture window 1 shows flash bank 2. -/
def flashLive : State :=
  running.w [(Port.MEM_AP_CFG 5, inFld 17 15 3 ||| inFld 14 12 2), (Port.FLC_STAT, 1)]

/-- A core's command sequence has had its unlock cycles on bank 2. -/
def unlocked : State := flashLive.setSeq 1 2 2 0 0 []

/-- A flash operation that waits or runs. -/
def State.withOp (s : State) (x : FlashOp) (run : Bool) : State := { s with flc := { s.flc with op := some x, running := run } }

/-- A state whose DRAM controller is in state `k`. -/
def State.withDmc (s : State) (k : Nat) (d : Dmc) : State := { s.w [(Port.DMC_STAT, inFld 17 15 k)] with dmc := d }

/-- A core's access that waits for DRAM. -/
def someWait : ApWait :=
  { addr := 0x30001, write := false, reg := 3, v := 0, words := 1, basin := false, block := 500000, idx := 1, since := 5 }

/-- The LKC's request for its block. -/
def someDram : DramReq := { port := 1, write := false, block := 500000, since := 5 }

/-- A CMAC check of 0 nonets of the mailbox with slot 5 and a tag of 4 nonets. -/
def someJob : SecJob :=
  { m := 1, words := [inFld 17 15 3 ||| inFld 14 12 1 ||| inFld 11 6 5 ||| inFld 5 0 4, 0, 0, 0, 64, 0, 0, 0] }

/-- A key slot is filled with a usage mask and a limit. -/
def State.withSlot (s : State) (k usage limit : Nat) : State :=
  s.fillSlot k { valid := true, k256 := false, key := 1 } usage limit

/-- A life-cycle state with only what its fuses say. -/
def State.withFuses (s : State) (f : Fuses) : State := { s with fuses := f }

/-- The LKC's group is held for an activation, its image 12 words long; bank roles apart. -/
def holdLive : State :=
  { flashLive.withRig (rigOf 2 dramPart) with
    sec := { flashLive.sec with holding := [(1, 1)], trialEnd := [(0, 1)] },
    mem := { flashLive.mem with flash := Cells.wrs (fun _ => 0o777777) [] (flashKey 2 (217 * 2048)) (logWords 1 1 12) } }

/-- An unsigned image for the LKC of nine words with entry 0x4008; the trailer holds their digest. -/
def slotImage : List Word :=
  [154054, 32832, 25, 16392, 0, 0, 0, 0, 5, 184203, 210169, 169470, 252477, 223899, 66243, 66370, 5668, 162969, 85865,
   248686, 134361, 47661, 49326, 8, 0]

/-- The same as an anchor image. -/
def anchorImage : List Word :=
  [154054, 36928, 25, 16392, 0, 0, 0, 0, 5, 87815, 217252, 5880, 130847, 247136, 49109, 62566, 135601, 38165, 170931,
   171976, 139614, 44850, 144176, 11, 0]

/-- What the LKC's check of the first finds. -/
def slotInfo : ImageInfo :=
  { len := 25, entry := 0x4008, version := 0,
    digest := 59257791799208374156157453379329925908175307885063301995963845139532056285067#256 }

/-- What the check of the second finds. -/
def anchorInfo : ImageInfo :=
  { len := 25, entry := 0x4008, version := 0,
    digest := 83587330799146759012544895107526171037643866647430951378878841394263405713159#256 }

/-- A blob's plaintext of R345 with a key of 16 octets 7, wrapped under a device unique key of zeros. -/
def wrappedKey : List Octet :=
  [69, 35, 218, 207, 197, 182, 120, 164, 31, 241, 91, 117, 80, 144, 45, 81, 222, 124, 240, 35, 124, 166, 185, 53, 108, 41,
   112, 62, 81, 183, 49, 149]

/-- One whose first octet is 2. -/
def wrappedPlain : List Octet :=
  [193, 204, 214, 211, 192, 141, 153, 14, 58, 247, 194, 154, 84, 50, 5, 117, 6, 77, 196, 31, 27, 102, 217, 185, 175, 93,
   243, 148, 78, 22, 7, 207]

/-- Flash words from `o` on of a bank. -/
def State.withFlash (s : State) (b o : Nat) (ws : List Word) : State :=
  { s with mem := { s.mem with flash := Cells.wrs (fun _ => 0o777777) s.mem.flash (flashKey b o) ws } }

/-- The staging bank holds an image for the LKC with its block row, and an ARM runs. -/
def stagedLive : State :=
  (((flashLive.withRig (rigOf 2 dramPart)).w [(Port.LCF_UPD_STAT, inFld 17 17 1)]).withFlash 2 0 slotImage).withFlash 2 0x6C000
    [0, 167612, 14429, 0]

/-- The link group is held for an activation without an armed image; its anchor is whole. -/
def anchorLive : State :=
  { ((flashLive.withRig (rigOf 2 dramPart)).withFlash 4 (anchorBase 1) anchorImage) with
    sec := { flashLive.sec with holding := [(1, 1)] } }

/-- That image is armed, and the link group is held for its activation. -/
def heldLive : State :=
  { (stagedLive.withFlash 2 (217 * 2048) (logWords 1 1 25)) with sec := { stagedLive.sec with holding := [(1, 1)] } }

/-- The CRC of the image of `slotImage`, octets by fifteens. -/
theorem slotImage_crc : crcWords slotImage = (167612, 14429) := by
  have h0 : ([2, 89, 198, 0, 128, 64, 0, 0, 25, 0, 64, 8, 0, 0, 0] : List Octet).foldl crcOctet 4294967295#32 =
    2488546958#32 := by decide +kernel
  have h1 : ([0, 0, 0, 0, 0, 0, 0, 0, 0, 0, 0, 5, 2, 207, 139] : List Octet).foldl crcOctet 2488546958#32 =
    2406845760#32 := by decide +kernel
  have h2 : ([3, 52, 249, 2, 149, 254, 3, 218, 61, 3, 106, 155, 1, 2, 195] : List Octet).foldl crcOctet 2406845760#32
    = 2401806187#32 := by decide +kernel
  have h3 : ([1, 3, 66, 0, 22, 36, 2, 124, 153, 1, 79, 105, 3, 203, 110] : List Octet).foldl crcOctet 2401806187#32 =
    3602691773#32 := by decide +kernel
  have h4 : ([2, 12, 217, 0, 186, 45, 0, 192, 174, 0, 0, 8, 0, 0, 0] : List Octet).foldl crcOctet 3602691773#32 =
    512323907#32 := by decide +kernel
  have h : octetForm slotImage = [2, 89, 198, 0, 128, 64, 0, 0, 25, 0, 64, 8, 0, 0, 0] ++ ([0, 0, 0, 0, 0, 0, 0, 0, 0,
    0, 0, 5, 2, 207, 139] ++ ([3, 52, 249, 2, 149, 254, 3, 218, 61, 3, 106, 155, 1, 2, 195] ++ ([1, 3, 66, 0, 22, 36,
    2, 124, 153, 1, 79, 105, 3, 203, 110] ++ ([2, 12, 217, 0, 186, 45, 0, 192, 174, 0, 0, 8, 0, 0, 0])))) := by
    decide +kernel
  rw [crcWords, crc32c, h]
  simp only [List.foldl_append, h0, h1, h2, h3, h4]
  decide

/-- The block row of `stagedLive` fits its image. -/
theorem stagedLive_blockOk : stagedLive.blockOk 25 0 = true := by
  have h1 : stagedLive.flashHws (stagedLive.roleBank 2) (0x6C000 + 4 * 0) 4 = some [0, 167612, 14429, 0] := by
    decide +kernel
  have h2 : stagedLive.flashHws (stagedLive.roleBank 2) (4096 * 0) (min 4096 (25 - 4096 * 0)) = some slotImage := by
    decide +kernel
  simp only [State.blockOk, h1, h2, slotImage_crc]
  rfl

/-- So every block row does: the image is one block. -/
theorem stagedLive_blocks : ∀ i, i < min 60 ((25 + 4095) / 4096) → stagedLive.blockOk 25 i = true := by
  intro i h
  have e : min 60 ((25 + 4095) / 4096) = 1 := by decide
  have z : i = 0 := by omega
  subst z
  exact stagedLive_blockOk

/-- A frame sealed whole and in form is good (R248, R249). -/
theorem sealFrame_ok (ws : List Word) (h : (let f := sealFrame ws
    decide (fType f ≠ 7) && decide (fNgrp f ≤ 2050) && decide (f.words.length = 4 * (1 + fNgrp f)) && headerOk f &&
    bodyOk f) = true) :
    frameOk (sealFrame ws) = true := by
  simp only [frameOk, sealFrame] at h ⊢
  simpa using h

/-! ## Ill-formed commands are refused -/

/-- R399: domain 4 is of the link group and has no reset of its own. -/
theorem test_refuses_domainReset_of_a_group : WellFormed (.domainReset 4 .command) = false ∧
    WellFormed (.domainReset 5 .command) = true := by decide

/-- R248: a frame is whole groups of four words. -/
theorem test_refuses_short_frame : frameWhole { words := [1, 2, 3], crc := 0, lineOk := true } = false ∧
    WellFormed (.syncFrame 0 { words := [1, 2, 3], crc := 0, lineOk := true }) = false ∧
    frameWhole { words := [1, 2, 3, 4], crc := 0, lineOk := true } = true := by decide

/-- R366: WC names at most 2,047 words. -/
theorem test_refuses_long_data : dataOk (List.replicate 2048 0) = false ∧ dataOk (List.replicate 2047 0) = true := by
  decide +kernel

/-- R371: command 1 with a plain header is no reserved one. -/
theorem test_refuses_plain_badCmd : WellFormed (.badCmd 0 1 0 5) = false ∧ WellFormed (.badCmd 0 8 0 5) = true := by decide

/-- R331: cause 0 freezes nothing. -/
theorem test_refuses_freeze_cause : freezeOk 0 0 = false ∧ freezeOk 7 0 = false ∧ freezeOk 1 6 = false ∧ freezeOk 6 5 = true := by
  decide

/-- R421: producer 263 is reserved; R423: task 5 is reserved. -/
theorem test_refuses_reserved_numbers : WellFormed (.eventRaise 263) = false ∧ WellFormed (.eventRaise 264) = true ∧
    WellFormed (.taskAction 5) = false ∧ WellFormed (.taskAction 267) = true := by decide

/-! ## The spec's own examples -/

/-- The LKC's state after a command on the state `running` with registers set. -/
def lkcAfter (l : List (BitVec 4 × Word)) (pc : Word) (i : Instr) : CoreState :=
  match exec i (running.withCore .lkc fun k => l.foldl (fun x r => x.setReg r.1 r.2) { k with pc := pc }) with
  | .next t => t.lkc
  | _ => CoreState.reset

/-- Chapter 12's summing loop: the word 0o534_232 adds w4 to w3 and w5 to w1. -/
theorem test_summing_pair :
    (fun w : Word => (fun k => (k.reg 3, k.reg 1, k.pc))
      (lkcAfter [(1, 0x20), (3, 7), (4, 5), (5, 1)] 0x4101 (.shortPair .lkc (w.extractLsb' 9 8) (w.extractLsb' 1 8)
        (w.getLsbD 0)))) 0o534232 = (12, 0x21, 0x4102) := by decide +kernel

/-- Its DBNZ 0o301_375 goes back to 0x04100 while w2 is not used up, and on to 0x04103 at the end. -/
theorem test_dbnz_loop :
    (lkcAfter [(2, 2)] 0x4102 (.dbnz .lkc 2 0xFD)).pc = 0x4100 ∧ (lkcAfter [(2, 2)] 0x4102 (.dbnz .lkc 2 0xFD)).reg 2 = 1 ∧
    (lkcAfter [(2, 1)] 0x4102 (.dbnz .lkc 2 0xFD)).pc = 0x4103 := by decide +kernel

/-- R279: the pair 0o412_042 swaps two registers, each operation reading before either writes. -/
theorem test_swap_pair :
    (fun w : Word => (fun k => (k.reg 1, k.reg 2))
      (lkcAfter [(1, 5), (2, 9)] 0x4100 (.shortPair .lkc (w.extractLsb' 9 8) (w.extractLsb' 1 8) (w.getLsbD 0)))) 0o412042 =
      (9, 5) := by decide +kernel

/-- R280: the sum of all ones and 1 is 0 with a carry and no overflow. -/
theorem test_add_wraps :
    (lkcAfter [(1, 0o777777), (2, 1)] 0x4100 (.add .lkc 3 1 2)).reg 3 = 0 ∧
    (lkcAfter [(1, 0o777777), (2, 1)] 0x4100 (.add .lkc 3 1 2)).flags = ⟨true, false, true, false, false⟩ := by decide +kernel

/-- Chapter 7's link channel: seed 0x1234, event counter 100, channels 25 to 30 and 32 of 35: channel 25. -/
theorem test_hop_example : hopRound 0x1234 (hopRound 0x1234 0x1250) = 0x1FCB ∧
    halHop 100 0x1234 35 [25, 26, 27, 28, 29, 30, 32] = 25 := by decide +kernel

/-- The sample data of the published channel selection 2 on the advertising access address (log entry 11). -/
theorem test_le_hop : [0, 1, 2, 3].map (fun e => leHop2 e 0x8E89BED6 (List.range 37)) = [25, 20, 6, 21] := by decide +kernel

/-- Chapter 18's tick on RTCCLK: PRE 0o040_611 divides by 32 + 393/512. -/
theorem test_timer_prescaler : (live.w [(Port.TIM_PRE 9, 0o040611)]).timDivisor 9 = 32 * 512 + 393 := by decide +kernel

/-- R434: 2100 is a leap year, so 28 February 2100 is followed by the 29th. -/
theorem test_leap_2100 : ({ sec := 59, min := 59, hour := 23, day := 28, month := 2, year := 100 } : Calendar).next =
    { sec := 0, min := 0, hour := 0, day := 29, month := 2, year := 100 } := by decide

/-- R433: at first power-up the calendar reads 2000-01-01 00:00:00. -/
theorem test_calendar_at_reset : State.reset.calendar = { sec := 0, min := 0, hour := 0, day := 1, month := 1, year := 0 } := by
  decide +kernel

/-- R368, R369: before a Rig is accepted a STATUS frame reads DSTATE 0 BOOT, bits 17 to 15 read as 1. -/
theorem test_status_before_rig :
    (match exec (.status 0 0 0) State.reset with | .next t => t.host.statusOut | _ => 5) = 0o700000 := by decide +kernel

/-- R369: once READY the same frame reads DSTATE 1. -/
theorem test_status_when_ready :
    (match exec (.status 0 0 0) live with | .next t => t.host.statusOut | _ => 5) = 0o710000 := by decide +kernel

/-- R461: IDCODE at stepping 1 shifts out 0x1496058B. -/
theorem test_idcode : (match exec .idcode live with | .next t => t.pins.tapOut | _ => 5) = 0x1496058B := by decide +kernel

/-! ## Published check values (log entry 11) -/

/-- CRC-32C of the nine digits. -/
theorem test_crc32c : crc32c [0x31, 0x32, 0x33, 0x34, 0x35, 0x36, 0x37, 0x38, 0x39] = 0xE3069283 := by decide +kernel

/-- FIPS 180-4: the digest of "abc". -/
theorem test_sha256 : sha256 [0x61, 0x62, 0x63] =
    0xba7816bf8f01cfea414140de5dae2223b00361a396177a9cb410ff61f20015ad := by decide +kernel

/-- FIPS 197: the AES-128 example. -/
theorem test_aes128 : aesEnc (octetsBE 16 0x000102030405060708090a0b0c0d0e0f) (octetsBE 16 0x00112233445566778899aabbccddeeff) =
    octetsBE 16 0x69c4e0d86a7b0430d8cdb78070b4c55a := by decide +kernel

/-! ## Decoding and withFetchWord -/

/-- No row of the opcode table gives bits, so no word spells a command. -/
theorem test_no_word_spells_a_command : decodeTableWord 18 0o534232 = none := by decide

/-- An empty queue lets link time pass. -/
theorem test_tick : (match step live with | .next t => t.time.link | _ => 0) = 1 := by decide +kernel


/-! ## The hypotheses of the statements can be met -/

/-- States and operands that meet the hypotheses of ReceiveChainGainAndCalibration, clauses 1 on. -/
theorem met_ReceiveChainGainAndCalibration_1 :
    (fun (s : State) (c : RxChain) => s.domOn (7 + c.num) = true) live .a ∧
    (fun (s : State) (c : RxChain) => s.attMayFall c.num = true) ((live.w [(Port.RXC_STAT 1, inFld 11 8 15)]).at_
      50000) .b ∧
    (fun (s : State) (c : RxChain) => s.chainReady c.num = true ∧ (s.chain c.num).cal = .running ∧ s.getF
      (Port.RXC_CAL c.num) 14 12 ≠ 0 ∧ (s.chain c.num).askedFrom + s.bgTicks c.num ≤ s.time.wall) (((live.w
      [(Port.RXC_STAT 0, 1), (Port.RXC_CAL 0, inFld 14 12 1)]).setChain 0 { RxState.off with cal := .running }).at_
      0x3000000000) .a := by
  decide +kernel

/-- States and operands that meet the hypotheses of ReceiveChainGainAndCalibration, clauses 4 on. -/
theorem met_ReceiveChainGainAndCalibration_4 :
    (fun (s : State) (c : RxChain) (_skew : BitVec 9) => s.chainReady c.num = true ∧ (s.chain c.num).cal = .waitGap ∧
      s.granted (Act.rxcal c.num) = true ∧ s.chainGap c.num = true) (((live.w [(Port.RXC_STAT 1, 1), (Port.MNT_GRANT,
      inFld 4 4 1)]).setChain 1 { RxState.off with cal := .waitGap }).at_ 5000) .b 5 ∧
    (fun (s : State) (c : RxChain) (_skew : BitVec 9) => s.chainReady c.num = true ∧ (s.chain c.num).cal = .waitGap ∧
      s.granted (Act.rxcal c.num) = true ∧ timeLe ((s.chain c.num).grantAt + ticks s.maxWait) s.time.link = true) ((({
      (live.w [(Port.RXC_STAT 0, 1), (Port.MNT_GRANT, inFld 3 3 1)]).setChain 0 { RxState.off with cal := .waitGap }
      with
        time := { Time.reset with link := 100000000 } })).setLane 4 { Lane.idle with pkt := some somePkt }) .a 9 ∧
    (fun (s : State) (c : RxChain) => s.chainDoms c.num = true ∧ (s.chain c.num).cal = .off ∧ s.rx.smpLost = false)
      live .b := by
  decide +kernel

/-- States and operands that meet the hypotheses of ReceiveChainGainAndCalibration, clauses 7 on. -/
theorem met_ReceiveChainGainAndCalibration_7 :
    (fun (s : State) (c : RxChain) (_skew : BitVec 9) => (s.chain c.num).cal = .foreground ∧ s.chainDoms c.num = true
      ∧ s.rx.smpLost = false ∧ s.link.sniff = none) (live.setChain 1 { RxState.off with cal := .foreground }) .b 3 ∧
    (fun (s : State) => (s.domOn 7 || s.domOn 8) = true ∧ s.lanesQuiet = true ∧ s.link.sniff = none) (live.w
      [(Port.RXC_STAT 0, 1), (Port.RXC_STAT 1, 1)]) ∧
    (fun (s : State) (c : RxChain) => s.rx.smpLost = true ∧ s.chainDoms c.num = true ∧ s.lanesQuiet = true)
      ({ live with rx := { Rx.reset with smpLost := true } }) .a := by
  decide +kernel

/-- States and operands that meet the hypotheses of ReceiveChainGainAndCalibration, clauses 10 on. -/
theorem met_ReceiveChainGainAndCalibration_10 :
    (fun (s : State) (m : Master) (c : RxChain) => s.answers m (Port.RXC_CALCMD c.num) = true ∧ s.getB
      Port.MNT_INHIBIT (Act.rxcal c.num) = false ∧ (s.granted (Act.rxcal c.num) || s.sluiceClear (Act.rxcal c.num)) =
      true ∧ s.link.sniff = none ∧ s.lanesQuiet = true) (live.w [(Port.RXC_STAT 0, 1)]) .lkc .a ∧
    (fun (s : State) (m : Master) (c : RxChain) => s.answers m (Port.RXC_CALCMD c.num) = true ∧ s.getB
      Port.MNT_INHIBIT (Act.rxcal c.num) = true ∧ s.link.sniff = none) (live.w [(Port.MNT_INHIBIT, inFld 4 4 1)])
      .host .b ∧
    (fun (s : State) (m : Master) (c : RxChain) => s.answers m (Port.RXC_CALCMD c.num) = true ∧ s.chainReady c.num =
      true) (live.w [(Port.RXC_STAT 1, 1)]) .host .b := by
  decide +kernel

/-- States and operands that meet the hypotheses of ReceiveChainGainAndCalibration, clauses 13 on. -/
theorem met_ReceiveChainGainAndCalibration_13 :
    (fun (s : State) => s.granted Act.chzscrub = true) (live.w [(Port.MNT_GRANT, inFld 5 5 1)]) := by
  decide +kernel


/-- States and operands that meet the hypotheses of LaneCommandsMoveALaneThroughItsRoles, clauses 1 on. -/
theorem met_LaneCommandsMoveALaneThroughItsRoles_1 :
    (fun (s : State) (m : Master) (l : Fin 64) => s.answers m (Port.LAN_CMD l.val) = true ∧ s.laneRole l.val = 4 ∧
      s.laneState l.val = 0 ∧ s.cfgOk (s.lanePhy l.val) (s.laneAnt l.val) (s.laneBin l.val) = true) ((rxLive.w
      [(Port.LAN_CFG 63, 5)]).withLane 63 4 0 Lane.idle) .lkc 63 ∧
    (fun (s : State) (m : Master) (l : Fin 64) => s.answers m (Port.LAN_CMD l.val) = true ∧ s.laneRole l.val = 4 ∧
      s.laneState l.val = 0 ∧ s.cfgOk (s.lanePhy l.val) (s.laneAnt l.val) (s.laneBin l.val) = false) (live.withLane 63
      4 0 Lane.idle) .lkc 63 ∧
    (fun (s : State) (m : Master) (l : Fin 64) => s.answers m (Port.LAN_CMD l.val) = true ∧ ((s.laneRole l.val ≠ 4 ∨
      s.laneState l.val ≠ 0))) (live.withLane 0 3 0 Lane.idle) .lkc 0 := by
  decide +kernel

/-- States and operands that meet the hypotheses of LaneCommandsMoveALaneThroughItsRoles, clauses 4 on. -/
theorem met_LaneCommandsMoveALaneThroughItsRoles_4 :
    (fun (s : State) (l : Fin 64) => s.laneState l.val = 1) (live.withLane 32 4 1 Lane.idle) 32 ∧
    (fun (s : State) (m : Master) (l : Fin 64) => s.answers m (Port.LAN_CMD l.val) = true ∧ s.laneRole l.val = 4 ∧
      s.receiving l.val = false ∧ (s.lane l.val).discarding = false) (live.withLane 31 4 2 Lane.idle) .apc 31 ∧
    (fun (s : State) (m : Master) (l : Fin 64) => s.answers m (Port.LAN_CMD l.val) = true ∧ s.laneRole l.val = 4 ∧
      s.laneState l.val ≠ 0 ∧ s.receiving l.val = true) (live.withLane 1 4 3 { Lane.idle with pkt := some somePkt })
      .apc 1 := by
  decide +kernel

/-- States and operands that meet the hypotheses of LaneCommandsMoveALaneThroughItsRoles, clauses 7 on. -/
theorem met_LaneCommandsMoveALaneThroughItsRoles_7 :
    (fun (s : State) (m : Master) (l : Fin 64) => s.answers m (Port.LAN_CMD l.val) = true ∧ s.laneRole l.val ≠ 4)
      (live.withLane 1 2 2 Lane.idle) .apc 1 ∧
    (fun (s : State) (m : Master) (l : Fin 64) => s.answers m (Port.LAN_CMD l.val) = true ∧ s.laneRole l.val = 3)
      (live.withLane 2 3 0 Lane.idle) .lkc 2 ∧
    (fun (s : State) (m : Master) (l : Fin 64) => s.answers m (Port.LAN_CMD l.val) = true ∧ s.laneRole l.val ≠ 3)
      (live.withLane 2 1 0 Lane.idle) .lkc 2 := by
  decide +kernel

/-- States and operands that meet the hypotheses of LaneCommandsMoveALaneThroughItsRoles, clauses 10 on. -/
theorem met_LaneCommandsMoveALaneThroughItsRoles_10 :
    (fun (s : State) (m : Master) (l : Fin 64) => s.answers m (Port.LAN_CMD l.val) = true ∧ s.laneRole l.val = 4 ∧
      s.laneState l.val = 0) (live.withLane 2 4 0 Lane.idle) .lkc 2 ∧
    (fun (s : State) (m : Master) (l : Fin 64) => s.answers m (Port.LAN_CMD l.val) = true ∧ ((s.laneRole l.val ≠ 4 ∨
      s.laneState l.val ≠ 0))) (live.withLane 2 4 2 Lane.idle) .lkc 2 ∧
    (fun (s : State) (m : Master) (l : Fin 64) => s.answers m (Port.LAN_CMD l.val) = true ∧ s.laneRole l.val = 5 ∧
      (s.lane l.val).testing = false) (live.withLane 62 5 0 Lane.idle) .lkc 62 := by
  decide +kernel

/-- States and operands that meet the hypotheses of LaneCommandsMoveALaneThroughItsRoles, clauses 13 on. -/
theorem met_LaneCommandsMoveALaneThroughItsRoles_13 :
    (fun (s : State) (m : Master) (l : Fin 64) => s.answers m (Port.LAN_CMD l.val) = true ∧ s.laneRole l.val ≠ 5)
      (live.withLane 62 4 0 Lane.idle) .lkc 62 ∧
    (fun (s : State) (l : Fin 64) => (s.lane l.val).testing = true ∧ s.laneRole l.val = 5) (live.withLane 62 5 0
      { Lane.idle with testing := true }) 62 ∧
    (fun (s : State) (l : Fin 64) => (s.lane l.val).testing = true ∧ s.laneRole l.val = 5) (live.withLane 62 5 0
      { Lane.idle with testing := true }) 62 := by
  decide +kernel


/-- States and operands that meet the hypotheses of LaneReceivesAPacket, clauses 1 on. -/
theorem met_LaneReceivesAPacket_1 :
    (fun (s : State) (l : Fin 64) (sync : BitVec 32) (ts : BitVec 54) (_meas : RxMeas) => s.domOn (laneDom l.val) =
      true ∧ s.laneState l.val = 2 ∧ s.receiving l.val = false ∧ s.laneBlind l.val = false ∧ s.syncHidden l.val ts =
      false ∧ s.laneRole l.val ≠ 2 ∧ s.laneSync l.val = sync ∧ s.link.sniff = none ∧ (s.lane l.val).stage.length < 4 ∧
      s.queueUp (s.getF (Port.LAN_CFG l.val + 6) 6 0) = true ∧ s.cellGranted (s.getF (Port.LAN_CFG l.val + 6) 6 0) =
      true) ((rxLive.at_ 100000).withLane 33 4 2 Lane.idle) 33 0 100000 somePkt.meas ∧
    (fun (s : State) (l : Fin 64) (sync : BitVec 32) (ts : BitVec 54) (_meas : RxMeas) => s.domOn (laneDom l.val) =
      true ∧ s.laneState l.val = 2 ∧ s.receiving l.val = false ∧ s.laneBlind l.val = false ∧ s.syncHidden l.val ts =
      false ∧ s.laneRole l.val ≠ 2 ∧ s.laneSync l.val = sync ∧ s.link.sniff = none ∧ (s.lane l.val).stopReq = false ∧
      s.queueUp (s.getF (Port.LAN_CFG l.val + 6) 6 0) = true ∧ s.cellGranted (s.getF (Port.LAN_CFG l.val + 6) 6 0) =
      false) (((rxLive.at_ 100000).w [(Port.MEM_PART 0, 0)]).withLane 33 4 2 Lane.idle) 33 0 100000 somePkt.meas ∧
    (fun (s : State) (l : Fin 64) (air : List Octet) (lp : LanePkt) => (s.lane l.val).pkt = some lp ∧ lp.lenSeen =
      none ∧ hdrOctets (s.lanePhy l.val) ≤ air.length ∧ s.lenOk l.val lp (s.dewhiten l.val lp (air.take (hdrOctets
      (s.lanePhy l.val)))) = false) ((live.w [(Port.LAN_LIM 5, 1), (Port.LAN_CFG 5, inFld 17 15 4)]).withLane 5 4 3
      { Lane.idle with pkt := some somePkt }) 5 ([0xFF, 0, 0]) somePkt := by
  decide +kernel

/-- States and operands that meet the hypotheses of LaneReceivesAPacket, clauses 4 on. -/
theorem met_LaneReceivesAPacket_4 :
    (fun (s : State) (l : Fin 64) (air : List Octet) (lp : LanePkt) => (s.lane l.val).pkt = some lp ∧ lp.lenSeen =
      none ∧ hdrOctets (s.lanePhy l.val) ≤ air.length ∧ s.lenOk l.val lp (s.dewhiten l.val lp (air.take (hdrOctets
      (s.lanePhy l.val)))) = true) ((live.w [(Port.LAN_CFG 5, inFld 17 15 4)]).withLane 5 4 3
      { Lane.idle with pkt := some somePkt }) 5 ([0xFF, 0, 0]) somePkt ∧
    (fun (s : State) (l : Fin 64) (air : List Octet) (crc : BitVec 24) (lp : LanePkt) => (s.lane l.val).pkt = some lp
      ∧ lp.lenSeen.isSome = true ∧ lp.ctx = none ∧ s.laneRole l.val = 4 ∧ (s.lane l.val).seq = none ∧ (s.lane
      l.val).helper = none ∧ (s.lane l.val).stopReq = false ∧ s.link.sniff = none ∧ s.link.calendar = [] ∧ s.frameGood
      l.val lp (s.dewhiten l.val lp (air ++ crcOctets crc)) = true) ((rxLive.w [(Port.LAN_CFG 5, inFld 17 15
      4)]).withLane 5 4 3 { Lane.idle with pkt := some { somePkt with lenSeen := some 0 } }) 5 [0, 0, 0] (crc24
      halPoly 0x555555 [0, 0, 0]) ({ somePkt with lenSeen := some 0 }) ∧
    (fun (s : State) (l : Fin 64) (air : List Octet) (crc : BitVec 24) (lp : LanePkt) => (s.lane l.val).pkt = some lp
      ∧ lp.lenSeen.isSome = true ∧ lp.ctx = none ∧ s.laneRole l.val = 4 ∧ (s.lane l.val).seq = none ∧ (s.lane
      l.val).helper = none ∧ (s.lane l.val).stopReq = false ∧ s.link.sniff = none ∧ s.link.calendar = [] ∧ s.frameGood
      l.val lp (s.dewhiten l.val lp (air ++ crcOctets crc)) = false) ((rxLive.w [(Port.LAN_CFG 5, inFld 17 15
      4)]).withLane 5 4 3 { Lane.idle with pkt := some { somePkt with lenSeen := some 0 } }) 5 [1, 2, 3] 0
      ({ somePkt with lenSeen := some 0 }) := by
  decide +kernel

/-- States and operands that meet the hypotheses of LaneReceivesAPacket, clauses 7 on. -/
theorem met_LaneReceivesAPacket_7 :
    (fun (s : State) (l : Fin 64) => (s.lane l.val).discarding = true ∧ s.laneRole l.val = 4 ∧ (s.lane l.val).seq =
      none ∧ (s.lane l.val).stopReq = false ∧ s.link.sniff = none ∧ s.link.calendar = []) (live.withLane 5 4 3
      { Lane.idle with discarding := true }) 5 := by
  decide +kernel


/-- States and operands that meet the hypotheses of BlankingLaneFaultsAndWatchLanes, clauses 1 on. -/
theorem met_BlankingLaneFaultsAndWatchLanes_1 :
    (fun (s : State) (x : TxChain) => s.domOn 7 = true ∧ s.domOn 8 = true ∧ s.blankDue x.num = true ∧ s.blankingFrom
      (decide (x.num = 1)) = none ∧ s.lanesQuiet = true ∧ s.link.sniff = none) (live.withTx 1 5 4000
      { TxState.off with cur := some someRun }) .w ∧
    (fun (s : State) (x : TxChain) => (s.blankingFrom (decide (x.num = 1))).isSome = true ∧ s.blankDue x.num = false ∧
      s.blankPosted x.num = true) ({ live with rx := { Rx.reset with blankFrom := [(1, some 5)] } }) .w ∧
    (fun (s : State) (l : Fin 64) (kind : LaneFaultKind) => kind ≠ .length ∧ s.laneRole l.val ≠ 0 ∧ s.laneRole l.val ≠
      1 ∧ s.laneRole l.val ≠ 5 ∧ s.receiving l.val = false ∧ (s.lane l.val).stage = [] ∧ s.link.sniff = none)
      (live.withLane 40 2 2 Lane.idle) 40 .bufferEcc := by
  decide +kernel

/-- States and operands that meet the hypotheses of BlankingLaneFaultsAndWatchLanes, clauses 4 on. -/
theorem met_BlankingLaneFaultsAndWatchLanes_4 :
    (fun (s : State) (m : Master) (l : Fin 64) => s.answers m (Port.LAN_RSSI l.val) = true) (live.w [(Port.LAN_RSSI
      63, 7), (Port.LAN_RSSI 63 + 5, 0o777777)]) .host 63 ∧
    (fun (s : State) (gridW : Bool) (bin : BitVec 9) (phy : BitVec 3) (l : Nat) => s.chainLive (s.getF
      Port.RXC_WATCH_CTRL 14 14) gridW = true ∧ s.blanked (s.getF Port.RXC_WATCH_CTRL 14 14) gridW = false ∧ phyGridW
      phy.toNat = gridW ∧ s.domOn 5 = true ∧ s.watched gridW bin.toNat = true ∧ (List.range 8).any (fun e => entryFor
      phy.toNat (s.watchEntry e)) = true ∧ s.freeWatch = some l) (watchLive.withLane 34 2 0 Lane.idle) true 38 0 34 ∧
    (fun (s : State) (gridW : Bool) (bin : BitVec 9) (phy : BitVec 3) => s.chainLive (s.getF Port.RXC_WATCH_CTRL 14
      14) gridW = true ∧ s.blanked (s.getF Port.RXC_WATCH_CTRL 14 14) gridW = false ∧ phyGridW phy.toNat = gridW ∧
      s.domOn 5 = true ∧ s.watched gridW bin.toNat = true ∧ (List.range 8).any (fun e => entryFor phy.toNat
      (s.watchEntry e)) = true ∧ s.freeWatch = none) watchLive true 2 0 := by
  decide +kernel

/-- States and operands that meet the hypotheses of BlankingLaneFaultsAndWatchLanes, clauses 7 on. -/
theorem met_BlankingLaneFaultsAndWatchLanes_7 :
    (fun (s : State) (l : Fin 64) => s.laneRole l.val = 2 ∧ s.laneState l.val = 2 ∧ s.receiving l.val = false)
      (live.withLane 34 2 2 Lane.idle) 34 ∧
    (fun (s : State) (m : Master) (e : Fin 8) (_v : Word) => s.answers m (Port.RXC_WM_3 e.val) = true) live .lkc 7
      0o777777 := by
  decide +kernel


/-- States and operands that meet the hypotheses of TransmitRequestTuningAndLock, clauses 1 on. -/
theorem met_TransmitRequestTuningAndLock_1 :
    (fun (s : State) (q : Fin 16) (pcode : BitVec 6) (wait : Word) (e : Event) (u : State) (x : Nat) (ask : TxAsk) (st
      : BitVec 54) (b : Nat) => s.level ≠ 3 ∧ s.seqMayAsk q.val = true ∧ s.event q.val = some e ∧ u = s.readFrame e ∧
      (x, ask) = u.seqReq q.val e pcode wait ∧ s.domOn (txDom x) = true ∧ ask.offset.toNat ≤ maxOffset x ∧ phyServed x
      ask.phy.toNat = true ∧ (u.spansOf x).any (spansMeet (u.reqSpan (u.rampTicks x) ask.tStart ask.dur)) = false ∧
      (u.account x ask.offset.toNat ask.dur ask.tStart ask.tLate (fun d => !(u.spansOf x).any (spansMeet (u.reqSpan
      (u.rampTicks x) (ask.tStart + ticks d) ask.dur)))).1 = some (st, b)) askLive 1 5 0 haldaroEvent
      (askLive.readFrame haldaroEvent) 0 (askLive.seqReq 1 haldaroEvent 5 0).2 100000 0 ∧
    (fun (s : State) (q : Fin 16) (pcode : BitVec 6) (wait : Word) (e : Event) (x : Nat) (ask : TxAsk) => s.level ≠ 3
      ∧ s.seqMayAsk q.val = true ∧ s.event q.val = some e ∧ (x, ask) = (s.readFrame e).seqReq q.val e pcode wait ∧
      s.domOn (txDom x) = false) (askLive.w [(Port.PWR_DOM_STAT, 0o776777)]) 1 5 0 haldaroEvent 0 ((askLive.w
      [(Port.PWR_DOM_STAT, 0o776777)]).seqReq 1 haldaroEvent 5 0).2 ∧
    (fun (s : State) (q : Fin 16) (pcode : BitVec 6) (wait : Word) (e : Event) (u : State) (x : Nat) (ask : TxAsk) =>
      s.level ≠ 3 ∧ s.seqMayAsk q.val = true ∧ s.event q.val = some e ∧ u = s.readFrame e ∧ (x, ask) = u.seqReq q.val
      e pcode wait ∧ s.domOn (txDom x) = true ∧ ask.offset.toNat ≤ maxOffset x ∧ phyServed x ask.phy.toNat = true ∧
      (u.spansOf x).any (spansMeet (u.reqSpan (u.rampTicks x) ask.tStart ask.dur)) = true) (askLive.setTxc 0
      { TxState.off with accepted := [{ someReq with start := 100000 }] }) 1 5 0 haldaroEvent ((askLive.setTxc 0
      { TxState.off with accepted := [{ someReq with start := 100000 }] }).readFrame haldaroEvent) 0 ((askLive.setTxc
      0 { TxState.off with accepted := [{ someReq with start := 100000 }] }).seqReq 1 haldaroEvent 5 0).2 := by
  decide +kernel

/-- States and operands that meet the hypotheses of TransmitRequestTuningAndLock, clauses 4 on. -/
theorem met_TransmitRequestTuningAndLock_4 :
    (fun (s : State) (q : Fin 16) (pcode : BitVec 6) (wait : Word) (e : Event) (u : State) (x : Nat) (ask : TxAsk) =>
      s.level ≠ 3 ∧ s.seqMayAsk q.val = true ∧ s.event q.val = some e ∧ u = s.readFrame e ∧ (x, ask) = u.seqReq q.val
      e pcode wait ∧ s.domOn (txDom x) = true ∧ ask.offset.toNat ≤ maxOffset x ∧ phyServed x ask.phy.toNat = true ∧
      (u.spansOf x).any (spansMeet (u.reqSpan (u.rampTicks x) ask.tStart ask.dur)) = false ∧ s.bandOf x
      ask.offset.toNat = none) (askLive.withRig []) 1 5 0 haldaroEvent ((askLive.withRig []).readFrame haldaroEvent) 0
      ((askLive.withRig []).seqReq 1 haldaroEvent 5 0).2 ∧
    (fun (s : State) (x : TxChain) (r : TxReq) => s.nextReq x.num = some r ∧ s.tuneAt x.num r ≤ s.time.wall ∧ s.syn
      x.num = 1) (live.withTx 1 1 3500 { TxState.off with accepted := [someReq] }) .w someReq ∧
    (fun (s : State) (x : TxChain) => s.syn x.num = 3) (live.withTx 0 3 77 TxState.off) .s := by
  decide +kernel

/-- States and operands that meet the hypotheses of TransmitRequestTuningAndLock, clauses 7 on. -/
theorem met_TransmitRequestTuningAndLock_7 :
    (fun (s : State) (x : TxChain) => s.syn x.num = 4 ∧ (s.txc x.num).accepted = [] ∧ max (s.txc x.num).idleFrom
      (s.txc x.num).lockAt + s.getF (txCtrl x.num) 8 0 * 160 ≤ s.time.wall) (live.withTx 0 4 900000
      { TxState.off with tuned := some 5 }) .s := by
  decide +kernel


/-- States and operands that meet the hypotheses of TransmissionRunsFromRampUpToRampDown, clauses 1 on. -/
theorem met_TransmissionRunsFromRampUpToRampDown_1 :
    (fun (s : State) (x : TxChain) (r : TxReq) => s.nextReq x.num = some r ∧ s.rampReady x.num r = true) ({
      live.withTx 1 4 3990 { TxState.off with accepted := [someReq], tuned := some 100, tuneReq := true } with
        rx := { Rx.reset with blankFrom := [(1, some 5)] } }) .w someReq ∧
    (fun (s : State) (x : TxChain) (k : TxRun) => (s.txc x.num).cur = some k ∧ k.phase = .rampUp ∧ k.begun +
      k.req.ramp ≤ s.time.wall + 1 ∧ k.req.owner ≠ .sniff) (live.withTx 1 5 4000
      { TxState.off with cur := some someRun }) .w someRun ∧
    (fun (s : State) (x : TxChain) (k : TxRun) => (s.txc x.num).cur = some k ∧ k.phase = .onAir ∧ k.req.owner = .test
      ∧ k.begun + k.req.ramp + k.req.ask.dur ≤ s.time.wall + 1) (live.withTx 1 5 5000
      { TxState.off with cur := some { someRun with phase := .onAir } }) .w ({ someRun with phase := .onAir }) := by
  decide +kernel

/-- States and operands that meet the hypotheses of TransmissionRunsFromRampUpToRampDown, clauses 4 on. -/
theorem met_TransmissionRunsFromRampUpToRampDown_4 :
    (fun (s : State) (x : TxChain) (k : TxRun) => (s.txc x.num).cur = some k ∧ s.downOver k = true ∧ k.req.owner =
      .test ∧ k.lostLock = false ∧ k.aborted = false) (bandLive.withTx 1 5 5000
      { TxState.off with cur := some { someRun with phase := .rampDown } }) .w ({ someRun with phase := .rampDown }) ∧
    (fun (s : State) (x : TxChain) (k : TxRun) => (s.txc x.num).cur = some k ∧ s.downOver k = true ∧ k.req.owner =
      .test ∧ k.lostLock = true) (bandLive.withTx 1 5 5000
      { TxState.off with cur := some { someRun with phase := .rampDown, lostLock := true } }) .w
      ({ someRun with phase := .rampDown, lostLock := true }) ∧
    (fun (s : State) (x : TxChain) (r : TxReq) => s.nextReq x.num = some r ∧ s.tooLate x.num r = true ∧ r.owner =
      .test ∧ s.link.sniff = none ∧ (s.txc x.num).accepted.filter (fun y => decide (y = r)) = [r]) (live.withTx 1 4
      6000 { TxState.off with accepted := [someReq] }) .w someReq := by
  decide +kernel

/-- States and operands that meet the hypotheses of TransmissionRunsFromRampUpToRampDown, clauses 7 on. -/
theorem met_TransmissionRunsFromRampUpToRampDown_7 :
    (fun (s : State) (x : TxChain) => (s.txc x.num).cur = none ∧ s.syn x.num = 4 ∧ s.link.sniff = none) (live.withTx 0
      4 6000 TxState.off) .s ∧
    (fun (s : State) (x : TxChain) (k : TxRun) => (s.txc x.num).cur = some k ∧ k.phase ≠ .rampDown ∧ k.req.owner =
      .test ∧ s.link.sniff = none) (live.withTx 1 5 4000 { TxState.off with cur := some someRun }) .w someRun := by
  decide +kernel


/-- States and operands that meet the hypotheses of SynthesiserCalibrationAndTestTransmission, clauses 1 on. -/
theorem met_SynthesiserCalibrationAndTestTransmission_1 :
    (fun (s : State) (m : Master) (x : TxChain) => s.answers m (Port.TXC_CALCMD x.num) = true ∧ s.domOn (txDom x.num)
      = true ∧ (s.txc x.num).pend = .none) (live.withTx 1 1 0 TxState.off) .lkc .w ∧
    (fun (s : State) (m : Master) (x : TxChain) => s.answers m (Port.TXC_CALCMD x.num) = true ∧ s.getB
      Port.MNT_INHIBIT (Act.syn x.num) = false ∧ (s.granted (Act.syn x.num) || s.sluiceClear (Act.syn x.num)) = true)
      (live.withTx 0 4 0 TxState.off) .apc .s ∧
    (fun (s : State) (m : Master) (x : TxChain) => s.answers m (Port.TXC_CALCMD x.num) = true ∧ s.getB
      Port.MNT_INHIBIT (Act.syn x.num) = true) (live.w [(Port.MNT_INHIBIT, inFld 2 2 1)]) .apc .w := by
  decide +kernel

/-- States and operands that meet the hypotheses of SynthesiserCalibrationAndTestTransmission, clauses 4 on. -/
theorem met_SynthesiserCalibrationAndTestTransmission_4 :
    (fun (s : State) (x : TxChain) => (s.txc x.num).pend ≠ .none ∧ (s.txc x.num).calRun = false ∧ (s.txc x.num).susp =
      false ∧ s.granted (Act.syn x.num) = true ∧ ((s.syn x.num = 2 ∨ (s.syn x.num = 1 ∨ s.syn x.num = 4) ∧ s.tuneFar
      x.num = true))) ((live.withTx 1 4 0 { TxState.off with pend := .must }).w [(Port.MNT_GRANT, inFld 2 2 1)]) .w ∧
    (fun (s : State) (x : TxChain) (r : TxReq) => s.nextReq x.num = some r ∧ s.calRuns x.num = true ∧ (s.txc
      x.num).calValid = true ∧ (s.txc x.num).tuneReq = true) (live.withTx 1 2 0
      { TxState.off with accepted := [someReq], calValid := true, tuneReq := true, calRun := true }) .w someReq ∧
    (fun (s : State) (x : TxChain) => (s.txc x.num).susp = true ∧ ((s.syn x.num = 1 ∨ s.syn x.num = 4)) ∧ s.tuneFar
      x.num = true) (live.withTx 0 1 0 { TxState.off with susp := true }) .s := by
  decide +kernel

/-- States and operands that meet the hypotheses of SynthesiserCalibrationAndTestTransmission, clauses 7 on. -/
theorem met_SynthesiserCalibrationAndTestTransmission_7 :
    (fun (s : State) (x : TxChain) => s.calRuns x.num = true ∧ (s.txc x.num).pend = .none) (live.withTx 0 2 0
      { TxState.off with calRun := true }) .s ∧
    (fun (s : State) (m : Master) (x : TxChain) (st : BitVec 54) (b : Nat) => s.answers m (Port.TXC_TESTCMD x.num) =
      true ∧ s.domOn (txDom x.num) = true ∧ (s.get (Port.TXC_FREQ x.num)).toNat ≤ maxOffset x.num ∧ s.getF
      (Port.TXC_TEST x.num) 17 15 = 0 ∧ (s.spansOf x.num).any (spansMeet (s.reqSpan (s.rampTicks x.num) (s.time.link +
      1024) (max 1 (s.getF (Port.TXC_TEST x.num) 11 6) * 16000))) = false ∧ (s.account x.num (s.get (Port.TXC_FREQ
      x.num)).toNat (max 1 (s.getF (Port.TXC_TEST x.num) 11 6) * 16000) (s.time.link + 1024) (s.time.link + 1024 +
      16000) (fun d => !(s.spansOf x.num).any (spansMeet (s.reqSpan (s.rampTicks x.num) (s.time.link + 1024 + ticks d)
      (max 1 (s.getF (Port.TXC_TEST x.num) 11 6) * 16000))))).1 = some (st, b)) bandLive .apc .w 1024 0 ∧
    (fun (s : State) (m : Master) (x : TxChain) (k : TxRun) => s.answers m (Port.TXC_TESTCMD x.num) = true ∧ (s.txc
      x.num).cur = some k ∧ k.req.owner = .test ∧ k.phase ≠ .rampDown) (live.withTx 1 5 4000
      { TxState.off with cur := some someRun }) .apc .w someRun := by
  decide +kernel


/-- States and operands that meet the hypotheses of CalendarCommandsReportTheirResult, clauses 1 on. -/
theorem met_CalendarCommandsReportTheirResult_1 :
    (fun (s : State) (m : Master) => s.answers m Port.SEQ_CAL_CMD = true ∧ s.getB Port.SEQ_CAL_STAT 17 = true) (live.w
      [(Port.SEQ_CAL_STAT, inFld 17 17 1)]) .lkc ∧
    (fun (s : State) (m : Master) => s.answers m Port.SEQ_CAL_CMD = true ∧ s.getB Port.SEQ_CAL_STAT 17 = true) (live.w
      [(Port.SEQ_CAL_STAT, inFld 17 17 1)]) .lkc ∧
    (fun (s : State) (m : Master) => s.answers m Port.SEQ_CAL_CMD = true ∧ s.getB Port.SEQ_CAL_STAT 17 = true) (live.w
      [(Port.SEQ_CAL_STAT, inFld 17 17 1)]) .lkc := by
  decide +kernel

/-- States and operands that meet the hypotheses of CalendarCommandsReportTheirResult, clauses 4 on. -/
theorem met_CalendarCommandsReportTheirResult_4 :
    (fun (s : State) (m : Master) => s.answers m Port.SEQ_CAL_CMD = true ∧ s.getB Port.SEQ_CAL_STAT 17 = false ∧
      s.ctxTotal ≤ s.getF Port.SEQ_CAL_ARG_0 13 0) (live.w [(Port.SEQ_CAL_ARG_0, 1536)]) .lkc ∧
    (fun (s : State) (m : Master) => s.answers m Port.SEQ_CAL_CMD = true ∧ s.getB Port.SEQ_CAL_STAT 17 = false ∧
      s.getF Port.SEQ_CAL_ARG_0 13 0 < s.ctxTotal ∧ (s.cal (s.getF Port.SEQ_CAL_ARG_0 13 0)).isSome = true) ((live.w
      [(Port.SEQ_CAL_ARG_0, 3)]).setCal 3 (some someEntry)) .lkc ∧
    (fun (s : State) (m : Master) => s.answers m Port.SEQ_CAL_CMD = true ∧ s.getB Port.SEQ_CAL_STAT 17 = false ∧
      s.getF Port.SEQ_CAL_ARG_0 13 0 < s.ctxTotal ∧ s.cal (s.getF Port.SEQ_CAL_ARG_0 13 0) = none ∧ s.resident (s.getF
      Port.SEQ_CAL_ARG_0 13 0) = true ∧ contentOk (s.ctxWords (s.getF Port.SEQ_CAL_ARG_0 13 0)) = false) (live.w
      [(Port.SEQ_CAL_ARG_0, 3)]) .lkc := by
  decide +kernel

/-- States and operands that meet the hypotheses of CalendarCommandsReportTheirResult, clauses 7 on. -/
theorem met_CalendarCommandsReportTheirResult_7 :
    (fun (s : State) (m : Master) => s.answers m Port.SEQ_CAL_CMD = true ∧ s.getB Port.SEQ_CAL_STAT 17 = false ∧
      s.getF Port.SEQ_CAL_ARG_0 13 0 < s.ctxTotal ∧ s.cal (s.getF Port.SEQ_CAL_ARG_0 13 0) = none ∧ s.resident (s.getF
      Port.SEQ_CAL_ARG_0 13 0) = true ∧ contentOk (s.ctxWords (s.getF Port.SEQ_CAL_ARG_0 13 0)) = true ∧ ((2048 ≤
      s.calCount ∨ s.kindFull (cKind (s.ctxWords (s.getF Port.SEQ_CAL_ARG_0 13 0))) = true))) ((live.withRig (rigOf 5
      [0, 0, 0])).w [(Port.SEQ_CAL_ARG_0, 3)] |>.withCtx 3 someCtx) .lkc ∧
    (fun (s : State) (m : Master) => s.answers m Port.SEQ_CAL_CMD = true ∧ s.getB Port.SEQ_CAL_STAT 17 = false ∧
      s.getF Port.SEQ_CAL_ARG_0 13 0 < s.ctxTotal ∧ s.cal (s.getF Port.SEQ_CAL_ARG_0 13 0) = none ∧ s.resident (s.getF
      Port.SEQ_CAL_ARG_0 13 0) = true ∧ contentOk (s.ctxWords (s.getF Port.SEQ_CAL_ARG_0 13 0)) = true ∧ s.calCount <
      2048 ∧ s.kindFull (cKind (s.ctxWords (s.getF Port.SEQ_CAL_ARG_0 13 0))) = false) ((live.withRig (rigOf 5 [0, 0,
      100])).w [(Port.SEQ_CAL_ARG_0, 3)] |>.withCtx 3 someCtx) .lkc ∧
    (fun (s : State) (m : Master) => s.answers m Port.SEQ_CAL_CMD = true ∧ s.getB Port.SEQ_CAL_STAT 17 = false ∧
      s.getF Port.SEQ_CAL_ARG_0 13 0 < s.ctxTotal ∧ s.cal (s.getF Port.SEQ_CAL_ARG_0 13 0) = none ∧ s.resident (s.getF
      Port.SEQ_CAL_ARG_0 13 0) = false) (dramLive.w [(Port.SEQ_CAL_ARG_0, 2000)]) .lkc := by
  decide +kernel

/-- States and operands that meet the hypotheses of CalendarCommandsReportTheirResult, clauses 10 on. -/
theorem met_CalendarCommandsReportTheirResult_10 :
    (fun (s : State) (m : Master) => s.answers m Port.SEQ_CAL_CMD = true ∧ s.getB Port.SEQ_CAL_STAT 17 = false ∧ s.cal
      (s.getF Port.SEQ_CAL_ARG_0 13 0) = none) (live.w [(Port.SEQ_CAL_ARG_0, 3)]) .apc ∧
    (fun (s : State) (m : Master) => s.answers m Port.SEQ_CAL_CMD = true ∧ s.getB Port.SEQ_CAL_STAT 17 = false ∧
      (s.cal (s.getF Port.SEQ_CAL_ARG_0 13 0)).isSome = true) ((live.w [(Port.SEQ_CAL_ARG_0, 3)]).setCal 3 (some
      someEntry)) .apc ∧
    (fun (s : State) (m : Master) => s.answers m Port.SEQ_CAL_CMD = true ∧ s.getB Port.SEQ_CAL_STAT 17 = false ∧
      s.getF Port.SEQ_CAL_ARG_1 13 0 + 17 ≤ s.mbxWords ∧ s.cal (s.getF Port.SEQ_CAL_ARG_0 13 0) = none) (live.w
      [(Port.SEQ_CAL_ARG_0, 3)]) .apc := by
  decide +kernel

/-- States and operands that meet the hypotheses of CalendarCommandsReportTheirResult, clauses 13 on. -/
theorem met_CalendarCommandsReportTheirResult_13 :
    (fun (s : State) (m : Master) => s.answers m Port.SEQ_CAL_CMD = true ∧ s.getB Port.SEQ_CAL_STAT 17 = false ∧
      s.getF Port.SEQ_CAL_ARG_1 13 0 + 17 ≤ s.mbxWords ∧ (s.cal (s.getF Port.SEQ_CAL_ARG_0 13 0)).isSome = true ∧
      contentOk (s.mbxRds (s.getF Port.SEQ_CAL_ARG_1 13 0) 17 ++ (s.ctxWords (s.getF Port.SEQ_CAL_ARG_0 13 0)).drop
      17) = false) ((live.w [(Port.SEQ_CAL_ARG_0, 3)]).setCal 3 (some someEntry)) .apc ∧
    (fun (s : State) (m : Master) => s.answers m Port.SEQ_CAL_CMD = true ∧ s.getB Port.SEQ_CAL_STAT 17 = false ∧
      s.getF Port.SEQ_CAL_ARG_1 13 0 + 17 ≤ s.mbxWords ∧ (s.cal (s.getF Port.SEQ_CAL_ARG_0 13 0)).isSome = true ∧
      contentOk (s.mbxRds (s.getF Port.SEQ_CAL_ARG_1 13 0) 17 ++ (s.ctxWords (s.getF Port.SEQ_CAL_ARG_0 13 0)).drop
      17) = true ∧ s.link.updates.length < 64) ((((live.w [(Port.SEQ_CAL_ARG_0, 3)]).withCtx 3 someCtx).setCal 3 (some
      someEntry)).withMbx 0 someCtx) .apc := by
  decide +kernel


/-- States and operands that meet the hypotheses of AnEventIsSetUpListensAndTimesOut, clauses 1 on. -/
theorem met_AnEventIsSetUpListensAndTimesOut_1 :
    (fun (s : State) (ctx : BitVec 14) (ce : CalEntry) (q l : Nat) => s.cal ctx.toNat = some ce ∧ ce.seq = some q ∧
      ce.lane = some l ∧ q < 16 ∧ s.waitingOn ctx.toNat = false ∧ s.eventOf ctx.toNat = none ∧ s.unitsTaken ce.seq
      ce.lane = false ∧ s.resident ctx.toNat = true ∧ s.ctxBad ctx.toNat = false ∧ s.link.updates = [] ∧ Cells.rd (fun
      _ => 0) s.utv.substSeq ctx.toNat = 0 ∧ cLeader (s.ctxWords ctx.toNat) = true ∧ cKind (s.ctxWords ctx.toNat) = 4
      ∧ cState (s.ctxWords ctx.toNat) = 1 ∧ timeLt s.time.link (s.setupPoint (s.ctxWords ctx.toNat)) = false)
      (((live.at_ 99000).withCtx 3 someCtx).setCal 3 (some someEntry)) 3 someEntry 1 6 ∧
    (fun (s : State) (ctx : BitVec 14) (ce : CalEntry) => s.cal ctx.toNat = some ce ∧ ce.seq = none ∧ ce.lane = none ∧
      s.waitingOn ctx.toNat = false ∧ s.eventOf ctx.toNat = none ∧ s.resident ctx.toNat = true ∧ s.link.updates = [] ∧
      Cells.rd (fun _ => 0) s.utv.substSeq ctx.toNat = 0 ∧ s.link.finals = [] ∧ cLeader (s.ctxWords ctx.toNat) = true
      ∧ cKind (s.ctxWords ctx.toNat) = 4 ∧ cState (s.ctxWords ctx.toNat) = 1 ∧ cw (s.ctxWords ctx.toNat) 9 11 0 = 0 ∧
      timeLt s.time.link (s.setupPoint (s.ctxWords ctx.toNat)) = false) (((live.at_ 99000).withCtx 3 someCtx).setCal 3
      (some { someEntry with seq := none, lane := none })) 3 ({ someEntry with seq := none, lane := none }) ∧
    (fun (s : State) (q : Fin 16) (e : Event) => (s.event q.val) = some e ∧ e.loaded = false ∧ s.eventOf e.ctx = none
      ∧ s.cal e.ctx = none ∧ s.link.finals = []) (live.setEvent 2 (some { someEvent with loaded := false })) 2
      ({ someEvent with loaded := false }) := by
  decide +kernel

/-- States and operands that meet the hypotheses of AnEventIsSetUpListensAndTimesOut, clauses 4 on. -/
theorem met_AnEventIsSetUpListensAndTimesOut_4 :
    (fun (s : State) (q : Fin 16) (e : Event) (ce : CalEntry) (l : Nat) => (s.event q.val) = some e ∧ e.loaded = false
      ∧ s.eventOf e.ctx = none ∧ s.cal e.ctx = some ce ∧ ce.lane = some l ∧ s.unitsTaken none ce.lane = false ∧
      s.resident e.ctx = true ∧ s.ctxBad e.ctx = false ∧ s.link.updates = [] ∧ cLeader (s.ctxWords e.ctx) = true ∧
      cKind (s.ctxWords e.ctx) = 4) (((live.withCtx 3 someCtx).setEvent 2 (some
      { someEvent with loaded := false })).setCal 3 (some someEntry)) 2 ({ someEvent with loaded := false }) someEntry
      6 ∧
    (fun (s : State) (q : Fin 16) (e : Event) => (s.event q.val) = some e ∧ s.seqState q.val = 1 ∧ e.loaded = true ∧
      cLeader e.words = false ∧ cKind e.words ≠ 2 ∧ timeLe (cNext e.words + ticks (syncTicks (cPhy e.words)) - ticks
      (e.w + fillTicks (rxPhy (cPhy e.words)))) s.time.link = true) (((live.w [(Port.SEQ_STAT 2, inFld 14 12
      1)]).setEvent 2 (some followerEvent)).at_ 30000) 2 followerEvent ∧
    (fun (s : State) (q : Fin 16) (e : Event) => (s.event q.val) = some e ∧ s.seqState q.val = 2 ∧ e.join = false ∧
      cKind e.words ≠ 3 ∧ timeLe (listenEnd e) s.time.link = true) (((live.w [(Port.SEQ_STAT 2, inFld 14 12
      2)]).setEvent 2 (some followerEvent)).at_ 100000) 2 followerEvent := by
  decide +kernel

/-- States and operands that meet the hypotheses of AnEventIsSetUpListensAndTimesOut, clauses 7 on. -/
theorem met_AnEventIsSetUpListensAndTimesOut_7 :
    (fun (s : State) (q : Fin 16) (e : Event) => (s.event q.val) = some e ∧ s.seqState q.val = 5 ∧ timeLe e.window
      s.time.link = true ∧ cKind e.words ≠ 2 ∧ cKind e.words ≠ 3 ∧ cKind e.words ≠ 5) (((live.w [(Port.SEQ_STAT 15,
      inFld 14 12 5)]).setEvent 15 (some followerEvent)).at_ 100000) 15 followerEvent := by
  decide +kernel


/-- States and operands that meet the hypotheses of EventsCloseSequencersFaultAndLedgersClear, clauses 1 on. -/
theorem met_EventsCloseSequencersFaultAndLedgersClear_1 :
    (fun (s : State) (q : Fin 16) (e : Event) => (s.event q.val) = some e ∧ e.loaded = true ∧ timeLe e.closeAt
      s.time.link = true ∧ s.seqTx q.val = false ∧ e.lane = none) ((live.setEvent 0 (some someEvent)).at_ 100000) 0
      someEvent ∧
    (fun (s : State) (q : Fin 16) (e : Event) (l : Nat) => (s.event q.val) = some e ∧ e.loaded = true ∧ timeLe
      e.closeAt s.time.link = true ∧ e.lane = some l ∧ (s.lane l).seq = some q.val ∧ s.receiving l = true)
      (((live.setEvent 0 (some { someEvent with lane := some 6 })).at_ 100000).setLane 6
      { Lane.idle with seq := some 0, pkt := some somePkt }) 0 ({ someEvent with lane := some 6 }) 6 ∧
    (fun (s : State) (q : Fin 16) (e : Event) => (s.event q.val) = some e ∧ s.seqState q.val = 7 ∧ e.loaded = true ∧
      e.evstat ≠ 6 ∧ e.evstat ≠ 7) ((live.w [(Port.SEQ_STAT 4, inFld 14 12 7)]).setEvent 4 (some
      { someEvent with evstat := 1 })) 4 ({ someEvent with evstat := 1 }) := by
  decide +kernel

/-- States and operands that meet the hypotheses of EventsCloseSequencersFaultAndLedgersClear, clauses 4 on. -/
theorem met_EventsCloseSequencersFaultAndLedgersClear_4 :
    (fun (s : State) (ctx : BitVec 14) => (s.cal ctx.toNat).isSome = true ∧ s.eventOf ctx.toNat = none ∧
      s.superviseDue (s.ctxWords ctx.toNat) = true ∧ s.link.searchWait = []) (((live.at_ 1000000).withCtx 3
      (someCtx.set 9 1)).setCal 3 (some someEntry)) 3 ∧
    (fun (s : State) (q : Fin 16) (e : Event) => (s.event q.val) = some e ∧ cKind e.words = 5 ∧ e.txOnly = false ∧
      s.seqState q.val = 5 ∧ e.join = false ∧ timeLe (cNext e.words + ticks (cw e.words 24 17 10 * 16000)) s.time.link
      = true) (((live.w [(Port.SEQ_STAT 1, inFld 14 12 5)]).setEvent 1 (some sourceEvent)).at_ 100000) 1 sourceEvent ∧
    (fun (s : State) (q : Fin 16) (e : Event) => (s.event q.val) = some e ∧ e.join = true ∧ timeLe (joinTill e.words)
      s.time.link = true ∧ s.seqTx q.val = false ∧ e.lane = none) (((live.w [(Port.SEQ_STAT 1, inFld 14 12
      2)]).setEvent 1 (some { sourceEvent with join := true })).at_ 100000) 1 ({ sourceEvent with join := true }) := by
  decide +kernel

/-- States and operands that meet the hypotheses of EventsCloseSequencersFaultAndLedgersClear, clauses 7 on. -/
theorem met_EventsCloseSequencersFaultAndLedgersClear_7 :
    (fun (s : State) (q : Fin 16) (kind : SeqFaultKind) (r : Nat) => kind ≠ .overrun ∧ s.getF (Port.SEQ_STAT q.val) 17
      15 = 1 ∧ s.event q.val = none ∧ s.link.calendar = [] ∧ (List.range 16).find? (fun r => decide (s.getF
      (Port.SEQ_STAT r) 17 15 = 2)) = some r) (live.w [(Port.SEQ_STAT 0, inFld 17 15 1), (Port.SEQ_STAT 15, inFld 17
      15 2)]) 0 .contextEcc 15 ∧
    (fun (s : State) (m : Master) (q : Fin 16) => s.answers m (Port.SEQ_CMD q.val) = true ∧ s.getF (Port.SEQ_STAT
      q.val) 17 15 = 3) (live.w [(Port.SEQ_STAT 15, inFld 17 15 3)]) .lkc 15 ∧
    (fun (s : State) (m : Master) (q : Fin 16) => s.answers m (Port.SEQ_CMD q.val) = true ∧ s.getF (Port.SEQ_STAT
      q.val) 17 15 ≠ 3) (live.w [(Port.SEQ_STAT 15, inFld 17 15 1)]) .lkc 15 := by
  decide +kernel

/-- States and operands that meet the hypotheses of EventsCloseSequencersFaultAndLedgersClear, clauses 10 on. -/
theorem met_EventsCloseSequencersFaultAndLedgersClear_10 :
    (fun (s : State) (q : Fin 16) => Cells.rd (fun _ => 0) s.link.seqTesting q.val = 1) ({ live.w [(Port.SEQ_STAT 15,
      inFld 17 15 3)] with
        link := { Link.reset with seqTesting := [(15, 1)] } }) 15 ∧
    (fun (s : State) (q : Fin 16) => Cells.rd (fun _ => 0) s.link.seqTesting q.val = 1) ({ live.w [(Port.SEQ_STAT 15,
      inFld 17 15 3)] with
        link := { Link.reset with seqTesting := [(15, 1)] } }) 15 ∧
    (fun (s : State) (m : Master) => s.answers m Port.LTB_ACC_CMD = true ∧ s.fuses.lifeCycle ≤ 1) (live.setLedger 7
      { Ledger.empty with slots := [(5, 9)] }) .lkc := by
  decide +kernel

/-- States and operands that meet the hypotheses of EventsCloseSequencersFaultAndLedgersClear, clauses 14 on. -/
theorem met_EventsCloseSequencersFaultAndLedgersClear_14 :
    (fun (s : State) (m : Master) => s.answers m Port.LTB_ACC_CMD = true ∧ 2 ≤ s.fuses.lifeCycle) ((live.setLedger 7
      { Ledger.empty with slots := [(5, 9)] }).withFuses { Fuses.reset with intent := 6, anchored := 6, done := 6 })
      .lkc := by
  decide +kernel


/-- States and operands that meet the hypotheses of SniffWindowsOpenServeAndClose, clauses 1 on. -/
theorem met_SniffWindowsOpenServeAndClose_1 :
    (fun (s : State) (e : Fin 8) => s.sniffing = true ∧ s.sniffDue e.val = true ∧ s.sniffAble e.val = true) sniffLive
      2 ∧
    (fun (s : State) (e : Fin 8) => s.sniffing = true ∧ s.sniffDue e.val = true ∧ s.sniffAble e.val = false)
      (sniffLive.w [(Port.PWR_MASK 2, 0)]) 2 ∧
    (fun (s : State) (e : Fin 8) => s.sniffing = true ∧ s.link.sniffOn = true ∧ s.sniffKind e.val ≠ 0 ∧ s.link.sniff =
      none ∧ timeLe (s.sniffNext e.val) s.time.link = true ∧ (List.range 8).all (fun f => f == e.val || s.sniffKind f
      == 0) = true) ({ sniffLive with link := { Link.reset with sniffOn := true } }) 2 := by
  decide +kernel

/-- States and operands that meet the hypotheses of SniffWindowsOpenServeAndClose, clauses 4 on. -/
theorem met_SniffWindowsOpenServeAndClose_4 :
    (fun (s : State) (e i l : Nat) => s.link.sniff = some (e, i, true) ∧ timeLe s.link.sniffTill s.time.link = true ∧
      s.sniffUnit = some l ∧ s.receiving l = false ∧ (s.lane l).discarding = false ∧ s.sniffBins e ≤ i + 1)
      ({ sniffLive with link := { Link.reset with sniffOn := true, sniff := some (2, 0, true) } }) 2 0 0 ∧
    (fun (s : State) (e i : Nat) => s.level = 3 ∧ s.link.sniffOn = true ∧ s.link.sniff = some (e, i, false) ∧
      s.seqState 0 = 0 ∧ s.sniffBins e ≤ i ∧ (List.range 8).all (fun f => !s.sniffDue f) = true) ({ sniffLive.w
      [(Port.LTB_SNF_A 2, 9000)] with
        link := { Link.reset with sniffOn := true, sniff := some (2, 1, false) } }) 2 1 := by
  decide +kernel


/-- States and operands that meet the hypotheses of ContextsAreFetchedPinnedAndLookedUp, clauses 1 on. -/
theorem met_ContextsAreFetchedPinnedAndLookedUp_1 :
    (fun (s : State) (ctx : BitVec 14) => s.dueEntries.head? = some ctx.toNat ∧ s.eventOf ctx.toNat = none)
      (((live.at_ 99000).withCtx 3 someCtx).setCal 3 (some
      { someEntry with inHorizon := false, seq := none, lane := none })) 3 ∧
    (fun (s : State) (ctx : BitVec 14) => s.dueEntries.head? = some ctx.toNat ∧ (s.eventOf ctx.toNat).isSome = true)
      ((((live.at_ 149000).withCtx 3 someCtx).setCal 3 (some someEntry)).setEvent 1 (some haldaroEvent)) 3 ∧
    (fun (s : State) (ctx : BitVec 14) => ctx.toNat ∉ s.dueEntries) (((live.at_ 9).withCtx 3 someCtx).setCal 3 (some
      { someEntry with inHorizon := false })) 3 := by
  decide +kernel

/-- States and operands that meet the hypotheses of ContextsAreFetchedPinnedAndLookedUp, clauses 4 on. -/
theorem met_ContextsAreFetchedPinnedAndLookedUp_4 :
    (fun (s : State) (ctx : BitVec 14) (r : List Nat) (k : Nat) => s.trim.swaps = ctx.toNat :: r ∧ s.victim = some k ∧
      s.dramUp = true ∧ Cells.rd (fun _ => 0) s.trim.fetched ctx.toNat = 0 ∧ ((s.occupantOf k = 0 ∨ bitOf (s.sramRd
      (s.slotWord k 63)) 10 = false)) ∧ s.link.insertWait ≠ some ctx.toNat ∧ s.trim.belayWait ≠ some ctx.toNat)
      ({ dramLive with trim := { Trim.reset with swaps := [2000, 2001] } }) 2000 [2001] 0 ∧
    (fun (s : State) (ctx : BitVec 14) (r : List Nat) (k : Nat) => s.trim.swaps = ctx.toNat :: r ∧ s.victim = some k ∧
      s.dramUp = true ∧ Cells.rd (fun _ => 0) s.trim.fetched ctx.toNat = 0 ∧ s.occupantOf k ≠ 0 ∧ s.occupantOf k ≠
      ctx.toNat + 1 ∧ bitOf (s.sramRd (s.slotWord k 63)) 10 = true ∧ s.link.insertWait ≠ some ctx.toNat ∧
      s.trim.belayWait ≠ some ctx.toNat) ({ dramLive with
        trim := { Trim.reset with swaps := [2000] }, mem :=
          { Mem.reset with sram := Cells.wrs (fun _ => 0) [] (dramLive.slotWord 0 62) [7, inFld 10 10 1] } }) 2000 []
      0 ∧
    (fun (s : State) (ctx : BitVec 14) => ((s.dramUp = false ∨ s.victim = none)) ∧ s.link.insertWait ≠ some ctx.toNat
      ∧ s.resident ctx.toNat = false) ({ live with trim := { Trim.reset with swaps := [2000] } }) 2000 := by
  decide +kernel

/-- States and operands that meet the hypotheses of ContextsAreFetchedPinnedAndLookedUp, clauses 7 on. -/
theorem met_ContextsAreFetchedPinnedAndLookedUp_7 :
    (fun (s : State) (m : Master) => s.answers m Port.TRM_CTX_CMD = true ∧ s.getB Port.TRM_CTX_STAT 17 = true) (live.w
      [(Port.TRM_CTX_STAT, inFld 17 17 1)]) .lkc ∧
    (fun (s : State) (m : Master) => s.answers m Port.TRM_CTX_CMD = true ∧ s.getB Port.TRM_CTX_STAT 17 = true) (live.w
      [(Port.TRM_CTX_STAT, inFld 17 17 1)]) .lkc ∧
    (fun (s : State) (m : Master) => s.answers m Port.TRM_CTX_CMD = true ∧ s.getB Port.TRM_CTX_STAT 17 = true) (live.w
      [(Port.TRM_CTX_STAT, inFld 17 17 1)]) .lkc := by
  decide +kernel

/-- States and operands that meet the hypotheses of ContextsAreFetchedPinnedAndLookedUp, clauses 10 on. -/
theorem met_ContextsAreFetchedPinnedAndLookedUp_10 :
    (fun (s : State) (m : Master) => s.answers m Port.TRM_CTX_CMD = true ∧ s.getB Port.TRM_CTX_STAT 17 = false ∧
      s.getF Port.TRM_CTX_ARG 13 0 < s.ctxTotal ∧ s.resident (s.getF Port.TRM_CTX_ARG 13 0) = true) ((live.withRig
      (rigOf 2 dramPart)).w [(Port.TRM_CTX_ARG, 3)]) .host ∧
    (fun (s : State) (m : Master) => s.answers m Port.TRM_CTX_CMD = true ∧ s.getB Port.TRM_CTX_STAT 17 = false ∧
      s.getF Port.TRM_CTX_ARG 13 0 < s.ctxTotal ∧ s.resident (s.getF Port.TRM_CTX_ARG 13 0) = false) ((live.withRig
      (rigOf 2 dramPart)).w [(Port.TRM_CTX_ARG, 2000)]) .host ∧
    (fun (s : State) (m : Master) => s.answers m Port.TRM_CTX_CMD = true ∧ s.getB Port.TRM_CTX_STAT 17 = false ∧
      s.ctxTotal ≤ s.getF Port.TRM_CTX_ARG 13 0) ((live.withRig (rigOf 2 dramPart)).w [(Port.TRM_CTX_ARG, 4096)])
      .host := by
  decide +kernel

/-- States and operands that meet the hypotheses of ContextsAreFetchedPinnedAndLookedUp, clauses 13 on. -/
theorem met_ContextsAreFetchedPinnedAndLookedUp_13 :
    (fun (s : State) (m : Master) => s.answers m Port.TRM_CTX_CMD = true ∧ s.getB Port.TRM_CTX_STAT 17 = false ∧
      s.getF Port.TRM_CTX_ARG 13 0 < s.ctxTotal ∧ s.resident (s.getF Port.TRM_CTX_ARG 13 0) = true ∧ 2 * s.belayed <
      s.ctxSlots) ((live.withRig (rigOf 2 dramPart)).w [(Port.TRM_CTX_ARG, 1023)]) .apc ∧
    (fun (s : State) (m : Master) => s.answers m Port.TRM_CTX_CMD = true ∧ s.getB Port.TRM_CTX_STAT 17 = false ∧
      s.getF Port.TRM_CTX_ARG 13 0 < s.ctxTotal ∧ s.resident (s.getF Port.TRM_CTX_ARG 13 0) = true ∧ s.ctxF (s.getF
      Port.TRM_CTX_ARG 13 0) 63 11 11 = 0 ∧ s.ctxSlots ≤ 2 * s.belayed) ({ (live.withRig (rigOf 2 dramPart)).w
      [(Port.TRM_CTX_ARG, 0), (Port.MEM_PART 1, 0)] with
        trim := { Trim.reset with slot := [(0, 1)] } }) .apc ∧
    (fun (s : State) (m : Master) => s.answers m Port.TRM_CTX_CMD = true ∧ s.getB Port.TRM_CTX_STAT 17 = false ∧
      s.getF Port.TRM_CTX_ARG 13 0 < s.ctxTotal ∧ s.resident (s.getF Port.TRM_CTX_ARG 13 0) = false ∧ s.dramUp = true
      ∧ 2 * s.belayed < s.ctxSlots) (dramLive.w [(Port.TRM_CTX_ARG, 1200)]) .apc := by
  decide +kernel

/-- States and operands that meet the hypotheses of ContextsAreFetchedPinnedAndLookedUp, clauses 16 on. -/
theorem met_ContextsAreFetchedPinnedAndLookedUp_16 :
    (fun (s : State) (m : Master) => s.answers m Port.TRM_CTX_CMD = true ∧ s.getB Port.TRM_CTX_STAT 17 = false ∧
      s.getF Port.TRM_CTX_ARG 13 0 < s.ctxTotal ∧ s.resident (s.getF Port.TRM_CTX_ARG 13 0) = false ∧ s.dramUp =
      false) ((live.withRig (rigOf 2 dramPart)).w [(Port.TRM_CTX_ARG, 1200)]) .apc ∧
    (fun (s : State) (m : Master) => s.answers m Port.TRM_CTX_CMD = true ∧ s.getB Port.TRM_CTX_STAT 17 = false ∧
      s.getF Port.TRM_CTX_ARG 13 0 < s.ctxTotal ∧ s.resident (s.getF Port.TRM_CTX_ARG 13 0) = true ∧ s.ctxF (s.getF
      Port.TRM_CTX_ARG 13 0) 63 11 11 = 1) (((live.withRig (rigOf 2 dramPart)).w [(Port.TRM_CTX_ARG, 3)]).setCtxF 3 63
      11 11 1) .dbg ∧
    (fun (s : State) (m : Master) => s.answers m Port.TRM_CTX_CMD = true ∧ s.getB Port.TRM_CTX_STAT 17 = false ∧
      s.getF Port.TRM_CTX_ARG 13 0 < s.ctxTotal ∧ ((s.resident (s.getF Port.TRM_CTX_ARG 13 0) = false ∨ s.ctxF (s.getF
      Port.TRM_CTX_ARG 13 0) 63 11 11 = 0))) ((live.withRig (rigOf 2 dramPart)).w [(Port.TRM_CTX_ARG, 3)]) .dbg := by
  decide +kernel


/-- States and operands that meet the hypotheses of TheOrderKeeperCommitsHoldsAndExpires, clauses 1 on. -/
theorem met_TheOrderKeeperCommitsHoldsAndExpires_1 :
    (fun (s : State) (l : Fin 64) (g : Staged) (r : List Staged) (c : Nat) => (s.lane l.val).stage = g :: r ∧ g.hold =
      false ∧ g.ordered = true ∧ g.ctx = some c ∧ s.heldBehind c g.epoch = false ∧ s.epochGone c g.epoch = false ∧
      g.wanted = true) (live.setLane 6 laneHolds) 6 someStaged ([]) 3 ∧
    (fun (s : State) (l : Fin 64) (g : Staged) (r : List Staged) => (s.lane l.val).stage = g :: r ∧ g.hold = false ∧
      g.ordered = false ∧ g.wanted = true) (live.setLane 6
      { laneHolds with stage := [{ someStaged with ordered := false, ctx := none }] }) 6
      ({ someStaged with ordered := false, ctx := none }) ([]) ∧
    (fun (s : State) (l : Fin 64) (g : Staged) (r : List Staged) (c : Nat) => (s.lane l.val).stage = g :: r ∧ g.hold =
      false ∧ g.ordered = true ∧ g.ctx = some c ∧ s.heldBehind c g.epoch = false ∧ s.epochGone c g.epoch = false ∧
      g.wanted = false) (live.setLane 6 { laneHolds with stage := [{ someStaged with wanted := false }] }) 6
      ({ someStaged with wanted := false }) ([]) 3 := by
  decide +kernel

/-- States and operands that meet the hypotheses of TheOrderKeeperCommitsHoldsAndExpires, clauses 4 on. -/
theorem met_TheOrderKeeperCommitsHoldsAndExpires_4 :
    (fun (s : State) (l : Fin 64) (g : Staged) (r : List Staged) (c : Nat) => (s.lane l.val).stage = g :: r ∧ g.hold =
      false ∧ g.ordered = true ∧ g.ctx = some c ∧ s.heldBehind c g.epoch = true) ((live.setLane 6
      laneHolds).setEntries [{ someOk with epoch := 63 }]) 6 someStaged ([]) 3 ∧
    (fun (s : State) (l : Fin 64) (g : Staged) (r : List Staged) (c : Nat) => (s.lane l.val).stage = g :: r ∧ g.hold =
      false ∧ g.ordered = true ∧ g.ctx = some c ∧ s.heldBehind c g.epoch = false ∧ s.epochGone c g.epoch = true)
      (live.setLane 6 { laneHolds with stage := [{ someStaged with epoch := 63 }] }) 6
      ({ someStaged with epoch := 63 }) ([]) 3 ∧
    (fun (s : State) (l : Fin 64) (ctx : BitVec 14) (epoch : BitVec 6) => s.holdsEpoch l.val ctx.toNat epoch = true)
      (live.setLane 6 laneHolds) 6 3 0 := by
  decide +kernel

/-- States and operands that meet the hypotheses of TheOrderKeeperCommitsHoldsAndExpires, clauses 7 on. -/
theorem met_TheOrderKeeperCommitsHoldsAndExpires_7 :
    (fun (s : State) (l : Fin 64) (ctx : BitVec 14) (epoch : BitVec 6) (e : OkEntry) => s.holdsEpoch l.val ctx.toNat
      epoch = false ∧ s.entries = [e] ∧ e.ctx = ctx.toNat ∧ e.epoch = epoch ∧ e.units = [l.val]) (live.setEntries
      [someOk]) 6 3 0 someOk ∧
    (fun (s : State) (l : Fin 64) (ctx : BitVec 14) (epoch : BitVec 6) (e : OkEntry) (k : Nat) => s.holdsEpoch l.val
      ctx.toNat epoch = false ∧ s.entries = [e] ∧ e.ctx = ctx.toNat ∧ e.epoch = epoch ∧ e.units = [l.val, k] ∧ k ≠
      l.val) (live.setEntries [{ someOk with units := [6, 7] }]) 6 3 0 ({ someOk with units := [6, 7] }) 7 ∧
    (fun (s : State) (ctx : BitVec 14) (epoch : BitVec 6) (e : OkEntry) => s.firstEntry ctx.toNat epoch = some e ∧
      e.hole.isSome = true ∧ timeLe (e.timerFrom + ticks (e.timeout * 16)) s.time.link = false) ((live.at_
      1604).setEntries [someOk]) 3 0 someOk := by
  decide +kernel

/-- States and operands that meet the hypotheses of TheOrderKeeperCommitsHoldsAndExpires, clauses 10 on. -/
theorem met_TheOrderKeeperCommitsHoldsAndExpires_10 :
    (fun (s : State) (ctx : BitVec 14) (epoch : BitVec 6) (e : OkEntry) => s.entries = [e] ∧ e.ctx = ctx.toNat ∧
      e.epoch = epoch ∧ e.hole = none ∧ s.queueUp (s.ctxF ctx.toNat 1 6 0) = true ∧ 0 < s.freeCells) ((live.withQueue
      0 []).setEntries [{ someOk with hole := none }]) 3 0 ({ someOk with hole := none }) ∧
    (fun (s : State) (ctx : BitVec 14) (epoch : BitVec 6) (e : OkEntry) (k : Nat) => s.entries = [e] ∧ e.ctx =
      ctx.toNat ∧ e.epoch = epoch ∧ e.hole = some k ∧ timeLe (e.timerFrom + ticks (e.timeout * 16)) s.time.link =
      true) ((live.at_ 1605).setEntries [someOk]) 3 0 someOk 9 := by
  decide +kernel


/-- States and operands that meet the hypotheses of SpillRefillAndPlacement, clauses 1 on. -/
theorem met_SpillRefillAndPlacement_1 :
    (fun (s : State) (q h lo c d : Nat) (r : List CellLoc) => s.getB Port.BSN_STAT 0 = true ∧ s.dramUp = true ∧
      s.domOn 2 = true ∧ s.spillHeld = false ∧ s.spillQueue = some q ∧ s.marks q = some (h, lo) ∧ s.occupancy q = lo +
      1 ∧ Cells.wf (fun _ => 0) s.basin.used = true ∧ Cells.rd (fun _ => 0) s.basin.used c = q + 2 ∧ s.tailCells q =
      .sram c :: r ∧ s.basin.dused.length < s.spillCells ∧ Cells.firstGap 0 s.basin.dused = d ∧ d < s.spillCells)
      (spillLive.withRig (rigOf2 2 dramPart 6 [1, 1])) 5 64 64 8 0 ((List.range 56).map fun i => CellLoc.sram (i + 9)) ∧
    (fun (s : State) (q h lo : Nat) => s.getB Port.BSN_STAT 0 = true ∧ s.dramUp = true ∧ s.domOn 2 = true ∧
      s.spillHeld = false ∧ s.spillQueue = some q ∧ s.marks q = some (h, lo) ∧ lo < s.occupancy q ∧ s.spillCells ≤
      s.basin.dused.length) (spillLive.withRig (rigOf2 2 dramPart 6 [1, 0])) 5 64 64 ∧
    (fun (s : State) => s.spillHeld = true) ({ refillLive with basin := { refillLive.basin with catchUp := true } }) := by
  decide +kernel

/-- States and operands that meet the hypotheses of SpillRefillAndPlacement, clauses 4 on. -/
theorem met_SpillRefillAndPlacement_4 :
    (fun (s : State) (q d : Nat) => s.dramUp = true ∧ s.domOn 2 = true ∧ s.openWaits = false ∧ s.refillQueue = some q
      ∧ s.headLen q + 1 = s.headCells ∧ 0 < s.freeCells ∧ (s.queueCells q).find? (fun l => !l.near) = some (.dram d) ∧
      s.dramBad (spillBase + d) = 0 ∧ s.ownerWrong 3 (spillBase + d) = false) (refillLive) 5 0 ∧
    (fun (s : State) => s.openWaits = true) (refillLive.setCopy 1
      { BsnCopy.idle with rpkt := some (9, { cells := [.dram 3], len := 2, epoch := 0 }) }) ∧
    (fun (s : State) (m : Master) => s.answers m Port.TRM_PLACE_CMD = true ∧ s.getB Port.TRM_PLACE_STAT 17 = true)
      (live.w [(Port.TRM_PLACE_STAT, inFld 17 17 1)]) .apc := by
  decide +kernel

/-- States and operands that meet the hypotheses of SpillRefillAndPlacement, clauses 7 on. -/
theorem met_SpillRefillAndPlacement_7 :
    (fun (s : State) (m : Master) => s.answers m Port.TRM_PLACE_CMD = true ∧ s.getB Port.TRM_PLACE_STAT 17 = false)
      (live) .host ∧
    (fun (s : State) (_result _device : BitVec 3) => s.trim.place.isSome = true ∧ s.stackRole = 0 ∧ s.selfOk = true)
      ({ live.w [(Port.TRM_PLACE_ARG_0, inFld 17 15 4), (Port.RXC_PLAN 0, inFld 17 9 511), (Port.RXC_PLAN 1, inFld 17
      12 63)] with
        rig := { live.rig with words := rigOf2 2 dramPart 5 [0, 0, 16] }, trim := { Trim.reset with place := some 0 }
          }) 0 0 ∧
    (fun (s : State) (_result _device : BitVec 3) => s.trim.place.isSome = true ∧ s.stackRole = 0 ∧ s.selfOk = false)
      ({ live with trim := { Trim.reset with place := some 0 } }) 0 0 := by
  decide +kernel

/-- States and operands that meet the hypotheses of SpillRefillAndPlacement, clauses 10 on. -/
theorem met_SpillRefillAndPlacement_10 :
    (fun (s : State) (result _device : BitVec 3) => s.trim.place.isSome = true ∧ s.stackRole ≠ 0 ∧ s.utvRole < 2 ∧
      result = 0) ({ stackLive with trim := { Trim.reset with place := some 0 } }) 0 2 ∧
    (fun (s : State) (result _device : BitVec 3) => s.trim.place.isSome = true ∧ s.stackRole ≠ 0 ∧ s.utvRole < 2 ∧
      result = 1) ({ stackLive with trim := { Trim.reset with place := some 0 } }) 1 2 ∧
    (fun (s : State) (_result _device : BitVec 3) (d : Nat) => s.trim.place.isSome = true ∧ 2 ≤ s.utvRole ∧ s.choose
      s.utvPos = some d) ({ mastLive.w [(Port.TRM_PLACE_ARG_0, inFld 17 15 4), (Port.RXC_PLAN 0, inFld 17 9 511),
      (Port.RXC_PLAN 1, inFld 17 12 63)] with
        rig := { live.rig with words := rigOf2 2 dramPart 5 [0, 0, 16] }, trim := { Trim.reset with place := some 0 }
          }) 0 0 0 := by
  decide +kernel

/-- States and operands that meet the hypotheses of SpillRefillAndPlacement, clauses 13 on. -/
theorem met_SpillRefillAndPlacement_13 :
    (fun (s : State) (since : BitVec 54) => s.trim.place = some since ∧ timeLe (since + 80000) s.time.link = true)
      ({ live.at_ 80000 with trim := { Trim.reset with place := some 0 } }) 0 ∧
    (fun (s : State) (since : BitVec 54) => s.trim.place = some since ∧ timeLe (since + 80000) s.time.link = false)
      ({ live.at_ 79999 with trim := { Trim.reset with place := some 0 } }) 0 := by
  decide +kernel


/-- States and operands that meet the hypotheses of AMasterWritesAPacket, clauses 1 on. -/
theorem met_AMasterWritesAPacket_1 :
    (fun (s : State) (m : Master) => s.answers m Port.BSN_QCMD = true ∧ s.qBusy m = true) (live.withCopy .lkc 5
      { BsnCopy.idle with deferred := 84 }) .lkc ∧
    (fun (s : State) (m : Master) => s.answers m Port.BSN_QCMD = true ∧ s.qBusy m = true) (live.withCopy .lkc 5
      { BsnCopy.idle with deferred := 84 }) .lkc ∧
    (fun (s : State) (m : Master) => s.answers m Port.BSN_QCMD = true ∧ s.qBusy m = true) (live.withCopy .lkc 5
      { BsnCopy.idle with deferred := 84 }) .lkc := by
  decide +kernel

/-- States and operands that meet the hypotheses of AMasterWritesAPacket, clauses 4 on. -/
theorem met_AMasterWritesAPacket_4 :
    (fun (s : State) (m : Master) => s.answers m Port.BSN_QCMD = true ∧ s.qBusy m = false ∧ s.queueUp (s.argQueue m) =
      true ∧ (s.copy m.num).wpkt = none ∧ s.cellGranted (s.argQueue m) = true) ((live.withQueue 127 []).withCopy .host
      127 BsnCopy.idle) .host ∧
    (fun (s : State) (m : Master) => s.answers m Port.BSN_QCMD = true ∧ s.qBusy m = false ∧ s.queueUp (s.argQueue m) =
      false) (live.withCopy .apc 127 BsnCopy.idle) .apc ∧
    (fun (s : State) (m : Master) => s.answers m Port.BSN_QCMD = true ∧ s.qBusy m = false ∧ s.queueUp (s.argQueue m) =
      true ∧ (s.copy m.num).wpkt.isSome = true) (((live.withQueue 5 []).withCopy .dbg 5
      { BsnCopy.idle with wpkt := some (5, twoCells) })) .dbg := by
  decide +kernel

/-- States and operands that meet the hypotheses of AMasterWritesAPacket, clauses 7 on. -/
theorem met_AMasterWritesAPacket_7 :
    (fun (s : State) (m : Master) => s.answers m Port.BSN_QCMD = true ∧ s.qBusy m = false ∧ s.queueUp (s.argQueue m) =
      true ∧ (s.copy m.num).wpkt = none ∧ s.cellGranted (s.argQueue m) = false) (((live.withQueue 5 []).w
      [(Port.MEM_PART 0, 0)]).withCopy .apc 5 BsnCopy.idle) .apc ∧
    (fun (s : State) (m : Master) (_v : Word) (x c n : Nat) (p : Pkt) => s.answers m Port.BSN_WDATA = true ∧ s.qBusy m
      = false ∧ (s.copy m.num).wpkt = some (x, p) ∧ (s.get (bWcount m)).toNat = n ∧ n < 8192 ∧ n % 8 ≠ 0 ∧ p.payCell n
      = .sram c ∧ s.getB Port.MEM_INJ 17 = false) (((live.withQueue 5 []).withCopy .lkc 5
      { BsnCopy.idle with wpkt := some (5, twoCells) }).w [(bWcount .lkc, 7)]) .lkc 9 5 1 7 twoCells ∧
    (fun (s : State) (m : Master) (_v : Word) (x n : Nat) (p : Pkt) => s.answers m Port.BSN_WDATA = true ∧ s.qBusy m =
      false ∧ (s.copy m.num).wpkt = some (x, p) ∧ (s.get (bWcount m)).toNat = n ∧ n < 8192 ∧ n % 8 = 0 ∧
      p.cells.length = n / 8 + 1 ∧ s.queueUp x = true ∧ s.cellGranted x = true ∧ s.getB Port.MEM_INJ 17 = false)
      (((live.withQueue 5 []).withCopy .lkc 5 { BsnCopy.idle with wpkt := some (5, twoCells) }).w [(bWcount .lkc, 8)])
      .lkc 9 5 8 twoCells := by
  decide +kernel

/-- States and operands that meet the hypotheses of AMasterWritesAPacket, clauses 10 on. -/
theorem met_AMasterWritesAPacket_10 :
    (fun (s : State) (m : Master) (_v : Word) => s.answers m Port.BSN_WDATA = true ∧ s.qBusy m = false ∧ (((s.copy
      m.num).wpkt = none ∨ 8192 ≤ (s.get (bWcount m)).toNat))) (((live.withQueue 5 []).withCopy .host 5
      { BsnCopy.idle with wpkt := some (5, twoCells) }).w [(bWcount .host, 8192)]) .host 9 ∧
    (fun (s : State) (m : Master) (i : Fin 8) (_v : Word) (x c : Nat) (p : Pkt) => s.answers m (Port.BSN_HDR i.val) =
      true ∧ i ≠ 0 ∧ (s.copy m.num).wpkt = some (x, p) ∧ p.head = .sram c ∧ s.sramBad (s.cellAddr c i.val) = 0 ∧
      s.getB Port.MEM_INJ 17 = false) (((live.withQueue 5 []).withCopy .apc 5
      { BsnCopy.idle with wpkt := some (5, twoCells) })) .apc 1 9 5 0 twoCells ∧
    (fun (s : State) (m : Master) (i : Fin 8) (_v : Word) => s.answers m (Port.BSN_HDR i.val) = true ∧ ((i = 0 ∨
      ((s.copy m.num).wpkt = none ∧ (s.copy m.num).rpkt = none)))) (((live.withQueue 5 []).withCopy .apc 5
      { BsnCopy.idle with wpkt := some (5, twoCells) })) .apc 0 9 := by
  decide +kernel

/-- States and operands that meet the hypotheses of AMasterWritesAPacket, clauses 13 on. -/
theorem met_AMasterWritesAPacket_13 :
    (fun (s : State) (m : Master) (x c len : Nat) (p : Pkt) => s.answers m Port.BSN_QCMD = true ∧ s.qBusy m = false ∧
      (s.copy m.num).wpkt = some (x, p) ∧ s.getF (bQarg m) 13 0 = len ∧ len ≤ 2 * (s.get (bWcount m)).toNat ∧ p.head =
      .sram c) (((live.withQueue 5 []).withCopy .lkc 5 { BsnCopy.idle with wpkt := some (5, twoCells) }).w [(bQarg
      .lkc, 3), (bWcount .lkc, 2)]) .lkc 5 0 3 twoCells ∧
    (fun (s : State) (m : Master) (x : Nat) (p : Pkt) => s.answers m Port.BSN_QCMD = true ∧ s.qBusy m = false ∧
      (s.copy m.num).wpkt = some (x, p) ∧ 2 * (s.get (bWcount m)).toNat < s.getF (bQarg m) 13 0) (((live.withQueue 5
      []).withCopy .lkc 5 { BsnCopy.idle with wpkt := some (5, twoCells) }).w [(bQarg .lkc, 1)]) .lkc 5 twoCells ∧
    (fun (s : State) (m : Master) => s.answers m Port.BSN_QCMD = true ∧ s.qBusy m = false ∧ (s.copy m.num).wpkt =
      none) (live.withCopy .lkc 5 BsnCopy.idle) .lkc := by
  decide +kernel

/-- States and operands that meet the hypotheses of AMasterWritesAPacket, clauses 16 on. -/
theorem met_AMasterWritesAPacket_16 :
    (fun (s : State) (m : Master) (x : Nat) (p : Pkt) => s.answers m Port.BSN_QCMD = true ∧ s.qBusy m = false ∧
      (s.copy m.num).wpkt = some (x, p)) (((live.withQueue 5 []).withCopy .apc 5
      { BsnCopy.idle with wpkt := some (5, twoCells) })) .apc 5 twoCells ∧
    (fun (s : State) (m : Master) => s.answers m Port.BSN_QCMD = true ∧ s.qBusy m = false ∧ (s.copy m.num).wpkt =
      none) (live.withCopy .apc 5 BsnCopy.idle) .apc := by
  decide +kernel


/-- States and operands that meet the hypotheses of AMasterReadsAPacket, clauses 1 on. -/
theorem met_AMasterReadsAPacket_1 :
    (fun (s : State) (m : Master) => s.answers m Port.BSN_QCMD = true ∧ s.qBusy m = true) (live.withCopy .lkc 5
      { BsnCopy.idle with deferred := 84 }) .lkc ∧
    (fun (s : State) (m : Master) => s.answers m Port.BSN_QCMD = true ∧ s.qBusy m = true) (live.withCopy .lkc 5
      { BsnCopy.idle with deferred := 84 }) .lkc ∧
    (fun (s : State) (m : Master) => s.answers m Port.BSN_QCMD = true ∧ s.qBusy m = true) (live.withCopy .lkc 5
      { BsnCopy.idle with deferred := 84 }) .lkc := by
  decide +kernel

/-- States and operands that meet the hypotheses of AMasterReadsAPacket, clauses 4 on. -/
theorem met_AMasterReadsAPacket_4 :
    (fun (s : State) (m : Master) => s.answers m Port.BSN_QCMD = true ∧ s.qBusy m = true) (live.withCopy .lkc 5
      { BsnCopy.idle with deferred := 84 }) .lkc ∧
    (fun (s : State) (m : Master) => s.answers m Port.BSN_QCMD = true ∧ s.qBusy m = true) (live.withCopy .lkc 5
      { BsnCopy.idle with deferred := 84 }) .lkc ∧
    (fun (s : State) (m : Master) (p : Pkt) (r : List Pkt) => s.answers m Port.BSN_QCMD = true ∧ s.qBusy m = false ∧
      s.txqHeld (s.argQueue m) = false ∧ s.queueUp (s.argQueue m) = true ∧ s.mayRead m (s.argQueue m) = true ∧ (s.copy
      m.num).rpkt = none ∧ s.queue (s.argQueue m) = p :: r ∧ s.headWaits (s.argQueue m) = false ∧ s.breakAt p = none)
      ((((live.withQueue 5 [twoCells]).w [(Port.BSN_Q_CFG 5, inFld 17 15 2 ||| inFld 14 0 100)]).withCopy .host 5
      BsnCopy.idle)) .host twoCells ([]) := by
  decide +kernel

/-- States and operands that meet the hypotheses of AMasterReadsAPacket, clauses 7 on. -/
theorem met_AMasterReadsAPacket_7 :
    (fun (s : State) (m : Master) => s.answers m Port.BSN_QCMD = true ∧ s.qBusy m = false ∧ s.queueUp (s.argQueue m) =
      false) (live.withCopy .host 5 BsnCopy.idle) .host ∧
    (fun (s : State) (m : Master) => s.answers m Port.BSN_QCMD = true ∧ s.qBusy m = false ∧ s.queueUp (s.argQueue m) =
      true ∧ s.mayRead m (s.argQueue m) = false) ((live.withQueue 5 []).withCopy .host 5 BsnCopy.idle) .host ∧
    (fun (s : State) (m : Master) => s.answers m Port.BSN_QCMD = true ∧ s.qBusy m = false ∧ s.txqHeld (s.argQueue m) =
      false ∧ s.queueUp (s.argQueue m) = true ∧ s.mayRead m (s.argQueue m) = true ∧ (s.copy m.num).rpkt.isSome = true)
      ((live.withQueue 5 [twoCells]).withCopy .apc 5 { BsnCopy.idle with rpkt := some (7, twoCells) }) .apc := by
  decide +kernel

/-- States and operands that meet the hypotheses of AMasterReadsAPacket, clauses 10 on. -/
theorem met_AMasterReadsAPacket_10 :
    (fun (s : State) (m : Master) => s.answers m Port.BSN_QCMD = true ∧ s.qBusy m = false ∧ s.txqHeld (s.argQueue m) =
      false ∧ s.queueUp (s.argQueue m) = true ∧ s.mayRead m (s.argQueue m) = true ∧ (s.copy m.num).rpkt = none ∧
      s.queue (s.argQueue m) = []) ((live.withQueue 5 []).withCopy .apc 5 BsnCopy.idle) .apc ∧
    (fun (s : State) (m : Master) => s.answers m Port.BSN_QCMD = true ∧ s.qBusy m = false ∧ s.txqHeld (s.argQueue m) =
      false ∧ s.queueUp (s.argQueue m) = true ∧ s.mayRead m (s.argQueue m) = true ∧ (s.copy m.num).rpkt = none ∧
      s.headWaits (s.argQueue m) = true) ((live.withQueue 5 [{ twoCells with cells := [.dram 3] }]).withCopy .apc 5
      BsnCopy.idle) .apc ∧
    (fun (s : State) (m : Master) => s.answers m Port.BSN_QCMD = true ∧ s.qBusy m = false ∧ s.queueUp (s.argQueue m) =
      true ∧ s.mayRead m (s.argQueue m) = true ∧ s.txqHeld (s.argQueue m) = true) ((((live.withQueue 5 [twoCells]).w
      [(Port.BSN_Q_CFG 5, inFld 17 15 0 ||| inFld 14 0 100)]).withCopy .apc 5 BsnCopy.idle).setEvent 2 (some
      { someEvent with words := [0, inFld 13 7 5] })) .apc := by
  decide +kernel

/-- States and operands that meet the hypotheses of AMasterReadsAPacket, clauses 13 on. -/
theorem met_AMasterReadsAPacket_13 :
    (fun (s : State) (m : Master) (y : Nat) (p : Pkt) (r : List Pkt) => (s.copy m.num).deferred = 4 + 16 * y ∧ y < 128
      ∧ s.txqHeld y = false ∧ s.queueUp y = true ∧ s.mayRead m y = true ∧ (s.copy m.num).rpkt = none ∧ s.queue y = p
      :: r ∧ s.headWaits y = false ∧ s.breakAt p = none) ((live.withQueue 5 [twoCells]).withCopy .apc 9
      { BsnCopy.idle with deferred := 84 }) .apc 5 twoCells ([]) ∧
    (fun (s : State) (m : Master) (y : Nat) => (s.copy m.num).deferred = 8 + 16 * y ∧ y < 128 ∧ s.txqHeld y = false ∧
      s.queueUp y = true ∧ s.mayRead m y = true) ((live.withQueue 5 [twoCells]).withCopy .apc 9
      { BsnCopy.idle with deferred := 88 }) .apc 5 ∧
    (fun (s : State) (m : Master) => s.txqHeld ((s.copy m.num).deferred / 16) = true) ((live.withCopy .lkc 9
      { BsnCopy.idle with deferred := 84 }).setEvent 2 (some { someEvent with words := [0, inFld 13 7 5] })) .lkc := by
  decide +kernel

/-- States and operands that meet the hypotheses of AMasterReadsAPacket, clauses 16 on. -/
theorem met_AMasterReadsAPacket_16 :
    (fun (s : State) (m : Master) (p : Pkt) (r : List Pkt) => s.answers m Port.BSN_QCMD = true ∧ s.qBusy m = false ∧
      s.queueUp (s.argQueue m) = true ∧ s.mayRead m (s.argQueue m) = true ∧ s.queue (s.argQueue m) = p :: r ∧
      p.head.near = true) ((((live.withQueue 5 [twoCells]).w [(Port.BSN_Q_CFG 5, inFld 17 15 3 ||| inFld 14 0
      100)]).withCopy .lkc 5 BsnCopy.idle)) .lkc twoCells ([]) ∧
    (fun (s : State) (m : Master) => s.answers m Port.BSN_QCMD = true ∧ s.qBusy m = false ∧ s.queueUp (s.argQueue m) =
      false) (live.withCopy .lkc 5 BsnCopy.idle) .lkc ∧
    (fun (s : State) (m : Master) => s.answers m Port.BSN_QCMD = true ∧ s.qBusy m = false ∧ s.queueUp (s.argQueue m) =
      true ∧ s.mayRead m (s.argQueue m) = false) ((live.withQueue 5 []).withCopy .host 5 BsnCopy.idle) .host := by
  decide +kernel

/-- States and operands that meet the hypotheses of AMasterReadsAPacket, clauses 19 on. -/
theorem met_AMasterReadsAPacket_19 :
    (fun (s : State) (m : Master) => s.answers m Port.BSN_QCMD = true ∧ s.qBusy m = false ∧ s.queueUp (s.argQueue m) =
      true ∧ s.mayRead m (s.argQueue m) = true ∧ s.queue (s.argQueue m) = []) ((live.withQueue 5 []).withCopy .apc 5
      BsnCopy.idle) .apc ∧
    (fun (s : State) (m : Master) => s.answers m Port.BSN_QCMD = true ∧ s.qBusy m = false ∧ s.queueUp (s.argQueue m) =
      true ∧ s.mayRead m (s.argQueue m) = true ∧ s.headAway (s.argQueue m) = true) ((live.withQueue 5
      [{ twoCells with cells := [.dram 3] }]).withCopy .apc 5 BsnCopy.idle) .apc ∧
    (fun (s : State) (m : Master) (x : Nat) (p : Pkt) => s.answers m Port.BSN_QCMD = true ∧ s.qBusy m = false ∧
      (s.copy m.num).rpkt = some (x, p)) (((live.withQueue 5 []).withCopy .apc 5
      { BsnCopy.idle with rpkt := some (5, twoCells) })) .apc 5 twoCells := by
  decide +kernel

/-- States and operands that meet the hypotheses of AMasterReadsAPacket, clauses 22 on. -/
theorem met_AMasterReadsAPacket_22 :
    (fun (s : State) (m : Master) => s.answers m Port.BSN_QCMD = true ∧ s.qBusy m = false ∧ (s.copy m.num).rpkt =
      none) (live.withCopy .apc 5 BsnCopy.idle) .apc ∧
    (fun (s : State) (m : Master) (x : Nat) (p : Pkt) => s.answers m Port.BSN_QCMD = true ∧ s.qBusy m = false ∧
      s.queueUp (s.argQueue m) = true ∧ (s.copy m.num).rpkt = some (x, p)) (((live.withQueue 5 []).withCopy .dbg 5
      { BsnCopy.idle with rpkt := some (5, twoCells) })) .dbg 5 twoCells ∧
    (fun (s : State) (m : Master) => s.answers m Port.BSN_QCMD = true ∧ s.qBusy m = false ∧ (s.copy m.num).rpkt =
      none) (live.withCopy .dbg 5 BsnCopy.idle) .dbg := by
  decide +kernel

/-- States and operands that meet the hypotheses of AMasterReadsAPacket, clauses 25 on. -/
theorem met_AMasterReadsAPacket_25 :
    (fun (s : State) (m : Master) => s.answers m Port.BSN_QCMD = true ∧ s.qBusy m = false ∧ (s.copy m.num).rpkt.isSome
      = true ∧ s.queueUp (s.argQueue m) = false) (((live.withQueue 5 []).withCopy .dbg 5
      { BsnCopy.idle with rpkt := some (5, twoCells) }).w [(bQarg .dbg, 7)]) .dbg ∧
    (fun (s : State) (m : Master) => s.answers m Port.BSN_QCMD = true ∧ s.qBusy m = false ∧ s.txqHeld (s.argQueue m) =
      false ∧ s.queueUp (s.argQueue m) = true ∧ s.mayRead m (s.argQueue m) = true) ((((live.withQueue 5 [twoCells]).w
      [(Port.BSN_Q_CFG 5, inFld 17 15 1 ||| inFld 14 0 100)]).withCopy .lkc 5 BsnCopy.idle)) .lkc ∧
    (fun (s : State) (m : Master) => s.answers m Port.BSN_QCMD = true ∧ s.qBusy m = false ∧ s.queueUp (s.argQueue m) =
      false) (live.withCopy .lkc 5 BsnCopy.idle) .lkc := by
  decide +kernel

/-- States and operands that meet the hypotheses of AMasterReadsAPacket, clauses 28 on. -/
theorem met_AMasterReadsAPacket_28 :
    (fun (s : State) (m : Master) => s.answers m Port.BSN_QCMD = true ∧ s.qBusy m = false ∧ s.queueUp (s.argQueue m) =
      true ∧ s.mayRead m (s.argQueue m) = false) ((live.withQueue 5 []).withCopy .host 5 BsnCopy.idle) .host ∧
    (fun (s : State) (m : Master) (x w c : Nat) (p : Pkt) => s.answers m Port.BSN_RDATA = true ∧ s.qBusy m = false ∧
      (s.copy m.num).rpkt = some (x, p) ∧ s.breakAt p = none ∧ s.getF (bRpos m) 12 0 = w ∧ w < 8191 ∧ 2 * w < p.len ∧
      p.payCell w = .sram c ∧ s.sramBad (s.cellAddr c (w % 8)) = 0) (((live.withQueue 5 []).withCopy .host 5
      { BsnCopy.idle with rpkt := some (5, twoCells) }).w [(bRpos .host, 1)]) .host 5 1 1 twoCells ∧
    (fun (s : State) (m : Master) (x : Nat) (p : Pkt) => s.answers m Port.BSN_RDATA = true ∧ s.qBusy m = false ∧
      (s.copy m.num).rpkt = some (x, p) ∧ s.breakAt p = none ∧ (p.len + 1) / 2 ≤ s.getF (bRpos m) 12 0)
      (((live.withQueue 5 []).withCopy .host 5 { BsnCopy.idle with rpkt := some (5, twoCells) }).w [(bRpos .host, 2)])
      .host 5 twoCells := by
  decide +kernel

/-- States and operands that meet the hypotheses of AMasterReadsAPacket, clauses 31 on. -/
theorem met_AMasterReadsAPacket_31 :
    (fun (s : State) (m : Master) (x : Nat) (p : Pkt) => s.answers m Port.BSN_RDATA = true ∧ s.qBusy m = false ∧
      (s.copy m.num).rpkt = some (x, p) ∧ s.breakAt p = none ∧ 2 * s.getF (bRpos m) 12 0 < p.len ∧ (p.payCell (s.getF
      (bRpos m) 12 0)).near = false) ((live.withQueue 5 []).withCopy .host 5
      { BsnCopy.idle with rpkt := some (5, { twoCells with cells := [.sram 0, .dram 3] }) }) .host 5
      ({ twoCells with cells := [.sram 0, .dram 3] }) := by
  decide +kernel


/-- States and operands that meet the hypotheses of TheBasinKeepsItsPool, clauses 1 on. -/
theorem met_TheBasinKeepsItsPool_1 :
    (fun (s : State) (m : Master) (g : Fin 8) (v : Word) => s.answers m (Port.BSN_IE g.val) = true ∧ (List.range
      16).any (fun i => bitOf v i && !(s.queue (16 * g.val + i)).isEmpty) = true) (live.withQueue 127 [twoCells]) .lkc
      7 0o100000 ∧
    (fun (s : State) (m : Master) (g : Fin 8) (v : Word) => s.answers m (Port.BSN_IE g.val) = true ∧ (List.range
      16).any (fun i => bitOf v i && !(s.queue (16 * g.val + i)).isEmpty) = false) (live.withQueue 127 [twoCells])
      .lkc 6 0o777777 ∧
    (fun (s : State) (q : Fin 128) => s.queueUp q.val = true ∧ s.getF (Port.BSN_Q_IDLE q.val) 11 0 ≠ 0 ∧ s.queue q.val
      ≠ [] ∧ s.idleDue q.val = true ∧ Cells.rd (fun _ => 0) s.basin.idleSaid q.val = 0) (((live.withQueue 127
      [twoCells]).w [(Port.BSN_Q_IDLE 127, 1)]).at_ 10000000) 127 := by
  decide +kernel

/-- States and operands that meet the hypotheses of TheBasinKeepsItsPool, clauses 4 on. -/
theorem met_TheBasinKeepsItsPool_4 :
    (fun (s : State) (q : Fin 128) => ((s.getF (Port.BSN_Q_IDLE q.val) 11 0 = 0 ∨ s.queue q.val = [] ∨ s.idleDue q.val
      = false ∨ Cells.rd (fun _ => 0) s.basin.idleSaid q.val = 1))) ((live.withQueue 127 []).w [(Port.BSN_Q_IDLE 127,
      4095)]) 127 ∧
    (fun (s : State) (m : Master) => s.answers m Port.BSN_AUDIT_CMD = true) (live) .apc ∧
    (fun (s : State) => s.getB Port.BSN_STAT 2 = true) ({ (live.w [(Port.BSN_STAT, 4)]).withQueue 5 [twoCells] with
        basin := { (live.withQueue 5 [twoCells]).basin with used := [(0, 7), (1, 7), (4, 1)] } }) := by
  decide +kernel

/-- States and operands that meet the hypotheses of TheBasinKeepsItsPool, clauses 7 on. -/
theorem met_TheBasinKeepsItsPool_7 :
    (fun (s : State) (m : Master) (x k d n : Nat) (e : BitVec 6) => s.dramUp = true ∧ 0 < s.freeCells ∧ (s.copy
      m.num).rpkt = some (x, ⟨[.sram k, .dram d], n, e⟩) ∧ s.dramBad (spillBase + d) = 0 ∧ s.ownerWrong 3 (spillBase +
      d) = false ∧ ((∀ c, m.core = some c → (s.core c).apWait = none))) ({ dramLive.withCopy .host 5
      { BsnCopy.idle with rpkt := some (5, ⟨[.sram 0, .dram 3], 9, 0⟩) } with
        basin := { (dramLive.withCopy .host 5
          { BsnCopy.idle with rpkt := some (5, ⟨[.sram 0, .dram 3], 9, 0⟩) }).basin with
            used := [(0, 1)], dused := [(3, 1)] } }) .host 5 0 3 9 0 ∧
    (fun (s : State) (m : Master) => ((s.dramUp = false ∨ s.freeCells = 0)) ∧ ((∀ c, m.core = some c → (s.core
      c).apWait = none))) (live) .host ∧
    (fun (s : State) (d : Nat) => s.dramUp = true ∧ (s.basin.dused.filter fun x => x.1 == d).length ≤ 1)
      ({ dramLive with basin := { Basin.reset with dused := [(3, 2), (4, 1)] } }) 3 := by
  decide +kernel

/-- States and operands that meet the hypotheses of TheBasinKeepsItsPool, clauses 10 on. -/
theorem met_TheBasinKeepsItsPool_10 :
    (fun (s : State) => s.dramUp = false) (live) ∧
    (fun (s : State) (cause _port _groups : BitVec 3) (_block : BitVec 25) (_tag : BitVec 16) => s.domOn 12 = true ∧
      ((s.dmcState = 3 ∨ s.dmcState = 4)) ∧ 1 ≤ cause.toNat ∧ cause.toNat ≤ 3) (dramLive) 2 3 1 500000 4097 ∧
    (fun (s : State) (cause _port _groups : BitVec 3) (_block : BitVec 25) (_tag : BitVec 16) => s.domOn 12 = true ∧
      s.dmcState = 4 ∧ 4 ≤ cause.toNat ∧ cause.toNat ≤ 6) (dramLive) 5 0 0 0 0 := by
  decide +kernel

/-- States and operands that meet the hypotheses of TheBasinKeepsItsPool, clauses 13 on. -/
theorem met_TheBasinKeepsItsPool_13 :
    (fun (s : State) (cause _port _groups : BitVec 3) (_block : BitVec 25) (_tag : BitVec 16) => ((s.domOn 12 = false
      ∨ cause = 0 ∨ cause = 7))) (dramLive) 7 0 0 0 0 ∧
    (fun (s : State) (m : Master) => s.answers m Port.DMC_CMD = true ∧ s.dmcState = 6 ∧ s.getF Port.DMC_FRZ_CAUSE 17
      15 < 4 ∧ s.dmc.frozeFrom < 8)
      ({ dramLive.w [(Port.DMC_STAT, inFld 17 15 6)] with dmc := { Dmc.reset with frozeFrom := 4 } }) .apc ∧
    (fun (s : State) (m : Master) => s.answers m Port.DMC_CMD = true ∧ s.dmcState ≠ 6) (dramLive) .lkc := by
  decide +kernel


/-- States and operands that meet the hypotheses of APortTrainsAndFalls, clauses 1 on. -/
theorem met_APortTrainsAndFalls_1 :
    (fun (s : State) (p : Fin 2) => s.lstate p.val = 1) (stackLive.withPort 1 1) 1 ∧
    (fun (s : State) (p : Fin 2) => s.lstate p.val ≠ 1) (stackLive) 1 ∧
    (fun (s : State) (p : Fin 2) (_units : BitVec 12) => s.lstate p.val = 2) (stackLive.withPort 0 2) 0 9 := by
  decide +kernel

/-- States and operands that meet the hypotheses of APortTrainsAndFalls, clauses 4 on. -/
theorem met_APortTrainsAndFalls_4 :
    (fun (s : State) (p : Fin 2) (_units : BitVec 12) => s.lstate p.val ≠ 2) (stackLive) 0 9 ∧
    (fun (s : State) (p : Fin 2) (f : UFrame) => s.lstate p.val = 3 ∧ s.rig.applied = true ∧ frameOk f = true ∧ fType
      f = 6 ∧ fNgrp f = 1 ∧ fld ((fBody f).getD 0 0) 8 6 = s.stackSize ∧ fld ((fBody f).getD 0 0) 14 12 = (if p.val =
      0 then (s.utvPos + 1) % s.ringN else (s.utvPos + s.ringN - 1) % s.ringN)) (stackLive.withPort 0 3) 0 (someFrame
      6 0 [inFld 14 12 2 ||| inFld 8 6 2, 0, 0, 0]) ∧
    (fun (s : State) (p : Fin 2) (f : UFrame) => s.lstate p.val = 3 ∧ s.rig.applied = true ∧ frameOk f = true ∧ fType
      f = 6 ∧ fNgrp f = 1 ∧ ((fld ((fBody f).getD 0 0) 14 12 ≠ (if p.val = 0 then (s.utvPos + 1) % s.ringN else
      (s.utvPos + s.ringN - 1) % s.ringN) ∨ fld ((fBody f).getD 0 0) 8 6 ≠ s.stackSize))) (stackLive.withPort 0 3) 0
      (someFrame 6 0 [inFld 14 12 2 ||| inFld 8 6 3, 0, 0, 0]) := by
  decide +kernel

/-- States and operands that meet the hypotheses of APortTrainsAndFalls, clauses 7 on. -/
theorem met_APortTrainsAndFalls_7 :
    (fun (s : State) (p : Fin 2) (f : UFrame) => s.lstate p.val = 3 ∧ s.rig.applied = true ∧ frameOk f = false)
      (stackLive.withPort 0 3) 0 ({ dataFive with lineOk := false }) ∧
    (fun (s : State) (p : Fin 2) (_f : UFrame) => ((s.lstate p.val ≠ 3 ∨ s.rig.applied = false))) (stackLive) 0
      dataFive ∧
    (fun (s : State) (p : Fin 2) => s.lstate p.val = 4 ∧ s.utv.started = false) (stackLive.withPort 1 4) 1 := by
  decide +kernel

/-- States and operands that meet the hypotheses of APortTrainsAndFalls, clauses 10 on. -/
theorem met_APortTrainsAndFalls_10 :
    (fun (s : State) (p : Fin 2) => s.lstate p.val = 4 ∧ s.utv.started = true)
      ({ stackLive.withPort 1 4 with utv := { stackLive.utv with started := true } }) 1 ∧
    (fun (s : State) (p : Fin 2) => s.lstate p.val ≠ 4) (stackLive) 1 ∧
    (fun (s : State) (p : Fin 2) (why : DownWhy) => s.lstate p.val = 5 ∧ ((why ≠ .retries ∨ s.exhausted p.val =
      true))) (stackLive.withUnacked 1 [(someFrame 0 5 [0,0,0,0,0,0,0,0], 8, 6)]) 1 .retries := by
  decide +kernel

/-- States and operands that meet the hypotheses of APortTrainsAndFalls, clauses 13 on. -/
theorem met_APortTrainsAndFalls_13 :
    (fun (s : State) (p : Fin 2) (why : DownWhy) => ((s.lstate p.val ≠ 5 ∨ (why = .retries ∧ s.exhausted p.val =
      false)))) (stackLive.withUnacked 1 [(dataFive, 7, 6)]) 1 .retries ∧
    (fun (s : State) (m : Master) (p : Fin 2) => s.answers m (Port.UTV_P_CMD p.val) = true ∧ s.lstate p.val = 6)
      (stackLive.w [(Port.UTV_P_STAT 1, inFld 17 15 6 ||| inFld 10 9 3)]) .lkc 1 ∧
    (fun (s : State) (m : Master) (p : Fin 2) => s.answers m (Port.UTV_P_CMD p.val) = true ∧ s.lstate p.val ≠ 6)
      (stackLive) .lkc 1 := by
  decide +kernel

/-- States and operands that meet the hypotheses of APortTrainsAndFalls, clauses 16 on. -/
theorem met_APortTrainsAndFalls_16 :
    (fun (s : State) (p : Fin 2) (_units : BitVec 12) => s.lstate p.val = 5) (stackLive) 0 9 ∧
    (fun (s : State) (p : Fin 2) (_units : BitVec 12) => s.lstate p.val ≠ 5) (stackLive.withPort 0 4) 0 9 := by
  decide +kernel


/-- States and operands that meet the hypotheses of FramesAreSentAcknowledgedAndResent, clauses 1 on. -/
theorem met_FramesAreSentAcknowledgedAndResent_1 :
    (fun (s : State) (p : Fin 2) (hseq : BitVec 6) (_credit : BitVec 16) (a r : List (UFrame × Nat × Nat)) (x : UFrame
      × Nat × Nat) => s.lstate p.val = 5 ∧ (s.uport p.val).unacked = a ++ x :: r ∧ fHseq x.1 = hseq.toNat ∧ a.all (fun
      y => decide (fHseq y.1 ≠ hseq.toNat)) = true) ((stackLive.withQueue 5 [twoCells]).withUnacked 1 [(dataFive, 1,
      6)]) 1 0 7 ([]) ([]) ((dataFive, 1, 6)) ∧
    (fun (s : State) (p : Fin 2) (hseq : BitVec 6) (_credit : BitVec 16) (r : List (UFrame × Nat × Nat)) (f : UFrame)
      (n q : Nat) (k : Pkt) (l : List Pkt) => s.lstate p.val = 5 ∧ (s.uport p.val).unacked = (f, n, q + 1) :: r ∧
      fHseq f = hseq.toNat ∧ s.queue q = k :: l) ((stackLive.withQueue 5 [twoCells]).withUnacked 1 [(dataFive, 1, 6)])
      1 0 7 ([]) dataFive 1 5 twoCells ([]) ∧
    (fun (s : State) (p : Fin 2) (hseq : BitVec 6) (_credit : BitVec 16) => s.lstate p.val = 5 ∧ (s.uport
      p.val).unacked.all (fun y => decide (fHseq y.1 ≠ hseq.toNat)) = true) (stackLive.withUnacked 1 [(dataFive, 1,
      6)]) 1 5 9 := by
  decide +kernel

/-- States and operands that meet the hypotheses of FramesAreSentAcknowledgedAndResent, clauses 4 on. -/
theorem met_FramesAreSentAcknowledgedAndResent_4 :
    (fun (s : State) (p : Fin 2) (_hseq : BitVec 6) => s.lstate p.val = 5 ∧ (s.uport p.val).unacked ≠ [] ∧ s.exhausted
      p.val = false) (stackLive.withUnacked 1 [(dataFive, 6, 6)]) 1 0 ∧
    (fun (s : State) (p : Fin 2) (_hseq : BitVec 6) => s.lstate p.val = 5 ∧ s.exhausted p.val = true)
      (stackLive.withUnacked 0 [(dataFive, 8, 6)]) 0 0 ∧
    (fun (s : State) (p : Fin 2) (_hseq : BitVec 6) => s.lstate p.val = 5 ∧ (s.uport p.val).unacked = []) (stackLive)
      0 0 := by
  decide +kernel

/-- States and operands that meet the hypotheses of FramesAreSentAcknowledgedAndResent, clauses 7 on. -/
theorem met_FramesAreSentAcknowledgedAndResent_7 :
    (fun (s : State) (p : Fin 2) => s.lstate p.val = 5 ∧ (s.uport p.val).unacked ≠ [] ∧ s.exhausted p.val = false)
      (stackLive.withUnacked 1 [(dataFive, 6, 6)]) 1 ∧
    (fun (s : State) (p : Fin 2) => s.lstate p.val = 5 ∧ s.exhausted p.val = true) (stackLive.withUnacked 0
      [(dataFive, 8, 6)]) 0 ∧
    (fun (s : State) (p : Fin 2) => ((s.lstate p.val ≠ 5 ∨ (s.uport p.val).unacked = []))) (stackLive) 0 := by
  decide +kernel

/-- States and operands that meet the hypotheses of FramesAreSentAcknowledgedAndResent, clauses 10 on. -/
theorem met_FramesAreSentAcknowledgedAndResent_10 :
    (fun (s : State) (p : Fin 2) (f : UFrame) (r : List UFrame) => s.lstate p.val = 5 ∧ (s.uport p.val).transit = f ::
      r ∧ s.roomFor p.val f = true) (stackLive.updPort 1 fun u => { u with transit := [dataFive], txHseq := 63 }) 1
      dataFive ([]) ∧
    (fun (s : State) (p : Fin 2) (f : UFrame) (r : List UFrame) => s.lstate p.val = 5 ∧ (s.uport p.val).transit = [] ∧
      (s.uport p.val).syncs = f :: r ∧ 4 ≤ fType f ∧ s.roomFor p.val f = true) (stackLive.updPort 1 fun u =>
      { u with syncs := [someFrame 4 0 []] }) 1 (someFrame 4 0 []) ([]) ∧
    (fun (s : State) (p : Fin 2) (f : UFrame) => s.lstate p.val = 5 ∧ (s.uport p.val).transit = [] ∧ (s.uport
      p.val).syncs = [] ∧ s.localNext p.val = some (f, 0, true) ∧ fPaired f = true ∧ s.roomFor p.val f = true) ({
      stackLive with
        utv := { stackLive.utv with
            outbox := [sealFrame [inFld 17 15 2 ||| inFld 14 12 1 ||| inFld 11 9 2, 0, 3, 0]], heard := [(2, 1)] } })
      0 (sealFrame [inFld 17 15 2 ||| inFld 14 12 1 ||| inFld 11 9 2, 0, 3, 0]) := by
  decide +kernel

/-- States and operands that meet the hypotheses of FramesAreSentAcknowledgedAndResent, clauses 13 on. -/
theorem met_FramesAreSentAcknowledgedAndResent_13 :
    (fun (s : State) (p : Fin 2) (f : UFrame) (q : Nat) (k : Pkt) => s.lstate p.val = 5 ∧ (s.uport p.val).transit = []
      ∧ (s.uport p.val).syncs = [] ∧ s.localNext p.val = some (f, q + 1, true) ∧ (s.queue q)[s.inFlight q]? = some k ∧
      s.breakAt k = none ∧ s.roomFor p.val f = true)
      (({ stackLive with utv := { stackLive.utv with heard := [(2, 1)] } }.withQueue 5 [twoCells]).w [(Port.BSN_Q_CFG
      5, inFld 17 15 3 ||| inFld 14 0 100), (Port.UTV_DEST 2, inFld 7 7 1 ||| 5)]) 0
      ((({ stackLive with utv := { stackLive.utv with heard := [(2, 1)] } }.withQueue 5 [twoCells]).w [(Port.BSN_Q_CFG
      5, inFld 17 15 3 ||| inFld 14 0 100), (Port.UTV_DEST 2, inFld 7 7 1 ||| 5)]).mkFrame 0 2 0 0 false
      ((({ stackLive with utv := { stackLive.utv with heard := [(2, 1)] } }.withQueue 5 [twoCells])).packetBody
      twoCells)) 5 twoCells ∧
    (fun (s : State) (p : Fin 2) => ((s.lstate p.val ≠ 5 ∨ ((s.uport p.val).transit.head?.any fun f => !s.roomFor
      p.val f) = true)) ∧ s.unreachable = []) (stackLive.updPort 1 fun u =>
      { u with transit := [dataFive], used := 2560 }) 1 ∧
    (fun (s : State) (_p : Fin 2) (d : Nat) => s.domOn 13 = true ∧ d ∈ s.unreachable ∧ Cells.rd (fun _ => 0)
      s.utv.unreach d = 0) ({ stackLive with
        utv := { stackLive.utv with
            outbox := [sealFrame [inFld 17 15 2 ||| inFld 14 12 1 ||| inFld 11 9 2, 0, 3, 0]] } }) 1 2 := by
  decide +kernel

/-- States and operands that meet the hypotheses of FramesAreSentAcknowledgedAndResent, clauses 16 on. -/
theorem met_FramesAreSentAcknowledgedAndResent_16 :
    (fun (s : State) (m : Master) (_v : Word) => s.answers m Port.UTV_WAKE_CMD = true) (stackLive) .apc 2 ∧
    (fun (s : State) (p : Fin 2) => s.lstate p.val ≠ 5 ∧ s.getB Port.PWR_WAKE 4 = true) ((stackLive.withPort 0 1).w
      [(Port.PWR_WAKE, 16)]) 0 ∧
    (fun (s : State) (p : Fin 2) => s.lstate p.val ≠ 5 ∧ s.getB Port.PWR_WAKE 4 = true ∧ s.level ≠ 0 ∧ (s.wakeFrom
      4).domOn 13 = false) ((stackLive.withPort 0 1).w [(Port.PWR_WAKE, 16), (Port.PWR_STAT, inFld 17 15 2),
      (Port.PWR_DOM_STAT, 0)]) 0 := by
  decide +kernel

/-- States and operands that meet the hypotheses of FramesAreSentAcknowledgedAndResent, clauses 19 on. -/
theorem met_FramesAreSentAcknowledgedAndResent_19 :
    (fun (s : State) (p : Fin 2) => ((s.lstate p.val = 5 ∨ s.getB Port.PWR_WAKE 4 = false))) (stackLive.w
      [(Port.PWR_WAKE, 16)]) 0 := by
  decide +kernel


/-- States and operands that meet the hypotheses of FramesAreDeliveredInPairOrder, clauses 1 on. -/
theorem met_FramesAreDeliveredInPairOrder_1 :
    (fun (s : State) (p : Fin 2) (f : UFrame) => s.lstate p.val = 5 ∧ frameOk f = false ∧ (s.uport p.val).inbox = [])
      (stackLive) 1 ({ dataFive with lineOk := false }) ∧
    (fun (s : State) (p : Fin 2) (f : UFrame) => s.lstate p.val = 5 ∧ frameOk f = true ∧ fType f = 0 ∧ fHseq f ≠
      (s.uport p.val).rxHseq.toNat ∧ (s.uport p.val).inbox = []) (stackLive.updPort 1 fun u => { u with rxHseq := 5 })
      1 dataFive ∧
    (fun (s : State) (p : Fin 2) (f : UFrame) => s.lstate p.val = 5 ∧ frameOk f = true ∧ fHseq f = (s.uport
      p.val).rxHseq.toNat ∧ (s.uport p.val).inbox = [] ∧ fType f = 0 ∧ fDst f ≠ s.utvPos ∧ s.lstate (1 - p.val) = 5 ∧
      (s.uport p.val).oldIn = 0) (stackLive.w [(Port.UTV_STAT, inFld 17 15 1 ||| inFld 14 12 0)]) 1 dataFive := by
  decide +kernel

/-- States and operands that meet the hypotheses of FramesAreDeliveredInPairOrder, clauses 4 on. -/
theorem met_FramesAreDeliveredInPairOrder_4 :
    (fun (s : State) (p : Fin 2) (f : UFrame) => s.lstate p.val = 5 ∧ frameOk f = true ∧ fHseq f = (s.uport
      p.val).rxHseq.toNat ∧ (s.uport p.val).inbox = [] ∧ fType f = 0 ∧ fDst f ≠ s.utvPos ∧ s.lstate (1 - p.val) ≠ 5 ∧
      (s.uport p.val).oldIn = 0) ((stackLive.withPort 0 1).w [(Port.UTV_STAT, inFld 17 15 1 ||| inFld 14 12 0)]) 1
      dataFive ∧
    (fun (s : State) (p : Fin 2) (f : UFrame) (q : Nat) => s.lstate p.val = 5 ∧ frameOk f = true ∧ fHseq f = (s.uport
      p.val).rxHseq.toNat ∧ (s.uport p.val).inbox = [] ∧ fType f = 0 ∧ fDst f = s.utvPos ∧ fPseq f = s.expected (fSrc
      f) ∧ s.ingressQueue (fTag f % 128) = some q ∧ (s.takeCells q (cellsOf (fld ((fBody f).getD 0 0) 13 0))).1.length
      = cellsOf (fld ((fBody f).getD 0 0) 13 0) ∧ (nonetsOf (fld ((fBody f).getD 0 0) 13 0) ((fBody f).drop 8)).length
      = fld ((fBody f).getD 0 0) 13 0) (stackLive.withQueue 5 []) 1 dataFive 5 ∧
    (fun (s : State) (p : Fin 2) (f : UFrame) => s.lstate p.val = 5 ∧ frameOk f = true ∧ fHseq f = (s.uport
      p.val).rxHseq.toNat ∧ (s.uport p.val).inbox = [] ∧ fType f = 0 ∧ fDst f = s.utvPos ∧ 2048 ≤ (fPseq f + 4096 -
      s.expected (fSrc f)) % 4096) ({ stackLive with utv := { stackLive.utv with pseqExp := [(2, 2048)] } }) 1
      dataFive := by
  decide +kernel

/-- States and operands that meet the hypotheses of FramesAreDeliveredInPairOrder, clauses 7 on. -/
theorem met_FramesAreDeliveredInPairOrder_7 :
    (fun (s : State) (p : Fin 2) (f : UFrame) => s.lstate p.val = 5 ∧ frameOk f = true ∧ fHseq f = (s.uport
      p.val).rxHseq.toNat ∧ (s.uport p.val).inbox = [] ∧ fType f = 0 ∧ fDst f = s.utvPos ∧ fPseq f = s.expected (fSrc
      f) ∧ s.ingressQueue (fTag f % 128) = none ∧ (s.uport p.val).stuck = false) (stackLive) 1 dataFive ∧
    (fun (s : State) (p : Fin 2) (f : UFrame) (q : Nat) => s.lstate p.val = 5 ∧ frameOk f = true ∧ fHseq f = (s.uport
      p.val).rxHseq.toNat ∧ (s.uport p.val).inbox = [] ∧ fType f = 1 ∧ fDst f = s.utvPos ∧ 0 < (fPseq f + 4096 -
      s.expected (fSrc f)) % 4096 ∧ (fPseq f + 4096 - s.expected (fSrc f)) % 4096 < 2048 ∧ s.ingressQueue 128 = some q
      ∧ 0 < s.freeCells ∧ s.widened (fTag f) = false) ({ (stackLive.withQueue 5 []).w [(Port.UTV_DEFQ, inFld 7 7 1 |||
      5)] with
        utv := { stackLive.utv with pseqExp := [(2, 4095)] } }) 0 (someFrame 1 3 [0, 0, 0, 0, 0, 0, 0, 0]) 5 ∧
    (fun (s : State) (p : Fin 2) (f : UFrame) => s.lstate p.val = 5 ∧ frameOk f = true ∧ fHseq f = (s.uport
      p.val).rxHseq.toNat ∧ (s.uport p.val).inbox = [] ∧ fType f = 1 ∧ fDst f = s.utvPos ∧ fPseq f = s.expected (fSrc
      f) ∧ s.widened (fTag f) = true ∧ s.copyOpen (fTag f) = true) (((stackLive.withRig (rigOf 11 [inFld 2 0 1 |||
      inFld 5 3 2 ||| inFld 6 6 1, 0])).w [(Port.UTV_WIDE_CFG, inFld 17 17 1), (Port.UTV_WIDE_COUNT, 9)]).setCal 3
      (some someEntry) |>.setLane 6 { laneHolds with stage := [{ someStaged with hold := true }] }) 0 (someFrame 1 3
      [0, 0, 0, 0, 0, 0, 0, 0]) := by
  decide +kernel

/-- States and operands that meet the hypotheses of FramesAreDeliveredInPairOrder, clauses 10 on. -/
theorem met_FramesAreDeliveredInPairOrder_10 :
    (fun (s : State) (p : Fin 2) (f : UFrame) => s.lstate p.val = 5 ∧ frameOk f = true ∧ fHseq f = (s.uport
      p.val).rxHseq.toNat ∧ (s.uport p.val).inbox = [] ∧ fType f = 1 ∧ fDst f = s.utvPos ∧ fPseq f = s.expected (fSrc
      f) ∧ ((s.widened (fTag f) = false ∨ s.copyOpen (fTag f) = false))) (stackLive) 0 (someFrame 1 3 [0, 0, 0, 0, 0,
      0, 0, 0]) ∧
    (fun (s : State) (p : Fin 2) (f : UFrame) (c : Nat) => s.lstate p.val = 5 ∧ frameOk f = true ∧ fHseq f = (s.uport
      p.val).rxHseq.toNat ∧ (s.uport p.val).inbox = [] ∧ fType f = 2 ∧ fDst f = s.utvPos ∧ fPseq f = s.expected (fSrc
      f) ∧ s.holdsFor (fSrc f) = true ∧ s.getB Port.UTV_HELP_CFG 17 = false ∧ s.getF Port.UTV_SH_BASE 13 0 + fTag f =
      c ∧ c < s.ctxTotal ∧ s.resident c = true ∧ s.standbyOf c = .none ∧ fFinal f = false) ((stackLive.withRig (rigOf2
      2 dramPart 11 [inFld 2 0 1 ||| inFld 5 3 2, 0])).w [(Port.UTV_SH_HOLD, inFld 17 17 1 ||| inFld 14 12 2),
      (Port.UTV_SH_BASE, 100)]) 1 (someFrame 2 3 (inFld 8 6 1 :: List.replicate 62 5 ++ [1])) 103 ∧
    (fun (s : State) (p : Fin 2) (f : UFrame) => s.lstate p.val = 5 ∧ frameOk f = true ∧ fHseq f = (s.uport
      p.val).rxHseq.toNat ∧ (s.uport p.val).inbox = [] ∧ fType f = 2 ∧ fDst f = s.utvPos ∧ fPseq f = s.expected (fSrc
      f) ∧ s.holdsFor (fSrc f) = false ∧ s.getB Port.UTV_HELP_CFG 17 = false) (stackLive) 1 (someFrame 2 3
      (List.replicate 64 1)) :=
  ⟨by decide +kernel, ⟨by decide +kernel, sealFrame_ok _ (by decide +kernel), by decide +kernel, by decide +kernel, by
    decide +kernel, by decide +kernel, by decide +kernel, by decide +kernel, by decide +kernel, by decide +kernel, by
    decide +kernel, by decide +kernel, by decide +kernel, by decide +kernel⟩, ⟨by decide +kernel, sealFrame_ok _ (by
    decide +kernel), by decide +kernel, by decide +kernel, by decide +kernel, by decide +kernel, by decide +kernel, by
    decide +kernel, by decide +kernel⟩⟩

/-- States and operands that meet the hypotheses of FramesAreDeliveredInPairOrder, clauses 13 on. -/
theorem met_FramesAreDeliveredInPairOrder_13 :
    (fun (s : State) (p : Fin 2) (f : UFrame) (c : Nat) => s.lstate p.val = 5 ∧ frameOk f = true ∧ fHseq f = (s.uport
      p.val).rxHseq.toNat ∧ (s.uport p.val).inbox = [] ∧ fType f = 3 ∧ fDst f = s.utvPos ∧ fPseq f = s.expected (fSrc
      f) ∧ s.holdsFor (fSrc f) = true ∧ s.getF Port.UTV_SH_BASE 13 0 + fTag f = c ∧ c < s.ctxTotal ∧ s.standbyOf c ≠
      .taken ∧ (s.takeCells (s.ctxF c 1 13 7) (cellsOf (fld ((fBody f).getD 0 0) 13 0))).1.length = cellsOf (fld
      ((fBody f).getD 0 0) 13 0) ∧ (nonetsOf (fld ((fBody f).getD 0 0) 13 0) ((fBody f).drop 8)).length = fld ((fBody
      f).getD 0 0) 13 0) (((stackLive.withRig (rigOf2 2 dramPart 11 [inFld 2 0 1 ||| inFld 5 3 2, 0])).w
      [(Port.UTV_SH_HOLD, inFld 17 17 1 ||| inFld 14 12 2), (Port.UTV_SH_BASE, 100)]).withQueue 0 []) 1 (someFrame 3 3
      [inFld 13 0 1, 0, 0, 0, 0, 0, 0, 0, 0o252000]) 103 ∧
    (fun (s : State) (p : Fin 2) (f : UFrame) => s.lstate p.val = 5 ∧ frameOk f = true ∧ fHseq f = (s.uport
      p.val).rxHseq.toNat ∧ (s.uport p.val).inbox = [] ∧ fType f = 3 ∧ fDst f = s.utvPos ∧ fPseq f = s.expected (fSrc
      f) ∧ s.holdsFor (fSrc f) = false) (stackLive) 1 (someFrame 3 3 [0, 0, 0, 0, 0, 0, 0, 0]) ∧
    (fun (s : State) (p : Fin 2) (f : UFrame) => s.lstate p.val = 5 ∧ frameOk f = true ∧ fHseq f = (s.uport
      p.val).rxHseq.toNat ∧ (s.uport p.val).inbox = [] ∧ fType f = 5 ∧ fDst f = s.utvPos ∧ 2 ≤ s.utvRole ∧ Cells.rd
      (fun _ => 0) s.utv.loads (fSrc f) < 4) (stackLive.w [(Port.UTV_STAT, inFld 17 15 2 ||| inFld 14 12 1)]) 1
      (someFrame 5 0 [0o7777, 0, 0, 0]) := by
  decide +kernel

/-- States and operands that meet the hypotheses of FramesAreDeliveredInPairOrder, clauses 16 on. -/
theorem met_FramesAreDeliveredInPairOrder_16 :
    (fun (s : State) (ctx : BitVec 14) (l : Nat) (g : Staged) => s.heldOf ctx.toNat = some (l, g) ∧ timeLt s.time.link
      (g.closed + ticks (max 10 (s.getF Port.UTV_SEL 17 9) * 16)) = true) ((live.at_ 159).setLane 6
      { laneHolds with stage := [{ someStaged with hold := true }] }) 3 6 ({ someStaged with hold := true }) ∧
    (fun (s : State) (ctx : BitVec 14) (l : Nat) (g : Staged) => s.heldOf ctx.toNat = some (l, g) ∧ timeLt s.time.link
      (g.closed + ticks (max 10 (s.getF Port.UTV_SEL 17 9) * 16)) = false ∧ s.copiesOf ctx.toNat = []) (((live.w
      [(Port.UTV_SEL, 0)]).at_ 160).setLane 6 { laneHolds with stage := [{ someStaged with hold := true }] }) 3 6
      ({ someStaged with hold := true }) ∧
    (fun (s : State) (ctx : BitVec 14) (l : Nat) (g : Staged) (b : List Word) => s.heldOf ctx.toNat = some (l, g) ∧
      timeLt s.time.link (g.closed + ticks (max 10 (s.getF Port.UTV_SEL 17 9) * 16)) = false ∧ s.copiesOf ctx.toNat =
      [b] ∧ bestCopy (bodyTs (s.header g.pkt)) s.matchTol [b] = some b ∧ (s.takeCells g.queue (cellsOf (nonetsOf (fld
      (b.getD 0 0) 13 0) (b.drop 8)).length)).1.length = cellsOf (nonetsOf (fld (b.getD 0 0) 13 0) (b.drop 8)).length)
      (({ (live.w [(Port.UTV_SEL, 0)]).at_ 160 with
        utv := { Utvis.reset with copies := [(3, [[inFld 13 0 1, 0, 0, 0, 0, 0, 0, 0, 0o252000]])] } }.withQueue 5
      []).setLane 6 { laneHolds with stage := [{ someStaged with hold := true }] }) 3 6
      ({ someStaged with hold := true }) ([inFld 13 0 1, 0, 0, 0, 0, 0, 0, 0, 0o252000]) := by
  decide +kernel

/-- States and operands that meet the hypotheses of FramesAreDeliveredInPairOrder, clauses 19 on. -/
theorem met_FramesAreDeliveredInPairOrder_19 :
    (fun (s : State) (ctx : BitVec 14) (l : Nat) => Cells.rd (fun _ => 0) s.utv.listen ctx.toNat = 1 ∧ s.rigF 11 0 6 6
      = 1 ∧ timeLt s.time.link (s.listenFrom (s.ctxWords ctx.toNat)) = false ∧ s.helperLane ctx.toNat = none ∧
      (listenTo (s.ctxWords ctx.toNat)).all (fun e => !timeLe e s.time.link) = true ∧ (List.range 64).find? (fun l =>
      s.laneEligible l ctx.toNat && decide (s.laneState l = 0) && (s.lane l).seq.isNone) = some l) ({
      ((((rxLive.withRig (rigOf2 5 [0, 0, 16] 11 [inFld 2 0 1 ||| inFld 5 3 2 ||| inFld 6 6 1, 0])).w [(Port.LAN_STAT
      9, inFld 17 15 1), (Port.RXC_PLAN 0, inFld 17 9 511)]).at_ 100000).withCtx 3 someCtx) with
        utv := { Utvis.reset with listen := [(3, 1)] } }) 3 9 ∧
    (fun (s : State) (ctx : BitVec 14) => ((Cells.rd (fun _ => 0) s.utv.listen ctx.toNat = 0 ∨ timeLt s.time.link
      (s.listenFrom (s.ctxWords ctx.toNat)) = true))) (live) 3 ∧
    (fun (s : State) (ctx : BitVec 14) (l : Nat) => s.helperLane ctx.toNat = some l ∧ (listenTo (s.ctxWords
      ctx.toNat)).any (fun e => timeLe e s.time.link) = true) (((live.at_ 504000).withCtx 3 (someCtx.set 6
      101)).setLane 9 { Lane.idle with helper := some 3 }) 3 9 := by
  decide +kernel

/-- States and operands that meet the hypotheses of FramesAreDeliveredInPairOrder, clauses 22 on. -/
theorem met_FramesAreDeliveredInPairOrder_22 :
    (fun (s : State) (ctx : BitVec 14) => s.helperLane ctx.toNat = none) (live) 3 := by
  decide +kernel


/-- States and operands that meet the hypotheses of SyncsAndTheMastheadRole, clauses 1 on. -/
theorem met_SyncsAndTheMastheadRole_1 :
    (fun (s : State) => 2 ≤ s.utvRole ∧ s.utv.sentMs < s.linkMs ∧ s.utv.backMs = 0 ∧ ((s.utvRole = 3 → s.utv.handBack
      = false)) ∧ s.lstate 0 = 5 ∧ s.lstate 1 = 5 ∧ s.getB Port.UTV_SH_HOLD 17 = false) (mastLive) ∧
    (fun (s : State) => s.utvRole = 3 ∧ s.utv.sentMs < s.linkMs ∧ s.utv.backMs = 0 ∧ s.utv.handBack = true ∧ s.lstate
      0 = 5 ∧ s.getB Port.UTV_SH_HOLD 17 = false) ({ (stackLive.w [(Port.UTV_STAT, inFld 17 15 3 ||| inFld 14 12
      1)]).at_ 32000 with
        utv := { stackLive.utv with handBack := true } }) ∧
    (fun (s : State) => s.utvRole = 1 ∧ s.utv.backMs ≠ 0 ∧ s.utv.backMs ≤ s.linkMs ∧ s.utv.sentMs < s.linkMs ∧ s.getB
      Port.UTV_SH_HOLD 17 = false) ({ (mastLive.w [(Port.UTV_STAT, inFld 17 15 1)]).at_ 32000 with
        utv := { Utvis.reset with backMs := 1 } }) := by
  decide +kernel

/-- States and operands that meet the hypotheses of SyncsAndTheMastheadRole, clauses 4 on. -/
theorem met_SyncsAndTheMastheadRole_4 :
    (fun (s : State) => ((s.utvRole < 2 ∨ s.linkMs ≤ s.utv.sentMs)) ∧ s.utv.backMs = 0) (stackLive) ∧
    (fun (s : State) (p : Fin 2) => s.lstate p.val = 5) (stackLive.at_ 77) 1 ∧
    (fun (s : State) (p : Fin 2) => s.lstate p.val ≠ 5) (stackLive.withPort 1 4) 1 := by
  decide +kernel

/-- States and operands that meet the hypotheses of SyncsAndTheMastheadRole, clauses 7 on. -/
theorem met_SyncsAndTheMastheadRole_7 :
    (fun (s : State) (p : Fin 2) (f : UFrame) => s.lstate p.val = 5 ∧ ((frameOk f = false ∨ fHseq f ≠ (s.uport
      p.val).rxHseq.toNat))) (stackLive) 1 ({ dataFive with crc := 0 }) ∧
    (fun (s : State) (p : Fin 2) (f : UFrame) => s.lstate p.val = 5 ∧ frameOk f = true ∧ fHseq f = (s.uport
      p.val).rxHseq.toNat ∧ s.utvRole = 1 ∧ ((fBody f).getD 5 0).toNat ≠ s.utv.period ∧ bitOf ((fBody f).getD 4 0) 14
      = false ∧ s.getB Port.UTV_SH_HOLD 17 = false) (stackLive) 1 (someFrame 4 0 (syncBody 5 16 0 false false 0 7 9)) ∧
    (fun (s : State) (p : Fin 2) (f : UFrame) => s.lstate p.val = 5 ∧ frameOk f = true ∧ fHseq f = (s.uport
      p.val).rxHseq.toNat ∧ s.utvRole = 1 ∧ ((fBody f).getD 5 0).toNat ≠ s.utv.period ∧ bitOf ((fBody f).getD 4 0) 14
      = false ∧ s.getB Port.UTV_SH_HOLD 17 = false ∧ s.tstate = 1 ∧ s.calCount = 0) ((stackLive.w [(Port.UTV_STAT,
      inFld 17 15 1 ||| inFld 14 12 1 ||| inFld 8 6 1)]).at_ 900) 1 (someFrame 4 0 (syncBody 5 16 0 false false 0 7
      9)) := by
  decide +kernel

/-- States and operands that meet the hypotheses of SyncsAndTheMastheadRole, clauses 10 on. -/
theorem met_SyncsAndTheMastheadRole_10 :
    (fun (s : State) (p : Fin 2) (f : UFrame) => s.lstate p.val = 5 ∧ frameOk f = true ∧ fHseq f = (s.uport
      p.val).rxHseq.toNat ∧ s.utvRole = 1 ∧ ((fBody f).getD 5 0).toNat ≠ s.utv.period ∧ bitOf ((fBody f).getD 4 0) 14
      = false ∧ s.getB Port.UTV_SH_HOLD 17 = false ∧ s.tstate = 2 ∧ (timeDiff (s.uport p.val).markAt (timeOf ((fBody
      f).getD 0 0) ((fBody f).getD 1 0) ((fBody f).getD 2 0)) * 16 - (((fBody f).getD 3 0).toNat + s.getF
      (Port.UTV_P_DELAY p.val) 11 0 : Nat)).natAbs ≤ 8 ∧ 3 ≤ s.utv.good) ({ (stackLive.w [(Port.UTV_STAT, inFld 17 15
      1 ||| inFld 14 12 1 ||| inFld 8 6 2)]).at_ 6 with
        utv := { Utvis.reset with good := 3, ports := [(1, { UPort.down with markAt := 6 })] } }) 1 (someFrame 4 0
      (syncBody 5 16 0 false false 0 7 9)) ∧
    (fun (s : State) => s.utvRole = 1 ∧ 48000 ≤ s.sinceSync ∧ ((s.tstate = 2 ∨ s.tstate = 3))) ((stackLive.w
      [(Port.UTV_STAT, inFld 17 15 1 ||| inFld 14 12 1 ||| inFld 8 6 3)]).at_ 48000) ∧
    (fun (s : State) => ((s.utvRole ≠ 1 ∨ s.sinceSync < 48000))) ((stackLive.w [(Port.UTV_STAT, inFld 17 15 1 |||
      inFld 14 12 1 ||| inFld 8 6 3)]).at_ 47999) := by
  decide +kernel

/-- States and operands that meet the hypotheses of SyncsAndTheMastheadRole, clauses 13 on. -/
theorem met_SyncsAndTheMastheadRole_13 :
    (fun (s : State) => s.utvRole = 1 ∧ s.utvPos = 1 ∧ s.utv.started = true ∧ (if s.utv.everLocked then 48000 else
      160000) ≤ s.sinceSync) ({ stackLive.at_ 160000 with utv := { stackLive.utv with started := true } }) ∧
    (fun (s : State) => ((s.utvPos ≠ 1 ∨ s.sinceSync < 48000)))
      ({ stackLive.at_ 47999 with utv := { stackLive.utv with started := true, everLocked := true } }) ∧
    (fun (s : State) => s.utvRole = 1 ∧ s.utvPos = 0 ∧ s.utv.started = true ∧ s.utv.relief = false ∧ 48000 ≤
      s.sinceSync ∧ s.stackRole = 2) ({ (mastLive.w [(Port.UTV_STAT, inFld 17 15 1)]).at_ 48000 with
        utv := { Utvis.reset with started := true } }) := by
  decide +kernel

/-- States and operands that meet the hypotheses of SyncsAndTheMastheadRole, clauses 16 on. -/
theorem met_SyncsAndTheMastheadRole_16 :
    (fun (s : State) => ((s.utvPos ≠ 0 ∨ s.utv.relief = true))) (stackLive) ∧
    (fun (s : State) => s.getB Port.UTV_SH_CFG 17 = true ∧ s.utvRole = 1 ∧ 32000 ≤ s.sinceSync ∧ s.utv.fenced = false)
      (((stackLive.withRig (rigOf 11 [inFld 2 0 1 ||| inFld 5 3 2 ||| inFld 9 9 1, 0])).w [(Port.UTV_SH_CFG, inFld 17
      17 1), (Port.UTV_SH_COUNT, 9)]).at_ 32000 |>.setCal 3 (some someEntry)) ∧
    (fun (s : State) => ((s.getB Port.UTV_SH_CFG 17 = false ∨ s.sinceSync < 32000 ∨ s.utv.fenced = true)))
      ((stackLive.w [(Port.UTV_SH_CFG, inFld 17 17 1)]).at_ 31999) := by
  decide +kernel

/-- States and operands that meet the hypotheses of SyncsAndTheMastheadRole, clauses 19 on. -/
theorem met_SyncsAndTheMastheadRole_19 :
    (fun (s : State) (m : Master) => s.answers m Port.UTV_MAST_CMD = true ∧ s.utvRole = 3) (stackLive.w
      [(Port.UTV_STAT, inFld 17 15 3 ||| inFld 14 12 1)]) .lkc ∧
    (fun (s : State) (m : Master) => s.answers m Port.UTV_MAST_CMD = true ∧ s.utvRole ≠ 3) (stackLive) .lkc ∧
    (fun (s : State) (m : Master) => s.answers m Port.UTV_SH_CMD = true ∧ s.getB Port.UTV_SH_STAT 17 = false)
      (stackLive) .lkc := by
  decide +kernel

/-- States and operands that meet the hypotheses of SyncsAndTheMastheadRole, clauses 22 on. -/
theorem met_SyncsAndTheMastheadRole_22 :
    (fun (s : State) (m : Master) => s.answers m Port.UTV_SH_CMD = true ∧ s.getB Port.UTV_SH_STAT 17 = true)
      (stackLive.w [(Port.UTV_SH_STAT, inFld 17 17 1)]) .lkc ∧
    (fun (s : State) => s.getB Port.UTV_SH_STAT 17 = true ∧ s.link.finals = [] ∧ s.finalsOut = false) (stackLive.w
      [(Port.UTV_SH_STAT, inFld 17 17 1)]) ∧
    (fun (s : State) => ((s.link.finals ≠ [] ∨ s.finalsOut = true)))
      ({ stackLive with link := { Link.reset with finals := [3] } }) := by
  decide +kernel


/-- States and operands that meet the hypotheses of SumsAndDifferencesSetFlags, clauses 1 on. -/
theorem met_SumsAndDifferencesSetFlags_1 :
    (fun (s : State) (c : Core) (_rd ra rb : BitVec 4) (x y : Word) (u : State) => s.fetched c 1 = some u ∧ (u.core
      c).reg ra = x ∧ (u.core c).reg rb = y) (running.withCore .lkc fun k => (k.setReg 3 0o400000).setReg 15 0o777777)
      .lkc 0 3 15 0o400000 0o777777 (running.withCore .lkc fun k => (k.setReg 3 0o400000).setReg 15 0o777777) ∧
    (fun (s : State) (c : Core) (_rd ra rb : BitVec 4) (x y : Word) (u : State) => s.fetched c 1 = some u ∧ (u.core
      c).reg ra = x ∧ (u.core c).reg rb = y) (running.withCore .lkc fun k => (k.setReg 3 0o400000).setReg 15 0o777777)
      .lkc 0 3 15 0o400000 0o777777 (running.withCore .lkc fun k => (k.setReg 3 0o400000).setReg 15 0o777777) ∧
    (fun (s : State) (c : Core) (_rd ra rb : BitVec 4) (x y : Word) (u : State) => s.fetched c 1 = some u ∧ (u.core
      c).reg ra = x ∧ (u.core c).reg rb = y) (running.withCore .lkc fun k => (k.setReg 3 0o400000).setReg 15 0o777777)
      .lkc 0 3 15 0o400000 0o777777 (running.withCore .lkc fun k => (k.setReg 3 0o400000).setReg 15 0o777777) := by
  decide +kernel

/-- States and operands that meet the hypotheses of SumsAndDifferencesSetFlags, clauses 4 on. -/
theorem met_SumsAndDifferencesSetFlags_4 :
    (fun (s : State) (c : Core) (_rd ra rb : BitVec 4) (x y : Word) (u : State) => s.fetched c 1 = some u ∧ (u.core
      c).reg ra = x ∧ (u.core c).reg rb = y) (running.withCore .lkc fun k => (k.setReg 3 0o400000).setReg 15 0o777777)
      .lkc 0 3 15 0o400000 0o777777 (running.withCore .lkc fun k => (k.setReg 3 0o400000).setReg 15 0o777777) ∧
    (fun (s : State) (c : Core) (rd : BitVec 4) (_imm : BitVec 8) (x : Word) (u : State) => s.fetched c 1 = some u ∧
      (u.core c).reg rd = x) (running.withCore .lkc fun k => (k.setReg 3 0o400000).setReg 15 0o777777) .lkc 15 0
      0o777777 (running.withCore .lkc fun k => (k.setReg 3 0o400000).setReg 15 0o777777) ∧
    (fun (s : State) (c : Core) (_rd ra : BitVec 4) (x : Word) (u : State) => s.fetched c 1 = some u ∧ (u.core c).reg
      ra = x) (running.withCore .lkc fun k => k.setReg 15 0o400000) .lkc 0 15 0o400000 (running.withCore .lkc fun k =>
      k.setReg 15 0o400000) := by
  decide +kernel

/-- States and operands that meet the hypotheses of SumsAndDifferencesSetFlags, clauses 7 on. -/
theorem met_SumsAndDifferencesSetFlags_7 :
    (fun (s : State) (c : Core) (_cond ra rb : BitVec 4) (x y : Word) (u : State) => s.fetched c 1 = some u ∧ (u.core
      c).reg ra = x ∧ (u.core c).reg rb = y) (running.withCore .lkc fun k => (k.setReg 3 0o400000).setReg 15 0o777777)
      .lkc 0 3 15 0o400000 0o777777 (running.withCore .lkc fun k => (k.setReg 3 0o400000).setReg 15 0o777777) ∧
    (fun (s : State) (c : Core) (ra : BitVec 4) (_imm : BitVec 8) (x : Word) (u : State) => s.fetched c 1 = some u ∧
      (u.core c).reg ra = x) (running.withCore .lkc fun k => k.setReg 15 0o400000) .lkc 15 0 0o400000
      (running.withCore .lkc fun k => k.setReg 15 0o400000) := by
  decide +kernel


/-- States and operands that meet the hypotheses of ProductsAndShiftsSetFlags, clauses 1 on. -/
theorem met_ProductsAndShiftsSetFlags_1 :
    (fun (s : State) (c : Core) (_rd ra rb : BitVec 4) (x y : Word) (u : State) => s.fetched c 1 = some u ∧ (u.core
      c).reg ra = x ∧ (u.core c).reg rb = y) (running.withCore .lkc fun k => (k.setReg 3 0o400000).setReg 15 0o777777)
      .lkc 2 3 15 0o400000 0o777777 (running.withCore .lkc fun k => (k.setReg 3 0o400000).setReg 15 0o777777) ∧
    (fun (s : State) (c : Core) (rd ra rb : BitVec 4) (x y : Word) (p : Int) (u : State) => s.fetched c 1 = some u ∧
      (u.core c).reg ra = x ∧ (u.core c).reg rb = y ∧ (if rd.getLsbD 0 then x.toInt * y.toInt else (x.toNat * y.toNat
      : Int)) = p) (running.withCore .lkc fun k => (k.setReg 3 0o400000).setReg 15 0o777777) .lkc 4 3 15 0o400000
      0o777777 34359607296 (running.withCore .lkc fun k => (k.setReg 3 0o400000).setReg 15 0o777777) ∧
    (fun (s : State) (c : Core) (rd : BitVec 4) (_kind : BitVec 2) (_n : BitVec 6) (x : Word) (u : State) => s.fetched
      c 1 = some u ∧ (u.core c).reg rd = x) (running.withCore .lkc fun k => (k.setReg 3 0o400000).setReg 15 0o777777)
      .lkc 15 2 1 0o777777 (running.withCore .lkc fun k => (k.setReg 3 0o400000).setReg 15 0o777777) := by
  decide +kernel

/-- States and operands that meet the hypotheses of ProductsAndShiftsSetFlags, clauses 4 on. -/
theorem met_ProductsAndShiftsSetFlags_4 :
    (fun (s : State) (c : Core) (rd : BitVec 4) (_kind : BitVec 2) (rb : BitVec 4) (n : Nat) (x : Word) (u : State) =>
      s.fetched c 1 = some u ∧ (u.core c).reg rd = x ∧ ((u.core c).reg rb).toNat % 64 = n) (running.withCore .lkc fun
      k => (k.setReg 3 0o400000).setReg 15 0o777777) .lkc 3 2 15 63 0o400000 (running.withCore .lkc fun k => (k.setReg
      3 0o400000).setReg 15 0o777777) := by
  decide +kernel


/-- States and operands that meet the hypotheses of LogicAndMovesKeepCarryAndOverflow, clauses 1 on. -/
theorem met_LogicAndMovesKeepCarryAndOverflow_1 :
    (fun (s : State) (c : Core) (_rd ra rb : BitVec 4) (x y : Word) (u : State) => s.fetched c 1 = some u ∧ (u.core
      c).reg ra = x ∧ (u.core c).reg rb = y) (running.withCore .lkc fun k => (k.setReg 3 0o400000).setReg 15 0o777777)
      .lkc 0 3 15 0o400000 0o777777 (running.withCore .lkc fun k => (k.setReg 3 0o400000).setReg 15 0o777777) ∧
    (fun (s : State) (c : Core) (_rd ra rb : BitVec 4) (x y : Word) (u : State) => s.fetched c 1 = some u ∧ (u.core
      c).reg ra = x ∧ (u.core c).reg rb = y) (running.withCore .lkc fun k => (k.setReg 3 0o400000).setReg 15 0o777777)
      .lkc 0 3 15 0o400000 0o777777 (running.withCore .lkc fun k => (k.setReg 3 0o400000).setReg 15 0o777777) ∧
    (fun (s : State) (c : Core) (_rd ra rb : BitVec 4) (x y : Word) (u : State) => s.fetched c 1 = some u ∧ (u.core
      c).reg ra = x ∧ (u.core c).reg rb = y) (running.withCore .lkc fun k => (k.setReg 3 0o400000).setReg 15 0o777777)
      .lkc 0 3 15 0o400000 0o777777 (running.withCore .lkc fun k => (k.setReg 3 0o400000).setReg 15 0o777777) := by
  decide +kernel

/-- States and operands that meet the hypotheses of LogicAndMovesKeepCarryAndOverflow, clauses 4 on. -/
theorem met_LogicAndMovesKeepCarryAndOverflow_4 :
    (fun (s : State) (c : Core) (_rd ra : BitVec 4) (x : Word) (u : State) => s.fetched c 1 = some u ∧ (u.core c).reg
      ra = x) (running.withCore .lkc fun k => k.setReg 15 0o400000) .lkc 0 15 0o400000 (running.withCore .lkc fun k =>
      k.setReg 15 0o400000) ∧
    (fun (s : State) (c : Core) (_rd ra : BitVec 4) (x : Word) (u : State) => s.fetched c 1 = some u ∧ (u.core c).reg
      ra = x) (running.withCore .lkc fun k => k.setReg 15 0o400000) .lkc 0 15 0o400000 (running.withCore .lkc fun k =>
      k.setReg 15 0o400000) ∧
    (fun (s : State) (c : Core) (_rd ra : BitVec 4) (x : Word) (u : State) => s.fetched c 1 = some u ∧ (u.core c).reg
      ra = x) (running.withCore .lkc fun k => k.setReg 15 0o400000) .lkc 0 15 0o400000 (running.withCore .lkc fun k =>
      k.setReg 15 0o400000) := by
  decide +kernel

/-- States and operands that meet the hypotheses of LogicAndMovesKeepCarryAndOverflow, clauses 7 on. -/
theorem met_LogicAndMovesKeepCarryAndOverflow_7 :
    (fun (s : State) (c : Core) (_rd ra : BitVec 4) (x : Word) (u : State) => s.fetched c 1 = some u ∧ (u.core c).reg
      ra = x) (running.withCore .lkc fun k => k.setReg 15 0o400000) .lkc 0 15 0o400000 (running.withCore .lkc fun k =>
      k.setReg 15 0o400000) ∧
    (fun (s : State) (c : Core) (_rd ra : BitVec 4) (x : Word) (n : Nat) (u : State) => s.fetched c 1 = some u ∧
      (u.core c).reg ra = x ∧ n ≤ 18 ∧ x.toNat < 2 ^ (18 - n) ∧ ((n = 18 ∨ 2 ^ (17 - n) ≤ x.toNat))) (running.withCore
      .lkc fun k => k.setReg 15 0o400000) .lkc 0 15 0o400000 0 (running.withCore .lkc fun k => k.setReg 15 0o400000) ∧
    (fun (s : State) (c : Core) (_rd ra : BitVec 4) (x : Word) (u : State) => s.fetched c 1 = some u ∧ (u.core c).reg
      ra = x) (running.withCore .lkc fun k => k.setReg 15 0o400000) .lkc 0 15 0o400000 (running.withCore .lkc fun k =>
      k.setReg 15 0o400000) := by
  decide +kernel

/-- States and operands that meet the hypotheses of LogicAndMovesKeepCarryAndOverflow, clauses 10 on. -/
theorem met_LogicAndMovesKeepCarryAndOverflow_10 :
    (fun (s : State) (c : Core) (_rd : BitVec 4) (_imm : BitVec 8) (u : State) => s.fetched c 1 = some u) (running)
      .lkc 0 0 running ∧
    (fun (s : State) (c : Core) (_rd : BitVec 4) (_imm : Word) (u : State) => s.fetched c 2 = some u) (running) .lkc 0
      0 running ∧
    (fun (s : State) (c : Core) (ra : BitVec 4) (x : Word) (u : State) => s.fetched c 1 = some u ∧ (u.core c).reg ra =
      x) (running.withCore .lkc fun k => k.setReg 15 0o400000) .lkc 15 0o400000 (running.withCore .lkc fun k =>
      k.setReg 15 0o400000) := by
  decide +kernel

/-- States and operands that meet the hypotheses of LogicAndMovesKeepCarryAndOverflow, clauses 13 on. -/
theorem met_LogicAndMovesKeepCarryAndOverflow_13 :
    (fun (s : State) (c : Core) (u : State) => s.fetched c 1 = some u) (running) .lkc running ∧
    (fun (s : State) (c : Core) (u : State) => s.fetched c 1 = some u) (running) .lkc running ∧
    (fun (s : State) (c : Core) (u : State) => s.fetched c 1 = some u) (running) .lkc running := by
  decide +kernel

/-- States and operands that meet the hypotheses of LogicAndMovesKeepCarryAndOverflow, clauses 16 on. -/
theorem met_LogicAndMovesKeepCarryAndOverflow_16 :
    (fun (s : State) (c : Core) (u : State) => s.fetched c 1 = some u) (running) .lkc running ∧
    (fun (s : State) (c : Core) (_op1 _op2 : BitVec 8) (cond : Bool) (u : State) => s.fetched c 1 = some u ∧ cond =
      true ∧ (u.core c).flags.t = false) (running) .lkc 0 0 true running ∧
    (fun (s : State) (c : Core) (op1 op2 : BitVec 8) (cond : Bool) (a b v v1 : Word) (u : State) => s.fetched c 1 =
      some u ∧ ((cond = false ∨ (u.core c).flags.t = true)) ∧ (u.core c).reg ((op2.extractLsb' 3 3).setWidth 4) = a ∧
      (u.core c).reg ((op2.extractLsb' 0 3).setWidth 4) = b ∧ (((op2.extractLsb' 6 2 = 0 → v = b) ∧ (op2.extractLsb' 6
      2 = 1 → v = a + b) ∧ (op2.extractLsb' 6 2 = 2 → v = a - b) ∧ (op2.extractLsb' 6 2 = 3 → v = a &&& b))) ∧
      shortValue (u.core c) op1 = v1) (running.withCore .lkc fun k => (k.setReg 0 7).setReg 1 5) .lkc 0b01000001
      0b10001000 false 5 7 262142 12 (running.withCore .lkc fun k => (k.setReg 0 7).setReg 1 5) := by
  decide +kernel


/-- States and operands that meet the hypotheses of LoadsStoresAndPortsReachTheirSpaces, clauses 1 on. -/
theorem met_LoadsStoresAndPortsReachTheirSpaces_1 :
    (fun (s : State) (c : Core) (_rd ra n : BitVec 4) (k : Nat) (u : State) => s.fetched c 1 = some u ∧ u.place c
      ((u.core c).reg ra + n.setWidth 18) = .sram k ∧ u.sramBad k ≠ 2) (running.withCore .lkc fun k => k.setReg 3
      65534) .lkc 0 3 1 196607 (running.withCore .lkc fun k => k.setReg 3 65534) ∧
    (fun (s : State) (c : Core) (_rd ra n : BitVec 4) (u : State) => s.fetched c 1 = some u ∧ u.place c ((u.core
      c).reg ra + n.setWidth 18) = .none ∧ (u.core c).res.toNat < 14) (running.withCore .lkc fun k => k.setReg 3
      65535) .lkc 0 3 1 (running.withCore .lkc fun k => k.setReg 3 65535) ∧
    (fun (s : State) (c : Core) (_rd ra n : BitVec 4) (k : Nat) (u : State) => s.fetched c 1 = some u ∧ u.place c
      ((u.core c).reg ra + n.setWidth 18) = .sram k ∧ u.sramBad k = 2 ∧ (u.core c).res.toNat < 14) ((running.withCore
      .lkc fun k => k.setReg 3 65534).sramMark (8 * 16384 + 65535) 2) .lkc 0 3 1 196607 ((running.withCore .lkc fun k
      => k.setReg 3 65534).sramMark (8 * 16384 + 65535) 2) := by
  decide +kernel

/-- States and operands that meet the hypotheses of LoadsStoresAndPortsReachTheirSpaces, clauses 4 on. -/
theorem met_LoadsStoresAndPortsReachTheirSpaces_4 :
    (fun (s : State) (c : Core) (_r ra : BitVec 4) (abs : Bool) (off : Word) (k : Nat) (u : State) => s.fetched c 2 =
      some u ∧ u.place c (if abs then off else (u.core c).reg ra + off) = .sram k ∧ u.sramBad k ≠ 2) (running.withCore
      .lkc fun k => k.setReg 3 65534) .lkc 0 3 true 65535 196607 (running.withCore .lkc fun k => k.setReg 3 65534) ∧
    (fun (s : State) (c : Core) (_r ra : BitVec 4) (abs : Bool) (off : Word) (u : State) => s.fetched c 2 = some u ∧
      u.place c (if abs then off else (u.core c).reg ra + off) = .none ∧ (u.core c).res.toNat < 14) (running.withCore
      .lkc fun k => k.setReg 3 65534) .lkc 0 3 false 2 (running.withCore .lkc fun k => k.setReg 3 65534) ∧
    (fun (s : State) (c : Core) (_rs ra n : BitVec 4) (k : Nat) (u : State) => s.fetched c 1 = some u ∧ u.place c
      ((u.core c).reg ra + n.setWidth 18) = .sram k ∧ u.getB Port.MEM_INJ 17 = false) (running.withCore .lkc fun k =>
      k.setReg 3 65534) .lkc 0 3 1 196607 (running.withCore .lkc fun k => k.setReg 3 65534) := by
  decide +kernel

/-- States and operands that meet the hypotheses of LoadsStoresAndPortsReachTheirSpaces, clauses 7 on. -/
theorem met_LoadsStoresAndPortsReachTheirSpaces_7 :
    (fun (s : State) (c : Core) (_rs ra n : BitVec 4) (u : State) => s.fetched c 1 = some u ∧ u.place c ((u.core
      c).reg ra + n.setWidth 18) = .none ∧ (u.core c).res.toNat < 14) (running.withCore .lkc fun k => k.setReg 3
      65535) .lkc 0 3 1 (running.withCore .lkc fun k => k.setReg 3 65535) ∧
    (fun (s : State) (c : Core) (_rs ra n : BitVec 4) (sl i : Nat) (u : State) => s.fetched c 1 = some u ∧ u.place c
      ((u.core c).reg ra + n.setWidth 18) = .csw sl i ∧ u.cswOk c sl i = false ∧ (u.core c).res.toNat < 14)
      (running.withCore .lkc fun k => k.setReg 3 (0x38000 + 48)) .lkc 0 3 15 0 63 (running.withCore .lkc fun k =>
      k.setReg 3 (0x38000 + 48)) ∧
    (fun (s : State) (c : Core) (_r ra : BitVec 4) (abs : Bool) (off : Word) (k : Nat) (u : State) => s.fetched c 2 =
      some u ∧ u.place c ((if abs then off else (u.core c).reg ra + off)) = .sram k ∧ u.getB Port.MEM_INJ 17 = false)
      (running.withCore .lkc fun k => k.setReg 3 65534) .lkc 0 3 false 1 196607 (running.withCore .lkc fun k =>
      k.setReg 3 65534) := by
  decide +kernel

/-- States and operands that meet the hypotheses of LoadsStoresAndPortsReachTheirSpaces, clauses 10 on. -/
theorem met_LoadsStoresAndPortsReachTheirSpaces_10 :
    (fun (s : State) (c : Core) (_r ra : BitVec 4) (abs : Bool) (off : Word) (u : State) => s.fetched c 2 = some u ∧
      u.place c ((if abs then off else (u.core c).reg ra + off)) = .none ∧ (u.core c).res.toNat < 14)
      (running.withCore .lkc fun k => k.setReg 3 65534) .lkc 0 3 true 65536 (running.withCore .lkc fun k => k.setReg 3
      65534) ∧
    (fun (s : State) (c : Core) (_r ra : BitVec 4) (abs : Bool) (off : Word) (sl i : Nat) (u : State) => s.fetched c 2
      = some u ∧ u.place c ((if abs then off else (u.core c).reg ra + off)) = .csw sl i ∧ u.cswOk c sl i = false ∧
      (u.core c).res.toNat < 14) (running) .lkc 0 3 true 0x3803F 0 63 running ∧
    (fun (s : State) (c : Core) (_rd ra n : BitVec 4) (v : Word) (u : State) => s.fetched c 1 = some u ∧ (u.codeReach
      c ((u.core c).reg ra + n.setWidth 18)) = (.ok v, u)) (running.withCore .lkc fun k => k.setReg 3 0x4000) .lkc 0 3
      15 0o777777 (running.withCore .lkc fun k => k.setReg 3 0x4000) := by
  decide +kernel

/-- States and operands that meet the hypotheses of LoadsStoresAndPortsReachTheirSpaces, clauses 13 on. -/
theorem met_LoadsStoresAndPortsReachTheirSpaces_13 :
    (fun (s : State) (c : Core) (_rd ra n : BitVec 4) (u : State) => s.fetched c 1 = some u ∧ (u.codeReach c ((u.core
      c).reg ra + n.setWidth 18)) = (.fault, u) ∧ (u.core c).res.toNat < 14) (running) .lkc 0 3 15 running ∧
    (fun (s : State) (c : Core) (_rd ra : BitVec 4) (idx : Bool) (port : BitVec 16) (u : State) => s.fetched c 2 =
      some u ∧ u.ioGate (portAddr (u.core c) ra idx port).toNat = .ok ∧ u.ioBlind c.master (portAddr (u.core c) ra idx
      port).toNat = false ∧ inRange 0x2800 0x3FFF (portAddr (u.core c) ra idx port).toNat = true) (running.withCore
      .lkc fun k => k.setReg 3 1) .lkc 0 3 true 0x37FF (running.withCore .lkc fun k => k.setReg 3 1) ∧
    (fun (s : State) (c : Core) (_rd ra : BitVec 4) (idx : Bool) (port : BitVec 16) (u : State) => s.fetched c 2 =
      some u ∧ u.ioGate (portAddr (u.core c) ra idx port).toNat = .offDomain ∧ (u.core c).res.toNat < 14) ((running.w
      [(Port.PWR_DOM_STAT, 0o777177)])) .lkc 0 3 false 0x4000 ((running.w [(Port.PWR_DOM_STAT, 0o777177)])) := by
  decide +kernel

/-- States and operands that meet the hypotheses of LoadsStoresAndPortsReachTheirSpaces, clauses 16 on. -/
theorem met_LoadsStoresAndPortsReachTheirSpaces_16 :
    (fun (s : State) (c : Core) (_rs ra : BitVec 4) (idx : Bool) (port : BitVec 16) (u : State) => s.fetched c 2 =
      some u ∧ u.ioGate (portAddr (u.core c) ra idx port).toNat = .offDomain ∧ (u.core c).res.toNat < 14) ((running.w
      [(Port.PWR_DOM_STAT, 0o777177)])) .lkc 0 3 false 0x4000 ((running.w [(Port.PWR_DOM_STAT, 0o777177)])) ∧
    (fun (s : State) (c : Core) (_rs ra : BitVec 4) (idx : Bool) (port : BitVec 16) (u : State) => s.fetched c 2 =
      some u ∧ u.ioGate (portAddr (u.core c) ra idx port).toNat = .ok ∧ (portAddr (u.core c) ra idx port).toNat =
      Port.SEQ_CAL_ARG_2 ∧ (u.core c).stepping = 0 ∧ (u.core c).haltReq = false) (running.withCore .lkc fun k =>
      k.setReg 3 0o123456) .lkc 0 3 false 0x3403 (running.withCore .lkc fun k => k.setReg 3 0o123456) ∧
    (fun (s : State) (c : Core) (_rd ra n : BitVec 4) (sl i : Nat) (u : State) => s.fetched c 1 = some u ∧ u.place c
      ((u.core c).reg ra + n.setWidth 18) = .csw sl i ∧ u.sramBad (u.slotWord sl i) ≠ 2) (running.withCore .lkc fun k
      => k.setReg 3 0x38040) .lkc 0 3 1 1 1 (running.withCore .lkc fun k => k.setReg 3 0x38040) := by
  decide +kernel

/-- States and operands that meet the hypotheses of LoadsStoresAndPortsReachTheirSpaces, clauses 19 on. -/
theorem met_LoadsStoresAndPortsReachTheirSpaces_19 :
    (fun (s : State) (c : Core) (_rs ra n : BitVec 4) (sl i : Nat) (u : State) => s.fetched c 1 = some u ∧ u.place c
      ((u.core c).reg ra + n.setWidth 18) = .csw sl i ∧ u.cswOk c sl i = true ∧ u.hasHomes = false ∧ u.getB
      Port.MEM_INJ 17 = false) ((running.withRig (rigOf 2 [0, 0, 0, 0, 1024])).withCore .lkc fun k => k.setReg 3
      0x38040) .lkc 0 3 1 1 1 ((running.withRig (rigOf 2 [0, 0, 0, 0, 1024])).withCore .lkc fun k => k.setReg 3
      0x38040) ∧
    (fun (s : State) (c : Core) (_rd ra n : BitVec 4) (b i : Nat) (u : State) => s.fetched c 1 = some u ∧ u.place c
      ((u.core c).reg ra + n.setWidth 18) = .dram b i) (((running.withRig (rigOf 2 dramPart)).w [(Port.DMC_STAT, inFld
      17 15 4), (Port.DMC_CFG, 2), (Port.MEM_AP_CFG 4, inFld 17 15 2)]).withCore .lkc fun k => k.setReg 3 0x30001)
      .lkc 0 3 0 196608 1 (((running.withRig (rigOf 2 dramPart)).w [(Port.DMC_STAT, inFld 17 15 4), (Port.DMC_CFG, 2),
      (Port.MEM_AP_CFG 4, inFld 17 15 2)]).withCore .lkc fun k => k.setReg 3 0x30001) ∧
    (fun (s : State) (c : Core) (_rd ra n : BitVec 4) (o x : Nat) (p : Pkt) (u : State) => s.fetched c 1 = some u ∧
      u.place c ((u.core c).reg ra + n.setWidth 18) = .basin o ∧ (u.copy c.num).rpkt = some (x, p) ∧ u.breakAt p =
      none ∧ 2 * o < p.len ∧ (p.payCell o).near = true) (((running.w [(Port.MEM_AP_CFG 4, inFld 17 15 1)]).withCore
      .lkc fun k => k.setReg 3 0x30001).withCopy .lkc 5 { BsnCopy.idle with rpkt := some (5, twoCells) }) .lkc 0 3 0 1
      5 twoCells (((running.w [(Port.MEM_AP_CFG 4, inFld 17 15 1)]).withCore .lkc fun k => k.setReg 3
      0x30001).withCopy .lkc 5 { BsnCopy.idle with rpkt := some (5, twoCells) }) := by
  decide +kernel


/-- States and operands that meet the hypotheses of BranchesCallsAndReturns, clauses 1 on. -/
theorem met_BranchesCallsAndReturns_1 :
    (fun (s : State) (c : Core) (_cond : BitVec 4) (_off : BitVec 8) (u : State) => s.fetched c 1 = some u) (running)
      .lkc 0 0 running ∧
    (fun (s : State) (c : Core) (rd : BitVec 4) (_off : BitVec 8) (x : Word) (u : State) => s.fetched c 1 = some u ∧
      (u.core c).reg rd = x) (running) .lkc 15 0 0 running ∧
    (fun (s : State) (c : Core) (_ra : BitVec 4) (u : State) => s.fetched c 1 = some u) (running) .lkc 0 running := by
  decide +kernel

/-- States and operands that meet the hypotheses of BranchesCallsAndReturns, clauses 4 on. -/
theorem met_BranchesCallsAndReturns_4 :
    (fun (s : State) (c : Core) (_addr : Word) (u : State) => s.fetched c 2 = some u) (running) .lkc 0 running ∧
    (fun (s : State) (c : Core) (_ra : BitVec 4) (u : State) => s.fetched c 1 = some u ∧ (u.core c).res.toNat < 14)
      (running) .lkc 0 running ∧
    (fun (s : State) (c : Core) (_ra : BitVec 4) (u : State) => s.fetched c 1 = some u ∧ (u.core c).res = 14)
      (running.withCore .lkc fun k => { k with res := 14 }) .lkc 0 (running.withCore .lkc fun k =>
      { k with res := 14 }) := by
  decide +kernel

/-- States and operands that meet the hypotheses of BranchesCallsAndReturns, clauses 7 on. -/
theorem met_BranchesCallsAndReturns_7 :
    (fun (s : State) (c : Core) (_addr : Word) (u : State) => s.fetched c 2 = some u ∧ (u.core c).res.toNat < 14)
      (running) .lkc 0 running ∧
    (fun (s : State) (c : Core) (_addr : Word) (u : State) => s.fetched c 2 = some u ∧ (u.core c).res = 14)
      (running.withCore .lkc fun k => { k with res := 14 }) .lkc 0 (running.withCore .lkc fun k =>
      { k with res := 14 }) ∧
    (fun (s : State) (c : Core) (u : State) => s.fetched c 1 = some u ∧ (u.core c).res ≠ 1) (running.withCore .lkc fun
      k => { k with res := 2 }) .lkc (running.withCore .lkc fun k => { k with res := 2 }) := by
  decide +kernel

/-- States and operands that meet the hypotheses of BranchesCallsAndReturns, clauses 10 on. -/
theorem met_BranchesCallsAndReturns_10 :
    (fun (s : State) (c : Core) (u : State) => s.fetched c 1 = some u ∧ (u.core c).res = 1) (running) .lkc running ∧
    (fun (s : State) (c : Core) (u : State) => s.fetched c 1 = some u ∧ (u.core c).res ≠ 1) (running.withCore .lkc fun
      k => { k with res := 2 }) .lkc (running.withCore .lkc fun k => { k with res := 2 }) ∧
    (fun (s : State) (c : Core) (u : State) => s.fetched c 1 = some u ∧ (u.core c).res = 1) (running) .lkc running := by
  decide +kernel


/-- States and operands that meet the hypotheses of SystemInstructionsTrapWaitAndReadControls, clauses 1 on. -/
theorem met_SystemInstructionsTrapWaitAndReadControls_1 :
    (fun (s : State) (c : Core) (_n : BitVec 8) (u : State) => s.fetched c 1 = some u ∧ (u.core c).res.toNat < 14)
      (running) .lkc 0 running ∧
    (fun (s : State) (c : Core) (_n : BitVec 8) (u : State) => s.fetched c 1 = some u ∧ (u.core c).res = 14)
      (running.withCore .lkc fun k => { k with res := 14 }) .lkc 0 (running.withCore .lkc fun k =>
      { k with res := 14 }) ∧
    (fun (s : State) (c : Core) (u : State) => s.fetched c 1 = some u ∧ (u.core c).res.toNat < 14 ∧ u.getB
      (Port.DBG_CFG c.num) 17 = false) (running) .lkc running := by
  decide +kernel

/-- States and operands that meet the hypotheses of SystemInstructionsTrapWaitAndReadControls, clauses 4 on. -/
theorem met_SystemInstructionsTrapWaitAndReadControls_4 :
    (fun (s : State) (c : Core) (u : State) => s.fetched c 1 = some u ∧ u.getB (Port.DBG_CFG c.num) 17 = true)
      (running.w [(Port.DBG_CFG 1, inFld 17 17 1)]) .lkc (running.w [(Port.DBG_CFG 1, inFld 17 17 1)]) ∧
    (fun (s : State) (c : Core) (u : State) => s.fetched c 1 = some u) (running) .lkc running ∧
    (fun (s : State) (c : Core) (u : State) => s.fetched c 1 = some u) (running) .lkc running := by
  decide +kernel

/-- States and operands that meet the hypotheses of SystemInstructionsTrapWaitAndReadControls, clauses 7 on. -/
theorem met_SystemInstructionsTrapWaitAndReadControls_7 :
    (fun (s : State) (c : Core) (u : State) => s.fetched c 1 = some u) (running) .lkc running ∧
    (fun (s : State) (c : Core) => s.coreLive c = true ∧ (s.core c).waiting = true ∧ s.phase ≠ 1 ∧ s.phase ≠ 2 ∧
      (s.core c).above.isSome = true) (running.withCore .lkc fun k =>
      { k with waiting := true, ipend := 2, ien := 2 }) .lkc ∧
    (fun (s : State) (c : Core) => (s.core c).above = none) (running.withCore .lkc fun k =>
      { k with waiting := true, ipend := 2 }) .lkc := by
  decide +kernel

/-- States and operands that meet the hypotheses of SystemInstructionsTrapWaitAndReadControls, clauses 10 on. -/
theorem met_SystemInstructionsTrapWaitAndReadControls_10 :
    (fun (s : State) (c : Core) (_r : BitVec 4) (cr : BitVec 6) (v : Word) (u : State) => s.fetched c 1 = some u ∧
      u.crRead c.master c cr.toNat = some v ∧ cr ≠ 3 ∧ cr ≠ 10) (running) .lkc 0 9 1 running ∧
    (fun (s : State) (c : Core) (_r : BitVec 4) (cr : BitVec 6) (u : State) => s.fetched c 1 = some u ∧ cr = 4)
      (running) .lkc 0 4 running ∧
    (fun (s : State) (c : Core) (_r : BitVec 4) (cr : BitVec 6) (u : State) => s.fetched c 1 = some u ∧ cr = 0)
      (running) .lkc 0 0 running := by
  decide +kernel

/-- States and operands that meet the hypotheses of SystemInstructionsTrapWaitAndReadControls, clauses 13 on. -/
theorem met_SystemInstructionsTrapWaitAndReadControls_13 :
    (fun (s : State) (c : Core) (_r : BitVec 4) (cr : BitVec 6) (u : State) => s.fetched c 1 = some u ∧ cr = 33)
      (running) .lkc 0 33 running ∧
    (fun (s : State) (c : Core) (w0 w1 : Word) (u : State) => s.fetched c 1 = some u ∧ reservedFirst w0 = true ∧
      u.codeReach c ((u.core c).pc + 1) = (.ok w1, u) ∧ (u.core c).res.toNat < 14) (running) .lkc (inFld 16 12 31)
      0o777777 running ∧
    (fun (_s : State) (_c : Core) (w0 w1 : Word) => reservedFirst w0 = false ∧ reservedSecond w0 w1 = false) (running)
      .lkc 0 7 := by
  decide +kernel

/-- States and operands that meet the hypotheses of SystemInstructionsTrapWaitAndReadControls, clauses 16 on. -/
theorem met_SystemInstructionsTrapWaitAndReadControls_16 :
    (fun (s : State) (c : Core) => s.coreReady c = true ∧ s.codeReach c (s.core c).pc = (.fault, s) ∧ (s.core
      c).res.toNat < 14) (live.withCore .lkc fun k => { k with pc := 0o777777 }) .lkc ∧
    (fun (s : State) (c : Core) (n p : Nat) => s.coreLive c = true ∧ (((s.core c).waiting = true → s.phase ≠ 1 ∧
      s.phase ≠ 2)) ∧ s.irqDue c = true ∧ (s.core c).above = some (n, p) ∧ (s.core c).res.toNat < 14)
      (running.withCore .lkc fun k => { k with
        cs := 0o400000, ipend := 1 <<< 63, ien := 1 <<< 63, ipri := 3 <<< 126, waiting := true }) .lkc 63 3 ∧
    (fun (s : State) (c : Core) => s.irqDue c = false) (running) .apc := by
  decide +kernel

/-- States and operands that meet the hypotheses of SystemInstructionsTrapWaitAndReadControls, clauses 19 on. -/
theorem met_SystemInstructionsTrapWaitAndReadControls_19 :
    (fun (s : State) (c : Core) (_r : BitVec 4) (cr : BitVec 6) (u : State) => s.fetched c 1 = some u ∧ cr = 10)
      running .lkc 0 10 running := by
  decide +kernel


/-- States and operands that meet the hypotheses of TheDebuggerHaltsRunsAndSteps, clauses 1 on. -/
theorem met_TheDebuggerHaltsRunsAndSteps_1 :
    (fun (s : State) (m : Master) (c : Core) => s.answers m (Port.DBG_CTL c.num) = true ∧ (s.core c).halted = false ∧
      (s.core c).inReset = false ∧ (s.core c).lockup = false ∧ s.domOn c.num = true ∧ (s.core c).apWait = none)
      (running) .apc .lkc ∧
    (fun (s : State) (m : Master) (c : Core) => s.answers m (Port.DBG_CTL c.num) = true ∧ (s.core c).halted = true)
      ({ running with lkc := { CoreState.reset with pc := 0x4000, halted := true } }) .apc .lkc ∧
    (fun (s : State) (m : Master) (c : Core) => s.answers m (Port.DBG_CTL c.num) = true ∧ (s.core c).halted = true)
      ({ running with lkc := { CoreState.reset with pc := 0x4000, halted := true } }) .dbg .lkc := by
  decide +kernel

/-- States and operands that meet the hypotheses of TheDebuggerHaltsRunsAndSteps, clauses 4 on. -/
theorem met_TheDebuggerHaltsRunsAndSteps_4 :
    (fun (s : State) (m : Master) (c : Core) => s.answers m (Port.DBG_CTL c.num) = true ∧ (s.core c).halted = false)
      (running) .dbg .lkc ∧
    (fun (s : State) (m : Master) (c : Core) (w0 _w1 v : Word) => s.answers m (Port.DBG_CTL c.num) = true ∧ (s.core
      c).halted = true ∧ (s.core c).inReset = false ∧ (s.core c).lockup = false ∧ (s.core c).bootWait = false ∧
      (s.core c).gated = false ∧ (s.core c).waiting = false ∧ (s.core c).apWait = none ∧ s.domOn c.num = true ∧
      s.codeReach c (s.core c).pc = (.ok v, s) ∧ w0 = 0 ∧ (((s.core c).ie = false ∨ (s.core c).above = none)))
      ({ running with lkc := { CoreState.reset with pc := 0x4000, halted := true } }) .dbg .lkc 0 0 0o777777 ∧
    (fun (s : State) (m : Master) (c : Core) (_w0 _w1 v : Word) (n p : Nat) => s.answers m (Port.DBG_CTL c.num) = true
      ∧ (s.core c).halted = true ∧ (s.core c).inReset = false ∧ (s.core c).lockup = false ∧ (s.core c).bootWait =
      false ∧ (s.core c).gated = false ∧ (s.core c).waiting = false ∧ (s.core c).apWait = none ∧ s.domOn c.num = true
      ∧ s.codeReach c (s.core c).pc = (.ok v, s) ∧ (s.core c).ie = true ∧ (s.core c).eiShadow = false ∧ (s.core
      c).above = some (n, p) ∧ (s.core c).res.toNat < 14) ({ running with
        lkc := { CoreState.reset with
            pc := 0x4000, halted := true, cs := 0o400000, ipend := 1 <<< 5, ien := 1 <<< 5 } }) .dbg .lkc 0 0 0o777777
      5 0 := by
  decide +kernel

/-- States and operands that meet the hypotheses of TheDebuggerHaltsRunsAndSteps, clauses 7 on. -/
theorem met_TheDebuggerHaltsRunsAndSteps_7 :
    (fun (s : State) (m : Master) (c : Core) (w0 _w1 v : Word) => s.answers m (Port.DBG_CTL c.num) = true ∧ (s.core
      c).halted = true ∧ (s.core c).inReset = false ∧ (s.core c).lockup = false ∧ (s.core c).bootWait = false ∧
      (s.core c).gated = false ∧ (s.core c).waiting = false ∧ (s.core c).apWait = none ∧ s.domOn c.num = true ∧
      s.codeReach c (s.core c).pc = (.ok v, s) ∧ w0 = 0)
      ({ running with lkc := { CoreState.reset with pc := 0x4000, halted := true } }) .apc .lkc 0 0 0o777777 ∧
    (fun (s : State) (c : Core) => s.coreLive c = true ∧ (s.core c).waiting = false ∧ (s.core c).apWait = none ∧
      s.irqDue c = false ∧ (s.core c).resumed = false ∧ s.getB (Port.DBG_CFG c.num) 15 = true ∧ s.get (Port.DBG_BP_1
      c.num) = (s.core c).pc) (running.w [(Port.DBG_CFG 1, inFld 15 15 1), (Port.DBG_BP_1 1, 0x4000)]) .lkc ∧
    (fun (s : State) (c : Core) => s.breakHere c = false) (running) .lkc := by
  decide +kernel

/-- States and operands that meet the hypotheses of TheDebuggerHaltsRunsAndSteps, clauses 10 on. -/
theorem met_TheDebuggerHaltsRunsAndSteps_10 :
    (fun (s : State) (m : Master) (c : Core) => s.answers m (Port.DBG_CTL c.num) = true ∧ (s.core c).halted = false ∧
      (s.core c).inReset = false ∧ (s.core c).lockup = false ∧ s.domOn c.num = true ∧ (s.core c).apWait.isSome = true)
      (running.withCore .lkc fun k => { k with apWait := some someWait }) .apc .lkc := by
  decide +kernel


/-- States and operands that meet the hypotheses of FlashCommandsAreWrittenInCycles, clauses 1 on. -/
theorem met_FlashCommandsAreWrittenInCycles_1 :
    (fun (s : State) (c : Core) (win : Fin 4) (off : BitVec 13) (v : Word) (b o : Nat) => s.place c (BitVec.ofNat 18
      (0x30000 + win.val * 0x2000 + off.toNat)) = .flash b o ∧ s.domOn 14 = true ∧ s.flcStep c.num = 0 ∧ v = 0o525252
      ∧ o % 8192 = 0x0AAA) (flashLive) .lkc 1 0x0AAA 0o525252 2 0x0AAA ∧
    (fun (s : State) (c : Core) (win : Fin 4) (off : BitVec 13) (v : Word) (b o : Nat) => s.place c (BitVec.ofNat 18
      (0x30000 + win.val * 0x2000 + off.toNat)) = .flash b o ∧ s.domOn 14 = true ∧ s.flcStep c.num = 1 ∧ Cells.rd (fun
      _ => 0) s.flc.seqBank c.num = b ∧ v = 0o252525 ∧ o % 8192 = 0x1555) (flashLive.setSeq 1 1 2 0 0 []) .lkc 1
      0x1555 0o252525 2 0x1555 ∧
    (fun (s : State) (c : Core) (win : Fin 4) (off : BitVec 13) (v : Word) (b o : Nat) => s.place c (BitVec.ofNat 18
      (0x30000 + win.val * 0x2000 + off.toNat)) = .flash b o ∧ s.domOn 14 = true ∧ s.flcStep c.num = 0 ∧ v ≠ 0o000360
      ∧ ((v ≠ 0o525252 ∨ o % 8192 ≠ 0x0AAA))) (flashLive) .lkc 1 0x1555 0o525252 2 0x1555 := by
  decide +kernel

/-- States and operands that meet the hypotheses of FlashCommandsAreWrittenInCycles, clauses 4 on. -/
theorem met_FlashCommandsAreWrittenInCycles_4 :
    (fun (s : State) (c : Core) (win : Fin 4) (off : BitVec 13) (_v : Word) => s.place c (BitVec.ofNat 18 (0x30000 +
      win.val * 0x2000 + off.toNat)) = .none ∧ (s.core c).res.toNat < 14) (running) .lkc 3 8191 0 ∧
    (fun (s : State) (c : Core) (win : Fin 4) (off : BitVec 13) (_d : Word) (b o : Nat) => s.place c (BitVec.ofNat 18
      (0x30000 + win.val * 0x2000 + off.toNat)) = .flash b o ∧ s.domOn 14 = true ∧ s.flcStep c.num = 2 ∧ Cells.rd (fun
      _ => 0) s.flc.seqBank c.num = b ∧ b < 4 ∧ s.getB Port.FLC_STAT 0 = true ∧ s.flc.op = none ∧ s.flashErased b o =
      true ∧ s.suspect b = none) (unlocked) .lkc 1 8191 0 2 8191 ∧
    (fun (s : State) (c : Core) (win : Fin 4) (off : BitVec 13) (_d : Word) (b o : Nat) => s.place c (BitVec.ofNat 18
      (0x30000 + win.val * 0x2000 + off.toNat)) = .flash b o ∧ s.domOn 14 = true ∧ s.flcStep c.num = 2 ∧ Cells.rd (fun
      _ => 0) s.flc.seqBank c.num = b ∧ b < 4 ∧ s.getB Port.FLC_STAT 0 = true ∧ s.flc.op = none ∧ s.flashUndef b o =
      false ∧ s.flashErased b o = false ∧ s.suspect b = none) (unlocked.flashSet 2 8191 7) .lkc 1 8191 0 2 8191 := by
  decide +kernel

/-- States and operands that meet the hypotheses of FlashCommandsAreWrittenInCycles, clauses 7 on. -/
theorem met_FlashCommandsAreWrittenInCycles_7 :
    (fun (s : State) (c : Core) (win : Fin 4) (off : BitVec 13) (_d : Word) (b o : Nat) => s.place c (BitVec.ofNat 18
      (0x30000 + win.val * 0x2000 + off.toNat)) = .flash b o ∧ s.domOn 14 = true ∧ s.flcStep c.num = 2 ∧ Cells.rd (fun
      _ => 0) s.flc.seqBank c.num = b ∧ b < 4 ∧ s.flc.op.isSome = true) (unlocked.withOp ⟨3, 1, 0, []⟩ true) .lkc 1
      8191 0 2 8191 ∧
    (fun (s : State) (c : Core) (win : Fin 4) (off : BitVec 13) (_d : Word) (b o : Nat) => s.place c (BitVec.ofNat 18
      (0x30000 + win.val * 0x2000 + off.toNat)) = .flash b o ∧ s.domOn 14 = true ∧ s.flcStep c.num = 2 ∧ Cells.rd (fun
      _ => 0) s.flc.seqBank c.num = b ∧ b < 4 ∧ s.getB Port.FLC_STAT 0 = true ∧ s.flc.op = none ∧ s.suspect b = some
      (o / 2048)) (unlocked.w [(0x100A, inFld 17 17 1 ||| inFld 7 0 3)]) .lkc 1 8191 0 2 8191 ∧
    (fun (s : State) (c : Core) (win : Fin 4) (off : BitVec 13) (_d0 _d1 _d2 _d3 : Word) (b o : Nat) => s.place c
      (BitVec.ofNat 18 (0x30000 + win.val * 0x2000 + off.toNat)) = .flash b o ∧ s.domOn 14 = true ∧ s.flcStep c.num =
      2 ∧ Cells.rd (fun _ => 0) s.flc.seqBank c.num = b ∧ b < 4 ∧ s.getB Port.FLC_STAT 0 = true ∧ s.flc.op = none ∧
      off.toNat % 4 = 0 ∧ [o, o + 1, o + 2, o + 3].all (s.flashErased b) = true ∧ s.suspect b = none) (unlocked) .lkc
      1 8188 0 0 0 0 2 8188 := by
  decide +kernel

/-- States and operands that meet the hypotheses of FlashCommandsAreWrittenInCycles, clauses 10 on. -/
theorem met_FlashCommandsAreWrittenInCycles_10 :
    (fun (s : State) (c : Core) (win : Fin 4) (off : BitVec 13) (b o : Nat) => s.place c (BitVec.ofNat 18 (0x30000 +
      win.val * 0x2000 + off.toNat)) = .flash b o ∧ s.domOn 14 = true ∧ s.flcStep c.num = 2 ∧ Cells.rd (fun _ => 0)
      s.flc.seqBank c.num = b ∧ b < 4 ∧ s.getB Port.FLC_STAT 0 = true ∧ s.flc.op = none ∧ s.suspect b = none)
      (unlocked) .lkc 1 8191 2 8191 ∧
    (fun (s : State) (c : Core) (win : Fin 4) (off : BitVec 13) (b o k : Nat) => s.place c (BitVec.ofNat 18 (0x30000 +
      win.val * 0x2000 + off.toNat)) = .flash b o ∧ s.domOn 14 = true ∧ s.flcStep c.num = 2 ∧ Cells.rd (fun _ => 0)
      s.flc.seqBank c.num = b ∧ b < 4 ∧ s.getB Port.FLC_STAT 0 = true ∧ s.flc.op = none ∧ s.suspect b = some k ∧ k ≠ o
      / 2048) (unlocked.w [(0x100A, inFld 17 17 1 ||| inFld 7 0 4)]) .lkc 1 8191 2 8191 4 ∧
    (fun (s : State) (c : Core) (win : Fin 4) (off : BitVec 13) (b o : Nat) => s.place c (BitVec.ofNat 18 (0x30000 +
      win.val * 0x2000 + off.toNat)) = .flash b o ∧ s.domOn 14 = true ∧ s.flcStep c.num = 2 ∧ Cells.rd (fun _ => 0)
      s.flc.seqBank c.num = b ∧ b = 4) ((unlocked.w [(Port.MEM_AP_CFG 5, inFld 17 15 3 ||| inFld 14 12 4)]).setSeq 1 2
      4 0 0 []) .lkc 1 8191 4 8191 := by
  decide +kernel

/-- States and operands that meet the hypotheses of FlashCommandsAreWrittenInCycles, clauses 13 on. -/
theorem met_FlashCommandsAreWrittenInCycles_13 :
    (fun (s : State) (c : Core) (win : Fin 4) (off : BitVec 13) (b o : Nat) => s.place c (BitVec.ofNat 18 (0x30000 +
      win.val * 0x2000 + off.toNat)) = .flash b o ∧ s.domOn 14 = true ∧ s.flcStep c.num = 2 ∧ Cells.rd (fun _ => 0)
      s.flc.seqBank c.num = b) (unlocked) .lkc 1 8191 2 8191 := by
  decide +kernel


/-- States and operands that meet the hypotheses of FlashOperationsRunToTheirEnd, clauses 1 on. -/
theorem met_FlashOperationsRunToTheirEnd_1 :
    (fun (s : State) => ((s.flc.op = none ∨ s.flc.running = true ∨ s.granted Act.flash = false))) (flashLive.withOp
      ⟨3, 1, 0, []⟩ false) ∧
    (fun (s : State) (x : FlashOp) => s.flc.op = some x ∧ s.flc.running = false ∧ s.granted Act.flash = true ∧ x.op ≠
      3) ((flashLive.w [(Port.MNT_GRANT, BitVec.twoPow 18 Act.flash)]).withOp ⟨1, 1, 4096, [3]⟩ false) ⟨1, 1, 4096,
      [3]⟩ ∧
    (fun (s : State) (x : FlashOp) => s.flc.op = some x ∧ s.flc.running = false ∧ s.granted Act.flash = true ∧ x.op =
      3) ((flashLive.w [(Port.MNT_GRANT, BitVec.twoPow 18 Act.flash)]).withOp ⟨3, 1, 4096, []⟩ false) (⟨3, 1, 4096,
      []⟩) := by
  decide +kernel

/-- States and operands that meet the hypotheses of FlashOperationsRunToTheirEnd, clauses 4 on. -/
theorem met_FlashOperationsRunToTheirEnd_4 :
    (fun (s : State) (ok : Bool) (x : FlashOp) (d : Word) => s.flc.op = some x ∧ s.flc.running = true ∧ s.getB
      Port.FLC_STAT 16 = false ∧ x.op = 1 ∧ x.data = [d] ∧ ok = true) (flashLive.withOp ⟨1, 1, 4096, [9]⟩ true) true
      (⟨1, 1, 4096, [9]⟩) 9 ∧
    (fun (s : State) (ok : Bool) (x : FlashOp) => s.flc.op = some x ∧ s.flc.running = true ∧ s.getB Port.FLC_STAT 16 =
      false ∧ x.op = 2 ∧ x.data.length = 4 ∧ ok = true) (flashLive.withOp ⟨2, 1, 4096, [9, 8, 7, 6]⟩ true) true (⟨2,
      1, 4096, [9, 8, 7, 6]⟩) ∧
    (fun (s : State) (ok : Bool) (x : FlashOp) => s.flc.op = some x ∧ s.flc.running = true ∧ s.getB Port.FLC_STAT 16 =
      false ∧ x.op = 3 ∧ x.bank < 4 ∧ x.addr < 458752 ∧ ok = true) ((flashLive.withOp ⟨3, 1, 4096, []⟩ true).flashSet
      1 4100 5) true (⟨3, 1, 4096, []⟩) := by
  decide +kernel

/-- States and operands that meet the hypotheses of FlashOperationsRunToTheirEnd, clauses 7 on. -/
theorem met_FlashOperationsRunToTheirEnd_7 :
    (fun (s : State) (ok : Bool) (x : FlashOp) => s.flc.op = some x ∧ s.flc.running = true ∧ s.getB Port.FLC_STAT 16 =
      false ∧ x.op = 3 ∧ x.bank < 4 ∧ x.addr < 458752 ∧ ok = false) (flashLive.withOp ⟨3, 1, 4096, []⟩ true) false
      (⟨3, 1, 4096, []⟩) ∧
    (fun (s : State) (ok : Bool) (x : FlashOp) => s.flc.op = some x ∧ s.flc.running = true ∧ s.getB Port.FLC_STAT 16 =
      false ∧ ((x.op = 1 ∨ x.op = 2)) ∧ ok = false) (flashLive.withOp ⟨1, 1, 4096, [9]⟩ true) false (⟨1, 1, 4096,
      [9]⟩) ∧
    (fun (s : State) (x : FlashOp) => s.flc.op = some x ∧ s.flc.running = true ∧ s.getB Port.FLC_STAT 16 = false ∧
      x.op = 3 ∧ x.bank < 4 ∧ s.ranMin = true) (flashLive.withOp ⟨3, 1, 4096, []⟩ true) (⟨3, 1, 4096, []⟩) := by
  decide +kernel

/-- States and operands that meet the hypotheses of FlashOperationsRunToTheirEnd, clauses 10 on. -/
theorem met_FlashOperationsRunToTheirEnd_10 :
    (fun (s : State) => ((s.flc.op = none ∨ s.flc.running = false))) (flashLive) ∧
    (fun (s : State) => s.getB Port.FLC_STAT 16 = false ∧ s.ranMin = false) { (flashLive.withOp ⟨3, 1, 4096, []⟩ true)
      with
        flc := { (flashLive.withOp ⟨3, 1, 4096, []⟩ true).flc with resumedAt := some 0 } } ∧
    (fun (s : State) => s.getB Port.FLC_STAT 16 = true ∧ s.flc.readAt + max 1 (s.getF 0x1004 17 12) * 16 ≤
      s.time.wall) ((flashLive.w [(Port.FLC_STAT, inFld 16 16 1 ||| 1)]).at_ 1008) := by
  decide +kernel

/-- States and operands that meet the hypotheses of FlashOperationsRunToTheirEnd, clauses 13 on. -/
theorem met_FlashOperationsRunToTheirEnd_13 :
    (fun (s : State) => ((s.getB Port.FLC_STAT 16 = false ∨ s.time.wall < s.flc.readAt + max 1 (s.getF 0x1004 17 12) *
      16))) flashLive ∧
    (fun (s : State) => s.domOn 14 = true ∧ s.getB Port.FLC_STAT 0 = false)
      ({ live with flc := { Flash.reset with intents := [(3, 224)] } }) ∧
    (fun (s : State) => ((s.domOn 14 = false ∨ s.getB Port.FLC_STAT 0 = true))) flashLive := by
  decide +kernel

/-- States and operands that meet the hypotheses of FlashOperationsRunToTheirEnd, clauses 16 on. -/
theorem met_FlashOperationsRunToTheirEnd_16 :
    (fun (s : State) => ((s.getB Port.MEM_SCRUB 17 = false ∨ 2 < s.level ∨ s.time.wall < s.mem.scrubAt + max 1 (s.getF
      Port.MEM_SCRUB 5 0) * 16))) (live) ∧
    (fun (s : State) => s.getB Port.MEM_SCRUB 17 = true ∧ s.level ≤ 2 ∧ s.mem.scrubAt + max 1 (s.getF Port.MEM_SCRUB 5
      0) * 16 ≤ s.time.wall ∧ s.granted Act.sramScrub = false) ((live.w [(Port.MEM_SCRUB, inFld 17 17 1),
      (Port.MNT_GRANT, 0), (Port.MEM_SCRUB_POS, inFld 17 12 7 ||| inFld 10 0 2046)]).at_ 64) ∧
    (fun (s : State) (b g i : Nat) => s.getB Port.MEM_SCRUB 17 = true ∧ s.level ≤ 2 ∧ s.mem.scrubAt + max 1 (s.getF
      Port.MEM_SCRUB 5 0) * 16 ≤ s.time.wall ∧ s.granted Act.sramScrub = true ∧ s.getF Port.MEM_SCRUB_POS 17 12 = b ∧
      s.getF Port.MEM_SCRUB_POS 10 0 = g ∧ b < 40 ∧ s.scrubbed b = true ∧ g < 2047 ∧ i < 8 ∧ s.sramBad (b * 16384 + 8
      * g + i) = 1) (((live.w [(Port.MEM_SCRUB, inFld 17 17 1), (Port.MNT_GRANT, BitVec.twoPow 18 Act.sramScrub),
      (Port.MEM_SCRUB_POS, inFld 17 12 7 ||| inFld 10 0 2046)]).at_ 64).sramMark (7 * 16384 + 8 * 2046 + 7) 1) 7 2046
      7 := by
  decide +kernel

/-- States and operands that meet the hypotheses of FlashOperationsRunToTheirEnd, clauses 19 on. -/
theorem met_FlashOperationsRunToTheirEnd_19 :
    (fun (s : State) (c : Core) (w : ApWait) => (s.core c).apWait = some w ∧ (timeDiff s.time.link w.since).toNat <
      1024) ((running.at_ 1028).withCore .lkc fun k => { k with apWait := some someWait }) .lkc someWait ∧
    (fun (s : State) (c : Core) (w : ApWait) => (s.core c).apWait = some w ∧ 1024 ≤ (timeDiff s.time.link
      w.since).toNat ∧ (s.core c).res.toNat < 14) ((running.at_ 1029).withCore .lkc fun k =>
      { k with apWait := some someWait }) .lkc someWait := by
  decide +kernel


/-- States and operands that meet the hypotheses of TheDramControllerPowersTrainsAndWipes, clauses 1 on. -/
theorem met_TheDramControllerPowersTrainsAndWipes_1 :
    (fun (s : State) (m : Master) => s.answers m Port.DMC_CMD = true ∧ s.dmcState = 1 ∧ s.dmc.powering = false)
      (live.withDmc 1 Dmc.reset) .apc ∧
    (fun (s : State) (m : Master) => s.answers m Port.DMC_CMD = true ∧ ((s.dmcState ≠ 1 ∨ s.dmc.powering = true)))
      (dramLive) .lkc ∧
    (fun (s : State) => s.dmc.powering = true ∧ s.dmcState = 1) (live.withDmc 1 { Dmc.reset with powering := true }) := by
  decide +kernel

/-- States and operands that meet the hypotheses of TheDramControllerPowersTrainsAndWipes, clauses 4 on. -/
theorem met_TheDramControllerPowersTrainsAndWipes_4 :
    (fun (s : State) => ((s.dmc.powering = false ∨ s.dmcState ≠ 1))) (dramLive) ∧
    (fun (s : State) (m : Master) => s.answers m Port.DMC_CMD = true ∧ s.dmcState = 2 ∧ s.dmc.checked = true ∧
      s.dmc.density = false) (dramLive.withDmc 2 { Dmc.reset with checked := true }) .lkc ∧
    (fun (s : State) (m : Master) => s.answers m Port.DMC_CMD = true ∧ ((s.dmcState ≠ 2 ∨ s.dmc.checked = false ∨
      s.dmc.density = true))) (dramLive.withDmc 2 Dmc.reset) .lkc := by
  decide +kernel

/-- States and operands that meet the hypotheses of TheDramControllerPowersTrainsAndWipes, clauses 7 on. -/
theorem met_TheDramControllerPowersTrainsAndWipes_7 :
    (fun (s : State) => s.dmcState = 3 ∧ s.rigF 2 2 2 0 ≠ 0) (dramLive.withDmc 3 Dmc.reset) ∧
    (fun (s : State) => s.dmcState ≠ 3) (dramLive) ∧
    (fun (s : State) => s.dmcState = 4 ∧ s.getB Port.DMC_SR 17 = true ∧ s.dramQuiet = true ∧ s.granted Act.srEntry =
      false) ((dramLive.w [(Port.DMC_SR, inFld 17 17 1)]).at_ 64) := by
  decide +kernel

/-- States and operands that meet the hypotheses of TheDramControllerPowersTrainsAndWipes, clauses 10 on. -/
theorem met_TheDramControllerPowersTrainsAndWipes_10 :
    (fun (s : State) => s.dmcState = 4 ∧ s.getB Port.DMC_SR 17 = true ∧ s.dramQuiet = true ∧ s.granted Act.srEntry =
      true) ((dramLive.w [(Port.DMC_SR, inFld 17 17 1), (Port.MNT_GRANT, BitVec.twoPow 18 Act.srEntry)]).at_ 64) ∧
    (fun (s : State) => ((s.dmcState ≠ 4 ∨ s.getB Port.DMC_SR 17 = false ∨ s.dramQuiet = false))) (dramLive.w
      [(Port.DMC_SR, 0)]) ∧
    (fun (s : State) => s.domOn 12 = false) (live.w [(Port.PWR_DOM_STAT, 0o767777)]) := by
  decide +kernel

/-- States and operands that meet the hypotheses of TheDramControllerPowersTrainsAndWipes, clauses 13 on. -/
theorem met_TheDramControllerPowersTrainsAndWipes_13 :
    (fun (s : State) => s.domOn 12 = true) (dramLive) := by
  decide +kernel


/-- States and operands that meet the hypotheses of DramRequestsAreServedInOrder, clauses 1 on. -/
theorem met_DramRequestsAreServedInOrder_1 :
    (fun (s : State) => ((s.dmc.cur.isSome = true ∨ s.dmc.queue = []))) (dramLive) ∧
    (fun (s : State) (r : DramReq) => s.dmc.cur = none ∧ s.nextDram = some r ∧ ((s.dmcState = 4 ∨ s.dmcState = 5)))
      (dramLive.withDmc 5 { Dmc.reset with queue := [someDram] }) someDram ∧
    (fun (s : State) (a b : DramReq) => s.dmc.cur = none ∧ s.dmcState = 4 ∧ s.dmc.queue = [a, b] ∧ a.port ≠ b.port ∧
      a.block ≠ b.block ∧ s.effRank b < s.effRank a) ((dramLive.withDmc 4
      { Dmc.reset with queue := [someDram, { someDram with port := 2, block := 400000 }] }).at_ 10) someDram
      { someDram with port := 2, block := 400000 } := by
  decide +kernel

/-- States and operands that meet the hypotheses of DramRequestsAreServedInOrder, clauses 4 on. -/
theorem met_DramRequestsAreServedInOrder_4 :
    (fun (s : State) => s.dmcState ≠ 4 ∧ s.dmcState ≠ 5) (dramLive.withDmc 6 { Dmc.reset with queue := [someDram] }) ∧
    (fun (s : State) => s.dmc.cur = none) (dramLive) ∧
    (fun (s : State) (c : Core) (r : DramReq) (w : ApWait) => s.dmc.cur = some r ∧ coreOf r.port = c ∧ (s.core
      c).apWait = some w ∧ w.basin = false ∧ w.write = false ∧ w.block = r.block ∧ w.idx < 12 ∧ s.dmcState = 4 ∧
      s.dramBad r.block = 0 ∧ s.ownerWrong r.port r.block = false) ((dramLive.withDmc 4
      { Dmc.reset with cur := some someDram }).withCore .lkc fun k => { k with apWait := some someWait }) .lkc
      someDram someWait := by
  decide +kernel

/-- States and operands that meet the hypotheses of DramRequestsAreServedInOrder, clauses 7 on. -/
theorem met_DramRequestsAreServedInOrder_7 :
    (fun (s : State) (c : Core) (r : DramReq) (w : ApWait) => s.dmc.cur = some r ∧ coreOf r.port = c ∧ (s.core
      c).apWait = some w ∧ w.basin = false ∧ w.write = true ∧ w.block = r.block ∧ w.idx < 12 ∧ s.dmcState = 4 ∧
      s.dramBad r.block = 0 ∧ s.ownerWrong r.port r.block = false) ((dramLive.withDmc 4
      { Dmc.reset with cur := some someDram }).withCore .lkc fun k =>
      { k with apWait := some { someWait with write := true, v := 9 } }) .lkc someDram
      ({ someWait with write := true, v := 9 }) ∧
    (fun (s : State) (_mr4 _mr8 : BitVec 8) (_drifted : Bool) => ((s.dmcState ≠ 4 ∨ s.time.wall < s.dmc.checkAt + max
      1 (s.getF Port.DMC_CAL 8 0) * 16000))) dramLive 0 0 false ∧
    (fun (s : State) (_mr4 _mr8 : BitVec 8) (_drifted : Bool) => s.dmcState = 4 ∧ s.dmc.checkAt + max 1 (s.getF
      Port.DMC_CAL 8 0) * 16000 ≤ s.time.wall ∧ s.granted Act.dramPcal = false) ((dramLive.w [(Port.MNT_GRANT, 0),
      (Port.DMC_CAL, 0)]).at_ 16000) 0 0 false := by
  decide +kernel

/-- States and operands that meet the hypotheses of DramRequestsAreServedInOrder, clauses 12 on. -/
theorem met_DramRequestsAreServedInOrder_12 :
    (fun (s : State) (_mr4 mr8 k : BitVec 8) (_drifted : Bool) => s.dmcState = 4 ∧ s.dmc.checkAt + max 1 (s.getF
      Port.DMC_CAL 8 0) * 16000 ≤ s.time.wall ∧ s.granted Act.dramPcal = true ∧ s.dmc.mr8 = some k ∧ k ≠ mr8)
      (((dramLive.w [(Port.MNT_GRANT, BitVec.twoPow 18 Act.dramPcal), (Port.DMC_CAL, 0)]).at_ 16000) |> fun s =>
      { s with dmc := { s.dmc with mr8 := some 9 } }) 0 0 9 false ∧
    (fun (s : State) (_mr4 mr8 : BitVec 8) => s.dmcState = 4 ∧ s.dmc.checkAt + max 1 (s.getF Port.DMC_CAL 8 0) * 16000
      ≤ s.time.wall ∧ s.granted Act.dramPcal = true ∧ s.dmc.mr8 = some mr8) (((dramLive.w [(Port.MNT_GRANT,
      BitVec.twoPow 18 Act.dramPcal), (Port.DMC_CAL, 0)]).at_ 16000) |> fun s =>
      { s with dmc := { s.dmc with mr8 := some 0 } }) 0 0 ∧
    (fun (s : State) (_mr4 mr8 : BitVec 8) => s.dmcState = 4 ∧ s.dmc.checkAt + max 1 (s.getF Port.DMC_CAL 8 0) * 16000
      ≤ s.time.wall ∧ s.granted Act.dramPcal = true ∧ s.dmc.mr8 = some mr8 ∧ s.granted Act.dramRetrain = false)
      (((dramLive.w [(Port.MNT_GRANT, BitVec.twoPow 18 Act.dramPcal), (Port.DMC_CAL, 0)]).at_ 16000) |> fun s =>
      { s with dmc := { s.dmc with mr8 := some 0 } }) 0 0 := by
  decide +kernel

/-- States and operands that meet the hypotheses of DramRequestsAreServedInOrder, clauses 15 on. -/
theorem met_DramRequestsAreServedInOrder_15 :
    (fun (s : State) (mr4 _mr8 : BitVec 8) (_drifted : Bool) => s.dmcState = 4 ∧ s.dmc.checkAt + max 1 (s.getF
      Port.DMC_CAL 8 0) * 16000 ≤ s.time.wall ∧ s.granted Act.dramPcal = true ∧ mr4.toNat % 8 = 7) ((dramLive.w
      [(Port.MNT_GRANT, BitVec.twoPow 18 Act.dramPcal), (Port.DMC_CAL, 0)]).at_ 16000) 7 0 false ∧
    (fun (s : State) => s.dmcState = 4 ∧ s.dmc.driftPend = true ∧ s.granted Act.dramRetrain = true) ((dramLive.withDmc
      4 { Dmc.reset with driftPend := true }).w [(Port.MNT_GRANT, BitVec.twoPow 18 Act.dramRetrain)]) ∧
    (fun (s : State) => ((s.dmcState ≠ 4 ∨ s.dmc.driftPend = false))) (dramLive) := by
  decide +kernel

/-- States and operands that meet the hypotheses of DramRequestsAreServedInOrder, clauses 18 on. -/
theorem met_DramRequestsAreServedInOrder_18 :
    (fun (s : State) => s.dmcState = 4 ∧ s.getB Port.DMC_SCRUB 17 = true ∧ s.dmc.scrubAt + max 1 (s.getF
      Port.DMC_SCRUB 11 0) * 16 ≤ s.time.wall ∧ s.dramBad s.dmc.scrubPos / 8 % 8 = 0 ∧ s.dramBad s.dmc.scrubPos < 128)
      (((dramLive.w [(Port.DMC_SCRUB, inFld 17 17 1)]).at_ 64) |> fun s =>
      { s with mem := { s.mem with dramErr := [(0, 1)] } }) ∧
    (fun (s : State) => ((s.dmcState ≠ 4 ∨ s.getB Port.DMC_SCRUB 17 = false ∨ s.time.wall < s.dmc.scrubAt + max 1
      (s.getF Port.DMC_SCRUB 11 0) * 16))) (dramLive.w [(Port.DMC_SCRUB, 0)]) := by
  decide +kernel


/-- States and operands that meet the hypotheses of TrainingHelpersRunInTraining, clauses 1 on. -/
theorem met_TrainingHelpersRunInTraining_1 :
    (fun (s : State) (m : Master) => s.answers m Port.DMC_TRN_CMD = true ∧ s.dmc.helper = 0 ∧ s.dmcState = 2)
      (dramLive.withDmc 2 Dmc.reset) .lkc ∧
    (fun (s : State) (m : Master) => s.answers m Port.DMC_TRN_CMD = true ∧ ((s.dmc.helper ≠ 0 ∨ s.dmcState ≠ 2)))
      (dramLive) .apc ∧
    (fun (s : State) (m : Master) => s.answers m Port.DMC_TRN_CMD = true ∧ s.dmc.helper = 0 ∧ ((s.dmcState = 2 ∨
      s.dmcState = 6))) (dramLive.withDmc 6 Dmc.reset) .lkc := by
  decide +kernel

/-- States and operands that meet the hypotheses of TrainingHelpersRunInTraining, clauses 4 on. -/
theorem met_TrainingHelpersRunInTraining_4 :
    (fun (s : State) (m : Master) => s.answers m Port.DMC_TRN_CMD = true ∧ ((s.dmc.helper ≠ 0 ∨ (s.dmcState ≠ 2 ∧
      s.dmcState ≠ 6)))) (dramLive) .apc ∧
    (fun (s : State) (m : Master) => s.answers m Port.DMC_TRN_CMD = true ∧ s.dmc.helper = 0 ∧ s.dmcState = 2)
      (dramLive.withDmc 2 Dmc.reset) .lkc ∧
    (fun (s : State) (m : Master) => s.answers m Port.DMC_TRN_CMD = true ∧ ((s.dmc.helper ≠ 0 ∨ s.dmcState ≠ 2)))
      (dramLive) .apc := by
  decide +kernel

/-- States and operands that meet the hypotheses of TrainingHelpersRunInTraining, clauses 7 on. -/
theorem met_TrainingHelpersRunInTraining_7 :
    (fun (s : State) (m : Master) => s.answers m Port.DMC_TRN_CMD = true ∧ s.dmc.helper = 0 ∧ s.dmcState = 2)
      (dramLive.withDmc 2 Dmc.reset) .lkc ∧
    (fun (s : State) (m : Master) => s.answers m Port.DMC_TRN_CMD = true ∧ ((s.dmc.helper ≠ 0 ∨ s.dmcState ≠ 2)))
      (dramLive) .apc ∧
    (fun (s : State) (m : Master) => s.answers m Port.DMC_TRN_CMD = true ∧ s.dmc.helper = 0 ∧ s.dmcState = 2)
      (dramLive.withDmc 2 Dmc.reset) .lkc := by
  decide +kernel

/-- States and operands that meet the hypotheses of TrainingHelpersRunInTraining, clauses 10 on. -/
theorem met_TrainingHelpersRunInTraining_10 :
    (fun (s : State) (m : Master) => s.answers m Port.DMC_TRN_CMD = true ∧ ((s.dmc.helper ≠ 0 ∨ s.dmcState ≠ 2)))
      (dramLive) .apc ∧
    (fun (s : State) (m : Master) => s.answers m Port.DMC_TRN_CMD = true ∧ s.dmc.helper = 0 ∧ s.dmcState = 2)
      (dramLive.withDmc 2 Dmc.reset) .lkc ∧
    (fun (s : State) (m : Master) => s.answers m Port.DMC_TRN_CMD = true ∧ ((s.dmc.helper ≠ 0 ∨ s.dmcState ≠ 2)))
      (dramLive) .apc := by
  decide +kernel

/-- States and operands that meet the hypotheses of TrainingHelpersRunInTraining, clauses 13 on. -/
theorem met_TrainingHelpersRunInTraining_13 :
    (fun (s : State) (m : Master) => s.answers m Port.DMC_TRN_CMD = true ∧ s.dmc.helper = 0 ∧ s.dmcState = 2)
      (dramLive.withDmc 2 Dmc.reset) .lkc ∧
    (fun (s : State) (m : Master) => s.answers m Port.DMC_TRN_CMD = true ∧ ((s.dmc.helper ≠ 0 ∨ s.dmcState ≠ 2)))
      (dramLive) .apc ∧
    (fun (s : State) (m : Master) => s.answers m Port.DMC_TRN_CMD = true ∧ s.dmc.helper = 0 ∧ s.dmcState = 2)
      (dramLive.withDmc 2 Dmc.reset) .lkc := by
  decide +kernel

/-- States and operands that meet the hypotheses of TrainingHelpersRunInTraining, clauses 16 on. -/
theorem met_TrainingHelpersRunInTraining_16 :
    (fun (s : State) (m : Master) => s.answers m Port.DMC_TRN_CMD = true ∧ ((s.dmc.helper ≠ 0 ∨ s.dmcState ≠ 2)))
      (dramLive) .apc ∧
    (fun (s : State) (_res : BitVec 17) => s.dmc.helper = 0) (dramLive) 0 ∧
    (fun (s : State) (_res : BitVec 17) => s.dmc.helper ≠ 0 ∧ s.dmc.helper ≤ 8) (dramLive.withDmc 2
      { Dmc.reset with helper := 5 }) 3 := by
  decide +kernel

/-- States and operands that meet the hypotheses of TrainingHelpersRunInTraining, clauses 19 on. -/
theorem met_TrainingHelpersRunInTraining_19 :
    (fun (s : State) (_res : BitVec 17) => s.dmc.helper = 8) (dramLive.withDmc 2 { Dmc.reset with helper := 8 }) 0 ∧
    (fun (s : State) (_res : BitVec 17) => s.dmc.helper = 2 ∧ s.getF Port.DMC_TRN_ARG 13 8 = 8) ((dramLive.withDmc 2
      { Dmc.reset with helper := 2 }).w [(Port.DMC_TRN_ARG, inFld 13 8 8)]) 9 ∧
    (fun (s : State) (_res : BitVec 17) => s.dmc.helper = 1) ((dramLive.withDmc 2 { Dmc.reset with helper := 1 }).w
      [(Port.DMC_TRN_ARG, inFld 13 8 8 ||| inFld 7 0 5)]) 0 := by
  decide +kernel


/-- States and operands that meet the hypotheses of CipherJobsRunInOrder, clauses 1 on. -/
theorem met_CipherJobsRunInOrder_1 :
    (fun (s : State) (m : Master) => s.answers m Port.CPH_JOB_CMD = true ∧ s.getB (bank m 0x6012) 17 = true) (live.w
      [(bank .lkc 0x6012, inFld 17 17 1)]) .lkc ∧
    (fun (s : State) (m : Master) => s.answers m Port.CPH_JOB_CMD = true ∧ s.getB (bank m 0x6012) 17 = false ∧ s.getF
      (bank m 0x6011) 13 0 + 8 ≤ s.mbxWords) (live) .host ∧
    (fun (s : State) (m : Master) => s.answers m Port.CPH_JOB_CMD = true ∧ s.getB (bank m 0x6012) 17 = false ∧ s.getF
      (bank m 0x6011) 13 0 + 8 ≤ s.mbxWords ∧ fld (s.mbxRd (s.getF (bank m 0x6011) 13 0 + 1)) 17 15 = 1 ∧ (s.copy
      m.num).deferred = 0) (live.withMbx 0 [0, inFld 17 15 1]) .host := by
  decide +kernel

/-- States and operands that meet the hypotheses of CipherJobsRunInOrder, clauses 4 on. -/
theorem met_CipherJobsRunInOrder_4 :
    (fun (s : State) => ((s.domOn 15 = false ∨ s.sec.running.isSome = true ∨ s.sec.jobs = []))) (live) ∧
    (fun (s : State) (j : SecJob) (r : List SecJob) => s.domOn 15 = true ∧ s.sec.running = none ∧ s.sec.jobs = j :: r
      ∧ s.jobCheck j ≠ 0) ({ live with sec := { Sec.reset with jobs := [someJob] } }) someJob [] ∧
    (fun (s : State) (j : SecJob) (r : List SecJob) => s.domOn 15 = true ∧ s.sec.running = none ∧ s.sec.jobs = j :: r
      ∧ s.jobCheck j = 0 ∧ j.counts = false)
      ({ (live.withSlot 5 8 0) with sec := { (live.withSlot 5 8 0).sec with jobs := [someJob] } }) someJob [] := by
  decide +kernel

/-- States and operands that meet the hypotheses of CipherJobsRunInOrder, clauses 7 on. -/
theorem met_CipherJobsRunInOrder_7 :
    (fun (s : State) (j : SecJob) (r : List SecJob) => s.domOn 15 = true ∧ s.sec.running = none ∧ s.sec.jobs = j :: r
      ∧ s.jobCheck j = 0 ∧ j.counts = true ∧ s.slotLimit j.slot = 0 ∧ s.slotCount j.slot < 2 ^ 36 - 1) ({
      (live.withSlot 5 8 0) with
        sec := { (live.withSlot 5 8 0).sec with
            jobs := [{ someJob with words := someJob.words.set 0 (inFld 17 15 3 ||| inFld 11 6 5 ||| inFld 5 0 4) }] }
          }) ({ someJob with words := someJob.words.set 0 (inFld 17 15 3 ||| inFld 11 6 5 ||| inFld 5 0 4) }) [] ∧
    (fun (s : State) (j : SecJob) (r : List SecJob) => s.domOn 15 = true ∧ s.sec.running = none ∧ s.sec.jobs = j :: r
      ∧ s.jobCheck j = 0 ∧ j.counts = true ∧ s.slotLimit j.slot ≠ 0 ∧ s.slotCount j.slot + 1 = s.slotLimit j.slot) ({
      (live.withSlot 5 8 1) with
        sec := { (live.withSlot 5 8 1).sec with
            jobs := [{ someJob with words := someJob.words.set 0 (inFld 17 15 3 ||| inFld 11 6 5 ||| inFld 5 0 4) }] }
          }) ({ someJob with words := someJob.words.set 0 (inFld 17 15 3 ||| inFld 11 6 5 ||| inFld 5 0 4) }) [] ∧
    (fun (s : State) (j : SecJob) (r : List SecJob) => s.domOn 15 = true ∧ s.sec.running = none ∧ s.sec.jobs = j :: r
      ∧ s.jobCheck j = 0 ∧ j.counts = true ∧ s.slotLimit j.slot ≠ 0 ∧ s.slotCount j.slot = s.slotLimit j.slot) ({
      ((live.withSlot 5 8 9).setWide (Port.CPH_SLOT_COUNT_0 5) 2 9) with
        sec := { (live.withSlot 5 8 9).sec with
            jobs := [{ someJob with words := someJob.words.set 0 (inFld 17 15 3 ||| inFld 11 6 5 ||| inFld 5 0 4) }] }
          }) ({ someJob with words := someJob.words.set 0 (inFld 17 15 3 ||| inFld 11 6 5 ||| inFld 5 0 4) }) [] := by
  decide +kernel

/-- States and operands that meet the hypotheses of CipherJobsRunInOrder, clauses 10 on. -/
theorem met_CipherJobsRunInOrder_10 :
    (fun (s : State) (j : SecJob) => s.sec.running = some j ∧ s.sec.jobResult ≠ 0 ∧ s.sec.jobResult < 8)
      ({ live with sec := { Sec.reset with running := some someJob, jobResult := 5 } }) someJob ∧
    (fun (s : State) (j : SecJob) => s.sec.running = some j ∧ s.sec.jobResult = 0 ∧ j.data = 0 ∧ j.op = 1 ∧ j.mode = 3
      ∧ damaged (s.jobIn j).1 = false ∧ damaged (s.mbxNonets (j.f 5 13 0) (j.f 6 17 12)) = false ∧ damaged
      (s.mbxNonets (j.f 7 13 0) (j.f 6 9 0)) = false ∧ damaged (s.jobTag j) = false)
      ({ (live.withSlot 5 8 0) with sec := { (live.withSlot 5 8 0).sec with running := some someJob } }) someJob ∧
    (fun (s : State) (j : SecJob) => s.sec.running = some j ∧ s.sec.jobResult = 0 ∧ j.data = 0 ∧ j.op = 1 ∧ j.mode = 3
      ∧ damaged (s.jobIn j).1 = true) (({ (live.withSlot 5 8 0) with
        sec := { (live.withSlot 5 8 0).sec with
            running := some { someJob with words := someJob.words.set 2 2 } } }).withMbx 0 [0o400400])
      { someJob with words := someJob.words.set 2 2 } := by
  decide +kernel

/-- States and operands that meet the hypotheses of CipherJobsRunInOrder, clauses 13 on. -/
theorem met_CipherJobsRunInOrder_13 :
    (fun (s : State) (j : SecJob) => s.sec.running = some j ∧ s.sec.jobResult = 0 ∧ j.data = 0 ∧ j.op = 0 ∧ j.mode = 2
      ∧ (s.jobIn j).1.length = j.dlen ∧ s.mbxHas (j.f 3 13 0) j.dlen = true ∧ s.liveState ≠ 1 ∧ damaged (s.jobIn j).1
      = false ∧ damaged (s.mbxNonets (j.f 5 13 0) (j.f 6 17 12)) = false ∧ damaged (s.mbxNonets (j.f 7 13 0) (j.f 6 9
      0)) = false) ({ (live.withSlot 5 4 0) with
        sec := { (live.withSlot 5 4 0).sec with
            running := some { m := 1, words := [inFld 17 15 2 ||| inFld 11 6 5, 0, 4, 80, 0, 100, inFld 17 12 16, 0] }
              } }) { m := 1, words := [inFld 17 15 2 ||| inFld 11 6 5, 0, 4, 80, 0, 100, inFld 17 12 16, 0] } ∧
    (fun (s : State) => s.sec.running = none) (live) := by
  decide +kernel


/-- States and operands that meet the hypotheses of KeySlotsAreFilledAndEmptied, clauses 1 on. -/
theorem met_KeySlotsAreFilledAndEmptied_1 :
    (fun (s : State) (m : Master) (k o : Nat) (r : Nat) => s.answers m Port.CPH_KEY_CMD = true ∧ s.getF (bank m
      0x6021) 17 12 = k ∧ s.getF (bank m 0x6022) 13 0 = o ∧ s.kek m = .inr r) (live) .apc 0 0 3 ∧
    (fun (s : State) (m : Master) (k o : Nat) (key : List Octet) => s.answers m Port.CPH_KEY_CMD = true ∧ s.getF (bank
      m 0x6021) 17 12 = k ∧ s.getF (bank m 0x6022) 13 0 = o ∧ s.kek m = .inl key ∧ s.slotInUse k = true) ({ (live.w
      [(bank .apc 0x6021, inFld 17 12 5 ||| inFld 5 5 1)]) with
        sec := { Sec.reset with running := some someJob } }) .apc 5 0 (List.replicate 32 0) ∧
    (fun (s : State) (m : Master) (k o : Nat) (key : List Octet) => s.answers m Port.CPH_KEY_CMD = true ∧ s.getF (bank
      m 0x6021) 17 12 = k ∧ s.getF (bank m 0x6022) 13 0 = o ∧ s.kek m = .inl key ∧ s.slotInUse k = false ∧ o <
      s.mbxWords ∧ ((fld (s.mbxEngine o) 17 15 ≠ 1 ∨ fld (s.mbxEngine o) 14 6 ≠ 0 ∨ (fld (s.mbxEngine o) 5 0 ≠ 32 ∧
      fld (s.mbxEngine o) 5 0 ≠ 48)))) (live.w [(bank .apc 0x6021, inFld 17 12 5 ||| inFld 5 5 1)]) .apc 5 0
      (List.replicate 32 0) := by
  decide +kernel

/-- States and operands that meet the hypotheses of KeySlotsAreFilledAndEmptied, clauses 4 on. -/
theorem met_KeySlotsAreFilledAndEmptied_4 :
    (fun (s : State) (m : Master) (k o : Nat) (n : Nat) (key : List Octet) => s.answers m Port.CPH_KEY_CMD = true ∧
      s.getF (bank m 0x6021) 17 12 = k ∧ s.getF (bank m 0x6022) 13 0 = o ∧ s.kek m = .inl key ∧ s.slotInUse k = false
      ∧ o < s.mbxWords ∧ fld (s.mbxEngine o) 17 15 = 1 ∧ fld (s.mbxEngine o) 14 6 = 0 ∧ fld (s.mbxEngine o) 5 0 = n ∧
      ((n = 32 ∨ n = 48)) ∧ s.mbxHas (o + 1) n = true ∧ damaged (s.mbxNonets (o + 1) n) = false) ((live.w [(bank .apc
      0x6021, inFld 17 12 5 ||| inFld 5 5 1)]).withMbx 0 [inFld 17 15 1 ||| inFld 5 0 32]) .apc 5 0 32 (List.replicate
      32 0) ∧
    (fun (s : State) (m : Master) (k o : Nat) (n : Nat) (key _p : List Octet) => s.answers m Port.CPH_KEY_CMD = true ∧
      s.getF (bank m 0x6021) 17 12 = k ∧ s.getF (bank m 0x6022) 13 0 = o ∧ s.kek m = .inl key ∧ s.slotInUse k = false
      ∧ o < s.mbxWords ∧ fld (s.mbxEngine o) 17 15 = 1 ∧ fld (s.mbxEngine o) 14 6 = 0 ∧ fld (s.mbxEngine o) 5 0 = n ∧
      ((n = 32 ∨ n = 48)) ∧ s.mbxHas (o + 1) n = true ∧ damaged (s.mbxNonets (o + 1) n) = false) (((live.w [(bank .apc
      0x6021, inFld 17 12 5 ||| inFld 5 5 1)]).withMbx 0 [inFld 17 15 1 ||| inFld 5 0 32]).mbxPuts 1 (cleanNonets
      wrappedPlain)) .apc 5 0 32 (List.replicate 32 0) ([2, 16, 8, 0, 0, 0, 0, 0] ++ List.replicate 16 7) ∧
    (fun (s : State) (m : Master) (k o : Nat) (n : Nat) (key _p : List Octet) => s.answers m Port.CPH_KEY_CMD = true ∧
      s.getF (bank m 0x6021) 17 12 = k ∧ s.getF (bank m 0x6022) 13 0 = o ∧ s.kek m = .inl key ∧ s.slotInUse k = false
      ∧ o < s.mbxWords ∧ fld (s.mbxEngine o) 17 15 = 1 ∧ fld (s.mbxEngine o) 14 6 = 0 ∧ fld (s.mbxEngine o) 5 0 = n ∧
      ((n = 32 ∨ n = 48)) ∧ s.mbxHas (o + 1) n = true ∧ damaged (s.mbxNonets (o + 1) n) = false) (((live.w [(bank .apc
      0x6021, inFld 17 12 5 ||| inFld 5 5 1)]).withMbx 0 [inFld 17 15 1 ||| inFld 5 0 32]).mbxPuts 1 (cleanNonets
      wrappedKey)) .apc 5 0 32 (List.replicate 32 0) ([1, 16, 8, 9, 0, 0, 0, 0] ++ List.replicate 16 7) := by
  decide +kernel

/-- States and operands that meet the hypotheses of KeySlotsAreFilledAndEmptied, clauses 7 on. -/
theorem met_KeySlotsAreFilledAndEmptied_7 :
    (fun (s : State) (m : Master) (k o : Nat) => s.answers m Port.CPH_KEY_CMD = true ∧ s.getF (bank m 0x6021) 17 12 =
      k ∧ s.getF (bank m 0x6022) 13 0 = o ∧ s.slotInUse k = true) ({ (live.w [(bank .apc 0x6021, inFld 17 12 5 |||
      inFld 5 5 1)]) with
        sec := { Sec.reset with running := some someJob } }) .apc 5 0 ∧
    (fun (s : State) (m : Master) (k o : Nat) => s.answers m Port.CPH_KEY_CMD = true ∧ s.getF (bank m 0x6021) 17 12 =
      k ∧ s.getF (bank m 0x6022) 13 0 = o ∧ s.slotInUse k = false) ((live.withSlot 63 255 9).w [(bank .lkc 0x6021,
      inFld 17 12 63)]) .lkc 63 0 ∧
    (fun (s : State) (m : Master) (k o : Nat) => s.answers m Port.CPH_KEY_CMD = true ∧ s.getF (bank m 0x6021) 17 12 =
      k ∧ s.getF (bank m 0x6022) 13 0 = o ∧ s.getB (bank m 0x6021) 5 = true) (live.w [(bank .lkc 0x6021, inFld 5 5
      1)]) .lkc 0 0 := by
  decide +kernel

/-- States and operands that meet the hypotheses of KeySlotsAreFilledAndEmptied, clauses 10 on. -/
theorem met_KeySlotsAreFilledAndEmptied_10 :
    (fun (s : State) (m : Master) (k o : Nat) (src : Nat) => s.answers m Port.CPH_KEY_CMD = true ∧ s.getF (bank m
      0x6021) 17 12 = k ∧ s.getF (bank m 0x6022) 13 0 = o ∧ s.getB (bank m 0x6021) 5 = false ∧ s.getF (bank m 0x6021)
      11 6 = src ∧ (((s.keySlot src).valid = false ∨ s.slotUsage src 4 = false))) (live) .lkc 0 0 0 ∧
    (fun (s : State) (m : Master) (k o : Nat) (src : Nat) => s.answers m Port.CPH_KEY_CMD = true ∧ s.getF (bank m
      0x6021) 17 12 = k ∧ s.getF (bank m 0x6022) 13 0 = o ∧ s.getB (bank m 0x6021) 5 = false ∧ s.getF (bank m 0x6021)
      11 6 = src ∧ (s.keySlot src).valid = true ∧ s.slotUsage src 4 = true ∧ s.slotInUse k = true) ({ ((live.withSlot
      9 16 0).w [(bank .apc 0x6021, inFld 17 12 5 ||| inFld 11 6 9)]) with
        sec := { (live.withSlot 9 16 0).sec with running := some someJob } }) .apc 5 0 9 ∧
    (fun (s : State) (m : Master) (k o : Nat) (src : Nat) => s.answers m Port.CPH_KEY_CMD = true ∧ s.getF (bank m
      0x6021) 17 12 = k ∧ s.getF (bank m 0x6022) 13 0 = o ∧ s.getB (bank m 0x6021) 5 = false ∧ s.getF (bank m 0x6021)
      11 6 = src ∧ (s.keySlot src).valid = true ∧ s.slotUsage src 4 = true ∧ s.slotInUse k = false ∧ s.mbxHas o 16 =
      true ∧ damaged (s.mbxNonets o 16) = false ∧ s.getB (bank m 0x6023) 17 = false ∧ s.slotLimit src ≠ 0 ∧
      s.slotCount src = s.slotLimit src) (((live.withSlot 5 16 9).setWide (Port.CPH_SLOT_COUNT_0 5) 2 9).w [(bank .lkc
      0x6021, inFld 17 12 63 ||| inFld 11 6 5)]) .lkc 63 0 5 := by
  decide +kernel

/-- States and operands that meet the hypotheses of KeySlotsAreFilledAndEmptied, clauses 13 on. -/
theorem met_KeySlotsAreFilledAndEmptied_13 :
    (fun (s : State) (m : Master) (k o : Nat) (src : Nat) => s.answers m Port.CPH_KEY_CMD = true ∧ s.getF (bank m
      0x6021) 17 12 = k ∧ s.getF (bank m 0x6022) 13 0 = o ∧ s.getB (bank m 0x6021) 5 = false ∧ s.getF (bank m 0x6021)
      11 6 = src ∧ (s.keySlot src).valid = true ∧ s.slotUsage src 4 = true ∧ s.slotInUse k = false ∧ s.mbxHas o 16 =
      true ∧ damaged (s.mbxNonets o 16) = false ∧ s.getB (bank m 0x6023) 17 = false ∧ s.slotLimit src = 0 ∧
      s.slotCount src < 2 ^ 36 - 1 ∧ src ≠ k) ((live.withSlot 5 16 0).w [(bank .lkc 0x6021, inFld 17 12 63 ||| inFld
      11 6 5)]) .lkc 63 0 5 ∧
    (fun (s : State) (m : Master) (k o : Nat) (r : Nat) => s.answers m Port.CPH_KEY_CMD = true ∧ s.getF (bank m
      0x6021) 17 12 = k ∧ s.getF (bank m 0x6022) 13 0 = o ∧ s.kek m = .inr r) (live) .apc 0 0 3 ∧
    (fun (s : State) (m : Master) (k o : Nat) (key : List Octet) => s.answers m Port.CPH_KEY_CMD = true ∧ s.getF (bank
      m 0x6021) 17 12 = k ∧ s.getF (bank m 0x6022) 13 0 = o ∧ s.kek m = .inl key ∧ (((s.keySlot k).valid = false ∨
      s.slotUsage k 6 = false))) (live.w [(bank .lkc 0x6021, inFld 5 5 1)]) .lkc 0 0 (List.replicate 32 0) := by
  decide +kernel

/-- States and operands that meet the hypotheses of KeySlotsAreFilledAndEmptied, clauses 16 on. -/
theorem met_KeySlotsAreFilledAndEmptied_16 :
    (fun (s : State) (m : Master) (k o : Nat) (key : List Octet) => s.answers m Port.CPH_KEY_CMD = true ∧ s.getF (bank
      m 0x6021) 17 12 = k ∧ s.getF (bank m 0x6022) 13 0 = o ∧ s.getB (bank m 0x6021) 5 = true ∧ s.kek m = .inl key ∧
      (s.keySlot k).valid = true ∧ s.slotUsage k 6 = true ∧ s.slotLimit k = 0 ∧ s.liveState ≠ 1 ∧ s.mbxHas (o + 1)
      ((s.keySlot k).octets.length + 16) = true) ((live.withSlot 63 64 0).w [(bank .lkc 0x6021, inFld 17 12 63 |||
      inFld 5 5 1)]) .lkc 63 0 (List.replicate 32 0) := by
  decide +kernel


/-- States and operands that meet the hypotheses of VerifyCommandsAndTheArmedImage, clauses 1 on. -/
theorem met_VerifyCommandsAndTheArmedImage_1 :
    (fun (s : State) (m : Master) => s.answers m Port.CPH_VFY_CMD = true ∧ s.getB Port.CPH_VFY_STAT 15 = false ∧
      s.getB Port.CPH_VFY_STAT 17 = false) (live) .lkc ∧
    (fun (s : State) (m : Master) => s.answers m Port.CPH_VFY_CMD = true ∧ s.getB Port.CPH_VFY_STAT 15 = false ∧
      s.getB Port.CPH_VFY_STAT 17 = false) (live) .lkc ∧
    (fun (s : State) (m : Master) => s.answers m Port.CPH_VFY_CMD = true ∧ s.getB Port.CPH_VFY_STAT 15 = false ∧
      s.getB Port.CPH_VFY_STAT 17 = false) (live) .lkc := by
  decide +kernel

/-- States and operands that meet the hypotheses of VerifyCommandsAndTheArmedImage, clauses 4 on. -/
theorem met_VerifyCommandsAndTheArmedImage_4 :
    (fun (s : State) (m : Master) => s.answers m Port.CPH_VFY_CMD = true ∧ s.getB Port.CPH_VFY_STAT 15 = false ∧
      s.getB Port.CPH_VFY_STAT 17 = true) (live.w [(Port.CPH_VFY_STAT, inFld 17 17 1)]) .lkc ∧
    (fun (s : State) (m : Master) => s.answers m Port.CPH_VFY_CMD = true ∧ s.getB Port.CPH_VFY_STAT 15 = false ∧
      s.getB Port.CPH_VFY_STAT 17 = true) (live.w [(Port.CPH_VFY_STAT, inFld 17 17 1)]) .lkc ∧
    (fun (s : State) (m : Master) => s.answers m Port.CPH_VFY_CMD = true ∧ s.getB Port.CPH_VFY_STAT 15 = false ∧
      s.getB Port.CPH_VFY_STAT 17 = true) (live.w [(Port.CPH_VFY_STAT, inFld 17 17 1)]) .lkc := by
  decide +kernel

/-- States and operands that meet the hypotheses of VerifyCommandsAndTheArmedImage, clauses 7 on. -/
theorem met_VerifyCommandsAndTheArmedImage_7 :
    (fun (s : State) (m : Master) => s.answers m Port.CPH_VFY_CMD = true ∧ s.getB Port.CPH_VFY_STAT 15 = true ∧
      s.sec.vfyHeld = 0) (live.w [(Port.CPH_VFY_STAT, inFld 15 15 1)]) .lkc ∧
    (fun (s : State) (ws : List Word) (l : List Octet) => s.domOn 15 = true ∧ s.sec.vfy = 1 ∧ s.vfyWords = .inl ws ∧
      vfyOctets (s.getF Port.CPH_VFY_ARG_0 11 9) ws = some l) ({ live with sec := { Sec.reset with vfy := 1 } }) []
      (octetForm []) ∧
    (fun (s : State) (ws : List Word) (l : List Octet) => s.domOn 15 = true ∧ s.sec.vfy = 2 ∧ s.vfyWords = .inl ws ∧
      vfyOctets (s.getF Port.CPH_VFY_ARG_0 11 9) ws = some l) ({ live with sec := { Sec.reset with vfy := 2 } }) []
      (octetForm []) := by
  decide +kernel

/-- States and operands that meet the hypotheses of VerifyCommandsAndTheArmedImage, clauses 10 on. -/
theorem met_VerifyCommandsAndTheArmedImage_10 :
    (fun (s : State) (r : Nat) => s.domOn 15 = true ∧ ((s.sec.vfy = 1 ∨ s.sec.vfy = 2)) ∧ s.vfyWords = .inr r ∧ r < 8)
      ({ live.w [(Port.CPH_VFY_ARG_1, 32769)] with sec := { Sec.reset with vfy := 2 } }) 2 ∧
    (fun (s : State) (ws : List Word) => s.domOn 15 = true ∧ ((s.sec.vfy = 1 ∨ s.sec.vfy = 2)) ∧ s.vfyWords = .inl ws
      ∧ vfyOctets (s.getF Port.CPH_VFY_ARG_0 11 9) ws = none) ({ (live.w [(Port.CPH_VFY_ARG_0, inFld 11 9 1),
      (Port.CPH_VFY_ARG_3, 1)]).withMbx 0 [0o400000] with
        sec := { Sec.reset with vfy := 1 } }) [0o400000] ∧
    (fun (s : State) (o : Nat) (l : List Octet) => s.domOn 15 = true ∧ s.sec.vfy = 3 ∧ (s.get
      Port.CPH_VFY_ARG_1).toNat = o ∧ o + 64 ≤ s.mbxWords ∧ anyTag ((List.range 64).map fun i => s.mbxEngine (o + i))
      = false ∧ nonetOctets ((List.range 64).map fun i => s.mbxEngine (o + i)) = l ∧ p256On (natBE (l.take 32)) (natBE
      ((l.drop 32).take 32)) = false) ({ live with sec := { Sec.reset with vfy := 3 } }) 0 (List.replicate 128 0) := by
  decide +kernel

/-- States and operands that meet the hypotheses of VerifyCommandsAndTheArmedImage, clauses 13 on. -/
theorem met_VerifyCommandsAndTheArmedImage_13 :
    (fun (s : State) => ((s.sec.vfy = 0 ∨ s.domOn 15 = false))) (live) ∧
    (fun (s : State) (m : Master) => s.answers m Port.LCF_UPD_CMD = true ∧ s.getB Port.LCF_UPD_STAT 17 = false) (live)
      .lkc ∧
    (fun (s : State) (m : Master) => s.answers m Port.LCF_UPD_CMD = true ∧ s.getB Port.LCF_UPD_STAT 17 = true) (live.w
      [(Port.LCF_UPD_STAT, inFld 17 17 1)]) .lkc := by
  decide +kernel

/-- States and operands that meet the hypotheses of VerifyCommandsAndTheArmedImage, clauses 16 on. -/
theorem met_VerifyCommandsAndTheArmedImage_16 :
    (fun (s : State) => s.getB Port.LCF_UPD_STAT 17 = false) (live) ∧
    (fun (s : State) => s.getB Port.LCF_UPD_STAT 17 = true ∧ s.log.any (fun r => decide (r.kind = 1)) = true)
      (holdLive.w [(Port.LCF_UPD_STAT, inFld 17 17 1)]) ∧
    (fun (s : State) (len k : Nat) => s.getB Port.LCF_UPD_STAT 17 = true ∧ s.log.any (fun r => decide (r.kind = 1)) =
      false ∧ (s.flashWord (s.roleBank 2) 2).toNat = len ∧ k < min 60 ((len + 4095) / 4096) ∧ s.blockOk len k = false
      ∧ ((∀ i, i < k → s.blockOk len i = true))) (stagedLive.flashSet 2 0x6C000 9) 25 0 := by
  decide +kernel

/-- States and operands that meet the hypotheses of VerifyCommandsAndTheArmedImage, clauses 19 on. -/
theorem met_VerifyCommandsAndTheArmedImage_19 :
    (fun (s : State) (len c e : Nat) => s.getB Port.LCF_UPD_STAT 17 = true ∧ s.log.any (fun r => decide (r.kind = 1))
      = false ∧ (s.flashWord (s.roleBank 2) 2).toNat = len ∧ ((∀ i, i < min 60 ((len + 4095) / 4096) → s.blockOk len i
      = true)) ∧ fld (s.flashWord (s.roleBank 2) 1) 17 15 = c ∧ c ≤ 1 ∧ s.imageCheck c 0 (s.roleBank 2) 0 = .inr e ∧ e
      < 4) (((flashLive.withRig (rigOf 2 dramPart)).w [(Port.LCF_UPD_STAT, inFld 17 17 1)]).withFlash 2 0 [1, 0, 0]) 0
      0 1 ∧
    (fun (s : State) (len c k : Nat) (i : ImageInfo) => s.getB Port.LCF_UPD_STAT 17 = true ∧ s.log.any (fun r =>
      decide (r.kind = 1)) = false ∧ (s.flashWord (s.roleBank 2) 2).toNat = len ∧ ((∀ i, i < min 60 ((len + 4095) /
      4096) → s.blockOk len i = true)) ∧ fld (s.flashWord (s.roleBank 2) 1) 17 15 = c ∧ c ≤ 1 ∧ s.imageCheck c 0
      (s.roleBank 2) 0 = .inl i ∧ s.logFree = some k) stagedLive 25 1 0 slotInfo ∧
    (fun (s : State) (c : Core) (n : Nat) (i : Nat) => s.held c.num = true ∧ s.sec.trans = 0 ∧ armLen c.num s.log = n
      ∧ n ≤ 245760 ∧ s.roleBank c.num ≠ s.roleBank 2 ∧ s.roleBank c.num < 4 ∧ i < n) (holdLive.flashSet 2 11 77) .lkc
      12 11 :=
  ⟨by decide +kernel, ⟨by decide +kernel, by decide +kernel, by decide +kernel, stagedLive_blocks, by decide +kernel,
    by decide +kernel, by decide +kernel, by decide +kernel⟩, by decide +kernel⟩

/-- States and operands that meet the hypotheses of VerifyCommandsAndTheArmedImage, clauses 22 on. -/
theorem met_VerifyCommandsAndTheArmedImage_22 :
    (fun (s : State) (c : Core) (i : ImageInfo) => s.held c.num = true ∧ s.sec.trans = 0 ∧ s.roleBank c.num ≠
      s.roleBank 2 ∧ s.roleBank c.num < 4 ∧ s.domOn c.num = true ∧ s.imageCheck c.num 0 (s.roleBank 2) 0 = .inl i ∧
      armLen c.num s.log = i.len ∧ i.len ≤ 245760) heldLive .lkc slotInfo ∧
    (fun (s : State) (c : Core) (e : Nat) (a : ImageInfo) => s.held c.num = true ∧ s.sec.trans = 0 ∧ s.roleBank c.num
      ≠ s.roleBank 2 ∧ s.roleBank c.num < 4 ∧ armLen c.num s.log = 0 ∧ s.imageCheck c.num 0 (s.roleBank 2) 0 = .inr e
      ∧ s.imageCheck c.num 0 (s.roleBank c.num) 0 = .inr e ∧ s.imageCheck c.num 1 4 (anchorBase c.num) = .inl a)
      anchorLive .lkc 1 anchorInfo ∧
    (fun (s : State) (c : Core) => s.held c.num = false) (live) .lkc := by
  decide +kernel

/-- States and operands that meet the hypotheses of VerifyCommandsAndTheArmedImage, clauses 25 on. -/
theorem met_VerifyCommandsAndTheArmedImage_25 :
    (fun (s : State) (m : Master) (k : Nat) => s.answers m Port.LCF_CHECKIN = true ∧ m.core.isSome = true ∧ Cells.rd
      (fun _ => 0) s.sec.trialEnd m.num ≠ 0 ∧ s.logFree = some k) (holdLive) .apc 1 ∧
    (fun (s : State) (m : Master) => s.answers m Port.LCF_CHECKIN = true ∧ ((m.core = none ∨ Cells.rd (fun _ => 0)
      s.sec.trialEnd m.num = 0))) (holdLive) .host ∧
    (fun (s : State) (c : Core) (e k : Nat) => Cells.rd (fun _ => 0) s.sec.trialEnd c.num = e ∧ e ≠ 0 ∧ e ≤ s.acct
      s.time.link + 1 ∧ s.held c.num = false ∧ s.domOn c.num = true ∧ s.logFree = some k ∧ s.roleBank 2 < 3)
      (holdLive.flashSet 2 2 20) .apc 1 1 := by
  decide +kernel

/-- States and operands that meet the hypotheses of VerifyCommandsAndTheArmedImage, clauses 28 on. -/
theorem met_VerifyCommandsAndTheArmedImage_28 :
    (fun (s : State) (c : Core) => ((Cells.rd (fun _ => 0) s.sec.trialEnd c.num = 0 ∨ s.acct s.time.link + 1 <
      Cells.rd (fun _ => 0) s.sec.trialEnd c.num))) (holdLive) .lkc := by
  decide +kernel


/-- States and operands that meet the hypotheses of TheLifeCycleMovesOneWay, clauses 1 on. -/
theorem met_TheLifeCycleMovesOneWay_1 :
    (fun (s : State) (m : Master) (d : Nat) => s.answers m Port.LCF_LC_CMD = true ∧ s.getF Port.LCF_LC_ARG 17 15 = d ∧
      s.transCheck d (s.getF Port.LCF_LC_ARG 13 0) (s.getB Port.LCF_LC_ARG 14) ≠ 0) (live) .lkc 0 ∧
    (fun (s : State) (m : Master) (d : Nat) => s.answers m Port.LCF_LC_CMD = true ∧ s.getF Port.LCF_LC_ARG 17 15 = d ∧
      s.transCheck d (s.getF Port.LCF_LC_ARG 13 0) (s.getB Port.LCF_LC_ARG 14) = 0) (live.w [(Port.LCF_LC_ARG, inFld
      17 15 1)]) .lkc 1 ∧
    (fun (s : State) => s.sec.trans = 0) (live) := by
  decide +kernel

/-- States and operands that meet the hypotheses of TheLifeCycleMovesOneWay, clauses 4 on. -/
theorem met_TheLifeCycleMovesOneWay_4 :
    (fun (s : State) (d : Nat) => s.sec.trans = d ∧ d ≠ 0 ∧ d < 4 ∧ s.fuses.err = 0)
      ({ live with sec := { Sec.reset with trans := 1 }, fuses := { Fuses.reset with intent := 2 } }) 1 ∧
    (fun (s : State) (m : Master) => s.answers m Port.LCF_LC_CMD = true ∧ ((s.sec.trans ≠ 0 ∨ s.getB Port.LCF_UPD_STAT
      17 = true))) (live.w [(Port.LCF_UPD_STAT, inFld 17 17 1)]) .lkc ∧
    (fun (s : State) (m : Master) => s.answers m Port.LCF_LC_CMD = true ∧ s.sec.trans = 0 ∧ s.getB Port.LCF_UPD_STAT
      17 = false ∧ s.fuses.okh.isSome = true) (live.withFuses { Fuses.reset with okhTri := some (Tri.all 5) }) .lkc := by
  decide +kernel

/-- States and operands that meet the hypotheses of TheLifeCycleMovesOneWay, clauses 7 on. -/
theorem met_TheLifeCycleMovesOneWay_7 :
    (fun (s : State) (m : Master) => s.answers m Port.LCF_LC_CMD = true ∧ s.sec.trans = 0 ∧ s.getB Port.LCF_UPD_STAT
      17 = false ∧ s.fuses.okh = none ∧ s.lcState ≠ 0 ∧ s.lcState ≠ 1) (live.withFuses
      { Fuses.reset with intent := 8, anchored := 8, done := 8 }) .lkc ∧
    (fun (s : State) (m : Master) (o : Nat) => s.answers m Port.LCF_LC_CMD = true ∧ s.sec.trans = 0 ∧ s.getB
      Port.LCF_UPD_STAT 17 = false ∧ s.fuses.okh = none ∧ ((s.lcState = 0 ∨ s.lcState = 1)) ∧ s.getF Port.LCF_LC_ARG
      13 0 = o ∧ anyTag (s.mbxRds o 32) = true) (live.withMbx 0 [0o400000]) .apc 0 ∧
    (fun (s : State) (m : Master) (o : Nat) => s.answers m Port.LCF_LC_CMD = true ∧ s.sec.trans = 0 ∧ s.getB
      Port.LCF_UPD_STAT 17 = false ∧ s.fuses.okh = none ∧ ((s.lcState = 0 ∨ s.lcState = 1)) ∧ s.getF Port.LCF_LC_ARG
      13 0 = o ∧ o + 32 ≤ s.mbxWords ∧ anyTag (s.mbxRds o 32) = false) (live) .apc 0 := by
  decide +kernel


/-- States and operands that meet the hypotheses of FramesOfTheHostPort, clauses 1 on. -/
theorem met_FramesOfTheHostPort_1 :
    (fun (s : State) (addr : BitVec 3) (_wc : BitVec 11) (_h1 : Word) => addr ≠ s.pins.stackId) (live) 5 0 0 ∧
    (fun (s : State) (addr : BitVec 3) (_wc : BitVec 11) (_h1 : Word) => addr = s.pins.stackId ∧ s.hostAsleep = false
      ∧ s.time.stopped = false ∧ s.host.replyDue = false) (live) 0 3 0 ∧
    (fun (s : State) (addr : BitVec 3) (_wc : BitVec 11) (_h1 : Word) => addr = s.pins.stackId ∧ s.hostAsleep = false
      ∧ s.time.stopped = false ∧ s.host.replyDue = true ∧ s.host.replyReady = true ∧ s.host.pull = none) ({ live with
        host := { live.host with replyDue := true, replyReady := true, reply := [5, 6, 7] } }) 0 2 0 := by
  decide +kernel

/-- States and operands that meet the hypotheses of FramesOfTheHostPort, clauses 4 on. -/
theorem met_FramesOfTheHostPort_4 :
    (fun (s : State) (addr : BitVec 3) (_wc : BitVec 11) (_h1 : Word) => addr = s.pins.stackId ∧ s.hostAsleep = false
      ∧ s.time.stopped = false ∧ s.host.replyDue = true ∧ s.host.replyReady = false ∧ s.host.sample ≠ [])
      ({ live with host := { live.host with replyDue := true, sample := [5] } }) 0 2 0 ∧
    (fun (s : State) (addr : BitVec 3) (wc : BitVec 11) (h1 : Word) (data : List Word) => addr = s.pins.stackId ∧
      s.hostAsleep = false ∧ s.time.stopped = false ∧ s.host.replyDue = false ∧ s.ready = true ∧ fld h1 17 16 = 0 ∧
      data.length = wc.toNat ∧ wc.toNat ≤ s.hostFree) (live) 0 2 0x6838 [1, 2] ∧
    (fun (s : State) (addr : BitVec 3) (wc : BitVec 11) (h1 : Word) (data : List Word) => addr = s.pins.stackId ∧
      s.hostAsleep = false ∧ s.time.stopped = false ∧ s.host.replyDue = false ∧ s.ready = true ∧ fld h1 17 16 = 0 ∧
      data.length = wc.toNat ∧ s.hostFree < wc.toNat) ({ live with
        host := { live.host with
            buf := [{ kind := 2, port := 0, v := 0, queue := 0, data := [], size := 2047, fresh := false }] } }) 0 2
      0x6838 [1, 2] := by
  decide +kernel

/-- States and operands that meet the hypotheses of FramesOfTheHostPort, clauses 7 on. -/
theorem met_FramesOfTheHostPort_7 :
    (fun (s : State) (addr : BitVec 3) (wc : BitVec 11) (h1 : Word) (data : List Word) => addr = s.pins.stackId ∧
      s.hostAsleep = false ∧ s.time.stopped = false ∧ s.host.replyDue = false ∧ s.ready = true ∧ fld h1 17 16 = 0 ∧
      data.length = wc.toNat ∧ wc.toNat ≤ s.hostFree) (live) 0 2 0x6838 [1, 2] ∧
    (fun (s : State) (addr : BitVec 3) (wc : BitVec 11) (h1 : Word) (data : List Word) => addr = s.pins.stackId ∧
      s.hostAsleep = false ∧ s.time.stopped = false ∧ s.host.replyDue = false ∧ s.ready = false ∧ fld h1 17 16 = 0 ∧
      data.length = wc.toNat) (State.reset) 0 2 0x6838 [1, 2] ∧
    (fun (s : State) (addr : BitVec 3) (_wc : BitVec 11) (h1 : Word) => addr = s.pins.stackId ∧ s.hostAsleep = false ∧
      s.time.stopped = false ∧ s.host.replyDue = false ∧ fld h1 17 16 = 0) (live) 0 2 0x6838 := by
  decide +kernel

/-- States and operands that meet the hypotheses of FramesOfTheHostPort, clauses 10 on. -/
theorem met_FramesOfTheHostPort_10 :
    (fun (s : State) (addr : BitVec 3) (_wc : BitVec 11) (h1 : Word) => addr = s.pins.stackId ∧ s.hostAsleep = false ∧
      s.time.stopped = false ∧ s.host.replyDue = false ∧ fld h1 17 16 = 0) (live) 0 2 0x6838 ∧
    (fun (s : State) (addr : BitVec 3) (_wc : BitVec 11) (_h1 : Word) => addr = s.pins.stackId ∧ s.hostAsleep = false
      ∧ s.time.stopped = false ∧ s.host.replyDue = false ∧ s.ready = true) (live) 0 0 5 ∧
    (fun (s : State) (addr : BitVec 3) (wc : BitVec 11) (h1 : Word) (data : List Word) => addr = s.pins.stackId ∧
      s.hostAsleep = false ∧ s.time.stopped = false ∧ s.host.replyDue = false ∧ s.ready = true ∧ fld h1 17 7 = 0 ∧
      data.length = wc.toNat ∧ wc.toNat ≤ s.hostFree) (live) 0 2 5 [1, 2] := by
  decide +kernel

/-- States and operands that meet the hypotheses of FramesOfTheHostPort, clauses 13 on. -/
theorem met_FramesOfTheHostPort_13 :
    (fun (s : State) (addr : BitVec 3) (_wc : BitVec 11) (h1 : Word) => addr = s.pins.stackId ∧ s.hostAsleep = false ∧
      s.time.stopped = false ∧ s.host.replyDue = false ∧ s.ready = true ∧ fld h1 17 7 = 0) (live) 0 0 5 ∧
    (fun (s : State) (addr : BitVec 3) (cmd : BitVec 4) (_wc : BitVec 11) (h1 : Word) => addr = s.pins.stackId ∧
      s.hostAsleep = false ∧ s.time.stopped = false ∧ s.host.replyDue = false ∧ ((8 ≤ cmd.toNat ∨ badHeader cmd.toNat
      h1 = true))) (live) 0 9 0 0x6838 ∧
    (fun (s : State) (addr : BitVec 3) (_cmd : BitVec 4) (_wc : BitVec 11) (_h1 : Word) (_data : List Word) => addr =
      s.pins.stackId ∧ s.hostAsleep = false ∧ s.time.stopped = false) (live) 0 1 2 0x6838 [1] := by
  decide +kernel

/-- States and operands that meet the hypotheses of FramesOfTheHostPort, clauses 16 on. -/
theorem met_FramesOfTheHostPort_16 :
    (fun (s : State) (addr : BitVec 3) (wc : BitVec 11) (h1 : Word) (data : List Word) => addr = s.pins.stackId ∧
      s.hostAsleep = false ∧ s.time.stopped = false ∧ s.host.replyDue = false ∧ s.ready = true ∧ fld h1 17 16 = 0 ∧
      data.length ≤ wc.toNat ∧ wc.toNat ≤ s.hostFree) (live) 0 2 0x6838 [1] := by
  decide +kernel


/-- States and operands that meet the hypotheses of TheWriteBufferAndPostedReads, clauses 1 on. -/
theorem met_TheWriteBufferAndPostedReads_1 :
    (fun (s : State) => s.host.buf = []) (live) ∧
    (fun (s : State) (x : HostWord) (r : List HostWord) => s.host.buf = x :: r ∧ x.kind = 0 ∧ x.port = 0x0D06 ∧
      s.ready = true) ({ live with
        host := { live.host with
            buf := [{ kind := 0, port := 0x0D06, v := 7, queue := 0, data := [], size := 1, fresh := true }] } })
      ({ kind := 0, port := 0x0D06, v := 7, queue := 0, data := [], size := 1, fresh := true }) [] ∧
    (fun (s : State) (x : HostWord) (r : List HostWord) => s.host.buf = x :: r ∧ x.kind = 0 ∧ s.ioGate x.port.toNat ≠
      .ok) ({ State.reset with
        host := { live.host with
            buf := [{ kind := 0, port := 0x2010, v := 7, queue := 0, data := [], size := 1, fresh := true }] } })
      ({ kind := 0, port := 0x2010, v := 7, queue := 0, data := [], size := 1, fresh := true }) [] := by
  decide +kernel

/-- States and operands that meet the hypotheses of TheWriteBufferAndPostedReads, clauses 4 on. -/
theorem met_TheWriteBufferAndPostedReads_4 :
    (fun (s : State) (x : HostWord) (r : List HostWord) => s.host.buf = x :: r ∧ x.kind = 1) ({ live with
        host := { live.host with
            buf := [{ kind := 1, port := 0, v := 5, queue := 0, data := [], size := 1, fresh := true }] } })
      ({ kind := 1, port := 0, v := 5, queue := 0, data := [], size := 1, fresh := true }) [] ∧
    (fun (s : State) (x : HostWord) (r : List HostWord) => s.host.buf = x :: r ∧ x.kind = 2 ∧ s.domOn 11 = true ∧
      s.qBusy .host = false ∧ s.queueUp x.queue = false) ({ live with
        host := { live.host with
            buf := [{ kind := 2, port := 0, v := 0, queue := 5, data := [3, 1, 2], size := 1, fresh := true }] } })
      ({ kind := 2, port := 0, v := 0, queue := 5, data := [3, 1, 2], size := 1, fresh := true }) [] ∧
    (fun (s : State) (x : HostWord) (r : List HostWord) => s.host.buf = x :: r ∧ x.kind = 2 ∧ s.domOn 11 = true ∧
      s.qBusy .host = false ∧ s.queueUp x.queue = true ∧ (s.copy Master.host.num).wpkt = none ∧ 2 * (x.data.length -
      1) < (x.data.headD 0).toNat) ({ rxLive with
        host := { live.host with
            buf := [{ kind := 2, port := 0, v := 0, queue := 0, data := [3, 1], size := 1, fresh := true }] } })
      ({ kind := 2, port := 0, v := 0, queue := 0, data := [3, 1], size := 1, fresh := true }) [] := by
  decide +kernel

/-- States and operands that meet the hypotheses of TheWriteBufferAndPostedReads, clauses 7 on. -/
theorem met_TheWriteBufferAndPostedReads_7 :
    (fun (s : State) (x : HostWord) (r : List HostWord) (n : Nat) => s.host.buf = x :: r ∧ x.kind = 2 ∧ s.domOn 11 =
      true ∧ s.qBusy .host = false ∧ s.queueUp x.queue = true ∧ (s.copy Master.host.num).wpkt = none ∧ x.data.length =
      n + 1 ∧ (x.data.headD 0).toNat = 2 * n ∧ (s.takeCells x.queue (1 + (n + 7) / 8)).1.length = 1 + (n + 7) / 8) ({
      rxLive with
        host := { live.host with
            buf := [{ kind := 2, port := 0, v := 0, queue := 0, data := [4, 1, 2], size := 1, fresh := true }] } })
      ({ kind := 2, port := 0, v := 0, queue := 0, data := [4, 1, 2], size := 1, fresh := true }) [] 2 ∧
    (fun (s : State) => ((s.host.replyDue = false ∨ s.host.replyReady = true ∨ s.host.buf ≠ []))) (live) ∧
    (fun (s : State) => s.host.replyDue = true ∧ s.host.replyReady = false ∧ s.host.buf = [] ∧ s.host.pull = none ∧
      s.host.sample = [0x0D06] ∧ s.ready = true)
      ({ live with host := { live.host with sample := [0x0D06], replyDue := true } }) := by
  decide +kernel

/-- States and operands that meet the hypotheses of TheWriteBufferAndPostedReads, clauses 10 on. -/
theorem met_TheWriteBufferAndPostedReads_10 :
    (fun (s : State) (q : Nat) => s.host.replyDue = true ∧ s.host.replyReady = false ∧ s.host.buf = [] ∧ s.host.pull =
      some q ∧ s.domOn 11 = true ∧ s.queueUp q = true ∧ s.mayRead .host q = true ∧ s.queue q = []) ({ (rxLive.w
      [(Port.BSN_Q_STAT 5, inFld 17 17 1), (Port.BSN_Q_CFG 5, inFld 17 15 2 ||| inFld 14 0 100)]) with
        host := { live.host with pull := some 5, replyDue := true } }) 5 ∧
    (fun (s : State) (addr : BitVec 3) => ((addr ≠ s.pins.stackId ∨ s.hostAsleep = false))) (live) 0 ∧
    (fun (s : State) (addr : BitVec 3) => addr = s.pins.stackId ∧ s.hostAsleep = true ∧ s.getB Port.PWR_WAKE 0 =
      false) (sniffLive) 0 := by
  decide +kernel

/-- States and operands that meet the hypotheses of TheWriteBufferAndPostedReads, clauses 13 on. -/
theorem met_TheWriteBufferAndPostedReads_13 :
    (fun (s : State) (addr : BitVec 3) => addr = s.pins.stackId ∧ s.getB Port.PWR_WAKE 0 = true ∧ s.level = 3 ∧
      s.phase = 0 ∧ s.pwr.rigOn.getLsbD 11 = true ∧ s.domOn 11 = false ∧ s.getB Port.PWR_DOM_OFF 11 = false)
      (sniffLive.w [(Port.PWR_WAKE, 1), (Port.PWR_DOM_STAT, 0o773777)]) 0 ∧
    (fun (s : State) (addr : BitVec 3) => addr = s.pins.stackId ∧ s.getB Port.PWR_WAKE 0 = true ∧ s.phase = 4)
      (sniffLive.w [(Port.PWR_WAKE, 1), (Port.PWR_STAT, inFld 17 15 3 ||| inFld 11 9 4)]) 0 ∧
    (fun (s : State) (m : Master) (_v : Word) => s.answers m Port.HPT_HIRQ_SET = true) (live) .apc 7 := by
  decide +kernel


/-- States and operands that meet the hypotheses of SerialMastersMoveUnitsAndFrames, clauses 1 on. -/
theorem met_SerialMastersMoveUnitsAndFrames_1 :
    (fun (s : State) (m : Master) (x : Fin 2) => s.answers m (Port.PSM_CMD x.val) = true ∧ s.psmBusy x.val = true)
      (live.w [(Port.PSM_STAT 1, inFld 17 17 1)]) .apc 1 ∧
    (fun (s : State) (m : Master) (x : Fin 2) => s.answers m (Port.PSM_CMD x.val) = true ∧ s.psmBusy x.val = false ∧
      s.getB (Port.PSM_FPH x.val) 5 = false ∧ (s.psmOf x.val).tx ≠ [])
      ({ live with psm := [(1, { Psm.idle with tx := [5] })] }) .apc 1 ∧
    (fun (s : State) (m : Master) (x : Fin 2) => s.answers m (Port.PSM_CMD x.val) = true ∧ s.psmBusy x.val = false ∧
      (s.psmOf x.val).tx = [] ∧ s.getF (Port.PSM_FPH x.val) 11 9 = 0) (live) .apc 1 := by
  decide +kernel

/-- States and operands that meet the hypotheses of SerialMastersMoveUnitsAndFrames, clauses 4 on. -/
theorem met_SerialMastersMoveUnitsAndFrames_4 :
    (fun (s : State) (m : Master) (x : Fin 2) (u : BitVec 32) (r : List (BitVec 32)) => s.answers m (Port.PSM_CMD
      x.val) = true ∧ s.psmBusy x.val = false ∧ (s.psmOf x.val).tx = u :: r ∧ (s.psmOf x.val).shifting = none ∧ s.getB
      (Port.PSM_FPH x.val) 5 = true ∧ s.getF (Port.PSM_FPH x.val) 11 9 ≠ 0 ∧ s.getF (Port.PSM_FLEN x.val) 15 0 ≠ 0)
      (({ live with psm := [(1, { Psm.idle with tx := [0x1A5] })] }).w [(Port.PSM_FPH 1, inFld 5 5 1 ||| inFld 11 9
      1), (Port.PSM_FLEN 1, 3)]) .apc 1 0x1A5 [] ∧
    (fun (s : State) (m : Master) (x : Fin 2) => s.answers m (Port.PSM_CMD x.val) = true ∧ (s.psmOf x.val).shifting =
      none) ({ live with psm := [(1, { Psm.idle with tx := [5] })] }) .apc 1 ∧
    (fun (s : State) (m : Master) (x : Fin 2) => s.answers m (Port.PSM_CMD x.val) = true ∧ (s.psmOf
      x.val).shifting.isSome = true) ({ live with psm := [(1, { Psm.idle with shifting := some 5 })] }) .apc 1 := by
  decide +kernel

/-- States and operands that meet the hypotheses of SerialMastersMoveUnitsAndFrames, clauses 7 on. -/
theorem met_SerialMastersMoveUnitsAndFrames_7 :
    (fun (s : State) (m : Master) (x : Fin 2) => s.answers m (Port.PSM_CMD x.val) = true ∧ s.psmFrame x.val = false ∧
      (s.psmOf x.val).shifting = none ∧ (s.psmOf x.val).tx = []) (live) .apc 1 ∧
    (fun (s : State) (m : Master) (x : Fin 2) => s.answers m (Port.PSM_CMD x.val) = true ∧ ((s.psmFrame x.val = true ∨
      (s.psmOf x.val).tx ≠ []))) ({ live with psm := [(1, { Psm.idle with tx := [5] })] }) .apc 1 ∧
    (fun (s : State) (m : Master) (x : Fin 2) => s.answers m (Port.PSM_CMD x.val) = true ∧ s.psmBusy x.val = false)
      ({ live with psm := [(1, { Psm.idle with tx := [5], rx := [6] })] }) .apc 1 := by
  decide +kernel

/-- States and operands that meet the hypotheses of SerialMastersMoveUnitsAndFrames, clauses 10 on. -/
theorem met_SerialMastersMoveUnitsAndFrames_10 :
    (fun (s : State) (m : Master) (x : Fin 2) => s.answers m (Port.PSM_CMD x.val) = true ∧ s.psmBusy x.val = true)
      (live.w [(Port.PSM_STAT 1, inFld 17 17 1)]) .apc 1 ∧
    (fun (s : State) (m : Master) (x : Fin 2) (_v : Word) => s.answers m (Port.PSM_TXD_0 x.val) = true ∧ (s.psmOf
      x.val).tx.length < 16 ∧ (s.psmOf x.val).shifting.isSome = true)
      ({ live with psm := [(1, { Psm.idle with shifting := some 5 })] }) .apc 1 9 ∧
    (fun (s : State) (m : Master) (x : Fin 2) (_v : Word) => s.answers m (Port.PSM_TXD_0 x.val) = true ∧ s.psmOf x.val
      = Psm.idle ∧ s.psmFrame x.val = false ∧ s.getB (Port.PSM_OPT x.val) 15 = false) (live.w [(Port.PSM_OPT 1, 0)])
      .apc 1 9 := by
  decide +kernel

/-- States and operands that meet the hypotheses of SerialMastersMoveUnitsAndFrames, clauses 13 on. -/
theorem met_SerialMastersMoveUnitsAndFrames_13 :
    (fun (s : State) (m : Master) (x : Fin 2) (_v : Word) => s.answers m (Port.PSM_TXD_0 x.val) = true ∧ 16 ≤ (s.psmOf
      x.val).tx.length) ({ live with psm := [(1, { Psm.idle with tx := List.replicate 16 5 })] }) .apc 1 9 ∧
    (fun (s : State) (m : Master) (x : Fin 2) (e : BitVec 32) (r : List (BitVec 32)) => s.answers m (Port.PSM_RXD_0
      x.val) = true ∧ (s.psmOf x.val).rx = e :: r ∧ (s.psmOf x.val).shifting.isSome = true)
      ({ live with psm := [(1, { Psm.idle with shifting := some 5, rx := [7, 9] })] }) .apc 1 7 [9] ∧
    (fun (s : State) (x : Fin 2) (_rx : BitVec 32) => (((s.psmOf x.val).shifting = none ∨ s.psmClocked = false)))
      (live) 1 5 := by
  decide +kernel

/-- States and operands that meet the hypotheses of SerialMastersMoveUnitsAndFrames, clauses 16 on. -/
theorem met_SerialMastersMoveUnitsAndFrames_16 :
    (fun (s : State) (x : Fin 2) (_rx : BitVec 32) => (s.psmOf x.val).shifting.isSome = true ∧ s.psmClocked = true ∧
      (s.psmOf x.val).aborting = false ∧ s.psmFrame x.val = false ∧ s.getB (Port.PSM_OPT x.val) 15 = true ∧ s.getB
      (Port.PSM_OPT x.val) 16 = false ∧ (s.psmOf x.val).tx = [])
      (({ live with psm := [(1, { Psm.idle with shifting := some 5 })] }).w [(Port.PSM_OPT 1, inFld 15 15 1)]) 1 9 ∧
    (fun (s : State) (x : Fin 2) (_rx : BitVec 32) => (s.psmOf x.val).shifting.isSome = true ∧ s.psmClocked = true ∧
      (s.psmOf x.val).aborting = true)
      ({ live with psm := [(1, { Psm.idle with shifting := some 5, aborting := true })] }) 1 9 ∧
    (fun (s : State) (x : Fin 2) (_rx : BitVec 32) => (s.psmOf x.val).shifting.isSome = true ∧ s.psmClocked = true ∧
      (s.psmOf x.val).aborting = false ∧ s.psmFrame x.val = false ∧ s.getB (Port.PSM_OPT x.val) 15 = false ∧ s.getB
      (Port.PSM_IEN x.val) 1 = true ∧ s.getF (Port.PSM_OPT x.val) 11 6 ≠ 0 ∧ (s.psmOf x.val).tx.length = s.getF
      (Port.PSM_OPT x.val) 11 6 + 1)
      (({ live with psm := [(1, { Psm.idle with shifting := some 5, tx := [1, 2] })] }).w [(Port.PSM_OPT 1, inFld 11 6
      1), (Port.PSM_IEN 1, 2)]) 1 9 := by
  decide +kernel

/-- States and operands that meet the hypotheses of SerialMastersMoveUnitsAndFrames, clauses 19 on. -/
theorem met_SerialMastersMoveUnitsAndFrames_19 :
    (fun (s : State) (x : Fin 2) => s.psmFrame x.val = true ∧ s.psmClocked = true ∧ (s.psmOf x.val).left = 0 ∧
      (s.psmOf x.val).shifting = none ∧ (s.psmOf x.val).tx = [] ∧ s.getB (Port.PSM_OPT x.val) 16 = false) (live.w
      [(Port.PSM_STAT 1, inFld 17 15 7)]) 1 ∧
    (fun (s : State) (x : Fin 2) => ((s.psmFrame x.val = false ∨ (s.psmOf x.val).left ≠ 0 ∨ s.psmClocked = false)))
      (live) 1 := by
  decide +kernel


/-- States and operands that meet the hypotheses of BallsAndTheTestAccessPort, clauses 1 on. -/
theorem met_BallsAndTheTestAccessPort_1 :
    (fun (s : State) (g : Fin 48) (rise : Bool) => s.pins.gpioIn.getLsbD g.val = rise) (live) 5 false ∧
    (fun (s : State) (g : Fin 48) (rise : Bool) => s.pins.gpioIn.getLsbD g.val ≠ rise ∧ s.gpioBuffer g.val = false)
      (live.w [(Port.GPIO_CFG 5, 0)]) 5 true ∧
    (fun (s : State) (g : Fin 48) (rise : Bool) (ch : Fin 48) => s.pins.gpioIn.getLsbD g.val ≠ rise ∧ s.gpioFunc g.val
      = 1 ∧ s.getF (Port.EVF_CH_SRC ch.val) 8 0 = (if rise then Ev.gpioRise g.val else Ev.gpioFall g.val) ∧ s.grpOn
      ch.val = true ∧ s.getF (Port.EVF_CH_GATE ch.val) 8 0 = 0 ∧ s.chTasks ch.val = [] ∧ s.slotsOf ch.val ≠ [] ∧
      s.getF (Port.EVF_CH_GUARD ch.val) 17 9 = 0 ∧ ((∀ c, c < 48 → c ≠ ch.val → s.getF (Port.EVF_CH_SRC c) 8 0 ≠ (if
      rise then Ev.gpioRise g.val else Ev.gpioFall g.val)))) (live.w [(Port.GPIO_CFG 5, 1), (Port.EVF_CH_SRC 3, 69),
      (Port.EVF_GRP, 0o777), (Port.EVF_TASK 4, inFld 17 17 1 ||| inFld 14 9 3)]) 5 true 3 := by
  decide +kernel

/-- States and operands that meet the hypotheses of BallsAndTheTestAccessPort, clauses 4 on. -/
theorem met_BallsAndTheTestAccessPort_4 :
    (fun (s : State) (m : Master) (k : Fin 3) (_v : Word) => s.answers m (Port.GPIO_SET k.val) = true ∧ ((∀ g, g < 48
      → s.gpioFunc g ≠ 2 ∧ s.gpioFunc g ≠ 3))) ((List.range 48).foldl (fun t g => t.w [(Port.GPIO_CFG g, 1)]) (live.w
      [(Port.GPIO_OUT 1, 7)])) .apc 1 5 ∧
    (fun (s : State) (m : Master) (k : Fin 3) (_v : Word) => s.answers m (Port.GPIO_CLR k.val) = true ∧ ((∀ g, g < 48
      → s.gpioFunc g ≠ 2 ∧ s.gpioFunc g ≠ 3))) ((List.range 48).foldl (fun t g => t.w [(Port.GPIO_CFG g, 1)]) (live.w
      [(Port.GPIO_OUT 1, 7)])) .apc 1 5 ∧
    (fun (s : State) (m : Master) (k : Fin 3) (_v : Word) => s.answers m (Port.GPIO_TOG k.val) = true ∧ ((∀ g, g < 48
      → s.gpioFunc g ≠ 2 ∧ s.gpioFunc g ≠ 3))) ((List.range 48).foldl (fun t g => t.w [(Port.GPIO_CFG g, 1)]) (live.w
      [(Port.GPIO_OUT 1, 7)])) .apc 1 5 := by
  decide +kernel

/-- States and operands that meet the hypotheses of BallsAndTheTestAccessPort, clauses 7 on. -/
theorem met_BallsAndTheTestAccessPort_7 :
    (fun (s : State) (m : Master) (g : Fin 16) (ch : Fin 48) (v : Word) => s.answers m (Port.GPIO_SET 0) = true ∧ v =
      BitVec.twoPow 18 g.val ∧ s.gpioFunc g.val = 2 ∧ s.getB (Port.GPIO_OUT 0) g.val = false ∧ s.pins.bsrDrive = false
      ∧ s.time.onBackup = false ∧ s.getF (Port.EVF_CH_SRC ch.val) 8 0 = Ev.gpioRise g.val ∧ s.grpOn ch.val = true ∧
      s.getF (Port.EVF_CH_GATE ch.val) 8 0 = 0 ∧ s.chTasks ch.val = [] ∧ s.slotsOf ch.val ≠ [] ∧ s.getF
      (Port.EVF_CH_GUARD ch.val) 17 9 = 0) (live.w [(Port.GPIO_CFG 5, 2), (Port.EVF_CH_SRC 3, 69), (Port.EVF_GRP,
      0o777), (Port.EVF_TASK 4, inFld 17 17 1 ||| inFld 14 9 3)]) .apc 5 3 32 ∧
    (fun (s : State) (_scanIn : List Bool) => s.lcState ≠ 2 ∧ s.lcState ≠ 7) (live) [true] ∧
    (fun (s : State) (_scanIn : List Bool) => ((s.lcState = 2 ∨ s.lcState = 7))) (live.withFuses
      { Fuses.reset with intent := 6, anchored := 6, done := 6 }) [true] := by
  decide +kernel

/-- States and operands that meet the hypotheses of BallsAndTheTestAccessPort, clauses 14 on. -/
theorem met_BallsAndTheTestAccessPort_14 :
    (fun (s : State) (writing : Bool) (_port : BitVec 16) (_v : Word) => s.ready = false ∧ writing = true ∧
      s.latch.stall = none) (State.reset) true 0x0D06 5 ∧
    (fun (s : State) (writing : Bool) (port : BitVec 16) (_v : Word) => s.answers .dbg Port.HPT_HIRQ_EN = true ∧
      writing = true ∧ port = 0x0D06) (live) true 0x0D06 5 ∧
    (fun (s : State) (writing : Bool) (port : BitVec 16) (_v : Word) => s.answers .dbg Port.HPT_HIRQ_EN = true ∧
      writing = false ∧ port = 0x0D06) (live.w [(Port.HPT_HIRQ_EN, 9)]) false 0x0D06 0 := by
  decide +kernel


/-- States and operands that meet the hypotheses of EntryToAndExitFromALevel, clauses 1 on. -/
theorem met_EntryToAndExitFromALevel_1 :
    (fun (s : State) (m : Master) => s.answers m Port.PWR_CMD = true ∧ m ≠ .dbg ∧ s.phase = 0 ∧ s.level ≠ 1) (live)
      .apc ∧
    (fun (s : State) (m : Master) => s.answers m Port.PWR_CMD = true ∧ m ≠ .dbg ∧ s.phase = 0) (live) .apc ∧
    (fun (s : State) (m : Master) => s.answers m Port.PWR_CMD = true ∧ m ≠ .dbg ∧ s.phase = 0) (live) .apc := by
  decide +kernel

/-- States and operands that meet the hypotheses of EntryToAndExitFromALevel, clauses 4 on. -/
theorem met_EntryToAndExitFromALevel_4 :
    (fun (s : State) (m : Master) => s.answers m Port.PWR_CMD = true ∧ m ≠ .dbg ∧ s.phase = 0) (live) .apc ∧
    (fun (s : State) (m : Master) => s.answers m Port.PWR_CMD = true ∧ m ≠ .dbg ∧ s.phase ≠ 0) (live.w
      [(Port.PWR_STAT, inFld 14 12 2 ||| inFld 11 9 2)]) .apc ∧
    (fun (s : State) (m : Master) => s.answers m Port.PWR_CMD = true ∧ m ≠ .dbg ∧ s.phase = 0 ∧ s.level = 1) (live.w
      [(Port.PWR_STAT, inFld 17 15 1)]) .apc := by
  decide +kernel

/-- States and operands that meet the hypotheses of EntryToAndExitFromALevel, clauses 7 on. -/
theorem met_EntryToAndExitFromALevel_7 :
    (fun (s : State) (m : Master) => s.answers m Port.PWR_CMD = true ∧ m = .dbg) (live) .dbg ∧
    (fun (s : State) (m : Master) => s.answers m Port.PWR_CMD = true ∧ m ≠ .dbg ∧ ((s.phase = 1 ∨ s.phase = 2)))
      (live.w [(Port.PWR_STAT, inFld 14 12 2 ||| inFld 11 9 2)]) .apc ∧
    (fun (s : State) (m : Master) => s.answers m Port.PWR_CMD = true ∧ s.phase ≠ 1 ∧ s.phase ≠ 2) (live) .apc := by
  decide +kernel

/-- States and operands that meet the hypotheses of EntryToAndExitFromALevel, clauses 10 on. -/
theorem met_EntryToAndExitFromALevel_10 :
    (fun (s : State) => s.phase = 1 ∧ s.entryQuiet s.target = true) (live.w [(Port.PWR_STAT, inFld 14 12 2 ||| inFld
      11 9 1), (Port.PWR_MASK 1, 0o777777)]) ∧
    (fun (s : State) => ((s.phase ≠ 1 ∨ s.entryQuiet s.target = false))) (live) ∧
    (fun (s : State) => s.phase = 2 ∧ s.coreWaits 0 = true ∧ s.coreWaits 1 = true ∧ s.sendsYet s.target = false)
      (({ live with apc := { live.apc with waiting := true }, lkc := { live.lkc with waiting := true } }).w
      [(Port.PWR_STAT, inFld 14 12 2 ||| inFld 11 9 2)]) := by
  decide +kernel

/-- States and operands that meet the hypotheses of EntryToAndExitFromALevel, clauses 13 on. -/
theorem met_EntryToAndExitFromALevel_13 :
    (fun (s : State) (c : Core) => s.phase = 2 ∧ s.coreWaits 0 = true ∧ s.coreWaits 1 = true ∧ s.sendsYet s.target =
      false ∧ s.goesOff s.target c.num = false ∧ s.domOn c.num = true ∧ s.target = 1)
      ((({ live with apc := { live.apc with waiting := true }, lkc := { live.lkc with waiting := true } }).w
      [(Port.PWR_STAT, inFld 14 12 1 ||| inFld 11 9 2)]).w [(Port.PWR_MASK 0, 0o777777)]) .lkc ∧
    (fun (s : State) => s.phase = 2 ∧ s.coreWaits 0 = true ∧ s.coreWaits 1 = true ∧ s.sendsYet s.target = false ∧
      s.target = 3)
      (({ live with apc := { live.apc with waiting := true }, lkc := { live.lkc with waiting := true } }).w
      [(Port.PWR_STAT, inFld 14 12 3 ||| inFld 11 9 2)]) ∧
    (fun (s : State) => s.phase = 2 ∧ s.coreWaits 0 = true ∧ s.coreWaits 1 = true ∧ s.sendsYet s.target = false ∧
      s.target = 4)
      (({ live with apc := { live.apc with waiting := true }, lkc := { live.lkc with waiting := true } }).w
      [(Port.PWR_STAT, inFld 14 12 4 ||| inFld 11 9 2)]) := by
  decide +kernel

/-- States and operands that meet the hypotheses of EntryToAndExitFromALevel, clauses 16 on. -/
theorem met_EntryToAndExitFromALevel_16 :
    (fun (s : State) => ((s.phase ≠ 2 ∨ s.coreWaits 0 = false ∨ s.coreWaits 1 = false ∨ s.sendsYet s.target = true)))
      (live) ∧
    (fun (s : State) (src : Fin 6) => src.val ≠ 5 ∧ s.getB Port.PWR_WAKE src.val = false) (live.w [(Port.PWR_WAKE,
      0)]) 2 ∧
    (fun (s : State) (src : Fin 6) => src.val ≠ 5 ∧ s.getB Port.PWR_WAKE src.val = true ∧ ((s.phase = 1 ∨ s.phase =
      2))) (live.w [(Port.PWR_WAKE, 4), (Port.PWR_STAT, inFld 14 12 2 ||| inFld 11 9 2)]) 2 := by
  decide +kernel

/-- States and operands that meet the hypotheses of EntryToAndExitFromALevel, clauses 19 on. -/
theorem met_EntryToAndExitFromALevel_19 :
    (fun (s : State) (src : Fin 6) (d : Fin 16) => src.val ≠ 5 ∧ s.getB Port.PWR_WAKE src.val = true ∧ s.phase = 0 ∧
      s.level ≠ 0 ∧ s.runDomains.getLsbD d.val = true ∧ s.domOn d.val = false) (sniffLive.w [(Port.PWR_WAKE, 4),
      (Port.PWR_DOM_STAT, 0o773777)]) 2 11 ∧
    (fun (s : State) (src : Fin 6) => src.val ≠ 5 ∧ s.getB Port.PWR_WAKE src.val = true ∧ s.phase = 0 ∧ s.level = 1 ∧
      ((∀ d, d < 16 → (s.pwr.on ||| s.runDomains).getLsbD d = true → s.domOn d = true))) (live.w [(Port.PWR_WAKE, 4),
      (Port.PWR_STAT, inFld 17 15 1)]) 2 ∧
    (fun (s : State) (c : Core) => s.phase = 2 ∧ (s.core c).inReset = false ∧ (s.core c).waiting = true ∧ (s.core
      c).above.isSome = true) ((live.w [(Port.PWR_STAT, inFld 14 12 2 ||| inFld 11 9 2)]).withCore .lkc fun k => { k
      with
        waiting := true, ien := BitVec.twoPow 64 20, ipend := BitVec.twoPow 64 20, ipri := BitVec.allOnes 128 }) .lkc := by
  decide +kernel

/-- States and operands that meet the hypotheses of EntryToAndExitFromALevel, clauses 22 on. -/
theorem met_EntryToAndExitFromALevel_22 :
    (fun (s : State) (src : Fin 6) => src.val = 5 ∧ (s.core .apc).above = none ∧ (s.core .lkc).above = none) (live) 5 := by
  decide +kernel


/-- States and operands that meet the hypotheses of DomainsAreReleasedAndHeldOff, clauses 1 on. -/
theorem met_DomainsAreReleasedAndHeldOff_1 :
    (fun (s : State) (d : Fin 16) => ((s.pwr.on.getLsbD d.val = false ∨ s.domOn d.val = true))) (live) 9 ∧
    (fun (s : State) (d : Fin 16) => s.pwr.on.getLsbD d.val = true ∧ s.domOn d.val = false ∧ s.time.stopped = false ∧
      11 ≤ d.val ∧ s.phase ≠ 4) (({ live with pwr := { live.pwr with on := 0xFFFF, rigOn := 0xFFFF } }).w
      [(Port.PWR_DOM_STAT, 0o757777)]) 13 ∧
    (fun (s : State) (d : Fin 16) => ((s.time.stopped = true ∨ (d.val ≤ 10 ∧ s.sec.trans ≠ 0))))
      ({ live with time := { live.time with stopped := true } }) 9 := by
  decide +kernel

/-- States and operands that meet the hypotheses of DomainsAreReleasedAndHeldOff, clauses 4 on. -/
theorem met_DomainsAreReleasedAndHeldOff_4 :
    (fun (s : State) (m : Master) (_v : Word) => s.answers m Port.PWR_DOM_OFF = true ∧ s.rig.applied = false)
      ({ live with rig := { live.rig with applied := false } }) .apc 0o777777 ∧
    (fun (s : State) (m : Master) (v : Word) (d : Fin 16) => s.answers m Port.PWR_DOM_OFF = true ∧ s.rig.applied =
      true ∧ s.level = 0 ∧ 5 ≤ d.val ∧ bitOf v d.val = true ∧ s.domQuiet d.val = true ∧ s.pwr.on.getLsbD d.val = true
      ∧ s.domOn d.val = true) ({ live with pwr := { live.pwr with on := 0xFFFF, rigOn := 0xFFFF } }) .apc 0o1000 9 ∧
    (fun (s : State) (m : Master) (v : Word) (d : Fin 16) => s.answers m Port.PWR_DOM_OFF = true ∧ s.rig.applied =
      true ∧ s.level = 0 ∧ 5 ≤ d.val ∧ v = 0 ∧ s.pwr.rigOn.getLsbD d.val = true) ({ (live.w [(Port.PWR_DOM_OFF,
      0o1000)]) with
        pwr := { live.pwr with on := 0xFDFF, rigOn := 0xFFFF } }) .apc 0 9 := by
  decide +kernel

/-- States and operands that meet the hypotheses of DomainsAreReleasedAndHeldOff, clauses 7 on. -/
theorem met_DomainsAreReleasedAndHeldOff_7 :
    (fun (s : State) (m : Master) => s.answers m Port.PWR_RES_CMD = true) (live.w [(Port.PWR_RES 3, 7)]) .apc := by
  decide +kernel


/-- States and operands that meet the hypotheses of ClocksAndWatchdogs, clauses 1 on. -/
theorem met_ClocksAndWatchdogs_1 :
    (fun (s : State) => s.level ≠ 4 ∧ s.getB Port.CLK_STAT 17 = true) (live.at_ 77) ∧
    (fun (s : State) => ((s.level = 4 ∨ s.getB Port.CLK_STAT 17 = false))) (live.w [(Port.PWR_STAT, inFld 17 15 4)]) ∧
    (fun (s : State) (_bootSel : BitVec 2) (_stackId : BitVec 3) => s.level ≠ 4 ∧ s.getB Port.CLK_STAT 17 = false)
      (live.w [(Port.CLK_STAT, 0)]) 1 2 := by
  decide +kernel

/-- States and operands that meet the hypotheses of ClocksAndWatchdogs, clauses 4 on. -/
theorem met_ClocksAndWatchdogs_4 :
    (fun (s : State) (_bootSel : BitVec 2) (_stackId : BitVec 3) => ((s.level = 4 ∨ s.getB Port.CLK_STAT 17 = true)))
      (live) 0 0 ∧
    (fun (s : State) (m : Master) (c : Core) (_v : Word) => s.answers m (Port.WDG_KICK c.num) = true ∧ m.core ≠ some
      c) (live) .host .lkc 5 ∧
    (fun (s : State) (m : Master) (c : Core) (v : Word) => s.answers m (Port.WDG_KICK c.num) = true ∧ m.core = some c
      ∧ s.getB (Port.WDG_CFG c.num) 17 = true ∧ Cells.rd (fun _ => 0) s.pwr.kick c.num = 0 ∧ v = 0o252525) (live.w
      [(Port.WDG_CFG 1, inFld 17 17 1), (Port.WDG_TIME 1, 500)]) .lkc .lkc 0o252525 := by
  decide +kernel

/-- States and operands that meet the hypotheses of ClocksAndWatchdogs, clauses 8 on. -/
theorem met_ClocksAndWatchdogs_8 :
    (fun (s : State) (m : Master) (c : Core) (v : Word) => s.answers m (Port.WDG_KICK c.num) = true ∧ m.core = some c
      ∧ s.getB (Port.WDG_CFG c.num) 17 = true ∧ Cells.rd (fun _ => 0) s.pwr.kick c.num ≠ 0 ∧ v = 0o525252 ∧ s.wdgOpen
      c.num = true) ({ (live.w [(Port.WDG_CFG 1, inFld 17 17 1), (Port.WDG_TIME 1, 500)]) with
        pwr := { Pwr.reset with kick := [(1, 1)], wdgTime := [(1, 500)] } }) .lkc .lkc 0o525252 ∧
    (fun (s : State) (m : Master) (c : Core) (v : Word) => s.answers m (Port.WDG_KICK c.num) = true ∧ m.core = some c
      ∧ s.getB (Port.WDG_CFG c.num) 17 = true ∧ Cells.rd (fun _ => 0) s.pwr.kick c.num = 0 ∧ v ≠ 0o252525 ∧ s.getF
      (Port.WDG_CFG c.num) 14 12 = 0 ∧ s.held c.num = false ∧ s.domOn c.num = true) (live.w [(Port.WDG_CFG 1, inFld 17
      17 1), (Port.WDG_TIME 1, 500)]) .lkc .lkc 5 ∧
    (fun (s : State) (m : Master) (c : Core) (v : Word) => s.answers m (Port.WDG_KICK c.num) = true ∧ m.core = some c
      ∧ s.getB (Port.WDG_CFG c.num) 17 = true ∧ Cells.rd (fun _ => 0) s.pwr.kick c.num ≠ 0 ∧ ((v ≠ 0o525252 ∨
      s.wdgOpen c.num = false)) ∧ s.getF (Port.WDG_CFG c.num) 14 12 = 0 ∧ s.held c.num = false ∧ s.domOn c.num = true)
      ({ (live.w [(Port.WDG_CFG 1, inFld 17 17 1), (Port.WDG_TIME 1, 500)]) with
        pwr := { Pwr.reset with kick := [(1, 1)], wdgTime := [(1, 500)] } }) .lkc .lkc 5 := by
  decide +kernel

/-- States and operands that meet the hypotheses of ClocksAndWatchdogs, clauses 11 on. -/
theorem met_ClocksAndWatchdogs_11 :
    (fun (s : State) (c : Core) => s.wdgCounts c.num = true ∧ s.getF (Port.WDG_CFG c.num) 8 6 ≠ 0 ∧ Cells.rd (fun _ =>
      0) s.pwr.warned c.num = 0 ∧ 8 * s.getF (Port.WDG_STAT c.num) 15 0 ≤ s.getF (Port.WDG_CFG c.num) 8 6 * s.wdgForce
      c.num) (({ (live.w [(Port.WDG_CFG 1, inFld 17 17 1), (Port.WDG_TIME 1, 500)]) with
        pwr := { Pwr.reset with kick := [(1, 1)], wdgTime := [(1, 500)] } }).w [(Port.WDG_CFG 1, inFld 17 17 1 |||
      inFld 8 6 2), (Port.WDG_STAT 1, 100)]) .lkc ∧
    (fun (s : State) (c : Core) => ((s.wdgCounts c.num = false ∨ s.getF (Port.WDG_CFG c.num) 8 6 = 0 ∨ Cells.rd (fun _
      => 0) s.pwr.warned c.num ≠ 0))) (live) .apc ∧
    (fun (s : State) (c : Core) => s.wdgCounts c.num = true ∧ s.getF (Port.WDG_STAT c.num) 15 0 = 0 ∧ s.getF
      (Port.WDG_CFG c.num) 14 12 = 0 ∧ s.held c.num = false ∧ s.domOn c.num = true) (live.w [(Port.WDG_CFG 1, inFld 17
      17 1), (Port.WDG_TIME 1, 500)]) .lkc := by
  decide +kernel

/-- States and operands that meet the hypotheses of ClocksAndWatchdogs, clauses 14 on. -/
theorem met_ClocksAndWatchdogs_14 :
    (fun (s : State) (c : Core) => s.wdgCounts c.num = true ∧ s.getF (Port.WDG_STAT c.num) 15 0 = 0 ∧ s.domOn c.num =
      true ∧ s.getF (Port.WDG_CFG c.num) 14 12 = 1) (live.w [(Port.WDG_CFG 1, inFld 17 17 1 ||| inFld 14 12 1),
      (Port.WDG_TIME 1, 500)]) .lkc ∧
    (fun (s : State) (c : Core) => s.wdgCounts c.num = true ∧ s.getF (Port.WDG_STAT c.num) 15 0 = 0 ∧ s.domOn c.num =
      true ∧ s.getF (Port.WDG_CFG c.num) 14 12 = 2) (live.w [(Port.WDG_CFG 1, inFld 17 17 1 ||| inFld 14 12 2),
      (Port.WDG_TIME 1, 500)]) .lkc ∧
    (fun (s : State) (c : Core) => s.wdgCounts c.num = true ∧ s.getF (Port.WDG_STAT c.num) 15 0 = 0 ∧ s.domOn c.num =
      false ∧ s.level ≠ 0 ∧ s.held c.num = false ∧ s.getF (Port.WDG_CFG c.num) 14 12 = 0) (live.w [(Port.WDG_CFG 1,
      inFld 17 17 1 ||| inFld 15 15 1), (Port.WDG_TIME 1, 500), (Port.PWR_STAT, inFld 17 15 3), (Port.PWR_DOM_STAT,
      0o777775)]) .lkc := by
  decide +kernel

/-- States and operands that meet the hypotheses of ClocksAndWatchdogs, clauses 17 on. -/
theorem met_ClocksAndWatchdogs_17 :
    (fun (s : State) (c : Core) => ((s.wdgCounts c.num = false ∨ s.getF (Port.WDG_STAT c.num) 15 0 ≠ 0))) (live) .lkc := by
  decide +kernel


/-- States and operands that meet the hypotheses of TheSluiceAndTheSensors, clauses 1 on. -/
theorem met_TheSluiceAndTheSensors_1 :
    (fun (s : State) => ((∀ x, x < 12 → (∀ y, y < 12 → actConflict x y = true → (s.granted x && s.granted y) =
      false)))) (live.w [(Port.MNT_GRANT, 2), (Port.MNT_WAIT, 0o7777)]) ∧
    (fun (s : State) (a : Fin 12) => s.mntClocked = true ∧ s.waits a.val = true ∧ s.getB Port.MNT_INHIBIT a.val =
      false ∧ s.sluiceClear a.val = true ∧ ((∀ b, b < 12 → b ≠ a.val → s.waits b = false ∧ s.getB Port.MNT_AGED b =
      false)) ∧ a.val ≠ Act.rxcal 0 ∧ a.val ≠ Act.rxcal 1) (live.w [(Port.MNT_GRANT, 0o1000), (Port.MNT_WAIT, 1)]) 0 ∧
    (fun (s : State) (a b : Fin 12) => s.mntClocked = true ∧ s.waits a.val = true ∧ s.waits b.val = true ∧ actConflict
      a.val b.val = true ∧ s.get Port.MNT_INHIBIT = 0 ∧ s.get Port.MNT_GRANT = 0 ∧ s.getB Port.MNT_AGED b.val = true ∧
      ((∀ x, x < 12 → x ≠ b.val → s.getB Port.MNT_AGED x = false))) (live.w [(Port.MNT_WAIT, 0o6), (Port.MNT_AGED,
      0o4)]) 1 2 := by
  decide +kernel

/-- States and operands that meet the hypotheses of TheSluiceAndTheSensors, clauses 4 on. -/
theorem met_TheSluiceAndTheSensors_4 :
    (fun (s : State) (a : Fin 12) => ((s.getB Port.MNT_INHIBIT a.val = true ∨ s.sluiceClear a.val = false)) ∧
      s.granted a.val = false) (live.w [(Port.MNT_GRANT, 2), (Port.MNT_WAIT, 4)]) 2 ∧
    (fun (s : State) => s.mntClocked = false) (live.w [(Port.PWR_STAT, inFld 17 15 4)]) ∧
    (fun (s : State) (a : Fin 12) (k : Nat) => s.waits a.val = true ∧ s.getB Port.MNT_AGED a.val = false ∧ Cells.rd
      (fun _ => 0) s.sluice.since a.val = k + 1 ∧ k + max 1 (s.getF Port.MNT_CFG 17 9) * 16000 ≤ s.time.wall) ({
      ((live.w [(Port.MNT_WAIT, 1)]).at_ 90000000) with
        sluice := { live.sluice with since := [(0, 6)] } }) 0 5 := by
  decide +kernel

/-- States and operands that meet the hypotheses of TheSluiceAndTheSensors, clauses 7 on. -/
theorem met_TheSluiceAndTheSensors_7 :
    (fun (s : State) (a : Fin 12) => ((s.waits a.val = false ∨ s.getB Port.MNT_AGED a.val = true))) (live) 0 ∧
    (fun (s : State) (_temp : BitVec 9) (_vs _vw : BitVec 12) => s.granted Act.temp = false) (live) 5 6 7 ∧
    (fun (s : State) (_temp : BitVec 9) (_vs _vw : BitVec 12) => s.granted Act.temp = true) (live.w [(Port.MNT_GRANT,
      1)]) 5 6 7 := by
  decide +kernel

/-- States and operands that meet the hypotheses of TheSluiceAndTheSensors, clauses 10 on. -/
theorem met_TheSluiceAndTheSensors_10 :
    (fun (s : State) (m : Master) => s.answers m Port.CAL_FMC_CMD = true ∧ s.granted Act.rtcMeas = false) (live) .apc ∧
    (fun (s : State) (_err : Word) => s.granted Act.rtcMeas = true ∧ s.sluice.fmcFrom + max 1 (s.getF Port.CAL_FMC_CFG
      11 0) ≤ s.time.rtcEdges) ({ (live.w [(Port.MNT_GRANT, 256), (Port.CAL_FMC_CFG, 1)]) with
        time := { live.time with rtcEdges := 9 } }) 5 ∧
    (fun (s : State) (_err : Word) => ((s.granted Act.rtcMeas = false ∨ s.time.rtcEdges < s.sluice.fmcFrom + max 1
      (s.getF Port.CAL_FMC_CFG 11 0)))) (live) 5 := by
  decide +kernel


/-- States and operands that meet the hypotheses of TheEventFabricDelivers, clauses 1 on. -/
theorem met_TheEventFabricDelivers_1 :
    (fun (s : State) (p : BitVec 9) (ch : Fin 48) => s.getF (Port.EVF_CH_SRC ch.val) 8 0 = p.toNat ∧ producerOk
      p.toNat = true ∧ p ≠ 0 ∧ ((∀ c, c < 48 → c ≠ ch.val → s.getF (Port.EVF_CH_SRC c) 8 0 ≠ p.toNat)) ∧ ((s.grpOn
      ch.val = false ∨ s.gateLevel (s.getF (Port.EVF_CH_GATE ch.val) 8 0) = false))) (live.w [(Port.EVF_CH_SRC 3,
      inFld 14 12 2 ||| 264), (Port.EVF_GRP, 0), (Port.EVF_TASK 8, inFld 17 17 1 ||| inFld 14 9 3)]) 264 3 ∧
    (fun (s : State) (p : BitVec 9) (ch : Fin 48) => s.getF (Port.EVF_CH_SRC ch.val) 8 0 = p.toNat ∧ producerOk
      p.toNat = true ∧ p ≠ 0 ∧ ((∀ c, c < 48 → c ≠ ch.val → s.getF (Port.EVF_CH_SRC c) 8 0 ≠ p.toNat)) ∧ s.grpOn
      ch.val = true ∧ s.gateLevel (s.getF (Port.EVF_CH_GATE ch.val) 8 0) = true ∧ s.chTasks ch.val ≠ []) ({ (live.w
      [(Port.EVF_CH_SRC 3, inFld 14 12 2 ||| 264), (Port.EVF_GRP, 4), (Port.EVF_TASK 8, inFld 17 17 1 ||| inFld 14 9
      3)]) with
        evf := { live.evf with tasks := [(3, [8])] } }) 264 3 ∧
    (fun (s : State) (p : BitVec 9) (ch : Fin 48) => s.getF (Port.EVF_CH_SRC ch.val) 8 0 = p.toNat ∧ producerOk
      p.toNat = true ∧ p ≠ 0 ∧ ((∀ c, c < 48 → c ≠ ch.val → s.getF (Port.EVF_CH_SRC c) 8 0 ≠ p.toNat)) ∧ s.grpOn
      ch.val = true ∧ s.gateLevel (s.getF (Port.EVF_CH_GATE ch.val) 8 0) = true ∧ s.chTasks ch.val = [] ∧ s.slotsOf
      ch.val ≠ [] ∧ s.getF (Port.EVF_CH_GUARD ch.val) 17 9 = 0) (live.w [(Port.EVF_CH_SRC 3, inFld 14 12 2 ||| 264),
      (Port.EVF_GRP, 4), (Port.EVF_TASK 8, inFld 17 17 1 ||| inFld 14 9 3)]) 264 3 := by
  decide +kernel

/-- States and operands that meet the hypotheses of TheEventFabricDelivers, clauses 4 on. -/
theorem met_TheEventFabricDelivers_4 :
    (fun (s : State) (p : BitVec 9) (ch : Fin 48) => s.getF (Port.EVF_CH_SRC ch.val) 8 0 = p.toNat ∧ producerOk
      p.toNat = true ∧ p ≠ 0 ∧ ((∀ c, c < 48 → c ≠ ch.val → s.getF (Port.EVF_CH_SRC c) 8 0 ≠ p.toNat)) ∧ s.grpOn
      ch.val = true ∧ s.gateLevel (s.getF (Port.EVF_CH_GATE ch.val) 8 0) = true ∧ s.chTasks ch.val = [] ∧ s.slotsOf
      ch.val ≠ [] ∧ s.getF (Port.EVF_CH_GUARD ch.val) 17 9 ≠ 0 ∧ 1 < s.getF (Port.EVF_CH_GUARD ch.val) 8 0 ∧
      s.guardOpen ch.val = 0) ((live.w [(Port.EVF_CH_SRC 3, inFld 14 12 2 ||| 264), (Port.EVF_GRP, 4), (Port.EVF_TASK
      8, inFld 17 17 1 ||| inFld 14 9 3)]).w [(Port.EVF_CH_GUARD 3, inFld 17 9 5 ||| 4), (Port.EVF_CH_STAT 3, 0)]) 264
      3 ∧
    (fun (s : State) (p : BitVec 9) (ch : Fin 48) => s.getF (Port.EVF_CH_SRC ch.val) 8 0 = p.toNat ∧ producerOk
      p.toNat = true ∧ p ≠ 0 ∧ ((∀ c, c < 48 → c ≠ ch.val → s.getF (Port.EVF_CH_SRC c) 8 0 ≠ p.toNat)) ∧ s.grpOn
      ch.val = true ∧ s.gateLevel (s.getF (Port.EVF_CH_GATE ch.val) 8 0) = true ∧ s.chTasks ch.val = [] ∧ s.slotsOf
      ch.val ≠ [] ∧ s.getF (Port.EVF_CH_GUARD ch.val) 17 9 ≠ 0 ∧ s.guardLive ch.val = true ∧ s.getF (Port.EVF_CH_STAT
      ch.val) 8 0 + 1 = s.getF (Port.EVF_CH_GUARD ch.val) 8 0) ((live.w [(Port.EVF_CH_SRC 3, inFld 14 12 2 ||| 264),
      (Port.EVF_GRP, 4), (Port.EVF_TASK 8, inFld 17 17 1 ||| inFld 14 9 3)]).w [(Port.EVF_CH_GUARD 3, inFld 17 9 5 |||
      4), (Port.EVF_CH_STAT 3, 3)] |>.setGuard 3 1) 264 3 ∧
    (fun (_s : State) (p : BitVec 9) => ((producerOk p.toNat = false ∨ p = 0))) (live) 0 := by
  decide +kernel

/-- States and operands that meet the hypotheses of TheEventFabricDelivers, clauses 7 on. -/
theorem met_TheEventFabricDelivers_7 :
    (fun (s : State) (k : BitVec 9) => (s.chansDue k.toNat).isEmpty = true) (live) 8 ∧
    (fun (s : State) (k : BitVec 9) (ch : Fin 48) => s.chTasks ch.val = [k.toNat] ∧ ((∀ c, c < 48 → c ≠ ch.val →
      s.slotsDue k.toNat c = 0)) ∧ k.toNat < 4) ({ (live.w [(Port.EVF_CH_SRC 3, inFld 14 12 2 ||| 264), (Port.EVF_GRP,
      4), (Port.EVF_TASK 8, inFld 17 17 1 ||| inFld 14 9 3)]) with
        evf := { live.evf with tasks := [(3, [2])] } }) 2 3 ∧
    (fun (s : State) (k : BitVec 9) (ch : Fin 48) => s.chTasks ch.val = [k.toNat] ∧ ((∀ c, c < 48 → c ≠ ch.val →
      s.slotsDue k.toNat c = 0)) ∧ k.toNat = 4 ∧ s.phase = 0 ∧ s.level = 0 ∧ s.getB Port.PWR_WAKE 1 = true) ({
      ((live.w [(Port.EVF_CH_SRC 3, inFld 14 12 2 ||| 264), (Port.EVF_GRP, 4), (Port.EVF_TASK 8, inFld 17 17 1 |||
      inFld 14 9 3)]).w [(Port.PWR_WAKE, 2)]) with
        evf := { live.evf with tasks := [(3, [4])] } }) 4 3 := by
  decide +kernel

/-- States and operands that meet the hypotheses of TheEventFabricDelivers, clauses 10 on. -/
theorem met_TheEventFabricDelivers_10 :
    (fun (s : State) (k : BitVec 9) (ch : Fin 48) => s.chTasks ch.val = [k.toNat] ∧ ((∀ c, c < 48 → c ≠ ch.val →
      s.slotsDue k.toNat c = 0)) ∧ 8 ≤ k.toNat ∧ k.toNat ≤ 15) ({ (live.w [(Port.EVF_CH_SRC 3, inFld 14 12 2 ||| 264),
      (Port.EVF_GRP, 4), (Port.EVF_TASK 8, inFld 17 17 1 ||| inFld 14 9 3)]) with
        evf := { live.evf with tasks := [(3, [8])] } }) 8 3 ∧
    (fun (s : State) (k : BitVec 9) (ch : Fin 48) => s.chTasks ch.val = [k.toNat] ∧ ((∀ c, c < 48 → c ≠ ch.val →
      s.slotsDue k.toNat c = 0)) ∧ 16 ≤ k.toNat ∧ k.toNat ≤ 23) ({ (live.w [(Port.EVF_CH_SRC 3, inFld 14 12 2 |||
      264), (Port.EVF_GRP, 4), (Port.EVF_TASK 8, inFld 17 17 1 ||| inFld 14 9 3)]) with
        evf := { live.evf with tasks := [(3, [18])] } }) 18 3 ∧
    (fun (s : State) (k : BitVec 9) (ch : Fin 48) => s.chTasks ch.val = [k.toNat] ∧ ((∀ c, c < 48 → c ≠ ch.val →
      s.slotsDue k.toNat c = 0)) ∧ s.taskBusy k.toNat = true) ({ ((live.w [(Port.EVF_CH_SRC 3, inFld 14 12 2 ||| 264),
      (Port.EVF_GRP, 4), (Port.EVF_TASK 8, inFld 17 17 1 ||| inFld 14 9 3)]).w [(Port.PSM_STAT 1, inFld 17 17 1)])
      with
        evf := { live.evf with tasks := [(3, [265])] } }) 265 3 := by
  decide +kernel

/-- States and operands that meet the hypotheses of TheEventFabricDelivers, clauses 13 on. -/
theorem met_TheEventFabricDelivers_13 :
    (fun (s : State) (k : BitVec 9) (a b : Fin 48) => a ≠ b ∧ s.chTasks a.val = [k.toNat] ∧ s.chTasks b.val =
      [k.toNat] ∧ ((∀ c, c < 48 → c ≠ a.val → c ≠ b.val → s.slotsDue k.toNat c = 0)) ∧ 8 ≤ k.toNat ∧ k.toNat ≤ 15) ({
      (live.w [(Port.EVF_CH_SRC 3, inFld 14 12 2 ||| 264), (Port.EVF_GRP, 4), (Port.EVF_TASK 8, inFld 17 17 1 |||
      inFld 14 9 3)]) with
        evf := { live.evf with tasks := [(3, [9]), (5, [9])] } }) 9 3 5 ∧
    (fun (s : State) (ch : Fin 48) => s.guardOpen ch.val ≠ 0 ∧ s.guardOver ch.val = true) (((live.w
      [(Port.EVF_CH_GUARD 3, inFld 17 9 5 ||| 4)]).setGuard 3 6).at_ 90000) 3 ∧
    (fun (s : State) (ch : Fin 48) => ((s.guardOpen ch.val = 0 ∨ s.time.stopped = true ∨ (s.time.link - BitVec.ofNat
      54 (s.guardOpen ch.val - 1)).toNat < s.getF (Port.EVF_CH_GUARD ch.val) 17 9 * 160))) (live) 3 := by
  decide +kernel

/-- States and operands that meet the hypotheses of TheEventFabricDelivers, clauses 16 on. -/
theorem met_TheEventFabricDelivers_16 :
    (fun (s : State) (m : Master) (v : Word) (k : Fin 8) (ch : Fin 48) => s.answers m Port.EVF_SW = true ∧ v = inFld
      k.val k.val 1 ∧ s.getF (Port.EVF_CH_SRC ch.val) 8 0 = Ev.sw k.val ∧ ((∀ c, c < 48 → c ≠ ch.val → s.getF
      (Port.EVF_CH_SRC c) 8 0 ≠ Ev.sw k.val)) ∧ s.grpOn ch.val = true ∧ s.gateLevel (s.getF (Port.EVF_CH_GATE ch.val)
      8 0) = true ∧ s.chTasks ch.val = [] ∧ s.slotsOf ch.val ≠ [] ∧ s.getF (Port.EVF_CH_GUARD ch.val) 17 9 = 0)
      (live.w [(Port.EVF_CH_SRC 3, inFld 14 12 2 ||| 264), (Port.EVF_GRP, 4), (Port.EVF_TASK 8, inFld 17 17 1 |||
      inFld 14 9 3)]) .apc 1 0 3 ∧
    (fun (s : State) (m : Master) (v : Word) => s.answers m Port.EVF_SW = true ∧ v = 0) (live) .apc 0 := by
  decide +kernel


/-- States and operands that meet the hypotheses of TimersCount, clauses 1 on. -/
theorem met_TimersCount_1 :
    (fun (s : State) (n : Fin 12) => ((s.timCounts n.val = false ∨ s.timAcc n.val < s.timDivisor n.val))) (live) 8 ∧
    (fun (s : State) (n : Fin 12) => s.timCounts n.val = true ∧ s.timDivisor n.val ≤ s.timAcc n.val ∧ s.timVal n.val
      tCount < s.timVal n.val tPeriod ∧ ((∀ k, k < 4 → s.timCaptures n.val k = true ∨ s.timVal n.val (tCc k) ≠
      s.timVal n.val tCount + 1))) ({ (live.w [(Port.TIM_STAT 8, inFld 17 17 1), (Port.TIM_PERIOD 8, 9),
      (Port.TIM_CC_0 8, 7), (Port.TIM_COUNT 8, 4)]) with
        tim := { live.tim with acc := [(8, 600)] } }) 8 ∧
    (fun (s : State) (n : Fin 12) (k : Fin 4) => s.timCounts n.val = true ∧ s.timDivisor n.val ≤ s.timAcc n.val ∧
      s.timVal n.val tCount < s.timVal n.val tPeriod ∧ s.timCaptures n.val k.val = false ∧ s.timVal n.val (tCc k.val)
      = s.timVal n.val tCount + 1 ∧ ((∀ c, c < 48 → s.getF (Port.EVF_CH_SRC c) 8 0 = 0)) ∧ s.get (Port.TIM_IEN n.val)
      = 0 ∧ n.val < 8) ({ (live.w [(Port.TIM_STAT 7, inFld 17 17 1), (Port.TIM_PERIOD 7, 9), (Port.TIM_CC_0 7, 5),
      (Port.TIM_COUNT 7, 4)]) with
        tim := { live.tim with acc := [(7, 600)] } }) 7 0 := by
  decide +kernel

/-- States and operands that meet the hypotheses of TimersCount, clauses 4 on. -/
theorem met_TimersCount_4 :
    (fun (s : State) (n : Fin 12) (k : Fin 4) => s.timCounts n.val = true ∧ s.timDivisor n.val ≤ s.timAcc n.val ∧
      s.timVal n.val tCount < s.timVal n.val tPeriod ∧ s.timCaptures n.val k.val = false ∧ s.timVal n.val (tCc k.val)
      = s.timVal n.val tCount + 1 ∧ s.getB (Port.TIM_IEN n.val) k.val = true ∧ s.level = 0 ∧ s.phase = 0) (({ (live.w
      [(Port.TIM_STAT 8, inFld 17 17 1), (Port.TIM_PERIOD 8, 9), (Port.TIM_CC_0 8, 5), (Port.TIM_COUNT 8, 4)]) with
        tim := { live.tim with acc := [(8, 600)] } }).w [(Port.TIM_IEN 8, 1)]) 8 0 ∧
    (fun (s : State) (n : Fin 12) => s.timCounts n.val = true ∧ s.timDivisor n.val ≤ s.timAcc n.val ∧ s.timVal n.val
      tCount = s.timVal n.val tPeriod ∧ s.level = 0 ∧ s.phase = 0) ({ (live.w [(Port.TIM_STAT 8, inFld 17 17 1),
      (Port.TIM_PERIOD 8, 9), (Port.TIM_CC_0 8, 7), (Port.TIM_COUNT 8, 9)]) with
        tim := { live.tim with acc := [(8, 600)] } }) 8 ∧
    (fun (s : State) (m : Master) (n : Fin 12) => s.answers m (Port.TIM_CMD n.val) = true ∧ s.timSlave n.val = false)
      ({ (live.w [(Port.TIM_STAT 8, inFld 17 17 1), (Port.TIM_PERIOD 8, 9), (Port.TIM_CC_0 8, 7), (Port.TIM_COUNT 8,
      4)]) with
        tim := { live.tim with acc := [(8, 600)] } }) .apc 8 := by
  decide +kernel

/-- States and operands that meet the hypotheses of TimersCount, clauses 7 on. -/
theorem met_TimersCount_7 :
    (fun (s : State) (m : Master) (n : Fin 12) => s.answers m (Port.TIM_CMD n.val) = true ∧ s.timSlave n.val = false)
      ({ (live.w [(Port.TIM_STAT 8, inFld 17 17 1), (Port.TIM_PERIOD 8, 9), (Port.TIM_CC_0 8, 7), (Port.TIM_COUNT 8,
      4)]) with
        tim := { live.tim with acc := [(8, 600)] } }) .apc 8 ∧
    (fun (s : State) (m : Master) (n : Fin 12) => s.answers m (Port.TIM_CMD n.val) = true ∧ s.timSlave n.val = false)
      ({ (live.w [(Port.TIM_STAT 8, inFld 17 17 1), (Port.TIM_PERIOD 8, 9), (Port.TIM_CC_0 8, 7), (Port.TIM_COUNT 8,
      4)]) with
        tim := { live.tim with acc := [(8, 600)] } }) .apc 8 ∧
    (fun (s : State) (m : Master) (n : Fin 12) => s.answers m (Port.TIM_CMD n.val) = true ∧ s.timSlave n.val = true)
      (live.w [(Port.TIM_CTRL 8, inFld 13 13 1)]) .apc 9 := by
  decide +kernel

/-- States and operands that meet the hypotheses of TimersCount, clauses 10 on. -/
theorem met_TimersCount_10 :
    (fun (s : State) (m : Master) (n : Fin 12) (v : Word) => s.answers m (Port.TIM_PERIOD n.val) = true ∧ s.timSlave
      n.val = false ∧ s.timPair n.val = false ∧ s.timVal n.val tCount < v.toNat) ({ (live.w [(Port.TIM_STAT 8, inFld
      17 17 1), (Port.TIM_PERIOD 8, 9), (Port.TIM_CC_0 8, 7), (Port.TIM_COUNT 8, 4)]) with
        tim := { live.tim with acc := [(8, 600)] } }) .apc 8 6 ∧
    (fun (s : State) (m : Master) (n : Fin 12) (v : Word) => s.answers m (Port.TIM_PERIOD n.val) = true ∧ s.timSlave
      n.val = false ∧ s.timPair n.val = false ∧ v.toNat ≤ s.timVal n.val tCount ∧ s.level = 0 ∧ s.phase = 0) ({
      (live.w [(Port.TIM_STAT 8, inFld 17 17 1), (Port.TIM_PERIOD 8, 9), (Port.TIM_CC_0 8, 7), (Port.TIM_COUNT 8, 4)])
      with
        tim := { live.tim with acc := [(8, 600)] } }) .apc 8 3 ∧
    (fun (s : State) (m : Master) (n : Fin 12) (_v : Word) => s.answers m (Port.TIM_PERIOD n.val) = true ∧ s.timPair
      n.val = true) (live.w [(Port.TIM_CTRL 8, inFld 13 13 1)]) .apc 8 5 := by
  decide +kernel

/-- States and operands that meet the hypotheses of TimersCount, clauses 13 on. -/
theorem met_TimersCount_13 :
    (fun (s : State) (m : Master) (n : Fin 12) (v : Word) => s.answers m (Port.TIM_PERIOD n.val) = true ∧ s.timSlave
      n.val = true ∧ Cells.rd (fun _ => 0) s.tim.staged (16 * (n.val - 1) + tPeriod) = 1 ∧ s.timVal (n.val - 1) tCount
      < (Cells.rd (fun _ => 0) s.tim.stage (16 * (n.val - 1) + tPeriod)).toNat + 2 ^ 18 * v.toNat) ((live.w
      [(Port.TIM_CTRL 8, inFld 13 13 1)]).timStage 8 5 7) .apc 9 1 ∧
    (fun (s : State) (m : Master) (n : Fin 12) (k : Fin 4) (v : Word) => s.answers m (Port.TIM_CC_0 n.val + k.val) =
      true ∧ s.timSlave n.val = false ∧ s.timPair n.val = false ∧ s.timCaptures n.val k.val = false ∧ ((s.timRun n.val
      = false ∨ s.timVal n.val tCount < v.toNat ∨ s.timVal n.val tPeriod < v.toNat))) ({ (live.w [(Port.TIM_STAT 8,
      inFld 17 17 1), (Port.TIM_PERIOD 8, 9), (Port.TIM_CC_0 8, 7), (Port.TIM_COUNT 8, 4)]) with
        tim := { live.tim with acc := [(8, 600)] } }) .apc 8 2 6 ∧
    (fun (s : State) (m : Master) (n : Fin 12) (k : Fin 4) (v : Word) => s.answers m (Port.TIM_CC_0 n.val + k.val) =
      true ∧ s.timSlave n.val = false ∧ s.timPair n.val = false ∧ s.timCaptures n.val k.val = false ∧ s.timRun n.val =
      true ∧ v.toNat ≤ s.timVal n.val tCount ∧ v.toNat ≤ s.timVal n.val tPeriod ∧ s.level = 0 ∧ s.phase = 0) ({
      (live.w [(Port.TIM_STAT 8, inFld 17 17 1), (Port.TIM_PERIOD 8, 9), (Port.TIM_CC_0 8, 7), (Port.TIM_COUNT 8, 4)])
      with
        tim := { live.tim with acc := [(8, 600)] } }) .apc 8 2 3 := by
  decide +kernel

/-- States and operands that meet the hypotheses of TimersCount, clauses 16 on. -/
theorem met_TimersCount_16 :
    (fun (s : State) (m : Master) (n : Fin 12) (k : Fin 4) (_v : Word) => s.answers m (Port.TIM_CC_0 n.val + k.val) =
      true ∧ s.timSlave n.val = false ∧ s.timCaptures n.val k.val = true) (({ (live.w [(Port.TIM_STAT 8, inFld 17 17
      1), (Port.TIM_PERIOD 8, 9), (Port.TIM_CC_0 8, 7), (Port.TIM_COUNT 8, 4)]) with
        tim := { live.tim with acc := [(8, 600)] } }).w [(Port.TIM_CTRL 8, 4)]) .apc 8 2 3 ∧
    (fun (s : State) (m : Master) (n : Fin 12) (k : Fin 4) => s.answers m (Port.TIM_CC_0 n.val + k.val) = true ∧
      s.timSlave n.val = false) (({ (live.w [(Port.TIM_STAT 8, inFld 17 17 1), (Port.TIM_PERIOD 8, 9), (Port.TIM_CC_0
      8, 7), (Port.TIM_COUNT 8, 4)]) with
        tim := { live.tim with acc := [(8, 600)] } }).w [(Port.TIM_STAT 8, 0o700)]) .apc 8 2 := by
  decide +kernel


/-- States and operands that meet the hypotheses of TheCalendarAndItsCommands, clauses 1 on. -/
theorem met_TheCalendarAndItsCommands_1 :
    (fun (s : State) => s.time.rtcCommit = none ∧ s.time.rtcRunning = true ∧ s.get Port.RTC_SUB = 32767 ∧ ((∀ i, i < 6
      → s.getB (Port.RTC_ALM_SEC + i) 17 = false)) ∧ (s.get Port.RTC_SEC).toNat < 59) ((live.at_ 77).w [(Port.RTC_SUB,
      32767)]) ∧
    (fun (s : State) => s.time.rtcCommit = none ∧ s.time.rtcRunning = true ∧ s.get Port.RTC_SUB = 32767 ∧ ((∀ i, i < 6
      → s.getB (Port.RTC_ALM_SEC + i) 17 = false)) ∧ s.get Port.RTC_SEC = 59 ∧ s.get Port.RTC_MIN = 59 ∧ s.get
      Port.RTC_HOUR = 23 ∧ s.get Port.RTC_DAY = 28 ∧ s.get Port.RTC_MONTH = 2 ∧ (s.get Port.RTC_YEAR).toNat % 4 ≠ 0 ∧
      (s.get Port.RTC_YEAR).toNat < 256) ((live.at_ 77).w [(Port.RTC_SUB, 32767), (Port.RTC_SEC, 59), (Port.RTC_MIN,
      59), (Port.RTC_HOUR, 23), (Port.RTC_DAY, 28), (Port.RTC_MONTH, 2), (Port.RTC_YEAR, 7)]) ∧
    (fun (s : State) => s.time.rtcCommit = none ∧ s.time.rtcRunning = true ∧ s.get Port.RTC_SUB = 32767 ∧ s.get
      Port.RTC_SEC = 6 ∧ s.get Port.RTC_ALM_SEC = inFld 17 17 1 ||| 7 ∧ ((∀ i, 1 ≤ i → i < 6 → s.getB
      (Port.RTC_ALM_SEC + i) 17 = false)) ∧ s.level = 0 ∧ s.phase = 0) ((live.at_ 77).w [(Port.RTC_SUB, 32767),
      (Port.RTC_SEC, 6), (Port.RTC_ALM_SEC, inFld 17 17 1 ||| 7)]) := by
  decide +kernel

/-- States and operands that meet the hypotheses of TheCalendarAndItsCommands, clauses 4 on. -/
theorem met_TheCalendarAndItsCommands_4 :
    (fun (s : State) => s.time.rtcCommit = none ∧ s.time.rtcRunning = true ∧ s.get Port.RTC_SUB ≠ 32767) (live) ∧
    (fun (s : State) (m : Master) => s.answers m Port.RTC_CMD = true) (live) .apc ∧
    (fun (s : State) => s.time.rtcCommit = none) (live) := by
  decide +kernel

/-- States and operands that meet the hypotheses of TheCalendarAndItsCommands, clauses 7 on. -/
theorem met_TheCalendarAndItsCommands_7 :
    (fun (s : State) (f g : Word) (l : List Word) => s.time.rtcCommit = some (f, g, l) ∧ ((∀ i, i < 6 → s.getB
      (Port.RTC_ALM_SEC + i) 17 = false)))
      ({ live with time := { live.time with rtcCommit := some (5, 1, [1, 2, 3, 4, 5, 6]) } }) 5 1 [1, 2, 3, 4, 5, 6] ∧
    (fun (s : State) (m : Master) => s.answers m Port.RTC_CMD = true) (live.w [(Port.RTC_STAT, inFld 15 15 1)]) .apc ∧
    (fun (s : State) (m : Master) => s.answers m Port.RTC_CMD = true) (live.w [(Port.RTC_STAT, 7)]) .apc := by
  decide +kernel

/-- States and operands that meet the hypotheses of TheCalendarAndItsCommands, clauses 10 on. -/
theorem met_TheCalendarAndItsCommands_10 :
    (fun (s : State) (m : Master) => s.answers m Port.RTC_SEC = true) (live.w [(Port.RTC_MIN, 7)]) .apc ∧
    (fun (s : State) (m : Master) => s.snapped m = true)
      ({ live with latch := { live.latch with snapAge := [(0, 1)] } }) .apc ∧
    (fun (s : State) (m : Master) => s.snapped m = false) (live) .apc := by
  decide +kernel

/-- States and operands that meet the hypotheses of TheCalendarAndItsCommands, clauses 13 on. -/
theorem met_TheCalendarAndItsCommands_13 :
    (fun (s : State) (_late : Bool) => s.time.onBackup = true)
      ({ live with time := { live.time with onBackup := true } }) false ∧
    (fun (s : State) (_late : Bool) => s.time.onBackup = false ∧ s.getB Port.RTC_STAT 15 = false) (live.w
      [(Port.RTC_MIN, 7)]) true ∧
    (fun (s : State) (_late : Bool) => s.time.onBackup = false ∧ s.getB Port.RTC_STAT 15 = true) (live.w
      [(Port.RTC_STAT, inFld 15 15 1)]) true := by
  decide +kernel


/-- States and operands that meet the hypotheses of ResetsReachWhatTheyMay, clauses 6 on. -/
theorem met_ResetsReachWhatTheyMay_6 :
    (fun (s : State) (_cause : ColdCause) (_bootSel : BitVec 2) (_stackId : BitVec 3) => s.flc.op = none ∧
      s.sec.holding = []) (live) .command 2 1 ∧
    (fun (s : State) (_bootSel : BitVec 2) (_stackId : BitVec 3) => ((∀ x, x < 2 → (s.txc x).cur = none ∧ (s.txc
      x).accepted = []))) (live) 2 1 ∧
    (fun (s : State) (_cause : SysCause) (_bootSel : BitVec 2) (_stackId : BitVec 3) => s.flc.op = none ∧
      s.sec.holding = []) (live) .command 2 1 := by
  decide +kernel

/-- States and operands that meet the hypotheses of ResetsReachWhatTheyMay, clauses 15 on. -/
theorem met_ResetsReachWhatTheyMay_15 :
    (fun (s : State) (_cause : GroupCause) => s.held 0 = false) (live) .command ∧
    (fun (s : State) (_cause : GroupCause) => s.held 0 = false ∧ s.domOn 0 = true) (live) .command ∧
    (fun (s : State) (_cause : GroupCause) => s.held 0 = false) (live) .command := by
  decide +kernel

/-- States and operands that meet the hypotheses of ResetsReachWhatTheyMay, clauses 18 on. -/
theorem met_ResetsReachWhatTheyMay_18 :
    (fun (s : State) (_cause : GroupCause) => s.held 0 = true)
      ({ live with sec := { Sec.reset with holding := [(0, 1)] } }) .command ∧
    (fun (s : State) (_cause : GroupCause) => s.held 1 = false) (live) .command ∧
    (fun (s : State) (_cause : GroupCause) => s.held 1 = false ∧ s.domOn 1 = true ∧ s.domOn 2 = true)
      ({ live with link := { Link.reset with calendar := [(3, some someEntry)] } }) .command := by
  decide +kernel

/-- States and operands that meet the hypotheses of ResetsReachWhatTheyMay, clauses 21 on. -/
theorem met_ResetsReachWhatTheyMay_21 :
    (fun (s : State) (_cause : GroupCause) => s.held 1 = false) (live) .command ∧
    (fun (_s : State) (d : Fin 16) (_cause : DomCause) => 5 ≤ d.val) (live) 11 .command ∧
    (fun (_s : State) (d : Fin 16) (_cause : DomCause) => d.val < 5) (live) 3 .command := by
  decide +kernel


/-- States and operands that meet the hypotheses of BringUpAndLiveFragments, clauses 1 on. -/
theorem met_BringUpAndLiveFragments_1 :
    (fun (s : State) (_a _b : List Octet) => ((s.rig.booting = false ∨ s.time.stopped = true ∨ s.sec.trans ≠ 0)))
      (live) [] [] ∧
    (fun (s : State) (_a _b : List Octet) => s.rig.booting = true ∧ s.time.stopped = false ∧ s.sec.trans = 0 ∧
      s.fuses.err ≠ 0 ∧ s.flc.op = none) (State.reset.withFuses { Fuses.reset with dukBad := true }) [] [] ∧
    (fun (s : State) (_a _b : List Octet) (d : Nat) (r : List Nat) => s.rig.booting = true ∧ s.time.stopped = false ∧
      s.sec.trans = 0 ∧ s.fuses.err = 0 ∧ s.fuses.openIntents = d :: r) (State.reset.withFuses
      { Fuses.reset with intent := 2 }) [] [] 1 ([]) := by
  decide +kernel

/-- States and operands that meet the hypotheses of BringUpAndLiveFragments, clauses 4 on. -/
theorem met_BringUpAndLiveFragments_4 :
    (fun (s : State) (_a _b : List Octet) => s.rig.booting = true ∧ s.time.stopped = false ∧ s.sec.trans = 0 ∧
      s.fuses.err = 0 ∧ s.fuses.openIntents = []) (State.reset) [] [] ∧
    (fun (s : State) => ((s.rig.applied = false ∨ s.ready = true ∨ s.allUp = false ∨ s.time.stopped = true)) ∧
      s.latch.stall = none) (live) ∧
    (fun (s : State) => s.rig.applied = true ∧ s.ready = false ∧ s.allUp = true ∧ s.time.stopped = false ∧
      s.latch.stall = none) (live.w [(Port.RIG_STAT, 0)]) := by
  decide +kernel

/-- States and operands that meet the hypotheses of BringUpAndLiveFragments, clauses 7 on. -/
theorem met_BringUpAndLiveFragments_7 :
    (fun (s : State) (m : Master) => s.answers m Port.RIG_LIVE_CMD = true ∧ s.ready = true ∧ s.liveState = 1) (live.w
      [(Port.RIG_STAT, 9)]) .apc ∧
    (fun (s : State) (m : Master) => s.answers m Port.RIG_LIVE_CMD = true ∧ s.ready = true ∧ s.liveState ≠ 1) (live)
      .apc ∧
    (fun (s : State) => s.liveState ≠ 1) (live) := by
  decide +kernel

/-- States and operands that meet the hypotheses of BringUpAndLiveFragments, clauses 10 on. -/
theorem met_BringUpAndLiveFragments_10 :
    (fun (s : State) => s.liveState = 1 ∧ s.rig.liveFault ≠ 0 ∧ s.rig.liveFault < 64 ∧ s.rig.cipherOff = false)
      ({ (live.w [(Port.RIG_STAT, 9)]) with rig := { live.rig with liveFault := 5 } }) ∧
    (fun (s : State) => s.liveState = 1 ∧ s.rig.liveFault = 0) (live.w [(Port.RIG_STAT, 9)]) ∧
    (fun (s : State) (b : List Word) => s.liveState = 1 ∧ s.rig.liveFault = 0 ∧ s.domOn 2 = true ∧ rigBody s.rig.live
      12 = some b ∧ rigBody s.rig.live 7 = none ∧ rigBody s.rig.live 8 = none) ({ (live.w [(Port.RIG_STAT, 9)]) with
        rig := { live.rig with live := rigOf 12 [1, 2, 3, 4], words := [] } }) ([1, 2, 3, 4]) := by
  decide +kernel

/-- States and operands that meet the hypotheses of BringUpAndLiveFragments, clauses 13 on. -/
theorem met_BringUpAndLiveFragments_13 :
    (fun (s : State) (b : List Word) => s.liveState = 1 ∧ s.rig.liveFault = 0 ∧ s.domOn 11 = true ∧ rigBody s.rig.live
      7 = some b ∧ rigBody s.rig.live 8 = none ∧ rigBody s.rig.live 12 = none) ({ (live.w [(Port.RIG_STAT, 9)]) with
        rig := { live.rig with live := rigOf 7 [1, 0, 0o000100, 0], words := rigOf 7 [1, 0, 0, 0] } }) ([1, 0,
      0o000100, 0]) ∧
    (fun (s : State) (b : List Word) (_ch : Fin 48) => s.liveState = 1 ∧ s.rig.liveFault = 0 ∧ rigBody s.rig.live 8 =
      some b ∧ fld (b.getD 0 0) 11 0 = 0 ∧ rigBody s.rig.live 7 = none ∧ rigBody s.rig.live 12 = none) ({ (live.w
      [(Port.RIG_STAT, 9), (Port.EVF_CH_SRC 3, 5)]) with
        rig := { live.rig with live := rigOf 8 [0], words := [] } }) ([0]) 3 := by
  decide +kernel



/-- States and operands that meet the hypotheses of RegistersAnswerByTheirAccess, clauses 1 on. -/
theorem met_RegistersAnswerByTheirAccess_1 :
    (fun (s : State) (m : Master) (port : BitVec 16) (_v : Word) => s.ready = true ∧ s.ioGate port.toNat = .offDomain
      ∧ m.core = none) (live.w [(Port.PWR_DOM_STAT, 1)]) .host 0x2000 5 ∧
    (fun (s : State) (m : Master) (c : Core) (port : BitVec 16) (_v : Word) => s.ready = true ∧ s.ioGate port.toNat =
      .offDomain ∧ m.core = some c) (live.w [(Port.PWR_DOM_STAT, 1)]) .apc .apc 0x2000 5 ∧
    (fun (s : State) (m : Master) (port : BitVec 16) (_v : Word) => s.ioGate port.toNat = .notReady ∧ m ≠ .dbg)
      (State.reset) .host 0x7004 5 := by
  decide +kernel

/-- States and operands that meet the hypotheses of RegistersAnswerByTheirAccess, clauses 4 on. -/
theorem met_RegistersAnswerByTheirAccess_4 :
    (fun (s : State) (_port : BitVec 16) (_v : Word) => s.ready = false) (State.reset) 0x7004 5 ∧
    (fun (s : State) (port : BitVec 16) (v : Word) => s.rigReadyNow.ready = true ∧ s.rigReadyNow.latch.stall = some
      (port, some v)) ({ (live.w [(Port.RIG_STAT, 0)]) with
        latch := { live.latch with stall := some (0x0D06, some 5) } }) 0x0D06 5 ∧
    (fun (s : State) (m : Master) (port : BitVec 16) (_v : Word) => s.answers m port.toNat = true ∧ regRow port.toNat
      = none) (live) .host 0x03FF 5 := by
  decide +kernel

/-- States and operands that meet the hypotheses of RegistersAnswerByTheirAccess, clauses 7 on. -/
theorem met_RegistersAnswerByTheirAccess_7 :
    (fun (s : State) (m : Master) (port : BitVec 16) (_v : Word) => s.answers m Port.HPT_HIRQ_EN = true ∧ port =
      0x0D06) (live) .host 0x0D06 5 ∧
    (fun (s : State) (m : Master) (port : BitVec 16) (_v : Word) => s.answers m Port.HPT_HIRQ_PEND = true ∧ port =
      0x0D05) (live.w [(Port.HPT_HIRQ_PEND, 7)]) .host 0x0D05 5 ∧
    (fun (s : State) (m : Master) (port : BitVec 16) (r : RegRow) => s.answers m port.toNat = true ∧ regRow port.toNat
      = some r ∧ r.rc ≠ 0) (live.w [(Port.MNT_BUSYCNT, 7)]) .host 0x7005 (⟨0x7005, 1, 1, 0, 0, 0o777777, 0, false⟩) := by
  decide +kernel

/-- States and operands that meet the hypotheses of RegistersAnswerByTheirAccess, clauses 10 on. -/
theorem met_RegistersAnswerByTheirAccess_10 :
    (fun (s : State) (port : BitVec 16) => s.ioGate port.toNat ≠ .ok) (State.reset) 0x7005 ∧
    (fun (s : State) (m : Master) (c : Core) (port : BitVec 16) => s.ready = true ∧ s.ioGate port.toNat = .offDomain ∧
      m.core = some c) (live.w [(Port.PWR_DOM_STAT, 1)]) .apc .apc 0x2000 ∧
    (fun (s : State) (m : Master) (port : BitVec 16) => s.answers m (Port.LTB_TIME 0) = true ∧ port = 0x3800)
      (live.at_ 0x123456789AB) .lkc 0x3800 := by
  decide +kernel





/-- States and operands that meet the hypotheses of StrapsAreSampledAtEveryRelease, clauses 3 on. -/
theorem met_StrapsAreSampledAtEveryRelease_3 :
    (fun (s : State) (_b : BitVec 2) (_i : BitVec 3) => s.level ≠ 4 ∧ s.getB Port.CLK_STAT 17 = false) (live.w
      [(Port.CLK_STAT, 0)]) 2 1 := by
  decide +kernel


/-- States and operands that meet the hypotheses of AnAlarmThatMatchesIsRaised, clauses 1 on. -/
theorem met_AnAlarmThatMatchesIsRaised_1 :
    (fun (s : State) => s.time.rtcRunning = true ∧ s.time.rtcCommit = none ∧ s.get Port.RTC_SUB = 32767) (live.w
      [(Port.RTC_SEC, 6), (Port.RTC_SUB, 32767), (Port.RTC_ALM_SEC, inFld 17 17 1 ||| 7)]) ∧
    (fun (s : State) => s.time.rtcRunning = true ∧ s.time.rtcCommit = none ∧ s.get Port.RTC_SUB = 32767) (live.w
      [(Port.RTC_SEC, 6), (Port.RTC_SUB, 32767), (Port.RTC_ALM_SEC, inFld 17 17 1 ||| 8)]) ∧
    (fun (s : State) => s.time.rtcCommit.isSome = true) ({ (live.w [(Port.RTC_SEC, 6), (Port.RTC_ALM_SEC, inFld 17 17
      1 ||| 7)]) with
        time := { live.time with rtcCommit := some (1, 0, [7, 0, 0, 0, 0, 0]) } }) := by
  decide +kernel

/-- States and operands that meet the hypotheses of AnAlarmThatMatchesIsRaised, clauses 4 on. -/
theorem met_AnAlarmThatMatchesIsRaised_4 :
    (fun (s : State) => s.time.rtcCommit.isSome = true) ({ (live.w [(Port.RTC_SEC, 6), (Port.RTC_ALM_SEC, inFld 17 17
      1 ||| 8)]) with
        time := { live.time with rtcCommit := some (1, 0, [7, 0, 0, 0, 0, 0]) } }) := by
  decide +kernel


/-- States and operands that meet the hypotheses of TheSwitchOverStampIsTakenOnce, clauses 1 on. -/
theorem met_TheSwitchOverStampIsTakenOnce_1 :
    (fun (s : State) (_late : Bool) => s.time.onBackup = false ∧ s.getB Port.RTC_STAT 15 = false) (live.w
      [(Port.RTC_MIN, 7)]) false ∧
    (fun (s : State) (_late : Bool) => s.time.onBackup = false ∧ s.getB Port.RTC_STAT 15 = true) (live.w
      [(Port.RTC_MIN, 7), (Port.RTC_STAT, inFld 15 15 1)]) false ∧
    (fun (s : State) (m : Master) => s.answers m Port.RTC_CMD = true) (live.w [(Port.RTC_STAT, inFld 15 15 1)]) .apc := by
  decide +kernel



/-- A state whose queue has a command in front, as AStepRunsTheCommandAtTheFront asks. -/
theorem met_AStepRunsTheCommandAtTheFront :
    ({ live with pending := [.sluiceGrant, .idcode] } : State).pending = .sluiceGrant :: [.idcode] := by
  rfl

/-- A state as AnEmptyQueueLetsOneTickPass asks: the queue empty, REFCLK running, no correction. -/
theorem met_AnEmptyQueueLetsOneTickPass :
    live.pending = [] ∧ live.time.stopped = false ∧ live.utv.slew = 0 ∧ live.utv.trim = 0 ∧ live.utv.trimAcc = 0 ∧
    ({ live with time := { live.time with stopped := true } } : State).time.stopped = true := by
  decide +kernel

/-- A master and a state as ResetCommandsNeedTheirKey asks, a word without the key, and one with it for each class. -/
theorem met_ResetCommandsNeedTheirKey :
    live.answers .host Port.RST_CMD = true ∧ fld (0o550100 : Word) 17 9 ≠ 0o551 ∧
    ([1, 2, 3, 4, 5].all fun k => decide (fld (inFld 17 9 0o551 ||| inFld 8 6 k ||| inFld 3 0 11) 17 9 = 0o551) &&
      decide (fld (inFld 17 9 0o551 ||| inFld 8 6 k ||| inFld 3 0 11) 8 6 = k) &&
      decide (fld (inFld 17 9 0o551 ||| inFld 8 6 k ||| inFld 3 0 11) 3 0 = 11)) = true := by
  decide +kernel

/-- A state in the middle of a transition that NoStepUndoesAFuse speaks of, and a step from it. -/
theorem met_NoStepUndoesAFuse :
    (fun s : State => s.fuseOrder ∧ ∃ t, step s = .next t)
      { live with sec := { Sec.reset with trans := 1 }, fuses := { Fuses.reset with intent := 2 }, pending := [.idcode] } :=
  ⟨by decide +kernel, _, rfl⟩

end Sys2Proof.Machine
end

/-! The statements of 00_scope.md: registers answer by their access (O52), and a named command against the write of
its register (O51). -/

namespace Sys2Proof.Machine

open Sys2Proof

/-! ## The register table: which ports it lists (R5, R7) -/

/-- A page of the register table has a group of `n` ports from `b`, `st` apart, all of them ports of that page. -/
def inTable (b st n : Nat) : Bool :=
  (regPage (b / 4096)).any (fun r => r.base == b && r.stride == st && r.count == n) &&
    decide (b % 4096 + st * (n - 1) < 4096)

theorem regRow_eq_none_iff (p : Nat) : regRow p = none ↔ ∀ r ∈ regPage (p / 4096), r.holds p = false := by
  simp only [regRow, List.find?_eq_none, Bool.not_eq_true]

theorem regRow_eq_some {p : Nat} {r : RegRow} (h : regRow p = some r) : r ∈ regPage (p / 4096) ∧ r.holds p = true :=
  ⟨List.mem_of_find?_eq_some h, List.find?_some (p := fun r : RegRow => r.holds p) h⟩

/-- A port of a group stands on the page of the group's first port. -/
theorem page_of_group {b st n p : Nat} (g : b % 4096 + st * (n - 1) < 4096) (hb : b ≤ p) (hs : (p - b) % st = 0)
    (hn : (p - b) / st < n) : p / 4096 = b / 4096 := by
  have reach : st * ((p - b) / st) ≤ st * (n - 1) := Nat.mul_le_mul_left st (by omega)
  have place : st * ((p - b) / st) = p - b := Nat.mul_div_cancel' (Nat.dvd_of_mod_eq_zero hs)
  omega

/-- A port that no table lists lies in no group of the table (R7). -/
theorem not_in_group {p : Nat} (h : regRow p = none) {b st n : Nat} (g : inTable b st n = true) :
    ¬(b ≤ p ∧ (p - b) % st = 0 ∧ (p - b) / st < n) := by
  rintro ⟨hb, hs, hn⟩
  simp only [inTable, Bool.and_eq_true, List.any_eq_true, beq_iff_eq, decide_eq_true_eq] at g
  obtain ⟨⟨r, hr, ⟨rfl, rfl⟩, rfl⟩, hpage⟩ := g
  rw [← page_of_group hpage hb hs hn] at hr
  have := (regRow_eq_none_iff p).mp h r hr
  simp [RegRow.holds, hb, hs, hn] at this

/-- A port that no table lists is no register that stands alone in its group. -/
theorem ne_register {p : Nat} (h : regRow p = none) {q : Nat} (g : inTable q 1 1 = true) : p ≠ q := by
  have := not_in_group h g
  omega

theorem inRange_iff (lo hi v : Nat) : inRange lo hi v = true ↔ lo ≤ v ∧ v ≤ hi := by
  simp only [inRange, Bool.and_eq_true, decide_eq_true_eq]


/-- A port that no table lists lies in no run of neighbouring registers. -/
theorem not_in_run {p : Nat} (h : regRow p = none) {lo hi : Nat} (g : inTable lo 1 (hi + 1 - lo) = true) :
    ¬inRange lo hi p = true := by
  have := not_in_group h g
  rw [inRange_iff]
  omega

/-- A port that no table lists is neither register of a pair. -/
theorem not_in_pair {p : Nat} (h : regRow p = none) {q st : Nat} (g : inTable q st 2 = true) (pos : 0 < st) :
    ¬(p = q ∨ p = q + st) := by
  have no := not_in_group h g
  rintro (rfl | rfl)
  · exact no (by simp)
  · exact no ⟨by omega, by simp, by simp [Nat.div_self pos]⟩

/-! ## A port that no table lists takes no write (R7) -/

section unlisted
variable {p : Nat} (h : regRow p = none) (s : State) (m : Master) (v : Word)
include h

theorem plainWrite_unlisted : s.plainWrite m p v = s := by
  rw [State.plainWrite, h]

theorem timWriteAt_unlisted (r : inRange 0x0800 0x0AFF p = true) : s.timWriteAt m p v = s := by
  have groups : ∀ i < 10, inTable (0x0800 + i) 64 12 = true := by decide +kernel
  rw [inRange_iff] at r
  have far : 10 ≤ p % 64 := by
    by_contra near
    have := not_in_group h (groups (p % 64) (by omega))
    omega
  simp only [State.timWriteAt, inRange_iff]
  rw [if_neg (by omega), if_neg (by omega), if_neg (by omega), if_neg (by omega), if_neg (by omega), if_neg (by omega)]
  exact plainWrite_unlisted h s m v

theorem psmWriteAt_unlisted (r : inRange 0x0E00 0x0FFF p = true) : s.psmWriteAt m p v = s := by
  have groups : ∀ i < 6, inTable (0x0E00 + i) 256 2 = true := by decide +kernel
  rw [inRange_iff] at r
  have far : 6 ≤ p % 256 := by
    by_contra near
    have := not_in_group h (groups (p % 256) (by omega))
    omega
  simp only [State.psmWriteAt]
  rw [if_neg (by omega), if_neg (by omega), if_neg (by omega), if_neg (by omega), if_neg (by omega)]
  exact plainWrite_unlisted h s m v

theorem not_evf_config : ¬(inRange 0x0400 0x057F p = true ∧ p % 8 < 3) := by
  have groups : ∀ i < 3, inTable (0x0400 + i) 8 48 = true := by decide +kernel
  rintro ⟨r, low⟩
  rw [inRange_iff] at r
  have := not_in_group h (groups (p % 8) low)
  omega

theorem not_rtc_stage : ¬inRange 0x0C10 0x0C15 p = true := by
  have single : ∀ i < 6, inTable (0x0C10 + i) 1 1 = true := by decide +kernel
  rw [inRange_iff]
  rintro ⟨lo, hi⟩
  exact ne_register h (single (p - 0x0C10) (by omega)) (by omega)

theorem write0_unlisted : s.write0 m p v = s := by
  have kick := not_in_pair h (q := 0x0B02) (st := 16) rfl (by decide)
  unfold State.write0
  iterate 6 rw [if_neg (ne_register h rfl)]
  rw [if_neg (not_evf_config h), if_neg (ne_register h rfl), if_neg (not_in_run h rfl)]
  split
  case isTrue tim => exact timWriteAt_unlisted h s m v tim
  rw [if_neg (not_in_pair h (st := 16) rfl (by decide)), if_neg (kick ∘ .inl), if_neg (kick ∘ .inr),
    if_neg (not_rtc_stage h)]
  iterate 4 rw [if_neg (ne_register h rfl)]
  split
  case isTrue psm => exact psmWriteAt_unlisted h s m v psm
  exact plainWrite_unlisted h s m v

theorem not_aperture : ¬inRange 0x1410 0x1421 p = true := by
  have config := not_in_group h (b := 0x1410) (st := 2) (n := 8) rfl
  have base := not_in_group h (b := 0x1411) (st := 2) (n := 8) rfl
  have csw := not_in_group h (b := 0x1420) (st := 1) (n := 2) rfl
  rw [inRange_iff]
  omega

theorem not_dmc_training : ¬(p = Port.DMC_CFG ∨ inRange 0x1818 0x181F p = true) := by
  rintro (config | delay)
  · exact ne_register h rfl config
  · have first := not_in_run h (lo := 0x1818) (hi := 0x181E) rfl
    have last : p ≠ 0x181F := ne_register h rfl
    rw [inRange_iff] at first delay
    omega

theorem write12_unlisted : s.write12 m p v = s := by
  unfold State.write12
  rw [if_neg (ne_register h rfl), if_neg (not_aperture h), if_neg (not_dmc_training h)]
  iterate 5 rw [if_neg (ne_register h rfl)]
  rw [if_neg (not_in_run h rfl), if_neg (not_in_run h rfl)]
  iterate 3 rw [if_neg (ne_register h rfl)]
  rw [plainWrite_unlisted h]

theorem not_seq_command : ¬(inRange 0x3000 0x33FF p = true ∧ p % 64 = 2) := by
  have command := not_in_group h (b := 0x3002) (st := 64) (n := 16) rfl
  rw [inRange_iff]
  omega

theorem not_watch_apply : ¬(inRange 0x4510 0x452F p = true ∧ p % 4 = 3) := by
  have last := not_in_group h (b := 0x4513) (st := 4) (n := 8) rfl
  rw [inRange_iff]
  omega

theorem not_lane_config : ¬(inRange 0x4800 0x4FFF p = true ∧ p % 32 < 8) := by
  have groups : ∀ i < 8, inTable (0x4800 + i) 32 64 = true := by decide +kernel
  rintro ⟨r, low⟩
  rw [inRange_iff] at r
  have := not_in_group h (groups (p % 32) low)
  omega

theorem not_lane_command : ¬(inRange 0x4800 0x4FFF p = true ∧ p % 32 = 8) := by
  have command := not_in_group h (b := 0x4808) (st := 32) (n := 64) rfl
  rw [inRange_iff]
  omega

theorem write34_unlisted : s.write34 m p v = s := by
  unfold State.write34
  rw [if_neg (not_seq_command h), if_neg (ne_register h rfl), if_neg (ne_register h rfl),
    if_neg (not_in_pair h (st := 256) rfl (by decide)), if_neg (not_in_pair h (st := 256) rfl (by decide)),
    if_neg (not_watch_apply h), if_neg (not_lane_config h), if_neg (not_lane_command h), plainWrite_unlisted h]

theorem write5_unlisted : s.write5 m p v = s := by
  unfold State.write5
  rw [if_neg (not_in_pair h (st := 256) rfl (by decide)), if_neg (not_in_pair h (st := 256) rfl (by decide)),
    if_neg (not_in_run h rfl), if_neg (not_in_pair h (st := 256) rfl (by decide))]
  iterate 3 rw [if_neg (ne_register h rfl)]
  rw [if_neg (not_in_pair h (st := 16) rfl (by decide)), if_neg (not_in_pair h (st := 16) rfl (by decide))]
  split
  case isTrue => rfl
  rw [if_neg (ne_register h rfl), plainWrite_unlisted h]

theorem write67_unlisted : s.write67 m p v = s := by
  unfold State.write67
  iterate 6 rw [if_neg (ne_register h rfl)]
  iterate 5 rw [if_neg (not_in_run h rfl)]
  iterate 3 rw [if_neg (not_in_pair h (st := 16) rfl (by decide))]
  rw [plainWrite_unlisted h]

/-- A port that no table lists takes no write (R7). -/
theorem writeEffect_unlisted : s.writeEffect m p v = s := by
  unfold State.writeEffect
  rw [write0_unlisted h, write12_unlisted h, write34_unlisted h, write5_unlisted h, write67_unlisted h]
  simp only [ite_self]

end unlisted

/-! ## An access that no register answers (R18, R40) -/

section unanswered
variable {s : State} {m : Master} {p : Nat}

theorem masterWrite_answered (v : Word) (a : s.answers m p = true) : s.masterWrite m p v = s.writeEffect m p v :=
  if_pos a

theorem masterRead_answered (a : s.answers m p = true) :
    s.masterRead m p = (s.readEffect m p).setData m (s.readValue m p) := if_pos a

theorem answers_of_gate (g : s.ioGate p ≠ .ok) : s.answers m p = false := by
  simp [State.answers, g]

theorem masterWrite_gated (v : Word) (g : s.ioGate p ≠ .ok) : s.masterWrite m p v = s.unanswered m p (some v) := by
  rw [State.masterWrite, answers_of_gate g]; rfl

/-- A read that no register answers returns 0 to a master that does not stall. -/
theorem masterRead_gated (g : s.ioGate p ≠ .ok) (up : ¬(m = .dbg ∧ s.ready = false)) :
    s.masterRead m p = (s.unanswered m p none).setData m 0 := by
  rw [State.masterRead, answers_of_gate g, if_neg (by decide), if_neg up]

/-- The debugger's access before READY finds no register: it stalls, and the bus holds one (R40, log entry 130). -/
theorem masterWrite_stalls (v : Word) (down : s.ready = false) : s.masterWrite .dbg p v =
    if s.latch.stall.isSome then s
    else { s with latch := { s.latch with stall := some (BitVec.ofNat 16 p, some v) } } := by
  simp [State.masterWrite, State.answers, State.ioBlind, State.unanswered, down]

/-- A core's access of a domain that is off takes the I/O fault (R18). -/
theorem unanswered_core {c : Core} (w : Option Word) (hc : m.core = some c) (off : s.ioGate p = .offDomain) :
    s.unanswered m p w = s.ioFault c w.isSome p := by
  have notDbg : m ≠ .dbg := by rintro rfl; cases hc
  simp [State.unanswered, notDbg, hc, off]

/-- Any other access that neither stalls nor faults leaves the state (log entry 130). -/
theorem unanswered_keeps (w : Option Word) (up : ¬(m = .dbg ∧ s.ready = false))
    (quiet : m.core = none ∨ s.ioGate p ≠ .offDomain) : s.unanswered m p w = s := by
  rw [State.unanswered, if_neg up]
  cases hc : m.core with
  | none => rfl
  | some c => exact if_neg (quiet.resolve_left (by simp [hc]))

end unanswered

/-! ## What a read changes (R5, R15) -/

/-- The word a read returned stands in the master's record. -/
theorem rd_setData (s : State) (m : Master) (v : Word) :
    Cells.rd (fun _ => 0) (s.setData m v).latch.data m.num = v := Cells.rd_wr_same _ _ _ _

theorem latched_setData (s : State) (m n : Master) (v : Word) (q : Nat) : (s.setData m v).latched n q = s.latched n q :=
  rfl

/-- Latching higher words changes latches alone. -/
theorem latchWords_frame (m : Master) (l : List Nat) (s : State) :
    ∃ x, forEach l (fun q u => u.setLatch m q (u.view m q)) s = { s with latch := x } := by
  refine forEach_inv (fun t => ∃ x, t = { s with latch := x }) _ ?_ l s ⟨s.latch, rfl⟩
  rintro q _ ⟨x, rfl⟩
  exact ⟨_, rfl⟩

/-- Ports whose read moves a stream on, takes a snapshot or selects through another register. -/
def streamPorts : List Nat := [Port.BSN_RDATA, Port.RTC_SEC, 0x0E06, 0x0F06, 0x4005, 0x4105, 0x7F05, 0x7F15]

theorem streamPorts_rc : ∀ q ∈ streamPorts, ∀ r ∈ regPage (q / 4096), r.holds q = true → r.rc = 0 := by decide +kernel

/-- No timer register has bits that a read clears: every group that has stands below or above the timers. -/
theorem timer_rc : ∀ r ∈ regPage 0, r.rc ≠ 0 → 0x0AFF < r.base ∨ r.base + r.stride * (r.count - 1) < 0x0800 := by
  decide +kernel

/-- A port of a group lies between the group's first port and its last. -/
theorem bounds_of_holds {r : RegRow} {p : Nat} (h : r.holds p = true) :
    r.base ≤ p ∧ p ≤ r.base + r.stride * (r.count - 1) := by
  simp only [RegRow.holds, Bool.and_eq_true, decide_eq_true_eq] at h
  obtain ⟨⟨hb, hs⟩, hn⟩ := h
  have reach : r.stride * ((p - r.base) / r.stride) ≤ r.stride * (r.count - 1) := Nat.mul_le_mul_left _ (by omega)
  have place : r.stride * ((p - r.base) / r.stride) = p - r.base := Nat.mul_div_cancel' (Nat.dvd_of_mod_eq_zero hs)
  omega

/-- A read of a register with rc bits latches its higher words and clears those bits (R5). -/
theorem readEffect_rc (s : State) (m : Master) {p : Nat} {r : RegRow} (h : regRow p = some r) (hr : r.rc ≠ 0) :
    ∃ x, s.readEffect m p = ({ s with latch := x }).set p (s.get p &&& ~~~r.rc) := by
  obtain ⟨mem, holds⟩ := regRow_eq_some h
  have stream : p ∉ streamPorts := fun q => hr (streamPorts_rc p q r mem holds)
  have timer : ¬inRange 0x0800 0x0AFF p = true := by
    rw [inRange_iff]
    rintro ⟨lo, hi⟩
    rw [show p / 4096 = 0 by omega] at mem
    have := timer_rc r mem hr
    have := bounds_of_holds holds
    omega
  obtain ⟨x, hx⟩ := latchWords_frame m (s.higherWords p) s
  refine ⟨x, ?_⟩
  simp only [streamPorts, List.mem_cons, List.not_mem_nil, or_false, not_or] at stream
  obtain ⟨rdata, sec, rxd, rxd', peak, peak', dbg, dbg'⟩ := stream
  simp only [State.readEffect, rdata, sec, rxd, rxd', peak, peak', dbg, dbg', timer, h, hr, hx, if_false, or_self,
    false_and, Bool.false_eq_true]
  rfl

/-! ## Link time as a master reads it (R15) -/

theorem master_num_inj {m n : Master} (h : m.num = n.num) : m = n := by
  cases m <;> cases n <;> simp_all [Master.num]

theorem latched_setLatch (s : State) (m : Master) (p : Nat) (v : Word) : (s.setLatch m p v).latched m p = some v :=
  Cells.rd_wr_same (fun _ => none) s.latch.multi (latchKey m p) (some v)

theorem latched_setLatch_other (s : State) {m n : Master} {p q : Nat} (v : Word) (hp : p < 65536) (hq : q < 65536)
    (h : m ≠ n ∨ p ≠ q) : (s.setLatch m p v).latched n q = s.latched n q := by
  refine Cells.rd_wr_other (fun _ => none) s.latch.multi (some v) fun e => ?_
  unfold latchKey at e
  rcases h with h | h
  · exact h (master_num_inj (by omega))
  · omega

/-- The row of the three words of link time: bits that neither hide nor clear. -/
theorem regRow_time : ∀ i < 3, regRow (Port.LTB_TIME i) = some ⟨0x3800, 1, 3, 0, 0, 0, 0, false⟩ := by decide +kernel

/-- A register without hidden bits shows its latched word, where it is one that latches, else its live value. -/
theorem readValue_shown (s : State) (m : Master) {p : Nat} {r : RegRow} (h : regRow p = some r)
    (unhidden : r.hidden = 0) :
    s.readValue m p = if s.latchable p then (s.latched m p).getD (s.view m p) else s.view m p := by
  have shown : s.view m p &&& ~~~r.hidden = s.view m p := by
    rw [unhidden]; exact BitVec.and_allOnes
  simp only [State.readValue, h, shown]

/-- The low word of link time is never latched. -/
theorem readValue_time0 (s : State) (m : Master) : s.readValue m (Port.LTB_TIME 0) = s.time.link.extractLsb' 0 18 :=
  readValue_shown s m (regRow_time 0 (by decide)) rfl

theorem readValue_time1 (s : State) (m : Master) : s.readValue m (Port.LTB_TIME 1) =
    (s.latched m (Port.LTB_TIME 1)).getD (s.time.link.extractLsb' 18 18) :=
  readValue_shown s m (regRow_time 1 (by decide)) rfl

theorem readValue_time2 (s : State) (m : Master) : s.readValue m (Port.LTB_TIME 2) =
    (s.latched m (Port.LTB_TIME 2)).getD (s.time.link.extractLsb' 36 18) :=
  readValue_shown s m (regRow_time 2 (by decide)) rfl

/-- A read of link time's low word latches the two higher words as they stand (R15). -/
theorem readEffect_time0 (s : State) (m : Master) : s.readEffect m (Port.LTB_TIME 0) =
    (s.setLatch m (Port.LTB_TIME 1) (s.time.link.extractLsb' 18 18)).setLatch m (Port.LTB_TIME 2)
      (s.time.link.extractLsb' 36 18) := by
  have words : s.higherWords (Port.LTB_TIME 0) = [Port.LTB_TIME 1, Port.LTB_TIME 2] := rfl
  have latches : forEach (s.higherWords (Port.LTB_TIME 0)) (fun q u => u.setLatch m q (u.view m q)) s =
      (s.setLatch m (Port.LTB_TIME 1) (s.time.link.extractLsb' 18 18)).setLatch m (Port.LTB_TIME 2)
        (s.time.link.extractLsb' 36 18) := by
    rw [words]; rfl
  rw [← latches]
  simp [State.readEffect, regRow_time 0, inRange]

/-! ## A plain write (R5) -/

section plain
variable (s : State) (m : Master) (v : Word)

/-- A field that is rw as a whole takes the value written. -/
theorem rwMask_all (w v : Word) : (w &&& ~~~(0o777777 : Word) ||| v &&& 0o777777) &&& ~~~(v &&& 0) = v := by
  have all : (0o777777 : Word) = BitVec.allOnes 18 := rfl
  rw [all]; simp [-BitVec.reduceNot, -BitVec.reduceAllOnes]

/-- A field that is w1c as a whole loses the bits written 1. -/
theorem w1cMask_all (w v : Word) : (w &&& ~~~(0 : Word) ||| v &&& 0) &&& ~~~(v &&& 0o777777) = w &&& ~~~v := by
  have all : (0o777777 : Word) = BitVec.allOnes 18 := rfl
  rw [all]; simp [-BitVec.reduceNot, -BitVec.reduceAllOnes]

theorem writeEffect_hirqEn : s.writeEffect m Port.HPT_HIRQ_EN v = s.set Port.HPT_HIRQ_EN v := by
  have row : regRow Port.HPT_HIRQ_EN = some ⟨0x0D06, 1, 1, 0o777777, 0, 0, 0, false⟩ := by decide +kernel
  calc s.writeEffect m Port.HPT_HIRQ_EN v
    _ = s.plainWrite m Port.HPT_HIRQ_EN v := rfl
    _ = s.set Port.HPT_HIRQ_EN v := by
      simp only [State.plainWrite, row, rwMask_all]; rfl

theorem writeEffect_hirqPend :
    s.writeEffect m Port.HPT_HIRQ_PEND v = s.set Port.HPT_HIRQ_PEND (s.get Port.HPT_HIRQ_PEND &&& ~~~v) := by
  have row : regRow Port.HPT_HIRQ_PEND = some ⟨0x0D05, 1, 1, 0, 0o777777, 0, 0, false⟩ := by decide +kernel
  calc s.writeEffect m Port.HPT_HIRQ_PEND v
    _ = s.plainWrite m Port.HPT_HIRQ_PEND v := rfl
    _ = s.set Port.HPT_HIRQ_PEND (s.get Port.HPT_HIRQ_PEND &&& ~~~v) := by
      simp only [State.plainWrite, row, w1cMask_all]; rfl

end plain

/-! ## The clauses of RegistersAnswerByTheirAccess that read -/

/-- A read of a register with rc bits returns what it shows and clears those bits alone (R5). -/
theorem masterRead_rc {s : State} {m : Master} {p : Nat} {r : RegRow} (a : s.answers m p = true)
    (h : regRow p = some r) (hr : r.rc ≠ 0) :
    Cells.rd (fun _ => 0) (s.masterRead m p).latch.data m.num = s.readValue m p ∧
    (s.masterRead m p).get p = s.get p &&& ~~~r.rc ∧ (∀ q, q ≠ p → (s.masterRead m p).get q = s.get q) ∧
    s.masterRead m p = { s with regs := (s.masterRead m p).regs, latch := (s.masterRead m p).latch } := by
  obtain ⟨x, hx⟩ := readEffect_rc s m h hr
  rw [masterRead_answered a, hx]
  refine ⟨rd_setData _ m _, ?_, fun q hq => ?_, rfl⟩
  · rw [State.setData_get, State.get_set_same]
  · rw [State.setData_get, State.get_set_other _ _ hq.symm]; rfl

/-- After a read of link time's low word the master's reads of the higher words answer the words held, any other
master's what they answered before (R15). -/
theorem masterRead_time0 {s : State} {m : Master} (a : s.answers m (Port.LTB_TIME 0) = true) :
    Cells.rd (fun _ => 0) (s.masterRead m (Port.LTB_TIME 0)).latch.data m.num = s.time.link.extractLsb' 0 18 ∧
    (s.masterRead m (Port.LTB_TIME 0)).readValue m (Port.LTB_TIME 1) = s.time.link.extractLsb' 18 18 ∧
    (s.masterRead m (Port.LTB_TIME 0)).readValue m (Port.LTB_TIME 2) = s.time.link.extractLsb' 36 18 ∧
    (∀ n : Master, n ≠ m →
      (s.masterRead m (Port.LTB_TIME 0)).readValue n (Port.LTB_TIME 1) = s.readValue n (Port.LTB_TIME 1) ∧
      (s.masterRead m (Port.LTB_TIME 0)).readValue n (Port.LTB_TIME 2) = s.readValue n (Port.LTB_TIME 2)) ∧
    s.masterRead m (Port.LTB_TIME 0) = { s with latch := (s.masterRead m (Port.LTB_TIME 0)).latch } := by
  have after : s.masterRead m (Port.LTB_TIME 0) =
      ((s.setLatch m (Port.LTB_TIME 1) (s.time.link.extractLsb' 18 18)).setLatch m (Port.LTB_TIME 2)
        (s.time.link.extractLsb' 36 18)).setData m (s.time.link.extractLsb' 0 18) := by
    rw [masterRead_answered a, readEffect_time0, readValue_time0]
  have held1 : (s.masterRead m (Port.LTB_TIME 0)).latched m (Port.LTB_TIME 1) =
      some (s.time.link.extractLsb' 18 18) := by
    rw [after, latched_setData, latched_setLatch_other _ _ (by decide) (by decide) (.inr (by decide)), latched_setLatch]
  have held2 : (s.masterRead m (Port.LTB_TIME 0)).latched m (Port.LTB_TIME 2) =
      some (s.time.link.extractLsb' 36 18) := by
    rw [after, latched_setData, latched_setLatch]
  have others : ∀ n, n ≠ m → ∀ q < 65536, (s.masterRead m (Port.LTB_TIME 0)).latched n q = s.latched n q := by
    intro n ne q hq
    rw [after, latched_setData, latched_setLatch_other _ _ (by decide) hq (.inl ne.symm),
      latched_setLatch_other _ _ (by decide) hq (.inl ne.symm)]
  have time : (s.masterRead m (Port.LTB_TIME 0)).time = s.time := by rw [after]; rfl
  refine ⟨?_, ?_, ?_, fun n ne => ⟨?_, ?_⟩, ?_⟩
  · rw [after]; exact rd_setData _ m _
  · rw [readValue_time1, held1]; rfl
  · rw [readValue_time2, held2]; rfl
  · rw [readValue_time1, readValue_time1, others n ne _ (by decide), time]
  · rw [readValue_time2, readValue_time2, others n ne _ (by decide), time]
  · rw [after]; rfl

/-- Settles O52, clause by clause: a gated access by what an unanswered access does, a port that no table lists by the
guards of every write function, and the reads by what a read changes. -/
theorem registersAnswerByTheirAccess : Obligations.RegistersAnswerByTheirAccess := by
  unfold Obligations.RegistersAnswerByTheirAccess
  intro s
  refine ⟨fun m port v up off host => ⟨_, rfl, ?off_ignored⟩,
    fun m c port v up off core => ⟨_, rfl, ?off_faults⟩,
    fun m port v gate notDbg => ⟨_, rfl, ?early_ignored⟩,
    fun port v down => ⟨_, rfl, ?early_stalls⟩,
    fun port v up stall => ⟨_, rfl, ?stalled_completes⟩,
    fun m port v a unlisted => ⟨_, rfl, ?unlisted_ignored⟩,
    fun m port v a e => ⟨_, rfl, ?hirqEn_stored⟩,
    fun m port v a e => ⟨_, rfl, ?hirqPend_cleared⟩,
    fun m port r a row rc => ⟨_, rfl, masterRead_rc a row rc⟩,
    fun port gate => ⟨_, rfl, ?unanswered_host_reads_zero⟩,
    fun m c port up off core => ⟨_, rfl, ?off_read_faults⟩,
    fun m port a e => ⟨_, rfl, ?time_latched⟩⟩
  case off_ignored =>
    rw [masterWrite_gated v (by simp [off]), unanswered_keeps _ (by simp [up]) (.inl host)]
  case off_faults =>
    rw [masterWrite_gated v (by simp [off]), unanswered_core _ core off]; rfl
  case early_ignored =>
    rw [masterWrite_gated v (by simp [gate]), unanswered_keeps _ (by simp [notDbg]) (.inr (by simp [gate]))]
  case early_stalls =>
    rw [masterWrite_stalls v down]
    split <;> simp [*]
  case stalled_completes => simp [State.stallEnd, stall, up]
  case unlisted_ignored => rw [masterWrite_answered v a, writeEffect_unlisted unlisted]
  case hirqEn_stored => subst e; exact (masterWrite_answered v a).trans (writeEffect_hirqEn s m v)
  case hirqPend_cleared => subst e; exact (masterWrite_answered v a).trans (writeEffect_hirqPend s m v)
  case unanswered_host_reads_zero =>
    rw [masterRead_gated gate (by simp), unanswered_host]
    exact ⟨rd_setData s .host 0, rfl⟩
  case off_read_faults =>
    rw [masterRead_gated (by simp [off]) (by simp [up]), unanswered_core _ core off]
    exact ⟨rd_setData _ m 0, rfl⟩
  case time_latched => subst e; exact masterRead_time0 a

/-! ## A full calibration by its name and by its register -/

/-- A transmit-only event of KIND 4 in the horizon, with the sequencer it has and whether it waits for one. -/
def txEvent (seq : Option Nat) (waiting : Bool) : CalEntry :=
  { kind := 4, anchor := 100000, inHorizon := true, seq := seq, lane := none, waiting := waiting, entered := 0,
    txOnly := true, after := none }

/-- READY with every domain released: the event of context 3 waits for a sequencer while sequencer 1 is spare, and the
Sluice inhibits chain A's calibration. -/
def waitingState : State :=
  { State.reset with
    regs := [(Port.PWR_DOM_STAT, 0o777777), (Port.RIG_STAT, 1), (Port.SEQ_STAT 1, inFld 17 15 1),
      (Port.MNT_INHIBIT, inFld 3 3 1)],
    link := { Link.reset with calendar := [(3, some (txEvent none true))] } }

/-- The write of RXC_A_CALCMD leaves the event waiting. -/
theorem calcmdWrite_leaves_waiting :
    (waitingState.masterWrite .apc (Port.RXC_CALCMD 0) 1).cal 3 = some (txEvent none true) := by decide +kernel

/-- The named command serves the pending list, and the event gets sequencer 1. -/
theorem fullCal_serves_waiting :
    (waitingState.portCmd .apc (Port.RXC_CALCMD 0) 1 fun t => (t.rxCalcmd 0 1).servePending.sniffDetached).cal 3 =
      some (txEvent (some 1) false) := by decide +kernel

/-- Refutes O51: `rxcFullCal` serves the events that wait for units (R177) after the calibration's start, the register
write of RXC_A_CALCMD with 1 does not; from `waitingState` the two answer different states. -/
theorem not_namedCommandsAreRegisterWrites : ¬ Obligations.NamedCommandsAreRegisterWrites := by
  unfold Obligations.NamedCommandsAreRegisterWrites
  intro h
  have same : ∀ c : RxChain, exec (.rxcFullCal .apc c) waitingState =
      exec (.registerWrite .apc (BitVec.ofNat 16 (Port.RXC_CALCMD c.num)) 1) waitingState := by
    obtain ⟨-, -, -, -, -, -, -, -, -, -, -, -, -, -, -, -, -, -, -, -, -, -, -, -, -, -, -, -, -, -, -, -, -, -, -,
      -, -, -, fullCal, -⟩ := h .apc waitingState
    exact fullCal
  have cal := congrArg (fun t => State.cal t 3) (Host.Outcome.next.inj (same .a))
  have placed := fullCal_serves_waiting.symm.trans (cal.trans calcmdWrite_leaves_waiting)
  exact absurd placed (by decide)

end Sys2Proof.Machine

/-! The statements of 01_architecture.md: what the resets leave alone (O49), and a step against the queue (O53). -/

namespace Sys2Proof.Machine

open Sys2Proof

/-! ## The front of the queue -/

/-- Settles O53: the queue has a front, so a step is no tick. -/
theorem aStepRunsTheCommandAtTheFront : Obligations.AStepRunsTheCommandAtTheFront := by
  unfold Obligations.AStepRunsTheCommandAtTheFront
  intro s c r front
  obtain ⟨empty, -⟩ | ⟨c', r', front', ran⟩ := step_cases s
  · rw [front] at empty; cases empty
  · obtain ⟨rfl, rfl⟩ := List.cons.inj (front.symm.trans front')
    exact ran

/-! ## The queues under a core's reset (R217) -/

theorem raise_basin (s : State) (n : Nat) : (s.raise n).basin = s.basin := by
  obtain ⟨_, _, _, _, rest⟩ := (raise_frame s n).rest
  rw [rest]

/-- A queue's marks raise events and leave the Basin as it is (R218). -/
theorem checkMarks_basin (s : State) (q old : Nat) : (s.checkMarks q old).basin = s.basin := by
  unfold State.checkMarks
  cases s.marks q with
  | none => rfl
  | some bounds =>
    dsimp only
    split
    · exact raise_basin _ _
    · split
      · exact raise_basin _ _
      · rfl

theorem readyCheck_basin (s : State) (q : Nat) : (s.readyCheck q).basin = s.basin := by
  have shown : (if s.queueOwner q = 2 then s.setB Port.HPT_HIRQ_PEND 16 true else s).basin = s.basin := by
    split <;> rfl
  unfold State.readyCheck
  dsimp only
  split
  · rw [raise_basin, shown]
  · exact shown

theorem marked_queues (s : State) (q : Nat) (f : State → State) :
    (s.marked q f).basin.queues = (f s).basin.queues :=
  congrArg Basin.queues (checkMarks_basin (f s) q _)

theorem chargeAll_queues (s : State) (v : Nat) (l : List CellLoc) :
    (s.chargeAll v l).basin.queues = s.basin.queues :=
  forEach_keeps (fun t => t.basin.queues) _ (fun x _ => by cases x <;> rfl) l s

theorem freeAll_queues (s : State) (l : List CellLoc) : (s.freeAll l).basin.queues = s.basin.queues :=
  forEach_keeps (fun t => t.basin.queues) _ (fun x _ => by cases x <;> rfl) l s

theorem queue_of_queues {s t : State} (h : t.basin.queues = s.basin.queues) (q : Nat) : t.queue q = s.queue q :=
  congrArg (Cells.rd (fun _ => []) · q) h

/-- A packet that goes back stands at the head of its queue. -/
theorem unpopPkt_queue (s : State) (q : Nat) (p : Pkt) : (s.unpopPkt q p).queue q = p :: s.queue q := by
  have queues : (s.marked q fun s => (s.setQueue q (p :: s.queue q)).chargeAll (q + 2) p.cells).basin.queues =
      (s.setQueue q (p :: s.queue q)).basin.queues := by
    rw [marked_queues, chargeAll_queues]
  have returned := (queue_of_queues queues q).trans (s.queue_setQueue q _)
  unfold State.unpopPkt
  dsimp only
  split
  · rw [queue_of_queues (congrArg Basin.queues (readyCheck_basin _ q))]; exact returned
  · exact returned

/-- The reset of a master's copy puts its open read packet back at the head of its queue (R217). -/
theorem copyReset_returns_read_packet (s : State) (m : Master) {q : Nat} {p : Pkt}
    (opened : (s.copy m.num).rpkt = some (q, p)) : (s.copyReset m).queue q = p :: s.queue q := by
  have returned : ∀ t : State, t.basin.queues = s.basin.queues → (t.unpopPkt q p).queue q = p :: s.queue q :=
    fun t freed => by rw [unpopPkt_queue, queue_of_queues freed]
  unfold State.copyReset
  simp only [opened]
  cases (s.copy m.num).wpkt with
  | none => exact returned s rfl
  | some written => exact returned _ ((marked_queues s written.1 _).trans (freeAll_queues s written.2.cells))

/-- So an application-group reset leaves a queue longer than it was, when the APC held its head open to read. -/
theorem groupReset_apc_returns_read_packet (s : State) (cause : GroupCause) {q : Nat} {p : Pkt}
    (free : s.held 0 = false) (up : s.domOn 0 = true) (opened : (s.copy 0).rpkt = some (q, p)) :
    (s.groupReset .apc cause).queue q = p :: s.queue q := by
  have stopped : (s.domStop 0 true).queue q = (s.copyReset .apc).queue q := by
    rw [State.domStop, if_pos up]; rfl
  have reset : (s.groupReset .apc cause).queue q = (s.domStop 0 true).queue q := by
    rw [State.groupReset, if_neg (by rw [Core.num, free]; decide)]; rfl
  rw [reset, stopped, copyReset_returns_read_packet s .apc opened]

/-- A packet of a header cell and one payload cell (R205). -/
def readPacket : Pkt := { cells := [.sram 0, .sram 1], len := 8, epoch := 0 }

/-- The APC has taken the only packet of queue 0 and reads it. -/
def readingState : State :=
  { State.reset with basin := { Basin.reset with used := [(0, 2), (1, 2)],
                                                 copies := [(0, { BsnCopy.idle with rpkt := some (0, readPacket) })] } }

/-- Refutes O49: clause (17) has an application-group reset leave the Basin's queues, yet the packet the APC holds open to
read goes back to the head of its queue (R217): queue 0 of `readingState` is empty before the reset and holds that
packet after it. -/
theorem not_resetsReachWhatTheyMay : ¬ Obligations.ResetsReachWhatTheyMay := by
  unfold Obligations.ResetsReachWhatTheyMay
  intro h
  obtain ⟨-, -, -, -, -, -, -, -, -, -, -, -, -, -, -, -, leaves, -⟩ := h readingState
  obtain ⟨t, ran, -, -, -, -, -, queues, -⟩ := leaves .command rfl
  have ended : readingState.groupReset .apc .command = t := Host.Outcome.next.inj ran
  have kept : t.queue 0 = readingState.queue 0 := queue_of_queues queues 0
  have returned : t.queue 0 = readPacket :: readingState.queue 0 := by
    rw [← ended]; exact groupReset_apc_returns_read_packet readingState .command rfl rfl rfl
  exact List.cons_ne_self _ _ (returned.symm.trans kept)

end Sys2Proof.Machine

/-! The statements of 02_rig_and_bring_up.md: the straps of a reset (O56), and a live fragment that fails (O50). -/

namespace Sys2Proof.Machine

open Sys2Proof

/-! ## The straps stand in RIG_STRAP (R27) -/

/-- The state has sampled the BOOT_SEL balls at `b`: RIG_STRAP shows them and the boot ROM will read them. -/
def State.Sampled (b : BitVec 2) (s : State) : Prop := s.get Port.RIG_STRAP = b.setWidth 18 ∧ s.pins.bootSel = b

theorem straps_sampled (s : State) (b : BitVec 2) (i : BitVec 3) : (s.straps b i).Sampled b :=
  ⟨State.get_set_same _ _ _, rfl⟩

/-- A write of any other register leaves what was sampled. -/
theorem State.Sampled.set {b : BitVec 2} {s : State} (h : s.Sampled b) {p : Nat} (v : Word) (ne : p ≠ Port.RIG_STRAP) :
    (s.set p v).Sampled b :=
  ⟨(State.get_set_other s v ne).trans h.1, h.2⟩

theorem State.Sampled.setB {b : BitVec 2} {s : State} (h : s.Sampled b) {p : Nat} (k : Nat) (v : Bool)
    (ne : p ≠ Port.RIG_STRAP) : (s.setB p k v).Sampled b :=
  h.set _ ne

theorem State.Sampled.setF {b : BitVec 2} {s : State} (h : s.Sampled b) {p : Nat} (hi lo v : Nat)
    (ne : p ≠ Port.RIG_STRAP) : (s.setF p hi lo v).Sampled b :=
  h.set _ ne

theorem State.Sampled.count {b : BitVec 2} {s : State} (h : s.Sampled b) {p : Nat} (ne : p ≠ Port.RIG_STRAP) :
    (s.count p).Sampled b :=
  h.set _ ne

theorem State.Sampled.setTime {b : BitVec 2} {s : State} (h : s.Sampled b) (x : Time) :
    ({ s with time := x } : State).Sampled b :=
  h

theorem State.Sampled.resetCause {b : BitVec 2} {s : State} (h : s.Sampled b) (cls bit dom : Nat) :
    (s.resetCause cls bit dom).Sampled b :=
  (h.setB bit true (by decide)).set _ (by decide)

theorem coldResetNow_sampled (s : State) (cause : ColdCause) (b : BitVec 2) (i : BitVec 3) :
    (s.coldResetNow cause b i).Sampled b :=
  (straps_sampled _ b i).resetCause _ _ _

/-- A system reset writes the registers of its cause after the straps, none of them RIG_STRAP. -/
theorem sysResetNow_sampled (s : State) (cause : SysCause) (b : BitVec 2) (i : BitVec 3) :
    (s.sysResetNow cause b i).Sampled b := by
  have released : ∀ u : State, ((u.straps b i).resetCause 2 (sysBit cause) 0).Sampled b :=
    fun u => (straps_sampled u b i).resetCause 2 (sysBit cause) 0
  unfold State.sysResetNow
  dsimp only
  cases cause with
  | command => exact released _
  | watchdog => exact released _
  | pll => exact (released _).count (by decide)
  | refLoss =>
    exact ((((released _).setTime _).setB 12 true (by decide)).setF 17 16 0 (by decide)).count (by decide) |>.setB 0 true
      (by decide)

/-- The release of the reset that loss of REFCLK started. -/
theorem refBack_of_lost {s : State} (b : BitVec 2) (i : BitVec 3) (run : s.level ≠ 4)
    (lost : s.getB Port.CLK_STAT 17 = false) :
    s.refBack b i =
      (({ s with time := { s.time with stopped := false } }).setF Port.CLK_STAT 17 16 3).straps b i := by
  rw [State.refBack, if_neg (by simp [run, lost])]

/-- That release writes two registers of the system block, the clocks and the straps. -/
theorem refBack_touches {s : State} (b : BitVec 2) (i : BitVec 3) (run : s.level ≠ 4)
    (lost : s.getB Port.CLK_STAT 17 = false) :
    s.touches [.regs, .time, .pins] [Blk.sys] (s.refBack b i) := by
  rw [refBack_of_lost b i run lost]
  refine ⟨fun part other => ?parts, fun q outside => ?registers⟩
  case parts =>
    cases part with
    | regs | time | pins => simp at other
    | cores | pends => exact ⟨rfl, rfl⟩
    | _ => rfl
  case registers =>
    have out : q < 0x0000 ∨ 0x03FF < q := outside Blk.sys (List.mem_singleton_self _)
    have apart : ∀ p ≤ 0x03FF, p ≠ q := by omega
    exact (State.get_set_other _ _ (apart Port.RIG_STRAP (by decide))).trans
      (State.get_set_other _ _ (apart Port.CLK_STAT (by decide)))

/-- Settles O56: each of the three ends in `straps`, or writes other registers after it. -/
theorem strapsAreSampledAtEveryRelease : Obligations.StrapsAreSampledAtEveryRelease := by
  unfold Obligations.StrapsAreSampledAtEveryRelease
  intro s
  refine ⟨fun cause b i => ⟨_, rfl, coldResetNow_sampled s cause b i⟩,
    fun cause b i => ⟨_, rfl, sysResetNow_sampled s cause b i⟩,
    fun b i run lost => ⟨_, rfl, refBack_touches b i run lost, ?released⟩⟩
  rw [refBack_of_lost b i run lost]
  exact ⟨(straps_sampled _ b i).1, rfl, rfl⟩

/-! ## A live fragment that fails (R46) -/

/-- READY, and a live fragment whose check ended with code 1, while channel 0 of the event fabric names RIG_LIVE and
its group is off. -/
def failedFragment : State :=
  { State.reset with
    regs := [(Port.RIG_STAT, inFld 5 3 1 ||| 1), (Port.EVF_CH_SRC 0, BitVec.ofNat 18 Irq.RIG_LIVE)],
    rig := { State.reset.rig with liveFault := 1 } }

theorem failedFragment_stopcnt : failedFragment.get (Port.EVF_CH_STOPCNT 0) = 0 := rfl

/-- The raise of RIG_LIVE that ends the check reaches channel 0, which counts it as stopped (R415). -/
theorem failedFragment_liveEnd_stopcnt :
    (failedFragment.liveEnd fun t => t.domOff 15).get (Port.EVF_CH_STOPCNT 0) = 1 := by decide +kernel

/-- Refutes O50: clause (10) has a fragment that fails change no register outside the system block, yet RIG_LIVE, which it
raises, is a producer of the event fabric as well (R421): the end of the check of `failedFragment` counts in
EVF_CH_0_STOPCNT, port 0x0405. -/
theorem not_bringUpAndLiveFragments : ¬ Obligations.BringUpAndLiveFragments := by
  unfold Obligations.BringUpAndLiveFragments
  intro h
  obtain ⟨-, -, -, -, -, -, -, -, -, fails, -⟩ := h failedFragment
  obtain ⟨t, ran, -, -, -, others, -⟩ := fails (by decide +kernel) (by decide) (by decide) rfl
  have ended : failedFragment.liveEnd (fun t => t.domOff 15) = t := Host.Outcome.next.inj ran
  have kept := others (Port.EVF_CH_STOPCNT 0) (.inr (by decide))
  rw [← ended, failedFragment_liveEnd_stopcnt, failedFragment_stopcnt] at kept
  exact absurd kept (by decide)

end Sys2Proof.Machine

/-! The statements of 03_receive_chains.md: lane commands (O2), blanking, lane faults and watch lanes (O4), and a packet
toward a queue that the Basin does not have (O1, O3). -/

namespace Sys2Proof.Machine

open Sys2Proof

/-! ## What an operation touches -/

theorem Part.same.trans {p : Part} {s t u : State} (h : p.same s t) (k : p.same t u) : p.same s u := by
  cases p with
  | cores =>
    obtain ⟨apc, lkc⟩ := h
    obtain ⟨apc', lkc'⟩ := k
    exact ⟨apc'.trans (by rw [apc]), lkc'.trans (by rw [lkc])⟩
  | pends => exact ⟨k.1.trans h.1, k.2.trans h.2⟩
  | _ => exact Eq.trans k h

theorem Part.same.refl (p : Part) (s : State) : p.same s s := by
  cases p with
  | cores | pends => exact ⟨rfl, rfl⟩
  | _ => rfl

theorem State.touches.refl (ps : List Part) (bs : List (Nat × Nat)) (s : State) : State.touches ps bs s s :=
  ⟨fun p _ => Part.same.refl p s, fun _ _ => rfl⟩

theorem State.touches.trans {ps : List Part} {bs : List (Nat × Nat)} {s t u : State} (h : State.touches ps bs s t)
    (k : State.touches ps bs t u) : State.touches ps bs s u :=
  ⟨fun p out => (h.1 p out).trans (k.1 p out), fun q out => (k.2 q out).trans (h.2 q out)⟩

theorem State.touches.mono {ps ps' : List Part} {bs bs' : List (Nat × Nat)} {s t : State} (h : State.touches ps bs s t)
    (hp : ∀ p ∈ ps, p ∈ ps') (hb : ∀ b ∈ bs, b ∈ bs') : State.touches ps' bs' s t :=
  ⟨fun p out => h.1 p fun mem => out (hp p mem), fun q out => h.2 q fun b mem => out b (hb b mem)⟩

/-- One operation after another touches what either touches. -/
theorem State.touches.seq {ps ps' : List Part} {bs bs' : List (Nat × Nat)} {s t u : State}
    (h : State.touches ps bs s t) (k : State.touches ps' bs' t u) : State.touches (ps ++ ps') (bs ++ bs') s u :=
  (h.mono (fun _ => List.mem_append_left _) fun _ => List.mem_append_left _).trans
    (k.mono (fun _ => List.mem_append_right _) fun _ => List.mem_append_right _)

theorem State.touches.ite {ps : List Part} {bs : List (Nat × Nat)} {s t u : State} {p : Prop} [Decidable p]
    (h : State.touches ps bs s t) (k : State.touches ps bs s u) : State.touches ps bs s (if p then t else u) := by
  split
  · exact h
  · exact k

theorem forEach_touches {α : Type} {ps : List Part} {bs : List (Nat × Nat)} (f : α → State → State)
    (h : ∀ a t, State.touches ps bs t (f a t)) (l : List α) (s : State) : State.touches ps bs s (forEach l f s) :=
  forEach_inv (State.touches ps bs s) f (fun a t k => k.trans (h a t)) l s (.refl ps bs s)

theorem set_touches (s : State) {b : Nat × Nat} {p : Nat} (v : Word) (hp : b.1 ≤ p ∧ p ≤ b.2) :
    State.touches [.regs] [b] s (s.set p v) := by
  refine ⟨fun part other => ?parts, fun q outside => ?registers⟩
  case parts => cases part <;> simp_all [Part.same]
  case registers =>
    have out : q < b.1 ∨ b.2 < q := outside b (List.mem_singleton_self b)
    exact s.get_set_other v (by omega)

theorem setWide_touches (s : State) {b : Nat × Nat} {p n : Nat} (v : Nat) (hp : b.1 ≤ p ∧ p + n ≤ b.2 + 1) :
    State.touches [.regs] [b] s (s.setWide p n v) := by
  refine ⟨fun part other => ?parts, fun q outside => ?registers⟩
  case parts => cases part <;> simp_all [Part.same]
  case registers =>
    have out : q < b.1 ∨ b.2 < q := outside b (List.mem_singleton_self b)
    rw [State.get_setWide, length_splitWords, if_neg (by omega)]

theorem setLane_touches (s : State) (l : Nat) (x : Lane) : State.touches [.lanes] [] s (s.setLane l x) :=
  ⟨fun part other => by cases part <;> simp_all [Part.same], fun _ _ => rfl⟩

theorem basin_touches (s : State) (x : Basin) : State.touches [.basin] [] s { s with basin := x } :=
  ⟨fun part other => by cases part <;> simp_all [Part.same], fun _ _ => rfl⟩

theorem mem_touches (s : State) (x : Mem) : State.touches [.mem] [] s { s with mem := x } :=
  ⟨fun part other => by cases part <;> simp_all [Part.same], fun _ _ => rfl⟩

theorem rx_touches (s : State) (x : Rx) : State.touches [.rx] [] s { s with rx := x } :=
  ⟨fun part other => by cases part <;> simp_all [Part.same], fun _ _ => rfl⟩

theorem link_touches (s : State) (x : Link) : State.touches [.link] [] s { s with link := x } :=
  ⟨fun part other => by cases part <;> simp_all [Part.same], fun _ _ => rfl⟩

theorem trim_touches (s : State) (x : Trim) : State.touches [.trim] [] s { s with trim := x } :=
  ⟨fun part other => by cases part <;> simp_all [Part.same], fun _ _ => rfl⟩

theorem latch_touches (s : State) (x : Latches) : State.touches [.latch] [] s { s with latch := x } :=
  ⟨fun part other => by cases part <;> simp_all [Part.same], fun _ _ => rfl⟩

theorem free_touches (s : State) (n : Nat) : State.touches [] [] s { s with free := n } :=
  ⟨fun part other => by cases part <;> simp_all [Part.same], fun _ _ => rfl⟩

theorem raise_touches (s : State) (n : Nat) : State.touches [.regs, .pends, .evf] [Blk.evf] s (s.raise n) := by
  obtain ⟨regs, ⟨a, apc⟩, ⟨b, lkc⟩, r, x, y, e, rest⟩ := raise_frame s n
  refine ⟨fun part other => ?parts, fun q outside => ?registers⟩
  case parts =>
    cases part with
    | regs | pends | evf => simp at other
    | cores => exact ⟨by rw [apc], by rw [lkc]⟩
    | _ => exact (congrArg _ rest :)
  case registers =>
    have out : q < 0x0400 ∨ 0x07FF < q := outside Blk.evf (List.mem_singleton_self _)
    exact regs q (by omega)


/-! ## What a raise, a queue and a placement touch (R177, R181-R187, R209-R220) -/

theorem fld_lt (w : Word) (hi lo : Nat) : fld w hi lo < 2 ^ (hi + 1 - lo) := Nat.mod_lt _ (Nat.two_pow_pos _)

theorem ctxF_queue (s : State) (c : Nat) : s.ctxF c 1 6 0 < 128 := fld_lt _ 6 0

theorem chargeAll_touches (s : State) (v : Nat) (l : List CellLoc) : State.touches [.basin] [] s (s.chargeAll v l) := by
  refine forEach_touches _ (fun x t => ?_) l s
  cases x with
  | sram c => exact basin_touches t _
  | _ => exact .refl _ _ t

/-- A queue's watermark events change its STAT, and nothing else but what they raise (R218). -/
theorem checkMarks_touches (s : State) {q : Nat} {b : Nat × Nat} (old : Nat)
    (hq : b.1 ≤ Port.BSN_Q_STAT q ∧ Port.BSN_Q_STAT q ≤ b.2) :
    State.touches [.regs, .pends, .evf] [Blk.evf, b] s (s.checkMarks q old) := by
  have crossed : ∀ v w n, State.touches [.regs, .pends, .evf] [Blk.evf, b] s
      (((s.set (Port.BSN_Q_STAT q) v).set (Port.BSN_Q_STAT q) w).raise n) := fun v w n =>
    (((set_touches s v hq).trans (set_touches _ w hq)).seq (raise_touches _ n)).mono (by decide) (by simp)
  unfold State.checkMarks
  cases s.marks q with
  | none => exact .refl _ _ s
  | some bounds => exact .ite (crossed _ _ _) (.ite (crossed _ _ _) (.refl _ _ s))

/-- Parts that cells moving toward a queue touch. -/
abbrev queueParts : List Part := [.regs, .pends, .basin, .evf]

/-- A queue of the Basin has its registers in the Basin's block. -/
theorem marked_touches (s : State) {q : Nat} {f : State → State} (hq : q < 128)
    (h : State.touches [.basin] [] s (f s)) : State.touches queueParts [Blk.evf, Blk.bsn] s (s.marked q f) :=
  (h.seq (checkMarks_touches (b := Blk.bsn) (f s) _ (by unfold Blk.bsn Port.BSN_Q_STAT; omega))).mono
    (by decide) (by decide)

theorem takeHole_touches (s : State) {q : Nat} (hq : q < 128) :
    State.touches queueParts [Blk.evf, Blk.bsn] s (s.takeHole q).2 := by
  unfold State.takeHole
  split
  · exact marked_touches s (f := fun t => t.charge s.nextCell (q + 2)) hq (basin_touches s _)
  · exact .refl _ _ s

theorem holeCell_touches (s : State) {q : Nat} (hq : q < 128) :
    State.touches queueParts [Blk.evf, Blk.bsn] s (s.holeCell q).2 := by
  have taken := takeHole_touches s hq
  unfold State.holeCell
  cases hole : s.takeHole q with
  | mk cell t =>
    rw [hole] at taken
    cases cell <;> exact taken

theorem setHeader_touches (s : State) (p : Pkt) (i : Nat) (v : Word) :
    State.touches [.mem, .basin] [] s (s.setHeader p i v) := by
  unfold State.setHeader
  cases p.head with
  | sram c | dram d => exact (mem_touches s _).mono (by decide) (by decide)
  | held n => exact (basin_touches s _).mono (by decide) (by decide)
  | lost => exact .refl _ _ s

theorem setHeaders_touches (p : Pkt) (l : List Word) (i : Nat) (s : State) :
    State.touches [.mem, .basin] [] s (s.setHeaders p i l) := by
  induction l generalizing i s with
  | nil => exact .refl _ _ s
  | cons v r ih => exact (setHeader_touches s p i v).trans (ih (i + 1) _)

theorem readyCheck_touches (s : State) (q : Nat) :
    State.touches [.regs, .pends, .evf] [Blk.evf, Blk.hpt] s (s.readyCheck q) := by
  have shown : State.touches [.regs] [Blk.hpt] s
      (if s.queueOwner q = 2 then s.setB Port.HPT_HIRQ_PEND 16 true else s) :=
    .ite (set_touches s _ (by decide)) (.refl _ _ s)
  unfold State.readyCheck
  exact .ite ((shown.seq (raise_touches _ _)).mono (by decide) (by decide)) (shown.mono (by decide) (by decide))

theorem commitPkt_touches (s : State) {q : Nat} (p : Pkt) (hq : q < 128) :
    State.touches queueParts [Blk.evf, Blk.hpt, Blk.bsn] s (s.commitPkt q p) := by
  have queued := marked_touches s (f := fun s => (s.setQueue q (s.queue q ++ [p])).chargeAll (q + 2) p.cells) hq
    ((basin_touches s _).trans (chargeAll_touches _ _ _))
  unfold State.commitPkt
  exact .ite (((queued.seq (basin_touches _ _)).seq (readyCheck_touches _ q)).mono (by decide) (by decide))
    (queued.mono (by decide) (by decide))

theorem commitHole_touches (s : State) {q : Nat} (c : CellLoc) (epoch : BitVec 6) (src source : Nat) (t : BitVec 54)
    (hq : q < 128) :
    State.touches [.regs, .mem, .pends, .basin, .evf] [Blk.evf, Blk.hpt, Blk.bsn] s (s.commitHole q c epoch src source t) :=
  ((setHeaders_touches _ _ _ s).seq (commitPkt_touches _ _ hq)).mono (by decide) (by decide)

/-- Parts that the order keeper touches. -/
abbrev keeperParts : List Part := [.regs, .mem, .pends, .basin, .trim, .evf]

/-- Blocks that the order keeper touches. -/
abbrev keeperBlocks : List (Nat × Nat) := [Blk.evf, Blk.hpt, Blk.bsn, Blk.trm]

theorem freeHole_touches (s : State) (e : OkEntry) : State.touches queueParts [Blk.evf, Blk.bsn] s (s.freeHole e) := by
  unfold State.freeHole
  cases e.hole with
  | none => exact .refl _ _ s
  | some c => exact marked_touches s (ctxF_queue s e.ctx) (basin_touches s _)

theorem closeDone_touches (s : State) : State.touches keeperParts keeperBlocks s s.closeDone :=
  ((trim_touches s _).seq (forEach_touches _ (fun e t => freeHole_touches t e) _ _)).mono (by decide) (by decide)

theorem expireEntry_touches (s : State) (e : OkEntry) : State.touches keeperParts keeperBlocks s (s.expireEntry e) := by
  have hq := ctxF_queue s e.ctx
  have ended : ∀ u : State, State.touches keeperParts keeperBlocks u
      (((u.setEntries (u.entries.erase e)).count Port.TRM_HOLECNT).raise Irq.TRM_HOLE).closeDone := fun u =>
    ((((trim_touches u _).seq (set_touches (b := Blk.trm) _ _ (by decide))).seq (raise_touches _ _)).seq
      (closeDone_touches _)).mono (by decide) (by decide)
  have committed : ∀ (u : State) (c : CellLoc), State.touches keeperParts keeperBlocks u
      (u.commitHole (s.ctxF e.ctx 1 6 0) c e.epoch 2 e.ctx e.opened) := fun u c =>
    (commitHole_touches u c _ _ _ _ hq).mono (by decide) (by decide)
  have found : State.touches keeperParts keeperBlocks s (s.holeCell (s.ctxF e.ctx 1 6 0)).2 :=
    (holeCell_touches s hq).mono (by decide) (by decide)
  unfold State.expireEntry
  refine State.touches.trans ?_ (ended _)
  cases e.hole with
  | some c => exact committed s _
  | none => exact .ite (found.trans (committed _ _)) (.refl _ _ s)

theorem ctxWr_touches (s : State) (c i : Nat) (v : Word) : State.touches [.mem] [] s (s.ctxWr c i v) := by
  unfold State.ctxWr
  exact .ite (.ite ((mem_touches s _).trans (mem_touches _ _)) (mem_touches s _)) (.refl _ _ s)

theorem openEntry_touches (s : State) (c : Nat) (units : List Nat) :
    State.touches keeperParts keeperBlocks s (s.openEntry c units) := by
  have room : State.touches keeperParts keeperBlocks s (if 32 ≤ s.entries.length then (match s.entries.head? with
      | some e => s.expireEntry e
      | none => s) else s) := by
    refine .ite ?_ (.refl _ _ s)
    cases s.entries.head? with
    | none => exact .refl _ _ s
    | some e => exact expireEntry_touches s e
  unfold State.openEntry
  refine room.trans ?_
  exact ((((takeHole_touches _ (ctxF_queue _ c)).seq (trim_touches _ _)).seq (ctxWr_touches _ _ _ _)).seq
    (set_touches (b := Blk.trm) _ _ (by decide))).mono (by decide) (by decide)

theorem leaveLane_touches (s : State) (c l : Nat) : State.touches keeperParts keeperBlocks s (s.leaveLane c l) :=
  .ite (openEntry_touches s c [l]) (.refl _ _ s)

theorem updCal_touches (s : State) (c : Nat) (f : CalEntry → CalEntry) : State.touches [.link] [] s (s.updCal c f) := by
  unfold State.updCal
  cases s.cal c with
  | none => exact .refl _ _ s
  | some e => exact link_touches s _

theorem updCal_sniff (s : State) (c : Nat) (f : CalEntry → CalEntry) : (s.updCal c f).link.sniff = s.link.sniff := by
  unfold State.updCal
  cases s.cal c <;> rfl

/-- Parts that the placement of events on units touches. -/
abbrev placeParts : List Part := [.regs, .mem, .pends, .basin, .link, .trim, .evf]

/-- What the placement of an event may change: the order keeper's parts, and calendar entries. -/
def State.Placed (s t : State) : Prop := State.touches placeParts keeperBlocks s t ∧ t.link.sniff = s.link.sniff

theorem updCal_placed (s : State) (c : Nat) (f : CalEntry → CalEntry) : s.Placed (s.updCal c f) :=
  ⟨(updCal_touches s c f).mono (by decide) (by decide), updCal_sniff s c f⟩

theorem State.Placed.trans {s t u : State} (h : s.Placed t) (k : t.Placed u) : s.Placed u :=
  ⟨h.1.trans k.1, k.2.trans h.2⟩

theorem State.Placed.refl (s : State) : s.Placed s := ⟨.refl _ _ s, rfl⟩

theorem leaveLane_placed (s : State) (c l : Nat) : s.Placed (s.leaveLane c l) := by
  have left := leaveLane_touches s c l
  exact ⟨left.mono (by decide) (by decide), congrArg Link.sniff (left.1 .link (by decide))⟩

theorem giveUnits_placed (s : State) (c q : Nat) (l : Option Nat) : s.Placed (s.giveUnits c q l) := by
  unfold State.giveUnits
  refine State.Placed.trans ?_ (updCal_placed _ c _)
  cases l with
  | none => exact .refl s
  | some l =>
    dsimp only
    split
    · exact .refl s
    · exact leaveLane_placed s c _

theorem assign_placed (s : State) (c : Nat) : s.Placed (s.assign c) := by
  unfold State.assign
  cases s.cal c with
  | none => exact .refl s
  | some e =>
    dsimp only
    split
    · exact giveUnits_placed s c _ none
    · exact giveUnits_placed s c _ (some _)
    · exact updCal_placed s c _

/-- Serving the pending list changes calendar entries and what the order keeper holds (R177, R181). -/
theorem servePending_placed (s : State) : s.Placed s.servePending :=
  forEach_inv s.Placed _ (fun c t h => h.trans (assign_placed t c)) _ s (.refl s)


/-! ## A lane's registers and what lies beyond them (R62, R63) -/

theorem State.otherLanes.trans {s t u : State} {l : Nat} (h : s.otherLanes l t) (k : t.otherLanes l u) :
    s.otherLanes l u := fun j hj ne =>
  ⟨(k j hj ne).1.trans (h j hj ne).1, fun r hr => ((k j hj ne).2 r hr).trans ((h j hj ne).2 r hr)⟩

/-- A register of lane `l`. -/
theorem set_otherLanes (s : State) {l p : Nat} (v : Word) (hp : 0x4800 + 32 * l ≤ p ∧ p < 0x4820 + 32 * l) :
    s.otherLanes l (s.set p v) := fun _ _ ne => ⟨rfl, fun _ _ => s.get_set_other v (by omega)⟩

theorem setWide_otherLanes (s : State) {l p n : Nat} (v : Nat)
    (hp : 0x4800 + 32 * l ≤ p ∧ p + n ≤ 0x4820 + 32 * l) : s.otherLanes l (s.setWide p n v) := fun _ _ ne =>
  ⟨rfl, fun _ _ => by rw [State.get_setWide, length_splitWords, if_neg (by omega)]⟩

theorem updLane_otherLanes (s : State) (l : Nat) (f : Lane → Lane) : s.otherLanes l (s.updLane l f) := fun _ _ ne =>
  ⟨s.lane_setLane_other _ (Ne.symm ne), fun _ _ => rfl⟩

/-- What touches no lane block leaves every register of a lane. -/
theorem State.touches.lanRegs {ps : List Part} {bs : List (Nat × Nat)} {s t : State} (h : State.touches ps bs s t)
    (away : ∀ b ∈ bs, b.2 < 0x4800 ∨ 0x4FFF < b.1) {p : Nat} (hp : 0x4800 ≤ p ∧ p < 0x5000) : t.get p = s.get p :=
  h.2 p fun b mem => by
    have := away b mem
    omega

/-- What touches no lane and no lane block leaves every lane as it is. -/
theorem State.touches.otherLanes {ps : List Part} {bs : List (Nat × Nat)} {s t : State} (h : State.touches ps bs s t)
    (l : Nat) (lanes : Part.lanes ∉ ps) (away : ∀ b ∈ bs, b.2 < 0x4800 ∨ 0x4FFF < b.1) : s.otherLanes l t :=
  fun k _ _ => ⟨congrArg (Cells.rd (fun _ => Lane.idle) · k) (h.1 .lanes lanes), fun r _ => h.lanRegs away (by omega)⟩

/-- What a write of a lane's registers and hidden state may change. -/
structure State.LaneAlone (l : Nat) (s t : State) : Prop where
  touches : State.touches [.regs, .lanes] [Blk.lan] s t
  others : s.otherLanes l t

theorem State.LaneAlone.refl (l : Nat) (s : State) : State.LaneAlone l s s :=
  ⟨.refl _ _ s, fun _ _ _ => ⟨rfl, fun _ _ => rfl⟩⟩

theorem State.LaneAlone.trans {l : Nat} {s t u : State} (h : State.LaneAlone l s t) (k : State.LaneAlone l t u) :
    State.LaneAlone l s u :=
  ⟨h.touches.trans k.touches, h.others.trans k.others⟩

theorem lanStat_touches {l : Nat} (hl : l < 64) (s : State) (v : Word) :
    State.touches [.regs] [Blk.lan] s (s.set (Port.LAN_STAT l) v) :=
  set_touches s v (by unfold Blk.lan Port.LAN_STAT; omega)

theorem lanStat_alone {l : Nat} (hl : l < 64) (s : State) (v : Word) :
    State.LaneAlone l s (s.set (Port.LAN_STAT l) v) :=
  ⟨(lanStat_touches hl s v).mono (by decide) (by decide), set_otherLanes s v (by unfold Port.LAN_STAT; omega)⟩

theorem setLaneState_alone {l : Nat} (hl : l < 64) (s : State) (v : Nat) : State.LaneAlone l s (s.setLaneState l v) :=
  lanStat_alone hl s _

theorem setLaneRole_alone {l : Nat} (hl : l < 64) (s : State) (v : Nat) : State.LaneAlone l s (s.setLaneRole l v) :=
  lanStat_alone hl s _

theorem setStatBit_alone {l : Nat} (hl : l < 64) (s : State) (b : Nat) (v : Bool) :
    State.LaneAlone l s (s.setB (Port.LAN_STAT l) b v) :=
  lanStat_alone hl s _

theorem updLane_alone (l : Nat) (s : State) (f : Lane → Lane) : State.LaneAlone l s (s.updLane l f) :=
  ⟨(setLane_touches s l _).mono (by decide) (by decide), updLane_otherLanes s l f⟩

theorem laneState_setLaneState (s : State) (l v : Nat) : (s.setLaneState l v).laneState l = v % 8 :=
  s.getF_setF_same _ 14 12 v (by decide)

theorem laneRole_setLaneState (s : State) (l v : Nat) : (s.setLaneState l v).laneRole l = s.laneRole l :=
  s.getF_setF_apart _ _ 14 12 v 17 15 (by decide) (by decide)

theorem laneRole_setLaneRole (s : State) (l v : Nat) : (s.setLaneRole l v).laneRole l = v % 8 :=
  s.getF_setF_same _ 17 15 v (by decide)

theorem laneState_setLaneRole (s : State) (l v : Nat) : (s.setLaneRole l v).laneState l = s.laneState l :=
  s.getF_setF_apart _ _ 17 15 v 14 12 (by decide) (by decide)

theorem getB_setLaneRole (s : State) (l v : Nat) {b : Nat} (hb : b < 15) :
    (s.setLaneRole l v).getB (Port.LAN_STAT l) b = s.getB (Port.LAN_STAT l) b := by
  unfold State.setLaneRole State.setF State.getB
  rw [State.get_set_same]
  exact bitOf_withFld_apart _ 17 15 v b (by decide) (.inl hb)

theorem getB_setLaneState (s : State) (l v : Nat) {b : Nat} (hb : b < 12) :
    (s.setLaneState l v).getB (Port.LAN_STAT l) b = s.getB (Port.LAN_STAT l) b := by
  unfold State.setLaneState State.setF State.getB
  rw [State.get_set_same]
  exact bitOf_withFld_apart _ 14 12 v b (by decide) (.inl hb)

theorem laneState_setStatBit (s : State) (l : Nat) (v : Bool) {b : Nat} (hb : b < 12) :
    (s.setB (Port.LAN_STAT l) b v).laneState l = s.laneState l := by
  unfold State.setB State.laneState State.getF
  rw [State.get_set_same]
  exact fld_withBit_apart _ b 14 12 v (by omega) (.inr hb)

theorem laneRole_setStatBit (s : State) (l : Nat) (v : Bool) {b : Nat} (hb : b < 12) :
    (s.setB (Port.LAN_STAT l) b v).laneRole l = s.laneRole l := by
  unfold State.setB State.laneRole State.getF
  rw [State.get_set_same]
  exact fld_withBit_apart _ b 17 15 v (by omega) (.inr (by omega))

/-! ## The commands of a lane (R62-R64, R67, R70) -/

/-- A command that its register answers does what its meaning says. -/
theorem completes_portCmd {i : Instr} {s : State} {m : Master} {p : Nat} {v : Word} {act : State → State}
    {P : State → Prop} (run : exec i s = .next (s.portCmd m p v act)) (a : s.answers m p = true) (h : P (act s)) :
    Completes i s P :=
  ⟨act s, run.trans (congrArg _ (portCmd_acts s m p v act a)), h⟩

section commands
variable {s : State} {l : Nat}

theorem laneCmd_start (role : s.laneRole l = 4) (idle : s.laneState l = 0) : s.laneCmd l 1 = s.laneStart l := by
  simp [State.laneCmd, role, idle]

theorem laneCmd_start_denied (h : s.laneRole l ≠ 4 ∨ s.laneState l ≠ 0) : s.laneCmd l 1 = s.laneDeny l := by
  have no : ¬(s.laneRole l = 4 ∧ s.laneState l = 0) := by tauto
  simp [State.laneCmd, if_neg no]

theorem laneCmd_stop (role : s.laneRole l = 4) : s.laneCmd l 2 = if s.laneState l = 0 then s else s.laneStop l := by
  simp [State.laneCmd, role]

theorem laneCmd_stop_denied (role : s.laneRole l ≠ 4) : s.laneCmd l 2 = s.laneDeny l := by
  simp [State.laneCmd, role]

theorem laneCmd_claim (role : s.laneRole l = 3) : s.laneCmd l 3 = s.setLaneRole l 4 := by
  simp [State.laneCmd, role]

theorem laneCmd_claim_denied (role : s.laneRole l ≠ 3) : s.laneCmd l 3 = s.laneDeny l := by
  simp [State.laneCmd, role]

theorem laneCmd_release (role : s.laneRole l = 4) (idle : s.laneState l = 0) :
    s.laneCmd l 4 = s.setLaneRole l 3 := by
  simp [State.laneCmd, role, idle]

theorem laneCmd_release_denied (h : s.laneRole l ≠ 4 ∨ s.laneState l ≠ 0) : s.laneCmd l 4 = s.laneDeny l := by
  have no : ¬(s.laneRole l = 4 ∧ s.laneState l = 0) := by tauto
  simp [State.laneCmd, if_neg no]

theorem laneCmd_test (role : s.laneRole l = 5) (rest : (s.lane l).testing = false) :
    s.laneCmd l 5 = s.updLane l fun x => { x with testing := true } := by
  simp [State.laneCmd, role, rest]

theorem laneCmd_test_denied (role : s.laneRole l ≠ 5) : s.laneCmd l 5 = s.laneDeny l := by
  simp [State.laneCmd, role]

/-- START with a configuration that lies in the plan (R64). -/
theorem laneStart_fills (ok : s.cfgOk (s.lanePhy l) (s.laneAnt l) (s.laneBin l) = true) :
    s.laneStart l = (s.updLane l fun x => { x with stopReq := false }).setLaneState l 1 := if_pos ok

theorem laneStart_refuses (bad : s.cfgOk (s.lanePhy l) (s.laneAnt l) (s.laneBin l) = false) :
    s.laneStart l = s.setB (Port.LAN_STAT l) 1 true := if_neg (by simp [bad])

theorem laneStop_detaches (free : s.receiving l = false) (heard : (s.lane l).discarding = false) :
    s.laneStop l = s.setLaneState l 0 := if_neg (by simp [free, heard])

theorem laneStop_remembered (busy : s.receiving l = true) :
    s.laneStop l = s.updLane l fun x => { x with stopReq := true } := if_pos (.inl busy)

theorem laneTestEnd_pass (test : (s.lane l).testing = true) : s.laneTestEnd l true =
    ((s.updLane l fun x => { x with testing := false }).setB (Port.LAN_STAT l) 0 false).setLaneRole l 3 := by
  simp [State.laneTestEnd, test]

theorem laneTestEnd_fail (test : (s.lane l).testing = true) :
    s.laneTestEnd l false = s.updLane l fun x => { x with testing := false } := by
  simp [State.laneTestEnd, test]

end commands

/-- STOP of a manual lane that receives nothing leaves it idle and manual, and changes that lane alone (R67). -/
theorem laneCmd_stop_idle {s : State} {l : Nat} (hl : l < 64) (role : s.laneRole l = 4) (free : s.receiving l = false)
    (heard : (s.lane l).discarding = false) :
    State.LaneAlone l s (s.laneCmd l 2) ∧ (s.laneCmd l 2).laneState l = 0 ∧ (s.laneCmd l 2).laneRole l = 4 := by
  rw [laneCmd_stop role]
  split
  case isTrue idle => exact ⟨.refl l s, idle, role⟩
  case isFalse =>
    rw [laneStop_detaches free heard]
    exact ⟨lanStat_alone hl s _, laneState_setLaneState s l 0, (laneRole_setLaneState s l 0).trans role⟩

/-- A self-test that passes makes its lane spare, its fault gone, and changes that lane alone (R70). -/
theorem laneTestEnd_spare {s : State} {l : Nat} (hl : l < 64) (test : (s.lane l).testing = true) :
    State.LaneAlone l s (s.laneTestEnd l true) ∧ (s.laneTestEnd l true).laneRole l = 3 ∧
    ((s.laneTestEnd l true).lane l).testing = false ∧ (s.laneTestEnd l true).getB (Port.LAN_STAT l) 0 = false := by
  rw [laneTestEnd_pass test]
  exact ⟨((updLane_alone l s _).trans (lanStat_alone hl _ _)).trans (lanStat_alone hl _ _),
    laneRole_setLaneRole _ l 3, congrArg Lane.testing (s.lane_setLane l _),
    (getB_setLaneRole _ l 3 (by decide)).trans (State.getB_setB_same _ _ 0 false (by decide))⟩

/-- Settles O2, command by command: each is `laneCmd` where its register answers. -/
theorem laneCommandsMoveALaneThroughItsRoles : Obligations.LaneCommandsMoveALaneThroughItsRoles := by
  unfold Obligations.LaneCommandsMoveALaneThroughItsRoles
  intro s
  refine ⟨fun m l a role idle ok => completes_portCmd rfl a ?start,
    fun m l a role idle bad => completes_portCmd rfl a ?start_refused,
    fun m l a h => completes_portCmd rfl a (laneCmd_start_denied h),
    fun l filling => ⟨s.laneFilled l, rfl, ?filled⟩,
    fun m l a role free heard => completes_portCmd rfl a ?stop,
    fun m l a role attached busy => completes_portCmd rfl a ?stop_remembered,
    fun m l a role => completes_portCmd rfl a (laneCmd_stop_denied role),
    fun m l a role => completes_portCmd rfl a ?claim,
    fun m l a role => completes_portCmd rfl a (laneCmd_claim_denied role),
    fun m l a role idle => completes_portCmd rfl a ?release,
    fun m l a h => completes_portCmd rfl a (laneCmd_release_denied h),
    fun m l a role rest => completes_portCmd rfl a (laneCmd_test role rest),
    fun m l a role => completes_portCmd rfl a (laneCmd_test_denied role),
    fun l test role => ⟨_, rfl, ?test_passed⟩,
    fun l test role => ⟨_, rfl, laneTestEnd_fail test⟩⟩
  case start =>
    rw [laneCmd_start role idle, laneStart_fills ok]
    have alone := (updLane_alone l s fun x => { x with stopReq := false }).trans (setLaneState_alone l.isLt _ 1)
    exact ⟨alone.touches, laneState_setLaneState _ l 1, (laneRole_setLaneState _ l 1).trans role, alone.others⟩
  case start_refused =>
    rw [laneCmd_start role idle, laneStart_refuses bad]
    have alone := setStatBit_alone l.isLt s 1 true
    exact ⟨alone.touches, (laneState_setStatBit s l true (by decide)).trans idle,
      s.getB_setB_same _ 1 true (by decide), alone.others⟩
  case filled =>
    rw [State.laneFilled, if_pos filling]
    have alone := setLaneState_alone l.isLt s 2
    exact ⟨lanStat_touches l.isLt s _, laneState_setLaneState s l 2, laneRole_setLaneState s l 2, alone.others⟩
  case stop =>
    obtain ⟨alone, idle, manual⟩ := laneCmd_stop_idle l.isLt role free heard
    exact ⟨alone.touches, idle, manual, alone.others⟩
  case stop_remembered => rw [laneCmd_stop role, if_neg attached, laneStop_remembered busy]
  case claim =>
    rw [laneCmd_claim role]
    have alone := setLaneRole_alone l.isLt s 4
    exact ⟨alone.touches, laneRole_setLaneRole s l 4, laneState_setLaneRole s l 4, alone.others⟩
  case release =>
    rw [laneCmd_release role idle]
    have alone := setLaneRole_alone l.isLt s 3
    exact ⟨alone.touches, laneRole_setLaneRole s l 3, (laneState_setLaneRole s l 3).trans idle, alone.others⟩
  case test_passed =>
    obtain ⟨alone, spare, rest, clear⟩ := laneTestEnd_spare l.isLt test
    exact ⟨alone.touches, spare, rest, clear, alone.others⟩


/-! ## Blanking (R78, R79) -/

/-- A pass that leaves a state as it is at every number below `n`. -/
theorem forNat_idle {n : Nat} {f : Nat → State → State} {s : State} (h : ∀ i < n, f i s = s) : forNat n f s = s := by
  unfold forNat
  have go : ∀ l : List Nat, (∀ i ∈ l, i < n) → l.foldl (fun t i => f i t) s = s := by
    intro l
    induction l with
    | nil => exact fun _ => rfl
    | cons i r ih =>
      intro below
      rw [List.foldl_cons, h i (below i List.mem_cons_self)]
      exact ih fun j mem => below j (List.mem_cons_of_mem i mem)
  exact go _ fun _ => List.mem_range.mp

theorem lanesQuiet_pkt {s : State} (quiet : s.lanesQuiet = true) {l : Nat} (hl : l < 64) : (s.lane l).pkt = none := by
  simp only [State.lanesQuiet, List.all_eq_true, List.mem_range, State.receiving] at quiet
  simpa using quiet l hl

/-- A grid is blanked from now on. -/
def State.blankFromNow (s : State) (w : Bool) : State :=
  { s with rx := { s.rx with blankFrom := Cells.wr (fun _ => none) s.rx.blankFrom (nat1 w) (some s.time.wall) } }

/-- Blanking of a grid that starts while no lane receives. -/
theorem blankStart_quiet {s : State} {w : Bool} (due : s.blankDue (nat1 w) = true) (clear : s.blankingFrom w = none)
    (quiet : s.lanesQuiet = true) : s.blankStart w = s.blankFromNow w := by
  unfold State.blankStart
  rw [if_neg (by simp [due, clear])]
  refine forNat_idle fun l hl => ?_
  have idle : ((s.blankFromNow w).lane l).pkt = none := lanesQuiet_pkt quiet hl
  split
  case h_1 lp some => cases some.symm.trans idle
  case h_2 => rfl

theorem blankFromNow_blankingFrom (s : State) (w : Bool) : (s.blankFromNow w).blankingFrom w = some s.time.wall := by
  simp [State.blankFromNow, State.blankingFrom]

theorem blankFromNow_blanked {s : State} {c : Nat} (on : s.domOn (7 + c) = true) (w : Bool) :
    (s.blankFromNow w).blanked c w = true := by
  have on' : (s.blankFromNow w).domOn (7 + c) = true := on
  simp [State.blanked, on', blankFromNow_blankingFrom]

theorem sniffDetached_idle {s : State} (h : s.link.sniff = none) : s.sniffDetached = s := by
  simp [State.sniffDetached, h]

theorem blanked_of_same {s t : State} (rx : t.rx = s.rx) (dom : t.get Port.PWR_DOM_STAT = s.get Port.PWR_DOM_STAT)
    (c : Nat) (w : Bool) : t.blanked c w = s.blanked c w := by
  simp only [State.blanked, State.domOn, State.getB, State.blankingFrom, rx, dom]

theorem nat1_chain (x : TxChain) : nat1 (decide (x.num = 1)) = x.num := by cases x <;> rfl

/-- Blanking that is due starts on both receive chains, and the pending list is served (R78, R177). -/
theorem blankStart_blanks {s : State} {w : Bool} (domA : s.domOn 7 = true) (domB : s.domOn 8 = true)
    (due : s.blankDue (nat1 w) = true) (clear : s.blankingFrom w = none) (quiet : s.lanesQuiet = true)
    (sniff : s.link.sniff = none) {t : State} (ht : t = (s.blankStart w).servePending.sniffDetached) :
    State.touches [.regs, .mem, .pends, .basin, .rx, .link, .trim, .evf] [Blk.evf, Blk.hpt, Blk.bsn, Blk.trm] s t ∧
    t.blanked 0 w = true ∧ t.blanked 1 w = true ∧ t.blankingFrom w = some s.time.wall := by
  obtain ⟨touched, kept⟩ := servePending_placed (s.blankFromNow w)
  have served : t = (s.blankFromNow w).servePending := by
    rw [ht, blankStart_quiet due clear quiet]
    exact sniffDetached_idle (kept.trans sniff)
  subst served
  have rx := touched.1 .rx (by decide)
  have dom := touched.2 Port.PWR_DOM_STAT (by decide)
  exact ⟨((rx_touches s _).seq touched).mono (by decide) (by decide),
    (blanked_of_same rx dom 0 w).trans (blankFromNow_blanked domA w),
    (blanked_of_same rx dom 1 w).trans (blankFromNow_blanked domB w),
    (congrArg (fun x : Rx => Cells.rd (fun _ => none) x.blankFrom (nat1 w)) rx).trans (blankFromNow_blankingFrom s w)⟩

/-- Blanking of a grid that ends (R78). -/
theorem blankEnd_ends {s : State} {w : Bool} (from0 : (s.blankingFrom w).isSome = true)
    (due : s.blankDue (nat1 w) = false) (posted : s.blankPosted (nat1 w) = true) : s.blankEnd w =
      { s with rx := { s.rx with blankFrom := Cells.wr (fun _ => none) s.rx.blankFrom (nat1 w) none,
                                 blankOver := Cells.wr (fun _ => none) s.rx.blankOver (nat1 w) (some s.time.wall) } } := by
  unfold State.blankEnd
  rw [if_neg (by simp [due, posted, Option.isSome_iff_ne_none.mp from0])]

theorem blankEnd_unblanks {s : State} {w : Bool} (from0 : (s.blankingFrom w).isSome = true)
    (due : s.blankDue (nat1 w) = false) (posted : s.blankPosted (nat1 w) = true) :
    State.touches [.rx] [] s (s.blankEnd w) ∧ (∀ c, (s.blankEnd w).blanked c w = false) ∧
    (s.blankEnd w).blankedTill w = some s.time.wall := by
  rw [blankEnd_ends from0 due posted]
  exact ⟨rx_touches s _, fun c => by simp [State.blanked, State.blankingFrom], by simp [State.blankedTill]⟩

/-! ## The fault of a lane (R70) -/

theorem tagHeld_empty {s : State} {l : Nat} (h : (s.lane l).stage = []) : s.tagHeld l = { s with free := s.free + 1 } := by
  simp [State.tagHeld, h, indexed, forEach]

/-- The status of a lane that faults. -/
def State.statFaulted (s : State) (l : Nat) : State :=
  ((s.setB (Port.LAN_STAT l) 0 true).setLaneRole l 5).setLaneState l 0

/-- A lane outside the link pool that held nothing has faulted; `n` says which free value comes next. -/
def State.faulted (s : State) (l n : Nat) : State :=
  (({ s.statFaulted l with free := n } : State).raise Irq.LANE_FAULT).laneOff l

/-- A fault of a lane outside the link pool that receives nothing and holds nothing. -/
theorem laneFault_quiet {s : State} {l : Nat} {kind : LaneFaultKind} (notLength : kind ≠ .length)
    (role0 : s.laneRole l ≠ 0) (role1 : s.laneRole l ≠ 1) (role5 : s.laneRole l ≠ 5) (free : s.receiving l = false)
    (stage : (s.lane l).stage = []) : ∃ n, s.laneFault l kind = s.faulted l n := by
  have pkt : (s.lane l).pkt = none := by simpa [State.receiving] using free
  have held : ((s.statFaulted l).lane l).stage = [] := stage
  simp only [State.laneFault, role0, role1, role5, notLength, pkt, false_and, or_self, if_false, decide_false, if_true]
  split
  · rw [show ((s.setB (Port.LAN_STAT l) 0 true).setLaneRole l 5).setLaneState l 0 = s.statFaulted l from rfl,
      tagHeld_empty held]
    exact ⟨_, rfl⟩
  · exact ⟨s.free, rfl⟩

theorem laneOff_get (s : State) (l p : Nat) : (s.laneOff l).get p = s.get p := rfl

theorem laneOff_touches (s : State) (l : Nat) : State.touches [.lanes] [] s (s.laneOff l) := setLane_touches s l _

theorem laneOff_otherLanes (s : State) (l : Nat) : s.otherLanes l (s.laneOff l) := updLane_otherLanes s l _

theorem laneOff_core (s : State) (l : Nat) (c : Core) : (s.laneOff l).core c = s.core c := by cases c <;> rfl

theorem statFaulted_alone {l : Nat} (hl : l < 64) (s : State) : State.LaneAlone l s (s.statFaulted l) :=
  ((setStatBit_alone hl s 0 true).trans (setLaneRole_alone hl _ 5)).trans (setLaneState_alone hl _ 0)

section faulted
variable (s : State) {l : Nat} (hl : l < 64) (n : Nat)
include hl

theorem faulted_touches : State.touches [.regs, .pends, .lanes, .evf] [Blk.evf, Blk.lan] s (s.faulted l n) :=
  ((((statFaulted_alone hl s).touches.seq (free_touches _ n)).seq (raise_touches _ _)).seq
    (laneOff_touches _ l)).mono (by decide) (by decide)

theorem faulted_otherLanes : s.otherLanes l (s.faulted l n) :=
  ((statFaulted_alone hl s).others.trans
    (((free_touches _ n).seq (raise_touches _ _)).otherLanes l (by decide) (by decide))).trans (laneOff_otherLanes _ l)

theorem faulted_stat : (s.faulted l n).get (Port.LAN_STAT l) = (s.statFaulted l).get (Port.LAN_STAT l) := by
  have raised := (free_touches (s.statFaulted l) n).seq (raise_touches _ Irq.LANE_FAULT)
  rw [State.faulted, laneOff_get]
  exact raised.lanRegs (by decide) (by unfold Port.LAN_STAT; omega)

theorem faulted_role : (s.faulted l n).laneRole l = 5 :=
  (congrArg (fld · 17 15) (faulted_stat s hl n)).trans
    ((laneRole_setLaneState _ l 0).trans (laneRole_setLaneRole _ l 5))

theorem faulted_state : (s.faulted l n).laneState l = 0 :=
  (congrArg (fld · 14 12) (faulted_stat s hl n)).trans (laneState_setLaneState _ l 0)

theorem faulted_flag : (s.faulted l n).getB (Port.LAN_STAT l) 0 = true :=
  (congrArg (bitOf · 0) (faulted_stat s hl n)).trans ((getB_setLaneState _ l 0 (by decide)).trans
    ((getB_setLaneRole _ l 5 (by decide)).trans (s.getB_setB_same _ 0 true (by decide))))

end faulted

theorem faulted_raises (s : State) (l n : Nat) : s.raises Irq.LANE_FAULT (s.faulted l n) := by
  intro c up
  have before : ({ s.statFaulted l with free := n } : State).core c = s.core c := by cases c <;> rfl
  rw [State.isPending, State.faulted, laneOff_core]
  exact raise_pends _ _ c (by rw [before]; exact up) (by decide)


/-! ## The detector bank and its watch lanes (R74, R75, R77) -/

theorem splitWords_joinWords (l : List Word) : splitWords l.length (joinWords l) = l := by
  induction l with
  | nil => rfl
  | cons w r ih =>
    have low : BitVec.ofNat 18 (w.toNat + 2 ^ 18 * joinWords r) = w := by
      apply BitVec.eq_of_toNat_eq
      rw [BitVec.toNat_ofNat, Nat.add_mul_mod_self_left]
      exact Nat.mod_eq_of_lt w.isLt
    have high : (w.toNat + 2 ^ 18 * joinWords r) / 2 ^ 18 = joinWords r := by
      have := w.isLt
      omega
    rw [List.length_cons, joinWords, splitWords, low, high, ih]

/-- The first of the words stored at consecutive registers. -/
theorem get_setWide_joinWords (s : State) (p : Nat) (w : Word) (r : List Word) :
    (s.setWide p (r.length + 1) (joinWords (w :: r))).get p = w := by
  rw [State.get_setWide, length_splitWords, if_pos (by omega)]
  rw [show r.length + 1 = (w :: r).length from rfl, splitWords_joinWords, Nat.sub_self]
  rfl

theorem fld_or (v w : Word) (hi lo : Nat) : fld (v ||| w) hi lo = fld v hi lo ||| fld w hi lo := by
  apply Nat.eq_of_testBit_eq
  intro j
  rw [Nat.testBit_or, testBit_fld, testBit_fld, testBit_fld, BitVec.getLsbD_or, Bool.and_or_distrib_left]

theorem fld_zero (hi lo : Nat) : fld 0 hi lo = 0 := by simp [fld]

theorem fld_inFld_same (hi lo v : Nat) (h : hi < 18) : fld (inFld hi lo v) hi lo = v % 2 ^ (hi + 1 - lo) :=
  fld_withFld_same 0 hi lo v h

theorem fld_inFld_apart (hi lo v a b : Nat) (h : hi < 18) (d : a < lo ∨ hi < b) : fld (inFld hi lo v) a b = 0 :=
  (fld_withFld_apart 0 hi lo v a b h d).trans (fld_zero a b)

/-- The first configuration word of a lane, and its fields (R63). -/
theorem lanCfg_fields (phy ant bin : Nat) :
    fld (inFld 17 15 phy ||| inFld 14 12 ant ||| inFld 8 0 bin) 17 15 = phy % 8 ∧
    fld (inFld 17 15 phy ||| inFld 14 12 ant ||| inFld 8 0 bin) 14 12 = ant % 8 ∧
    fld (inFld 17 15 phy ||| inFld 14 12 ant ||| inFld 8 0 bin) 8 0 = bin % 512 := by
  simp [fld_or, fld_inFld_same, fld_inFld_apart]

/-- A watch lane attached to a bin searches there: its configuration, its entries and its state (R75). -/
def State.watchAttached (s : State) (l phy bin foff : Nat) (entries : List (Nat × Word)) : State :=
  ((s.laneConfig l phy (s.getF Port.RXC_WATCH_CTRL 14 14) bin foff 0 0 0 0 (s.getF Port.RXC_WATCH_CTRL 6 0) 0).updLane l
    fun x => { x with slot := none, entries := entries }).setLaneState l 2

section detection
variable {s : State} {w : Bool} {bin phy : Nat}
  (live : s.chainLive (s.getF Port.RXC_WATCH_CTRL 14 14) w = true)
  (clear : s.blanked (s.getF Port.RXC_WATCH_CTRL 14 14) w = false) (grid : phyGridW phy = w) (dom : s.domOn 5 = true)
  (watched : s.watched w bin = true) (named : (List.range 8).any (fun e => entryFor phy (s.watchEntry e)) = true)
include live clear grid dom watched named

theorem watchDetect_attaches {l : Nat} (found : s.freeWatch = some l) :
    ∃ foff entries, s.watchDetect w bin phy = s.watchAttached l phy bin foff entries := by
  unfold State.watchDetect
  rw [if_neg (by simp [live, clear, grid, dom, watched, named]), found]
  exact ⟨_, _, rfl⟩

theorem watchDetect_misses (none : s.freeWatch = none) :
    s.watchDetect w bin phy = (s.count Port.RXC_WATCH_MISS).raise Irq.WATCH_MISS := by
  unfold State.watchDetect
  rw [if_neg (by simp [live, clear, grid, dom, watched, named]), none]

end detection

theorem freeWatch_lt {s : State} {l : Nat} (found : s.freeWatch = some l) : l < 64 :=
  List.mem_range.mp (List.mem_of_find?_eq_some found)

theorem laneConfig_alone {l : Nat} (hl : l < 64) (s : State) (phy ant bin foff maxlen : Nat) (sync : BitVec 32)
    (crc : BitVec 24) (white : BitVec 9) (queue ctx : Nat) :
    State.LaneAlone l s (s.laneConfig l phy ant bin foff maxlen sync crc white queue ctx) :=
  ⟨(setWide_touches (b := Blk.lan) s _ (by unfold Blk.lan Port.LAN_CFG; omega)).mono (by decide) (by decide),
    setWide_otherLanes s _ (by unfold Port.LAN_CFG; omega)⟩

theorem watchAttached_alone {l : Nat} (hl : l < 64) (s : State) (phy bin foff : Nat) (entries : List (Nat × Word)) :
    State.LaneAlone l s (s.watchAttached l phy bin foff entries) :=
  ((laneConfig_alone hl s _ _ _ _ _ _ _ _ _ _).trans (updLane_alone l _ _)).trans (setLaneState_alone hl _ 2)

theorem watchAttached_cfg (s : State) (l phy bin foff : Nat) (entries : List (Nat × Word)) :
    (s.watchAttached l phy bin foff entries).get (Port.LAN_CFG l) =
      inFld 17 15 phy ||| inFld 14 12 (s.getF Port.RXC_WATCH_CTRL 14 14) ||| inFld 8 0 bin :=
  (State.get_setF_other _ 14 12 2 (by unfold Port.LAN_CFG Port.LAN_STAT; omega)).trans
    (get_setWide_joinWords s (Port.LAN_CFG l) _ _)

/-- An attached watch lane searches its bin on the watched chain. -/
theorem watchAttached_reads (s : State) (l foff : Nat) {phy bin : Nat} (entries : List (Nat × Word)) (hphy : phy < 8)
    (hbin : bin < 512) : (s.watchAttached l phy bin foff entries).laneState l = 2 ∧
      (s.watchAttached l phy bin foff entries).laneBin l = bin ∧
      (s.watchAttached l phy bin foff entries).lanePhy l = phy ∧
      (s.watchAttached l phy bin foff entries).laneAnt l = s.getF Port.RXC_WATCH_CTRL 14 14 := by
  obtain ⟨phyField, antField, binField⟩ := lanCfg_fields phy (s.getF Port.RXC_WATCH_CTRL 14 14) bin
  have chain : s.getF Port.RXC_WATCH_CTRL 14 14 < 2 := fld_lt _ 14 14
  have cfg := watchAttached_cfg s l phy bin foff entries
  refine ⟨laneState_setLaneState _ l 2, (congrArg (fld · 8 0) cfg).trans (binField.trans ?_),
    (congrArg (fld · 17 15) cfg).trans (phyField.trans ?_), (congrArg (fld · 14 12) cfg).trans (antField.trans ?_)⟩ <;> omega

theorem raises_of_raise {s u : State} {n : Nat} (hn : n < 64) (same : ∀ c, u.core c = s.core c) : s.raises n (u.raise n) :=
  fun c up => raise_pends u n c (by rw [same]; exact up) hn

/-- A preamble with no watch lane free is counted and raised (R75). -/
theorem watchMiss_counts (s : State) :
    State.touches [.regs, .pends, .evf] [Blk.evf, Blk.rxc] s ((s.count Port.RXC_WATCH_MISS).raise Irq.WATCH_MISS) ∧
    s.counts Port.RXC_WATCH_MISS ((s.count Port.RXC_WATCH_MISS).raise Irq.WATCH_MISS) ∧
    s.raises Irq.WATCH_MISS ((s.count Port.RXC_WATCH_MISS).raise Irq.WATCH_MISS) := by
  refine ⟨((set_touches (b := Blk.rxc) s _ (by decide)).seq (raise_touches _ _)).mono (by decide) (by decide), ?counted, ?raised⟩
  case counted => exact (raise_get _ _ Port.RXC_WATCH_MISS (by decide)).trans (s.get_count_same _)
  case raised => exact raises_of_raise (by decide) (s.count_core Port.RXC_WATCH_MISS)

theorem laneFree_alone {l : Nat} (hl : l < 64) (s : State) : State.LaneAlone l s (s.laneFree l) :=
  (updLane_alone l s _).trans (setLaneState_alone hl _ 0)

/-- A watch lane that found no match is free again, and NOMATCH counts it (R75). -/
theorem noMatch_counts {s : State} {l : Nat} (hl : l < 64) (role : s.laneRole l = 2) (search : s.laneState l = 2)
    (free : s.receiving l = false) :
    State.touches [.regs, .lanes] [Blk.rxc, Blk.lan] s (s.noMatch l) ∧ (s.noMatch l).laneState l = 0 ∧
    s.counts Port.RXC_WATCH_NOMATCH (s.noMatch l) ∧ s.otherLanes l (s.noMatch l) := by
  have freed : s.noMatch l = (s.count Port.RXC_WATCH_NOMATCH).laneFree l := if_pos ⟨role, search, free⟩
  rw [freed]
  have counted : State.touches [.regs] [Blk.rxc] s (s.count Port.RXC_WATCH_NOMATCH) := set_touches s _ (by decide)
  have alone := laneFree_alone hl (s.count Port.RXC_WATCH_NOMATCH)
  exact ⟨(counted.seq alone.touches).mono (by decide) (by decide), laneState_setLaneState _ l 0,
    (alone.touches.2 _ (by decide)).trans (s.get_count_same _),
    (counted.otherLanes l (by decide) (by decide)).trans alone.others⟩

/-- The words of an entry whose fourth word is written. -/
def State.stagedEntry (s : State) (e : Nat) (v : Word) : List Word :=
  [s.get (Port.RXC_WM_0 e), s.get (Port.RXC_WM_1 e), s.get (Port.RXC_WM_2 e), v &&& ~~~(fieldMask 8 6)]

theorem watchApply_eq (s : State) (e : Nat) (v : Word) : s.watchApply e v =
    { s.set (Port.RXC_WM_3 e) (v &&& ~~~(fieldMask 8 6)) with
      rx := { s.rx with watchIn := Cells.wrs (fun _ => 0) s.rx.watchIn (4 * e) (s.stagedEntry e v) } } := by
  have other : ∀ p, p ≠ Port.RXC_WM_3 e →
      (s.set (Port.RXC_WM_3 e) (v &&& ~~~(fieldMask 8 6))).get p = s.get p := fun p ne =>
    s.get_set_other _ (Ne.symm ne)
  unfold State.watchApply State.stagedEntry
  simp only [State.get_set_same, other (Port.RXC_WM_0 e) (by unfold Port.RXC_WM_0 Port.RXC_WM_3; omega),
    other (Port.RXC_WM_1 e) (by unfold Port.RXC_WM_1 Port.RXC_WM_3; omega),
    other (Port.RXC_WM_2 e) (by unfold Port.RXC_WM_2 Port.RXC_WM_3; omega), State.set_rx]

theorem watchApply_touches (s : State) {e : Nat} (he : e < 8) (v : Word) :
    State.touches [.regs, .rx] [Blk.rxc] s (s.watchApply e v) := by
  rw [watchApply_eq]
  exact ((set_touches (b := Blk.rxc) s _ (by unfold Blk.rxc Port.RXC_WM_3; omega)).seq (rx_touches _ _)).mono
    (by decide) (by decide)

/-- The word of an entry in force, as a state's list of entries holds it. -/
theorem watchEntry_words (s : State) (e : Nat) : s.watchEntry e = [Cells.rd (fun _ => 0) s.rx.watchIn (4 * e),
    Cells.rd (fun _ => 0) s.rx.watchIn (4 * e + 1), Cells.rd (fun _ => 0) s.rx.watchIn (4 * e + 1 + 1),
    Cells.rd (fun _ => 0) s.rx.watchIn (4 * e + 1 + 1 + 1)] := rfl

/-- A write of an entry's fourth word puts its staged words in force; no other entry changes (R77). -/
theorem watchApply_entry (s : State) (e : Nat) (v : Word) : (s.watchApply e v).watchEntry e = s.stagedEntry e v ∧
    ∀ f, f ≠ e → (s.watchApply e v).watchEntry f = s.watchEntry f := by
  rw [watchApply_eq]
  constructor
  · simp [watchEntry_words, Cells.rd_wrs, State.stagedEntry, Nat.add_assoc]
  · intro f ne
    simp only [watchEntry_words, Cells.rd_wrs, State.stagedEntry, List.length_cons, List.length_nil]
    iterate 4 rw [if_neg (by omega)]

/-! ## The report as a master reads it (R73) -/

/-- The row of the first report word: bits that neither hide nor clear. -/
theorem regRow_report : ∀ l < 64, regRow (Port.LAN_RSSI l) = some ⟨0x480A, 32, 64, 0, 0, 0, 0, false⟩ := by
  decide +kernel

/-- The five report words that a read of the first latches. -/
theorem higherWords_report (s : State) {l : Nat} (hl : l < 64) : s.higherWords (Port.LAN_RSSI l) =
    [Port.LAN_RSSI l + 1, Port.LAN_RSSI l + 2, Port.LAN_RSSI l + 3, Port.LAN_RSSI l + 4, Port.LAN_RSSI l + 5] := by
  simp only [State.higherWords, Port.LAN_RSSI, inRange_iff]
  iterate 4 rw [if_neg (by omega)]
  exact if_pos (by omega)

theorem latchable_report (s : State) {l : Nat} (hl : l < 64) : s.latchable (Port.LAN_RSSI l) = false := by
  rw [Bool.eq_false_iff]
  simp only [State.latchable, Port.LAN_RSSI, Bool.or_eq_true, Bool.and_eq_true, inRange_iff, decide_eq_true_eq, ne_eq]
  omega

/-- A lane's registers show what is stored. -/
theorem view_lane (s : State) (m : Master) {p : Nat} (hp : 0x4800 ≤ p ∧ p < 0x5000) : s.view m p = s.get p := by
  unfold State.view
  iterate 5 rw [if_neg (by omega)]
  exact if_pos hp.2

/-- Latching the words of a list: each as its lane's register shows it, and no other latch changes. -/
theorem latchWords_lane (m : Master) (ps : List Nat) (s : State) (lane : ∀ p ∈ ps, 0x4800 ≤ p ∧ p < 0x5000) :
    (∀ p ∈ ps, (forEach ps (fun q u => u.setLatch m q (u.view m q)) s).latched m p = some (s.get p)) ∧
    ∀ (n : Master) q, q < 65536 → n ≠ m ∨ q ∉ ps →
      (forEach ps (fun q u => u.setLatch m q (u.view m q)) s).latched n q = s.latched n q := by
  induction ps generalizing s with
  | nil => exact ⟨fun _ mem => absurd mem List.not_mem_nil, fun _ _ _ _ => rfl⟩
  | cons p r ih =>
    have here := lane p List.mem_cons_self
    obtain ⟨latched, kept⟩ := ih (s.setLatch m p (s.view m p)) fun q mem => lane q (List.mem_cons_of_mem p mem)
    refine ⟨fun q mem => ?_, fun n q hq out => ?_⟩
    · by_cases later : q ∈ r
      · exact latched q later
      · obtain rfl : q = p := (List.mem_cons.mp mem).resolve_right later
        exact (kept m q (by omega) (.inr later)).trans
          ((latched_setLatch s m q _).trans (congrArg some (view_lane s m here)))
    · have apart : m ≠ n ∨ p ≠ q := by
        rcases out with ne | out
        · exact .inl ne.symm
        · exact .inr fun e => out (e ▸ List.mem_cons_self)
      exact (kept n q hq (out.imp id fun out mem => out (List.mem_cons_of_mem p mem))).trans
        (latched_setLatch_other s _ (by omega) hq apart)

/-- A read of a lane's first report word changes latches alone and returns that word. -/
theorem masterRead_report {s : State} {m : Master} {l : Nat} (hl : l < 64) (a : s.answers m (Port.LAN_RSSI l) = true) :
    s.masterRead m (Port.LAN_RSSI l) = (forEach (s.higherWords (Port.LAN_RSSI l))
      (fun q u => u.setLatch m q (u.view m q)) s).setData m (s.get (Port.LAN_RSSI l)) := by
  have value : s.readValue m (Port.LAN_RSSI l) = s.get (Port.LAN_RSSI l) := by
    rw [readValue_shown s m (regRow_report l hl) rfl, latchable_report s hl]
    exact view_lane s m (by unfold Port.LAN_RSSI; omega)
  have effect : s.readEffect m (Port.LAN_RSSI l) =
      forEach (s.higherWords (Port.LAN_RSSI l)) (fun q u => u.setLatch m q (u.view m q)) s := by
    have timer : ¬inRange 0x0800 0x0AFF (Port.LAN_RSSI l) = true := by
      rw [inRange_iff]; unfold Port.LAN_RSSI; omega
    unfold State.readEffect
    rw [if_neg (by unfold Port.LAN_RSSI Port.BSN_RDATA; omega), if_neg (by unfold Port.LAN_RSSI Port.RTC_SEC; omega),
      if_neg (by unfold Port.LAN_RSSI; omega)]
    dsimp only
    rw [if_neg fun h => timer h.1]
    iterate 2 rw [if_neg (by unfold Port.LAN_RSSI; omega)]
    rw [regRow_report l hl]
    rfl
  rw [masterRead_answered a, value, effect]

theorem masterRead_report_latches {s : State} {m : Master} {l : Nat} (hl : l < 64)
    (a : s.answers m (Port.LAN_RSSI l) = true) {t : State} (ht : t = s.masterRead m (Port.LAN_RSSI l)) :
    State.touches [.latch] [] s t ∧ Cells.rd (fun _ => 0) t.latch.data m.num = s.get (Port.LAN_RSSI l) ∧
    (∀ i : Fin 5, t.latched m (Port.LAN_RSSI l + 1 + i) = some (s.get (Port.LAN_RSSI l + 1 + i))) ∧
    ∀ n : Master, n ≠ m → ∀ i : Fin 5, t.latched n (Port.LAN_RSSI l + 1 + i) = s.latched n (Port.LAN_RSSI l + 1 + i) := by
  subst ht
  have words := higherWords_report s hl
  obtain ⟨latched, kept⟩ := latchWords_lane m (s.higherWords (Port.LAN_RSSI l)) s fun p mem => by
    rw [words] at mem
    simp only [Port.LAN_RSSI, List.mem_cons, List.not_mem_nil, or_false] at mem
    omega
  obtain ⟨x, hx⟩ := latchWords_frame m (s.higherWords (Port.LAN_RSSI l)) s
  rw [masterRead_report hl a]
  refine ⟨?_, rd_setData _ m _, fun i => latched _ ?_, fun n ne i => kept n _ ?_ (.inl ne)⟩
  · rw [hx]; exact latch_touches s _
  · rw [words]
    have := i.isLt
    simp only [List.mem_cons, List.not_mem_nil, or_false]
    omega
  · have := i.isLt
    unfold Port.LAN_RSSI
    omega

/-- Settles O4, clause by clause from the lemma that says what its command does. -/
theorem blankingLaneFaultsAndWatchLanes : Obligations.BlankingLaneFaultsAndWatchLanes := by
  unfold Obligations.BlankingLaneFaultsAndWatchLanes
  intro s
  refine ⟨fun x domA domB due clear quiet sniff => ⟨_, rfl, ?blanks⟩,
    fun x from0 due posted => ⟨_, rfl, ?unblanks⟩,
    fun l kind notLength role0 role1 role5 free stage sniff => ?faults,
    fun m l a => ⟨_, rfl, masterRead_report_latches l.isLt a rfl⟩,
    fun w bin phy l live clear grid dom watched named found => ?attaches,
    fun w bin phy live clear grid dom watched named none =>
      ⟨_, congrArg Host.Outcome.next (watchDetect_misses live clear grid dom watched named none), ?misses⟩,
    fun l role search free => ⟨_, rfl, noMatch_counts l.isLt role search free⟩,
    fun m e v a => completes_portCmd rfl a ?applies⟩
  case blanks =>
    obtain ⟨touched, blanked⟩ := blankStart_blanks domA domB (by rw [nat1_chain]; exact due) clear quiet sniff rfl
    exact ⟨touched.mono (by decide) (by decide), blanked⟩
  case unblanks =>
    obtain ⟨touched, unblanked, till⟩ := blankEnd_unblanks from0 (by rw [nat1_chain]; exact due)
      (by rw [nat1_chain]; exact posted)
    exact ⟨touched, unblanked 0, unblanked 1, till⟩
  case faults =>
    obtain ⟨n, faulted⟩ := laneFault_quiet notLength role0 role1 role5 free stage
    have hl := l.isLt
    have detached : (s.faulted l n).sniffDetached = s.faulted l n := sniffDetached_idle
      ((congrArg Link.sniff ((faulted_touches s hl n).1 .link (by decide))).trans sniff)
    exact ⟨s.faulted l n, congrArg Host.Outcome.next ((congrArg State.sniffDetached faulted).trans detached),
      (faulted_touches s hl n).mono (by decide) (by decide), faulted_role s hl n, faulted_state s hl n,
      faulted_flag s hl n, faulted_raises s l n, faulted_otherLanes s hl n⟩
  case attaches =>
    obtain ⟨foff, entries, attached⟩ := watchDetect_attaches live clear grid dom watched named found
    have hl := freeWatch_lt found
    have alone := watchAttached_alone hl s phy.toNat bin.toNat foff entries
    obtain ⟨state, laneBin, lanePhy, ant⟩ := watchAttached_reads s l foff entries phy.isLt bin.isLt
    exact ⟨_, congrArg Host.Outcome.next attached, alone.touches.mono (by decide) (by decide), state, laneBin, lanePhy, ant, alone.others⟩
  case misses =>
    obtain ⟨touched, counted, raised⟩ := watchMiss_counts s
    exact ⟨touched.mono (by decide) (by decide), counted, raised, touched.1 .lanes (by decide)⟩
  case applies =>
    obtain ⟨entry, others⟩ := watchApply_entry s e v
    exact ⟨watchApply_touches s e.isLt v, entry, fun f ne => others f fun same => ne (Fin.ext same)⟩


/-! ## A packet toward a queue that the Basin does not have

`LanePkt.queue` is any number, and nothing bounds it in the hypotheses of O1 and O3; the Basin has queues 0 to 127.  Where
a packet toward queue 224 gives its cells back, the watermark event of that queue (R218) falls on port 0x2806, which would
be its STAT and is TRM_BELAYED: a register of trim's block. -/

/-- A packet toward queue 224 that chain A alone feeds, refused its first payload cell. -/
def strayPacket : LanePkt :=
  { cells := [], ts := 0, meas := { rssiA := 0, rssiB := 0, phase := 0, qual := 0, phy := 4, selB := false }, trunc := true,
    agcStep := false, calStep := false, phaseBad := false, epoch := 0, ctx := none, queue := 224, feeds := [0],
    lenSeen := none, crcInit := 0, white := 0, sync := 0 }

/-- Every domain is released, chain A is READY but not calibrated, lane 63 listens on PHY 4 under a limit of 1, and bit 16
stands at the port that would be queue 224's STAT. -/
def strayRegs : State :=
  { State.reset with
    regs := [(Port.PWR_DOM_STAT, 0o777777), (Port.TRM_BELAYED, inFld 16 16 1), (Port.RXC_STAT 0, 1),
      (Port.LAN_CFG 63, inFld 17 15 4), (Port.LAN_LIM 63, 1)] }

/-- Lane 63 receives the stray packet. -/
def strayState : State := strayRegs.setLane 63 { Lane.idle with pkt := some strayPacket }

/-- The stray state once chain A has cleared READY. -/
def strayDropped : State := strayState.setB (Port.RXC_STAT 0) 0 false

theorem strayState_belayed : strayState.getB Port.TRM_BELAYED 16 = true := by decide +kernel

/-- A length field above the limit discards the frame, and port 0x2806 changes. -/
theorem strayState_lengthSeen_belayed : (strayState.lengthSeen 63 [0xFF, 0, 0]).getB Port.TRM_BELAYED 16 = false := by
  decide +kernel

/-- The watermark event of a queue that falls to its low mark clears bit 16 of its STAT (R218). -/
theorem checkMarks_low {s : State} {q : Nat} {bounds : Nat × Nat} (old : Nat) (marks : s.marks q = some bounds)
    (high : s.getB (Port.BSN_Q_STAT q) 16 = true) (low : s.occupancy q ≤ bounds.2) :
    (s.checkMarks q old).getB (Port.BSN_Q_STAT q) 16 = false := by
  unfold State.checkMarks
  rw [marks]
  dsimp only
  rw [if_neg (by simp [high]), if_pos ⟨high, low⟩, State.getB, raise_get _ _ _ (by unfold Port.BSN_Q_STAT; omega)]
  exact State.getB_setB_same _ _ 16 false (by decide)

/-- A packet refused its first payload cell that is cut, holds no cell and is not delivered: after its report and its
count its queue's marks are checked (R68, R71). -/
theorem laneCut_empty {s : State} {l : Nat} {lp : LanePkt} (hl : l < 64) (pkt : (s.lane l).pkt = some lp)
    (trunc : lp.trunc = true) (cells : lp.cells = []) (ctx : lp.ctx = none) (blanked fault : Bool) :
    ∃ m old, State.touches [.regs] [Blk.lan] s m ∧
      s.laneCut l blanked fault false = (m.checkMarks lp.queue old).updLane l fun x => { x with pkt := none } := by
  have counted : ∀ n v, State.touches [.regs] [Blk.lan] s
      ((({ s with free := n } : State).setWide (Port.LAN_RSSI l) 6 v).count (Port.LAN_TRUNCCNT l)) := fun n v =>
    ((free_touches s n).seq ((setWide_touches _ v (b := Blk.lan) (by unfold Blk.lan Port.LAN_RSSI; omega)).trans
      (set_touches _ _ (by unfold Blk.lan Port.LAN_TRUNCCNT; omega)))).mono (by decide) (by decide)
  have pkt' : ∀ k, (({ s with free := k } : State).lane l).pkt = some lp := fun _ => pkt
  have arrive : ∀ n k, ({ s with free := k } : State).laneArrive l n = { s with free := k } := by
    intro n k
    simp [State.laneArrive, pkt', trunc]
  have fill : ∀ k o, ({ s with free := k } : State).fillPkt lp o =
      ({ cells := [], len := 0, epoch := lp.epoch }, { s with free := k }) := by
    intro k o
    simp [State.fillPkt, cells, State.storeOctets, packNonets, indexed]
  have close : ∀ k, ∃ m old, State.touches [.regs] [Blk.lan] s m ∧
      ({ s with free := k } : State).laneClose l lp { cells := [], len := 0, epoch := lp.epoch } false false true blanked
        fault false = (m.checkMarks lp.queue old).updLane l fun x => { x with pkt := none } := by
    intro k
    simp only [State.laneClose, ctx, State.copyHeld]
    exact ⟨_, _, counted _ _, rfl⟩
  unfold State.laneCut
  rw [pkt]
  simp only [State.nextFree, State.freeOctets, arrive, pkt', fill]
  exact close _

theorem laneAfter_touches {l : Nat} (hl : l < 64) (s : State) :
    State.touches [.regs, .lanes] [Blk.lan] s (s.laneAfter l) := by
  have ended : ∀ f v, State.touches [.regs, .lanes] [Blk.lan] s ((s.updLane l f).setLaneState l v) := fun f v =>
    ((updLane_alone l s f).trans (setLaneState_alone hl _ v)).touches
  unfold State.laneAfter
  exact .ite (ended _ _) (.ite (ended _ _) (ended _ _))

theorem forNat_succ (n : Nat) (f : Nat → State → State) (s : State) : forNat (n + 1) f s = f n (forNat n f s) := by
  rw [forNat, List.range_succ, List.foldl_append]
  rfl

/-- What each of the first `n` steps leaves as it is stays so. -/
theorem forNat_fixed {n : Nat} {f : Nat → State → State} {s : State} (h : ∀ i < n, f i s = s) : forNat n f s = s := by
  induction n with
  | zero => rfl
  | succ n ih =>
    rw [forNat_succ, ih fun i hi => h i (by omega)]
    exact h n (by omega)

/-- Of chains that cease to feed, only lanes that receive take note (R65). -/
theorem unfeed_idle {s : State} {l : Nat} (cs : List Nat) (free : (s.lane l).pkt = none) : s.unfeed cs l = s := by
  rw [State.unfeed, free]

theorem strayDropped_lane {l : Nat} (hl : l < 63) : (strayDropped.lane l).pkt = none := by
  have other : strayDropped.lane l = strayRegs.lane l :=
    strayRegs.lane_setLane_other { Lane.idle with pkt := some strayPacket } (by omega : 63 ≠ l)
  rw [other]
  rfl

/-- The cut of the stray packet clears bit 16 of port 0x2806. -/
theorem strayDropped_unfeed_belayed : (strayDropped.unfeed [0] 63).getB Port.TRM_BELAYED 16 = false := by
  have cut : strayDropped.unfeed [0] 63 = (strayDropped.laneCut 63 false false false).laneAfter 63 := rfl
  obtain ⟨m, old, wrote, empty⟩ := laneCut_empty (by decide) (rfl : (strayDropped.lane 63).pkt = some strayPacket)
    rfl rfl rfl false false
  have high : m.getB (Port.BSN_Q_STAT 224) 16 = true := by
    rw [State.getB, wrote.2 _ (by decide)]
    decide +kernel
  have marks : m.marks 224 = some (0, 0) := by
    rw [State.marks, State.getF, State.getF, wrote.2 _ (by decide)]
    decide +kernel
  have vacant : m.occupancy 224 = 0 := by
    have used : m.basin = strayDropped.basin := wrote.1 .basin (by decide)
    rw [State.occupancy, used]
    decide +kernel
  have low := checkMarks_low old marks high vacant.le
  rw [cut, State.getB, (laneAfter_touches (by decide) _).2 _ (by decide), empty]
  exact low

/-- The calibration that starts on chain A cuts the stray packet, and port 0x2806 changes. -/
theorem strayState_calBegin_belayed : (strayState.calBegin 0).getB Port.TRM_BELAYED 16 = false := by
  have starts : strayState.calBegin 0 = strayState.chainForeground 0 := if_pos (by decide +kernel)
  have off : [0].filter strayState.chainReady = [0] := by decide +kernel
  have dropped : strayState.dropReady [0] = forNat 64 (fun l t => t.unfeed [0] l) strayDropped := by
    rw [State.dropReady, off]
    rfl
  have others : forNat 63 (fun l t => t.unfeed [0] l) strayDropped = strayDropped :=
    forNat_fixed fun l hl => unfeed_idle [0] (strayDropped_lane hl)
  have last : forNat 64 (fun l t => t.unfeed [0] l) strayDropped = strayDropped.unfeed [0] 63 :=
    (forNat_succ 63 _ _).trans (congrArg (fun t => t.unfeed [0] 63) others)
  rw [starts, State.chainForeground, dropped, last]
  exact strayDropped_unfeed_belayed

/-- Refutes O1: clause (6) has the start of a foreground calibration change no register outside four blocks, of which
trim's is none; from `strayState` the packet that it cuts changes port 0x2806. -/
theorem not_receiveChainGainAndCalibration : ¬ Obligations.ReceiveChainGainAndCalibration := by
  unfold Obligations.ReceiveChainGainAndCalibration
  intro h
  obtain ⟨-, -, -, -, -, calStart, -⟩ := h strayState
  obtain ⟨t, ran, touched, -⟩ := calStart .a (by decide +kernel) rfl rfl
  have started : strayState.calBegin 0 = t := Host.Outcome.next.inj ran
  have kept : t.getB Port.TRM_BELAYED 16 = strayState.getB Port.TRM_BELAYED 16 :=
    congrArg (bitOf · 16) (touched.2 Port.TRM_BELAYED (by decide))
  rw [← started, strayState_calBegin_belayed, strayState_belayed] at kept
  exact absurd kept (by decide)

/-- Refutes O3: clause (3) has a length field above the limit change no register outside three blocks, of which trim's is
none; from `strayState` the frame that it discards changes port 0x2806. -/
theorem not_laneReceivesAPacket : ¬ Obligations.LaneReceivesAPacket := by
  unfold Obligations.LaneReceivesAPacket
  intro h
  obtain ⟨-, -, tooLong, -⟩ := h strayState
  obtain ⟨t, ran, touched, -⟩ := tooLong 63 [0xFF, 0, 0] strayPacket rfl rfl (by decide +kernel) (by decide +kernel)
  have seen : strayState.lengthSeen 63 [0xFF, 0, 0] = t := Host.Outcome.next.inj ran
  have kept : t.getB Port.TRM_BELAYED 16 = strayState.getB Port.TRM_BELAYED 16 :=
    congrArg (bitOf · 16) (touched.2 Port.TRM_BELAYED (by decide))
  rw [← seen, strayState_lengthSeen_belayed, strayState_belayed] at kept
  exact absurd kept (by decide)

end Sys2Proof.Machine

/-! The statements of 04_transmit_and_synthesisers.md: a transmit request with its tuning and lock (O5), the course of a
transmission (O6), and a synthesiser's calibration and test transmissions (O7). -/

namespace Sys2Proof.Machine

open Sys2Proof

/-! ## What a chain, a raise and the Sluice touch -/

theorem RaiseFrame.touches {s t : State} (h : RaiseFrame s t) : State.touches [.regs, .pends, .evf] [Blk.evf] s t := by
  obtain ⟨regs, ⟨a, apc⟩, ⟨b, lkc⟩, r, x, y, e, rest⟩ := h
  refine ⟨fun part other => ?parts, fun q outside => ?registers⟩
  case parts =>
    cases part with
    | regs | pends | evf => simp at other
    | cores => exact ⟨by rw [apc], by rw [lkc]⟩
    | _ => exact (congrArg _ rest :)
  case registers =>
    have out : q < 0x0400 ∨ 0x07FF < q := outside Blk.evf (List.mem_singleton_self _)
    exact regs q (by omega)

theorem raiseProducer_touches (s : State) (n : Nat) :
    State.touches [.regs, .pends, .evf] [Blk.evf] s (s.raiseProducer n) :=
  (raiseProducer_frame s n).touches

theorem setTxc_touches (s : State) (t : Nat) (x : TxState) : State.touches [.tx] [] s (s.setTxc t x) :=
  ⟨fun part other => by cases part <;> simp_all [Part.same], fun _ _ => rfl⟩

theorem updTxc_touches (s : State) (t : Nat) (f : TxState → TxState) : State.touches [.tx] [] s (s.updTxc t f) :=
  setTxc_touches s t _

theorem sluice_touches (s : State) (x : Sluice) : State.touches [.sluice] [] s { s with sluice := x } :=
  ⟨fun part other => by cases part <;> simp_all [Part.same], fun _ _ => rfl⟩

/-- A register of a chain lies in the block of the chains. -/
theorem setTxReg_touches (s : State) (x : TxChain) {k : Nat} (v : Word) (hk : 0x5000 ≤ k ∧ k < 0x5100) :
    State.touches [.regs] [Blk.txc] s (s.set (k + 256 * x.num) v) :=
  set_touches s v (by unfold Blk.txc; cases x <;> simp only [TxChain.num] <;> omega)

theorem State.touches.txc {ps : List Part} {bs : List (Nat × Nat)} {s t : State} (h : State.touches ps bs s t)
    (out : Part.tx ∉ ps) (j : Nat) : t.txc j = s.txc j :=
  congrArg (Cells.rd (fun _ => TxState.off) · j) (h.1 .tx out)

theorem State.touches.event {ps : List Part} {bs : List (Nat × Nat)} {s t : State} (h : State.touches ps bs s t)
    (out : Part.link ∉ ps) (q : Nat) : t.event q = s.event q :=
  congrArg (fun l : Link => Cells.rd (fun _ => none) l.events q) (h.1 .link out)

theorem State.touches.seqStat {ps : List Part} {bs : List (Nat × Nat)} {s t : State} (h : State.touches ps bs s t)
    (away : ∀ b ∈ bs, b.2 < 0x3000 ∨ 0x37FF < b.1) {q : Nat} (hq : q < 16) :
    t.get (Port.SEQ_STAT q) = s.get (Port.SEQ_STAT q) := h.2 _ fun b mem => by
  have := away b mem
  unfold Port.SEQ_STAT
  omega

theorem State.touches.inReset {ps : List Part} {bs : List (Nat × Nat)} {s t : State} (h : State.touches ps bs s t)
    (out : Part.cores ∉ ps) (c : Core) : (t.core c).inReset = (s.core c).inReset := by
  obtain ⟨apc, lkc⟩ := h.1 .cores out
  cases c with
  | apc => exact (congrArg CoreState.inReset apc :)
  | lkc => exact (congrArg CoreState.inReset lkc :)

/-- A raise after what keeps the cores out of reset sets the source's pending bits. -/
theorem State.touches.raises {ps : List Part} {bs : List (Nat × Nat)} {s t : State} (h : State.touches ps bs s t)
    (out : Part.cores ∉ ps) {n : Nat} (hn : n < 64) : s.raises n (t.raise n) :=
  fun c up => raise_pends t n c ((h.inReset out c).trans up) hn

/-! ## Fields and registers of a chain (R1, R90) -/

theorem txPort_ne (x : TxChain) {a b : Nat} (h : a ≠ b) : a + 256 * x.num ≠ b + 256 * x.num := by omega

theorem State.getF_setB_apart (s : State) (p q c a b : Nat) (v : Bool) (h : c < 18) (d : a < c ∨ c < b) :
    (s.setB p c v).getF q a b = s.getF q a b :=
  s.getF_setF_apart p q c c _ a b h d

theorem State.getB_setF_apart (s : State) (p q hi lo v b : Nat) (h : hi < 18) (d : b < lo ∨ hi < b) :
    (s.setF p hi lo v).getB q b = s.getB q b := by
  unfold State.getB State.setF
  rw [State.get_set]
  split
  case isTrue e => subst e; exact bitOf_withFld_apart _ hi lo v b h d
  case isFalse => rfl

@[simp] theorem syn_setSyn (s : State) (t v : Nat) : (s.setSyn t v).syn t = v % 8 :=
  s.getF_setF_same _ 17 15 v (by decide)

@[simp] theorem txc_setSyn (s : State) (t v j : Nat) : (s.setSyn t v).txc j = s.txc j := rfl

@[simp] theorem txc_setLast (s : State) (t v j : Nat) : (s.setLast t v).txc j = s.txc j := rfl

@[simp] theorem txc_updTxc (s : State) (t : Nat) (f : TxState → TxState) : (s.updTxc t f).txc t = f (s.txc t) :=
  s.txc_setTxc t _

theorem setSyn_touches (s : State) (x : TxChain) (v : Nat) : State.touches [.regs] [Blk.txc] s (s.setSyn x.num v) :=
  setTxReg_touches s x _ (by decide)

theorem setLast_touches (s : State) (x : TxChain) (v : Nat) : State.touches [.regs] [Blk.txc] s (s.setLast x.num v) :=
  setTxReg_touches s x _ (by decide)

/-- A change of a chain's hidden state and its SYN (R90). -/
theorem updTxc_setSyn_touches (s : State) (x : TxChain) (f : TxState → TxState) (v : Nat) :
    State.touches [.regs, .tx] [Blk.txc] s ((s.updTxc x.num f).setSyn x.num v) :=
  ((updTxc_touches s _ f).seq (setSyn_touches _ x v)).mono (by decide) (by decide)

/-! ## The accountant (R123-R130) -/

theorem noteWarn_touches (s : State) (b : Nat) :
    State.touches [.regs, .pends, .link, .evf] [Blk.evf] s (s.noteWarn b) :=
  .ite (((link_touches s _).seq (raise_touches _ _)).mono (by decide) (by decide))
    ((link_touches s _).mono (by decide) (by decide))

theorem noteWarn_link (s : State) (b : Nat) :
    (s.noteWarn b).link = (s.setLedger b { s.ledger b with warned := s.overWarn b }).link := by
  unfold State.noteWarn
  dsimp only
  split
  · exact (raise_touches _ _).1 .link (by decide)
  · rfl

theorem noteWarn_sniff (s : State) (b : Nat) : (s.noteWarn b).link.sniff = s.link.sniff :=
  (congrArg Link.sniff (noteWarn_link s b) :)

theorem noteWarn_event (s : State) (b q : Nat) : (s.noteWarn b).event q = s.event q :=
  (congrArg (fun l : Link => Cells.rd (fun _ => none) l.events q) (noteWarn_link s b) :)

theorem settle_touches (s : State) (b a e : Nat) :
    State.touches [.regs, .pends, .link, .evf] [Blk.evf] s (s.settle b a e) :=
  ((link_touches s _).mono (by decide) (by decide)).trans (noteWarn_touches _ b)

/-- BANDS of the Rig is a field of four bits. -/
theorem bandOf_lt {s : State} {t off b : Nat} (h : s.bandOf t off = some b) : b < 16 := by
  have below : b < s.bands := List.mem_range.mp (List.mem_of_find?_eq_some h)
  have few : s.bands < 16 := by
    unfold State.bands
    split
    · decide
    · exact fld_lt _ 3 0
  omega

theorem account_noBand {s : State} {t off dur : Nat} {start late : BitVec 54} {free : Nat → Bool}
    (outside : s.bandOf t off = none) :
    s.account t off dur start late free = (none, s.count Port.LTB_ACC_NOBAND) := by
  unfold State.account
  rw [outside]

/-- The accountant counts, and raises DUTY_NOGRANT. -/
theorem account_touches (s : State) (t off dur : Nat) (start late : BitVec 54) (free : Nat → Bool) :
    State.touches [.regs, .pends, .evf] [Blk.evf, Blk.ltb] s (s.account t off dur start late free).2 := by
  cases band : s.bandOf t off with
  | none =>
    rw [account_noBand band]
    exact (set_touches (b := Blk.ltb) s _ (by decide)).mono (by decide) (by decide)
  | some b =>
    have hb := bandOf_lt band
    have counted : ∀ k v, 0x3828 ≤ k ∧ k ≤ 0x382A →
        State.touches [.regs, .pends, .evf] [Blk.evf, Blk.ltb] s (s.set (k + 16 * b) v) := fun k v hk =>
      (set_touches (b := Blk.ltb) s v (by unfold Blk.ltb; omega)).mono (by decide) (by decide)
    have nogrant : State.touches [.regs, .pends, .evf] [Blk.evf, Blk.ltb] s
        ((s.count (Port.LTB_ACC_NOGRANTCNT b)).raise Irq.DUTY_NOGRANT) :=
      (counted _ _ (by decide)).trans ((raise_touches _ _).mono (by decide) (by decide))
    unfold State.account
    rw [band]
    dsimp only
    split
    case isTrue => exact counted _ _ (by decide)
    split
    case isTrue => exact .refl _ _ s
    split
    case isTrue => dsimp only; exact nogrant
    split
    case h_1 => exact counted _ _ (by decide)
    case h_2 => dsimp only; exact nogrant

/-! ## The checks of a transmit request (R84, R85) -/

/-- A request overlaps one that its chain has accepted. -/
def State.txMeets (s : State) (t : Nat) (a : TxAsk) : Bool :=
  (s.spansOf t).any (spansMeet (s.reqSpan (s.rampTicks t) a.tStart a.dur))

/-- The accountant's answer to a request. -/
def State.txGrant (s : State) (t : Nat) (a : TxAsk) : Option (BitVec 54 × Nat) × State :=
  s.account t a.offset.toNat a.dur a.tStart a.tLate
    fun d => !(s.spansOf t).any (spansMeet (s.reqSpan (s.rampTicks t) (a.tStart + ticks d) a.dur))

/-- A request as it is accepted: its start and band granted, and the ramp time in force. -/
def State.reqOf (s : State) (o : TxOwner) (t : Nat) (a : TxAsk) (g : BitVec 54 × Nat) : TxReq :=
  { owner := o, ask := a, start := g.1, band := g.2, code := a.pcode, ramp := s.rampTicks t }

/-- A chain accepts a request. -/
def State.txEnter (s : State) (t : Nat) (r : TxReq) : State :=
  (s.updTxc t fun x =>
    { x with accepted := insertReq r x.accepted,
             tuneReq := x.tuneReq && decide ((insertReq r x.accepted).head? = x.accepted.head?) }).noteWarn r.band

/-- The sequencer of an accepted request waits for it. -/
def State.ownerWaits (s : State) : TxOwner → State
  | .seq q => if (s.event q).isSome then s.setSeqState q 4 else s
  | _ => s

/-- What becomes of a request that overlaps none, by the accountant's answer. -/
def State.txAnswered (s : State) (o : TxOwner) (t : Nat) (a : TxAsk) : Option (BitVec 54 × Nat) × State → State
  | (none, u) => (u.setLast t 6).txFail o 6
  | (some g, u) => (u.txEnter t (s.reqOf o t a g)).ownerWaits o

theorem txAsk_off {s : State} {o : TxOwner} {t : Nat} {a : TxAsk} (off : s.domOn (txDom t) = false) :
    s.txAsk o t a = s.txFail o 7 := if_pos off

section checks
variable {s : State} {t : Nat} {a : TxAsk} (on : s.domOn (txDom t) = true) (offset : a.offset.toNat ≤ maxOffset t)
  (phy : phyServed t a.phy.toNat = true)
include on offset phy

theorem txAsk_meets (o : TxOwner) (meets : s.txMeets t a = true) : s.txAsk o t a = (s.setLast t 2).txFail o 2 := by
  unfold State.txMeets at meets
  simp [State.txAsk, on, Nat.not_lt.mpr offset, phy, meets]

/-- A request that overlaps none is what the accountant makes of it. -/
theorem txAsk_apart (o : TxOwner) (apart : s.txMeets t a = false) :
    s.txAsk o t a = s.txAnswered o t a (s.txGrant t a) := by
  unfold State.txMeets at apart
  unfold State.txAsk State.txGrant
  rw [if_neg (by simp [on]), if_neg (Nat.not_lt.mpr offset), if_neg (by simp [phy])]
  dsimp only
  rw [if_neg (by simp [apart])]
  generalize s.account t _ _ _ _ _ = answer
  obtain ⟨_ | g, u⟩ := answer
  · rfl
  · cases o <;> rfl

theorem txAsk_ungranted (o : TxOwner) (apart : s.txMeets t a = false) (refused : (s.txGrant t a).1 = none) :
    s.txAsk o t a = ((s.txGrant t a).2.setLast t 6).txFail o 6 := by
  rw [txAsk_apart on offset phy o apart, show s.txGrant t a = (none, (s.txGrant t a).2) from Prod.ext refused rfl]
  rfl

theorem txAsk_granted (o : TxOwner) (apart : s.txMeets t a = false) {g : BitVec 54 × Nat}
    (granted : (s.txGrant t a).1 = some g) :
    s.txAsk o t a = ((s.txGrant t a).2.txEnter t (s.reqOf o t a g)).ownerWaits o := by
  rw [txAsk_apart on offset phy o apart, show s.txGrant t a = (some g, (s.txGrant t a).2) from Prod.ext granted rfl]
  rfl

end checks

theorem txGrant_touches (s : State) (t : Nat) (a : TxAsk) :
    State.touches [.regs, .pends, .evf] [Blk.evf, Blk.ltb] s (s.txGrant t a).2 := account_touches s t _ _ _ _ _

theorem txEnter_touches (s : State) (t : Nat) (r : TxReq) :
    State.touches [.regs, .pends, .tx, .link, .evf] [Blk.evf] s (s.txEnter t r) :=
  ((updTxc_touches s t _).seq (noteWarn_touches _ _)).mono (by decide) (by decide)

theorem txEnter_accepted (s : State) (t : Nat) (r : TxReq) :
    ((s.txEnter t r).txc t).accepted = insertReq r (s.txc t).accepted := by
  rw [State.txEnter, (noteWarn_touches _ _).txc (by decide), txc_updTxc]

theorem txEnter_event (s : State) (t q : Nat) (r : TxReq) : (s.txEnter t r).event q = s.event q :=
  noteWarn_event _ _ q

theorem mem_insertReq (r : TxReq) (l : List TxReq) : r ∈ insertReq r l := by
  induction l with
  | nil => exact List.mem_singleton_self r
  | cons a l ih =>
    unfold insertReq
    split
    · exact List.mem_cons_self
    · exact List.mem_cons_of_mem a ih

theorem length_insertReq (r : TxReq) (l : List TxReq) : (insertReq r l).length = l.length + 1 := by
  induction l with
  | nil => rfl
  | cons a l ih =>
    unfold insertReq
    split
    · rfl
    · rw [List.length_cons, ih, List.length_cons]

/-! ## A sequencer reads the frame it is to send (R208, R216) -/

/-- Parts that a read of a queued packet touches. -/
abbrev readParts : List Part := [.regs, .mem, .pends, .basin, .evf]

theorem linkFix_touches (s : State) (l : CellLoc) : State.touches [.basin] [] s (s.linkFix l) := by
  cases l with
  | sram c => exact basin_touches s _
  | _ => exact .refl _ _ s

theorem mendLinks_touches (s : State) (p : Pkt) : State.touches [.basin] [] s (s.mendLinks p) :=
  forEach_touches _ (fun l t => linkFix_touches t l) _ s

/-- A broken link changes its queue's STAT, the Basin's counts, and the header of the hole that stands behind it. -/
theorem breakQueue_touches (s : State) {q : Nat} (k : Nat) (p : Pkt) (later : List Pkt) (hq : q < 128) :
    State.touches readParts [Blk.evf, Blk.bsn] s (s.breakQueue q k p later).2 := by
  have freed := marked_touches s (f := fun s => s.chargeAll 1 (p.cells.drop (k + 1) ++ later.flatMap (·.cells))) hq
    (chargeAll_touches s _ _)
  have broken : ∀ u : State, State.touches queueParts [Blk.evf, Blk.bsn] u
      ((((u.linkFix (p.cells.getD k .lost)).queueFlag q 4).count Port.BSN_LINKCNT).raise Irq.BSN_LINK_FAULT) := fun u =>
    ((((linkFix_touches u _).seq (set_touches (b := Blk.bsn) _ _ (by unfold Blk.bsn Port.BSN_Q_STAT; omega))).seq
      (set_touches (b := Blk.bsn) _ _ (by decide))).seq (raise_touches _ _)).mono (by decide) (by decide)
  unfold State.breakQueue
  dsimp only
  split
  · dsimp only
    exact (freed.trans (broken _)).mono (by decide) (by decide)
  · exact (((freed.trans (broken _)).trans (holeCell_touches _ hq)).seq (setHeaders_touches _ _ _ _)).mono
      (by decide) (by decide)

theorem followAt_touches (s : State) {q : Nat} (i : Nat) (hq : q < 128) :
    State.touches readParts [Blk.evf, Blk.bsn] s (s.followAt q i) := by
  unfold State.followAt
  split
  · exact .refl _ _ s
  · split
    · exact (mendLinks_touches s _).mono (by decide) (by decide)
    · exact ((breakQueue_touches s _ _ _ hq).seq (basin_touches _ _)).mono (by decide) (by decide)

theorem cellRead_touches (s : State) (l : CellLoc) (i : Nat) :
    State.touches [.regs] [Blk.bsn] s (s.cellRead l i).2 := by
  cases l with
  | sram c =>
    unfold State.cellRead
    dsimp only
    split
    · exact set_touches s _ (by decide)
    · split
      · exact set_touches s _ (by decide)
      · exact .refl _ _ s
  | _ => exact .refl _ _ s

theorem payReads_touches (s : State) (p : Pkt) (n : Nat) : State.touches [.regs] [Blk.bsn] s (s.payReads p n).2 :=
  List.foldlRecOn (motive := fun a : List Word × State => State.touches [.regs] [Blk.bsn] s a.2) (List.range n) _
    (.refl _ _ s) fun _ read w _ => read.trans (cellRead_touches _ (p.payCell w) (w % 8))

theorem readFrame_touches (s : State) (e : Event) : State.touches readParts [Blk.evf, Blk.bsn] s (s.readFrame e) := by
  unfold State.readFrame
  cases e.send with
  | queued i =>
    have followed := followAt_touches s (e.retired + i) (fld_lt (e.words.getD 1 0) 13 7 : cTxq e.words < 128)
    dsimp only
    unfold State.readQueued
    dsimp only
    split
    · exact followed
    · exact followed.trans ((payReads_touches _ _ _).mono (by decide) (by decide))
  | _ => exact .refl _ _ s

/-- What touches neither the bands' registers nor the Rig leaves every carrier in its band. -/
theorem State.touches.bandOf {ps : List Part} {bs : List (Nat × Nat)} {s t : State} (h : State.touches ps bs s t)
    (out : Part.rig ∉ ps) (below : ∀ b ∈ bs, b.2 < 0x3800) (x off : Nat) : t.bandOf x off = s.bandOf x off := by
  have reg : ∀ p, 0x3800 ≤ p → t.get p = s.get p := fun p hp => h.2 p fun b mem => .inr ((below b mem).trans_le hp)
  have rig : t.rig = s.rig := h.1 .rig out
  have low : ∀ b, t.get (Port.LTB_ACC_LOW b) = s.get (Port.LTB_ACC_LOW b) := fun b =>
    reg _ (by unfold Port.LTB_ACC_LOW; omega)
  have high : ∀ b, t.get (Port.LTB_ACC_HIGH b) = s.get (Port.LTB_ACC_HIGH b) := fun b =>
    reg _ (by unfold Port.LTB_ACC_HIGH; omega)
  simp only [State.bandOf, State.bands, State.rigF, rig, low, high]

/-! ## A sequencer's request, accepted or refused (R84, R85, R109, R112) -/

/-- A sequencer that may ask is not in CLOSE. -/
theorem mayAsk_state {s : State} {q : Nat} (may : s.seqMayAsk q = true) : s.seqState q ≠ 7 := by
  intro close
  unfold State.seqMayAsk at may
  split at may
  · simp [close] at may
  · cases may

theorem seqReq_chain {s : State} {q x : Nat} {e : Event} {pcode : BitVec 6} {wait : Word} {a : TxAsk}
    (req : (x, a) = s.seqReq q e pcode wait) : ∃ c : TxChain, x = c.num := by
  obtain rfl : x = nat1 (phyGridW (evTxPhy e)) := congrArg Prod.fst req
  cases phyGridW (evTxPhy e)
  · exact ⟨.s, rfl⟩
  · exact ⟨.w, rfl⟩

theorem seqReq_pcode {s : State} {q x : Nat} {e : Event} {pcode : BitVec 6} {wait : Word} {a : TxAsk}
    (req : (x, a) = s.seqReq q e pcode wait) : a.pcode = pcode := congrArg (fun r : Nat × TxAsk => r.2.pcode) req

theorem seqAsk_asks {s : State} {q x : Nat} {e : Event} {pcode : BitVec 6} {wait : Word} {a : TxAsk}
    (level : s.level ≠ 3) (may : s.seqMayAsk q = true) (ev : s.event q = some e)
    (req : (x, a) = (s.readFrame e).seqReq q e pcode wait) :
    s.seqAsk q pcode wait = (s.readFrame e).txAsk (.seq q) x a := by
  unfold State.seqAsk
  rw [if_neg level, ev]
  dsimp only
  rw [if_pos may, ← req]

theorem setSeqState_touches (s : State) {q : Nat} (v : Nat) (hq : q < 16) :
    State.touches [.regs] [Blk.seq] s (s.setSeqState q v) :=
  set_touches s _ (by unfold Blk.seq Port.SEQ_STAT; omega)

theorem seqState_setSeqState (s : State) (q v : Nat) : (s.setSeqState q v).seqState q = v % 8 :=
  s.getF_setF_same _ 14 12 v (by decide)

/-- An event that a request's status ends is in CLOSE with its EVSTAT (R112). -/
theorem txFail_ends {s : State} {q : Nat} {e : Event} (hq : q < 16) (ev : s.event q = some e) (live : s.seqState q ≠ 7)
    (code : Nat) : State.touches [.regs, .link] [Blk.seq] s (s.txFail (.seq q) code) ∧
      (s.txFail (.seq q) code).seqState q = 7 ∧
      (s.txFail (.seq q) code).event q = some { e with evstat := BitVec.ofNat 4 (evstatOf code) } := by
  have ends : s.txFail (.seq q) code =
      (s.setEvent q (some { e with evstat := BitVec.ofNat 4 (evstatOf code) })).setSeqState q 7 := by
    simp [State.txFail, State.endEvent, State.updEvent, ev, live]
  rw [ends]
  exact ⟨((link_touches s _).seq (setSeqState_touches _ 7 hq)).mono (by decide) (by decide),
    seqState_setSeqState _ q 7, by rw [State.setSeqState, State.setF_event, State.event_setEvent]⟩

theorem ownerWaits_seq {s : State} {q : Nat} {e : Event} (ev : s.event q = some e) :
    s.ownerWaits (.seq q) = s.setSeqState q 4 := if_pos (by rw [ev]; rfl)

/-- Parts that a sequencer's request touches. -/
abbrev askParts : List Part := [.regs, .mem, .pends, .basin, .tx, .link, .evf]

/-- Blocks that a sequencer's request touches. -/
abbrev askBlocks : List (Nat × Nat) := [Blk.evf, Blk.bsn, Blk.seq, Blk.ltb, Blk.txc]

theorem readFrame_domOn (s : State) (e : Event) (d : Nat) : (s.readFrame e).domOn d = s.domOn d :=
  congrArg (bitOf · d) ((readFrame_touches s e).2 Port.PWR_DOM_STAT (by decide))

theorem readFrame_rampTicks (s : State) (e : Event) (x : TxChain) :
    (s.readFrame e).rampTicks x.num = s.rampTicks x.num :=
  congrArg (fun w => (fld w 17 15 + 1) * 16) ((readFrame_touches s e).2 (txCtrl x.num) (by cases x <;> decide))

section request
variable {s u : State} {q : Nat} {e : Event} {pcode : BitVec 6} {wait : Word} {x : TxChain} {a : TxAsk}
  (hq : q < 16) (level : s.level ≠ 3) (may : s.seqMayAsk q = true) (ev : s.event q = some e)
include hq may ev

/-- The event of a sequencer that may ask ends when its request fails, whatever was counted since its frame was read. -/
theorem txFail_afterRead {ps : List Part} {bs : List (Nat × Nat)} (told : State.touches ps bs (s.readFrame e) u)
    (link : Part.link ∉ ps) (apart : ∀ b ∈ bs, b.2 < 0x3000 ∨ 0x37FF < b.1) (code : Nat) :
    State.touches [.regs, .link] [Blk.seq] u (u.txFail (.seq q) code) ∧ (u.txFail (.seq q) code).seqState q = 7 ∧
      (u.txFail (.seq q) code).event q = some { e with evstat := BitVec.ofNat 4 (evstatOf code) } := by
  have read := readFrame_touches s e
  have here : u.event q = some e := (told.event link q).trans ((read.event (by decide) q).trans ev)
  have stat : u.get (Port.SEQ_STAT q) = s.get (Port.SEQ_STAT q) :=
    (told.seqStat apart hq).trans (read.seqStat (by decide) hq)
  exact txFail_ends hq here (fun close => mayAsk_state may ((congrArg (fld · 14 12) stat).symm.trans close)) code

variable (req : (x.num, a) = (s.readFrame e).seqReq q e pcode wait)
include level req

/-- A request to a chain that is off ends its event with EVSTAT 10 (R84, R112). -/
theorem seqAsk_off (off : s.domOn (txDom x.num) = false) :
    State.touches askParts askBlocks s (s.seqAsk q pcode wait) ∧ (s.seqAsk q pcode wait).seqState q = 7 ∧
    (s.seqAsk q pcode wait).event q = some { e with evstat := 10 } ∧ (s.seqAsk q pcode wait).tx = s.tx := by
  have read := readFrame_touches s e
  obtain ⟨touched, close, ended⟩ := txFail_afterRead hq may ev (.refl [] [] _) (by decide) (by simp) 7
  rw [seqAsk_asks level may ev req, txAsk_off ((readFrame_domOn s e _).trans off)]
  exact ⟨(read.seq touched).mono (by decide) (by decide), close, ended, (read.seq touched).1 .tx (by decide)⟩

variable (on : s.domOn (txDom x.num) = true) (offset : a.offset.toNat ≤ maxOffset x.num)
  (phy : phyServed x.num a.phy.toNat = true)
include on offset phy

/-- A request that overlaps an accepted one is refused with LAST 2 (R84, R85). -/
theorem seqAsk_meets (meets : (s.readFrame e).txMeets x.num a = true) :
    State.touches askParts askBlocks s (s.seqAsk q pcode wait) ∧
    (s.seqAsk q pcode wait).getF (Port.TXC_STAT x.num) 14 12 = 2 ∧
    (s.seqAsk q pcode wait).txc x.num = s.txc x.num ∧ (s.seqAsk q pcode wait).seqState q = 7 := by
  have read := readFrame_touches s e
  have told := setLast_touches (s.readFrame e) x 2
  obtain ⟨touched, close, -⟩ := txFail_afterRead hq may ev told (by decide) (by decide) 2
  have all := (read.seq told).seq touched
  rw [seqAsk_asks level may ev req, txAsk_meets ((readFrame_domOn s e _).trans on) offset phy _ meets]
  exact ⟨all.mono (by decide) (by decide),
    (congrArg (fld · 14 12) (touched.2 (Port.TXC_STAT x.num) (by cases x <;> decide))).trans
      (State.getF_setF_same _ _ 14 12 2 (by decide)), all.txc (by decide) _, close⟩

variable (apart : (s.readFrame e).txMeets x.num a = false)
include apart

/-- A request whose offset lies in no band gets no grant (R123): NOBAND counts, LAST reads 6, and EVSTAT is 4. -/
theorem seqAsk_noBand (outside : s.bandOf x.num a.offset.toNat = none) :
    State.touches askParts askBlocks s (s.seqAsk q pcode wait) ∧ s.counts Port.LTB_ACC_NOBAND (s.seqAsk q pcode wait) ∧
    (s.seqAsk q pcode wait).getF (Port.TXC_STAT x.num) 14 12 = 6 ∧
    (s.seqAsk q pcode wait).event q = some { e with evstat := 4 } ∧
    (s.seqAsk q pcode wait).txc x.num = s.txc x.num := by
  have read := readFrame_touches s e
  have answer : (s.readFrame e).txGrant x.num a = (none, (s.readFrame e).count Port.LTB_ACC_NOBAND) :=
    account_noBand ((read.bandOf (by decide) (by decide) _ _).trans outside)
  have counted : State.touches [.regs] [Blk.ltb] (s.readFrame e) ((s.readFrame e).count Port.LTB_ACC_NOBAND) :=
    set_touches _ _ (by decide)
  have last := setLast_touches ((s.readFrame e).count Port.LTB_ACC_NOBAND) x 6
  obtain ⟨touched, -, ended⟩ := txFail_afterRead hq may ev (counted.seq last) (by decide) (by decide) 6
  have all := (read.seq (counted.seq last)).seq touched
  have count : s.counts Port.LTB_ACC_NOBAND ((s.readFrame e).count Port.LTB_ACC_NOBAND) :=
    (State.get_count_same _ _).trans (congrArg satInc (read.2 _ (by decide)))
  rw [seqAsk_asks level may ev req, txAsk_ungranted ((readFrame_domOn s e _).trans on) offset phy _ apart
    (congrArg Prod.fst answer), answer]
  exact ⟨all.mono (by decide) (by decide), ((last.seq touched).2 _ (by decide)).trans count,
    (congrArg (fld · 14 12) (touched.2 (Port.TXC_STAT x.num) (by cases x <;> decide))).trans
      (State.getF_setF_same _ _ 14 12 6 (by decide)), ended, all.txc (by decide) _⟩

/-- A request that passes the checks and gets its grant stands among the accepted ones, and its sequencer waits for it
(R84, R85, R125). -/
theorem seqAsk_enters {g : BitVec 54 × Nat} (granted : ((s.readFrame e).txGrant x.num a).1 = some g) :
    State.touches askParts askBlocks s (s.seqAsk q pcode wait) ∧
    ((s.seqAsk q pcode wait).txc x.num).accepted = insertReq (s.reqOf (.seq q) x.num a g) (s.txc x.num).accepted ∧
    (s.seqAsk q pcode wait).seqState q = 4 := by
  have read := readFrame_touches s e
  have asked := txGrant_touches (s.readFrame e) x.num a
  have entered := txEnter_touches ((s.readFrame e).txGrant x.num a).2 x.num ((s.readFrame e).reqOf (.seq q) x.num a g)
  have here : (((s.readFrame e).txGrant x.num a).2.txEnter x.num ((s.readFrame e).reqOf (.seq q) x.num a g)).event q =
      some e := (txEnter_event _ _ q _).trans ((asked.event (by decide) q).trans ((read.event (by decide) q).trans ev))
  have ramp : (s.readFrame e).reqOf (.seq q) x.num a g = s.reqOf (.seq q) x.num a g := by
    rw [State.reqOf, readFrame_rampTicks, State.reqOf]
  rw [seqAsk_asks level may ev req, txAsk_granted ((readFrame_domOn s e _).trans on) offset phy _ apart granted,
    ownerWaits_seq here]
  refine ⟨(((read.seq asked).seq entered).seq (setSeqState_touches _ 4 hq)).mono (by decide) (by decide), ?_,
    seqState_setSeqState _ q 4⟩
  rw [State.setSeqState, State.setF_txc, txEnter_accepted, (read.seq asked).txc (by decide), ramp]

end request

/-! ## Tuning, lock and KEEP (R86, R90) -/

/-- At its tune start a request's power is chosen and an IDLE synthesiser tunes to its offset. -/
theorem tuneStart_idle {s : State} {t : Nat} {r : TxReq} (next : s.nextReq t = some r)
    (due : s.tuneAt t r ≤ s.time.wall) (idle : s.syn t = 1) : s.tuneStart t =
      ((s.choosePower t r).updTxc t fun x => { x with tuned := some r.ask.offset }).setSyn t 3 := by
  simp [State.tuneStart, next, idle, Int.not_lt.mpr due]

theorem synthLock_locks {s : State} {t : Nat} (locking : s.syn t = 3) :
    s.synthLock t = (s.updTxc t fun x => { x with lockAt := s.time.wall }).setSyn t 4 := if_pos locking

theorem keepEnd_idle {s : State} {t : Nat} (locked : s.syn t = 4) (free : (s.txc t).accepted = [])
    (passed : max (s.txc t).idleFrom (s.txc t).lockAt + s.getF (txCtrl t) 8 0 * 160 ≤ s.time.wall) :
    s.keepEnd t = (s.updTxc t fun x => { x with tuned := none }).setSyn t 1 := if_pos ⟨locked, free, passed⟩

/-- Settles O5, clause by clause from the lemma that says what its command does. -/
theorem transmitRequestTuningAndLock : Obligations.TransmitRequestTuningAndLock := by
  unfold Obligations.TransmitRequestTuningAndLock
  intro s
  refine ⟨fun q pcode wait e u x a st b level may ev hu req on offset phy apart granted => ⟨_, rfl, ?enters⟩,
    fun q pcode wait e x a level may ev req off => ⟨_, rfl, ?off⟩,
    fun q pcode wait e u x a level may ev hu req on offset phy meets => ⟨_, rfl, ?meets⟩,
    fun q pcode wait e u x a level may ev hu req on offset phy apart outside => ⟨_, rfl, ?noBand⟩,
    fun x r next due idle => ⟨_, rfl, ?tunes⟩, fun x locking => ⟨_, rfl, ?locks⟩,
    fun x locked free passed => ⟨_, rfl, ?keeps⟩⟩
  case enters =>
    subst hu
    obtain ⟨x, rfl⟩ := seqReq_chain req
    obtain ⟨touched, accepted, waits⟩ := seqAsk_enters q.isLt level may ev req on offset phy apart granted
    exact ⟨touched.mono (by decide) (by decide), by rw [accepted, State.reqOf, seqReq_pcode req], waits⟩
  case off =>
    obtain ⟨x, rfl⟩ := seqReq_chain req
    obtain ⟨touched, close, ended, tx⟩ := seqAsk_off q.isLt level may ev req off
    exact ⟨touched.mono (by decide) (by decide), close, by rw [ended]; rfl, tx⟩
  case meets =>
    subst hu
    obtain ⟨x, rfl⟩ := seqReq_chain req
    obtain ⟨touched, last, txc, close⟩ := seqAsk_meets q.isLt level may ev req on offset phy meets
    exact ⟨touched.mono (by decide) (by decide), last, congrArg TxState.accepted txc, close⟩
  case noBand =>
    subst hu
    obtain ⟨x, rfl⟩ := seqReq_chain req
    obtain ⟨touched, counted, last, ended, txc⟩ := seqAsk_noBand q.isLt level may ev req on offset phy apart outside
    exact ⟨touched.mono (by decide) (by decide), counted, last, by rw [ended]; rfl, congrArg TxState.accepted txc⟩
  case tunes =>
    rw [tuneStart_idle next due idle]
    refine ⟨?_, syn_setSyn _ _ 3, ?_⟩
    · exact ((updTxc_touches s _ _).mono (by decide) (by decide)).trans (updTxc_setSyn_touches _ x _ 3)
    · rw [txc_setSyn, txc_updTxc, State.choosePower, txc_updTxc]
      exact ⟨rfl, rfl, rfl, rfl⟩
  case locks =>
    rw [synthLock_locks locking]
    exact ⟨updTxc_setSyn_touches s x _ 4, syn_setSyn _ _ 4, by rw [txc_setSyn, txc_updTxc]⟩
  case keeps =>
    rw [keepEnd_idle locked free passed]
    exact ⟨updTxc_setSyn_touches s x _ 1, syn_setSyn _ _ 1, by rw [txc_setSyn, txc_updTxc]⟩

/-! ## The course of a transmission (R87-R91) -/

/-- A transmission as its ramp-up begins (R87, R125). -/
def State.runOf (s : State) (t : Nat) (r : TxReq) : TxRun :=
  { req := { r with code := (s.txc t).pcode }, phase := .rampUp, begun := s.time.wall, begunLed := s.time.led,
    span := s.reqSpan r.ramp r.start r.ask.dur, res := s.resOf r, downAt := 0, lag := s.fecLag, aborted := false,
    lostLock := false }

/-- The chain's hidden state and STAT once ramp-up has begun. -/
def State.ramped (s : State) (t : Nat) (r : TxReq) : State :=
  (((s.updTxc t fun x => { x with accepted := x.accepted.tail, cur := some (s.runOf t r), tuneReq := false }).setSyn t
    5).setF (Port.TXC_STAT t) 5 0 (s.txc t).pcode.toNat).setB (Port.TXC_STAT t) 11 (s.txc t).law

theorem rampUp_ramps {s : State} {t : Nat} {r : TxReq} (next : s.nextReq t = some r) (ready : s.rampReady t r = true) :
    s.rampUp t = if (s.txc t).law then (s.ramped t r).count (Port.TXC_LAWCNT t) else s.ramped t r := by
  simp [State.rampUp, next, ready, State.ramped, State.runOf]

theorem ramped_touches (s : State) (x : TxChain) (r : TxReq) :
    State.touches [.regs, .tx] [Blk.txc] s (s.ramped x.num r) :=
  (updTxc_setSyn_touches s x _ 5).trans
    (((setTxReg_touches _ x _ (by decide)).trans (setTxReg_touches _ x _ (by decide))).mono (by decide) (by decide))

theorem ramped_txc (s : State) (t : Nat) (r : TxReq) : (s.ramped t r).txc t =
    { s.txc t with accepted := (s.txc t).accepted.tail, cur := some (s.runOf t r), tuneReq := false } := by
  rw [State.ramped, State.setB_txc, State.setF_txc, txc_setSyn, txc_updTxc]

theorem ramped_syn (s : State) (t : Nat) (r : TxReq) : (s.ramped t r).syn t = 5 := by
  rw [State.ramped, State.syn, State.getF_setB_apart _ _ _ 11 17 15 _ (by decide) (by decide),
    State.getF_setF_apart _ _ _ 5 0 _ 17 15 (by decide) (by decide)]
  exact syn_setSyn _ _ 5

theorem ramped_pcode (s : State) (t : Nat) (r : TxReq) :
    (s.ramped t r).getF (Port.TXC_STAT t) 5 0 = (s.txc t).pcode.toNat := by
  rw [State.ramped, State.getF_setB_apart _ _ _ 11 5 0 _ (by decide) (by decide)]
  exact (State.getF_setF_same _ _ 5 0 _ (by decide)).trans (Nat.mod_eq_of_lt (s.txc t).pcode.isLt)

/-- Ramp-up of the earliest request, which leaves the accepted ones (R87). -/
theorem rampUp_begins {s : State} {x : TxChain} {r : TxReq} (next : s.nextReq x.num = some r)
    (ready : s.rampReady x.num r = true) :
    State.touches [.regs, .tx] [Blk.txc] s (s.rampUp x.num) ∧ (s.rampUp x.num).syn x.num = 5 ∧
    (s.rampUp x.num).getF (Port.TXC_STAT x.num) 5 0 = (s.txc x.num).pcode.toNat ∧
    (s.rampUp x.num).txc x.num = { s.txc x.num with
      accepted := (s.txc x.num).accepted.tail, cur := some (s.runOf x.num r), tuneReq := false } := by
  have ramped := ramped_touches s x r
  rw [rampUp_ramps next ready]
  split
  case isTrue =>
    have stat := (s.ramped x.num r).get_count_other (p := Port.TXC_LAWCNT x.num) (q := Port.TXC_STAT x.num)
      (txPort_ne x (by decide))
    exact ⟨ramped.trans ((setTxReg_touches _ x _ (by decide)).mono (by decide) (by decide)),
      (congrArg (fld · 17 15) stat).trans (ramped_syn s _ r), (congrArg (fld · 5 0) stat).trans (ramped_pcode s _ r),
      (State.count_txc _ _ _).trans (ramped_txc s _ r)⟩
  case isFalse => exact ⟨ramped, ramped_syn s _ r, ramped_pcode s _ r, ramped_txc s _ r⟩

/-- The first bit of a transmission that is not a sniff window's (R87). -/
theorem bitLeaves_onAir {s : State} {t : Nat} {k : TxRun} (cur : (s.txc t).cur = some k) (up : k.phase = .rampUp)
    (due : k.begun + k.req.ramp ≤ s.time.wall + 1) (owner : k.req.owner ≠ .sniff) : s.bitLeaves t =
      (s.updTxc t fun x => { x with cur := some { k with phase := .onAir } }).raiseProducer (Ev.txFirstBit t) := by
  have first : s.firstBit t =
      (s.updTxc t fun x => { x with cur := some { k with phase := .onAir } }).raiseProducer (Ev.txFirstBit t) := by
    simp [State.firstBit, cur, up, due]
  have early : ∀ u : State, u.sniffLate k.req.start k.req.owner = u := fun u => if_neg fun h => owner h.1
  have air : ((s.firstBit t).txc t).cur = some { k with phase := .onAir } := by
    rw [first, (raiseProducer_touches _ _).txc (by decide), txc_updTxc]
  unfold State.bitLeaves
  dsimp only
  rw [cur, air]
  dsimp only
  rw [early, ite_self, first]

/-- The last bit of a test transmission (R89). -/
theorem lastBit_downs {s : State} {t : Nat} {k : TxRun} (cur : (s.txc t).cur = some k) (air : k.phase = .onAir)
    (test : k.req.owner = .test) (due : k.begun + k.req.ramp + k.req.ask.dur ≤ s.time.wall + 1) : s.lastBit t =
      s.updTxc t fun x => { x with cur := some { k with phase := .rampDown, downAt := s.time.wall } } := by
  simp [State.lastBit, cur, air, test, due]

/-- A ramp-down is over and its time is charged; SYN is LOCKING after a loss of lock (R88-R91). -/
def State.rampCharged (s : State) (t : Nat) (k : TxRun) : State :=
  ((s.updTxc t fun x =>
    { x with cur := none, prevEnd := some s.time.wall, prevLag := k.lag, idleFrom := s.time.wall }).settle k.req.band
    k.begunLed (s.time.led - (s.time.wall - (k.downAt + k.req.ramp + 1)))).setSyn t (if k.lostLock then 3 else 4)

/-- The event fabric has seen the end of a ramp-down (R421). -/
def State.rampOver (s : State) (t : Nat) (k : TxRun) : State := (s.rampCharged t k).raiseProducer (Ev.txRampEnd t)

theorem rampDone_ends {s : State} {t : Nat} {k : TxRun} (cur : (s.txc t).cur = some k) (passed : s.downOver k = true)
    (test : k.req.owner = .test) :
    s.rampDone t = if k.aborted then s.rampOver t k else (s.rampOver t k).setLast t 0 := by
  simp [State.rampDone, State.rampEnd, cur, passed, test, State.rampOver, State.rampCharged]

theorem rampOver_touches (s : State) (x : TxChain) (k : TxRun) :
    State.touches [.regs, .pends, .tx, .link, .evf] [Blk.evf, Blk.txc] s (s.rampOver x.num k) :=
  ((((updTxc_touches s _ _).seq (settle_touches _ _ _ _)).seq (setSyn_touches _ x _)).seq
    (raiseProducer_touches _ _)).mono (by decide) (by decide)

theorem rampOver_syn (s : State) (x : TxChain) (k : TxRun) :
    (s.rampOver x.num k).syn x.num = if k.lostLock then 3 else 4 := by
  have stat := raiseProducer_get (s.rampCharged x.num k) (Ev.txRampEnd x.num) (Port.TXC_STAT x.num)
    (by cases x <;> decide)
  refine (congrArg (fld · 17 15) stat).trans ((syn_setSyn _ _ _).trans ?_)
  split <;> rfl

theorem rampOver_txc (s : State) (t : Nat) (k : TxRun) : (s.rampOver t k).txc t =
    { s.txc t with cur := none, prevEnd := some s.time.wall, prevLag := k.lag, idleFrom := s.time.wall } := by
  rw [State.rampOver, (raiseProducer_touches _ _).txc (by decide), State.rampCharged, txc_setSyn,
    (settle_touches _ _ _ _).txc (by decide), txc_updTxc]

/-- The end of a test transmission's ramp-down; LAST reads 0 when it was not aborted (R88-R91). -/
theorem rampDone_spec {s : State} {x : TxChain} {k : TxRun} (cur : (s.txc x.num).cur = some k)
    (passed : s.downOver k = true) (test : k.req.owner = .test) :
    State.touches [.regs, .pends, .tx, .link, .evf] [Blk.evf, Blk.txc] s (s.rampDone x.num) ∧
    ((s.rampDone x.num).txc x.num).cur = none ∧ ((s.rampDone x.num).txc x.num).prevEnd = some s.time.wall ∧
    (s.rampDone x.num).syn x.num = (if k.lostLock then 3 else 4) ∧
    (k.aborted = false → (s.rampDone x.num).getF (Port.TXC_STAT x.num) 14 12 = 0) := by
  have ended := rampOver_touches s x k
  have txc := rampOver_txc s x.num k
  rw [rampDone_ends cur passed test]
  split
  case isTrue aborted =>
    exact ⟨ended, by rw [txc], by rw [txc], rampOver_syn s x k,
      fun whole => absurd (aborted.symm.trans whole) (by decide)⟩
  case isFalse =>
    refine ⟨ended.trans ((setLast_touches _ x 0).mono (by decide) (by decide)), by rw [txc_setLast, txc],
      by rw [txc_setLast, txc], ?_, fun _ => State.getF_setF_same _ _ 14 12 0 (by decide)⟩
    exact (State.getF_setF_apart _ _ _ 14 12 0 17 15 (by decide) (by decide)).trans (rampOver_syn s x k)

/-! ## Requests taken back, and loss of lock (R87, R88, R125) -/

theorem noteAll_touches (l : List TxReq) (s : State) :
    State.touches [.regs, .pends, .link, .evf] [Blk.evf] s (forEach l (fun r u => u.noteWarn r.band) s) := by
  refine forEach_touches _ (fun r u => ?_) l s
  exact noteWarn_touches u r.band

theorem noteAll_sniff (l : List TxReq) (s : State) :
    (forEach l (fun r u => u.noteWarn r.band) s).link.sniff = s.link.sniff := by
  refine forEach_keeps (fun u => u.link.sniff) _ (fun r u => ?_) l s
  exact noteWarn_sniff u r.band

theorem dropReqs_touches (s : State) (t : Nat) (p : TxReq → Bool) :
    State.touches [.regs, .pends, .tx, .link, .evf] [Blk.evf] s (s.dropReqs t p) := by
  unfold State.dropReqs
  dsimp only
  split
  · exact .refl _ _ s
  · exact ((updTxc_touches s t _).seq (noteAll_touches _ _)).mono (by decide) (by decide)

theorem dropReqs_sniff (s : State) (t : Nat) (p : TxReq → Bool) : (s.dropReqs t p).link.sniff = s.link.sniff := by
  unfold State.dropReqs
  dsimp only
  split
  · rfl
  · rw [noteAll_sniff]; rfl

/-- Of a chain's accepted requests those that meet the test are gone. -/
theorem dropReqs_accepted (s : State) (t : Nat) (p : TxReq → Bool) :
    ((s.dropReqs t p).txc t).accepted = (s.txc t).accepted.filter fun r => !p r := by
  unfold State.dropReqs
  dsimp only
  split
  case isTrue empty =>
    refine (List.filter_eq_self.mpr fun r mem => ?_).symm
    simpa using List.filter_eq_nil_iff.mp (List.isEmpty_iff.mp empty) r mem
  case isFalse => rw [(noteAll_touches _ _).txc (by decide), txc_updTxc]

theorem sniffSent_idle {s : State} (idle : s.link.sniff = none) : s.sniffSent = s := by
  unfold State.sniffSent
  rw [idle]

/-- A test's request that is skipped as late, up to the raise of TX_LATE (R87). -/
def State.lateDropped (s : State) (t : Nat) (r : TxReq) : State :=
  ((s.dropReqs t fun x => decide (x = r)).setLast t 1).count (Port.TXC_LATECNT t)

theorem skipNow_drops {s : State} {t : Nat} {r : TxReq} (next : s.nextReq t = some r) (late : s.tooLate t r = true)
    (test : r.owner = .test) (sniff : s.link.sniff = none) :
    s.skipNow t = (s.lateDropped t r).raise Irq.TX_LATE := by
  have skips : s.skipLate t = (s.lateDropped t r).raise Irq.TX_LATE := by
    simp [State.skipLate, next, late, test, State.txFail, State.lateDropped]
  have idle : ((s.lateDropped t r).raise Irq.TX_LATE).link.sniff = none := by
    rw [(raise_touches _ _).1 .link (by decide), State.lateDropped, State.count_link, State.setLast, State.setF_link,
      dropReqs_sniff, sniff]
  unfold State.skipNow
  rw [skips, next]
  dsimp only
  rw [if_neg (by simp [test] : ¬r.owner = .sniff), sniffSent_idle idle, ite_self]

theorem lateDropped_touches (s : State) (x : TxChain) (r : TxReq) :
    State.touches [.regs, .pends, .tx, .link, .evf] [Blk.evf, Blk.txc] s (s.lateDropped x.num r) :=
  (((dropReqs_touches s _ _).seq (setLast_touches _ x 1)).seq (setTxReg_touches _ x _ (by decide))).mono
    (by decide) (by decide)

/-- A late request of a test is taken off, LAST reads 1, LATECNT counts and TX_LATE is raised (R87). -/
theorem skipNow_late {s : State} {x : TxChain} {r : TxReq} (next : s.nextReq x.num = some r)
    (late : s.tooLate x.num r = true) (test : r.owner = .test) (sniff : s.link.sniff = none) :
    State.touches [.regs, .pends, .tx, .link, .evf] [Blk.evf, Blk.txc] s (s.skipNow x.num) ∧
    ((s.skipNow x.num).txc x.num).accepted = (s.txc x.num).accepted.filter (fun y => !decide (y = r)) ∧
    (s.skipNow x.num).getF (Port.TXC_STAT x.num) 14 12 = 1 ∧ s.counts (Port.TXC_LATECNT x.num) (s.skipNow x.num) ∧
    s.raises Irq.TX_LATE (s.skipNow x.num) := by
  have dropped := lateDropped_touches s x r
  have raised := raise_touches (s.lateDropped x.num r) Irq.TX_LATE
  have stat := (raised.2 (Port.TXC_STAT x.num) (by cases x <;> decide)).trans
    (State.get_count_other _ (txPort_ne x (by decide)))
  have before : ((s.dropReqs x.num fun y => decide (y = r)).setLast x.num 1).get (Port.TXC_LATECNT x.num) =
      s.get (Port.TXC_LATECNT x.num) :=
    (State.get_setF_other _ _ _ _ (txPort_ne x (by decide))).trans
      ((dropReqs_touches s _ _).2 _ (by cases x <;> decide))
  rw [skipNow_drops next late test sniff]
  refine ⟨dropped.trans (raised.mono (by decide) (by decide)), ?accepted,
    (congrArg (fld · 14 12) stat).trans (State.getF_setF_same _ _ 14 12 1 (by decide)), ?counted,
    dropped.raises (by decide) (by decide)⟩
  case accepted => rw [raised.txc (by decide), State.lateDropped, State.count_txc, txc_setLast, dropReqs_accepted]
  case counted =>
    exact (raised.2 _ (by cases x <;> decide)).trans ((State.get_count_same _ _).trans (congrArg satInc before))

/-- Loss of lock while nothing is transmitted (R88). -/
theorem lockLost_idle {s : State} {t : Nat} (free : (s.txc t).cur = none) (locked : s.syn t = 4) :
    s.lockLost t = (s.setSyn t 3).raise Irq.TX_UNLOCK := by
  simp [State.lockLost, free, locked]

/-- A test transmission that is aborted by loss of lock (R88). -/
def State.unlocked (s : State) (t : Nat) (k : TxRun) : State :=
  ((s.updTxc t fun x => { x with cur := some { k with phase := .rampDown, downAt := s.time.wall, aborted := true,
                                                      lostLock := true } }).setLast t 5).count (Port.TXC_ABORTCNT t)

theorem lockLost_aborts {s : State} {t : Nat} {k : TxRun} (cur : (s.txc t).cur = some k) (up : k.phase ≠ .rampDown)
    (test : k.req.owner = .test) : s.lockLost t = (s.unlocked t k).raise Irq.TX_UNLOCK := by
  simp [State.lockLost, cur, up, State.abortRun, test, State.txFail, State.unlocked]

theorem unlocked_touches (s : State) (x : TxChain) (k : TxRun) :
    State.touches [.regs, .tx] [Blk.txc] s (s.unlocked x.num k) :=
  (((updTxc_touches s _ _).seq (setLast_touches _ x 5)).seq (setTxReg_touches _ x _ (by decide))).mono
    (by decide) (by decide)

/-- Loss of lock aborts a test transmission: LAST reads 5, ABORTCNT counts and TX_UNLOCK is raised (R88). -/
theorem lockLost_test {s : State} {x : TxChain} {k : TxRun} (cur : (s.txc x.num).cur = some k)
    (up : k.phase ≠ .rampDown) (test : k.req.owner = .test) :
    State.touches [.regs, .pends, .tx, .evf] [Blk.evf, Blk.txc] s (s.lockLost x.num) ∧
    ((s.lockLost x.num).txc x.num).cur =
      some { k with phase := .rampDown, downAt := s.time.wall, aborted := true, lostLock := true } ∧
    s.counts (Port.TXC_ABORTCNT x.num) (s.lockLost x.num) ∧
    (s.lockLost x.num).getF (Port.TXC_STAT x.num) 14 12 = 5 ∧ s.raises Irq.TX_UNLOCK (s.lockLost x.num) := by
  have aborted := unlocked_touches s x k
  have raised := raise_touches (s.unlocked x.num k) Irq.TX_UNLOCK
  have stat := (raised.2 (Port.TXC_STAT x.num) (by cases x <;> decide)).trans
    (State.get_count_other _ (txPort_ne x (by decide)))
  rw [lockLost_aborts cur up test]
  refine ⟨(aborted.seq raised).mono (by decide) (by decide), ?_, ?_,
    (congrArg (fld · 14 12) stat).trans (State.getF_setF_same _ _ 14 12 5 (by decide)),
    aborted.raises (by decide) (by decide)⟩
  · rw [raised.txc (by decide), State.unlocked, State.count_txc, txc_setLast, txc_updTxc]
  · refine (raised.2 _ (by cases x <;> decide)).trans ((State.get_count_same _ _).trans (congrArg satInc ?_))
    exact State.get_setF_other _ _ _ _ (txPort_ne x (by decide))

/-- Settles O6, clause by clause from the lemma that says what its command does. -/
theorem transmissionRunsFromRampUpToRampDown : Obligations.TransmissionRunsFromRampUpToRampDown := by
  unfold Obligations.TransmissionRunsFromRampUpToRampDown
  intro s
  refine ⟨fun x r next ready => ⟨_, rfl, ?begins⟩, fun x k cur up due owner => ⟨_, rfl, ?onAir⟩,
    fun x k cur air test due => ⟨_, rfl, ?downs⟩, fun x k cur passed test kept whole => ⟨_, rfl, ?ends⟩,
    fun x k cur passed test lost => ⟨_, rfl, ?relocks⟩,
    fun x r next late test sniff _ => ⟨_, rfl, ?skips⟩,
    fun x free locked sniff => ?loses, fun x k cur up test sniff => ?aborts⟩
  case begins =>
    obtain ⟨touched, syn, code, txc⟩ := rampUp_begins next ready
    refine ⟨touched, syn, by rw [txc], code, ?_⟩
    rw [txc]
    exact decide_eq_true ⟨rfl, rfl, rfl⟩
  case onAir =>
    have raised := raiseProducer_touches
      (s.updTxc x.num fun x => { x with cur := some { k with phase := .onAir } }) (Ev.txFirstBit x.num)
    rw [bitLeaves_onAir cur up due owner]
    exact ⟨((updTxc_touches s _ _).seq raised).mono (by decide) (by decide), by rw [raised.txc (by decide), txc_updTxc]⟩
  case downs =>
    rw [lastBit_downs cur air test due]
    exact ⟨updTxc_touches s _ _, by rw [txc_updTxc]⟩
  case ends =>
    obtain ⟨touched, free, prevEnd, syn, last⟩ := rampDone_spec cur passed test
    exact ⟨touched, free, prevEnd, by rw [syn, kept]; rfl, last whole⟩
  case relocks =>
    obtain ⟨touched, free, -, syn, -⟩ := rampDone_spec cur passed test
    exact ⟨touched, free, by rw [syn, lost]; rfl⟩
  case skips =>
    obtain ⟨touched, skipped⟩ := skipNow_late next late test sniff
    exact ⟨touched.mono (by decide) (by decide), skipped⟩
  case loses =>
    have raised := raise_touches (s.setSyn x.num 3) Irq.TX_UNLOCK
    have quiet : (s.lockLost x.num).sniffSent = (s.setSyn x.num 3).raise Irq.TX_UNLOCK := by
      rw [lockLost_idle free locked]
      exact sniffSent_idle ((congrArg Link.sniff (raised.1 .link (by decide))).trans sniff)
    refine ⟨_, congrArg Host.Outcome.next quiet, ((setSyn_touches s x 3).seq raised).mono (by decide) (by decide),
      (congrArg (fld · 17 15) (raised.2 (Port.TXC_STAT x.num) (by cases x <;> decide))).trans (syn_setSyn s _ 3),
      (setSyn_touches s x 3).raises (by decide) (by decide)⟩
  case aborts =>
    have lost := lockLost_test cur up test
    have quiet : (s.lockLost x.num).sniffSent = s.lockLost x.num :=
      sniffSent_idle ((congrArg Link.sniff (lost.1.1 .link (by decide))).trans sniff)
    exact ⟨_, congrArg Host.Outcome.next quiet, lost⟩

/-! ## The Sluice's bookkeeping (R406-R410) -/

theorem sluiceAsk_touches (s : State) (a : Nat) : State.touches [.regs, .sluice] [Blk.mnt] s (s.sluiceAsk a) :=
  .ite (.refl _ _ s)
    (((sluice_touches s _).seq (set_touches (b := Blk.mnt) _ _ (by decide))).mono (by decide) (by decide))

theorem sluiceAsk_stands (s : State) {a : Nat} (ha : a < 18) :
    ((s.sluiceAsk a).granted a || (s.sluiceAsk a).waits a) = true := by
  unfold State.sluiceAsk
  split
  case isTrue h => simpa using h
  case isFalse => simp [State.waits, State.getB_setB_same _ _ a true ha]

theorem sluiceDrop_touches (s : State) (a : Nat) : State.touches [.regs, .sluice] [Blk.mnt] s (s.sluiceDrop a) :=
  (((sluice_touches s _).seq (set_touches (b := Blk.mnt) _ _ (by decide))).trans
    (((set_touches (b := Blk.mnt) _ _ (by decide)).trans (set_touches _ _ (by decide))).mono (by decide) (by decide)) :
    State.touches [.sluice, .regs] [Blk.mnt] s (s.sluiceDrop a)).mono (by decide) (by decide)

theorem sluiceDrop_granted (s : State) {a : Nat} (ha : a < 18) : (s.sluiceDrop a).granted a = false := by
  unfold State.sluiceDrop State.granted
  rw [State.getB, State.get_setB_other _ _ _ (by decide)]
  exact State.getB_setB_same _ _ a false ha

theorem sluiceGive_touches (s : State) (a : Nat) : State.touches [.regs, .sluice] [Blk.mnt] s (s.sluiceGive a) :=
  ((sluiceDrop_touches s a).seq (set_touches (b := Blk.mnt) _ _ (by decide))).mono (by decide) (by decide)

theorem sluiceGive_granted (s : State) {a : Nat} (ha : a < 18) : (s.sluiceGive a).granted a = true :=
  State.getB_setB_same _ _ a true ha

theorem sluiceMust_inhibited {s : State} {a : Nat} (shut : s.getB Port.MNT_INHIBIT a = true) :
    s.sluiceMust a = (false, s.count Port.MNT_BUSYCNT) := if_pos shut

/-- A must-run-now request that nothing holds off has its grant at once (R409). -/
theorem sluiceMust_grants {s : State} {a : Nat} (ha : a < 18) (allowed : s.getB Port.MNT_INHIBIT a = false)
    (clear : (s.granted a || s.sluiceClear a) = true) :
    ∃ u, s.sluiceMust a = (true, u) ∧ State.touches [.regs, .sluice] [Blk.mnt] s u ∧ u.granted a = true := by
  unfold State.sluiceMust
  rw [if_neg (by simp [allowed])]
  by_cases held : s.granted a = true
  · exact ⟨s, if_pos held, .refl _ _ s, held⟩
  · have free : s.sluiceClear a = true := by simpa [held] using clear
    exact ⟨s.sluiceGive a, by rw [if_neg held, if_pos free], sluiceGive_touches s a, sluiceGive_granted s ha⟩

theorem actSyn_lt (x : TxChain) : Act.syn x.num < 18 := by cases x <;> decide

/-! ## Calibration of a synthesiser (R92-R94) -/

theorem setTxCal_touches (s : State) (x : TxChain) (f : TxState → TxState) :
    State.touches [.regs, .tx] [Blk.txc] s (s.setTxCal x.num f) :=
  ((setTxc_touches s _ _).seq (setTxReg_touches _ x _ (by decide))).mono (by decide) (by decide)

@[simp] theorem txc_setTxCal (s : State) (t : Nat) (f : TxState → TxState) : (s.setTxCal t f).txc t = f (s.txc t) :=
  s.txc_setTxc t _

/-- CALPEND shows a calibration that is pending or suspended. -/
theorem calpend_setTxCal (s : State) (t : Nat) (f : TxState → TxState) : (s.setTxCal t f).getB (Port.TXC_STAT t) 9 =
    (decide ((f (s.txc t)).pend ≠ .none) || (f (s.txc t)).susp) :=
  State.getB_setB_same _ _ 9 _ (by decide)

theorem setTxCal_setSyn_touches (s : State) (x : TxChain) (f : TxState → TxState) (v : Nat) :
    State.touches [.regs, .tx] [Blk.txc] s ((s.setTxCal x.num f).setSyn x.num v) :=
  ((setTxCal_touches s x f).seq (setSyn_touches _ x v)).mono (by decide) (by decide)

theorem calpend_setSyn (s : State) (t v : Nat) : (s.setSyn t v).getB (Port.TXC_STAT t) 9 = s.getB (Port.TXC_STAT t) 9 :=
  s.getB_setF_apart _ _ 17 15 v 9 (by decide) (by decide)

/-- CALCMD 2 to a powered chain without one pending makes a calibration pending and asks for its grant (R92). -/
theorem calPending_asks {s : State} {x : TxChain} (on : s.domOn (txDom x.num) = true)
    (free : (s.txc x.num).pend = .none) :
    State.touches [.regs, .tx, .sluice] [Blk.txc, Blk.mnt] s (s.calPending x.num) ∧
    ((s.calPending x.num).txc x.num).pend = .pending ∧ (s.calPending x.num).getB (Port.TXC_STAT x.num) 9 = true ∧
    ((s.calPending x.num).granted (Act.syn x.num) || (s.calPending x.num).waits (Act.syn x.num)) = true := by
  have asks : s.calPending x.num =
      (s.setTxCal x.num fun x => { x with pend := .pending }).sluiceAsk (Act.syn x.num) := if_pos (by simp [on, free])
  have asked := sluiceAsk_touches (s.setTxCal x.num fun x => { x with pend := .pending }) (Act.syn x.num)
  have stat := asked.2 (Port.TXC_STAT x.num) (by cases x <;> decide)
  rw [asks]
  exact ⟨((setTxCal_touches s x _).seq asked).mono (by decide) (by decide),
    (congrArg TxState.pend (asked.txc (by decide) x.num)).trans (by rw [txc_setTxCal]),
    (congrArg (bitOf · 9) stat).trans (calpend_setTxCal s _ _), sluiceAsk_stands _ (actSyn_lt x)⟩

/-- CALCMD 1 that the Sluice grants makes the calibration one that must run (R93, R409). -/
theorem txCalcmd_must {s : State} {x : TxChain} (allowed : s.getB Port.MNT_INHIBIT (Act.syn x.num) = false)
    (clear : (s.granted (Act.syn x.num) || s.sluiceClear (Act.syn x.num)) = true) :
    State.touches [.regs, .tx, .sluice] [Blk.txc, Blk.mnt] s (s.txCalcmd x.num 1) ∧
    ((s.txCalcmd x.num 1).txc x.num).pend = .must ∧ (s.txCalcmd x.num 1).getB (Port.TXC_STAT x.num) 9 = true ∧
    (s.txCalcmd x.num 1).granted (Act.syn x.num) = true := by
  obtain ⟨u, must, touched, granted⟩ := sluiceMust_grants (actSyn_lt x) allowed clear
  have runs : s.txCalcmd x.num 1 = u.setTxCal x.num fun x => { x with pend := .must } := by simp [State.txCalcmd, must]
  have marked := setTxCal_touches u x fun x => { x with pend := .must }
  rw [runs]
  exact ⟨(touched.seq marked).mono (by decide) (by decide), by rw [txc_setTxCal], calpend_setTxCal u _ _,
    (congrArg (bitOf · (Act.syn x.num)) (marked.2 Port.MNT_GRANT (by decide))).trans granted⟩

/-- CALCMD 1 that the Sluice inhibits is BUSY: it counts there, and nothing starts (R93, R410). -/
theorem txCalcmd_busy {s : State} {x : TxChain} (shut : s.getB Port.MNT_INHIBIT (Act.syn x.num) = true) :
    State.touches [.regs, .tx, .sluice] [Blk.txc, Blk.mnt] s (s.txCalcmd x.num 1) ∧
    (s.txCalcmd x.num 1).getF (Port.TXC_CALSTAT x.num) 17 15 = 2 ∧ s.counts Port.MNT_BUSYCNT (s.txCalcmd x.num 1) ∧
    (s.txCalcmd x.num 1).tx = s.tx := by
  have busy : s.txCalcmd x.num 1 = (s.count Port.MNT_BUSYCNT).setF (Port.TXC_CALSTAT x.num) 17 15 2 := by
    simp [State.txCalcmd, sluiceMust_inhibited shut]
  have counted : State.touches [.regs] [Blk.mnt] s (s.count Port.MNT_BUSYCNT) := set_touches s _ (by decide)
  have reported := setTxReg_touches (s.count Port.MNT_BUSYCNT) x (k := 0x5004)
    (withFld ((s.count Port.MNT_BUSYCNT).get (Port.TXC_CALSTAT x.num)) 17 15 2) (by decide)
  rw [busy]
  exact ⟨(counted.seq reported).mono (by decide) (by decide), State.getF_setF_same _ _ 17 15 2 (by decide),
    (reported.2 Port.MNT_BUSYCNT (by decide)).trans (s.get_count_same _), rfl⟩

/-- A pending calibration starts under its grant (R93). -/
theorem calStart_starts {s : State} {t : Nat} (pend : (s.txc t).pend ≠ .none) (still : (s.txc t).calRun = false)
    (fresh : (s.txc t).susp = false) (granted : s.granted (Act.syn t) = true)
    (free : s.syn t = 2 ∨ (s.syn t = 1 ∨ s.syn t = 4) ∧ s.tuneFar t = true) : s.calStart t =
      (s.setTxCal t fun x => { x with pend := .none, calRun := true, tuned := none }).setSyn t 2 :=
  if_pos (by
    rcases free with waits | ⟨idle | locked, far⟩
    · simp [pend, still, fresh, granted, waits]
    · simp [pend, still, fresh, granted, idle, far]
    · simp [pend, still, fresh, granted, locked, far])

/-- What `calYield` leaves: the calibration suspended, and the retained values in force (R94). -/
def State.calYielded (s : State) (t : Nat) (r : TxReq) : State :=
  (s.setTxCal t fun x => { x with calRun := false, susp := true, tuned := some r.ask.offset }).setSyn t 3

/-- A calibration with retained values yields to a tune start that has come (R94). -/
theorem calYield_yields {s : State} {x : TxChain} {r : TxReq} (next : s.nextReq x.num = some r)
    (runs : s.calRuns x.num = true) (valid : (s.txc x.num).calValid = true) (due : (s.txc x.num).tuneReq = true) :
    State.touches [.regs, .tx] [Blk.txc] s (s.calYield x.num) ∧ ((s.calYield x.num).txc x.num).susp = true ∧
    (s.calYield x.num).getB (Port.TXC_STAT x.num) 9 = true ∧ (s.calYield x.num).syn x.num = 3 ∧
    s.counts (Port.TXC_YIELDCNT x.num) (s.calYield x.num) ∧
    (s.calYield x.num).getF (Port.TXC_CALSTAT x.num) 17 15 = 3 ∧
    ((s.calYield x.num).txc x.num).tuned = some r.ask.offset := by
  have yields : s.calYield x.num =
      ((s.calYielded x.num r).count (Port.TXC_YIELDCNT x.num)).setF (Port.TXC_CALSTAT x.num) 17 15 3 := by
    simp [State.calYield, next, runs, valid, due, State.calYielded]
  have stat : (s.calYield x.num).get (Port.TXC_STAT x.num) = (s.calYielded x.num r).get (Port.TXC_STAT x.num) := by
    rw [yields, State.get_setF_other _ _ _ _ (txPort_ne x (by decide)),
      State.get_count_other _ (txPort_ne x (by decide))]
  have txc : (s.calYield x.num).txc x.num =
      { s.txc x.num with calRun := false, susp := true, tuned := some r.ask.offset } := by
    rw [yields, State.setF_txc, State.count_txc, State.calYielded, txc_setSyn, txc_setTxCal]
  have count : (s.calYielded x.num r).get (Port.TXC_YIELDCNT x.num) = s.get (Port.TXC_YIELDCNT x.num) := by
    unfold State.calYielded State.setSyn State.setTxCal
    rw [State.get_setF_other _ _ _ _ (txPort_ne x (by decide)), State.get_setB_other _ _ _ (txPort_ne x (by decide)),
      State.setTxc_get]
  refine ⟨?touches, by rw [txc], (congrArg (bitOf · 9) stat).trans ?pending,
    (congrArg (fld · 17 15) stat).trans ?locking, ?counts, ?last, by rw [txc]⟩
  case touches =>
    rw [yields]
    exact (setTxCal_setSyn_touches s x _ 3).trans
      (((setTxReg_touches _ x _ (by decide)).trans (setTxReg_touches _ x _ (by decide))).mono (by decide) (by decide))
  case pending =>
    refine (calpend_setSyn _ _ 3).trans ((calpend_setTxCal s _ _).trans ?_)
    simp
  case locking => exact syn_setSyn _ _ 3
  case counts =>
    rw [State.counts, yields, State.get_setF_other _ _ _ _ (txPort_ne x (by decide)), State.get_count_same, count]
  case last =>
    rw [yields]
    exact State.getF_setF_same _ _ 17 15 3 (by decide)

/-- A suspended calibration resumes (R94). -/
theorem calResume_resumes {s : State} {t : Nat} (susp : (s.txc t).susp = true) (idle : s.syn t = 1 ∨ s.syn t = 4)
    (far : s.tuneFar t = true) : s.calResume t =
      (s.setTxCal t fun x => { x with susp := false, calRun := true, tuned := none }).setSyn t 2 :=
  if_pos ⟨susp, idle, far⟩

/-- A calibration's end in the chain's hidden state and in STAT (R90). -/
def State.calIdle (s : State) (t : Nat) : State :=
  ((s.setTxCal t fun x =>
    { x with calRun := false, calValid := true, tcal := BitVec.ofNat 9 (s.getF Port.CAL_TEMP 8 0), tuned := none,
             tuneReq := false }).setSyn t 1).setB (Port.TXC_STAT t) 10 true

/-- A calibration's end as the chain's own registers show it (R92). -/
def State.calMarked (s : State) (t : Nat) : State :=
  ((s.calIdle t).setF (Port.TXC_CALSTAT t) 17 15 1).setF (Port.TXC_CALSTAT t) 8 0 (s.getF Port.CAL_TEMP 8 0)

theorem calDone_ends {s : State} {t : Nat} (runs : s.calRuns t = true) (free : (s.txc t).pend = .none) :
    s.calDone t = ((s.calMarked t).sluiceDrop (Act.syn t)).raise Irq.TX_CAL_DONE := by
  simp [State.calDone, runs, free, State.calMarked, State.calIdle]

theorem calMarked_touches (s : State) (x : TxChain) :
    State.touches [.regs, .tx] [Blk.txc] s (s.calMarked x.num) :=
  (setTxCal_setSyn_touches s x _ 1).trans (((setTxReg_touches _ x _ (by decide)).trans
    ((setTxReg_touches _ x _ (by decide)).trans (setTxReg_touches _ x _ (by decide)))).mono (by decide) (by decide))

theorem calMarked_shows (s : State) (x : TxChain) : (s.calMarked x.num).syn x.num = 1 ∧
    (s.calMarked x.num).getB (Port.TXC_STAT x.num) 10 = true ∧ ((s.calMarked x.num).txc x.num).calValid = true ∧
    (s.calMarked x.num).getF (Port.TXC_CALSTAT x.num) 17 15 = 1 ∧
    (s.calMarked x.num).getF (Port.TXC_CALSTAT x.num) 8 0 = s.getF Port.CAL_TEMP 8 0 := by
  have temp : s.getF Port.CAL_TEMP 8 0 < 512 := fld_lt _ 8 0
  have stat : (s.calMarked x.num).get (Port.TXC_STAT x.num) = (s.calIdle x.num).get (Port.TXC_STAT x.num) := by
    rw [State.calMarked, State.get_setF_other _ _ _ _ (txPort_ne x (by decide)),
      State.get_setF_other _ _ _ _ (txPort_ne x (by decide))]
  refine ⟨(congrArg (fld · 17 15) stat).trans ?idle, (congrArg (bitOf · 10) stat).trans ?valid, ?retained, ?last,
    (State.getF_setF_same _ _ 8 0 _ (by decide)).trans (Nat.mod_eq_of_lt temp)⟩
  case idle => exact (State.getF_setB_apart _ _ _ 10 17 15 true (by decide) (by decide)).trans (syn_setSyn _ _ 1)
  case valid => exact State.getB_setB_same _ _ 10 true (by decide)
  case retained =>
    rw [State.calMarked, State.setF_txc, State.setF_txc, State.calIdle, State.setB_txc, txc_setSyn, txc_setTxCal]
  case last =>
    rw [State.calMarked, State.getF_setF_apart _ _ _ 8 0 _ 17 15 (by decide) (by decide)]
    exact State.getF_setF_same _ _ 17 15 1 (by decide)

/-- The end of a calibration shows in the chain's registers, gives the grant back and raises TX_CAL_DONE (R90, R92). -/
theorem calDone_shows {s : State} {x : TxChain} (runs : s.calRuns x.num = true) (free : (s.txc x.num).pend = .none) :
    State.touches [.regs, .pends, .tx, .sluice, .evf] [Blk.evf, Blk.txc, Blk.mnt] s (s.calDone x.num) ∧
    (s.calDone x.num).syn x.num = 1 ∧ (s.calDone x.num).getB (Port.TXC_STAT x.num) 10 = true ∧
    ((s.calDone x.num).txc x.num).calValid = true ∧ (s.calDone x.num).getF (Port.TXC_CALSTAT x.num) 17 15 = 1 ∧
    (s.calDone x.num).getF (Port.TXC_CALSTAT x.num) 8 0 = s.getF Port.CAL_TEMP 8 0 ∧
    (s.calDone x.num).granted (Act.syn x.num) = false ∧ s.raises Irq.TX_CAL_DONE (s.calDone x.num) := by
  obtain ⟨idle, valid, calValid, last, temp⟩ := calMarked_shows s x
  have dropped := sluiceDrop_touches (s.calMarked x.num) (Act.syn x.num)
  have raised := raise_touches ((s.calMarked x.num).sluiceDrop (Act.syn x.num)) Irq.TX_CAL_DONE
  have given := dropped.seq raised
  have stat := given.2 (Port.TXC_STAT x.num) (by cases x <;> decide)
  have calstat := given.2 (Port.TXC_CALSTAT x.num) (by cases x <;> decide)
  rw [calDone_ends runs free]
  exact ⟨((calMarked_touches s x).seq given).mono (by decide) (by decide), (congrArg (fld · 17 15) stat).trans idle,
    (congrArg (bitOf · 10) stat).trans valid, (congrArg TxState.calValid (given.txc (by decide) _)).trans calValid,
    (congrArg (fld · 17 15) calstat).trans last, (congrArg (fld · 8 0) calstat).trans temp,
    (congrArg (bitOf · (Act.syn x.num)) (raised.2 Port.MNT_GRANT (by decide))).trans
      (sluiceDrop_granted _ (actSyn_lt x)),
    ((calMarked_touches s x).seq dropped).raises (by decide) (by decide)⟩

/-! ## Test transmission (R103) -/

/-- A request of a test that is granted stands among the accepted ones (R84, R125). -/
theorem txAsk_test_enters {s : State} {t : Nat} {a : TxAsk} {g : BitVec 54 × Nat} (on : s.domOn (txDom t) = true)
    (offset : a.offset.toNat ≤ maxOffset t) (phy : phyServed t a.phy.toNat = true) (apart : s.txMeets t a = false)
    (granted : (s.txGrant t a).1 = some g) :
    State.touches [.regs, .pends, .tx, .link, .evf] [Blk.evf, Blk.ltb] s (s.txAsk .test t a) ∧
    ((s.txAsk .test t a).txc t).accepted = insertReq (s.reqOf .test t a g) (s.txc t).accepted := by
  have asked := txGrant_touches s t a
  rw [txAsk_granted on offset phy .test apart granted]
  exact ⟨((asked.seq (txEnter_touches _ t _)).mono (by decide) (by decide)),
    (txEnter_accepted _ t _).trans (congrArg (fun x : TxState => insertReq _ x.accepted) (asked.txc (by decide) t))⟩

/-- The request of an unmodulated test carrier (R103). -/
def State.carrierAsk (s : State) (t : Nat) : TxAsk :=
  { offset := s.get (Port.TXC_FREQ t), phy := if t = 0 then 4 else 0,
    pcode := BitVec.ofNat 6 (s.getF (Port.TXC_TEST t) 5 0), tStart := s.time.link + 1024,
    tLate := s.time.link + 1024 + 16000, dur := max 1 (s.getF (Port.TXC_TEST t) 11 6) * 16000, signal := .carrier }

theorem txTestcmd_carrier {s : State} {t : Nat} (mode : s.getF (Port.TXC_TEST t) 17 15 = 0) :
    s.txTestcmd t 1 = s.txAsk .test t (s.carrierAsk t) := by
  unfold State.getF at mode
  simp [State.txTestcmd, State.carrierAsk, mode, State.getF]

theorem carrier_served (s : State) (x : TxChain) : phyServed x.num (s.carrierAsk x.num).phy.toNat = true := by
  cases x <;> rfl

theorem txTestcmd_stop {s : State} {t : Nat} {k : TxRun} (cur : (s.txc t).cur = some k) (test : k.req.owner = .test)
    (up : k.phase ≠ .rampDown) : s.txTestcmd t 2 =
      s.updTxc t fun x => { x with cur := some { k with phase := .rampDown, downAt := s.time.wall } } := by
  simp [State.txTestcmd, cur, test, up]

/-- What TESTCMD 1 enters among the accepted requests of a chain (R103). -/
theorem testStart_enters {s : State} {x : TxChain} {g : BitVec 54 × Nat} (on : s.domOn (txDom x.num) = true)
    (offset : (s.get (Port.TXC_FREQ x.num)).toNat ≤ maxOffset x.num) (mode : s.getF (Port.TXC_TEST x.num) 17 15 = 0)
    (apart : s.txMeets x.num (s.carrierAsk x.num) = false)
    (granted : (s.txGrant x.num (s.carrierAsk x.num)).1 = some g) :
    State.touches [.regs, .pends, .tx, .link, .evf] [Blk.evf, Blk.ltb] s (s.txTestcmd x.num 1) ∧
    ((s.txTestcmd x.num 1).txc x.num).accepted =
      insertReq (s.reqOf .test x.num (s.carrierAsk x.num) g) (s.txc x.num).accepted := by
  rw [txTestcmd_carrier mode]
  exact txAsk_test_enters on offset (carrier_served s x) apart granted

/-- Settles O7, clause by clause from the lemma that says what its command does. -/
theorem synthesiserCalibrationAndTestTransmission : Obligations.SynthesiserCalibrationAndTestTransmission := by
  unfold Obligations.SynthesiserCalibrationAndTestTransmission
  intro s
  refine ⟨fun m x a on free => completes_portCmd rfl a (calPending_asks on free),
    fun m x a allowed clear => completes_portCmd rfl a (txCalcmd_must allowed clear),
    fun m x a shut => completes_portCmd rfl a (txCalcmd_busy shut),
    fun x pend still fresh granted free => ⟨_, rfl, ?starts⟩,
    fun x r next runs valid due => ⟨_, rfl, calYield_yields next runs valid due⟩,
    fun x susp idle far => ⟨_, rfl, ?resumes⟩,
    fun x runs free => ⟨_, rfl, calDone_shows runs free⟩,
    fun m x st b a on offset mode apart granted => completes_portCmd rfl a ?enters,
    fun m x k a cur test up => completes_portCmd rfl a ?stops⟩
  case starts =>
    rw [calStart_starts pend still fresh granted free]
    refine ⟨setTxCal_setSyn_touches s x _ 2, syn_setSyn _ _ 2, ?_, ?_, ?_, ?_⟩
    · simp [State.calRuns]
    · simp
    · exact (calpend_setSyn _ _ 2).trans ((calpend_setTxCal s _ _).trans (by simp [fresh]))
    · simp
  case resumes =>
    rw [calResume_resumes susp idle far]
    refine ⟨setTxCal_setSyn_touches s x _ 2, syn_setSyn _ _ 2, ?_, ?_⟩
    · simp [State.calRuns]
    · simp
  case enters =>
    obtain ⟨touched, accepted⟩ := testStart_enters on offset mode apart granted
    have code : s.getF (Port.TXC_TEST x.num) 5 0 < 64 := fld_lt _ 5 0
    refine ⟨touched.mono (by decide) (by decide), ?_, by rw [accepted, length_insertReq]⟩
    rw [accepted, List.any_eq_true]
    refine ⟨_, mem_insertReq _ _, decide_eq_true ⟨rfl, rfl, rfl, rfl, rfl, ?_, rfl, ?_⟩⟩
    · exact BitVec.add_assoc s.time.link 1024 16000
    · exact (BitVec.toNat_ofNat _ _).trans (Nat.mod_eq_of_lt code)
  case stops =>
    rw [txTestcmd_stop cur test up]
    exact ⟨updTxc_touches s _ _, by rw [txc_updTxc]⟩

end Sys2Proof.Machine

/-! The statements of 05_link_timing_and_sequencers.md: the calendar commands (O8), the events of the sequencers (O9, O10),
the sniff table (O11), and the tick of an empty queue (O54). -/

namespace Sys2Proof.Machine

open Sys2Proof

/-! ## What a tick leaves beside link time (R104) -/

/-- The queue, the fuses, the flash words and link time: what no operation of a tick changes but link time's own step. -/
def State.steady (s : State) : List Instr × Fuses × Cells Word × BitVec 54 :=
  (s.pending, s.fuses, s.mem.flash, s.time.link)

theorem RaiseFrame.steady {s t : State} (h : RaiseFrame s t) : t.steady = s.steady := by
  obtain ⟨-, -, -, r, a, l, e, rest⟩ := h
  rw [rest]
  rfl

theorem raise_steady (s : State) (n : Nat) : (s.raise n).steady = s.steady := (raise_frame s n).steady

theorem raiseProducer_steady (s : State) (n : Nat) : (s.raiseProducer n).steady = s.steady :=
  (raiseProducer_frame s n).steady

theorem forEach_steady {α : Type} {f : α → State → State} (h : ∀ a t, (f a t).steady = t.steady) (l : List α)
    (s : State) :
    (forEach l f s).steady = s.steady := forEach_keeps State.steady f h l s

theorem forNat_steady {f : Nat → State → State} (h : ∀ i t, (f i t).steady = t.steady) (n : Nat) (s : State) :
    (forNat n f s).steady = s.steady := forNat_keeps State.steady f h n s

theorem ite_steady {s t u : State} {p : Prop} [Decidable p] (h : t.steady = s.steady) (k : u.steady = s.steady) :
    (if p then t else u).steady = s.steady := by
  split
  · exact h
  · exact k

/-! ### Cells and packets (R205-R218) -/

theorem checkMarks_steady (s : State) (q old : Nat) : (s.checkMarks q old).steady = s.steady := by
  unfold State.checkMarks
  cases s.marks q with
  | none => rfl
  | some bounds =>
    dsimp only
    split
    · exact raise_steady _ _
    · split
      · exact raise_steady _ _
      · rfl

theorem marked_steady {s : State} (q : Nat) {f : State → State} (h : (f s).steady = s.steady) :
    (s.marked q f).steady = s.steady := (checkMarks_steady _ _ _).trans h

theorem chargeAll_steady (s : State) (v : Nat) (l : List CellLoc) : (s.chargeAll v l).steady = s.steady :=
  forEach_steady (fun x t => by cases x <;> rfl) l s

theorem freeAll_steady (s : State) (l : List CellLoc) : (s.freeAll l).steady = s.steady :=
  forEach_steady (fun x t => by cases x <;> rfl) l s

theorem takeCell_steady (s : State) (q : Nat) : (s.takeCell q).2.steady = s.steady := by
  unfold State.takeCell
  split
  · rfl
  · split
    · dsimp only
      exact marked_steady q rfl
    · rfl

theorem takeCells_steady (q n : Nat) (s : State) : (s.takeCells q n).2.steady = s.steady := by
  induction n generalizing s with
  | zero => rfl
  | succ n ih =>
    have first := takeCell_steady s q
    unfold State.takeCells
    cases taken : s.takeCell q with
    | mk cell t =>
      rw [taken] at first
      cases cell with
      | none => exact first
      | some c => exact (ih t).trans first

theorem takeHole_steady (s : State) (q : Nat) : (s.takeHole q).2.steady = s.steady := by
  unfold State.takeHole
  split
  · dsimp only
    exact marked_steady q rfl
  · rfl

theorem holeCell_steady (s : State) (q : Nat) : (s.holeCell q).2.steady = s.steady := by
  have taken := takeHole_steady s q
  unfold State.holeCell
  cases hole : s.takeHole q with
  | mk cell t =>
    rw [hole] at taken
    cases cell <;> exact taken

theorem setHeader_steady (s : State) (p : Pkt) (i : Nat) (v : Word) : (s.setHeader p i v).steady = s.steady := by
  unfold State.setHeader
  cases p.head <;> rfl

theorem setHeaders_steady (p : Pkt) (l : List Word) (i : Nat) (s : State) : (s.setHeaders p i l).steady = s.steady := by
  induction l generalizing i s with
  | nil => rfl
  | cons v r ih => exact (ih (i + 1) _).trans (setHeader_steady s p i v)

theorem storeOctets_steady (s : State) (p : Pkt) (octs : List Octet) : (s.storeOctets p octs).steady = s.steady := by
  unfold State.storeOctets
  refine List.foldlRecOn (motive := fun t : State => t.steady = s.steady) _ _ rfl fun t kept x _ => ?_
  cases p.payCell x.1 <;> exact kept

/-! ### Lanes that are cut or cease (R60, R65-R68, R196) -/

theorem touchPkt_steady (s : State) (l : Nat) (p : LanePkt) : (s.touchPkt l p).steady = s.steady := by
  unfold State.touchPkt
  cases p.ctx <;> rfl

theorem laneArrive_steady (s : State) (l n : Nat) : (s.laneArrive l n).steady = s.steady := by
  unfold State.laneArrive
  cases (s.lane l).pkt with
  | none => rfl
  | some lp =>
    dsimp only
    split
    · rfl
    · have taken := takeCells_steady lp.queue (1 + (n + 15) / 16 - lp.cells.length) s
      refine Eq.trans (b := State.steady (if _ then _ else _)) rfl ?_
      split
      · exact taken
      · exact (touchPkt_steady _ l lp).trans taken

theorem fillPkt_steady (s : State) (lp : LanePkt) (octs : List Octet) : (s.fillPkt lp octs).2.steady = s.steady := by
  unfold State.fillPkt
  dsimp only
  refine (storeOctets_steady _ _ _).trans ?_
  split
  · rfl
  · exact marked_steady _ (freeAll_steady s _)

theorem endHolds_steady (s : State) (c : Option Nat) : (s.endHolds c).steady = s.steady := by
  unfold State.endHolds
  cases c with
  | none => rfl
  | some c => exact forNat_steady (fun l t => by split <;> rfl) 64 s

theorem laneClose_steady (s : State) (l : Nat) (lp : LanePkt) (p : Pkt)
    (checked crcOk trunc blanked fault deliver : Bool) :
    (s.laneClose l lp p checked crcOk trunc blanked fault deliver).steady = s.steady := by
  have counted : ∀ (c : Bool) (k : Nat) (u : State), (if c then u.count k else u).steady = u.steady := fun c k u => by
    cases c <;> rfl
  unfold State.laneClose
  dsimp only
  split
  · have stored : ∀ (u : State) (i : Nat) (ws : List Word) (x : Lane → Lane),
        ((u.setHeaders p i ws).updLane l x).steady = u.steady := fun u i ws x => setHeaders_steady p ws i u
    split
    · exact (endHolds_steady _ _).trans ((stored _ _ _ _).trans ((counted _ _ _).trans (counted _ _ _)))
    · exact (stored _ _ _ _).trans ((counted _ _ _).trans (counted _ _ _))
  · exact (marked_steady _ (freeAll_steady _ _)).trans ((counted _ _ _).trans (counted _ _ _))

theorem laneCut_steady (s : State) (l : Nat) (blanked fault deliver : Bool) :
    (s.laneCut l blanked fault deliver).steady = s.steady := by
  unfold State.laneCut
  cases (s.lane l).pkt with
  | none => rfl
  | some lp0 =>
    dsimp only
    generalize s.freeNat % cutBound (s.lanePhy l) lp0 = n
    have arrived : ((s.nextFree.freeOctets n).2.laneArrive l n).steady = s.steady := laneArrive_steady _ l n
    split
    · exact arrived
    · exact (laneClose_steady _ _ _ _ _ _ _ _ _ _).trans ((fillPkt_steady _ _ _).trans arrived)

theorem laneAfter_steady (s : State) (l : Nat) : (s.laneAfter l).steady = s.steady := by
  unfold State.laneAfter
  split
  · rfl
  · split <;> rfl

theorem unfeed_steady (s : State) (cs : List Nat) (l : Nat) : (s.unfeed cs l).steady = s.steady := by
  unfold State.unfeed
  cases (s.lane l).pkt with
  | none => rfl
  | some lp =>
    dsimp only
    split
    · exact (laneAfter_steady _ l).trans (laneCut_steady s l _ _ _)
    · split <;> rfl

theorem dropReady_steady (s : State) (cs : List Nat) : (s.dropReady cs).steady = s.steady := by
  unfold State.dropReady
  dsimp only
  split
  · rfl
  · exact (forNat_steady (fun l t => unfeed_steady t _ l) 64 _).trans (forEach_steady (fun _ _ => by rfl) _ s)

theorem chainDown_steady (s : State) (c : Nat) : (s.chainDown c).steady = s.steady := dropReady_steady s [c]

/-! ### Transmit chains, the Basin, DRAM and the stack go off (R225, R240, R252, R328, R464) -/

theorem noteWarn_steady (s : State) (b : Nat) : (s.noteWarn b).steady = s.steady := by
  unfold State.noteWarn
  dsimp only
  split
  · exact raise_steady _ _
  · rfl

theorem dropReqs_steady (s : State) (t : Nat) (p : TxReq → Bool) : (s.dropReqs t p).steady = s.steady := by
  unfold State.dropReqs
  dsimp only
  split
  · rfl
  · refine (forEach_steady (fun r u => ?_) _ _).trans rfl
    exact noteWarn_steady u r.band

theorem txFail_steady (s : State) (o : TxOwner) (code : Nat) : (s.txFail o code).steady = s.steady := by
  unfold State.txFail
  cases o with
  | seq q =>
    dsimp only
    split
    · unfold State.endEvent State.updEvent
      cases s.event q <;> rfl
    · rfl
  | _ => rfl

theorem txOff_steady (s : State) (t : Nat) : (s.txOff t).steady = s.steady := by
  have cut : ∀ (u : State) (f : TxState → TxState) (r : TxRun),
      (((u.updTxc t f).settle r.req.band r.begunLed s.time.led).txFail r.req.owner 5).steady = u.steady := fun u f r =>
    (txFail_steady _ _ _).trans ((noteWarn_steady _ _).trans rfl)
  have failed : ∀ u : State, (forEach (s.txc t).accepted (fun r t => t.txFail r.owner 5)
      (u.dropReqs t fun _ => true)).steady = u.steady := fun u =>
    (forEach_steady (fun r u => by exact txFail_steady u r.owner 5) _ _).trans (dropReqs_steady u t _)
  unfold State.txOff
  dsimp only
  refine Eq.trans (failed _) ?_
  cases (s.txc t).cur with
  | none => rfl
  | some r => exact cut s _ r

theorem basinOff_steady (s : State) : s.basinOff.steady = s.steady := by
  unfold State.basinOff
  generalize lanes : forNat 64 _ s = t
  have kept : t.steady = s.steady := by
    subst lanes
    refine forNat_steady (fun l u => ?_) 64 s
    dsimp only
    split
    · rfl
    · split
      · exact laneAfter_steady _ l
      · rfl
  exact kept

theorem set_steady (s : State) (p : Nat) (v : Word) : (s.set p v).steady = s.steady := rfl

theorem updPort_steady (s : State) (p : Nat) (f : UPort → UPort) : (s.updPort p f).steady = s.steady := rfl

theorem updUtv_steady (s : State) (f : Utvis → Utvis) : (s.updUtv f).steady = s.steady := rfl

theorem portDown_steady (s : State) (p : Nat) : (s.portDown p).steady = s.steady := by
  unfold State.portDown State.count State.setLstate State.setF State.portDrop State.setB
  rw [raise_steady, set_steady, set_steady]
  dsimp only
  rw [set_steady, updPort_steady, updUtv_steady, updPort_steady]

theorem utvisOff_steady (s : State) : s.utvisOff.steady = s.steady := by
  unfold State.utvisOff
  generalize fell : forNat 2 _ s = t
  have kept : t.steady = s.steady := by
    subst fell
    refine forNat_steady (fun p u => ?_) 2 s
    split
    · exact portDown_steady u p
    · rfl
  refine (forNat_steady (fun p u => ?_) 2 _).trans kept
  split <;> rfl

theorem holeRuns_steady (q : Nat) (l : List Pkt) (held : Bool) (s : State) :
    (s.holeRuns q held l).2.steady = s.steady := by
  induction l generalizing held s with
  | nil => rfl
  | cons p r ih =>
    have freed := freeAll_steady s (p.cells.filter CellLoc.near)
    unfold State.holeRuns
    split
    · exact ih false s
    · dsimp only
      split
      · exact (ih true _).trans freed
      · exact (ih true _).trans ((setHeaders_steady _ _ _ _).trans ((holeCell_steady _ q).trans freed))

theorem queuesLose_steady (s : State) : s.queuesLose.steady = s.steady := by
  refine forNat_steady (fun q t => ?_) 128 s
  split
  · exact marked_steady q (holeRuns_steady q _ false t)
  · rfl

theorem leaveCalendar_steady (s : State) (c : Nat) : (s.leaveCalendar c).steady = s.steady := by
  unfold State.leaveCalendar
  dsimp only
  split <;> rfl

theorem ctxWr_steady (s : State) (c i : Nat) (v : Word) : (s.ctxWr c i v).steady = s.steady := by
  unfold State.ctxWr
  split
  · dsimp only
    split <;> rfl
  · rfl

theorem contextsLose_steady (s : State) : s.contextsLose.steady = s.steady := by
  unfold State.contextsLose
  extract_lets copies away left trim emptied
  have copied : copies.steady = s.steady := forEach_steady (fun m t => by rfl) _ s
  have kept : emptied.steady = s.steady :=
    ((forEach_steady (fun c t => leaveCalendar_steady t c) away copies).trans copied :)
  split
  · refine (forNat_steady (fun k t => ?_) _ _).trans kept
    split
    · rfl
    · exact ctxWr_steady t _ _ _
  · exact kept

theorem noteDram_steady {s : State} {f : State → State} (h : (f s).steady = s.steady) :
    (s.noteDram f).steady = s.steady := by
  unfold State.noteDram
  split
  · exact h
  · exact (raise_steady _ _).trans h

theorem dramZero_steady (s : State) : s.dramZero.steady = s.steady := rfl

theorem dmcReset_steady (s : State) : s.dmcReset.steady = s.steady := by
  refine noteDram_steady ?_
  extract_lets lost t u
  split
  · have kept : u.steady = t.steady :=
      (dramZero_steady _).trans ((contextsLose_steady t.queuesLose).trans (queuesLose_steady t))
    clear_value u
    exact kept
  · rfl

theorem dmcOff_steady (s : State) : s.dmcOff.steady = s.steady := by
  unfold State.dmcOff
  split
  · exact noteDram_steady rfl
  · exact dmcReset_steady s

theorem flashStop_steady (s : State) : s.flashStop.steady = s.steady := by
  have marked : ∀ x : FlashOp, (forNat x.data.length (fun i u => u.flashMark x.bank (x.addr + i) 3)
      s).steady = s.steady :=
    fun x => forNat_steady (fun _ _ => by rfl) _ s
  unfold State.flashStop
  dsimp only
  cases s.flc.op with
  | none => rfl
  | some x =>
    dsimp only
    split
    · exact marked x
    · rfl

theorem cipherOff_steady (s : State) : (s.cipherOff false).steady = s.steady := by
  unfold State.cipherOff
  extract_lets jobs freed sec t
  have kept : freed.steady = s.steady := by
    refine forEach_steady (fun j u => ?_) jobs s
    split
    · unfold State.jobHold
      split <;> rfl
    · rfl
  exact kept

/-! ### Domains held off (R389) -/

/-- The blocks of a domain outside the core groups stop. -/
theorem domHidden_steady (s : State) {d : Nat} (hd : 5 ≤ d) : (s.domHidden d false).steady = s.steady := by
  have radio : (((s.dropReady [0, 1]).chainDown 0).chainDown 1).steady = s.steady :=
    (chainDown_steady _ 1).trans ((chainDown_steady _ 0).trans (dropReady_steady s _))
  unfold State.domHidden
  iterate 5 rw [if_neg (by omega)]
  refine ite_steady ?_ (ite_steady (chainDown_steady s 1) (ite_steady (chainDown_steady s 0)
    (ite_steady (chainDown_steady s 1) (ite_steady (txOff_steady s 0) (ite_steady (txOff_steady s 1)
    (ite_steady (basinOff_steady s) (ite_steady (dmcOff_steady s) (ite_steady (utvisOff_steady s)
    (ite_steady (flashStop_steady s) (ite_steady (cipherOff_steady s) rfl))))))))))
  generalize ((s.dropReady [0, 1]).chainDown 0).chainDown 1 = t at radio
  exact radio

theorem domOff_steady (s : State) {d : Nat} (hd : 5 ≤ d) : (s.domOff d).steady = s.steady := by
  refine Eq.trans (b := State.steady (s.domStop d false)) rfl ?_
  unfold State.domStop
  split
  · exact domHidden_steady s hd
  · rfl

theorem holdsApply_steady (s : State) : s.holdsApply.steady = s.steady := by
  unfold State.holdsApply
  split
  · rfl
  · refine forNat_steady (fun d t => ?_) 16 s
    split
    · rfl
    · split
      · split
        · exact domOff_steady t (by omega)
        · rfl
      · split <;> rfl

/-! ### The parts of a tick -/

theorem timPass_steady (s : State) (src by_ n : Nat) : (s.timPass src by_ n).steady = s.steady := by
  unfold State.timPass
  split <;> rfl

theorem timsPass_steady (s : State) (src by_ : Nat) : (s.timsPass src by_).steady = s.steady :=
  forNat_steady (fun n t => timPass_steady t src by_ n) 12 s

theorem timersTick_steady (s : State) : s.timersTick.steady = s.steady :=
  (timsPass_steady _ 3 128).trans ((timsPass_steady _ 1 512).trans (timsPass_steady s 0 3200))

theorem timerHolds_steady (s : State) : s.timerHolds.steady = s.steady := by
  unfold State.timerHolds
  split <;> rfl

theorem arriveTick_steady (s : State) : s.arriveTick.steady = s.steady := by
  refine forNat_steady (fun l t => ?_) 64 s
  cases (t.lane l).pkt with
  | none => rfl
  | some lp =>
    dsimp only
    split
    · rfl
    · exact laneArrive_steady t l _

theorem gapTick_steady (s : State) (c : Nat) : (s.gapTick c).steady = s.steady := by
  unfold State.gapTick
  split <;> rfl

theorem occTick_steady (s : State) (ms : Bool) : (s.occTick ms).steady = s.steady := by
  unfold State.occTick
  dsimp only
  split
  · split <;> rfl
  · rfl

theorem cycleTick_steady (s : State) (c : Core) : (s.cycleTick c).steady = s.steady := by
  unfold State.cycleTick
  dsimp only
  split
  · cases c <;> rfl
  · rfl

theorem cyclesTick_steady (s : State) : s.cyclesTick.steady = s.steady :=
  (cycleTick_steady _ .lkc).trans (cycleTick_steady s .apc)

theorem takeBack_steady (s : State) : s.takeBack.steady = s.steady := by
  unfold State.takeBack
  split <;> rfl

theorem noteLosses_steady (s : State) : s.noteLosses.steady = s.steady := by
  unfold State.noteLosses
  split
  · refine forEach_steady (fun d t => ?_) _ s
    unfold State.noteUnreach
    split
    · rfl
    · exact raise_steady _ _
  · rfl

theorem msTick_steady (s : State) (ms : Bool) : (s.msTick ms).steady = s.steady := by
  unfold State.msTick
  extract_lets x
  have passed : x.steady = s.steady := by
    refine (apply_ite State.steady _ _ _).trans ?_
    split
    · exact (noteLosses_steady _).trans ((takeBack_steady _).trans (raiseProducer_steady s _))
    · rfl
  split
  · exact (holdsApply_steady x).trans passed
  · exact passed

/-- While REFCLK runs, a tick is link time's step and what leaves the rest as it is (R104). -/
theorem refTick_steady {s : State} (runs : s.time.stopped = false) : s.refTick.steady = s.linkTick.steady := by
  unfold State.refTick
  rw [if_neg (by simp [runs])]
  dsimp only
  exact (msTick_steady _ _).trans ((timersTick_steady _).trans ((cyclesTick_steady _).trans ((occTick_steady _ _).trans
    ((gapTick_steady _ 1).trans ((gapTick_steady _ 0).trans ((arriveTick_steady _).trans (timerHolds_steady _)))))))

theorem refTick_stopped {s : State} (stopped : s.time.stopped = true) : s.refTick = s := if_pos stopped

/-- Link time moves on by one tick where no correction of phase or frequency is under way (R104, R257). -/
theorem linkTick_link {s : State} (slew : s.utv.slew = 0) (trim : s.utv.trim = 0) (below : s.utv.trimAcc < 1000000000)
    (above : -1000000000 < s.utv.trimAcc) : s.linkTick.time.link = s.time.link + 1 := by
  have low : ¬1000000000 ≤ s.utv.trimAcc := not_le.mpr below
  have high : ¬s.utv.trimAcc ≤ -1000000000 := not_le.mpr above
  simp [State.linkTick, slew, trim, low, high]

/-! ### What passes before link time's step -/

/-- What a tick of real time leaves before link time takes its step: the queue, fuses, flash words and link time, whether
REFCLK is stopped, and the stack's state, which holds the corrections. -/
def State.steadyRef (s : State) : (List Instr × Fuses × Cells Word × BitVec 54) × Bool × Utvis :=
  (s.steady, s.time.stopped, s.utv)

theorem timsPass_steadyRef (s : State) (src by_ : Nat) : (s.timsPass src by_).steadyRef = s.steadyRef :=
  forNat_keeps State.steadyRef _ (fun n t => by unfold State.timPass; split <;> rfl) 12 s

theorem set_steadyRef (s : State) (p : Nat) (v : Word) : (s.set p v).steadyRef = s.steadyRef := rfl

theorem setWide_steadyRef (s : State) (p n v : Nat) : (s.setWide p n v).steadyRef = s.steadyRef := rfl

theorem rtcEdge_steadyRef (s : State) : s.rtcEdge.steadyRef = s.steadyRef := by
  unfold State.rtcEdge
  extract_lets r t acc by_ left
  have counted : t.steadyRef = s.steadyRef := setWide_steadyRef s r 2 _
  clear_value t
  rw [timsPass_steadyRef, set_steadyRef]
  exact counted

theorem rtcAcc_steadyRef (s : State) (n : Nat) :
    ({ s with time := { s.time with rtcAcc := n } } : State).steadyRef = s.steadyRef := rfl

theorem rtcTick_steadyRef (s : State) : s.rtcTick.steadyRef = s.steadyRef := by
  unfold State.rtcTick
  split
  · rfl
  · dsimp only
    split
    · rw [rtcEdge_steadyRef, rtcAcc_steadyRef]
    · exact rtcAcc_steadyRef s _

theorem wdgTick_steadyRef (s : State) (c : Nat) : (s.wdgTick c).steadyRef = s.steadyRef := by
  unfold State.wdgTick
  split <;> rfl

theorem wallMs_steadyRef (s : State) : s.wallMs.steadyRef = s.steadyRef := by
  have counted : ((s.wdgTick 0).wdgTick 1).steadyRef = s.steadyRef :=
    (wdgTick_steadyRef _ 1).trans (wdgTick_steadyRef s 0)
  unfold State.wallMs
  dsimp only
  split
  · refine Eq.trans ?_ counted
    unfold State.sluiceAsk
    split <;> rfl
  · exact counted

/-- A tick is one of `refTick`, after what leaves the queue, fuses, flash, link time and the stack's state as they are. -/
theorem idleTick_refTick (s : State) : ∃ u : State, idleTick s = u.refTick ∧ u.steadyRef = s.steadyRef := by
  unfold idleTick
  extract_lets clock t u
  have rtc : t.steadyRef = s.steadyRef := (rtcTick_steadyRef _).trans rfl
  refine ⟨u, rfl, (apply_ite State.steadyRef _ _ _).trans ?_⟩
  split
  · exact (wallMs_steadyRef t).trans rtc
  · exact rtc

/-- Settles O54: whether REFCLK is stopped or runs, what `refTick` keeps and how it steps link time. -/
theorem anEmptyQueueLetsOneTickPass : Obligations.AnEmptyQueueLetsOneTickPass := by
  unfold Obligations.AnEmptyQueueLetsOneTickPass
  intro s empty
  obtain ⟨u, ticked, kept⟩ := idleTick_refTick s
  simp only [State.steadyRef, State.steady, Prod.mk.injEq] at kept
  obtain ⟨⟨pending, fuses, flash, link⟩, stopped, utv⟩ := kept
  have ran : step s = .next u.refTick := by rw [← ticked, step, empty]
  cases clock : s.time.stopped with
  | true =>
    rw [refTick_stopped (stopped.trans clock)] at ran
    exact ⟨u, ran, pending.trans empty, fuses, flash, fun _ => link, fun runs => absurd runs (by simp)⟩
  | false =>
    have after := refTick_steady (stopped.trans clock)
    simp only [State.steady, Prod.mk.injEq] at after
    obtain ⟨pending', fuses', flash', link'⟩ := after
    refine ⟨u.refTick, ran, pending'.trans (pending.trans empty), fuses'.trans fuses, flash'.trans flash,
      fun stop => absurd stop (by simp), fun _ slew trim below above => ?_⟩
    rw [← utv] at slew trim below above
    rw [link', linkTick_link slew trim below above, link]

/-! ## An event on a lane that the device does not have (O9, O10)

`Event.lane` is any number, and nothing bounds it in the hypotheses of O9 and O10; the device has lanes 0 to 63.  Where
the lane of an event is 64, the length limit it is configured with (R63) falls on port 0x5001, which would be its LIM and is
TXC_S_CTRL: a register of a transmit chain. -/

/-- The event of a follower of KIND 4, on lane 64. -/
def strayFollower : Event :=
  { ctx := 0, words := [inFld 17 15 4 ||| inFld 14 12 1], anchor := 0, w := 0, closeAt := 0, lane := some 64,
    loaded := true,
    evstat := 0, resynced := false, frames := 0, fails := 0, lastGood := false, mdPeer := false, mdOwn := false,
    retired := 0, send := .empty, onAir := false, emptyOut := false, acked := false, missed0 := 0, txOnly := false,
    peer := [], aux := none, window := 0, endAt := 0, closing := false, join := false, step := 0 }

/-- The event of a beacon source, on lane 64. -/
def straySource : Event := { strayFollower with words := [inFld 17 15 5] }

/-- Sequencer 0 serves an event in STATE `st`, long after its anchor. -/
def servingState (e : Event) (st : Nat) : State :=
  ({ State.reset with
    regs := [(Port.SEQ_STAT 0, inFld 14 12 st)], time := { Time.reset with link := 100000 } } : State).setEvent 0 (some e)

theorem lanLim_past_lanes : Port.LAN_LIM 64 = Port.TXC_S_CTRL := rfl

/-- The start of the follower's listen changes TXC_S_CTRL. -/
theorem strayFollower_listenStart_ctrl :
    ((servingState strayFollower 1).listenStart 0).get Port.TXC_S_CTRL ≠
      (servingState strayFollower 1).get Port.TXC_S_CTRL := by
  decide +kernel

/-- The start of the source's join window changes TXC_S_CTRL. -/
theorem straySource_joinStart_ctrl :
    ((servingState straySource 5).joinStart 0).get Port.TXC_S_CTRL ≠
      (servingState straySource 5).get Port.TXC_S_CTRL := by
  decide +kernel

/-- Refutes O9: clause (5) has the start of a follower's listen change no register outside the sequencers' and the lanes'
blocks; of the event on lane 64 it changes TXC_S_CTRL. -/
theorem not_anEventIsSetUpListensAndTimesOut : ¬ Obligations.AnEventIsSetUpListensAndTimesOut := by
  unfold Obligations.AnEventIsSetUpListensAndTimesOut
  intro h
  obtain ⟨-, -, -, -, listen, -⟩ := h (servingState strayFollower 1)
  obtain ⟨t, ran, touched, -⟩ := listen 0 strayFollower rfl (by decide +kernel) rfl (by decide +kernel)
    (by decide +kernel) (by decide +kernel)
  have started : (servingState strayFollower 1).listenStart 0 = t := Host.Outcome.next.inj ran
  subst started
  exact strayFollower_listenStart_ctrl (touched.2 Port.TXC_S_CTRL (by decide))

/-- Refutes O10: clause (5) has the start of a join window change no register outside the sequencers' and the lanes' blocks;
of the event on lane 64 it changes TXC_S_CTRL. -/
theorem not_eventsCloseSequencersFaultAndLedgersClear : ¬ Obligations.EventsCloseSequencersFaultAndLedgersClear := by
  unfold Obligations.EventsCloseSequencersFaultAndLedgersClear
  intro h
  obtain ⟨-, -, -, -, join, -⟩ := h (servingState straySource 5)
  obtain ⟨t, ran, touched, -⟩ := join 0 straySource rfl (by decide +kernel) rfl (by decide +kernel) rfl
    (by decide +kernel)
  have started : (servingState straySource 5).joinStart 0 = t := Host.Outcome.next.inj ran
  subst started
  exact straySource_joinStart_ctrl (touched.2 Port.TXC_S_CTRL (by decide))

/-! ## A sniff window that ends over a packet toward a queue that the Basin does not have (O11)

Nor is `LanePkt.queue` bounded.  Where the lanes' domain goes off (R196) and a packet toward queue 736 gives its cells
back, the watermark event of that queue (R218) falls on port 0x3806, which would be its STAT and is LTB_RTCLT_0: a register
of the link timebase. -/

/-- In Reef 3 a sniff window is over; the lanes' domain alone is on, lane 0 receives a packet toward queue 736, and bit 16
stands at the port that would be that queue's STAT. -/
def straySniff : State :=
  ({ State.reset with
    regs := [(Port.PWR_STAT, inFld 17 15 3), (Port.PWR_DOM_STAT, inFld 3 3 1), (Port.LTB_RTCLT 0, inFld 16 16 1)],
    link := { Link.reset with sniffOn := true, sniff := some (0, 1, false) },
    pwr := { Pwr.reset with on := BitVec.twoPow 16 3 } } : State).setLane 0
      { Lane.idle with pkt := some { strayPacket with queue := 736 } }

theorem queueStat_past_queues : Port.BSN_Q_STAT 736 = Port.LTB_RTCLT 0 := rfl

/-- The end of the window changes LTB_RTCLT_0. -/
theorem straySniff_sniffEnd_rtclt : straySniff.sniffEnd.get (Port.LTB_RTCLT 0) ≠ straySniff.get (Port.LTB_RTCLT 0) := by
  decide +kernel

/-- Refutes O11: clause (5) has the end of a sniff window change no register of the link timebase; from `straySniff` the
packet that is lost changes LTB_RTCLT_0. -/
theorem not_sniffWindowsOpenServeAndClose : ¬ Obligations.SniffWindowsOpenServeAndClose := by
  unfold Obligations.SniffWindowsOpenServeAndClose
  intro h
  obtain ⟨-, -, -, -, close⟩ := h straySniff
  obtain ⟨t, ran, touched, -⟩ := close 0 1 (by decide +kernel) rfl rfl (by decide +kernel) (by decide +kernel)
    (by decide +kernel)
  have ended : straySniff.sniffEnd = t := Host.Outcome.next.inj ran
  subst ended
  exact straySniff_sniffEnd_rtclt (touched.2 (Port.LTB_RTCLT 0) (by decide))

/-! ## A calendar command's result and the record that follows it (R110, R266) -/

/-- Parts that a calendar command touches. -/
abbrev calendarParts : List Part := [.regs, .mem, .pends, .basin, .tx, .link, .trim, .utv, .evf]

/-- Blocks whose registers a calendar command touches. -/
abbrev calendarBlocks : List (Nat × Nat) := [Blk.evf, Blk.hpt, Blk.bsn, Blk.trm, Blk.seq]

theorem utv_touches (s : State) (x : Utvis) : State.touches [.utv] [] s { s with utv := x } :=
  ⟨fun part other => by cases part <;> simp_all [Part.same], fun _ _ => rfl⟩

theorem State.touches.cal {ps : List Part} {bs : List (Nat × Nat)} {s t : State} (h : State.touches ps bs s t)
    (out : Part.link ∉ ps) (c : Nat) : t.cal c = s.cal c :=
  congrArg (fun l : Link => Cells.rd (fun _ => none) l.calendar c) (h.1 .link out)

theorem calResult_touches (s : State) (r : Nat) : State.touches [.regs] [Blk.seq] s (s.calResult r) :=
  (set_touches s _ (by decide)).trans (set_touches _ _ (by decide))

theorem getB_calResult (s : State) (r : Nat) : (s.calResult r).getB Port.SEQ_CAL_STAT 17 = false :=
  (State.getB_setF_apart _ _ _ 14 12 r 17 (by decide) (by decide)).trans (s.getB_setB_same _ 17 false (by decide))

theorem getF_calResult (s : State) (r : Nat) : (s.calResult r).getF Port.SEQ_CAL_STAT 14 12 = r % 8 :=
  State.getF_setF_same _ _ 14 12 r (by decide)

theorem post_touches (s : State) (f : UFrame) : State.touches [.utv] [] s (s.post f) :=
  .ite (utv_touches s _) (.refl _ _ s)

theorem sendRecordTo_touches (s : State) (dsts : List Nat) (c : Nat) (final : Bool) :
    State.touches [.utv] [] s (s.sendRecordTo dsts c final) := by
  unfold State.sendRecordTo
  extract_lets ret body flags t
  have posted : State.touches [.utv] [] s t := by
    refine forEach_touches _ (fun d u => ?_) dsts s
    exact post_touches u _
  exact .ite (.refl _ _ s) (posted.trans (utv_touches t _))

/-- Beyond the command itself only its record leaves, by Utvis. -/
theorem calCmdRecord_touches (s : State) (v : Word) : State.touches [.utv] [] (s.calCmd v) (s.calCmdRecord v) := by
  unfold State.calCmdRecord
  extract_lets c t r
  exact .ite (.refl _ _ t) (.ite (sendRecordTo_touches t _ c false) (.refl _ _ t))

theorem getF_calCmdRecord (s : State) (v : Word) (p hi lo : Nat) :
    (s.calCmdRecord v).getF p hi lo = (s.calCmd v).getF p hi lo :=
  congrArg (fld · hi lo) ((calCmdRecord_touches s v).2 p (by simp))

theorem getB_calCmdRecord (s : State) (v : Word) (p b : Nat) : (s.calCmdRecord v).getB p b = (s.calCmd v).getB p b :=
  congrArg (bitOf · b) ((calCmdRecord_touches s v).2 p (by simp))

theorem link_calCmdRecord (s : State) (v : Word) : (s.calCmdRecord v).link = (s.calCmd v).link :=
  (calCmdRecord_touches s v).1 .link (by decide)

theorem cal_calCmdRecord (s : State) (v : Word) (c : Nat) : (s.calCmdRecord v).cal c = (s.calCmd v).cal c :=
  (calCmdRecord_touches s v).cal (by decide) c

/-- A command and its record touch what the calendar commands may, when the command does. -/
theorem calCmdRecord_stays {s : State} {v : Word} (h : State.touches calendarParts calendarBlocks s (s.calCmd v)) :
    State.touches calendarParts calendarBlocks s (s.calCmdRecord v) :=
  h.trans ((calCmdRecord_touches s v).mono (by decide) (by decide))

/-- A command given while one is pending is lost. -/
theorem calCmdRecord_pending {s : State} (busy : s.getB Port.SEQ_CAL_STAT 17 = true) (v : Word) :
    s.calCmdRecord v = s.setB Port.SEQ_CAL_STAT 16 true := by
  have lost : s.calCmd v = s.setB Port.SEQ_CAL_STAT 16 true := if_pos busy
  unfold State.calCmdRecord
  extract_lets c t r
  rw [if_pos (.inl busy)]
  exact lost

/-- No record follows a command that is refused. -/
theorem calCmdRecord_refused {s : State} {v : Word} {r : Nat} (did : s.calCmd v = s.calResult r) (small : r < 8)
    (bad : r ≠ 0 ∧ r ≠ 6) : s.calCmdRecord v = s.calResult r := by
  have result : (s.calCmd v).getF Port.SEQ_CAL_STAT 14 12 = r := by
    rw [did, getF_calResult, Nat.mod_eq_of_lt small]
  unfold State.calCmdRecord
  dsimp only
  rw [result, if_neg (c := (_ ∧ _) ∨ _) (by omega), ite_self, did]

section free
variable {s : State} (free : s.getB Port.SEQ_CAL_STAT 17 = false)
include free

theorem calCmd_insert : s.calCmd 1 = s.calInsert := by simp [State.calCmd, free]

theorem calCmd_remove : s.calCmd 2 = s.calRemove := by simp [State.calCmd, free]

theorem calCmd_update : s.calCmd 3 = s.calUpdate := by simp [State.calCmd, free]

end free

/-! ## INSERT (R110, R193) -/

section words
variable (ws : List Word)

theorem getD_cset_other {i j : Nat} (hi lo v : Nat) (h : i ≠ j) : (cset ws i hi lo v).getD j 0 = ws.getD j 0 := by
  simp [cset, List.getD_eq_getElem?_getD, List.getElem?_set_ne h]

theorem cKind_cset {i : Nat} (hi lo v : Nat) (h : i ≠ 0) : cKind (cset ws i hi lo v) = cKind ws :=
  congrArg (fld · 17 15) (getD_cset_other ws hi lo v h)

theorem cKind_csetTime {i : Nat} (t : BitVec 54) (h : i ≠ 0) : cKind (csetTime ws i t) = cKind ws := by
  simp [csetTime, cKind, cw, List.getD_eq_getElem?_getD, List.getElem?_set_ne, h]

theorem cKind_hopSteps (n : Nat) : cKind (hopSteps n ws) = cKind ws := by
  unfold hopSteps
  split
  · exact cKind_cset ws _ _ _ (by decide)
  · rfl

theorem cKind_channelled : cKind (channelled ws) = cKind ws := by
  have put : ∀ (bin foff : Nat), cKind (cset (cset ws 5 14 6 bin) 5 5 0 foff) = cKind ws := fun bin foff =>
    (cKind_cset _ _ _ _ (by decide)).trans (cKind_cset ws _ _ _ (by decide))
  unfold channelled
  extract_lets place used n
  have kept : ∀ (bin foff : Nat), cKind (place ws bin foff) = cKind ws := put
  clear_value place
  repeat' split
  all_goals simp only [kept]

theorem kind_fresh : (CalEntry.fresh ws).kind.toNat = cKind ws := by
  have small : cKind ws < 8 := fld_lt _ 17 15
  exact (BitVec.toNat_ofNat ..).trans (Nat.mod_eq_of_lt small)

end words

theorem ctxWrs_touches (c : Nat) (l : List Word) (i : Nat) (s : State) :
    State.touches [.mem] [] s (s.ctxWrs c i l) := by
  induction l generalizing i s with
  | nil => exact .refl _ _ s
  | cons v r ih => exact (ctxWr_touches s c i v).trans (ih (i + 1) _)

theorem touch_touches (s : State) (c : Nat) : State.touches [.trim] [] s (s.touch c) := trim_touches s _

theorem startFetch_touches (s : State) (c : Nat) : State.touches [.trim] [] s (s.startFetch c) :=
  .ite (.refl _ _ s) (trim_touches s _)

/-- Where a context stands follows from trim's table and the banks of the context store. -/
theorem resident_of_same {s t : State} (table : t.trim = s.trim)
    (banks : t.get (Port.MEM_PART 1) = s.get (Port.MEM_PART 1)) (c : Nat) : t.resident c = s.resident c := by
  have slots : t.ctxSlots = s.ctxSlots := congrArg (fld · 5 0 * 256) banks
  unfold State.resident State.slotNo
  rw [table, slots]

/-- A context that is away is among those that wait for their fetch once it is asked for. -/
theorem mem_swaps_startFetch {s : State} {c : Nat} (away : s.resident c = false) : c ∈ (s.startFetch c).trim.swaps := by
  unfold State.startFetch
  split
  next waits => exact waits.resolve_left (by simp [away])
  next => exact List.mem_append_right _ (List.mem_singleton_self c)

/-- INSERT enters a good resident context in the calendar where there is room. -/
theorem insertCtx_enters {s : State} {c : Nat} (ok : contentOk (s.ctxWords c) = true) (room : s.calCount < 2048)
    (kind : s.kindFull (cKind (s.ctxWords c)) = false) :
    ∃ wn, cKind wn = cKind (s.ctxWords c) ∧
      s.insertCtx c = (0, ((s.ctxWrs c 0 (wn.take 63)).enterCalendar c wn).touch c) := by
  have roomy : ¬ (2048 ≤ s.calCount ∨ s.kindFull (cKind (s.ctxWords c)) = true) := by
    rw [kind]
    simpa using room
  unfold State.insertCtx
  extract_lets ws n w1 wn
  refine ⟨wn, ?_, ?_⟩
  · calc cKind wn = cKind (hopSteps (n + 1) w1) := cKind_channelled _
      _ = cKind w1 := cKind_hopSteps _ _
      _ = cKind (csetTime ws 2 (cNext ws + ticks (n * cInterval ws))) := cKind_cset _ _ _ _ (by decide)
      _ = cKind ws := cKind_csetTime ws _ (by decide)
  · rw [if_neg (by simp [ws, ok]), if_neg roomy]

section insert
variable {s : State} {c : Nat} (arg : s.getF Port.SEQ_CAL_ARG_0 13 0 = c)
include arg

theorem calInsert_noContext (none : s.ctxTotal ≤ c) : s.calInsert = s.calResult 2 := by
  subst arg
  exact if_pos none

theorem calInsert_entered (known : c < s.ctxTotal) (entered : (s.cal c).isSome = true) :
    s.calInsert = s.calResult 3 := by
  subst arg
  exact (if_neg (by omega)).trans (if_pos entered)

theorem calInsert_resident (known : c < s.ctxTotal) (out : s.cal c = none) (home : s.resident c = true) :
    s.calInsert = s.insertNow c := by
  subst arg
  exact (if_neg (by omega)).trans ((if_neg (by simp [out])).trans (if_pos home))

theorem calInsert_away (known : c < s.ctxTotal) (out : s.cal c = none) (away : s.resident c = false) :
    ∃ l : Link, l.insertWait = some c ∧
      s.calInsert = ({ s with link := l }.setB Port.SEQ_CAL_STAT 17 true).startFetch c := by
  subst arg
  exact ⟨_, rfl, (if_neg (by omega)).trans ((if_neg (by simp [out])).trans (if_neg (by simp [away])))⟩

end insert

theorem insertNow_badContent {s : State} {c : Nat} (bad : contentOk (s.ctxWords c) = false) :
    s.insertNow c = s.calResult 2 := by
  have refused : s.insertCtx c = (2, s) := if_pos bad
  unfold State.insertNow
  rw [refused]

theorem insertNow_full {s : State} {c : Nat} (ok : contentOk (s.ctxWords c) = true)
    (full : 2048 ≤ s.calCount ∨ s.kindFull (cKind (s.ctxWords c)) = true) : s.insertNow c = s.calResult 1 := by
  have refused : s.insertCtx c = (1, s) := (if_neg (by simp [ok])).trans (if_pos full)
  unfold State.insertNow
  rw [refused]

/-- What INSERT of a good resident context leaves, before its record. -/
theorem insertNow_good {s : State} {c : Nat} (ok : contentOk (s.ctxWords c) = true) (room : s.calCount < 2048)
    (kind : s.kindFull (cKind (s.ctxWords c)) = false) :
    State.touches calendarParts calendarBlocks s (s.insertNow c) ∧
      (s.insertNow c).getF Port.SEQ_CAL_STAT 14 12 = 0 ∧ (s.insertNow c).getB Port.SEQ_CAL_STAT 17 = false ∧
      (∃ e, (s.insertNow c).cal c = some e ∧ e.kind.toNat = cKind (s.ctxWords c)) ∧
      ∀ j, j ≠ c → (s.insertNow c).cal j = s.cal j := by
  obtain ⟨wn, same, enters⟩ := insertCtx_enters ok room kind
  have now : s.insertNow c = (((s.ctxWrs c 0 (wn.take 63)).enterCalendar c wn).touch c).calResult 0 := by
    unfold State.insertNow
    rw [enters]
  have written := ctxWrs_touches c (wn.take 63) 0 s
  have after : State.touches [.trim, .regs] [Blk.seq] ((s.ctxWrs c 0 (wn.take 63)).enterCalendar c wn)
      (s.insertNow c) := by
    rw [now]
    exact (touch_touches _ c).seq (calResult_touches _ 0)
  refine ⟨?_, by rw [now, getF_calResult], by rw [now, getB_calResult], ⟨CalEntry.fresh wn, ?_, ?_⟩, fun j other => ?_⟩
  · exact ((written.seq (link_touches _ _)).seq after).mono (by decide) (by decide)
  · exact (after.cal (by decide) c).trans (State.cal_setCal _ c _)
  · exact (kind_fresh wn).trans same
  · calc (s.insertNow c).cal j = ((s.ctxWrs c 0 (wn.take 63)).enterCalendar c wn).cal j := after.cal (by decide) j
      _ = (s.ctxWrs c 0 (wn.take 63)).cal j := State.cal_setCal_other _ _ other.symm
      _ = s.cal j := written.cal (by decide) j

/-- What INSERT of a context that is away leaves (R193): it waits for the context's fetch. -/
theorem calInsert_waits {s : State} {c : Nat} (arg : s.getF Port.SEQ_CAL_ARG_0 13 0 = c) (known : c < s.ctxTotal)
    (out : s.cal c = none) (away : s.resident c = false) :
    State.touches calendarParts calendarBlocks s s.calInsert ∧ s.calInsert.getB Port.SEQ_CAL_STAT 17 = true ∧
      s.calInsert.link.insertWait = some c ∧ c ∈ s.calInsert.trim.swaps := by
  obtain ⟨l, wait, did⟩ := calInsert_away arg known out away
  rw [did]
  have waits := link_touches s l
  have marked := waits.seq (set_touches (b := Blk.seq) (p := Port.SEQ_CAL_STAT) { s with link := l }
    (withBit (s.get Port.SEQ_CAL_STAT) 17 true) (by decide))
  have asks := startFetch_touches ({ s with link := l }.setB Port.SEQ_CAL_STAT 17 true) c
  have still := resident_of_same (marked.1 .trim (by decide)) (marked.2 _ (by decide)) c
  refine ⟨(marked.seq asks).mono (by decide) (by decide), ?_, ?_, mem_swaps_startFetch (still.trans away)⟩
  · exact (congrArg (bitOf · 17) (asks.2 _ (by simp))).trans (State.getB_setB_same _ _ 17 true (by decide))
  · exact (congrArg Link.insertWait (asks.1 .link (by decide))).trans wait

/-! ## REMOVE (R110, R116, R125) -/

theorem seqOfCtx_lt {s : State} {c q : Nat} (h : s.seqOfCtx c = some q) : q < 16 :=
  List.mem_range.mp (List.mem_of_find?_eq_some h)

theorem searchSlot_lt {s : State} {c k : Nat} (h : s.searchSlot c = some k) : k < 16 :=
  List.mem_range.mp (List.mem_of_find?_eq_some h)

theorem freeSlot_lt {s : State} {k : Nat} (h : s.freeSlot = some k) : k < 16 :=
  List.mem_range.mp (List.mem_of_find?_eq_some h)

theorem searchRegister_touches (s : State) {k : Nat} (v : Word) (hk : k < 16) :
    State.touches [.regs] [Blk.seq] s (s.set (Port.SEQ_SRCH k) v) :=
  set_touches s v (by unfold Blk.seq Port.SEQ_SRCH; omega)

theorem ctxPut_touches (s : State) (c i : Nat) (v : Word) : State.touches [.mem] [] s (s.ctxPut c i v) :=
  .ite (ctxWr_touches s c i v) (mem_touches s _)

/-- A context that leaves the calendar takes its entry with it. -/
theorem leaveCalendar_touches (s : State) (c : Nat) :
    State.touches [.regs, .link] [Blk.seq] s (s.leaveCalendar c) ∧ (s.leaveCalendar c).cal c = none := by
  unfold State.leaveCalendar
  extract_lets t l t1
  have gone : State.touches [.link] [] s t1 := (link_touches s _).trans (link_touches t _)
  have entry : t1.cal c = none := State.cal_setCal s c none
  clear_value t1
  split
  next k slot =>
    have freed := searchRegister_touches t1 0 (searchSlot_lt slot)
    exact ⟨(gone.seq freed).mono (by decide) (by decide), (freed.cal (by decide) c).trans entry⟩
  next => exact ⟨gone.mono (by decide) (by decide), entry⟩

theorem noteAll_cal (l : List TxReq) (s : State) (c : Nat) :
    (forEach l (fun r u => u.noteWarn r.band) s).cal c = s.cal c := by
  refine forEach_keeps (fun u => u.cal c) _ (fun r u => ?_) l s
  exact (congrArg (fun x : Link => Cells.rd (fun _ => none) x.calendar c) (noteWarn_link u r.band) :)

theorem dropReqs_cal (s : State) (t : Nat) (p : TxReq → Bool) (c : Nat) : (s.dropReqs t p).cal c = s.cal c := by
  unfold State.dropReqs
  dsimp only
  split
  · rfl
  · exact noteAll_cal _ _ c

theorem withdraw_touches (s : State) (q : Nat) :
    State.touches [.regs, .pends, .tx, .link, .evf] [Blk.evf] s (s.withdraw q) :=
  (dropReqs_touches s 0 _).trans (dropReqs_touches _ 1 _)

theorem withdraw_cal (s : State) (q c : Nat) : (s.withdraw q).cal c = s.cal c :=
  (dropReqs_cal _ 1 _ c).trans (dropReqs_cal s 0 _ c)

/-- Parts that a change of search slots touches. -/
abbrev searchParts : List Part := [.regs, .mem, .pends, .basin, .link, .trim, .evf]

theorem takeSlot_touches (s : State) (c : Nat) {k : Nat} (hk : k < 16) :
    State.touches searchParts calendarBlocks s (s.takeSlot c k) ∧ ∀ j, (s.takeSlot c k).cal j = s.cal j := by
  unfold State.takeSlot
  extract_lets t
  have taken : State.touches [.regs, .mem] [Blk.seq] s t := (searchRegister_touches s _ hk).seq (ctxPut_touches _ _ _ _)
  clear_value t
  have waits := link_touches t { t.link with searchWait := t.link.searchWait.filter (· ≠ c) }
  have left : ∀ u : State, State.touches (keeperParts ++ [.regs, .pends, .evf]) (keeperBlocks ++ [Blk.evf]) u
      ((u.leaveLane c (s.ctxF c 63 9 4)).raise Irq.LINK_SEARCH) := fun u =>
    (leaveLane_touches u c _).seq (raise_touches _ _)
  refine ⟨((taken.seq waits).seq (left _)).mono (by decide) (by decide), fun j => ?_⟩
  exact ((left _).cal (by decide) j).trans (taken.cal (by decide) j)

theorem slotFreed_touches (s : State) :
    State.touches searchParts calendarBlocks s s.slotFreed ∧ ∀ j, s.slotFreed.cal j = s.cal j := by
  unfold State.slotFreed
  split
  next k c _ slot _ =>
    split
    · exact takeSlot_touches s c (freeSlot_lt slot)
    · exact ⟨.refl _ _ s, fun _ => rfl⟩
  next => exact ⟨.refl _ _ s, fun _ => rfl⟩

theorem calRemove_absent {s : State} (out : s.cal (s.getF Port.SEQ_CAL_ARG_0 13 0) = none) :
    s.calRemove = s.calResult 4 := if_pos (by simp [out])

/-- What REMOVE of an entered context leaves. -/
theorem calRemove_entered {s : State} {c : Nat} (arg : s.getF Port.SEQ_CAL_ARG_0 13 0 = c)
    (entered : (s.cal c).isSome = true) :
    State.touches calendarParts calendarBlocks s s.calRemove ∧ s.calRemove.getF Port.SEQ_CAL_STAT 14 12 = 0 ∧
      s.calRemove.cal c = none := by
  unfold State.calRemove
  rw [arg]
  extract_lets c' t t1
  rw [if_neg (by simp [c', Option.isSome_iff_ne_none.mp entered])]
  obtain ⟨leaves, gone⟩ := leaveCalendar_touches s c
  have ended : State.touches [.regs, .link, .mem] [Blk.seq] s t := leaves.seq (ctxPut_touches _ c 0 _)
  have out : t.cal c = none := ((ctxPut_touches _ c 0 _).cal (by decide) c).trans gone
  have stopped : State.touches [.regs, .pends, .tx, .link, .evf] [Blk.evf, Blk.seq] t t1 ∧ t1.cal c = t.cal c := by
    clear_value t
    dsimp only [t1]
    split
    next q serves =>
      have closed := setSeqState_touches (t.withdraw q) 7 (seqOfCtx_lt serves)
      split
      · exact ⟨((withdraw_touches t q).seq closed).mono (by decide) (by decide),
          (closed.cal (by decide) c).trans (withdraw_cal t q c)⟩
      · exact ⟨.refl _ _ t, rfl⟩
    next => exact ⟨.refl _ _ t, rfl⟩
  obtain ⟨stops, kept⟩ := stopped
  obtain ⟨frees, others⟩ := slotFreed_touches t1
  have done := calResult_touches t1.slotFreed 0
  refine ⟨(((ended.seq stops).seq frees).seq done).mono (by decide) (by decide), getF_calResult _ 0, ?_⟩
  exact (done.cal (by decide) c).trans ((others c).trans (kept.trans out))

/-! ## UPDATE (R110) -/

section update
variable {s : State} (fits : s.getF Port.SEQ_CAL_ARG_1 13 0 + 17 ≤ s.mbxWords)
include fits

theorem calUpdate_absent (out : s.cal (s.getF Port.SEQ_CAL_ARG_0 13 0) = none) : s.calUpdate = s.calResult 4 :=
  (if_neg (by omega)).trans (if_pos (by simp [out]))

variable (entered : (s.cal (s.getF Port.SEQ_CAL_ARG_0 13 0)).isSome = true)
include entered

theorem calUpdate_badContent (bad : contentOk (s.mbxRds (s.getF Port.SEQ_CAL_ARG_1 13 0) 17 ++
    (s.ctxWords (s.getF Port.SEQ_CAL_ARG_0 13 0)).drop 17) = false) : s.calUpdate = s.calResult 2 :=
  (if_neg (by omega)).trans ((if_neg (by simp [Option.isSome_iff_ne_none.mp entered])).trans (if_pos bad))

/-- UPDATE of an entered context with a good image queues it for its instant. -/
theorem calUpdate_queues (ok : contentOk (s.mbxRds (s.getF Port.SEQ_CAL_ARG_1 13 0) 17 ++
    (s.ctxWords (s.getF Port.SEQ_CAL_ARG_0 13 0)).drop 17) = true) (room : s.link.updates.length < 64) :
    ∃ u : Upd, s.calUpdate.link.updates = s.link.updates ++ [u] ∧
      (u.ctx = s.getF Port.SEQ_CAL_ARG_0 13 0 ∧ u.instant = s.get Port.SEQ_CAL_ARG_2 ∧
        u.image = s.mbxRds (s.getF Port.SEQ_CAL_ARG_1 13 0) 17) ∧
      State.touches calendarParts calendarBlocks s s.calUpdate ∧
      s.calUpdate.getF Port.SEQ_CAL_STAT 14 12 = if u.past then 6 else 0 := by
  unfold State.calUpdate
  extract_lets c o img ws inst busy past u l
  rw [if_neg (by omega), if_neg (by simp [c, Option.isSome_iff_ne_none.mp entered]),
    if_neg (by simp [img, ws, c, o, ok]), if_neg (by omega)]
  refine ⟨u, rfl, ⟨rfl, rfl, rfl⟩, ?_, ?_⟩
  · exact ((link_touches s _).seq (calResult_touches _ _)).mono (by decide) (by decide)
  · rw [getF_calResult]
    change (if past then 6 else 0) % 8 = if past then 6 else 0
    cases past <;> rfl

end update

/-- A command that is refused completes with its result. -/
theorem completes_refused {i : Instr} {s : State} {m : Master} {v : Word} {r : Nat} {P : State → Prop}
    (run : exec i s = .next (s.portCmd m Port.SEQ_CAL_CMD v fun t => t.calCmdRecord v))
    (a : s.answers m Port.SEQ_CAL_CMD = true) (did : s.calCmd v = s.calResult r) (small : r < 8) (bad : r ≠ 0 ∧ r ≠ 6)
    (h : P (s.calResult r)) : Completes i s P :=
  completes_portCmd run a ((calCmdRecord_refused did small bad).symm ▸ h)

/-- Settles O8, by the effect of each command (`insertNow_good`, `calInsert_waits`, `calRemove_entered`,
`calUpdate_queues` and the refusals), after which the record changes nothing but Utvis. -/
theorem calendarCommandsReportTheirResult : Obligations.CalendarCommandsReportTheirResult := by
  unfold Obligations.CalendarCommandsReportTheirResult
  intro s
  refine ⟨?insertPending, ?removePending, ?updatePending, ?insertNoContext, ?insertEntered, ?insertBad, ?insertFull,
    ?insertGood, ?insertAway, ?removeAbsent, ?removeEntered, ?updateAbsent, ?updateBad, ?updateGood⟩
  case insertPending | removePending | updatePending =>
    exact fun m a busy => completes_portCmd rfl a (calCmdRecord_pending busy _)
  case insertNoContext =>
    intro m a free absent
    have did := (calCmd_insert free).trans (calInsert_noContext rfl absent)
    exact completes_refused rfl a did (by decide) (by decide) ⟨rfl, getF_calResult s 2⟩
  case insertEntered =>
    intro m a free known entered
    have did := (calCmd_insert free).trans (calInsert_entered rfl known entered)
    exact completes_refused rfl a did (by decide) (by decide) ⟨rfl, getF_calResult s 3⟩
  case insertBad =>
    intro m a free known out home bad
    have did := (calCmd_insert free).trans ((calInsert_resident rfl known out home).trans (insertNow_badContent bad))
    exact completes_refused rfl a did (by decide) (by decide) rfl
  case insertFull =>
    intro m a free known out home ok full
    have did := (calCmd_insert free).trans ((calInsert_resident rfl known out home).trans (insertNow_full ok full))
    exact completes_refused rfl a did (by decide) (by decide) rfl
  case insertGood =>
    intro m a free known out home ok room kind
    have did := (calCmd_insert free).trans (calInsert_resident rfl known out home)
    obtain ⟨touched, result, idle, ⟨e, entry, kept⟩, others⟩ := insertNow_good ok room kind
    rw [← did] at touched result idle entry others
    refine completes_portCmd rfl a ⟨calCmdRecord_stays touched, ?_, ?_, ?_, fun j other => ?_⟩
    · rw [getF_calCmdRecord, result]
    · rw [getB_calCmdRecord, idle]
    · rw [cal_calCmdRecord, entry]
      simpa using kept
    · rw [cal_calCmdRecord, others j other]
  case insertAway =>
    intro m a free known out away
    obtain ⟨touched, busy, waits, asked⟩ := calInsert_waits rfl known out away
    rw [← calCmd_insert free] at touched busy waits asked
    refine completes_portCmd rfl a ⟨calCmdRecord_stays touched, ?_, ?_, ?_⟩
    · rw [getB_calCmdRecord, busy]
    · rw [link_calCmdRecord, waits]
    · rwa [(calCmdRecord_touches s 1).1 .trim (by decide)]
  case removeAbsent =>
    intro m a free out
    have did := (calCmd_remove free).trans (calRemove_absent out)
    exact completes_refused rfl a did (by decide) (by decide) rfl
  case removeEntered =>
    intro m a free entered
    obtain ⟨touched, result, gone⟩ := calRemove_entered rfl entered
    rw [← calCmd_remove free] at touched result gone
    refine completes_portCmd rfl a ⟨calCmdRecord_stays touched, ?_, ?_⟩
    · rw [getF_calCmdRecord, result]
    · rw [cal_calCmdRecord, gone]
  case updateAbsent =>
    intro m a free fits out
    have did := (calCmd_update free).trans (calUpdate_absent fits out)
    exact completes_refused rfl a did (by decide) (by decide) rfl
  case updateBad =>
    intro m a free fits entered bad
    have did := (calCmd_update free).trans (calUpdate_badContent fits entered bad)
    exact completes_refused rfl a did (by decide) (by decide) rfl
  case updateGood =>
    intro m a free fits entered ok room
    obtain ⟨u, queued, ⟨ctx, instant, image⟩, touched, result⟩ := calUpdate_queues fits entered ok room
    rw [← calCmd_update free] at queued touched result
    refine completes_portCmd rfl a ⟨calCmdRecord_stays touched, ?_, ?_⟩
    · rw [link_calCmdRecord, queued, getF_calCmdRecord, result]
      simp [ctx, instant, image]
    · rw [link_calCmdRecord, queued, List.length_append, List.length_singleton]

end Sys2Proof.Machine

/-! The statements of 08_trim_placement.md: horizon entry, context swaps and context commands (O12), the order keeper
(O13), and the moves of cells with the placement of new connections (O14). -/

namespace Sys2Proof.Machine

open Sys2Proof

/-! ## What the memories' operations touch (R297, R325, R328) -/

theorem dmc_touches (s : State) (x : Dmc) : State.touches [.dmc] [] s { s with dmc := x } :=
  ⟨fun part other => by cases part <;> simp_all [Part.same], fun _ _ => rfl⟩

theorem sramWrs_touches (l : List Word) (k : Nat) (s : State) : State.touches [.mem] [] s (s.sramWrs k l) := by
  induction l generalizing k s with
  | nil => exact .refl _ _ s
  | cons v r ih => exact (mem_touches s _).trans (ih (k + 1) _)

theorem dramWr_touches (s : State) (b : Nat) (ws : List Word) (owner : Nat) (epoch : BitVec 6) :
    State.touches [.mem] [] s (s.dramWr b ws owner epoch) := mem_touches s _

theorem dramWake_touches (s : State) (port : Nat) : State.touches [.regs, .dmc] [Blk.dmc] s (s.dramWake port) := by
  have used : State.touches [.regs, .dmc] [Blk.dmc] s
      (if port < 5 then { s with dmc := { s.dmc with usedAt := s.time.wall } } else s) :=
    .ite ((dmc_touches s _).mono (by decide) (by decide)) (.refl _ _ s)
  exact .ite (used.trans ((set_touches (b := Blk.dmc) _ _ (by decide)).mono (by decide) (by decide))) used

/-- What touches no register of the memory controller leaves every role's banks where they are (R297). -/
theorem State.touches.roleBanks {ps : List Part} {bs : List (Nat × Nat)} {s t : State} (h : State.touches ps bs s t)
    (away : ∀ b ∈ bs, b.2 < 0x1400 ∨ 0x14FF < b.1) (r : BankRole) : t.roleBanks r = s.roleBanks r := by
  have part : ∀ i < 2, t.get (Port.MEM_PART i) = s.get (Port.MEM_PART i) := fun i hi => h.2 _ fun b mem => by
    have := away b mem
    unfold Port.MEM_PART
    omega
  cases r <;> simp only [State.roleBanks, State.getF, part 0 (by decide), part 1 (by decide)]

theorem State.touches.roleWord {ps : List Part} {bs : List (Nat × Nat)} {s t : State} (h : State.touches ps bs s t)
    (away : ∀ b ∈ bs, b.2 < 0x1400 ∨ 0x14FF < b.1) (r : BankRole) (w : Nat) : t.roleWord r w = s.roleWord r w := by
  have base : t.roleBase r = s.roleBase r := by
    cases r <;> simp only [State.roleBase, h.roleBanks away]
  rw [State.roleWord, State.roleWord, base]

theorem State.touches.ctxSlots {ps : List Part} {bs : List (Nat × Nat)} {s t : State} (h : State.touches ps bs s t)
    (away : ∀ b ∈ bs, b.2 < 0x1400 ∨ 0x14FF < b.1) : t.ctxSlots = s.ctxSlots :=
  congrArg (· * 256) (h.roleBanks away .ctx)

/-- What leaves trim's table and the banks leaves every context where it stands (R188). -/
theorem State.touches.slotNo {ps : List Part} {bs : List (Nat × Nat)} {s t : State} (h : State.touches ps bs s t)
    (trim : Part.trim ∉ ps) (away : ∀ b ∈ bs, b.2 < 0x1400 ∨ 0x14FF < b.1) (c : Nat) : t.slotNo c = s.slotNo c := by
  have table : t.trim = s.trim := h.1 .trim trim
  rw [State.slotNo, State.slotNo, table, h.ctxSlots away]

/-- What leaves the memories too leaves every word of a context. -/
theorem State.touches.ctxRd {ps : List Part} {bs : List (Nat × Nat)} {s t : State} (h : State.touches ps bs s t)
    (trim : Part.trim ∉ ps) (mem : Part.mem ∉ ps) (away : ∀ b ∈ bs, b.2 < 0x1400 ∨ 0x14FF < b.1) (c i : Nat) :
    t.ctxRd c i = s.ctxRd c i := by
  have store : t.mem = s.mem := h.1 .mem mem
  rw [State.ctxRd, State.ctxRd, State.resident, State.resident, h.slotNo trim away, State.slotWord, h.roleWord away,
    State.sramRd, State.homeRd, State.dramWord, store]
  rfl

theorem sramRd_sramWrs (l : List Word) (k j : Nat) (s : State) :
    (s.sramWrs k l).sramRd j = if k ≤ j ∧ j < k + l.length then l.getD (j - k) 0 else s.sramRd j := by
  have run : (s.sramWrs k l).mem.sram = Cells.wrs (fun _ => 0) s.mem.sram k l := by
    induction l generalizing k s with
    | nil => rfl
    | cons v r ih => exact ih (k + 1) _
  rw [State.sramRd, run, Cells.rd_wrs]
  rfl

/-! ## The context commands (R192) -/

/-- Parts that a context command touches. -/
abbrev ctxParts : List Part := [.regs, .mem, .pends, .trim, .evf]

theorem get_ctxResult (s : State) (c r : Nat) : (s.ctxResult c r).get Port.TRM_CTX_STAT =
    inFld 16 16 (s.getF Port.TRM_CTX_STAT 16 16) |||
      inFld 15 15 (nat1 (decide (c < s.ctxTotal) && decide (s.ctxF c 63 11 11 = 1) && s.resident c)) |||
      inFld 14 12 r ||| (if r = 0 then inFld 11 0 (s.slotNo c - 1) else 0) :=
  (raise_get _ _ _ (by decide)).trans (s.get_set_same _ _)

theorem ctxResult_touches (s : State) (c r : Nat) :
    State.touches [.regs, .pends, .evf] [Blk.evf, Blk.trm] s (s.ctxResult c r) :=
  ((set_touches (b := Blk.trm) s _ (by decide)).seq (raise_touches _ _)).mono (by decide) (by decide)

theorem result_ctxResult (s : State) (c r : Nat) : (s.ctxResult c r).getF Port.TRM_CTX_STAT 14 12 = r % 8 := by
  have low : fld (if r = 0 then inFld 11 0 (s.slotNo c - 1) else 0) 14 12 = 0 := by
    split
    · exact fld_inFld_apart 11 0 _ 14 12 (by decide) (by decide)
    · exact fld_zero 14 12
  rw [State.getF, get_ctxResult, fld_or, low]
  simp [fld_or, fld_inFld_same, fld_inFld_apart]

theorem slot_ctxResult (s : State) (c : Nat) :
    (s.ctxResult c 0).getF Port.TRM_CTX_STAT 11 0 = (s.slotNo c - 1) % 4096 := by
  rw [State.getF, get_ctxResult]
  simp [fld_or, fld_inFld_same, fld_inFld_apart]

theorem mem_ctxResult (s : State) (c r : Nat) : (s.ctxResult c r).mem = s.mem :=
  (ctxResult_touches s c r).1 .mem (by decide)

/-- A command that ends with a result, after what changes a context's words and trim's notes alone. -/
theorem ctxResult_answers {s u : State} (h : State.touches [.mem, .trim] [] s u) (c : Nat) {r : Nat} (small : r < 8) :
    State.touches ctxParts [Blk.evf, Blk.trm] s (u.ctxResult c r) ∧
      (u.ctxResult c r).getF Port.TRM_CTX_STAT 14 12 = r ∧ s.raises Irq.TRM_CTX_DONE (u.ctxResult c r) :=
  ⟨(h.seq (ctxResult_touches u c r)).mono (by decide) (by decide),
    (result_ctxResult u c r).trans (Nat.mod_eq_of_lt small),
    (h.seq (set_touches (b := Blk.trm) u _ (by decide))).raises (by decide) (by decide)⟩

/-- A field of a context reads as before behind the result. -/
theorem ctxF_ctxResult (s : State) (c r d i hi lo : Nat) : (s.ctxResult c r).ctxF d i hi lo = s.ctxF d i hi lo :=
  congrArg (fld · hi lo) ((ctxResult_touches s c r).ctxRd (by decide) (by decide) (by decide) d i)

theorem setCtxF_touches (s : State) (c i hi lo v : Nat) : State.touches [.mem] [] s (s.setCtxF c i hi lo v) :=
  ctxWr_touches s c i _

/-- A resident context's word reads what was written where it stands. -/
theorem ctxRd_sramWr {s : State} {c : Nat} (home : s.resident c = true) (i : Nat) (v : Word) :
    (s.sramWr (s.slotWord (s.slotNo c - 1) i) v).ctxRd c i = v := by
  have stays : (s.sramWr (s.slotWord (s.slotNo c - 1) i) v).resident c = true := home
  rw [State.ctxRd, if_pos stays]
  exact (s.sramRd_sramWr _ _ v).trans (if_pos rfl)

/-- A resident context's BELAY flag reads what was stored in it, also where DIRTY is set beside it (R180). -/
theorem belay_setCtxF {s : State} {c : Nat} (home : s.resident c = true) (v : Nat) :
    (s.setCtxF c 63 11 11 v).ctxF c 63 11 11 = v % 2 := by
  have stored : fld (withFld (s.ctxRd c 63) 11 11 v) 11 11 = v % 2 := fld_withFld_same _ 11 11 v (by decide)
  unfold State.setCtxF State.ctxWr
  rw [if_pos home]
  extract_lets k t
  have first : t.ctxRd c 63 = withFld (s.ctxRd c 63) 11 11 v := ctxRd_sramWr home 63 _
  have reads : t.sramRd (t.slotWord k 63) = withFld (s.ctxRd c 63) 11 11 v := by
    rw [← first, State.ctxRd, if_pos (show t.resident c = true from home)]
    rfl
  have second : ∀ w, (t.sramWr (t.slotWord k 63) w).ctxRd c 63 = w := ctxRd_sramWr (s := t) home 63
  split
  · rw [State.ctxF, second, fld_withBit_apart _ 10 11 11 true (by decide) (by decide), reads, stored]
  · rw [State.ctxF, first, stored]

/-- A command given while one is pending is lost. -/
theorem ctxCmd_pending {s : State} (busy : s.getB Port.TRM_CTX_STAT 17 = true) (v : Word) :
    s.ctxCmd v = s.setB Port.TRM_CTX_STAT 16 true := if_pos busy

section free
variable {s : State} {c : Nat} (arg : s.getF Port.TRM_CTX_ARG 13 0 = c) (free : s.getB Port.TRM_CTX_STAT 17 = false)
include arg free

theorem ctxCmd_unknown (unknown : s.ctxTotal ≤ c) : s.ctxCmd 1 = s.ctxResult c 1 := by
  simp [State.ctxCmd, arg, free, unknown]

section known
variable (known : c < s.ctxTotal)
include known

theorem ctxCmd_lookup : s.ctxCmd 1 = if s.resident c then s.ctxResult c 0 else s.ctxResult c 5 := by
  simp [State.ctxCmd, arg, free, known.not_ge]

theorem ctxCmd_belay_resident (home : s.resident c = true) : s.ctxCmd 2 = s.belayNow c := by
  simp [State.ctxCmd, arg, free, known.not_ge, home]

theorem ctxCmd_belay_frozen (away : s.resident c = false) (down : s.dramUp = false) :
    s.ctxCmd 2 = s.ctxResult c 3 := by
  simp [State.ctxCmd, arg, free, known.not_ge, away, down]

theorem ctxCmd_belay_waits (away : s.resident c = false) (up : s.dramUp = true) (room : 2 * s.belayed < s.ctxSlots) :
    s.ctxCmd 2 = (({ s with trim := { s.trim with belayWait := some c } } : State).setB Port.TRM_CTX_STAT 17
      true).startFetch c := by
  simp [State.ctxCmd, arg, free, known.not_ge, away, up, room.not_ge]

theorem ctxCmd_unbelay (home : s.resident c = true) (flag : s.ctxF c 63 11 11 = 1) :
    s.ctxCmd 3 = (s.setCtxF c 63 11 11 0).ctxResult c 0 := by
  simp [State.ctxCmd, arg, free, known.not_ge, home, flag]

theorem ctxCmd_unbelay_none (no : s.resident c = false ∨ s.ctxF c 63 11 11 = 0) : s.ctxCmd 3 = s.ctxResult c 4 := by
  have off : s.resident c = true → s.ctxF c 63 11 11 ≠ 1 := by
    rcases no with no | no <;> simp [no]
  simpa [State.ctxCmd, arg, free, known.not_ge] using fun home flag => absurd flag (off home)

end known

end free

/-- BELAY of a resident context while slots may still be belayed sets its flag (R192). -/
theorem belayNow_sets {s : State} {c : Nat} (home : s.resident c = true) (room : 2 * s.belayed < s.ctxSlots) :
    ∃ u, State.touches [.mem, .trim] [] s u ∧ s.belayNow c = u.ctxResult c 0 ∧ u.ctxF c 63 11 11 = 1 := by
  unfold State.belayNow
  split
  next flag => exact ⟨s, .refl _ _ s, rfl, flag⟩
  next =>
    rw [if_neg (by omega)]
    exact ⟨_, (setCtxF_touches s c 63 11 11 1).seq (touch_touches _ c), rfl, belay_setCtxF home 1⟩

theorem belayNow_full {s : State} {c : Nat} (flag : s.ctxF c 63 11 11 = 0) (full : s.ctxSlots ≤ 2 * s.belayed) :
    s.belayNow c = s.ctxResult c 2 := by
  simp [State.belayNow, flag, full]

/-- BELAY of a context that is away asks for its fetch and stays BUSY (R192). -/
theorem belay_waits {s u : State} {c : Nat} (away : s.resident c = false)
    (set : u = ({ s with trim := { s.trim with belayWait := some c } } : State).setB Port.TRM_CTX_STAT 17 true) :
    State.touches ctxParts [Blk.evf, Blk.trm] s (u.startFetch c) ∧
      (u.startFetch c).getB Port.TRM_CTX_STAT 17 = true ∧ (u.startFetch c).trim.belayWait = some c ∧
      c ∈ (u.startFetch c).trim.swaps := by
  have busy : u.getB Port.TRM_CTX_STAT 17 = true := by
    rw [set]
    exact State.getB_setB_same _ _ 17 true (by decide)
  have waiting : u.trim.belayWait = some c := by rw [set]; rfl
  have changed : State.touches [.trim, .regs] [Blk.trm] s u := by
    rw [set]
    exact (trim_touches s _).seq (set_touches _ _ (by decide))
  have table : u.slotNo c = s.slotNo c := by
    rw [State.slotNo, State.slotNo, changed.ctxSlots (by decide), set]
    rfl
  have gone : u.resident c = false := by rw [State.resident, table]; exact away
  refine ⟨(changed.seq (startFetch_touches u c)).mono (by decide) (by decide), ?_, ?_, mem_swaps_startFetch gone⟩
  · rw [State.getB, (startFetch_touches u c).2 _ (by simp)]
    exact busy
  · unfold State.startFetch
    split <;> exact waiting

/-! ## Horizon entry (R173, R177, R181) -/

/-- What changes neither link control nor the list of contexts to fetch: the order keeper's work on an entry. -/
def State.Kept (s t : State) : Prop := t.link = s.link ∧ t.trim.swaps = s.trim.swaps

theorem State.Kept.trans {s t u : State} (h : s.Kept t) (k : t.Kept u) : s.Kept u := ⟨k.1.trans h.1, k.2.trans h.2⟩

theorem State.touches.kept {ps : List Part} {bs : List (Nat × Nat)} {s t : State} (h : State.touches ps bs s t)
    (link : Part.link ∉ ps) (trim : Part.trim ∉ ps) : s.Kept t := ⟨h.1 .link link, congrArg Trim.swaps (h.1 .trim trim)⟩

theorem setEntries_kept (s : State) (l : List OkEntry) : s.Kept (s.setEntries l) := ⟨rfl, rfl⟩

theorem closeDone_kept (s : State) : s.Kept s.closeDone :=
  (setEntries_kept s _).trans
    ((forEach_touches _ (fun e t => freeHole_touches t e) _ _).kept (by decide) (by decide))

theorem expireEntry_kept (s : State) (e : OkEntry) : s.Kept (s.expireEntry e) := by
  have hq := ctxF_queue s e.ctx
  have ended : ∀ u : State, u.Kept
      (((u.setEntries (u.entries.erase e)).count Port.TRM_HOLECNT).raise Irq.TRM_HOLE).closeDone := fun u =>
    ((setEntries_kept u _).trans (((set_touches (b := Blk.trm) _ _ (by decide)).seq (raise_touches _ _)).kept (by decide)
      (by decide))).trans (closeDone_kept _)
  have committed : ∀ (u : State) (c : CellLoc), u.Kept (u.commitHole (s.ctxF e.ctx 1 6 0) c e.epoch 2 e.ctx e.opened) :=
    fun u c => (commitHole_touches u c _ _ _ _ hq).kept (by decide) (by decide)
  have found : s.Kept (s.holeCell (s.ctxF e.ctx 1 6 0)).2 := (holeCell_touches s hq).kept (by decide) (by decide)
  unfold State.expireEntry
  refine State.Kept.trans ?_ (ended _)
  cases e.hole with
  | some c => exact committed s _
  | none =>
    dsimp only
    split
    · exact found.trans (committed _ _)
    · exact ⟨rfl, rfl⟩

theorem openEntry_kept (s : State) (c : Nat) (units : List Nat) : s.Kept (s.openEntry c units) := by
  have room : s.Kept (if 32 ≤ s.entries.length then (match s.entries.head? with
      | some e => s.expireEntry e
      | none => s) else s) := by
    split
    · cases s.entries.head? with
      | none => exact ⟨rfl, rfl⟩
      | some e => exact expireEntry_kept s e
    · exact ⟨rfl, rfl⟩
  unfold State.openEntry
  refine room.trans ?_
  exact (((takeHole_touches _ (ctxF_queue _ c)).kept (by decide) (by decide)).trans (setEntries_kept _ _)).trans
    (((ctxWr_touches _ _ _ _).seq (set_touches (b := Blk.trm) _ _ (by decide))).kept (by decide) (by decide))

theorem leaveLane_kept (s : State) (c l : Nat) : s.Kept (s.leaveLane c l) := by
  unfold State.leaveLane
  split
  · exact openEntry_kept s c [l]
  · exact ⟨rfl, rfl⟩

/-- An entry of the calendar that is changed reads as changed. -/
theorem cal_updCal {s : State} {c : Nat} {e : CalEntry} (entry : s.cal c = some e) (f : CalEntry → CalEntry) :
    (s.updCal c f).cal c = some (f e) := by
  rw [State.updCal, entry]
  exact s.cal_setCal c _

theorem updCal_horizonCount (s : State) (c : Nat) (f : CalEntry → CalEntry) :
    (s.updCal c f).link.horizonCount = s.link.horizonCount := by
  unfold State.updCal
  cases s.cal c <;> rfl

theorem updCal_trim (s : State) (c : Nat) (f : CalEntry → CalEntry) : (s.updCal c f).trim = s.trim :=
  (updCal_touches s c f).1 .trim (by decide)

/-- Trim's decision on an event's units is recorded in its calendar entry; the horizon's count and the contexts to fetch
stand (R177). -/
theorem assign_records {s : State} {c : Nat} {e : CalEntry} (entry : s.cal c = some e) :
    (∃ r, (s.assign c).cal c = some (placeUnits e r)) ∧ (s.assign c).link.horizonCount = s.link.horizonCount ∧
      (s.assign c).trim.swaps = s.trim.swaps := by
  have recorded : ∀ (u : State) r, s.Kept u → (∃ r', (u.updCal c (placeUnits · r)).cal c = some (placeUnits e r')) ∧
      (u.updCal c (placeUnits · r)).link.horizonCount = s.link.horizonCount ∧
      (u.updCal c (placeUnits · r)).trim.swaps = s.trim.swaps := by
    intro u r kept
    have same : u.cal c = some e := (congrArg (fun l : Link => Cells.rd (fun _ => none) l.calendar c) kept.1).trans entry
    exact ⟨⟨r, cal_updCal same _⟩, (updCal_horizonCount u c _).trans (congrArg Link.horizonCount kept.1),
      (congrArg Trim.swaps (updCal_trim u c _)).trans kept.2⟩
  have given : ∀ (q : Nat) (l : Option Nat), (∃ r, (s.giveUnits c q l).cal c = some (placeUnits e r)) ∧
      (s.giveUnits c q l).link.horizonCount = s.link.horizonCount ∧
      (s.giveUnits c q l).trim.swaps = s.trim.swaps := by
    intro q l
    unfold State.giveUnits
    refine recorded _ (some (q, l)) ?_
    cases l with
    | none => exact ⟨rfl, rfl⟩
    | some l =>
      dsimp only
      split
      · exact ⟨rfl, rfl⟩
      · exact leaveLane_kept s c _
  unfold State.assign
  rw [entry]
  dsimp only
  split
  · exact given _ none
  · exact given _ (some _)
  · exact recorded s none ⟨rfl, rfl⟩

/-- Trim's decision leaves when the entry entered the horizon. -/
theorem placeUnits_entered (e : CalEntry) (r : Option (Nat × Option Nat)) :
    (placeUnits e r).inHorizon = e.inHorizon ∧ (placeUnits e r).entered = e.entered ∧
      (placeUnits e r).after.map Follow.entered = e.after.map Follow.entered := by
  unfold placeUnits
  cases e.after <;> exact ⟨rfl, rfl, rfl⟩

/-- An event that is due belongs to an entry of the calendar (R173). -/
theorem dueEntries_cal {s : State} {c : Nat} (due : c ∈ s.dueEntries) : ∃ e, s.cal c = some e := by
  unfold State.dueEntries at due
  obtain ⟨⟨t, d⟩, listed, rfl⟩ := List.mem_map.mp due
  rw [List.mem_mergeSort, List.mem_filterMap] at listed
  obtain ⟨d', -, enters⟩ := listed
  cases at_ : s.entersAt d' with
  | none => simp [at_] at enters
  | some x =>
    rw [at_] at enters
    have here : d' = d := by
      simp only at enters
      split at enters <;> simp_all
    subst here
    unfold State.entersAt at at_
    cases entry : s.cal d' with
    | none => simp [entry] at at_
    | some e => exact ⟨e, rfl⟩

/-- The event first due enters alone (R173). -/
theorem horizonEntry_first {s : State} {c : Nat} (first : s.dueEntries.head? = some c) :
    s.horizonEntry c = s.enterHorizon c := by
  obtain ⟨r, due⟩ : ∃ r, s.dueEntries = c :: r := by
    cases h : s.dueEntries with
    | nil => simp [h] at first
    | cons d r => exact ⟨r, by simp_all⟩
  have only : (c :: r).takeWhile (· ≠ c) = [] := by simp
  unfold State.horizonEntry
  rw [due]
  dsimp only
  rw [if_pos List.mem_cons_self, only]
  rfl

/-- Parts and blocks that an entry into the horizon touches. -/
abbrev enterParts : List Part := [.regs, .mem, .pends, .basin, .tx, .link, .trim, .evf]

/-- The calendar entry of an event that enters the horizon: that of the next event, or of the one after it. -/
def State.enteredEntry (s : State) (c : Nat) (e : CalEntry) : CalEntry :=
  let n := s.link.horizonCount
  let tx := cTxOnly (s.nextWords c)
  let f : Follow := { seq := none, lane := none, waiting := false, entered := n, txOnly := tx }
  if (s.eventOf c).isSome then { e with after := some f } else { e with inHorizon := true, entered := n, txOnly := tx }

/-- An event enters the horizon with the number next in turn, and its context is asked for (R173, R189). -/
theorem enterHorizon_enters {s : State} {c : Nat} {e : CalEntry} (entry : s.cal c = some e) :
    State.touches enterParts keeperBlocks s (s.enterHorizon c) ∧
      (∃ e', (s.enterHorizon c).cal c = some e' ∧ e'.inHorizon = (s.enteredEntry c e).inHorizon ∧
        e'.entered = (s.enteredEntry c e).entered ∧
        e'.after.map Follow.entered = (s.enteredEntry c e).after.map Follow.entered) ∧
      (s.enterHorizon c).link.horizonCount = s.link.horizonCount + 1 ∧
      (s.resident c = false → c ∈ (s.enterHorizon c).trim.swaps) := by
  unfold State.enterHorizon
  extract_lets n tx f t link t1
  have marked : State.touches [.link] [] s (s.updCal c fun e => if (s.eventOf c).isSome then { e with after := some f }
      else { e with inHorizon := true, entered := n, txOnly := tx }) := updCal_touches s c _
  have touched : State.touches enterParts keeperBlocks s t1 :=
    ((marked.seq (startFetch_touches _ c)).seq (link_touches t _)).mono (by decide) (by decide)
  have entered : t1.cal c = some (s.enteredEntry c e) :=
    ((startFetch_touches _ c).cal (by decide) c).trans (cal_updCal entry _)
  have counted : t1.link.horizonCount = s.link.horizonCount + 1 := rfl
  have asked : s.resident c = false → c ∈ t1.trim.swaps := by
    intro away
    refine mem_swaps_startFetch (s := s.updCal c _) ?_
    rw [State.resident, marked.slotNo (by decide) (by decide)]
    exact away
  split
  · exact ⟨touched, ⟨_, entered, rfl, rfl, rfl⟩, counted, asked⟩
  · obtain ⟨⟨r, placed⟩, count, swaps⟩ := assign_records entered
    obtain ⟨inside, number, follows⟩ := placeUnits_entered (s.enteredEntry c e) r
    exact ⟨touched.trans ((assign_placed t1 c).1.mono (by decide) (by decide)), ⟨_, placed, inside, number, follows⟩,
      count.trans counted, fun away => swaps ▸ asked away⟩

/-! ## Context swaps (R189-R191) -/

/-- The words of a context come to stand in a slot: it is resident there, its home holds its words from now on, its fetch is
counted, and it is first in turn no more. -/
def State.seated (s : State) (c k : Nat) (ws : List Word) : State :=
  let u := (((s.sramWrs (s.slotWord k 0) ws).seat c k).count Port.TRM_FETCHCNT).homed c
  { u with trim := { u.trim with swaps := u.trim.swaps.tail } }

/-- The words of a slot as they are written to a home: DIRTY clear, the last block filled up with zeroes. -/
def State.homeImage (s : State) (k : Nat) : List Word :=
  let old := (List.range 64).map fun i => s.sramRd (s.slotWord k i)
  old.set 63 (withBit (old.getD 63 0) 10 false) ++ List.replicate 8 0

/-- The occupant of a slot is written to its home, which holds its words from now on. -/
def State.writtenBack (s : State) (k : Nat) : State :=
  let o := s.occupantOf k
  let old := (List.range 64).map fun i => s.sramRd (s.slotWord k i)
  forNat 6 (fun i t => t.dramWr (6 * (o - 1) + i) ((s.homeImage k).drop (12 * i) |>.take 12) 1
    (BitVec.ofNat 6 (fld (old.getD 63 0) 17 12))) ((s.homed (o - 1)).dramWake 2)

section seated
variable (s : State) (c k : Nat) (ws : List Word)

theorem seated_touches : State.touches [.regs, .mem, .trim] [Blk.trm] s (s.seated c k ws) :=
  ((((sramWrs_touches ws _ s).seq (trim_touches _ _)).seq (set_touches (b := Blk.trm) _ _ (by decide))).seq
    ((trim_touches _ _).trans (trim_touches _ _))).mono (by decide) (by decide)

theorem seated_get {p : Nat} : (s.seated c k ws).get p = (s.count Port.TRM_FETCHCNT).get p := by
  have base : (s.sramWrs (s.slotWord k 0) ws).regs = s.regs := (sramWrs_touches ws _ s).1 .regs (by decide)
  show Cells.rd coldOf _ p = _
  simp only [State.seated, State.homed, State.count, State.set, State.get, State.seat, base]

/-- The table of slots with a context seated. -/
theorem seated_slotNo (d : Nat) : (s.seated c k ws).slotNo d =
    if d = c then k + 1 else if s.occupantOf k ≠ 0 ∧ s.occupantOf k - 1 = d then 0 else s.slotNo d := by
  have written := sramWrs_touches ws (s.slotWord k 0) s
  have slots : (s.seated c k ws).ctxSlots = s.ctxSlots := (seated_touches s c k ws).ctxSlots (by decide)
  have slots' : (s.sramWrs (s.slotWord k 0) ws).ctxSlots = s.ctxSlots := written.ctxSlots (by simp)
  have trim : (s.sramWrs (s.slotWord k 0) ws).trim = s.trim := written.1 .trim (by decide)
  rw [State.slotNo, slots]
  simp only [State.seated, State.homed, State.count, State.set, State.seat, State.occupantOf, slots', trim]
  rw [Cells.rd_wr]
  by_cases here : c = d
  · simp [here]
  · rw [if_neg here, if_neg (Ne.symm here)]
    by_cases empty : Cells.rd (fun k => k + 1) s.trim.occupant k = 0
    · simp [empty, State.slotNo]
    · rw [if_neg empty, Cells.rd_wr]
      simp [empty, State.slotNo]

theorem seated_sramRd (i : Nat) (hi : i < ws.length) :
    (s.seated c k ws).sramRd ((s.seated c k ws).slotWord k i) = ws.getD i 0 := by
  have place : (s.seated c k ws).slotWord k i = s.slotWord k 0 + i := by
    rw [State.slotWord, (seated_touches s c k ws).roleWord (by decide), State.slotWord, State.roleWord, State.roleWord]
    omega
  rw [place]
  refine (sramRd_sramWrs ws _ _ s).trans ?_
  rw [if_pos (by omega), Nat.add_sub_cancel_left]

end seated

/-- A port's request leaves DRAM available where it is, and makes nothing available (R328). -/
theorem dramUp_dramWake (s : State) (port : Nat) : (s.dramWake port).dramUp = s.dramUp := by
  have rig : (s.dramWake port).rig = s.rig := (dramWake_touches s port).1 .rig (by decide)
  have state : (s.dramWake port).dmcState = if s.dmcState = 5 then 4 else s.dmcState := by
    have used : (if port < 5 then { s with dmc := { s.dmc with usedAt := s.time.wall } } else s).dmcState =
        s.dmcState := by split <;> rfl
    unfold State.dramWake
    dsimp only
    split
    · exact State.getF_setF_same _ _ 17 15 4 (by decide)
    · exact used
  unfold State.dramUp State.dramCode State.rigF
  rw [state, rig]
  by_cases asleep : s.dmcState = 5
  · simp [asleep]
  · simp [asleep]

/-- Blocks written one after another read the words of the list they were cut from. -/
theorem dramWord_blocks {n : Nat} (s : State) (b owner : Nat) (epoch : BitVec 6) (ws : List Word)
    (long : 12 * n ≤ ws.length) {j : Nat} (hj : j < 12 * n) :
    (forNat n (fun i t => t.dramWr (b + i) ((ws.drop (12 * i)).take 12) owner epoch) s).dramWord (b + j / 12) (j % 12) =
      ws.getD j 0 := by
  have key : (b + j / 12) * 12 + j % 12 = b * 12 + j := by omega
  unfold State.dramWord
  rw [key]
  induction n with
  | zero => omega
  | succ n ih =>
    have len : ((ws.drop (12 * n)).take 12).length = 12 := by simp; omega
    rw [forNat_succ]
    refine (Cells.rd_wrs _ _ _ _ _).trans ?_
    rw [len]
    by_cases last : 12 * n ≤ j
    · rw [if_pos (by omega)]
      have at_ : b * 12 + j - (b + n) * 12 = j - 12 * n := by omega
      rw [at_, List.getD_eq_getElem?_getD, List.getElem?_take_of_lt (by omega), List.getElem?_drop,
        List.getD_eq_getElem?_getD]
      congr 2
      omega
    · rw [if_neg (by omega)]
      exact ih (by omega) (by omega)

theorem blocks_touches (s : State) (n b owner : Nat) (epoch : BitVec 6) (ws : List Word) :
    State.touches [.mem] [] s (forNat n (fun i t => t.dramWr (b + i) ((ws.drop (12 * i)).take 12) owner epoch) s) :=
  forNat_inv (State.touches [.mem] [] s) _ (fun _ t h => h.trans (dramWr_touches t _ _ _ _)) n s (.refl _ _ s)

/-- DRAM is available by what the Rig and the controller's state say alone. -/
theorem dramUp_of_same {s t : State} (rig : t.rig = s.rig) (stat : t.get Port.DMC_STAT = s.get Port.DMC_STAT) :
    t.dramUp = s.dramUp := by
  unfold State.dramUp State.dramCode State.rigF State.dmcState State.getF
  rw [rig, stat]

section writtenBack
variable (s : State) (k : Nat)

theorem writtenBack_blocks : State.touches [.mem] [] ((s.homed (s.occupantOf k - 1)).dramWake 2) (s.writtenBack k) :=
  blocks_touches _ 6 _ _ _ _

theorem writtenBack_touches : State.touches [.regs, .mem, .trim, .dmc] [Blk.dmc] s (s.writtenBack k) :=
  (((trim_touches s _).seq (dramWake_touches _ 2)).seq (writtenBack_blocks s k)).mono (by decide) (by decide)

theorem writtenBack_trim : (s.writtenBack k).trim = (s.homed (s.occupantOf k - 1)).trim := by
  have woken : ((s.homed (s.occupantOf k - 1)).dramWake 2).trim = (s.homed (s.occupantOf k - 1)).trim :=
    (dramWake_touches _ 2).1 .trim (by decide)
  exact Eq.trans ((writtenBack_blocks s k).1 .trim (by decide)) woken

theorem writtenBack_dramUp : (s.writtenBack k).dramUp = s.dramUp :=
  (dramUp_of_same ((writtenBack_blocks s k).1 .rig (by decide)) ((writtenBack_blocks s k).2 _ (by simp))).trans
    (dramUp_dramWake _ 2)

/-- The home of the occupant reads the words of its slot; only DIRTY, in the last one, differs. -/
theorem writtenBack_homeRd {i : Nat} (hi : i < 63) :
    (s.writtenBack k).homeRd (s.occupantOf k - 1) i = s.sramRd (s.slotWord k i) := by
  have long : 12 * 6 ≤ (s.homeImage k).length := by simp [State.homeImage]
  refine (dramWord_blocks _ _ _ _ (s.homeImage k) long (j := i) (by omega)).trans ?_
  have ne : 63 ≠ i := by omega
  have inside : i < 64 := by omega
  simp [State.homeImage, List.getD_eq_getElem?_getD, List.getElem?_append_left, inside, List.getElem_set_ne ne]

end writtenBack

/-! ### The swap itself -/

/-- A context is fetched into a slot whose occupant needs its words no more (R189). -/
def State.swapInto (s : State) (c k : Nat) : State :=
  let first := decide (Cells.rd (fun _ => 0) s.trim.fetched c = 0)
  let stale := (List.range 64).any fun i => decide (s.homeRd c i ≠ 0)
  let r := if first then (List.replicate 63 0 ++ [inFld 10 10 (nat1 stale)], s) else s.homeReads c
  if r.2.dramUp = false then r.2 else r.2.seated c k (r.1.take 64)

/-- The words of a context at its first fetch: zero but for DIRTY, which stands where its home holds other words. -/
def State.freshWords (s : State) (c : Nat) : List Word :=
  List.replicate 63 0 ++ [inFld 10 10 (nat1 ((List.range 64).any fun i => decide (s.homeRd c i ≠ 0)))]

theorem swapInto_fresh {s : State} {c : Nat} (k : Nat) (up : s.dramUp = true)
    (new : Cells.rd (fun _ => 0) s.trim.fetched c = 0) : s.swapInto c k = s.seated c k (s.freshWords c) := by
  unfold State.swapInto
  dsimp only
  rw [if_pos (decide_eq_true new)]
  rw [if_neg (by simp [up]), List.take_of_length_le (by simp)]
  rfl

/-- The swap of the context that is first in turn: the occupant of the victim slot goes home when it is dirty. -/
theorem swapDone_swaps {s : State} {c k : Nat} {r : List Nat} (turn : s.trim.swaps = c :: r) (found : s.victim = some k)
    (up : s.dramUp = true) : s.swapDone c =
      (if s.occupantOf k ≠ 0 ∧ bitOf (s.sramRd (s.slotWord k 63)) 10 = true then
        (s.writtenBack k).count Port.TRM_EVICTCNT else s).swapInto c k := by
  have last : ((List.range 64).map fun i => s.sramRd (s.slotWord k i)).getD 63 0 = s.sramRd (s.slotWord k 63) := by simp
  unfold State.swapDone State.writtenBack State.homeImage
  rw [found]
  dsimp only
  rw [if_neg (by simp [up, turn]), last]
  rfl

theorem dramUp_count (s : State) {p : Nat} (other : p ≠ Port.DMC_STAT) : (s.count p).dramUp = s.dramUp :=
  dramUp_of_same rfl (s.get_count_other other)

/-- A context for which no command waits is fetched and nothing follows. -/
theorem swapRecord_alone {s : State} {c : Nat} (insert : s.link.insertWait ≠ some c)
    (link : (s.swapDone c).link = s.link) (belay : (s.swapDone c).trim.belayWait ≠ some c) :
    s.swapRecord c = s.swapDone c := by
  have alone : s.swapThen c = s.swapDone c := by
    unfold State.swapThen
    dsimp only
    rw [link, if_neg insert, if_neg belay, ite_self]
  unfold State.swapRecord
  dsimp only
  rw [if_neg fun both => insert both.1, alone]

/-- A context whose swap cannot be done stays waiting (R191, R238). -/
theorem swapRecord_waits {s : State} {c : Nat} (stuck : s.dramUp = false ∨ s.victim = none)
    (insert : s.link.insertWait ≠ some c) (away : s.resident c = false) : s.swapRecord c = s := by
  have same : s.swapDone c = s := by
    unfold State.swapDone
    cases found : s.victim with
    | none => rfl
    | some k => exact if_pos (.inl (stuck.resolve_right (by simp [found])))
  unfold State.swapRecord
  dsimp only
  rw [if_neg fun both => insert both.1, State.swapThen, same]
  exact if_pos away

theorem seated_resident (s : State) (c k : Nat) (ws : List Word) : (s.seated c k ws).resident c = true := by
  simp [State.resident, seated_slotNo]

/-- The context seated is first in turn no more, and what waits for a fetch still does. -/
theorem seated_waits (s : State) (c k : Nat) (ws : List Word) :
    (s.seated c k ws).trim.swaps = s.trim.swaps.tail ∧ (s.seated c k ws).trim.belayWait = s.trim.belayWait := by
  have trim : (s.sramWrs (s.slotWord k 0) ws).trim = s.trim := (sramWrs_touches ws _ s).1 .trim (by decide)
  simp only [State.seated, State.homed, State.count, State.set, State.seat, trim, and_self]

theorem seated_leaves (s : State) {c k : Nat} (ws : List Word) (occupied : s.occupantOf k ≠ 0)
    (other : s.occupantOf k ≠ c + 1) : (s.seated c k ws).resident (s.occupantOf k - 1) = false := by
  have ne : s.occupantOf k - 1 ≠ c := by omega
  simp [State.resident, seated_slotNo, ne, occupied]

theorem seated_homeRd (s : State) (c k : Nat) (ws : List Word) (d i : Nat) :
    (s.seated c k ws).homeRd d i = s.homeRd d i := by
  have kept : ∀ (l : List Word) (a : Nat) (u : State), (u.sramWrs a l).mem.dram = u.mem.dram := by
    intro l
    induction l with
    | nil => exact fun _ _ => rfl
    | cons v r ih => exact fun a u => (ih (a + 1) _).trans rfl
  exact congrArg (Cells.rd (fun _ => 0) · _) (kept ws _ s)

/-- A context fetched for the first time is resident with zero words, its fetch is counted, and its turn is over. -/
theorem swapInto_fresh_spec {s : State} {c : Nat} (k : Nat) (up : s.dramUp = true)
    (new : Cells.rd (fun _ => 0) s.trim.fetched c = 0) :
    State.touches [.regs, .mem, .trim] [Blk.trm] s (s.swapInto c k) ∧ (s.swapInto c k).resident c = true ∧
      (s.swapInto c k).slotNo c = k + 1 ∧
      (List.range 63).all (fun i => (s.swapInto c k).sramRd ((s.swapInto c k).slotWord k i) == 0) = true ∧
      (s.swapInto c k).trim.swaps = s.trim.swaps.tail ∧ (s.swapInto c k).trim.belayWait = s.trim.belayWait := by
  obtain ⟨swaps, waits⟩ := seated_waits s c k (s.freshWords c)
  rw [swapInto_fresh k up new]
  refine ⟨seated_touches s c k _, seated_resident s c k _, by simp [seated_slotNo], ?_, swaps, waits⟩
  rw [List.all_eq_true]
  intro i hi
  have inside : i < 63 := List.mem_range.mp hi
  have zero : (s.freshWords c).getD i 0 = 0 := by
    rw [State.freshWords, List.getD_eq_getElem?_getD, List.getElem?_append_left (by simpa using inside),
      List.getElem?_replicate_of_lt inside]
    rfl
  rw [seated_sramRd s c k _ i (by simp [State.freshWords]; omega), zero]
  rfl

theorem swapInto_fresh_get {s : State} {c : Nat} (k : Nat) (up : s.dramUp = true)
    (new : Cells.rd (fun _ => 0) s.trim.fetched c = 0) (p : Nat) :
    (s.swapInto c k).get p = (s.count Port.TRM_FETCHCNT).get p := by
  rw [swapInto_fresh k up new, seated_get]

section swap
variable {s : State} {c k : Nat} {r : List Nat} (turn : s.trim.swaps = c :: r) (found : s.victim = some k)
  (up : s.dramUp = true) (new : Cells.rd (fun _ => 0) s.trim.fetched c = 0) (insert : s.link.insertWait ≠ some c)
  (belay : s.trim.belayWait ≠ some c)
include turn found up new insert belay

/-- The swap record of a first fetch into a free or clean slot (R189). -/
theorem swapRecord_clean (clean : s.occupantOf k = 0 ∨ bitOf (s.sramRd (s.slotWord k 63)) 10 = false) :
    s.swapRecord c = s.swapInto c k := by
  have kept : ¬(s.occupantOf k ≠ 0 ∧ bitOf (s.sramRd (s.slotWord k 63)) 10 = true) := by
    rcases clean with empty | same
    · exact fun both => both.1 empty
    · simp [same]
  have swapped : s.swapDone c = s.swapInto c k := by rw [swapDone_swaps turn found up, if_neg kept]
  obtain ⟨touched, -, -, -, -, waits⟩ := swapInto_fresh_spec k up new
  rw [swapRecord_alone insert (by rw [swapped]; exact touched.1 .link (by decide)) (by rw [swapped, waits]; exact belay),
    swapped]

/-- The swap record of a first fetch into a slot whose occupant is dirty: the occupant goes home before (R189, R191). -/
theorem swapRecord_dirty (occupied : s.occupantOf k ≠ 0) (other : s.occupantOf k ≠ c + 1)
    (dirty : bitOf (s.sramRd (s.slotWord k 63)) 10 = true) :
    ∃ u, State.touches [.regs, .mem, .trim, .dmc] [Blk.dmc, Blk.trm] s u ∧ u.dramUp = true ∧
      Cells.rd (fun _ => 0) u.trim.fetched c = 0 ∧ u.occupantOf k = s.occupantOf k ∧
      u.get Port.TRM_FETCHCNT = s.get Port.TRM_FETCHCNT ∧ u.get Port.TRM_EVICTCNT = satInc (s.get Port.TRM_EVICTCNT) ∧
      (∀ i < 63, u.homeRd (s.occupantOf k - 1) i = s.sramRd (s.slotWord k i)) ∧ s.swapRecord c = u.swapInto c k := by
  have swapped : s.swapDone c = ((s.writtenBack k).count Port.TRM_EVICTCNT).swapInto c k := by
    rw [swapDone_swaps turn found up, if_pos ⟨occupied, dirty⟩]
  have trim : ((s.writtenBack k).count Port.TRM_EVICTCNT).trim = (s.homed (s.occupantOf k - 1)).trim :=
    (State.count_trim _ _).trans (writtenBack_trim s k)
  have touched : State.touches [.regs, .mem, .trim, .dmc] [Blk.dmc, Blk.trm] s
      ((s.writtenBack k).count Port.TRM_EVICTCNT) :=
    ((writtenBack_touches s k).seq (set_touches (b := Blk.trm) _ _ (by decide))).mono (by decide) (by decide)
  have up' : ((s.writtenBack k).count Port.TRM_EVICTCNT).dramUp = true := by
    rw [dramUp_count _ (by decide), writtenBack_dramUp, up]
  have new' : Cells.rd (fun _ => 0) ((s.writtenBack k).count Port.TRM_EVICTCNT).trim.fetched c = 0 := by
    rw [trim, State.homed, Cells.rd_wr_other _ _ _ (by omega)]
    exact new
  have fetches : ((s.writtenBack k).count Port.TRM_EVICTCNT).get Port.TRM_FETCHCNT = s.get Port.TRM_FETCHCNT := by
    rw [State.get_count_other _ (by decide), (writtenBack_touches s k).2 _ (by decide)]
  have evicts : ((s.writtenBack k).count Port.TRM_EVICTCNT).get Port.TRM_EVICTCNT =
      satInc (s.get Port.TRM_EVICTCNT) := by
    rw [State.get_count_same, (writtenBack_touches s k).2 _ (by decide)]
  have homes : ∀ i < 63, ((s.writtenBack k).count Port.TRM_EVICTCNT).homeRd (s.occupantOf k - 1) i =
      s.sramRd (s.slotWord k i) := fun i hi => writtenBack_homeRd s k hi
  have place : ((s.writtenBack k).count Port.TRM_EVICTCNT).occupantOf k = s.occupantOf k := by
    simp only [State.occupantOf, trim, State.homed]
  have waits' : ((s.writtenBack k).count Port.TRM_EVICTCNT).trim.belayWait = s.trim.belayWait := by
    rw [trim]
    rfl
  generalize (s.writtenBack k).count Port.TRM_EVICTCNT = u at *
  obtain ⟨seats, -, -, -, -, waits⟩ := swapInto_fresh_spec k up' new'
  have link : (u.swapInto c k).link = s.link := Eq.trans (seats.1 .link (by decide)) (touched.1 .link (by decide))
  refine ⟨u, touched, up', new', place, fetches, evicts, homes, ?_⟩
  rw [swapRecord_alone insert (by rw [swapped]; exact link) (by rw [swapped, waits, waits']; exact belay), swapped]

end swap

/-- Settles O12, by the effect of an entry (`enterHorizon_enters`), of a swap (`swapRecord_clean`, `swapRecord_dirty`,
`swapRecord_waits`) and of each context command. -/
theorem contextsAreFetchedPinnedAndLookedUp : Obligations.ContextsAreFetchedPinnedAndLookedUp := by
  unfold Obligations.ContextsAreFetchedPinnedAndLookedUp
  intro s
  refine ⟨?enterNext, ?enterAfter, ?enterNot, ?clean, ?dirty, ?stuck,
    fun m a busy => completes_portCmd rfl a (ctxCmd_pending busy 1),
    fun m a busy => completes_portCmd rfl a (ctxCmd_pending busy 2),
    fun m a busy => completes_portCmd rfl a (ctxCmd_pending busy 3), ?lookupHome, ?lookupAway, ?lookupUnknown, ?belaySets,
    ?belayFull, ?belayWaits, ?belayFrozen, ?unbelay, ?unbelayNone⟩
  case enterNext =>
    intro ctx first idle
    obtain ⟨e, entry⟩ := dueEntries_cal (List.mem_of_mem_head? first)
    obtain ⟨touched, ⟨e', placed, inside, number, -⟩, count, asked⟩ := enterHorizon_enters entry
    refine ⟨s.enterHorizon ctx.toNat, congrArg _ (horizonEntry_first first), touched, ?_, count, asked⟩
    simp [placed, inside, number, State.enteredEntry, idle]
  case enterAfter =>
    intro ctx first busy
    obtain ⟨e, entry⟩ := dueEntries_cal (List.mem_of_mem_head? first)
    obtain ⟨touched, ⟨e', placed, -, -, follows⟩, count, -⟩ := enterHorizon_enters entry
    refine ⟨s.enterHorizon ctx.toNat, congrArg _ (horizonEntry_first first), touched, ?_, count⟩
    simp only [State.enteredEntry, busy, if_true, Option.map_some] at follows
    obtain ⟨f, after, entered⟩ := Option.map_eq_some_iff.mp follows
    simp [placed, after, entered]
  case enterNot => exact fun ctx out => ⟨s, congrArg _ (if_neg out), rfl⟩
  case clean =>
    intro ctx r k turn found up new free insert belay
    obtain ⟨touched, home, slot, zero, swaps, -⟩ := swapInto_fresh_spec (c := ctx.toNat) k up new
    have count := swapInto_fresh_get (c := ctx.toNat) k up new
    refine ⟨s.swapInto ctx.toNat k, congrArg _ (swapRecord_clean turn found up new insert belay free),
      touched.mono (by decide) (by decide), home, slot, zero, (count _).trans (s.get_count_same _),
      (count _).trans (s.get_count_other (by decide)), ?_⟩
    rw [swaps, turn, List.tail_cons]
  case dirty =>
    intro ctx r k turn found up new occupied other dirty insert belay
    obtain ⟨u, before, up', new', place, fetches, evicts, homes, swapped⟩ :=
      swapRecord_dirty turn found up new insert belay occupied other dirty
    obtain ⟨touched, home, -, -, -, -⟩ := swapInto_fresh_spec (c := ctx.toNat) k up' new'
    have count := swapInto_fresh_get (c := ctx.toNat) k up' new'
    refine ⟨u.swapInto ctx.toNat k, congrArg _ swapped, (before.seq touched).mono (by decide) (by decide), home, ?_, ?_, ?_,
      ?_⟩
    · rw [← place, swapInto_fresh k up' new']
      exact seated_leaves u _ (by rwa [place]) (by rwa [place])
    · rw [State.counts, count, State.get_count_other _ (by decide), evicts]
    · rw [State.counts, count, State.get_count_same, fetches]
    · rw [List.all_eq_true]
      intro i hi
      rw [swapInto_fresh k up' new', seated_homeRd, homes i (List.mem_range.mp hi), beq_self_eq_true]
  case stuck => exact fun ctx stuck insert away => ⟨s, congrArg _ (swapRecord_waits stuck insert away), rfl⟩
  case lookupHome =>
    intro m a free known home
    obtain ⟨touched, result, raised⟩ := ctxResult_answers (.refl _ _ s) (s.getF Port.TRM_CTX_ARG 13 0) (r := 0) (by decide)
    refine completes_portCmd rfl a ?_
    rw [ctxCmd_lookup rfl free known, if_pos home]
    exact ⟨touched, result, slot_ctxResult s _, raised⟩
  case lookupAway =>
    intro m a free known away
    refine completes_portCmd rfl a ?_
    rw [ctxCmd_lookup rfl free known, if_neg (by simp [away])]
    exact ctxResult_answers (.refl _ _ s) _ (by decide)
  case lookupUnknown =>
    intro m a free unknown
    refine completes_portCmd rfl a ?_
    rw [ctxCmd_unknown rfl free unknown]
    exact ctxResult_answers (.refl _ _ s) _ (by decide)
  case belaySets =>
    intro m a free known home room
    obtain ⟨u, changed, ends, flag⟩ := belayNow_sets home room
    obtain ⟨touched, result, raised⟩ := ctxResult_answers changed (s.getF Port.TRM_CTX_ARG 13 0) (r := 0) (by decide)
    refine completes_portCmd rfl a ?_
    rw [ctxCmd_belay_resident rfl free known home, ends]
    exact ⟨touched, result, (ctxF_ctxResult u _ 0 _ 63 11 11).trans flag, raised⟩
  case belayFull =>
    intro m a free known home flag full
    obtain ⟨touched, result, raised⟩ := ctxResult_answers (.refl _ _ s) (s.getF Port.TRM_CTX_ARG 13 0) (r := 2) (by decide)
    refine completes_portCmd rfl a ?_
    rw [ctxCmd_belay_resident rfl free known home, belayNow_full flag full]
    exact ⟨touched, result, mem_ctxResult s _ 2, raised⟩
  case belayWaits =>
    intro m a free known away up room
    refine completes_portCmd rfl a ?_
    rw [ctxCmd_belay_waits rfl free known away up room]
    exact belay_waits away rfl
  case belayFrozen =>
    intro m a free known away down
    obtain ⟨touched, result, raised⟩ := ctxResult_answers (.refl _ _ s) (s.getF Port.TRM_CTX_ARG 13 0) (r := 3) (by decide)
    refine completes_portCmd rfl a ?_
    rw [ctxCmd_belay_frozen rfl free known away down]
    exact ⟨touched, result, mem_ctxResult s _ 3, raised⟩
  case unbelay =>
    intro m a free known home flag
    obtain ⟨touched, result, raised⟩ := ctxResult_answers ((setCtxF_touches s (s.getF Port.TRM_CTX_ARG 13 0) 63 11 11
      0).mono (by decide) (by decide)) (s.getF Port.TRM_CTX_ARG 13 0) (r := 0) (by decide)
    refine completes_portCmd rfl a ?_
    rw [ctxCmd_unbelay rfl free known home flag]
    exact ⟨touched, result, (ctxF_ctxResult _ _ 0 _ 63 11 11).trans (belay_setCtxF home 0), raised⟩
  case unbelayNone =>
    intro m a free known no
    obtain ⟨touched, result, raised⟩ := ctxResult_answers (.refl _ _ s) (s.getF Port.TRM_CTX_ARG 13 0) (r := 4) (by decide)
    refine completes_portCmd rfl a ?_
    rw [ctxCmd_unbelay_none rfl free known no]
    exact ⟨touched, result, mem_ctxResult s _ 4, raised⟩

/-! ## A commit toward a queue that the Basin does not have (O13)

`Staged.queue` is any number, and nothing bounds it in the hypotheses of O13.  Where a manual lane's packet toward queue 736
is committed, the watermark event of that queue (R218) falls on port 0x3806, which would be its STAT and is LTB_RTCLT_0: a
register of the link timebase (`queueStat_past_queues`). -/

/-- A packet of a manual lane, closed for delivery toward queue 736. -/
def strayStaged : Staged :=
  { pkt := { cells := [], len := 0, epoch := 0 }, queue := 736, ctx := none, epoch := 0, ordered := false, wanted := true,
    hold := false, closed := 0 }

/-- Lane 0 holds the stray packet, and bit 16 stands at the port that would be its queue's STAT. -/
def strayCommit : State :=
  ({ State.reset with regs := [(Port.LTB_RTCLT 0, inFld 16 16 1)] } : State).setLane 0
    { Lane.idle with stage := [strayStaged] }

/-- The commit of the stray packet changes LTB_RTCLT_0. -/
theorem strayCommit_commitMirror_rtclt :
    (strayCommit.commitMirror 0).get (Port.LTB_RTCLT 0) ≠ strayCommit.get (Port.LTB_RTCLT 0) := by
  decide +kernel

/-- Refutes O13: clause (2) has the commit of a manual lane's packet change no register of the link timebase; from
`strayCommit` the packet toward queue 736 changes LTB_RTCLT_0. -/
theorem not_theOrderKeeperCommitsHoldsAndExpires : ¬ Obligations.TheOrderKeeperCommitsHoldsAndExpires := by
  unfold Obligations.TheOrderKeeperCommitsHoldsAndExpires
  intro h
  obtain ⟨-, manual, -⟩ := h strayCommit
  obtain ⟨t, ran, touched, -⟩ := manual 0 strayStaged [] (by decide +kernel) rfl rfl rfl
  have committed : strayCommit.commitMirror 0 = t := Host.Outcome.next.inj ran
  subst committed
  exact strayCommit_commitMirror_rtclt (touched.2 (Port.LTB_RTCLT 0) (by decide))

/-! ## Cells of a map in canonical form -/

theorem del_absent {α : Type} [DecidableEq α] {d : Nat → α} (m : Cells α) {k b : Nat} (h : k < b)
    (wf : Cells.wfFrom d b m = true) : Cells.del m k = m := by
  induction m generalizing b with
  | nil => rfl
  | cons x r ih =>
    obtain ⟨j, v⟩ := x
    simp only [Cells.wfFrom, Bool.and_eq_true, decide_eq_true_eq] at wf
    obtain ⟨⟨above, -⟩, rest⟩ := wf
    rw [Cells.del, if_neg (by omega), ih (by omega) rest]

/-- An entry that is removed is counted no more. -/
theorem count_del {α : Type} [DecidableEq α] {d : Nat → α} {p : α → Bool} (m : Cells α) {k b : Nat}
    (wf : Cells.wfFrom d b m = true) (listed : Cells.rd d m k ≠ d k) (counted : p (Cells.rd d m k) = true) :
    Cells.count p (Cells.del m k) + 1 = Cells.count p m := by
  induction m generalizing b with
  | nil => exact absurd rfl listed
  | cons x r ih =>
    obtain ⟨j, v⟩ := x
    simp only [Cells.wfFrom, Bool.and_eq_true, decide_eq_true_eq] at wf
    obtain ⟨-, rest⟩ := wf
    by_cases here : j = k
    · subst here
      rw [Cells.rd, if_pos rfl] at counted
      rw [Cells.del, if_pos rfl, del_absent r (Nat.lt_succ_self j) rest, Cells.count, counted]
      exact Nat.add_comm _ _
    · rw [Cells.rd, if_neg here] at listed counted
      rw [Cells.del, if_neg here, Cells.count, Cells.count, ← ih rest listed counted]
      omega

theorem length_rds {α : Type} (d : Nat → α) (m : Cells α) (n k : Nat) : (Cells.rds d m k n).length = n := by
  induction n generalizing k with
  | zero => rfl
  | succ n ih => rw [Cells.rds, List.length_cons, ih]

theorem getElem?_rds {α : Type} (d : Nat → α) (m : Cells α) {n i : Nat} (h : i < n) (k : Nat) :
    (Cells.rds d m k n)[i]? = some (Cells.rd d m (k + i)) := by
  induction n generalizing k i with
  | zero => omega
  | succ n ih =>
    cases i with
    | zero => rfl
    | succ i =>
      rw [Cells.rds, List.getElem?_cons_succ, ih (by omega)]
      congr 2
      omega

theorem bestBy_mem {less : Nat → Nat → Bool} {l : List Nat} {a : Nat} (h : bestBy less l = some a) : a ∈ l := by
  induction l generalizing a with
  | nil => simp [bestBy] at h
  | cons x r ih =>
    rw [bestBy] at h
    cases best : bestBy less r with
    | none =>
      rw [best] at h
      exact List.mem_cons.mpr (.inl (Option.some.inj h).symm)
    | some b =>
      rw [best] at h
      dsimp only at h
      split at h
      · exact Option.some.inj h ▸ List.mem_cons_of_mem x (ih best)
      · exact List.mem_cons.mpr (.inl (Option.some.inj h).symm)

/-- A command leads to a state that is described otherwise. -/
theorem completes_eq {i : Instr} {s t u : State} {P : State → Prop} (run : exec i s = .next u) (eq : u = t) (h : P t) :
    Completes i s P := ⟨t, run.trans (congrArg _ eq), h⟩

/-! ## A spill (R197, R204) -/

/-- Parts and blocks that a move of a cell between SRAM and DRAM touches. -/
abbrev moveParts : List Part := [.regs, .mem, .pends, .basin, .dmc, .evf]
abbrev moveBlocks : List (Nat × Nat) := [Blk.evf, Blk.dmc, Blk.bsn]

theorem spillQueue_lt {s : State} {q : Nat} (h : s.spillQueue = some q) : q < 128 :=
  List.mem_range.mp (List.mem_filter.mp (bestBy_mem h)).1

/-- A cell of a queue moves to a spill cell: its words to the spill cell's block, its SRAM cell to the pool. -/
def State.moveOut (s : State) (q c d : Nat) (epoch : BitVec 6) : State :=
  ((((s.dramWake 3).dramWr (spillBase + d) (s.spillWords q c) 2 epoch).nextFree.chargeD d 1).charge c 0).setQueue q
    ((s.queue q).map (Pkt.subst [(.sram c, .dram d)]))

theorem moveOut_touches (s : State) (q c d : Nat) (epoch : BitVec 6) :
    State.touches [.regs, .mem, .basin, .dmc] [Blk.dmc] s (s.moveOut q c d epoch) :=
  ((((dramWake_touches s 3).seq (dramWr_touches _ _ _ _ _)).seq (free_touches _ _)).seq
    (((basin_touches _ _).trans (basin_touches _ _)).trans (basin_touches _ _))).mono (by decide) (by decide)

theorem cellAddr_add (s : State) (c i : Nat) : s.cellAddr c i = s.cellAddr c 0 + i := by
  simp only [State.cellAddr, State.roleWord]
  omega

theorem State.touches.cellAddr {ps : List Part} {bs : List (Nat × Nat)} {s t : State} (h : State.touches ps bs s t)
    (away : ∀ b ∈ bs, b.2 < 0x1400 ∨ 0x14FF < b.1) (c i : Nat) : t.cellAddr c i = s.cellAddr c i :=
  h.roleWord away .bsn _

/-- The block of a spill cell reads the words of the cell that moved there (R204). -/
theorem moveOut_words (s : State) (q c d : Nat) (epoch : BitVec 6) {i : Nat} (hi : i < 8) :
    (s.moveOut q c d epoch).dramWord (spillBase + d) i = s.sramRd (s.cellAddr c i) := by
  have block : (s.moveOut q c d epoch).mem.dram =
      Cells.wrs (fun _ => 0) (s.dramWake 3).mem.dram ((spillBase + d) * 12) (s.spillWords q c) := rfl
  have word : (s.spillWords q c)[i]? = some (s.sramRd (s.cellAddr c i)) := by
    have front : (s.sramRds (s.cellAddr c 0) 8)[i]? = some (s.sramRd (s.cellAddr c i)) := by
      rw [cellAddr_add s c i]
      exact getElem?_rds _ _ hi _
    unfold State.spillWords
    extract_lets o first ep
    rw [List.getElem?_append_left (by simp [State.sramRds, length_rds]; omega),
      List.getElem?_append_left (by simpa [State.sramRds, length_rds] using hi), front]
  have long : i < (s.spillWords q c).length := (List.getElem?_eq_some_iff.mp word).1
  rw [State.dramWord, block, Cells.rd_wrs, if_pos (by omega), Nat.add_sub_cancel_left, List.getD_eq_getElem?_getD, word]
  rfl

theorem moveOut_basin (s : State) (q c d : Nat) (epoch : BitVec 6) :
    (s.moveOut q c d epoch).basin.used = Cells.wr (fun _ => 0) s.basin.used c 0 ∧
      (s.moveOut q c d epoch).basin.dused = Cells.wr (fun _ => 0) s.basin.dused d 1 := by
  have woken : (s.dramWake 3).basin = s.basin := (dramWake_touches s 3).1 .basin (by decide)
  simp only [State.moveOut, State.setQueue, State.charge, State.chargeD, State.nextFree, State.dramWr, woken, and_self]

/-- The SRAM cell that moved out is charged to its queue no more (R210). -/
theorem moveOut_occupancy {s : State} {q c : Nat} (d : Nat) (epoch : BitVec 6)
    (wf : Cells.wf (fun _ => 0) s.basin.used = true) (own : Cells.rd (fun _ => 0) s.basin.used c = q + 2) :
    (s.moveOut q c d epoch).occupancy q + 1 = s.occupancy q := by
  rw [State.occupancy, (moveOut_basin s q c d epoch).1, Cells.wr, if_pos rfl]
  exact count_del s.basin.used wf (by rw [own]; omega) (by rw [own]; exact decide_eq_true rfl)

theorem linkSpill_touches (s : State) (d0 d : Nat) : State.touches [.mem] [] s (s.linkSpill d0 d) := mem_touches s _

/-- A cell of a queue spills: it moves out once the block before it names its spill cell, and the queue's marks are checked
(R197, R204, R218). -/
theorem spillCell_moves {s : State} {c d q : Nat} (gap : Cells.firstGap 0 s.basin.dused = d) (room : d < s.spillCells) :
    ∃ u epoch old, State.touches [.mem] [] s u ∧ u.mem.sram = s.mem.sram ∧
      s.spillCell q c = (u.moveOut q c d epoch).checkMarks q old := by
  subst gap
  have linked : ∀ o : Option Nat, ∃ u, (match o with
      | some d0 => s.linkSpill d0 (Cells.firstGap 0 s.basin.dused)
      | none => s) = u ∧ State.touches [.mem] [] s u ∧ u.mem.sram = s.mem.sram := fun o => by
    cases o with
    | none => exact ⟨s, rfl, .refl _ _ s, rfl⟩
    | some d0 => exact ⟨_, rfl, linkSpill_touches s _ _, rfl⟩
  obtain ⟨u, link, touched, sram⟩ := linked (s.lastSpilled q c)
  unfold State.spillCell
  extract_lets d ep t
  rw [if_neg (by omega)]
  refine ⟨u, ep, u.occupancy q, touched, sram, ?_⟩
  have same : t = u := link
  rw [same]
  rfl

theorem spillRun_low {s : State} {q low : Nat} (n : Nat) (low' : s.occupancy q ≤ low) : s.spillRun q low n = s := by
  cases n with
  | zero => rfl
  | succ n => exact if_pos low'

/-- A run on a full spill area moves nothing and is counted (R197). -/
theorem spillRun_full {s : State} {q low n : Nat} (above : low < s.occupancy q)
    (full : s.spillCells ≤ s.basin.dused.length) : s.spillRun q low (n + 1) = s.count Port.TRM_SPILLFULL := by
  rw [State.spillRun, if_neg (by omega), if_pos full]

/-- A run from one cell above the low mark moves one cell, the first of the tail (R197). -/
theorem spillRun_one {s : State} {q low c n : Nat} {r : List CellLoc} (above : s.occupancy q = low + 1)
    (room : s.basin.dused.length < s.spillCells) (tail : s.tailCells q = .sram c :: r)
    (moved : (s.spillCell q c).occupancy q ≤ low) : s.spillRun q low (n + 1) = s.spillCell q c := by
  rw [State.spillRun, if_neg (by omega), if_neg (by omega), tail]
  exact spillRun_low n moved

/-- Open packets and heads have caught up after a resume: spills are held back no more (R240). -/
def State.caughtUp (s : State) : State := { s with basin := { s.basin with catchUp := false } }

/-- A burst that nothing holds back runs on the chosen queue, and heads have caught up (R197, R240). -/
theorem spillBurst_runs {s : State} {q h lo : Nat} (on : s.getB Port.BSN_STAT 0 = true) (up : s.dramUp = true)
    (dom : s.domOn 2 = true) (held : s.spillHeld = false) (chosen : s.spillQueue = some q)
    (marks : s.marks q = some (h, lo)) :
    s.spillBurst = s.caughtUp.spillRun q lo 48 := by
  have chosen' : ({ s with basin := { s.basin with catchUp := false } } : State).spillQueue = some q := chosen
  have marks' : ({ s with basin := { s.basin with catchUp := false } } : State).marks q = some (h, lo) := marks
  unfold State.spillBurst
  rw [if_neg (by simp [on, up, dom, held])]
  dsimp only
  rw [chosen']
  dsimp only
  rw [marks']
  rfl

theorem checkMarks_moves {s : State} {q : Nat} (old : Nat) (hq : q < 128) :
    State.touches [.regs, .pends, .evf] [Blk.evf, Blk.bsn] s (s.checkMarks q old) :=
  checkMarks_touches (b := Blk.bsn) s old (by unfold Blk.bsn Port.BSN_Q_STAT; omega)

/-- What a spilled cell leaves behind (R197, R204, R210). -/
theorem spillCell_spec {s : State} {c d q : Nat} (hq : q < 128) (gap : Cells.firstGap 0 s.basin.dused = d)
    (room : d < s.spillCells) (wf : Cells.wf (fun _ => 0) s.basin.used = true)
    (own : Cells.rd (fun _ => 0) s.basin.used c = q + 2) :
    State.touches moveParts moveBlocks s (s.spillCell q c) ∧ Cells.rd (fun _ => 0) (s.spillCell q c).basin.used c = 0 ∧
      Cells.rd (fun _ => 0) (s.spillCell q c).basin.dused d = 1 ∧ (s.spillCell q c).occupancy q + 1 = s.occupancy q ∧
      ∀ i < 8, (s.spillCell q c).dramWord (spillBase + d) i = s.sramRd (s.cellAddr c i) := by
  obtain ⟨u, epoch, old, linked, sram, moved⟩ := spillCell_moves (q := q) (c := c) gap room
  have basin : u.basin = s.basin := linked.1 .basin (by decide)
  have marked := checkMarks_moves (s := u.moveOut q c d epoch) old hq
  have basin' := checkMarks_basin (u.moveOut q c d epoch) q old
  have mem' : ((u.moveOut q c d epoch).checkMarks q old).mem = (u.moveOut q c d epoch).mem := marked.1 .mem (by decide)
  obtain ⟨used, dused⟩ := moveOut_basin u q c d epoch
  rw [moved]
  refine ⟨((linked.seq (moveOut_touches u q c d epoch)).seq marked).mono (by decide) (by decide), ?_, ?_, ?_, ?_⟩
  · rw [basin', used, Cells.rd_wr_same]
  · rw [basin', dused, Cells.rd_wr_same]
  · have before : u.occupancy q = s.occupancy q := congrArg (fun b : Basin => Cells.count _ b.used) basin
    have after : ((u.moveOut q c d epoch).checkMarks q old).occupancy q = (u.moveOut q c d epoch).occupancy q :=
      congrArg (fun b : Basin => Cells.count _ b.used) basin'
    rw [after, ← before]
    exact moveOut_occupancy d epoch (by rw [basin]; exact wf) (by rw [basin]; exact own)
  · intro i hi
    have word := moveOut_words u q c d epoch hi
    rw [linked.cellAddr (by simp), State.sramRd, sram] at word
    rw [State.dramWord, mem']
    exact word

/-! ## A refill (R198) -/

theorem refillQueue_spec {s : State} {q : Nat} (h : s.refillQueue = some q) :
    q < 128 ∧ s.split q = true ∧ s.headLen q < s.refillAt := by
  obtain ⟨range, rest⟩ := List.mem_filter.mp (bestBy_mem h)
  rw [Bool.and_eq_true, decide_eq_true_eq] at rest
  exact ⟨List.mem_range.mp range, rest⟩

/-- A header cell without lost words is fetched as it stands (R208). -/
theorem mendHeader_whole (len : Nat) (ws : List Word) : mendHeader 0 len ws = ws := by
  have each : ∀ x : Nat × Word, (let lost := (0 : Nat).testBit (x.1 / 4)
      if x.1 = 0 then (if 0 % 4 = 0 then x.2 else withBit (if lost then inFld 13 0 len else x.2) 16 true)
      else if lost then 0 else x.2) = x.2 := by
    intro x
    simp
  unfold mendHeader indexed
  rw [List.map_congr_left fun x _ => each x]
  exact List.map_snd_zip (by simp)

/-- A port's read of a block without stored errors, of an owner that may be there (R325). -/
theorem dramRead_clean {s : State} {port b : Nat} (whole : s.dramBad b = 0) (owner : s.ownerWrong port b = false) :
    s.dramRead port b = (s.dramRds b, s.dramWake port) := by
  have mem : (s.dramWake port).mem = s.mem := (dramWake_touches s port).1 .mem (by decide)
  have whole' : (s.dramWake port).dramBad b = 0 := by rw [State.dramBad, mem]; exact whole
  have owner' : (s.dramWake port).ownerWrong port b = false := by rw [State.ownerWrong, mem]; exact owner
  have words : (s.dramWake port).dramRds b = s.dramRds b := by rw [State.dramRds, mem]; rfl
  simp [State.dramRead, whole', owner', words]

/-- A spill cell's words are brought into an SRAM cell, and the spill cell is free (R198). -/
def State.bring (s : State) (c d v : Nat) : State :=
  (((s.dramWake 3).sramWrs (s.cellAddr c 0) ((s.dramRds (spillBase + d)).take 8)).charge c v).chargeD d 0

theorem fetchCell_clean {s : State} {d : Nat} (c v : Nat) (hdr : Option Nat) (whole : s.dramBad (spillBase + d) = 0)
    (owner : s.ownerWrong 3 (spillBase + d) = false) : s.fetchCell c d v hdr = s.bring c d v := by
  unfold State.fetchCell State.bring
  rw [dramRead_clean whole owner, whole]
  cases hdr with
  | none => simp [forNat]
  | some len => simp only [Nat.zero_div, Nat.zero_mod, mendHeader_whole]

theorem bring_touches (s : State) (c d v : Nat) :
    State.touches [.regs, .mem, .basin, .dmc] [Blk.dmc] s (s.bring c d v) :=
  (((dramWake_touches s 3).seq (sramWrs_touches _ _ _)).seq ((basin_touches _ _).trans (basin_touches _ _))).mono
    (by decide) (by decide)

theorem bring_basin (s : State) (c d v : Nat) :
    (s.bring c d v).basin = { s.basin with used := Cells.wr (fun _ => 0) s.basin.used c v,
                                           dused := Cells.wr (fun _ => 0) s.basin.dused d 0 } := by
  have written : ((s.dramWake 3).sramWrs (s.cellAddr c 0) ((s.dramRds (spillBase + d)).take 8)).basin = s.basin :=
    ((dramWake_touches s 3).seq (sramWrs_touches _ _ _)).1 .basin (by decide)
  simp only [State.bring, State.charge, State.chargeD, written]

theorem bring_words (s : State) (c d v : Nat) {i : Nat} (hi : i < 8) :
    (s.bring c d v).sramRd (s.cellAddr c i) = s.dramWord (spillBase + d) i := by
  have word : ((s.dramRds (spillBase + d)).take 8)[i]? = some (s.dramWord (spillBase + d) i) := by
    rw [List.getElem?_take_of_lt hi]
    exact getElem?_rds _ _ (by omega) _
  have long : i < ((s.dramRds (spillBase + d)).take 8).length := (List.getElem?_eq_some_iff.mp word).1
  have mem : (s.bring c d v).mem = ((s.dramWake 3).sramWrs (s.cellAddr c 0) ((s.dramRds (spillBase + d)).take 8)).mem := rfl
  have stored := sramRd_sramWrs ((s.dramRds (spillBase + d)).take 8) (s.cellAddr c 0) (s.cellAddr c i) (s.dramWake 3)
  rw [State.sramRd, ← mem] at stored
  rw [State.sramRd, stored, cellAddr_add s c i, if_pos (by omega), Nat.add_sub_cancel_left, List.getD_eq_getElem?_getD,
    word]
  rfl

/-- The head segment grows when its first DRAM cell comes near (R221). -/
theorem takeWhile_near_grows {l : List CellLoc} {x : CellLoc} {f : CellLoc → CellLoc}
    (first : l.find? (fun l => !l.near) = some x) (brought : (f x).near = true)
    (stays : ∀ y, y.near = true → (f y).near = true) :
    (l.takeWhile CellLoc.near).length + 1 ≤ ((l.map f).takeWhile CellLoc.near).length := by
  induction l with
  | nil => simp at first
  | cons y r ih =>
    by_cases near : y.near = true
    · rw [List.find?_cons_of_neg (by simp [near])] at first
      simpa [near, stays y near] using ih first
    · rw [List.find?_cons_of_pos (by simpa using near)] at first
      obtain rfl := Option.some.inj first
      simp [near, brought]

/-- A queue's packets once its first DRAM cell has come to an SRAM cell. -/
def State.broughtIn (s : State) (q c d : Nat) : State :=
  (s.bring c d (q + 2)).setQueue q ((s.queue q).map (Pkt.subst [(.dram d, .sram c)]))

section refill
variable {s : State} {q d : Nat} (first : (s.queueCells q).find? (fun l => !l.near) = some (.dram d))
include first

theorem refillCell_brings (free : 0 < s.freeCells) (whole : s.dramBad (spillBase + d) = 0)
    (owner : s.ownerWrong 3 (spillBase + d) = false) :
    s.refillCell q = (s.broughtIn q s.nextCell d).checkMarks q (s.occupancy q) := by
  unfold State.refillCell
  rw [first]
  dsimp only
  rw [if_neg (by omega), State.marked, fetchCell_clean _ _ _ whole owner]
  rfl

/-- The head segment has one cell more. -/
theorem broughtIn_headLen (c : Nat) : s.headLen q + 1 ≤ (s.broughtIn q c d).headLen q := by
  have cells : (s.broughtIn q c d).queueCells q = (s.queueCells q).map fun x =>
      (([(CellLoc.dram d, CellLoc.sram c)].find? fun y => decide (y.1 = x)).map (·.2)).getD x := by
    have queue : (s.broughtIn q c d).queue q = (s.queue q).map (Pkt.subst [(.dram d, .sram c)]) :=
      State.queue_setQueue _ q _
    rw [State.queueCells, queue, State.queueCells, List.flatMap_map, List.map_flatMap]
    rfl
  rw [State.headLen, State.headLen, cells]
  refine takeWhile_near_grows first (by simp [CellLoc.near]) fun y near => ?_
  by_cases here : CellLoc.dram d = y
  · subst here
    exact absurd near (by simp [CellLoc.near])
  · simpa [here] using near

end refill

theorem broughtIn_touches (s : State) (q c d : Nat) :
    State.touches [.regs, .mem, .basin, .dmc] [Blk.dmc] s (s.broughtIn q c d) :=
  ((bring_touches s c d (q + 2)).seq (basin_touches _ _)).mono (by decide) (by decide)

theorem broughtIn_basin (s : State) (q c d : Nat) :
    (s.broughtIn q c d).basin.used = Cells.wr (fun _ => 0) s.basin.used c (q + 2) ∧
      (s.broughtIn q c d).basin.dused = Cells.wr (fun _ => 0) s.basin.dused d 0 := by
  simp only [State.broughtIn, State.setQueue, bring_basin, and_self]

theorem headCells_of_same {s t : State} (h : t.get Port.TRM_SPILL = s.get Port.TRM_SPILL) : t.headCells = s.headCells :=
  congrArg (fun w => max 8 (fld w 17 9)) h

/-- A refill burst of a queue whose head lacks one cell brings one cell in (R198). -/
theorem refillBurst_one {s : State} {q d : Nat} (up : s.dramUp = true) (dom : s.domOn 2 = true)
    (opened : s.openWaits = false) (chosen : s.refillQueue = some q) (short : s.headLen q + 1 = s.headCells)
    (free : 0 < s.freeCells) (first : (s.queueCells q).find? (fun l => !l.near) = some (.dram d))
    (whole : s.dramBad (spillBase + d) = 0) (owner : s.ownerWrong 3 (spillBase + d) = false) :
    s.refillBurst = (s.broughtIn q s.nextCell d).checkMarks q (s.occupancy q) := by
  obtain ⟨hq, split, -⟩ := refillQueue_spec chosen
  have brought := refillCell_brings first free whole owner
  have marked := checkMarks_moves (s := s.broughtIn q s.nextCell d) (s.occupancy q) hq
  have head : ((s.broughtIn q s.nextCell d).checkMarks q (s.occupancy q)).headLen q =
      (s.broughtIn q s.nextCell d).headLen q := by
    rw [State.headLen, State.headLen, State.queueCells, State.queueCells,
      queue_of_queues (congrArg Basin.queues (checkMarks_basin _ q _)) q]
  have limit : ((s.broughtIn q s.nextCell d).checkMarks q (s.occupancy q)).headCells = s.headCells :=
    headCells_of_same ((marked.2 _ (by decide)).trans ((broughtIn_touches s q s.nextCell d).2 _ (by decide)))
  have grown := broughtIn_headLen first s.nextCell
  have ends : ∀ n, ((s.broughtIn q s.nextCell d).checkMarks q (s.occupancy q)).refillRun q n =
      (s.broughtIn q s.nextCell d).checkMarks q (s.occupancy q) := by
    intro n
    cases n with
    | zero => rfl
    | succ n =>
      have done : ¬((s.broughtIn q s.nextCell d).checkMarks q (s.occupancy q)).headLen q <
          ((s.broughtIn q s.nextCell d).checkMarks q (s.occupancy q)).headCells := by omega
      exact if_neg (by simp [done])
  obtain ⟨n, some_⟩ : ∃ n, s.headCells = n + 1 := ⟨s.headLen q, short.symm⟩
  have lacks : s.headLen q < s.headCells := by omega
  unfold State.refillBurst
  rw [if_neg (by simp [up, dom, opened]), chosen]
  dsimp only
  rw [some_, State.refillRun, if_pos (by simp [up, split, lacks, free]), brought]
  exact ends n

/-! ## Placement (R200) -/

theorem placeDone_touches (s : State) (result device : Nat) :
    State.touches [.regs, .pends, .trim, .evf] [Blk.evf, Blk.trm] s (s.placeDone result device) :=
  (((trim_touches s _).seq (set_touches (b := Blk.trm) _ _ (by decide))).seq (raise_touches _ _)).mono (by decide)
    (by decide)

theorem placeDone_trim (s : State) (result device : Nat) :
    (s.placeDone result device).trim = { s.trim with place := none } :=
  (raise_touches _ _).1 .trim (by decide)

theorem get_placeDone (s : State) (result device : Nat) : (s.placeDone result device).get Port.TRM_PLACE_STAT =
    inFld 16 16 (s.getF Port.TRM_PLACE_STAT 16 16) ||| inFld 14 12 result ||| inFld 2 0 device :=
  (raise_get _ _ _ (by decide)).trans (State.get_set_same _ _ _)

theorem bitOf_or (v w : Word) (b : Nat) : bitOf (v ||| w) b = (bitOf v b || bitOf w b) := BitVec.getLsbD_or

theorem bitOf_inFld_apart (hi lo v b : Nat) (h : hi < 18) (d : b < lo ∨ hi < b) : bitOf (inFld hi lo v) b = false :=
  (bitOf_withFld_apart 0 hi lo v b h d).trans (by simp [bitOf])

/-- A request that ends shows its result and device, and is raised. -/
theorem placeDone_answers {s u : State} (h : State.touches [.trim] [] s u) (result device : Nat) (small : result < 8) :
    State.touches [.regs, .pends, .trim, .evf] [Blk.evf, Blk.trm] s (u.placeDone result device) ∧
      (u.placeDone result device).getF Port.TRM_PLACE_STAT 14 12 = result ∧
      (u.placeDone result device).getF Port.TRM_PLACE_STAT 2 0 = device % 8 ∧
      (u.placeDone result device).getB Port.TRM_PLACE_STAT 17 = false ∧ (u.placeDone result device).trim.place = none ∧
      s.raises Irq.TRM_PLACE_DONE (u.placeDone result device) := by
  refine ⟨(h.seq (placeDone_touches u result device)).mono (by decide) (by decide), ?_, ?_, ?_,
    congrArg Trim.place (placeDone_trim u result device),
    (h.seq ((trim_touches u _).seq (set_touches (b := Blk.trm) _ _ (by decide)))).raises (by decide) (by decide)⟩
  · rw [State.getF, get_placeDone]
    simp [fld_or, fld_inFld_same, fld_inFld_apart, Nat.mod_eq_of_lt small]
  · rw [State.getF, get_placeDone]
    simp [fld_or, fld_inFld_same, fld_inFld_apart]
  · rw [State.getB, get_placeDone]
    simp [bitOf_or, bitOf_inFld_apart]

theorem addPlaced_touches (s : State) (n d : Nat) : State.touches [.trim] [] s (({ s with free := n } : State).addPlaced d) :=
  ((free_touches s n).seq (trim_touches _ _)).mono (by decide) (by decide)

theorem addPlaced_counts (s : State) (d : Nat) :
    Cells.rd (fun _ => 0) (s.addPlaced d).trim.placeAdd d = Cells.rd (fun _ => 0) s.trim.placeAdd d + 1 := by
  rw [State.addPlaced, Cells.rd_wr_same]

section request
variable {s : State} {result device : Nat} (out : s.trim.place.isSome = true)
include out

/-- A lone device and a masthead answer their own request. -/
theorem placeAnswer_own (own : s.stackRole = 0 ∨ 2 ≤ s.utvRole) : s.placeAnswer result device =
    match s.choose s.utvPos with
    | none => ({ s with free := s.free + 8 } : State).placeDone 1 0
    | some d => (({ s with free := s.free + 8 } : State).addPlaced d).placeDone 0 d := by
  have waits : s.trim.place.isNone = false := by rw [← Option.not_isSome, out]; rfl
  unfold State.placeAnswer
  rw [waits]
  exact if_pos own

theorem placeAnswer_chosen {d : Nat} (own : s.stackRole = 0 ∨ 2 ≤ s.utvRole) (chosen : s.choose s.utvPos = some d) :
    s.placeAnswer result device = (({ s with free := s.free + 8 } : State).addPlaced d).placeDone 0 d := by
  rw [placeAnswer_own out own, chosen]

theorem placeAnswer_none (own : s.stackRole = 0 ∨ 2 ≤ s.utvRole) (chosen : s.choose s.utvPos = none) :
    s.placeAnswer result device = ({ s with free := s.free + 8 } : State).placeDone 1 0 := by
  rw [placeAnswer_own out own, chosen]

/-- A member takes the masthead's answer. -/
theorem placeAnswer_member (stack : s.stackRole ≠ 0) (member : s.utvRole < 2) (known : result ≤ 1) :
    s.placeAnswer result device = s.placeDone result (if result = 0 then device else 0) := by
  have waits : s.trim.place.isNone = false := by rw [← Option.not_isSome, out]; rfl
  have other : ¬(s.stackRole = 0 ∨ 2 ≤ s.utvRole) := by omega
  unfold State.placeAnswer
  rw [waits]
  exact (if_neg other).trans (if_pos known)

end request

theorem exec_placeAnswer (s : State) (result device : BitVec 3) :
    exec (.placeAnswer result device) s = .next (s.placeAnswer result.toNat device.toNat) := rfl

theorem exec_placeTimeout (s : State) : exec .placeTimeout s = .next s.placeExpire := rfl

theorem placeExpire_late {s : State} {since : BitVec 54} (out : s.trim.place = some since)
    (late : timeLe (since + 80000) s.time.link = true) : s.placeExpire = s.placeDone 2 0 := by
  rw [State.placeExpire, out]
  exact if_pos late

theorem placeExpire_early {s : State} {since : BitVec 54} (out : s.trim.place = some since)
    (early : timeLe (since + 80000) s.time.link = false) : s.placeExpire = s := by
  rw [State.placeExpire, out]
  exact if_neg (Bool.eq_false_iff.mp early)

theorem choose_alone {s : State} (lone : s.stackRole = 0) (ok : s.selfOk = true) : s.choose s.utvPos = some s.utvPos := by
  simp [State.choose, State.placeable, lone, ok]

theorem choose_none {s : State} (lone : s.stackRole = 0) (bad : s.selfOk = false) : s.choose s.utvPos = none := by
  simp [State.choose, State.placeable, lone, bad, lowScore]

theorem utvPos_lt (s : State) : s.utvPos < 8 := fld_lt _ 14 12

/-- Settles O14, by the effect of a burst (`spillBurst_runs`, `refillBurst_one`) and of an answer (`placeDone_answers`). -/
theorem spillRefillAndPlacement : Obligations.SpillRefillAndPlacement := by
  unfold Obligations.SpillRefillAndPlacement
  intro s
  refine ⟨?spill, ?spillFull, fun held => ⟨s, congrArg _ (if_pos (by simp [held])), rfl⟩, ?refill,
    fun opened => ⟨s, congrArg _ (if_pos (by simp [opened])), rfl⟩, ?again, ?request, ?lone, ?loneNone, ?member,
    ?memberNone, ?masthead, ?timeout, ?early⟩
  case spill =>
    intro q h lo c d r on up dom held chosen marks above wf own tail room gap fits
    have hq := spillQueue_lt chosen
    obtain ⟨touched, freed, taken, fewer, words⟩ :=
      spillCell_spec (s := s.caughtUp) hq gap fits wf own
    have one := spillRun_one (s := s.caughtUp) (n := 47) above room tail
      (Nat.le_of_eq (Nat.succ.inj (fewer.trans above)))
    refine completes_eq rfl ((spillBurst_runs on up dom held chosen marks).trans one)
      ⟨((basin_touches s _).seq touched).mono (by decide) (by decide), freed, taken, ?_⟩
    rw [List.all_eq_true]
    intro i hi
    rw [words i (List.mem_range.mp hi)]
    exact beq_self_eq_true _
  case spillFull =>
    intro q h lo on up dom held chosen marks above full
    have counted := spillRun_full (s := s.caughtUp) (n := 47) above full
    exact completes_eq rfl ((spillBurst_runs on up dom held chosen marks).trans counted)
      ⟨((basin_touches s _).seq (set_touches (b := Blk.trm) _ _ (by decide))).mono (by decide) (by decide),
      State.get_count_same _ _, rfl, rfl⟩
  case refill =>
    intro q d up dom opened chosen short free first whole owner
    obtain ⟨hq, -, -⟩ := refillQueue_spec chosen
    have marked := checkMarks_moves (s := s.broughtIn q s.nextCell d) (s.occupancy q) hq
    have basin := checkMarks_basin (s.broughtIn q s.nextCell d) q (s.occupancy q)
    obtain ⟨used, dused⟩ := broughtIn_basin s q s.nextCell d
    have mem : ((s.broughtIn q s.nextCell d).checkMarks q (s.occupancy q)).mem = (s.bring s.nextCell d (q + 2)).mem :=
      marked.1 .mem (by decide)
    refine completes_eq rfl (refillBurst_one up dom opened chosen short free first whole owner)
      ⟨((broughtIn_touches s q s.nextCell d).seq marked).mono (by decide) (by decide), ?_, ?_, ?_⟩
    · rw [List.all_eq_true]
      intro i hi
      have word := bring_words s s.nextCell d (q + 2) (List.mem_range.mp hi)
      rw [State.sramRd] at word
      rw [State.sramRd, mem, word]
      exact beq_self_eq_true _
    · rw [basin, used]
      exact Cells.rd_wr_same _ _ _ _
    · rw [basin, dused]
      exact Cells.rd_wr_same _ _ _ _
  case again =>
    intro m a busy
    refine completes_portCmd rfl a ?_
    rw [State.placeCmd, if_neg (by decide), if_pos busy]
  case request =>
    intro m a idle
    refine completes_portCmd rfl a ?_
    rw [State.placeCmd, if_neg (by decide), if_neg (by simp [idle])]
    exact ⟨((trim_touches s _).seq (set_touches (b := Blk.trm) _ _ (by decide))).mono (by decide) (by decide),
      State.getB_setB_same _ _ 17 true (by decide), rfl⟩
  case lone =>
    intro result device out lone ok
    have answered := placeDone_answers (addPlaced_touches s (s.free + 8) s.utvPos) 0 s.utvPos (by decide)
    rw [Nat.mod_eq_of_lt (utvPos_lt s)] at answered
    exact completes_eq (exec_placeAnswer s _ _) (placeAnswer_chosen out (.inl lone) (choose_alone lone ok)) answered
  case loneNone =>
    intro result device out lone bad
    have answered := placeDone_answers ((free_touches s (s.free + 8)).mono (by decide) (by decide)) 1 0 (by decide)
    exact completes_eq (exec_placeAnswer s _ _) (placeAnswer_none out (.inl lone) (choose_none lone bad)) answered
  case member =>
    intro result device out stack member answer
    subst answer
    have answered := placeDone_answers (.refl _ _ s) 0 device.toNat (by decide)
    rw [Nat.mod_eq_of_lt device.isLt] at answered
    have taken : s.placeAnswer 0 device.toNat = s.placeDone 0 device.toNat :=
      placeAnswer_member out stack member (Nat.zero_le 1)
    exact completes_eq (exec_placeAnswer s 0 device) taken answered
  case memberNone =>
    intro result device out stack member answer
    subst answer
    have answered := placeDone_answers (.refl _ _ s) 1 0 (by decide)
    have taken : s.placeAnswer 1 device.toNat = s.placeDone 1 0 :=
      placeAnswer_member out stack member (Nat.le_refl 1)
    exact completes_eq (exec_placeAnswer s 1 device) taken answered
  case masthead =>
    intro result device d out role chosen
    obtain ⟨touched, code, shown, -, ended, raised⟩ :=
      placeDone_answers (addPlaced_touches s (s.free + 8) d) 0 d (by decide)
    refine completes_eq (exec_placeAnswer s _ _) (placeAnswer_chosen out (.inr role) chosen)
      ⟨touched, code, shown, ended, ?_, raised⟩
    exact (congrArg (fun r : Trim => Cells.rd (fun _ => 0) r.placeAdd d) (placeDone_trim _ 0 d)).trans
      (addPlaced_counts _ d)
  case timeout =>
    intro since out late
    obtain ⟨touched, code, -, idle, ended, raised⟩ := placeDone_answers (.refl _ _ s) 2 0 (by decide)
    exact completes_eq (exec_placeTimeout s) (placeExpire_late out late) ⟨touched, code, idle, ended, raised⟩
  case early =>
    intro since out early
    exact completes_eq (exec_placeTimeout s) (placeExpire_early out early) rfl

end Sys2Proof.Machine

/-! The statements of 09_basin_queues.md: a master writes a packet (O15) and reads one (O16), and the Basin's own work on its
pool, with a DRAM freeze and its RESUME (O17). -/

namespace Sys2Proof.Machine

open Sys2Proof

/-! ## A write packet toward a queue that the Basin does not have (O15)

The queue that `BsnCopy.wpkt` names is any number, and nothing bounds it in the hypotheses of O15; the Basin has queues 0
to 127.  Where the host aborts a write packet toward queue 224, the watermark event of that queue (R218) falls on port
0x2806, which would be its STAT and is TRM_BELAYED: a register of trim's block. -/

/-- A Rig is accepted, every domain is released, the host has a write packet without cells open toward queue 224, and bit 16
stands at the port that would be that queue's STAT. -/
def strayWrite : State :=
  ({ State.reset with
    regs := [(Port.PWR_DOM_STAT, 0o777777), (Port.RIG_STAT, 1), (Port.TRM_BELAYED, inFld 16 16 1)] } : State).setCopy
      Master.host.num { BsnCopy.idle with wpkt := some (224, { cells := [], len := 0, epoch := 0 }) }

theorem queueStat_belayed : Port.BSN_Q_STAT 224 = Port.TRM_BELAYED := rfl

/-- The abort of the stray packet changes TRM_BELAYED. -/
theorem strayWrite_abortW_belayed :
    (strayWrite.abortW .host).get Port.TRM_BELAYED ≠ strayWrite.get Port.TRM_BELAYED := by
  decide +kernel

/-- Refutes O15: clause (16) has ABORT change no register outside four blocks, of which trim's is none; from `strayWrite` the
write packet toward queue 224 changes TRM_BELAYED. -/
theorem not_aMasterWritesAPacket : ¬ Obligations.AMasterWritesAPacket := by
  unfold Obligations.AMasterWritesAPacket
  intro h
  obtain ⟨-, -, -, -, -, -, -, -, -, -, -, -, -, -, -, aborts, -⟩ := h strayWrite
  have answered : strayWrite.answers .host Port.BSN_QCMD = true := by decide +kernel
  obtain ⟨t, ran, touched, -⟩ := aborts .host 224 { cells := [], len := 0, epoch := 0 } answered (by decide +kernel)
    (by decide +kernel)
  have aborted : strayWrite.portCmd .host Port.BSN_QCMD 3 (fun t => t.qCmd .host 3) = t := Host.Outcome.next.inj ran
  rw [portCmd_acts _ _ _ _ _ answered] at aborted
  subst aborted
  exact strayWrite_abortW_belayed (touched.2 Port.TRM_BELAYED (by decide))

/-! ## A master's copy of the command registers (R212) -/

theorem argQueue_lt (s : State) (m : Master) : s.argQueue m < 128 := fld_lt _ 6 0

theorem bank_own (m : Master) {p : Nat} (hp : p < 0x10000) : Blk.own.1 ≤ bank m p ∧ bank m p ≤ Blk.own.2 := by
  unfold bank
  cases m <;> simp only [Master.num] <;> omega

theorem qRes_touches (s : State) (m : Master) (r : Nat) : State.touches [.regs] [Blk.own] s (s.qRes m r) :=
  set_touches s _ (bank_own m (by decide))

theorem qFlag_touches (s : State) (m : Master) (b : Nat) : State.touches [.regs] [Blk.own] s (s.qFlag m b) :=
  set_touches s _ (bank_own m (by decide))

theorem updCopy_touches (s : State) (m : Master) (f : BsnCopy → BsnCopy) : State.touches [.basin] [] s (s.updCopy m f) :=
  basin_touches s _

@[simp] theorem copy_updCopy (s : State) (m : Master) (f : BsnCopy → BsnCopy) :
    (s.updCopy m f).copy m.num = f (s.copy m.num) := s.copy_setCopy m.num _

@[simp] theorem qRes_basin (s : State) (m : Master) (r : Nat) : (s.qRes m r).basin = s.basin :=
  s.setF_basin _ 12 9 r

@[simp] theorem updCopy_get (s : State) (m : Master) (f : BsnCopy → BsnCopy) (p : Nat) : (s.updCopy m f).get p = s.get p :=
  rfl

@[simp] theorem updCopy_queues (s : State) (m : Master) (f : BsnCopy → BsnCopy) :
    (s.updCopy m f).basin.queues = s.basin.queues := rfl

@[simp] theorem updCopy_used (s : State) (m : Master) (f : BsnCopy → BsnCopy) :
    (s.updCopy m f).basin.used = s.basin.used := rfl

@[simp] theorem updCopy_queue (s : State) (m : Master) (f : BsnCopy → BsnCopy) (q : Nat) :
    (s.updCopy m f).queue q = s.queue q := rfl

theorem result_qRes (s : State) (m : Master) {r : Nat} (hr : r < 16) : (s.qRes m r).getF (bQres m) 12 9 = r :=
  (s.getF_setF_same _ 12 9 r (by decide)).trans (Nat.mod_eq_of_lt hr)

theorem copy_of_copies {s t : State} (h : t.basin.copies = s.basin.copies) (m : Nat) : t.copy m = s.copy m :=
  congrArg (Cells.rd (fun _ => BsnCopy.idle) · m) h

/-! ## The commands of a copy (R212, R216) -/

theorem qCmd_busy {s : State} {m : Master} (busy : s.qBusy m = true) (code : Nat) : s.qCmd m code = s.qFlag m 16 :=
  if_pos busy

section idle
variable {s : State} {m : Master} (idle : s.qBusy m = false)
include idle

theorem qCmd_idle (code : Nat) : s.qCmd m code = s.qRun m code := if_neg (by simp [idle])

theorem qCmd_dequeue : s.qCmd m 4 = s.orDefer m 4 (s.argQueue m) fun t => t.dequeue m (s.argQueue m) := by
  simp [qCmd_idle idle, State.qRun]

theorem qCmd_peek : s.qCmd m 5 = s.peek m (s.argQueue m) := by simp [qCmd_idle idle, State.qRun]

theorem qCmd_dropRem : s.qCmd m 6 = s.dropRem m := by simp [qCmd_idle idle, State.qRun]

theorem qCmd_forward : s.qCmd m 7 = s.forward m (s.argQueue m) := by simp [qCmd_idle idle, State.qRun]

theorem qCmd_flush : s.qCmd m 8 = s.orDefer m 8 (s.argQueue m) fun t => t.flush m (s.argQueue m) := by
  simp [qCmd_idle idle, State.qRun]

end idle

section defer
variable {s : State} {m : Master} {q : Nat} (code : Nat) (act : State → State)

/-- Only a configured queue that the master may read is waited for (R216). -/
theorem orDefer_unready (h : s.queueUp q = false ∨ s.mayRead m q = false) : s.orDefer m code q act = act s := by
  refine if_neg ?_
  rcases h with h | h <;> simp [h]

theorem orDefer_unheld (h : s.txqHeld q = false) : s.orDefer m code q act = act s := if_neg (by simp [h])

theorem orDefer_held (up : s.queueUp q = true) (may : s.mayRead m q = true) (held : s.txqHeld q = true) :
    s.orDefer m code q act = s.updCopy m fun x => { x with deferred := code + 16 * q } :=
  if_pos (by simp [up, may, held])

end defer

/-! ## A master's read of a header, and of a packet's links (R208, R214) -/

theorem mendLinks_frame (s : State) (p : Pkt) :
    ∃ e, s.mendLinks p = { s with basin := { s.basin with linkErr := e } } := by
  refine forEach_inv (fun t => ∃ e, t = { s with basin := { s.basin with linkErr := e } }) _ ?_ _ s ⟨_, rfl⟩
  rintro l _ ⟨e, rfl⟩
  cases l with
  | sram c => exact ⟨_, rfl⟩
  | _ => exact ⟨e, rfl⟩

theorem followLinks_whole {s : State} {p : Pkt} (whole : s.breakAt p = none) (q : Nat) :
    s.followLinks q p = (p, s.mendLinks p) := by
  rw [State.followLinks, whole]

section same
variable {s t : State} (mem : t.mem = s.mem) (held : t.basin.held = s.basin.held)
  (addr : ∀ c i, t.cellAddr c i = s.cellAddr c i)
include mem held addr

/-- The words of cells depend on the memories, on the cells beside the pool and on where cells stand. -/
theorem cells_of_same : t.cellWord = s.cellWord ∧ t.sramBad = s.sramBad ∧ t.cellAddr = s.cellAddr := by
  refine ⟨funext₂ fun l i => ?_, ?_, funext₂ addr⟩
  · cases l <;> simp only [State.cellWord, State.sramRd, State.dramWord, mem, held, addr]
  · simp only [funext_iff, State.sramBad, mem, implies_true]

theorem headerWord_of_same (p : Pkt) (i : Nat) : t.headerWord p i = s.headerWord p i := by
  obtain ⟨word, bad, place⟩ := cells_of_same mem held addr
  unfold State.headerWord
  rw [word, bad, place]

theorem payWord_of_same (p : Pkt) (w : Nat) : t.payWord p w = s.payWord p w := by
  obtain ⟨word, bad, place⟩ := cells_of_same mem held addr
  unfold State.payWord State.cellShown
  rw [word, bad, place]

end same

theorem forNat_touches {ps : List Part} {bs : List (Nat × Nat)} {n : Nat} {f : Nat → State → State}
    (h : ∀ i < n, ∀ t, State.touches ps bs t (f i t)) (s : State) : State.touches ps bs s (forNat n f s) := by
  induction n with
  | zero => exact .refl _ _ s
  | succ n ih =>
    rw [forNat_succ]
    exact (ih fun i hi => h i (by omega)).trans (h n (by omega) _)

theorem headerSeen_touches (s : State) (p : Pkt) : State.touches [.regs] [Blk.bsn] s (s.headerSeen p) := by
  unfold State.headerSeen
  cases p.head with
  | sram c => exact forNat_touches (fun i _ t => .ite (set_touches t _ (by decide)) (.refl _ _ t)) s
  | _ => exact .refl _ _ s

theorem loadHdr_touches (s : State) (m : Master) (p : Pkt) : State.touches [.regs] [Blk.bsn, Blk.own] s (s.loadHdr m p) := by
  have stored : ∀ u : State, State.touches [.regs] [Blk.own] u
      (forNat 8 (fun i t => t.set (bHdr m i) (s.headerWord p i)) u) :=
    forNat_touches fun i hi t => set_touches t _ (bank_own m (by omega))
  exact ((headerSeen_touches s p).seq (stored _)).mono (by decide) (by decide)

/-- After one register each was stored, every one of them reads its word. -/
theorem get_forNat_set {port : Nat → Nat} (apart : ∀ i j, port i = port j → i = j) (f : Nat → Word) {n j : Nat}
    (hj : j < n) (s : State) : (forNat n (fun i t => t.set (port i) (f i)) s).get (port j) = f j := by
  induction n with
  | zero => omega
  | succ n ih =>
    rw [forNat_succ, State.get_set]
    split
    case isTrue same => rw [apart _ _ same]
    case isFalse other =>
      exact ih (Nat.lt_of_le_of_ne (Nat.le_of_lt_succ hj) fun here => other (by rw [here]))

theorem bHdr_apart (m : Master) (i j : Nat) (h : bHdr m i = bHdr m j) : i = j := by
  unfold bHdr bank at h
  omega

theorem hdr_loadHdr (s : State) (m : Master) (p : Pkt) {i : Nat} (hi : i < 8) :
    (s.loadHdr m p).get (bHdr m i) = s.headerWord p i :=
  get_forNat_set (bHdr_apart m) (s.headerWord p) hi _

/-! ## What the moves of packets leave of the Basin (R211, R222) -/

theorem chargeAll_frame (s : State) (v : Nat) (l : List CellLoc) :
    ∃ u, s.chargeAll v l = { s with basin := { s.basin with used := u } } := by
  refine forEach_inv (fun t => ∃ u, t = { s with basin := { s.basin with used := u } }) _ ?_ l s ⟨_, rfl⟩
  rintro x _ ⟨u, rfl⟩
  cases x with
  | sram c => exact ⟨_, rfl⟩
  | _ => exact ⟨u, rfl⟩

theorem freeAll_frame (s : State) (l : List CellLoc) :
    ∃ u d h, s.freeAll l = { s with basin := { s.basin with used := u, dused := d, held := h } } := by
  refine forEach_inv (fun t => ∃ u d h, t = { s with basin := { s.basin with used := u, dused := d, held := h } }) _ ?_
    l s ⟨_, _, _, rfl⟩
  rintro x _ ⟨u, d, h, rfl⟩
  cases x with
  | lost => exact ⟨u, d, h, rfl⟩
  | _ => exact ⟨_, _, _, rfl⟩

/-- The SRAM cells of a list that was freed are in the pool. -/
theorem used_freeAll (l : List CellLoc) (c : Nat) (s : State) : Cells.rd (fun _ => 0) (s.freeAll l).basin.used c =
    if .sram c ∈ l then 0 else Cells.rd (fun _ => 0) s.basin.used c := by
  have step : ∀ (x : CellLoc) (r : List CellLoc) (s : State), ∃ t : State, s.freeAll (x :: r) = t.freeAll r ∧
      Cells.rd (fun _ => 0) t.basin.used c = if x = .sram c then 0 else Cells.rd (fun _ => 0) s.basin.used c := by
    intro x r s
    cases x with
    | sram k => exact ⟨s.charge k 0, rfl, by simp [State.charge, Cells.rd_wr]⟩
    | dram d => exact ⟨s.chargeD d 2, rfl, by simp [State.chargeD]⟩
    | held n => exact ⟨_, rfl, by simp⟩
    | lost => exact ⟨s, rfl, by simp⟩
  induction l generalizing s with
  | nil => rfl
  | cons x r ih =>
    obtain ⟨t, freed, first⟩ := step x r s
    rw [freed, ih, first]
    by_cases here : x = .sram c
    · simp [here]
    · simp [here, Ne.symm here]

theorem marked_basin (s : State) (q : Nat) (f : State → State) : (s.marked q f).basin = (f s).basin :=
  checkMarks_basin (f s) q _

/-- The head packet of a queue that leaves it: the rest stands, cells are charged and timers restart. -/
theorem popPkt_basin {s : State} {q : Nat} {p : Pkt} {r : List Pkt} (head : s.queue q = p :: r) :
    ∃ u f d, (s.popPkt q).basin = { s.basin with queues := Cells.wr (fun _ => []) s.basin.queues q r, used := u,
                                                 idleFrom := f, idleSaid := d } := by
  obtain ⟨u, charged⟩ := chargeAll_frame (s.setQueue q r) 1 p.cells
  rw [State.popPkt, head]
  simp only [State.setHeadSent, State.idleRestart, marked_basin, charged]
  exact ⟨_, _, _, rfl⟩

theorem popPkt_touches (s : State) {q : Nat} (hq : q < 128) :
    State.touches [.regs, .pends, .basin, .link, .evf] [Blk.evf, Blk.bsn] s (s.popPkt q) := by
  unfold State.popPkt
  cases s.queue q with
  | nil => exact .refl _ _ s
  | cons p r =>
    have popped := marked_touches s (f := fun s => (s.setQueue q r).chargeAll 1 p.cells) hq
      ((basin_touches s _).trans (chargeAll_touches _ _ _))
    exact ((popped.seq (basin_touches _ _)).seq (link_touches _ _)).mono (by decide) (by decide)

/-- A packet that is committed stands behind its queue's packets. -/
theorem commitPkt_basin (s : State) (q : Nat) (p : Pkt) :
    ∃ u f d, (s.commitPkt q p).basin = { s.basin with queues := Cells.wr (fun _ => []) s.basin.queues q (s.queue q ++ [p]),
                                                      used := u, idleFrom := f, idleSaid := d } := by
  obtain ⟨u, charged⟩ := chargeAll_frame (s.setQueue q (s.queue q ++ [p])) (q + 2) p.cells
  unfold State.commitPkt
  dsimp only
  split
  · rw [readyCheck_basin]
    simp only [State.idleRestart, marked_basin, charged]
    exact ⟨_, _, _, rfl⟩
  · simp only [marked_basin, charged]
    exact ⟨_, _, _, rfl⟩

theorem flushPkts_basin (s : State) (q : Nat) :
    ∃ u c h f d, (s.flushPkts q).basin = { s.basin with queues := Cells.wr (fun _ => []) s.basin.queues q [], used := u,
                                                        dused := c, held := h, idleFrom := f, idleSaid := d } := by
  obtain ⟨u, c, h, freed⟩ := freeAll_frame (s.setQueue q []) (s.queueCells q)
  simp only [State.flushPkts, State.setHeadSent, State.idleRestart, marked_basin, freed]
  exact ⟨_, _, _, _, _, rfl⟩

theorem freeAll_touches (s : State) (l : List CellLoc) : State.touches [.basin] [] s (s.freeAll l) := by
  obtain ⟨u, d, h, freed⟩ := freeAll_frame s l
  rw [freed]
  exact basin_touches s _

theorem flushPkts_touches (s : State) {q : Nat} (hq : q < 128) :
    State.touches [.regs, .pends, .basin, .link, .evf] [Blk.evf, Blk.bsn] s (s.flushPkts q) := by
  have flushed := marked_touches s (f := fun t => (t.setQueue q []).freeAll (s.queueCells q)) hq
    ((basin_touches s _).trans (freeAll_touches _ _))
  exact ((flushed.seq (basin_touches _ _)).seq (link_touches _ _)).mono (by decide) (by decide)

theorem afterCommit_touches (s : State) (q : Nat) : State.touches [.utv] [] s (s.afterCommit q) := by
  unfold State.afterCommit
  refine .ite (.refl _ _ s) (forEach_touches _ (fun c t => ?_) _ s)
  have mirrored : State.touches [.utv] [] t (if t.shadowed c then match (t.queue q).getLast? with
      | some p => t.post (t.mkFrame 3 (t.getF Port.UTV_SH_CFG 14 12) c 0 false (t.packetBody p))
      | none => t
    else t) := by
    refine .ite ?_ (.refl _ _ t)
    cases (t.queue q).getLast? with
    | none => exact .refl _ _ t
    | some p => exact post_touches t _
  exact mirrored.trans (sendRecordTo_touches _ _ c false)

/-- A queue that was written reads what was written, and every other queue reads as before. -/
theorem queue_of_write {s t : State} {q : Nat} {l : List Pkt}
    (h : t.basin.queues = Cells.wr (fun _ => []) s.basin.queues q l) : t.queue q = l ∧ ∀ y, y ≠ q → t.queue y = s.queue y := by
  refine ⟨?_, fun y other => ?_⟩
  · rw [State.queue, h, Cells.rd_wr_same]
  · rw [State.queue, h, Cells.rd_wr_other _ _ _ (Ne.symm other)]
    rfl

/-! ## DEQUEUE (R212, R213, R216) -/

/-- A packet that left its queue is open to be read in a master's copy. -/
def State.openRead (s : State) (m : Master) (q : Nat) (p : Pkt) : State :=
  ((((s.loadHdr m p).updCopy m fun x => { x with rpkt := some (q, p) }).set (bRpos m) 0).setF (bQres m) 6 0 q).qRes m Res.ok

section dequeue
variable {s : State} {m : Master} {q : Nat}

theorem dequeue_noQueue (down : s.queueUp q = false) : s.dequeue m q = s.qRes m Res.noQueue := if_pos down

variable (up : s.queueUp q = true)
include up

theorem dequeue_denied (bar : s.mayRead m q = false) : s.dequeue m q = s.qRes m Res.denied := by
  simp [State.dequeue, up, bar]

variable (may : s.mayRead m q = true)
include may

theorem dequeue_opened (opened : (s.copy m.num).rpkt.isSome = true) : s.dequeue m q = s.qRes m Res.opened := by
  simp [State.dequeue, up, may, opened]

variable (free : (s.copy m.num).rpkt = none)
include free

theorem dequeue_empty (empty : s.queue q = []) : s.dequeue m q = s.qRes m Res.empty := by
  simp [State.dequeue, up, may, free, empty]

theorem dequeue_waits (away : s.headWaits q = true) : s.dequeue m q = s.qRes m Res.wait := by
  cases packets : s.queue q with
  | nil => simp [State.headWaits, packets] at away
  | cons p r => simp [State.dequeue, up, may, free, packets, away]

theorem dequeue_takes {p : Pkt} {r : List Pkt} (head : s.queue q = p :: r) (near : s.headWaits q = false)
    (whole : s.breakAt p = none) : s.dequeue m q = ((s.popPkt q).mendLinks p).openRead m q p := by
  obtain ⟨u, f, d, popped⟩ := popPkt_basin head
  have linked : (s.popPkt q).linkBad = s.linkBad := by
    funext l
    cases l <;> simp only [State.linkBad, popped]
  have whole' : (s.popPkt q).breakAt p = none := by
    rw [State.breakAt, linked]
    exact whole
  simp [State.dequeue, up, may, free, head, near, followLinks_whole whole', State.openRead]

end dequeue
theorem openRead_touches (s : State) (m : Master) (q : Nat) (p : Pkt) :
    State.touches [.regs, .basin] [Blk.bsn, Blk.own] s (s.openRead m q p) :=
  (((((loadHdr_touches s m p).seq (updCopy_touches _ m _)).seq (set_touches _ _ (bank_own m (by decide)))).seq
    (set_touches _ _ (bank_own m (by decide)))).seq (qRes_touches _ m _)).mono (by decide) (by decide)

theorem openRead_basin (s : State) (m : Master) (q : Nat) (p : Pkt) : (s.openRead m q p).basin =
    { s.basin with copies := Cells.wr (fun _ => BsnCopy.idle) s.basin.copies m.num
                     { s.copy m.num with rpkt := some (q, p) } } := by
  have loaded : (s.loadHdr m p).basin = s.basin := (loadHdr_touches s m p).1 .basin (by decide)
  simp only [State.openRead, State.qRes, State.setF_basin, State.set_basin, State.updCopy, State.setCopy, State.copy, loaded]

/-- An open read packet shows its header, RPOS 0, its queue's number and result 0. -/
theorem openRead_shows (s : State) (m : Master) {q : Nat} (p : Pkt) (hq : q < 128) :
    (s.openRead m q p).getF (bQres m) 12 9 = 0 ∧ (s.openRead m q p).getF (bRpos m) 12 0 = 0 ∧
      (s.openRead m q p).getF (bQres m) 6 0 = q ∧
      ∀ i < 8, (s.openRead m q p).get (bHdr m i) = s.headerWord p i := by
  have apart : ∀ a b, a ≠ b → bank m a ≠ bank m b := fun a b ne => by unfold bank; omega
  refine ⟨result_qRes _ m (by decide), ?_, ?_, fun i hi => ?_⟩
  · rw [State.openRead, State.qRes, State.getF, State.get_setF_other _ _ _ _ (apart _ _ (by decide)),
      State.get_setF_other _ _ _ _ (apart _ _ (by decide)), State.get_set_same]
    exact fld_zero 12 0
  · rw [State.openRead, State.qRes, State.getF_setF_apart _ _ _ 12 9 _ 6 0 (by decide) (by decide),
      State.getF_setF_same _ _ 6 0 _ (by decide)]
    exact Nat.mod_eq_of_lt hq
  · rw [State.openRead, State.qRes, State.get_setF_other _ _ _ _ (apart _ _ (by omega)),
      State.get_setF_other _ _ _ _ (apart _ _ (by omega)), State.get_set_other _ _ (apart _ _ (by omega)),
      updCopy_get]
    exact hdr_loadHdr s m p hi

/-- What a DEQUEUE that takes the head packet does. -/
theorem dequeue_spec {s : State} {m : Master} {q : Nat} {p : Pkt} {r : List Pkt} (hq : q < 128)
    (up : s.queueUp q = true) (may : s.mayRead m q = true) (free : (s.copy m.num).rpkt = none)
    (head : s.queue q = p :: r) (near : s.headWaits q = false) (whole : s.breakAt p = none) :
    State.touches [.regs, .pends, .basin, .link, .evf] [Blk.evf, Blk.bsn, Blk.own] s (s.dequeue m q) ∧
      (s.dequeue m q).getF (bQres m) 12 9 = 0 ∧ (s.dequeue m q).queue q = r ∧
      (s.dequeue m q).copy m.num = { s.copy m.num with rpkt := some (q, p) } ∧
      (s.dequeue m q).getF (bRpos m) 12 0 = 0 ∧ (s.dequeue m q).getF (bQres m) 6 0 = q ∧
      (∀ i < 8, (s.dequeue m q).get (bHdr m i) = s.headerWord p i) ∧ ∀ y, y ≠ q → (s.dequeue m q).queue y = s.queue y := by
  obtain ⟨u, f, d, popped⟩ := popPkt_basin head
  obtain ⟨e, mended⟩ := mendLinks_frame (s.popPkt q) p
  have taken : State.touches [.regs, .pends, .basin, .link, .evf] [Blk.evf, Blk.bsn] s ((s.popPkt q).mendLinks p) :=
    ((popPkt_touches s hq).seq (mendLinks_touches _ p)).mono (by decide) (by decide)
  have basin : ((s.popPkt q).mendLinks p).basin = { s.basin with
      queues := Cells.wr (fun _ => []) s.basin.queues q r, used := u, idleFrom := f, idleSaid := d, linkErr := e } := by
    simp only [mended, popped]
  have opened := openRead_basin ((s.popPkt q).mendLinks p) m q p
  obtain ⟨result, rpos, number, header⟩ := openRead_shows ((s.popPkt q).mendLinks p) m p hq
  have copy : ((s.popPkt q).mendLinks p).copy m.num = s.copy m.num :=
    copy_of_copies (by rw [basin]) m.num
  obtain ⟨queue, others⟩ := queue_of_write (s := s) (t := ((s.popPkt q).mendLinks p).openRead m q p) (q := q) (l := r)
    (by rw [opened, basin])
  rw [dequeue_takes up may free head near whole]
  refine ⟨(taken.seq (openRead_touches _ m q p)).mono (by decide) (by decide), result, queue, ?_, rpos, number,
    fun i hi => (header i hi).trans ?_, others⟩
  · rw [State.copy, opened, Cells.rd_wr_same, copy]
  · exact headerWord_of_same (taken.1 .mem (by decide)) (by rw [basin]) (taken.cellAddr (by decide)) p i

/-! ## PEEK, DROP_REM, FORWARD and FLUSH (R212, R213, R222) -/

section peek
variable {s : State} {m : Master} {q : Nat}

theorem peek_noQueue (down : s.queueUp q = false) : s.peek m q = s.qRes m Res.noQueue := if_pos down

variable (up : s.queueUp q = true)
include up

theorem peek_denied (bar : s.mayRead m q = false) : s.peek m q = s.qRes m Res.denied := by
  simp [State.peek, up, bar]

variable (may : s.mayRead m q = true)
include may

theorem peek_empty (empty : s.queue q = []) : s.peek m q = s.qRes m Res.empty := by
  simp [State.peek, up, may, empty]

theorem peek_away (away : s.headAway q = true) : s.peek m q = s.qRes m Res.wait := by
  cases packets : s.queue q with
  | nil => simp [State.headAway, packets] at away
  | cons p r =>
    have far : p.head.near = false := by simpa [State.headAway, packets] using away
    simp [State.peek, up, may, packets, far]

theorem peek_loads {p : Pkt} {r : List Pkt} (head : s.queue q = p :: r) (near : p.head.near = true) :
    s.peek m q = (s.loadHdr m p).qRes m Res.ok := by
  simp [State.peek, up, may, head, near]

end peek

section opened
variable {s : State} {m : Master}

theorem dropRem_none (free : (s.copy m.num).rpkt = none) : s.dropRem m = s.qRes m Res.noneOpen := by
  rw [State.dropRem, free]

theorem forward_none (free : (s.copy m.num).rpkt = none) (q : Nat) : s.forward m q = s.qRes m Res.noneOpen := by
  rw [State.forward, free]

theorem forward_noQueue {q : Nat} (opened : (s.copy m.num).rpkt.isSome = true) (down : s.queueUp q = false) :
    s.forward m q = s.qRes m Res.noQueue := by
  obtain ⟨x, held⟩ := Option.isSome_iff_exists.mp opened
  simp [State.forward, held, down]

variable {x : Nat} {p : Pkt} (opened : (s.copy m.num).rpkt = some (x, p))
include opened

/-- What a DROP_REM of an open read packet does. -/
theorem dropRem_spec : State.touches [.regs, .basin] [Blk.own] s (s.dropRem m) ∧
    (s.dropRem m).getF (bQres m) 12 9 = 0 ∧ ((s.dropRem m).copy m.num).rpkt = none ∧
    (∀ c, CellLoc.sram c ∈ p.cells → Cells.rd (fun _ => 0) (s.dropRem m).basin.used c = 0) ∧
    (s.dropRem m).basin.queues = s.basin.queues := by
  have drop : s.dropRem m = ((s.freeAll p.cells).updCopy m fun x => { x with rpkt := none }).qRes m Res.ok := by
    rw [State.dropRem, opened]
  have copy : ((s.dropRem m).copy m.num).rpkt = none := by
    rw [drop, copy_of_copies (congrArg Basin.copies (qRes_basin _ m _)), copy_updCopy]
  rw [drop] at copy ⊢
  refine ⟨(((freeAll_touches s _).seq (updCopy_touches _ m _)).seq (qRes_touches _ m _)).mono (by decide) (by decide),
    result_qRes _ m (by decide), copy, fun c held => ?_, ?_⟩
  · rw [qRes_basin, updCopy_used, used_freeAll, if_pos held]
  · rw [qRes_basin, updCopy_queues, freeAll_queues]

/-- What a FORWARD of an open read packet does. -/
theorem forward_spec {q : Nat} (hq : q < 128) (up : s.queueUp q = true) :
    State.touches [.regs, .pends, .basin, .utv, .evf] [Blk.evf, Blk.hpt, Blk.bsn, Blk.own] s (s.forward m q) ∧
      (s.forward m q).getF (bQres m) 12 9 = 0 ∧ ((s.forward m q).copy m.num).rpkt = none ∧
      (s.forward m q).queue q = s.queue q ++ [p] ∧ ∀ y, y ≠ q → (s.forward m q).queue y = s.queue y := by
  obtain ⟨u, f, d, committed⟩ := commitPkt_basin (s.updCopy m fun x => { x with rpkt := none }) q p
  have mirrored := afterCommit_touches ((s.updCopy m fun x => { x with rpkt := none }).commitPkt q p) q
  have run : s.forward m q =
      (((s.updCopy m fun x => { x with rpkt := none }).commitPkt q p).afterCommit q).qRes m Res.ok := by
    simp [State.forward, opened, up]
  have basin : (s.forward m q).basin = ((s.updCopy m fun x => { x with rpkt := none }).commitPkt q p).basin := by
    rw [run, qRes_basin]
    exact mirrored.1 .basin (by decide)
  obtain ⟨queue, others⟩ := queue_of_write (s := s) (t := s.forward m q) (q := q) (l := s.queue q ++ [p])
    (by rw [basin, committed, updCopy_queues, updCopy_queue])
  have copy : ((s.forward m q).copy m.num).rpkt = none := by
    rw [copy_of_copies (s := s.updCopy m fun x => { x with rpkt := none }) (by rw [basin, committed]), copy_updCopy]
  refine ⟨?_, ?_, copy, queue, others⟩
  · rw [run]
    exact ((((updCopy_touches s m _).seq (commitPkt_touches _ p hq)).seq mirrored).seq (qRes_touches _ m _)).mono
      (by decide) (by decide)
  · rw [run]
    exact result_qRes _ m (by decide)

end opened

section flush
variable {s : State} {m : Master} {q : Nat}

theorem flush_noQueue (down : s.queueUp q = false) : s.flush m q = s.qRes m Res.noQueue := if_pos down

variable (up : s.queueUp q = true)
include up

theorem flush_denied (bar : s.mayRead m q = false) : s.flush m q = s.qRes m Res.denied := by
  simp [State.flush, up, bar]

/-- What a FLUSH that empties its queue does. -/
theorem flush_spec (hq : q < 128) (may : s.mayRead m q = true) :
    State.touches [.regs, .pends, .basin, .link, .evf] [Blk.evf, Blk.bsn, Blk.own] s (s.flush m q) ∧
      (s.flush m q).getF (bQres m) 12 9 = 0 ∧ (s.flush m q).queue q = [] ∧
      (∀ y, y ≠ q → (s.flush m q).queue y = s.queue y) ∧ (s.flush m q).copy m.num = s.copy m.num := by
  obtain ⟨u, c, h, f, d, flushed⟩ := flushPkts_basin s q
  have run : s.flush m q = (s.flushPkts q).qRes m Res.ok := by simp [State.flush, up, may]
  have basin : (s.flush m q).basin = (s.flushPkts q).basin := by rw [run, qRes_basin]
  obtain ⟨queue, others⟩ := queue_of_write (s := s) (t := s.flush m q) (q := q) (l := []) (by rw [basin, flushed])
  refine ⟨?_, ?_, queue, others, copy_of_copies (by rw [basin, flushed]) m.num⟩
  · rw [run]
    exact ((flushPkts_touches s hq).seq (qRes_touches _ m _)).mono (by decide) (by decide)
  · rw [run]
    exact result_qRes _ m (by decide)

end flush

/-! ## A command that waited for an event (R216) -/

/-- The copy when its waiting command acts: nothing waits any more. -/
def State.undeferred (s : State) (m : Master) : State := s.updCopy m fun x => { x with deferred := 0 }

theorem qDeferred_held {s : State} {m : Master} (held : s.txqHeld ((s.copy m.num).deferred / 16) = true) :
    s.qDeferred m = s := if_pos (.inr (.inr held))

theorem qDeferred_dequeue {s : State} {m : Master} {q : Nat} (waits : (s.copy m.num).deferred = 4 + 16 * q)
    (free : s.txqHeld q = false) : s.qDeferred m = (s.undeferred m).dequeue m q := by
  have quotient : (4 + 16 * q) / 16 = q := by omega
  have code : (4 + 16 * q) % 16 = 4 := by omega
  have other : 4 + 16 * q ≠ 15 := by omega
  simp [State.qDeferred, waits, quotient, code, other, free, State.undeferred]

theorem qDeferred_flush {s : State} {m : Master} {q : Nat} (waits : (s.copy m.num).deferred = 8 + 16 * q)
    (free : s.txqHeld q = false) : s.qDeferred m = (s.undeferred m).flush m q := by
  have quotient : (8 + 16 * q) / 16 = q := by omega
  have code : (8 + 16 * q) % 16 = 8 := by omega
  have other : 8 + 16 * q ≠ 15 := by omega
  simp [State.qDeferred, waits, quotient, code, other, free, State.undeferred]

/-! ## The read stream (R215) -/

theorem regRow_rdata : regRow Port.BSN_RDATA = some ⟨0x2016, 1, 1, 0o000000, 0o000000, 0o000000, 0o000000, false⟩ := by
  decide +kernel

/-- A read of RDATA answers the word that the stream gives and moves it on. -/
theorem masterRead_rdata {s : State} {m : Master} (a : s.answers m Port.BSN_RDATA = true) :
    s.masterRead m Port.BSN_RDATA = (s.rdata m).2.setData m (s.rdata m).1 := by
  have value : s.readValue m Port.BSN_RDATA = (s.rdata m).1 := readValue_shown s m regRow_rdata rfl
  have effect : s.readEffect m Port.BSN_RDATA = (s.rdata m).2 := if_pos rfl
  rw [masterRead_answered a, value, effect]

section stream
variable {s : State} {m : Master} {x : Nat} {p : Pkt}

/-- An open read packet with whole links stays open as it is (R208). -/
theorem followOpen_whole (opened : (s.copy m.num).rpkt = some (x, p)) (whole : s.breakAt p = none) :
    s.followOpen m = (s.mendLinks p).updCopy m fun c => { c with rpkt := some (x, p) } := by
  rw [State.followOpen, opened]
  dsimp only
  rw [followLinks_whole whole]
  rfl

theorem followOpen_spec (opened : (s.copy m.num).rpkt = some (x, p)) (whole : s.breakAt p = none) :
    State.touches [.basin] [] s (s.followOpen m) ∧ ((s.followOpen m).copy m.num).rpkt = some (x, p) ∧
      (s.followOpen m).basin.queues = s.basin.queues ∧ (s.followOpen m).basin.held = s.basin.held := by
  obtain ⟨e, mended⟩ := mendLinks_frame s p
  have same : (s.followOpen m).basin.queues = (s.mendLinks p).basin.queues ∧
      (s.followOpen m).basin.held = (s.mendLinks p).basin.held := by
    rw [followOpen_whole opened whole]
    exact ⟨rfl, rfl⟩
  obtain ⟨queues, held⟩ := same
  refine ⟨?_, ?_, by rw [queues, mended], by rw [held, mended]⟩
  · rw [followOpen_whole opened whole]
    exact (mendLinks_touches s p).trans (updCopy_touches _ m _)
  · rw [followOpen_whole opened whole, copy_updCopy]

theorem payRead_clean {w c : Nat} (cell : p.payCell w = .sram c) (good : s.sramBad (s.cellAddr c (w % 8)) = 0) :
    s.payRead p w = (s.payWord p w, s) := by
  simp [State.payRead, State.cellRead, State.payWord, State.cellShown, cell, good]

section reads
variable (idle : s.qBusy m = false) (opened : (s.copy m.num).rpkt = some (x, p)) (whole : s.breakAt p = none)
include idle opened whole

theorem rdata_open : s.rdata m =
    if (p.len + 1) / 2 ≤ s.getF (bRpos m) 12 0 then (0, (s.followOpen m).qFlag m 13) else
    if (p.payCell (s.getF (bRpos m) 12 0)).near then
      (((s.followOpen m).payRead p (s.getF (bRpos m) 12 0)).1,
        ((s.followOpen m).payRead p (s.getF (bRpos m) 12 0)).2.setF (bRpos m) 12 0 (s.getF (bRpos m) 12 0 + 1))
    else (0, (s.followOpen m).qFlag m 14) := by
  obtain ⟨touched, stays, -, -⟩ := followOpen_spec opened whole
  have rpos : (s.followOpen m).getF (bRpos m) 12 0 = s.getF (bRpos m) 12 0 :=
    congrArg (fld · 12 0) (touched.2 _ (by simp))
  unfold State.rdata
  rw [if_neg (by simp [idle])]
  dsimp only
  rw [stays]
  dsimp only
  rw [rpos]

theorem rdata_past (past : (p.len + 1) / 2 ≤ s.getF (bRpos m) 12 0) :
    s.rdata m = (0, (s.followOpen m).qFlag m 13) := by
  rw [rdata_open idle opened whole, if_pos past]

theorem rdata_away (more : 2 * s.getF (bRpos m) 12 0 < p.len) (away : (p.payCell (s.getF (bRpos m) 12 0)).near = false) :
    s.rdata m = (0, (s.followOpen m).qFlag m 14) := by
  rw [rdata_open idle opened whole, if_neg (by omega), if_neg (by simp [away])]

theorem rdata_word {w c : Nat} (pos : s.getF (bRpos m) 12 0 = w) (more : 2 * w < p.len) (cell : p.payCell w = .sram c)
    (good : s.sramBad (s.cellAddr c (w % 8)) = 0) :
    s.rdata m = (s.payWord p w, (s.followOpen m).setF (bRpos m) 12 0 (w + 1)) := by
  obtain ⟨touched, -, -, held⟩ := followOpen_spec opened whole
  have mem : (s.followOpen m).mem = s.mem := touched.1 .mem (by decide)
  have addr := touched.cellAddr (by simp)
  have good' : (s.followOpen m).sramBad ((s.followOpen m).cellAddr c (w % 8)) = 0 := by
    rw [addr, State.sramBad, mem]
    exact good
  have near : (p.payCell w).near = true := by rw [cell]; rfl
  rw [rdata_open idle opened whole, pos, if_neg (by omega), if_pos near, payRead_clean cell good',
    payWord_of_same mem held addr]

end reads

theorem setData_touches (s : State) (m : Master) (v : Word) : State.touches [.latch] [] s (s.setData m v) :=
  latch_touches s _

theorem getF_setData (s : State) (m : Master) (v : Word) (p hi lo : Nat) :
    (s.setData m v).getF p hi lo = s.getF p hi lo :=
  congrArg (fld · hi lo) (s.setData_get m v p)

theorem getB_setData (s : State) (m : Master) (v : Word) (p b : Nat) : (s.setData m v).getB p b = s.getB p b :=
  congrArg (bitOf · b) (s.setData_get m v p)

end stream

/-- Settles O16, by the effect of each command on the queue that its QARG names (`dequeue_spec`, `peek_loads`,
`dropRem_spec`, `forward_spec`, `flush_spec`) and of a read of the stream (`rdata_word`, `rdata_past`, `rdata_away`). -/
theorem aMasterReadsAPacket : Obligations.AMasterReadsAPacket := by
  unfold Obligations.AMasterReadsAPacket
  intro s
  have busy : ∀ {i : Instr} {m : Master} {v : Word} (code : Nat),
      exec i s = .next (s.portCmd m Port.BSN_QCMD v fun t => t.qCmd m code) → s.answers m Port.BSN_QCMD = true →
      s.qBusy m = true → Completes i s fun t => t = s.setB (bQres m) 16 true := fun code run a busy =>
    completes_portCmd run a (qCmd_busy busy code)
  refine ⟨fun m => busy 4 rfl, fun m => busy 5 rfl, fun m => busy 6 rfl, fun m => busy 7 rfl, fun m => busy 8 rfl,
    ?dequeue, ?dequeueNoQueue, ?dequeueDenied, ?dequeueOpened, ?dequeueEmpty, ?dequeueWaits, ?dequeueDefers,
    ?deferredDequeue, ?deferredFlush, fun m held => completes_eq rfl (qDeferred_held held) rfl,
    ?peek, ?peekNoQueue, ?peekDenied, ?peekEmpty, ?peekAway, ?dropRem, ?dropRemNone, ?forward, ?forwardNone,
    ?forwardNoQueue, ?flush, ?flushNoQueue, ?flushDenied, ?word, ?past, ?away⟩
  case dequeue =>
    intro m p r a idle free up may none head near whole
    obtain ⟨touched, result, queue, copy, rpos, number, header, others⟩ :=
      dequeue_spec (argQueue_lt s m) up may none head near whole
    refine completes_portCmd rfl a ?_
    rw [qCmd_dequeue idle, orDefer_unheld _ _ free]
    refine ⟨touched.mono (by decide) (by decide), result, queue, by rw [copy], rpos, number, ?_, others⟩
    rw [List.all_eq_true]
    intro i hi
    rw [header i (List.mem_range.mp hi)]
    exact beq_self_eq_true _
  case dequeueNoQueue =>
    intro m a idle down
    exact completes_portCmd rfl a
      ((qCmd_dequeue idle).trans ((orDefer_unready _ _ (.inl down)).trans (dequeue_noQueue down)))
  case dequeueDenied =>
    intro m a idle up bar
    exact completes_portCmd rfl a
      ((qCmd_dequeue idle).trans ((orDefer_unready _ _ (.inr bar)).trans (dequeue_denied up bar)))
  case dequeueOpened =>
    intro m a idle free up may opened
    exact completes_portCmd rfl a
      ((qCmd_dequeue idle).trans ((orDefer_unheld _ _ free).trans (dequeue_opened up may opened)))
  case dequeueEmpty =>
    intro m a idle free up may none empty
    exact completes_portCmd rfl a
      ((qCmd_dequeue idle).trans ((orDefer_unheld _ _ free).trans (dequeue_empty up may none empty)))
  case dequeueWaits =>
    intro m a idle free up may none away
    exact completes_portCmd rfl a
      ((qCmd_dequeue idle).trans ((orDefer_unheld _ _ free).trans (dequeue_waits up may none away)))
  case dequeueDefers =>
    intro m a idle up may held
    refine completes_portCmd rfl a ?_
    rw [qCmd_dequeue idle, orDefer_held _ _ up may held]
    refine ⟨(updCopy_touches s m _).mono (by decide) (by decide), by rw [copy_updCopy], ?_, updCopy_queues s m _⟩
    simp [State.qBusy]
  case deferredDequeue =>
    intro m y p r waits hy free up may none head near whole
    have none' : ((s.undeferred m).copy m.num).rpkt = Option.none := by rw [State.undeferred, copy_updCopy]; exact none
    obtain ⟨touched, result, queue, copy, -⟩ :=
      dequeue_spec (s := s.undeferred m) hy up may none' head near whole
    refine completes_eq rfl (qDeferred_dequeue waits free)
      ⟨((updCopy_touches s m _).seq touched).mono (by decide) (by decide), ?_, queue, by rw [copy], result⟩
    rw [copy, State.undeferred, copy_updCopy]
  case deferredFlush =>
    intro m y waits hy free up may
    obtain ⟨touched, result, queue, -, copy⟩ := flush_spec (s := s.undeferred m) up hy may
    refine completes_eq rfl (qDeferred_flush waits free)
      ⟨((updCopy_touches s m _).seq touched).mono (by decide) (by decide), ?_, queue, result⟩
    rw [copy, State.undeferred, copy_updCopy]
  case peek =>
    intro m p r a idle up may head near
    have loaded := loadHdr_touches s m p
    refine completes_portCmd rfl a ?_
    rw [qCmd_peek idle, peek_loads up may head near]
    refine ⟨(loaded.seq (qRes_touches _ m _)).mono (by decide) (by decide), result_qRes _ m (by decide), ?_, ?_⟩
    · rw [List.all_eq_true]
      intro i hi
      have apart : bQres m ≠ bHdr m i := by unfold bQres bHdr bank; omega
      rw [State.qRes, State.get_setF_other _ _ _ _ apart, hdr_loadHdr s m p (List.mem_range.mp hi)]
      exact beq_self_eq_true _
    · rw [qRes_basin]
      exact loaded.1 .basin (by decide)
  case peekNoQueue =>
    intro m a idle down
    exact completes_portCmd rfl a ((qCmd_peek idle).trans (peek_noQueue down))
  case peekDenied =>
    intro m a idle up bar
    exact completes_portCmd rfl a ((qCmd_peek idle).trans (peek_denied up bar))
  case peekEmpty =>
    intro m a idle up may empty
    exact completes_portCmd rfl a ((qCmd_peek idle).trans (peek_empty up may empty))
  case peekAway =>
    intro m a idle up may away
    exact completes_portCmd rfl a ((qCmd_peek idle).trans (peek_away up may away))
  case dropRem =>
    intro m x p a idle opened
    obtain ⟨touched, rest⟩ := dropRem_spec opened
    refine completes_portCmd rfl a ?_
    rw [qCmd_dropRem idle]
    exact ⟨touched.mono (by decide) (by decide), rest⟩
  case dropRemNone =>
    intro m a idle none
    exact completes_portCmd rfl a ((qCmd_dropRem idle).trans (dropRem_none none))
  case forward =>
    intro m x p a idle up opened
    obtain ⟨touched, rest⟩ := forward_spec opened (argQueue_lt s m) up
    refine completes_portCmd rfl a ?_
    rw [qCmd_forward idle]
    exact ⟨touched.mono (by decide) (by decide), rest⟩
  case forwardNone =>
    intro m a idle none
    exact completes_portCmd rfl a ((qCmd_forward idle).trans (forward_none none _))
  case forwardNoQueue =>
    intro m a idle opened down
    exact completes_portCmd rfl a ((qCmd_forward idle).trans (forward_noQueue opened down))
  case flush =>
    intro m a idle free up may
    obtain ⟨touched, result, queue, others, -⟩ := flush_spec up (argQueue_lt s m) may
    refine completes_portCmd rfl a ?_
    rw [qCmd_flush idle, orDefer_unheld _ _ free]
    exact ⟨touched.mono (by decide) (by decide), result, queue, others⟩
  case flushNoQueue =>
    intro m a idle down
    exact completes_portCmd rfl a ((qCmd_flush idle).trans ((orDefer_unready _ _ (.inl down)).trans (flush_noQueue down)))
  case flushDenied =>
    intro m a idle up bar
    exact completes_portCmd rfl a ((qCmd_flush idle).trans ((orDefer_unready _ _ (.inr bar)).trans (flush_denied up bar)))
  case word =>
    intro m x w c p a idle opened whole pos room more cell good
    obtain ⟨touched, stays, queues, -⟩ := followOpen_spec opened whole
    refine completes_eq rfl (masterRead_rdata a) ?_
    rw [rdata_word idle opened whole pos more cell good]
    refine ⟨((touched.seq (set_touches _ _ (bank_own m (by decide)))).seq (setData_touches _ m _)).mono (by decide)
      (by decide), rd_setData _ m _, ?_, ?_, ?_⟩
    · rw [getF_setData, State.getF_setF_same _ _ 12 0 _ (by decide)]
      exact Nat.mod_eq_of_lt (by omega)
    · rw [copy_of_copies (s := s.followOpen m) (by rw [State.setData_basin, State.setF_basin])]
      exact stays
    · rw [State.setData_basin, State.setF_basin]
      exact queues
  case past =>
    intro m x p a idle opened whole past
    obtain ⟨touched, -⟩ := followOpen_spec opened whole
    refine completes_eq rfl (masterRead_rdata a) ?_
    rw [rdata_past idle opened whole past]
    refine ⟨((touched.seq (qFlag_touches _ m 13)).seq (setData_touches _ m _)).mono (by decide) (by decide),
      rd_setData _ m _, ?_⟩
    rw [getB_setData]
    exact State.getB_setB_same _ _ 13 true (by decide)
  case away =>
    intro m x p a idle opened whole more away
    obtain ⟨touched, -⟩ := followOpen_spec opened whole
    have apart : bQres m ≠ bRpos m := by unfold bQres bRpos bank; omega
    refine completes_eq rfl (masterRead_rdata a) ?_
    rw [rdata_away idle opened whole more away]
    refine ⟨((touched.seq (qFlag_touches _ m 14)).seq (setData_touches _ m _)).mono (by decide) (by decide),
      rd_setData _ m _, ?_, ?_⟩
    · rw [getB_setData]
      exact State.getB_setB_same _ _ 14 true (by decide)
    · rw [State.setData_get, State.qFlag, State.get_setB_other _ 14 true apart]
      exact touched.2 _ (by simp)

/-! ## Ready interrupts, idle tails and the audit (R219, R220, R222) -/

theorem ieWr_ready {s : State} {g : Nat} {v : Word}
    (ready : (List.range 16).any (fun i => bitOf v i && !(s.queue (16 * g + i)).isEmpty) = true) :
    s.ieWr g v = (s.set (Port.BSN_IE g) (v &&& fieldMask 15 0)).raise Irq.BSN_QREADY := if_pos ready

theorem ieWr_quiet {s : State} {g : Nat} {v : Word}
    (quiet : (List.range 16).any (fun i => bitOf v i && !(s.queue (16 * g + i)).isEmpty) = false) :
    s.ieWr g v = s.set (Port.BSN_IE g) (v &&& fieldMask 15 0) := if_neg (Bool.eq_false_iff.mp quiet)

/-- The idle event of a queue is noted as raised, and its flag is set (R219). -/
def State.idleNoted (s : State) (q : Nat) : State :=
  ({ s with basin := { s.basin with idleSaid := Cells.wr (fun _ => 0) s.basin.idleSaid q 1 } }).queueFlag q 3

theorem tailIdle_due {s : State} {q : Nat} (up : s.queueUp q = true) (on : s.getF (Port.BSN_Q_IDLE q) 11 0 ≠ 0)
    (packets : s.queue q ≠ []) (due : s.idleDue q = true) (unsaid : Cells.rd (fun _ => 0) s.basin.idleSaid q = 0) :
    s.tailIdle q = (s.idleNoted q).raise Irq.TAIL_IDLE := by
  have filled : (s.queue q).isEmpty = false := by simpa using packets
  exact if_pos (by simp [up, on, filled, due, unsaid])

theorem tailIdle_rests {s : State} {q : Nat} (rests : s.getF (Port.BSN_Q_IDLE q) 11 0 = 0 ∨ s.queue q = [] ∨
    s.idleDue q = false ∨ Cells.rd (fun _ => 0) s.basin.idleSaid q = 1) : s.tailIdle q = s := by
  refine if_neg ?_
  rcases rests with h | h | h | h <;> simp [h]

/-- Keeping the entries whose key meets a test. -/
theorem filter_keys {α : Type} (p : Nat → Bool) (m : Cells α) : m.filter (fun x => p x.1) = Cells.keep p m := by
  induction m with
  | nil => rfl
  | cons x r ih =>
    rw [List.filter_cons, ih]
    rfl

/-- The Basin when an audit has ended: the cells that nothing reaches are in the pool (R222). -/
theorem auditEnd_basin {s : State} (runs : s.getB Port.BSN_STAT 2 = true) :
    ∃ d, s.auditEnd.basin = { s.basin with
      used := s.basin.used.filter fun x => decide (CellLoc.sram x.1 ∈ s.reachable), dused := d } := by
  unfold State.auditEnd
  rw [if_neg (by simp [runs])]
  dsimp only
  rw [State.set_basin, State.setB_basin]
  exact ⟨_, rfl⟩

theorem auditEnd_touches (s : State) : State.touches [.regs, .basin] [Blk.bsn] s s.auditEnd := by
  unfold State.auditEnd
  refine .ite (.refl _ _ s) ?_
  exact (((basin_touches s _).seq (set_touches (b := Blk.bsn) _ _ (by decide))).seq
    (set_touches (b := Blk.bsn) _ _ (by decide))).mono (by decide) (by decide)

theorem auditEnd_rests {s : State} (runs : s.getB Port.BSN_STAT 2 = true) : s.auditEnd.getB Port.BSN_STAT 2 = false := by
  unfold State.auditEnd
  rw [if_neg (by simp [runs])]
  dsimp only
  rw [State.getB, State.get_set_other _ _ (by decide)]
  exact State.getB_setB_same _ _ 2 false (by decide)

/-! ## Cells that come back from DRAM (R222) -/

theorem rd_absent {α : Type} {d : Nat → α} {m : Cells α} {k : Nat} (absent : m.filter (fun x => x.1 == k) = []) :
    Cells.rd d m k = d k := by
  induction m with
  | nil => rfl
  | cons x r ih =>
    obtain ⟨j, v⟩ := x
    by_cases here : j = k
    · simp [here] at absent
    · rw [Cells.rd, if_neg here]
      exact ih (by simpa [here] using absent)

/-- Of a key that stands in one entry at most, the entries of a value are dropped: it reads its default where it read that
value, and as before elsewhere. -/
theorem rd_drop_value {α : Type} [DecidableEq α] {d : Nat → α} {m : Cells α} {k : Nat} (v : α)
    (single : (m.filter fun x => x.1 == k).length ≤ 1) :
    Cells.rd d (m.filter fun x => decide (x.2 ≠ v)) k = if Cells.rd d m k = v then d k else Cells.rd d m k := by
  induction m with
  | nil => exact (ite_self _).symm
  | cons x r ih =>
    obtain ⟨j, w⟩ := x
    by_cases here : j = k
    · subst here
      have rest : r.filter (fun x => x.1 == j) = [] := by simpa using single
      have kept : (r.filter fun x => decide (x.2 ≠ v)).filter (fun x => x.1 == j) = [] := by
        rw [List.filter_comm, rest, List.filter_nil]
      by_cases drop : w = v
      · rw [List.filter_cons_of_neg (by simpa using drop), rd_absent kept, Cells.rd, if_pos rfl, if_pos drop]
      · rw [List.filter_cons_of_pos (by simpa using drop), Cells.rd, if_pos rfl, Cells.rd, if_pos rfl, if_neg drop]
    · have rest : (r.filter fun x => x.1 == k).length ≤ 1 := by simpa [here] using single
      have tail : Cells.rd d ((j, w) :: r) k = Cells.rd d r k := if_neg here
      by_cases drop : w = v
      · rw [List.filter_cons_of_neg (by simpa using drop), ih rest, tail]
      · rw [List.filter_cons_of_pos (by simpa using drop), tail, ← ih rest]
        exact if_neg here

theorem reclaim_up {s : State} (up : s.dramUp = true) : s.reclaim =
    { s with basin := { s.basin with dused := s.basin.dused.filter fun x => decide (x.2 ≠ 2) } } := if_pos up

theorem reclaim_down {s : State} (down : s.dramUp = false) : s.reclaim = s := if_neg (by simp [down])

/-- With no DRAM available or no free cell nothing is fetched. -/
theorem openFetch_stays {s : State} (m : Master) (stuck : s.dramUp = false ∨ s.freeCells = 0) : s.openFetch m = s := by
  have one : s.openFetch1 m = s := by
    unfold State.openFetch1
    split
    · rfl
    · split
      · exact if_pos stuck
      · rfl
  unfold State.openFetch
  split
  · rfl
  · exact forNat_fixed fun _ _ => one

/-- The open read packet's DRAM cell has come to an SRAM cell. -/
def State.fetchedOpen (s : State) (m : Master) (x c d : Nat) (p : Pkt) : State :=
  (s.bring c d 1).updCopy m fun y => { y with rpkt := some (x, p.subst [(.dram d, .sram c)]) }

/-- A packet of a header cell in SRAM and a payload cell in DRAM is fetched by its one DRAM cell (R222). -/
theorem openFetch_one {s : State} {m : Master} {x k d n : Nat} {e : BitVec 6} (up : s.dramUp = true)
    (free : 0 < s.freeCells) (opened : (s.copy m.num).rpkt = some (x, ⟨[.sram k, .dram d], n, e⟩))
    (whole : s.dramBad (spillBase + d) = 0) (owner : s.ownerWrong 3 (spillBase + d) = false) :
    s.openFetch m = s.fetchedOpen m x s.nextCell d ⟨[.sram k, .dram d], n, e⟩ := by
  have room : s.freeCells ≠ 0 := by omega
  have first : s.openFetch1 m = s.fetchedOpen m x s.nextCell d ⟨[.sram k, .dram d], n, e⟩ := by
    unfold State.openFetch1 State.fetchedOpen
    rw [opened]
    dsimp only
    rw [show ([CellLoc.sram k, .dram d].find? fun l => !l.near) = some (.dram d) from rfl]
    dsimp only
    rw [if_neg (by simp [up, room]), fetchCell_clean _ _ _ whole owner]
  have held : ((s.fetchedOpen m x s.nextCell d ⟨[.sram k, .dram d], n, e⟩).copy m.num).rpkt =
      some (x, ⟨[.sram k, .sram s.nextCell], n, e⟩) := by
    rw [State.fetchedOpen, copy_updCopy]
    simp [Pkt.subst, substCells]
  have second : (s.fetchedOpen m x s.nextCell d ⟨[.sram k, .dram d], n, e⟩).openFetch1 m =
      s.fetchedOpen m x s.nextCell d ⟨[.sram k, .dram d], n, e⟩ := by
    rw [State.openFetch1, held]
    rfl
  unfold State.openFetch
  rw [opened]
  dsimp only
  rw [show [CellLoc.sram k, CellLoc.dram d].length = 1 + 1 from rfl, forNat_succ, forNat_succ]
  exact (congrArg (fun t : State => t.openFetch1 m) first).trans second

/-- No access of the master's core waits, so none goes on when the Basin has fetched. -/
theorem fetchOpen_idle {s : State} {m : Master} (core : (s.openFetch m).core = s.core)
    (idle : ∀ c, m.core = some c → (s.core c).apWait = none) : s.fetchOpen m = s.openFetch m := by
  unfold State.fetchOpen
  cases master : m.core with
  | none => rfl
  | some c =>
    dsimp only
    rw [State.basinWaitEnd, core, idle c master]

/-! ## What each piece of the Basin's own work leaves behind (R219, R220, R222) -/

theorem ieWr_raises {s : State} (g : Fin 8) {v : Word}
    (ready : (List.range 16).any (fun i => bitOf v i && !(s.queue (16 * g.val + i)).isEmpty) = true) :
    State.touches [.regs, .pends, .evf] [Blk.evf, Blk.bsn] s (s.ieWr g.val v) ∧
    (s.ieWr g.val v).get (Port.BSN_IE g.val) = v &&& fieldMask 15 0 ∧ s.raises Irq.BSN_QREADY (s.ieWr g.val v) := by
  rw [ieWr_ready ready]
  have port : 0x2000 ≤ Port.BSN_IE g.val ∧ Port.BSN_IE g.val ≤ 0x27FF := by
    unfold Port.BSN_IE
    omega
  have stored : State.touches [.regs] [Blk.bsn] s (s.set (Port.BSN_IE g.val) (v &&& fieldMask 15 0)) :=
    set_touches _ _ port
  refine ⟨(stored.seq (raise_touches _ _)).mono (by decide) (by decide), ?_, stored.raises (by decide) (by decide)⟩
  rw [raise_get _ _ _ (.inr (by omega))]
  exact s.get_set_same _ _

theorem tailIdle_raises {s : State} (q : Fin 128) (up : s.queueUp q.val = true)
    (on : s.getF (Port.BSN_Q_IDLE q.val) 11 0 ≠ 0) (packets : s.queue q.val ≠ []) (due : s.idleDue q.val = true)
    (unsaid : Cells.rd (fun _ => 0) s.basin.idleSaid q.val = 0) :
    State.touches [.regs, .pends, .basin, .evf] [Blk.evf, Blk.bsn] s (s.tailIdle q.val) ∧
    (s.tailIdle q.val).getB (Port.BSN_Q_STAT q.val) 3 = true ∧
    Cells.rd (fun _ => 0) (s.tailIdle q.val).basin.idleSaid q.val = 1 ∧
    (s.tailIdle q.val).basin.queues = s.basin.queues ∧ s.raises Irq.TAIL_IDLE (s.tailIdle q.val) := by
  rw [tailIdle_due up on packets due unsaid]
  have port : 0x2000 ≤ Port.BSN_Q_STAT q.val ∧ Port.BSN_Q_STAT q.val ≤ 0x27FF := by
    unfold Port.BSN_Q_STAT
    omega
  have noted : State.touches [.basin, .regs] [Blk.bsn] s (s.idleNoted q.val) :=
    (basin_touches s _).seq (set_touches _ _ port)
  have basin : ((s.idleNoted q.val).raise Irq.TAIL_IDLE).basin =
      { s.basin with idleSaid := Cells.wr (fun _ => 0) s.basin.idleSaid q.val 1 } := by
    rw [raise_basin, State.idleNoted, State.queueFlag, State.setB_basin]
  refine ⟨(noted.seq (raise_touches _ _)).mono (by decide) (by decide), ?_, ?_, ?_, noted.raises (by decide) (by decide)⟩
  · rw [State.getB, raise_get _ _ _ (.inr (by omega))]
    exact State.getB_setB_same _ _ 3 true (by decide)
  · rw [basin]
    exact Cells.rd_wr_same (fun _ => 0) s.basin.idleSaid q.val 1
  · rw [basin]

theorem auditCmd_starts (s : State) : State.touches [.regs] [Blk.bsn] s (s.auditCmd 1) ∧
    (s.auditCmd 1).getB Port.BSN_STAT 2 = true ∧ (s.auditCmd 1).basin = s.basin := by
  rw [State.auditCmd, if_pos rfl]
  exact ⟨set_touches _ _ (by decide), s.getB_setB_same _ 2 true (by decide), s.setB_basin _ 2 true⟩

theorem auditEnd_frees {s : State} (runs : s.getB Port.BSN_STAT 2 = true) :
    s.auditEnd.basin.queues = s.basin.queues ∧
    (∀ c, CellLoc.sram c ∉ s.reachable → Cells.rd (fun _ => 0) s.auditEnd.basin.used c = 0) ∧
    ∀ c, CellLoc.sram c ∈ s.reachable →
      Cells.rd (fun _ => 0) s.auditEnd.basin.used c = Cells.rd (fun _ => 0) s.basin.used c := by
  obtain ⟨d, basin⟩ := auditEnd_basin runs
  have used : s.auditEnd.basin.used = Cells.keep (fun c => decide (CellLoc.sram c ∈ s.reachable)) s.basin.used := by
    rw [basin]
    exact filter_keys (fun c => decide (CellLoc.sram c ∈ s.reachable)) _
  refine ⟨by rw [basin], fun c lost => ?_, fun c held => ?_⟩
  · rw [used, Cells.rd_keep, if_neg (by simpa using lost)]
  · rw [used, Cells.rd_keep, if_pos (by simpa using held)]

theorem updCopy_sramRd (s : State) (m : Master) (f : BsnCopy → BsnCopy) (k : Nat) :
    (s.updCopy m f).sramRd k = s.sramRd k := rfl

theorem updCopy_dused (s : State) (m : Master) (f : BsnCopy → BsnCopy) :
    (s.updCopy m f).basin.dused = s.basin.dused := rfl

theorem fetchedOpen_touches (s : State) (m : Master) (x c d : Nat) (p : Pkt) :
    State.touches [.regs, .mem, .basin, .dmc] [Blk.dmc] s (s.fetchedOpen m x c d p) :=
  ((bring_touches s c d 1).seq (updCopy_touches _ m _)).mono (by decide) (by decide)

theorem State.touches.core {ps : List Part} {bs : List (Nat × Nat)} {s t : State} (h : State.touches ps bs s t)
    (cores : Part.cores ∉ ps) (pends : Part.pends ∉ ps) : t.core = s.core := by
  obtain ⟨apc, lkc⟩ := h.1 .cores cores
  obtain ⟨apcPends, lkcPends⟩ := h.1 .pends pends
  rw [apcPends] at apc
  rw [lkcPends] at lkc
  funext c
  cases c
  · exact apc
  · exact lkc

theorem fetchOpen_one {s : State} {m : Master} {x k d n : Nat} {e : BitVec 6} (up : s.dramUp = true)
    (free : 0 < s.freeCells)
    (opened : (s.copy m.num).rpkt = some (x, ⟨[.sram k, .dram d], n, e⟩)) (whole : s.dramBad (spillBase + d) = 0)
    (owner : s.ownerWrong 3 (spillBase + d) = false) (idle : ∀ c, m.core = some c → (s.core c).apWait = none) :
    s.fetchOpen m = s.fetchedOpen m x s.nextCell d ⟨[.sram k, .dram d], n, e⟩ := by
  have one := openFetch_one up free opened whole owner
  rw [fetchOpen_idle (one ▸ (fetchedOpen_touches s m x _ d _).core (by decide) (by decide)) idle, one]

/-- The packet lies in SRAM, the fetched cell holds the block's words and the block is free. -/
theorem fetchedOpen_holds (s : State) (m : Master) (x k d n c : Nat) (e : BitVec 6) :
    ((s.fetchedOpen m x c d ⟨[.sram k, .dram d], n, e⟩).copy m.num).rpkt = some (x, ⟨[.sram k, .sram c], n, e⟩) ∧
    (List.range 8).all (fun i => (s.fetchedOpen m x c d ⟨[.sram k, .dram d], n, e⟩).sramRd (s.cellAddr c i) ==
      s.dramWord (spillBase + d) i) = true ∧
    Cells.rd (fun _ => 0) (s.fetchedOpen m x c d ⟨[.sram k, .dram d], n, e⟩).basin.dused d = 0 ∧
    (s.fetchedOpen m x c d ⟨[.sram k, .dram d], n, e⟩).basin.queues = s.basin.queues := by
  refine ⟨?_, ?_, ?_, ?_⟩
  · rw [State.fetchedOpen, copy_updCopy]
    simp [Pkt.subst, substCells]
  · rw [List.all_eq_true]
    intro i hi
    rw [State.fetchedOpen, updCopy_sramRd, bring_words s c d 1 (List.mem_range.mp hi)]
    exact beq_self_eq_true _
  · rw [State.fetchedOpen, updCopy_dused, bring_basin]
    exact Cells.rd_wr_same (fun _ => 0) s.basin.dused d 0
  · rw [State.fetchedOpen, updCopy_queues, bring_basin]

theorem reclaim_frees {s : State} (up : s.dramUp = true) {d : Nat}
    (single : (s.basin.dused.filter fun x => x.1 == d).length ≤ 1) :
    (Cells.rd (fun _ => 0) s.basin.dused d = 2 → Cells.rd (fun _ => 0) s.reclaim.basin.dused d = 0) ∧
    (Cells.rd (fun _ => 0) s.basin.dused d ≠ 2 →
      Cells.rd (fun _ => 0) s.reclaim.basin.dused d = Cells.rd (fun _ => 0) s.basin.dused d) := by
  have read := rd_drop_value (d := fun _ => 0) 2 single
  rw [reclaim_up up]
  exact ⟨fun flushed => read.trans (if_pos flushed), fun other => read.trans (if_neg other)⟩

/-! ## A freeze of the DRAM and its end (R333, R334) -/

/-- A raised source stays pending. -/
theorem RaiseFrame.raises {r s t : State} (h : RaiseFrame s t) {n : Nat} (pending : r.raises n s) : r.raises n t := by
  obtain ⟨-, ⟨a, apc⟩, ⟨b, lkc⟩, -⟩ := h
  intro c up
  have before : (s.core c).ipend.getLsbD n = true := pending c up
  cases c with
  | apc =>
    show t.apc.ipend.getLsbD n = true
    rw [apc, BitVec.getLsbD_or, show s.apc.ipend.getLsbD n = true from before, Bool.true_or]
  | lkc =>
    show t.lkc.ipend.getLsbD n = true
    rw [lkc, BitVec.getLsbD_or, show s.lkc.ipend.getLsbD n = true from before, Bool.true_or]

theorem noteDram_frame (s : State) (f : State → State) : RaiseFrame (f s) (s.noteDram f) := by
  unfold State.noteDram
  split
  · exact .refl _
  · exact raise_frame _ _

theorem dmcFlag_touches (s : State) (b : Nat) :
    State.touches [.regs, .pends, .evf] [Blk.evf, Blk.dmc] s (s.dmcFlag b) :=
  ((set_touches (b := Blk.dmc) s _ (by decide)).seq (raise_touches _ _)).mono (by decide) (by decide)

theorem dmcFlag_get (s : State) (b : Nat) {q : Nat} (away : 0x0586 ≤ q) (other : q ≠ Port.DMC_FLAGS) :
    (s.dmcFlag b).get q = s.get q :=
  (raise_get _ _ _ (.inr away)).trans (s.get_set_other _ (Ne.symm other))

theorem dmcFlag_flagged (s : State) {b : Nat} (hb : b < 18) : (s.dmcFlag b).getB Port.DMC_FLAGS b = true := by
  rw [State.getB, State.dmcFlag, raise_get _ _ _ (.inr (by decide))]
  exact s.getB_setB_same _ b true hb

theorem dmcFlag_raises {r s : State} {ps : List Part} {bs : List (Nat × Nat)} (before : State.touches ps bs r s)
    (cores : Part.cores ∉ ps) (b : Nat) : r.raises Irq.DMC_EVT (s.dmcFlag b) :=
  (before.seq (set_touches (b := Blk.dmc) s _ (by decide))).raises (by simpa using cores) (by decide)

/-- The state and the place of a freeze, as the controller records them before the log. -/
def State.frzHead (s : State) (cause port groups block tag : Nat) : State :=
  (((({ s with dmc := { s.dmc with frozeFrom := s.dmcState } }).setF Port.DMC_STAT 17 15 6).set Port.DMC_FRZ_CAUSE
    (inFld 17 15 cause ||| inFld 14 12 port ||| inFld 11 9 groups)).setWide Port.DMC_FRZ_ADDR_0 2 block).set
    Port.DMC_FRZ_TAG (BitVec.ofNat 18 tag)

/-- The words of the command log stand in DMC_FRZ_LOG. -/
def State.frzLogged (s : State) (ws : List Word) : State :=
  (indexed ws).foldl (fun t x => t.set (Port.DMC_FRZ_LOG x.1) x.2) s

theorem length_frzLog (s : State) (cause port block : Nat) : (s.frzLog cause port block).length = 32 := by
  unfold State.frzLog
  split <;> rfl

theorem frzLogged_touches (s : State) {ws : List Word} (short : ws.length ≤ 32) :
    State.touches [.regs] [(Port.DMC_FRZ_LOG 0, Port.DMC_FRZ_LOG 31)] s (s.frzLogged ws) :=
  List.foldlRecOn (motive := State.touches [.regs] [(Port.DMC_FRZ_LOG 0, Port.DMC_FRZ_LOG 31)] s) (indexed ws) _
    (.refl _ _ s) fun u logged x mem => by
      have place : x.1 < ws.length := List.mem_range.mp (List.of_mem_zip mem).1
      refine logged.trans (set_touches u _ ?_)
      show Port.DMC_FRZ_LOG 0 ≤ Port.DMC_FRZ_LOG x.1 ∧ Port.DMC_FRZ_LOG x.1 ≤ Port.DMC_FRZ_LOG 31
      unfold Port.DMC_FRZ_LOG
      omega

theorem get_setWide_other (s : State) {p n q : Nat} (v : Nat) (away : q < p ∨ p + n ≤ q) :
    (s.setWide p n v).get q = s.get q := by
  rw [State.get_setWide, length_splitWords, if_neg (by omega)]

section freeze
variable (s : State) (cause port groups block tag : Nat)

theorem frzHead_touches : State.touches [.regs, .dmc] [Blk.dmc] s (s.frzHead cause port groups block tag) :=
  (((((dmc_touches s _).seq (set_touches (b := Blk.dmc) _ _ (by decide))).seq
    (set_touches (b := Blk.dmc) _ _ (by decide))).seq (setWide_touches (b := Blk.dmc) _ _ (by decide))).seq
    (set_touches (b := Blk.dmc) _ _ (by decide))).mono (by decide) (by decide)

theorem frzHead_dmc : (s.frzHead cause port groups block tag).dmc = { s.dmc with frozeFrom := s.dmcState } :=
  (((set_touches (b := Blk.dmc) _ _ (by decide)).seq (set_touches (b := Blk.dmc) _ _ (by decide))).seq
    ((setWide_touches (b := Blk.dmc) _ _ (by decide)).seq (set_touches (b := Blk.dmc) _ _ (by decide)))).1 .dmc (by decide)

theorem frzHead_state : (s.frzHead cause port groups block tag).dmcState = 6 := by
  unfold State.frzHead State.dmcState State.getF
  rw [State.get_set_other _ _ (by decide), get_setWide_other _ _ (by decide), State.get_set_other _ _ (by decide)]
  exact State.getF_setF_same _ Port.DMC_STAT 17 15 6 (by decide)

theorem frzHead_cause : (s.frzHead cause port groups block tag).get Port.DMC_FRZ_CAUSE =
    inFld 17 15 cause ||| inFld 14 12 port ||| inFld 11 9 groups := by
  unfold State.frzHead
  rw [State.get_set_other _ _ (by decide), get_setWide_other _ _ (by decide), State.get_set_same]

theorem frzHead_addr : (s.frzHead cause port groups block tag).get Port.DMC_FRZ_ADDR_0 = BitVec.ofNat 18 block ∧
    (s.frzHead cause port groups block tag).get Port.DMC_FRZ_ADDR_1 = BitVec.ofNat 18 (block / 2 ^ 18) := by
  unfold State.frzHead
  rw [State.get_set_other _ _ (by decide), State.get_set_other _ _ (by decide), State.get_setWide, State.get_setWide,
    length_splitWords, if_pos (by decide), if_pos (by decide)]
  exact ⟨rfl, rfl⟩

theorem frzHead_tag : (s.frzHead cause port groups block tag).get Port.DMC_FRZ_TAG = BitVec.ofNat 18 tag :=
  State.get_set_same _ _ _

/-- A freeze up to its count: head and log, whose open words are used up. -/
def State.frzTail (s : State) (cause port groups block tag : Nat) : State :=
  { (s.frzHead cause port groups block tag).frzLogged (s.frzLog cause port block) with free := s.free + 32 }

/-- A freeze up to its flag. -/
def State.frzBody (s : State) (cause port groups block tag : Nat) : State :=
  (s.frzTail cause port groups block tag).count Port.DMC_FRZCNT

/-- A freeze, with its flag. -/
def State.frozen (s : State) (cause port groups block tag : Nat) : State :=
  (s.frzBody cause port groups block tag).dmcFlag 4

theorem frzTail_touches : State.touches [.regs] [(Port.DMC_FRZ_LOG 0, Port.DMC_FRZ_LOG 31)]
    (s.frzHead cause port groups block tag) (s.frzTail cause port groups block tag) :=
  (frzLogged_touches _ (length_frzLog s cause port block).le).seq (free_touches _ _)

theorem frzBody_touches : State.touches [.regs, .dmc] [Blk.dmc] s (s.frzBody cause port groups block tag) := by
  obtain ⟨parts, regs⟩ := frzTail_touches s cause port groups block tag
  have logged : State.touches [.regs] [Blk.dmc] (s.frzHead cause port groups block tag) _ :=
    ⟨parts, fun q away => regs q fun b mem => by
      have := away Blk.dmc (List.mem_singleton_self _)
      rw [List.mem_singleton.mp mem]
      simp only [Port.DMC_FRZ_LOG] at this ⊢
      omega⟩
  exact (((frzHead_touches s cause port groups block tag).seq logged).seq
    (set_touches (b := Blk.dmc) _ _ (by decide))).mono (by decide) (by decide)

theorem frzBody_dmc : (s.frzBody cause port groups block tag).dmc = { s.dmc with frozeFrom := s.dmcState } := by
  have counted : State.touches [.regs] [Blk.dmc] (s.frzTail cause port groups block tag)
      (s.frzBody cause port groups block tag) := set_touches _ _ (by decide)
  have same : (s.frzBody cause port groups block tag).dmc = (s.frzHead cause port groups block tag).dmc :=
    ((frzTail_touches s cause port groups block tag).seq counted).1 .dmc (by decide)
  rw [same]
  exact frzHead_dmc s cause port groups block tag

theorem frzBody_get {q : Nat} (place : q < 0x1830) :
    (s.frzBody cause port groups block tag).get q = (s.frzHead cause port groups block tag).get q := by
  have counter : Port.DMC_FRZCNT ≠ q := Nat.ne_of_gt (place.trans (by decide))
  refine (State.get_set_other _ _ counter).trans ((frzTail_touches s cause port groups block tag).2 q fun b mem => ?_)
  rw [List.mem_singleton.mp mem]
  exact .inl place

theorem frzBody_counts : s.counts Port.DMC_FRZCNT (s.frzBody cause port groups block tag) := by
  have logged := (frzTail_touches s cause port groups block tag).2 Port.DMC_FRZCNT (by decide)
  have head : (s.frzHead cause port groups block tag).get Port.DMC_FRZCNT = s.get Port.DMC_FRZCNT := by
    unfold State.frzHead State.setF
    rw [State.get_set_other _ _ (by decide), get_setWide_other _ _ (by decide), State.get_set_other _ _ (by decide),
      State.get_set_other _ _ (by decide)]
    rfl
  exact (State.get_set_same _ _ _).trans (congrArg satInc (logged.trans head))

theorem dmcFreezeOp_frozen (runs : s.dmcState = 3 ∨ s.dmcState = 4) :
    s.dmcFreezeOp cause port groups block tag =
      s.noteDram fun u => u.frozen cause port groups block tag := if_neg (by omega)

end freeze

/-- A freeze in the end, its flag set and TRM_DRAM raised where DRAM was available until now. -/
theorem freeze_frame {s : State} (runs : s.dmcState = 3 ∨ s.dmcState = 4) (cause port groups block tag : Nat) :
    RaiseFrame (s.frozen cause port groups block tag) (s.dmcFreezeOp cause port groups block tag) := by
  rw [dmcFreezeOp_frozen s cause port groups block tag runs]
  exact noteDram_frame s fun u => u.frozen cause port groups block tag

section frozen
variable {s : State} (runs : s.dmcState = 3 ∨ s.dmcState = 4) (cause port groups block tag : Nat)
include runs

/-- Registers of the controller below the log keep what the head of the freeze wrote, but for the flags. -/
theorem freeze_get {q : Nat} (low : 0x0586 ≤ q) (place : q < 0x1830) (other : q ≠ Port.DMC_FLAGS) :
    (s.dmcFreezeOp cause port groups block tag).get q = (s.frzHead cause port groups block tag).get q := by
  rw [(freeze_frame runs cause port groups block tag).regs q (.inr low), State.frozen, dmcFlag_get _ _ low other,
    frzBody_get s cause port groups block tag place]

theorem freeze_touches : State.touches [.regs, .pends, .dmc, .evf] [Blk.evf, Blk.dmc] s
    (s.dmcFreezeOp cause port groups block tag) :=
  (((frzBody_touches s cause port groups block tag).seq (dmcFlag_touches _ 4)).seq
    (freeze_frame runs cause port groups block tag).touches).mono (by decide) (by decide)

theorem freeze_state : (s.dmcFreezeOp cause port groups block tag).dmcState = 6 := by
  rw [State.dmcState, State.getF, freeze_get runs _ _ _ _ _ (by decide) (by decide) (by decide)]
  exact frzHead_state s cause port groups block tag

theorem freeze_cause : (s.dmcFreezeOp cause port groups block tag).get Port.DMC_FRZ_CAUSE =
    inFld 17 15 cause ||| inFld 14 12 port ||| inFld 11 9 groups :=
  (freeze_get runs _ _ _ _ _ (by decide) (by decide) (by decide)).trans (frzHead_cause s cause port groups block tag)

theorem freeze_addr (device : block < 2 ^ 36) :
    (s.dmcFreezeOp cause port groups block tag).getWide Port.DMC_FRZ_ADDR_0 2 = block := by
  obtain ⟨first, second⟩ := frzHead_addr s cause port groups block tag
  have words : (s.dmcFreezeOp cause port groups block tag).getWide Port.DMC_FRZ_ADDR_0 2 =
      joinWords [(s.dmcFreezeOp cause port groups block tag).get Port.DMC_FRZ_ADDR_0,
        (s.dmcFreezeOp cause port groups block tag).get Port.DMC_FRZ_ADDR_1] := rfl
  rw [words, freeze_get runs _ _ _ _ _ (by decide) (by decide) (by decide),
    freeze_get runs _ _ _ _ _ (by decide) (by decide) (by decide), first, second]
  simp only [joinWords, BitVec.toNat_ofNat]
  omega

theorem freeze_tag : (s.dmcFreezeOp cause port groups block tag).get Port.DMC_FRZ_TAG = BitVec.ofNat 18 tag :=
  (freeze_get runs _ _ _ _ _ (by decide) (by decide) (by decide)).trans (frzHead_tag s cause port groups block tag)

theorem freeze_counts : s.counts Port.DMC_FRZCNT (s.dmcFreezeOp cause port groups block tag) :=
  ((freeze_frame runs cause port groups block tag).regs _ (by decide)).trans
    ((dmcFlag_get _ 4 (by decide) (by decide)).trans (frzBody_counts s cause port groups block tag))

theorem freeze_flagged : (s.dmcFreezeOp cause port groups block tag).getB Port.DMC_FLAGS 4 = true := by
  rw [State.getB, (freeze_frame runs cause port groups block tag).regs _ (by decide), State.frozen]
  exact dmcFlag_flagged _ (by decide)

theorem freeze_from : (s.dmcFreezeOp cause port groups block tag).dmc.frozeFrom = s.dmcState := by
  have same : (s.dmcFreezeOp cause port groups block tag).dmc = (s.frzBody cause port groups block tag).dmc :=
    ((dmcFlag_touches _ 4).seq (freeze_frame runs cause port groups block tag).touches).1 .dmc (by decide)
  rw [same, frzBody_dmc]

theorem freeze_raises : s.raises Irq.DMC_EVT (s.dmcFreezeOp cause port groups block tag) :=
  (freeze_frame runs cause port groups block tag).raises
    (dmcFlag_raises (frzBody_touches s cause port groups block tag) (by decide) 4)

end frozen

/-- The three fields of DMC_FRZ_CAUSE. -/
theorem frzCause_fields (cause port groups : Nat) :
    fld (inFld 17 15 cause ||| inFld 14 12 port ||| inFld 11 9 groups) 17 15 = cause % 8 ∧
    fld (inFld 17 15 cause ||| inFld 14 12 port ||| inFld 11 9 groups) 14 12 = port % 8 ∧
    fld (inFld 17 15 cause ||| inFld 14 12 port ||| inFld 11 9 groups) 11 9 = groups % 8 := by
  simp [fld_or, fld_inFld_same, fld_inFld_apart]

section freezeNow
variable {s : State} {cause : Nat} (port groups block tag : Nat)

theorem freezeNow_rests (rests : s.domOn 12 = false ∨ cause = 0 ∨ cause = 7) :
    s.freezeNow cause port groups block tag = s := if_pos rests

theorem freezeNow_block (on : s.domOn 12 = true) (low : 1 ≤ cause) (high : cause ≤ 3) :
    s.freezeNow cause port groups block tag = s.dmcFreezeOp cause port groups block tag := by
  rw [State.freezeNow, if_neg (by simp [on]; omega), if_pos high]

theorem freezeNow_path (on : s.domOn 12 = true) (low : 4 ≤ cause) (high : cause ≤ 6) :
    s.freezeNow cause port groups block tag = s.nextFree.dmcFreezeOp cause 5 0 (s.freeNat % 33554432)
      (s.freeNat / 33554432 % 65536) := by
  rw [State.freezeNow, if_neg (by simp [on]; omega), if_neg (by omega)]
  rfl

end freezeNow

/-! ## RESUME (R328, R334) -/

theorem nextFree_touches (s : State) : State.touches [] [] s s.nextFree := free_touches s _

/-- The controller goes on from where it froze and the Basin catches up. -/
theorem dmcCmd_resumes {s : State} (frozen : s.dmcState = 6) (block : s.getF Port.DMC_FRZ_CAUSE 17 15 < 4) :
    s.dmcCmd 3 = ({ s.nextFree with basin := { s.basin with catchUp := true } }).dmcGo s.dmc.frozeFrom := by
  rw [State.dmcCmd, if_neg (by decide), if_neg (by decide), if_pos rfl, if_pos frozen, State.dmcResume, if_neg (by omega)]

theorem dmcCmd_resume_refused {s : State} (other : s.dmcState ≠ 6) : s.dmcCmd 3 = s.dmcFlag 1 := by
  rw [State.dmcCmd, if_neg (by decide), if_neg (by decide), if_pos rfl, if_neg other]
  rfl

theorem dmcGo_frame (s : State) (st : Nat) : RaiseFrame (s.setF Port.DMC_STAT 17 15 st) (s.dmcGo st) :=
  noteDram_frame s fun u => u.setF Port.DMC_STAT 17 15 st

theorem dmcGo_touches (s : State) (st : Nat) : State.touches [.regs, .pends, .evf] [Blk.evf, Blk.dmc] s (s.dmcGo st) :=
  ((set_touches (b := Blk.dmc) s _ (by decide)).seq (dmcGo_frame s st).touches).mono (by decide) (by decide)

theorem dmcState_dmcGo (s : State) {st : Nat} (small : st < 8) : (s.dmcGo st).dmcState = st := by
  rw [State.dmcState, State.getF, (dmcGo_frame s st).regs _ (by decide)]
  exact (s.getF_setF_same Port.DMC_STAT 17 15 st (by decide)).trans (Nat.mod_eq_of_lt small)

/-- Settles O17, by what each piece of work does where it acts, and by its rest where it does not: `ieWr_raises`,
`tailIdle_raises`, `auditEnd_frees`, `fetchedOpen_holds`, `reclaim_frees`, the registers of a freeze (`freeze_state` to
`freeze_raises`) and `dmcCmd_resumes`. -/
theorem theBasinKeepsItsPool : Obligations.TheBasinKeepsItsPool := by
  unfold Obligations.TheBasinKeepsItsPool
  intro s
  refine ⟨fun m g v a ready => completes_portCmd rfl a (ieWr_raises g ready),
    fun m g v a quiet => completes_portCmd rfl a (ieWr_quiet quiet),
    fun q up on packets due unsaid => ⟨_, rfl, tailIdle_raises q up on packets due unsaid⟩,
    fun q rests => completes_eq rfl (tailIdle_rests rests) rfl,
    fun m a => completes_portCmd rfl a (auditCmd_starts s),
    fun runs => ⟨_, rfl, auditEnd_touches s, auditEnd_rests runs, auditEnd_frees runs⟩,
    fun m x k d n e up free opened whole owner idle =>
      completes_eq rfl (fetchOpen_one up free opened whole owner idle) ?fetched,
    fun m stuck idle => completes_eq rfl (t := s) ?stuck rfl,
    fun d up single => ⟨_, rfl, ?reclaimed⟩,
    fun down => completes_eq rfl (reclaim_down down) rfl,
    fun cause port groups block tag on runs low high => completes_eq rfl (freezeNow_block _ _ _ _ on low high) ?block,
    fun cause port groups block tag on runs low high => completes_eq rfl (freezeNow_path _ _ _ _ on low high) ?path,
    fun cause port groups block tag rests => completes_eq rfl (freezeNow_rests _ _ _ _ ?rests) rfl,
    fun m a frozen block small => completes_portCmd rfl a ?resumed,
    fun m a other => completes_portCmd rfl a ?refused⟩
  case fetched =>
    exact ⟨(fetchedOpen_touches s m x _ d _).mono (by decide) (by decide), fetchedOpen_holds s m x k d n _ e⟩
  case stuck =>
    have stays := openFetch_stays m stuck
    rw [fetchOpen_idle (congrArg State.core stays) idle, stays]
  case reclaimed =>
    obtain ⟨flushed, other⟩ := reclaim_frees up single
    rw [reclaim_up up] at flushed other ⊢
    exact ⟨basin_touches s _, flushed, other, rfl⟩
  case block =>
    obtain ⟨why, who, place⟩ := frzCause_fields cause.toNat port.toNat groups.toNat
    have read := freeze_cause runs cause.toNat port.toNat groups.toNat block.toNat tag.toNat
    refine ⟨freeze_touches runs _ _ _ _ _, freeze_state runs _ _ _ _ _, ?_, ?_, ?_,
      freeze_addr runs _ _ _ _ _ (block.isLt.trans (by decide)), ?_, freeze_counts runs _ _ _ _ _,
      freeze_flagged runs _ _ _ _ _, freeze_from runs _ _ _ _ _, freeze_raises runs _ _ _ _ _⟩
    · rw [State.getF, read, why, Nat.mod_eq_of_lt cause.isLt]
    · rw [State.getF, read, who, Nat.mod_eq_of_lt port.isLt]
    · rw [State.getF, read, place, Nat.mod_eq_of_lt groups.isLt]
    · rw [freeze_tag runs, BitVec.toNat_ofNat, Nat.mod_eq_of_lt (tag.isLt.trans (by decide))]
  case path =>
    have runs' : s.nextFree.dmcState = 3 ∨ s.nextFree.dmcState = 4 := .inr runs
    refine ⟨((nextFree_touches s).seq (freeze_touches runs' _ _ _ _ _)).mono (by decide) (by decide),
      freeze_state runs' _ _ _ _ _, ?_, freeze_counts runs' _ _ _ _ _, freeze_flagged runs' _ _ _ _ _,
      (freeze_from runs' _ _ _ _ _).trans runs⟩
    rw [State.getF, freeze_cause runs', (frzCause_fields _ _ _).1, Nat.mod_eq_of_lt cause.isLt]
  case rests =>
    rcases rests with off | none | top
    · exact .inl off
    · exact .inr (.inl (congrArg BitVec.toNat none))
    · exact .inr (.inr (congrArg BitVec.toNat top))
  case resumed =>
    rw [dmcCmd_resumes frozen block]
    have caught : State.touches [.basin] [] s { s.nextFree with basin := { s.basin with catchUp := true } } :=
      (nextFree_touches s).seq (basin_touches _ _)
    refine ⟨(caught.seq (dmcGo_touches _ _)).mono (by decide) (by decide), dmcState_dmcGo _ small, ?_⟩
    rw [(dmcGo_touches _ _).1 .basin (by decide)]
  case refused =>
    rw [dmcCmd_resume_refused other]
    refine ⟨(dmcFlag_touches s 1).mono (by decide) (by decide), dmcFlag_flagged s (by decide), ?_,
      (dmcFlag_touches s 1).1 .dmc (by decide), dmcFlag_raises (.refl [] [] s) (by decide) 1⟩
    rw [State.dmcState, State.getF, dmcFlag_get s 1 (by decide) (by decide)]
    rfl

end Sys2Proof.Machine

/-! The statements of 10_ordering_and_recovery.md: frames, copy holds and a helper's listen (O20). -/

namespace Sys2Proof.Machine

open Sys2Proof

/-! ## A copy that takes the place of a packet toward a queue that the Basin does not have (O20)

`Staged.queue` is any number here too, and nothing bounds it in the hypotheses of O20.  Where a copy takes the place of a
held packet toward queue 224, its cell is taken toward that queue (R264), whose watermark event (R218) falls on port 0x2806:
it would be the queue's STAT and is TRM_BELAYED, a register of trim's block (`queueStat_belayed`). -/

/-- A packet of context 3 without cells, toward queue 224, held since time 0. -/
def strayHeld : Staged := { strayStaged with queue := 224, ctx := some 3, hold := true }

/-- A COPY body of length 0, with the held packet's timestamp. -/
def strayCopy : List Word := List.replicate 8 0

/-- Lane 0 holds the stray packet past its SELWIN, one copy is kept for its context, the Basin has a bank, and the ports
that would be queue 224's MARK and STAT read as a low mark of 64 cells on a configured queue that is high. -/
def strayHold : State :=
  ({ State.reset with
    regs := [(Port.MEM_PART 0, inFld 17 12 1), (Port.BSN_Q_MARK 224, inFld 8 0 1), (Port.TRM_BELAYED, inFld 17 16 3)],
    time := { Time.reset with link := 100000 },
    utv := { Utvis.reset with copies := [(3, [strayCopy])] } } : State).setLane 0 { Lane.idle with stage := [strayHeld] }

/-- The hold of the stray packet is over, and the kept copy matches it. -/
theorem strayHold_over :
    timeLt strayHold.time.link (strayHeld.closed + ticks (max 10 (strayHold.getF Port.UTV_SEL 17 9) * 16)) = false ∧
      bestCopy (bodyTs (strayHold.header strayHeld.pkt)) strayHold.matchTol [strayCopy] = some strayCopy := by
  decide +kernel

/-- The copy is granted its cell. -/
theorem strayHold_takes_cell :
    (strayHold.takeCells strayHeld.queue
        (cellsOf (nonetsOf (fld (strayCopy.getD 0 0) 13 0) (strayCopy.drop 8)).length)).1.length =
      cellsOf (nonetsOf (fld (strayCopy.getD 0 0) 13 0) (strayCopy.drop 8)).length := by
  decide +kernel

/-- The end of the hold changes TRM_BELAYED. -/
theorem strayHold_holdEnd_belayed :
    (strayHold.holdEnd 3).get Port.TRM_BELAYED ≠ strayHold.get Port.TRM_BELAYED := by
  decide +kernel

/-- Refutes O20: clause (18) has the copy that takes a held packet's place change no register outside three blocks, of which
trim's is none; from `strayHold` the copy toward queue 224 changes TRM_BELAYED. -/
theorem not_framesAreDeliveredInPairOrder : ¬ Obligations.FramesAreDeliveredInPairOrder := by
  unfold Obligations.FramesAreDeliveredInPairOrder
  intro h
  obtain ⟨-, -, -, -, -, -, -, -, -, -, -, -, -, -, -, -, -, substituted, -⟩ := h strayHold
  obtain ⟨elapsed, matching⟩ := strayHold_over
  have held : strayHold.heldOf (3 : BitVec 14).toNat = some (0, strayHeld) := by decide +kernel
  have kept : strayHold.copiesOf (3 : BitVec 14).toNat = [strayCopy] := rfl
  obtain ⟨t, ran, touched, -⟩ := substituted 3 0 strayHeld strayCopy held elapsed kept matching strayHold_takes_cell
  have ended : strayHold.holdEnd 3 = t := Host.Outcome.next.inj ran
  subst ended
  exact strayHold_holdEnd_belayed (touched.2 Port.TRM_BELAYED (by decide))

end Sys2Proof.Machine

/-! The statements of 11_utvis_stacking.md: the states of a port (O18), frames that are sent (O19), and syncs (O21). -/

namespace Sys2Proof.Machine

open Sys2Proof

/-! ## What an operation on one port leaves alone (R252) -/

theorem State.touches.uport {ps : List Part} {bs : List (Nat × Nat)} {s t : State} (h : State.touches ps bs s t)
    (out : Part.utv ∉ ps) (p : Nat) : t.uport p = s.uport p :=
  congrArg (fun u : Utvis => Cells.rd (fun _ => UPort.down) u.ports p) (h.1 .utv out)

theorem uport_updPort_other (s : State) {p j : Nat} (f : UPort → UPort) (ne : p ≠ j) :
    (s.updPort p f).uport j = s.uport j :=
  s.uport_setUport_other _ ne

/-- An operation on port `p` changes Utvis alone, and not the other port's STAT. -/
structure State.PortAlone (p : Fin 2) (s t : State) : Prop where
  touches : State.touches [.regs, .utv] [Blk.utv] s t
  other : t.get (Port.UTV_P_STAT (1 - p.val)) = s.get (Port.UTV_P_STAT (1 - p.val))

theorem State.PortAlone.trans {p : Fin 2} {s t u : State} (h : State.PortAlone p s t) (k : State.PortAlone p t u) :
    State.PortAlone p s u :=
  ⟨h.touches.trans k.touches, k.other.trans h.other⟩

theorem State.PortAlone.lstate {p : Fin 2} {s t : State} (h : State.PortAlone p s t) :
    t.lstate (1 - p.val) = s.lstate (1 - p.val) :=
  congrArg (fld · 17 15) h.other

theorem set_portAlone (p : Fin 2) (s : State) {k : Nat} (v : Word) (block : Blk.utv.1 ≤ k ∧ k ≤ Blk.utv.2)
    (ne : k ≠ Port.UTV_P_STAT (1 - p.val)) : State.PortAlone p s (s.set k v) :=
  ⟨(set_touches s v block).mono (by decide) (by decide), s.get_set_other v ne⟩

theorem setStat_portAlone (p : Fin 2) (s : State) (v : Word) : State.PortAlone p s (s.set (Port.UTV_P_STAT p.val) v) :=
  set_portAlone p s v (by unfold Blk.utv Port.UTV_P_STAT; omega) (by unfold Port.UTV_P_STAT; omega)

theorem setLstate_portAlone (p : Fin 2) (s : State) (v : Nat) : State.PortAlone p s (s.setLstate p.val v) :=
  setStat_portAlone p s _

theorem setStatBit_portAlone (p : Fin 2) (s : State) (b : Nat) (v : Bool) :
    State.PortAlone p s (s.setB (Port.UTV_P_STAT p.val) b v) :=
  setStat_portAlone p s _

theorem utv_portAlone (p : Fin 2) (s : State) (x : Utvis) : State.PortAlone p s { s with utv := x } :=
  ⟨(utv_touches s x).mono (by decide) (by decide), rfl⟩

/-! ## Fields of a port's STAT (R1, R252) -/

theorem lstate_setLstate (s : State) (p v : Nat) : (s.setLstate p v).lstate p = v % 8 :=
  s.getF_setF_same _ 17 15 v (by decide)

theorem getB_setLstate (s : State) (p v : Nat) {b : Nat} (hb : b < 15) :
    (s.setLstate p v).getB (Port.UTV_P_STAT p) b = s.getB (Port.UTV_P_STAT p) b := by
  unfold State.setLstate State.setF State.getB
  rw [State.get_set_same]
  exact bitOf_withFld_apart _ 17 15 v b (by decide) (.inl hb)

theorem getF_setLstate (s : State) (p v : Nat) {hi lo : Nat} (h : hi < 15) :
    (s.setLstate p v).getF (Port.UTV_P_STAT p) hi lo = s.getF (Port.UTV_P_STAT p) hi lo :=
  s.getF_setF_apart _ _ 17 15 v hi lo (by decide) (.inl h)

theorem lstate_setStatBit (s : State) (p : Nat) (v : Bool) {b : Nat} (hb : b < 15) :
    (s.setB (Port.UTV_P_STAT p) b v).lstate p = s.lstate p := by
  unfold State.setB State.lstate State.getF
  rw [State.get_set_same]
  exact fld_withBit_apart _ b 17 15 v (by omega) (.inr hb)

/-- Two neighbouring bits that are clear, as a field. -/
theorem fld_pair_clear {w : Word} {b : Nat} (low : bitOf w b = false) (high : bitOf w (b + 1) = false) :
    fld w (b + 1) b = 0 := by
  apply Nat.eq_of_testBit_eq
  intro j
  rw [testBit_fld, Nat.zero_testBit]
  match j with
  | 0 => simp [show w.getLsbD b = false from low]
  | 1 => simp [show w.getLsbD (b + 1) = false from high]
  | j + 2 => rw [decide_eq_false (by omega), Bool.false_and]

/-! ## A HELLO (R252) -/

/-- The position a port's neighbour has (R252). -/
abbrev State.neighbour (s : State) (p : Nat) : Nat :=
  if p = 0 then (s.utvPos + 1) % s.ringN else (s.utvPos + s.ringN - 1) % s.ringN

/-- A HELLO from a position was answered by ACK, and the position is shown. -/
def State.heardFrom (s : State) (p pos : Nat) : State :=
  (s.updPort p fun u => { u with answer := 1 }).setF (Port.UTV_P_STAT p) 14 12 pos

theorem heardFrom_portAlone (p : Fin 2) (s : State) (pos : Nat) : State.PortAlone p s (s.heardFrom p.val pos) :=
  (utv_portAlone p s _).trans (setStat_portAlone p _ _)

/-- A port goes to FAULT with an error bit set. -/
def State.portFault (s : State) (p b : Nat) : State := (s.setB (Port.UTV_P_STAT p) b true).setLstate p 6

theorem portFault_portAlone (p : Fin 2) (s : State) (b : Nat) : State.PortAlone p s (s.portFault p.val b) :=
  (setStatBit_portAlone p s b true).trans (setLstate_portAlone p _ 6)

theorem portFault_lstate (s : State) (p b : Nat) : (s.portFault p b).lstate p = 6 := lstate_setLstate _ p 6

theorem portFault_bit (s : State) (p : Nat) {b : Nat} (hb : b < 15) :
    (s.portFault p b).getB (Port.UTV_P_STAT p) b = true :=
  (getB_setLstate _ p 6 hb).trans (s.getB_setB_same _ b true (by omega))

section hello

variable {s : State} {p : Nat} {f : UFrame} (waits : s.lstate p = 3) (applied : s.rig.applied = true)
include waits applied

theorem helloIn_bad (bad : frameOk f = false) : s.helloIn p f = s.updPort p fun u => { u with answer := 2 } := by
  unfold State.helloIn
  rw [if_neg (by simp [waits, applied]), if_pos (by simp [bad])]

variable (good : frameOk f = true) (type : fType f = 6) (groups : fNgrp f = 1)
include good type groups

theorem helloIn_stranger (wrong : fld ((fBody f).getD 0 0) 14 12 ≠ s.neighbour p ∨
    fld ((fBody f).getD 0 0) 8 6 ≠ s.stackSize) :
    s.helloIn p f = (s.heardFrom p (fld ((fBody f).getD 0 0) 14 12)).portFault p 9 := by
  unfold State.helloIn
  rw [if_neg (by simp [waits, applied]), if_neg (by simp [good, type, groups])]
  exact if_pos wrong

theorem helloIn_neighbour (size : fld ((fBody f).getD 0 0) 8 6 = s.stackSize)
    (pos : fld ((fBody f).getD 0 0) 14 12 = s.neighbour p) :
    s.helloIn p f =
      if ((fBody f).getD 1 0).toNat + 262144 * fld ((fBody f).getD 2 0) 13 0 = s.helloCheck then
        (s.heardFrom p (fld ((fBody f).getD 0 0) 14 12)).setLstate p 4
      else (s.heardFrom p (fld ((fBody f).getD 0 0) 14 12)).portFault p 10 := by
  unfold State.helloIn
  rw [if_neg (by simp [waits, applied]), if_neg (by simp [good, type, groups])]
  exact (if_neg (not_or.mpr ⟨not_not.mpr pos, not_not.mpr size⟩)).trans (ite_not _ _ _)

end hello

/-- A HELLO with the right check word: the port is UP and shows its neighbour (R252). -/
theorem heardFrom_up (p : Fin 2) (s : State) {pos : Nat} (small : pos < 8) :
    ((s.heardFrom p.val pos).setLstate p.val 4).getF (Port.UTV_P_STAT p.val) 14 12 = pos ∧
    (((s.heardFrom p.val pos).setLstate p.val 4).uport p.val).answer = 1 := by
  constructor
  · rw [getF_setLstate _ _ _ (by decide), State.heardFrom, State.getF_setF_same _ _ _ _ _ (by decide)]
    exact Nat.mod_eq_of_lt small
  · exact congrArg UPort.answer (s.uport_setUport p.val _)

/-! ## A port that becomes ACTIVE, and RETRAIN (R252, R255) -/

/-- A port is shown ACTIVE. -/
def State.shownActive (s : State) (p : Nat) : State := (s.setLstate p 5).setB (Port.UTV_P_STAT p) 11 true

theorem shownActive_portAlone (p : Fin 2) (s : State) : State.PortAlone p s (s.shownActive p.val) :=
  (setLstate_portAlone p s 5).trans (setStatBit_portAlone p _ 11 true)

theorem shownActive_lstate (s : State) (p : Nat) : (s.shownActive p).lstate p = 5 :=
  (lstate_setStatBit _ p true (by decide)).trans (lstate_setLstate s p 5)

theorem shownActive_bit (s : State) (p : Nat) : (s.shownActive p).getB (Port.UTV_P_STAT p) 11 = true :=
  State.getB_setB_same _ _ 11 true (by decide)

/-- The wait for the first sync begins. -/
def State.waitsForSync (s : State) (t : BitVec 54) : State :=
  (s.updUtv fun u => { u with started := true, lastSync := t }).setTstate 1

theorem waitsForSync_portAlone (p : Fin 2) (s : State) (t : BitVec 54) : State.PortAlone p s (s.waitsForSync t) :=
  (utv_portAlone p s _).trans (set_portAlone p _ _ (by decide) (by unfold Port.UTV_STAT Port.UTV_P_STAT; omega))

theorem waitsForSync_get {s : State} {t : BitVec 54} {k : Nat} (ne : k ≠ Port.UTV_STAT) :
    (s.waitsForSync t).get k = s.get k :=
  State.get_setF_other _ _ _ _ ne.symm

theorem portUpNow_first {s : State} {p : Nat} (up : s.lstate p = 4) (first : s.utv.started = false) :
    s.portUpNow p = (s.shownActive p).waitsForSync s.time.link := by
  unfold State.portUpNow
  rw [if_neg (not_not.mpr up)]
  exact if_neg (Bool.eq_false_iff.mp first)

theorem portUpNow_later {s : State} {p : Nat} (up : s.lstate p = 4) (later : s.utv.started = true) :
    s.portUpNow p = s.shownActive p := by
  unfold State.portUpNow
  rw [if_neg (not_not.mpr up)]
  exact if_pos later

/-- A FAULT port that is trained again is DOWN, and its two error bits are clear. -/
theorem retrain_fault {p : Fin 2} {s : State} (fault : s.lstate p.val = 6) :
    State.touches [.regs] [Blk.utv] s (s.retrain p.val) ∧ (s.retrain p.val).lstate p.val = 1 ∧
    (s.retrain p.val).getF (Port.UTV_P_STAT p.val) 10 9 = 0 ∧
    (s.retrain p.val).lstate (1 - p.val) = s.lstate (1 - p.val) := by
  have moved : s.retrain p.val =
      ((s.setB (Port.UTV_P_STAT p.val) 9 false).setB (Port.UTV_P_STAT p.val) 10 false).setLstate p.val 1 := if_pos fault
  have stat : ∀ (t : State) (v : Word), State.touches [.regs] [Blk.utv] t (t.set (Port.UTV_P_STAT p.val) v) :=
    fun t v => set_touches t v (by unfold Blk.utv Port.UTV_P_STAT; omega)
  rw [moved]
  refine ⟨((stat _ _).trans (stat _ _)).trans (stat _ _), lstate_setLstate _ _ 1, ?cleared,
    (((setStatBit_portAlone p s 9 false).trans (setStatBit_portAlone p _ 10 false)).trans
      (setLstate_portAlone p _ 1)).lstate⟩
  case cleared =>
    rw [getF_setLstate _ _ _ (by decide)]
    exact fld_pair_clear
      ((State.getB_setB_other _ _ _ 10 9 false (by decide) (by decide)).trans (s.getB_setB_same _ 9 false (by decide)))
      (State.getB_setB_same _ _ 10 false (by decide))

/-! ## A port that falls (R250, R252) -/

theorem portDrop_portAlone (p : Fin 2) (s : State) : State.PortAlone p s (s.portDrop p.val) := by
  unfold State.portDrop
  exact (((utv_portAlone p s _).trans (utv_portAlone p _ _)).trans (utv_portAlone p _ _)).trans
    (setStatBit_portAlone p _ 11 false)

theorem portDrop_get (p : Nat) (s : State) {k : Nat} (ne : k ≠ Port.UTV_P_STAT p) : (s.portDrop p).get k = s.get k :=
  State.get_setB_other _ 11 false ne.symm

theorem portDrop_bit (p : Nat) (s : State) : (s.portDrop p).getB (Port.UTV_P_STAT p) 11 = false :=
  State.getB_setB_same _ _ 11 false (by decide)

/-- A fallen port has neither unacknowledged nor transit frames. -/
theorem portDrop_empties (p : Fin 2) (s : State) :
    ((s.portDrop p.val).uport p.val).unacked = [] ∧ ((s.portDrop p.val).uport p.val).transit = [] := by
  have apart : 1 - p.val ≠ p.val := by omega
  unfold State.portDrop
  simp only [State.setB_uport, uport_updPort_other _ _ apart]
  exact ⟨congrArg UPort.unacked (s.uport_setUport p.val _), congrArg UPort.transit (s.uport_setUport p.val _)⟩

theorem portDrop_redo (p : Nat) (s : State) : (s.portDrop p).utv.redo = s.utv.redo ++
    (((s.uport p).unacked.filter fun x => decide (fSrc x.1 = s.utvPos) && fPaired x.1).map fun y => (y.1, y.2.2)) := by
  have redone : (s.portDrop p).utv.redo = s.utv.redo ++ ((((s.uport p).unacked.filter fun x =>
    decide (fSrc x.1 = s.utvPos)).filter fun x => fPaired x.1).map fun y => (y.1, y.2.2)) := rfl
  rw [redone, List.filter_filter]
  simp only [Bool.and_comm]

/-- A fallen port is DOWN and counted, and UTV_LINK has still to be raised. -/
def State.countedDown (s : State) (p : Nat) : State := ((s.portDrop p).setLstate p 1).count (Port.UTV_P_DOWNCNT p)

theorem countedDown_portAlone (p : Fin 2) (s : State) : State.PortAlone p s (s.countedDown p.val) :=
  ((portDrop_portAlone p s).trans (setLstate_portAlone p _ 1)).trans
    (set_portAlone p _ _ (by unfold Blk.utv Port.UTV_P_DOWNCNT; omega)
      (by unfold Port.UTV_P_DOWNCNT Port.UTV_P_STAT; omega))

theorem countedDown_stat (s : State) (p : Nat) :
    (s.countedDown p).get (Port.UTV_P_STAT p) = ((s.portDrop p).setLstate p 1).get (Port.UTV_P_STAT p) :=
  State.get_count_other _ (by unfold Port.UTV_P_DOWNCNT Port.UTV_P_STAT; omega)

theorem countedDown_lstate (s : State) (p : Nat) : (s.countedDown p).lstate p = 1 :=
  (congrArg (fld · 17 15) (countedDown_stat s p)).trans (lstate_setLstate _ p 1)

theorem countedDown_bit (s : State) (p : Nat) : (s.countedDown p).getB (Port.UTV_P_STAT p) 11 = false :=
  (congrArg (bitOf · 11) (countedDown_stat s p)).trans ((getB_setLstate _ p 1 (by decide)).trans (portDrop_bit p s))

theorem countedDown_counts (s : State) (p : Nat) : s.counts (Port.UTV_P_DOWNCNT p) (s.countedDown p) := by
  have ne : Port.UTV_P_DOWNCNT p ≠ Port.UTV_P_STAT p := by unfold Port.UTV_P_DOWNCNT Port.UTV_P_STAT; omega
  have before : ((s.portDrop p).setLstate p 1).get (Port.UTV_P_DOWNCNT p) = s.get (Port.UTV_P_DOWNCNT p) :=
    (State.get_setF_other _ 17 15 1 ne.symm).trans (portDrop_get p s ne)
  exact (State.get_count_same _ _).trans (congrArg satInc before)

/-- What the fall of a port does, told from a state `r` that differs from the one in which it falls by CODEERR alone:
the symbol errors that take the port down are counted first (R252). -/
theorem portDown_falls {r s : State} (p : Fin 2) (same : ∀ k, k ≠ Port.UTV_P_CODEERR p.val → s.get k = r.get k)
    (touched : State.touches [.regs] [Blk.utv] r s) :
    State.touches [.regs, .pends, .utv, .evf] [Blk.evf, Blk.utv] r (s.portDown p.val) ∧
    (s.portDown p.val).lstate p.val = 1 ∧ (s.portDown p.val).getB (Port.UTV_P_STAT p.val) 11 = false ∧
    ((s.portDown p.val).uport p.val).unacked = [] ∧ ((s.portDown p.val).uport p.val).transit = [] ∧
    (s.portDown p.val).utv.redo = r.utv.redo ++ (((r.uport p.val).unacked.filter fun x =>
      decide (fSrc x.1 = r.utvPos) && fPaired x.1).map fun y => (y.1, y.2.2)) ∧
    r.counts (Port.UTV_P_DOWNCNT p.val) (s.portDown p.val) ∧ r.raises Irq.UTV_LINK (s.portDown p.val) ∧
    (s.portDown p.val).lstate (1 - p.val) = r.lstate (1 - p.val) := by
  have alone := countedDown_portAlone p s
  have before := touched.seq alone.touches
  have raised := raise_touches (s.countedDown p.val) Irq.UTV_LINK
  have register : ∀ k, 0x5800 ≤ k → (s.portDown p.val).get k = (s.countedDown p.val).get k :=
    fun k block => raise_get _ _ k (by omega)
  have stat := register (Port.UTV_P_STAT p.val) (by unfold Port.UTV_P_STAT; omega)
  have utv : (s.portDown p.val).utv = (s.portDrop p.val).utv := raised.1 .utv (by decide)
  have port : (s.portDown p.val).uport p.val = (s.portDrop p.val).uport p.val := raised.uport (by decide) p.val
  obtain ⟨unacked, transit⟩ := portDrop_empties p s
  refine ⟨(before.seq raised).mono (by decide) (by decide),
    (congrArg (fld · 17 15) stat).trans (countedDown_lstate s _),
    (congrArg (bitOf · 11) stat).trans (countedDown_bit s _), (congrArg UPort.unacked port).trans unacked,
    (congrArg UPort.transit port).trans transit, ?redo, ?counted, before.raises (by decide) (by decide), ?other⟩
  case redo =>
    have position : s.utvPos = r.utvPos :=
      congrArg (fld · 14 12) (same Port.UTV_STAT (by unfold Port.UTV_STAT Port.UTV_P_CODEERR; omega))
    rw [utv, portDrop_redo, position, touched.uport (by decide), touched.1 .utv (by decide)]
  case counted =>
    exact (register _ (by unfold Port.UTV_P_DOWNCNT; omega)).trans ((countedDown_counts s _).trans
      (congrArg satInc (same _ (by unfold Port.UTV_P_DOWNCNT Port.UTV_P_CODEERR; omega))))
  case other =>
    exact congrArg (fld · 17 15) ((register _ (by unfold Port.UTV_P_STAT; omega)).trans (alone.other.trans
      (same _ (by unfold Port.UTV_P_STAT Port.UTV_P_CODEERR; omega))))

section linkFalls

variable {s : State} {p : Nat} (active : s.lstate p = 5)
include active

theorem linkFalls_symbolErrors : s.linkFalls p .symbolErrors = (s.set (Port.UTV_P_CODEERR p)
    (BitVec.ofNat 18 (satAdd 262143 (s.get (Port.UTV_P_CODEERR p)).toNat 4))).portDown p := by
  unfold State.linkFalls
  rw [if_neg (not_not.mpr active)]

theorem linkFalls_silence : s.linkFalls p .silence = s.portDown p := by
  unfold State.linkFalls
  rw [if_neg (not_not.mpr active)]

theorem linkFalls_retries (exhausted : s.exhausted p = true) : s.linkFalls p .retries = s.portDown p := by
  unfold State.linkFalls
  rw [if_neg (not_not.mpr active)]
  exact if_pos exhausted

end linkFalls

theorem linkFalls_stays {s : State} {p : Nat} {why : DownWhy}
    (h : s.lstate p ≠ 5 ∨ (why = .retries ∧ s.exhausted p = false)) : s.linkFalls p why = s := by
  unfold State.linkFalls
  obtain down | ⟨rfl, fresh⟩ := h
  · exact if_pos down
  · split
    · rfl
    · exact if_neg (Bool.eq_false_iff.mp fresh)

/-- Settles O18, by what a port's commands do in the state where they act, and by their rest in every other:
`helloIn_neighbour`, `helloIn_stranger`, `portUpNow_first`, `portUpNow_later`, `portDown_falls` and `retrain_fault`. -/
theorem aPortTrainsAndFalls : Obligations.APortTrainsAndFalls := by
  unfold Obligations.APortTrainsAndFalls
  intro s
  refine ⟨fun p down => ⟨_, rfl, if_pos down⟩, fun p other => ⟨_, rfl, if_neg other⟩,
    fun p units delay => ⟨_, rfl, if_pos delay⟩, fun p units other => ⟨_, rfl, if_neg other⟩,
    fun p f waits applied good type groups size pos => ⟨_, rfl, ?neighbour⟩,
    fun p f waits applied good type groups wrong => ⟨_, rfl, ?stranger⟩,
    fun p f waits applied bad => ⟨_, rfl, helloIn_bad waits applied bad⟩,
    fun p f deaf => ⟨_, rfl, if_pos deaf⟩, fun p up first => ⟨_, rfl, ?first⟩, fun p up later => ⟨_, rfl, ?later⟩,
    fun p other => ⟨_, rfl, if_pos other⟩, fun p why active due => ⟨_, rfl, ?falls⟩,
    fun p why h => ⟨_, rfl, linkFalls_stays h⟩, fun m p a fault => completes_portCmd rfl a (retrain_fault fault),
    fun m p a other => completes_portCmd rfl a (if_neg other), fun p units active => ⟨_, rfl, if_pos active⟩,
    fun p units other => ⟨_, rfl, if_neg other⟩⟩
  case neighbour =>
    rw [helloIn_neighbour waits applied good type groups size pos]
    have heard := heardFrom_portAlone p s (fld ((fBody f).getD 0 0) 14 12)
    beta_reduce
    by_cases check : ((fBody f).getD 1 0).toNat + 262144 * fld ((fBody f).getD 2 0) 13 0 = s.helloCheck
    · rw [if_pos check, if_pos check]
      have up := heard.trans (setLstate_portAlone p _ 4)
      obtain ⟨shown, answered⟩ := heardFrom_up p s (fld_lt ((fBody f).getD 0 0) 14 12)
      exact ⟨up.touches, ⟨lstate_setLstate _ _ 4, shown, answered⟩, up.lstate⟩
    · rw [if_neg check, if_neg check]
      have fault := heard.trans (portFault_portAlone p _ 10)
      exact ⟨fault.touches, ⟨portFault_lstate _ _ 10, portFault_bit _ _ (by decide)⟩, fault.lstate⟩
  case stranger =>
    rw [helloIn_stranger waits applied good type groups wrong]
    have fault := (heardFrom_portAlone p s (fld ((fBody f).getD 0 0) 14 12)).trans (portFault_portAlone p _ 9)
    exact ⟨fault.touches, portFault_lstate _ _ 9, portFault_bit _ _ (by decide), fault.lstate⟩
  case first =>
    rw [portUpNow_first up first]
    have alone := (shownActive_portAlone p s).trans (waitsForSync_portAlone p _ s.time.link)
    have stat : ((s.shownActive p.val).waitsForSync s.time.link).get (Port.UTV_P_STAT p.val) =
        (s.shownActive p.val).get (Port.UTV_P_STAT p.val) :=
      waitsForSync_get (by unfold Port.UTV_P_STAT Port.UTV_STAT; omega)
    exact ⟨alone.touches, (congrArg (fld · 17 15) stat).trans (shownActive_lstate s _),
      (congrArg (bitOf · 11) stat).trans (shownActive_bit s _), rfl, State.getF_setF_same _ _ 8 6 1 (by decide),
      alone.lstate⟩
  case later =>
    rw [portUpNow_later up later]
    have alone := shownActive_portAlone p s
    exact ⟨alone.touches, shownActive_lstate s _, shownActive_bit s _, rfl, alone.lstate⟩
  case falls =>
    have here := portDown_falls p (r := s) (fun _ _ => rfl) (.refl _ _ s)
    cases why with
    | symbolErrors =>
      rw [linkFalls_symbolErrors active]
      exact portDown_falls p (fun k ne => s.get_set_other _ ne.symm)
        (set_touches s _ (by unfold Blk.utv Port.UTV_P_CODEERR; omega))
    | silence =>
      rw [linkFalls_silence active]
      exact here
    | retries =>
      rw [linkFalls_retries active (due.resolve_left (not_not.mpr rfl))]
      exact here

/-! ## An ACK for a frame of a queue that the Basin does not have (O19)

The queue that an unacknowledged frame was read from is any number, and nothing bounds it in the hypotheses of O19.
Where the ACK covers a frame of queue 224, the packet that leaves that queue (R254) makes its watermark event (R218) fall
on port 0x2806: it would be the queue's STAT and is TRM_BELAYED, a register of trim's block (`queueStat_belayed`). -/

/-- A frame without words: its HSEQ reads 0. -/
def emptyFrame : UFrame := { words := [], crc := 0, lineOk := true }

/-- Port 0 is ACTIVE and waits for the ACK of a frame read from queue 224, which holds one packet without stored cells;
the ports that would be the queue's MARK and STAT read as a low mark of 64 cells on a configured queue that is high. -/
def strayAck : State :=
  (({ State.reset with
    regs := [(Port.BSN_Q_MARK 224, inFld 8 0 1), (Port.TRM_BELAYED, inFld 17 16 3),
      (Port.UTV_P_STAT 0, inFld 17 15 5)] } : State).setUport 0
        { UPort.down with unacked := [(emptyFrame, 1, 224 + 1)] }).setQueue 224 [holePkt .lost 0]

/-- The ACK of the stray frame changes TRM_BELAYED. -/
theorem strayAck_ackIn_belayed : (strayAck.ackIn 0 0 0).get Port.TRM_BELAYED ≠ strayAck.get Port.TRM_BELAYED := by
  decide +kernel

/-- Refutes O19: clause (2) has an ACK change no register outside the blocks of the event fabric and the Basin; from
`strayAck` the packet that leaves queue 224 changes TRM_BELAYED. -/
theorem not_framesAreSentAcknowledgedAndResent : ¬ Obligations.FramesAreSentAcknowledgedAndResent := by
  unfold Obligations.FramesAreSentAcknowledgedAndResent
  intro h
  obtain ⟨-, retires, -⟩ := h strayAck
  have active : strayAck.lstate 0 = 5 := by decide +kernel
  obtain ⟨t, ran, touched, -⟩ := retires 0 0 0 [] emptyFrame 1 224 (holePkt .lost 0) [] active rfl rfl rfl
  have acknowledged : strayAck.ackIn 0 0 0 = t := Host.Outcome.next.inj ran
  subst acknowledged
  exact strayAck_ackIn_belayed (touched.2 Port.TRM_BELAYED (by decide))

/-! ## A sync at a port that is listed twice (O21)

A state's sparse maps are any lists of entries, and nothing in O21 asks for their canonical form.  A read takes the
first entry of a key (`Cells.rd`), and a write replaces the first (`Cells.wr`); the step of link time (R258) rebuilds the
ports by `Cells.mapVals`, which writes each entry in turn, so that the last one of a key stands.  Where port 0 is listed
twice, the step of link time at a member's first sync (R257) puts the second entry in the place of the one that took the
frame.  In a map in canonical form no key is listed twice, so what fails here is the statement's silence on that form. -/

/-- A member waits for its first sync with an empty calendar, port 0 is ACTIVE and listed twice: the first entry expects
HSEQ 0, the second 5. -/
def portTwice : State :=
  { State.reset with
    regs := [(Port.UTV_STAT, inFld 17 15 1 ||| inFld 8 6 1), (Port.UTV_P_STAT 0, inFld 17 15 5)],
    utv := { Utvis.reset with ports := [(0, UPort.down), (0, { UPort.down with rxHseq := 5 })] } }

/-- The SYNC of period 1, HSEQ 0, from a masthead at position 0 and link time 0. -/
def syncOne : UFrame := sealFrame ([inFld 17 15 4, 0, 0, inFld 11 0 2] ++ syncBody 0 0 0 false false 0 0 1)

theorem syncOne_ok : frameOk syncOne = true := by decide +kernel

/-- After the sync port 0 expects the second entry's HSEQ, not the one after the sync's. -/
theorem portTwice_syncIn_rxHseq : ((portTwice.syncIn 0 syncOne).uport 0).rxHseq ≠ (portTwice.uport 0).rxHseq + 1 := by
  decide +kernel

/-- Refutes O21: clause (8) has a member that takes the first good sync of a period expect the next HSEQ at that port;
from `portTwice` it expects what the port's second entry says. -/
theorem not_syncsAndTheMastheadRole : ¬ Obligations.SyncsAndTheMastheadRole := by
  unfold Obligations.SyncsAndTheMastheadRole
  intro h
  obtain ⟨-, -, -, -, -, -, -, taken, -⟩ := h portTwice
  have active : portTwice.lstate 0 = 5 := by decide +kernel
  have expected : fHseq syncOne = (portTwice.uport 0).rxHseq.toNat := by decide +kernel
  have member : portTwice.utvRole = 1 := by decide +kernel
  have newPeriod : ((fBody syncOne).getD 5 0).toNat ≠ portTwice.utv.period := by decide +kernel
  have noRelief : bitOf ((fBody syncOne).getD 4 0) 14 = false := by decide +kernel
  have holdsNone : portTwice.getB Port.UTV_SH_HOLD 17 = false := by decide +kernel
  obtain ⟨t, ran, -, counted, -⟩ := taken 0 syncOne active syncOne_ok expected member newPeriod noRelief holdsNone
  have followed : portTwice.syncIn 0 syncOne = t := Host.Outcome.next.inj ran
  subst followed
  exact portTwice_syncIn_rxHseq counted

end Sys2Proof.Machine

/-! The statements of 12_fuavo_core.md: the instructions of a core (O22 to O27) and the debugger (O28).  First the laws
that their proofs share: a core's registers and status, what a completed instruction leaves alone, and the run of a word
that was fetched. -/

namespace Sys2Proof.Machine

open Sys2Proof

/-! ## A core's registers (R273, R274) -/

theorem winIndex_inj (x : CoreState) {r q : BitVec 4} (hr : r.toNat < 12) (hq : q.toNat < 12)
    (h : winIndex x r.toNat = winIndex x q.toNat) : r = q := by
  unfold winIndex at h
  exact BitVec.eq_of_toNat_eq (by omega)

@[simp] theorem reg_setReg_same (x : CoreState) (r : BitVec 4) (v : Word) : (x.setReg r v).reg r = v := by
  by_cases window : r.toNat < 12
  · simp only [CoreState.setReg, CoreState.reg, if_pos window]
    exact Cells.rd_wr_same _ _ _ _
  · simp only [CoreState.setReg, CoreState.reg, if_neg window]
    exact Cells.rd_wr_same _ _ _ _

theorem reg_setReg_other (x : CoreState) {r q : BitVec 4} (v : Word) (h : r ≠ q) : (x.setReg r v).reg q = x.reg q := by
  unfold CoreState.setReg CoreState.reg
  by_cases hr : r.toNat < 12
  · rw [if_pos hr]
    by_cases hq : q.toNat < 12
    · rw [if_pos hq, if_pos hq]
      exact Cells.rd_wr_other _ _ _ fun same => h (winIndex_inj x hr hq same)
    · rw [if_neg hq, if_neg hq]; rfl
  · rw [if_neg hr]
    by_cases hq : q.toNat < 12
    · rw [if_pos hq, if_pos hq]; rfl
    · rw [if_neg hq, if_neg hq]
      exact Cells.rd_wr_other _ _ _ fun same => h (BitVec.eq_of_toNat_eq (by omega))

/-- A write of a register changes the two register files alone. -/
theorem setReg_files (x : CoreState) (r : BitVec 4) (v : Word) :
    ∃ win fixed, x.setReg r v = { x with win := win, fixed := fixed } := by
  unfold CoreState.setReg
  split
  · exact ⟨_, _, rfl⟩
  · exact ⟨_, _, rfl⟩

@[simp] theorem pc_setReg (x : CoreState) (r : BitVec 4) (v : Word) : (x.setReg r v).pc = x.pc := by
  obtain ⟨_, _, e⟩ := setReg_files x r v; rw [e]

@[simp] theorem cs_setReg (x : CoreState) (r : BitVec 4) (v : Word) : (x.setReg r v).cs = x.cs := by
  obtain ⟨_, _, e⟩ := setReg_files x r v; rw [e]

theorem phys_setReg (x : CoreState) (r : BitVec 4) (v : Word) {i : Nat}
    (outside : ∀ r : BitVec 4, r.toNat < 12 → winIndex x r.toNat ≠ i) : (x.setReg r v).phys i = x.phys i := by
  unfold CoreState.setReg
  split
  · exact Cells.rd_wr_other _ _ _ (outside r ‹_›)
  · rfl

/-! ## What a core keeps -/

theorem keepsBut_trans {x y z : CoreState} {l l' : List (BitVec 4)} (h : x.keepsBut l y) (k : y.keepsBut l' z) :
    x.keepsBut (l ++ l') z := by
  obtain ⟨reg, phys, wb, rest⟩ := h
  obtain ⟨reg', phys', wb', rest'⟩ := k
  have window (i : Nat) : winIndex y i = winIndex x i := by simp only [winIndex, wb]
  refine ⟨fun r out => ?_, fun i hi outside => ?_, wb'.trans wb, ?_⟩
  · rw [List.mem_append, not_or] at out
    rw [reg' r out.2, reg r out.1]
  · rw [phys' i hi (fun r hr => by rw [window]; exact outside r hr), phys i hi outside]
  · grind

theorem keepsBut_then {x y z : CoreState} {l : List (BitVec 4)} (h : x.keepsBut l y) (k : y.keepsBut [] z) :
    x.keepsBut l z := List.append_nil l ▸ keepsBut_trans h k

/-- The pc, the marks of the debugger and the shadow of EI are none of what `keepsBut` speaks of. -/
theorem keepsBut_control (x : CoreState) (pc : Word) (halted eiShadow resumed haltReq : Bool) (stepping : Nat) :
    x.keepsBut [] { x with pc := pc, halted := halted, eiShadow := eiShadow, resumed := resumed, haltReq := haltReq,
                           stepping := stepping } :=
  ⟨fun _ _ => rfl, fun _ _ _ => rfl, rfl, rfl, rfl, rfl, rfl, rfl, rfl, rfl, rfl, rfl, rfl, rfl, rfl, rfl, rfl, rfl,
    rfl⟩

theorem advance_keepsBut (x : CoreState) (words : Nat) : x.keepsBut [] (x.advance words) :=
  keepsBut_control x _ _ _ _ _ _

theorem setReg_keepsBut (x : CoreState) (r : BitVec 4) (v : Word) : x.keepsBut [r] (x.setReg r v) := by
  refine ⟨fun q out => reg_setReg_other x v fun same => out (by simp [same]), fun i _ => phys_setReg x r v, ?_⟩
  obtain ⟨win, fixed, e⟩ := setReg_files x r v
  rw [e]
  exact ⟨rfl, rfl, rfl, rfl, rfl, rfl, rfl, rfl, rfl, rfl, rfl, rfl, rfl, rfl, rfl, rfl, rfl⟩

/-! ## The flags in the status word (R281, R292) -/

theorem withFld_shift (w : Word) (hi v : Nat) (h : hi < 18) : withFld w hi 0 v >>> (hi + 1) = w >>> (hi + 1) := by
  apply BitVec.eq_of_getLsbD_eq
  intro i _
  rw [BitVec.getLsbD_ushiftRight, BitVec.getLsbD_ushiftRight, getLsbD_withFld _ _ _ _ _ h, if_neg (by omega)]

@[simp] theorem ofCs_toCs (f : Flags) (cs : Word) : Flags.ofCs (f.toCs cs) = f := by
  unfold Flags.ofCs Flags.toCs bitOf
  obtain ⟨z, n, c, v, t⟩ := f
  simp only [getLsbD_withFld _ _ _ _ _ (show 4 < 18 by decide)]
  cases z <;> cases n <;> cases c <;> cases v <;> cases t <;> rfl

@[simp] theorem flags_setFlags (x : CoreState) (f : Flags) : (x.setFlags f).flags = f := ofCs_toCs f x.cs

theorem setFlags_keepsBut (x : CoreState) (f : Flags) : x.keepsBut [] (x.setFlags f) :=
  ⟨fun _ _ => rfl, fun _ _ _ => rfl, rfl, rfl, withFld_shift x.cs 4 _ (by decide), rfl, rfl, rfl, rfl, rfl, rfl, rfl,
    rfl, rfl, rfl, rfl, rfl, rfl, rfl⟩

/-! ## What belongs to a core alone -/

@[simp] theorem core_updCore (s : State) (c : Core) (f : CoreState → CoreState) :
    (s.updCore c f).core c = f (s.core c) :=
  s.core_setCore c _

theorem coreOnly_refl (c : Core) (u : State) : State.coreOnly c u u := ⟨by cases c <;> rfl, fun _ _ => rfl⟩

theorem coreOnly_trans {c : Core} {s t u : State} (h : State.coreOnly c s t) (k : State.coreOnly c t u) :
    State.coreOnly c s u := by
  refine ⟨?_, fun p other => (k.2 p other).trans (h.2 p other)⟩
  rw [k.1, h.1]
  cases c <;> rfl

theorem updCore_coreOnly (u : State) (c : Core) (f : CoreState → CoreState) : State.coreOnly c u (u.updCore c f) :=
  ⟨by cases c <;> rfl, fun p _ => u.setCore_get c _ p⟩

theorem setF_coreOnly (u : State) (c : Core) (hi lo v : Nat) :
    State.coreOnly c u (u.setF (Port.DBG_STAT c.num) hi lo v) :=
  ⟨by cases c <;> rfl, fun _ other => u.get_setF_other hi lo v (Ne.symm other)⟩

theorem nextFree_coreOnly (c : Core) (u : State) : State.coreOnly c u u.nextFree := ⟨by cases c <;> rfl, fun _ _ => rfl⟩

theorem coreOnly_mem {c : Core} {s t : State} (h : State.coreOnly c s t) : t.mem = s.mem := by rw [h.1]; simp
theorem coreOnly_basin {c : Core} {s t : State} (h : State.coreOnly c s t) : t.basin = s.basin := by rw [h.1]; simp
theorem coreOnly_latch {c : Core} {s t : State} (h : State.coreOnly c s t) : t.latch = s.latch := by rw [h.1]; simp

theorem coreOnly_other {c : Core} {s t : State} (h : State.coreOnly c s t) : t.core c.other = s.core c.other := by
  rw [h.1]; cases c <;> rfl

/-! ## The end of an instruction (R293) -/

theorem core_haltCore (s : State) (c : Core) (cause : Nat) :
    (s.haltCore c cause).core c = { s.core c with halted := true, haltReq := false, stepping := 0 } := by
  simp [State.haltCore]

theorem haltCore_coreOnly (s : State) (c : Core) (cause : Nat) : State.coreOnly c s (s.haltCore c cause) :=
  coreOnly_trans (updCore_coreOnly s c _) (setF_coreOnly _ c 14 12 cause)

theorem cause_haltCore (s : State) (c : Core) {cause : Nat} (small : cause < 8) :
    (s.haltCore c cause).getF (Port.DBG_STAT c.num) 14 12 = cause :=
  (State.getF_setF_same _ _ _ _ _ (by decide)).trans (Nat.mod_eq_of_lt small)

/-- What a halt leaves: the core with its CAUSE, at its word, and all else as it was. -/
theorem haltCore_halted (s : State) (c : Core) {cause : Nat} (small : cause < 8) :
    ((s.haltCore c cause).core c).halted = true ∧ (s.haltCore c cause).getF (Port.DBG_STAT c.num) 14 12 = cause ∧
    ((s.haltCore c cause).core c).pc = (s.core c).pc ∧ (s.core c).keepsBut [] ((s.haltCore c cause).core c) ∧
    ((s.haltCore c cause).core c).cs = (s.core c).cs ∧ State.coreOnly c s (s.haltCore c cause) := by
  rw [core_haltCore]
  exact ⟨rfl, cause_haltCore s c small, rfl, keepsBut_control _ _ _ _ _ _ _, rfl, haltCore_coreOnly s c cause⟩

theorem retire_cases (s : State) (c : Core) : s.retire c = s ∨ ∃ cause, s.retire c = s.haltCore c cause := by
  unfold State.retire
  dsimp only
  split
  · exact .inl rfl
  split
  · exact .inr ⟨4, rfl⟩
  split
  · exact .inr ⟨1, rfl⟩
  · exact .inl rfl

theorem retire_coreOnly (s : State) (c : Core) : State.coreOnly c s (s.retire c) := by
  obtain e | ⟨cause, e⟩ := retire_cases s c
  · rw [e]; exact coreOnly_refl c s
  · rw [e]; exact haltCore_coreOnly s c cause

/-- A completed instruction leaves its core as it is but for the debugger's marks. -/
theorem core_retire (s : State) (c : Core) : ∃ halted haltReq stepping,
    (s.retire c).core c = { s.core c with halted := halted, haltReq := haltReq, stepping := stepping } := by
  obtain e | ⟨cause, e⟩ := retire_cases s c
  · exact ⟨_, _, _, by rw [e]⟩
  · exact ⟨_, _, _, by rw [e]; exact core_haltCore s c cause⟩

theorem retire_free {s : State} {c : Core} (step : (s.core c).stepping = 0) (req : (s.core c).haltReq = false) :
    s.retire c = s := by
  simp [State.retire, step, req]

theorem retire_halted {s : State} {c : Core} (h : (s.core c).halted = true) : s.retire c = s := by
  simp [State.retire, h]

theorem retire_waits {s : State} {c : Core} (h : (s.core c).apWait.isSome = true) : s.retire c = s := by
  simp [State.retire, h]

theorem retire_steps {s : State} {c : Core} (wait : (s.core c).apWait = none) (run : (s.core c).halted = false)
    (step : (s.core c).stepping ≠ 0) : s.retire c = s.haltCore c 4 := by
  simp [State.retire, wait, run, step]

section retired
variable (s : State) (c : Core)

@[simp] theorem reg_retire (r : BitVec 4) : ((s.retire c).core c).reg r = (s.core c).reg r := by
  obtain ⟨_, _, _, e⟩ := core_retire s c; rw [e]; rfl

@[simp] theorem pc_retire : ((s.retire c).core c).pc = (s.core c).pc := by
  obtain ⟨_, _, _, e⟩ := core_retire s c; rw [e]

@[simp] theorem cs_retire : ((s.retire c).core c).cs = (s.core c).cs := by
  obtain ⟨_, _, _, e⟩ := core_retire s c; rw [e]

@[simp] theorem wb_retire : ((s.retire c).core c).wb = (s.core c).wb := by
  obtain ⟨_, _, _, e⟩ := core_retire s c; rw [e]

@[simp] theorem res_retire : ((s.retire c).core c).res = (s.core c).res := by
  obtain ⟨_, _, _, e⟩ := core_retire s c; rw [e]

@[simp] theorem tcause_retire : ((s.retire c).core c).tcause = (s.core c).tcause := by
  obtain ⟨_, _, _, e⟩ := core_retire s c; rw [e]

@[simp] theorem taddr_retire : ((s.retire c).core c).taddr = (s.core c).taddr := by
  obtain ⟨_, _, _, e⟩ := core_retire s c; rw [e]

@[simp] theorem tword0_retire : ((s.retire c).core c).tword0 = (s.core c).tword0 := by
  obtain ⟨_, _, _, e⟩ := core_retire s c; rw [e]

@[simp] theorem tword1_retire : ((s.retire c).core c).tword1 = (s.core c).tword1 := by
  obtain ⟨_, _, _, e⟩ := core_retire s c; rw [e]

@[simp] theorem eiShadow_retire : ((s.retire c).core c).eiShadow = (s.core c).eiShadow := by
  obtain ⟨_, _, _, e⟩ := core_retire s c; rw [e]

@[simp] theorem waiting_retire : ((s.retire c).core c).waiting = (s.core c).waiting := by
  obtain ⟨_, _, _, e⟩ := core_retire s c; rw [e]

@[simp] theorem mem_retire : (s.retire c).mem = s.mem := coreOnly_mem (retire_coreOnly s c)
@[simp] theorem basin_retire : (s.retire c).basin = s.basin := coreOnly_basin (retire_coreOnly s c)
@[simp] theorem latch_retire : (s.retire c).latch = s.latch := coreOnly_latch (retire_coreOnly s c)

theorem keepsBut_retire {x : CoreState} {l : List (BitVec 4)} (h : x.keepsBut l (s.core c)) :
    x.keepsBut l ((s.retire c).core c) := by
  obtain ⟨_, _, _, e⟩ := core_retire s c
  rw [e]
  exact keepsBut_then h (keepsBut_control _ _ _ _ _ _ _)

end retired

/-! ## The run of a word that was fetched (R287, R310) -/

/-- The core once its word begins: the shadow of EI and a passed breakpoint are over. -/
def CoreState.begun (x : CoreState) : CoreState := { x with eiShadow := false, resumed := false }

/-- The state in which a fetched instruction acts. -/
def State.begun (u : State) (c : Core) : State := u.updCore c CoreState.begun

@[simp] theorem core_begun (u : State) (c : Core) : (u.begun c).core c = (u.core c).begun := core_updCore u c _

theorem begun_coreOnly (u : State) (c : Core) : State.coreOnly c u (u.begun c) := updCore_coreOnly u c _

theorem begun_keepsBut (x : CoreState) : x.keepsBut [] x.begun := keepsBut_control x _ _ _ _ _ _

/-- A core that executes its next word acts on the fetched state, and the instruction completes. -/
theorem coreRun_done {s u t : State} {c : Core} {words : Nat} (h : s.fetched c words = some u)
    {f : State → Option State} (act : f (u.begun c) = some t) : s.coreRun c words f = t.retire c := by
  have act : f (u.updCore c fun x => { x with eiShadow := false, resumed := false }) = some t := act
  unfold State.fetched at h
  unfold State.coreRun
  split at h
  · simp at h
  rename_i ready
  rw [if_neg ready]
  dsimp only
  split at h
  · rename_i fetch
    rw [fetch]
    dsimp only
    split at h
    · rename_i one
      obtain rfl := Option.some.inj h
      rw [if_pos one, act]
    · rename_i two
      rw [if_neg two]
      split at h
      · rename_i second
        obtain rfl := Option.some.inj h
        rw [second]
        dsimp only
        rw [act]
      · simp at h
  · simp at h

/-- The state that an instruction of its core alone leaves, `g` being what it makes of the core. -/
def State.ran (u : State) (c : Core) (g : CoreState → CoreState) : State := ((u.begun c).updCore c g).retire c

theorem coreRun_ran {s u : State} {c : Core} {words : Nat} (h : s.fetched c words = some u)
    (g : CoreState → CoreState) :
    (s.coreRun c words fun t => some (t.updCore c g)) = u.ran c g := coreRun_done h rfl

section ran
variable (u : State) (c : Core) (g : CoreState → CoreState)

theorem ran_coreOnly : State.coreOnly c u (u.ran c g) :=
  coreOnly_trans (coreOnly_trans (begun_coreOnly u c) (updCore_coreOnly _ c _)) (retire_coreOnly _ c)

theorem core_ran : ∃ halted haltReq stepping, (u.ran c g).core c =
    { g (u.core c).begun with halted := halted, haltReq := haltReq, stepping := stepping } := by
  obtain ⟨_, _, _, e⟩ := core_retire ((u.begun c).updCore c g) c
  rw [core_updCore, core_begun] at e
  exact ⟨_, _, _, e⟩

theorem ran_reg (r : BitVec 4) : ((u.ran c g).core c).reg r = (g (u.core c).begun).reg r := by
  obtain ⟨_, _, _, e⟩ := core_ran u c g; rw [e]; rfl

theorem ran_cs : ((u.ran c g).core c).cs = (g (u.core c).begun).cs := by
  obtain ⟨_, _, _, e⟩ := core_ran u c g; rw [e]

theorem ran_pc : ((u.ran c g).core c).pc = (g (u.core c).begun).pc := by
  obtain ⟨_, _, _, e⟩ := core_ran u c g; rw [e]

theorem ran_wb : ((u.ran c g).core c).wb = (g (u.core c).begun).wb := by
  obtain ⟨_, _, _, e⟩ := core_ran u c g; rw [e]

theorem ran_res : ((u.ran c g).core c).res = (g (u.core c).begun).res := by
  obtain ⟨_, _, _, e⟩ := core_ran u c g; rw [e]

theorem ran_keepsBut {l : List (BitVec 4)} (keeps : (u.core c).begun.keepsBut l (g (u.core c).begun)) :
    (u.core c).keepsBut l ((u.ran c g).core c) := by
  obtain ⟨_, _, _, e⟩ := core_ran u c g
  rw [e]
  exact keepsBut_then (keepsBut_trans (begun_keepsBut _) keeps) (keepsBut_control _ _ _ _ _ _ _)

end ran

/-- An instruction of the core's own registers (`alu`) that was fetched. -/
theorem alu_ran {s u : State} {c : Core} {words : Nat} (h : s.fetched c words = some u) (f : CoreState → CoreState) :
    s.alu c words f = u.ran c fun x => (f x).advance words := coreRun_ran h _

section alu
variable {s u : State} {c : Core} {words : Nat} (h : s.fetched c words = some u)
include h

theorem alu_coreOnly (f : CoreState → CoreState) : State.coreOnly c u (s.alu c words f) :=
  alu_ran h f ▸ ran_coreOnly u c _

theorem alu_keepsBut {f : CoreState → CoreState} {l : List (BitVec 4)}
    (keeps : (u.core c).begun.keepsBut l (f (u.core c).begun)) : (u.core c).keepsBut l ((s.alu c words f).core c) :=
  alu_ran h f ▸ ran_keepsBut u c _ (keepsBut_then keeps (advance_keepsBut _ words))

theorem alu_reg (f : CoreState → CoreState) (r : BitVec 4) :
    ((s.alu c words f).core c).reg r = (f (u.core c).begun).reg r := alu_ran h f ▸ ran_reg u c _ r

theorem alu_cs (f : CoreState → CoreState) : ((s.alu c words f).core c).cs = (f (u.core c).begun).cs :=
  alu_ran h f ▸ ran_cs u c _

theorem alu_flags (f : CoreState → CoreState) : ((s.alu c words f).core c).flags = (f (u.core c).begun).flags :=
  congrArg Flags.ofCs (alu_cs h f)

theorem alu_pc (f : CoreState → CoreState) :
    ((s.alu c words f).core c).pc = (f (u.core c).begun).pc + BitVec.ofNat 18 words := alu_ran h f ▸ ran_pc u c _

/-- An operation that keeps the pc goes on to the next word. -/
theorem alu_wentOn {f : CoreState → CoreState} {l : List (BitVec 4)}
    (keeps : (u.core c).begun.keepsBut l (f (u.core c).begun)) (pc : (f (u.core c).begun).pc = (u.core c).pc) :
    State.wentOn c words l u (s.alu c words f) :=
  ⟨alu_coreOnly h f, alu_keepsBut h keeps, by rw [alu_pc h, pc]⟩

end alu

/-! ## Results in a register with their flags (R280, R281) -/

/-- The result of a sum, a difference or a product with the flags that R281 gives it: Z and N of the result, C and V as
given, T as before. -/
def flagged (f : Flags) (r : Word) (c v : Bool) : Word × Flags := (r, ⟨decide (r = 0), r.msb, c, v, f.t⟩)

theorem addFlags_clear (f : Flags) (x y : Word) : addFlags f x y false =
    flagged f (x + y) (decide (2 ^ 18 ≤ x.toNat + y.toNat + 0)) (overflows (x.toInt + y.toInt + 0)) := by
  simp [addFlags, flagged, Flags.zn, nat1]

theorem subFlags_clear (f : Flags) (x y : Word) : subFlags f x y false =
    flagged f (x - y) (decide (y.toNat + 0 ≤ x.toNat)) (overflows (x.toInt - y.toInt - 0)) := by
  simp [subFlags, flagged, Flags.zn, nat1]

/-- A carry or a borrow as a word. -/
theorem carry_word (b : Bool) : (if b then 1 else 0 : Word) = BitVec.ofNat 18 (nat1 b) := by cases b <;> rfl

theorem addFlags_carry (f : Flags) (x y : Word) (cin : Bool) : addFlags f x y cin =
    flagged f (x + y + BitVec.ofNat 18 (nat1 cin)) (decide (2 ^ 18 ≤ x.toNat + y.toNat + nat1 cin))
      (overflows (x.toInt + y.toInt + nat1 cin)) := by
  simp only [addFlags, flagged, Flags.zn, carry_word]

theorem subFlags_borrow (f : Flags) (x y : Word) (bin : Bool) : subFlags f x y bin =
    flagged f (x - y - BitVec.ofNat 18 (nat1 bin)) (decide (y.toNat + nat1 bin ≤ x.toNat))
      (overflows (x.toInt - y.toInt - nat1 bin)) := by
  simp only [subFlags, flagged, Flags.zn, carry_word]

theorem toInt_simm8 (imm : BitVec 8) : (simm8 imm).toInt = imm.toInt := BitVec.toInt_signExtend_of_le (by decide)

theorem addFlags_simm8 (f : Flags) (x : Word) (imm : BitVec 8) : addFlags f x (simm8 imm) false =
    flagged f (x + imm.signExtend 18) (decide (2 ^ 18 ≤ x.toNat + (imm.signExtend 18).toNat))
      (overflows (x.toInt + imm.toInt)) := by
  rw [addFlags_clear, toInt_simm8, Nat.add_zero, Int.add_zero]; rfl

/-- NEG: only 0 leaves no borrow, and only the most negative word has no negative of 18 bits. -/
theorem subFlags_neg (f : Flags) (x : Word) :
    subFlags f 0 x false = flagged f (0 - x) (decide (x = 0)) (decide (x = 0o400000)) := by
  have carry : x.toNat + 0 ≤ (0 : Word).toNat ↔ x = 0 := by bv_omega
  have lost : overflows ((0 : Word).toInt - x.toInt - 0) = decide (x = 0o400000) := by
    have least : x = 0o400000 ↔ x.toInt = -131072 := by
      rw [← BitVec.toInt_inj]; rfl
    have low := BitVec.le_toInt x
    have high := BitVec.toInt_lt (x := x)
    have zero : (0 : Word).toInt = 0 := rfl
    simp only [overflows, least, zero]
    grind
  rw [subFlags_clear, lost]
  simp only [carry]

section put
variable {s u : State} {c : Core} (h : s.fetched c 1 = some u)
include h

/-- An instruction that puts a result with its flags in a register. -/
theorem alu_put (rd : BitVec 4) (g : CoreState → Word × Flags) {r : Word × Flags} (result : g (u.core c).begun = r) :
    State.wentOn c 1 [rd] u (s.alu c 1 fun x => x.put rd (g x)) ∧
    ((s.alu c 1 fun x => x.put rd (g x)).core c).reg rd = r.1 ∧
    ((s.alu c 1 fun x => x.put rd (g x)).core c).flags = r.2 := by
  subst result
  refine ⟨alu_wentOn h (keepsBut_then (setReg_keepsBut _ rd _) (setFlags_keepsBut _ _)) (pc_setReg _ rd _), ?_, ?_⟩
  · rw [alu_reg h]; exact reg_setReg_same _ rd _
  · rw [alu_flags h]; exact flags_setFlags _ _

/-- An instruction that changes the flags alone. -/
theorem alu_setFlags (g : CoreState → Flags) :
    State.wentOn c 1 [] u (s.alu c 1 fun x => x.setFlags (g x)) ∧
    ((s.alu c 1 fun x => x.setFlags (g x)).core c).flags = g (u.core c).begun :=
  ⟨alu_wentOn h (setFlags_keepsBut _ _) rfl, by rw [alu_flags h]; exact flags_setFlags _ _⟩

end put

/-! ## Comparisons (R280) -/

/-- What CMP makes of the flags: those of the difference, and T by the condition on them. -/
def cmpFlags (f : Flags) (x y : Word) (cond : BitVec 4) : Flags :=
  { (subFlags f x y false).2 with t := condHolds (subFlags f x y false).2 cond }

/-- What CMPI makes of the flags: those of the difference, and T by Z. -/
def cmpiFlags (f : Flags) (x : Word) (imm : BitVec 8) : Flags :=
  { (subFlags f x (simm8 imm) false).2 with t := (subFlags f x (simm8 imm) false).2.z }

/-- The flags of a difference, Z as equality. -/
theorem subFlags_compare (f : Flags) (x y : Word) : (subFlags f x y false).2 =
    ⟨decide (x = y), (x - y).msb, decide (y.toNat ≤ x.toNat), overflows (x.toInt - y.toInt), f.t⟩ := by
  have equal : x - y = 0 ↔ x = y := sub_eq_zero
  simp only [subFlags_clear, flagged, equal, Nat.add_zero, Int.sub_zero]

theorem cmpFlags_eq (f : Flags) (x y : Word) (cond : BitVec 4) : cmpFlags f x y cond =
    ⟨decide (x = y), (x - y).msb, decide (y.toNat ≤ x.toNat), overflows (x.toInt - y.toInt),
      condHolds ⟨decide (x = y), (x - y).msb, decide (y.toNat ≤ x.toNat), overflows (x.toInt - y.toInt), f.t⟩
        cond⟩ := by
  simp only [cmpFlags, subFlags_compare]

theorem cmpiFlags_eq (f : Flags) (x : Word) (imm : BitVec 8) : cmpiFlags f x imm =
    ⟨decide (x = imm.signExtend 18), (x - imm.signExtend 18).msb, decide ((imm.signExtend 18).toNat ≤ x.toNat),
      overflows (x.toInt - imm.toInt), decide (x = imm.signExtend 18)⟩ := by
  simp only [cmpiFlags, subFlags_compare, toInt_simm8]
  rfl

/-- Settles O22: each result with its flags is `flagged` of R281's carry and overflow. -/
theorem sumsAndDifferencesSetFlags : Obligations.SumsAndDifferencesSetFlags := by
  unfold Obligations.SumsAndDifferencesSetFlags
  intro s
  refine ⟨fun c rd ra rb x y u h hx hy => ⟨_, rfl, ?add⟩, fun c rd ra rb x y u h hx hy => ⟨_, rfl, ?sub⟩,
    fun c rd ra rb x y u h hx hy => ⟨_, rfl, ?adc⟩, fun c rd ra rb x y u h hx hy => ⟨_, rfl, ?sbc⟩,
    fun c rd imm x u h hx => ⟨_, rfl, ?addi⟩, fun c rd ra x u h hx => ⟨_, rfl, ?neg⟩,
    fun c cond ra rb x y u h hx hy => ⟨_, rfl, ?cmp⟩, fun c ra imm x u h hx => ⟨_, rfl, ?cmpi⟩⟩
  case add =>
    subst hx hy
    exact alu_put h rd (fun x => addFlags x.flags (x.reg ra) (x.reg rb) false) (addFlags_clear _ _ _)
  case sub =>
    subst hx hy
    exact alu_put h rd (fun x => subFlags x.flags (x.reg ra) (x.reg rb) false) (subFlags_clear _ _ _)
  case adc =>
    subst hx hy
    exact alu_put h rd (fun x => addFlags x.flags (x.reg ra) (x.reg rb) x.flags.c) (addFlags_carry _ _ _ _)
  case sbc =>
    subst hx hy
    exact alu_put h rd (fun x => subFlags x.flags (x.reg ra) (x.reg rb) (!x.flags.c)) (subFlags_borrow _ _ _ _)
  case addi =>
    subst hx
    exact alu_put h rd (fun x => addFlags x.flags (x.reg rd) (simm8 imm) false) (addFlags_simm8 _ _ _)
  case neg =>
    subst hx
    exact alu_put h rd (fun x => subFlags x.flags 0 (x.reg ra) false) (subFlags_neg _ _)
  case cmp =>
    subst hx hy
    obtain ⟨went, flags⟩ := alu_setFlags h fun x => cmpFlags x.flags (x.reg ra) (x.reg rb) cond
    exact ⟨went, flags.trans (cmpFlags_eq _ _ _ _)⟩
  case cmpi =>
    subst hx
    obtain ⟨went, flags⟩ := alu_setFlags h fun x => cmpiFlags x.flags (x.reg ra) imm
    exact ⟨went, flags.trans (cmpiFlags_eq _ _ _)⟩

/-! ## Products (R280, R281) -/

theorem mulFlags_eq (f : Flags) (x y : Word) : mulFlags f x y =
    flagged f (x * y) (decide (2 ^ 18 ≤ x.toNat * y.toNat)) (overflows (x.toInt * y.toInt)) := rfl

theorem keepsBut_mono {x y : CoreState} {l l' : List (BitVec 4)} (h : x.keepsBut l y) (sub : ∀ r ∈ l, r ∈ l') :
    x.keepsBut l' y :=
  ⟨fun r out => h.1 r fun mem => out (sub r mem), h.2⟩

/-- The product that MULX forms: signed for an odd destination, unsigned for an even one. -/
def mulxProduct (rd : BitVec 4) (x y : Word) : Int :=
  if rd.getLsbD 0 then x.toInt * y.toInt else (x.toNat * y.toNat : Int)

/-- Either product of two words has 36 bits: signed it lies above -2^35, and it lies below 2^36. -/
theorem mulxProduct_bounds (rd : BitVec 4) (x y : Word) :
    -34359738368 < mulxProduct rd x y ∧ mulxProduct rd x y < 68719476736 := by
  unfold mulxProduct
  split
  · have hx : |x.toInt| ≤ 131072 := abs_le.mpr ⟨BitVec.le_toInt x, (BitVec.toInt_lt (x := x)).le.trans (by norm_num)⟩
    have hy : |y.toInt| ≤ 131072 := abs_le.mpr ⟨BitVec.le_toInt y, (BitVec.toInt_lt (x := y)).le.trans (by norm_num)⟩
    have product : |x.toInt * y.toInt| ≤ 131072 * 131072 := by
      rw [abs_mul]; exact mul_le_mul hx hy (abs_nonneg _) (by norm_num)
    have := abs_le.mp product
    omega
  · have product : x.toNat * y.toNat < 262144 * 262144 := Nat.mul_lt_mul'' x.isLt y.isLt
    have : (x.toNat * y.toNat : Int) = ((x.toNat * y.toNat : Nat) : Int) := by norm_cast
    omega

theorem mulxFlags_eq (f : Flags) (rd : BitVec 4) (x y : Word) : mulxFlags f (rd.getLsbD 0) x y =
    (BitVec.ofInt 36 (mulxProduct rd x y), ⟨decide (mulxProduct rd x y = 0),
      decide (mulxProduct rd x y % 68719476736 ≥ 34359738368), false, false, f.t⟩) := by
  have word : (if rd.getLsbD 0 then BitVec.ofInt 36 (x.toInt * y.toInt) else BitVec.ofNat 36 (x.toNat * y.toNat)) =
      BitVec.ofInt 36 (mulxProduct rd x y) := by
    unfold mulxProduct
    split
    · rfl
    · rw [← Int.natCast_mul, BitVec.ofInt_natCast]
  have bounds := mulxProduct_bounds rd x y
  have zero : BitVec.ofInt 36 (mulxProduct rd x y) = 0 ↔ mulxProduct rd x y = 0 := by
    rw [← BitVec.toNat_inj, BitVec.toNat_ofInt, show (0 : BitVec 36).toNat = 0 from rfl]
    norm_num
    omega
  have sign : (BitVec.ofInt 36 (mulxProduct rd x y)).msb = decide (mulxProduct rd x y % 68719476736 ≥ 34359738368) := by
    rw [BitVec.msb_eq_decide, BitVec.toNat_ofInt]
    norm_num
    omega
  simp only [mulxFlags, word, zero, sign]

/-- The pair of MULX is its destination and the register beside it. -/
theorem mulx_pair (rd : BitVec 4) :
    ∀ r ∈ [if rd.getLsbD 0 then rd - 1 else rd] ++ [(if rd.getLsbD 0 then rd - 1 else rd) + 1],
      r ∈ [rd, if rd.getLsbD 0 then rd - 1 else rd + 1] := by
  revert rd; decide

theorem low_ofInt (p : Int) : (BitVec.ofInt 36 p).extractLsb' 0 18 = BitVec.ofInt 18 p := by
  apply BitVec.eq_of_toNat_eq
  rw [BitVec.extractLsb'_toNat, BitVec.toNat_ofInt, BitVec.toNat_ofInt, Nat.shiftRight_zero]
  norm_num
  omega

theorem high_ofInt (p : Int) : (BitVec.ofInt 36 p).extractLsb' 18 18 = BitVec.ofInt 18 (p / 262144) := by
  apply BitVec.eq_of_toNat_eq
  rw [BitVec.extractLsb'_toNat, BitVec.toNat_ofInt, BitVec.toNat_ofInt, Nat.shiftRight_eq_div_pow]
  norm_num
  omega

/-! ## Shifts (R282) -/

/-- What R282 says of the result `r` of a shift of `x` by `n` and of its flags `g`, those before being `f`; C of LSL and
LSR by exactly 18 is left out. -/
def ShiftGives (f : Flags) (kind : BitVec 2) (n : Nat) (x r : Word) (g : Flags) : Prop :=
  r = (if n = 0 then x else if kind = 0 then x <<< n else if kind = 1 then x >>> n
    else if kind = 2 then x.sshiftRight n else x.rotateRight (n % 18)) ∧
  g.z = decide (r = 0) ∧ g.n = r.msb ∧ g.v = f.v ∧ g.t = f.t ∧ (n = 0 → g.c = f.c) ∧
  (0 < n → n < 18 → kind = 0 → g.c = bitOf x (18 - n)) ∧
  (0 < n → n < 18 → kind = 1 ∨ kind = 2 → g.c = bitOf x (n - 1)) ∧
  (18 < n → kind = 0 ∨ kind = 1 → g.c = false) ∧ (18 ≤ n → kind = 2 → g.c = x.msb)

theorem sshiftRight_min (x : Word) (n : Nat) : x.sshiftRight (min n 18) = x.sshiftRight n := by
  by_cases small : n ≤ 18
  · rw [Nat.min_eq_left small]
  · apply BitVec.eq_of_getLsbD_eq
    intro i _
    rw [BitVec.getLsbD_sshiftRight, BitVec.getLsbD_sshiftRight, if_neg (by omega), if_neg (by omega)]

theorem shiftFlags_gives (f : Flags) (kind : BitVec 2) (n : Nat) (x : Word) :
    ShiftGives f kind n x (shiftFlags f kind n x).1 (shiftFlags f kind n x).2 := by
  unfold shiftFlags ShiftGives
  by_cases none : n = 0
  · simp [none, Flags.zn]
  simp only [none, if_false]
  by_cases lsl : kind = 0
  · have result : (if n < 18 then x <<< n else 0) = x <<< n := by
      split
      · rfl
      · exact (BitVec.shiftLeft_eq_zero (by omega)).symm
    subst lsl
    simp only [if_true, result, Flags.zn]
    grind
  by_cases lsr : kind = 1
  · have result : (if n < 18 then x >>> n else 0) = x >>> n := by
      split
      · rfl
      · exact (BitVec.ushiftRight_eq_zero (by omega)).symm
    subst lsr
    simp only [lsl, if_true, if_false, result, Flags.zn]
    grind
  by_cases asr : kind = 2
  · subst asr
    simp only [lsl, lsr, if_true, if_false, sshiftRight_min, Flags.zn]
    grind
  · simp only [lsl, lsr, asr, if_false, Flags.zn]
    grind

section shift
variable {s u : State} {c : Core} (h : s.fetched c 1 = some u)
include h

/-- An instruction that shifts a register by an amount of the core's registers. -/
theorem alu_shift (rd : BitVec 4) (kind : BitVec 2) (amount : CoreState → Nat) :
    State.wentOn c 1 [rd] u (s.alu c 1 fun x => x.put rd (shiftFlags x.flags kind (amount x) (x.reg rd))) ∧
    ShiftGives (u.core c).flags kind (amount (u.core c).begun) ((u.core c).reg rd)
      (((s.alu c 1 fun x => x.put rd (shiftFlags x.flags kind (amount x) (x.reg rd))).core c).reg rd)
      ((s.alu c 1 fun x => x.put rd (shiftFlags x.flags kind (amount x) (x.reg rd))).core c).flags := by
  obtain ⟨went, reg, flags⟩ := alu_put h rd (fun x => shiftFlags x.flags kind (amount x) (x.reg rd)) rfl
  refine ⟨went, ?_⟩
  rw [reg, flags]
  exact shiftFlags_gives _ _ _ _

/-- MULX writes its product into the pair of `rd`, low word first. -/
theorem alu_mulx (rd ra rb : BitVec 4) {p : Int} (hp : mulxProduct rd ((u.core c).reg ra) ((u.core c).reg rb) = p) :
    State.wentOn c 1 [rd, if rd.getLsbD 0 then rd - 1 else rd + 1] u (s.opMulx c rd ra rb) ∧
    ((s.opMulx c rd ra rb).core c).reg (if rd.getLsbD 0 then rd - 1 else rd) = BitVec.ofInt 18 p ∧
    ((s.opMulx c rd ra rb).core c).reg ((if rd.getLsbD 0 then rd - 1 else rd) + 1) = BitVec.ofInt 18 (p / 262144) ∧
    ((s.opMulx c rd ra rb).core c).flags =
      ⟨decide (p = 0), decide (p % 68719476736 ≥ 34359738368), false, false, (u.core c).flags.t⟩ := by
  have product := mulxFlags_eq (u.core c).begun.flags rd ((u.core c).begun.reg ra) ((u.core c).begun.reg rb)
  rw [show mulxProduct rd ((u.core c).begun.reg ra) ((u.core c).begun.reg rb) = p from hp] at product
  have apart (r : BitVec 4) : r + 1 ≠ r := by revert r; decide
  refine ⟨alu_wentOn h (keepsBut_mono (keepsBut_then (keepsBut_trans (setReg_keepsBut _ _ _) (setReg_keepsBut _ _ _))
    (setFlags_keepsBut _ _)) (mulx_pair rd)) ?pc, ?low, ?high, ?flags⟩
  case pc => exact (pc_setReg _ _ _).trans (pc_setReg _ _ _)
  case low =>
    refine (alu_reg h _ _).trans ((reg_setReg_other _ _ (apart _)).trans ((reg_setReg_same _ _ _).trans ?_))
    rw [product]; exact low_ofInt p
  case high =>
    refine (alu_reg h _ _).trans ((reg_setReg_same _ _ _).trans ?_)
    rw [product]; exact high_ofInt p
  case flags =>
    refine (alu_flags h _).trans ((flags_setFlags _ _).trans ?_)
    rw [product]; rfl

end shift

/-- Settles O23, a shift's result and flags by the kinds of `shiftFlags_gives`, MULX's by the bounds of its product. -/
theorem productsAndShiftsSetFlags : Obligations.ProductsAndShiftsSetFlags := by
  unfold Obligations.ProductsAndShiftsSetFlags
  intro s
  refine ⟨fun c rd ra rb x y u h hx hy => ⟨_, rfl, ?mul⟩, fun c rd ra rb x y p u h hx hy hp => ⟨_, rfl, ?mulx⟩,
    fun c rd kind n x u h hx => ⟨_, rfl, ?shi⟩, fun c rd kind rb n x u h hx hn => ⟨_, rfl, ?shv⟩⟩
  case mul => subst hx hy; exact alu_put h rd (fun x => mulFlags x.flags (x.reg ra) (x.reg rb)) (mulFlags_eq _ _ _)
  case mulx => subst hx hy; exact alu_mulx h rd ra rb hp
  case shi => subst hx; exact alu_shift h rd kind fun _ => n.toNat
  case shv => subst hx hn; exact alu_shift h rd kind fun x => fld (x.reg rb) 5 0

/-! ## Values of the unary operations (R280) -/

theorem swapped_nonets (x : Word) : ofNonets (nonets x).2 (nonets x).1 = x.rotateLeft 9 := by
  apply BitVec.eq_of_getLsbD_eq
  intro i hi
  simp only [ofNonets, nonets, BitVec.getLsbD_append, BitVec.getLsbD_extractLsb', BitVec.getLsbD_rotateLeft]
  grind

theorem low_nonet (x : Word) : (nonets x).2 = x.setWidth 9 := by
  apply BitVec.eq_of_getLsbD_eq
  intro i hi
  simp [nonets, BitVec.getLsbD_extractLsb', BitVec.getLsbD_setWidth]

theorem masked_nonet (x : Word) : x &&& 0o000777 = (x.setWidth 9).setWidth 18 := by
  apply BitVec.eq_of_toNat_eq
  rw [BitVec.toNat_and, BitVec.toNat_setWidth_of_le (by decide), BitVec.toNat_setWidth]
  exact Nat.and_two_pow_sub_one_eq_mod x.toNat 9

/-- The number of leading zeros is the `n` for which the value has at most, and if any then exactly, 18 - n bits. -/
theorem clzWord_eq {x : Word} {n : Nat} (small : n ≤ 18) (upper : x.toNat < 2 ^ (18 - n))
    (lower : n = 18 ∨ 2 ^ (17 - n) ≤ x.toNat) : clzWord x = n := by
  unfold clzWord
  by_cases all : n = 18
  · have zero : x = 0 := by
      subst all
      exact BitVec.eq_of_toNat_eq (by simpa using upper)
    rw [if_pos zero, all]
  · have least := lower.resolve_left all
    have positive : x.toNat ≠ 0 := (lt_of_lt_of_le (Nat.two_pow_pos _) least).ne'
    have length : x.toNat.log2 = 17 - n :=
      (Nat.log2_eq_iff positive).mpr ⟨least, by rwa [show 17 - n + 1 = 18 - n by omega]⟩
    rw [if_neg (fun zero => positive (congrArg BitVec.toNat zero)), length]
    omega

/-- CLZ's result and flags. -/
def clzFlags (f : Flags) (x : Word) : Word × Flags :=
  (BitVec.ofNat 18 (clzWord x), { f with z := decide (BitVec.ofNat 18 (clzWord x) = 0), n := false })

theorem clzFlags_eq (f : Flags) {x : Word} {n : Nat} (small : n ≤ 18) (count : clzWord x = n) :
    clzFlags f x = (BitVec.ofNat 18 n, ⟨decide (n = 0), false, f.c, f.v, f.t⟩) := by
  have zero : BitVec.ofNat 18 n = 0 ↔ n = 0 := by
    rw [← BitVec.toNat_inj, BitVec.toNat_ofNat, Nat.mod_eq_of_lt (by omega)]; rfl
  simp only [clzFlags, count, zero]

section
variable {s u : State} {c : Core}

/-- An instruction that puts a result in a register and sets Z and N by it. -/
theorem alu_logic (h : s.fetched c 1 = some u) (rd : BitVec 4) (g : CoreState → Word) {r : Word}
    (result : g (u.core c).begun = r) :
    State.wentOn c 1 [rd] u (s.alu c 1 fun x => x.logic rd (g x)) ∧
    ((s.alu c 1 fun x => x.logic rd (g x)).core c).reg rd = r ∧
    ((s.alu c 1 fun x => x.logic rd (g x)).core c).flags =
      ⟨decide (r = 0), r.msb, (u.core c).flags.c, (u.core c).flags.v, (u.core c).flags.t⟩ := by
  subst result
  exact alu_put h rd (fun x => (g x, x.flags.zn (g x))) rfl

/-- An instruction that moves a value to a register keeps the status. -/
theorem alu_setReg {words : Nat} (h : s.fetched c words = some u) (rd : BitVec 4) (g : CoreState → Word) :
    State.wentOn c words [rd] u (s.alu c words fun x => x.setReg rd (g x)) ∧
    ((s.alu c words fun x => x.setReg rd (g x)).core c).reg rd = g (u.core c).begun ∧
    ((s.alu c words fun x => x.setReg rd (g x)).core c).cs = (u.core c).cs :=
  ⟨alu_wentOn h (setReg_keepsBut _ rd _) (pc_setReg _ rd _), (alu_reg h _ _).trans (reg_setReg_same _ rd _),
    (alu_cs h _).trans (cs_setReg _ rd _)⟩

/-- An instruction whose operation changes nothing goes on. -/
theorem alu_same (h : s.fetched c 1 = some u) {f : CoreState → CoreState}
    (same : f (u.core c).begun = (u.core c).begun) :
    State.wentOn c 1 [] u (s.alu c 1 f) ∧ ((s.alu c 1 f).core c).cs = (u.core c).cs :=
  ⟨alu_wentOn h (same.symm ▸ keepsBut_control _ _ _ _ _ _ _) ((congrArg CoreState.pc same).trans rfl),
    (alu_cs h f).trans ((congrArg CoreState.cs same).trans rfl)⟩

end

/-- The value of a short operation by its code (R278). -/
theorem shortValue_eq {x : CoreState} {op : BitVec 8} {a b v : Word}
    (ha : x.reg ((op.extractLsb' 3 3).setWidth 4) = a) (hb : x.reg ((op.extractLsb' 0 3).setWidth 4) = b)
    (value : (op.extractLsb' 6 2 = 0 → v = b) ∧ (op.extractLsb' 6 2 = 1 → v = a + b) ∧
      (op.extractLsb' 6 2 = 2 → v = a - b) ∧ (op.extractLsb' 6 2 = 3 → v = a &&& b)) : shortValue x op = v := by
  obtain ⟨copy, sum, difference, both⟩ := value
  subst ha hb
  have codes (k : BitVec 2) : k = 0 ∨ k = 1 ∨ k = 2 ∨ k = 3 := by revert k; decide
  obtain k | k | k | k := codes (op.extractLsb' 6 2)
  · rw [copy k]; simp [shortValue, shortReg, k]
  · rw [sum k]; simp [shortValue, shortReg, k]
  · rw [difference k]; simp [shortValue, shortReg, k]
  · rw [both k]; simp [shortValue, shortReg, k]

/-- A short pair that runs writes both results, the second over the first. -/
theorem opPair_runs {s u : State} {c : Core} (h : s.fetched c 1 = some u) (op1 op2 : BitVec 8) {cond : Bool}
    (runs : cond = false ∨ (u.core c).flags.t = true) :
    State.wentOn c 1 [shortDest op1, shortDest op2] u (s.opPair c op1 op2 cond) ∧
    ((s.opPair c op1 op2 cond).core c).cs = (u.core c).cs ∧
    ((s.opPair c op1 op2 cond).core c).reg (shortDest op2) = shortValue (u.core c) op2 ∧
    (shortDest op1 ≠ shortDest op2 →
      ((s.opPair c op1 op2 cond).core c).reg (shortDest op1) = shortValue (u.core c) op1) := by
  have unconditional : ¬ (cond && !(u.core c).begun.flags.t) = true := by
    obtain e | e := runs
    · simp [e]
    · simp [show (u.core c).begun.flags.t = true from e]
  have acts : (if cond && !(u.core c).begun.flags.t then (u.core c).begun
      else ((u.core c).begun.setReg (shortDest op1) (shortValue (u.core c).begun op1)).setReg (shortDest op2)
        (shortValue (u.core c).begun op2)) = _ := if_neg unconditional
  refine ⟨alu_wentOn h ?keeps ?pc, (alu_cs h _).trans ?cs, (alu_reg h _ _).trans ?second, fun apart =>
    (alu_reg h _ _).trans ?first⟩
  case keeps => rw [acts]; exact keepsBut_trans (setReg_keepsBut _ _ _) (setReg_keepsBut _ _ _)
  case pc => rw [acts]; exact (pc_setReg _ _ _).trans (pc_setReg _ _ _)
  case cs => rw [acts]; exact (cs_setReg _ _ _).trans (cs_setReg _ _ _)
  case second => rw [acts]; exact reg_setReg_same _ _ _
  case first => rw [acts]; exact (reg_setReg_other _ _ (Ne.symm apart)).trans (reg_setReg_same _ _ _)

/-- Settles O24: a logic result goes to its register with Z and N, a move keeps the status, a pair writes twice. -/
theorem logicAndMovesKeepCarryAndOverflow : Obligations.LogicAndMovesKeepCarryAndOverflow := by
  unfold Obligations.LogicAndMovesKeepCarryAndOverflow
  intro s
  refine ⟨fun c rd ra rb x y u h hx hy => ⟨_, rfl, ?and⟩, fun c rd ra rb x y u h hx hy => ⟨_, rfl, ?or⟩,
    fun c rd ra rb x y u h hx hy => ⟨_, rfl, ?xor⟩, fun c rd ra x u h hx => ⟨_, rfl, ?not⟩,
    fun c rd ra x u h hx => ⟨_, rfl, ?swn⟩, fun c rd ra x u h hx => ⟨_, rfl, ?sxn⟩,
    fun c rd ra x u h hx => ⟨_, rfl, ?zxn⟩, fun c rd ra x n u h hx small upper lower => ⟨_, rfl, ?clz⟩,
    fun c rd ra x u h hx => ⟨_, rfl, ?mov⟩, fun c rd imm u h => ⟨_, rfl, ?movi⟩, fun c rd imm u h => ⟨_, rfl, ?movw⟩,
    fun c ra x u h hx => ⟨_, rfl, ?tnz⟩, fun c u h => ⟨_, rfl, ?sett⟩, fun c u h => ⟨_, rfl, ?clrt⟩,
    fun c u h => ⟨_, rfl, ?nop⟩, fun c u h => ⟨_, rfl, ?fence⟩,
    fun c op1 op2 cond u h given clear => ⟨_, rfl, ?skipped⟩,
    fun c op1 op2 cond a b v v1 u h runs ha hb value first => ⟨_, rfl, ?pair⟩⟩
  case and => subst hx hy; exact alu_logic h rd (fun x => x.reg ra &&& x.reg rb) rfl
  case or => subst hx hy; exact alu_logic h rd (fun x => x.reg ra ||| x.reg rb) rfl
  case xor => subst hx hy; exact alu_logic h rd (fun x => x.reg ra ^^^ x.reg rb) rfl
  case not => subst hx; exact alu_logic h rd (fun x => ~~~(x.reg ra)) rfl
  case swn =>
    subst hx; exact alu_logic h rd (fun x => ofNonets (nonets (x.reg ra)).2 (nonets (x.reg ra)).1) (swapped_nonets _)
  case sxn =>
    subst hx
    exact alu_logic h rd (fun x => (nonets (x.reg ra)).2.signExtend 18) (congrArg (BitVec.signExtend 18) (low_nonet _))
  case zxn => subst hx; exact alu_logic h rd (fun x => x.reg ra &&& 0o000777) (masked_nonet _)
  case clz =>
    subst hx
    obtain ⟨went, reg, flags⟩ := alu_put h rd (fun x => clzFlags x.flags (x.reg ra))
      (clzFlags_eq (u.core c).flags small (clzWord_eq small upper lower))
    exact ⟨went, (congrArg BitVec.toNat reg).trans (Nat.mod_eq_of_lt (by omega)), flags⟩
  case mov => subst hx; exact alu_setReg h rd fun x => x.reg ra
  case movi => exact alu_setReg h rd fun _ => simm8 imm
  case movw => exact alu_setReg h rd fun _ => imm
  case tnz => subst hx; exact alu_setFlags h fun x => { x.flags with t := decide (x.reg ra ≠ 0) }
  case sett => exact alu_setFlags h fun x => { x.flags with t := true }
  case clrt => exact alu_setFlags h fun x => { x.flags with t := false }
  case nop => exact alu_same h rfl
  case fence => exact alu_same h rfl
  case skipped => exact alu_same h (if_pos (by rw [given]; exact congrArg (!·) clear))
  case pair =>
    obtain ⟨went, cs, second, one⟩ := opPair_runs h op1 op2 runs
    exact ⟨went, cs, second.trans (shortValue_eq ha hb value), fun apart => (one apart).trans first⟩

/-! ## Entries into a handler (R276, R289) -/

section trapCause
variable (free : Word) (n : Nat) (kind arg : Option Nat)

theorem trapCause_number (small : n < 64) : fld (trapCause free n kind arg) 17 12 = n := by
  rw [trapCause, fld_or, fld_or, fld_inFld_same _ _ _ (by decide), fld_inFld_apart _ _ _ _ _ (by decide) (by decide),
    fld_inFld_apart _ _ _ _ _ (by decide) (by decide), Nat.or_zero, Nat.or_zero]
  exact Nat.mod_eq_of_lt small

theorem trapCause_kind {k : Nat} (small : k < 8) : fld (trapCause free n (some k) arg) 11 9 = k := by
  rw [trapCause, fld_or, fld_or, fld_inFld_apart _ _ _ _ _ (by decide) (by decide), fld_inFld_same _ _ _ (by decide),
    fld_inFld_apart _ _ _ _ _ (by decide) (by decide), Nat.or_zero, Nat.zero_or]
  exact Nat.mod_eq_of_lt small

theorem trapCause_arg {a : Nat} (small : a < 256) : fld (trapCause free n kind (some a)) 7 0 = a := by
  rw [trapCause, fld_or, fld_or, fld_inFld_apart _ _ _ _ _ (by decide) (by decide),
    fld_inFld_apart _ _ _ _ _ (by decide) (by decide), fld_inFld_same _ _ _ (by decide), Nat.zero_or, Nat.zero_or]
  exact Nat.mod_eq_of_lt small

end trapCause

/-- An entry changes the registers of the window it slides to, the window, the pc and WAIT. -/
theorem enter_files (x : CoreState) (ret target : Word) : ∃ win fixed, x.enter ret target =
    { x with win := win, fixed := fixed, wb := x.wb + 1, res := x.res + 1, pc := target, waiting := false } := by
  obtain ⟨win, fixed, e⟩ := setReg_files x.slide 11 ret
  obtain ⟨win', fixed', e'⟩ := setReg_files (x.slide.setReg 11 ret) 10 x.cs
  refine ⟨win', fixed', ?_⟩
  unfold CoreState.enter
  rw [e', e]
  rfl

theorem reg_enter_return (x : CoreState) (ret target : Word) : (x.enter ret target).reg 11 = ret :=
  (reg_setReg_other _ _ (by decide)).trans (reg_setReg_same _ _ _)

theorem reg_enter_status (x : CoreState) (ret target : Word) : (x.enter ret target).reg 10 = x.cs :=
  reg_setReg_same _ _ _

section trap
variable (s : State) (c : Core) (t : TrapInfo)

/-- The core after a trap's entry. -/
theorem core_trapNow : (s.trapNow c t).core c =
    { ((s.core c).enter t.ret ((s.core c).vector t.n)).setIe false with
      tcause := trapCause s.freeWord t.n t.kind t.arg, taddr := t.addr.getD (s.core c).taddr,
      tword0 := (t.words.map Prod.fst).getD (s.core c).tword0,
      tword1 := (t.words.map Prod.snd).getD (s.core c).tword1 } := by
  obtain ⟨win, fixed, e⟩ := enter_files (s.core c) t.ret ((s.core c).vector t.n)
  simp only [State.trapNow, State.nextFree_core, core_updCore, e]
  rfl

theorem trapNow_coreOnly : State.coreOnly c s (s.trapNow c t) :=
  coreOnly_trans (updCore_coreOnly s c _) (nextFree_coreOnly c _)

theorem trapNow_trapped (small : t.n < 64) : State.trapped c t.n t.ret s (s.trapNow c t) := by
  obtain ⟨win, fixed, e⟩ := enter_files (s.core c) t.ret ((s.core c).vector t.n)
  have status := reg_enter_status (s.core c) t.ret ((s.core c).vector t.n)
  have ret := reg_enter_return (s.core c) t.ret ((s.core c).vector t.n)
  refine ⟨⟨?pc, ?wb, ?res, ?ret, ?status, trapNow_coreOnly s c t⟩, ?masked, ?number⟩ <;> rw [core_trapNow]
  case pc => rw [e]; rfl
  case wb => rw [e]; rfl
  case res => rw [e]; rfl
  case ret => exact ret
  case status => exact status
  case masked => exact fld_withFld_same _ 17 17 0 (by decide)
  case number => exact trapCause_number _ _ _ _ small

end trap

theorem trapped_coreOnly {c : Core} {n : Nat} {ret : Word} {s t : State} (h : State.trapped c n ret s t) :
    State.coreOnly c s t := h.1.2.2.2.2.2

theorem trapped_mem {c : Core} {n : Nat} {ret : Word} {s t : State} (h : State.trapped c n ret s t) : t.mem = s.mem :=
  coreOnly_mem (trapped_coreOnly h)

theorem trapped_retire {c : Core} {n : Nat} {ret : Word} {s t : State} (h : State.trapped c n ret s t) :
    State.trapped c n ret s (t.retire c) := by
  obtain ⟨⟨pc, wb, res, lk, cs, only⟩, off, number⟩ := h
  exact ⟨⟨(pc_retire t c).trans pc, (wb_retire t c).trans wb, (res_retire t c).trans res, (reg_retire t c 11).trans lk,
    (reg_retire t c 10).trans cs, coreOnly_trans only (retire_coreOnly t c)⟩,
    (congrArg (fld · 17 17) (cs_retire t c)).trans off,
    (congrArg (fld · 17 12) (tcause_retire t c)).trans number⟩

/-- A trap taken at the begin of the instruction is one against the fetched state. -/
theorem trapped_begun {c : Core} {n : Nat} {ret : Word} {u t : State} (h : State.trapped c n ret (u.begun c) t) :
    State.trapped c n ret u t := by
  obtain ⟨⟨pc, wb, res, lk, cs, only⟩, off, number⟩ := h
  rw [core_begun] at pc wb res cs
  exact ⟨⟨pc, wb, res, lk, cs, coreOnly_trans (begun_coreOnly u c) only⟩, off, number⟩

theorem trapTo_room {s : State} {c : Core} (room : (s.core c).res.toNat < 14) (t : TrapInfo) :
    s.trapTo c t = s.trapNow c t := by
  have not15 : (s.core c).res ≠ 15 := by bv_omega
  have not14 : (s.core c).res ≠ 14 := by bv_omega
  rw [State.trapTo, if_neg not15, if_neg fun full => not14 full.1]

theorem trapTo_full {s : State} {c : Core} (full : (s.core c).res = 14) {t : TrapInfo} (other : t.n ≠ 1) :
    s.trapTo c t = s.trapNow c (winOvf (s.core c).pc) := by
  have not15 : (s.core c).res ≠ 15 := by bv_omega
  rw [State.trapTo, if_neg not15, if_pos ⟨full, other⟩]

theorem trapTo_winOvf {s : State} {c : Core} (full : (s.core c).res = 14) (ret : Word) :
    s.trapTo c (winOvf ret) = s.trapNow c (winOvf ret) := by
  have not15 : (s.core c).res ≠ 15 := by bv_omega
  rw [State.trapTo, if_neg not15, if_neg fun both => both.2 rfl]

/-- What a trap of the instruction leaves once it completes. -/
theorem trapNow_done (u : State) (c : Core) (t : TrapInfo) (small : t.n < 64) :
    State.trapped c t.n t.ret u (((u.begun c).trapNow c t).retire c) ∧
    (((u.begun c).trapNow c t).retire c).mem = u.mem :=
  have trapped := trapped_begun (trapped_retire (trapNow_trapped (u.begun c) c t small))
  ⟨trapped, trapped_mem trapped⟩

/-! ## The sliding window (R275) -/

theorem reg_ofNat (x : CoreState) {i : Nat} (h : i < 12) : x.reg (BitVec.ofNat 4 i) = x.phys (winIndex x i) := by
  have number : (BitVec.ofNat 4 i).toNat = i := by simp; omega
  rw [CoreState.reg, number, if_pos h]

theorem reg_slide (x : CoreState) {i : Nat} (h : i < 6) :
    x.slide.reg (BitVec.ofNat 4 i) = x.reg (BitVec.ofNat 4 (i + 6)) := by
  have index : winIndex x.slide i = winIndex x (i + 6) := by
    have window : (x.wb + 1).toNat = (x.wb.toNat + 1) % 16 := BitVec.toNat_add _ _
    simp only [winIndex, CoreState.slide, window]; omega
  rw [reg_ofNat _ (by omega), reg_ofNat _ (by omega), index]
  rfl

theorem reg_unslide (x : CoreState) {i : Nat} (h : i < 6) :
    x.unslide.reg (BitVec.ofNat 4 (i + 6)) = x.reg (BitVec.ofNat 4 i) := by
  have index : winIndex x.unslide (i + 6) = winIndex x i := by
    have window : (x.wb - 1).toNat = (15 + x.wb.toNat) % 16 := BitVec.toNat_sub _ _
    simp only [winIndex, CoreState.unslide, window]; omega
  rw [reg_ofNat _ (by omega), reg_ofNat _ (by omega), index]
  rfl

/-! ## Branches, calls and returns (R275, R276, R280) -/

section branch
variable {s u : State} {c : Core} {words : Nat} (h : s.fetched c words = some u)
include h

/-- A branch: the core's operation changes nothing but its pc. -/
theorem alu_branch {f : CoreState → CoreState} {pc : Word}
    (acts : f (u.core c).begun = { (u.core c).begun with pc := pc }) :
    State.coreOnly c u (s.alu c words f) ∧ (u.core c).keepsBut [] ((s.alu c words f).core c) ∧
    ((s.alu c words f).core c).cs = (u.core c).cs ∧ ((s.alu c words f).core c).pc = pc + BitVec.ofNat 18 words := by
  refine ⟨alu_coreOnly h f, alu_keepsBut h ?keeps, (alu_cs h f).trans ?cs, (alu_pc h f).trans ?pc⟩ <;> rw [acts]
  case keeps => exact keepsBut_control _ _ _ _ _ _ _
  case cs => rfl

end branch

/-- A jump goes on at its address, and changes nothing but the pc. -/
theorem jump_ran (u : State) (c : Core) (target : Word) :
    State.coreOnly c u (u.ran c fun x => { x with pc := target }) ∧
    (u.core c).keepsBut [] ((u.ran c fun x => { x with pc := target }).core c) ∧
    ((u.ran c fun x => { x with pc := target }).core c).cs = (u.core c).cs ∧
    ((u.ran c fun x => { x with pc := target }).core c).pc = target :=
  ⟨ran_coreOnly u c _, ran_keepsBut u c _ (keepsBut_control _ _ _ _ _ _ _), ran_cs u c _, ran_pc u c _⟩

/-- What a call makes of the core: the window slides, w5 takes the return address. -/
def CoreState.called (x : CoreState) (words : Nat) (target : Word) : CoreState :=
  { x.slide.setReg 5 (x.pc + BitVec.ofNat 18 words) with pc := target }

theorem callTo_room {s : State} {c : Core} (words : Nat) (target : Word) (room : (s.core c).res.toNat < 14) :
    s.callTo c words target = s.updCore c fun x => x.called words target := by
  rw [State.callTo, if_neg (by omega)]
  simp only [State.updCore, CoreState.called]

theorem callTo_full {s : State} {c : Core} (words : Nat) (target : Word) (full : (s.core c).res = 14) :
    s.callTo c words target = s.trapNow c (winOvf (s.core c).pc) := by
  rw [State.callTo, if_pos (by rw [full]; decide), trapTo_winOvf full]

/-- A call goes to its target with the window slid by one frame: the caller's w6 to w10 show as w0 to w4. -/
theorem called_ran (u : State) (c : Core) (words : Nat) (target : Word) :
    ((u.ran c fun x => x.called words target).core c).pc = target ∧
    ((u.ran c fun x => x.called words target).core c).wb = (u.core c).wb + 1 ∧
    ((u.ran c fun x => x.called words target).core c).res = (u.core c).res + 1 ∧
    ((u.ran c fun x => x.called words target).core c).reg 5 = (u.core c).pc + BitVec.ofNat 18 words ∧
    (List.range 5).all (fun i => ((u.ran c fun x => x.called words target).core c).reg (BitVec.ofNat 4 i) ==
      (u.core c).reg (BitVec.ofNat 4 (i + 6))) = true ∧
    ((u.ran c fun x => x.called words target).core c).cs = (u.core c).cs ∧
    State.coreOnly c u (u.ran c fun x => x.called words target) := by
  obtain ⟨win, fixed, files⟩ := setReg_files (u.core c).begun.slide 5 ((u.core c).begun.pc + BitVec.ofNat 18 words)
  refine ⟨ran_pc u c _, (ran_wb u c _).trans ?wb, (ran_res u c _).trans ?res, (ran_reg u c _ 5).trans ?link, ?shown,
    (ran_cs u c _).trans (cs_setReg _ _ _), ran_coreOnly u c _⟩
  case wb => exact (congrArg CoreState.wb files).trans rfl
  case res => exact (congrArg CoreState.res files).trans rfl
  case link => exact reg_setReg_same _ _ _
  case shown =>
    rw [List.all_eq_true]
    intro i hi
    have small : i < 5 := List.mem_range.mp hi
    have apart : (5 : BitVec 4) ≠ BitVec.ofNat 4 i := by bv_omega
    rw [beq_iff_eq, ran_reg]
    exact (reg_setReg_other _ _ apart).trans (reg_slide _ (by omega))

/-- A return shows w0 to w4 as the caller's w6 to w10 again. -/
theorem unslid_shows (x y : CoreState) (win : y.win = x.win) (wb : y.wb = x.wb - 1) :
    (List.range 5).all (fun i => y.reg (BitVec.ofNat 4 (i + 6)) == x.reg (BitVec.ofNat 4 i)) = true := by
  rw [List.all_eq_true]
  intro i hi
  have small : i < 5 := List.mem_range.mp hi
  have same : y.reg (BitVec.ofNat 4 (i + 6)) = x.unslide.reg (BitVec.ofNat 4 (i + 6)) := by
    rw [reg_ofNat _ (by omega), reg_ofNat _ (by omega)]
    simp only [winIndex, CoreState.phys, wb, win]
    rfl
  rw [beq_iff_eq, same, reg_unslide _ (by omega)]

/-- RET and RETI slide the window back, and change the pc and the status beside it. -/
theorem unslid_ran (u : State) (c : Core) (pc cs : CoreState → Word) :
    ((u.ran c fun x => { x.unslide with pc := pc x, cs := cs x }).core c).pc = pc (u.core c).begun ∧
    ((u.ran c fun x => { x.unslide with pc := pc x, cs := cs x }).core c).cs = cs (u.core c).begun ∧
    ((u.ran c fun x => { x.unslide with pc := pc x, cs := cs x }).core c).wb = (u.core c).wb - 1 ∧
    ((u.ran c fun x => { x.unslide with pc := pc x, cs := cs x }).core c).res = (u.core c).res - 1 ∧
    (List.range 5).all (fun i => ((u.ran c fun x => { x.unslide with pc := pc x, cs := cs x }).core c).reg
      (BitVec.ofNat 4 (i + 6)) == (u.core c).reg (BitVec.ofNat 4 i)) = true ∧
    State.coreOnly c u (u.ran c fun x => { x.unslide with pc := pc x, cs := cs x }) := by
  refine ⟨ran_pc u c _, ran_cs u c _, ran_wb u c _, ran_res u c _, ?_, ran_coreOnly u c _⟩
  obtain ⟨_, _, _, e⟩ := core_ran u c fun x => { x.unslide with pc := pc x, cs := cs x }
  rw [e]
  exact unslid_shows _ _ rfl rfl

/-- WIN_UNF of a RET or RETI with RES 1. -/
theorem winUnf_done (u : State) {c : Core} (last : (u.core c).res = 1) :
    State.trapped c 2 (u.core c).pc u (((u.begun c).winUnf c).retire c) ∧
    (((u.begun c).winUnf c).retire c).mem = u.mem := by
  have room : ((u.begun c).core c).res.toNat < 14 := by rw [core_begun, show (u.core c).begun.res = 1 from last]; decide
  rw [State.winUnf, trapTo_room room, core_begun]
  exact trapNow_done u c _ (show 2 < 64 by decide)

section operations
variable {s u : State} {c : Core}

theorem opB_taken (h : s.fetched c 1 = some u) {cond : BitVec 4} (off : BitVec 8)
    (holds : condHolds (u.core c).flags cond = true) :
    State.coreOnly c u (s.opB c cond off) ∧ (u.core c).keepsBut [] ((s.opB c cond off).core c) ∧
    ((s.opB c cond off).core c).cs = (u.core c).cs ∧
    ((s.opB c cond off).core c).pc = (u.core c).pc + 1 + off.signExtend 18 := by
  obtain ⟨only, keeps, cs, pc⟩ := alu_branch h
    (f := fun x => if condHolds x.flags cond then { x with pc := x.pc + simm8 off } else x) (if_pos holds)
  exact ⟨only, keeps, cs, pc.trans (add_right_comm ..)⟩

theorem opB_passed (h : s.fetched c 1 = some u) {cond : BitVec 4} (off : BitVec 8)
    (fails : ¬ condHolds (u.core c).flags cond = true) :
    State.coreOnly c u (s.opB c cond off) ∧ (u.core c).keepsBut [] ((s.opB c cond off).core c) ∧
    ((s.opB c cond off).core c).cs = (u.core c).cs ∧ ((s.opB c cond off).core c).pc = (u.core c).pc + 1 :=
  alu_branch h (f := fun x => if condHolds x.flags cond then { x with pc := x.pc + simm8 off } else x) (if_neg fails)

/-- What DBNZ makes of the core before the pc goes on. -/
def CoreState.countedDown (x : CoreState) (rd : BitVec 4) (off : BitVec 8) : CoreState :=
  if x.reg rd - 1 = 0 then x.setReg rd (x.reg rd - 1)
  else { x.setReg rd (x.reg rd - 1) with pc := (x.setReg rd (x.reg rd - 1)).pc + simm8 off }

theorem countedDown_jumps (x : CoreState) (rd : BitVec 4) (off : BitVec 8) : x.countedDown rd off =
    { x.setReg rd (x.reg rd - 1) with pc := if x.reg rd = 1 then x.pc else x.pc + simm8 off } := by
  have last : x.reg rd - 1 = 0 ↔ x.reg rd = 1 := sub_eq_zero
  unfold CoreState.countedDown
  simp only [last, pc_setReg]
  split
  · rw [← pc_setReg x rd (x.reg rd - 1)]
  · rfl

theorem opDbnz_done (h : s.fetched c 1 = some u) (rd : BitVec 4) (off : BitVec 8) :
    State.coreOnly c u (s.opDbnz c rd off) ∧ (u.core c).keepsBut [rd] ((s.opDbnz c rd off).core c) ∧
    ((s.opDbnz c rd off).core c).cs = (u.core c).cs ∧ ((s.opDbnz c rd off).core c).reg rd = (u.core c).reg rd - 1 ∧
    ((s.opDbnz c rd off).core c).pc =
      (if (u.core c).reg rd = 1 then (u.core c).pc + 1 else (u.core c).pc + 1 + off.signExtend 18) := by
  have jumps := countedDown_jumps (u.core c).begun rd off
  refine ⟨alu_coreOnly h _, alu_keepsBut h (f := fun x => x.countedDown rd off) ?keeps,
    (alu_cs h fun x => x.countedDown rd off).trans ?cs, (alu_reg h (fun x => x.countedDown rd off) rd).trans ?reg,
    (alu_pc h fun x => x.countedDown rd off).trans ?pc⟩ <;> rw [jumps]
  case keeps => exact keepsBut_then (setReg_keepsBut _ rd _) (keepsBut_control _ _ _ _ _ _ _)
  case cs => exact cs_setReg _ _ _
  case reg => exact reg_setReg_same _ _ _
  case pc =>
    change (if (u.core c).reg rd = 1 then (u.core c).pc else (u.core c).pc + simm8 off) + 1 = _
    split
    · rfl
    · exact add_right_comm ..

theorem opJmp_ran (h : s.fetched c 1 = some u) (ra : BitVec 4) :
    s.opJmp c ra = u.ran c fun x => { x with pc := (u.core c).reg ra } := by
  refine coreRun_done h (congrArg some ?_)
  rw [core_begun]; rfl

theorem opJmpl_ran (h : s.fetched c 2 = some u) (addr : Word) :
    s.opJmpl c addr = u.ran c fun x => { x with pc := addr } := coreRun_done h rfl

theorem opCall_room (h : s.fetched c 1 = some u) (ra : BitVec 4) (room : (u.core c).res.toNat < 14) :
    s.opCall c ra = u.ran c fun x => x.called 1 ((u.core c).reg ra) := by
  refine coreRun_done h (congrArg some ?_)
  rw [core_begun]
  exact callTo_room 1 _ (by rwa [core_begun])

theorem opCalll_room (h : s.fetched c 2 = some u) (addr : Word) (room : (u.core c).res.toNat < 14) :
    s.opCalll c addr = u.ran c fun x => x.called 2 addr :=
  coreRun_done h (congrArg some (callTo_room 2 addr (by rwa [core_begun])))

/-- CALL and CALLL with RES 14 take WIN_OVF at the call. -/
theorem callTo_overflows (u : State) {c : Core} (words : Nat) (target : Word) (full : (u.core c).res = 14) :
    State.trapped c 1 (u.core c).pc u (((u.begun c).callTo c words target).retire c) ∧
    (((u.begun c).callTo c words target).retire c).mem = u.mem := by
  rw [callTo_full words target (by rwa [core_begun]), core_begun]
  exact trapNow_done u c (winOvf (u.core c).pc) (show 1 < 64 by decide)

theorem opCall_full (h : s.fetched c 1 = some u) (ra : BitVec 4) (full : (u.core c).res = 14) :
    State.trapped c 1 (u.core c).pc u (s.opCall c ra) ∧ (s.opCall c ra).mem = u.mem := by
  have run : s.opCall c ra = ((u.begun c).callTo c 1 (((u.begun c).core c).reg ra)).retire c := coreRun_done h rfl
  rw [run]
  exact callTo_overflows u 1 _ full

theorem opCalll_full (h : s.fetched c 2 = some u) (addr : Word) (full : (u.core c).res = 14) :
    State.trapped c 1 (u.core c).pc u (s.opCalll c addr) ∧ (s.opCalll c addr).mem = u.mem := by
  have run : s.opCalll c addr = ((u.begun c).callTo c 2 addr).retire c := coreRun_done h rfl
  rw [run]
  exact callTo_overflows u 2 addr full

theorem opRet_more (h : s.fetched c 1 = some u) (more : (u.core c).res ≠ 1) :
    s.opRet c = u.ran c fun x => { x.unslide with pc := x.reg 5, cs := x.cs } :=
  coreRun_done h (congrArg some (if_neg (by rwa [core_begun])))

theorem opRet_last (h : s.fetched c 1 = some u) (last : (u.core c).res = 1) :
    s.opRet c = ((u.begun c).winUnf c).retire c :=
  coreRun_done h (congrArg some (if_pos (by rwa [core_begun])))

theorem opReti_more (h : s.fetched c 1 = some u) (more : (u.core c).res ≠ 1) :
    s.opReti c = u.ran c fun x => { x.unslide with pc := x.reg 11, cs := x.reg 10 &&& csMask } :=
  coreRun_done h (congrArg some (if_neg (by rwa [core_begun])))

theorem opReti_last (h : s.fetched c 1 = some u) (last : (u.core c).res = 1) :
    s.opReti c = ((u.begun c).winUnf c).retire c :=
  coreRun_done h (congrArg some (if_pos (by rwa [core_begun])))

end operations

/-- Settles O26: each branch by what it makes of its core, each full or empty window by its trap. -/
theorem branchesCallsAndReturns : Obligations.BranchesCallsAndReturns := by
  unfold Obligations.BranchesCallsAndReturns
  intro s
  refine ⟨fun c cond off u h => ⟨_, rfl, ?b⟩, fun c rd off x u h hx => ⟨_, rfl, ?dbnz⟩, fun c ra u h => ⟨_, rfl, ?jmp⟩,
    fun c addr u h => ⟨_, rfl, ?jmpl⟩, fun c ra u h room => ⟨_, rfl, ?call⟩, fun c ra u h full => ⟨_, rfl, ?call_full⟩,
    fun c addr u h room => ⟨_, rfl, ?calll⟩, fun c addr u h full => ⟨_, rfl, ?calll_full⟩,
    fun c u h more => ⟨_, rfl, ?ret⟩, fun c u h last => ⟨_, rfl, ?ret_last⟩, fun c u h more => ⟨_, rfl, ?reti⟩,
    fun c u h last => ⟨_, rfl, ?reti_last⟩⟩
  case b =>
    by_cases holds : condHolds (u.core c).flags cond = true
    · obtain ⟨only, keeps, cs, pc⟩ := opB_taken h off holds
      exact ⟨only, keeps, cs, pc.trans (if_pos holds).symm⟩
    · obtain ⟨only, keeps, cs, pc⟩ := opB_passed h off holds
      exact ⟨only, keeps, cs, pc.trans (if_neg holds).symm⟩
  case dbnz => subst hx; exact opDbnz_done h rd off
  case jmp => rw [opJmp_ran h]; exact jump_ran u c _
  case jmpl => rw [opJmpl_ran h]; exact jump_ran u c addr
  case call => rw [opCall_room h ra room]; exact called_ran u c 1 _
  case call_full => exact opCall_full h ra full
  case calll => rw [opCalll_room h addr room]; exact called_ran u c 2 addr
  case calll_full => exact opCalll_full h addr full
  case ret =>
    obtain ⟨pc, cs, wb, res, shown, only⟩ := unslid_ran u c (fun x => x.reg 5) fun x => x.cs
    rw [opRet_more h more]
    exact ⟨pc, wb, res, cs, shown, only⟩
  case ret_last => rw [opRet_last h last]; exact winUnf_done u last
  case reti =>
    rw [opReti_more h more]
    exact unslid_ran u c (fun x => x.reg 11) fun x => x.reg 10 &&& csMask
  case reti_last => rw [opReti_last h last]; exact winUnf_done u last

/-! ## Reads of instruction space and the cores (R26, R316, R317) -/

section reach
variable (s : State) (d : Core) (x : CoreState)

theorem eraseSuspend_setCore : (s.setCore d x).eraseSuspend = s.eraseSuspend.setCore d x := by
  have erases (b : Nat) : (s.setCore d x).erasing b = s.erasing b := by cases d <;> rfl
  have runs : (s.setCore d x).ranMin = s.ranMin := by cases d <;> rfl
  have suspended : (s.setCore d x).getB 0x1000 16 = s.getB 0x1000 16 := by cases d <;> rfl
  unfold State.eraseSuspend
  rw [State.setCore_flc]
  cases s.flc.op with
  | none => rfl
  | some op =>
    dsimp only
    rw [erases, runs, suspended]
    split
    · rfl
    split
    · cases d <;> rfl
    split
    · cases d <;> rfl
    · rfl

theorem flashRd_setCore (b o : Nat) :
    (s.setCore d x).flashRd b o = ((s.flashRd b o).1, (s.flashRd b o).2.setCore d x) := by
  have undefined : (s.setCore d x).flashUndef b o = s.flashUndef b o := by cases d <;> rfl
  have bad : (s.setCore d x).flashBad b o = s.flashBad b o := by cases d <;> rfl
  unfold State.flashRd
  rw [undefined, bad, State.setCore_free]
  split
  · cases d <;> rfl
  split
  · rfl
  · cases d <;> rfl

/-- A read of flash takes no notice of a core and changes none. -/
theorem flashReach_setCore (b o : Nat) :
    (s.setCore d x).flashReach b o = ((s.flashReach b o).1, (s.flashReach b o).2.setCore d x) := by
  have up : (s.setCore d x).domOn 14 = s.domOn 14 := by cases d <;> rfl
  have scanned : (s.setCore d x).getB Port.FLC_STAT 0 = s.getB Port.FLC_STAT 0 := by cases d <;> rfl
  have suspended : (s.setCore d x).getB Port.FLC_STAT 16 = s.getB Port.FLC_STAT 16 := by cases d <;> rfl
  have erased : (s.setCore d x).inErase b o = s.inErase b o := by cases d <;> rfl
  have programs : (s.setCore d x).programming b = s.programming b := by cases d <;> rfl
  have erases : (s.setCore d x).erasing b = s.erasing b := by cases d <;> rfl
  have runs : (s.setCore d x).ranMin = s.ranMin := by cases d <;> rfl
  have read : (if s.erasing b then (s.setCore d x).eraseSuspend else s.setCore d x).flashRd b o =
      (((if s.erasing b then s.eraseSuspend else s).flashRd b o).1,
        ((if s.erasing b then s.eraseSuspend else s).flashRd b o).2.setCore d x) := by
    split
    · rw [eraseSuspend_setCore, flashRd_setCore]
    · exact flashRd_setCore s d x b o
  unfold State.flashReach
  rw [up, scanned, suspended, erased, programs, erases, runs, State.setCore_flc]
  split
  · rfl
  split
  · rfl
  split
  · rfl
  split
  · rfl
  dsimp only
  rw [read]
  obtain ⟨w | _, u⟩ := (if s.erasing b then s.eraseSuspend else s).flashRd b o
  · rfl
  · rfl

theorem codeReach_setCore (c : Core) (a : Word) :
    (s.setCore d x).codeReach c a = ((s.codeReach c a).1, (s.codeReach c a).2.setCore d x) := by
  have place : (s.setCore d x).codePlace c a = s.codePlace c a := by cases d <;> rfl
  unfold State.codeReach
  rw [State.setCore_rig, State.setCore_sec, place, flashReach_setCore]
  split
  · split
    · rfl
    · cases d <;> rfl
  split
  · rfl
  · rfl

end reach

theorem place_begun (u : State) (c d : Core) (a : Word) : (u.begun d).place c a = u.place c a := by
  cases d <;> rfl

theorem codeReach_begun {u : State} {c : Core} {a : Word} {r : Reach} (h : u.codeReach c a = (r, u)) :
    (u.begun c).codeReach c a = (r, u.begun c) := by
  rw [State.begun, State.updCore, codeReach_setCore, h]

/-- A read of instruction space leaves every core as it is. -/
theorem codeReach_core (s : State) (c : Core) (a : Word) (d : Core) : (s.codeReach c a).2.core d = s.core d := by
  have same := congrArg (fun r => r.2.core d) (codeReach_setCore s d (s.core d) c a)
  have self : s.setCore d (s.core d) = s := by cases d <;> rfl
  rw [self] at same
  exact same.trans (State.core_setCore _ _ _)

/-- A fetch leaves every core as it is. -/
theorem fetched_core {s u : State} {c : Core} {words : Nat} (h : s.fetched c words = some u) (d : Core) :
    u.core d = s.core d := by
  unfold State.fetched at h
  split at h
  · simp at h
  split at h
  · rename_i fetch
    have first := codeReach_core s c (s.core c).pc d
    rw [fetch] at first
    split at h
    · exact Option.some.inj h ▸ first
    split at h
    · rename_i t _ _ _ v fetch2
      have second := codeReach_core t c ((s.core c).pc + 1) d
      rw [fetch2] at second
      exact Option.some.inj h ▸ second.trans first
    · simp at h
  · simp at h

/-! ## Faults of an access (R289) -/

/-- A fault of the present instruction: the entry, its KIND and its address. -/
theorem faultAt_trapped {s : State} {c : Core} (room : (s.core c).res.toNat < 14) {n kind : Nat} (addr : Word)
    (number : n < 64) (small : kind < 8) :
    State.trapped c n (s.core c).pc s ((s.faultAt c n kind addr).retire c) ∧
    fld (((s.faultAt c n kind addr).retire c).core c).tcause 11 9 = kind ∧
    (((s.faultAt c n kind addr).retire c).core c).taddr = addr := by
  rw [State.faultAt, trapTo_room room, tcause_retire, taddr_retire, core_trapNow]
  exact ⟨trapped_retire (trapNow_trapped s c _ number), trapCause_kind _ _ _ small, rfl⟩

/-- A fault of an instruction that was fetched. -/
theorem fault_done {u : State} {c : Core} (room : (u.core c).res.toNat < 14) {n kind : Nat} (addr : Word)
    (number : n < 64) (small : kind < 8) :
    State.trapped c n (u.core c).pc u (((u.begun c).faultAt c n kind addr).retire c) ∧
    (((u.begun c).faultAt c n kind addr).retire c).mem = u.mem ∧
    fld ((((u.begun c).faultAt c n kind addr).retire c).core c).tcause 11 9 = kind ∧
    ((((u.begun c).faultAt c n kind addr).retire c).core c).taddr = addr := by
  have room : ((u.begun c).core c).res.toNat < 14 := by rwa [core_begun]
  obtain ⟨trapped, cause, address⟩ := faultAt_trapped room addr number small
  rw [core_begun] at trapped
  have trapped := trapped_begun trapped
  exact ⟨trapped, trapped_mem trapped, cause, address⟩

/-! ## Loads (R284, R300, R304) -/

section goneOn
variable {u t : State} {c : Core} (same : t.core c = (u.core c).begun) (words : Nat)
include same

/-- A core that an access left as it began goes on with its pc alone changed. -/
theorem moved_advance : State.moved c words [] u ((t.updCore c fun x => x.advance words).retire c) ∧
    (((t.updCore c fun x => x.advance words).retire c).core c).cs = (u.core c).cs := by
  have core : (t.updCore c fun x => x.advance words).core c = (u.core c).begun.advance words := by
    rw [core_updCore, same]
  refine ⟨⟨keepsBut_retire _ c ?_, ?_⟩, ?_⟩
  · rw [core]; exact keepsBut_then (begun_keepsBut _) (advance_keepsBut _ words)
  · rw [pc_retire, core]; rfl
  · rw [cs_retire, core]; rfl

/-- A core that an access left as it began takes the word in its register and goes on. -/
theorem moved_setReg (rd : BitVec 4) (v : Word) :
    State.moved c words [rd] u ((t.updCore c fun x => (x.setReg rd v).advance words).retire c) ∧
    (((t.updCore c fun x => (x.setReg rd v).advance words).retire c).core c).reg rd = v ∧
    (((t.updCore c fun x => (x.setReg rd v).advance words).retire c).core c).cs = (u.core c).cs := by
  have core : (t.updCore c fun x => (x.setReg rd v).advance words).core c =
      ((u.core c).begun.setReg rd v).advance words := by
    rw [core_updCore, same]
  refine ⟨⟨keepsBut_retire _ c ?_, ?_⟩, ?_, ?_⟩
  · rw [core]
    exact keepsBut_then (keepsBut_trans (begun_keepsBut _) (setReg_keepsBut _ rd v)) (advance_keepsBut _ words)
  · rw [pc_retire, core]
    exact congrArg (· + BitVec.ofNat 18 words) (pc_setReg _ rd v)
  · rw [reg_retire, core]; exact reg_setReg_same _ rd v
  · rw [cs_retire, core]; exact cs_setReg _ rd v

end goneOn

theorem sramRd_begun (u : State) (c : Core) (k : Nat) : (u.begun c).sramRd k = u.sramRd k := by cases c <;> rfl
theorem sramBad_begun (u : State) (c : Core) (k : Nat) : (u.begun c).sramBad k = u.sramBad k := by cases c <;> rfl
theorem slotWord_begun (u : State) (c : Core) (k i : Nat) : (u.begun c).slotWord k i = u.slotWord k i := by
  cases c <;> rfl
theorem cswOk_begun (u : State) (c : Core) (k i : Nat) : (u.begun c).cswOk c k i = u.cswOk c k i := by cases c <;> rfl
theorem mem_begun (u : State) (c : Core) : (u.begun c).mem = u.mem := u.setCore_mem c _
theorem get_begun (u : State) (c : Core) (p : Nat) : (u.begun c).get p = u.get p := u.setCore_get c _ p

section reads
variable {u : State} {c : Core} {a : Word}

theorem dataRead_none (marked : u.place c a = .none) : (u.begun c).dataRead c a = (.fault, u.begun c) := by
  rw [State.dataRead, place_begun, marked]

theorem dataRead_sram {k : Nat} (at_ : u.place c a = .sram k) (good : u.sramBad k ≠ 2) :
    (u.begun c).dataRead c a = (.done (u.sramRd k), u.begun c) := by
  rw [State.dataRead, place_begun, at_]
  simp only [State.sramReach, sramBad_begun, sramRd_begun, good, if_false, Reach.access]

theorem dataRead_bad {k : Nat} (at_ : u.place c a = .sram k) (bad : u.sramBad k = 2) :
    (u.begun c).dataRead c a = (.ecc, u.begun c) := by
  rw [State.dataRead, place_begun, at_]
  simp only [State.sramReach, sramBad_begun, bad, if_true, Reach.access]

theorem dataRead_csw {k i : Nat} (at_ : u.place c a = .csw k i) (good : u.sramBad (u.slotWord k i) ≠ 2) :
    (u.begun c).dataRead c a = (.done (u.sramRd (u.slotWord k i)), u.begun c) := by
  rw [State.dataRead, place_begun, at_]
  simp only [State.sramReach, slotWord_begun, sramBad_begun, sramRd_begun, good, if_false, Reach.access]

theorem dataRead_dram {b i : Nat} (at_ : u.place c a = .dram b i) :
    (u.begun c).dataRead c a = (.dram false b i, u.begun c) := by
  rw [State.dataRead, place_begun, at_]

end reads

section load
variable {s u : State} {c : Core} {words : Nat} (h : s.fetched c words = some u) (rd : BitVec 4) {a : Word}
include h

theorem load_done {t : State} {v : Word} (read : (u.begun c).dataRead c a = (.done v, t)) :
    s.load c words rd a = (t.updCore c fun x => (x.setReg rd v).advance words).retire c := coreRun_done h (by rw [read])

/-- A load whose read changes nothing writes its word to the register and goes on. -/
theorem load_wentOn {v : Word} (read : (u.begun c).dataRead c a = (.done v, u.begun c)) :
    State.wentOn c words [rd] u (s.load c words rd a) ∧ ((s.load c words rd a).core c).reg rd = v ∧
    ((s.load c words rd a).core c).cs = (u.core c).cs := by
  have run : s.load c words rd a = s.alu c words fun x => x.setReg rd v :=
    (load_done h rd read).trans (alu_ran h _).symm
  rw [run]
  exact alu_setReg h rd fun _ => v

/-- A load from an address that the data map marks takes DATA_FAULT with KIND 0. -/
theorem load_none (marked : u.place c a = .none) (room : (u.core c).res.toNat < 14) :
    State.trapped c 4 (u.core c).pc u (s.load c words rd a) ∧ (s.load c words rd a).mem = u.mem ∧
    fld ((s.load c words rd a).core c).tcause 11 9 = 0 ∧ ((s.load c words rd a).core c).taddr = a := by
  have run : s.load c words rd a = ((u.begun c).faultAt c 4 0 a).retire c :=
    coreRun_done h (by rw [dataRead_none marked])
  exact run ▸ fault_done room a (by decide) (by decide)

/-- A load from a word with an uncorrectable error takes ECC_FAULT with KIND 0. -/
theorem load_bad {k : Nat} (at_ : u.place c a = .sram k) (bad : u.sramBad k = 2) (room : (u.core c).res.toNat < 14) :
    State.trapped c 6 (u.core c).pc u (s.load c words rd a) ∧ (s.load c words rd a).mem = u.mem ∧
    fld ((s.load c words rd a).core c).tcause 11 9 = 0 ∧ ((s.load c words rd a).core c).taddr = a := by
  have run : s.load c words rd a = ((u.begun c).faultAt c 6 0 a).retire c :=
    coreRun_done h (by rw [dataRead_bad at_ bad])
  exact run ▸ fault_done room a (by decide) (by decide)

end load

/-! ### A load that waits for DRAM (R239) -/

/-- The access that waits keeps its core at the instruction, and no memory changes. -/
theorem startWait_waits (t : State) (c : Core) (w : ApWait) :
    (t.startWait c w).core c = { t.core c with apWait := some w } ∧
    (t.startWait c w).mem = t.mem := by
  have request (v : State) (r : DramReq) : (v.dramRequest r).core c = v.core c ∧ (v.dramRequest r).mem = v.mem := by
    unfold State.dramRequest
    split
    · exact ⟨rfl, rfl⟩
    · exact ⟨by cases c <;> rfl, rfl⟩
  unfold State.startWait
  dsimp only
  split
  · exact ⟨core_updCore t c _, t.setCore_mem c _⟩
  · exact ⟨(request _ _).1.trans (core_updCore t c _), (request _ _).2.trans (t.setCore_mem c _)⟩

theorem load_dram {s u : State} {c : Core} {words : Nat} (h : s.fetched c words = some u) (rd : BitVec 4) {a : Word}
    {b i : Nat} (at_ : u.place c a = .dram b i) :
    ((s.load c words rd a).core c).pc = (u.core c).pc ∧ (((s.load c words rd a).core c).apWait.any fun w =>
      w.block == b && w.idx == i && w.reg == rd && !w.write && !w.basin) = true ∧
    (s.load c words rd a).mem = u.mem := by
  obtain ⟨core, mem⟩ := startWait_waits (u.begun c) c
    { addr := a, write := false, reg := rd, v := 0, words := words, basin := false, block := b, idx := i,
      since := (u.begun c).time.link }
  have run : s.load c words rd a = _ := coreRun_done h (by rw [dataRead_dram at_])
  rw [run, retire_waits (by rw [core]; rfl), core, mem, core_begun]
  exact ⟨rfl, by simp, mem_begun u c⟩

/-! ### A load through a Basin aperture (R208, R215, R304) -/

/-- A payload word that is read is the word shown (R208). -/
theorem payRead_shows (s : State) (p : Pkt) (o : Nat) : (s.payRead p o).1 = s.payWord p o := by
  unfold State.payRead State.payWord State.cellRead State.cellShown
  split
  · dsimp only
    split
    · rename_i corrected
      rw [if_neg (by omega)]
    split
    · rfl
    · rfl
  · rfl

theorem dataRead_basin {u : State} {c : Core} {a : Word} {o x : Nat} {p : Pkt} (at_ : u.place c a = .basin o)
    (opened : (u.copy c.num).rpkt = some (x, p)) (whole : u.breakAt p = none) (within : 2 * o < p.len)
    (near : (p.payCell o).near = true) :
    ∃ t, (u.begun c).dataRead c a = (.done (u.payWord p o), t) ∧ t.core = (u.begun c).core ∧
      t.basin.queues = u.basin.queues := by
  have number : c.master.num = c.num := by cases c <;> rfl
  have opened : ((u.begun c).copy c.master.num).rpkt = some (x, p) := by rw [number, ← opened]; cases c <;> rfl
  have whole : (u.begun c).breakAt p = none := by rw [← whole]; cases c <;> rfl
  obtain ⟨followed, stays, queues, held⟩ := followOpen_spec opened whole
  have shown : ((u.begun c).followOpen c.master).payWord p o = u.payWord p o :=
    (payWord_of_same (followed.1 .mem (by decide)) held (followed.cellAddr (by decide)) p o).trans (by cases c <;> rfl)
  have read := cellRead_touches ((u.begun c).followOpen c.master) (p.payCell o) (o % 8)
  refine ⟨(((u.begun c).followOpen c.master).payRead p o).2, ?_, ?_, ?_⟩
  · rw [State.dataRead, place_begun, at_]
    dsimp only
    rw [← number, stays]
    dsimp only
    rw [if_neg (by omega), if_pos near, payRead_shows, shown]
  · exact (read.core (by decide) (by decide)).trans (followed.core (by decide) (by decide))
  · exact (congrArg Basin.queues (read.1 .basin (by decide))).trans (queues.trans (by cases c <;> rfl))

/-! ## Stores (R284, R305, R306) -/

section writes
variable {u : State} {c : Core} {a : Word} (v : Word)

theorem dataWrite_none (marked : u.place c a = .none) : (u.begun c).dataWrite c a v = (.fault, u.begun c) := by
  rw [State.dataWrite, place_begun, marked]

theorem dataWrite_csw_denied {k i : Nat} (at_ : u.place c a = .csw k i) (denied : u.cswOk c k i = false) :
    (u.begun c).dataWrite c a v = (.fault, u.begun c) := by
  rw [State.dataWrite, place_begun, at_]
  simp only [cswOk_begun, denied, if_true]

/-- No injection armed: a write stores its word. -/
theorem sramWrM_plain {s : State} (k : Nat) (plain : s.getB Port.MEM_INJ 17 = false) :
    s.sramWrM k v = s.sramWr k v := by
  rw [State.sramWrM, if_neg (by simp [plain])]

theorem dataWrite_sram {k : Nat} (at_ : u.place c a = .sram k) (plain : u.getB Port.MEM_INJ 17 = false) :
    (u.begun c).dataWrite c a v = (.done 0, (u.begun c).sramWr k v) := by
  have plain : (u.begun c).getB Port.MEM_INJ 17 = false := by rw [State.getB, get_begun]; exact plain
  rw [State.dataWrite, place_begun, at_, ← sramWrM_plain v k plain]

theorem dataWrite_csw {k i : Nat} (at_ : u.place c a = .csw k i) (allowed : u.cswOk c k i = true)
    (homes : u.hasHomes = false) (plain : u.getB Port.MEM_INJ 17 = false) :
    (u.begun c).dataWrite c a v = (.done 0, (u.begun c).sramWr (u.slotWord k i) v) := by
  have plain : (u.begun c).getB Port.MEM_INJ 17 = false := by rw [State.getB, get_begun]; exact plain
  have homes : (u.begun c).hasHomes = false := by rw [← homes]; cases c <;> rfl
  rw [State.dataWrite, place_begun, at_]
  simp only [cswOk_begun, allowed, homes, Bool.true_eq_false, Bool.false_eq_true, if_false, slotWord_begun,
    sramWrM_plain v _ plain]

end writes

section store
variable {s u : State} {c : Core} {words : Nat} (h : s.fetched c words = some u) {a v : Word}
include h

/-- A store whose write faults takes DATA_FAULT with KIND 1. -/
theorem store_faults (write : (u.begun c).dataWrite c a v = (.fault, u.begun c)) (room : (u.core c).res.toNat < 14) :
    State.trapped c 4 (u.core c).pc u (s.store c words a v) ∧ (s.store c words a v).mem = u.mem ∧
    fld ((s.store c words a v).core c).tcause 11 9 = 1 ∧ ((s.store c words a v).core c).taddr = a := by
  have run : s.store c words a v = ((u.begun c).faultAt c 4 1 a).retire c := coreRun_done h (by rw [write])
  exact run ▸ fault_done room a (by decide) (by decide)

/-- A store of an SRAM word changes that word of memory and goes on. -/
theorem store_stores {k : Nat} (write : (u.begun c).dataWrite c a v = (.done 0, (u.begun c).sramWr k v)) :
    State.moved c words [] u (s.store c words a v) ∧ ((s.store c words a v).core c).cs = (u.core c).cs ∧
    (s.store c words a v).sramRd k = v ∧ (∀ j, j ≠ k → (s.store c words a v).sramRd j = u.sramRd j) ∧
    (s.store c words a v).basin = u.basin ∧ (s.store c words a v).mem.flash = u.mem.flash ∧
    (s.store c words a v).mem.dram = u.mem.dram := by
  have run : s.store c words a v = (((u.begun c).sramWr k v).updCore c fun x => x.advance words).retire c :=
    coreRun_done h (by rw [write])
  have core : ((u.begun c).sramWr k v).core c = (u.core c).begun := by rw [← core_begun]; cases c <;> rfl
  obtain ⟨moved, cs⟩ := moved_advance core words
  have mem : (s.store c words a v).mem = ((u.begun c).sramWr k v).mem := by
    rw [run, mem_retire]; exact State.setCore_mem _ c _
  have word (j : Nat) : (s.store c words a v).sramRd j = ((u.begun c).sramWr k v).sramRd j := by
    rw [State.sramRd, mem]; rfl
  refine ⟨run ▸ moved, run ▸ cs, ?_, fun j other => ?_, ?_, ?_, ?_⟩
  · rw [word, State.sramRd_sramWr, if_pos rfl]
  · rw [word, State.sramRd_sramWr, if_neg (Ne.symm other), sramRd_begun]
  · rw [run, basin_retire]; cases c <;> rfl
  · rw [mem, ← mem_begun u c]; rfl
  · rw [mem, ← mem_begun u c]; rfl

end store

/-! ## Loads of instruction space (R26) -/

section ldc
variable {s u : State} {c : Core} (h : s.fetched c 1 = some u) (rd ra n : BitVec 4)
include h

theorem memAddr_fetched : memAddr (s.core c) ra n = (u.core c).reg ra + n.setWidth 18 := by
  rw [memAddr, fetched_core h c]

theorem opLdc_word {v : Word} (read : u.codeReach c ((u.core c).reg ra + n.setWidth 18) = (.ok v, u)) :
    State.moved c 1 [rd] u (s.opLdc c rd ra n) ∧ ((s.opLdc c rd ra n).core c).reg rd = v ∧
    ((s.opLdc c rd ra n).core c).cs = (u.core c).cs ∧ (s.opLdc c rd ra n).mem = u.mem := by
  have run : s.opLdc c rd ra n = ((if ((u.core c).reg ra + n.setWidth 18).toNat < 0x4000 then (u.begun c).nextFree
      else u.begun c).updCore c fun x => (x.setReg rd v).advance 1).retire c := by
    unfold State.opLdc
    rw [memAddr_fetched h]
    exact coreRun_done h (by rw [codeReach_begun read])
  have core : (if ((u.core c).reg ra + n.setWidth 18).toNat < 0x4000 then (u.begun c).nextFree else u.begun c).core c =
      (u.core c).begun := by
    split
    · rw [State.nextFree_core, core_begun]
    · exact core_begun u c
  obtain ⟨moved, reg, cs⟩ := moved_setReg core 1 rd v
  rw [run]
  refine ⟨moved, reg, cs, ?_⟩
  rw [mem_retire, State.updCore, State.setCore_mem]
  split
  · exact mem_begun u c
  · exact mem_begun u c

theorem opLdc_unreadable (read : u.codeReach c ((u.core c).reg ra + n.setWidth 18) = (.fault, u))
    (room : (u.core c).res.toNat < 14) :
    State.trapped c 4 (u.core c).pc u (s.opLdc c rd ra n) ∧ (s.opLdc c rd ra n).mem = u.mem ∧
    fld ((s.opLdc c rd ra n).core c).tcause 11 9 = 3 ∧
    ((s.opLdc c rd ra n).core c).taddr = (u.core c).reg ra + n.setWidth 18 := by
  have run : s.opLdc c rd ra n = ((u.begun c).faultAt c 4 3 ((u.core c).reg ra + n.setWidth 18)).retire c := by
    unfold State.opLdc
    rw [memAddr_fetched h]
    exact coreRun_done h (by rw [codeReach_begun read])
  exact run ▸ fault_done room _ (by decide) (by decide)

end ldc

/-! ## IN and OUT (R7, R18, R284) -/

section ports
variable {u : State} (m : Master) (p : Nat)

theorem ioGate_begun (c : Core) : (u.begun c).ioGate p = u.ioGate p := by cases c <;> rfl
theorem ioBlind_begun (c : Core) : (u.begun c).ioBlind m p = u.ioBlind m p := by cases c <;> rfl

/-- What the ports of trim, the sequencers and link timing show. -/
theorem view_units (s : State) (within : 0x2800 ≤ p ∧ p ≤ 0x3FFF) : s.view m p =
    if p < 0x3000 then s.trmView p else if p < 0x3800 then s.seqView p else s.ltbView p := by
  obtain ⟨low, high⟩ := within
  unfold State.view
  rw [if_neg (by omega)]
  split
  · unfold State.view12
    rw [if_neg (by rintro rfl; exact absurd low (by decide)), if_neg (by omega), if_neg (by omega),
      if_neg (by rintro rfl; exact absurd low (by decide)), if_neg (by rw [inRange_iff]; omega), if_neg (by omega)]
  split
  · rfl
  · rw [if_pos (by omega)]

/-- No port of trim, the sequencers or link timing shows anything of a core. -/
theorem readValue_begun (c : Core) (within : 0x2800 ≤ p ∧ p ≤ 0x3FFF) :
    (u.begun c).readValue m p = u.readValue m p := by
  have trm : (u.begun c).trmView p = u.trmView p := by cases c <;> rfl
  have seq : (u.begun c).seqView p = u.seqView p := by cases c <;> rfl
  have ltb : (u.begun c).ltbView p = u.ltbView p := by cases c <;> rfl
  have latchable : (u.begun c).latchable p = u.latchable p := by cases c <;> rfl
  have latched : (u.begun c).latched m p = u.latched m p := by cases c <;> rfl
  unfold State.readValue
  rw [view_units m p _ within, view_units m p _ within, trm, seq, ltb, latchable, latched]

/-- A read of such a port latches higher words and clears rc bits: it changes no core. -/
theorem readEffect_core (s : State) (within : 0x2800 ≤ p ∧ p ≤ 0x3FFF) (d : Core) :
    (s.readEffect m p).core d = s.core d := by
  obtain ⟨low, high⟩ := within
  have plain : ∀ q ∈ streamPorts, p ≠ q := by
    intro q mem
    have outside : q < 0x2800 ∨ 0x3FFF < q := by revert q mem; decide
    omega
  simp only [streamPorts, List.forall_mem_cons, List.not_mem_nil, false_imp_iff, implies_true, and_true] at plain
  obtain ⟨rdata, sec, rxd, rxd', peak, peak', dbg, dbg'⟩ := plain
  have timer : ¬ inRange 0x0800 0x0AFF p = true := by rw [inRange_iff]; omega
  obtain ⟨x, latched⟩ := latchWords_frame m (s.higherWords p) s
  simp only [State.readEffect, rdata, sec, rxd, rxd', peak, peak', dbg, dbg', timer, latched, if_false, or_self,
    false_and, Bool.false_eq_true]
  split
  · split
    · cases d <;> rfl
    · cases d <;> rfl
  · cases d <;> rfl

end ports

section io
variable {s u : State} {c : Core} (h : s.fetched c 2 = some u) (ra : BitVec 4) (idx : Bool) (port : BitVec 16)
include h

/-- IN of a port of trim, the sequencers or link timing that answers writes what it shows to the register. -/
theorem opIn_reads (rd : BitVec 4) (gate : u.ioGate (portAddr (u.core c) ra idx port).toNat = .ok)
    (seen : u.ioBlind c.master (portAddr (u.core c) ra idx port).toNat = false)
    (within : inRange 0x2800 0x3FFF (portAddr (u.core c) ra idx port).toNat = true) :
    State.moved c 2 [rd] u (s.opIn c rd ra idx port) ∧
    ((s.opIn c rd ra idx port).core c).reg rd = u.readValue c.master (portAddr (u.core c) ra idx port).toNat ∧
    ((s.opIn c rd ra idx port).core c).cs = (u.core c).cs := by
  rw [inRange_iff] at within
  have address : portAddr ((u.begun c).core c) ra idx port = portAddr (u.core c) ra idx port := by rw [core_begun]; rfl
  have read : (u.begun c).ioRead c.master (portAddr (u.core c) ra idx port).toNat =
      (.ok, u.readValue c.master (portAddr (u.core c) ra idx port).toNat,
        (u.begun c).readEffect c.master (portAddr (u.core c) ra idx port).toNat) := by
    rw [State.ioRead, ioGate_begun, gate]
    dsimp only
    rw [ioBlind_begun, seen, if_neg (by decide), readValue_begun _ _ c within]
  have run : s.opIn c rd ra idx port =
      (((u.begun c).readEffect c.master (portAddr (u.core c) ra idx port).toNat).updCore c
      fun x => (x.setReg rd (u.readValue c.master (portAddr (u.core c) ra idx port).toNat)).advance 2).retire c :=
    coreRun_done h (by dsimp only; rw [address, read]; rfl)
  rw [run]
  exact moved_setReg ((readEffect_core _ _ _ within c).trans (core_begun u c)) 2 rd _

/-- IN of a port of a domain that is off takes IO_FAULT with KIND 4. -/
theorem opIn_off (rd : BitVec 4) (off : u.ioGate (portAddr (u.core c) ra idx port).toNat = .offDomain)
    (room : (u.core c).res.toNat < 14) :
    State.trapped c 5 (u.core c).pc u (s.opIn c rd ra idx port) ∧ (s.opIn c rd ra idx port).mem = u.mem ∧
    fld ((s.opIn c rd ra idx port).core c).tcause 11 9 = 4 ∧
    ((s.opIn c rd ra idx port).core c).taddr = (portAddr (u.core c) ra idx port).setWidth 18 := by
  have address : portAddr ((u.begun c).core c) ra idx port = portAddr (u.core c) ra idx port := by rw [core_begun]; rfl
  have read : ((u.begun c).ioRead c.master (portAddr (u.core c) ra idx port).toNat).1 = .offDomain := by
    rw [State.ioRead, ioGate_begun, off]
  have run : s.opIn c rd ra idx port =
      ((u.begun c).faultAt c 5 4 ((portAddr (u.core c) ra idx port).setWidth 18)).retire c :=
    coreRun_done h (by dsimp only; rw [address, read]; rfl)
  exact run ▸ fault_done room _ (by decide) (by decide)

/-- OUT to a port of a domain that is off takes IO_FAULT with KIND 5. -/
theorem opOut_off (rs : BitVec 4) (off : u.ioGate (portAddr (u.core c) ra idx port).toNat = .offDomain)
    (room : (u.core c).res.toNat < 14) :
    State.trapped c 5 (u.core c).pc u (s.opOut c rs ra idx port) ∧ (s.opOut c rs ra idx port).mem = u.mem ∧
    fld ((s.opOut c rs ra idx port).core c).tcause 11 9 = 5 ∧
    ((s.opOut c rs ra idx port).core c).taddr = (portAddr (u.core c) ra idx port).setWidth 18 := by
  have address : portAddr ((u.begun c).core c) ra idx port = portAddr (u.core c) ra idx port := by rw [core_begun]; rfl
  have run : s.opOut c rs ra idx port =
      ((u.begun c).faultAt c 5 5 ((portAddr (u.core c) ra idx port).setWidth 18)).retire c :=
    coreRun_done h (by dsimp only; rw [address, ioGate_begun, off]; rfl)
  exact run ▸ fault_done room _ (by decide) (by decide)

end io

theorem writeEffect_calArg2 (s : State) (m : Master) (v : Word) :
    s.writeEffect m Port.SEQ_CAL_ARG_2 v = s.set Port.SEQ_CAL_ARG_2 v := by
  have row : regRow Port.SEQ_CAL_ARG_2 = some ⟨0x3403, 1, 1, 0o777777, 0, 0, 0, false⟩ := by decide +kernel
  calc s.writeEffect m Port.SEQ_CAL_ARG_2 v
    _ = s.plainWrite m Port.SEQ_CAL_ARG_2 v := rfl
    _ = s.set Port.SEQ_CAL_ARG_2 v := by
      simp only [State.plainWrite, row, rwMask_all]; rfl

/-- The state that OUT to SEQ_CAL_ARG_2 leaves when the debugger asks for nothing. -/
theorem opOut_calArg2 {s u : State} {c : Core} (h : s.fetched c 2 = some u) (rs ra : BitVec 4) (idx : Bool)
    (port : BitVec 16) (gate : u.ioGate (portAddr (u.core c) ra idx port).toNat = .ok)
    (at_ : (portAddr (u.core c) ra idx port).toNat = Port.SEQ_CAL_ARG_2) (step : (u.core c).stepping = 0)
    (req : (u.core c).haltReq = false) :
    s.opOut c rs ra idx port =
      ((u.begun c).updCore c fun x => x.advance 2).set Port.SEQ_CAL_ARG_2 ((u.core c).reg rs) := by
  have address : portAddr ((u.begun c).core c) ra idx port = portAddr (u.core c) ra idx port := by rw [core_begun]; rfl
  have gate' : ((u.begun c).updCore c fun x => x.advance 2).ioGate Port.SEQ_CAL_ARG_2 = .ok := by
    rw [← gate, at_]; cases c <;> rfl
  have seen : ((u.begun c).updCore c fun x => x.advance 2).ioBlind c.master Port.SEQ_CAL_ARG_2 = false := by
    cases c <;> rfl
  have written : (((u.begun c).updCore c fun x => x.advance 2).ioWrite c.master Port.SEQ_CAL_ARG_2
      (((u.begun c).core c).reg rs)).2 =
      ((u.begun c).updCore c fun x => x.advance 2).set Port.SEQ_CAL_ARG_2 ((u.core c).reg rs) := by
    rw [State.ioWrite, gate']
    dsimp only
    rw [seen, if_neg (by decide), writeEffect_calArg2, core_begun]
    rfl
  have run : s.opOut c rs ra idx port =
      (((u.begun c).updCore c fun x => x.advance 2).set Port.SEQ_CAL_ARG_2 ((u.core c).reg rs)).retire c := by
    refine coreRun_done h ?_
    dsimp only
    rw [address, at_, ioGate_begun, ← at_, gate, at_, if_neg (by decide), written]
  rw [run]
  apply retire_free
  · rw [State.set_core, core_updCore, core_begun]; exact step
  · rw [State.set_core, core_updCore, core_begun]; exact req

/-- OUT to SEQ_CAL_ARG_2 stores its word there and nowhere else. -/
theorem opOut_stores {s u : State} {c : Core} (h : s.fetched c 2 = some u) (rs ra : BitVec 4) (idx : Bool)
    (port : BitVec 16) (gate : u.ioGate (portAddr (u.core c) ra idx port).toNat = .ok)
    (at_ : (portAddr (u.core c) ra idx port).toNat = Port.SEQ_CAL_ARG_2) (step : (u.core c).stepping = 0)
    (req : (u.core c).haltReq = false) :
    State.moved c 2 [] u (s.opOut c rs ra idx port) ∧ ((s.opOut c rs ra idx port).core c).cs = (u.core c).cs ∧
    (s.opOut c rs ra idx port).get Port.SEQ_CAL_ARG_2 = (u.core c).reg rs ∧
    (∀ p, p ≠ Port.SEQ_CAL_ARG_2 → (s.opOut c rs ra idx port).get p = u.get p) ∧
    (s.opOut c rs ra idx port).mem = u.mem ∧ (s.opOut c rs ra idx port).link = u.link := by
  have core : (s.opOut c rs ra idx port).core c = (u.core c).begun.advance 2 := by
    rw [opOut_calArg2 h rs ra idx port gate at_ step req, State.set_core, core_updCore, core_begun]
  refine ⟨⟨?_, by rw [core]; rfl⟩, by rw [core]; rfl, ?_⟩
  · rw [core]; exact keepsBut_then (begun_keepsBut _) (advance_keepsBut _ 2)
  rw [opOut_calArg2 h rs ra idx port gate at_ step req]
  refine ⟨State.get_set_same _ _ _, fun p other => ?_, ?_, ?_⟩
  · rw [State.get_set_other _ _ (Ne.symm other)]; cases c <;> rfl
  · cases c <;> rfl
  · cases c <;> rfl

section addressed
variable {s u : State} {c : Core}

theorem longAddr_fetched (h : s.fetched c 2 = some u) (ra : BitVec 4) (abs : Bool) (off : Word) :
    longAddr (s.core c) ra abs off = if abs then off else (u.core c).reg ra + off := by
  rw [longAddr, fetched_core h c]

theorem ld_load (h : s.fetched c 1 = some u) (rd ra n : BitVec 4) :
    exec (.ld c rd ra n) s = .next (s.load c 1 rd ((u.core c).reg ra + n.setWidth 18)) := by
  rw [← memAddr_fetched h]; rfl

theorem lda_load (h : s.fetched c 2 = some u) (r ra : BitVec 4) (abs : Bool) (off : Word) :
    exec (.lda c r ra abs off) s = .next (s.load c 2 r (if abs then off else (u.core c).reg ra + off)) := by
  rw [← longAddr_fetched h]; rfl

theorem st_store (h : s.fetched c 1 = some u) (rs ra n : BitVec 4) :
    exec (.st c rs ra n) s = .next (s.store c 1 ((u.core c).reg ra + n.setWidth 18) ((u.core c).reg rs)) := by
  rw [← memAddr_fetched h, fetched_core h c]; rfl

theorem sta_store (h : s.fetched c 2 = some u) (r ra : BitVec 4) (abs : Bool) (off : Word) :
    exec (.sta c r ra abs off) s =
      .next (s.store c 2 (if abs then off else (u.core c).reg ra + off) ((u.core c).reg r)) := by
  rw [← longAddr_fetched h, fetched_core h c]; rfl

end addressed

/-- Settles O25: each access by the place that its address leads to. -/
theorem loadsStoresAndPortsReachTheirSpaces : Obligations.LoadsStoresAndPortsReachTheirSpaces := by
  unfold Obligations.LoadsStoresAndPortsReachTheirSpaces
  intro s
  refine ⟨
    fun c rd ra n k u h at_ good => ⟨_, ld_load h rd ra n, load_wentOn h rd (dataRead_sram at_ good)⟩,
    fun c rd ra n u h marked room => ⟨_, ld_load h rd ra n, load_none h rd marked room⟩,
    fun c rd ra n k u h at_ bad room => ⟨_, ld_load h rd ra n, load_bad h rd at_ bad room⟩,
    fun c r ra abs off k u h at_ good => ⟨_, lda_load h r ra abs off, load_wentOn h r (dataRead_sram at_ good)⟩,
    fun c r ra abs off u h marked room => ⟨_, lda_load h r ra abs off, load_none h r marked room⟩,
    fun c rs ra n k u h at_ plain => ⟨_, st_store h rs ra n, store_stores h (dataWrite_sram _ at_ plain)⟩,
    fun c rs ra n u h marked room => ⟨_, st_store h rs ra n, store_faults h (dataWrite_none _ marked) room⟩,
    fun c rs ra n sl i u h at_ denied room =>
      ⟨_, st_store h rs ra n, store_faults h (dataWrite_csw_denied _ at_ denied) room⟩,
    fun c r ra abs off k u h at_ plain =>
      ⟨_, sta_store h r ra abs off, store_stores h (dataWrite_sram _ at_ plain)⟩,
    fun c r ra abs off u h marked room =>
      ⟨_, sta_store h r ra abs off, store_faults h (dataWrite_none _ marked) room⟩,
    fun c r ra abs off sl i u h at_ denied room =>
      ⟨_, sta_store h r ra abs off, store_faults h (dataWrite_csw_denied _ at_ denied) room⟩,
    fun c rd ra n v u h read => ⟨_, rfl, opLdc_word h rd ra n read⟩,
    fun c rd ra n u h read room => ⟨_, rfl, opLdc_unreadable h rd ra n read room⟩,
    fun c rd ra idx port u h gate seen within => ⟨_, rfl, opIn_reads h ra idx port rd gate seen within⟩,
    fun c rd ra idx port u h off room => ⟨_, rfl, opIn_off h ra idx port rd off room⟩,
    fun c rs ra idx port u h off room => ⟨_, rfl, opOut_off h ra idx port rs off room⟩,
    fun c rs ra idx port u h gate at_ step req => ⟨_, rfl, opOut_stores h rs ra idx port gate at_ step req⟩,
    fun c rd ra n sl i u h at_ good => ⟨_, ld_load h rd ra n, ?context_read⟩,
    fun c rs ra n sl i u h at_ allowed homes plain => ⟨_, st_store h rs ra n, ?context_written⟩,
    fun c rd ra n b i u h at_ => ⟨_, ld_load h rd ra n, load_dram h rd at_⟩,
    fun c rd ra n o x p u h at_ opened whole within near => ⟨_, ld_load h rd ra n, ?packet_read⟩⟩
  case context_read =>
    obtain ⟨went, word, -⟩ := load_wentOn h rd (dataRead_csw at_ good)
    exact ⟨went, word⟩
  case context_written =>
    obtain ⟨moved, -, word, others, -⟩ := store_stores h (dataWrite_csw ((u.core c).reg rs) at_ allowed homes plain)
    exact ⟨moved, word, others⟩
  case packet_read =>
    obtain ⟨t, read, cores, queues⟩ := dataRead_basin at_ opened whole within near
    obtain ⟨moved, word, -⟩ := moved_setReg ((congrFun cores c).trans (core_begun u c)) 1 rd (u.payWord p o)
    rw [load_done h rd read]
    refine ⟨moved, word, ?_⟩
    rw [basin_retire, State.updCore, State.setCore_basin, queues]

/-! ## TRAP, BRK and reserved words (R283, R289, R291) -/

section system
variable {s u : State} {c : Core}

theorem opTrap_room (h : s.fetched c 1 = some u) (n : BitVec 8) (room : (u.core c).res.toNat < 14) :
    State.trapped c 7 ((u.core c).pc + 1) u (s.opTrap c n) ∧ (s.opTrap c n).mem = u.mem ∧
    fld ((s.opTrap c n).core c).tcause 7 0 = n.toNat := by
  have run : s.opTrap c n =
      ((u.begun c).trapNow c ⟨7, (u.core c).pc + 1, none, some n.toNat, none, none⟩).retire c := by
    refine coreRun_done h (congrArg some ?_)
    rw [trapTo_room (by rwa [core_begun]), core_begun]; rfl
  obtain ⟨trapped, mem⟩ :=
    trapNow_done u c ⟨7, (u.core c).pc + 1, none, some n.toNat, none, none⟩ (show 7 < 64 by decide)
  rw [run]
  refine ⟨trapped, mem, ?_⟩
  rw [tcause_retire, core_trapNow]
  exact trapCause_arg _ _ _ n.isLt

/-- A trap of any number but WIN_OVF's at RES 14 is WIN_OVF at the word. -/
theorem opTrap_full (h : s.fetched c 1 = some u) (n : BitVec 8) (full : (u.core c).res = 14) :
    State.trapped c 1 (u.core c).pc u (s.opTrap c n) ∧ (s.opTrap c n).mem = u.mem := by
  have run : s.opTrap c n = ((u.begun c).trapNow c (winOvf (u.core c).pc)).retire c := by
    refine coreRun_done h (congrArg some ?_)
    rw [trapTo_full (by rwa [core_begun]) (show 7 ≠ 1 by decide), core_begun]; rfl
  rw [run]
  exact trapNow_done u c (winOvf (u.core c).pc) (show 1 < 64 by decide)

/-- BRKEN as the fetched instruction sees it. -/
theorem getB_begun (u : State) (c : Core) (p b : Nat) : (u.begun c).getB p b = u.getB p b := by
  rw [State.getB, get_begun]; rfl

theorem opBrk_traps (h : s.fetched c 1 = some u) (room : (u.core c).res.toNat < 14)
    (off : u.getB (Port.DBG_CFG c.num) 17 = false) :
    State.trapped c 8 ((u.core c).pc + 1) u (s.opBrk c) ∧ (s.opBrk c).mem = u.mem := by
  have run : s.opBrk c = ((u.begun c).trapNow c ⟨8, (u.core c).pc + 1, none, none, none, none⟩).retire c := by
    refine coreRun_done h (congrArg some ?_)
    rw [getB_begun, off, if_neg (by decide), trapTo_room (by rwa [core_begun]), core_begun]; rfl
  rw [run]
  exact trapNow_done u c _ (show 8 < 64 by decide)

theorem opBrk_halts (h : s.fetched c 1 = some u) (on : u.getB (Port.DBG_CFG c.num) 17 = true) :
    s.opBrk c = ((u.begun c).updCore c fun x => x.advance 1).haltCore c 2 := by
  have run : s.opBrk c = (((u.begun c).updCore c fun x => x.advance 1).haltCore c 2).retire c := by
    refine coreRun_done h (congrArg some ?_)
    rw [getB_begun, on, if_pos rfl]
  rw [run, retire_halted (by rw [core_haltCore])]

/-- A word more at which the core halts: its CAUSE, and all else as it was. -/
theorem advanced_halts (u : State) (c : Core) {cause : Nat} (small : cause < 8) :
    ((((u.begun c).updCore c fun x => x.advance 1).haltCore c cause).core c).halted = true ∧
    (((u.begun c).updCore c fun x => x.advance 1).haltCore c cause).getF (Port.DBG_STAT c.num) 14 12 = cause ∧
    ((((u.begun c).updCore c fun x => x.advance 1).haltCore c cause).core c).pc = (u.core c).pc + 1 ∧
    (u.core c).keepsBut [] ((((u.begun c).updCore c fun x => x.advance 1).haltCore c cause).core c) ∧
    ((((u.begun c).updCore c fun x => x.advance 1).haltCore c cause).core c).cs = (u.core c).cs ∧
    State.coreOnly c u (((u.begun c).updCore c fun x => x.advance 1).haltCore c cause) := by
  obtain ⟨halted, stat, pc, keeps, cs, only⟩ := haltCore_halted ((u.begun c).updCore c fun x => x.advance 1) c small
  rw [core_updCore, core_begun] at pc keeps cs
  exact ⟨halted, stat, pc, keepsBut_then (keepsBut_then (begun_keepsBut _) (advance_keepsBut _ 1)) keeps, cs,
    coreOnly_trans (coreOnly_trans (begun_coreOnly u c) (updCore_coreOnly _ c _)) only⟩

theorem opReserved_traps {w0 w1 : Word} (h : s.fetched c 1 = some u) (reserved : reservedFirst w0 = true)
    (second : u.codeReach c ((u.core c).pc + 1) = (.ok w1, u)) (room : (u.core c).res.toNat < 14) :
    s.opReserved c w0 w1 = ((u.begun c).trapNow c
      ⟨0, (u.core c).pc, none, none, some (u.core c).pc, some (w0, w1)⟩).retire c := by
  have pc : ((u.begun c).core c).pc = (u.core c).pc := by rw [core_begun]; rfl
  rw [State.opReserved, if_pos reserved]
  refine coreRun_done h ?_
  rw [pc, codeReach_begun second]
  refine congrArg some ?_
  rw [State.reservedOp, trapTo_room (by rwa [core_begun]), pc]

end system

/-! ## EI, DI and WAIT (R287) -/

theorem withBit_top (w : Word) (v : Bool) : withBit w 17 v = if v then w ||| 0o400000 else w &&& 0o377777 := by
  have top : ∀ i < 18, (0o400000 : Word).getLsbD i = decide (i = 17) := by decide
  have rest : ∀ i < 18, (0o377777 : Word).getLsbD i = decide (i ≠ 17) := by decide
  apply BitVec.eq_of_getLsbD_eq
  intro i hi
  have field : 17 ≤ i ∧ i ≤ 17 ↔ i = 17 := by omega
  rw [withBit, getLsbD_withFld _ _ _ _ _ (by decide)]
  simp only [field]
  cases v with
  | true =>
    simp only [if_true, BitVec.getLsbD_or, top i hi]
    by_cases e : i = 17 <;> simp [e]
  | false =>
    simp only [Bool.false_eq_true, if_false, BitVec.getLsbD_and, rest i hi]
    by_cases e : i = 17 <;> simp [e]

section system
variable {s u : State} {c : Core} (h : s.fetched c 1 = some u)
include h

theorem opEi_enables : State.coreOnly c u (s.opEi c) ∧ ((s.opEi c).core c).pc = (u.core c).pc + 1 ∧
    ((s.opEi c).core c).cs = (u.core c).cs ||| 0o400000 ∧ ((s.opEi c).core c).eiShadow = true := by
  refine ⟨alu_coreOnly h _, alu_pc h _, (alu_cs h _).trans (withBit_top _ true), ?_⟩
  rw [State.opEi, alu_ran h, State.ran, eiShadow_retire, core_updCore]
  rfl

theorem opDi_disables : State.coreOnly c u (s.opDi c) ∧ ((s.opDi c).core c).pc = (u.core c).pc + 1 ∧
    ((s.opDi c).core c).cs = (u.core c).cs &&& 0o377777 :=
  ⟨alu_coreOnly h _, alu_pc h _, (alu_cs h _).trans (withBit_top _ false)⟩

theorem opWait_waits : State.coreOnly c u (s.opWait c) ∧ ((s.opWait c).core c).pc = (u.core c).pc + 1 ∧
    ((s.opWait c).core c).cs = (u.core c).cs ∧ ((s.opWait c).core c).waiting = (u.core c).above.isNone := by
  refine ⟨alu_coreOnly h _, alu_pc h _, alu_cs h _, ?_⟩
  rw [State.opWait, alu_ran h, State.ran, waiting_retire, core_updCore, core_begun]
  rfl

end system

theorem waitEnded_idle {s : State} (one : s.phase ≠ 1) (two : s.phase ≠ 2) : s.waitEnded = s :=
  if_neg fun entry => entry.elim one two

theorem phase_of_get {s t : State} (same : t.get Port.PWR_STAT = s.get Port.PWR_STAT) : t.phase = s.phase := by
  rw [State.phase, State.getF, same]; rfl

/-- A pending source above LEVEL ends WAIT; outside an entry nothing else happens. -/
theorem wakeWait_wakes {s : State} {c : Core} (live : s.coreLive c = true) (waits : (s.core c).waiting = true)
    (one : s.phase ≠ 1) (two : s.phase ≠ 2) (due : (s.core c).above.isSome = true) :
    s.wakeWait c = s.updCore c fun x => { x with waiting := false } := by
  have phase : (s.updCore c fun x => { x with waiting := false }).phase = s.phase := phase_of_get (s.setCore_get c _ _)
  rw [State.wakeWait, if_pos (by rw [live, waits, due]; rfl),
    waitEnded_idle (by rw [phase]; exact one) (by rw [phase]; exact two)]

theorem wakeWait_stays {s : State} {c : Core} (none : (s.core c).above = none) : s.wakeWait c = s := by
  rw [State.wakeWait, none]; simp

/-! ## Control registers (R15, R292) -/

theorem updCore_updCore (s : State) (c : Core) (f g : CoreState → CoreState) :
    (s.updCore c f).updCore c g = s.updCore c fun x => g (f x) := by
  cases c <;> rfl

theorem crRead_begun (u : State) (m : Master) (c : Core) (n : Nat) : (u.begun c).crRead m c n = u.crRead m c n := by
  cases c <;> rfl

section control
variable {s u : State} {c : Core} (h : s.fetched c 1 = some u) (r : BitVec 4) {cr : BitVec 6}
include h

/-- CRD of a control register whose read changes nothing moves its value to a register. -/
theorem opCrd_moves {v : Word} (value : u.crRead c.master c cr.toNat = some v) (data : cr ≠ 3) (cycle : cr ≠ 10) :
    s.opCrd c r cr = s.alu c 1 fun x => x.setReg r v := by
  have latch : cr.toNat ≠ 10 := fun e => cycle (BitVec.eq_of_toNat_eq e)
  have touch : cr.toNat ≠ 3 := fun e => data (BitVec.eq_of_toNat_eq e)
  rw [alu_ran h]
  refine coreRun_done h ?_
  rw [crRead_begun, value]
  simp only [State.crLatch, latch, CoreState.crTouch, touch, if_true, if_false, ne_eq, not_false_eq_true]

/-- CWR of a listed control register but BELL writes it and goes on. -/
theorem opCwr_writes (listed : ((u.core c).crValue c cr.toNat).isSome = true) (bell : cr ≠ 33) :
    s.opCwr c r cr = u.ran c fun x => (x.crWrite cr.toNat ((u.core c).reg r)).advance 1 := by
  have other : cr.toNat ≠ 33 := fun e => bell (BitVec.eq_of_toNat_eq e)
  refine coreRun_done h ?_
  rw [core_begun, show (u.core c).begun.crValue c cr.toNat = (u.core c).crValue c cr.toNat from rfl, if_pos listed,
    State.crSet, if_neg other, updCore_updCore]
  rfl

end control

/-! ## BELL, CYCLE_0 and a fetch fault (R15, R289, R292) -/

section control
variable {s u : State} {c : Core}

/-- What a write of BELL makes of the other core. -/
def State.belled (u : State) (c : Core) (v : Word) : State :=
  if v = 1 then u.updCore c.other fun x => x.pend 0 else u

theorem belled_core (u : State) (c : Core) (v : Word) : (u.belled c v).core c = u.core c := by
  unfold State.belled
  split
  · cases c <;> rfl
  · rfl

theorem belled_mem (u : State) (c : Core) (v : Word) : (u.belled c v).mem = u.mem := by
  unfold State.belled
  split
  · exact coreOnly_mem (updCore_coreOnly u c.other _)
  · rfl

theorem belled_ipend (u : State) (c : Core) (v : Word) : ((u.belled c v).core c.other).ipend =
    if v = 1 ∧ (u.core c.other).inReset = false then (u.core c.other).ipend ||| 1 else (u.core c.other).ipend := by
  unfold State.belled
  by_cases rings : v = 1
  · rw [if_pos rings, core_updCore, CoreState.pend]
    cases reset : (u.core c.other).inReset with
    | true => rw [if_pos rfl, if_neg (by simp)]
    | false => rw [if_neg (by decide), if_pos ⟨rings, rfl⟩]; rfl
  · rw [if_neg rings, if_neg fun both => rings both.1]

/-- CWR of BELL raises source 0 at the other core when its word is 1. -/
theorem opCwr_rings (h : s.fetched c 1 = some u) (r : BitVec 4) :
    ((s.opCwr c r 33).core c.other).ipend = (if (u.core c).reg r = 1 ∧ (u.core c.other).inReset = false then
      (u.core c.other).ipend ||| 1 else (u.core c.other).ipend) ∧
    ((s.opCwr c r 33).core c).pc = (u.core c).pc + 1 ∧ (s.opCwr c r 33).mem = u.mem := by
  have run : s.opCwr c r 33 =
      (((u.begun c).belled c ((u.core c).reg r)).updCore c fun x => x.advance 1).retire c := by
    refine coreRun_done h ?_
    rw [core_begun]; rfl
  have after := retire_coreOnly (((u.begun c).belled c ((u.core c).reg r)).updCore c fun x => x.advance 1) c
  have advance := updCore_coreOnly ((u.begun c).belled c ((u.core c).reg r)) c fun x => x.advance 1
  have begin := coreOnly_other (begun_coreOnly u c)
  rw [run]
  refine ⟨?_, ?_, ?_⟩
  · rw [coreOnly_other after, coreOnly_other advance, belled_ipend, begin]
  · rw [pc_retire, core_updCore, belled_core, core_begun]; rfl
  · rw [coreOnly_mem after, coreOnly_mem advance, belled_mem, coreOnly_mem (begun_coreOnly u c)]

/-- CRD of CYCLE_0 moves the low word of the count, and latches the two above it. -/
theorem opCrd_cycle (h : s.fetched c 1 = some u) (r : BitVec 4) :
    s.opCrd c r 10 = (((u.begun c).crLatch c.master c 10).updCore c fun x =>
      (x.setReg r ((u.core c).cycle.extractLsb' 0 18)).advance 1).retire c := by
  have value : u.crRead c.master c 10 = some ((u.core c).cycle.extractLsb' 0 18) := by
    unfold State.crRead
    split
    · rfl
    · rfl
  refine coreRun_done h ?_
  rw [crRead_begun, show (10 : BitVec 6).toNat = 10 from rfl, value]
  rfl

/-- What a core's later reads of CYCLE_1 and CYCLE_2 return once its read of CYCLE_0 has latched them. -/
theorem crRead_latched {t : State} {lo hi : Word}
    (latched : t.latch.cycle = Cells.wr (fun _ => none) s.latch.cycle (2 * c.master.num + c.num) (some (lo, hi))) :
    t.crRead c.master c 11 = some lo ∧ t.crRead c.master c 12 = some hi := by
  have kept : t.cycleHi c.master c = some (lo, hi) := by
    rw [State.cycleHi, latched]
    exact Cells.rd_wr_same _ _ _ _
  unfold State.crRead
  rw [kept]
  exact ⟨rfl, rfl⟩

theorem opCrd_latches (h : s.fetched c 1 = some u) (r : BitVec 4) :
    ((s.opCrd c r 10).core c).pc = (u.core c).pc + 1 ∧ ((s.opCrd c r 10).core c).cs = (u.core c).cs ∧
    ((s.opCrd c r 10).core c).reg r = (u.core c).cycle.extractLsb' 0 18 ∧
    (s.opCrd c r 10).crRead c.master c 11 = some ((u.core c).cycle.extractLsb' 18 18) ∧
    (s.opCrd c r 10).crRead c.master c 12 = some ((u.core c).cycle.extractLsb' 36 18) := by
  have latched : ((u.begun c).crLatch c.master c 10).core c = (u.core c).begun := by
    rw [← core_begun]; cases c <;> rfl
  rw [opCrd_cycle h r]
  refine ⟨?_, ?_, ?_, crRead_latched (s := u) ?_⟩
  · rw [pc_retire, core_updCore, latched]; exact congrArg (· + 1) (pc_setReg _ _ _)
  · rw [cs_retire, core_updCore, latched]; exact cs_setReg _ _ _
  · rw [reg_retire, core_updCore, latched]; exact reg_setReg_same _ _ _
  · rw [latch_retire]; cases c <;> rfl

/-- A word that cannot be fetched: the core takes INSTR_FAULT with KIND 2 and its address. -/
theorem coreRun_fault {words : Nat} (f : State → Option State) (ready : s.coreReady c = true)
    (fetch : s.codeReach c (s.core c).pc = (.fault, s)) :
    s.coreRun c words f = (s.faultAt c 3 2 (s.core c).pc).retire c := by
  rw [State.coreRun, if_neg (by rw [ready]; decide)]
  dsimp only
  rw [fetch]

end control

/-! ## Interrupt entries (R276, R287) -/

/-- The priority of a source that is above LEVEL is a field of two bits. -/
theorem best_priority {x : CoreState} {n p : Nat} (h : x.best = some (n, p)) : p < 4 := by
  have small : ∀ n p, x.best = some (n, p) → p < 4 := by
    unfold CoreState.best
    refine List.foldlRecOn (motive := fun a => ∀ n p, a = some (n, p) → p < 4) _ _ ?_ ?_
    · intro n p h; simp at h
    · intro a ih m _ n p
      have field : (x.ipri.extractLsb' (2 * m) 2).toNat < 4 := BitVec.isLt _
      match a, ih with
      | none, _ => intro h; simp only [Option.some.injEq, Prod.mk.injEq] at h; omega
      | some (k, q), ih =>
        have bound := ih k q rfl
        dsimp only
        split <;> (intro h; simp only [Option.some.injEq, Prod.mk.injEq] at h; omega)
  exact small n p h

theorem above_priority {x : CoreState} {n p : Nat} (h : x.above = some (n, p)) : p < 4 := by
  unfold CoreState.above at h
  split at h
  · rename_i m q best
    split at h
    · obtain ⟨rfl, rfl⟩ := Prod.mk.inj (Option.some.inj h)
      exact best_priority best
    · simp at h
  · simp at h

/-- The core after the entry of source `n` with priority `p`. -/
def CoreState.interrupted (x : CoreState) (n p : Nat) : CoreState :=
  { x.enter x.pc (x.vector (16 + n)) with
    cs := withFld (x.enter x.pc (x.vector (16 + n))).cs 14 12 (p + 1),
    ipend := (x.enter x.pc (x.vector (16 + n))).ipend &&& ~~~(BitVec.twoPow 64 n) }

theorem irqEnter_interrupted {s : State} {c : Core} {n p : Nat} (source : (s.core c).above = some (n, p))
    (room : (s.core c).res.toNat < 14) : s.irqEnter c = s.updCore c fun x => x.interrupted n p := by
  have not14 : (s.core c).res ≠ 14 := by bv_omega
  unfold State.irqEnter
  dsimp only
  rw [source]
  dsimp only
  rw [if_neg not14]
  rfl

theorem interrupted_pc (x : CoreState) (n p : Nat) :
    (x.interrupted n p).pc = x.vbase + BitVec.ofNat 18 (4 * (16 + n)) := rfl

theorem interrupted_return (x : CoreState) (n p : Nat) : (x.interrupted n p).reg 11 = x.pc :=
  reg_enter_return x x.pc (x.vector (16 + n))

theorem interrupted_status (x : CoreState) (n p : Nat) : (x.interrupted n p).reg 10 = x.cs :=
  reg_enter_status x x.pc (x.vector (16 + n))

theorem interrupted_wb (x : CoreState) (n p : Nat) : (x.interrupted n p).wb = x.wb + 1 := by
  obtain ⟨_, _, e⟩ := enter_files x x.pc (x.vector (16 + n))
  rw [CoreState.interrupted, e]

theorem interrupted_res (x : CoreState) (n p : Nat) : (x.interrupted n p).res = x.res + 1 := by
  obtain ⟨_, _, e⟩ := enter_files x x.pc (x.vector (16 + n))
  rw [CoreState.interrupted, e]

theorem interrupted_level (x : CoreState) (n : Nat) {p : Nat} (small : p < 4) :
    fld (x.interrupted n p).cs 14 12 = p + 1 :=
  (fld_withFld_same _ 14 12 (p + 1) (by decide)).trans (Nat.mod_eq_of_lt (by omega))

theorem interrupted_ipend (x : CoreState) (n p : Nat) : (x.interrupted n p).ipend.getLsbD n = false := by
  simp only [CoreState.interrupted, BitVec.getLsbD_and, BitVec.getLsbD_not, BitVec.getLsbD_twoPow]
  simp

/-- An entry leaves an access and the debugger's marks as they are. -/
theorem interrupted_marks (x : CoreState) (n p : Nat) : (x.interrupted n p).apWait = x.apWait ∧
    (x.interrupted n p).halted = x.halted ∧ (x.interrupted n p).stepping = x.stepping := by
  obtain ⟨_, _, e⟩ := enter_files x x.pc (x.vector (16 + n))
  rw [CoreState.interrupted, e]
  exact ⟨rfl, rfl, rfl⟩

/-- An entry performed at a boundary, with the device's phase as it was. -/
theorem takeIrq_enters {s : State} {c : Core} {n p : Nat} (live : s.coreLive c = true)
    (idle : (s.core c).waiting = true → s.phase ≠ 1 ∧ s.phase ≠ 2) (due : s.irqDue c = true)
    (source : (s.core c).above = some (n, p)) (room : (s.core c).res.toNat < 14) :
    s.takeIrq c = (s.updCore c fun x => x.interrupted n p).retire c := by
  have same : ((s.updCore c fun x => x.interrupted n p).retire c).get Port.PWR_STAT = s.get Port.PWR_STAT :=
    (coreOnly_trans (updCore_coreOnly s c _) (retire_coreOnly _ c)).2 _ (by cases c <;> decide)
  rw [State.takeIrq, if_pos (by rw [live, due]; rfl), irqEnter_interrupted source room]
  dsimp only
  split
  · rename_i waits
    obtain ⟨one, two⟩ := idle waits
    exact waitEnded_idle (by rwa [phase_of_get same]) (by rwa [phase_of_get same])
  · rfl

theorem takeIrq_stays {s : State} {c : Core} (due : s.irqDue c = false) : s.takeIrq c = s := by
  rw [State.takeIrq, if_neg (by rw [due]; simp)]

/-! ## Systems instructions (R276, R283, R287, R289, R291, R292) -/

/-- Settles O27: traps and interrupts by the entry of the window, the rest by what each makes of its core. -/
theorem systemInstructionsTrapWaitAndReadControls : Obligations.SystemInstructionsTrapWaitAndReadControls := by
  unfold Obligations.SystemInstructionsTrapWaitAndReadControls
  intro s
  refine ⟨fun c n u h room => ⟨_, rfl, opTrap_room h n room⟩, fun c n u h full => ⟨_, rfl, opTrap_full h n full⟩,
    fun c u h room off => ⟨_, rfl, opBrk_traps h room off⟩, fun c u h on => ⟨_, rfl, ?brken⟩,
    fun c u h => ⟨_, rfl, opEi_enables h⟩, fun c u h => ⟨_, rfl, opDi_disables h⟩,
    fun c u h => ⟨_, rfl, opWait_waits h⟩, fun c live waits one two due => ⟨_, rfl, ?wake⟩,
    fun c none => ⟨_, rfl, wakeWait_stays none⟩, fun c r cr v u h value data cycle => ⟨_, rfl, ?crd⟩,
    fun c r cr u h vbase => ⟨_, rfl, ?vbase⟩, fun c r cr u h cs => ⟨_, rfl, ?cs⟩,
    fun c r cr u h bell => ⟨_, rfl, ?bell⟩, fun c w0 w1 u h reserved second room => ⟨_, rfl, ?reserved⟩,
    fun c w0 w1 first second => ⟨_, rfl, ?free⟩, fun c ready fetch room => ⟨_, rfl, ?fault⟩,
    fun c n p live idle due source room => ⟨_, rfl, ?interrupt⟩, fun c due => ⟨_, rfl, takeIrq_stays due⟩,
    fun c r cr u h cycle => ⟨_, rfl, ?cycle⟩⟩
  case brken =>
    rw [opBrk_halts h on]
    exact advanced_halts u c (by decide)
  case wake =>
    rw [wakeWait_wakes live waits one two due]
    dsimp only
    rw [core_updCore]
    exact ⟨rfl, rfl, State.setCore_mem _ _ _, State.setCore_regs _ _ _⟩
  case crd =>
    obtain ⟨⟨only, -, pc⟩, reg, cs⟩ := alu_setReg h r fun _ => v
    rw [opCrd_moves h r value data cycle]
    exact ⟨reg, pc, cs, only⟩
  case vbase =>
    subst vbase
    rw [opCwr_writes h r rfl (by decide)]
    obtain ⟨_, _, _, e⟩ := core_ran u c fun x => (x.crWrite (4 : BitVec 6).toNat ((u.core c).reg r)).advance 1
    exact ⟨by rw [e]; rfl, ran_pc u c _, ran_cs u c _, ran_coreOnly u c _⟩
  case cs =>
    subst cs
    rw [opCwr_writes h r rfl (by decide)]
    exact ⟨ran_cs u c _, ran_pc u c _, ran_coreOnly u c _⟩
  case bell => subst bell; exact opCwr_rings h r
  case reserved =>
    obtain ⟨trapped, mem⟩ := trapNow_done u c
      ⟨0, (u.core c).pc, none, none, some (u.core c).pc, some (w0, w1)⟩ (show 0 < 64 by decide)
    rw [opReserved_traps h reserved second room]
    refine ⟨?_, ?_, ?_, trapped, mem⟩
    · rw [tword0_retire, core_trapNow]; rfl
    · rw [tword1_retire, core_trapNow]; rfl
    · rw [taddr_retire, core_trapNow]; rfl
  case free =>
    show s.opReserved c w0 w1 = s
    rw [State.opReserved, if_neg (by rw [first]; decide), if_neg (by rw [second]; decide)]
  case fault =>
    have run : s.opNop c = (s.faultAt c 3 2 (s.core c).pc).retire c := by
      rw [State.opNop, State.alu, coreRun_fault _ ready fetch]
    rw [run]
    exact faultAt_trapped room _ (by decide) (by decide)
  case interrupt =>
    obtain ⟨_, _, _, e⟩ := core_retire (s.updCore c fun x => x.interrupted n p) c
    have only := coreOnly_trans (updCore_coreOnly s c fun x => x.interrupted n p) (retire_coreOnly _ c)
    rw [takeIrq_enters live idle due source room]
    rw [core_updCore] at e
    rw [reg_retire, reg_retire, core_updCore, e]
    exact ⟨interrupted_pc _ n p, interrupted_return _ n p, interrupted_status _ n p, interrupted_wb _ n p,
      interrupted_res _ n p, interrupted_level _ n (above_priority source), interrupted_ipend _ n p, rfl, only⟩
  case cycle => subst cycle; exact opCrd_latches h r

/-! ## The debug control register (R293) -/

/-- The core that RUN (`steps` 0), STEP (1) or STEP with MASK (2) let go on. -/
def CoreState.released (x : CoreState) (steps : Nat) : CoreState :=
  { x with halted := false, resumed := true, stepping := steps }

theorem released_keepsBut (x : CoreState) (steps : Nat) : x.keepsBut [] (x.released steps) :=
  keepsBut_control x _ _ _ _ _ _

/-- The state in which such a core goes on: its CAUSE is cleared. -/
def State.released (s : State) (c : Core) (steps : Nat) : State :=
  (s.updCore c fun x => x.released steps).setF (Port.DBG_STAT c.num) 14 12 0

@[simp] theorem core_released (s : State) (c : Core) (steps : Nat) :
    (s.released c steps).core c = (s.core c).released steps := by
  rw [State.released, State.setF_core, core_updCore]

theorem released_coreOnly (s : State) (c : Core) (steps : Nat) : State.coreOnly c s (s.released c steps) :=
  coreOnly_trans (updCore_coreOnly s c _) (setF_coreOnly _ c 14 12 0)

section dbgCmd
variable {s : State} {m : Master} {c : Core}

theorem exec_halt (a : s.answers m (Port.DBG_CTL c.num) = true) : exec (.halt m c) s = .next (s.dbgCmd c 1) :=
  congrArg Host.Outcome.next (if_pos a)

theorem exec_run (a : s.answers m (Port.DBG_CTL c.num) = true) : exec (.run m c) s = .next (s.dbgCmd c 2) :=
  congrArg Host.Outcome.next (if_pos a)

theorem writeEffect_dbgCtl (s : State) (m : Master) (c : Core) (v : Word) :
    s.writeEffect m (Port.DBG_CTL c.num) v = s.dbgCmd c v := by
  cases c <;> rfl

theorem dbgCmd_halts (runs : (s.core c).halted = false) (out : (s.core c).inReset = false)
    (free : (s.core c).lockup = false) (up : s.domOn c.num = true) (wait : (s.core c).apWait = none) :
    s.dbgCmd c 1 = s.haltCore c 1 := by
  simp [State.dbgCmd, runs, out, free, up, wait]

/-- HALT of a core whose access waits is noted. -/
theorem dbgCmd_notes (runs : (s.core c).halted = false) (out : (s.core c).inReset = false)
    (free : (s.core c).lockup = false) (up : s.domOn c.num = true) (wait : (s.core c).apWait.isSome = true) :
    s.dbgCmd c 1 = s.updCore c fun x => { x with haltReq := true } := by
  simp [State.dbgCmd, runs, out, free, up, wait]

theorem dbgCmd_halted (halted : (s.core c).halted = true) : s.dbgCmd c 1 = s := by
  simp [State.dbgCmd, halted]

theorem dbgCmd_running (runs : (s.core c).halted = false) : s.dbgCmd c 2 = s := by
  simp [State.dbgCmd, runs]

/-- RUN, STEP and STEP with MASK let a halted core go on. -/
theorem dbgCmd_releases (halted : (s.core c).halted = true) {v : Word} (two : 2 ≤ v.toNat) (four : v.toNat ≤ 4) :
    s.dbgCmd c v = s.released c (v.toNat - 2) := by
  have not1 : v ≠ 1 := by rintro rfl; exact absurd two (by decide)
  have not0 : v ≠ 0 := by rintro rfl; exact absurd two (by decide)
  have skip : ¬ ((s.core c).halted = false ∨ v = 0 ∨ 4 < v.toNat) := by
    rw [halted]
    rintro (h | h | h)
    · simp at h
    · exact not0 h
    · omega
  rw [State.dbgCmd, if_neg not1, if_neg skip]
  rfl

/-- A halted core steps: it performs the interrupt entry that is due, or executes its word. -/
theorem stepCore_released (a : s.answers m (Port.DBG_CTL c.num) = true) (halted : (s.core c).halted = true)
    (mask : Bool) (w0 w1 : Word) : s.stepCore m c mask w0 w1 =
      if (s.released c (if mask then 2 else 1)).coreLive c && (s.released c (if mask then 2 else 1)).irqDue c then
        ((s.released c (if mask then 2 else 1)).irqEnter c).retire c
      else (s.released c (if mask then 2 else 1)).runWord c w0 w1 := by
  have write : s.masterWrite m (Port.DBG_CTL c.num) (if mask then 4 else 3) =
      s.released c (if mask then 2 else 1) := by
    rw [masterWrite_answered _ a, writeEffect_dbgCtl]
    cases mask with
    | true => exact dbgCmd_releases halted (by decide) (by decide)
    | false => exact dbgCmd_releases halted (by decide) (by decide)
  rw [State.stepCore, write]
  exact if_neg (by rw [halted, core_released]; simp [CoreState.released])

end dbgCmd

/-! ## The word of a step (R26, R293, R316) -/

section reach
variable {s t : State} (b o : Nat)

/-- What a read of a flash word returns turns on the memory, the open intents and the free values. -/
theorem flashRd_congr (mem : t.mem = s.mem) (intents : t.flc.intents = s.flc.intents) (free : t.free = s.free) :
    (t.flashRd b o).1 = (s.flashRd b o).1 := by
  have undefined : t.flashUndef b o = s.flashUndef b o := by
    rw [State.flashUndef, State.flashBad, State.openIntent, mem, intents]; rfl
  have bad : t.flashBad b o = s.flashBad b o := by simp only [State.flashBad, mem]
  have word : t.flashWord b o = s.flashWord b o := by simp only [State.flashWord, mem]
  unfold State.flashRd
  rw [undefined, bad, word, free]
  split
  · rfl
  split
  · rfl
  · rfl

theorem flashRd_mem (s : State) : (s.flashRd b o).2.mem = s.mem := by
  unfold State.flashRd
  split
  · rfl
  split
  · rfl
  · rfl

/-- The suspend of an erase changes no memory, no open intent and no free value. -/
theorem eraseSuspend_keeps (s : State) :
    s.eraseSuspend.mem = s.mem ∧ s.eraseSuspend.flc.intents = s.flc.intents ∧ s.eraseSuspend.free = s.free := by
  unfold State.eraseSuspend
  cases s.flc.op with
  | none => exact ⟨rfl, rfl, rfl⟩
  | some op =>
    dsimp only
    split
    · exact ⟨rfl, rfl, rfl⟩
    split
    · exact ⟨rfl, rfl, rfl⟩
    split
    · exact ⟨rfl, rfl, rfl⟩
    · exact ⟨rfl, rfl, rfl⟩

/-- The state in which a read of a bank reads it: an erase of the bank is suspended. -/
def State.readied (s : State) (b : Nat) : State := if s.erasing b then s.eraseSuspend else s

theorem readied_keeps (s : State) :
    (s.readied b).mem = s.mem ∧ (s.readied b).flc.intents = s.flc.intents ∧ (s.readied b).free = s.free := by
  unfold State.readied
  split
  · exact eraseSuspend_keeps s
  · exact ⟨rfl, rfl, rfl⟩

/-- What a core's read of a flash word gives it. -/
theorem flashReach_gives (s : State) : (s.flashReach b o).1 =
    if s.domOn 14 = false then .fault else
    if s.getB Port.FLC_STAT 0 = false then .hold else
    if s.inErase b o ∨ (b = 4 ∧ s.flc.running ∧ (s.flc.op.map FlashOp.bank) = some 4) then .fault else
    if s.programming b ∨ (s.erasing b ∧ s.getB Port.FLC_STAT 16 = false ∧ s.ranMin = false) then .hold else
    ((s.flashRd b o).1.map Reach.ok).getD .ecc := by
  obtain ⟨mem, intents, free⟩ := readied_keeps b s
  have read := flashRd_congr b o mem intents free
  unfold State.readied at read
  unfold State.flashReach
  dsimp only
  split
  · rfl
  split
  · rfl
  split
  · rfl
  split
  · rfl
  rw [← read]
  obtain ⟨w | _, u⟩ := (if s.erasing b then s.eraseSuspend else s).flashRd b o
  · rfl
  · rfl

theorem flashReach_mem (s : State) : (s.flashReach b o).2.mem = s.mem := by
  have read := (flashRd_mem b o (s.readied b)).trans (readied_keeps b s).1
  unfold State.readied at read
  unfold State.flashReach
  dsimp only
  split
  · rfl
  split
  · rfl
  split
  · rfl
  split
  · rfl
  rw [← read]
  obtain ⟨w | _, u⟩ := (if s.erasing b then s.eraseSuspend else s).flashRd b o
  · rfl
  · rfl

theorem codeReach_mem (s : State) (c : Core) (a : Word) : (s.codeReach c a).2.mem = s.mem := by
  unfold State.codeReach
  split
  · split
    · rfl
    · rfl
  split
  · rfl
  · exact flashReach_mem _ _ s

/-- What a read of flash returns takes no notice of a core's DBG_STAT. -/
theorem flashReach_dbgStat (s : State) (d : Core) (hi lo v : Nat) :
    ((s.setF (Port.DBG_STAT d.num) hi lo v).flashReach b o).1 = (s.flashReach b o).1 := by
  have get (p : Nat) (other : p ≠ Port.DBG_STAT d.num) :
      (s.setF (Port.DBG_STAT d.num) hi lo v).get p = s.get p := s.get_setF_other hi lo v other.symm
  have up : (s.setF (Port.DBG_STAT d.num) hi lo v).domOn 14 = s.domOn 14 := by
    rw [State.domOn, State.getB, get _ (by cases d <;> decide)]; rfl
  have stat (k : Nat) : (s.setF (Port.DBG_STAT d.num) hi lo v).getB Port.FLC_STAT k = s.getB Port.FLC_STAT k := by
    rw [State.getB, get _ (by cases d <;> decide)]; rfl
  have runs : (s.setF (Port.DBG_STAT d.num) hi lo v).ranMin = s.ranMin := by
    rw [State.ranMin, State.getF, get _ (by cases d <;> decide)]; rfl
  have erased : (s.setF (Port.DBG_STAT d.num) hi lo v).inErase b o = s.inErase b o := rfl
  have programs : (s.setF (Port.DBG_STAT d.num) hi lo v).programming b = s.programming b := rfl
  have erases : (s.setF (Port.DBG_STAT d.num) hi lo v).erasing b = s.erasing b := rfl
  have read := flashRd_congr (s := s) (t := s.setF (Port.DBG_STAT d.num) hi lo v) b o rfl rfl rfl
  rw [flashReach_gives, flashReach_gives, up, stat, stat, runs, erased, programs, erases, read, State.setF_flc]

theorem codeReach_dbgStat (s : State) (d c : Core) (hi lo v : Nat) (a : Word) :
    ((s.setF (Port.DBG_STAT d.num) hi lo v).codeReach c a).1 = (s.codeReach c a).1 := by
  have place : (s.setF (Port.DBG_STAT d.num) hi lo v).codePlace c a = s.codePlace c a := rfl
  unfold State.codeReach
  rw [State.setF_rig, State.setF_sec, place]
  split
  · split
    · rfl
    · rfl
  split
  · rfl
  · exact flashReach_dbgStat _ _ s d hi lo v

end reach

/-! ## STEP (R293) -/

section released
variable {s : State} {c : Core}

theorem codeReach_released {v : Word} {steps : Nat} {a : Word} (fetch : (s.codeReach c a).1 = .ok v) :
    ((s.released c steps).codeReach c a).1 = .ok v := by
  rw [State.released, codeReach_dbgStat, State.updCore, codeReach_setCore, fetch]

theorem released_live {steps : Nat} (up : s.domOn c.num = true) (out : (s.core c).inReset = false)
    (free : (s.core c).lockup = false) (booted : (s.core c).bootWait = false) (clock : (s.core c).gated = false) :
    (s.released c steps).coreLive c = true := by
  have on : (s.released c steps).domOn c.num = s.domOn c.num := by
    rw [State.domOn, State.getB, (released_coreOnly s c steps).2 _ (by cases c <;> decide)]; rfl
  simp [State.coreLive, on, up, CoreState.released, out, free, booted, clock]

theorem fetched_one {v : Word} (ready : s.coreReady c = true) (fetch : (s.codeReach c (s.core c).pc).1 = .ok v) :
    s.fetched c 1 = some (s.codeReach c (s.core c).pc).2 := by
  rw [State.fetched, if_neg (by rw [ready]; decide)]
  generalize s.codeReach c (s.core c).pc = read at fetch ⊢
  obtain ⟨w, u⟩ := read
  obtain rfl : w = .ok v := fetch
  rfl

/-- Breakpoints do not hold a core that was let go on. -/
theorem released_ready {steps : Nat} (live : (s.released c steps).coreLive c = true)
    (idle : (s.released c steps).irqDue c = false) (woken : (s.core c).waiting = false)
    (wait : (s.core c).apWait = none) : (s.released c steps).coreReady c = true := by
  simp [State.coreReady, live, idle, State.breakHere, CoreState.released, woken, wait]

theorem irqDue_quiet (quiet : (s.core c).ie = false ∨ (s.core c).above = none) : s.irqDue c = false := by
  obtain off | none := quiet
  · simp [State.irqDue, off]
  · simp [State.irqDue, none]

/-- STEP with MASK considers no interrupt. -/
theorem irqDue_masked (masked : (s.core c).stepping = 2) : s.irqDue c = false := by
  simp [State.irqDue, masked]

/-- The word 0 is NOP, whatever stands behind it. -/
theorem runWord_nop (s : State) (c : Core) (w1 : Word) : s.runWord c 0 w1 = s.opNop c := by
  have plain : (reservedFirst 0 || reservedSecond 0 w1) = false := by
    rw [show reservedFirst 0 = false by decide, show reservedSecond 0 w1 = false from rfl]; rfl
  rw [State.runWord, if_neg (by decide), if_neg (by rw [plain]; decide), if_pos (by decide), State.runSys,
    if_pos (by decide)]

/-- NOP of a core that steps goes on by one word, and halts. -/
theorem opNop_steps {t u : State} (fetch : t.fetched c 1 = some u) (run : (u.core c).halted = false)
    (wait : (u.core c).apWait = none) (step : (u.core c).stepping ≠ 0) :
    t.opNop c = ((u.begun c).updCore c fun x => x.advance 1).haltCore c 4 := by
  have core : ((u.begun c).updCore c fun x => x.advance 1).core c = (u.core c).begun.advance 1 := by
    rw [core_updCore, core_begun]
  rw [State.opNop, alu_ran fetch]
  exact retire_steps (by rw [core]; exact wait) (by rw [core]; exact run) (by rw [core]; exact step)

/-- A step over NOP: one word on, halted with CAUSE 4, and all else as it was. -/
theorem opNop_released {v : Word} {steps : Nat} (step : steps ≠ 0) (wait : (s.core c).apWait = none)
    (ready : (s.released c steps).coreReady c = true) (fetch : s.codeReach c (s.core c).pc = (.ok v, s)) :
    (((s.released c steps).opNop c).core c).halted = true ∧
    ((s.released c steps).opNop c).getF (Port.DBG_STAT c.num) 14 12 = 4 ∧
    (((s.released c steps).opNop c).core c).pc = (s.core c).pc + 1 ∧
    (s.core c).keepsBut [] (((s.released c steps).opNop c).core c) ∧
    (((s.released c steps).opNop c).core c).cs = (s.core c).cs ∧ ((s.released c steps).opNop c).mem = s.mem ∧
    ((s.released c steps).opNop c).core c.other = s.core c.other := by
  have word := codeReach_released (steps := steps) (congrArg Prod.fst fetch)
  obtain ⟨u, fetched, mem⟩ : ∃ u, (s.released c steps).fetched c 1 = some u ∧ u.mem = s.mem :=
    ⟨_, fetched_one ready (by rw [core_released]; exact word),
      (codeReach_mem _ c _).trans (coreOnly_mem (released_coreOnly s c steps))⟩
  have core := (fetched_core fetched c).trans (core_released s c steps)
  have others := (fetched_core fetched c.other).trans (coreOnly_other (released_coreOnly s c steps))
  obtain ⟨halted, stat, pc, keeps, cs, only⟩ := advanced_halts u c (show 4 < 8 by decide)
  rw [opNop_steps fetched (by rw [core]; rfl) (by rw [core]; exact wait) (by rw [core]; exact step)]
  rw [core] at pc keeps cs
  exact ⟨halted, stat, pc, keepsBut_then (released_keepsBut _ steps) keeps, cs, (coreOnly_mem only).trans mem,
    (coreOnly_other only).trans others⟩

/-- An interrupt is due at the step of a core that takes interrupts, at any window but the last. -/
theorem released_due {n p : Nat} (ie : (s.core c).ie = true) (shadow : (s.core c).eiShadow = false)
    (source : (s.core c).above = some (n, p)) (room : (s.core c).res.toNat < 14) (wait : (s.core c).apWait = none) :
    (s.released c 1).irqDue c = true := by
  have window : (s.core c).res ≠ 15 := by bv_omega
  have enabled : ((s.core c).released 1).ie = true := ie
  have pends : ((s.core c).released 1).above = some (n, p) := source
  simp only [State.irqDue, core_released, enabled, pends]
  simpa [CoreState.released, shadow, wait] using window

/-- A step that performs the entry of an interrupt. -/
theorem irqEnter_released {n p : Nat} (source : (s.core c).above = some (n, p)) (room : (s.core c).res.toNat < 14)
    (wait : (s.core c).apWait = none) :
    ((s.released c 1).irqEnter c).retire c =
      ((s.released c 1).updCore c fun x => x.interrupted n p).haltCore c 4 := by
  have core : ((s.released c 1).updCore c fun x => x.interrupted n p).core c =
      ((s.core c).released 1).interrupted n p := by rw [core_updCore, core_released]
  obtain ⟨same_wait, same_run, same_step⟩ := interrupted_marks ((s.core c).released 1) n p
  rw [irqEnter_interrupted (by rw [core_released]; exact source) (by rw [core_released]; exact room)]
  refine retire_steps ?_ ?_ ?_ <;> rw [core]
  · exact same_wait.trans wait
  · exact same_run
  · rw [same_step]; exact one_ne_zero

end released

/-! ## Breakpoints (R295) -/

section breakpoint
variable {s : State} {c : Core}

theorem breakHalt_halts (live : s.coreLive c = true) (woken : (s.core c).waiting = false)
    (wait : (s.core c).apWait = none) (idle : s.irqDue c = false) (here : s.breakHere c = true) :
    s.breakHalt c = s.haltCore c 3 :=
  if_pos (by rw [live, woken, wait, idle, here]; rfl)

theorem breakHalt_passes (away : s.breakHere c = false) : s.breakHalt c = s := if_neg (by rw [away]; simp)

end breakpoint

/-- Settles O28: each debug command halts the core, or releases it to one word or one entry that halts it again. -/
theorem theDebuggerHaltsRunsAndSteps : Obligations.TheDebuggerHaltsRunsAndSteps := by
  unfold Obligations.TheDebuggerHaltsRunsAndSteps
  intro s
  refine ⟨fun m c a runs out free up wait => ⟨_, exec_halt a, ?halt⟩,
    fun m c a halted => ⟨_, exec_halt a, dbgCmd_halted halted⟩,
    fun m c a halted => ⟨_, exec_run a, ?run⟩,
    fun m c a runs => ⟨_, exec_run a, dbgCmd_running runs⟩,
    fun m c w0 w1 v a halted out free booted clock woken wait up fetch nop quiet => ⟨_, rfl, ?step⟩,
    fun m c w0 w1 v n p a halted out free booted clock woken wait up fetch ie shadow source room => ⟨_, rfl, ?entry⟩,
    fun m c w0 w1 v a halted out free booted clock woken wait up fetch nop => ⟨_, rfl, ?mask⟩,
    fun c live woken wait idle fresh enabled word => ⟨_, rfl, ?breakpoint⟩,
    fun c away => ⟨_, rfl, breakHalt_passes away⟩,
    fun m c a runs out free up wait => ⟨_, exec_halt a, ?noted⟩⟩
  case halt =>
    rw [dbgCmd_halts runs out free up wait]
    exact haltCore_halted s c (by decide)
  case run =>
    have run : s.dbgCmd c 2 = s.released c 0 := dbgCmd_releases halted (by decide) (by decide)
    rw [run]
    dsimp only
    rw [core_released]
    exact ⟨rfl, rfl, released_keepsBut _ _, rfl, released_coreOnly s c 0⟩
  case step =>
    have idle : (s.released c 1).irqDue c = false := irqDue_quiet (by rwa [core_released])
    have ready := released_ready (released_live up out free booted clock) idle woken wait
    have run : s.stepCore m c false w0 w1 = (s.released c 1).opNop c := by
      rw [stepCore_released a halted, nop, ← runWord_nop _ c w1]
      exact if_neg (by simp [idle])
    rw [run]
    exact opNop_released one_ne_zero wait ready fetch
  case mask =>
    have idle : (s.released c 2).irqDue c = false := irqDue_masked (by rw [core_released]; rfl)
    have ready := released_ready (released_live up out free booted clock) idle woken wait
    have run : s.stepCore m c true w0 w1 = (s.released c 2).opNop c := by
      rw [stepCore_released a halted, nop, ← runWord_nop _ c w1]
      exact if_neg (by simp [idle])
    rw [run]
    exact opNop_released two_ne_zero wait ready fetch
  case entry =>
    have due : (s.released c 1).irqDue c = true := released_due ie shadow source room wait
    have run : s.stepCore m c false w0 w1 =
        ((s.released c 1).updCore c fun x => x.interrupted n p).haltCore c 4 := by
      rw [stepCore_released a halted, ← irqEnter_released source room wait]
      exact if_pos (by rw [Bool.and_eq_true]; exact ⟨released_live up out free booted clock, due⟩)
    have after := coreOnly_trans (coreOnly_trans (released_coreOnly s c 1) (updCore_coreOnly _ c _))
      (haltCore_coreOnly ((s.released c 1).updCore c fun x => x.interrupted n p) c 4)
    rw [run]
    dsimp only
    rw [core_haltCore, core_updCore, core_released]
    exact ⟨rfl, cause_haltCore _ c (by decide), interrupted_pc _ n p, interrupted_return _ n p, coreOnly_mem after,
      coreOnly_other after⟩
  case breakpoint =>
    have here : s.breakHere c = true := by simp [State.breakHere, fresh, enabled, word]
    rw [breakHalt_halts live woken wait idle here]
    exact haltCore_halted s c (by decide)
  case noted =>
    rw [dbgCmd_notes runs out free up wait]
    dsimp only
    rw [core_updCore]
    exact ⟨rfl, runs, rfl⟩

end Sys2Proof.Machine

/-! The statements of 15_security_and_update.md on the fuses (O59, O60).  First, operation by operation, what leaves the
fuses and the transition under way as they are; then the operations of the life cycle, the resets and the writes that
reach them, which keep the fuses in order. -/

namespace Sys2Proof.Machine

open Sys2Proof

/-! ## What leaves the fuses alone (R351) -/

/-- The fuses and the target of the transition under way: what the life cycle's own operations and the resets alone
change. -/
def State.fused (s : State) : Fuses × Nat := (s.fuses, s.sec.trans)

@[simp] theorem fused_mk (regs latch time mem fuses rig apc lkc basin lanes rx tx link trim utv flc dmc sec host psm pwr
    sluice evf tim pins free pending) : State.fused ⟨regs, latch, time, mem, fuses, rig, apc, lkc, basin, lanes, rx, tx,
    link, trim, utv, flc, dmc, sec, host, psm, pwr, sluice, evf, tim, pins, free, pending⟩ = (fuses, sec.trans) := rfl

@[simp] theorem fused_eta (s : State) : (s.fuses, s.sec.trans) = s.fused := rfl

@[simp] theorem fused_ite (p : Prop) [Decidable p] (s t : State) :
    (if p then s else t).fused = if p then s.fused else t.fused := apply_ite State.fused p s t

@[simp] theorem fused_forEach {α : Type} (f : α → State → State) (h : ∀ a t, (f a t).fused = t.fused) (l : List α)
    (s : State) : (forEach l f s).fused = s.fused := forEach_keeps State.fused f h l s

@[simp] theorem fused_forNat (f : Nat → State → State) (h : ∀ a t, (f a t).fused = t.fused) (n : Nat)
    (s : State) : (forNat n f s).fused = s.fused := forNat_keeps State.fused f h n s

@[simp] theorem fused_snd_ite {α : Type} (p : Prop) [Decidable p] (x y : α × State) :
    (if p then x else y).2.fused = if p then x.2.fused else y.2.fused :=
  apply_ite (fun x : α × State => x.2.fused) p x y

@[simp] theorem fused_foldl {α : Type} (f : State → α → State) (h : ∀ t a, (f t a).fused = t.fused) (l : List α)
    (s : State) : (l.foldl f s).fused = s.fused := forEach_keeps State.fused (fun a t => f t a) (fun a t => h t a) l s

@[simp] theorem fused_snd_foldl {α β : Type} (f : β × State → α → β × State) (h : ∀ x a, (f x a).2.fused = x.2.fused)
    (l : List α) (x : β × State) : (l.foldl f x).2.fused = x.2.fused := by
  induction l generalizing x with
  | nil => rfl
  | cons a r ih => exact (ih _).trans (h x a)

theorem fused_dmc (s : State) (x : Dmc) : ({ s with dmc := x } : State).fused = s.fused := rfl
theorem fused_trim (s : State) (x : Trim) : ({ s with trim := x } : State).fused = s.fused := rfl
theorem fused_rig (s : State) (x : RigState) : ({ s with rig := x } : State).fused = s.fused := rfl

theorem fused_of_eq {α : Type} {x : α × State} {a : α} {t : State} (e : x = (a, t)) : t.fused = x.2.fused := by rw [e]

/-! ### Machine/Ops -/

@[simp] theorem set_fused (s : State) (p : Nat) (v : Word) : (s.set p v).fused = s.fused := by rfl

@[simp] theorem setF_fused (s : State) (p hi lo v : Nat) : (s.setF p hi lo v).fused = s.fused := by rfl

@[simp] theorem setB_fused (s : State) (p b : Nat) (v : Bool) : (s.setB p b v).fused = s.fused := by rfl

@[simp] theorem count_fused (s : State) (p : Nat) : (s.count p).fused = s.fused := by rfl

@[simp] theorem setWide_fused (s : State) (p n v : Nat) : (s.setWide p n v).fused = s.fused := by rfl

@[simp] theorem coldRegs_fused (s : State) (p : Nat → Bool) : (s.coldRegs p).fused = s.fused := by rfl

@[simp] theorem nextFree_fused (s : State) : s.nextFree.fused = s.fused := by rfl

@[simp] theorem setLane_fused (s : State) (l : Nat) (x : Lane) : (s.setLane l x).fused = s.fused := by rfl

@[simp] theorem setChain_fused (s : State) (c : Nat) (x : RxState) : (s.setChain c x).fused = s.fused := by rfl

@[simp] theorem setTxc_fused (s : State) (t : Nat) (x : TxState) : (s.setTxc t x).fused = s.fused := by rfl

@[simp] theorem setEvent_fused (s : State) (q : Nat) (x : Option Event) : (s.setEvent q x).fused = s.fused := by rfl

@[simp] theorem setCal_fused (s : State) (c : Nat) (x : Option CalEntry) : (s.setCal c x).fused = s.fused := by rfl

@[simp] theorem setLedger_fused (s : State) (b : Nat) (x : Ledger) : (s.setLedger b x).fused = s.fused := by rfl

@[simp] theorem setUport_fused (s : State) (p : Nat) (x : UPort) : (s.setUport p x).fused = s.fused := by rfl

@[simp] theorem setQueue_fused (s : State) (q : Nat) (x : List Pkt) : (s.setQueue q x).fused = s.fused := by rfl

@[simp] theorem setCopy_fused (s : State) (m : Nat) (x : BsnCopy) : (s.setCopy m x).fused = s.fused := by rfl

@[simp] theorem setKeySlot_fused (s : State) (k : Nat) (x : KeySlot) : (s.setKeySlot k x).fused = s.fused := by rfl

@[simp] theorem setPsm_fused (s : State) (x : Nat) (v : Psm) : (s.setPsm x v).fused = s.fused := by rfl

@[simp] theorem setCore_fused (s : State) (c : Core) (x : CoreState) : (s.setCore c x).fused = s.fused := by
  unfold State.setCore
  split <;> simp

/-! ### Machine/Raise -/

@[simp] theorem pendBoth_fused (s : State) (n : Nat) : (s.pendBoth n).fused = s.fused := by rfl

@[simp] theorem setChTasks_fused (s : State) (ch : Nat) (l : List Nat) : (s.setChTasks ch l).fused = s.fused := by rfl

@[simp] theorem setGuard_fused (s : State) (ch v : Nat) : (s.setGuard ch v).fused = s.fused := by rfl

@[simp] theorem guardCount_fused (s : State) (ch : Nat) : (s.guardCount ch).fused = s.fused := by
  simp [State.guardCount]

@[simp] theorem raiseChannel_fused (s : State) (ch : Nat) : (s.raiseChannel ch).fused = s.fused := by
  simp [State.raiseChannel]

@[simp] theorem raiseProducer_fused (s : State) (p : Nat) : (s.raiseProducer p).fused = s.fused := by
  simp [State.raiseProducer]

@[simp] theorem ballEdge_fused (s old : State) (g : Nat) : (s.ballEdge old g).fused = s.fused := by
  simp [State.ballEdge]

@[simp] theorem withEdges_fused (s : State) (f : State → State) (h : (f s).fused = s.fused) :
    (s.withEdges f).fused = s.fused := by
  simp [State.withEdges, h]

@[simp] theorem raise_fused (s : State) (n : Nat) : (s.raise n).fused = s.fused := by simp [State.raise]

/-! ### Machine/Memory -/

@[simp] theorem sramWr_fused (s : State) (k : Nat) (v : Word) : (s.sramWr k v).fused = s.fused := by rfl

@[simp] theorem sramMark_fused (s : State) (k e : Nat) : (s.sramMark k e).fused = s.fused := by rfl

@[simp] theorem sramWrM_fused (s : State) (k : Nat) (v : Word) : (s.sramWrM k v).fused = s.fused := by
  simp [State.sramWrM]

@[simp] theorem sramWrs_fused (s : State) (k : Nat) (l : List Word) : (s.sramWrs k l).fused = s.fused := by
  induction l generalizing s k with
  | nil => rfl
  | cons v vs ih => simp [State.sramWrs, ih]

@[simp] theorem zeroBanks_fused (s : State) (p : Nat → Bool) : (s.zeroBanks p).fused = s.fused := by rfl

@[simp] theorem zeroDomain_fused (s : State) (d : Nat) : (s.zeroDomain d).fused = s.fused := by rfl

@[simp] theorem flashRd_fused (s : State) (b o : Nat) : (s.flashRd b o).2.fused = s.fused := by
  simp [State.flashRd]

@[simp] theorem flashSet_fused (s : State) (b o : Nat) (v : Word) : (s.flashSet b o v).fused = s.fused := by rfl

@[simp] theorem flashMark_fused (s : State) (b o e : Nat) : (s.flashMark b o e).fused = s.fused := by rfl

@[simp] theorem eraseWords_fused (s : State) (b sec : Nat) : (s.eraseWords b sec).fused = s.fused := by rfl

/-! ### Machine/Rig -/

@[simp] theorem mbxWrs_fused (s : State) (o : Nat) (l : List Word) : (s.mbxWrs o l).fused = s.fused := by
  induction l generalizing s o with
  | nil => rfl
  | cons v vs ih => simp [State.mbxWrs, ih]

/-! ### Machine/Dram -/

@[simp] theorem noteDram_fused (s : State) (f : State → State) (h : (f s).fused = s.fused) :
    (s.noteDram f).fused = s.fused := by
  simp [State.noteDram, h]

@[simp] theorem dmcFlag_fused (s : State) (b : Nat) : (s.dmcFlag b).fused = s.fused := by simp [State.dmcFlag]

@[simp] theorem dramWr_fused (s : State) (b : Nat) (ws : List Word) (owner : Nat) (epoch : BitVec 6) :
    (s.dramWr b ws owner epoch).fused = s.fused := by rfl

@[simp] theorem dmcFreezeOp_fused (s : State) (cause port groups block tag : Nat) :
    (s.dmcFreezeOp cause port groups block tag).fused = s.fused := by
  simp [State.dmcFreezeOp]

@[simp] theorem dramWake_fused (s : State) (port : Nat) : (s.dramWake port).fused = s.fused := by
  simp [State.dramWake]

@[simp] theorem dramRead_fused (s0 : State) (port b : Nat) : (s0.dramRead port b).2.fused = s0.fused := by
  unfold State.dramRead
  dsimp only
  repeat' split
  all_goals simp

@[simp] theorem dramRequest_fused (s : State) (r : DramReq) : (s.dramRequest r).fused = s.fused := by
  simp [State.dramRequest]

/-! ### Machine/Basin -/

@[simp] theorem cellRead_fused (s : State) (l : CellLoc) (i : Nat) : (s.cellRead l i).2.fused = s.fused := by
  unfold State.cellRead
  dsimp only
  repeat' split
  all_goals simp

@[simp] theorem headerSeen_fused (s : State) (p : Pkt) : (s.headerSeen p).fused = s.fused := by
  unfold State.headerSeen
  split <;> simp

@[simp] theorem setHeader_fused (s : State) (p : Pkt) (i : Nat) (v : Word) : (s.setHeader p i v).fused = s.fused := by
  unfold State.setHeader
  split <;> simp

@[simp] theorem setHeaders_fused (s : State) (p : Pkt) (i : Nat) (l : List Word) :
    (s.setHeaders p i l).fused = s.fused := by
  induction l generalizing s i with
  | nil => rfl
  | cons v vs ih => simp [State.setHeaders, ih]

@[simp] theorem payRead_fused (s : State) (p : Pkt) (w : Nat) : (s.payRead p w).2.fused = s.fused := by
  simp [State.payRead]

@[simp] theorem payReads_fused (s : State) (p : Pkt) (n : Nat) : (s.payReads p n).2.fused = s.fused := by
  simp [State.payReads]

@[simp] theorem charge_fused (s : State) (c v : Nat) : (s.charge c v).fused = s.fused := by rfl

@[simp] theorem chargeD_fused (s : State) (d v : Nat) : (s.chargeD d v).fused = s.fused := by rfl

@[simp] theorem chargeAll_fused (s : State) (v : Nat) (l : List CellLoc) : (s.chargeAll v l).fused = s.fused :=
  fused_forEach _ (fun x t => by cases x <;> simp) l s

@[simp] theorem freeAll_fused (s : State) (l : List CellLoc) : (s.freeAll l).fused = s.fused :=
  fused_forEach _ (fun x t => by cases x <;> simp) l s

@[simp] theorem queueFlag_fused (s : State) (q b : Nat) : (s.queueFlag q b).fused = s.fused := by rfl

@[simp] theorem checkMarks_fused (s : State) (q old : Nat) : (s.checkMarks q old).fused = s.fused := by
  unfold State.checkMarks
  split <;> simp

@[simp] theorem marked_fused (s : State) (q : Nat) (f : State → State) (h : (f s).fused = s.fused) :
    (s.marked q f).fused = s.fused := by
  simp [State.marked, h]

@[simp] theorem takeCell_fused (s : State) (q : Nat) : (s.takeCell q).2.fused = s.fused := by
  simp [State.takeCell]

@[simp] theorem takeCells_fused (s : State) (q n : Nat) : (s.takeCells q n).2.fused = s.fused := by
  induction n generalizing s with
  | zero => rfl
  | succ n ih =>
    unfold State.takeCells
    split <;> rename_i taken <;> simp [ih, fused_of_eq taken]

@[simp] theorem takeHole_fused (s : State) (q : Nat) : (s.takeHole q).2.fused = s.fused := by
  unfold State.takeHole
  split <;> simp

@[simp] theorem holeCell_fused (s : State) (q : Nat) : (s.holeCell q).2.fused = s.fused := by
  unfold State.holeCell
  split <;> rename_i taken <;> simp [fused_of_eq taken]

@[simp] theorem idleRestart_fused (s : State) (q : Nat) : (s.idleRestart q).fused = s.fused := by rfl

@[simp] theorem readyCheck_fused (s : State) (q : Nat) : (s.readyCheck q).fused = s.fused := by
  simp [State.readyCheck]

@[simp] theorem commitPkt_fused (s : State) (q : Nat) (p : Pkt) : (s.commitPkt q p).fused = s.fused := by
  simp [State.commitPkt]

@[simp] theorem setHeadSent_fused (s : State) (q v : Nat) : (s.setHeadSent q v).fused = s.fused := by rfl

@[simp] theorem popPkt_fused (s : State) (q : Nat) : (s.popPkt q).fused = s.fused := by
  unfold State.popPkt
  split <;> simp

@[simp] theorem unpopPkt_fused (s : State) (q : Nat) (p : Pkt) : (s.unpopPkt q p).fused = s.fused := by
  simp [State.unpopPkt]

@[simp] theorem dropHead_fused (s : State) (q : Nat) : (s.dropHead q).fused = s.fused := by
  unfold State.dropHead
  split <;> simp

@[simp] theorem commitHole_fused (s : State) (q : Nat) (c : CellLoc) (epoch : BitVec 6) (src source : Nat) (t : BitVec
    54) :
    (s.commitHole q c epoch src source t).fused = s.fused := by simp [State.commitHole]

@[simp] theorem buildPkt_fused (s : State) (q : Nat) (hdr : List Word) (pay : List Nonet) (epoch : BitVec 6) :
    (s.buildPkt q hdr pay epoch).2.fused = s.fused := by
  unfold State.buildPkt
  dsimp only
  split
  · simp
  · refine (fused_foldl _ (fun u x => ?_) _ _).trans (by simp)
    split <;> simp

@[simp] theorem linkSpill_fused (s : State) (d0 d : Nat) : (s.linkSpill d0 d).fused = s.fused := by rfl

@[simp] theorem spillCell_fused (s : State) (q c : Nat) : (s.spillCell q c).fused = s.fused := by
  unfold State.spillCell
  split <;> simp

@[simp] theorem fetchCell_fused (s : State) (c d v : Nat) (hdr : Option Nat) :
    (s.fetchCell c d v hdr).fused = s.fused := by
  unfold State.fetchCell
  split <;> simp

@[simp] theorem refillCell_fused (s : State) (q : Nat) : (s.refillCell q).fused = s.fused := by
  unfold State.refillCell
  split <;> simp

@[simp] theorem linkFix_fused (s : State) (l : CellLoc) : (s.linkFix l).fused = s.fused := by
  unfold State.linkFix
  split <;> simp

@[simp] theorem mendLinks_fused (s : State) (p : Pkt) : (s.mendLinks p).fused = s.fused := by simp [State.mendLinks]

@[simp] theorem breakQueue_fused (s : State) (q k : Nat) (p : Pkt) (later : List Pkt) :
    (s.breakQueue q k p later).2.fused = s.fused := by
  unfold State.breakQueue
  split <;> simp

@[simp] theorem followLinks_fused (s : State) (q : Nat) (p : Pkt) : (s.followLinks q p).2.fused = s.fused := by
  unfold State.followLinks
  split <;> simp

@[simp] theorem followAt_fused (s : State) (q i : Nat) : (s.followAt q i).fused = s.fused := by
  unfold State.followAt
  dsimp only
  repeat' split
  all_goals simp

@[simp] theorem followOpen_fused (s : State) (m : Master) : (s.followOpen m).fused = s.fused := by
  unfold State.followOpen
  split <;> simp

@[simp] theorem readQueued_fused (s : State) (q i : Nat) : (s.readQueued q i).fused = s.fused := by
  unfold State.readQueued
  dsimp only
  split <;> simp

@[simp] theorem basinEmpty_fused (s : State) : s.basinEmpty.fused = s.fused := by rfl

@[simp] theorem copyReset_fused (s : State) (m : Master) : (s.copyReset m).fused = s.fused := by
  unfold State.copyReset
  dsimp only
  repeat' split
  all_goals simp

/-! ### Machine/Sluice -/

@[simp] theorem sluiceAsk_fused (s : State) (a : Nat) : (s.sluiceAsk a).fused = s.fused := by simp [State.sluiceAsk]

@[simp] theorem sluiceDrop_fused (s : State) (a : Nat) : (s.sluiceDrop a).fused = s.fused := by rfl

@[simp] theorem sluiceGive_fused (s : State) (a : Nat) : (s.sluiceGive a).fused = s.fused := by rfl

@[simp] theorem sluiceMust_fused (s : State) (a : Nat) : (s.sluiceMust a).2.fused = s.fused := by
  simp [State.sluiceMust]

/-! ### Machine/Context -/

@[simp] theorem seat_fused (s : State) (c k : Nat) : (s.seat c k).fused = s.fused := by rfl

@[simp] theorem ctxWr_fused (s : State) (c i : Nat) (v : Word) : (s.ctxWr c i v).fused = s.fused := by
  simp [State.ctxWr]

@[simp] theorem ctxWrs_fused (s : State) (c i : Nat) (l : List Word) : (s.ctxWrs c i l).fused = s.fused := by
  induction l generalizing s i with
  | nil => rfl
  | cons v vs ih => simp [State.ctxWrs, ih]

@[simp] theorem setCtxF_fused (s : State) (c i hi lo v : Nat) : (s.setCtxF c i hi lo v).fused = s.fused := by
  simp [State.setCtxF]

@[simp] theorem setSeqState_fused (s : State) (q v : Nat) : (s.setSeqState q v).fused = s.fused := by rfl

@[simp] theorem updEvent_fused (s : State) (q : Nat) (f : Event → Event) : (s.updEvent q f).fused = s.fused := by
  unfold State.updEvent
  split <;> simp

@[simp] theorem endEvent_fused (s : State) (q : Nat) (evstat : Nat) : (s.endEvent q evstat).fused = s.fused := by
  simp [State.endEvent]

/-! ### Machine/Account -/

@[simp] theorem noteWarn_fused (s : State) (b : Nat) : (s.noteWarn b).fused = s.fused := by simp [State.noteWarn]

@[simp] theorem account_fused (s : State) (t off dur : Nat) (start late : BitVec 54) (free : Nat → Bool) :
    (s.account t off dur start late free).2.fused = s.fused := by
  unfold State.account
  dsimp only
  split
  · simp
  · split
    · simp
    · split
      · rfl
      · split
        · simp
        · split <;> simp

@[simp] theorem settle_fused (s : State) (b : Nat) (a e : Nat) : (s.settle b a e).fused = s.fused := by
  simp [State.settle]

@[simp] theorem fillLedger_fused (s : State) (b : Nat) : (s.fillLedger b).fused = s.fused := by
  simp [State.fillLedger]

@[simp] theorem bandsInForce_fused (s : State) : s.bandsInForce.fused = s.fused := by simp [State.bandsInForce]

@[simp] theorem clearLedgers_fused (s : State) : s.clearLedgers.fused = s.fused := by simp [State.clearLedgers]

@[simp] theorem slotBoundary_fused (s : State) (b : Nat) : (s.slotBoundary b).fused = s.fused := by
  simp [State.slotBoundary]

/-! ### Machine/Transmit -/

@[simp] theorem setSyn_fused (s : State) (t v : Nat) : (s.setSyn t v).fused = s.fused := by rfl

@[simp] theorem updTxc_fused (s : State) (t : Nat) (f : TxState → TxState) : (s.updTxc t f).fused = s.fused := by rfl

@[simp] theorem dropReqs_fused (s : State) (t : Nat) (p : TxReq → Bool) : (s.dropReqs t p).fused = s.fused := by
  simp [State.dropReqs]

@[simp] theorem txFail_fused (s : State) (o : TxOwner) (code : Nat) : (s.txFail o code).fused = s.fused := by
  unfold State.txFail
  split <;> simp

@[simp] theorem setLast_fused (s : State) (t v : Nat) : (s.setLast t v).fused = s.fused := by rfl

@[simp] theorem txAsk_fused (s : State) (o : TxOwner) (t : Nat) (a : TxAsk) : (s.txAsk o t a).fused = s.fused := by
  unfold State.txAsk
  dsimp only
  split
  · simp
  · split
    · simp
    · split
      · simp
      · split
        · simp
        · split <;> rename_i accounted
          · simp [fused_of_eq accounted]
          · cases o <;> simp [fused_of_eq accounted]

@[simp] theorem choosePower_fused (s : State) (t : Nat) (r : TxReq) : (s.choosePower t r).fused = s.fused := by rfl

@[simp] theorem tuneStart_fused (s : State) (t : Nat) : (s.tuneStart t).fused = s.fused := by
  unfold State.tuneStart
  split <;> simp

@[simp] theorem synthLock_fused (s : State) (t : Nat) : (s.synthLock t).fused = s.fused := by simp [State.synthLock]

@[simp] theorem rampUp_fused (s : State) (t : Nat) : (s.rampUp t).fused = s.fused := by
  unfold State.rampUp
  split <;> simp

@[simp] theorem firstBit_fused (s : State) (t : Nat) : (s.firstBit t).fused = s.fused := by
  unfold State.firstBit
  split <;> simp

@[simp] theorem abortRun_fused (s : State) (t : Nat) (r : TxRun) (lost : Bool) :
    (s.abortRun t r lost).fused = s.fused := by simp [State.abortRun]

@[simp] theorem rampEnd_fused (s : State) (t : Nat) : (s.rampEnd t).fused = s.fused := by
  unfold State.rampEnd
  split <;> simp

@[simp] theorem skipLate_fused (s : State) (t : Nat) : (s.skipLate t).fused = s.fused := by
  unfold State.skipLate
  split <;> simp

@[simp] theorem lockLost_fused (s : State) (t : Nat) : (s.lockLost t).fused = s.fused := by
  unfold State.lockLost
  split <;> simp

@[simp] theorem keepEnd_fused (s : State) (t : Nat) : (s.keepEnd t).fused = s.fused := by simp [State.keepEnd]

@[simp] theorem cutOwner_fused (s : State) (own : TxOwner → Bool) : (s.cutOwner own).fused = s.fused :=
  fused_forNat _ (fun t u => by dsimp only; split <;> simp) 2 s

@[simp] theorem txOff_fused (s : State) (t : Nat) : (s.txOff t).fused = s.fused := by
  unfold State.txOff
  dsimp only
  split <;> simp

@[simp] theorem setTxCal_fused (s : State) (t : Nat) (f : TxState → TxState) :
    (s.setTxCal t f).fused = s.fused := by rfl

@[simp] theorem txReleased_fused (s : State) (t : Nat) : (s.txReleased t).fused = s.fused := by
  simp [State.txReleased]

@[simp] theorem calPending_fused (s : State) (t : Nat) : (s.calPending t).fused = s.fused := by
  simp [State.calPending]

@[simp] theorem calByTemp_fused (s : State) (t : Nat) : (s.calByTemp t).fused = s.fused := by simp [State.calByTemp]

@[simp] theorem txCalcmd_fused (s : State) (t : Nat) (v : Word) : (s.txCalcmd t v).fused = s.fused := by
  simp [State.txCalcmd]

@[simp] theorem calStart_fused (s : State) (t : Nat) : (s.calStart t).fused = s.fused := by simp [State.calStart]

@[simp] theorem calYield_fused (s : State) (t : Nat) : (s.calYield t).fused = s.fused := by
  unfold State.calYield
  split <;> simp

@[simp] theorem calResume_fused (s : State) (t : Nat) : (s.calResume t).fused = s.fused := by simp [State.calResume]

@[simp] theorem calDone_fused (s : State) (t : Nat) : (s.calDone t).fused = s.fused := by simp [State.calDone]

@[simp] theorem txTestcmd_fused (s : State) (t : Nat) (v : Word) : (s.txTestcmd t v).fused = s.fused := by
  unfold State.txTestcmd
  dsimp only
  repeat' split
  all_goals simp

/-! ### Machine/LaneOps -/

@[simp] theorem updChain_fused (s : State) (c : Nat) (f : RxState → RxState) :
    (s.updChain c f).fused = s.fused := by rfl

@[simp] theorem setLaneRole_fused (s : State) (l v : Nat) : (s.setLaneRole l v).fused = s.fused := by rfl

@[simp] theorem setLaneState_fused (s : State) (l v : Nat) : (s.setLaneState l v).fused = s.fused := by rfl

@[simp] theorem updLane_fused (s : State) (l : Nat) (f : Lane → Lane) : (s.updLane l f).fused = s.fused := by rfl

@[simp] theorem markPkts_fused (s : State) (ls : List Nat) (f : LanePkt → LanePkt) :
    (s.markPkts ls f).fused = s.fused := by simp [State.markPkts]

@[simp] theorem attStep_fused (s : State) (c a : Nat) : (s.attStep c a).fused = s.fused := by simp [State.attStep]

@[simp] theorem clip_fused (s : State) (c : Nat) : (s.clip c).fused = s.fused := by simp [State.clip]

@[simp] theorem attFall_fused (s : State) (c : Nat) : (s.attFall c).fused = s.fused := by simp [State.attFall]

@[simp] theorem agcWrite_fused (s : State) (c : Nat) (v : Word) : (s.agcWrite c v).fused = s.fused := by
  simp [State.agcWrite]

@[simp] theorem storeOctets_fused (s : State) (p : Pkt) (octs : List Octet) :
    (s.storeOctets p octs).fused = s.fused := by
  refine fused_foldl _ (fun u x => ?_) _ s
  split <;> simp

@[simp] theorem setEntries_fused (s : State) (l : List OkEntry) : (s.setEntries l).fused = s.fused := by rfl

@[simp] theorem touchEntry_fused (s : State) (l c : Nat) (ep : BitVec 6) :
    (s.touchEntry l c ep).fused = s.fused := by rfl

@[simp] theorem touchPkt_fused (s : State) (l : Nat) (p : LanePkt) : (s.touchPkt l p).fused = s.fused := by
  unfold State.touchPkt
  split <;> simp

@[simp] theorem laneArrive_fused (s : State) (l n : Nat) : (s.laneArrive l n).fused = s.fused := by
  unfold State.laneArrive
  split <;> simp

@[simp] theorem fillPkt_fused (s : State) (lp : LanePkt) (octs : List Octet) :
    (s.fillPkt lp octs).2.fused = s.fused := by simp [State.fillPkt]

@[simp] theorem freeOctets_fused (s : State) (n : Nat) : (s.freeOctets n).2.fused = s.fused := by rfl

@[simp] theorem laneFree_fused (s : State) (l : Nat) : (s.laneFree l).fused = s.fused := by rfl

@[simp] theorem laneAfter_fused (s : State) (l : Nat) : (s.laneAfter l).fused = s.fused := by simp [State.laneAfter]

@[simp] theorem endHolds_fused (s : State) (ctx : Option Nat) : (s.endHolds ctx).fused = s.fused := by
  unfold State.endHolds
  split <;> simp

@[simp] theorem laneClose_fused (s : State) (l : Nat) (lp : LanePkt) (p : Pkt) (checked crcOk trunc blankedBit
    faultBit deliver : Bool) :
    (s.laneClose l lp p checked crcOk trunc blankedBit faultBit deliver).fused = s.fused := by simp [State.laneClose]

@[simp] theorem laneCut_fused (s : State) (l : Nat) (blankedBit faultBit deliver : Bool) :
    (s.laneCut l blankedBit faultBit deliver).fused = s.fused := by
  unfold State.laneCut
  dsimp only
  repeat' split
  all_goals simp

@[simp] theorem unfeed_fused (s : State) (cs : List Nat) (l : Nat) : (s.unfeed cs l).fused = s.fused := by
  unfold State.unfeed
  split <;> simp

@[simp] theorem dropReady_fused (s : State) (cs : List Nat) : (s.dropReady cs).fused = s.fused := by
  simp [State.dropReady]

@[simp] theorem chainForeground_fused (s : State) (c : Nat) : (s.chainForeground c).fused = s.fused := by
  simp [State.chainForeground]

@[simp] theorem chainDown_fused (s : State) (c : Nat) : (s.chainDown c).fused = s.fused := by simp [State.chainDown]

@[simp] theorem chainDone_fused (s : State) (c : Nat) (skew : BitVec 9) : (s.chainDone c skew).fused = s.fused := by
  simp [State.chainDone]

@[simp] theorem blankStart_fused (s : State) (w : Bool) : (s.blankStart w).fused = s.fused := by
  unfold State.blankStart
  dsimp only
  split
  · rfl
  · exact fused_forNat _ (fun l t => by split <;> simp) 64 _

@[simp] theorem blankEnd_fused (s : State) (w : Bool) : (s.blankEnd w).fused = s.fused := by simp [State.blankEnd]

@[simp] theorem coefApply_fused (s : State) (c : Nat) (skew : BitVec 9) :
    (s.coefApply c skew).fused = s.fused := by rfl

@[simp] theorem gapTick_fused (s : State) (c : Nat) : (s.gapTick c).fused = s.fused := by simp [State.gapTick]

@[simp] theorem rxCalcmd_fused (s : State) (c : Nat) (v : Word) : (s.rxCalcmd c v).fused = s.fused := by
  simp [State.rxCalcmd]

@[simp] theorem laneDeny_fused (s : State) (l : Nat) : (s.laneDeny l).fused = s.fused := by rfl

@[simp] theorem laneStart_fused (s : State) (l : Nat) : (s.laneStart l).fused = s.fused := by simp [State.laneStart]

@[simp] theorem laneStop_fused (s : State) (l : Nat) : (s.laneStop l).fused = s.fused := by simp [State.laneStop]

@[simp] theorem laneCmd_fused (s : State) (l : Nat) (v : Word) : (s.laneCmd l v).fused = s.fused := by
  simp [State.laneCmd]

@[simp] theorem laneCfgWrite_fused (s : State) (l p : Nat) (v : Word) : (s.laneCfgWrite l p v).fused = s.fused := by
  simp [State.laneCfgWrite]

@[simp] theorem laneConfig_fused (s : State) (l phy ant bin foff maxlen : Nat) (sync : BitVec 32) (crc : BitVec 24)
    (white : BitVec 9) (queue ctx : Nat) :
    (s.laneConfig l phy ant bin foff maxlen sync crc white queue ctx).fused = s.fused := by rfl

@[simp] theorem laneFilled_fused (s : State) (l : Nat) : (s.laneFilled l).fused = s.fused := by
  simp [State.laneFilled]

@[simp] theorem watchApply_fused (s : State) (e : Nat) (v : Word) : (s.watchApply e v).fused = s.fused := by rfl

@[simp] theorem watchDetect_fused (s : State) (w : Bool) (bin phy : Nat) :
    (s.watchDetect w bin phy).fused = s.fused := by
  unfold State.watchDetect
  dsimp only
  repeat' split
  all_goals simp

/-! ### Machine/Keeper -/

@[simp] theorem freeHole_fused (s : State) (e : OkEntry) : (s.freeHole e).fused = s.fused := by
  unfold State.freeHole
  split <;> simp

@[simp] theorem closeDone_fused (s : State) : s.closeDone.fused = s.fused := by simp [State.closeDone]

@[simp] theorem expireEntry_fused (s : State) (e : OkEntry) : (s.expireEntry e).fused = s.fused := by
  unfold State.expireEntry
  split <;> simp

@[simp] theorem openEntry_fused (s : State) (c : Nat) (units : List Nat) : (s.openEntry c units).fused = s.fused := by
  unfold State.openEntry
  dsimp only
  repeat' split
  all_goals simp

@[simp] theorem leaveLane_fused (s : State) (c l : Nat) : (s.leaveLane c l).fused = s.fused := by
  simp [State.leaveLane]

@[simp] theorem timerHolds_fused (s : State) : s.timerHolds.fused = s.fused := by simp [State.timerHolds]

@[simp] theorem markDmg_fused (s : State) (p : Pkt) : (s.markDmg p).fused = s.fused := by simp [State.markDmg]

@[simp] theorem commitStage_fused (s : State) (l : Nat) : (s.commitStage l).fused = s.fused := by
  unfold State.commitStage
  dsimp only
  repeat' split
  all_goals simp

@[simp] theorem drainMark_fused (s : State) (l c : Nat) (ep : BitVec 6) : (s.drainMark l c ep).fused = s.fused := by
  simp [State.drainMark]

@[simp] theorem drainExpire_fused (s : State) (c : Nat) (ep : BitVec 6) : (s.drainExpire c ep).fused = s.fused := by
  unfold State.drainExpire
  split
  · rfl
  · split
    · split <;> rename_i taken <;> simp [fused_of_eq taken]
    · simp

/-! ### Machine/SeqOps -/

@[simp] theorem chooseFrame_fused (s : State) (q : Nat) (e : Event) : (s.chooseFrame q e).fused = s.fused := by
  unfold State.chooseFrame
  split <;> simp

@[simp] theorem seqLane_fused (s : State) (e : Event) (l : Nat) : (s.seqLane e l).fused = s.fused := by rfl

@[simp] theorem seqStartLane_fused (s : State) (q : Nat) : (s.seqStartLane q).fused = s.fused := by
  unfold State.seqStartLane
  dsimp only
  repeat' split
  all_goals simp

@[simp] theorem seqFreeLane_fused (s : State) (q : Nat) : (s.seqFreeLane q).fused = s.fused := by
  unfold State.seqFreeLane
  split
  · split <;> simp
  · rfl

@[simp] theorem enterCalendar_fused (s : State) (c : Nat) (ws : List Word) :
    (s.enterCalendar c ws).fused = s.fused := by rfl

@[simp] theorem ctxPut_fused (s : State) (c i : Nat) (v : Word) : (s.ctxPut c i v).fused = s.fused := by
  simp [State.ctxPut]

@[simp] theorem ctxPuts_fused (s : State) (c i : Nat) (l : List Word) : (s.ctxPuts c i l).fused = s.fused := by
  induction l generalizing s i with
  | nil => rfl
  | cons v vs ih => simp [State.ctxPuts, ih]

@[simp] theorem leaveCalendar_fused (s : State) (c : Nat) : (s.leaveCalendar c).fused = s.fused := by
  unfold State.leaveCalendar
  dsimp only
  split <;> simp

@[simp] theorem createConn_fused (s : State) (own c : Nat) (ws : List Word) :
    (s.createConn own c ws).fused = s.fused := by simp [State.createConn]

@[simp] theorem nextAux_fused (s : State) (q : Nat) (e : Event) (f : List Octet) (a : BitVec 54) (i : Nat) :
    (s.nextAux q e f a i).fused = s.fused := by
  unfold State.nextAux
  split <;> simp

@[simp] theorem nextAdv_fused (s : State) (q : Nat) (e : Event) : (s.nextAdv q e).fused = s.fused := by
  unfold State.nextAdv
  dsimp only
  repeat' split
  all_goals simp

@[simp] theorem afterFrame_fused (s : State) (q : Nat) (good : Bool) : (s.afterFrame q good).fused = s.fused := by
  unfold State.afterFrame
  split <;> simp

@[simp] theorem seqBad_fused (s : State) (q : Nat) (tEnd : BitVec 54) : (s.seqBad q tEnd).fused = s.fused := by
  unfold State.seqBad
  split <;> simp

@[simp] theorem advAnswer_fused (s : State) (q : Nat) (w : SendWhat) : (s.advAnswer q w).fused = s.fused := by
  simp [State.advAnswer]

@[simp] theorem advFrame_fused (s : State) (q : Nat) (e : Event) (f : List Octet) (tEnd : BitVec 54) :
    (s.advFrame q e f tEnd).fused = s.fused := by simp [State.advFrame]

@[simp] theorem scanOn_fused (s : State) (q : Nat) (x : Option AuxPdu) : (s.scanOn q x).fused = s.fused := by
  unfold State.scanOn
  split <;> simp

@[simp] theorem scanFrame_fused (s : State) (q : Nat) (e : Event) (f : List Octet) (a : BitVec 54) :
    (s.scanFrame q e f a).fused = s.fused := by simp [State.scanFrame]

@[simp] theorem seqFrame_fused (s : State) (q : Nat) (f : List Octet) (good trunc : Bool) (ts tEnd : BitVec 54) :
    (s.seqFrame q f good trunc ts tEnd).2.fused = s.fused := by
  unfold State.seqFrame
  split <;> simp

@[simp] theorem seqAwait_fused (s : State) (q : Nat) : (s.seqAwait q).fused = s.fused := by
  unfold State.seqAwait
  dsimp only
  repeat' split
  all_goals simp

@[simp] theorem seqSent_fused (s : State) (q : Nat) : (s.seqSent q).fused = s.fused := by
  unfold State.seqSent
  split <;> simp

@[simp] theorem countRetry_fused (s : State) (q : Nat) (e : Event) : (s.countRetry q e).fused = s.fused := by
  simp [State.countRetry]

@[simp] theorem seqLastBit_fused (s : State) (q : Nat) : (s.seqLastBit q).fused = s.fused := by
  unfold State.seqLastBit
  split <;> simp

/-! ### Machine/Trim -/

@[simp] theorem withdraw_fused (s : State) (q : Nat) : (s.withdraw q).fused = s.fused := by simp [State.withdraw]

@[simp] theorem finishEvent_fused (s : State) (q : Nat) : (s.finishEvent q).fused = s.fused := by
  unfold State.finishEvent
  split <;> simp

@[simp] theorem updCal_fused (s : State) (c : Nat) (f : CalEntry → CalEntry) : (s.updCal c f).fused = s.fused := by
  unfold State.updCal
  split <;> simp

@[simp] theorem touch_fused (s : State) (c : Nat) : (s.touch c).fused = s.fused := by rfl

@[simp] theorem giveUnits_fused (s : State) (c q : Nat) (l : Option Nat) : (s.giveUnits c q l).fused = s.fused := by
  unfold State.giveUnits
  split <;> simp

@[simp] theorem assign_fused (s : State) (c : Nat) : (s.assign c).fused = s.fused := by
  unfold State.assign
  split
  · rfl
  · split <;> simp

@[simp] theorem servePending_fused (s : State) : s.servePending.fused = s.fused := by simp [State.servePending]

@[simp] theorem startFetch_fused (s : State) (c : Nat) : (s.startFetch c).fused = s.fused := by
  simp [State.startFetch]

@[simp] theorem dropFetch_fused (s : State) (c : Nat) : (s.dropFetch c).fused = s.fused := by simp [State.dropFetch]

@[simp] theorem homeReads_fused (s : State) (c : Nat) : (s.homeReads c).2.fused = s.fused := by
  simp [State.homeReads]

@[simp] theorem homed_fused (s : State) (c : Nat) : (s.homed c).fused = s.fused := by rfl

@[simp] theorem swapDone_fused (s : State) (c : Nat) : (s.swapDone c).fused = s.fused := by
  unfold State.swapDone
  split
  · rfl
  · split
    · rfl
    · extract_lets o old s1 first stale r s2
      have evicted : s1.fused = s.fused := by
        simp only [s1]
        split <;> simp
      have read : r.2.fused = s.fused := (fused_snd_ite _ _ _).trans (by simp [evicted])
      split
      · exact read
      · exact (fused_trim (s2.homed c) _).trans (by simp [s2, read])

@[simp] theorem takeSlot_fused (s : State) (c k : Nat) : (s.takeSlot c k).fused = s.fused := by simp [State.takeSlot]

@[simp] theorem slotFreed_fused (s : State) : s.slotFreed.fused = s.fused := by
  unfold State.slotFreed
  split <;> simp

@[simp] theorem superviseEnd_fused (s : State) (c : Nat) : (s.superviseEnd c).fused = s.fused := by
  unfold State.superviseEnd
  dsimp only
  split <;> simp

@[simp] theorem closeBooks_fused (s : State) (c : Nat) (ws : List Word) (evstat : Nat) (resynced : Bool) (anchor :
    BitVec 54) (missed0 : Nat) :
    (s.closeBooks c ws evstat resynced anchor missed0).fused = s.fused := by simp [State.closeBooks]

@[simp] theorem missEvent_fused (s : State) (c : Nat) (ws : List Word) (evstat : Nat) (q : Option Nat) :
    (s.missEvent c ws evstat q).fused = s.fused := by
  unfold State.missEvent
  split <;> simp

@[simp] theorem applyOne_fused (s : State) (c : Nat) (u : Upd) : (s.applyOne c u).fused = s.fused := by
  simp [State.applyOne]

@[simp] theorem applyUpdate_fused (s : State) (c : Nat) : (s.applyUpdate c).fused = s.fused := by
  simp [State.applyUpdate]

@[simp] theorem enterSearch_fused (s : State) (c : Nat) : (s.enterSearch c).fused = s.fused := by
  unfold State.enterSearch
  split <;> simp

@[simp] theorem leaveSearch_fused (s : State) (c : Nat) : (s.leaveSearch c).fused = s.fused := by
  simp [State.leaveSearch]

/-- A way to place a found context keeps the fuses.  (Said of every such way: unfolded under this name, `searchPlace` is
not evaluated by the kernel.) -/
def PlacingKeepsFuses (place : State → Nat → Nat → BitVec 54 → List Octet → State) : Prop :=
  ∀ s c bin ts f, (place s c bin ts f).fused = s.fused

theorem placingKeepsFuses {place : State → Nat → Nat → BitVec 54 → List Octet → State}
    (h : ∀ s c bin ts f, (place s c bin ts f).fused = s.fused) : PlacingKeepsFuses place := h

theorem searchPlace_keepsFuses : PlacingKeepsFuses State.searchPlace := by
  delta State.searchPlace
  refine placingKeepsFuses fun s c bin ts f => ?_
  extract_lets ws a
  generalize s.candidates ws bin a = l
  split
  · extract_lets w0 w1 w2 t t1 t2
    have found : t1.fused = s.fused := by
      simp only [t1]
      split <;> simp [t]
    simp [t2, found]
  · simp

@[simp] theorem searchPlace_fused (s : State) (c bin : Nat) (ts : BitVec 54) (f : List Octet) :
    (s.searchPlace c bin ts f).fused = s.fused := searchPlace_keepsFuses s c bin ts f

/-! ### Machine/SeqEvents -/

@[simp] theorem assignAnew_fused (s : State) (c : Nat) : (s.assignAnew c).fused = s.fused := by
  simp [State.assignAnew]

@[simp] theorem moveSeqEvents_fused (s : State) (q : Nat) (spare : Option Nat) :
    (s.moveSeqEvents q spare).fused = s.fused :=
  fused_forEach _ (fun c t => by cases spare <;> simp) _ s

@[simp] theorem seqDown_fused (s : State) (q : Nat) (kind : SeqFaultKind) (c : Option Nat) :
    (s.seqDown q kind c).fused = s.fused := by
  unfold State.seqDown
  dsimp only
  repeat' split
  all_goals simp

@[simp] theorem seqFault_fused (s : State) (q : Nat) (kind : SeqFaultKind) : (s.seqFault q kind).fused = s.fused := by
  simp [State.seqFault]

@[simp] theorem pruneBeacons_fused (s : State) (q n : Nat) : (s.pruneBeacons q n).fused = s.fused := by
  induction n generalizing s with
  | zero => rfl
  | succ n ih =>
    unfold State.pruneBeacons
    split
    · rfl
    · split <;> simp [ih]

@[simp] theorem armKind_fused (s : State) (q : Nat) : (s.armKind q).fused = s.fused := by
  unfold State.armKind
  dsimp only
  repeat' split
  all_goals simp

@[simp] theorem takeEvent_fused (s : State) (q : Nat) (e : Event) : (s.takeEvent q e).fused = s.fused := by rfl

@[simp] theorem leaveLast_fused (s : State) (c l : Nat) : (s.leaveLast c l).fused = s.fused := by
  simp [State.leaveLast]

@[simp] theorem arm_fused (s : State) (q c : Nat) (lane : Option Nat) (txOnly : Bool) :
    (s.arm q c lane txOnly).fused = s.fused := by
  unfold State.arm
  dsimp only
  repeat' split
  all_goals simp

@[simp] theorem setupNow_fused (s : State) (c : Nat) (q lane : Option Nat) (tx : Bool) :
    (s.setupNow c q lane tx).fused = s.fused := by
  unfold State.setupNow
  dsimp only
  repeat' split
  all_goals simp

@[simp] theorem eventSetup_fused (s : State) (c : Nat) : (s.eventSetup c).fused = s.fused := by
  unfold State.eventSetup
  split
  · rfl
  · split
    · rfl
    · split
      · split <;> simp
      · rfl
      · simp

@[simp] theorem contextLoad_fused (s : State) (q : Nat) : (s.contextLoad q).fused = s.fused := by
  unfold State.contextLoad
  dsimp only
  repeat' split
  all_goals simp

@[simp] theorem listenStart_fused (s : State) (q : Nat) : (s.listenStart q).fused = s.fused := by
  unfold State.listenStart
  split <;> simp

@[simp] theorem listenTimeout_fused (s : State) (q : Nat) : (s.listenTimeout q).fused = s.fused := by
  unfold State.listenTimeout
  split
  · split
    · rfl
    · split
      · split <;> simp
      · simp
  · rfl

@[simp] theorem windowExpiry_fused (s : State) (q : Nat) : (s.windowExpiry q).fused = s.fused := by
  unfold State.windowExpiry
  split <;> simp

@[simp] theorem closeReached_fused (s : State) (q : Nat) : (s.closeReached q).fused = s.fused := by
  unfold State.closeReached
  split <;> simp

@[simp] theorem retireFrames_fused (s : State) (e : Event) : (s.retireFrames e).fused = s.fused := by
  simp [State.retireFrames]

@[simp] theorem noteEmpty_fused (s : State) (e : Event) : (s.noteEmpty e).fused = s.fused := by rfl

@[simp] theorem foundAgain_fused (s : State) (c : Nat) (slot : Option Nat) :
    (s.foundAgain c slot).fused = s.fused := by
  unfold State.foundAgain
  split <;> simp

@[simp] theorem eventClose_fused (s : State) (q : Nat) : (s.eventClose q).fused = s.fused := by
  unfold State.eventClose
  split <;> simp

@[simp] theorem supervise_fused (s : State) (c : Nat) : (s.supervise c).fused = s.fused := by simp [State.supervise]

@[simp] theorem joinStart_fused (s : State) (q : Nat) : (s.joinStart q).fused = s.fused := by
  unfold State.joinStart
  split <;> simp

@[simp] theorem joinEnd_fused (s : State) (q : Nat) : (s.joinEnd q).fused = s.fused := by
  unfold State.joinEnd
  split <;> simp

@[simp] theorem enterHorizon_fused (s : State) (c : Nat) : (s.enterHorizon c).fused = s.fused := by
  simp [State.enterHorizon]

@[simp] theorem horizonEntry_fused (s : State) (c : Nat) : (s.horizonEntry c).fused = s.fused := by
  simp [State.horizonEntry]

@[simp] theorem calResult_fused (s : State) (r : Nat) : (s.calResult r).fused = s.fused := by rfl

@[simp] theorem insertCtx_fused (s : State) (c : Nat) : (s.insertCtx c).2.fused = s.fused := by
  unfold State.insertCtx
  dsimp only
  repeat' split
  all_goals simp

@[simp] theorem insertNow_fused (s : State) (c : Nat) : (s.insertNow c).fused = s.fused := by simp [State.insertNow]

@[simp] theorem calInsert_fused (s : State) : s.calInsert.fused = s.fused := by simp [State.calInsert]

@[simp] theorem calRemove_fused (s : State) : s.calRemove.fused = s.fused := by
  unfold State.calRemove
  dsimp only
  repeat' split
  all_goals simp

@[simp] theorem calUpdate_fused (s : State) : s.calUpdate.fused = s.fused := by simp [State.calUpdate]

@[simp] theorem calCmd_fused (s : State) (v : Word) : (s.calCmd v).fused = s.fused := by simp [State.calCmd]

@[simp] theorem ctxResult_fused (s : State) (c r : Nat) : (s.ctxResult c r).fused = s.fused := by
  simp [State.ctxResult]

@[simp] theorem belayNow_fused (s : State) (c : Nat) : (s.belayNow c).fused = s.fused := by simp [State.belayNow]

@[simp] theorem ctxCmd_fused (s : State) (v : Word) : (s.ctxCmd v).fused = s.fused := by simp [State.ctxCmd]

@[simp] theorem swapThen_fused (s : State) (c : Nat) : (s.swapThen c).fused = s.fused := by simp [State.swapThen]

@[simp] theorem tagPay_fused (s : State) (p : Pkt) (i : Nat) : (s.tagPay p i).fused = s.fused := by
  unfold State.tagPay
  split <;> simp

@[simp] theorem tagHeld_fused (s : State) (l : Nat) : (s.tagHeld l).fused = s.fused := by simp [State.tagHeld]

@[simp] theorem moveLane_fused (s : State) (c l n : Nat) : (s.moveLane c l n).fused = s.fused := by
  simp [State.moveLane]

@[simp] theorem moveEvent_fused (s : State) (q l n : Nat) : (s.moveEvent q l n).fused = s.fused := by
  unfold State.moveEvent
  split <;> simp

@[simp] theorem laneOff_fused (s : State) (l : Nat) : (s.laneOff l).fused = s.fused := by rfl

@[simp] theorem laneFault_fused (s : State) (l : Nat) (kind : LaneFaultKind) :
    (s.laneFault l kind).fused = s.fused := by
  unfold State.laneFault
  dsimp only
  repeat' split
  all_goals simp

@[simp] theorem seqCmd_fused (s : State) (q : Nat) (v : Word) : (s.seqCmd q v).fused = s.fused := by
  simp [State.seqCmd]

@[simp] theorem seqTestEnd_fused (s : State) (q : Nat) (pass : Bool) : (s.seqTestEnd q pass).fused = s.fused := by
  simp [State.seqTestEnd]

@[simp] theorem laneTestEnd_fused (s : State) (l : Nat) (pass : Bool) : (s.laneTestEnd l pass).fused = s.fused := by
  simp [State.laneTestEnd]

/-! ### Machine/Utvis -/

@[simp] theorem setUtvRole_fused (s : State) (v : Nat) : (s.setUtvRole v).fused = s.fused := by rfl

@[simp] theorem setTstate_fused (s : State) (v : Nat) : (s.setTstate v).fused = s.fused := by rfl

@[simp] theorem setLstate_fused (s : State) (p v : Nat) : (s.setLstate p v).fused = s.fused := by rfl

@[simp] theorem updPort_fused (s : State) (p : Nat) (f : UPort → UPort) : (s.updPort p f).fused = s.fused := by rfl

@[simp] theorem updUtv_fused (s : State) (f : Utvis → Utvis) : (s.updUtv f).fused = s.fused := by rfl

@[simp] theorem hear_fused (s : State) (p d : Nat) : (s.hear p d).fused = s.fused := by rfl

@[simp] theorem noteUnreach_fused (s : State) (d : Nat) : (s.noteUnreach d).fused = s.fused := by
  simp [State.noteUnreach]

@[simp] theorem post_fused (s : State) (f : UFrame) : (s.post f).fused = s.fused := by simp [State.post]

@[simp] theorem sendRecordTo_fused (s : State) (dsts : List Nat) (c : Nat) (final : Bool) :
    (s.sendRecordTo dsts c final).fused = s.fused := by simp [State.sendRecordTo]

@[simp] theorem sendRecord_fused (s : State) (c : Nat) (final : Bool) : (s.sendRecord c final).fused = s.fused := by
  simp [State.sendRecord]

@[simp] theorem afterCommit_fused (s : State) (q : Nat) : (s.afterCommit q).fused = s.fused := by
  unfold State.afterCommit
  split
  · rfl
  · refine fused_forEach _ (fun c t => ?_) _ s
    dsimp only
    split
    · split <;> simp
    · simp

@[simp] theorem afterClose_fused (s : State) (c retired : Nat) (dsts : List Nat) :
    (s.afterClose c retired dsts).fused = s.fused := by simp [State.afterClose]

@[simp] theorem launch_fused (s : State) (p : Nat) (f : UFrame) (q : Nat) (fresh : Bool) :
    (s.launch p f q fresh).fused = s.fused := by simp [State.launch]

@[simp] theorem noteLosses_fused (s : State) : s.noteLosses.fused = s.fused := by simp [State.noteLosses]

@[simp] theorem transitGone_fused (s : State) (p : Nat) (f : UFrame) (r : List UFrame) :
    (s.transitGone p f r).fused = s.fused := by simp [State.transitGone]

@[simp] theorem egressSend_fused (s0 : State) (p : Nat) : (s0.egressSend p).fused = s0.fused := by
  unfold State.egressSend
  dsimp only
  repeat' split
  all_goals simp

@[simp] theorem resend_fused (s : State) (p : Nat) : (s.resend p).fused = s.fused := by rfl

@[simp] theorem portDrop_fused (s : State) (p : Nat) : (s.portDrop p).fused = s.fused := by
  simp [State.portDrop]

@[simp] theorem portDown_fused (s : State) (p : Nat) : (s.portDown p).fused = s.fused := by simp [State.portDown]

@[simp] theorem ackIn_fused (s : State) (p : Nat) (h : Nat) (credit : BitVec 16) :
    (s.ackIn p h credit).fused = s.fused := by simp [State.ackIn]

@[simp] theorem nakIn_fused (s : State) (p : Nat) (counted : Bool) : (s.nakIn p counted).fused = s.fused := by
  simp [State.nakIn]

@[simp] theorem portEnable_fused (s : State) (p : Nat) : (s.portEnable p).fused = s.fused := by
  simp [State.portEnable]

@[simp] theorem symbolLock_fused (s : State) (p : Nat) : (s.symbolLock p).fused = s.fused := by
  simp [State.symbolLock]

@[simp] theorem delayDone_fused (s : State) (p : Nat) (d : BitVec 12) : (s.delayDone p d).fused = s.fused := by
  simp [State.delayDone]

@[simp] theorem helloIn_fused (s : State) (p : Nat) (f : UFrame) : (s.helloIn p f).fused = s.fused := by
  simp [State.helloIn]

@[simp] theorem portUpNow_fused (s : State) (p : Nat) : (s.portUpNow p).fused = s.fused := by
  unfold State.portUpNow
  dsimp only
  repeat' split
  all_goals simp

@[simp] theorem retrain_fused (s : State) (p : Nat) : (s.retrain p).fused = s.fused := by simp [State.retrain]

@[simp] theorem linkFalls_fused (s : State) (p : Nat) (why : DownWhy) : (s.linkFalls p why).fused = s.fused := by
  cases why <;> simp [State.linkFalls]

@[simp] theorem delayAgain_fused (s : State) (p : Nat) (d : BitVec 12) : (s.delayAgain p d).fused = s.fused := by
  simp [State.delayAgain]

@[simp] theorem burst_fused (s : State) (p : Nat) : (s.burst p).fused = s.fused := by rfl

@[simp] theorem wakeCmd_fused (s : State) (v : Word) : (s.wakeCmd v).fused = s.fused := by simp [State.wakeCmd]

@[simp] theorem oweBursts_fused (s : State) : s.oweBursts.fused = s.fused := by simp [State.oweBursts]

/-! ### Machine/Stack -/

@[simp] theorem setStandby_fused (s : State) (c : Nat) (x : Standby) : (s.setStandby c x).fused = s.fused := by rfl

@[simp] theorem gapStale_fused (s : State) (src : Nat) : (s.gapStale src).fused = s.fused := by simp [State.gapStale]

@[simp] theorem takeStandby_fused (s : State) (c : Nat) : (s.takeStandby c).fused = s.fused := by
  unfold State.takeStandby
  split <;> simp

@[simp] theorem presence_fused (s : State) (present : Nat) : (s.presence present).fused = s.fused := by
  simp [State.presence]

@[simp] theorem writeRecord_fused (s : State) (c : Nat) (ws : List Word) (standby : Bool) :
    (s.writeRecord c ws standby).fused = s.fused := by simp [State.writeRecord]

@[simp] theorem retireStandby_fused (s : State) (q n : Nat) : (s.retireStandby q n).fused = s.fused := by
  simp [State.retireStandby]

@[simp] theorem flushQueue_fused (s : State) (q : Nat) : (s.flushQueue q).fused = s.fused := by
  simp [State.flushQueue]

@[simp] theorem standbyRecord_fused (s : State) (c : Nat) (f : UFrame) : (s.standbyRecord c f).fused = s.fused := by
  unfold State.standbyRecord
  split <;> simp

theorem shadowIn_fused (s : State) (f : UFrame) : ∀ t, (State.shadowIn s f) = some t → t.fused = s.fused := by
  simp [State.shadowIn]

@[simp] theorem shadowFetch_fused (s : State) (f : UFrame) : (s.shadowFetch f).fused = s.fused := by
  simp [State.shadowFetch]

theorem commitFrame_fused {s t : State} {f : UFrame} {q : Nat} {data : Bool} (h : s.commitFrame f q data = some t) :
    t.fused = s.fused := by
  unfold State.commitFrame at h
  dsimp only at h
  generalize built : s.buildPkt q _ _ 0 = x at h
  split at h
  · rw [← Option.some.inj h]
    simp [fused_of_eq built]
  · contradiction

theorem gapHole_fused {s t : State} {src q : Nat} (h : s.gapHole src q = some t) : t.fused = s.fused := by
  unfold State.gapHole at h
  split at h
  · rename_i taken
    rw [← Option.some.inj h]
    simp [fused_of_eq taken]
  · contradiction

@[simp] theorem setExpected_fused (s : State) (src n : Nat) : (s.setExpected src n).fused = s.fused := by rfl

@[simp] theorem setCopies_fused (s : State) (c : Nat) (l : List (List Word)) :
    (s.setCopies c l).fused = s.fused := by rfl

@[simp] theorem copyIn_fused (s : State) (c : Nat) (b : List Word) : (s.copyIn c b).fused = s.fused := by
  simp [State.copyIn]

@[simp] theorem loadIn_fused (s : State) (src : Nat) (b : List Word) : (s.loadIn src b).fused = s.fused := by
  simp [State.loadIn]

theorem deliverFrame_fused {s t : State} {f : UFrame} (h : s.deliverFrame f = .done t) : t.fused = s.fused := by
  unfold State.deliverFrame at h
  dsimp only at h
  split at h
  · split at h
    · contradiction
    · split at h
      · rename_i committed
        rw [← Ingress.done.inj h]; simp [commitFrame_fused committed]
      · contradiction
  · split at h
    · rw [← Ingress.done.inj h]; simp
    · split at h
      · split at h
        · rename_i taken
          rw [← Ingress.done.inj h]; simp [shadowIn_fused _ _ _ taken]
        · contradiction
      · split at h
        · split at h
          · rename_i committed
            rw [← Ingress.done.inj h]; simp [commitFrame_fused committed]
          · contradiction
        · rw [← Ingress.done.inj h]; simp

theorem pairIn_fused {s t : State} {f : UFrame} (h : s.pairIn f = .done t) : t.fused = s.fused := by
  unfold State.pairIn at h
  dsimp only at h
  split at h
  · exact deliverFrame_fused h
  · split at h
    · rw [← Ingress.done.inj h]; simp
    · split at h
      · contradiction
      · split at h
        · contradiction
        · rename_i opened
          rw [deliverFrame_fused h]; simp [gapHole_fused opened]

@[simp] theorem inboxStep_fused (s : State) (p : Nat) : (s.inboxStep p).2.fused = s.fused := by
  unfold State.inboxStep
  dsimp only
  split
  · rfl
  · split
    · split <;> simp
    · split
      · simp
      · split <;> rename_i paired
        · simp [pairIn_fused paired]
        · split <;> simp
        · split <;> simp

@[simp] theorem serveInbox_fused (s : State) (p n : Nat) : (s.serveInbox p n).fused = s.fused := by
  induction n generalizing s with
  | zero => rfl
  | succ n ih => simp [State.serveInbox, ih]

@[simp] theorem hopIn_fused (s : State) (p : Nat) (f : UFrame) : (s.hopIn p f).2.fused = s.fused := by
  unfold State.hopIn
  dsimp only
  repeat' split
  all_goals simp

@[simp] theorem frameIn_fused (s : State) (p : Nat) (f : UFrame) : (s.frameIn p f).fused = s.fused := by
  simp [State.frameIn]

@[simp] theorem frameOfType_fused (s : State) (ty p : Nat) (f : UFrame) : (s.frameOfType ty p f).fused = s.fused := by
  simp [State.frameOfType]

@[simp] theorem postSync_fused (s : State) (p : Nat) (f : UFrame) : (s.postSync p f).fused = s.fused := by
  simp [State.postSync]

@[simp] theorem takeRole_fused (s : State) (role : Nat) : (s.takeRole role).fused = s.fused := by rfl

@[simp] theorem takeBack_fused (s : State) : s.takeBack.fused = s.fused := by simp [State.takeBack]

@[simp] theorem ownReport_fused (s : State) : s.ownReport.fused = s.fused := by rfl

@[simp] theorem syncOut_fused (s0 : State) : s0.syncOut.fused = s0.fused := by simp [State.syncOut]

@[simp] theorem markIn_fused (s : State) (p : Nat) : (s.markIn p).fused = s.fused := by simp [State.markIn]

@[simp] theorem stepLink_fused (s : State) (d : BitVec 54) : (s.stepLink d).fused = s.fused := by
  simp [State.stepLink]

@[simp] theorem follow_fused (s : State) (p : Nat) (mt : BitVec 54) (corr : Nat) (first : Bool) :
    (s.follow p mt corr first).fused = s.fused := by simp [State.follow]

@[simp] theorem sendLoad_fused (s : State) (mpos : Nat) : (s.sendLoad mpos).fused = s.fused := by
  unfold State.sendLoad
  split <;> simp

@[simp] theorem passSync_fused (s : State) (p : Nat) (b : List Word) : (s.passSync p b).fused = s.fused := by
  simp [State.passSync]

@[simp] theorem rolesBySync_fused (s : State) (mpos : Nat) (relief handback : Bool) :
    (s.rolesBySync mpos relief handback).fused = s.fused := by simp [State.rolesBySync]

@[simp] theorem syncIn_fused (s : State) (p : Nat) (f : UFrame) : (s.syncIn p f).fused = s.fused := by
  simp [State.syncIn]

@[simp] theorem holdover_fused (s : State) : s.holdover.fused = s.fused := by simp [State.holdover]

@[simp] theorem reliefActs_fused (s : State) : s.reliefActs.fused = s.fused := by simp [State.reliefActs]

@[simp] theorem mastheadActs_fused (s : State) : s.mastheadActs.fused = s.fused := by simp [State.mastheadActs]

@[simp] theorem endQuiet_fused (s : State) (c : Nat) : (s.endQuiet c).fused = s.fused := by
  unfold State.endQuiet
  dsimp only
  split <;> simp

@[simp] theorem fence_fused (s : State) : s.fence.fused = s.fused := by simp [State.fence]

@[simp] theorem handBackCmd_fused (s : State) : s.handBackCmd.fused = s.fused := by simp [State.handBackCmd]

@[simp] theorem handOver_fused (s : State) : s.handOver.fused = s.fused := by simp [State.handOver]

@[simp] theorem handOverDone_fused (s : State) : s.handOverDone.fused = s.fused := by simp [State.handOverDone]

@[simp] theorem applySubst_fused (s : State) (c bits : Nat) : (s.applySubst c bits).fused = s.fused := by
  unfold State.applySubst
  split <;> simp

@[simp] theorem setupSubst_fused (s : State) (c : Nat) : (s.setupSubst c).fused = s.fused := by
  simp [State.setupSubst]

@[simp] theorem substitute_fused (s : State) (l : Nat) (g : Staged) (c : Nat) (b : List Word) :
    (s.substitute l g c b).fused = s.fused := by
  unfold State.substitute
  split <;> rename_i built <;> simp [fused_of_eq built]

@[simp] theorem holdEnd_fused (s : State) (c : Nat) : (s.holdEnd c).fused = s.fused := by
  unfold State.holdEnd
  dsimp only
  repeat' split
  all_goals simp

@[simp] theorem dropCopies_fused (s : State) (c : Nat) : (s.dropCopies c).fused = s.fused := by
  simp [State.dropCopies]

@[simp] theorem freeHelper_fused (s : State) (l : Nat) : (s.freeHelper l).fused = s.fused := by
  simp [State.freeHelper]

@[simp] theorem helperStart_fused (s : State) (c : Nat) : (s.helperStart c).fused = s.fused := by
  unfold State.helperStart
  dsimp only
  repeat' split
  all_goals simp

@[simp] theorem helperEnd_fused (s : State) (c : Nat) : (s.helperEnd c).fused = s.fused := by
  unfold State.helperEnd
  split <;> simp

@[simp] theorem sendCopy_fused (s : State) (c : Nat) (hdr pay : List Word) :
    (s.sendCopy c hdr pay).fused = s.fused := by simp [State.sendCopy]

@[simp] theorem utvisUp_fused (s : State) (fromReef : Bool) : (s.utvisUp fromReef).fused = s.fused := by
  simp [State.utvisUp]

@[simp] theorem calCmdRecord_fused (s : State) (v : Word) : (s.calCmdRecord v).fused = s.fused := by
  simp [State.calCmdRecord]

@[simp] theorem swapRecord_fused (s : State) (c : Nat) : (s.swapRecord c).fused = s.fused := by
  simp [State.swapRecord]

@[simp] theorem commitMirror_fused (s : State) (l : Nat) : (s.commitMirror l).fused = s.fused := by
  unfold State.commitMirror
  split <;> simp

@[simp] theorem closeRecord_fused (s : State) (q : Nat) : (s.closeRecord q).fused = s.fused := by
  unfold State.closeRecord
  dsimp only
  split <;> simp

@[simp] theorem missRecord_fused (s t : State) (c : Nat) : (s.missRecord t c).fused = t.fused := by
  simp [State.missRecord]

@[simp] theorem loadRecord_fused (s : State) (q : Nat) : (s.loadRecord q).fused = s.fused := by
  unfold State.loadRecord
  split <;> simp

@[simp] theorem faultRecord_fused (s : State) (q : Nat) (kind : SeqFaultKind) :
    (s.faultRecord q kind).fused = s.fused := by
  unfold State.faultRecord
  dsimp only
  split <;> simp

/-! ### Machine/Packets -/

@[simp] theorem receive_fused (s : State) (l : Nat) (m : Match) (cells : List CellLoc) (sync : BitVec 32) (ts : BitVec
    54) (meas : RxMeas) :
    (s.receive l m cells sync ts meas).fused = s.fused := by
  unfold State.receive
  split <;> simp

@[simp] theorem syncTake_fused (s : State) (l : Nat) (m : Match) (sync : BitVec 32) (ts : BitVec 54) (meas : RxMeas) :
    (s.syncTake l m sync ts meas).fused = s.fused := by
  unfold State.syncTake
  dsimp only
  split
  · simp
  · split
    · simp
    · split <;> rename_i taken <;> simp [fused_of_eq taken]

@[simp] theorem watchConfig_fused (s : State) (l : Nat) (m : Match) (sync : BitVec 32) :
    (s.watchConfig l m sync).fused = s.fused := by rfl

@[simp] theorem syncMatch_fused (s : State) (l : Nat) (sync : BitVec 32) (ts : BitVec 54) (meas : RxMeas) :
    (s.syncMatch l sync ts meas).fused = s.fused := by
  unfold State.syncMatch
  split
  · rfl
  · split <;> split <;> simp

@[simp] theorem noMatch_fused (s : State) (l : Nat) : (s.noMatch l).fused = s.fused := by simp [State.noMatch]

@[simp] theorem lengthSeen_fused (s : State) (l : Nat) (air : List Octet) : (s.lengthSeen l air).fused = s.fused := by
  unfold State.lengthSeen
  split <;> simp

@[simp] theorem refuseLen_fused (s : State) (q : Nat) : (s.refuseLen q).fused = s.fused := by simp [State.refuseLen]

@[simp] theorem lenOverEnd_fused (s : State) (l : Nat) : (s.lenOverEnd l).fused = s.fused := by
  unfold State.lenOverEnd
  dsimp only
  repeat' split
  all_goals simp

@[simp] theorem sniffCapture_fused (s : State) (l : Nat) (lp : LanePkt) (frame : List Octet) :
    (s.sniffCapture l lp frame).fused = s.fused := by
  unfold State.sniffCapture
  split <;> simp

@[simp] theorem arriveTick_fused (s : State) : s.arriveTick.fused = s.fused :=
  fused_forNat _ (fun l t => by split <;> simp) 64 s

@[simp] theorem consume_fused (s : State) (l : Nat) (lp : LanePkt) (frame : List Octet) (good short : Bool)
    (tEnd : BitVec 54) : (s.consume l lp frame good short tEnd).2.fused = s.fused := by
  unfold State.consume
  split
  · simp
  · split
    · split <;> simp
    · simp

@[simp] theorem helperPacket_fused (s : State) (l c : Nat) (good : Bool) :
    (s.helperPacket l c good).fused = s.fused := by
  unfold State.helperPacket
  split <;> simp

@[simp] theorem packetEnd_fused (s0 : State) (l : Nat) (air : List Octet) :
    (s0.packetEnd l air).fused = s0.fused := by
  unfold State.packetEnd
  dsimp only
  repeat' split
  all_goals simp

@[simp] theorem bgPeriod_fused (s : State) (c : Nat) : (s.bgPeriod c).fused = s.fused := by simp [State.bgPeriod]

@[simp] theorem bgGranted_fused (s : State) (c : Nat) : (s.bgGranted c).fused = s.fused := by simp [State.bgGranted]

@[simp] theorem bgApply_fused (s : State) (c : Nat) (skew : BitVec 9) : (s.bgApply c skew).fused = s.fused := by
  simp [State.bgApply]

@[simp] theorem bgForce_fused (s : State) (c : Nat) (skew : BitVec 9) : (s.bgForce c skew).fused = s.fused := by
  simp [State.bgForce]

@[simp] theorem smpUnlock_fused (s : State) : s.smpUnlock.fused = s.fused := by simp [State.smpUnlock]

@[simp] theorem smpRelock_fused (s : State) : s.smpRelock.fused = s.fused := by simp [State.smpRelock]

@[simp] theorem calBegin_fused (s : State) (c : Nat) : (s.calBegin c).fused = s.fused := by simp [State.calBegin]

@[simp] theorem placeCmd_fused (s : State) (v : Word) : (s.placeCmd v).fused = s.fused := by simp [State.placeCmd]

@[simp] theorem placeDone_fused (s : State) (result device : Nat) : (s.placeDone result device).fused = s.fused := by
  simp [State.placeDone]

@[simp] theorem addPlaced_fused (s : State) (d : Nat) : (s.addPlaced d).fused = s.fused := by rfl

@[simp] theorem placeAnswer_fused (s : State) (result device : Nat) :
    (s.placeAnswer result device).fused = s.fused := by
  unfold State.placeAnswer
  dsimp only
  repeat' split
  all_goals simp

@[simp] theorem placeExpire_fused (s : State) : s.placeExpire.fused = s.fused := by
  unfold State.placeExpire
  split <;> simp

/-! ### Machine/BasinOps -/

@[simp] theorem qRes_fused (s : State) (m : Master) (r : Nat) : (s.qRes m r).fused = s.fused := by simp [State.qRes]

@[simp] theorem qFlag_fused (s : State) (m : Master) (b : Nat) : (s.qFlag m b).fused = s.fused := by
  simp [State.qFlag]

@[simp] theorem updCopy_fused (s : State) (m : Master) (f : BsnCopy → BsnCopy) :
    (s.updCopy m f).fused = s.fused := by rfl

@[simp] theorem openW_fused (s : State) (m : Master) (q : Nat) : (s.openW m q).fused = s.fused := by
  unfold State.openW
  split
  · simp
  · split
    · simp
    · split <;> rename_i taken <;> simp [fused_of_eq taken]

@[simp] theorem enqueue_fused (s : State) (m : Master) (len : Nat) : (s.enqueue m len).fused = s.fused := by
  unfold State.enqueue
  split <;> simp

@[simp] theorem abortW_fused (s : State) (m : Master) : (s.abortW m).fused = s.fused := by
  unfold State.abortW
  split <;> simp

@[simp] theorem loadHdr_fused (s : State) (m : Master) (p : Pkt) : (s.loadHdr m p).fused = s.fused := by
  simp [State.loadHdr]

@[simp] theorem dequeue_fused (s : State) (m : Master) (q : Nat) : (s.dequeue m q).fused = s.fused := by
  unfold State.dequeue
  dsimp only
  repeat' split
  all_goals simp

@[simp] theorem peek_fused (s : State) (m : Master) (q : Nat) : (s.peek m q).fused = s.fused := by
  unfold State.peek
  split
  · simp
  · split
    · simp
    · split <;> simp

@[simp] theorem dropRem_fused (s : State) (m : Master) : (s.dropRem m).fused = s.fused := by
  unfold State.dropRem
  split <;> simp

@[simp] theorem forward_fused (s : State) (m : Master) (q : Nat) : (s.forward m q).fused = s.fused := by
  unfold State.forward
  split <;> simp

@[simp] theorem flushPkts_fused (s : State) (q : Nat) : (s.flushPkts q).fused = s.fused := by simp [State.flushPkts]

@[simp] theorem flush_fused (s : State) (m : Master) (q : Nat) : (s.flush m q).fused = s.fused := by
  simp [State.flush]

@[simp] theorem orDefer_fused (s : State) (m : Master) (code q : Nat) (act : State → State)
    (h : (act s).fused = s.fused) : (s.orDefer m code q act).fused = s.fused := by
  simp [State.orDefer, h]

@[simp] theorem qRun_fused (s : State) (m : Master) (code : Nat) : (s.qRun m code).fused = s.fused := by
  simp [State.qRun]

@[simp] theorem qCmd_fused (s : State) (m : Master) (code : Nat) : (s.qCmd m code).fused = s.fused := by
  simp [State.qCmd]

@[simp] theorem qDeferred_fused (s : State) (m : Master) : (s.qDeferred m).fused = s.fused := by
  simp [State.qDeferred]

@[simp] theorem wdata_fused (s : State) (m : Master) (v : Word) : (s.wdata m v).fused = s.fused := by
  unfold State.wdata
  dsimp only
  split
  · simp
  · split
    · simp
    · split
      · simp
      · split
        · split <;> rename_i taken
          · simp [fused_of_eq taken]
          · simp only [set_fused, updCopy_fused]
            split <;> simp [fused_of_eq taken]
        · simp only [set_fused, updCopy_fused]
          split <;> simp

@[simp] theorem rdata_fused (s0 : State) (m : Master) : (s0.rdata m).2.fused = s0.fused := by
  unfold State.rdata
  dsimp only
  repeat' split
  all_goals simp

@[simp] theorem putHeader_fused (s : State) (p : Pkt) (i : Nat) (v : Word) : (s.putHeader p i v).fused = s.fused := by
  unfold State.putHeader
  split <;> simp

@[simp] theorem hdrWr_fused (s : State) (m : Master) (i : Nat) (v : Word) : (s.hdrWr m i v).fused = s.fused := by
  unfold State.hdrWr
  dsimp only
  repeat' split
  all_goals simp

@[simp] theorem ieWr_fused (s : State) (g : Nat) (v : Word) : (s.ieWr g v).fused = s.fused := by simp [State.ieWr]

@[simp] theorem tailIdle_fused (s : State) (q : Nat) : (s.tailIdle q).fused = s.fused := by simp [State.tailIdle]

@[simp] theorem auditCmd_fused (s : State) (v : Word) : (s.auditCmd v).fused = s.fused := by simp [State.auditCmd]

@[simp] theorem auditEnd_fused (s : State) : s.auditEnd.fused = s.fused := by simp [State.auditEnd]

@[simp] theorem spillRun_fused (s : State) (q low n : Nat) : (s.spillRun q low n).fused = s.fused := by
  induction n generalizing s with
  | zero => rfl
  | succ n ih =>
    unfold State.spillRun
    split
    · rfl
    · split
      · simp
      · split <;> simp [ih]

@[simp] theorem refillRun_fused (s : State) (q n : Nat) : (s.refillRun q n).fused = s.fused := by
  induction n generalizing s with
  | zero => rfl
  | succ n ih => simp [State.refillRun, ih]

@[simp] theorem refillBurst_fused (s : State) : s.refillBurst.fused = s.fused := by
  unfold State.refillBurst
  split
  · rfl
  · split <;> simp

@[simp] theorem spillBurst_fused (s : State) : s.spillBurst.fused = s.fused := by
  unfold State.spillBurst
  dsimp only
  repeat' split
  all_goals simp

@[simp] theorem openFetch1_fused (s : State) (m : Master) : (s.openFetch1 m).fused = s.fused := by
  unfold State.openFetch1
  dsimp only
  repeat' split
  all_goals simp

@[simp] theorem openFetch_fused (s : State) (m : Master) : (s.openFetch m).fused = s.fused := by
  unfold State.openFetch
  split <;> simp

@[simp] theorem reclaim_fused (s : State) : s.reclaim.fused = s.fused := by simp [State.reclaim]

/-! ### Machine/FlashOps -/

@[simp] theorem setSeq_fused (s : State) (c step bank addr row : Nat) (data : List Word) :
    (s.setSeq c step bank addr row data).fused = s.fused := by rfl

@[simp] theorem seqClear_fused (s : State) (c : Nat) : (s.seqClear c).fused = s.fused := by rfl

@[simp] theorem flcRefuse_fused (s : State) (code : Nat) : (s.flcRefuse code).fused = s.fused := by
  simp [State.flcRefuse]

@[simp] theorem flcCommand_fused (s : State) (op b a : Nat) (data : List Word) :
    (s.flcCommand op b a data).fused = s.fused := by simp [State.flcCommand]

@[simp] theorem flashCycle_fused (s : State) (c b o : Nat) (v : Word) : (s.flashCycle c b o v).fused = s.fused := by
  simp [State.flashCycle]

@[simp] theorem flcStart_fused (s : State) : s.flcStart.fused = s.fused := by
  unfold State.flcStart
  split <;> simp

@[simp] theorem flcFail_fused (s : State) (code b o : Nat) : (s.flcFail code b o).fused = s.fused := by rfl

@[simp] theorem programAt_fused (s : State) (b o : Nat) (l : List Word) : (s.programAt b o l).fused = s.fused := by
  induction l generalizing s o with
  | nil => rfl
  | cons v vs ih => simp [State.programAt, ih]

@[simp] theorem programBad_fused (s : State) (x : FlashOp) : (s.programBad x).fused = s.fused := by
  simp [State.programBad]

@[simp] theorem eraseBad_fused (s : State) (x : FlashOp) : (s.eraseBad x).fused = s.fused := by rfl

@[simp] theorem eraseGood_fused (s : State) (x : FlashOp) : (s.eraseGood x).fused = s.fused := by
  simp [State.eraseGood]

@[simp] theorem flcDone_fused (s : State) (ok : Bool) : (s.flcDone ok).fused = s.fused := by
  unfold State.flcDone
  split <;> simp

@[simp] theorem eraseSuspend_fused (s : State) : s.eraseSuspend.fused = s.fused := by
  unfold State.eraseSuspend
  split <;> simp

@[simp] theorem eraseResume_fused (s : State) : s.eraseResume.fused = s.fused := by simp [State.eraseResume]

@[simp] theorem journalScan_fused (s : State) : s.journalScan.fused = s.fused := by
  unfold State.journalScan
  split
  · rfl
  · refine (setB_fused _ _ _ _).trans (fused_forNat _ (fun b t => ?_) 5 s)
    split <;> simp

@[simp] theorem flashStop_fused (s : State) : s.flashStop.fused = s.fused := by
  unfold State.flashStop
  split <;> simp

@[simp] theorem scrubWord_fused (s : State) (b w : Nat) : (s.scrubWord b w).fused = s.fused := by
  unfold State.scrubWord
  split <;> simp

@[simp] theorem scrubGroup_fused (s : State) : s.scrubGroup.fused = s.fused := by
  unfold State.scrubGroup
  dsimp only
  repeat' split
  all_goals simp

@[simp] theorem scrubStep_fused (s : State) : s.scrubStep.fused = s.fused := by simp [State.scrubStep]

@[simp] theorem chzScrubDone_fused (s : State) : s.chzScrubDone.fused = s.fused := by simp [State.chzScrubDone]

/-! ### Machine/DramOps -/

@[simp] theorem dmcGo_fused (s : State) (st : Nat) : (s.dmcGo st).fused = s.fused := by simp [State.dmcGo]

@[simp] theorem dmcCmdErr_fused (s : State) : s.dmcCmdErr.fused = s.fused := by simp [State.dmcCmdErr]

@[simp] theorem dmcPathFreeze_fused (s : State) (cause : Nat) : (s.dmcPathFreeze cause).fused = s.fused := by
  simp [State.dmcPathFreeze]

@[simp] theorem dmcResume_fused (s : State) : s.dmcResume.fused = s.fused := by simp [State.dmcResume]

@[simp] theorem dmcCmd_fused (s : State) (v : Word) : (s.dmcCmd v).fused = s.fused := by simp [State.dmcCmd]

@[simp] theorem dmcPowered_fused (s : State) : s.dmcPowered.fused = s.fused := by simp [State.dmcPowered]

@[simp] theorem dramZero_fused (s : State) : s.dramZero.fused = s.fused := by rfl

@[simp] theorem dmcWiped_fused (s : State) : s.dmcWiped.fused = s.fused := by simp [State.dmcWiped]

@[simp] theorem dmcWipe_fused (s : State) : s.dmcWipe.fused = s.fused := by simp [State.dmcWipe]

@[simp] theorem selfRefresh_fused (s : State) : s.selfRefresh.fused = s.fused := by simp [State.selfRefresh]

@[simp] theorem dramStart_fused (s : State) : s.dramStart.fused = s.fused := by
  unfold State.dramStart
  dsimp only
  repeat' split
  all_goals simp

@[simp] theorem dramStore_fused (s : State) (port block idx : Nat) (v : Word) :
    (s.dramStore port block idx v).fused = s.fused := by simp [State.dramStore]

@[simp] theorem periodicCal_fused (s : State) (mr4 mr8 : BitVec 8) (drifted : Bool) :
    (s.periodicCal mr4 mr8 drifted).fused = s.fused := by simp [State.periodicCal]

@[simp] theorem retrainDq_fused (s : State) : s.retrainDq.fused = s.fused := by simp [State.retrainDq]

@[simp] theorem dramScrub_fused (s : State) : s.dramScrub.fused = s.fused := by
  unfold State.dramScrub
  dsimp only
  repeat' split
  all_goals simp

@[simp] theorem trnCmd_fused (s : State) (v : Word) : (s.trnCmd v).fused = s.fused := by simp [State.trnCmd]

@[simp] theorem helperDone_fused (s : State) (res : BitVec 17) : (s.helperDone res).fused = s.fused := by
  simp [State.helperDone]

@[simp] theorem dmcTrainWr_fused (s : State) (p : Nat) (v : Word) : (s.dmcTrainWr p v).fused = s.fused := by
  simp [State.dmcTrainWr]

@[simp] theorem holeRuns_fused (s : State) (q : Nat) (held : Bool) (l : List Pkt) :
    (s.holeRuns q held l).2.fused = s.fused := by
  induction l generalizing s held with
  | nil => rfl
  | cons p r ih => simp [State.holeRuns, ih]

@[simp] theorem queuesLose_fused (s : State) : s.queuesLose.fused = s.fused := by simp [State.queuesLose]

@[simp] theorem contextsLose_fused (s : State) : s.contextsLose.fused = s.fused := by simp [State.contextsLose]

@[simp] theorem dmcReset_fused (s : State) : s.dmcReset.fused = s.fused := by simp [State.dmcReset]

@[simp] theorem dmcOff_fused (s : State) : s.dmcOff.fused = s.fused := by simp [State.dmcOff]

@[simp] theorem dmcRelease_fused (s : State) : s.dmcRelease.fused = s.fused := by
  simp [State.dmcRelease]

/-! ### Machine/Security -/

@[simp] theorem mbxPut_fused (s : State) (o j : Nat) (n : Nonet) : (s.mbxPut o j n).fused = s.fused := by
  simp [State.mbxPut]

@[simp] theorem mbxPuts_fused (s : State) (o : Nat) (l : List Nonet) : (s.mbxPuts o l).fused = s.fused := by
  simp [State.mbxPuts]

@[simp] theorem pktNonets_fused (s : State) (p : Pkt) (o k : Nat) : (s.pktNonets p o k).2.fused = s.fused := by
  simp [State.pktNonets]

@[simp] theorem pktPut_fused (s : State) (p : Pkt) (j : Nat) (n : Nonet) : (s.pktPut p j n).fused = s.fused := by
  unfold State.pktPut
  dsimp only
  split <;> simp

@[simp] theorem pktPuts_fused (s : State) (p : Pkt) (o : Nat) (l : List Nonet) : (s.pktPuts p o l).fused = s.fused := by
  simp [State.pktPuts]

@[simp] theorem fillSlot_fused (s : State) (k : Nat) (x : KeySlot) (usage limit : Nat) :
    (s.fillSlot k x usage limit).fused = s.fused := by rfl

@[simp] theorem emptySlot_fused (s : State) (k : Nat) : (s.emptySlot k).fused = s.fused := by rfl

@[simp] theorem useSlot_fused (s : State) (k : Nat) : (s.useSlot k).2.fused = s.fused := by
  unfold State.useSlot
  dsimp only
  repeat' split
  all_goals simp

@[simp] theorem jobHold_fused (s : State) (j : SecJob) (v : Nat) : (s.jobHold j v).fused = s.fused := by
  simp [State.jobHold]

@[simp] theorem jobCmd_fused (s : State) (m : Master) (v : Word) : (s.jobCmd m v).fused = s.fused := by
  simp [State.jobCmd]

@[simp] theorem jobRun_fused (s : State) : s.jobRun.fused = s.fused := by
  unfold State.jobRun
  dsimp only
  repeat' split
  all_goals simp

@[simp] theorem jobEnd_fused (s : State) (j : SecJob) (res : Nat) : (s.jobEnd j res).fused = s.fused := by
  simp [State.jobEnd]

@[simp] theorem jobIn_fused (s : State) (j : SecJob) : (s.jobIn j).2.fused = s.fused := by
  unfold State.jobIn
  split
  · rfl
  · split <;> simp

@[simp] theorem jobOut_fused (s : State) (j : SecJob) (l : List Nonet) : (s.jobOut j l).fused = s.fused := by
  unfold State.jobOut
  split
  · simp
  · split <;> simp

@[simp] theorem jobTagOut_fused (s : State) (j : SecJob) (l : List Nonet) : (s.jobTagOut j l).fused = s.fused := by
  unfold State.jobTagOut
  split
  · simp
  · split <;> simp

@[simp] theorem jobMic_fused (s : State) (j : SecJob) (v : Nat) : (s.jobMic j v).fused = s.fused := by
  unfold State.jobMic
  dsimp only
  repeat' split
  all_goals simp

@[simp] theorem jobFail_fused (s : State) (j : SecJob) : (s.jobFail j).fused = s.fused := by simp [State.jobFail]

@[simp] theorem jobFinish_fused (s : State) : s.jobFinish.fused = s.fused := by
  unfold State.jobFinish
  split <;> simp

@[simp] theorem keyRes_fused (s : State) (m : Master) (r : Nat) : (s.keyRes m r).fused = s.fused := by
  simp [State.keyRes]

@[simp] theorem loadKey_fused (s : State) (m : Master) (k wlen : Nat) (p : List Octet) :
    (s.loadKey m k wlen p).fused = s.fused := by simp [State.loadKey]

@[simp] theorem keyLoad_fused (s : State) (m : Master) : (s.keyLoad m).fused = s.fused := by
  unfold State.keyLoad
  dsimp only
  repeat' split
  all_goals simp

@[simp] theorem keyClear_fused (s : State) (m : Master) : (s.keyClear m).fused = s.fused := by simp [State.keyClear]

@[simp] theorem keyDerive_fused (s : State) (m : Master) : (s.keyDerive m).fused = s.fused := by
  unfold State.keyDerive
  dsimp only
  split
  · simp
  · split
    · simp
    · split
      · simp
      · generalize (if bitOf (s.get (bank m 0x6023)) 17 then 32 else 16) = n
        split
        · simp
        · split <;> rename_i used <;> simp [fused_of_eq used]

@[simp] theorem keyExport_fused (s : State) (m : Master) : (s.keyExport m).fused = s.fused := by
  have used : ∀ {p : Prop} [Decidable p] {k : Nat} {b : Bool} {t : State},
      (if p then (true, s) else s.useSlot k) = (b, t) → t.fused = s.fused := fun e => by simp [fused_of_eq e]
  unfold State.keyExport
  dsimp only
  split
  · simp
  · split
    · simp
    · split
      · simp
      · split <;> rename_i taken <;> simp [used taken]

@[simp] theorem keyCmd_fused (s : State) (m : Master) (v : Word) : (s.keyCmd m v).fused = s.fused := by
  simp [State.keyCmd]

@[simp] theorem slotsEmpty_fused (s : State) : s.slotsEmpty.fused = s.fused := by simp [State.slotsEmpty]

@[simp] theorem vfyCmd_fused (s : State) (v : Word) : (s.vfyCmd v).fused = s.fused := by simp [State.vfyCmd]

@[simp] theorem vfyTake_fused (s : State) : s.vfyTake.fused = s.fused := by rfl

@[simp] theorem vfyFree_fused (s : State) : s.vfyFree.fused = s.fused := by rfl

@[simp] theorem vfyEnd_fused (s : State) (r : Nat) : (s.vfyEnd r).fused = s.fused := by simp [State.vfyEnd]

@[simp] theorem vfyEcdsa_fused (s : State) : s.vfyEcdsa.fused = s.fused := by simp [State.vfyEcdsa]

@[simp] theorem vfyDone_fused (s : State) : s.vfyDone.fused = s.fused := by
  unfold State.vfyDone
  dsimp only
  repeat' split
  all_goals simp

/-! ### Machine/LifeCycle -/

@[simp] theorem senseFuses_fused (s : State) : s.senseFuses.fused = s.fused := by rfl

@[simp] theorem lcfShow_fused (s : State) : s.lcfShow.fused = s.fused := by simp [State.lcfShow]

@[simp] theorem logAppend_fused (s : State) (kind core len : Nat) :
    (s.logAppend kind core len).2.fused = s.fused := by
  unfold State.logAppend
  split <;> simp

@[simp] theorem updSec_fused (s : State) (f : Sec → Sec) (h : (f s.sec).trans = s.sec.trans) :
    (s.updSec f).fused = s.fused := by
  simp [State.updSec, h]

@[simp] theorem declareDead_fused (s : State) (c why : Nat) (d : BitVec 256) :
    (s.declareDead c why d).fused = s.fused := by simp [State.declareDead]

@[simp] theorem bootReport_fused (s : State) (c src why : Nat) : (s.bootReport c src why).fused = s.fused := by rfl

@[simp] theorem coreGo_fused (s : State) (c : Nat) (entry : Word) : (s.coreGo c entry).fused = s.fused := by
  simp [State.coreGo]

@[simp] theorem imageStart_fused (s : State) (c src why : Nat) (anchor : Bool) (i : ImageInfo) :
    (s.imageStart c src why anchor i).fused = s.fused := by simp [State.imageStart]

@[simp] theorem anchorStart_fused (s : State) (c why : Nat) : (s.anchorStart c why).fused = s.fused := by
  unfold State.anchorStart
  split <;> simp

@[simp] theorem activeStart_fused (s : State) (c : Nat) : (s.activeStart c).fused = s.fused := by
  unfold State.activeStart
  split <;> simp

@[simp] theorem activate_fused (s : State) (c : Nat) : (s.activate c).fused = s.fused := by simp [State.activate]

@[simp] theorem selectImage_fused (s : State) (c : Nat) (group : Bool) : (s.selectImage c group).fused = s.fused := by
  simp [State.selectImage]

@[simp] theorem eraseBank_fused (s : State) (b n : Nat) : (s.eraseBank b n).fused = s.fused := by
  simp [State.eraseBank]

@[simp] theorem copyFlash_fused (s : State) (b o b2 o2 n : Nat) : (s.copyFlash b o b2 o2 n).fused = s.fused := by
  simp [State.copyFlash]

@[simp] theorem copyImage_fused (s : State) (c n : Nat) : (s.copyImage c n).fused = s.fused := by
  simp [State.copyImage]

@[simp] theorem trialStart_fused (s : State) (c : Nat) : (s.trialStart c).fused = s.fused := by
  simp [State.trialStart]

@[simp] theorem copyTwice_fused (s : State) (c n : Nat) : (s.copyTwice c n).fused = s.fused := by
  simp [State.copyTwice]

@[simp] theorem activationEnd_fused (s : State) (c : Nat) : (s.activationEnd c).fused = s.fused := by
  unfold State.activationEnd
  dsimp only
  repeat' split
  all_goals simp

@[simp] theorem activationCut_fused (s : State) (c : Nat) : (s.activationCut c).fused = s.fused := by
  simp [State.activationCut]

@[simp] theorem checkIn_fused (s : State) (c : Nat) : (s.checkIn c).fused = s.fused := by simp [State.checkIn]

@[simp] theorem updCmd_fused (s : State) (v : Word) : (s.updCmd v).fused = s.fused := by simp [State.updCmd]

@[simp] theorem armEnd_fused (s : State) (r blk : Nat) : (s.armEnd r blk).fused = s.fused := by rfl

@[simp] theorem armDone_fused (s : State) : s.armDone.fused = s.fused := by
  unfold State.armDone
  dsimp only
  split
  · rfl
  · split
    · simp
    · split
      · simp
      · split
        · simp
        · split
          · simp
          · split <;> rename_i logged <;> simp [fused_of_eq logged]

@[simp] theorem eraseWhole_fused (s : State) (b : Nat) : (s.eraseWhole b).fused = s.fused := by rfl

@[simp] theorem transWipe_fused (s : State) : s.transWipe.fused = s.fused := by simp [State.transWipe]

/-! ### Machine/RigApply -/

@[simp] theorem rigLane_fused (s : State) (l : Nat) : (s.rigLane l).fused = s.fused := by rfl

@[simp] theorem wire_fused (s : State) (a b : Word) : (s.wire a b).fused = s.fused := by simp [State.wire]

@[simp] theorem wiring_fused (s : State) (b : List Word) : (s.wiring b).fused = s.fused := by simp [State.wiring]

@[simp] theorem rigGpio_fused (s : State) (g : Nat) : (s.rigGpio g).fused = s.fused := by rfl

@[simp] theorem rigBand_fused (s : State) (b : Nat) : (s.rigBand b).fused = s.fused := by simp [State.rigBand]

@[simp] theorem rigAon_fused (s : State) : s.rigAon.fused = s.fused := by simp [State.rigAon]

@[simp] theorem rigQueue_fused (s : State) (q : Nat) : (s.rigQueue q).fused = s.fused := by simp [State.rigQueue]

@[simp] theorem rigDomain_fused (s : State) (d : Nat) : (s.rigDomain d).fused = s.fused := by simp [State.rigDomain]

@[simp] theorem liveCmd_fused (s : State) (v : Word) : (s.liveCmd v).fused = s.fused := by simp [State.liveCmd]

@[simp] theorem liveMarks_fused (s : State) (b : List Word) (q : Nat) : (s.liveMarks b q).fused = s.fused := by
  unfold State.liveMarks
  dsimp only
  repeat' split
  all_goals simp

@[simp] theorem liveEnd_fused (s : State) (down : State → State) (h : ∀ t, (down t).fused = t.fused) :
    (s.liveEnd down).fused = s.fused := by
  unfold State.liveEnd
  split
  · rfl
  · extract_lets f w t1 t2 t3 t u rig v
    have policies : t1.fused = s.fused := by
      simp only [t1]
      split <;> simp
    have queues : t2.fused = s.fused := by
      simp only [t2]
      split <;> simp [policies]
    have wired : t3.fused = s.fused := by
      simp only [t3]
      split <;> simp [queues]
    have ended : v.fused = s.fused := (fused_rig u _).trans (by simp [u, t, wired])
    simp [h, ended]

/-! ### Machine/Power -/

@[simp] theorem resetCause_fused (s : State) (cls bit dom : Nat) :
    (s.resetCause cls bit dom).fused = s.fused := by rfl

@[simp] theorem wdgShow_fused (s : State) (c : Nat) : (s.wdgShow c).fused = s.fused := by rfl

@[simp] theorem setKick_fused (s : State) (c v : Nat) : (s.setKick c v).fused = s.fused := by rfl

@[simp] theorem wdgRestart_fused (s : State) (c : Nat) : (s.wdgRestart c).fused = s.fused := by rfl

@[simp] theorem wdgTick_fused (s : State) (c : Nat) : (s.wdgTick c).fused = s.fused := by simp [State.wdgTick]

@[simp] theorem coreReset_fused (s : State) (c : Core) : (s.coreReset c).fused = s.fused := by
  unfold State.coreReset
  exact (fused_dmc _ _).trans (by simp)

@[simp] theorem lanesOff_fused (s : State) (base : Nat) : (s.lanesOff base).fused = s.fused := by
  refine fused_forNat _ (fun i t => ?_) 32 s
  dsimp only
  split <;> simp

@[simp] theorem seqsOff_fused (s : State) : s.seqsOff.fused = s.fused := by simp [State.seqsOff]

@[simp] theorem basinOff_fused (s : State) : s.basinOff.fused = s.fused := by simp [State.basinOff]

@[simp] theorem utvisOff_fused (s : State) : s.utvisOff.fused = s.fused := by simp [State.utvisOff]

@[simp] theorem cipherOff_fused (s : State) (rst : Bool) : (s.cipherOff rst).fused = s.fused := by
  simp [State.cipherOff]

@[simp] theorem domHidden_fused (s : State) (d : Nat) (rst : Bool) : (s.domHidden d rst).fused = s.fused := by
  simp [State.domHidden]

@[simp] theorem domStop_fused (s : State) (d : Nat) (rst : Bool) : (s.domStop d rst).fused = s.fused := by
  simp [State.domStop]

@[simp] theorem domOff_fused (s : State) (d : Nat) : (s.domOff d).fused = s.fused := by simp [State.domOff]

@[simp] theorem domClose_fused (s : State) (d : Nat) : (s.domClose d).fused = s.fused := by rfl

@[simp] theorem groupDown_fused (s : State) (c : Nat) : (s.groupDown c).fused = s.fused := by simp [State.groupDown]

@[simp] theorem groupReset_fused (s : State) (c : Core) (cause : GroupCause) :
    (s.groupReset c cause).fused = s.fused := by simp [State.groupReset]

@[simp] theorem domReset_fused (s : State) (d : Nat) (cause : DomCause) : (s.domReset d cause).fused = s.fused := by
  simp [State.domReset]

@[simp] theorem coreStart_fused (s : State) (c : Nat) : (s.coreStart c).fused = s.fused := by simp [State.coreStart]

@[simp] theorem domStarted_fused (s : State) (d : Nat) (fromReef : Bool) :
    (s.domStarted d fromReef).fused = s.fused := by simp [State.domStarted]

@[simp] theorem domUp_fused (s : State) (d : Nat) (fromReef : Bool) : (s.domUp d fromReef).fused = s.fused := by
  simp [State.domUp]

@[simp] theorem setPhase_fused (s : State) (v : Nat) : (s.setPhase v).fused = s.fused := by rfl

@[simp] theorem setLevel_fused (s : State) (v : Nat) : (s.setLevel v).fused = s.fused := by simp [State.setLevel]

@[simp] theorem setWindow_fused (s : State) (v : Bool) : (s.setWindow v).fused = s.fused := by simp [State.setWindow]

@[simp] theorem gateCore_fused (s : State) (c : Nat) (v : Bool) : (s.gateCore c v).fused = s.fused := by
  simp [State.gateCore]

@[simp] theorem exitEnd_fused (s : State) : s.exitEnd.fused = s.fused := by simp [State.exitEnd]

@[simp] theorem domRelease_fused (s : State) (d : Nat) : (s.domRelease d).fused = s.fused := by
  simp [State.domRelease]

@[simp] theorem pwrAbandon_fused (s : State) : s.pwrAbandon.fused = s.fused := by simp [State.pwrAbandon]

@[simp] theorem pwrCmd_fused (s : State) (v : Word) : (s.pwrCmd v).fused = s.fused := by simp [State.pwrCmd]

@[simp] theorem entryQuietNow_fused (s : State) : s.entryQuietNow.fused = s.fused := by simp [State.entryQuietNow]

@[simp] theorem endCalendar_fused (s : State) : s.endCalendar.fused = s.fused := by simp [State.endCalendar]

@[simp] theorem entryDone_fused (s : State) : s.entryDone.fused = s.fused := by simp [State.entryDone]

@[simp] theorem levelExit_fused (s : State) : s.levelExit.fused = s.fused := by simp [State.levelExit]

@[simp] theorem wakeNow_fused (s : State) : s.wakeNow.fused = s.fused := by simp [State.wakeNow]

@[simp] theorem wakeFrom_fused (s : State) (src : Nat) : (s.wakeFrom src).fused = s.fused := by simp [State.wakeFrom]

@[simp] theorem waitEnded_fused (s : State) : s.waitEnded.fused = s.fused := by simp [State.waitEnded]

@[simp] theorem wakeByIrq_fused (s : State) : s.wakeByIrq.fused = s.fused := by simp [State.wakeByIrq]

@[simp] theorem holdsApply_fused (s : State) : s.holdsApply.fused = s.fused := by simp [State.holdsApply]

@[simp] theorem domHold_fused (s : State) (v : Word) : (s.domHold v).fused = s.fused := by simp [State.domHold]

@[simp] theorem resClear_fused (s : State) (v : Word) : (s.resClear v).fused = s.fused := by simp [State.resClear]

@[simp] theorem sluiceTry_fused (s : State) (aged : Bool) (a : Nat) : (s.sluiceTry aged a).fused = s.fused := by
  simp [State.sluiceTry]

@[simp] theorem sluiceCycle_fused (s : State) : s.sluiceCycle.fused = s.fused := by simp [State.sluiceCycle]

@[simp] theorem sluiceAge_fused (s : State) (a : Nat) : (s.sluiceAge a).fused = s.fused := by simp [State.sluiceAge]

@[simp] theorem tempSampled_fused (s : State) (temp : BitVec 9) (vs vw : BitVec 12) :
    (s.tempSampled temp vs vw).fused = s.fused := by simp [State.tempSampled]

@[simp] theorem fmcCmd_fused (s : State) (v : Word) : (s.fmcCmd v).fused = s.fused := by simp [State.fmcCmd]

@[simp] theorem fmcEnd_fused (s : State) (err : Word) : (s.fmcEnd err).fused = s.fused := by simp [State.fmcEnd]

/-! ### Machine/Boot -/

@[simp] theorem straps_fused (s : State) (bootSel : BitVec 2) (stackId : BitVec 3) :
    (s.straps bootSel stackId).fused = s.fused := by rfl

@[simp] theorem cutWork_fused (s : State) : s.cutWork.fused = s.fused := by simp [State.cutWork]

@[simp] theorem refBack_fused (s : State) (bootSel : BitVec 2) (stackId : BitVec 3) :
    (s.refBack bootSel stackId).fused = s.fused := by simp [State.refBack]

@[simp] theorem wdgWarn_fused (s : State) (c : Nat) : (s.wdgWarn c).fused = s.fused := by simp [State.wdgWarn]

@[simp] theorem wdgCfg_fused (s : State) (c : Nat) (v : Word) : (s.wdgCfg c v).fused = s.fused := by
  simp [State.wdgCfg]

@[simp] theorem rigApply_fused (s : State) (c : Candidate) : (s.rigApply c).fused = s.fused := by
  simp [State.rigApply]

@[simp] theorem rigRefused_fused (s : State) : s.rigRefused.fused = s.fused := by simp [State.rigRefused]

@[simp] theorem bootCore_fused (s : State) (c : Nat) : (s.bootCore c).fused = s.fused := by simp [State.bootCore]

@[simp] theorem rigReadyNow_fused (s : State) : s.rigReadyNow.fused = s.fused := by simp [State.rigReadyNow]

@[simp] theorem activationEnds_fused (s : State) (c : Nat) : (s.activationEnds c).fused = s.fused := by
  simp [State.activationEnds]

@[simp] theorem trialEnds_fused (s : State) (c : Nat) : (s.trialEnds c).fused = s.fused := by simp [State.trialEnds]

/-! ### Machine/Sniff -/

@[simp] theorem sniffStep_fused (s : State) (e : Nat) : (s.sniffStep e).fused = s.fused := by rfl

@[simp] theorem sniffRestore_fused (s : State) (e : Nat) : (s.sniffRestore e).fused = s.fused := by
  simp [State.sniffRestore]

@[simp] theorem setSniff_fused (s : State) (x : Option (Nat × Nat × Bool)) : (s.setSniff x).fused = s.fused := by rfl

@[simp] theorem sniffHear_fused (s : State) (e i : Nat) : (s.sniffHear e i).fused = s.fused := by
  unfold State.sniffHear
  split <;> simp

@[simp] theorem sniffListen_fused (s : State) (e i : Nat) (from0 : BitVec 54) :
    (s.sniffListen e i from0).fused = s.fused := by simp [State.sniffListen]

@[simp] theorem sniffGo_fused (s : State) (e i : Nat) : (s.sniffGo e i).fused = s.fused := by simp [State.sniffGo]

@[simp] theorem sniffNextBin_fused (s : State) (e i : Nat) : (s.sniffNextBin e i).fused = s.fused := by
  simp [State.sniffNextBin]

@[simp] theorem sniffStart_fused (s : State) (e : Nat) : (s.sniffStart e).fused = s.fused := by
  simp [State.sniffStart]

@[simp] theorem sniffReady_fused (s : State) : s.sniffReady.fused = s.fused := by
  unfold State.sniffReady
  split <;> simp

@[simp] theorem sniffSent_fused (s : State) : s.sniffSent.fused = s.fused := by
  unfold State.sniffSent
  split <;> simp

@[simp] theorem sniffHeard_fused (s : State) : s.sniffHeard.fused = s.fused := by
  unfold State.sniffHeard
  dsimp only
  repeat' split
  all_goals simp

@[simp] theorem sniffDetached_fused (s : State) : s.sniffDetached.fused = s.fused := by
  unfold State.sniffDetached
  split <;> simp

@[simp] theorem sniffAsk_fused (s : State) (wait : Word) : (s.sniffAsk wait).fused = s.fused := by
  unfold State.sniffAsk
  split
  · rfl
  · split <;> simp

@[simp] theorem sniffEnd_fused (s : State) : s.sniffEnd.fused = s.fused := by simp [State.sniffEnd]

@[simp] theorem sniffLate_fused (s : State) (start : BitVec 54) (o : TxOwner) :
    (s.sniffLate start o).fused = s.fused := by simp [State.sniffLate]

/-! ### Machine/Psm -/

@[simp] theorem updPsm_fused (s : State) (x : Nat) (f : Psm → Psm) : (s.updPsm x f).fused = s.fused := by rfl

@[simp] theorem psmErr_fused (s : State) (x : Nat) : (s.psmErr x).fused = s.fused := by rfl

@[simp] theorem psmDone_fused (s : State) (x : Nat) : (s.psmDone x).fused = s.fused := by simp [State.psmDone]

@[simp] theorem psmFlags_fused (s : State) (x busy sel frame : Nat) :
    (s.psmFlags x busy sel frame).fused = s.fused := by rfl

@[simp] theorem psmWatch_fused (s : State) (x : Nat) (f : State → State) (h : (f s).fused = s.fused) :
    (s.psmWatch x f).fused = s.fused := by
  simp [State.psmWatch, h]

@[simp] theorem psmNext_fused (s : State) (x : Nat) : (s.psmNext x).fused = s.fused := by
  unfold State.psmNext
  dsimp only
  repeat' split
  all_goals simp

@[simp] theorem psmOctet_fused (s : State) (x : Nat) : (s.psmOctet x).fused = s.fused := by
  unfold State.psmOctet
  dsimp only
  repeat' split
  all_goals simp

@[simp] theorem psmGo_fused (s : State) (x : Nat) : (s.psmGo x).fused = s.fused := by simp [State.psmGo]

@[simp] theorem psmStart_fused (s : State) (x : Nat) : (s.psmStart x).fused = s.fused := by simp [State.psmStart]

@[simp] theorem psmStop_fused (s : State) (x : Nat) : (s.psmStop x).fused = s.fused := by simp [State.psmStop]

@[simp] theorem psmAbort_fused (s : State) (x : Nat) : (s.psmAbort x).fused = s.fused := by simp [State.psmAbort]

@[simp] theorem psmRelease_fused (s : State) (x : Nat) : (s.psmRelease x).fused = s.fused := by
  simp [State.psmRelease]

@[simp] theorem psmFlush_fused (s : State) (x : Nat) : (s.psmFlush x).fused = s.fused := by simp [State.psmFlush]

@[simp] theorem psmCmd_fused (s : State) (x : Nat) (v : Word) : (s.psmCmd x v).fused = s.fused := by
  simp [State.psmCmd]

@[simp] theorem psmPush_fused (s : State) (x : Nat) (v : Word) : (s.psmPush x v).fused = s.fused := by
  simp [State.psmPush]

@[simp] theorem psmPop_fused (s : State) (x : Nat) : (s.psmPop x).2.fused = s.fused := by
  unfold State.psmPop
  split <;> simp

@[simp] theorem psmShifted_fused (s : State) (x : Nat) (v : BitVec 32) : (s.psmShifted x v).fused = s.fused := by
  simp [State.psmShifted]

@[simp] theorem psmEnd_fused (s : State) (x : Nat) : (s.psmEnd x).fused = s.fused := by simp [State.psmEnd]

@[simp] theorem psmCtrl_fused (s : State) (x : Nat) (v : Word) : (s.psmCtrl x v).fused = s.fused := by
  simp [State.psmCtrl]

@[simp] theorem psmOpt_fused (s : State) (x : Nat) (v : Word) : (s.psmOpt x v).fused = s.fused := by
  simp [State.psmOpt]

/-! ### Machine/Pins -/

@[simp] theorem gpioMove_fused (s : State) (g : Nat) (rise : Bool) : (s.gpioMove g rise).fused = s.fused := by
  simp [State.gpioMove]

@[simp] theorem gpioOutW_fused (s : State) (k : Nat) (v : Word) : (s.gpioOutW k v).fused = s.fused := by
  simp [State.gpioOutW]

@[simp] theorem gpioSetW_fused (s : State) (k : Nat) (v : Word) : (s.gpioSetW k v).fused = s.fused := by
  simp [State.gpioSetW]

@[simp] theorem gpioClrW_fused (s : State) (k : Nat) (v : Word) : (s.gpioClrW k v).fused = s.fused := by
  simp [State.gpioClrW]

@[simp] theorem gpioTogW_fused (s : State) (k : Nat) (v : Word) : (s.gpioTogW k v).fused = s.fused := by
  simp [State.gpioTogW]

@[simp] theorem gpioTask_fused (s : State) (g act : Nat) : (s.gpioTask g act).fused = s.fused := by
  simp [State.gpioTask]

@[simp] theorem gpioCfg_fused (s : State) (g : Nat) (v : Word) : (s.gpioCfg g v).fused = s.fused := by
  simp [State.gpioCfg]

@[simp] theorem tapShift_fused (s : State) (ir : BitVec 5) (out : BitVec 32) :
    (s.tapShift ir out).fused = s.fused := by rfl

@[simp] theorem tapClear_fused (s : State) : s.tapClear.fused = s.fused := by rfl

@[simp] theorem tapExtest_fused (s : State) (scanIn : List Bool) : (s.tapExtest scanIn).fused = s.fused := by
  simp [State.tapExtest]

@[simp] theorem tapSample_fused (s : State) (balls scanIn : List Bool) :
    (s.tapSample balls scanIn).fused = s.fused := by rfl

@[simp] theorem tapId_fused (s : State) : s.tapId.fused = s.fused := by rfl

@[simp] theorem tapBypass_fused (s : State) (bit : Bool) : (s.tapBypass bit).fused = s.fused := by rfl

/-! ### Machine/Timers -/

@[simp] theorem setTimVal_fused (s : State) (n off v : Nat) : (s.setTimVal n off v).fused = s.fused := by
  simp [State.setTimVal]

@[simp] theorem setTimRun_fused (s : State) (n : Nat) (v : Bool) : (s.setTimRun n v).fused = s.fused := by rfl

@[simp] theorem timErr_fused (s : State) (n : Nat) : (s.timErr n).fused = s.fused := by rfl

@[simp] theorem timWake_fused (s : State) (n : Nat) : (s.timWake n).fused = s.fused := by simp [State.timWake]

@[simp] theorem timCcEvent_fused (s : State) (n k : Nat) : (s.timCcEvent n k).fused = s.fused := by
  simp [State.timCcEvent]

@[simp] theorem timCompare_fused (s : State) (n k : Nat) : (s.timCompare n k).fused = s.fused := by
  simp [State.timCompare]

@[simp] theorem timPeriodEvent_fused (s : State) (n : Nat) : (s.timPeriodEvent n).fused = s.fused := by
  simp [State.timPeriodEvent]

@[simp] theorem timTick_fused (s : State) (n : Nat) : (s.timTick n).fused = s.fused := by simp [State.timTick]

@[simp] theorem setTimAcc_fused (s : State) (n v : Nat) : (s.setTimAcc n v).fused = s.fused := by rfl

@[simp] theorem timPass_fused (s : State) (src by_ n : Nat) : (s.timPass src by_ n).fused = s.fused := by
  simp [State.timPass]

@[simp] theorem timsPass_fused (s : State) (src by_ : Nat) : (s.timsPass src by_).fused = s.fused := by
  simp [State.timsPass]

@[simp] theorem timTicked_fused (s : State) (n : Nat) : (s.timTicked n).fused = s.fused := by simp [State.timTicked]

@[simp] theorem timSourceCycle_fused (s : State) (n : Nat) : (s.timSourceCycle n).fused = s.fused := by
  simp [State.timSourceCycle]

@[simp] theorem timZero_fused (s : State) (n : Nat) : (s.timZero n).fused = s.fused := by simp [State.timZero]

@[simp] theorem timCmd_fused (s : State) (n : Nat) (v : Word) : (s.timCmd n v).fused = s.fused := by
  simp [State.timCmd]

@[simp] theorem timCtrl_fused (s : State) (n : Nat) (v : Word) : (s.timCtrl n v).fused = s.fused := by
  simp [State.timCtrl]

@[simp] theorem timPre_fused (s : State) (n : Nat) (v : Word) : (s.timPre n v).fused = s.fused := by
  simp [State.timPre]

@[simp] theorem timStage_fused (s : State) (n off : Nat) (v : Word) : (s.timStage n off v).fused = s.fused := by rfl

@[simp] theorem timJoin_fused (s : State) (n off : Nat) (hi : Word) : (s.timJoin n off hi).2.fused = s.fused := by rfl

@[simp] theorem timWrite_fused (s : State) (n off : Nat) (v : Word) (act : State → Nat → Nat → State)
    (h : ∀ t n v, (act t n v).fused = t.fused) : (s.timWrite n off v act).fused = s.fused := by
  simp [State.timWrite, h]

@[simp] theorem timCountWrite_fused (s : State) (n : Nat) (v : Word) : (s.timCountWrite n v).fused = s.fused := by
  simp [State.timCountWrite]

@[simp] theorem timPeriodWrite_fused (s : State) (n : Nat) (v : Word) : (s.timPeriodWrite n v).fused = s.fused := by
  simp [State.timPeriodWrite]

@[simp] theorem timCcWrite_fused (s : State) (n k : Nat) (v : Word) : (s.timCcWrite n k v).fused = s.fused := by
  simp [State.timCcWrite]

@[simp] theorem timCapture_fused (s : State) (n k : Nat) : (s.timCapture n k).fused = s.fused := by
  simp [State.timCapture]

@[simp] theorem timCcRead_fused (s : State) (n k : Nat) : (s.timCcRead n k).fused = s.fused := by rfl

@[simp] theorem taskDo_fused (s : State) (t : Nat) : (s.taskDo t).fused = s.fused := by simp [State.taskDo]

@[simp] theorem taskTake_fused (s : State) (t : Nat) : (s.taskTake t).fused = s.fused := by simp [State.taskTake]

@[simp] theorem guardClose_fused (s : State) (ch : Nat) : (s.guardClose ch).fused = s.fused := by
  simp [State.guardClose]

@[simp] theorem evSwWrite_fused (s : State) (v : Word) : (s.evSwWrite v).fused = s.fused := by simp [State.evSwWrite]

@[simp] theorem evfChannelWrite_fused (s : State) (ch reg : Nat) (v : Word) :
    (s.evfChannelWrite ch reg v).fused = s.fused := by simp [State.evfChannelWrite]

@[simp] theorem evfTaskWrite_fused (s : State) (t : Nat) (v : Word) : (s.evfTaskWrite t v).fused = s.fused := by
  simp [State.evfTaskWrite]

/-! ### Machine/Rtc -/

@[simp] theorem setFields_fused (s : State) (p : Nat) (l : List Word) : (s.setFields p l).fused = s.fused := by rfl

@[simp] theorem alarmCheck_fused (s : State) : s.alarmCheck.fused = s.fused := by simp [State.alarmCheck]

@[simp] theorem secondEdge_fused (s : State) : s.secondEdge.fused = s.fused := by simp [State.secondEdge]

@[simp] theorem setDiv_fused (s : State) (v : Nat) : (s.setDiv v).fused = s.fused := by rfl

@[simp] theorem rtcCommit_fused (s : State) : s.rtcCommit.fused = s.fused := by rfl

@[simp] theorem rtcStage_fused (s : State) (i : Nat) (v : Word) : (s.rtcStage i v).fused = s.fused := by
  unfold State.rtcStage
  split <;> simp

@[simp] theorem commitEdge_fused (s : State) : s.commitEdge.fused = s.fused := by
  unfold State.commitEdge
  split <;> simp

@[simp] theorem rtcWrap_fused (s : State) : s.rtcWrap.fused = s.fused := by simp [State.rtcWrap]

@[simp] theorem rtcCmd_fused (s : State) (v : Word) : (s.rtcCmd v).fused = s.fused := by simp [State.rtcCmd]

@[simp] theorem rtcStatWrite_fused (s : State) (v : Word) : (s.rtcStatWrite v).fused = s.fused := by
  simp [State.rtcStatWrite]

@[simp] theorem setLatch_fused (s : State) (m : Master) (p : Nat) (v : Word) :
    (s.setLatch m p v).fused = s.fused := by rfl

@[simp] theorem setSnap_fused (s : State) (m : Master) (v : Nat) : (s.setSnap m v).fused = s.fused := by rfl

@[simp] theorem rtcSnap_fused (s : State) (m : Master) : (s.rtcSnap m).2.fused = s.fused := by rfl

@[simp] theorem snapEnd_fused (s : State) (m : Master) : (s.snapEnd m).fused = s.fused := by simp [State.snapEnd]

@[simp] theorem backup_fused (s : State) (late : Bool) : (s.backup late).fused = s.fused := by simp [State.backup]

@[simp] theorem rtcStop_fused (s : State) : s.rtcStop.fused = s.fused := by rfl

@[simp] theorem bkdLowNow_fused (s : State) : s.bkdLowNow.fused = s.fused := by rfl

/-! ### Machine/FuavoBase -/

@[simp] theorem updCore_fused (s : State) (c : Core) (f : CoreState → CoreState) :
    (s.updCore c f).fused = s.fused := by simp [State.updCore]

@[simp] theorem haltCore_fused (s : State) (c : Core) (cause : Nat) : (s.haltCore c cause).fused = s.fused := by
  simp [State.haltCore]

@[simp] theorem retire_fused (s : State) (c : Core) : (s.retire c).fused = s.fused := by simp [State.retire]

@[simp] theorem lockUp_fused (s : State) (c : Core) : (s.lockUp c).fused = s.fused := by simp [State.lockUp]

@[simp] theorem trapNow_fused (s : State) (c : Core) (t : TrapInfo) : (s.trapNow c t).fused = s.fused := by
  simp [State.trapNow]

@[simp] theorem trapTo_fused (s : State) (c : Core) (t : TrapInfo) : (s.trapTo c t).fused = s.fused := by
  simp [State.trapTo]

@[simp] theorem faultAt_fused (s : State) (c : Core) (n kind : Nat) (addr : Word) :
    (s.faultAt c n kind addr).fused = s.fused := by simp [State.faultAt]

@[simp] theorem ioFault_fused (s : State) (c : Core) (write : Bool) (p : Nat) :
    (s.ioFault c write p).fused = s.fused := by simp [State.ioFault]

@[simp] theorem irqEnter_fused (s : State) (c : Core) : (s.irqEnter c).fused = s.fused := by
  unfold State.irqEnter
  dsimp only
  split <;> simp

@[simp] theorem flashReach_fused (s : State) (b o : Nat) : (s.flashReach b o).2.fused = s.fused := by
  unfold State.flashReach
  dsimp only
  split
  · rfl
  · split
    · rfl
    · split
      · rfl
      · split
        · rfl
        · split <;> rename_i read <;> simp [fused_of_eq read]

@[simp] theorem codeReach_fused (s : State) (c : Core) (a : Word) : (s.codeReach c a).2.fused = s.fused := by
  simp [State.codeReach]

@[simp] theorem coreRun_fused (s : State) (c : Core) (words : Nat) (f : State → Option State)
    (h : ∀ t u, f t = some u → u.fused = t.fused) : (s.coreRun c words f).fused = s.fused := by
  unfold State.coreRun
  dsimp only
  split
  · rfl
  · split <;> rename_i first
    · rfl
    · simp [fused_of_eq first]
    · simp [fused_of_eq first]
    · split
      · split
        · rename_i run
          simp [h _ _ run, fused_of_eq first]
        · rfl
      · split <;> rename_i second
        · rfl
        · simp [fused_of_eq first, fused_of_eq second]
        · simp [fused_of_eq first, fused_of_eq second]
        · split
          · rename_i run
            simp [h _ _ run, fused_of_eq first, fused_of_eq second]
          · rfl

@[simp] theorem alu_fused (s : State) (c : Core) (words : Nat) (f : CoreState → CoreState) :
    (s.alu c words f).fused = s.fused := by simp [State.alu]

@[simp] theorem dataRead_fused (s : State) (c : Core) (a : Word) : (s.dataRead c a).2.fused = s.fused := by
  unfold State.dataRead
  dsimp only
  repeat' split
  all_goals simp

@[simp] theorem dataWrite_fused (s : State) (c : Core) (a v : Word) : (s.dataWrite c a v).2.fused = s.fused := by
  unfold State.dataWrite
  dsimp only
  repeat' split
  all_goals simp

@[simp] theorem startWait_fused (s : State) (c : Core) (w : ApWait) : (s.startWait c w).fused = s.fused := by
  simp [State.startWait]

@[simp] theorem endWait_fused (s : State) (c : Core) (w : ApWait) (v : Word) : (s.endWait c w v).fused = s.fused := by
  simp [State.endWait]

@[simp] theorem load_fused (s : State) (c : Core) (words : Nat) (rd : BitVec 4) (a : Word) :
    (s.load c words rd a).fused = s.fused := by
  refine coreRun_fused s c words _ fun t u h => ?_
  generalize read : t.dataRead c a = x at h
  obtain ⟨r, v⟩ := x
  have kept : v.fused = t.fused := by simp [fused_of_eq read]
  cases r <;> simp_all <;> subst h <;> simp [kept]

@[simp] theorem store_fused (s : State) (c : Core) (words : Nat) (a v : Word) :
    (s.store c words a v).fused = s.fused := by
  refine coreRun_fused s c words _ fun t u h => ?_
  generalize written : t.dataWrite c a v = x at h
  obtain ⟨r, w⟩ := x
  have kept : w.fused = t.fused := by simp [fused_of_eq written]
  cases r <;> simp_all <;> subst h <;> simp [kept]

@[simp] theorem dramDone_fused (s : State) : s.dramDone.fused = s.fused := by
  unfold State.dramDone
  dsimp only
  repeat' split
  all_goals simp

@[simp] theorem basinWaitEnd_fused (s : State) (c : Core) : (s.basinWaitEnd c).fused = s.fused := by
  unfold State.basinWaitEnd
  split <;> simp

@[simp] theorem waitExpire_fused (s : State) (c : Core) : (s.waitExpire c).fused = s.fused := by
  unfold State.waitExpire
  split <;> simp

/-! ### Machine/FuavoOps -/

@[simp] theorem opPair_fused (s : State) (c : Core) (op1 op2 : BitVec 8) (cond : Bool) :
    (s.opPair c op1 op2 cond).fused = s.fused := by simp [State.opPair]

@[simp] theorem opAdd_fused (s : State) (c : Core) (rd ra rb : BitVec 4) : (s.opAdd c rd ra rb).fused = s.fused := by
  simp [State.opAdd]

@[simp] theorem opSub_fused (s : State) (c : Core) (rd ra rb : BitVec 4) : (s.opSub c rd ra rb).fused = s.fused := by
  simp [State.opSub]

@[simp] theorem opAdc_fused (s : State) (c : Core) (rd ra rb : BitVec 4) : (s.opAdc c rd ra rb).fused = s.fused := by
  simp [State.opAdc]

@[simp] theorem opSbc_fused (s : State) (c : Core) (rd ra rb : BitVec 4) : (s.opSbc c rd ra rb).fused = s.fused := by
  simp [State.opSbc]

@[simp] theorem opAnd_fused (s : State) (c : Core) (rd ra rb : BitVec 4) : (s.opAnd c rd ra rb).fused = s.fused := by
  simp [State.opAnd]

@[simp] theorem opOr_fused (s : State) (c : Core) (rd ra rb : BitVec 4) : (s.opOr c rd ra rb).fused = s.fused := by
  simp [State.opOr]

@[simp] theorem opXor_fused (s : State) (c : Core) (rd ra rb : BitVec 4) : (s.opXor c rd ra rb).fused = s.fused := by
  simp [State.opXor]

@[simp] theorem opShi_fused (s : State) (c : Core) (rd : BitVec 4) (kind : BitVec 2) (n : BitVec 6) :
    (s.opShi c rd kind n).fused = s.fused := by simp [State.opShi]

@[simp] theorem opShv_fused (s : State) (c : Core) (rd : BitVec 4) (kind : BitVec 2) (rb : BitVec 4) :
    (s.opShv c rd kind rb).fused = s.fused := by simp [State.opShv]

@[simp] theorem opMul_fused (s : State) (c : Core) (rd ra rb : BitVec 4) : (s.opMul c rd ra rb).fused = s.fused := by
  simp [State.opMul]

@[simp] theorem opMulx_fused (s : State) (c : Core) (rd ra rb : BitVec 4) :
    (s.opMulx c rd ra rb).fused = s.fused := by simp [State.opMulx]

@[simp] theorem opAddi_fused (s : State) (c : Core) (rd : BitVec 4) (imm : BitVec 8) :
    (s.opAddi c rd imm).fused = s.fused := by simp [State.opAddi]

@[simp] theorem opMovi_fused (s : State) (c : Core) (rd : BitVec 4) (imm : BitVec 8) :
    (s.opMovi c rd imm).fused = s.fused := by simp [State.opMovi]

@[simp] theorem opCmp_fused (s : State) (c : Core) (cond ra rb : BitVec 4) :
    (s.opCmp c cond ra rb).fused = s.fused := by simp [State.opCmp]

@[simp] theorem opCmpi_fused (s : State) (c : Core) (ra : BitVec 4) (imm : BitVec 8) :
    (s.opCmpi c ra imm).fused = s.fused := by simp [State.opCmpi]

@[simp] theorem opMovw_fused (s : State) (c : Core) (rd : BitVec 4) (imm : Word) :
    (s.opMovw c rd imm).fused = s.fused := by simp [State.opMovw]

@[simp] theorem opMov_fused (s : State) (c : Core) (rd ra : BitVec 4) : (s.opMov c rd ra).fused = s.fused := by
  simp [State.opMov]

@[simp] theorem opNot_fused (s : State) (c : Core) (rd ra : BitVec 4) : (s.opNot c rd ra).fused = s.fused := by
  simp [State.opNot]

@[simp] theorem opNeg_fused (s : State) (c : Core) (rd ra : BitVec 4) : (s.opNeg c rd ra).fused = s.fused := by
  simp [State.opNeg]

@[simp] theorem opSwn_fused (s : State) (c : Core) (rd ra : BitVec 4) : (s.opSwn c rd ra).fused = s.fused := by
  simp [State.opSwn]

@[simp] theorem opSxn_fused (s : State) (c : Core) (rd ra : BitVec 4) : (s.opSxn c rd ra).fused = s.fused := by
  simp [State.opSxn]

@[simp] theorem opZxn_fused (s : State) (c : Core) (rd ra : BitVec 4) : (s.opZxn c rd ra).fused = s.fused := by
  simp [State.opZxn]

@[simp] theorem opClz_fused (s : State) (c : Core) (rd ra : BitVec 4) : (s.opClz c rd ra).fused = s.fused := by
  simp [State.opClz]

@[simp] theorem opTnz_fused (s : State) (c : Core) (ra : BitVec 4) : (s.opTnz c ra).fused = s.fused := by
  simp [State.opTnz]

@[simp] theorem opSetT_fused (s : State) (c : Core) (v : Bool) : (s.opSetT c v).fused = s.fused := by
  simp [State.opSetT]

@[simp] theorem opLd_fused (s : State) (c : Core) (rd ra n : BitVec 4) : (s.opLd c rd ra n).fused = s.fused := by
  simp [State.opLd]

@[simp] theorem opSt_fused (s : State) (c : Core) (rs ra n : BitVec 4) : (s.opSt c rs ra n).fused = s.fused := by
  simp [State.opSt]

@[simp] theorem opLda_fused (s : State) (c : Core) (r ra : BitVec 4) (abs : Bool) (off : Word) :
    (s.opLda c r ra abs off).fused = s.fused := by simp [State.opLda]

@[simp] theorem opSta_fused (s : State) (c : Core) (r ra : BitVec 4) (abs : Bool) (off : Word) :
    (s.opSta c r ra abs off).fused = s.fused := by simp [State.opSta]

@[simp] theorem opLdc_fused (s : State) (c : Core) (rd ra n : BitVec 4) : (s.opLdc c rd ra n).fused = s.fused := by
  refine coreRun_fused s c 1 _ fun t u h => ?_
  generalize memAddr (s.core c) ra n = a at h
  generalize read : t.codeReach c a = x at h
  obtain ⟨r, w⟩ := x
  have kept : w.fused = t.fused := by simp [fused_of_eq read]
  cases r <;> simp_all <;> subst h <;> simp [kept]

@[simp] theorem jump_fused (s : State) (c : Core) (a : Word) : (s.jump c a).fused = s.fused := by simp [State.jump]

@[simp] theorem opB_fused (s : State) (c : Core) (cond : BitVec 4) (off : BitVec 8) :
    (s.opB c cond off).fused = s.fused := by simp [State.opB]

@[simp] theorem opDbnz_fused (s : State) (c : Core) (rd : BitVec 4) (off : BitVec 8) :
    (s.opDbnz c rd off).fused = s.fused := by simp [State.opDbnz]

@[simp] theorem opJmp_fused (s : State) (c : Core) (ra : BitVec 4) : (s.opJmp c ra).fused = s.fused := by
  simp [State.opJmp]

@[simp] theorem opJmpl_fused (s : State) (c : Core) (a : Word) : (s.opJmpl c a).fused = s.fused := by
  simp [State.opJmpl]

@[simp] theorem callTo_fused (s : State) (c : Core) (words : Nat) (target : Word) :
    (s.callTo c words target).fused = s.fused := by simp [State.callTo]

@[simp] theorem opCall_fused (s : State) (c : Core) (ra : BitVec 4) : (s.opCall c ra).fused = s.fused := by
  simp [State.opCall]

@[simp] theorem opCalll_fused (s : State) (c : Core) (a : Word) : (s.opCalll c a).fused = s.fused := by
  simp [State.opCalll]

@[simp] theorem winUnf_fused (s : State) (c : Core) : (s.winUnf c).fused = s.fused := by simp [State.winUnf]

@[simp] theorem opRet_fused (s : State) (c : Core) : (s.opRet c).fused = s.fused := by simp [State.opRet]

@[simp] theorem opReti_fused (s : State) (c : Core) : (s.opReti c).fused = s.fused := by simp [State.opReti]

@[simp] theorem opNop_fused (s : State) (c : Core) : (s.opNop c).fused = s.fused := by simp [State.opNop]

@[simp] theorem opWait_fused (s : State) (c : Core) : (s.opWait c).fused = s.fused := by simp [State.opWait]

@[simp] theorem wakeWait_fused (s : State) (c : Core) : (s.wakeWait c).fused = s.fused := by simp [State.wakeWait]

@[simp] theorem opTrap_fused (s : State) (c : Core) (n : BitVec 8) : (s.opTrap c n).fused = s.fused := by
  simp [State.opTrap]

@[simp] theorem opBrk_fused (s : State) (c : Core) : (s.opBrk c).fused = s.fused := by simp [State.opBrk]

@[simp] theorem opFence_fused (s : State) (c : Core) : (s.opFence c).fused = s.fused := by simp [State.opFence]

@[simp] theorem opEi_fused (s : State) (c : Core) : (s.opEi c).fused = s.fused := by simp [State.opEi]

@[simp] theorem opDi_fused (s : State) (c : Core) : (s.opDi c).fused = s.fused := by simp [State.opDi]

@[simp] theorem reservedOp_fused (s : State) (c : Core) (w0 w1 : Word) : (s.reservedOp c w0 w1).fused = s.fused := by
  simp [State.reservedOp]

@[simp] theorem nextWord_fused (s : State) (c : Core) : (s.nextWord c).2.fused = s.fused := by
  unfold State.nextWord
  generalize read : s.codeReach c _ = x
  obtain ⟨r, u⟩ := x
  have kept : u.fused = s.fused := by simp [fused_of_eq read]
  cases r <;> simp [kept]

@[simp] theorem crLatch_fused (s : State) (m : Master) (c : Core) (n : Nat) : (s.crLatch m c n).fused = s.fused := by
  simp [State.crLatch]

@[simp] theorem crSet_fused (s : State) (c : Core) (n : Nat) (v : Word) : (s.crSet c n v).fused = s.fused := by
  simp [State.crSet]

theorem crReserved_fused {s t : State} {c : Core} {w : Word} (h : s.crReserved c w = some t) : t.fused = s.fused := by
  unfold State.crReserved at h
  split at h
  · rename_i read
    rw [← Option.some.inj h]
    simp [fused_of_eq read]
  · contradiction

@[simp] theorem opCrd_fused (s : State) (c : Core) (r : BitVec 4) (cr : BitVec 6) :
    (s.opCrd c r cr).fused = s.fused := by
  refine coreRun_fused s c 1 _ fun t u h => ?_
  split at h
  · rw [← Option.some.inj h]; simp
  · exact crReserved_fused h

@[simp] theorem opCwr_fused (s : State) (c : Core) (r : BitVec 4) (cr : BitVec 6) :
    (s.opCwr c r cr).fused = s.fused := by
  refine coreRun_fused s c 1 _ fun t u h => ?_
  split at h
  · rw [← Option.some.inj h]; simp
  · exact crReserved_fused h

@[simp] theorem opReserved_fused (s : State) (c : Core) (w0 w1 : Word) : (s.opReserved c w0 w1).fused = s.fused := by
  unfold State.opReserved
  split
  · refine coreRun_fused s c 1 _ fun t u h => ?_
    generalize read : t.codeReach c _ = x at h
    obtain ⟨r, v⟩ := x
    have kept : v.fused = t.fused := by simp [fused_of_eq read]
    cases r <;> simp_all <;> subst h <;> simp [kept]
  · split
    · simp
    · rfl

/-! ### Machine/Access -/

@[simp] theorem unanswered_fused (s : State) (m : Master) (p : Nat) (w : Option Word) :
    (s.unanswered m p w).fused = s.fused := by
  unfold State.unanswered
  dsimp only
  repeat' split
  all_goals simp

@[simp] theorem dbgCmd_fused (s : State) (c : Core) (v : Word) : (s.dbgCmd c v).fused = s.fused := by
  simp [State.dbgCmd]

@[simp] theorem dbgStore_fused (s : State) (c : Core) (v : Word) : (s.dbgStore c v).fused = s.fused := by
  simp [State.dbgStore]

@[simp] theorem readEffect_fused (s : State) (m : Master) (p : Nat) : (s.readEffect m p).fused = s.fused := by
  unfold State.readEffect
  dsimp only
  repeat' split
  all_goals simp

@[simp] theorem ioRead_fused (s : State) (m : Master) (p : Nat) : (s.ioRead m p).2.2.fused = s.fused := by
  unfold State.ioRead
  split
  · split <;> simp
  · rfl

@[simp] theorem plainWrite_fused (s : State) (m : Master) (p : Nat) (v : Word) :
    (s.plainWrite m p v).fused = s.fused := by
  unfold State.plainWrite
  split <;> simp

@[simp] theorem timWriteAt_fused (s : State) (m : Master) (p : Nat) (v : Word) :
    (s.timWriteAt m p v).fused = s.fused := by simp [State.timWriteAt]

@[simp] theorem psmWriteAt_fused (s : State) (m : Master) (p : Nat) (v : Word) :
    (s.psmWriteAt m p v).fused = s.fused := by simp [State.psmWriteAt]

@[simp] theorem apertureWrite_fused (s : State) (m : Master) (p : Nat) (v : Word) :
    (s.apertureWrite m p v).fused = s.fused := by simp [State.apertureWrite]

@[simp] theorem write12_fused (s : State) (m : Master) (p : Nat) (v : Word) : (s.write12 m p v).fused = s.fused := by
  simp [State.write12]

@[simp] theorem write34_fused (s : State) (m : Master) (p : Nat) (v : Word) : (s.write34 m p v).fused = s.fused := by
  simp [State.write34]

@[simp] theorem write5_fused (s : State) (m : Master) (p : Nat) (v : Word) : (s.write5 m p v).fused = s.fused := by
  simp [State.write5]

@[simp] theorem setData_fused (s : State) (m : Master) (v : Word) : (s.setData m v).fused = s.fused := by rfl

@[simp] theorem masterRead_fused (s : State) (m : Master) (p : Nat) : (s.masterRead m p).fused = s.fused := by
  simp [State.masterRead]

@[simp] theorem portCmd_fused (s : State) (m : Master) (p : Nat) (v : Word) (act : State → State)
    (h : (act s).fused = s.fused) : (s.portCmd m p v act).fused = s.fused := by
  simp [State.portCmd, h]

/-! ### Machine/DramCmds -/

@[simp] theorem dramPllLost_fused (s : State) : s.dramPllLost.fused = s.fused := by simp [State.dramPllLost]

/-! ### Machine/FlashCmds -/

@[simp] theorem flashWrite_fused (s : State) (c : Core) (win : Fin 4) (off : BitVec 13) (v : Word) :
    (s.flashWrite c win off v).fused = s.fused := by
  unfold State.flashWrite
  dsimp only
  split
  · rename_i written; simp [fused_of_eq written]
  · rename_i written; simp [fused_of_eq written]
  · rfl

@[simp] theorem flashCycles_fused (s : State) (c : Core) (win : Fin 4) (l : List (BitVec 13 × Word)) :
    (s.flashCycles c win l).fused = s.fused := by
  induction l generalizing s with
  | nil => rfl
  | cons x r ih => simp [State.flashCycles, ih]

/-! ### Machine/Host -/

@[simp] theorem updHost_fused (s : State) (f : HostPort → HostPort) : (s.updHost f).fused = s.fused := by rfl

@[simp] theorem hostRefuse_fused (s : State) (fresh : Bool) (code : Nat) :
    (s.hostRefuse fresh code).fused = s.fused := by simp [State.hostRefuse]

@[simp] theorem hostCount_fused (s : State) (n : Nat) : (s.hostCount n).fused = s.fused := by rfl

@[simp] theorem hostQres_fused (s : State) (fresh : Bool) (op r : Nat) : (s.hostQres fresh op r).fused = s.fused := by
  simp [State.hostQres]

@[simp] theorem putPay_fused (s : State) (p : Pkt) (i : Nat) (l : List Word) : (s.putPay p i l).fused = s.fused := by
  induction l generalizing s i with
  | nil => rfl
  | cons v vs ih =>
    unfold State.putPay
    rw [ih]
    split <;> simp

@[simp] theorem pushRun_fused (s : State) (q : Nat) (data : List Word) (fresh : Bool) :
    (s.pushRun q data fresh).fused = s.fused := by simp [State.pushRun]

@[simp] theorem pullReply_fused (s : State) (q wc : Nat) : (s.pullReply q wc).2.fused = s.fused := by
  unfold State.pullReply
  dsimp only
  repeat' split
  all_goals simp

@[simp] theorem hostFlag_fused (s : State) (b : Nat) : (s.hostFlag b).fused = s.fused := by rfl

@[simp] theorem giveReply_fused (s : State) (cmd wc : Nat) : (s.giveReply cmd wc).2.2.fused = s.fused := by
  unfold State.giveReply
  dsimp only
  repeat' split
  all_goals simp

@[simp] theorem hostEnter_fused (s : State) (l : List HostWord) : (s.hostEnter l).fused = s.fused := by rfl

@[simp] theorem hostCommand_fused (s : State) (cmd wc : Nat) (h1 : Word) (data : List Word) (cut : Bool) :
    (s.hostCommand cmd wc h1 data cut).fused = s.fused := by simp [State.hostCommand]

@[simp] theorem setCut_fused (s : State) : s.setCut.fused = s.fused := by rfl

@[simp] theorem hostCut_fused (s : State) : s.hostCut.fused = s.fused := by simp [State.hostCut]

@[simp] theorem comparator_fused (s : State) : s.comparator.fused = s.fused := by simp [State.comparator]

@[simp] theorem hostFrame_fused (s : State) (addr : BitVec 3) (cmd wc : Nat) (h1 : Word) (driven : Bool) (data : List
    Word) (cutNow : Bool) :
    (s.hostFrame addr cmd wc h1 driven data cutNow).fused = s.fused := by simp [State.hostFrame]

@[simp] theorem hostHeaderCut_fused (s : State) (addr : BitVec 3) : (s.hostHeaderCut addr).fused = s.fused := by
  simp [State.hostHeaderCut]

@[simp] theorem hostFrameCut_fused (s : State) (addr : BitVec 3) (cmd wc : Nat) (h1 : Word) (inHeader : Bool) (data :
    List Word) :
    (s.hostFrameCut addr cmd wc h1 inHeader data).fused = s.fused := by simp [State.hostFrameCut]

@[simp] theorem hostSample_fused (s : State) (l : List (BitVec 16)) : (s.hostSample l).2.2.fused = s.fused := by
  induction l generalizing s with
  | nil => rfl
  | cons p ps ih => simp [State.hostSample, ih]

@[simp] theorem hostPost_fused (s : State) : s.hostPost.fused = s.fused := by
  unfold State.hostPost
  dsimp only
  repeat' split
  all_goals simp

/-! ### Machine/FuavoIo -/

@[simp] theorem opIn_fused (s : State) (c : Core) (rd ra : BitVec 4) (idx : Bool) (port : BitVec 16) :
    (s.opIn c rd ra idx port).fused = s.fused := by
  refine coreRun_fused s c 2 _ fun t u h => ?_
  dsimp only at h
  split at h <;> rw [← Option.some.inj h] <;> simp

@[simp] theorem runSys_fused (s : State) (c : Core) (w : Word) : (s.runSys c w).fused = s.fused := by
  simp [State.runSys]

@[simp] theorem runJmp_fused (s : State) (c : Core) (w0 w1 : Word) : (s.runJmp c w0 w1).fused = s.fused := by
  simp [State.runJmp]

@[simp] theorem runUnary_fused (s : State) (c : Core) (w : Word) : (s.runUnary c w).fused = s.fused := by
  simp [State.runUnary]

@[simp] theorem runAlu_fused (s : State) (c : Core) (w : Word) : (s.runAlu c w).fused = s.fused := by
  simp [State.runAlu]

@[simp] theorem takeIrq_fused (s : State) (c : Core) : (s.takeIrq c).fused = s.fused := by simp [State.takeIrq]

@[simp] theorem breakHalt_fused (s : State) (c : Core) : (s.breakHalt c).fused = s.fused := by simp [State.breakHalt]

/-! ### Machine/PowerCmds -/

@[simp] theorem levelCmd_fused (s : State) (m : Master) (v : Word) : (s.levelCmd m v).fused = s.fused := by
  simp [State.levelCmd]

@[simp] theorem wakeBy_fused (s : State) (src : Nat) : (s.wakeBy src).fused = s.fused := by simp [State.wakeBy]

/-! ### Machine/Queues -/

@[simp] theorem fetchOpen_fused (s : State) (m : Master) : (s.fetchOpen m).fused = s.fused := by
  unfold State.fetchOpen
  split <;> simp

@[simp] theorem freezeNow_fused (s : State) (cause port groups block tag : Nat) :
    (s.freezeNow cause port groups block tag).fused = s.fused := by simp [State.freezeNow]

/-! ### Machine/Transmitters -/

@[simp] theorem readFrame_fused (s : State) (e : Event) : (s.readFrame e).fused = s.fused := by
  unfold State.readFrame
  split <;> simp

@[simp] theorem seqAsk_fused (s : State) (q : Nat) (pcode : BitVec 6) (wait : Word) :
    (s.seqAsk q pcode wait).fused = s.fused := by
  unfold State.seqAsk
  dsimp only
  repeat' split
  all_goals simp

@[simp] theorem bitLeaves_fused (s : State) (t : Nat) : (s.bitLeaves t).fused = s.fused := by
  unfold State.bitLeaves
  dsimp only
  split <;> simp

@[simp] theorem lastBit_fused (s : State) (t : Nat) : (s.lastBit t).fused = s.fused := by
  unfold State.lastBit
  dsimp only
  repeat' split
  all_goals simp

@[simp] theorem rampDone_fused (s : State) (t : Nat) : (s.rampDone t).fused = s.fused := by
  unfold State.rampDone
  dsimp only
  repeat' split
  all_goals simp

@[simp] theorem skipNow_fused (s : State) (t : Nat) : (s.skipNow t).fused = s.fused := by
  unfold State.skipNow
  split <;> simp

/-! ### Machine/UtvisCmds -/

@[simp] theorem stackWake_fused (s : State) (p : Nat) : (s.stackWake p).fused = s.fused := by simp [State.stackWake]

/-! ### Machine/Idle -/

@[simp] theorem linkTick_fused (s : State) : s.linkTick.fused = s.fused := by rfl

@[simp] theorem occTick_fused (s : State) (msEnd : Bool) : (s.occTick msEnd).fused = s.fused := by
  simp [State.occTick]

@[simp] theorem cycleTick_fused (s : State) (c : Core) : (s.cycleTick c).fused = s.fused := by simp [State.cycleTick]

@[simp] theorem rtcEdge_fused (s : State) : s.rtcEdge.fused = s.fused := by simp [State.rtcEdge]

theorem rtcAcc_fused (s : State) (n : Nat) :
    ({ s with time := { s.time with rtcAcc := n } } : State).fused = s.fused := rfl

@[simp] theorem rtcTick_fused (s : State) : s.rtcTick.fused = s.fused := by
  unfold State.rtcTick
  split
  · rfl
  · dsimp only
    split
    · rw [rtcEdge_fused, rtcAcc_fused]
    · exact rtcAcc_fused s _

@[simp] theorem wallMs_fused (s : State) : s.wallMs.fused = s.fused := by simp [State.wallMs]

@[simp] theorem cyclesTick_fused (s : State) : s.cyclesTick.fused = s.fused := by simp [State.cyclesTick]

@[simp] theorem msTick_fused (s : State) (ms : Bool) : (s.msTick ms).fused = s.fused := by simp [State.msTick]

@[simp] theorem timersTick_fused (s : State) : s.timersTick.fused = s.fused := by simp [State.timersTick]

@[simp] theorem refTick_fused (s : State) : s.refTick.fused = s.fused := by simp [State.refTick]

@[simp] theorem idleTick_fused (s : State) : (idleTick s).fused = s.fused := by
  unfold idleTick
  extract_lets clock t u
  have rtc : t.fused = s.fused := (rtcTick_fused _).trans rfl
  refine (refTick_fused u).trans ((fused_ite _ _ _).trans ?_)
  split
  · exact (wallMs_fused t).trans rtc
  · exact rtc

/-! ## The order of the fuses across an operation (R351, R352, R356) -/

theorem Fuses.keeps_refl (f : Fuses) : f.keeps f :=
  ⟨fun _ h => h, fun _ h => h, fun _ h => h, fun _ h => h, rfl, rfl, rfl, rfl, rfl, rfl⟩

theorem Fuses.keeps_trans {f g h : Fuses} (a : f.keeps g) (b : g.keeps h) : f.keeps h := by
  obtain ⟨intent, anchored, done, okh, lot0, lot1, wafer, die, part, duk⟩ := a
  obtain ⟨intent', anchored', done', okh', lot0', lot1', wafer', die', part', duk'⟩ := b
  exact ⟨fun t p => intent' t (intent t p), fun t p => anchored' t (anchored t p), fun t p => done' t (done t p),
    fun x p => okh' x (okh x p), lot0'.trans lot0, lot1'.trans lot1, wafer'.trans wafer, die'.trans die,
    part'.trans part, duk'.trans duk⟩

/-- What a step owes the fuses: their order is kept and none is undone. -/
def State.Guards (s t : State) : Prop := s.fuseOrder → t.fuseOrder ∧ s.fuses.keeps t.fuses

theorem State.Guards.trans {s t u : State} (h : s.Guards t) (k : t.Guards u) : s.Guards u := fun order => by
  obtain ⟨order', kept⟩ := h order
  obtain ⟨order'', kept'⟩ := k order'
  exact ⟨order'', Fuses.keeps_trans kept kept'⟩

/-- What keeps the fuses and ends at most the transition under way guards the fuses. -/
theorem guards_of_fuses {s t : State} (fuses : t.fuses = s.fuses)
    (trans : t.sec.trans = s.sec.trans ∨ t.sec.trans = 0) : s.Guards t := fun ⟨done, anchored, under⟩ => by
  refine ⟨⟨fuses ▸ done, fuses ▸ anchored, fun some => ?_⟩, fuses ▸ Fuses.keeps_refl _⟩
  obtain same | none := trans
  · rw [fuses, same]; exact under (same ▸ some)
  · exact absurd none some

theorem guards_of_fused {s t : State} (h : t.fused = s.fused) : s.Guards t := by
  simp only [State.fused, Prod.mk.injEq] at h
  exact guards_of_fuses h.1 (.inl h.2)

theorem State.Guards.ite {s t u : State} {p : Prop} [Decidable p] (h : s.Guards t) (k : s.Guards u) :
    s.Guards (if p then t else u) := by
  split
  · exact h
  · exact k

theorem State.Guards.refl (s : State) : s.Guards s := guards_of_fused rfl

/-- An operation that keeps the fuses after one that guards them. -/
theorem State.Guards.then {s t u : State} (h : s.Guards t) (k : u.fused = t.fused) : s.Guards u :=
  h.trans (guards_of_fused k)

theorem portCmd_guards {s : State} {m : Master} {p : Nat} {v : Word} {act : State → State} (h : s.Guards (act s)) :
    s.Guards (s.portCmd m p v act) := by
  rw [portCmd_cases]
  exact .ite h (guards_of_fused (by simp))

/-! ## Fusing the owner's key hash, and transitions (R351, R356) -/

theorem fuseOkh_guards (s : State) : s.Guards s.fuseOkh := by
  unfold State.fuseOkh
  dsimp only
  split
  · exact guards_of_fused (by simp)
  · split
    · exact guards_of_fused (by simp)
    · rename_i none
      split
      · exact guards_of_fused (by simp)
      · split
        · exact guards_of_fused (by simp)
        · rintro ⟨done, anchored, under⟩
          refine ⟨⟨done, anchored, under⟩, fun _ h => h, fun _ h => h, fun _ h => h, fun h some => ?_,
            rfl, rfl, rfl, rfl, rfl, rfl⟩
          exact absurd (Option.isSome_iff_exists.mpr ⟨h, some⟩) none

theorem getLsbD_burnt (x : BitVec 4) (t k : Nat) :
    (x ||| BitVec.twoPow 4 t).getLsbD k = (x.getLsbD k || (decide (k < 4) && decide (t = k))) := by
  rw [BitVec.getLsbD_or, BitVec.getLsbD_twoPow]
  by_cases e : t = k
  · subst e; simp
  · simp [e]

theorem burnIntent_keeps (f : Fuses) (t : Nat) : f.keeps (f.burnIntent t) :=
  ⟨fun k h => by rw [Fuses.burnIntent, getLsbD_burnt, h, Bool.true_or], fun _ h => h, fun _ h => h, fun _ h => h,
    rfl, rfl, rfl, rfl, rfl, rfl⟩

theorem burnAnchored_keeps (f : Fuses) (t : Nat) : f.keeps (f.burnAnchored t) :=
  ⟨fun _ h => h, fun k h => by rw [Fuses.burnAnchored, getLsbD_burnt, h, Bool.true_or], fun _ h => h, fun _ h => h,
    rfl, rfl, rfl, rfl, rfl, rfl⟩

theorem burnDone_keeps (f : Fuses) (t : Nat) : f.keeps (f.burnDone t) :=
  ⟨fun _ h => h, fun _ h => h, fun k h => by rw [Fuses.burnDone, getLsbD_burnt, h, Bool.true_or], fun _ h => h,
    rfl, rfl, rfl, rfl, rfl, rfl⟩

/-- A transition that burns the INTENT of its target is under way in order (R356). -/
theorem guards_burnIntent {s t : State} {d : Nat} (known : d < 4)
    (begun : t.fused = (s.fuses.burnIntent d, d)) : s.Guards t := fun ⟨done, anchored, _⟩ => by
  simp only [State.fused, Prod.mk.injEq] at begun
  obtain ⟨fuses, trans⟩ := begun
  have burnt : s.fuses.keeps t.fuses := fuses ▸ burnIntent_keeps s.fuses d
  refine ⟨⟨fun k low h => burnt.1 k (done k low ?_), fun k low h => burnt.1 k (anchored k low ?_), fun _ => ?_⟩, burnt⟩
  · rw [fuses] at h; exact h
  · rw [fuses] at h; exact h
  · rw [fuses, trans, Fuses.burnIntent, getLsbD_burnt]
    simp [known]

/-- ANCHORED of the transition under way stands behind its INTENT (R356). -/
theorem guards_burnAnchored {s t : State} (under : s.sec.trans ≠ 0)
    (anchored : t.fused = (s.fuses.burnAnchored s.sec.trans, s.sec.trans)) : s.Guards t :=
    fun ⟨done, before, behind⟩ => by
  simp only [State.fused, Prod.mk.injEq] at anchored
  obtain ⟨fuses, trans⟩ := anchored
  rw [State.fuseOrder, fuses, trans]
  refine ⟨⟨done, fun k low h => ?_, behind⟩, burnAnchored_keeps _ _⟩
  rw [Fuses.burnAnchored, getLsbD_burnt, Bool.or_eq_true] at h
  obtain old | new := h
  · exact before k low old
  · have same : s.sec.trans = k := by simpa [low] using new
    exact same ▸ behind under

/-- So does its DONE. -/
theorem guards_burnDone {s t : State} (under : s.sec.trans ≠ 0)
    (ended : t.fused = (s.fuses.burnDone s.sec.trans, s.sec.trans)) : s.Guards t := fun ⟨before, anchored, behind⟩ => by
  simp only [State.fused, Prod.mk.injEq] at ended
  obtain ⟨fuses, trans⟩ := ended
  rw [State.fuseOrder, fuses, trans]
  refine ⟨⟨fun k low h => ?_, anchored, behind⟩, burnDone_keeps _ _⟩
  rw [Fuses.burnDone, getLsbD_burnt, Bool.or_eq_true] at h
  obtain old | new := h
  · exact before k low old
  · have same : s.sec.trans = k := by simpa [low] using new
    exact same ▸ behind under

/-- A transition that its checks accept has one of the three targets (R354). -/
theorem transCheck_target {s : State} {d o : Nat} {pkg : Bool} (accepted : s.transCheck d o pkg = 0) : d < 4 := by
  unfold State.transCheck at accepted
  dsimp only at accepted
  split at accepted
  · omega
  · split at accepted
    · omega
    · rename_i known
      simp only [not_not] at known
      omega

theorem lcCmd_guards (s : State) (v : Word) : s.Guards (s.lcCmd v) := by
  unfold State.lcCmd
  dsimp only
  split
  · exact fuseOkh_guards s
  · split
    · exact .refl s
    · split
      · exact guards_of_fused (by simp)
      · rename_i accepted
        exact guards_burnIntent (transCheck_target (not_not.mp accepted)) (by simp [State.updSec])

theorem transAnchor_guards {s : State} (under : s.sec.trans ≠ 0) :
    s.Guards (s.transAnchor s.sec.trans) ∧ (s.transAnchor s.sec.trans).sec.trans = s.sec.trans := by
  have anchored : ∀ u : State, u.fused = s.fused →
      s.Guards { u with fuses := u.fuses.burnAnchored s.sec.trans } ∧ u.sec.trans = s.sec.trans := fun u same => by
    simp only [State.fused, Prod.mk.injEq] at same
    refine ⟨guards_burnAnchored under ?_, same.2⟩
    rw [fused_mk, same.1, same.2]
  unfold State.transAnchor
  split
  · exact ⟨.refl s, rfl⟩
  · refine anchored _ ?_
    dsimp only
    split
    · simp
    · split <;> simp

@[simp] theorem restart_fused (s : State) (keep : Nat → Bool) : (s.restart keep).fused = (s.fused.1, 0) := by
  refine (senseFuses_fused _).trans ((set_fused _ _ _).trans rfl)

@[simp] theorem coldResetNow_fused (s : State) (cause : ColdCause) (b : BitVec 2) (i : BitVec 3) :
    (s.coldResetNow cause b i).fused = (s.fused.1, 0) := by
  simp [State.coldResetNow]

@[simp] theorem sysResetNow_fused (s : State) (cause : SysCause) (b : BitVec 2) (i : BitVec 3) :
    (s.sysResetNow cause b i).fused = (s.fused.1, 0) := by
  cases cause <;> simp [State.sysResetNow]

/-! ## Resets and the boot ROM (R42, R356, R399-R402) -/

/-- A reset of everything ends the transition under way and keeps the fuses. -/
theorem guards_of_reset {s t : State} (h : t.fused = (s.fused.1, 0)) : s.Guards t := by
  simp only [State.fused, Prod.mk.injEq] at h
  exact guards_of_fuses h.1 (.inr h.2)

theorem coldResetNow_guards (s : State) (cause : ColdCause) (b : BitVec 2) (i : BitVec 3) :
    s.Guards (s.coldResetNow cause b i) := guards_of_reset (coldResetNow_fused s cause b i)

theorem sysResetNow_guards (s : State) (cause : SysCause) (b : BitVec 2) (i : BitVec 3) :
    s.Guards (s.sysResetNow cause b i) := guards_of_reset (sysResetNow_fused s cause b i)

theorem transDone_guards (s : State) : s.Guards s.transDone := by
  unfold State.transDone
  dsimp only
  split
  · exact .refl s
  · rename_i under
    obtain ⟨taken, same⟩ := transAnchor_guards under
    have wiped := transWipe_fused (s.transAnchor s.sec.trans)
    generalize (s.transAnchor s.sec.trans).transWipe = t at wiped
    have kept : t.sec.trans = s.sec.trans := (congrArg Prod.snd wiped).trans same
    refine (taken.then wiped).trans (.trans (guards_burnDone (kept ▸ under) ?_) (coldResetNow_guards _ _ _ _))
    rw [fused_mk, kept]

theorem openIntents_open {f : Fuses} {d : Nat} {r : List Nat} (h : f.openIntents = d :: r) :
    f.intent.getLsbD d = true := by
  have first : d ∈ f.openIntents := h ▸ List.mem_cons_self
  rw [Fuses.openIntents, List.mem_filter, Bool.and_eq_true] at first
  exact first.2.1

/-- A boot that finds an open INTENT takes its transition up again (R356). -/
theorem bootRom_guards (s : State) (nor0 nor1 : List Octet) : s.Guards (s.bootRom nor0 nor1) := by
  unfold State.bootRom
  dsimp only
  split
  · exact .refl s
  · split
    · exact guards_of_fused (by simp)
    · split
      · rename_i d r interrupted
        exact fun ⟨done, anchored, _⟩ =>
          ⟨⟨done, anchored, fun _ => openIntents_open interrupted⟩, Fuses.keeps_refl _⟩
      · split <;> exact guards_of_fused (by simp)

theorem refLost_guards (s : State) : s.Guards s.refLost := .ite (.refl s) (sysResetNow_guards s _ _ _)

theorem rstCmd_guards (s : State) (v : Word) : s.Guards (s.rstCmd v) :=
  .ite (.refl s) (.ite (coldResetNow_guards s _ _ _) (.ite (sysResetNow_guards s _ _ _)
    (guards_of_fused (by simp))))

theorem wdgExpire_guards (s : State) (c : Core) : s.Guards (s.wdgExpire c) :=
  (guards_of_fused (count_fused s _)).trans (.ite (guards_of_fused (by simp))
    (.ite (sysResetNow_guards _ _ _ _) (coldResetNow_guards _ _ _ _)))

theorem wdgKickBy_guards (s : State) (m : Master) (c : Core) (v : Word) : s.Guards (s.wdgKickBy m c v) :=
  .ite (.refl s) (.ite (.ite (guards_of_fused (by simp)) (wdgExpire_guards s c))
    (.ite (guards_of_fused (by simp)) (wdgExpire_guards s c)))

theorem wdgEnd_guards (s : State) (c : Core) : s.Guards (s.wdgEnd c) :=
  .ite (.ite (wdgExpire_guards s c) ((wdgExpire_guards s c).then (by simp))) (.refl s)

/-! ## Register writes (R5) -/

/-- Of the writes below 0x1000 RST_CMD and the watchdogs' kicks alone can reset everything. -/
theorem write0_fused {s : State} {m : Master} {p : Nat} {v : Word} (rst : p ≠ Port.RST_CMD) (apc : p ≠ 0x0B02)
    (lkc : p ≠ 0x0B12) : (s.write0 m p v).fused = s.fused := by
  simp [State.write0, rst, apc, lkc]

theorem write0_guards (s : State) (m : Master) (p : Nat) (v : Word) : s.Guards (s.write0 m p v) := by
  by_cases rst : p = Port.RST_CMD
  · subst rst; exact rstCmd_guards s v
  · by_cases apc : p = 0x0B02
    · subst apc; exact wdgKickBy_guards s m .apc v
    · by_cases lkc : p = 0x0B12
      · subst lkc; exact wdgKickBy_guards s m .lkc v
      · exact guards_of_fused (write0_fused rst apc lkc)

/-- Of the writes from 0x6000 on LCF_LC_CMD alone reaches the life cycle. -/
theorem write67_fused {s : State} {m : Master} {p : Nat} {v : Word} (lc : p ≠ Port.LCF_LC_CMD) :
    (s.write67 m p v).fused = s.fused := by
  simp [State.write67, lc]

theorem write67_guards (s : State) (m : Master) (p : Nat) (v : Word) : s.Guards (s.write67 m p v) := by
  by_cases lc : p = Port.LCF_LC_CMD
  · subst lc; exact lcCmd_guards s v
  · exact guards_of_fused (write67_fused lc)

theorem writeEffect_guards (s : State) (m : Master) (p : Nat) (v : Word) : s.Guards (s.writeEffect m p v) := by
  unfold State.writeEffect
  exact .ite (write0_guards s m p v) (.ite (guards_of_fused (by simp)) (.ite (guards_of_fused (by simp))
    (.ite (guards_of_fused (by simp)) (write67_guards s m p v))))

theorem masterWrite_guards (s : State) (m : Master) (p : Nat) (v : Word) : s.Guards (s.masterWrite m p v) := by
  unfold State.masterWrite
  exact .ite (writeEffect_guards s m p v) (guards_of_fused (by simp))

theorem ioWrite_guards (s : State) (m : Master) (p : Nat) (v : Word) : s.Guards (s.ioWrite m p v).2 := by
  unfold State.ioWrite
  split
  · split
    · exact .refl s
    · exact writeEffect_guards s m p v
  · exact .refl s

theorem tapDebug_guards (s : State) (writing : Bool) (p : Nat) (v : Word) : s.Guards (s.tapDebug writing p v) := by
  unfold State.tapDebug
  dsimp only
  exact .trans (guards_of_fused (by simp)) (State.Guards.ite (masterWrite_guards _ .dbg p v)
    (guards_of_fused (by simp)))

theorem stallEnd_guards (s : State) : s.Guards s.stallEnd := by
  unfold State.stallEnd
  split
  · exact .refl s
  · split
    · exact .refl s
    · split
      · exact .trans (guards_of_fused (by simp)) (masterWrite_guards _ .dbg _ _)
      · exact guards_of_fused (by simp)

theorem hostDrain_guards (s : State) : s.Guards s.hostDrain := by
  unfold State.hostDrain
  split
  · exact .refl s
  · dsimp only
    split
    · rename_i x rest _ _
      have written := ioWrite_guards (s.updHost fun h => { h with buf := rest }) .host x.port.toNat x.v
      refine .trans (guards_of_fused (updHost_fused s _)) (.ite written (written.then ?_))
      simp
    · refine guards_of_fused ?_
      split
      · simp
      · split <;> simp

/-! ## An instruction that writes a port (R284) -/

/-- A core that runs a word guards the fuses when the word's own effect does (R287, R310). -/
theorem coreRun_guards (s : State) (c : Core) (words : Nat) (f : State → Option State)
    (h : ∀ t u, f t = some u → t.Guards u) : s.Guards (s.coreRun c words f) := by
  have ran : ∀ {t u : State}, t.fused = s.fused →
      f (t.updCore c fun x => { x with eiShadow := false, resumed := false }) = some u → s.Guards (u.retire c) :=
    fun {t u} kept run => ((guards_of_fused (by simp [kept])).trans (h _ u run)).then (retire_fused u c)
  unfold State.coreRun
  dsimp only
  split
  · exact .refl s
  · split <;> rename_i first
    · exact .refl s
    · exact guards_of_fused (by simp [fused_of_eq first])
    · exact guards_of_fused (by simp [fused_of_eq first])
    · split
      · split
        · rename_i run
          exact ran (by simp [fused_of_eq first]) run
        · exact .refl s
      · split <;> rename_i second
        · exact .refl s
        · exact guards_of_fused (by simp [fused_of_eq first, fused_of_eq second])
        · exact guards_of_fused (by simp [fused_of_eq first, fused_of_eq second])
        · split
          · rename_i run
            exact ran (by simp [fused_of_eq first, fused_of_eq second]) run
          · exact .refl s

theorem opOut_guards (s : State) (c : Core) (rs ra : BitVec 4) (idx : Bool) (port : BitVec 16) :
    s.Guards (s.opOut c rs ra idx port) := by
  refine coreRun_guards s c 2 _ fun t u h => ?_
  dsimp only at h
  split at h <;> rw [← Option.some.inj h]
  · exact guards_of_fused (by simp)
  · exact .trans (guards_of_fused (updCore_fused t c _)) (ioWrite_guards _ _ _ _)

/-- Of the words a core runs OUT alone writes a port. -/
theorem runWord_guards (s : State) (c : Core) (w0 w1 : Word) : s.Guards (s.runWord c w0 w1) := by
  by_cases out : fld w0 16 12 = 21
  · unfold State.runWord
    dsimp only
    rw [out]
    exact .ite (guards_of_fused (by simp)) (.ite (guards_of_fused (by simp)) (opOut_guards s c _ _ _ _))
  · exact guards_of_fused (by simp [State.runWord, out])

theorem stepCore_guards (s : State) (m : Master) (c : Core) (mask : Bool) (w0 w1 : Word) :
    s.Guards (s.stepCore m c mask w0 w1) := by
  have asked := masterWrite_guards s m (Port.DBG_CTL c.num) (if mask then 4 else 3)
  unfold State.stepCore
  dsimp only
  exact .ite asked (.ite (asked.then (by simp)) (asked.trans (runWord_guards _ c w0 w1)))

/-! ## Every step (R351, R352, R356) -/

/-- Every command answers a next state and guards the fuses on the way. -/
theorem exec_guards (i : Instr) (s : State) : ∃ t, exec i s = .next t ∧ s.Guards t := by
  cases i
  case registerWrite m p v => exact ⟨_, rfl, masterWrite_guards s m _ v⟩
  case coldReset cause b k => exact ⟨_, rfl, coldResetNow_guards s cause b k⟩
  case systemReset cause b k => exact ⟨_, rfl, sysResetNow_guards s cause b k⟩
  case bootRomRun nor0 nor1 => exact ⟨_, rfl, bootRom_guards s nor0 nor1⟩
  case rigReady => exact ⟨_, rfl, .trans (guards_of_fused (rigReadyNow_fused s)) (stallEnd_guards _)⟩
  case systemPllUnlock => exact ⟨_, rfl, sysResetNow_guards s _ _ _⟩
  case refclkLoss => exact ⟨_, rfl, refLost_guards s⟩
  case wdgKick m c v => exact ⟨_, rfl, portCmd_guards (wdgKickBy_guards s m c v)⟩
  case wdgExpiry c => exact ⟨_, rfl, wdgEnd_guards s c⟩
  case transition m => exact ⟨_, rfl, portCmd_guards (lcCmd_guards s 1)⟩
  case transitionComplete => exact ⟨_, rfl, transDone_guards s⟩
  case fuseOkh m => exact ⟨_, rfl, portCmd_guards (lcCmd_guards s 2)⟩
  case writeBufferDrain => exact ⟨_, rfl, hostDrain_guards s⟩
  case debug writing p v => exact ⟨_, rfl, tapDebug_guards s writing _ v⟩
  case out c rs ra idx port => exact ⟨_, rfl, opOut_guards s c rs ra idx port⟩
  case step m c w0 w1 => exact ⟨_, rfl, stepCore_guards s m c false w0 w1⟩
  case stepMask m c w0 w1 => exact ⟨_, rfl, stepCore_guards s m c true w0 w1⟩
  all_goals exact ⟨_, rfl, guards_of_fused (by simp)⟩

/-- Settles O59: a tick keeps the fuses, and every command guards them. -/
theorem noStepUndoesAFuse : Obligations.NoStepUndoesAFuse := by
  intro s t order stepped
  obtain ⟨-, ticked⟩ | ⟨c, r, -, ran⟩ := step_cases s
  · rw [ticked] at stepped
    rw [← Host.Outcome.next.inj stepped]
    exact guards_of_fused (idleTick_fused s) order
  · obtain ⟨u, ends, guards⟩ := exec_guards c { s with pending := r }
    rw [ran, ends] at stepped
    rw [← Host.Outcome.next.inj stepped]
    exact guards order

/-- Settles O60: the part is blank at reset, and no transition is under way. -/
theorem theFuseOrderHoldsAtReset : Obligations.TheFuseOrderHoldsAtReset := by
  unfold Obligations.TheFuseOrderHoldsAtReset State.fuseOrder
  refine ⟨fun t _ done => ?_, fun t _ anchored => ?_, fun under => absurd rfl under⟩
  · exact absurd done (by simp [State.reset, Fuses.reset])
  · exact absurd anchored (by simp [State.reset, Fuses.reset])

end Sys2Proof.Machine

/-! The statements of 17_power_clocks_resets_maintenance.md on RST_CMD (O55), and of 18_events_timers_rtc.md on the
calendar's stamp and seconds (O58, O48). -/

namespace Sys2Proof.Machine

open Sys2Proof

/-! ## A write to RST_CMD (R400) -/

/-- A master that RST_CMD answers writes it. -/
theorem registerWrite_rstCmd {s : State} {m : Master} (h : s.answers m Port.RST_CMD = true) (v : Word) :
    exec (.registerWrite m (BitVec.ofNat 16 Port.RST_CMD) v) s = .next (s.rstCmd v) := by
  show Host.Outcome.next (s.masterWrite m Port.RST_CMD v) = _
  rw [State.masterWrite, if_pos h]
  rfl

theorem rstCmd_keyless (s : State) {v : Word} (key : fld v 17 9 ≠ 0o551) : s.rstCmd v = s := by
  unfold State.rstCmd
  exact if_pos key

/-- With its key a write acts by its class. -/
theorem rstCmd_keyed (s : State) {v : Word} (key : fld v 17 9 = 0o551) :
    s.rstCmd v =
      if fld v 8 6 = 1 then s.coldResetNow .command s.pins.bootSel s.pins.stackId else
      if fld v 8 6 = 2 then s.sysResetNow .command s.pins.bootSel s.pins.stackId else
      if fld v 8 6 = 3 then s.groupReset .apc .command else
      if fld v 8 6 = 4 then s.groupReset .lkc .command else
      if fld v 8 6 = 5 then s.domReset (fld v 3 0) .command else s := by
  unfold State.rstCmd
  exact if_neg (not_not_intro key)

/-- Settles O55: a keyless write is no command, and a keyed one is the reset of its class. -/
theorem resetCommandsNeedTheirKey : Obligations.ResetCommandsNeedTheirKey := by
  unfold Obligations.ResetCommandsNeedTheirKey
  intro m v s answers
  have written := registerWrite_rstCmd answers v
  refine ⟨fun keyless => ⟨_, written, rstCmd_keyless s keyless⟩, fun keyed => ?_⟩
  rw [written, rstCmd_keyed s keyed]
  refine ⟨fun c => ?_, fun c => ?_, fun c => ?_, fun c => ?_, fun d c n => ?_⟩
  · rw [c]; rfl
  · rw [c]; rfl
  · rw [c]; rfl
  · rw [c]; rfl
  · rw [c, n]; rfl

/-! ## The stamp of a switch to backup (R439) -/

/-- The calendar as words is what its registers hold. -/
theorem calendar_words_getD (s : State) {i : Nat} (h : i < 6) :
    s.calendar.words.getD i 0 = s.get (Port.RTC_SEC + i) := by
  have whole : ∀ w : Word, BitVec.ofNat 18 w.toNat = w := fun w => by simp
  obtain rfl | rfl | rfl | rfl | rfl | rfl : i = 0 ∨ i = 1 ∨ i = 2 ∨ i = 3 ∨ i = 4 ∨ i = 5 := by omega
  all_goals exact whole _

theorem time_touches (s : State) (x : Time) : State.touches [.time] [] s { s with time := x } :=
  ⟨fun part other => by cases part <;> simp_all [Part.same], fun _ _ => rfl⟩

theorem get_setFields (s : State) (p : Nat) (l : List Word) (q : Nat) :
    (s.setFields p l).get q = if p ≤ q ∧ q < p + l.length then l.getD (q - p) (coldOf q) else s.get q :=
  Cells.rd_wrs coldOf l s.regs p q

theorem setFields_touches (s : State) {b : Nat × Nat} {p : Nat} {l : List Word}
    (hp : b.1 ≤ p ∧ p + l.length ≤ b.2 + 1) : State.touches [.regs] [b] s (s.setFields p l) := by
  refine ⟨fun part other => ?parts, fun q outside => ?registers⟩
  case parts => cases part <;> simp_all [Part.same, State.setFields]
  case registers =>
    have out : q < b.1 ∨ b.2 < q := outside b (List.mem_singleton_self b)
    rw [get_setFields, if_neg (by omega)]

/-- What a switch to backup does of the stamp, its time aside. -/
def State.stamped (s : State) : State :=
  if s.getB Port.RTC_STAT 15 then s else (s.setFields Port.RTC_SW_SEC s.calendar.words).setB Port.RTC_STAT 15 true

theorem backup_of_main {s : State} (late : Bool) (main : s.time.onBackup = false) :
    s.backup late =
      if late then ({ s with time := { s.time with onBackup := true } } : State).stamped.setB Port.RTC_STAT 17 true
      else ({ s with time := { s.time with onBackup := true } } : State).stamped := by
  unfold State.backup
  rw [main]
  rfl

theorem calendar_six (s : State) : s.calendar.words.length = 6 := rfl

theorem stamped_touches (s : State) : s.touches [.regs] [Blk.rtc] s.stamped := by
  have copied : s.touches [.regs] [Blk.rtc] (s.setFields Port.RTC_SW_SEC s.calendar.words) :=
    setFields_touches s (by rw [calendar_six]; decide)
  unfold State.stamped
  split
  · exact .refl _ _ _
  · exact copied.trans (set_touches _ _ (by decide))

theorem stamped_swvalid (s : State) : s.stamped.getB Port.RTC_STAT 15 = true := by
  unfold State.stamped
  split
  · assumption
  · exact State.getB_setB_same _ _ _ _ (by decide)

theorem stamped_time (s : State) : s.stamped.time = s.time := by
  unfold State.stamped
  split <;> rfl

/-- Without a stamp the calendar is copied. -/
theorem stamped_copies {s : State} (free : s.getB Port.RTC_STAT 15 = false) {i : Nat} (h : i < 6) :
    s.stamped.get (Port.RTC_SW_SEC + i) = s.get (Port.RTC_SEC + i) := by
  have apart : Port.RTC_STAT ≠ Port.RTC_SW_SEC + i := by unfold Port.RTC_STAT Port.RTC_SW_SEC; omega
  rw [State.stamped, if_neg (by simp [free]), State.get_setB_other _ _ _ apart, get_setFields, calendar_six,
    if_pos (by omega), Nat.add_sub_cancel_left, ← calendar_words_getD s h]
  rw [List.getD_eq_getElem _ _ (by rw [calendar_six]; omega), List.getD_eq_getElem _ _ (by rw [calendar_six]; omega)]

theorem stamped_held {s : State} (held : s.getB Port.RTC_STAT 15 = true) : s.stamped = s := if_pos held

/-- A switch-over, late or not, takes the stamp. -/
theorem backup_spec {s : State} (late : Bool) (main : s.time.onBackup = false) :
    s.touches [.regs, .time] [Blk.rtc] (s.backup late) ∧ (s.backup late).getB Port.RTC_STAT 15 = true ∧
    (s.backup late).time = { s.time with onBackup := true } ∧
    ∀ p, p ≠ Port.RTC_STAT → (s.backup late).get p = s.stamped.get p := by
  let t : State := { s with time := { s.time with onBackup := true } }
  have switched : s.touches [.regs, .time] [Blk.rtc] t.stamped :=
    ((time_touches s t.time).seq (stamped_touches t)).mono (by simp) (by simp)
  have same : ∀ p, t.stamped.get p = s.stamped.get p := by
    intro p
    have onto : t.getB Port.RTC_STAT 15 = s.getB Port.RTC_STAT 15 := rfl
    unfold State.stamped
    rw [onto]
    split <;> rfl
  rw [backup_of_main late main]
  cases late with
  | false =>
    exact ⟨switched, stamped_swvalid t, stamped_time t, fun p _ => same p⟩
  | true =>
    refine ⟨switched.trans ((set_touches (b := Blk.rtc) _ _ (by decide)).mono (by simp) (by simp)), ?_, stamped_time t,
      fun p ne => ?_⟩
    · rw [if_pos rfl, State.getB_setB_other _ _ _ _ _ _ (by decide) (by decide)]; exact stamped_swvalid t
    · exact (State.get_setB_other _ _ _ ne.symm).trans (same p)

/-- Settles O58: a switch-over takes the stamp unless one is held, and CLEAR_STAMP writes one bit of RTC_STAT. -/
theorem theSwitchOverStampIsTakenOnce : Obligations.TheSwitchOverStampIsTakenOnce := by
  unfold Obligations.TheSwitchOverStampIsTakenOnce
  intro s
  have apart : ∀ i, i < 6 → Port.RTC_SW_SEC + i ≠ Port.RTC_STAT := by decide
  refine ⟨fun late main free => ⟨_, rfl, ?_⟩, fun late main held => ⟨_, rfl, ?_⟩,
    fun m answers => ⟨_, rfl, portCmd_acts _ _ _ _ _ answers⟩⟩
  · obtain ⟨frame, valid, time, regs⟩ := backup_spec late main
    exact ⟨frame, fun i h => (regs _ (apart i h)).trans (stamped_copies free h), valid, by rw [time]⟩
  · obtain ⟨frame, valid, time, regs⟩ := backup_spec late main
    exact ⟨frame, fun i h => (regs _ (apart i h)).trans (by rw [stamped_held held]), valid, by rw [time]⟩

/-! ## A second that trips a loop guard (R105, R418) -/

/-- A second is due, and channel 0 of the event fabric names its producer under a guard whose LIMIT is 1; no alarm field
is enabled. -/
def guardedSecond : State :=
  { State.reset with
    regs := [(Port.EVF_GRP, 1), (Port.EVF_CH_SRC 0, BitVec.ofNat 18 Ev.rtcSecond),
             (Port.EVF_CH_GUARD 0, inFld 17 9 1 ||| inFld 8 0 1), (Port.RTC_SUB, 32767)],
    time := { State.reset.time with rtcRunning := true }, apc := { State.reset.apc with inReset := false } }

theorem guardedSecond_pends : guardedSecond.apc.ipend = 0 := rfl

/-- The second's raise makes the window's count LIMIT: LOOP_TRIP is pending (R418). -/
theorem guardedSecond_trips : guardedSecond.rtcWrap.apc.ipend ≠ 0 := by decide +kernel

/-- Refutes O48: clause (1) has a second leave the pending bits of the cores, yet its producer may trip a loop guard, which
raises LOOP_TRIP (R418): the second of `guardedSecond` makes it pending in the APC. -/
theorem not_theCalendarAndItsCommands : ¬ Obligations.TheCalendarAndItsCommands := by
  unfold Obligations.TheCalendarAndItsCommands
  intro h
  obtain ⟨second, -⟩ := h guardedSecond
  obtain ⟨t, ran, frame, -⟩ := second rfl rfl rfl (by decide) (by decide)
  have ended : guardedSecond.rtcWrap = t := Host.Outcome.next.inj ran
  obtain ⟨kept, -⟩ : Part.same guardedSecond t .pends := frame.1 .pends (by decide)
  rw [← ended, guardedSecond_pends] at kept
  exact guardedSecond_trips kept

end Sys2Proof.Machine

/-! The statements of 14_dram_controller.md: the training helpers (O33), the states of the controller (O31), and its
requests and periodic duties (O32). -/

namespace Sys2Proof.Machine

open Sys2Proof

/-! ## Training helpers (R336) -/

/-- A helper of DMC_TRN_CMD may start: none runs, in TRAINING, or for MRR in FROZEN too. -/
def State.helperMay (s : State) (v : Word) : Prop :=
  s.dmc.helper = 0 ∧ (s.dmcState = 2 ∨ (v = 2 ∧ s.dmcState = 6))

theorem trnCmd_starts {s : State} {v : Word} (code : 1 ≤ v.toNat ∧ v.toNat ≤ 8) (may : s.helperMay v) :
    s.touches [.regs, .pends, .dmc, .evf] [Blk.evf, Blk.dmc] (s.trnCmd v) ∧
    (s.trnCmd v).dmc = { s.dmc with helper := v.toNat } ∧ (s.trnCmd v).get Port.DMC_TRN_RES = inFld 17 17 1 := by
  obtain ⟨free, state⟩ := may
  have some : v ≠ 0 := by rintro rfl; exact absurd code.1 (by decide)
  have run : s.trnCmd v =
      ({ s with dmc := { s.dmc with helper := v.toNat } } : State).set Port.DMC_TRN_RES (inFld 17 17 1) := by
    refine if_neg ?_
    rintro (busy | none | beyond | ⟨outside, other⟩)
    · exact busy free
    · exact some none
    · omega
    · exact state.elim outside other
  rw [run]
  exact ⟨((dmc_touches s _).seq (set_touches (b := Blk.dmc) _ _ (by decide))).mono (by decide) (by decide), rfl,
    State.get_set_same _ _ _⟩

theorem trnCmd_refused {s : State} {v : Word} (no : s.dmc.helper ≠ 0 ∨ (s.dmcState ≠ 2 ∧ ¬(v = 2 ∧ s.dmcState = 6))) :
    s.touches [.regs, .pends, .evf] [Blk.evf, Blk.dmc] (s.trnCmd v) ∧ (s.trnCmd v).getB Port.DMC_FLAGS 1 = true ∧
    s.raises Irq.DMC_EVT (s.trnCmd v) := by
  have run : s.trnCmd v = s.dmcFlag 1 := if_pos (by tauto)
  rw [run]
  exact ⟨dmcFlag_touches s 1, dmcFlag_flagged s (by decide), dmcFlag_raises (.refl [] [] s) (by decide) 1⟩

/-- What a helper measured, as the controller keeps it. -/
def State.helperKept (s : State) (res : BitVec 17) : Dmc :=
  if s.dmc.helper = 1 then
    { s.dmc with modeRegs := Cells.wr (fun _ => 0) s.dmc.modeRegs (s.getF Port.DMC_TRN_ARG 13 8)
                   (s.getF Port.DMC_TRN_ARG 7 0), checked := false }
  else if s.dmc.helper = 2 ∧ s.getF Port.DMC_TRN_ARG 13 8 = 8 then
    { s.dmc with mr8 := some (BitVec.ofNat 8 (res.toNat &&& helperMask s.dmc.helper)) }
  else if s.dmc.helper = 8 then
    { s.dmc with checked := decide (res.toNat &&& helperMask s.dmc.helper = 0),
                 density := (res.toNat &&& helperMask s.dmc.helper).testBit 16 }
  else s.dmc

/-- What a helper that ends leaves of the controller. -/
def State.helperLeaves (s : State) (res : BitVec 17) : Dmc := { s.helperKept res with helper := 0 }

theorem helperDone_idle {s : State} (res : BitVec 17) (none : s.dmc.helper = 0) : s.helperDone res = s := if_pos none

theorem helperDone_runs {s : State} (res : BitVec 17) (runs : s.dmc.helper ≠ 0) :
    s.helperDone res =
      (({ s with dmc := s.helperLeaves res } : State).set Port.DMC_TRN_RES
        (BitVec.ofNat 18 (res.toNat &&& helperMask s.dmc.helper))).dmcFlag 2 := if_neg runs

theorem helperDone_spec {s : State} (res : BitVec 17) (runs : s.dmc.helper ≠ 0) :
    s.touches [.regs, .pends, .dmc, .evf] [Blk.evf, Blk.dmc] (s.helperDone res) ∧
    (s.helperDone res).dmc = s.helperLeaves res ∧
    (s.helperDone res).get Port.DMC_TRN_RES = BitVec.ofNat 18 (res.toNat &&& helperMask s.dmc.helper) ∧
    (s.helperDone res).getB Port.DMC_FLAGS 2 = true ∧ s.raises Irq.DMC_EVT (s.helperDone res) := by
  rw [helperDone_runs res runs]
  have left : s.touches [.dmc, .regs] [Blk.dmc] (({ s with dmc := s.helperLeaves res } : State).set Port.DMC_TRN_RES
      (BitVec.ofNat 18 (res.toNat &&& helperMask s.dmc.helper))) :=
    (dmc_touches s _).seq (set_touches (b := Blk.dmc) _ _ (by decide))
  refine ⟨(left.seq (dmcFlag_touches _ 2)).mono (by decide) (by decide), (dmcFlag_touches _ 2).1 .dmc (by decide), ?_,
    dmcFlag_flagged _ (by decide), dmcFlag_raises left (by decide) 2⟩
  rw [dmcFlag_get _ 2 (by decide) (by decide)]
  exact State.get_set_same _ _ _

theorem helperLeaves_idle (s : State) (res : BitVec 17) : (s.helperLeaves res).helper = 0 := rfl

/-- The result of a helper fits its register. -/
theorem helperResult_fits (res : BitVec 17) (h : Nat) : (res.toNat &&& helperMask h) < 2 ^ 18 :=
  Nat.lt_of_le_of_lt Nat.and_le_left (res.isLt.trans (by decide))

theorem helperResult_check (res : BitVec 17) : res.toNat &&& helperMask 8 = res.toNat :=
  (Nat.and_two_pow_sub_one_eq_mod res.toNat 17).trans (Nat.mod_eq_of_lt res.isLt)

theorem helperResult_mrr (res : BitVec 17) : BitVec.ofNat 8 (res.toNat &&& helperMask 2) = res.setWidth 8 := by
  have mask : res.toNat &&& helperMask 2 = res.toNat % 2 ^ 8 := Nat.and_two_pow_sub_one_eq_mod res.toNat 8
  rw [mask]
  apply BitVec.eq_of_toNat_eq
  simp

theorem helperLeaves_check {s : State} (res : BitVec 17) (check : s.dmc.helper = 8) :
    s.helperLeaves res = { s.dmc with helper := 0, checked := decide (res = 0), density := res.getLsbD 16 } := by
  have zero : (res.toNat = 0) = (res = 0) := propext ⟨fun h => BitVec.eq_of_toNat_eq h, fun h => congrArg BitVec.toNat h⟩
  rw [State.helperLeaves, State.helperKept, if_neg (by omega), if_neg (by omega), if_pos check, check, helperResult_check]
  simp only [zero]
  rfl

theorem helperLeaves_mr8 {s : State} (res : BitVec 17) (mrr : s.dmc.helper = 2) (reg : s.getF Port.DMC_TRN_ARG 13 8 = 8) :
    s.helperLeaves res = { s.dmc with helper := 0, mr8 := some (res.setWidth 8) } := by
  rw [State.helperLeaves, State.helperKept, if_neg (by omega), if_pos ⟨mrr, reg⟩, mrr, helperResult_mrr]

theorem helperLeaves_mrw {s : State} (res : BitVec 17) (mrw : s.dmc.helper = 1) :
    s.helperLeaves res = { s.dmc with
      helper := 0, modeRegs := Cells.wr (fun _ => 0) s.dmc.modeRegs (s.getF Port.DMC_TRN_ARG 13 8)
        (s.getF Port.DMC_TRN_ARG 7 0), checked := false } := by
  rw [State.helperLeaves, State.helperKept, if_pos mrw]

/-- Settles O33: each command starts its helper (`trnCmd_starts`) or is refused (`trnCmd_refused`), and an end leaves what
`helperLeaves` says. -/
theorem trainingHelpersRunInTraining : Obligations.TrainingHelpersRunInTraining := by
  unfold Obligations.TrainingHelpersRunInTraining
  intro s
  have start : ∀ v : Word, 1 ≤ v.toNat ∧ v.toNat ≤ 8 → s.dmc.helper = 0 → s.dmcState = 2 → _ :=
    fun v code free state => trnCmd_starts code ⟨free, .inl state⟩
  have refuse : ∀ v : Word, v ≠ 2 → (s.dmc.helper ≠ 0 ∨ s.dmcState ≠ 2) → _ :=
    fun v other no => trnCmd_refused (v := v) (no.imp_right fun outside => ⟨outside, fun mrr => other mrr.1⟩)
  refine ⟨fun m a free state => completes_portCmd rfl a (start 1 (by decide) free state),
    fun m a no => completes_portCmd rfl a (refuse 1 (by decide) no),
    fun m a free state => completes_portCmd rfl a
      (trnCmd_starts (by decide) ⟨free, state.imp_right fun frozen => ⟨rfl, frozen⟩⟩),
    fun m a no => completes_portCmd rfl a (trnCmd_refused (no.imp_right fun ⟨outside, thawed⟩ =>
      ⟨outside, fun mrr => thawed mrr.2⟩)),
    fun m a free state => completes_portCmd rfl a (start 3 (by decide) free state),
    fun m a no => completes_portCmd rfl a (refuse 3 (by decide) no),
    fun m a free state => completes_portCmd rfl a (start 4 (by decide) free state),
    fun m a no => completes_portCmd rfl a (refuse 4 (by decide) no),
    fun m a free state => completes_portCmd rfl a (start 5 (by decide) free state),
    fun m a no => completes_portCmd rfl a (refuse 5 (by decide) no),
    fun m a free state => completes_portCmd rfl a (start 6 (by decide) free state),
    fun m a no => completes_portCmd rfl a (refuse 6 (by decide) no),
    fun m a free state => completes_portCmd rfl a (start 7 (by decide) free state),
    fun m a no => completes_portCmd rfl a (refuse 7 (by decide) no),
    fun m a free state => completes_portCmd rfl a (start 8 (by decide) free state),
    fun m a no => completes_portCmd rfl a (refuse 8 (by decide) no),
    fun res none => ⟨_, rfl, helperDone_idle res none⟩,
    fun res runs _ => ⟨_, rfl, ?ends⟩, fun res check => ⟨_, rfl, ?check⟩, fun res mrr reg => ⟨_, rfl, ?mrr⟩,
    fun res mrw => ⟨_, rfl, ?mrw⟩⟩
  case ends =>
    obtain ⟨frame, dmc, result, flag, raised⟩ := helperDone_spec res runs
    refine ⟨frame, (congrArg Dmc.helper dmc).trans (helperLeaves_idle s res), ?_, flag, raised⟩
    rw [result, BitVec.toNat_ofNat, Nat.mod_eq_of_lt (helperResult_fits res _)]
  case check =>
    obtain ⟨frame, dmc, -⟩ := helperDone_spec (s := s) res (by omega)
    exact ⟨frame, dmc.trans (helperLeaves_check res check)⟩
  case mrr =>
    obtain ⟨frame, dmc, -⟩ := helperDone_spec (s := s) res (by omega)
    exact ⟨frame, dmc.trans (helperLeaves_mr8 res mrr reg)⟩
  case mrw =>
    obtain ⟨frame, dmc, -⟩ := helperDone_spec (s := s) res (by omega)
    rw [dmc, helperLeaves_mrw res mrw]
    exact ⟨frame, Cells.rd_wr_same _ _ _ _, fun k other => Cells.rd_wr_other _ _ _ other.symm, rfl⟩

/-! ## Loss of the DRAM PLL (R398) -/

/-- PD_DRAMC is up, and the number 0x51800, above the last copy of a master (`Blk.own`), reads as 1. -/
def pllState : State :=
  { State.reset with regs := [(Port.PWR_DOM_STAT, inFld 12 12 1), (0x51800, 1)] }

theorem pllState_above : pllState.get 0x51800 = 1 := rfl

/-- The domain's registers return to Cold wherever their port stands modulo 2^16 (`domPort`). -/
theorem pllState_lost_above : pllState.dramPllLost.get 0x51800 = 0 := by decide +kernel

/-- Refutes O31: clause (13) has the loss of the PLL change no register outside sixteen blocks, the last of which ends at
0x4FFFF, yet the reset of PD_DRAMC clears every register whose number is one of its ports modulo 2^16: 0x51800 in
`pllState`. -/
theorem not_theDramControllerPowersTrainsAndWipes : ¬ Obligations.TheDramControllerPowersTrainsAndWipes := by
  unfold Obligations.TheDramControllerPowersTrainsAndWipes
  intro h
  obtain ⟨-, -, -, -, -, -, -, -, -, -, -, -, lost⟩ := h pllState
  obtain ⟨t, ran, frame, -⟩ := lost (by decide)
  have ended : pllState.dramPllLost = t := Host.Outcome.next.inj ran
  have kept : t.get 0x51800 = pllState.get 0x51800 := frame.2 0x51800 (by decide)
  rw [← ended, pllState_lost_above, pllState_above] at kept
  exact absurd kept (by decide)


/-! ## Parts that an operation keeps -/

theorem State.touches.dmc_eq {ps : List Part} {bs : List (Nat × Nat)} {s t : State} (h : State.touches ps bs s t)
    (out : Part.dmc ∉ ps) : t.dmc = s.dmc := h.1 .dmc out

theorem State.touches.mem_eq {ps : List Part} {bs : List (Nat × Nat)} {s t : State} (h : State.touches ps bs s t)
    (out : Part.mem ∉ ps) : t.mem = s.mem := h.1 .mem out

/-- What keeps the cores keeps what is pending. -/
theorem State.touches.keeps_raised {ps : List Part} {bs : List (Nat × Nat)} {r s t : State} {n : Nat}
    (h : State.touches ps bs s t) (cores : Part.cores ∉ ps) (pends : Part.pends ∉ ps) (pending : r.raises n s) :
    r.raises n t := by
  intro c up
  have core := congrFun (h.core cores pends) c
  rw [State.isPending, core]
  exact pending c up

/-! ## Requests and grants of the Sluice (R406-R410) -/

theorem sluiceDrop_granted_other (s : State) {a b : Nat} (ha : a < 18) (other : a ≠ b) :
    (s.sluiceDrop a).granted b = s.granted b := by
  unfold State.sluiceDrop State.granted
  rw [State.getB, State.get_setB_other _ _ _ (by decide), ← State.getB, State.getB_setB_other _ _ _ _ _ _ ha other,
    State.getB, State.get_setB_other _ _ _ (by decide)]
  rfl

theorem sluiceDrop_waits (s : State) {a : Nat} (ha : a < 18) : (s.sluiceDrop a).waits a = false := by
  unfold State.sluiceDrop State.waits
  rw [State.getB, State.get_setB_other _ _ _ (by decide), State.get_setB_other _ _ _ (by decide)]
  exact State.getB_setB_same _ _ a false ha

theorem sluiceDrop_waits_other (s : State) {a b : Nat} (ha : a < 18) (other : a ≠ b) :
    (s.sluiceDrop a).waits b = s.waits b := by
  unfold State.sluiceDrop State.waits
  rw [State.getB, State.get_setB_other _ _ _ (by decide), State.get_setB_other _ _ _ (by decide), ← State.getB,
    State.getB_setB_other _ _ _ _ _ _ ha other]
  rfl

theorem sluiceAsk_granted (s : State) (a b : Nat) : (s.sluiceAsk a).granted b = s.granted b := by
  unfold State.sluiceAsk
  split
  · rfl
  · rw [State.granted, State.getB, State.get_setB_other _ _ _ (by decide)]
    rfl

theorem sluiceAsk_waits {s : State} {a : Nat} (ha : a < 18) (free : s.granted a = false) :
    (s.sluiceAsk a).waits a = true := by
  simpa [sluiceAsk_granted, free] using sluiceAsk_stands s ha

/-! ## The scheduler (R331, R332) -/

theorem nextDram_none {s : State} (empty : s.dmc.queue = []) : s.nextDram = none := by
  unfold State.nextDram State.dramCandidates
  rw [empty]
  rfl

/-- Of two requests of different ports and blocks both are candidates, and the lower rank goes first. -/
theorem nextDram_lower_rank {s : State} {a b : DramReq} (two : s.dmc.queue = [a, b]) (ports : a.port ≠ b.port)
    (blocks : a.block ≠ b.block) (lower : s.effRank b < s.effRank a) : s.nextDram = some b := by
  have candidates : s.dramCandidates = [a, b] := by
    simp [State.dramCandidates, two, indexed, List.range_succ, ports, blocks]
  have first : s.goesFirst b a = true := by simp [State.goesFirst, lower]
  simp [State.nextDram, candidates, first]

theorem dramStart_rests {s : State} (rests : s.dmc.cur.isSome = true ∨ s.dmc.queue = []) : s.dramStart = s := by
  unfold State.dramStart
  split
  · rfl
  · rename_i free
    rw [nextDram_none (rests.resolve_left free)]

theorem dramStart_of_next {s : State} {r : DramReq} (free : s.dmc.cur = none) (next : s.nextDram = some r) :
    s.dramStart = if (s.dramWake r.port).dmcState ≠ 4 then s.dramWake r.port else
      { s.dramWake r.port with
        dmc := { (s.dramWake r.port).dmc with cur := some r, queue := (s.dramWake r.port).dmc.queue.erase r } } := by
  unfold State.dramStart
  rw [if_neg (by simp [free])]
  simp only [next]

/-- A request's wake changes what was used last alone, self-refresh aside. -/
theorem dramWake_dmc (s : State) (p : Nat) : ∃ used, (s.dramWake p).dmc = { s.dmc with usedAt := used } := by
  unfold State.dramWake
  dsimp only
  split <;> split <;> exact ⟨_, rfl⟩

theorem dramWake_state_of_sleep {s : State} (p : Nat) (asleep : s.dmcState = 5) : (s.dramWake p).dmcState = 4 := by
  unfold State.dramWake
  rw [if_pos asleep]
  exact State.getF_setF_same _ _ _ _ _ (by decide)

theorem dramWake_state_awake {s : State} (p : Nat) (awake : s.dmcState ≠ 5) : (s.dramWake p).dmcState = s.dmcState := by
  unfold State.dramWake
  rw [if_neg awake]
  dsimp only
  split <;> rfl

theorem dramWake_mem (s : State) (p : Nat) : (s.dramWake p).mem = s.mem := (dramWake_touches s p).1 .mem (by decide)

theorem dramWake_core (s : State) (p : Nat) : (s.dramWake p).core = s.core :=
  (dramWake_touches s p).core (by decide) (by decide)

theorem dramStart_starts {s : State} {r : DramReq} (free : s.dmc.cur = none) (next : s.nextDram = some r)
    (runs : s.dmcState = 4 ∨ s.dmcState = 5) :
    s.touches [.regs, .dmc] [Blk.dmc] s.dramStart ∧ s.dramStart.dmc.cur = some r ∧
    s.dramStart.dmc.queue = s.dmc.queue.erase r ∧ s.dramStart.dmcState = 4 := by
  obtain ⟨used, dmc⟩ := dramWake_dmc s r.port
  have awake : (s.dramWake r.port).dmcState = 4 :=
    runs.elim (fun e => (dramWake_state_awake _ (by omega)).trans e) (dramWake_state_of_sleep _)
  rw [dramStart_of_next free next, if_neg (not_not_intro awake)]
  exact ⟨((dramWake_touches s _).seq (dmc_touches _ _)).mono (by decide) (by decide), rfl, by rw [dmc], awake⟩

theorem dramStart_asleep {s : State} (stopped : s.dmcState ≠ 4) (awake : s.dmcState ≠ 5) :
    s.touches [.regs, .dmc] [Blk.dmc] s.dramStart ∧ s.dramStart.dmc.cur = s.dmc.cur ∧
    s.dramStart.dmc.queue = s.dmc.queue ∧ s.dramStart.dmcState = s.dmcState := by
  have rests : s.dramStart = s → s.touches [.regs, .dmc] [Blk.dmc] s.dramStart ∧ s.dramStart.dmc.cur = s.dmc.cur ∧
      s.dramStart.dmc.queue = s.dmc.queue ∧ s.dramStart.dmcState = s.dmcState := fun e => by
    rw [e]
    exact ⟨.refl _ _ s, rfl, rfl, rfl⟩
  by_cases busy : s.dmc.cur.isSome = true
  · exact rests (dramStart_rests (.inl busy))
  cases next : s.nextDram with
  | none => exact rests (by unfold State.dramStart; rw [if_neg busy]; simp only [next])
  | some r =>
    obtain ⟨used, dmc⟩ := dramWake_dmc s r.port
    have state := dramWake_state_awake r.port awake
    rw [dramStart_of_next (by simpa using busy) next, if_pos (by rw [state]; exact stopped)]
    exact ⟨dramWake_touches s _, by rw [dmc], by rw [dmc], state⟩

/-! ## The end of a transfer -/

theorem coreOnly_touches {c : Core} {s t : State} (h : State.coreOnly c s t) :
    s.touches [.regs, .cores, .pends] [Blk.dbg] t := by
  obtain ⟨parts, regs⟩ := h
  refine ⟨fun part other => ?_, fun q outside => regs q fun same => ?_⟩
  · obtain ⟨x, r, f, e⟩ : ∃ x r f, t = { s.setCore c x with regs := r, free := f } := ⟨_, _, _, parts⟩
    rw [e]
    clear e parts regs
    cases c <;> cases part <;> simp_all [Part.same, State.setCore]
  · have out : q < 0x7F00 ∨ 0x7FFF < q := outside Blk.dbg (List.mem_singleton_self _)
    rw [same] at out
    cases c <;> exact absurd out (by decide)

/-- A core's access ends: its register takes the word read, and it goes on behind the access. -/
theorem endWait_spec (s : State) (c : Core) (w : ApWait) (v : Word) :
    State.coreOnly c s (s.endWait c w v) ∧ ((s.endWait c w v).core c).apWait = none ∧
    (w.write = false → ((s.endWait c w v).core c).reg w.reg = v) ∧
    ((s.endWait c w v).core c).pc = (s.core c).pc + BitVec.ofNat 18 w.words := by
  have ended : ∀ x : CoreState, ∃ halted haltReq stepping,
      ((s.updCore c fun _ => x).retire c).core c = { x with halted := halted, haltReq := haltReq, stepping := stepping } :=
    fun x => by simpa using core_retire (s.updCore c fun _ => x) c
  obtain ⟨_, _, _, core⟩ := ended
    { ((if w.write then s.core c else (s.core c).setReg w.reg v).advance w.words) with apWait := none }
  have run : (s.endWait c w v).core c = _ := core
  rw [run]
  refine ⟨coreOnly_trans (updCore_coreOnly s c _) (retire_coreOnly _ c), rfl, fun read => ?_, ?_⟩
  · rw [read]
    exact reg_setReg_same (s.core c) w.reg v
  · cases w.write
    · exact congrArg (· + BitVec.ofNat 18 w.words) (pc_setReg (s.core c) w.reg v)
    · rfl

/-- The controller without the request under way. -/
def State.idled (s : State) : State := { s with dmc := { s.dmc with cur := none } }

theorem idled_touches (s : State) : s.touches [.dmc] [] s.idled := dmc_touches s _

theorem idled_dramRead {s : State} {p b : Nat} (whole : s.dramBad b = 0) (owner : s.ownerWrong p b = false) :
    s.idled.dramRead p b = (s.dramRds b, s.idled.dramWake p) := dramRead_clean (s := s.idled) whole owner

theorem dramDone_of_wait {s : State} {c : Core} {r : DramReq} {w : ApWait} (cur : s.dmc.cur = some r)
    (port : coreOf r.port = c) (waits : (s.core c).apWait = some w) (direct : w.basin = false) (same : w.block = r.block) :
    s.dramDone = if w.write then (s.idled.dramStore r.port r.block w.idx w.v).endWait c w 0
      else (s.idled.dramRead r.port r.block).2.endWait c w ((s.idled.dramRead r.port r.block).1.getD w.idx 0) := by
  have waits' : (s.idled.core (coreOf r.port)).apWait = some w := by rw [port]; exact waits
  unfold State.dramDone
  simp only [cur]
  change (match (s.idled.core (coreOf r.port)).apWait with | none => s.idled | some w => _) = _
  rw [waits', port]
  exact if_neg (by simp [direct, same])

theorem dramDone_idle {s : State} (idle : s.dmc.cur = none) : s.dramDone = s := by
  unfold State.dramDone
  simp only [idle]

theorem Cells.getD_rds {α : Type} (d : Nat → α) (m : Cells α) (x : α) {n i : Nat} (h : i < n) (k : Nat) :
    (Cells.rds d m k n).getD i x = Cells.rd d m (k + i) := by
  induction n generalizing i k with
  | zero => omega
  | succ n ih =>
    cases i with
    | zero => rfl
    | succ i => exact (ih (by omega) (k + 1)).trans (congrArg _ (by omega))

theorem Cells.length_rds {α : Type} (d : Nat → α) (m : Cells α) (n : Nat) : ∀ k, (Cells.rds d m k n).length = n := by
  induction n with
  | zero => exact fun _ => rfl
  | succ n ih => exact fun k => congrArg (· + 1) (ih (k + 1))

theorem dramRds_getD (s : State) (b : Nat) {i : Nat} (h : i < 12) : (s.dramRds b).getD i 0 = s.dramWord b i :=
  Cells.getD_rds _ _ _ h _

theorem dramDone_reads {s : State} {c : Core} {r : DramReq} {w : ApWait} (cur : s.dmc.cur = some r)
    (port : coreOf r.port = c) (waits : (s.core c).apWait = some w) (direct : w.basin = false) (read : w.write = false)
    (same : w.block = r.block) (whole : s.dramBad r.block = 0) (owner : s.ownerWrong r.port r.block = false) :
    s.dramDone = (s.idled.dramWake r.port).endWait c w ((s.dramRds r.block).getD w.idx 0) := by
  rw [dramDone_of_wait cur port waits direct same, idled_dramRead whole owner, read]
  rfl

theorem dramDone_writes {s : State} {c : Core} {r : DramReq} {w : ApWait} (cur : s.dmc.cur = some r)
    (port : coreOf r.port = c) (waits : (s.core c).apWait = some w) (direct : w.basin = false) (write : w.write = true)
    (same : w.block = r.block) (runs : s.dmcState = 4) (whole : s.dramBad r.block = 0)
    (owner : s.ownerWrong r.port r.block = false) :
    s.dramDone = ((s.idled.dramWake r.port).dramWr r.block ((s.dramRds r.block).set w.idx w.v)
      ([3, 4, 1, 2].getD r.port 0) 0).endWait c w 0 := by
  have awake : (s.idled.dramWake r.port).dmcState ≠ 6 := by
    rw [dramWake_state_awake (s := s.idled) r.port (show s.dmcState ≠ 5 by omega)]
    show s.dmcState ≠ 6
    omega
  rw [dramDone_of_wait cur port waits direct same, if_pos write, State.dramStore, idled_dramRead whole owner]
  dsimp only
  rw [if_neg awake]

/-- The other words of the blocks stand beside the one written. -/
theorem dramWr_set_word (s : State) (b owner : Nat) (epoch : BitVec 6) {k : Nat} (v : Word) (hk : k < 12) (j : Nat) {i : Nat}
    (hi : i < 12) : (s.dramWr b ((s.dramRds b).set k v) owner epoch).dramWord j i =
      if j = b ∧ i = k then v else s.dramWord j i := by
  have length : ((s.dramRds b).set k v).length = 12 := by rw [List.length_set]; exact Cells.length_rds _ _ _ _
  refine (Cells.rd_wrs (fun _ => 0) _ s.mem.dram (b * 12) (j * 12 + i)).trans ?_
  rw [length]
  by_cases block : j = b
  · subst block
    rw [if_pos (by omega), Nat.add_sub_cancel_left, List.getD_eq_getElem?_getD, List.getElem?_set]
    by_cases word : k = i
    · subst word
      have inside : k < (s.dramRds j).length := by rw [State.dramRds, Cells.length_rds]; exact hk
      simp [inside]
    · rw [if_neg word, if_neg (fun h => word h.2.symm), ← List.getD_eq_getElem?_getD]
      exact Cells.getD_rds _ _ _ hi _
  · rw [if_neg (by omega), if_neg (fun h => block h.1)]
    rfl

/-! ## Periodic duties (R335) -/

section periodic
variable {s : State} (mr4 mr8 : BitVec 8) (drifted : Bool)

theorem periodicCal_rests (rests : s.dmcState ≠ 4 ∨
    s.time.wall < s.dmc.checkAt + max 1 (s.getF Port.DMC_CAL 8 0) * 16000) : s.periodicCal mr4 mr8 drifted = s :=
  if_pos rests

theorem periodicCal_asks (runs : s.dmcState = 4)
    (due : s.dmc.checkAt + max 1 (s.getF Port.DMC_CAL 8 0) * 16000 ≤ s.time.wall)
    (free : s.granted Act.dramPcal = false) : s.periodicCal mr4 mr8 drifted = s.sluiceAsk Act.dramPcal := by
  unfold State.periodicCal
  rw [if_neg (by omega), if_pos free]

/-- The check has its time, and its grant is given back. -/
def State.pcalDone (s : State) : State :=
  ({ s with dmc := { s.dmc with checkAt := s.time.wall } } : State).sluiceDrop Act.dramPcal

/-- The check has read the temperature. -/
def State.pcalRead (s : State) (mr4 : BitVec 8) : State :=
  if mr4.toNat % 8 = 7 then s.pcalDone.dmcFlag 3 else s.pcalDone

/-- What follows on the density read and the drift. -/
def State.pcalEnd (s : State) (bad drifted : Bool) : State :=
  if bad then s.dmcPathFreeze 5 else
  if drifted then ({ s with dmc := { s.dmc with driftPend := true } } : State).sluiceAsk Act.dramRetrain else s

theorem pcalDone_touches (s : State) : s.touches [.regs, .dmc, .sluice] [Blk.mnt] s.pcalDone :=
  ((dmc_touches s _).seq (sluiceDrop_touches _ _)).mono (by decide) (by decide)

theorem pcalDone_dmc (s : State) : s.pcalDone.dmc = { s.dmc with checkAt := s.time.wall } :=
  (sluiceDrop_touches _ _).1 .dmc (by decide)

theorem pcalRead_frame (s : State) (mr4 : BitVec 8) :
    s.pcalDone.touches [.regs, .pends, .evf] [Blk.evf, Blk.dmc] (s.pcalRead mr4) :=
  .ite (dmcFlag_touches _ 3) (.refl _ _ _)

theorem pcalRead_touches (s : State) (mr4 : BitVec 8) :
    s.touches [.regs, .pends, .dmc, .sluice, .evf] [Blk.evf, Blk.dmc, Blk.mnt] (s.pcalRead mr4) :=
  ((pcalDone_touches s).seq (pcalRead_frame s mr4)).mono (by decide) (by decide)

theorem pcalRead_dmc (s : State) (mr4 : BitVec 8) : (s.pcalRead mr4).dmc = { s.dmc with checkAt := s.time.wall } :=
  (pcalRead_frame s mr4).dmc_eq (by decide) |>.trans (pcalDone_dmc s)

/-- A read of the temperature writes the flags and raises; every other register stands as the check left it. -/
theorem pcalRead_get (s : State) (mr4 : BitVec 8) {q : Nat} (away : 0x0586 ≤ q) (other : q ≠ Port.DMC_FLAGS) :
    (s.pcalRead mr4).get q = s.pcalDone.get q := by
  unfold State.pcalRead
  split
  · exact dmcFlag_get _ 3 away other
  · rfl

theorem pcalRead_state (s : State) (mr4 : BitVec 8) : (s.pcalRead mr4).dmcState = s.dmcState := by
  rw [State.dmcState, State.getF, pcalRead_get s mr4 (by decide) (by decide),
    (pcalDone_touches s).2 Port.DMC_STAT (by decide)]
  rfl

theorem pcalRead_granted (s : State) (mr4 : BitVec 8) : (s.pcalRead mr4).granted Act.dramPcal = false := by
  rw [State.granted, State.getB, pcalRead_get s mr4 (by decide) (by decide)]
  exact sluiceDrop_granted _ (by decide)

theorem pcalRead_hot (s : State) {mr4 : BitVec 8} (hot : mr4.toNat % 8 = 7) :
    (s.pcalRead mr4).getB Port.DMC_FLAGS 3 = true ∧ s.raises Irq.DMC_EVT (s.pcalRead mr4) := by
  rw [State.pcalRead, if_pos hot]
  exact ⟨dmcFlag_flagged _ (by decide), dmcFlag_raises (pcalDone_touches s) (by decide) 3⟩

theorem periodicCal_runs (runs : s.dmcState = 4)
    (due : s.dmc.checkAt + max 1 (s.getF Port.DMC_CAL 8 0) * 16000 ≤ s.time.wall)
    (held : s.granted Act.dramPcal = true) :
    (∀ k, s.dmc.mr8 = some k → s.periodicCal mr4 mr8 drifted = (s.pcalRead mr4).pcalEnd (decide (k ≠ mr8)) drifted) ∧
    (s.dmc.mr8 = none → ∃ bad, s.periodicCal mr4 mr8 drifted = (s.pcalRead mr4).nextFree.pcalEnd bad drifted) := by
  have kept : (s.pcalRead mr4).dmc.mr8 = s.dmc.mr8 := by rw [pcalRead_dmc]
  have run : s.periodicCal mr4 mr8 drifted =
      (if (s.pcalRead mr4).dmc.mr8.isNone then (s.pcalRead mr4).nextFree else s.pcalRead mr4).pcalEnd
        (match (s.pcalRead mr4).dmc.mr8 with
         | some m => decide (m ≠ mr8)
         | none => Config.freeBit (s.pcalRead mr4).free) drifted := by
    unfold State.periodicCal
    rw [if_neg (by omega), if_neg (by simp [held])]
    rfl
  rw [run, kept]
  exact ⟨fun k trained => by rw [trained]; rfl, fun untrained => ⟨_, by rw [untrained]; rfl⟩⟩

end periodic

/-- A freeze of the command path: what it is, up to the block and tag that are open. -/
theorem dmcPathFreeze_is (s : State) (cause : Nat) :
    ∃ block tag, s.dmcPathFreeze cause = s.nextFree.dmcFreezeOp cause 5 0 block tag := ⟨_, _, rfl⟩

section pathFreeze
variable {s : State} (runs : s.dmcState = 4) (cause : Nat)
include runs

theorem dmcPathFreeze_touches :
    s.touches [.regs, .pends, .dmc, .evf] [Blk.evf, Blk.dmc] (s.dmcPathFreeze cause) :=
  ((nextFree_touches s).seq (freeze_touches (s := s.nextFree) (.inr runs) _ _ _ _ _)).mono (by decide) (by decide)

/-- A freeze leaves the flags that are set. -/
theorem dmcPathFreeze_flag {b : Nat} (other : b ≠ 4) :
    (s.dmcPathFreeze cause).getB Port.DMC_FLAGS b = s.getB Port.DMC_FLAGS b := by
  obtain ⟨block, tag, e⟩ := dmcPathFreeze_is s cause
  have runs' : s.nextFree.dmcState = 3 ∨ s.nextFree.dmcState = 4 := .inr runs
  have head : (s.nextFree.frzHead cause 5 0 block tag).get Port.DMC_FLAGS = s.get Port.DMC_FLAGS := by
    unfold State.frzHead State.setF
    rw [State.get_set_other _ _ (by decide), get_setWide_other _ _ (by decide), State.get_set_other _ _ (by decide),
      State.get_set_other _ _ (by decide)]
    rfl
  rw [e, State.getB, (freeze_frame runs' _ _ _ _ _).regs _ (by decide), State.frozen, State.dmcFlag,
    raise_get _ _ _ (by decide)]
  refine (State.getB_setB_other _ _ Port.DMC_FLAGS 4 b true (by decide) (Ne.symm other)).trans ?_
  rw [State.getB, frzBody_get _ _ _ _ _ _ (by decide), head]
  rfl

/-- A freeze leaves what is pending. -/
theorem dmcPathFreeze_raises {r : State} {n : Nat} (pending : r.raises n s) : r.raises n (s.dmcPathFreeze cause) := by
  obtain ⟨block, tag, e⟩ := dmcPathFreeze_is s cause
  have body : s.touches [.regs, .dmc] [Blk.dmc]
      ((s.nextFree.frzBody cause 5 0 block tag).setB Port.DMC_FLAGS 4 true) :=
    (((nextFree_touches s).seq (frzBody_touches s.nextFree cause 5 0 block tag)).seq
      (set_touches (b := Blk.dmc) _ _ (by decide))).mono (by decide) (by decide)
  rw [e]
  refine (freeze_frame (s := s.nextFree) (.inr runs) _ _ _ _ _).raises ?_
  rw [State.frozen, State.dmcFlag]
  exact (raise_frame _ _).raises (body.keeps_raised (by decide) (by decide) pending)

end pathFreeze

theorem pcalEnd_frozen (s : State) (drifted : Bool) : s.pcalEnd true drifted = s.dmcPathFreeze 5 := rfl
theorem pcalEnd_good (s : State) : s.pcalEnd false false = s := rfl
theorem pcalEnd_drift (s : State) : s.pcalEnd false true =
    ({ s with dmc := { s.dmc with driftPend := true } } : State).sluiceAsk Act.dramRetrain := rfl

theorem pcalEnd_touches {s : State} (runs : s.dmcState = 4) (bad drifted : Bool) :
    s.touches [.regs, .pends, .dmc, .sluice, .evf] [Blk.evf, Blk.dmc, Blk.mnt] (s.pcalEnd bad drifted) := by
  cases bad with
  | true => exact (dmcPathFreeze_touches runs 5).mono (by decide) (by decide)
  | false =>
    cases drifted with
    | true => exact ((dmc_touches s _).seq (sluiceAsk_touches _ _)).mono (by decide) (by decide)
    | false => exact .refl _ _ s

/-- The hot flag and what is pending stand through the rest of a check. -/
theorem pcalEnd_hot {r s : State} (runs : s.dmcState = 4) (bad drifted : Bool) (flag : s.getB Port.DMC_FLAGS 3 = true)
    (pending : r.raises Irq.DMC_EVT s) : (s.pcalEnd bad drifted).getB Port.DMC_FLAGS 3 = true ∧
      r.raises Irq.DMC_EVT (s.pcalEnd bad drifted) := by
  cases bad with
  | true => exact ⟨(dmcPathFreeze_flag runs 5 (by decide)).trans flag, dmcPathFreeze_raises runs 5 pending⟩
  | false =>
    cases drifted with
    | false => exact ⟨flag, pending⟩
    | true =>
      have asked : s.touches [.dmc, .regs, .sluice] [Blk.mnt] (s.pcalEnd false true) :=
        (dmc_touches s _).seq (sluiceAsk_touches _ _)
      exact ⟨(congrArg (bitOf · 3) (asked.2 Port.DMC_FLAGS (by decide))).trans flag,
        asked.keeps_raised (by decide) (by decide) pending⟩

/-! ## Retraining and the scrub (R335) -/

theorem retrainDq_runs {s : State} (runs : s.dmcState = 4) (drift : s.dmc.driftPend = true)
    (held : s.granted Act.dramRetrain = true) :
    s.touches [.regs, .pends, .dmc, .sluice, .evf] [Blk.evf, Blk.dmc, Blk.mnt] s.retrainDq ∧
    s.retrainDq.dmc = { s.dmc with driftPend := false } ∧ s.retrainDq.granted Act.dramRetrain = false ∧
    s.retrainDq.getB Port.DMC_FLAGS 0 = true ∧ s.counts Port.DMC_RETRNCNT s.retrainDq ∧
    s.raises Irq.DMC_EVT s.retrainDq := by
  let d : State := ({ s with dmc := { s.dmc with driftPend := false } } : State).sluiceDrop Act.dramRetrain
  have run : s.retrainDq = (d.count Port.DMC_RETRNCNT).dmcFlag 0 := by
    unfold State.retrainDq
    rw [if_neg (by simp [runs, drift]), if_neg (by simp [held])]
  have dropped : s.touches [.dmc, .regs, .sluice] [Blk.mnt] d := (dmc_touches s _).seq (sluiceDrop_touches _ _)
  have counted : s.touches [.regs, .dmc, .sluice] [Blk.mnt, Blk.dmc] (d.count Port.DMC_RETRNCNT) :=
    (dropped.seq (set_touches (b := Blk.dmc) d _ (by decide))).mono (by decide) (by decide)
  rw [run]
  refine ⟨(counted.seq (dmcFlag_touches _ 0)).mono (by decide) (by decide), ?_, ?_, dmcFlag_flagged _ (by decide), ?_,
    dmcFlag_raises counted (by decide) 0⟩
  · have kept : ((d.count Port.DMC_RETRNCNT).dmcFlag 0).dmc = d.dmc :=
      ((dmcFlag_touches _ 0).dmc_eq (by decide)).trans ((set_touches (b := Blk.dmc) d _ (by decide)).dmc_eq (by decide))
    exact kept.trans ((sluiceDrop_touches _ _).dmc_eq (by decide))
  · rw [State.granted, State.getB, dmcFlag_get _ 0 (by decide) (by decide), State.get_count_other _ (by decide)]
    exact sluiceDrop_granted _ (by decide)
  · refine (dmcFlag_get _ 0 (by decide) (by decide)).trans ((State.get_count_same _ _).trans (congrArg satInc ?_))
    exact dropped.2 Port.DMC_RETRNCNT (by decide)

theorem retrainDq_rests {s : State} (rests : s.dmcState ≠ 4 ∨ s.dmc.driftPend = false) : s.retrainDq = s := if_pos rests

theorem dramScrub_rests {s : State} (rests : s.dmcState ≠ 4 ∨ s.getB Port.DMC_SCRUB 17 = false ∨
    s.time.wall < s.dmc.scrubAt + max 1 (s.getF Port.DMC_SCRUB 11 0) * 16) : s.dramScrub = s := if_pos rests

/-- The place of the scrub behind a step. -/
def State.scrubMoved (s : State) : State :=
  { s with dmc := { s.dmc with
      scrubPos := (if s.dmc.scrubPos + 1 < s.dramBlocks then s.dmc.scrubPos + 1 else 0), scrubAt := s.time.wall } }

theorem scrubMoved_touches (s : State) : s.touches [.dmc] [] s.scrubMoved := dmc_touches s _

theorem scrubMoved_get (s : State) (q : Nat) : s.scrubMoved.get q = s.get q := (scrubMoved_touches s).2 q (by simp)

theorem scrubMoved_state (s : State) : s.scrubMoved.dmcState = s.dmcState :=
  congrArg (fld · 17 15) (scrubMoved_get s Port.DMC_STAT)

theorem scrubMoved_dramBad (s : State) (b : Nat) : s.scrubMoved.dramBad b = s.dramBad b :=
  congrArg (fun m : Mem => Cells.rd (fun _ => 0) m.dramErr b) ((scrubMoved_touches s).mem_eq (by decide))

/-- The scrub has read its block. -/
def State.scrubRead (s : State) : State := (s.scrubMoved.dramRead 5 s.dmc.scrubPos).2

/-- A read of P_MNT that finds no uncorrectable error counts a corrected one, and no more. -/
theorem dramRead_scrub {s : State} {b : Nat} (runs : s.dmcState ≠ 5) (data : s.dramBad b / 8 % 8 = 0)
    (tag : s.dramBad b < 128) : (s.dramRead 5 b).2 = s ∨ (s.dramRead 5 b).2 = s.count Port.DMC_CECNT := by
  have awake : s.dramWake 5 = s := by
    unfold State.dramWake
    rw [if_neg runs]
    rfl
  have whole : (s.dramBad b).testBit 7 = false := Nat.testBit_lt_two_pow tag
  have owner : s.ownerWrong 5 b = false := rfl
  unfold State.dramRead
  rw [awake]
  dsimp only
  rw [if_neg (not_not_intro data), whole, owner, if_neg (by decide), if_neg (by decide)]
  dsimp only
  split
  · exact .inr rfl
  · exact .inl rfl

theorem dramScrub_due {s : State} (runs : s.dmcState = 4) (on : s.getB Port.DMC_SCRUB 17 = true)
    (due : s.dmc.scrubAt + max 1 (s.getF Port.DMC_SCRUB 11 0) * 16 ≤ s.time.wall) :
    s.dramScrub = if s.scrubRead.dmcState = 6 then s.scrubRead else
      { s.scrubRead with
        mem := { s.scrubRead.mem with dramErr := Cells.del s.scrubRead.mem.dramErr s.dmc.scrubPos } } := by
  unfold State.dramScrub
  rw [if_neg (by simp [runs, on]; omega)]
  rfl

theorem dramScrub_steps {s : State} (runs : s.dmcState = 4) (on : s.getB Port.DMC_SCRUB 17 = true)
    (due : s.dmc.scrubAt + max 1 (s.getF Port.DMC_SCRUB 11 0) * 16 ≤ s.time.wall)
    (data : s.dramBad s.dmc.scrubPos / 8 % 8 = 0) (tag : s.dramBad s.dmc.scrubPos < 128) :
    s.touches [.regs, .mem, .pends, .dmc, .evf] [Blk.evf, Blk.dmc] s.dramScrub ∧
    s.dramScrub.dramBad s.dmc.scrubPos = 0 ∧ s.dramScrub.dmc = s.scrubMoved.dmc ∧
    s.dramScrub.mem.dram = s.mem.dram ∧ s.dramScrub.dmcState = 4 := by
  have read : s.scrubRead = s.scrubMoved ∨ s.scrubRead = s.scrubMoved.count Port.DMC_CECNT :=
    dramRead_scrub (s := s.scrubMoved) (by rw [scrubMoved_state]; omega) (by rw [scrubMoved_dramBad]; exact data)
      (by rw [scrubMoved_dramBad]; exact tag)
  have frame : s.scrubMoved.touches [.regs] [Blk.dmc] s.scrubRead := by
    rcases read with e | e
    · rw [e]; exact .refl _ _ _
    · rw [e]; exact set_touches _ _ (by decide)
  have state : s.scrubRead.dmcState = 4 := by
    rw [← runs]
    refine Eq.trans ?_ (scrubMoved_state s)
    rcases read with e | e
    · rw [e]
    · rw [e, State.dmcState, State.getF, State.get_count_other _ (by decide)]; rfl
  rw [dramScrub_due runs on due, if_neg (by omega)]
  refine ⟨(((scrubMoved_touches s).seq frame).seq (mem_touches _ _)).mono (by decide) (by decide), ?_,
    frame.dmc_eq (by decide), ?_, state⟩
  · exact (Cells.rd_del _ _ _ _).trans (if_pos rfl)
  · exact (congrArg Mem.dram ((frame.mem_eq (by decide)).trans ((scrubMoved_touches s).mem_eq (by decide))) :)

/-- A drift asks for a retrain; the check's grant is given back. -/
theorem pcalRead_drift {s : State} (mr4 : BitVec 8) (free : s.granted Act.dramRetrain = false) :
    ((s.pcalRead mr4).pcalEnd false true).dmcState = s.dmcState ∧
    ((s.pcalRead mr4).pcalEnd false true).granted Act.dramPcal = false ∧
    ((s.pcalRead mr4).pcalEnd false true).dmc.driftPend = true ∧
    ((s.pcalRead mr4).pcalEnd false true).waits Act.dramRetrain = true := by
  let d : State := { s.pcalRead mr4 with dmc := { (s.pcalRead mr4).dmc with driftPend := true } }
  have asked : d.touches [.regs, .sluice] [Blk.mnt] (d.sluiceAsk Act.dramRetrain) := sluiceAsk_touches d _
  have grant : d.granted Act.dramRetrain = false := by
    have read : d.granted Act.dramRetrain = s.pcalDone.granted Act.dramRetrain :=
      congrArg (bitOf · Act.dramRetrain) (pcalRead_get s mr4 (by decide) (by decide))
    rw [read]
    exact (sluiceDrop_granted_other _ (by decide) (by decide)).trans free
  rw [pcalEnd_drift]
  refine ⟨?_, (sluiceAsk_granted d _ _).trans (pcalRead_granted s mr4), ?_, sluiceAsk_waits (by decide) grant⟩
  · exact (congrArg (fld · 17 15) (asked.2 Port.DMC_STAT (by decide))).trans (pcalRead_state s mr4)
  · exact (congrArg Dmc.driftPend (asked.dmc_eq (by decide)) :)

/-- A density that differs freezes the controller with cause 5. -/
theorem pcalRead_freezes {s : State} (mr4 : BitVec 8) (drifted : Bool) (runs : s.dmcState = 4) :
    ((s.pcalRead mr4).pcalEnd true drifted).dmcState = 6 ∧
    ((s.pcalRead mr4).pcalEnd true drifted).getF Port.DMC_FRZ_CAUSE 17 15 = 5 ∧
    s.counts Port.DMC_FRZCNT ((s.pcalRead mr4).pcalEnd true drifted) ∧
    ((s.pcalRead mr4).pcalEnd true drifted).getB Port.DMC_FLAGS 4 = true ∧
    s.raises Irq.DMC_EVT ((s.pcalRead mr4).pcalEnd true drifted) ∧
    ((s.pcalRead mr4).pcalEnd true drifted).granted Act.dramPcal = false := by
  obtain ⟨block, tag, e⟩ := dmcPathFreeze_is (s.pcalRead mr4) 5
  have state : (s.pcalRead mr4).dmcState = 4 := (pcalRead_state s mr4).trans runs
  have runs' : (s.pcalRead mr4).nextFree.dmcState = 3 ∨ (s.pcalRead mr4).nextFree.dmcState = 4 := .inr state
  have inReset : ∀ c, ((s.pcalRead mr4).core c).inReset = (s.core c).inReset :=
    (pcalRead_touches s mr4).inReset (by decide)
  rw [pcalEnd_frozen, e]
  refine ⟨freeze_state runs' _ _ _ _ _, ?_, ?_, freeze_flagged runs' _ _ _ _ _, fun c up => ?_, ?_⟩
  · rw [State.getF, freeze_cause runs', (frzCause_fields _ _ _).1]
  · refine (freeze_counts runs' _ _ _ _ _).trans (congrArg satInc ?_)
    exact (pcalRead_get s mr4 (by decide) (by decide)).trans ((pcalDone_touches s).2 Port.DMC_FRZCNT (by decide))
  · exact freeze_raises runs' 5 5 0 block tag c ((inReset c).trans up)
  · have kept := (freeze_touches runs' 5 5 0 block tag).2 Port.MNT_GRANT (by decide)
    exact (congrArg (bitOf · Act.dramPcal) kept).trans (pcalRead_granted s mr4)

/-- Settles O32, by the scheduler's start (`dramStart_starts`, `dramStart_asleep`), the end of a core's access
(`endWait_spec`) and the duties (`pcalRead_freezes`, `pcalRead_drift`, `pcalEnd_hot`, `retrainDq_runs`,
`dramScrub_steps`). -/
theorem dramRequestsAreServedInOrder : Obligations.DramRequestsAreServedInOrder := by
  unfold Obligations.DramRequestsAreServedInOrder
  intro s
  refine ⟨fun rests => ⟨_, rfl, dramStart_rests rests⟩,
    fun r free next runs => ⟨_, rfl, dramStart_starts free next runs⟩,
    fun a b free runs two ports blocks lower => ⟨_, rfl, ?order⟩,
    fun stopped awake => ⟨_, rfl, dramStart_asleep stopped awake⟩,
    fun idle => ⟨_, rfl, dramDone_idle idle⟩,
    fun c r w cur port waits direct read same inside runs whole owner =>
      completes_eq rfl (dramDone_reads cur port waits direct read same whole owner) ?reads,
    fun c r w cur port waits direct write same inside runs whole owner =>
      completes_eq rfl (dramDone_writes cur port waits direct write same runs whole owner) ?writes,
    ⟨_, rfl, rfl⟩, ⟨_, rfl, rfl⟩,
    fun mr4 mr8 drifted rests => ⟨_, rfl, periodicCal_rests mr4 mr8 drifted rests⟩,
    fun mr4 mr8 drifted runs due free => completes_eq rfl (periodicCal_asks mr4 mr8 drifted runs due free) ?asks,
    fun mr4 mr8 k drifted runs due held trained differs =>
      completes_eq rfl ((periodicCal_runs mr4 mr8 drifted runs due held).1 k trained) ?freezes,
    fun mr4 mr8 runs due held trained =>
      completes_eq rfl ((periodicCal_runs mr4 mr8 false runs due held).1 mr8 trained) ?good,
    fun mr4 mr8 runs due held trained free =>
      completes_eq rfl ((periodicCal_runs mr4 mr8 true runs due held).1 mr8 trained) ?drifts,
    fun mr4 mr8 drifted runs due held hot => ⟨_, rfl, ?hot⟩,
    fun runs drift held => ⟨_, rfl, retrainDq_runs runs drift held⟩,
    fun rests => ⟨_, rfl, retrainDq_rests rests⟩,
    fun runs on due data tag => ⟨_, rfl, dramScrub_steps runs on due data tag⟩,
    fun rests => ⟨_, rfl, dramScrub_rests rests⟩⟩
  case order =>
    obtain ⟨frame, cur, queue, -⟩ := dramStart_starts free (nextDram_lower_rank two ports blocks lower) (.inl runs)
    refine ⟨frame, cur, queue.trans ?_⟩
    have apart : a ≠ b := fun e => ports (congrArg DramReq.port e)
    rw [two, List.erase_cons_tail (by simpa using apart), List.erase_cons_head]
  case reads =>
    obtain ⟨only, ended, reg, pc⟩ := endWait_spec (s.idled.dramWake r.port) c w ((s.dramRds r.block).getD w.idx 0)
    obtain ⟨used, dmc⟩ := dramWake_dmc s.idled r.port
    have frame := coreOnly_touches only
    refine ⟨(((idled_touches s).seq (dramWake_touches _ _)).seq frame).mono (by decide) (by decide), ?_, ended, ?_, ?_, ?_⟩
    · rw [frame.1 .dmc (by decide), dmc]; rfl
    · rw [reg read, dramRds_getD s r.block inside, same]
    · rw [pc, dramWake_core]; rfl
    · rw [coreOnly_mem only, dramWake_mem]; rfl
  case writes =>
    let t := (s.idled.dramWake r.port).dramWr r.block ((s.dramRds r.block).set w.idx w.v) ([3, 4, 1, 2].getD r.port 0) 0
    obtain ⟨only, ended, -, pc⟩ := endWait_spec t c w 0
    obtain ⟨used, dmc⟩ := dramWake_dmc s.idled r.port
    have frame := coreOnly_touches only
    have mem := coreOnly_mem only
    have before := dramWake_mem s.idled r.port
    have rds : (s.idled.dramWake r.port).dramRds r.block = s.dramRds r.block :=
      congrArg (fun m : Mem => Cells.rds (fun _ => 0) m.dram (r.block * 12) 12) before
    have word : ∀ j i, (t.endWait c w 0).dramWord j i = t.dramWord j i := fun j i =>
      congrArg (fun m : Mem => Cells.rd (fun _ => 0) m.dram (j * 12 + i)) mem
    have written : ∀ j i, i < 12 → t.dramWord j i = if j = r.block ∧ i = w.idx then w.v else s.dramWord j i := by
      intro j i hi
      have := dramWr_set_word (s.idled.dramWake r.port) r.block ([3, 4, 1, 2].getD r.port 0) 0 w.v inside j hi
      rw [rds] at this
      refine this.trans ?_
      rw [show (s.idled.dramWake r.port).dramWord j i = s.dramWord j i from
        congrArg (fun m : Mem => Cells.rd (fun _ => 0) m.dram (j * 12 + i)) before]
    refine ⟨((((idled_touches s).seq (dramWake_touches _ _)).seq (dramWr_touches _ _ _ _ _)).seq frame).mono
      (by decide) (by decide), ?_, ended, ?_, fun j i hi other => ?_, ?_, ?_, ?_⟩
    · rw [frame.1 .dmc (by decide)]; exact congrArg Dmc.cur dmc
    · rw [word, written _ _ inside, if_pos ⟨same, rfl⟩]
    · rw [word, written _ _ hi, if_neg (fun h => other.elim (fun ne => ne (h.1.trans same.symm)) fun ne => ne h.2)]
    · rw [pc]
      exact congrArg (fun x : Core → CoreState => (x c).pc + BitVec.ofNat 18 w.words) (dramWake_core s.idled r.port)
    · rw [mem]; exact (congrArg Mem.sram before :)
    · rw [mem]; exact (congrArg Mem.flash before :)
  case asks =>
    exact ⟨sluiceAsk_touches s _, sluiceAsk_waits (by decide) free⟩
  case freezes =>
    rw [decide_eq_true differs]
    have frame := pcalEnd_touches ((pcalRead_state s mr4).trans runs) true drifted
    exact ⟨((pcalRead_touches s mr4).seq frame).mono (by decide) (by decide), pcalRead_freezes mr4 drifted runs⟩
  case good =>
    rw [decide_eq_false (not_not_intro rfl), pcalEnd_good]
    exact ⟨pcalRead_touches s mr4, (pcalRead_state s mr4).trans runs, pcalRead_granted s mr4, pcalRead_dmc s mr4⟩
  case drifts =>
    rw [decide_eq_false (not_not_intro rfl)]
    have frame := pcalEnd_touches ((pcalRead_state s mr4).trans runs) false true
    obtain ⟨state, grant, drift, asked⟩ := pcalRead_drift mr4 free
    exact ⟨((pcalRead_touches s mr4).seq frame).mono (by decide) (by decide), state.trans runs, grant, drift, asked⟩
  case hot =>
    obtain ⟨flag, raised⟩ := pcalRead_hot s hot
    have state := (pcalRead_state s mr4).trans runs
    cases read : s.dmc.mr8 with
    | some k =>
      rw [(periodicCal_runs mr4 mr8 drifted runs due held).1 k read]
      exact ⟨((pcalRead_touches s mr4).seq (pcalEnd_touches state _ drifted)).mono (by decide) (by decide),
        pcalEnd_hot state _ drifted flag raised⟩
    | none =>
      obtain ⟨bad, run⟩ := (periodicCal_runs mr4 mr8 drifted runs due held).2 read
      have state' : (s.pcalRead mr4).nextFree.dmcState = 4 := state
      rw [run]
      exact ⟨(((pcalRead_touches s mr4).seq (nextFree_touches _)).seq (pcalEnd_touches state' bad drifted)).mono
        (by decide) (by decide), pcalEnd_hot state' bad drifted flag
          ((nextFree_touches _).keeps_raised (by decide) (by decide) raised)⟩

end Sys2Proof.Machine

/-! The statement of 17_power_clocks_resets_maintenance.md on the Sluice and the sensors (O45). -/

namespace Sys2Proof.Machine

open Sys2Proof

/-! ## A grant (R407, R410) -/

theorem sluiceGive_granted_at (s : State) {a : Nat} (ha : a < 18) (b : Nat) :
    (s.sluiceGive a).granted b = (decide (b = a) || s.granted b) := by
  by_cases same : b = a
  · rw [same, sluiceGive_granted s ha]; simp
  · rw [decide_eq_false same, Bool.false_or]
    refine (State.getB_setB_other _ _ _ _ _ _ ha (Ne.symm same)).trans ?_
    exact sluiceDrop_granted_other s ha (Ne.symm same)

theorem sluiceGive_waits_at (s : State) {a : Nat} (ha : a < 18) (b : Nat) :
    (s.sluiceGive a).waits b = (!decide (b = a) && s.waits b) := by
  have grant : (s.sluiceGive a).waits b = (s.sluiceDrop a).waits b :=
    congrArg (bitOf · b) (State.get_setB_other _ _ _ (by decide))
  rw [grant]
  by_cases same : b = a
  · rw [same, sluiceDrop_waits s ha]; simp
  · rw [sluiceDrop_waits_other s ha (Ne.symm same), decide_eq_false same]; rfl

theorem sluiceGive_inhibit (s : State) (a : Nat) : (s.sluiceGive a).get Port.MNT_INHIBIT = s.get Port.MNT_INHIBIT := by
  unfold State.sluiceGive State.sluiceDrop
  rw [State.get_setB_other _ _ _ (by decide), State.get_setB_other _ _ _ (by decide),
    State.get_setB_other _ _ _ (by decide), State.get_setB_other _ _ _ (by decide)]
  rfl

theorem sluiceGive_aged_other (s : State) {a b : Nat} (ha : a < 18) (other : b ≠ a) :
    (s.sluiceGive a).getB Port.MNT_AGED b = s.getB Port.MNT_AGED b := by
  unfold State.sluiceGive State.sluiceDrop
  rw [State.getB, State.get_setB_other _ _ _ (by decide), ← State.getB,
    State.getB_setB_other _ _ _ _ _ _ ha (Ne.symm other), State.getB, State.get_setB_other _ _ _ (by decide),
    State.get_setB_other _ _ _ (by decide)]
  rfl

theorem actConflict_self (a : Nat) : actConflict a a = false := by simp [actConflict]

theorem actConflict_symm {a b : Nat} (ha : a < 12) (hb : b < 12) (h : actConflict a b = true) :
    actConflict b a = true := by
  have all : ∀ a < 12, ∀ b < 12, actConflict a b = true → actConflict b a = true := by decide
  exact all a ha b hb h

/-- A holder in conflict shuts an activity out. -/
theorem sluiceClear_false_iff (s : State) (a : Nat) :
    s.sluiceClear a = false ↔ ∃ b < 12, s.granted b = true ∧ actConflict a b = true := by
  unfold State.sluiceClear
  rw [List.all_eq_false]
  simp

/-! ## One activity's turn (R408) -/

/-- What follows a grant: a receive chain's calibration, or the start of a measurement. -/
def State.afterGrant (s : State) (a : Nat) : State :=
  if a = Act.rxcal 0 then s.bgGranted 0 else if a = Act.rxcal 1 then s.bgGranted 1 else
  if a = Act.rtcMeas then { s with sluice := { s.sluice with fmcFrom := s.time.rtcEdges } } else s

/-- An activity's turn in the pass of the aged or of the others ends with its grant. -/
def State.hasTurn (s : State) (aged : Bool) (a : Nat) : Prop :=
  s.waits a = true ∧ s.getB Port.MNT_AGED a = aged ∧ s.getB Port.MNT_INHIBIT a = false ∧ s.sluiceClear a = true ∧
    (!aged && (List.range 12).any fun b => s.getB Port.MNT_AGED b && actConflict a b) = false

theorem sluiceTry_gives {s : State} {aged : Bool} {a : Nat} (h : s.hasTurn aged a) :
    s.sluiceTry aged a = (s.sluiceGive a).afterGrant a := if_pos h

theorem sluiceTry_passes {s : State} {aged : Bool} {a : Nat} (h : ¬s.hasTurn aged a) : s.sluiceTry aged a = s := if_neg h

theorem bgGranted_touches (s : State) (c : Nat) : s.touches [.rx] [] (s.bgGranted c) :=
  .ite (rx_touches s _) (.refl _ _ s)

theorem afterGrant_touches (s : State) (a : Nat) : s.touches [.rx, .sluice] [] (s.afterGrant a) :=
  .ite ((bgGranted_touches s 0).mono (by decide) (by decide)) <|
  .ite ((bgGranted_touches s 1).mono (by decide) (by decide)) <|
  .ite ((sluice_touches s _).mono (by decide) (by decide)) (.refl _ _ s)

theorem afterGrant_get (s : State) (a q : Nat) : (s.afterGrant a).get q = s.get q :=
  (afterGrant_touches s a).2 q (by simp)

theorem afterGrant_touches_other (s : State) {a : Nat} (zero : a ≠ Act.rxcal 0) (one : a ≠ Act.rxcal 1) :
    s.touches [.sluice] [] (s.afterGrant a) := by
  rw [State.afterGrant, if_neg zero, if_neg one]
  exact .ite (sluice_touches s _) (.refl _ _ s)

theorem sluiceTry_touches (s : State) (aged : Bool) (a : Nat) :
    s.touches [.regs, .rx, .sluice] [Blk.mnt] (s.sluiceTry aged a) := by
  by_cases turn : s.hasTurn aged a
  · rw [sluiceTry_gives turn]
    exact ((sluiceGive_touches s a).seq (afterGrant_touches _ a)).mono (by decide) (by decide)
  · rw [sluiceTry_passes turn]
    exact .refl _ _ s

/-- A turn leaves every other activity's grant. -/
theorem sluiceTry_granted (s : State) (aged : Bool) {a : Nat} (ha : a < 18) (b : Nat) :
    (s.sluiceTry aged a).granted b = s.granted b ∨
    (b = a ∧ s.sluiceClear a = true ∧ s.getB Port.MNT_INHIBIT a = false ∧ (s.sluiceTry aged a).granted b = true) := by
  by_cases turn : s.hasTurn aged a
  · have given : (s.sluiceTry aged a).granted b = (decide (b = a) || s.granted b) := by
      rw [sluiceTry_gives turn, State.granted, State.getB, afterGrant_get]
      exact sluiceGive_granted_at s ha b
    obtain ⟨-, -, allowed, clear, -⟩ := turn
    by_cases same : b = a
    · exact .inr ⟨same, clear, allowed, by rw [given, decide_eq_true same, Bool.true_or]⟩
    · exact .inl (by simp [given, same])
  · exact .inl (by rw [sluiceTry_passes turn])

/-- An activity whose turn does not come waits on. -/
theorem sluiceTry_waits (s : State) (aged : Bool) {a : Nat} (ha : a < 18) {b : Nat}
    (out : b ≠ a ∨ s.sluiceClear a = false ∨ s.getB Port.MNT_INHIBIT a = true) :
    (s.sluiceTry aged a).waits b = s.waits b := by
  by_cases turn : s.hasTurn aged a
  · obtain ⟨-, -, allowed, clear, -⟩ := id turn
    have other : b ≠ a := out.resolve_right (by simp [allowed, clear])
    rw [sluiceTry_gives turn, State.waits, State.getB, afterGrant_get]
    exact (sluiceGive_waits_at s ha b).trans (by simp [other])
  · rw [sluiceTry_passes turn]

theorem sluiceTry_inhibit (s : State) (aged : Bool) (a : Nat) :
    (s.sluiceTry aged a).get Port.MNT_INHIBIT = s.get Port.MNT_INHIBIT := by
  by_cases turn : s.hasTurn aged a
  · rw [sluiceTry_gives turn, afterGrant_get, sluiceGive_inhibit]
  · rw [sluiceTry_passes turn]

/-! ## A cycle of the Sluice -/

/-- What every turn keeps, a cycle keeps. -/
theorem sluiceCycle_inv (P : State → Prop) (keeps : ∀ aged, ∀ a < 12, ∀ t, P t → P (t.sluiceTry aged a)) {s : State}
    (start : P s) : P s.sluiceCycle := by
  have pass : ∀ aged n, n ≤ 12 → ∀ t, P t → P (forNat n (fun a t => t.sluiceTry aged a) t) := by
    intro aged n
    induction n with
    | zero => exact fun _ t h => h
    | succ n ih =>
      intro bound t h
      rw [forNat_succ]
      exact keeps aged n (by omega) _ (ih (by omega) t h)
  unfold State.sluiceCycle
  split
  · exact pass false 12 (by decide) _ (pass true 12 (by decide) s start)
  · exact start

/-- No two activities in conflict hold grants. -/
def State.grantsAgree (s : State) : Prop :=
  ∀ x, x < 12 → ∀ y, y < 12 → actConflict x y = true → (s.granted x && s.granted y) = false

theorem sluiceTry_grantsAgree {s : State} (aged : Bool) {a : Nat} (ha : a < 12) (agree : s.grantsAgree) :
    (s.sluiceTry aged a).grantsAgree := by
  intro x hx y hy conflict
  have old := agree x hx y hy conflict
  rcases sluiceTry_granted s aged (Nat.lt_trans ha (by decide)) x with sameX | ⟨rfl, clear, -⟩
  · rcases sluiceTry_granted s aged (Nat.lt_trans ha (by decide)) y with sameY | ⟨rfl, clear, -⟩
    · rw [sameX, sameY, old]
    · have free : s.granted x = false := by
        by_contra held
        rw [(sluiceClear_false_iff s y).mpr ⟨x, hx, by simpa using held, actConflict_symm hx hy conflict⟩] at clear
        exact absurd clear (by decide)
      rw [sameX, free, Bool.false_and]
  · have free : s.granted y = false := by
      by_contra held
      rw [(sluiceClear_false_iff s x).mpr ⟨y, hy, by simpa using held, conflict⟩] at clear
      exact absurd clear (by decide)
    have other : y ≠ x := by rintro rfl; rw [actConflict_self] at conflict; exact absurd conflict (by decide)
    rcases sluiceTry_granted s aged (Nat.lt_trans ha (by decide)) y with sameY | ⟨same, -⟩
    · rw [sameY, free, Bool.and_false]
    · exact absurd same other

/-- An activity without a grant is shut out: inhibited, or in conflict with a holder. -/
def State.shutOut (s : State) (a : Nat) (waits : Bool) : Prop :=
  s.granted a = false ∧ s.waits a = waits ∧ (s.getB Port.MNT_INHIBIT a = true ∨ s.sluiceClear a = false)

theorem sluiceTry_shutOut {s : State} (aged : Bool) {x a : Nat} {waits : Bool} (hx : x < 12)
    (h : s.shutOut a waits) : (s.sluiceTry aged x).shutOut a waits := by
  obtain ⟨free, waiting, shut⟩ := h
  have inhibit : (s.sluiceTry aged x).getB Port.MNT_INHIBIT a = s.getB Port.MNT_INHIBIT a :=
    congrArg (bitOf · a) (sluiceTry_inhibit s aged x)
  have hx' : x < 18 := Nat.lt_trans hx (by decide)
  refine ⟨?_, ?_, shut.imp (fun on => inhibit.trans on) fun holder => ?_⟩
  · rcases sluiceTry_granted s aged hx' a with same | ⟨rfl, clear, allowed, -⟩
    · exact same.trans free
    · simp [clear, allowed] at shut
  · refine (sluiceTry_waits s aged hx' ?_).trans waiting
    by_cases same : a = x
    · exact .inr (same ▸ shut.symm)
    · exact .inl same
  · obtain ⟨b, hb, held, conflict⟩ := (sluiceClear_false_iff s a).mp holder
    refine (sluiceClear_false_iff _ a).mpr ⟨b, hb, ?_, conflict⟩
    rcases sluiceTry_granted s aged hx' b with same | ⟨-, -, -, given⟩
    · exact same.trans held
    · exact given

/-- A pass in which one turn alone can change something is that turn. -/
theorem forNat_single {n a : Nat} {f : Nat → State → State} {s : State} (ha : a < n)
    (before : ∀ i < n, i ≠ a → f i s = s) (after : ∀ i < n, i ≠ a → f i (f a s) = f a s) : forNat n f s = f a s := by
  induction n with
  | zero => omega
  | succ n ih =>
    rw [forNat_succ]
    by_cases last : a = n
    · subst last
      rw [forNat_fixed fun i hi => before i (by omega) (by omega)]
    · rw [ih (by omega) (fun i hi => before i (by omega)) (fun i hi => after i (by omega)),
        after n (by omega) (Ne.symm last)]

/-- With one activity that waits and may have its grant, a cycle is its grant. -/
theorem sluiceCycle_single {s : State} {a : Nat} (ha : a < 12) (clocked : s.mntClocked = true) (waits : s.waits a = true)
    (allowed : s.getB Port.MNT_INHIBIT a = false) (clear : s.sluiceClear a = true)
    (alone : ∀ b, b < 12 → b ≠ a → s.waits b = false ∧ s.getB Port.MNT_AGED b = false) :
    s.sluiceCycle = (s.sluiceGive a).afterGrant a := by
  let g := (s.sluiceGive a).afterGrant a
  have ha' : a < 18 := Nat.lt_trans ha (by decide)
  have silent : ∀ aged b, b < 12 → b ≠ a → s.sluiceTry aged b = s := fun aged b hb other =>
    sluiceTry_passes fun turn => absurd turn.1 (by simp [(alone b hb other).1])
  have silent' : ∀ aged b, b < 12 → g.sluiceTry aged b = g := fun aged b hb => sluiceTry_passes fun turn => by
    have given : g.waits b = false := by
      have read : g.waits b = (s.sluiceGive a).waits b := congrArg (bitOf · b) (afterGrant_get _ a _)
      rw [read, sluiceGive_waits_at s ha']
      by_cases same : b = a
      · simp [same]
      · rw [(alone b hb same).1, Bool.and_false]
    exact absurd turn.1 (by simp [given])
  have turn : ∀ aged, s.getB Port.MNT_AGED a = aged → s.hasTurn aged a := by
    intro aged age
    refine ⟨waits, age, allowed, clear, ?_⟩
    rw [Bool.and_eq_false_iff]
    refine .inr (List.any_eq_false.mpr fun b hb => ?_)
    by_cases same : b = a
    · simp [same, actConflict_self]
    · simp [(alone b (List.mem_range.mp hb) same).2]
  have none : ∀ aged, s.getB Port.MNT_AGED a ≠ aged → forNat 12 (fun b t => t.sluiceTry aged b) s = s :=
    fun aged age => forNat_fixed fun b hb => by
      by_cases same : b = a
      · exact sluiceTry_passes fun turn => age (same ▸ turn.2.1)
      · exact silent aged b hb same
  have one : ∀ aged, s.getB Port.MNT_AGED a = aged → forNat 12 (fun b t => t.sluiceTry aged b) s = g := fun aged age => by
    have given : s.sluiceTry aged a = g := sluiceTry_gives (turn aged age)
    rw [forNat_single ha (fun b hb other => silent aged b hb other) fun b hb _ => by rw [given]; exact silent' aged b hb,
      given]
  have rest : forNat 12 (fun b t => t.sluiceTry false b) g = g := forNat_fixed fun b hb => silent' false b hb
  unfold State.sluiceCycle
  rw [if_pos clocked]
  cases age : s.getB Port.MNT_AGED a with
  | true => rw [one true age, rest]
  | false => rw [none true (by simp [age]), one false age]

/-- The one aged activity goes before one in conflict with it. -/
theorem sluiceCycle_aged_first {s : State} {a b : Nat} (hb : b < 12) (clocked : s.mntClocked = true)
    (waits : s.waits b = true) (conflict : actConflict a b = true) (open_ : s.get Port.MNT_INHIBIT = 0)
    (free : s.get Port.MNT_GRANT = 0) (aged : s.getB Port.MNT_AGED b = true)
    (young : ∀ x, x < 12 → x ≠ b → s.getB Port.MNT_AGED x = false) :
    s.sluiceCycle.granted b = true ∧ s.sluiceCycle.granted a = false := by
  have hb' : b < 18 := Nat.lt_trans hb (by decide)
  have apart : a ≠ b := by rintro rfl; rw [actConflict_self] at conflict; exact absurd conflict (by decide)
  have none : ∀ x, s.granted x = false := fun x => by rw [State.granted, State.getB, free]; simp [bitOf]
  have allowed : s.getB Port.MNT_INHIBIT b = false := by rw [State.getB, open_]; simp [bitOf]
  have clear : s.sluiceClear b = true := by
    by_contra shut
    obtain ⟨x, -, held, -⟩ := (sluiceClear_false_iff s b).mp (by simpa using shut)
    exact absurd held (by simp [none x])
  have turn : s.hasTurn true b := ⟨waits, aged, allowed, clear, rfl⟩
  let g := (s.sluiceGive b).afterGrant b
  have given : s.sluiceTry true b = g := sluiceTry_gives turn
  have first : forNat 12 (fun x t => t.sluiceTry true x) s = g := by
    rw [forNat_single hb ?before ?after, given]
    case before => exact fun x hx other => sluiceTry_passes fun turn => absurd turn.2.1 (by simp [young x hx other])
    case after =>
      intro x hx other
      rw [given]
      refine sluiceTry_passes fun turn => absurd turn.2.1 ?_
      have read : g.getB Port.MNT_AGED x = s.getB Port.MNT_AGED x :=
        (congrArg (bitOf · x) (afterGrant_get _ b _)).trans (sluiceGive_aged_other s hb' other)
      simp [read, young x hx other]
  have grants : ∀ x, g.granted x = decide (x = b) := fun x => by
    have read : g.granted x = (s.sluiceGive b).granted x := congrArg (bitOf · x) (afterGrant_get _ b _)
    rw [read, sluiceGive_granted_at s hb', none x, Bool.or_false]
  have kept : ∀ t : State, t.granted b = true ∧ t.granted a = false → ∀ x < 12,
      (t.sluiceTry false x).granted b = true ∧ (t.sluiceTry false x).granted a = false := by
    rintro t ⟨held, out⟩ x hx
    have hx' : x < 18 := Nat.lt_trans hx (by decide)
    constructor
    · rcases sluiceTry_granted t false hx' b with same | ⟨-, -, -, on⟩
      · exact same.trans held
      · exact on
    · rcases sluiceTry_granted t false hx' a with same | ⟨rfl, shut, -, -⟩
      · exact same.trans out
      · rw [(sluiceClear_false_iff t a).mpr ⟨b, hb, held, conflict⟩] at shut
        exact absurd shut (by decide)
  have second : ∀ n ≤ 12, (forNat n (fun x t => t.sluiceTry false x) g).granted b = true ∧
      (forNat n (fun x t => t.sluiceTry false x) g).granted a = false := by
    intro n
    induction n with
    | zero => exact fun _ => ⟨by simp [forNat, grants], by simp [forNat, grants, apart]⟩
    | succ n ih =>
      intro bound
      rw [forNat_succ]
      exact kept _ (ih (by omega)) n (by omega)
  unfold State.sluiceCycle
  rw [if_pos clocked, first]
  exact second 12 (by decide)

theorem sluiceCycle_touches (s : State) : s.touches [.regs, .rx, .sluice] [Blk.mnt] s.sluiceCycle :=
  sluiceCycle_inv (s.touches [.regs, .rx, .sluice] [Blk.mnt])
    (fun aged a _ t h => h.trans (sluiceTry_touches t aged a)) (.refl _ _ s)

/-! ## Ageing (R408) -/

theorem sluiceAge_ages {s : State} {a k : Nat} (ha : a < 18) (waits : s.waits a = true)
    (young : s.getB Port.MNT_AGED a = false) (since : Cells.rd (fun _ => 0) s.sluice.since a = k + 1)
    (due : k + max 1 (s.getF Port.MNT_CFG 17 9) * 16000 ≤ s.time.wall) :
    s.touches [.regs, .pends, .evf] [Blk.evf, Blk.mnt] (s.sluiceAge a) ∧ (s.sluiceAge a).getB Port.MNT_AGED a = true ∧
    s.counts Port.MNT_AGEDCNT (s.sluiceAge a) ∧ s.raises Irq.MNT_EVT (s.sluiceAge a) := by
  have run : s.sluiceAge a = ((s.setB Port.MNT_AGED a true).count Port.MNT_AGEDCNT).raise Irq.MNT_EVT := by
    unfold State.sluiceAge
    dsimp only
    rw [since, if_pos ⟨waits, young, by omega, by omega⟩]
  have counted : s.touches [.regs] [Blk.mnt] ((s.setB Port.MNT_AGED a true).count Port.MNT_AGEDCNT) :=
    (set_touches (b := Blk.mnt) s _ (by decide)).trans (set_touches _ _ (by decide))
  rw [run]
  refine ⟨(counted.seq (raise_touches _ _)).mono (by decide) (by decide), ?_, ?_,
    counted.raises (by decide) (by decide)⟩
  · rw [State.getB, raise_get _ _ _ (by decide), State.get_count_other _ (by decide)]
    exact State.getB_setB_same _ _ _ _ ha
  · refine (raise_get _ _ _ (by decide)).trans ((State.get_count_same _ _).trans ?_)
    rw [State.get_setB_other _ _ _ (by decide)]

theorem sluiceAge_rests {s : State} {a : Nat} (rests : s.waits a = false ∨ s.getB Port.MNT_AGED a = true) :
    s.sluiceAge a = s := by
  refine if_neg ?_
  rintro ⟨waits, young, -⟩
  simp [waits, young] at rests

/-! ## The sensors (R411, R412) -/

theorem calPending_touches (s : State) (x : TxChain) :
    s.touches [.regs, .tx, .sluice] [Blk.txc, Blk.mnt] (s.calPending x.num) :=
  .ite (((setTxCal_touches s x _).seq (sluiceAsk_touches _ _)).mono (by decide) (by decide)) (.refl _ _ s)

theorem calByTemp_touches (s : State) (x : TxChain) :
    s.touches [.regs, .tx, .sluice] [Blk.txc, Blk.mnt] (s.calByTemp x.num) :=
  .ite (calPending_touches s x) (.refl _ _ s)

theorem calByTemp_granted (s : State) (x : TxChain) (a : Nat) : (s.calByTemp x.num).granted a = s.granted a := by
  unfold State.calByTemp State.calPending
  dsimp only
  split
  · split
    · rw [sluiceAsk_granted]
      exact congrArg (bitOf · a) ((setTxCal_touches s x _).2 Port.MNT_GRANT (by decide))
    · rfl
  · rfl

/-- The three results of a sample. -/
def State.sampled (s : State) (temp : BitVec 9) (vs vw : BitVec 12) : State :=
  ((s.set Port.CAL_TEMP (inFld 17 17 1 ||| temp.setWidth 18)).set (Port.CAL_VPA 0) (vs.setWidth 18)).set
    (Port.CAL_VPA 1) (vw.setWidth 18)

theorem tempSampled_asks {s : State} (temp : BitVec 9) (vs vw : BitVec 12) (free : s.granted Act.temp = false) :
    s.tempSampled temp vs vw = s.sluiceAsk Act.temp := if_pos free

theorem tempSampled_samples {s : State} (temp : BitVec 9) (vs vw : BitVec 12) (held : s.granted Act.temp = true) :
    s.tempSampled temp vs vw = (((s.sampled temp vs vw).sluiceDrop Act.temp).calByTemp 0).calByTemp 1 :=
  if_neg (by simp [held])

theorem tempSampled_spec {s : State} (temp : BitVec 9) (vs vw : BitVec 12) (held : s.granted Act.temp = true) :
    s.touches [.regs, .tx, .sluice] [Blk.txc, Blk.cal, Blk.mnt] (s.tempSampled temp vs vw) ∧
    (s.tempSampled temp vs vw).get Port.CAL_TEMP = inFld 17 17 1 ||| temp.setWidth 18 ∧
    (s.tempSampled temp vs vw).get (Port.CAL_VPA 0) = vs.setWidth 18 ∧
    (s.tempSampled temp vs vw).get (Port.CAL_VPA 1) = vw.setWidth 18 ∧
    (s.tempSampled temp vs vw).granted Act.temp = false := by
  have results : s.touches [.regs] [Blk.cal] (s.sampled temp vs vw) :=
    ((set_touches (b := Blk.cal) s _ (by decide)).trans (set_touches _ _ (by decide))).trans (set_touches _ _ (by decide))
  have after : (s.sampled temp vs vw).touches [.regs, .tx, .sluice] [Blk.txc, Blk.mnt] (s.tempSampled temp vs vw) := by
    rw [tempSampled_samples temp vs vw held]
    exact (((sluiceDrop_touches _ Act.temp).seq (calByTemp_touches _ .s)).seq (calByTemp_touches _ .w)).mono (by decide)
      (by decide)
  refine ⟨(results.seq after).mono (by decide) (by decide), (after.2 _ (by decide)).trans ?_,
    (after.2 _ (by decide)).trans ?_, (after.2 _ (by decide)).trans (State.get_set_same _ _ _), ?_⟩
  · unfold State.sampled
    rw [State.get_set_other _ _ (by decide), State.get_set_other _ _ (by decide), State.get_set_same]
  · unfold State.sampled
    rw [State.get_set_other _ _ (by decide), State.get_set_same]
  · rw [tempSampled_samples temp vs vw held]
    exact (calByTemp_granted _ .w _).trans ((calByTemp_granted _ .s _).trans (sluiceDrop_granted _ (by decide)))

theorem fmcCmd_asks {s : State} (free : s.granted Act.rtcMeas = false) :
    s.touches [.regs, .sluice] [Blk.cal, Blk.mnt] (s.fmcCmd 1) ∧ (s.fmcCmd 1).getB Port.CAL_FMC_STAT 17 = true ∧
    (s.fmcCmd 1).waits Act.rtcMeas = true ∧ (s.fmcCmd 1).get Port.CAL_FMC_RES = s.get Port.CAL_FMC_RES := by
  let b := s.setB Port.CAL_FMC_STAT 17 true
  have busy : s.touches [.regs] [Blk.cal] b := set_touches s _ (by decide)
  have asked : b.touches [.regs, .sluice] [Blk.mnt] (b.sluiceAsk Act.rtcMeas) := sluiceAsk_touches b _
  have grant : b.granted Act.rtcMeas = false := (congrArg (bitOf · Act.rtcMeas) (busy.2 _ (by decide))).trans free
  rw [State.fmcCmd, if_pos rfl]
  refine ⟨(busy.seq asked).mono (by decide) (by decide), ?_, sluiceAsk_waits (by decide) grant, ?_⟩
  · exact (congrArg (bitOf · 17) (asked.2 Port.CAL_FMC_STAT (by decide))).trans
      (State.getB_setB_same _ _ _ _ (by decide))
  · exact (asked.2 _ (by decide)).trans (State.get_setB_other _ _ _ (by decide))

theorem fmcEnd_ends {s : State} (err : Word) (held : s.granted Act.rtcMeas = true)
    (elapsed : s.sluice.fmcFrom + max 1 (s.getF Port.CAL_FMC_CFG 11 0) ≤ s.time.rtcEdges) :
    s.touches [.regs, .sluice] [Blk.cal, Blk.mnt] (s.fmcEnd err) ∧ (s.fmcEnd err).get Port.CAL_FMC_RES = err ∧
    (s.fmcEnd err).getB Port.CAL_FMC_STAT 17 = false ∧ (s.fmcEnd err).getB Port.CAL_FMC_STAT 16 = true ∧
    (s.fmcEnd err).granted Act.rtcMeas = false := by
  let v := ((s.set Port.CAL_FMC_RES err).setB Port.CAL_FMC_STAT 17 false).setB Port.CAL_FMC_STAT 16 true
  have run : s.fmcEnd err = v.sluiceDrop Act.rtcMeas := by
    unfold State.fmcEnd
    rw [if_neg (by simp [held]; omega)]
  have valid : s.touches [.regs] [Blk.cal] v :=
    ((set_touches (b := Blk.cal) s _ (by decide)).trans (set_touches _ _ (by decide))).trans (set_touches _ _ (by decide))
  have dropped : v.touches [.regs, .sluice] [Blk.mnt] (v.sluiceDrop Act.rtcMeas) := sluiceDrop_touches v _
  rw [run]
  refine ⟨(valid.seq dropped).mono (by decide) (by decide), (dropped.2 _ (by decide)).trans ?_, ?_, ?_,
    sluiceDrop_granted _ (by decide)⟩
  · rw [State.get_setB_other _ _ _ (by decide), State.get_setB_other _ _ _ (by decide), State.get_set_same]
  · refine (congrArg (bitOf · 17) (dropped.2 Port.CAL_FMC_STAT (by decide))).trans ?_
    exact (State.getB_setB_other _ _ _ _ _ _ (by decide) (by decide)).trans (State.getB_setB_same _ _ _ _ (by decide))
  · exact (congrArg (bitOf · 16) (dropped.2 Port.CAL_FMC_STAT (by decide))).trans
      (State.getB_setB_same _ _ _ _ (by decide))

theorem fmcEnd_rests {s : State} (err : Word) (rests : s.granted Act.rtcMeas = false ∨
    s.time.rtcEdges < s.sluice.fmcFrom + max 1 (s.getF Port.CAL_FMC_CFG 11 0)) : s.fmcEnd err = s := if_pos rests

/-- Settles O45, by what a cycle keeps (`sluiceTry_grantsAgree`, `sluiceTry_shutOut`) and whom it grants
(`sluiceCycle_single`, `sluiceCycle_aged_first`), and by the sensors' commands. -/
theorem theSluiceAndTheSensors : Obligations.TheSluiceAndTheSensors := by
  unfold Obligations.TheSluiceAndTheSensors
  intro s
  refine ⟨fun agree => ⟨_, rfl, sluiceCycle_touches s,
      sluiceCycle_inv State.grantsAgree (fun aged a ha t h => sluiceTry_grantsAgree aged ha h) agree,
      (sluiceCycle_touches s).mem_eq (by decide)⟩,
    fun a clocked waits allowed clear alone zero one =>
      completes_eq rfl (sluiceCycle_single a.isLt clocked waits allowed clear alone) ?single,
    fun a b clocked _ waits conflict open_ free aged young =>
      ⟨_, rfl, sluiceCycle_aged_first b.isLt clocked waits conflict open_ free aged young⟩,
    fun a shut free => ⟨_, rfl, ?shut⟩,
    fun stopped => ⟨_, rfl, if_neg (by simp [stopped])⟩,
    fun a k waits young since due => ⟨_, rfl, sluiceAge_ages (Nat.lt_trans a.isLt (by decide)) waits young since due⟩,
    fun a rests => ⟨_, rfl, sluiceAge_rests rests⟩,
    fun temp vs vw free => completes_eq rfl (tempSampled_asks temp vs vw free)
      ⟨sluiceAsk_touches s _, sluiceAsk_waits (by decide) free, (sluiceAsk_touches s _).2 _ (by decide)⟩,
    fun temp vs vw held => ⟨_, rfl, tempSampled_spec temp vs vw held⟩,
    fun m a free => completes_portCmd rfl a (fmcCmd_asks free),
    fun err held elapsed => ⟨_, rfl, fmcEnd_ends err held elapsed⟩,
    fun err rests => ⟨_, rfl, fmcEnd_rests err rests⟩⟩
  case single =>
    have ha : a.val < 18 := Nat.lt_trans a.isLt (by decide)
    have grants : ∀ b, ((s.sluiceGive a.val).afterGrant a.val).granted b = (decide (b = a.val) || s.granted b) :=
      fun b => (congrArg (bitOf · b) (afterGrant_get _ _ _)).trans (sluiceGive_granted_at s ha b)
    refine ⟨((sluiceGive_touches s _).seq (afterGrant_touches_other _ zero one)).mono (by decide) (by decide),
      by simp [grants], ?_, fun b _ other => by simp [grants, other]⟩
    exact (congrArg (bitOf · a.val) (afterGrant_get _ _ _)).trans ((sluiceGive_waits_at s ha _).trans (by simp))
  case shut =>
    obtain ⟨out, waits, -⟩ := sluiceCycle_inv (fun t => t.shutOut a.val (s.waits a.val))
      (fun aged x hx t h => sluiceTry_shutOut aged hx h) ⟨free, rfl, shut⟩
    exact ⟨out, waits⟩

end Sys2Proof.Machine

/-! The statement of 15_security_and_update.md on the life cycle (O37), and of 17_power_clocks_resets_maintenance.md on the
release of domains (O43). -/

namespace Sys2Proof.Machine

open Sys2Proof

/-! ## A transition takes the link group down (R356) -/

/-- A blank part, READY, with a transition to DEVELOP asked for; PD_SEQ and PD_CIPHER are up, and the number 0x53000,
above the last copy of a master (`Blk.own`), reads as 1. -/
def leavingBlank : State :=
  { State.reset with
    regs := [(Port.RIG_STAT, 1), (Port.PWR_DOM_STAT, inFld 15 15 1 ||| inFld 2 2 1), (Port.LCF_LC_ARG, inFld 17 15 1),
             (0x53000, 1)] }

theorem leavingBlank_above : leavingBlank.get 0x53000 = 1 := rfl

/-- The registers of PD_SEQ return to Cold wherever their port stands modulo 2^16 (`domPort`). -/
theorem leavingBlank_left_above : (leavingBlank.lcCmd 1).get 0x53000 = 0 := by decide +kernel

theorem transition_runs {s : State} {m : Master} (a : s.answers m Port.LCF_LC_CMD = true) :
    exec (.transition m) s = .next (s.lcCmd 1) :=
  congrArg Host.Outcome.next (portCmd_acts s m Port.LCF_LC_CMD 1 (fun t => t.lcCmd 1) a)

/-- Refutes O37: clause (2) has an accepted transition change no register outside sixteen blocks, the last of which ends at
0x4FFFF, yet the reset of the link group clears every register whose number is one of its ports modulo 2^16: 0x53000 in
`leavingBlank`. -/
theorem not_theLifeCycleMovesOneWay : ¬ Obligations.TheLifeCycleMovesOneWay := by
  unfold Obligations.TheLifeCycleMovesOneWay
  intro h
  obtain ⟨-, accepted, -⟩ := h leavingBlank
  have answers : leavingBlank.answers .apc Port.LCF_LC_CMD = true := by decide +kernel
  obtain ⟨t, ran, frame, -⟩ := accepted .apc 1 answers (by decide +kernel) (by decide +kernel)
  have ended : leavingBlank.lcCmd 1 = t := Host.Outcome.next.inj ((transition_runs answers).symm.trans ran)
  have kept : t.get 0x53000 = leavingBlank.get 0x53000 := frame.2 0x53000 (by decide)
  rw [← ended, leavingBlank_left_above, leavingBlank_above] at kept
  exact absurd kept (by decide)

/-! ## The DRAM delays that a release brings back (R328, R330) -/

/-- A Rig of one section, the memory's, with a DRAM of density 1 (R36). -/
def dramRig : List Word := [171191, 0, 15, 1, 0, 0, 0, 0, 8192, 3, 0, 0, 1, 155559, 5960]

/-- The switch of PD_DRAMC is closed and the domain waits for its release; its training is kept, with a value under number
0x5000, which no delay register has. -/
def keptDelay : State :=
  { State.reset with
    rig := { State.reset.rig with words := dramRig },
    pwr := { State.reset.pwr with on := BitVec.twoPow 16 12 },
    dmc := { Dmc.reset with trained := true, keepDly := [(0x5000, 1)] } }

/-- The port that would be delay register 0x5000 is GPIO_CFG's, of the balls' block. -/
theorem delayPort_gpio : Port.DMC_DLY 0x5000 = Port.GPIO_CFG 0x18 := rfl

theorem keptDelay_gpio : keptDelay.get (Port.GPIO_CFG 0x18) = 0 := rfl

/-- The kept delays stand in their registers again. -/
def State.delaysBack (s : State) : State :=
  s.dmc.keepDly.foldl (fun (t : State) x => t.set (Port.DMC_DLY x.1) x.2) s

/-- Whether its read check passes or not, a release with retained training leaves the other blocks with the delays
written. -/
theorem dmcRelease_get {s : State} (device : s.rigF 2 2 2 0 ≠ 0) (trained : s.dmc.trained = true) {q : Nat}
    (away : ∀ b ∈ [Blk.evf, Blk.dmc], q < b.1 ∨ b.2 < q) : s.dmcRelease.get q = s.delaysBack.get q := by
  let u : State := ({ s.delaysBack with dmc := { s.delaysBack.dmc with trained := false, keepDly := [] } } : State)
  have run : s.dmcRelease = if Config.freeBit u.free then (u.nextFree.dmcGo 4).dmcPathFreeze 6 else u.nextFree.dmcGo 4 := by
    unfold State.dmcRelease
    rw [if_neg device, if_pos trained]
    rfl
  have runs : (u.nextFree.dmcGo 4).dmcState = 4 := dmcState_dmcGo _ (by decide)
  have goes : (u.nextFree.dmcGo 4).get q = s.delaysBack.get q := (dmcGo_touches u.nextFree 4).2 q away
  rw [run]
  split
  · exact ((dmcPathFreeze_touches runs 6).2 q away).trans goes
  · exact goes

/-- PD_DRAMC as it comes up, before its controller does. -/
def State.dmcUp (s : State) : State := ((s.zeroDomain 12).setB Port.PWR_DOM_STAT 12 true).rigDomain 12

theorem domUp_dmc (s : State) (fromReef : Bool) : s.domUp 12 fromReef = s.dmcUp.dmcRelease := rfl

/-- In Run the release of a shared domain is its start, and no more. -/
theorem domRelease_shared {s : State} {d : Nat} (on : s.pwr.on.getLsbD d = true) (down : s.domOn d = false)
    (clocked : s.time.stopped = false) (shared : 11 ≤ d) (phase : (s.domUp d (decide (s.phase = 4))).phase ≠ 4)
    (level : (s.domUp d (decide (s.phase = 4))).level ≠ 3) :
    s.domRelease d = s.domUp d (decide (s.phase = 4)) := by
  have group : groupOf d = 2 := by unfold groupOf; rw [if_neg (by omega), if_neg (by omega)]
  unfold State.domRelease
  rw [if_neg (by simp [on, down, clocked, group]; omega)]
  dsimp only
  rw [if_neg phase, if_neg level, if_neg (by omega)]

/-- The release writes the kept value back. -/
theorem keptDelay_release_gpio : (keptDelay.domRelease 12).get (Port.GPIO_CFG 0x18) = 1 := by
  have back : ∀ q, (∀ b ∈ [Blk.evf, Blk.dmc], q < b.1 ∨ b.2 < q) →
      (keptDelay.domUp 12 false).get q = keptDelay.dmcUp.delaysBack.get q := fun q away => by
    rw [domUp_dmc]
    exact dmcRelease_get (by decide +kernel) (by decide +kernel) away
  have power : (keptDelay.domUp 12 false).get Port.PWR_STAT = 0 := (back _ (by decide)).trans (by decide +kernel)
  have release : keptDelay.domRelease 12 = keptDelay.domUp 12 false :=
    domRelease_shared (by decide) (by decide) rfl (by decide)
      (show fld ((keptDelay.domUp 12 false).get Port.PWR_STAT) 11 9 ≠ 4 by rw [power]; decide)
      (show fld ((keptDelay.domUp 12 false).get Port.PWR_STAT) 17 15 ≠ 3 by rw [power]; decide)
  rw [release, back _ (by decide)]
  decide +kernel

/-- Refutes O43: clause (2) has the release of a shared domain change no register of the balls' block, yet the release of
PD_DRAMC writes back whatever delays are kept, and nothing bounds their numbers: the one of `keptDelay` falls on
GPIO_CFG 24 (`delayPort_gpio`). -/
theorem not_domainsAreReleasedAndHeldOff : ¬ Obligations.DomainsAreReleasedAndHeldOff := by
  unfold Obligations.DomainsAreReleasedAndHeldOff
  intro h
  obtain ⟨-, released, -⟩ := h keptDelay
  obtain ⟨t, ran, frame, -⟩ := released 12 (by decide) (by decide) rfl (by decide) (by decide)
  have ended : keptDelay.domRelease 12 = t := Host.Outcome.next.inj ran
  have kept : t.get (Port.GPIO_CFG 0x18) = keptDelay.get (Port.GPIO_CFG 0x18) := frame.2 _ (by decide)
  rw [← ended, keptDelay_release_gpio, keptDelay_gpio] at kept
  exact absurd kept (by decide)

end Sys2Proof.Machine

/-! The statement of 15_security_and_update.md on cipher jobs (O34). -/

namespace Sys2Proof.Machine

open Sys2Proof

/-- A refused job that runs for a sixth master, which no copy of the registers belongs to. -/
def jobOfNoMaster : SecJob := { m := 5, words := [] }

/-- The engine runs it; its checks refused it with code 1. -/
def refusedJob : State :=
  { State.reset with sec := { State.reset.sec with running := some jobOfNoMaster, jobResult := 1 } }

/-- Its result goes to a number above the last copy of a master (`Blk.own`). -/
theorem jobOfNoMaster_port : jobOfNoMaster.port 0x6012 = 0x66012 := rfl

theorem refusedJob_above : refusedJob.get 0x66012 = 0 := rfl

theorem refusedJob_end_above : refusedJob.jobFinish.get 0x66012 = inFld 14 12 1 := by decide +kernel

/-- Refutes O34: clause (10) has the end of a refused job change no register outside the event fabric and the masters' own
copies, yet the job keeps its master as a plain number, and the result of the job of `refusedJob` goes to register
0x66012 (`jobOfNoMaster_port`). -/
theorem not_cipherJobsRunInOrder : ¬ Obligations.CipherJobsRunInOrder := by
  unfold Obligations.CipherJobsRunInOrder
  intro h
  obtain ⟨-, -, -, -, -, -, -, -, -, refused, -⟩ := h refusedJob
  obtain ⟨t, ran, frame, -⟩ := refused jobOfNoMaster rfl (by decide) (by decide)
  have ended : refusedJob.jobFinish = t := Host.Outcome.next.inj ran
  have kept : t.get 0x66012 = refusedJob.get 0x66012 := frame.2 _ (by decide)
  rw [← ended, refusedJob_end_above, refusedJob_above] at kept
  exact absurd kept (by decide)

end Sys2Proof.Machine

/-! The statement of 15_security_and_update.md on the verify engine, ARM, activation and trials (O36). -/

namespace Sys2Proof.Machine

open Sys2Proof

/-- The trial of the LKC is over; PD_LKC and PD_SEQ are up, the bank's image has LENGTH 0, and the number 0x53000, above the
last copy of a master (`Blk.own`), reads as 1. -/
def trialDue : State :=
  { State.reset with
    regs := [(Port.PWR_DOM_STAT, inFld 2 2 1 ||| inFld 1 1 1), (0x53000, 1)],
    mem := { State.reset.mem with flash := [(flashKey 1 2, 0)] },
    sec := { State.reset.sec with trialEnd := [(1, 1)] } }

theorem trialDue_above : trialDue.get 0x53000 = 1 := rfl

/-- Nothing of the image is covered by its digest: it is FIPS 180-4's of no octets. -/
theorem trialDue_digest : trialDue.imageDigest (trialDue.roleBank 1) 0 =
    0xe3b0c44298fc1c149afbf4c8996fb92427ae41e4649b934ca495991b7852b855#256 := by
  have bank : trialDue.roleBank 1 = 1 := by decide +kernel
  have empty : trialDue.imageDigest 1 0 = sha256 [] := rfl
  rw [bank, empty]
  decide +kernel

/-- A trial that is over declares its image dead and resets its core's group. -/
theorem trialEnds_over {s : State} {c : Nat} (trial : Cells.rd (fun _ => 0) s.sec.trialEnd c ≠ 0)
    (due : ¬ s.acct s.time.link + 1 < Cells.rd (fun _ => 0) s.sec.trialEnd c) :
    s.trialEnds c = (s.declareDead c 4 (s.imageDigest (s.roleBank c) 0)).groupReset (coreOf c) .trial := by
  unfold State.trialEnds
  rw [if_neg (by simp only [not_or]; exact ⟨trial, due⟩)]

/-- The registers of PD_SEQ return to Cold wherever their port stands modulo 2^16 (`domPort`). -/
theorem trialDue_ends_above : (trialDue.trialEnds 1).get 0x53000 = 0 := by
  rw [trialEnds_over (by decide) (by decide), trialDue_digest]
  decide +kernel

/-- Refutes O36: clause (27) has the reset of the core's group change no register outside sixteen blocks, the last of which
ends at 0x4FFFF, yet the reset of the link group clears every register whose number is one of its ports modulo 2^16: 0x53000
in `trialDue`. -/
theorem not_verifyCommandsAndTheArmedImage : ¬ Obligations.VerifyCommandsAndTheArmedImage := by
  unfold Obligations.VerifyCommandsAndTheArmedImage
  intro h
  obtain ⟨-, -, -, -, -, -, -, -, -, -, -, -, -, -, -, -, -, -, -, -, -, -, -, -, -, -, expired, -⟩ := h trialDue
  obtain ⟨t, ran, frame, -⟩ := expired .lkc 1 0 rfl (by decide) (by decide) rfl (by decide +kernel)
    (by decide +kernel) (by decide +kernel)
  have ended : trialDue.trialEnds 1 = t := Host.Outcome.next.inj ran
  have kept : t.get 0x53000 = trialDue.get 0x53000 := frame.2 _ (by decide)
  rw [← ended, trialDue_ends_above, trialDue_above] at kept
  exact absurd kept (by decide)

end Sys2Proof.Machine

/-! The statement of 16_host_and_serial_ports.md on the write buffer and posted reads (O39). -/

namespace Sys2Proof.Machine

open Sys2Proof

/-- A PUSH of two nonets, the word 5, to queue 0. -/
def pushOfFive : HostWord := { kind := 2, port := 0, v := 0, queue := 0, data := [2, 5], size := 2, fresh := true }

/-- It waits in the write buffer. Queue 0 is set up, Basin has one bank, and an injection of an error of two bits into that
bank waits for its next word (R302). -/
def injectedPush : State :=
  { State.reset with
    regs := [(Port.PWR_DOM_STAT, inFld 11 11 1), (Port.MEM_PART 0, inFld 17 12 1), (Port.BSN_Q_STAT 0, inFld 17 17 1),
             (Port.MEM_INJ, inFld 17 17 1 ||| inFld 1 0 2)],
    host := { State.reset.host with buf := [pushOfFive] } }

/-- The packet's word is stored with the error, and shows it. -/
theorem injectedPush_word :
    (injectedPush.hostDrain.queue 0).getLast?.map (fun p => injectedPush.hostDrain.payWord p 0) = some 0o400406 := by
  decide +kernel

/-- Refutes O39: clause (7) has the packet of a good PUSH carry the words that the host sent, yet an error that waits in
MEM_INJ for the bank falls on the first of them: that of `injectedPush` is not 5. -/
theorem not_theWriteBufferAndPostedReads : ¬ Obligations.TheWriteBufferAndPostedReads := by
  unfold Obligations.TheWriteBufferAndPostedReads
  intro h
  obtain ⟨-, -, -, -, -, -, pushed, -⟩ := h injectedPush
  obtain ⟨t, ran, -, -, -, -, -, words⟩ := pushed pushOfFive [] 1 rfl rfl (by decide) (by decide) (by decide) rfl rfl
    (by decide) (by decide +kernel)
  have ended : injectedPush.hostDrain = t := Host.Outcome.next.inj ran
  have word := words 0 (by decide)
  rw [← ended] at word
  exact absurd (injectedPush_word.symm.trans word) (by decide)

end Sys2Proof.Machine

/-! The statement of 18_events_timers_rtc.md and 19_pins_and_electrical.md on balls and the test access port (O41). -/

namespace Sys2Proof.Machine

open Sys2Proof

/-- The rise of GPIO_0, an output, is named by channels 0 and 1, both of group 0, which is enabled. Task 0 has a slot on
channel 1; channel 0 has a loop guard with LIMIT 1 (R418). -/
def tripwire : State :=
  { State.reset with
    regs := [(Port.RIG_STAT, 1), (Port.EVF_CH_SRC 0, 64), (Port.EVF_CH_GUARD 0, inFld 17 9 1 ||| inFld 8 0 1),
             (Port.EVF_CH_SRC 1, 64), (Port.EVF_GRP, 1), (Port.EVF_TASK 0, inFld 17 17 1 ||| inFld 14 9 1),
             (Port.GPIO_CFG 0, 2)] }

theorem tripwire_raises : tripwire.get (Port.EVF_CH_RAISECNT 1) = 0 := rfl

/-- The guard of channel 0 disables the group before the raise arrives at channel 1. -/
theorem tripwire_set_raises : (tripwire.gpioSetW 0 1).get (Port.EVF_CH_RAISECNT 1) = 0 := by decide +kernel

theorem gpioSet_runs {s : State} {m : Master} {k : Fin 3} (v : Word) (a : s.answers m (Port.GPIO_SET k.val) = true) :
    exec (.gpioSet m k v) s = .next (s.gpioSetW k.val v) :=
  congrArg Host.Outcome.next (portCmd_acts s m (Port.GPIO_SET k.val) v (fun t => t.gpioSetW k.val v) a)

/-- Refutes O41: clause (7) has every channel that names the rise of a set output count it while its group is enabled, yet
the guard of a lower channel that trips on the same rise disables the group first: channel 1 of `tripwire` counts no
raise. -/
theorem not_ballsAndTheTestAccessPort : ¬ Obligations.BallsAndTheTestAccessPort := by
  unfold Obligations.BallsAndTheTestAccessPort
  intro h
  obtain ⟨-, -, -, -, -, -, raised, -⟩ := h tripwire
  have answers : tripwire.answers .apc (Port.GPIO_SET 0) = true := by decide +kernel
  obtain ⟨t, ran, -, -, counted⟩ := raised .apc 0 1 1 answers rfl (by decide +kernel) (by decide +kernel) rfl rfl
    (by decide +kernel) (by decide +kernel) (by decide +kernel) (by decide +kernel) (by decide +kernel)
    (by decide +kernel)
  have ended : tripwire.gpioSetW 0 1 = t := Host.Outcome.next.inj ((gpioSet_runs (k := 0) 1 answers).symm.trans ran)
  have count : t.get (Port.EVF_CH_RAISECNT 1) = satInc (tripwire.get (Port.EVF_CH_RAISECNT 1)) := counted
  rw [← ended, tripwire_set_raises, tripwire_raises] at count
  exact absurd count (by decide)

end Sys2Proof.Machine

/-! The statement of 18_events_timers_rtc.md on the event fabric (O46). -/

namespace Sys2Proof.Machine

open Sys2Proof

/-! ## A field of a register that reads the same -/

theorem getB_of_get {s t : State} {p : Nat} (h : t.get p = s.get p) (b : Nat) : t.getB p b = s.getB p b :=
  congrArg (bitOf · b) h

theorem getF_of_get {s t : State} {p : Nat} (h : t.get p = s.get p) (hi lo : Nat) : t.getF p hi lo = s.getF p hi lo :=
  congrArg (fld · hi lo) h

/-! ## Registers and outstanding events of a channel (R414) -/

@[simp] theorem chTasks_set (s : State) (p : Nat) (v : Word) (c : Nat) : (s.set p v).chTasks c = s.chTasks c := rfl
@[simp] theorem chTasks_setF (s : State) (p hi lo v c : Nat) : (s.setF p hi lo v).chTasks c = s.chTasks c := rfl
@[simp] theorem chTasks_setB (s : State) (p b : Nat) (v : Bool) (c : Nat) : (s.setB p b v).chTasks c = s.chTasks c := rfl
@[simp] theorem chTasks_count (s : State) (p c : Nat) : (s.count p).chTasks c = s.chTasks c := rfl
@[simp] theorem chTasks_setGuard (s : State) (ch v c : Nat) : (s.setGuard ch v).chTasks c = s.chTasks c := rfl
@[simp] theorem chTasks_pendBoth (s : State) (n c : Nat) : (s.pendBoth n).chTasks c = s.chTasks c := rfl

theorem chTasks_setChTasks (s : State) (ch : Nat) (l : List Nat) (c : Nat) :
    (s.setChTasks ch l).chTasks c = if c = ch then l else s.chTasks c := by
  show Cells.rd (fun _ => []) (Cells.wr (fun _ => []) s.evf.tasks ch l) c = _
  rw [Cells.rd_wr]
  by_cases h : ch = c
  · rw [if_pos h, if_pos h.symm]
  · rw [if_neg h, if_neg (Ne.symm h)]; rfl

theorem get_setChTasks (s : State) {ch q : Nat} (l : List Nat) (away : q ≠ Port.EVF_CH_STAT ch) :
    (s.setChTasks ch l).get q = s.get q := State.get_setB_other _ _ _ (Ne.symm away)

/-- PEND shows whether an event is outstanding. -/
theorem pend_setChTasks (s : State) (ch : Nat) (l : List Nat) :
    (s.setChTasks ch l).getB (Port.EVF_CH_STAT ch) 17 = !l.isEmpty := State.getB_setB_same _ _ _ _ (by decide)

@[simp] theorem guardOpen_setChTasks (s : State) (ch : Nat) (l : List Nat) (c : Nat) :
    (s.setChTasks ch l).guardOpen c = s.guardOpen c := rfl

@[simp] theorem guardOpen_setGuard_same (s : State) (ch v : Nat) : (s.setGuard ch v).guardOpen ch = v := by
  show Cells.rd (fun _ => 0) (Cells.wr (fun _ => 0) s.evf.opened ch v) ch = v
  rw [Cells.rd_wr, if_pos rfl]

theorem evf_touches (s : State) (x : Evf) : State.touches [.evf] [] s { s with evf := x } :=
  ⟨fun part other => by cases part <;> simp_all [Part.same], fun _ _ => rfl⟩

theorem setChTasks_touches (s : State) {ch : Nat} (l : List Nat) (h : ch < 48) :
    State.touches [.regs, .evf] [Blk.evf] s (s.setChTasks ch l) :=
  ((evf_touches s _).mono (by simp) (by simp)).trans
    ((set_touches (b := Blk.evf) _ _ (by show 0x0400 ≤ 0x0403 + 8 * ch ∧ 0x0403 + 8 * ch ≤ 0x07FF; omega)).mono (by simp)
      (by simp))

theorem setGuard_touches (s : State) (ch v : Nat) : State.touches [.regs, .evf] [Blk.evf] s (s.setGuard ch v) :=
  (evf_touches s _).mono (by simp) (by simp)

theorem pendBoth_touches (s : State) (n : Nat) : State.touches [.pends] [] s (s.pendBoth n) := by
  obtain ⟨a, apc⟩ := s.apc.pend_or n
  obtain ⟨b, lkc⟩ := s.lkc.pend_or n
  refine ⟨fun part other => ?_, fun _ _ => rfl⟩
  cases part with
  | pends => simp at other
  | cores => exact ⟨by show s.apc.pend n = { s.apc with ipend := (s.apc.pend n).ipend }; rw [apc],
      by show s.lkc.pend n = { s.lkc with ipend := (s.lkc.pend n).ipend }; rw [lkc]⟩
  | _ => rfl

/-- A register of the fabric is written. -/
theorem evfSet_touches (s : State) {p : Nat} (v : Word) (h : 0x0400 ≤ p ∧ p ≤ 0x07FF) :
    State.touches [.regs, .evf] [Blk.evf] s (s.set p v) :=
  (set_touches (b := Blk.evf) s v h).mono (by simp) (by simp)

theorem evfSetF_touches (s : State) {p : Nat} (hi lo v : Nat) (h : 0x0400 ≤ p ∧ p ≤ 0x07FF) :
    State.touches [.regs, .evf] [Blk.evf] s (s.setF p hi lo v) := evfSet_touches s _ h

theorem evfSetB_touches (s : State) {p : Nat} (b : Nat) (v : Bool) (h : 0x0400 ≤ p ∧ p ≤ 0x07FF) :
    State.touches [.regs, .evf] [Blk.evf] s (s.setB p b v) := evfSet_touches s _ h

theorem evfCount_touches (s : State) {p : Nat} (h : 0x0400 ≤ p ∧ p ≤ 0x07FF) :
    State.touches [.regs, .evf] [Blk.evf] s (s.count p) := evfSet_touches s _ h

theorem evfStat_range {ch : Nat} (h : ch < 48) : 0x0400 ≤ Port.EVF_CH_STAT ch ∧ Port.EVF_CH_STAT ch ≤ 0x07FF := by
  unfold Port.EVF_CH_STAT
  omega

/-- A source that a raise made pending, with no more done to it. -/
theorem pendBoth_raises (s : State) {n : Nat} (h : n < 64) : s.raises n (s.pendBoth n) := by
  intro c live
  have core : (s.pendBoth n).core c = (s.core c).pend n := by cases c <;> rfl
  unfold State.isPending CoreState.pend at *
  rw [core, live]
  simp [h]

/-! ## A raise arrives at a channel (R415, R418) -/

/-- The raise is outstanding and counted. -/
def State.delivered (s : State) (ch : Nat) : State := (s.count (Port.EVF_CH_RAISECNT ch)).setChTasks ch (s.slotsOf ch)

theorem raiseChannel_stopped {s : State} {ch : Nat}
    (shut : s.grpOn ch = false ∨ s.gateLevel (s.getF (Port.EVF_CH_GATE ch) 8 0) = false) :
    s.raiseChannel ch = s.count (Port.EVF_CH_STOPCNT ch) := by
  unfold State.raiseChannel
  obtain off | low := shut
  · rw [if_pos off]
  · rw [if_pos low, ite_self]

theorem raiseChannel_lost {s : State} {ch : Nat} (on : s.grpOn ch = true)
    (high : s.gateLevel (s.getF (Port.EVF_CH_GATE ch) 8 0) = true) (waits : s.chTasks ch ≠ []) :
    s.raiseChannel ch = s.count (Port.EVF_CH_OVRCNT ch) := by
  unfold State.raiseChannel
  rw [if_neg (by simp [on]), if_neg (by simp [high]), if_pos waits]

theorem raiseChannel_delivers {s : State} {ch : Nat} (on : s.grpOn ch = true)
    (high : s.gateLevel (s.getF (Port.EVF_CH_GATE ch) 8 0) = true) (idle : s.chTasks ch = []) :
    s.raiseChannel ch = (s.delivered ch).guardCount ch := by
  unfold State.raiseChannel
  rw [if_neg (by simp [on]), if_neg (by simp [high]), if_neg (by simp [idle])]
  rfl

/-- What a delivered raise leaves: its channel's PEND and RAISECNT aside, every register and every other channel's
events. -/
theorem delivered_get (s : State) {ch q : Nat} (stat : q ≠ Port.EVF_CH_STAT ch) (cnt : q ≠ Port.EVF_CH_RAISECNT ch) :
    (s.delivered ch).get q = s.get q :=
  (get_setChTasks _ _ stat).trans (s.get_count_other (Ne.symm cnt))

theorem delivered_counts (s : State) (ch : Nat) : s.counts (Port.EVF_CH_RAISECNT ch) (s.delivered ch) :=
  (get_setChTasks _ _ (by unfold Port.EVF_CH_RAISECNT Port.EVF_CH_STAT; omega)).trans (s.get_count_same _)

theorem delivered_chTasks (s : State) (ch c : Nat) :
    (s.delivered ch).chTasks c = if c = ch then s.slotsOf ch else s.chTasks c := chTasks_setChTasks _ _ _ _

theorem delivered_pend (s : State) {ch : Nat} (slots : s.slotsOf ch ≠ []) :
    (s.delivered ch).getB (Port.EVF_CH_STAT ch) 17 = true := by
  unfold State.delivered
  rw [pend_setChTasks]
  simpa using slots

theorem delivered_stat_low (s : State) (ch : Nat) :
    (s.delivered ch).getF (Port.EVF_CH_STAT ch) 8 0 = s.getF (Port.EVF_CH_STAT ch) 8 0 :=
  (State.getF_setB_apart _ _ _ _ _ _ _ (by decide) (by omega)).trans
    (congrArg (fld · 8 0) (s.get_count_other (by unfold Port.EVF_CH_RAISECNT Port.EVF_CH_STAT; omega)))

theorem delivered_touches (s : State) {ch : Nat} (h : ch < 48) :
    State.touches [.regs, .evf] [Blk.evf] s (s.delivered ch) :=
  (evfCount_touches s (by unfold Port.EVF_CH_RAISECNT; omega)).trans (setChTasks_touches _ _ h)

theorem delivered_guard (s : State) (ch : Nat) :
    (s.delivered ch).get (Port.EVF_CH_GUARD ch) = s.get (Port.EVF_CH_GUARD ch) :=
  delivered_get s (by unfold Port.EVF_CH_GUARD Port.EVF_CH_STAT; omega)
    (by unfold Port.EVF_CH_GUARD Port.EVF_CH_RAISECNT; omega)

theorem delivered_src (s : State) (ch i : Nat) :
    (s.delivered ch).get (Port.EVF_CH_SRC i) = s.get (Port.EVF_CH_SRC i) :=
  delivered_get s (by unfold Port.EVF_CH_SRC Port.EVF_CH_STAT; omega)
    (by unfold Port.EVF_CH_SRC Port.EVF_CH_RAISECNT; omega)

theorem delivered_grp (s : State) (ch : Nat) : (s.delivered ch).get Port.EVF_GRP = s.get Port.EVF_GRP :=
  delivered_get s (by unfold Port.EVF_GRP Port.EVF_CH_STAT; omega) (by unfold Port.EVF_GRP Port.EVF_CH_RAISECNT; omega)

theorem delivered_grpOn (s : State) (ch : Nat) : (s.delivered ch).grpOn ch = s.grpOn ch := by
  unfold State.grpOn State.getB State.getF
  rw [delivered_grp, delivered_src]

theorem delivered_live (s : State) (ch : Nat) : (s.delivered ch).guardLive ch = s.guardLive ch := by
  unfold State.guardLive State.guardOver State.getF
  rw [delivered_guard]
  rfl

/-- A guard trips: the group of its channel is disabled and LOOP_TRIP pends (R418). -/
def State.tripped (s : State) (ch : Nat) : State :=
  (((s.setB Port.EVF_GRP (s.getF (Port.EVF_CH_SRC ch) 14 12) false).setB (Port.EVF_CH_STAT ch) 16 true).set
    Port.EVF_TRIP (inFld 17 17 1 ||| inFld 5 0 ch)).pendBoth 12

/-- The window's count, with this event in it. -/
def State.guardTally (s : State) (ch : Nat) : Nat :=
  if s.guardLive ch then min 511 (s.getF (Port.EVF_CH_STAT ch) 8 0 + 1) else 1

/-- The event is counted in its window, which it may open. -/
def State.guardTallied (s : State) (ch : Nat) : State :=
  (if s.guardLive ch then s else s.setGuard ch (s.time.link.toNat + 1)).setF (Port.EVF_CH_STAT ch) 8 0 (s.guardTally ch)

theorem guardCount_cases (s : State) (ch : Nat) :
    s.guardCount ch =
      if s.getF (Port.EVF_CH_GUARD ch) 17 9 = 0 ∨ s.getF (Port.EVF_CH_GUARD ch) 8 0 = 0 then s
      else if s.guardTally ch = s.getF (Port.EVF_CH_GUARD ch) 8 0 then (s.guardTallied ch).tripped ch
      else s.guardTallied ch := rfl

theorem guardTallied_get (s : State) {ch q : Nat} (away : Port.EVF_CH_STAT ch ≠ q) : (s.guardTallied ch).get q = s.get q := by
  unfold State.guardTallied
  rw [State.get_setF_other _ _ _ _ away]
  split <;> rfl

theorem tripped_get (s : State) {ch q : Nat} (stat : Port.EVF_CH_STAT ch ≠ q) (grp : Port.EVF_GRP ≠ q)
    (trip : Port.EVF_TRIP ≠ q) : (s.tripped ch).get q = s.get q :=
  (State.get_set_other _ _ trip).trans ((State.get_setB_other _ _ _ stat).trans (State.get_setB_other _ _ _ grp))

theorem guardCount_get (s : State) {ch q : Nat} (stat : Port.EVF_CH_STAT ch ≠ q) (grp : Port.EVF_GRP ≠ q)
    (trip : Port.EVF_TRIP ≠ q) : (s.guardCount ch).get q = s.get q := by
  rw [guardCount_cases]
  split
  · rfl
  · split
    · exact (tripped_get _ stat grp trip).trans (guardTallied_get s stat)
    · exact guardTallied_get s stat

theorem guardCount_unguarded {s : State} {ch : Nat} (none : s.getF (Port.EVF_CH_GUARD ch) 17 9 = 0) :
    s.guardCount ch = s := by
  unfold State.guardCount
  exact if_pos (.inl none)

/-- The first event of a window opens it. -/
theorem guardCount_opens {s : State} {ch : Nat} (window : s.getF (Port.EVF_CH_GUARD ch) 17 9 ≠ 0)
    (limit : 1 < s.getF (Port.EVF_CH_GUARD ch) 8 0) (closed : s.guardOpen ch = 0) :
    s.guardCount ch = (s.setGuard ch (s.time.link.toNat + 1)).setF (Port.EVF_CH_STAT ch) 8 0 1 := by
  have dead : s.guardLive ch = false := by simp [State.guardLive, closed]
  have first : s.guardTally ch = 1 := by simp [State.guardTally, dead]
  rw [guardCount_cases, if_neg (by simp only [not_or]; exact ⟨window, by omega⟩), first, if_neg (by omega)]
  unfold State.guardTallied
  rw [first, dead]
  rfl

theorem guardCount_trips {s : State} {ch : Nat} (window : s.getF (Port.EVF_CH_GUARD ch) 17 9 ≠ 0)
    (live : s.guardLive ch = true)
    (limit : s.getF (Port.EVF_CH_STAT ch) 8 0 + 1 = s.getF (Port.EVF_CH_GUARD ch) 8 0) :
    s.guardCount ch = (s.setF (Port.EVF_CH_STAT ch) 8 0 (s.getF (Port.EVF_CH_GUARD ch) 8 0)).tripped ch := by
  have small : s.getF (Port.EVF_CH_GUARD ch) 8 0 < 512 := fld_lt _ 8 0
  have tally : s.guardTally ch = s.getF (Port.EVF_CH_GUARD ch) 8 0 := by
    unfold State.guardTally
    rw [live, if_pos rfl]
    omega
  rw [guardCount_cases, if_neg (by simp only [not_or]; exact ⟨window, by omega⟩), if_pos tally]
  unfold State.guardTallied
  rw [tally, live]
  rfl

theorem raiseChannel_src (s : State) (ch : Nat) {i : Nat} (hi : i < 48) :
    (s.raiseChannel ch).get (Port.EVF_CH_SRC i) = s.get (Port.EVF_CH_SRC i) := by
  unfold State.raiseChannel
  split
  · exact s.get_count_other (by unfold Port.EVF_CH_STOPCNT Port.EVF_CH_SRC; omega)
  · split
    · exact s.get_count_other (by unfold Port.EVF_CH_STOPCNT Port.EVF_CH_SRC; omega)
    · split
      · exact s.get_count_other (by unfold Port.EVF_CH_OVRCNT Port.EVF_CH_SRC; omega)
      · exact (guardCount_get _ (by unfold Port.EVF_CH_STAT Port.EVF_CH_SRC; omega)
          (by unfold Port.EVF_GRP Port.EVF_CH_SRC; omega) (by unfold Port.EVF_TRIP Port.EVF_CH_SRC; omega)).trans
          (delivered_src s ch i)

/-- A producer that one channel names reaches that channel alone. -/
theorem raiseProducer_single {s : State} {p ch : Nat} (h : ch < 48) (some : p ≠ 0)
    (named : s.getF (Port.EVF_CH_SRC ch) 8 0 = p) (alone : ∀ c, c < 48 → c ≠ ch → s.getF (Port.EVF_CH_SRC c) 8 0 ≠ p) :
    s.raiseProducer p = s.raiseChannel ch := by
  unfold State.raiseProducer
  have turn : (if s.getF (Port.EVF_CH_SRC ch) 8 0 = p then s.raiseChannel ch else s) = s.raiseChannel ch := if_pos named
  rw [if_neg some, forNat_single h, turn]
  · exact fun i hi other => if_neg (alone i hi other)
  · intro i hi other
    rw [turn]
    refine if_neg ?_
    unfold State.getF
    rw [raiseChannel_src s ch hi]
    exact alone i hi other

/-- A raise that is delivered without a guard: what O46 says of it. -/
theorem delivered_outstanding {s : State} {ch : Nat} (h : ch < 48) (slots : s.slotsOf ch ≠ []) :
    State.touches [.regs, .evf] [Blk.evf] s (s.delivered ch) ∧ (s.delivered ch).chTasks ch = s.slotsOf ch ∧
      s.counts (Port.EVF_CH_RAISECNT ch) (s.delivered ch) ∧ (s.delivered ch).getB (Port.EVF_CH_STAT ch) 17 = true ∧
      ∀ c, c < 48 → c ≠ ch → (s.delivered ch).chTasks c = s.chTasks c :=
  ⟨delivered_touches s h, (delivered_chTasks s ch ch).trans (if_pos rfl), delivered_counts s ch, delivered_pend s slots,
    fun c _ other => (delivered_chTasks s ch c).trans (if_neg other)⟩

/-- The named raise of a producer outside the reserved ones. -/
theorem eventRaise_raises {s : State} {p : BitVec 9} {ch : Fin 48} (ok : producerOk p.toNat = true) (some : p ≠ 0)
    (named : s.getF (Port.EVF_CH_SRC ch.val) 8 0 = p.toNat)
    (alone : ∀ c, c < 48 → c ≠ ch.val → s.getF (Port.EVF_CH_SRC c) 8 0 ≠ p.toNat) :
    exec (.eventRaise p) s = .next (s.raiseChannel ch.val) := by
  have real : p.toNat ≠ 0 := fun z => some (BitVec.eq_of_toNat_eq (by simpa using z))
  show Host.Outcome.next (if producerOk p.toNat then s.raiseProducer p.toNat else s) = _
  rw [if_pos ok, raiseProducer_single ch.isLt real named alone]

/-- Without a guard the delivery is all. -/
theorem raiseChannel_unguarded {s : State} {ch : Nat} (on : s.grpOn ch = true)
    (high : s.gateLevel (s.getF (Port.EVF_CH_GATE ch) 8 0) = true) (idle : s.chTasks ch = [])
    (none : s.getF (Port.EVF_CH_GUARD ch) 17 9 = 0) : s.raiseChannel ch = s.delivered ch := by
  rw [raiseChannel_delivers on high idle]
  exact guardCount_unguarded ((congrArg (fld · 17 9) (delivered_guard s ch)).trans none)

/-- A delivered raise that opens its channel's window. -/
theorem guardCount_opens_outstanding {s : State} {ch : Nat} (h : ch < 48) (slots : s.slotsOf ch ≠ [])
    (on : s.grpOn ch = true) (window : s.getF (Port.EVF_CH_GUARD ch) 17 9 ≠ 0)
    (limit : 1 < s.getF (Port.EVF_CH_GUARD ch) 8 0) (closed : s.guardOpen ch = 0) :
    let t := (s.delivered ch).guardCount ch
    State.touches [.regs, .evf] [Blk.evf] s t ∧ t.guardOpen ch = s.time.link.toNat + 1 ∧
      t.getF (Port.EVF_CH_STAT ch) 8 0 = 1 ∧ t.grpOn ch = true ∧ t.chTasks ch = s.slotsOf ch ∧
      s.counts (Port.EVF_CH_RAISECNT ch) t ∧ t.getB (Port.EVF_CH_STAT ch) 17 = true ∧
      ∀ c, c < 48 → c ≠ ch → t.chTasks c = s.chTasks c := by
  obtain ⟨frame, tasks, counted, pend, others⟩ := delivered_outstanding h slots
  have guard := delivered_guard s ch
  have opened := guardCount_opens (s := s.delivered ch) (ch := ch)
    (by rwa [State.getF, guard]) (by rwa [State.getF, guard]) closed
  have other : ∀ q, Port.EVF_CH_STAT ch ≠ q → ((s.delivered ch).guardCount ch).get q = (s.delivered ch).get q := fun q away => by
    rw [opened]
    exact State.get_setF_other _ _ _ _ away
  have group : ((s.delivered ch).guardCount ch).grpOn ch = (s.delivered ch).grpOn ch := by
    unfold State.grpOn State.getB State.getF
    rw [other (Port.EVF_CH_SRC ch) (by unfold Port.EVF_CH_STAT Port.EVF_CH_SRC; omega),
      other Port.EVF_GRP (by unfold Port.EVF_CH_STAT Port.EVF_GRP; omega)]
  intro t
  refine ⟨?_, ?_, ?_, group.trans ((delivered_grpOn s ch).trans on), ?_,
    (other _ (by unfold Port.EVF_CH_STAT Port.EVF_CH_RAISECNT; omega)).trans counted, ?_, ?_⟩
  all_goals simp only [t, opened]
  · exact frame.trans ((setGuard_touches _ _ _).trans (evfSetF_touches _ _ _ _ (evfStat_range h)))
  · exact guardOpen_setGuard_same _ _ _
  · exact State.getF_setF_same _ _ _ _ _ (by decide)
  · exact tasks
  · exact (State.getB_setF_apart _ _ _ _ _ _ _ (by decide) (by omega)).trans pend
  · exact others

theorem tripped_touches (s : State) {ch : Nat} (h : ch < 48) :
    State.touches [.regs, .pends, .evf] [Blk.evf] s (s.tripped ch) := by
  have sets : State.touches [.regs, .evf] [Blk.evf] s
      (((s.setB Port.EVF_GRP (s.getF (Port.EVF_CH_SRC ch) 14 12) false).setB (Port.EVF_CH_STAT ch) 16 true).set
        Port.EVF_TRIP (inFld 17 17 1 ||| inFld 5 0 ch)) :=
    ((evfSetB_touches s _ _ (by decide)).trans (evfSetB_touches _ _ _ (evfStat_range h))).trans
      (evfSet_touches _ _ (by decide))
  exact (sets.mono (by simp) (by simp)).trans ((pendBoth_touches _ 12).mono (by simp) (by simp))

theorem tripped_chTasks (s : State) (ch c : Nat) : (s.tripped ch).chTasks c = s.chTasks c := rfl

/-- What a guard that trips shows. -/
theorem tripped_shows (s : State) {ch : Nat} (h : ch < 48) :
    (s.tripped ch).grpOn ch = false ∧ (s.tripped ch).getB (Port.EVF_CH_STAT ch) 16 = true ∧
      (s.tripped ch).getB (Port.EVF_CH_STAT ch) 17 = s.getB (Port.EVF_CH_STAT ch) 17 ∧
      (s.tripped ch).get Port.EVF_TRIP = inFld 17 17 1 ||| inFld 5 0 ch ∧ s.raises Irq.LOOP_TRIP (s.tripped ch) := by
  let u := s.setB Port.EVF_GRP (s.getF (Port.EVF_CH_SRC ch) 14 12) false
  let v := u.setB (Port.EVF_CH_STAT ch) 16 true
  let w := v.set Port.EVF_TRIP (inFld 17 17 1 ||| inFld 5 0 ch)
  have written : ∀ q, Port.EVF_TRIP ≠ q → (s.tripped ch).get q = v.get q := fun q away => State.get_set_other v _ away
  have stat_grp : Port.EVF_CH_STAT ch ≠ Port.EVF_GRP := by unfold Port.EVF_CH_STAT Port.EVF_GRP; omega
  have stat_trip : Port.EVF_TRIP ≠ Port.EVF_CH_STAT ch := by unfold Port.EVF_CH_STAT Port.EVF_TRIP; omega
  have source : (s.tripped ch).get (Port.EVF_CH_SRC ch) = s.get (Port.EVF_CH_SRC ch) :=
    tripped_get s (by unfold Port.EVF_CH_STAT Port.EVF_CH_SRC; omega) (by unfold Port.EVF_GRP Port.EVF_CH_SRC; omega)
      (by unfold Port.EVF_TRIP Port.EVF_CH_SRC; omega)
  have group : s.getF (Port.EVF_CH_SRC ch) 14 12 < 8 := fld_lt _ 14 12
  have off : v.getB Port.EVF_GRP (s.getF (Port.EVF_CH_SRC ch) 14 12) = false :=
    (getB_of_get (State.get_setB_other u 16 true stat_grp) _).trans
      (State.getB_setB_same s _ _ false (lt_trans group (by decide)))
  refine ⟨?_, ?_, ?_, State.get_set_same v _ _, fun c live => pendBoth_raises w (n := 12) (by decide) c live⟩
  · unfold State.grpOn State.getF
    rw [source]
    exact (getB_of_get (written _ (by decide)) _).trans off
  · exact (getB_of_get (written _ stat_trip) 16).trans (State.getB_setB_same u _ _ true (by decide))
  · refine (getB_of_get (written _ stat_trip) 17).trans ((State.getB_setB_other u _ _ _ _ _ (by decide) (by decide)).trans ?_)
    exact getB_of_get (State.get_setB_other s _ false (Ne.symm stat_grp)) 17

/-- A delivered raise that trips its channel's guard. -/
theorem guardCount_trips_outstanding {s : State} {ch : Nat} (h : ch < 48) (slots : s.slotsOf ch ≠ [])
    (window : s.getF (Port.EVF_CH_GUARD ch) 17 9 ≠ 0) (live : s.guardLive ch = true)
    (limit : s.getF (Port.EVF_CH_STAT ch) 8 0 + 1 = s.getF (Port.EVF_CH_GUARD ch) 8 0) :
    State.touches [.regs, .pends, .evf] [Blk.evf] s ((s.delivered ch).guardCount ch) ∧
      ((s.delivered ch).guardCount ch).grpOn ch = false ∧
      ((s.delivered ch).guardCount ch).getB (Port.EVF_CH_STAT ch) 16 = true ∧
      ((s.delivered ch).guardCount ch).get Port.EVF_TRIP = inFld 17 17 1 ||| inFld 5 0 ch ∧
      s.raises Irq.LOOP_TRIP ((s.delivered ch).guardCount ch) ∧
      ((s.delivered ch).guardCount ch).chTasks ch = s.slotsOf ch ∧
      s.counts (Port.EVF_CH_RAISECNT ch) ((s.delivered ch).guardCount ch) ∧
      ((s.delivered ch).guardCount ch).getB (Port.EVF_CH_STAT ch) 17 = true ∧
      ∀ c, c < 48 → c ≠ ch → ((s.delivered ch).guardCount ch).chTasks c = s.chTasks c := by
  obtain ⟨frame, tasks, counted, pend, others⟩ := delivered_outstanding h slots
  have guard := delivered_guard s ch
  have trips := guardCount_trips (s := s.delivered ch) (ch := ch) (by rwa [State.getF, guard])
    ((delivered_live s ch).trans live) (by rw [delivered_stat_low, limit, State.getF, State.getF, guard])
  obtain ⟨u, eu⟩ : ∃ u, u = (s.delivered ch).setF (Port.EVF_CH_STAT ch) 8 0 ((s.delivered ch).getF (Port.EVF_CH_GUARD ch) 8 0) :=
    ⟨_, rfl⟩
  have tallied : State.touches [.regs, .evf] [Blk.evf] s u := by
    rw [eu]
    exact frame.trans (evfSetF_touches _ _ _ _ (evfStat_range h))
  have stands : u.getB (Port.EVF_CH_STAT ch) 17 = true := by
    rw [eu]
    exact (State.getB_setF_apart _ _ _ _ _ _ _ (by decide) (by omega)).trans pend
  have count : u.get (Port.EVF_CH_RAISECNT ch) = satInc (s.get (Port.EVF_CH_RAISECNT ch)) := by
    rw [eu]
    exact (State.get_setF_other _ _ _ _ (by unfold Port.EVF_CH_STAT Port.EVF_CH_RAISECNT; omega)).trans counted
  have events : ∀ c, u.chTasks c = (s.delivered ch).chTasks c := fun c => by rw [eu]; rfl
  have cores : ∀ c, (u.core c).inReset = (s.core c).inReset := fun c => by rw [eu]; cases c <;> rfl
  obtain ⟨off, mark, pending, trip, raised⟩ := tripped_shows u h
  rw [trips, ← eu]
  refine ⟨(tallied.mono (by simp) (by simp)).trans (tripped_touches u h), off, mark, trip,
    fun c live => raised c ((cores c).trans live), (tripped_chTasks u ch ch).trans ((events ch).trans tasks), ?_,
    pending.trans stands, fun c small other => (tripped_chTasks u ch c).trans ((events c).trans (others c small other))⟩
  exact (tripped_get u (by unfold Port.EVF_CH_STAT Port.EVF_CH_RAISECNT; omega)
    (by unfold Port.EVF_GRP Port.EVF_CH_RAISECNT; omega) (by unfold Port.EVF_TRIP Port.EVF_CH_RAISECNT; omega)).trans count

/-! ## A task takes its events (R416, R423) -/

/-- The events of a task are taken from the channels listed. -/
def State.taken (s : State) (t : Nat) (l : List Nat) : State :=
  forEach l (fun ch v => v.setChTasks ch ((v.chTasks ch).filter fun x => decide (x ≠ t))) s

theorem taken_cons (s : State) (t a : Nat) (l : List Nat) :
    s.taken t (a :: l) = (s.setChTasks a ((s.chTasks a).filter fun x => decide (x ≠ t))).taken t l := rfl

theorem taken_chTasks (t : Nat) (l : List Nat) (c : Nat) : ∀ s : State,
    (s.taken t l).chTasks c = if c ∈ l then (s.chTasks c).filter (fun x => decide (x ≠ t)) else s.chTasks c := by
  induction l with
  | nil => exact fun s => rfl
  | cons a l ih =>
    intro s
    rw [taken_cons, ih, chTasks_setChTasks]
    by_cases same : c = a
    · subst same; simp
    · simp [same]

theorem taken_get (t : Nat) (l : List Nat) {q : Nat} (away : ∀ ch ∈ l, q ≠ Port.EVF_CH_STAT ch) : ∀ s : State,
    (s.taken t l).get q = s.get q := by
  induction l with
  | nil => exact fun s => rfl
  | cons a l ih =>
    intro s
    rw [taken_cons, ih fun ch mem => away ch (List.mem_cons_of_mem _ mem)]
    exact get_setChTasks s _ (away a List.mem_cons_self)

theorem taken_touches (t : Nat) (l : List Nat) (small : ∀ ch ∈ l, ch < 48) : ∀ s : State,
    State.touches [.regs, .evf] [Blk.evf] s (s.taken t l) := by
  induction l with
  | nil => exact fun s => .refl _ _ s
  | cons a l ih =>
    intro s
    rw [taken_cons]
    exact (setChTasks_touches s _ (small a List.mem_cons_self)).trans
      (ih (fun ch mem => small ch (List.mem_cons_of_mem _ mem)) _)

/-- What a free task does once it has taken `n` events. -/
def State.taskActs (s : State) (t n : Nat) : State :=
  (if 1 < n then (s.count Port.EVF_MRGCNT).setF Port.EVF_LAST 8 0 t else s).taskDo t

/-- What a busy task does with the events it ignores. -/
def State.taskIgnores (s : State) (t n : Nat) : State :=
  (forNat n (fun _ v => v.count Port.EVF_IGNCNT) s).setF Port.EVF_LAST 17 9 t

theorem taskActs_two (s : State) (t : Nat) :
    s.taskActs t 2 = ((s.count Port.EVF_MRGCNT).setF Port.EVF_LAST 8 0 t).taskDo t := rfl

theorem taskIgnores_one (s : State) (t : Nat) : s.taskIgnores t 1 = (s.count Port.EVF_IGNCNT).setF Port.EVF_LAST 17 9 t := rfl

theorem taskTake_cases (s : State) (t : Nat) (due : s.chansDue t ≠ []) :
    s.taskTake t =
      if s.taskBusy t then (s.taken t (s.chansDue t)).taskIgnores t ((s.chansDue t).map (s.slotsDue t)).sum
      else (s.taken t (s.chansDue t)).taskActs t ((s.chansDue t).map (s.slotsDue t)).sum := by
  unfold State.taskTake
  rw [if_neg (by simpa using due)]
  rfl

theorem taskTake_idle {s : State} {t : Nat} (none : (s.chansDue t).isEmpty = true) : s.taskTake t = s := by
  unfold State.taskTake
  exact if_pos none

theorem mem_chansDue (s : State) (t c : Nat) : c ∈ s.chansDue t ↔ c < 48 ∧ s.slotsDue t c ≠ 0 := by
  simp [State.chansDue, Nat.pos_iff_ne_zero]

theorem chansDue_nodup (s : State) (t : Nat) : (s.chansDue t).Nodup := List.nodup_range.filter _

theorem slotsDue_single {s : State} {t ch : Nat} (h : s.chTasks ch = [t]) : s.slotsDue t ch = 1 := by
  unfold State.slotsDue
  rw [h]
  simp

/-- One channel's event is due. -/
theorem chansDue_single {s : State} {t ch : Nat} (h : ch < 48) (tasks : s.chTasks ch = [t])
    (rest : ∀ c, c < 48 → c ≠ ch → s.slotsDue t c = 0) : s.chansDue t = [ch] := by
  have members : ∀ c, c ∈ s.chansDue t ↔ c ∈ [ch] := fun c => by
    rw [mem_chansDue, List.mem_singleton]
    constructor
    · rintro ⟨small, due⟩
      by_contra other
      exact due (rest c small other)
    · rintro rfl
      exact ⟨h, by rw [slotsDue_single tasks]; decide⟩
  exact List.perm_singleton.mp ((List.perm_ext_iff_of_nodup (chansDue_nodup s t) (List.nodup_singleton ch)).mpr members)

/-- Two channels' events are due. -/
theorem chansDue_pair {s : State} {t a b : Nat} (ha : a < 48) (hb : b < 48) (apart : a ≠ b) (ta : s.chTasks a = [t])
    (tb : s.chTasks b = [t]) (rest : ∀ c, c < 48 → c ≠ a → c ≠ b → s.slotsDue t c = 0) :
    (s.chansDue t).Perm [a, b] := by
  refine (List.perm_ext_iff_of_nodup (chansDue_nodup s t) (by simp [apart])).mpr fun c => ?_
  rw [mem_chansDue]
  simp only [List.mem_cons, List.not_mem_nil, or_false]
  constructor
  · rintro ⟨small, due⟩
    by_contra other
    simp only [not_or] at other
    exact due (rest c small other.1 other.2)
  · rintro (rfl | rfl)
    · exact ⟨ha, by rw [slotsDue_single ta]; decide⟩
    · exact ⟨hb, by rw [slotsDue_single tb]; decide⟩

/-- The event of channel `ch` was taken by the one task that had still to accept it. -/
theorem taken_single {s : State} {t ch : Nat} (h : ch < 48) (tasks : s.chTasks ch = [t]) :
    State.touches [.regs, .evf] [Blk.evf] s (s.taken t [ch]) ∧ (s.taken t [ch]).chTasks ch = [] ∧
      (s.taken t [ch]).getB (Port.EVF_CH_STAT ch) 17 = false ∧
      (∀ c, c < 48 → c ≠ ch → (s.taken t [ch]).chTasks c = s.chTasks c) ∧
      ∀ q, q ≠ Port.EVF_CH_STAT ch → (s.taken t [ch]).get q = s.get q := by
  have cleared : (s.chTasks ch).filter (fun x => decide (x ≠ t)) = [] := by rw [tasks]; simp
  refine ⟨taken_touches t [ch] (by simpa using h) s, ?_, ?_, fun c _ other => ?_, fun q away => ?_⟩
  · rw [taken_chTasks, if_pos (by simp), cleared]
  · rw [taken_cons, cleared]
    exact pend_setChTasks s ch []
  · rw [taken_chTasks, if_neg (by simpa using other)]
  · exact taken_get t [ch] (by simpa using away) s

theorem taskAction_single {s : State} {k : BitVec 9} {ch : Fin 48} (tasks : s.chTasks ch.val = [k.toNat])
    (rest : ∀ c, c < 48 → c ≠ ch.val → s.slotsDue k.toNat c = 0) :
    exec (.taskAction k) s = .next
      (if s.taskBusy k.toNat then (s.taken k.toNat [ch.val]).taskIgnores k.toNat 1
        else (s.taken k.toNat [ch.val]).taskDo k.toNat) := by
  have due := chansDue_single ch.isLt tasks rest
  show Host.Outcome.next (s.taskTake k.toNat) = _
  rw [taskTake_cases s _ (by rw [due]; simp), due]
  simp only [List.map_cons, List.map_nil, List.sum_cons, List.sum_nil, slotsDue_single tasks, State.taskActs]
  rfl

theorem taskBusy_low (s : State) {t : Nat} (h : t < 168) : s.taskBusy t = false := by
  unfold State.taskBusy
  rw [if_neg (by omega), if_neg (by omega)]

theorem taskDo_interrupt (s : State) {t : Nat} (h : t < 4) : s.taskDo t = s.pendBoth (Irq.EV_IRQ t) := by
  unfold State.taskDo State.raise
  rw [if_pos h, if_pos (by unfold Irq.EV_IRQ; omega)]

theorem taskDo_enables (s : State) {t : Nat} (h : 8 ≤ t ∧ t ≤ 15) : s.taskDo t = s.setB Port.EVF_GRP (t - 8) true := by
  unfold State.taskDo
  rw [if_neg (by omega), if_neg (by omega), if_pos h]

theorem taskDo_disables (s : State) {t : Nat} (h : 16 ≤ t ∧ t ≤ 23) :
    s.taskDo t = s.setB Port.EVF_GRP (t - 16) false := by
  unfold State.taskDo
  rw [if_neg (by omega), if_neg (by omega), if_neg (by omega), if_pos h]

/-- A group's bit is written after an event was taken. -/
theorem taken_group {s : State} {t ch g : Nat} (v : Bool) (h : ch < 48) (hg : g < 8) (tasks : s.chTasks ch = [t]) :
    State.touches [.regs, .evf] [Blk.evf] s ((s.taken t [ch]).setB Port.EVF_GRP g v) ∧
      ((s.taken t [ch]).setB Port.EVF_GRP g v).getB Port.EVF_GRP g = v ∧
      (∀ i, i ≠ g → ((s.taken t [ch]).setB Port.EVF_GRP g v).getB Port.EVF_GRP i = s.getB Port.EVF_GRP i) ∧
      ((s.taken t [ch]).setB Port.EVF_GRP g v).chTasks ch = [] ∧
      ((s.taken t [ch]).setB Port.EVF_GRP g v).getB (Port.EVF_CH_STAT ch) 17 = false ∧
      ∀ c, c < 48 → c ≠ ch → ((s.taken t [ch]).setB Port.EVF_GRP g v).chTasks c = s.chTasks c := by
  obtain ⟨frame, none, pend, others, regs⟩ := taken_single h tasks
  have apart : Port.EVF_GRP ≠ Port.EVF_CH_STAT ch := by unfold Port.EVF_GRP Port.EVF_CH_STAT; omega
  refine ⟨frame.trans (evfSetB_touches _ _ _ (by decide)), State.getB_setB_same _ _ _ _ (by omega), fun i other => ?_, none,
    ?_, others⟩
  · rw [State.getB_setB_other _ _ _ _ _ _ (by omega) (Ne.symm other)]
    exact congrArg (bitOf · i) (regs _ apart)
  · exact (congrArg (bitOf · 17) (State.get_setB_other _ _ _ apart)).trans pend

/-- What the taking of events leaves of the cores, a raise of a source after it makes pending. -/
theorem taken_raises {s : State} (t : Nat) (l : List Nat) {n : Nat} (h : n < 64) : s.raises n ((s.taken t l).pendBoth n) := by
  have cores : ∀ c, (s.taken t l).core c = s.core c := fun c =>
    forEach_keeps (fun u : State => u.core c) _ (fun a u => by cases c <;> rfl) l s
  exact fun c live => pendBoth_raises (s.taken t l) h c ((congrArg CoreState.inReset (cores c)).trans live)

/-- The event that a busy task ignores is counted, with the task's number. -/
theorem taskIgnores_shows (s : State) {t : Nat} (ht : t < 512) :
    State.touches [.regs, .evf] [Blk.evf] s (s.taskIgnores t 1) ∧ s.counts Port.EVF_IGNCNT (s.taskIgnores t 1) ∧
      (s.taskIgnores t 1).getF Port.EVF_LAST 17 9 = t ∧
      ∀ q, q ≠ Port.EVF_LAST → q ≠ Port.EVF_IGNCNT → (s.taskIgnores t 1).get q = s.get q := by
  rw [taskIgnores_one]
  refine ⟨(evfCount_touches s (by decide)).trans (evfSetF_touches _ _ _ _ (by decide)), ?_, ?_, fun q last ign => ?_⟩
  · exact (State.get_setF_other _ _ _ _ (by decide)).trans (State.get_count_same _ _)
  · rw [State.getF_setF_same _ _ _ _ _ (by decide)]
    exact Nat.mod_eq_of_lt ht
  · exact (State.get_setF_other _ _ _ _ (Ne.symm last)).trans (State.get_count_other _ (Ne.symm ign))

theorem taskIgnores_chTasks (s : State) (t c : Nat) : (s.taskIgnores t 1).chTasks c = s.chTasks c := rfl

/-- A busy task counts the event and shows its number. -/
theorem taken_ignored {s : State} {t ch : Nat} (h : ch < 48) (tasks : s.chTasks ch = [t]) (ht : t < 512) :
    State.touches [.regs, .evf] [Blk.evf] s ((s.taken t [ch]).taskIgnores t 1) ∧
      s.counts Port.EVF_IGNCNT ((s.taken t [ch]).taskIgnores t 1) ∧
      ((s.taken t [ch]).taskIgnores t 1).getF Port.EVF_LAST 17 9 = t ∧
      ((s.taken t [ch]).taskIgnores t 1).chTasks ch = [] ∧
      ((s.taken t [ch]).taskIgnores t 1).getB (Port.EVF_CH_STAT ch) 17 = false ∧
      ∀ c, c < 48 → c ≠ ch → ((s.taken t [ch]).taskIgnores t 1).chTasks c = s.chTasks c := by
  obtain ⟨frame, none, pend, others, regs⟩ := taken_single h tasks
  obtain ⟨frame', counted, shown, regs'⟩ := taskIgnores_shows (s.taken t [ch]) ht
  have last : Port.EVF_CH_STAT ch ≠ Port.EVF_LAST := by unfold Port.EVF_LAST Port.EVF_CH_STAT; omega
  have ign : Port.EVF_CH_STAT ch ≠ Port.EVF_IGNCNT := by unfold Port.EVF_IGNCNT Port.EVF_CH_STAT; omega
  refine ⟨frame.trans frame', counted.trans (congrArg satInc (regs _ (Ne.symm ign))), shown,
    (taskIgnores_chTasks _ t ch).trans none, (getB_of_get (regs' _ last ign) 17).trans pend, fun c small other => ?_⟩
  exact (taskIgnores_chTasks _ t c).trans (others c small other)

/-- Two events that reach both slots of a group's task count one merge and enable the group once. -/
theorem taskAction_merges {s : State} {k : BitVec 9} {a b : Fin 48} (apart : a ≠ b) (ta : s.chTasks a.val = [k.toNat])
    (tb : s.chTasks b.val = [k.toNat])
    (rest : ∀ c, c < 48 → c ≠ a.val → c ≠ b.val → s.slotsDue k.toNat c = 0) (low : 8 ≤ k.toNat) (high : k.toNat ≤ 15) :
    Completes (.taskAction k) s fun t => s.touches [.regs, .evf] [Blk.evf] t ∧ s.counts Port.EVF_MRGCNT t ∧
      t.getF Port.EVF_LAST 8 0 = k.toNat ∧ t.getB Port.EVF_GRP (k.toNat - 8) = true ∧ t.chTasks a.val = [] ∧
      t.chTasks b.val = [] := by
  have due := chansDue_pair a.isLt b.isLt (fun e => apart (Fin.ext e)) ta tb rest
  have sum : ((s.chansDue k.toNat).map (s.slotsDue k.toNat)).sum = 2 := by
    rw [(due.map _).sum_eq]
    simp [slotsDue_single ta, slotsDue_single tb]
  let u := s.taken k.toNat (s.chansDue k.toNat)
  have run : s.taskTake k.toNat = ((u.count Port.EVF_MRGCNT).setF Port.EVF_LAST 8 0 k.toNat).setB Port.EVF_GRP
      (k.toNat - 8) true := by
    rw [taskTake_cases s _ (fun none => by simpa [none] using due.length_eq), taskBusy_low s (by omega),
      if_neg Bool.false_ne_true, sum, taskActs_two, taskDo_enables _ ⟨low, high⟩]
  have small : ∀ c ∈ s.chansDue k.toNat, c < 48 := fun c mem => ((mem_chansDue s _ c).mp mem).1
  have cleared : ∀ c, c ∈ s.chansDue k.toNat → s.chTasks c = [k.toNat] → u.chTasks c = [] := fun c mem tasks => by
    rw [taken_chTasks, if_pos mem, tasks]
    simp
  have count : u.get Port.EVF_MRGCNT = s.get Port.EVF_MRGCNT :=
    taken_get _ _ (fun c mem => by
      have := small c mem
      unfold Port.EVF_MRGCNT Port.EVF_CH_STAT
      omega) s
  refine ⟨_, congrArg Host.Outcome.next run, ?_, ?_, ?_, State.getB_setB_same _ _ _ _ (by omega),
    cleared _ (due.mem_iff.mpr (by simp)) ta, cleared _ (due.mem_iff.mpr (by simp)) tb⟩
  · exact (((taken_touches _ _ small s).trans (evfCount_touches _ (by decide))).trans
      (evfSetF_touches _ _ _ _ (by decide))).trans (evfSetB_touches _ _ _ (by decide))
  · refine (State.get_setB_other _ _ _ (by decide)).trans ((State.get_setF_other _ _ _ _ (by decide)).trans ?_)
    exact (State.get_count_same _ _).trans (congrArg satInc count)
  · refine (congrArg (fld · 8 0) (State.get_setB_other _ _ _ (by decide))).trans ?_
    exact (State.getF_setF_same _ _ _ _ _ (by decide)).trans (Nat.mod_eq_of_lt (by omega))

/-! ## The commands of the fabric -/

theorem taken_wakes {s : State} {t ch : Nat} (tasks : s.chTasks ch = [t]) (h : ch < 48) (rest : s.phase = 0)
    (run : s.level = 0) (enabled : s.getB Port.PWR_WAKE 1 = true) :
    (s.taken t [ch]).wakeFrom 1 = (s.taken t [ch]).setB Port.PWR_WAKE_SRC 1 true := by
  obtain ⟨-, -, -, -, regs⟩ := taken_single h tasks
  have low : ∀ q, q < 0x0400 → (s.taken t [ch]).get q = s.get q := fun q small =>
    regs q (by unfold Port.EVF_CH_STAT; omega)
  have stat : ((s.taken t [ch]).setB Port.PWR_WAKE_SRC 1 true).get Port.PWR_STAT = s.get Port.PWR_STAT :=
    (State.get_setB_other _ _ _ (by decide)).trans (low _ (by decide))
  unfold State.wakeFrom
  have named : (s.taken t [ch]).getB Port.PWR_WAKE 1 = true :=
    (congrArg (bitOf · 1) (low Port.PWR_WAKE (by decide))).trans enabled
  rw [if_pos named]
  unfold State.wakeNow
  rw [if_neg, if_neg]
  · rw [show ((s.taken t [ch]).setB Port.PWR_WAKE_SRC 1 true).level = s.level from congrArg (fld · 17 15) stat]
    exact fun h => h.2 run
  · rw [show ((s.taken t [ch]).setB Port.PWR_WAKE_SRC 1 true).phase = s.phase from congrArg (fld · 11 9) stat]
    omega

theorem taskDo_wakes (s : State) : s.taskDo 4 = s.wakeFrom 1 := rfl

theorem guardClose_over {s : State} {ch : Nat} (opened : s.guardOpen ch ≠ 0) (over_ : s.guardOver ch = true) :
    s.guardClose ch = (s.setGuard ch 0).setF (Port.EVF_CH_STAT ch) 8 0 0 := by
  unfold State.guardClose
  rw [if_neg (by simp [opened, over_])]

theorem guardClose_open {s : State} {ch : Nat} (open_ : s.guardOpen ch = 0 ∨ s.guardOver ch = false) :
    s.guardClose ch = s := by
  unfold State.guardClose
  exact if_pos open_

theorem guardOver_early {s : State} {ch : Nat}
    (early : (s.time.link - BitVec.ofNat 54 (s.guardOpen ch - 1)).toNat < s.getF (Port.EVF_CH_GUARD ch) 17 9 * 160) :
    s.guardOver ch = false := by
  unfold State.guardOver
  rw [decide_eq_false (Nat.not_le.mpr early), Bool.and_false]

theorem guardOver_stopped {s : State} {ch : Nat} (stopped : s.time.stopped = true) : s.guardOver ch = false := by
  unfold State.guardOver
  simp [stopped]

/-- A write of one bit of EVF_SW raises its producer, of 0 none. -/
theorem evSwWrite_bit (s : State) {k : Nat} (h : k < 8) : s.evSwWrite (inFld k k 1) = s.raiseProducer (Ev.sw k) := by
  have bits : ∀ i, bitOf (inFld k k 1) i = decide (i = k) := fun i => by
    by_cases same : i = k
    · subst same
      rw [decide_eq_true rfl]
      exact (by decide : ∀ k, k < 8 → bitOf (inFld k k 1) k = true) i h
    · rw [bitOf_inFld_apart k k 1 i (by omega) (by omega)]
      simp [same]
  unfold State.evSwWrite
  rw [forNat_single h, bits, if_pos (by simp)]
  · exact fun i _ other => if_neg (by simp [bits, other])
  · exact fun i _ other => if_neg (by simp [bits, other])

theorem evSwWrite_zero (s : State) : s.evSwWrite 0 = s :=
  forNat_fixed fun i _ => if_neg (by simp [bitOf])

theorem evSw_runs {s : State} {m : Master} (v : Word) (a : s.answers m Port.EVF_SW = true) :
    exec (.evSw m v) s = .next (s.evSwWrite v) :=
  congrArg Host.Outcome.next (portCmd_acts s m Port.EVF_SW v (fun t => t.evSwWrite v) a)

/-- Settles O46: a producer that one channel names reaches it alone, and a task clears what it takes. -/
theorem theEventFabricDelivers : Obligations.TheEventFabricDelivers := by
  unfold Obligations.TheEventFabricDelivers
  intro s
  refine ⟨?stopped, ?lost, ?outstanding, ?opens, ?trips, ?reserved, ?idle, ?interrupt, ?wake, ?enables, ?disables, ?busy,
    ?merged, ?closes, ?stays, ?software, ?zero⟩
  case stopped =>
    intro p ch named ok some alone shut
    exact ⟨_, eventRaise_raises ok some named alone, raiseChannel_stopped shut⟩
  case lost =>
    intro p ch named ok some alone on high waits
    exact ⟨_, eventRaise_raises ok some named alone, raiseChannel_lost on high waits⟩
  case outstanding =>
    intro p ch named ok some alone on high free slots unguarded
    refine ⟨_, eventRaise_raises ok some named alone, ?_⟩
    rw [raiseChannel_unguarded on high free unguarded]
    exact delivered_outstanding ch.isLt slots
  case opens =>
    intro p ch named ok some alone on high free slots window limit closed
    refine ⟨_, eventRaise_raises ok some named alone, ?_⟩
    rw [raiseChannel_delivers on high free]
    exact guardCount_opens_outstanding ch.isLt slots on window limit closed
  case trips =>
    intro p ch named ok some alone on high free slots window live limit
    refine ⟨_, eventRaise_raises ok some named alone, ?_⟩
    rw [raiseChannel_delivers on high free]
    exact guardCount_trips_outstanding ch.isLt slots window live limit
  case reserved =>
    intro p none
    refine ⟨_, rfl, ?_⟩
    obtain reserved | rfl := none
    · exact if_neg (by simp [reserved])
    · exact ite_self s
  case idle => exact fun k none => ⟨_, rfl, taskTake_idle none⟩
  case interrupt =>
    intro k ch tasks rest low
    obtain ⟨frame, none, pend, others, -⟩ := taken_single ch.isLt tasks
    refine ⟨_, taskAction_single tasks rest, ?_⟩
    rw [taskBusy_low s (by omega), if_neg Bool.false_ne_true, taskDo_interrupt _ low]
    exact ⟨(frame.mono (by simp) (by simp)).trans ((pendBoth_touches _ _).mono (by simp) (by simp)),
      taken_raises _ _ (by unfold Irq.EV_IRQ; omega), none, pend, others⟩
  case wake =>
    intro k ch tasks rest four rested run enabled
    obtain ⟨frame, none, pend, others, -⟩ := taken_single ch.isLt tasks
    refine ⟨_, taskAction_single tasks rest, ?_⟩
    rw [taskBusy_low s (by omega), if_neg Bool.false_ne_true, four, taskDo_wakes]
    rw [four] at frame none pend others tasks
    rw [taken_wakes tasks ch.isLt rested run enabled]
    have apart : Port.PWR_WAKE_SRC ≠ Port.EVF_CH_STAT ch.val := by unfold Port.PWR_WAKE_SRC Port.EVF_CH_STAT; omega
    exact ⟨(frame.mono (by simp) (by simp)).trans
        ((set_touches (b := Blk.sys) _ _ (by decide)).mono (by simp) (by simp)),
      State.getB_setB_same _ _ _ _ (by decide), none,
      (congrArg (bitOf · 17) (State.get_setB_other _ _ _ apart)).trans pend, others⟩
  case enables =>
    intro k ch tasks rest low high
    refine ⟨_, taskAction_single tasks rest, ?_⟩
    rw [taskBusy_low s (by omega), if_neg Bool.false_ne_true, taskDo_enables _ ⟨low, high⟩]
    exact taken_group true ch.isLt (by omega) tasks
  case disables =>
    intro k ch tasks rest low high
    refine ⟨_, taskAction_single tasks rest, ?_⟩
    rw [taskBusy_low s (by omega), if_neg Bool.false_ne_true, taskDo_disables _ ⟨low, high⟩]
    exact taken_group false ch.isLt (by omega) tasks
  case busy =>
    intro k ch tasks rest busy
    refine ⟨_, taskAction_single tasks rest, ?_⟩
    rw [busy, if_pos rfl]
    exact taken_ignored ch.isLt tasks k.isLt
  case merged =>
    intro k a b apart ta tb rest low high
    exact taskAction_merges apart ta tb rest low high
  case closes =>
    intro ch opened over_
    refine ⟨_, rfl, ?_⟩
    show State.touches _ _ _ (s.guardClose ch.val) ∧ _
    rw [guardClose_over opened over_]
    exact ⟨(setGuard_touches s _ _).trans (evfSetF_touches _ _ _ _ (evfStat_range ch.isLt)), guardOpen_setGuard_same s _ _,
      State.getF_setF_same _ _ _ _ _ (by decide), State.getB_setF_apart _ _ _ _ _ _ _ (by decide) (by omega), fun c => rfl⟩
  case stays =>
    intro ch shut
    refine ⟨_, rfl, guardClose_open ?_⟩
    obtain closed | stopped | early := shut
    · exact .inl closed
    · exact .inr (guardOver_stopped stopped)
    · exact .inr (guardOver_early early)
  case software =>
    intro m v k ch answers bit named alone on high free slots unguarded
    refine ⟨_, evSw_runs v answers, ?_⟩
    rw [bit, evSwWrite_bit s k.isLt, raiseProducer_single ch.isLt (by unfold Ev.sw; omega) named alone,
      raiseChannel_unguarded on high free unguarded]
    exact delivered_outstanding ch.isLt slots
  case zero =>
    intro m v answers none
    exact ⟨_, evSw_runs v answers, none ▸ evSwWrite_zero s⟩

end Sys2Proof.Machine

/-! The statement of 16_host_and_serial_ports.md on the serial masters (O40). -/

namespace Sys2Proof.Machine

open Sys2Proof

/-! ## A master's registers and hidden state -/

theorem psm_touches (s : State) (x : Cells Psm) : State.touches [.psm] [] s { s with psm := x } :=
  ⟨fun part other => by cases part <;> simp_all [Part.same], fun _ _ => rfl⟩

theorem setPsm_touches (s : State) (x : Nat) (p : Psm) : State.touches [.psm] [] s (s.setPsm x p) := psm_touches s _

theorem psmStat_range (x : Fin 2) : Blk.psm.1 ≤ Port.PSM_STAT x.val ∧ Port.PSM_STAT x.val ≤ Blk.psm.2 := by
  revert x
  decide

theorem psmFlags_touches (s : State) (x : Fin 2) (busy sel frame : Nat) :
    State.touches [.regs] [Blk.psm] s (s.psmFlags x.val busy sel frame) := set_touches s _ (psmStat_range x)

theorem psmFlags_shows (s : State) (x busy sel frame : Nat) :
    (s.psmFlags x busy sel frame).getF (Port.PSM_STAT x) 17 15 = (4 * busy + 2 * sel + frame) % 8 :=
  State.getF_setF_same _ _ _ _ _ (by decide)

@[simp] theorem psmFlags_psmOf (s : State) (x busy sel frame y : Nat) :
    (s.psmFlags x busy sel frame).psmOf y = s.psmOf y := rfl

theorem psmErr_shows (s : State) (x : Fin 2) :
    State.touches [.regs] [Blk.psm] s (s.psmErr x.val) ∧ (s.psmErr x.val).getB (Port.PSM_STAT x.val) 14 = true ∧
      s.counts (Port.PSM_ERRCNT x.val) (s.psmErr x.val) ∧ (s.psmErr x.val).psm = s.psm := by
  have apart : Port.PSM_ERRCNT x.val ≠ Port.PSM_STAT x.val := by unfold Port.PSM_ERRCNT Port.PSM_STAT; omega
  have range : ∀ x : Fin 2, Blk.psm.1 ≤ Port.PSM_ERRCNT x.val ∧ Port.PSM_ERRCNT x.val ≤ Blk.psm.2 := by decide
  refine ⟨(set_touches s _ (psmStat_range x)).trans (set_touches _ _ (range x)), ?_, ?_, rfl⟩
  · exact (getB_of_get (State.get_count_other _ apart) 14).trans (State.getB_setB_same _ _ _ _ (by decide))
  · exact (State.get_count_same _ _).trans (congrArg satInc (State.get_setB_other _ _ _ (Ne.symm apart)))

/-! ## What the interrupts of a master leave (R384) -/

theorem RaiseFrame.psmOf {s t : State} (h : RaiseFrame s t) (y : Nat) : t.psmOf y = s.psmOf y := by
  obtain ⟨_, _, _, _, rest⟩ := h.rest
  rw [rest]
  rfl

/-- Registers of the masters stand above the event fabric's. -/
theorem RaiseFrame.psmStat {s t : State} (h : RaiseFrame s t) (x : Nat) :
    t.get (Port.PSM_STAT x) = s.get (Port.PSM_STAT x) :=
  h.regs _ (.inr (by unfold Port.PSM_STAT; omega))

theorem psmWatch_frame (s : State) (x : Nat) (f : State → State) : RaiseFrame (f s) (s.psmWatch x f) := by
  unfold State.psmWatch
  exact ite_frame (fun _ => raise_frame _ _) fun _ => .refl _

/-- DONE is set, and at most raised. -/
theorem psmDone_frame (s : State) (x : Nat) : RaiseFrame (s.setB (Port.PSM_STAT x) 13 true) (s.psmDone x) := by
  unfold State.psmDone
  exact ite_frame (fun _ => raise_frame _ _) fun _ => .refl _

theorem psmDone_done (s : State) (x : Nat) : (s.psmDone x).getB (Port.PSM_STAT x) 13 = true :=
  (getB_of_get ((psmDone_frame s x).psmStat x) 13).trans (State.getB_setB_same _ _ _ _ (by decide))

theorem psmDone_flags (s : State) (x : Nat) :
    (s.psmDone x).getF (Port.PSM_STAT x) 17 15 = s.getF (Port.PSM_STAT x) 17 15 :=
  (getF_of_get ((psmDone_frame s x).psmStat x) 17 15).trans (State.getF_setB_apart _ _ _ _ _ _ _ (by decide) (by omega))

@[simp] theorem psmDone_psmOf (s : State) (x y : Nat) : (s.psmDone x).psmOf y = s.psmOf y :=
  ((psmDone_frame s x).psmOf y).trans (State.setB_psmOf s _ _ _ y)

/-- The parts and blocks that O40 lets a command of a master touch. -/
abbrev psmParts : List Part := [.regs, .pends, .psm, .evf]
abbrev psmBlocks : List (Nat × Nat) := [Blk.evf, Blk.psm]

theorem psmDone_touches (s : State) (x : Fin 2) : State.touches psmParts psmBlocks s (s.psmDone x.val) :=
  ((set_touches s _ (psmStat_range x)).mono (by simp) (by simp)).trans
    ((psmDone_frame s x.val).touches.mono (by simp) (by simp))

theorem psmWatch_touches {s : State} {x : Nat} {f : State → State} (h : State.touches psmParts psmBlocks s (f s)) :
    State.touches psmParts psmBlocks s (s.psmWatch x f) :=
  h.trans ((psmWatch_frame s x f).touches.mono (by simp) (by simp))

theorem updPsm_psmOf (s : State) (x : Nat) (f : Psm → Psm) : (s.updPsm x f).psmOf x = f (s.psmOf x) :=
  State.psmOf_setPsm s x _

theorem updPsm_psmOf_other (s : State) {x y : Nat} (f : Psm → Psm) (h : y ≠ x) : (s.updPsm x f).psmOf y = s.psmOf y :=
  State.psmOf_setPsm_other s _ (Ne.symm h)

theorem updPsm_touches (s : State) (x : Nat) (f : Psm → Psm) : State.touches [.psm] [] s (s.updPsm x f) :=
  setPsm_touches s x _

/-- A watched step that writes no register of the masters. -/
theorem State.touches.watched_evf {s : State} {x : Nat} {f : State → State} (h : State.touches [.psm] [] s (f s)) :
    State.touches psmParts [Blk.evf] s (s.psmWatch x f) :=
  (h.mono (by simp) (by simp)).trans ((psmWatch_frame s x f).touches.mono (by simp) (by simp))

/-- A watched step that leaves master `x` with the hidden state `p`, every other as it was. -/
structure PsmStep (x : Fin 2) (p : Psm) (s t : State) : Prop where
  frame : State.touches psmParts psmBlocks s t
  own : t.psmOf x.val = p
  others : ∀ y, y ≠ x.val → t.psmOf y = s.psmOf y

theorem PsmStep.watched {x : Fin 2} {p : Psm} {s : State} {f : State → State} (h : PsmStep x p s (f s)) :
    PsmStep x p s (s.psmWatch x.val f) :=
  ⟨psmWatch_touches h.frame, ((psmWatch_frame s x.val f).psmOf _).trans h.own,
    fun y other => ((psmWatch_frame s x.val f).psmOf y).trans (h.others y other)⟩

/-- The state of a master is set. -/
theorem PsmStep.set (s : State) (x : Fin 2) (p : Psm) : PsmStep x p s (s.setPsm x.val p) :=
  ⟨(setPsm_touches s x.val p).mono (by simp) (by simp), State.psmOf_setPsm s x.val p,
    fun _ other => State.psmOf_setPsm_other s p (Ne.symm other)⟩

theorem PsmStep.then {x : Fin 2} {p : Psm} {s t : State} (h : PsmStep x p s t) (q : Psm) :
    PsmStep x q s (t.setPsm x.val q) :=
  ⟨h.frame.trans (PsmStep.set t x q).frame, (PsmStep.set t x q).own,
    fun y other => ((PsmStep.set t x q).others y other).trans (h.others y other)⟩

/-- BUSY, SELACT and FRAME after a step. -/
theorem PsmStep.flags {x : Fin 2} {p : Psm} {s t : State} (h : PsmStep x p s t) (busy sel frame : Nat) :
    PsmStep x p s (t.psmFlags x.val busy sel frame) :=
  ⟨h.frame.trans ((psmFlags_touches t x busy sel frame).mono (by simp) (by simp)), h.own, h.others⟩

/-- DONE after a step. -/
theorem PsmStep.done {x : Fin 2} {p : Psm} {s t : State} (h : PsmStep x p s t) : PsmStep x p s (t.psmDone x.val) :=
  ⟨h.frame.trans (psmDone_touches t x), (psmDone_psmOf t _ _).trans h.own,
    fun y other => (psmDone_psmOf t _ y).trans (h.others y other)⟩

/-- What a watched step shows in STAT. -/
theorem psmWatch_flags (s : State) (x : Nat) (f : State → State) :
    (s.psmWatch x f).getF (Port.PSM_STAT x) 17 15 = (f s).getF (Port.PSM_STAT x) 17 15 :=
  getF_of_get ((psmWatch_frame s x f).psmStat x) 17 15

theorem psmWatch_done (s : State) (x : Nat) (f : State → State) :
    (s.psmWatch x f).getB (Port.PSM_STAT x) 13 = (f s).getB (Port.PSM_STAT x) 13 :=
  getB_of_get ((psmWatch_frame s x f).psmStat x) 13

/-! ## Boundaries (R382, R383) -/

theorem psmNext_shifting {s : State} {x : Nat} (busy : (s.psmOf x).shifting.isSome = true) : s.psmNext x = s := by
  unfold State.psmNext
  exact if_pos busy

theorem psmOctet_shifting {s : State} {x : Nat} (busy : (s.psmOf x).shifting.isSome = true) : s.psmOctet x = s := by
  unfold State.psmOctet
  exact if_pos (.inl busy)

theorem psmOctet_over {s : State} {x : Nat} (none : (s.psmOf x).left = 0) : s.psmOctet x = s := by
  unfold State.psmOctet
  exact if_pos (.inr none)

/-- Within a unit nothing starts. -/
theorem psmGo_shifting {s : State} {x : Nat} (busy : (s.psmOf x).shifting.isSome = true) : s.psmGo x = s := by
  unfold State.psmGo
  rw [psmNext_shifting busy, psmOctet_shifting busy, ite_self]

theorem psmNext_releases {s : State} {x : Nat} (idle : (s.psmOf x).shifting = none) (empty : (s.psmOf x).tx = [])
    (loose : s.getB (Port.PSM_OPT x) 16 = false) : s.psmNext x = s.psmFlags x 0 0 0 := by
  unfold State.psmNext
  simp [idle, empty, loose]

theorem psmNext_starts {s : State} {x : Nat} {u : BitVec 32} {r : List (BitVec 32)} (idle : (s.psmOf x).shifting = none)
    (queued : (s.psmOf x).tx = u :: r) (deaf : s.getB (Port.PSM_OPT x) 15 = false) :
    s.psmNext x = (s.setPsm x { s.psmOf x with
      tx := r, shifting := some (lineBits (s.psmLsbf x) (s.psmUnit x) u), stalled := false }).psmFlags x 1 1 0 := by
  unfold State.psmNext
  simp [idle, queued, deaf]

theorem psmOctet_sends {s : State} {x : Nat} {u : BitVec 32} {r : List (BitVec 32)} (idle : (s.psmOf x).shifting = none)
    (left : (s.psmOf x).left ≠ 0) (sends : s.getB (Port.PSM_FPH x) 5 = true) (queued : (s.psmOf x).tx = u :: r) :
    s.psmOctet x = s.setPsm x { s.psmOf x with
      tx := r, shifting := some (unitBits 8 u), left := (s.psmOf x).left - 1, stalled := false } := by
  unfold State.psmOctet
  simp [idle, left, sends, queued]

theorem psmGo_outside {s : State} {x : Nat} (outside : s.psmFrame x = false) : s.psmGo x = s.psmNext x := by
  unfold State.psmGo
  simp [outside]

/-! ## Commands, pushes and pops -/

theorem psmStart_refused {s : State} {x : Nat}
    (refused : s.psmBusy x = true ∨ (s.getB (Port.PSM_FPH x) 5 = false ∧ (s.psmOf x).tx ≠ [])) :
    s.psmStart x = s.psmErr x := by
  unfold State.psmStart
  exact if_pos refused

/-- A frame begins: its phases before the data, and `n` octets of data, are due. -/
def State.psmFramed (s : State) (x n : Nat) : State :=
  (s.updPsm x fun p => { p with left := n, lead := s.psmLead x }).psmFlags x 1 1 1

theorem psmStart_begins {s : State} {x n : Nat} (idle : s.psmBusy x = false)
    (allowed : s.getB (Port.PSM_FPH x) 5 = false → (s.psmOf x).tx = [])
    (data : (if s.getF (Port.PSM_FPH x) 11 9 = 0 then 0 else s.getF (Port.PSM_FLEN x) 15 0) = n) :
    s.psmStart x = s.psmWatch x fun s => (s.psmFramed x n).psmOctet x := by
  unfold State.psmStart
  rw [if_neg, data]
  · rfl
  · rintro (busy | ⟨receives, queued⟩)
    · simp [idle] at busy
    · exact queued (allowed receives)

theorem psmFramed_psmOf (s : State) (x n : Nat) :
    (s.psmFramed x n).psmOf x = { s.psmOf x with left := n, lead := s.psmLead x } :=
  updPsm_psmOf s x fun p => { p with left := n, lead := s.psmLead x }

theorem psmFramed_step (s : State) (x : Fin 2) (n : Nat) :
    PsmStep x { s.psmOf x.val with left := n, lead := s.psmLead x.val } s (s.psmFramed x.val n) :=
  (PsmStep.set s x _).flags 1 1 1

theorem psmFramed_fph (s : State) (x n : Nat) : (s.psmFramed x n).get (Port.PSM_FPH x) = s.get (Port.PSM_FPH x) :=
  State.get_setF_other _ _ _ _ (by unfold Port.PSM_STAT Port.PSM_FPH; omega)

theorem psmFramed_flags (s : State) (x n : Nat) : (s.psmFramed x n).getF (Port.PSM_STAT x) 17 15 = 7 :=
  psmFlags_shows _ _ _ _ _

theorem psmStop_step (s : State) (x : Fin 2) : PsmStep x Psm.idle s (s.psmStop x.val) :=
  ((PsmStep.set s x Psm.idle).flags 0 0 0).done.watched

theorem psmStop_shows (s : State) (x : Nat) :
    (s.psmStop x).getF (Port.PSM_STAT x) 17 15 = 0 ∧ (s.psmStop x).getB (Port.PSM_STAT x) 13 = true :=
  ⟨(psmWatch_flags _ _ _).trans ((psmDone_flags _ _).trans (psmFlags_shows _ _ _ _ _)),
    (psmWatch_done _ _ _).trans (psmDone_done _ _)⟩

theorem psmAbort_idle {s : State} {x : Nat} (idle : (s.psmOf x).shifting = none) : s.psmAbort x = s.psmStop x := by
  unfold State.psmAbort
  rw [if_neg (by simp [idle])]

theorem psmAbort_shifting {s : State} {x : Nat} (busy : (s.psmOf x).shifting.isSome = true) :
    s.psmAbort x = s.updPsm x fun p => { p with aborting := true } := by
  unfold State.psmAbort
  exact if_pos busy

theorem psmShifted_aborts {s : State} {x : Nat} (rx : BitVec 32) (busy : (s.psmOf x).shifting.isSome = true)
    (clocked : s.psmClocked = true) (aborting : (s.psmOf x).aborting = true) : s.psmShifted x rx = s.psmStop x := by
  unfold State.psmShifted
  rw [if_neg (by simp [clocked]; simpa [Option.isSome_iff_ne_none] using busy), if_pos aborting]

/-- What a master is once a unit of normal service was shifted and `v` sampled. -/
def State.psmSampled (s : State) (x : Nat) (v : BitVec 32) : Psm :=
  { s.psmOf x with
    shifting := none,
    rx := if s.getB (Port.PSM_OPT x) 15 then (s.psmOf x).rx ++ [lineBits (s.psmLsbf x) (s.psmUnit x) v]
      else (s.psmOf x).rx }

theorem psmSampled_keeps {s : State} {x : Nat} (v : BitVec 32) (keeps : s.getB (Port.PSM_OPT x) 15 = true) :
    s.psmSampled x v = { s.psmOf x with
      rx := (s.psmOf x).rx ++ [lineBits (s.psmLsbf x) (s.psmUnit x) v], shifting := none } := by
  unfold State.psmSampled
  rw [if_pos keeps]

/-- Outside a frame a unit that ends leads to the next boundary. -/
theorem psmShifted_next {s : State} {x : Nat} (rx : BitVec 32) (busy : (s.psmOf x).shifting.isSome = true)
    (clocked : s.psmClocked = true) (going : (s.psmOf x).aborting = false) (outside : s.psmFrame x = false) :
    s.psmShifted x rx = s.psmWatch x fun u => (u.setPsm x (s.psmSampled x rx)).psmGo x := by
  unfold State.psmShifted
  rw [if_neg (by simp [clocked]; simpa [Option.isSome_iff_ne_none] using busy), if_neg (by simp [going])]
  simp only [outside, Bool.false_eq_true, if_false]
  rfl

/-- A FIFO that falls to its threshold raises the master's interrupt. -/
theorem psmWatch_falls {s : State} {x : Nat} {f : State → State} (enabled : s.getB (Port.PSM_IEN x) 1 = true)
    (set_ : s.getF (Port.PSM_OPT x) 11 6 ≠ 0) (before : s.getF (Port.PSM_OPT x) 11 6 < (s.psmOf x).tx.length)
    (after : ((f s).psmOf x).tx.length ≤ s.getF (Port.PSM_OPT x) 11 6) :
    s.psmWatch x f = (f s).raise (Irq.PSM x) := by
  unfold State.psmWatch
  rw [if_pos]
  simp [enabled, set_, before, after]

/-- A frame that ends: its phases are gone, its flags are clear and DONE is set. -/
def State.psmEnded (s : State) (x : Nat) : State :=
  ((s.updPsm x fun p => { p with lead := [] }).psmFlags x 0 0 0).psmDone x

theorem psmEnded_step (s : State) (x : Fin 2) : PsmStep x { s.psmOf x.val with lead := [] } s (s.psmEnded x.val) :=
  ((PsmStep.set s x _).flags 0 0 0).done

theorem psmEnded_opt (s : State) (x : Nat) : (s.psmEnded x).get (Port.PSM_OPT x) = s.get (Port.PSM_OPT x) := by
  have apart : Port.PSM_STAT x ≠ Port.PSM_OPT x := by unfold Port.PSM_STAT Port.PSM_OPT; omega
  refine ((psmDone_frame _ x).regs _ (.inr (by unfold Port.PSM_OPT; omega))).trans ?_
  exact (State.get_setB_other _ _ _ apart).trans (State.get_setF_other _ _ _ _ apart)

theorem psmEnd_over {s : State} {x : Nat} (frame : s.psmFrame x = true) (clocked : s.psmClocked = true)
    (last : (s.psmOf x).left = 0) (still : (s.psmOf x).shifting = none) :
    s.psmEnd x = s.psmWatch x fun s => (s.psmEnded x).psmNext x := by
  unfold State.psmEnd
  rw [if_neg (by simp [frame, clocked, last, still])]
  rfl

theorem psmRelease_idle {s : State} {x : Nat} (outside : s.psmFrame x = false) (idle : (s.psmOf x).shifting = none)
    (empty : (s.psmOf x).tx = []) : s.psmRelease x = s.psmFlags x 0 0 0 := by
  unfold State.psmRelease
  rw [if_neg (by simp [outside, idle, empty])]

theorem psmRelease_busy {s : State} {x : Nat} (busy : s.psmFrame x = true ∨ (s.psmOf x).tx ≠ []) :
    s.psmRelease x = s := by
  unfold State.psmRelease
  exact if_pos (busy.imp_right .inr)

theorem psmFlush_idle {s : State} {x : Nat} (idle : s.psmBusy x = false) :
    s.psmFlush x = s.psmWatch x fun s => s.updPsm x fun p => { p with tx := [], rx := [], stalled := false } := by
  unfold State.psmFlush
  rw [if_neg (by simp [idle])]

theorem psmFlush_busy {s : State} {x : Nat} (busy : s.psmBusy x = true) : s.psmFlush x = s := by
  unfold State.psmFlush
  exact if_pos busy

/-- The entry that a write of TXD_0 makes. -/
def State.psmEntry (s : State) (x : Nat) (v : Word) : BitVec 32 := (s.get (Port.PSM_TXD_1 x)).extractLsb' 0 14 ++ v

/-- It stands behind the entries of the TX FIFO. -/
def State.psmEntered (s : State) (x : Nat) (e : BitVec 32) : State := s.updPsm x fun p => { p with tx := p.tx ++ [e] }

theorem psmEntered_step (s : State) (x : Fin 2) (e : BitVec 32) :
    PsmStep x { s.psmOf x.val with tx := (s.psmOf x.val).tx ++ [e] } s (s.psmEntered x.val e) := .set s x _

theorem psmPush_enters {s : State} {x : Nat} (v : Word) (room : (s.psmOf x).tx.length < 16) :
    s.psmPush x v = s.psmWatch x fun s' => (s'.psmEntered x (s.psmEntry x v)).psmGo x := by
  unfold State.psmPush
  rw [if_neg (by omega)]
  rfl

theorem psmPush_full {s : State} {x : Nat} (v : Word) (full : 16 ≤ (s.psmOf x).tx.length) :
    s.psmPush x v = s.psmErr x := by
  unfold State.psmPush
  exact if_pos full

theorem psmPop_entry {s : State} {x : Nat} {e : BitVec 32} {r : List (BitVec 32)} (queued : (s.psmOf x).rx = e :: r) :
    s.psmPop x = (e, s.psmWatch x fun s => (s.updPsm x fun p => { p with rx := r }).psmGo x) := by
  unfold State.psmPop
  rw [queued]

theorem regRow_rxd : ∀ x : Fin 2, regRow (Port.PSM_RXD_0 x.val) = some ⟨0x0E06, 256, 2, 0, 0, 0, 0, false⟩ := by
  decide +kernel

/-- A read of RXD_0 pops an entry: its low word is the answer, its high bits are latched. -/
theorem masterRead_rxd {s : State} {m : Master} {x : Fin 2} (a : s.answers m (Port.PSM_RXD_0 x.val) = true) :
    s.masterRead m (Port.PSM_RXD_0 x.val) = ((s.psmPop x.val).2.setLatch m (Port.PSM_RXD_1 x.val)
      (((s.psmPop x.val).1.extractLsb' 18 14).setWidth 18)).setData m ((s.psmPop x.val).1.extractLsb' 0 18) := by
  have value : s.readValue m (Port.PSM_RXD_0 x.val) = (s.psmPop x.val).1.extractLsb' 0 18 := by
    rw [readValue_shown s m (regRow_rxd x) rfl]
    match x with
    | 0 => rfl
    | 1 => rfl
  have effect : s.readEffect m (Port.PSM_RXD_0 x.val) = (s.psmPop x.val).2.setLatch m (Port.PSM_RXD_1 x.val)
      (((s.psmPop x.val).1.extractLsb' 18 14).setWidth 18) := by
    match x with
    | 0 => rfl
    | 1 => rfl
  rw [masterRead_answered a, value, effect]

/-- A frame's start, shown to a reader of STAT. -/
theorem psmStart_flags {s : State} {x n : Nat} (u : State) (octet : (s.psmFramed x n).psmOctet x = u)
    (stat : u.get (Port.PSM_STAT x) = (s.psmFramed x n).get (Port.PSM_STAT x)) :
    (s.psmWatch x fun s => (s.psmFramed x n).psmOctet x).getF (Port.PSM_STAT x) 17 15 = 7 := by
  rw [psmWatch_flags, octet]
  exact (getF_of_get stat 17 15).trans (psmFramed_flags s x n)

/-! ## The commands of O40 -/

section
variable {s : State} {x : Fin 2}

/-- A frame without data selects the device and sends its phases. -/
theorem psmStart_bare (idle : s.psmBusy x.val = false) (empty : (s.psmOf x.val).tx = [])
    (bare : s.getF (Port.PSM_FPH x.val) 11 9 = 0) :
    PsmStep x { s.psmOf x.val with left := 0, lead := s.psmLead x.val } s (s.psmStart x.val) ∧
      (s.psmStart x.val).getF (Port.PSM_STAT x.val) 17 15 = 7 := by
  have over_ : (s.psmFramed x.val 0).psmOctet x.val = s.psmFramed x.val 0 := psmOctet_over (by rw [psmFramed_psmOf])
  rw [psmStart_begins idle (fun _ => empty) (if_pos bare)]
  exact ⟨.watched (by rw [over_]; exact psmFramed_step s x 0), psmStart_flags _ over_ rfl⟩

/-- A frame that sends takes its first octet from the TX FIFO. -/
theorem psmStart_sends {u : BitVec 32} {r : List (BitVec 32)} (idle : s.psmBusy x.val = false)
    (queued : (s.psmOf x.val).tx = u :: r) (still : (s.psmOf x.val).shifting = none)
    (sends : s.getB (Port.PSM_FPH x.val) 5 = true) (data : s.getF (Port.PSM_FPH x.val) 11 9 ≠ 0)
    (long : s.getF (Port.PSM_FLEN x.val) 15 0 ≠ 0) :
    PsmStep x { s.psmOf x.val with
        tx := r, shifting := some (unitBits 8 u), left := s.getF (Port.PSM_FLEN x.val) 15 0 - 1,
        lead := s.psmLead x.val, stalled := false } s (s.psmStart x.val) ∧
      (s.psmStart x.val).getF (Port.PSM_STAT x.val) 17 15 = 7 := by
  obtain ⟨n, size⟩ : ∃ n, n = s.getF (Port.PSM_FLEN x.val) 15 0 := ⟨_, rfl⟩
  rw [← size] at long ⊢
  have own := psmFramed_psmOf s x.val n
  have octet := psmOctet_sends (s := s.psmFramed x.val n) (x := x.val) (u := u) (r := r) (by rw [own]; exact still)
    (by rw [own]; exact long) ((getB_of_get (psmFramed_fph s x.val n) 5).trans sends) (by rw [own]; exact queued)
  rw [psmStart_begins (n := n) idle (fun receives => absurd sends (by simp [receives])) (by rw [if_neg data, size])]
  refine ⟨.watched ?_, psmStart_flags _ octet rfl⟩
  rw [octet, own]
  exact (psmFramed_step s x n).then _

/-- A push while a unit is shifted adds its entry behind the others. -/
theorem psmPush_within (v : Word) (room : (s.psmOf x.val).tx.length < 16)
    (busy : (s.psmOf x.val).shifting.isSome = true) :
    PsmStep x { s.psmOf x.val with tx := (s.psmOf x.val).tx ++ [s.psmEntry x.val v] } s (s.psmPush x.val v) := by
  have entered := psmEntered_step s x (s.psmEntry x.val v)
  have still : (s.psmEntered x.val (s.psmEntry x.val v)).psmGo x.val = s.psmEntered x.val (s.psmEntry x.val v) :=
    psmGo_shifting (by rw [entered.own]; exact busy)
  rw [psmPush_enters v room]
  exact .watched (by rw [still]; exact entered)

/-- A push to an idle master starts its unit. -/
theorem psmPush_starts (v : Word) (idle : s.psmOf x.val = Psm.idle) (outside : s.psmFrame x.val = false)
    (deaf : s.getB (Port.PSM_OPT x.val) 15 = false) :
    PsmStep x { Psm.idle with
        shifting := some (lineBits (s.psmLsbf x.val) (s.psmUnit x.val) (s.psmEntry x.val v)) } s (s.psmPush x.val v) ∧
      (s.psmPush x.val v).getF (Port.PSM_STAT x.val) 17 15 = 6 := by
  have entered := psmEntered_step s x (s.psmEntry x.val v)
  have own : (s.psmEntered x.val (s.psmEntry x.val v)).psmOf x.val = { Psm.idle with tx := [s.psmEntry x.val v] } := by
    rw [entered.own, idle]
    rfl
  have next := psmNext_starts (s := s.psmEntered x.val (s.psmEntry x.val v)) (x := x.val) (u := s.psmEntry x.val v)
    (r := []) (by rw [own]; rfl) (by rw [own]) deaf
  rw [own] at next
  have go := (psmGo_outside (s := s.psmEntered x.val (s.psmEntry x.val v)) outside).trans next
  rw [psmPush_enters v (by rw [idle]; decide)]
  refine ⟨.watched ?_, (psmWatch_flags _ _ _).trans ?_⟩
  · rw [go]
    exact (entered.then _).flags 1 1 0
  · rw [go]
    exact psmFlags_shows _ _ _ _ _

/-- A pop while a unit is shifted takes the oldest entry. -/
theorem psmPop_within {e : BitVec 32} {r : List (BitVec 32)} (queued : (s.psmOf x.val).rx = e :: r)
    (busy : (s.psmOf x.val).shifting.isSome = true) :
    (s.psmPop x.val).1 = e ∧ PsmStep x { s.psmOf x.val with rx := r } s (s.psmPop x.val).2 := by
  have still : (s.updPsm x.val fun p => { p with rx := r }).psmGo x.val = s.updPsm x.val fun p => { p with rx := r } :=
    psmGo_shifting (by rw [updPsm_psmOf]; exact busy)
  have step := PsmStep.watched (x := x) (s := s) (f := fun s => (s.updPsm x.val fun p => { p with rx := r }).psmGo x.val)
    (p := { s.psmOf x.val with rx := r }) (by rw [still]; exact .set s x _)
  rw [psmPop_entry queued]
  exact ⟨rfl, step⟩

section
variable (rx : BitVec 32) (busy : (s.psmOf x.val).shifting.isSome = true) (clocked : s.psmClocked = true)
  (going : (s.psmOf x.val).aborting = false) (outside : s.psmFrame x.val = false)
include busy clocked going outside

/-- The last unit of normal service releases the select. -/
theorem psmShifted_last (loose : s.getB (Port.PSM_OPT x.val) 16 = false) (empty : (s.psmOf x.val).tx = []) :
    PsmStep x (s.psmSampled x.val rx) s (s.psmShifted x.val rx) ∧
      (s.psmShifted x.val rx).getF (Port.PSM_STAT x.val) 17 15 = 0 := by
  have own := (PsmStep.set s x (s.psmSampled x.val rx)).own
  have go := (psmGo_outside (s := s.setPsm x.val (s.psmSampled x.val rx)) outside).trans
    (psmNext_releases (by rw [own]; rfl) (by rw [own]; exact empty) loose)
  rw [psmShifted_next rx busy clocked going outside]
  refine ⟨.watched ?_, (psmWatch_flags _ _ _).trans ?_⟩
  · rw [go]
    exact (PsmStep.set s x _).flags 0 0 0
  · rw [go]
    exact psmFlags_shows _ _ _ _ _

/-- The next unit that takes the TX FIFO down to its threshold raises the interrupt. -/
theorem psmShifted_falls (deaf : s.getB (Port.PSM_OPT x.val) 15 = false)
    (enabled : s.getB (Port.PSM_IEN x.val) 1 = true) (set_ : s.getF (Port.PSM_OPT x.val) 11 6 ≠ 0)
    (filled : (s.psmOf x.val).tx.length = s.getF (Port.PSM_OPT x.val) 11 6 + 1) :
    State.touches psmParts psmBlocks s (s.psmShifted x.val rx) ∧
      ((s.psmShifted x.val rx).psmOf x.val).tx = (s.psmOf x.val).tx.drop 1 ∧
      s.raises (Irq.PSM x.val) (s.psmShifted x.val rx) := by
  obtain ⟨u, r, queued⟩ : ∃ u r, (s.psmOf x.val).tx = u :: r := by
    cases h : (s.psmOf x.val).tx with
    | nil => rw [h] at filled; exact absurd filled (by simp)
    | cons u r => exact ⟨u, r, rfl⟩
  have own := (PsmStep.set s x (s.psmSampled x.val rx)).own
  have go := (psmGo_outside (s := s.setPsm x.val (s.psmSampled x.val rx)) outside).trans
    (psmNext_starts (by rw [own]; rfl) (by rw [own]; exact queued) deaf)
  obtain ⟨p, inner, short⟩ : ∃ p, PsmStep x p s ((s.setPsm x.val (s.psmSampled x.val rx)).psmGo x.val) ∧ p.tx = r :=
    ⟨_, by rw [go]; exact ((PsmStep.set s x (s.psmSampled x.val rx)).then _).flags 1 1 0, rfl⟩
  have step := PsmStep.watched (f := fun u => (u.setPsm x.val (s.psmSampled x.val rx)).psmGo x.val) inner
  have falls := psmWatch_falls (f := fun u => (u.setPsm x.val (s.psmSampled x.val rx)).psmGo x.val) enabled set_
    (by omega) (by rw [inner.own, short]; rw [queued] at filled; simpa using filled.le)
  rw [psmShifted_next rx busy clocked going outside]
  refine ⟨step.frame, by rw [step.own, short, queued]; rfl, ?_⟩
  rw [falls, go]
  exact fun c live => raise_pends _ _ c (by cases c <;> exact live) (by unfold Irq.PSM; omega)

end

/-- A frame whose data phase is over releases the select and sets DONE. -/
theorem psmEnd_releases (frame : s.psmFrame x.val = true) (clocked : s.psmClocked = true)
    (last : (s.psmOf x.val).left = 0) (still : (s.psmOf x.val).shifting = none) (empty : (s.psmOf x.val).tx = [])
    (loose : s.getB (Port.PSM_OPT x.val) 16 = false) :
    PsmStep x { s.psmOf x.val with lead := [] } s (s.psmEnd x.val) ∧
      (s.psmEnd x.val).getF (Port.PSM_STAT x.val) 17 15 = 0 ∧ (s.psmEnd x.val).getB (Port.PSM_STAT x.val) 13 = true := by
  have ended := psmEnded_step s x
  have next : (s.psmEnded x.val).psmNext x.val = (s.psmEnded x.val).psmFlags x.val 0 0 0 :=
    psmNext_releases (by rw [ended.own]; exact still) (by rw [ended.own]; exact empty)
      ((getB_of_get (psmEnded_opt s x.val) 16).trans loose)
  rw [psmEnd_over frame clocked last still]
  refine ⟨.watched ?_, (psmWatch_flags _ _ _).trans ?_, (psmWatch_done _ _ _).trans ?_⟩
  · rw [next]
    exact ended.flags 0 0 0
  · rw [next]
    exact psmFlags_shows _ _ _ _ _
  · rw [next]
    exact (State.getB_setF_apart _ _ _ _ _ _ _ (by decide) (by omega)).trans (psmDone_done _ _)

end

/-- Settles O40: each command's step is followed through `psmWatch`, which adds at most the master's interrupt. -/
theorem serialMastersMoveUnitsAndFrames : Obligations.SerialMastersMoveUnitsAndFrames := by
  unfold Obligations.SerialMastersMoveUnitsAndFrames
  intro s
  refine ⟨?startBusy, ?startQueued, ?startBare, ?startData, ?abortIdle, ?abortUnit, ?release, ?releaseBusy, ?flush,
    ?flushBusy, ?pushUnit, ?pushIdle, ?pushFull, ?pop, ?noUnit, ?lastUnit, ?aborted, ?threshold, ?frameDone, ?noFrame⟩
  case startBusy =>
    intro m x a busy
    exact completes_portCmd (act := fun t => t.psmStart x.val) rfl a (psmStart_refused (.inl busy) ▸ psmErr_shows s x)
  case startQueued =>
    intro m x a idle receives queued
    exact completes_portCmd (act := fun t => t.psmStart x.val) rfl a
      (psmStart_refused (.inr ⟨receives, queued⟩) ▸ psmErr_shows s x)
  case startBare =>
    intro m x a idle empty bare
    obtain ⟨step, flags⟩ := psmStart_bare idle empty bare
    exact completes_portCmd (act := fun t => t.psmStart x.val) rfl a ⟨step.frame, flags, step.own, step.others⟩
  case startData =>
    intro m x u r a idle queued still sends data long
    obtain ⟨step, flags⟩ := psmStart_sends idle queued still sends data long
    exact completes_portCmd (act := fun t => t.psmStart x.val) rfl a ⟨step.frame, flags, step.own, step.others⟩
  case abortIdle =>
    intro m x a still
    obtain ⟨flags, done⟩ := psmStop_shows s x.val
    have step := psmStop_step s x
    rw [← psmAbort_idle still] at flags done step
    exact completes_portCmd (act := fun t => t.psmAbort x.val) rfl a ⟨step.frame, flags, step.own, done, step.others⟩
  case abortUnit =>
    intro m x a busy
    refine completes_portCmd (act := fun t => t.psmAbort x.val) rfl a ?_
    rw [psmAbort_shifting busy]
    exact ⟨updPsm_touches s _ _, updPsm_psmOf s _ _, rfl, fun y other => updPsm_psmOf_other s _ other⟩
  case release =>
    intro m x a outside still empty
    exact completes_portCmd (act := fun t => t.psmRelease x.val) rfl a (psmRelease_idle outside still empty)
  case releaseBusy =>
    intro m x a busy
    exact completes_portCmd (act := fun t => t.psmRelease x.val) rfl a (psmRelease_busy busy)
  case flush =>
    intro m x a idle
    refine completes_portCmd (act := fun t => t.psmFlush x.val) rfl a ?_
    have step : PsmStep x { s.psmOf x.val with tx := [], rx := [], stalled := false } s
        (s.psmWatch x.val fun s => s.updPsm x.val fun p => { p with tx := [], rx := [], stalled := false }) :=
      .watched (.set s x _)
    rw [psmFlush_idle idle]
    exact ⟨(updPsm_touches s x.val _).watched_evf, step.own, step.others⟩
  case flushBusy =>
    intro m x a busy
    exact completes_portCmd (act := fun t => t.psmFlush x.val) rfl a (psmFlush_busy busy)
  case pushUnit =>
    intro m x v a room busy
    have step := psmPush_within v room busy
    exact completes_portCmd (act := fun t => t.psmPush x.val v) rfl a ⟨step.frame, step.own, step.others⟩
  case pushIdle =>
    intro m x v a idle outside deaf
    obtain ⟨step, flags⟩ := psmPush_starts v idle outside deaf
    exact completes_portCmd (act := fun t => t.psmPush x.val v) rfl a ⟨step.frame, flags, step.own, step.others⟩
  case pushFull =>
    intro m x v a full
    exact completes_portCmd (act := fun t => t.psmPush x.val v) rfl a (psmPush_full v full ▸ psmErr_shows s x)
  case pop =>
    intro m x e r a queued busy
    obtain ⟨entry, step⟩ := psmPop_within queued busy
    refine ⟨_, congrArg Host.Outcome.next (masterRead_rxd a), ?_⟩
    rw [entry]
    exact ⟨(step.frame.mono (by simp) (by simp)).trans ((latch_touches _ _).mono (by simp) (by simp)), rd_setData _ m _,
      step.own, latched_setLatch _ m _ _, step.others⟩
  case noUnit =>
    intro x rx none
    refine ⟨_, rfl, ?_⟩
    show s.psmShifted x.val rx = s
    unfold State.psmShifted
    exact if_pos (none.imp_left fun h => by rw [h]; rfl)
  case lastUnit =>
    intro x rx busy clocked going outside keeps loose empty
    obtain ⟨step, flags⟩ := psmShifted_last rx busy clocked going outside loose empty
    exact ⟨_, rfl, step.frame, step.own.trans (psmSampled_keeps rx keeps), flags, step.others⟩
  case aborted =>
    intro x rx busy clocked aborting
    obtain ⟨flags, done⟩ := psmStop_shows s x.val
    have step := psmStop_step s x
    exact ⟨_, congrArg Host.Outcome.next (psmShifted_aborts rx busy clocked aborting), step.frame, flags, step.own, done,
      step.others⟩
  case threshold =>
    intro x rx busy clocked going outside deaf enabled set_ filled
    exact ⟨_, rfl, psmShifted_falls rx busy clocked going outside deaf enabled set_ filled⟩
  case frameDone =>
    intro x frame clocked last still empty loose
    obtain ⟨step, flags, done⟩ := psmEnd_releases frame clocked last still empty loose
    exact ⟨_, rfl, step.frame, flags, done, step.own, step.others⟩
  case noFrame =>
    intro x running
    refine ⟨_, rfl, ?_⟩
    show s.psmEnd x.val = s
    unfold State.psmEnd
    refine if_pos ?_
    tauto

end Sys2Proof.Machine

/-! The statement of 18_events_timers_rtc.md on the timers (O47). -/

namespace Sys2Proof.Machine

open Sys2Proof

/-! ## Values of a timer (R430) -/

theorem timPair_of_get {s t : State} {n : Nat} (h : t.get (Port.TIM_CTRL n) = s.get (Port.TIM_CTRL n)) :
    t.timPair n = s.timPair n := by
  unfold State.timPair
  rw [getB_of_get h]

theorem timVal_of_get {s t : State} {n off : Nat} (ctrl : t.get (Port.TIM_CTRL n) = s.get (Port.TIM_CTRL n))
    (low : t.get (Port.TIM_CTRL n + off) = s.get (Port.TIM_CTRL n + off))
    (high : t.get (Port.TIM_CTRL (n + 1) + off) = s.get (Port.TIM_CTRL (n + 1) + off)) :
    t.timVal n off = s.timVal n off := by
  unfold State.timVal
  rw [timPair_of_get ctrl, low, high]

/-- Values below this bound are held. -/
def State.timRange (s : State) (n : Nat) : Nat := if s.timPair n then 2 ^ 36 else 2 ^ 18

theorem timVal_lt (s : State) (n off : Nat) : s.timVal n off < s.timRange n := by
  have low := (s.get (Port.TIM_CTRL n + off)).isLt
  have high := (s.get (Port.TIM_CTRL (n + 1) + off)).isLt
  unfold State.timVal State.timRange
  split <;> omega

theorem get_setTimVal (s : State) {n off q : Nat} (v : Nat) (low : Port.TIM_CTRL n + off ≠ q)
    (high : Port.TIM_CTRL (n + 1) + off ≠ q) : (s.setTimVal n off v).get q = s.get q := by
  unfold State.setTimVal
  dsimp only
  split
  · rw [State.get_set_other _ _ high, State.get_set_other _ _ low]
  · exact State.get_set_other _ _ low

theorem ctrl_setTimVal (s : State) {n off : Nat} (v : Nat) (inside : 0 < off ∧ off < 64) :
    (s.setTimVal n off v).get (Port.TIM_CTRL n) = s.get (Port.TIM_CTRL n) :=
  get_setTimVal s v (by unfold Port.TIM_CTRL; omega) (by unfold Port.TIM_CTRL; omega)

theorem timVal_setTimVal_same (s : State) {n off v : Nat} (inside : 0 < off ∧ off < 64) (held : v < s.timRange n) :
    (s.setTimVal n off v).timVal n off = v := by
  have apart : Port.TIM_CTRL (n + 1) + off ≠ Port.TIM_CTRL n + off := by unfold Port.TIM_CTRL; omega
  have pair := timPair_of_get (ctrl_setTimVal s (n := n) v inside)
  unfold State.timVal
  rw [pair]
  unfold State.timRange at held
  unfold State.setTimVal
  split at held
  · next paired =>
    simp only [paired, if_true]
    rw [State.get_set_other _ _ apart, State.get_set_same, State.get_set_same]
    simp only [BitVec.toNat_ofNat]
    omega
  · next alone =>
    simp only [alone, Bool.false_eq_true, if_false]
    rw [State.get_set_same, BitVec.toNat_ofNat]
    omega

theorem timVal_setTimVal_other (s : State) {n off v at_ : Nat} (inside : 0 < off ∧ off < 64) (other : at_ < 64)
    (apart : at_ ≠ off) : (s.setTimVal n off v).timVal n at_ = s.timVal n at_ :=
  timVal_of_get (ctrl_setTimVal s v inside)
    (get_setTimVal s v (by unfold Port.TIM_CTRL; omega) (by unfold Port.TIM_CTRL; omega))
    (get_setTimVal s v (by unfold Port.TIM_CTRL; omega) (by unfold Port.TIM_CTRL; omega))

theorem timRun_setTimVal (s : State) {n off v : Nat} (inside : 3 < off ∧ off < 64) :
    (s.setTimVal n off v).get (Port.TIM_STAT n) = s.get (Port.TIM_STAT n) :=
  get_setTimVal s v (by unfold Port.TIM_CTRL Port.TIM_STAT; omega) (by unfold Port.TIM_CTRL Port.TIM_STAT; omega)

theorem setTimVal_alone (s : State) {n : Nat} (off v : Nat) (alone : s.timPair n = false) :
    s.setTimVal n off v = s.set (Port.TIM_CTRL n + off) (BitVec.ofNat 18 v) := by
  unfold State.setTimVal
  simp only [alone, Bool.false_eq_true, if_false]

theorem tim_touches (s : State) (x : Tim) : State.touches [.tim] [] s { s with tim := x } :=
  ⟨fun part other => by cases part <;> simp_all [Part.same], fun _ _ => rfl⟩

/-- The parts and the block that O47 lets a quiet tick touch. -/
abbrev timParts : List Part := [.regs, .tim]

theorem timSet_touches (s : State) {p : Nat} (v : Word) (h : 0x0800 ≤ p ∧ p ≤ 0x0AFF) :
    State.touches timParts [Blk.tim] s (s.set p v) := (set_touches (b := Blk.tim) s v h).mono (by simp) (by simp)

theorem setTimVal_touches (s : State) {n off : Nat} (v : Nat) (hn : n < 12) (inside : off < 64) :
    State.touches timParts [Blk.tim] s (s.setTimVal n off v) := by
  have low : ∀ u : State, State.touches timParts [Blk.tim] u (u.set (Port.TIM_CTRL n + off) (BitVec.ofNat 18 v)) :=
    fun u => timSet_touches u _ (by unfold Port.TIM_CTRL; omega)
  cases paired : s.timPair n with
  | false =>
    rw [setTimVal_alone s off v paired]
    exact low s
  | true =>
    have even : n % 2 = 0 := by simp [State.timPair] at paired; exact paired.1
    unfold State.setTimVal
    simp only [paired, if_true]
    exact (low s).trans (timSet_touches _ _ (by unfold Port.TIM_CTRL; omega))

theorem setTimAcc_touches (s : State) (n v : Nat) : State.touches timParts [Blk.tim] s (s.setTimAcc n v) :=
  (tim_touches s _).mono (by simp) (by simp)

@[simp] theorem timAcc_setTimAcc (s : State) (n v : Nat) : (s.setTimAcc n v).timAcc n = v := by
  show Cells.rd (fun _ => 0) (Cells.wr (fun _ => 0) s.tim.acc n v) n = v
  rw [Cells.rd_wr, if_pos rfl]

@[simp] theorem timAcc_setTimVal (s : State) (n off v m : Nat) : (s.setTimVal n off v).timAcc m = s.timAcc m := by
  unfold State.setTimVal
  dsimp only
  split <;> rfl

/-! ## Events of a timer in Run (R426, R428) -/

/-- The device is in Run, at rest. -/
def State.inRun (s : State) : Prop := s.level = 0 ∧ s.phase = 0

theorem inRun_of_get {s t : State} (run : s.inRun) (same : t.get Port.PWR_STAT = s.get Port.PWR_STAT) : t.inRun :=
  ⟨(getF_of_get same 17 15).trans run.1, (getF_of_get same 11 9).trans run.2⟩

/-- In Run a wake source is recorded at most. -/
theorem wakeFrom_inRun {s : State} (run : s.inRun) (src : Nat) :
    s.wakeFrom src = if s.getB Port.PWR_WAKE src then s.setB Port.PWR_WAKE_SRC src true else s := by
  have still := inRun_of_get (t := s.setB Port.PWR_WAKE_SRC src true) run (State.get_setB_other _ _ _ (by decide))
  have idle : (s.setB Port.PWR_WAKE_SRC src true).wakeNow = s.setB Port.PWR_WAKE_SRC src true := by
    unfold State.wakeNow
    rw [if_neg (by rw [still.2]; decide), if_neg (fun h => h.2 still.1)]
  unfold State.wakeFrom
  rw [idle]

/-- What an event of timer `n` leaves in Run: the timers' registers but its STAT, what lies beyond them, that the device is
in Run, and what was raised. -/
structure TimEvent (n : Nat) (s t : State) : Prop where
  regs : ∀ q, 0x0800 ≤ q → q ≤ 0x0AFF → q ≠ Port.TIM_STAT n → t.get q = s.get q
  tim : t.tim = s.tim
  power : t.get Port.PWR_STAT = s.get Port.PWR_STAT
  raises : ∀ (r : State) (i : Nat), r.raises i s → r.raises i t
  live : ∀ c, (t.core c).inReset = (s.core c).inReset

theorem TimEvent.refl (n : Nat) (s : State) : TimEvent n s s := ⟨fun _ _ _ _ => rfl, rfl, rfl, fun _ _ h => h, fun _ => rfl⟩

theorem TimEvent.trans {n : Nat} {s t u : State} (h : TimEvent n s t) (k : TimEvent n t u) : TimEvent n s u :=
  ⟨fun q lo hi other => (k.regs q lo hi other).trans (h.regs q lo hi other), k.tim.trans h.tim, k.power.trans h.power,
    fun r i p => k.raises r i (h.raises r i p), fun c => (k.live c).trans (h.live c)⟩

theorem RaiseFrame.live {s t : State} (h : RaiseFrame s t) (c : Core) : (t.core c).inReset = (s.core c).inReset := by
  obtain ⟨-, ⟨a, apc⟩, ⟨b, lkc⟩, -⟩ := h
  cases c with
  | apc =>
    show t.apc.inReset = s.apc.inReset
    rw [apc]
  | lkc =>
    show t.lkc.inReset = s.lkc.inReset
    rw [lkc]

theorem RaiseFrame.tim {s t : State} (h : RaiseFrame s t) : t.tim = s.tim := by
  obtain ⟨_, _, _, _, rest⟩ := h.rest
  rw [rest]

theorem RaiseFrame.event {s t : State} (h : RaiseFrame s t) (n : Nat) : TimEvent n s t :=
  ⟨fun q lo _ _ => h.regs q (.inr (by omega)), h.tim, h.regs _ (.inl (by decide)), fun _ _ => h.raises, h.live⟩

theorem RaiseFrame.timStat {s t : State} (h : RaiseFrame s t) (n : Nat) :
    t.get (Port.TIM_STAT n) = s.get (Port.TIM_STAT n) := h.regs _ (.inr (by unfold Port.TIM_STAT; omega))

theorem TimEvent.stat (s : State) (n b : Nat) (v : Bool) : TimEvent n s (s.setB (Port.TIM_STAT n) b v) :=
  ⟨fun _ _ _ other => State.get_setB_other _ _ _ (Ne.symm other), rfl,
    State.get_setB_other _ _ _ (by unfold Port.TIM_STAT Port.PWR_STAT; omega), fun _ _ h => h, fun c => by cases c <;> rfl⟩

/-- A wake of a timer in Run. -/
theorem timWake_event {s : State} (run : s.inRun) (n : Nat) :
    TimEvent n s (s.timWake n) ∧ (s.timWake n).get (Port.TIM_STAT n) = s.get (Port.TIM_STAT n) := by
  have apart : ∀ q, 0x0800 ≤ q → Port.PWR_WAKE_SRC ≠ q := fun q lo => by unfold Port.PWR_WAKE_SRC; omega
  have recorded : TimEvent n s (s.setB Port.PWR_WAKE_SRC 3 true) :=
    ⟨fun q lo _ _ => State.get_setB_other _ _ _ (apart q lo), rfl, State.get_setB_other _ _ _ (by decide),
      fun _ _ h => h, fun c => by cases c <;> rfl⟩
  unfold State.timWake
  rw [wakeFrom_inRun run]
  split
  · split
    · exact ⟨recorded, State.get_setB_other _ _ _ (apart _ (by unfold Port.TIM_STAT; omega))⟩
    · exact ⟨.refl n s, rfl⟩
  · exact ⟨.refl n s, rfl⟩

theorem TimEvent.inRun {n : Nat} {s t : State} (h : TimEvent n s t) (run : s.inRun) : t.inRun := inRun_of_get run h.power

/-- The producer of a channel and, while enabled, the interrupt. -/
theorem timCcEvent_frame (s : State) (n k : Nat) : RaiseFrame s (s.timCcEvent n k) := by
  unfold State.timCcEvent
  exact ite_frame (fun _ => (raiseProducer_frame s _).trans (raise_frame _ _)) fun _ => raiseProducer_frame s _

theorem timCcEvent_raises {s : State} {n k : Nat} (enabled : s.getB (Port.TIM_IEN n) k = true) (small : n < 12) :
    s.raises (Irq.TIM_GRP n) (s.timCcEvent n k) := by
  unfold State.timCcEvent
  rw [if_pos enabled]
  exact fun c up => raise_pends _ _ c (((raiseProducer_frame s _).live c).trans up) (by unfold Irq.TIM_GRP; omega)

/-- A compare event sets its CMPF and changes no other bit of STAT. -/
theorem timCompare_event {s : State} (run : s.inRun) (n k : Nat) :
    TimEvent n s (s.timCompare n k) ∧
      (s.timCompare n k).get (Port.TIM_STAT n) = (s.setB (Port.TIM_STAT n) k true).get (Port.TIM_STAT n) := by
  have marked := TimEvent.stat s n k true
  have frame := timCcEvent_frame (s.setB (Port.TIM_STAT n) k true) n k
  obtain ⟨woken, shown⟩ := timWake_event ((frame.event n).inRun (marked.inRun run)) n
  exact ⟨(marked.trans (frame.event n)).trans woken, shown.trans (frame.timStat n)⟩

theorem timCompare_raises {s : State} (run : s.inRun) {n k : Nat} (small : n < 12)
    (enabled : s.getB (Port.TIM_IEN n) k = true) : s.raises (Irq.TIM_GRP n) (s.timCompare n k) := by
  have marked := TimEvent.stat s n k true
  have frame := timCcEvent_frame (s.setB (Port.TIM_STAT n) k true) n k
  have ien : (s.setB (Port.TIM_STAT n) k true).getB (Port.TIM_IEN n) k = true :=
    (getB_of_get (State.get_setB_other _ _ _ (by unfold Port.TIM_STAT Port.TIM_IEN; omega)) k).trans enabled
  refine (timWake_event ((frame.event n).inRun (marked.inRun run)) n).1.raises _ _ fun c up => ?_
  exact timCcEvent_raises ien small c ((marked.live c).trans up)

/-- The period event sets PERF; RUN clears in one-shot. -/
theorem timPeriodEvent_event {s : State} (run : s.inRun) (n : Nat) :
    TimEvent n s (s.timPeriodEvent n) ∧ (s.timPeriodEvent n).getB (Port.TIM_STAT n) 14 = true ∧
      (s.timPeriodEvent n).timRun n = (s.timRun n && !s.getB (Port.TIM_CTRL n) 14) := by
  have marked := TimEvent.stat s n 14 true
  have produced := raiseProducer_frame (s.setB (Port.TIM_STAT n) 14 true) (Ev.timPeriod n)
  have raised : RaiseFrame (s.setB (Port.TIM_STAT n) 14 true)
      (if s.getB (Port.TIM_IEN n) 4 then
        ((s.setB (Port.TIM_STAT n) 14 true).raiseProducer (Ev.timPeriod n)).raise (Irq.TIM_GRP n)
      else (s.setB (Port.TIM_STAT n) 14 true).raiseProducer (Ev.timPeriod n)) :=
    ite_frame (fun _ => produced.trans (raise_frame _ _)) fun _ => produced
  unfold State.timPeriodEvent
  dsimp only
  generalize (if s.getB (Port.TIM_IEN n) 4 then
    ((s.setB (Port.TIM_STAT n) 14 true).raiseProducer (Ev.timPeriod n)).raise (Irq.TIM_GRP n)
    else (s.setB (Port.TIM_STAT n) 14 true).raiseProducer (Ev.timPeriod n)) = u at raised
  have event : TimEvent n s u := marked.trans (raised.event n)
  have perf : u.getB (Port.TIM_STAT n) 14 = true :=
    (getB_of_get (raised.timStat n) 14).trans (State.getB_setB_same _ _ _ _ (by decide))
  have runs : u.timRun n = s.timRun n :=
    (getB_of_get (raised.timStat n) 17).trans (State.getB_setB_other _ _ _ _ _ _ (by decide) (by decide))
  cases oneShot : s.getB (Port.TIM_CTRL n) 14 with
  | false =>
    obtain ⟨woken, shown⟩ := timWake_event (event.inRun run) n
    refine ⟨event.trans woken, (getB_of_get shown 14).trans perf, (getB_of_get shown 17).trans (runs.trans ?_)⟩
    simp
  | true =>
    have stopped : TimEvent n s (u.setTimRun n false) := event.trans (.stat u n 17 false)
    obtain ⟨woken, shown⟩ := timWake_event (stopped.inRun run) n
    refine ⟨stopped.trans woken, (getB_of_get shown 14).trans ?_, (getB_of_get shown 17).trans ?_⟩
    · exact (State.getB_setB_other _ _ _ _ _ _ (by decide) (by decide)).trans perf
    · rw [Bool.not_true, Bool.and_false]
      exact State.getB_setB_same _ _ _ _ (by decide)

theorem TimEvent.timVal {n off : Nat} {s t : State} (h : TimEvent n s t) (hn : n < 12) (inside : 3 < off ∧ off < 64) :
    t.timVal n off = s.timVal n off := by
  have ctrl : t.get (Port.TIM_CTRL n) = s.get (Port.TIM_CTRL n) :=
    h.regs _ (by unfold Port.TIM_CTRL; omega) (by unfold Port.TIM_CTRL; omega)
      (by unfold Port.TIM_CTRL Port.TIM_STAT; omega)
  have low : t.get (Port.TIM_CTRL n + off) = s.get (Port.TIM_CTRL n + off) :=
    h.regs _ (by unfold Port.TIM_CTRL; omega) (by unfold Port.TIM_CTRL; omega)
      (by unfold Port.TIM_CTRL Port.TIM_STAT; omega)
  cases paired : s.timPair n with
  | false =>
    unfold State.timVal
    rw [timPair_of_get ctrl, paired, low]
    rfl
  | true =>
    have even : n % 2 = 0 := by simp [State.timPair] at paired; exact paired.1
    exact timVal_of_get ctrl low (h.regs _ (by unfold Port.TIM_CTRL; omega) (by unfold Port.TIM_CTRL; omega)
      (by unfold Port.TIM_CTRL Port.TIM_STAT; omega))

theorem TimEvent.timAcc {n m : Nat} {s t : State} (h : TimEvent n s t) : t.timAcc m = s.timAcc m := by
  unfold State.timAcc
  rw [h.tim]


/-- What turn `a` of a loop reaches and the other turns keep holds after it, where all turns keep `Q`. -/
theorem forNat_reaches {Q P : State → Prop} {n a : Nat} {f : Nat → State → State} {s : State} (ha : a < n) (start : Q s)
    (keeps : ∀ i < n, ∀ t, Q t → Q (f i t)) (reach : ∀ t, Q t → P (f a t))
    (stays : ∀ i < n, ∀ t, Q t → P t → P (f i t)) : Q (forNat n f s) ∧ P (forNat n f s) := by
  have go : ∀ j ≤ n, Q (forNat j f s) ∧ (a < j → P (forNat j f s)) := by
    intro j hj
    induction j with
    | zero => exact ⟨start, fun h => absurd h (by omega)⟩
    | succ j ih =>
      obtain ⟨held, reached⟩ := ih (by omega)
      rw [forNat_succ]
      refine ⟨keeps j hj _ held, fun passed => ?_⟩
      by_cases last : a = j
      · subst last
        exact reach _ held
      · exact stays j hj _ held (reached (by omega))
  exact (go n (Nat.le_refl n)).imp id fun h => h ha

/-! ## A tick (R425, R426, R428) -/

/-- The compare events of a tick of timer `n` to the count `next`, by the compare values of `s`. -/
def State.timCompares (s : State) (n next : Nat) (t : State) : State :=
  forNat 4 (fun k v => if s.timCaptures n k = false ∧ s.timVal n (tCc k) = next then v.timCompare n k else v) t

theorem timTick_below {s : State} {n : Nat} (below : s.timVal n tCount < s.timVal n tPeriod) :
    s.timTick n = s.timCompares n (s.timVal n tCount + 1) (s.setTimVal n tCount (s.timVal n tCount + 1)) := by
  unfold State.timTick State.timCompares
  dsimp only
  rw [if_pos below, if_neg (by omega), if_neg (by omega)]

theorem timTick_full {s : State} {n : Nat} (full : s.timVal n tCount = s.timVal n tPeriod) :
    s.timTick n = s.timCompares n 0 ((s.setTimVal n tCount 0).timPeriodEvent n) := by
  unfold State.timTick State.timCompares
  dsimp only
  rw [if_neg (by omega), if_pos full, if_pos full, if_neg (Nat.not_lt.mpr (Nat.le_of_eq full))]

theorem timTicked_due {s : State} {n : Nat} (counts : s.timCounts n = true) (due : s.timDivisor n ≤ s.timAcc n) :
    s.timTicked n = (s.setTimAcc n (s.timAcc n - s.timDivisor n)).timTick n := by
  unfold State.timTicked
  rw [if_pos]
  simp [counts, due]

theorem timTicked_idle {s : State} {n : Nat} (h : s.timCounts n = false ∨ s.timAcc n < s.timDivisor n) :
    s.timTicked n = s := by
  unfold State.timTicked
  rw [if_neg]
  obtain still | early := h
  · simp [still]
  · simp [early]

theorem timRun_of_counts {s : State} {n : Nat} (counts : s.timCounts n = true) : s.timRun n = true := by
  simp only [State.timCounts, Bool.and_eq_true] at counts
  exact counts.1.1.2

theorem timCompares_none {s : State} {n next : Nat}
    (apart : ∀ k, k < 4 → s.timCaptures n k = true ∨ s.timVal n (tCc k) ≠ next) (t : State) :
    s.timCompares n next t = t :=
  forNat_fixed fun k hk => if_neg fun ⟨compares, reached⟩ => (apart k hk).elim
    (fun captures => absurd (captures.symm.trans compares) (by decide)) fun other => other reached

theorem timCompares_event {s t : State} (run : t.inRun) (n next : Nat) : TimEvent n t (s.timCompares n next t) := by
  refine forNat_inv (fun u => TimEvent n t u) _ ?_ 4 t (.refl n t)
  intro k u h
  split
  · exact h.trans (timCompare_event (h.inRun run) n k).1
  · exact h

/-- Compare events set bits 0 to 3 of STAT alone. -/
theorem timCompares_stat {s t : State} (run : t.inRun) {n next b : Nat} (upper : 4 ≤ b) (inside : b < 18) :
    (s.timCompares n next t).getB (Port.TIM_STAT n) b = t.getB (Port.TIM_STAT n) b := by
  have go : ∀ j, j ≤ 4 → TimEvent n t (forNat j
      (fun k v => if s.timCaptures n k = false ∧ s.timVal n (tCc k) = next then v.timCompare n k else v) t) ∧
      (forNat j (fun k v => if s.timCaptures n k = false ∧ s.timVal n (tCc k) = next then v.timCompare n k else v) t).getB
        (Port.TIM_STAT n) b = t.getB (Port.TIM_STAT n) b := by
    intro j hj
    induction j with
    | zero => exact ⟨.refl n t, rfl⟩
    | succ j ih =>
      obtain ⟨event, same⟩ := ih (by omega)
      rw [forNat_succ]
      split
      · obtain ⟨next, shown⟩ := timCompare_event (event.inRun run) n j
        exact ⟨event.trans next, (getB_of_get shown b).trans
          ((State.getB_setB_other _ _ _ _ _ _ (by omega) (by omega)).trans same)⟩
      · exact ⟨event, same⟩
  exact (go 4 (Nat.le_refl 4)).2

theorem getB_setB_true {s : State} {p b : Nat} (a : Nat) (inside : a < 18) (held : s.getB p b = true) :
    (s.setB p a true).getB p b = true := by
  by_cases same : a = b
  · subst same
    exact State.getB_setB_same _ _ _ _ inside
  · exact (State.getB_setB_other _ _ _ _ _ _ inside same).trans held

/-- A compare value that is reached sets its CMPF and, while enabled, raises the interrupt. -/
theorem timCompares_reached {s t : State} (run : t.inRun) {n next k : Nat} (hk : k < 4) (small : n < 12)
    (compares : s.timCaptures n k = false) (reached : s.timVal n (tCc k) = next)
    (enabled : t.getB (Port.TIM_IEN n) k = true) :
    (s.timCompares n next t).getB (Port.TIM_STAT n) k = true ∧ t.raises (Irq.TIM_GRP n) (s.timCompares n next t) := by
  have ienOf : ∀ u, TimEvent n t u → u.getB (Port.TIM_IEN n) k = true := fun u h =>
    (getB_of_get (h.regs _ (by unfold Port.TIM_IEN; omega) (by unfold Port.TIM_IEN; omega)
      (by unfold Port.TIM_STAT Port.TIM_IEN; omega)) k).trans enabled
  refine (forNat_reaches (Q := fun u => TimEvent n t u)
    (P := fun u => u.getB (Port.TIM_STAT n) k = true ∧ t.raises (Irq.TIM_GRP n) u) hk (.refl n t) ?_ ?_ ?_).2
  · intro i _ u h
    split
    · exact h.trans (timCompare_event (h.inRun run) n i).1
    · exact h
  · intro u h
    rw [if_pos ⟨compares, reached⟩]
    refine ⟨(getB_of_get (timCompare_event (h.inRun run) n k).2 k).trans (State.getB_setB_same _ _ _ _ (by omega)), ?_⟩
    exact fun c up => timCompare_raises (h.inRun run) small (ienOf u h) c ((h.live c).trans up)
  · rintro i hi u h ⟨set_, raised⟩
    split
    · obtain ⟨event, shown⟩ := timCompare_event (h.inRun run) n i
      exact ⟨(getB_of_get shown k).trans (getB_setB_true i (by omega) set_), event.raises _ _ raised⟩
    · exact ⟨set_, raised⟩

/-! ### Without a producer, an interrupt and a wake -/

/-- No channel names a producer and no interrupt of timer `n` is enabled. -/
def State.timQuiet (s : State) (n : Nat) : Prop :=
  (∀ c, c < 48 → s.getF (Port.EVF_CH_SRC c) 8 0 = 0) ∧ s.get (Port.TIM_IEN n) = 0

theorem timQuiet_of_get {s t : State} {n : Nat} (quiet : s.timQuiet n)
    (same : ∀ p, (p < 0x0800 ∨ 0x0AFF < p ∨ p = Port.TIM_IEN n) → t.get p = s.get p) : t.timQuiet n :=
  ⟨fun c hc => (getF_of_get (same _ (by unfold Port.EVF_CH_SRC; omega)) 8 0).trans (quiet.1 c hc),
    (same _ (.inr (.inr rfl))).trans quiet.2⟩

theorem raiseProducer_unnamed {s : State} (unnamed : ∀ c, c < 48 → s.getF (Port.EVF_CH_SRC c) 8 0 = 0) (p : Nat) :
    s.raiseProducer p = s := by
  unfold State.raiseProducer
  split
  · rfl
  · next real => exact forNat_fixed fun c hc => if_neg (by rw [unnamed c hc]; exact Ne.symm real)

theorem timCompare_quiet {s : State} {n : Nat} (quiet : s.timQuiet n) (below : n < 8) (k : Nat) :
    s.timCompare n k = s.setB (Port.TIM_STAT n) k true := by
  have marked : (s.setB (Port.TIM_STAT n) k true).timQuiet n := timQuiet_of_get quiet fun p apart =>
    State.get_setB_other _ _ _ (by unfold Port.TIM_STAT; unfold Port.TIM_IEN at apart; omega)
  have masked : (s.setB (Port.TIM_STAT n) k true).getB (Port.TIM_IEN n) k = false := by
    unfold State.getB
    rw [marked.2]
    exact BitVec.getLsbD_zero
  unfold State.timCompare State.timCcEvent State.timWake
  dsimp only
  rw [raiseProducer_unnamed marked.1, masked, if_neg Bool.false_ne_true, if_neg (by omega)]

/-- What quiet compare events of timer `n` change: its STAT. -/
def TimMarks (n : Nat) (s t : State) : Prop :=
  s.touches timParts [Blk.tim] t ∧ ∀ p, p ≠ Port.TIM_STAT n → t.get p = s.get p

theorem timCompares_quiet {s t : State} {n next k : Nat} (quiet : t.timQuiet n) (below : n < 8) (hk : k < 4)
    (compares : s.timCaptures n k = false) (reached : s.timVal n (tCc k) = next) :
    TimMarks n t (s.timCompares n next t) ∧ (s.timCompares n next t).getB (Port.TIM_STAT n) k = true := by
  have still : ∀ {u}, TimMarks n t u → u.timQuiet n := fun h => timQuiet_of_get quiet fun p apart =>
    h.2 p (by unfold Port.TIM_STAT; unfold Port.TIM_IEN at apart; omega)
  refine forNat_reaches (Q := TimMarks n t) (P := fun u => u.getB (Port.TIM_STAT n) k = true) hk
    ⟨.refl _ _ t, fun _ _ => rfl⟩ ?_ ?_ ?_
  · intro i _ u h
    split
    · rw [timCompare_quiet (still h) below]
      exact ⟨h.1.trans (timSet_touches u _ (by unfold Port.TIM_STAT; omega)), fun p apart =>
        (State.get_setB_other _ _ _ (Ne.symm apart)).trans (h.2 p apart)⟩
    · exact h
  · intro u h
    rw [if_pos ⟨compares, reached⟩, timCompare_quiet (still h) below]
    exact State.getB_setB_same _ _ _ _ (by omega)
  · intro i hi u h set_
    split
    · rw [timCompare_quiet (still h) below]
      exact getB_setB_true i (by omega) set_
    · exact set_

/-! ### The ticks of O47 -/

theorem core_setTimVal (s : State) (n off v : Nat) (c : Core) : (s.setTimVal n off v).core c = s.core c := by
  unfold State.setTimVal
  dsimp only
  split <;> cases c <;> rfl

section moved
variable {s : State}

/-- The state in which the compare events of a tick to `v` happen. -/
theorem moved_touches {n : Nat} (small : n < 12) (v : Nat) :
    s.touches timParts [Blk.tim] ((s.setTimAcc n (s.timAcc n - s.timDivisor n)).setTimVal n tCount v) :=
  (setTimAcc_touches s n _).trans (setTimVal_touches _ v small (by decide))

theorem moved_timVal {n v : Nat} (held : v < s.timRange n) :
    ((s.setTimAcc n (s.timAcc n - s.timDivisor n)).setTimVal n tCount v).timVal n tCount = v :=
  timVal_setTimVal_same (s.setTimAcc n (s.timAcc n - s.timDivisor n)) (by decide) held

theorem moved_get (n : Nat) {v p : Nat} (low : Port.TIM_CTRL n + tCount ≠ p) (high : Port.TIM_CTRL (n + 1) + tCount ≠ p) :
    ((s.setTimAcc n (s.timAcc n - s.timDivisor n)).setTimVal n tCount v).get p = s.get p :=
  get_setTimVal (s.setTimAcc n (s.timAcc n - s.timDivisor n)) v low high

theorem moved_inRun (n : Nat) (run : s.inRun) (v : Nat) :
    ((s.setTimAcc n (s.timAcc n - s.timDivisor n)).setTimVal n tCount v).inRun :=
  inRun_of_get run (moved_get n (by unfold Port.TIM_CTRL Port.PWR_STAT tCount; omega)
    (by unfold Port.TIM_CTRL Port.PWR_STAT tCount; omega))

end moved

section ticks
variable {s : State} {n : Nat} (counts : s.timCounts n = true) (due : s.timDivisor n ≤ s.timAcc n)
include counts due

/-- A tick below PERIOD: the count moves on, then the compare events. -/
theorem timTicked_below (below : s.timVal n tCount < s.timVal n tPeriod) :
    s.timTicked n = s.timCompares n (s.timVal n tCount + 1)
      ((s.setTimAcc n (s.timAcc n - s.timDivisor n)).setTimVal n tCount (s.timVal n tCount + 1)) :=
  (timTicked_due counts due).trans (timTick_below (s := s.setTimAcc n (s.timAcc n - s.timDivisor n)) below)

theorem timTicked_full (full : s.timVal n tCount = s.timVal n tPeriod) :
    s.timTicked n = s.timCompares n 0
      (((s.setTimAcc n (s.timAcc n - s.timDivisor n)).setTimVal n tCount 0).timPeriodEvent n) :=
  (timTicked_due counts due).trans (timTick_full (s := s.setTimAcc n (s.timAcc n - s.timDivisor n)) full)

theorem tick_below_plain (small : n < 12) (below : s.timVal n tCount < s.timVal n tPeriod)
    (apart : ∀ k, k < 4 → s.timCaptures n k = true ∨ s.timVal n (tCc k) ≠ s.timVal n tCount + 1) :
    s.touches timParts [Blk.tim] (s.timTicked n) ∧ (s.timTicked n).timVal n tCount = s.timVal n tCount + 1 ∧
      (s.timTicked n).get (Port.TIM_STAT n) = s.get (Port.TIM_STAT n) ∧
      (s.timTicked n).timAcc n = s.timAcc n - s.timDivisor n := by
  rw [timTicked_below counts due below, timCompares_none apart]
  refine ⟨moved_touches small _, moved_timVal (Nat.lt_of_le_of_lt below (timVal_lt s n tPeriod)),
    moved_get n (by unfold Port.TIM_CTRL Port.TIM_STAT tCount; omega) (by unfold Port.TIM_CTRL Port.TIM_STAT tCount; omega), ?_⟩
  rw [timAcc_setTimVal, timAcc_setTimAcc]

theorem tick_below_quiet (small : n < 12) {k : Nat} (hk : k < 4) (below : s.timVal n tCount < s.timVal n tPeriod)
    (compares : s.timCaptures n k = false) (reached : s.timVal n (tCc k) = s.timVal n tCount + 1) (quiet : s.timQuiet n)
    (low : n < 8) :
    s.touches timParts [Blk.tim] (s.timTicked n) ∧ (s.timTicked n).timVal n tCount = s.timVal n tCount + 1 ∧
      (s.timTicked n).getB (Port.TIM_STAT n) k = true := by
  rw [timTicked_below counts due below]
  have still : ((s.setTimAcc n (s.timAcc n - s.timDivisor n)).setTimVal n tCount (s.timVal n tCount + 1)).timQuiet n :=
    timQuiet_of_get quiet fun p apart => moved_get n (by unfold Port.TIM_CTRL tCount; unfold Port.TIM_IEN at apart; omega)
      (by unfold Port.TIM_CTRL tCount; unfold Port.TIM_IEN at apart; omega)
  obtain ⟨⟨touched, same⟩, shown⟩ := timCompares_quiet still low hk compares reached
  refine ⟨(moved_touches small _).trans touched, ?_, shown⟩
  rw [timVal_of_get (same _ (by unfold Port.TIM_CTRL Port.TIM_STAT; omega))
    (same _ (by unfold Port.TIM_CTRL Port.TIM_STAT tCount; omega)) (same _ (by unfold Port.TIM_CTRL Port.TIM_STAT tCount; omega))]
  exact moved_timVal (Nat.lt_of_le_of_lt below (timVal_lt s n tPeriod))

theorem tick_below_raises (small : n < 12) {k : Nat} (hk : k < 4) (below : s.timVal n tCount < s.timVal n tPeriod)
    (compares : s.timCaptures n k = false) (reached : s.timVal n (tCc k) = s.timVal n tCount + 1)
    (enabled : s.getB (Port.TIM_IEN n) k = true) (run : s.inRun) :
    (s.timTicked n).getB (Port.TIM_STAT n) k = true ∧ s.raises (Irq.TIM_GRP n) (s.timTicked n) := by
  rw [timTicked_below counts due below]
  have ien := (getB_of_get (moved_get (s := s) n (v := s.timVal n tCount + 1) (p := Port.TIM_IEN n)
    (by unfold Port.TIM_CTRL Port.TIM_IEN tCount; omega) (by unfold Port.TIM_CTRL Port.TIM_IEN tCount; omega)) k).trans enabled
  obtain ⟨shown, raised⟩ := timCompares_reached (moved_inRun n run _) hk small compares reached ien
  refine ⟨shown, fun c up => raised c ((congrArg CoreState.inReset ((core_setTimVal _ n tCount _ c).trans (by cases c <;> rfl))).trans up)⟩

theorem tick_full (small : n < 12) (full : s.timVal n tCount = s.timVal n tPeriod) (run : s.inRun) :
    (s.timTicked n).timVal n tCount = 0 ∧ (s.timTicked n).getB (Port.TIM_STAT n) 14 = true ∧
      (s.timTicked n).timRun n = (!s.getB (Port.TIM_CTRL n) 14) ∧
      (s.timTicked n).timAcc n = s.timAcc n - s.timDivisor n := by
  rw [timTicked_full counts due full]
  obtain ⟨event, perf, runs⟩ := timPeriodEvent_event (moved_inRun n run 0) n
  have after := event.inRun (moved_inRun n run 0)
  have compared := timCompares_event (s := s) after n 0
  have zero := moved_timVal (s := s) (n := n) (v := 0) (by unfold State.timRange; split <;> decide)
  have ctrl := moved_get (s := s) n (v := 0) (p := Port.TIM_CTRL n) (by unfold Port.TIM_CTRL tCount; omega)
    (by unfold Port.TIM_CTRL tCount; omega)
  have stat := moved_get (s := s) n (v := 0) (p := Port.TIM_STAT n)
    (by unfold Port.TIM_CTRL Port.TIM_STAT tCount; omega) (by unfold Port.TIM_CTRL Port.TIM_STAT tCount; omega)
  refine ⟨?_, (timCompares_stat after (by decide) (by decide)).trans perf, ?_, ?_⟩
  · rw [compared.timVal small (by decide), event.timVal small (by decide), zero]
  · refine (timCompares_stat after (by decide) (by decide)).trans (runs.trans ?_)
    rw [getB_of_get ctrl, State.timRun, getB_of_get stat]
    show (s.timRun n && _) = _
    rw [timRun_of_counts counts, Bool.true_and]
  · rw [compared.timAcc, event.timAcc, timAcc_setTimVal, timAcc_setTimAcc]

end ticks


/-! ## Commands and writes (R423, R426 to R430) -/

theorem timCmd_clear {s : State} {n : Nat} (small : n < 12) (free : s.timSlave n = false) :
    s.touches timParts [Blk.tim] (s.timCmd n 3) ∧ (s.timCmd n 3).timVal n tCount = 0 ∧ (s.timCmd n 3).timAcc n = 0 ∧
      (s.timCmd n 3).timRun n = s.timRun n := by
  have zero : s.timCmd n 3 = (s.setTimVal n tCount 0).setTimAcc n 0 := by simp [State.timCmd, free, State.timZero]
  rw [zero]
  refine ⟨(setTimVal_touches s 0 small (by decide)).trans (setTimAcc_touches _ n 0), ?_, timAcc_setTimAcc _ n 0, ?_⟩
  · exact timVal_setTimVal_same s (by decide) (by unfold State.timRange; split <;> decide)
  · exact getB_of_get (timRun_setTimVal s (by decide)) 17

/-- A write of a value of a timer without a pair. -/
theorem timWrite_single {s : State} {n : Nat} (off : Nat) (v : Word) (act : State → Nat → Nat → State)
    (free : s.timSlave n = false) (alone : s.timPair n = false) : s.timWrite n off v act = act s n v.toNat := by
  simp [State.timWrite, free, alone]

theorem timWrite_even {s : State} {n : Nat} (off : Nat) (v : Word) (act : State → Nat → Nat → State)
    (paired : s.timPair n = true) : s.timWrite n off v act = s.timStage n off v := by
  simp [State.timWrite, paired]

theorem timSlave_odd {s : State} {n : Nat} (slave : s.timSlave n = true) :
    n % 2 = 1 ∧ s.timPair (n - 1) = true ∧ s.timPair n = false := by
  simp only [State.timSlave, Bool.and_eq_true, decide_eq_true_eq] at slave
  refine ⟨slave.1, slave.2, ?_⟩
  unfold State.timPair
  rw [decide_eq_false (by omega), Bool.false_and]

theorem timWrite_odd {s : State} {n : Nat} (off : Nat) (v : Word) (act : State → Nat → Nat → State)
    (slave : s.timSlave n = true) :
    s.timWrite n off v act = act (s.timJoin (n - 1) off v).2 (n - 1) (s.timJoin (n - 1) off v).1 := by
  simp [State.timWrite, slave, (timSlave_odd slave).2.2]

theorem timJoin_staged {s : State} {n off : Nat} (v : Word)
    (staged : Cells.rd (fun _ => 0) s.tim.staged (16 * n + off) = 1) :
    (s.timJoin n off v).1 = (Cells.rd (fun _ => 0) s.tim.stage (16 * n + off)).toNat + 2 ^ 18 * v.toNat := by
  unfold State.timJoin
  dsimp only
  rw [if_pos staged]

theorem timJoin_touches (s : State) (n off : Nat) (v : Word) :
    s.touches timParts [Blk.tim] (s.timJoin n off v).2 := (tim_touches s _).mono (by simp) (by simp)

theorem range_alone {s : State} {n : Nat} (alone : s.timPair n = false) (v : Word) : v.toNat < s.timRange n := by
  have := v.isLt
  simp only [State.timRange, alone]
  exact this

section periods
variable {s : State} {n : Nat} {v : Word}

theorem timPeriodWrite_above (free : s.timSlave n = false) (alone : s.timPair n = false)
    (above : s.timVal n tCount < v.toNat) : s.timPeriodWrite n v = s.set (Port.TIM_PERIOD n) v := by
  unfold State.timPeriodWrite
  rw [timWrite_single _ _ _ free alone]
  dsimp only
  rw [if_neg (by omega), setTimVal_alone s _ _ alone]
  have port : Port.TIM_CTRL n + tPeriod = Port.TIM_PERIOD n := by
    unfold Port.TIM_CTRL Port.TIM_PERIOD tPeriod
    omega
  rw [port, BitVec.ofNat_toNat, BitVec.setWidth_eq]

theorem timPeriodWrite_reached (small : n < 12) (free : s.timSlave n = false) (alone : s.timPair n = false)
    (reached : v.toNat ≤ s.timVal n tCount) (run : s.inRun) :
    (s.timPeriodWrite n v).timVal n tPeriod = v.toNat ∧ (s.timPeriodWrite n v).timVal n tCount = 0 ∧
      (s.timPeriodWrite n v).getB (Port.TIM_STAT n) 14 = true ∧
      (s.timPeriodWrite n v).timRun n = (s.timRun n && !s.getB (Port.TIM_CTRL n) 14) := by
  have eq : s.timPeriodWrite n v = ((s.setTimVal n tPeriod v.toNat).setTimVal n tCount 0).timPeriodEvent n := by
    unfold State.timPeriodWrite
    rw [timWrite_single _ _ _ free alone]
    exact if_pos reached
  have apart : ∀ {q}, q < 0x0800 ∨ q = Port.TIM_CTRL n ∨ q = Port.TIM_STAT n →
      ((s.setTimVal n tPeriod v.toNat).setTimVal n tCount 0).get q = s.get q := by
    intro q h
    unfold Port.TIM_CTRL Port.TIM_STAT at h
    rw [get_setTimVal _ _ (by unfold Port.TIM_CTRL tCount; omega) (by unfold Port.TIM_CTRL tCount; omega),
      get_setTimVal _ _ (by unfold Port.TIM_CTRL tPeriod; omega) (by unfold Port.TIM_CTRL tPeriod; omega)]
  have range : ∀ x, (s.setTimVal n tPeriod x).timRange n = s.timRange n := fun x => by
    unfold State.timRange
    rw [timPair_of_get (ctrl_setTimVal s x (by decide))]
  obtain ⟨event, perf, runs⟩ := timPeriodEvent_event (inRun_of_get run (apart (.inl (by decide)))) n
  rw [eq]
  refine ⟨?_, ?_, perf, runs.trans ?_⟩
  · rw [event.timVal small (by decide), timVal_setTimVal_other _ (by decide) (by decide) (by decide)]
    exact timVal_setTimVal_same s (by decide) (range_alone alone v)
  · rw [event.timVal small (by decide)]
    exact timVal_setTimVal_same _ (by decide) (by rw [range]; unfold State.timRange; split <;> decide)
  · rw [State.timRun, State.timRun, getB_of_get (apart (.inr (.inr rfl))), getB_of_get (apart (.inr (.inl rfl)))]

theorem timPeriodWrite_joined (small : n < 12) (slave : s.timSlave n = true)
    (staged : Cells.rd (fun _ => 0) s.tim.staged (16 * (n - 1) + tPeriod) = 1)
    (above : s.timVal (n - 1) tCount <
      (Cells.rd (fun _ => 0) s.tim.stage (16 * (n - 1) + tPeriod)).toNat + 2 ^ 18 * v.toNat) :
    s.touches timParts [Blk.tim] (s.timPeriodWrite n v) ∧
      (s.timPeriodWrite n v).timVal (n - 1) tPeriod =
        (Cells.rd (fun _ => 0) s.tim.stage (16 * (n - 1) + tPeriod)).toNat + 2 ^ 18 * v.toNat ∧
      (s.timPeriodWrite n v).timVal (n - 1) tCount = s.timVal (n - 1) tCount := by
  have paired := (timSlave_odd slave).2.1
  have eq : s.timPeriodWrite n v = (s.timJoin (n - 1) tPeriod v).2.setTimVal (n - 1) tPeriod
      ((Cells.rd (fun _ => 0) s.tim.stage (16 * (n - 1) + tPeriod)).toNat + 2 ^ 18 * v.toNat) := by
    unfold State.timPeriodWrite
    rw [timWrite_odd _ _ _ slave, timJoin_staged v staged]
    exact if_neg (Nat.not_le.mpr above)
  rw [eq]
  refine ⟨(timJoin_touches s _ _ v).trans (setTimVal_touches _ _ (by omega) (by decide)), ?_, ?_⟩
  · refine timVal_setTimVal_same _ (by decide) ?_
    have held : (s.timJoin (n - 1) tPeriod v).2.timRange (n - 1) = 2 ^ 36 := if_pos paired
    have low := (Cells.rd (fun _ => (0 : Word)) s.tim.stage (16 * (n - 1) + tPeriod)).isLt
    have high := v.isLt
    rw [held]
    omega
  · exact timVal_setTimVal_other _ (by decide) (by decide) (by decide)

end periods

section compares
variable {s : State} {n k : Nat} {v : Word}

theorem timCcWrite_captures (free : s.timSlave n = false) (captures : s.timCaptures n k = true) :
    s.timCcWrite n k v = s.timErr n := by
  simp [State.timCcWrite, free, captures]

theorem timCcWrite_single (free : s.timSlave n = false) (alone : s.timPair n = false)
    (compares : s.timCaptures n k = false) :
    s.timCcWrite n k v = if s.timRun n ∧ v.toNat ≤ s.timVal n tCount ∧ v.toNat ≤ s.timVal n tPeriod then
      (s.setTimVal n (tCc k) v.toNat).timCompare n k else s.setTimVal n (tCc k) v.toNat := by
  unfold State.timCcWrite
  rw [timWrite_single _ _ _ free alone]
  simp [free, compares]

theorem timCcWrite_taken (free : s.timSlave n = false) (alone : s.timPair n = false)
    (compares : s.timCaptures n k = false)
    (ahead : s.timRun n = false ∨ s.timVal n tCount < v.toNat ∨ s.timVal n tPeriod < v.toNat) :
    s.timCcWrite n k v = s.set (Port.TIM_CC_0 n + k) v := by
  have late : ¬(s.timRun n = true ∧ v.toNat ≤ s.timVal n tCount ∧ v.toNat ≤ s.timVal n tPeriod) := by
    rintro ⟨runs, count, period⟩
    obtain stands | above | above := ahead
    · exact absurd (runs.symm.trans stands) (by decide)
    · omega
    · omega
  have port : Port.TIM_CTRL n + tCc k = Port.TIM_CC_0 n + k := by
    unfold Port.TIM_CTRL Port.TIM_CC_0 tCc
    omega
  rw [timCcWrite_single free alone compares, if_neg late, setTimVal_alone s _ _ alone, port, BitVec.ofNat_toNat,
    BitVec.setWidth_eq]

theorem timCcWrite_reached (small : n < 12) (hk : k < 4) (free : s.timSlave n = false) (alone : s.timPair n = false)
    (compares : s.timCaptures n k = false) (runs : s.timRun n = true) (count : v.toNat ≤ s.timVal n tCount)
    (period : v.toNat ≤ s.timVal n tPeriod) (run : s.inRun) :
    (s.timCcWrite n k v).timVal n (tCc k) = v.toNat ∧ (s.timCcWrite n k v).getB (Port.TIM_STAT n) k = true ∧
      (s.timCcWrite n k v).timVal n tCount = s.timVal n tCount := by
  rw [timCcWrite_single free alone compares, if_pos ⟨runs, count, period⟩]
  have still : (s.setTimVal n (tCc k) v.toNat).inRun := inRun_of_get run
    (get_setTimVal s _ (by unfold Port.TIM_CTRL tCc Port.PWR_STAT; omega)
      (by unfold Port.TIM_CTRL tCc Port.PWR_STAT; omega))
  have inside : 0 < tCc k ∧ tCc k < 64 := by unfold tCc; omega
  obtain ⟨event, shown⟩ := timCompare_event still n k
  refine ⟨?_, (getB_of_get shown k).trans (State.getB_setB_same _ _ _ _ (by omega)), ?_⟩
  · rw [event.timVal small (by unfold tCc; omega)]
    exact timVal_setTimVal_same s inside (range_alone alone v)
  · rw [event.timVal small (by decide)]
    exact timVal_setTimVal_other s inside (by decide) (by unfold tCc tCount; omega)

end compares

/-! ## A read of a CC register (R429) -/

theorem ccRow : ∀ (n : Fin 12) (k : Fin 4), ∃ r, regRow (Port.TIM_CC_0 n.val + k.val) = some r ∧ r.hidden = 0 := by
  have rows : ∀ (n : Fin 12) (k : Fin 4),
      ((regRow (Port.TIM_CC_0 n.val + k.val)).map fun r => r.hidden) = some 0 := by decide +kernel
  intro n k
  have row := rows n k
  cases found : regRow (Port.TIM_CC_0 n.val + k.val) with
  | none => rw [found] at row; cases row
  | some r =>
    rw [found] at row
    exact ⟨r, rfl, Option.some.inj row⟩

section cc
variable {s : State} {n k : Nat} (hn : n < 12) (hk : k < 4)
include hn hk

theorem cc_place : 0x0806 ≤ Port.TIM_CC_0 n + k ∧ Port.TIM_CC_0 n + k ≤ 0x0ACF ∧ (Port.TIM_CC_0 n + k) % 64 = 6 + k ∧
    (Port.TIM_CC_0 n + k - 0x0800) / 64 = n := by
  unfold Port.TIM_CC_0
  omega

theorem latchable_cc (free : s.timSlave n = false) : s.latchable (Port.TIM_CC_0 n + k) = false := by
  obtain ⟨lo, hi, word, timer⟩ := cc_place hn hk
  generalize Port.TIM_CC_0 n + k = p at lo hi word timer
  rw [Bool.eq_false_iff]
  simp only [State.latchable, timer, free, Bool.or_eq_true, Bool.and_eq_true, inRange_iff, decide_eq_true_eq, ne_eq,
    Bool.false_eq_true, and_false, or_false]
  omega

theorem view_cc (m : Master) : s.view m (Port.TIM_CC_0 n + k) = s.get (Port.TIM_CC_0 n + k) := by
  obtain ⟨lo, hi, word, -⟩ := cc_place hn hk
  generalize Port.TIM_CC_0 n + k = p at lo hi word
  unfold State.view State.view0 Port.CLK_STAT Port.RTC_STAT Port.HPT_STAT Port.HPT_WFREE
  rw [if_pos (by omega), if_neg (by omega), if_neg (by rw [inRange_iff]; omega), if_neg (by rw [inRange_iff]; omega),
    if_neg (by rw [inRange_iff]; omega), if_neg (by omega), if_neg (by omega), if_neg (by omega), if_neg (by omega),
    if_neg (by omega)]

/-- A read of a CC register latches the higher word of a pair and clears its CF. -/
theorem readEffect_cc (m : Master) : ∃ x, s.readEffect m (Port.TIM_CC_0 n + k) =
    ({ s with latch := x } : State).timCcRead n k := by
  obtain ⟨lo, hi, word, timer⟩ := cc_place hn hk
  generalize Port.TIM_CC_0 n + k = p at lo hi word timer
  obtain ⟨x, latched⟩ := latchWords_frame m (s.higherWords p) s
  refine ⟨x, ?_⟩
  unfold State.readEffect Port.BSN_RDATA Port.RTC_SEC
  rw [if_neg (by omega), if_neg (by omega), if_neg (by omega)]
  dsimp only
  rw [latched, if_pos (by rw [inRange_iff, inRange_iff]; omega), timer, word, Nat.add_sub_cancel_left]

end cc

/-- A CC register is shown as it stands where no pair governs it. -/
theorem readValue_cc {s : State} (m : Master) (n : Fin 12) (k : Fin 4) (free : s.timSlave n.val = false) :
    s.readValue m (Port.TIM_CC_0 n.val + k.val) = s.get (Port.TIM_CC_0 n.val + k.val) := by
  obtain ⟨r, row, unhidden⟩ := ccRow n k
  rw [readValue_shown s m row unhidden, latchable_cc n.isLt k.isLt free, if_neg Bool.false_ne_true,
    view_cc n.isLt k.isLt m]

theorem masterRead_cc {s : State} {m : Master} {n : Fin 12} {k : Fin 4}
    (a : s.answers m (Port.TIM_CC_0 n.val + k.val) = true) (free : s.timSlave n.val = false) :
    s.touches [.regs, .latch] [Blk.tim] (s.masterRead m (Port.TIM_CC_0 n.val + k.val)) ∧
      Cells.rd (fun _ => 0) (s.masterRead m (Port.TIM_CC_0 n.val + k.val)).latch.data m.num =
        s.get (Port.TIM_CC_0 n.val + k.val) ∧
      (s.masterRead m (Port.TIM_CC_0 n.val + k.val)).getB (Port.TIM_STAT n.val) (6 + k.val) = false ∧
      ∀ p, p ≠ Port.TIM_STAT n.val → (s.masterRead m (Port.TIM_CC_0 n.val + k.val)).get p = s.get p := by
  obtain ⟨x, effect⟩ := readEffect_cc (s := s) n.isLt k.isLt m
  rw [masterRead_answered a, effect, readValue_cc m n k free]
  refine ⟨?_, rd_setData _ m _, ?_, fun p apart => State.get_setB_other _ _ _ (Ne.symm apart)⟩
  · refine ((latch_touches s x).mono ?_ ?_).trans (((set_touches (b := Blk.tim) _ _ ?_).mono ?_ ?_).trans
      ((latch_touches _ _).mono ?_ ?_))
    · simp
    · simp
    · unfold Port.TIM_STAT
      show 0x0800 ≤ _ ∧ _ ≤ 0x0AFF
      omega
    all_goals simp
  · exact State.getB_setB_same _ _ _ _ (by omega)

/-- Settles O47: ticks by the count and its compare events (`tick_below_plain`, `tick_full`), writes by what a pair makes of
them (`timWrite_single`, `timWrite_odd`). -/
theorem timersCount : Obligations.TimersCount := by
  unfold Obligations.TimersCount
  refine fun s => ⟨fun n h => ?_, fun n counts due below apart => ?_,
    fun n k counts due below compares reached unnamed masked low => ?_,
    fun n k counts due below compares reached enabled level phase => ?_, fun n counts due full level phase => ?_,
    fun m n a free => ?_, fun m n a free => ?_, fun m n a free => ?_, fun m n a slave => ?_,
    fun m n v a free alone above => ?_, fun m n v a free alone reached level phase => ?_, fun m n v a paired => ?_,
    fun m n v a slave staged above => ?_, fun m n k v a free alone compares ahead => ?_,
    fun m n k v a free alone compares runs count period level phase => ?_, fun m n k v a free captures => ?_,
    fun m n k a free => ?_⟩
  · exact completes_eq rfl (timTicked_idle h) rfl
  · exact ⟨_, rfl, tick_below_plain counts due n.isLt below apart⟩
  · exact ⟨_, rfl, tick_below_quiet counts due n.isLt k.isLt below compares reached ⟨unnamed, masked⟩ low⟩
  · exact ⟨_, rfl, tick_below_raises counts due n.isLt k.isLt below compares reached enabled ⟨level, phase⟩⟩
  · exact ⟨_, rfl, tick_full counts due n.isLt full ⟨level, phase⟩⟩
  · exact completes_portCmd (act := fun t => t.timCmd n.val 1) rfl a (by simp [State.timCmd, free])
  · exact completes_portCmd (act := fun t => t.timCmd n.val 2) rfl a (by simp [State.timCmd, free])
  · exact completes_portCmd (act := fun t => t.timCmd n.val 3) rfl a (timCmd_clear n.isLt free)
  · exact completes_portCmd (act := fun t => t.timCmd n.val 1) rfl a (by simp [State.timCmd, slave])
  · exact completes_portCmd (act := fun t => t.timPeriodWrite n.val v) rfl a (timPeriodWrite_above free alone above)
  · exact completes_portCmd (act := fun t => t.timPeriodWrite n.val v) rfl a
      (timPeriodWrite_reached n.isLt free alone reached ⟨level, phase⟩)
  · exact completes_portCmd (act := fun t => t.timPeriodWrite n.val v) rfl a (timWrite_even _ _ _ paired)
  · exact completes_portCmd (act := fun t => t.timPeriodWrite n.val v) rfl a
      (timPeriodWrite_joined n.isLt slave staged above)
  · exact completes_portCmd (act := fun t => t.timCcWrite n.val k.val v) rfl a
      (timCcWrite_taken free alone compares ahead)
  · exact completes_portCmd (act := fun t => t.timCcWrite n.val k.val v) rfl a
      (timCcWrite_reached n.isLt k.isLt free alone compares runs count period ⟨level, phase⟩)
  · exact completes_portCmd (act := fun t => t.timCcWrite n.val k.val v) rfl a (timCcWrite_captures free captures)
  · exact ⟨_, rfl, masterRead_cc a free⟩

end Sys2Proof.Machine

/-! The statement of 13_memory_and_flash.md on flash operations, the scrub and the wait for DRAM (O30). -/

namespace Sys2Proof.Machine

open Sys2Proof

/-! ## The start of an operation (R314, R318) -/

theorem flc_touches (s : State) (x : Flash) : State.touches [.flc] [] s { s with flc := x } :=
  ⟨fun part other => by cases part <;> simp_all [Part.same], fun _ _ => rfl⟩

theorem flcSet_touches (s : State) {p : Nat} (v : Word) (h : 0x1000 ≤ p ∧ p ≤ 0x13FF) :
    State.touches [.regs] [Blk.flc] s (s.set p v) := set_touches (b := Blk.flc) s v h

theorem flcStart_idle {s : State} (h : s.flc.op = none ∨ s.flc.running = true ∨ s.granted Act.flash = false) :
    s.flcStart = s := by
  unfold State.flcStart
  cases op : s.flc.op with
  | none => rfl
  | some x => exact if_pos (h.resolve_left (by rw [op]; exact Option.some_ne_none x))

section start
variable {s : State} {x : FlashOp} (op : s.flc.op = some x) (still : s.flc.running = false)
  (grant : s.granted Act.flash = true)
include op still grant

theorem flcStart_program (program : x.op ≠ 3) :
    s.flcStart = ({ s with flc := { s.flc with running := true } } : State).setB Port.FLC_STAT 15 false := by
  simp only [State.flcStart, op, still, grant, program, if_false, Bool.false_eq_true, reduceCtorEq, or_self]

theorem flcStart_program_spec (program : x.op ≠ 3) :
    s.touches [.regs, .flc] [Blk.flc] s.flcStart ∧ s.flcStart.flc = { s.flc with running := true } ∧
      s.flcStart.getB Port.FLC_STAT 15 = false := by
  rw [flcStart_program op still grant program]
  exact ⟨((flc_touches s _).seq (flcSet_touches _ _ (by decide))).mono (by decide) (by decide), rfl,
    State.getB_setB_same _ _ _ _ (by decide)⟩

theorem flcStart_erase_spec (erase : x.op = 3) :
    s.touches [.regs, .flc] [Blk.flc] s.flcStart ∧ s.flcStart.flc.running = true ∧ s.flcStart.flc.op = s.flc.op ∧
      s.flcStart.getB Port.FLC_STAT 15 = false ∧ s.flcStart.openIntent x.bank = x.addr / 2048 + 1 ∧
      Cells.rd (fun _ => 0) s.flcStart.flc.journalSeq x.bank =
        Cells.rd (fun _ => 0) s.flc.journalSeq x.bank + 1 := by
  have eq : s.flcStart = { ({ s with flc := { s.flc with running := true } } : State).setB Port.FLC_STAT 15 false with
      flc := { s.flc with
        running := true
        intents := Cells.wr (fun _ => 0) s.flc.intents x.bank (x.addr / 2048 + 1)
        journalSeq := Cells.wr (fun _ => 0) s.flc.journalSeq x.bank
          (Cells.rd (fun _ => 0) s.flc.journalSeq x.bank + 1) } } := by
    simp only [State.flcStart, op, still, grant, erase, if_true, if_false, Bool.false_eq_true, reduceCtorEq, or_self]
    rfl
  rw [eq]
  refine ⟨?_, rfl, rfl, State.getB_setB_same (s := { s with flc := { s.flc with running := true } }) _ _ _ (by decide),
    Cells.rd_wr_same (fun _ => 0) s.flc.intents x.bank (x.addr / 2048 + 1),
    Cells.rd_wr_same (fun _ => 0) s.flc.journalSeq x.bank (Cells.rd (fun _ => 0) s.flc.journalSeq x.bank + 1)⟩
  exact (((flc_touches s _).seq (flcSet_touches _ _ (by decide))).seq (flc_touches _ _)).mono (by decide) (by decide)

end start

/-! ## The end of an operation (R314) -/

/-- The controller without an operation. -/
def State.flcIdle (t : State) : State :=
  { t with flc := { t.flc with op := none, running := false, resumedAt := none } }

/-- What the end of an operation leaves after its work `t`. -/
def State.flcEnd (t : State) : State :=
  ((t.flcIdle.set Port.FLC_STAT (inFld 0 0 1)).sluiceDrop Act.flash).raise Irq.FLC_DONE

/-- The parts and the blocks that the end of an operation touches. -/
abbrev flcParts : List Part := [.regs, .mem, .pends, .flc, .sec, .sluice, .evf]
abbrev flcBlks : List (Nat × Nat) := [Blk.evf, Blk.flc, Blk.mnt]

theorem flcEnd_touches (t : State) : t.touches flcParts flcBlks t.flcEnd := by
  have cleared : t.touches flcParts flcBlks t.flcIdle := (flc_touches t _).mono (by decide) (by decide)
  have shown : State.touches flcParts flcBlks t.flcIdle (t.flcIdle.set Port.FLC_STAT (inFld 0 0 1)) :=
    (flcSet_touches _ _ (by decide)).mono (by decide) (by decide)
  exact ((cleared.trans shown).trans ((sluiceDrop_touches _ _).mono (by decide) (by decide))).trans
    ((raise_touches _ _).mono (by decide) (by decide))

theorem sluiceDrop_get (s : State) (a : Nat) {p : Nat} (h : p < 0x7000 ∨ 0x7002 < p) :
    (s.sluiceDrop a).get p = s.get p := by
  unfold State.sluiceDrop
  rw [State.get_setB_other _ _ _ (by unfold Port.MNT_AGED; omega),
    State.get_setB_other _ _ _ (by unfold Port.MNT_GRANT; omega),
    State.get_setB_other _ _ _ (by unfold Port.MNT_WAIT; omega)]
  rfl

/-- The registers of FLC but STAT, and all of MEM, stand. -/
theorem flcEnd_get (t : State) {p : Nat} (h : 0x1000 < p ∧ p < 0x7000) : t.flcEnd.get p = t.get p := by
  unfold State.flcEnd
  rw [raise_get _ _ _ (.inr (by omega)), sluiceDrop_get _ _ (by omega),
    State.get_set_other _ _ (by unfold Port.FLC_STAT; omega)]
  rfl

theorem flcEnd_mem (t : State) : t.flcEnd.mem = t.mem := by
  obtain ⟨_, _, _, _, rest⟩ := (raise_frame ((t.flcIdle.set Port.FLC_STAT (inFld 0 0 1)).sluiceDrop Act.flash)
    Irq.FLC_DONE).rest
  unfold State.flcEnd
  rw [rest]
  rfl

theorem flcEnd_flc (t : State) : t.flcEnd.flc = { t.flc with op := none, running := false, resumedAt := none } := by
  obtain ⟨_, _, _, _, rest⟩ := (raise_frame ((t.flcIdle.set Port.FLC_STAT (inFld 0 0 1)).sluiceDrop Act.flash)
    Irq.FLC_DONE).rest
  unfold State.flcEnd
  rw [rest]
  rfl

theorem flcEnd_spec {s t : State} (cores : ∀ c, t.core c = s.core c) :
    t.flcEnd.flc.op = none ∧ t.flcEnd.flc.running = false ∧ t.flcEnd.get Port.FLC_STAT = inFld 0 0 1 ∧
      t.flcEnd.granted Act.flash = false ∧ s.raises Irq.FLC_DONE t.flcEnd := by
  refine ⟨by rw [flcEnd_flc], by rw [flcEnd_flc], ?_, ?_, ?_⟩
  · unfold State.flcEnd
    rw [raise_get _ _ _ (.inr (by decide)), sluiceDrop_get _ _ (by decide)]
    exact State.get_set_same _ _ _
  · exact (getB_of_get (raise_get _ _ _ (.inr (by decide))) _).trans (sluiceDrop_granted _ (by decide))
  · exact raises_of_raise (by decide) fun c =>
      (show ((t.flcIdle.set Port.FLC_STAT (inFld 0 0 1)).sluiceDrop Act.flash).core c = t.core c by
        cases c <;> rfl).trans (cores c)

/-- The work of an operation before its end. -/
def State.flcWork (s : State) (x : FlashOp) (ok : Bool) : State :=
  if x.op = 3 then (if ok then s.eraseGood x else s.eraseBad x)
  else if ok then (s.programAt x.bank x.addr x.data).count 0x1012 else s.programBad x

theorem flcDone_ends {s : State} {x : FlashOp} (op : s.flc.op = some x) (runs : s.flc.running = true)
    (free : s.getB Port.FLC_STAT 16 = false) (ok : Bool) : s.flcDone ok = (s.flcWork x ok).flcEnd := by
  simp only [State.flcDone, op]
  exact if_neg (by rw [runs]; simpa using free)

theorem count_touches_flc (s : State) {p : Nat} (h : 0x1000 ≤ p ∧ p ≤ 0x13FF) :
    State.touches [.regs] [Blk.flc] s (s.count p) := flcSet_touches s _ h

/-! ### Programs -/

theorem programAt_mem (b : Nat) (l : List Word) (o : Nat) (s : State) :
    ∃ x, s.programAt b o l = { s with mem := x } ∧ x.sram = s.mem.sram := by
  induction l generalizing o s with
  | nil => exact ⟨s.mem, rfl, rfl⟩
  | cons v r ih =>
    obtain ⟨x, eq, sram⟩ := ih (o + 1) (s.flashSet b o v)
    exact ⟨x, eq, sram⟩

/-- Words programmed from an offset on: each at its place, and no other word. -/
theorem flash_programAt (b : Nat) (l : List Word) (o : Nat) (s : State) (k : Nat) :
    Cells.rd (fun _ => 0o777777) (s.programAt b o l).mem.flash k =
      if flashKey b o ≤ k ∧ k < flashKey b o + l.length then l.getD (k - flashKey b o) 0
      else Cells.rd (fun _ => 0o777777) s.mem.flash k := by
  induction l generalizing o s with
  | nil =>
    rw [if_neg (by simp)]
    rfl
  | cons v r ih =>
    have next : flashKey b (o + 1) = flashKey b o + 1 := by unfold flashKey; omega
    have stored : Cells.rd (fun _ => 0o777777) (s.flashSet b o v).mem.flash k =
        if flashKey b o = k then v else Cells.rd (fun _ => 0o777777) s.mem.flash k := Cells.rd_wr _ _ _ _ _
    rw [State.programAt, ih, next, stored, List.length_cons]
    by_cases first : flashKey b o = k
    · subst first
      rw [if_neg (by omega), if_pos rfl, if_pos (by omega), Nat.sub_self, List.getD_cons_zero]
    · rw [if_neg first]
      by_cases later : flashKey b o + 1 ≤ k ∧ k < flashKey b o + 1 + r.length
      · rw [if_pos later, if_pos (by omega), show k - flashKey b o = k - (flashKey b o + 1) + 1 by omega,
          List.getD_cons_succ]
      · rw [if_neg later, if_neg (by omega)]

section program
variable {s : State} {x : FlashOp} (op : s.flc.op = some x) (runs : s.flc.running = true)
  (free : s.getB Port.FLC_STAT 16 = false)
include op runs free

theorem flcDone_program (program : x.op ≠ 3) :
    s.flcDone true = ((s.programAt x.bank x.addr x.data).count 0x1012).flcEnd := by
  rw [flcDone_ends op runs free]
  unfold State.flcWork
  rw [if_neg program, if_pos rfl]

/-- A program that verifies. -/
theorem flcDone_program_spec (program : x.op ≠ 3) :
    s.touches flcParts flcBlks (s.flcDone true) ∧
      (∀ k, Cells.rd (fun _ => 0o777777) (s.flcDone true).mem.flash k =
        if flashKey x.bank x.addr ≤ k ∧ k < flashKey x.bank x.addr + x.data.length then
          x.data.getD (k - flashKey x.bank x.addr) 0 else Cells.rd (fun _ => 0o777777) s.mem.flash k) ∧
      (s.flcDone true).mem.sram = s.mem.sram ∧ s.counts 0x1012 (s.flcDone true) ∧
      (s.flcDone true).flc.op = none ∧ (s.flcDone true).flc.running = false ∧
      (s.flcDone true).get Port.FLC_STAT = inFld 0 0 1 ∧ (s.flcDone true).granted Act.flash = false ∧
      s.raises Irq.FLC_DONE (s.flcDone true) := by
  obtain ⟨y, written, sram⟩ := programAt_mem x.bank x.data x.addr s
  rw [flcDone_program op runs free program]
  refine ⟨?_, fun k => ?_, ?_, ?_, flcEnd_spec fun c => ?_⟩
  · rw [written]
    exact (((mem_touches s y).mono (by decide) (by decide)).trans
      ((count_touches_flc _ (by decide)).mono (by decide) (by decide))).trans (flcEnd_touches _)
  · rw [flcEnd_mem]
    exact flash_programAt x.bank x.data x.addr s k
  · rw [flcEnd_mem, written]
    exact sram
  · rw [written]
    exact (flcEnd_get _ (by decide)).trans (State.get_count_same _ _)
  · rw [written]
    cases c <;> rfl

end program

/-! ### Erases -/

theorem suspect_of_get {s t : State} {b : Nat} (same : t.get (0x1008 + b) = s.get (0x1008 + b)) :
    t.suspect b = s.suspect b := by
  unfold State.suspect
  rw [getB_of_get same, getF_of_get same]

/-- A bank whose register marks sector `k`. -/
theorem suspect_marked {s : State} {b k : Nat}
    (mark : s.get (0x1008 + b) = (inFld 17 17 1 ||| inFld 7 0 k)) : s.suspect b = some (k % 256) := by
  have flag : s.getB (0x1008 + b) 17 = true := by
    unfold State.getB bitOf
    rw [mark, BitVec.getLsbD_or]
    rfl
  have sector : s.getF (0x1008 + b) 7 0 = k % 256 := by
    unfold State.getF
    rw [mark, fld_or, fld_inFld_apart _ _ _ _ _ (by decide) (by decide), fld_inFld_same _ _ _ (by decide), Nat.zero_or]
    rfl
  unfold State.suspect
  rw [if_pos flag, sector]

theorem suspect_clear {s : State} {b : Nat} (clear : s.get (0x1008 + b) = 0) : s.suspect b = none := by
  have flag : s.getB (0x1008 + b) 17 = false := by
    unfold State.getB
    rw [clear]
    exact BitVec.getLsbD_zero
  unfold State.suspect
  rw [if_neg (by rw [flag]; decide)]

/-- The sector of a flash word. -/
theorem flashKey_sector {b a : Nat} (inside : a < 524288) (k : Nat) :
    (k / 524288 = b ∧ k % 524288 / 2048 = a / 2048) ↔ k / 2048 = flashKey b a / 2048 := by
  unfold flashKey
  omega

/-- The sector erased and its intent closed. -/
def State.sectorErased (s : State) (x : FlashOp) : State :=
  { s.eraseWords x.bank (x.addr / 2048) with
    flc := { s.flc with intents := Cells.wr (fun _ => 0) s.flc.intents x.bank 0 } }

theorem sectorErased_touches (s : State) (x : FlashOp) : s.touches [.regs, .mem, .flc] [Blk.flc] (s.sectorErased x) :=
  ((mem_touches s (s.eraseWords x.bank (x.addr / 2048)).mem).seq (flc_touches _ _)).mono (by decide) (by decide)

theorem flash_sectorErased {s : State} {x : FlashOp} (inside : x.addr < 458752) (k : Nat) :
    Cells.rd (fun _ => 0o777777) (s.sectorErased x).mem.flash k =
      if k / 2048 = flashKey x.bank x.addr / 2048 then 0o777777 else Cells.rd (fun _ => 0o777777) s.mem.flash k := by
  have sector := flashKey_sector (b := x.bank) (show x.addr < 524288 by omega) k
  refine (Cells.rd_keep _ _ _ _).trans ?_
  by_cases within : k / 2048 = flashKey x.bank x.addr / 2048
  · obtain ⟨bank, sec⟩ := sector.mpr within
    rw [if_neg (by simp [bank, sec]), if_pos within]
  · rw [if_pos (by simpa [imp_iff_not_or] using fun bank sec => within (sector.mp ⟨bank, sec⟩)), if_neg within]

theorem eraseGood_cases (s : State) (x : FlashOp) : s.eraseGood x =
    (if s.suspect x.bank = some (x.addr / 2048) then (s.sectorErased x).set (0x1008 + x.bank) 0
      else s.sectorErased x).count 0x1011 := rfl

section erase
variable {s : State} {x : FlashOp} (user : x.bank < 4)
include user

/-- An erase that verifies: the sector, its intent, its mark and the count. -/
theorem eraseGood_spec :
    s.touches [.regs, .mem, .flc] [Blk.flc] (s.eraseGood x) ∧ (s.eraseGood x).mem = (s.sectorErased x).mem ∧
      (s.eraseGood x).flc = (s.sectorErased x).flc ∧ (s.eraseGood x).suspect x.bank ≠ some (x.addr / 2048) ∧
      s.counts 0x1011 (s.eraseGood x) ∧ ∀ c, (s.eraseGood x).core c = s.core c := by
  have moved := sectorErased_touches s x
  rw [eraseGood_cases]
  split
  · have cleared := flcSet_touches (s.sectorErased x) (p := 0x1008 + x.bank) 0 (by omega)
    refine ⟨(moved.trans (cleared.mono (by decide) (by decide))).trans
      ((count_touches_flc _ (by decide)).mono (by decide) (by decide)), rfl, rfl, ?_, ?_, fun c => by cases c <;> rfl⟩
    · rw [suspect_clear ((State.get_count_other _ (by omega)).trans (State.get_set_same _ _ _))]
      exact fun h => nomatch h
    · exact (State.get_count_same _ _).trans (congrArg satInc (State.get_set_other _ _ (by omega)))
  · next other =>
    refine ⟨moved.trans ((count_touches_flc _ (by decide)).mono (by decide) (by decide)), rfl, rfl, ?_,
      State.get_count_same _ _, fun c => by cases c <;> rfl⟩
    have same : ((s.sectorErased x).count 0x1011).suspect x.bank = s.suspect x.bank :=
      suspect_of_get (State.get_count_other _ (by omega))
    rw [same]
    exact other

/-- An erase that fails: the sector is suspect, its intent stands. -/
theorem eraseBad_spec (inside : x.addr < 458752) :
    s.touches [.regs] [Blk.flc] (s.eraseBad x) ∧ (s.eraseBad x).getF Port.FLC_ERR 17 12 = 7 ∧
      (s.eraseBad x).suspect x.bank = some (x.addr / 2048) ∧ (s.eraseBad x).flc = s.flc ∧
      ∀ c, (s.eraseBad x).core c = s.core c := by
  unfold State.eraseBad State.flcFail
  dsimp only
  refine ⟨?_, ?_, ?_, rfl, fun c => by cases c <;> rfl⟩
  · have marked := flcSet_touches s (p := 0x1008 + x.bank) (inFld 17 17 1 ||| inFld 7 0 (x.addr / 2048)) (by omega)
    exact (((marked.trans ((free_touches _ _).mono (by decide) (by decide))).trans (flcSet_touches _ _ (by decide))).trans
      (flcSet_touches _ _ (by decide))).trans (flcSet_touches _ _ (by decide))
  · unfold State.getF
    rw [State.get_set_other _ _ (by decide), State.get_set_other _ _ (by decide)]
    exact State.getF_setF_same _ _ 17 12 7 (by decide)
  · have sector : x.addr / 2048 % 256 = x.addr / 2048 := by omega
    rw [suspect_marked (k := x.addr / 2048), sector]
    rw [State.get_set_other _ _ (by omega), State.get_set_other _ _ (by omega), State.get_setF_other _ _ _ _ (by omega)]
    exact State.get_set_same _ _ _

end erase

/-- A program that fails: its error; the words' marks are open. -/
theorem programBad_spec (s : State) (x : FlashOp) :
    s.touches [.regs, .mem] [Blk.flc] (s.programBad x) ∧ (s.programBad x).getF Port.FLC_ERR 17 12 = 6 ∧
      ∀ c, (s.programBad x).core c = s.core c := by
  obtain ⟨y, written, -⟩ := programAt_mem x.bank x.data x.addr s
  unfold State.programBad State.flcFail
  dsimp only
  rw [written]
  refine ⟨?_, ?_, fun c => by cases c <;> rfl⟩
  · have marked := mem_touches s (State.flashMark { s with mem := y } x.bank
      (x.addr + s.freeNat % max 1 x.data.length) 3).mem
    exact ((((marked.seq (free_touches _ _)).seq (flcSet_touches _ _ (by decide))).seq
      (flcSet_touches _ _ (by decide))).seq (flcSet_touches _ _ (by decide))).mono (by decide) (by decide)
  · unfold State.getF
    rw [State.get_set_other _ _ (by decide), State.get_set_other _ _ (by decide)]
    exact State.getF_setF_same _ _ 17 12 6 (by decide)

section ends
variable {s : State} {x : FlashOp} (op : s.flc.op = some x) (runs : s.flc.running = true)
  (free : s.getB Port.FLC_STAT 16 = false)
include op runs free

theorem flcDone_erase_spec (erase : x.op = 3) (user : x.bank < 4) (inside : x.addr < 458752) :
    s.touches flcParts flcBlks (s.flcDone true) ∧
      (∀ k, Cells.rd (fun _ => 0o777777) (s.flcDone true).mem.flash k =
        if k / 2048 = flashKey x.bank x.addr / 2048 then 0o777777 else Cells.rd (fun _ => 0o777777) s.mem.flash k) ∧
      (s.flcDone true).openIntent x.bank = 0 ∧ (s.flcDone true).suspect x.bank ≠ some (x.addr / 2048) ∧
      (s.flcDone true).mem.sram = s.mem.sram ∧ s.counts 0x1011 (s.flcDone true) ∧
      (s.flcDone true).flc.op = none ∧ (s.flcDone true).flc.running = false ∧
      (s.flcDone true).get Port.FLC_STAT = inFld 0 0 1 ∧ (s.flcDone true).granted Act.flash = false ∧
      s.raises Irq.FLC_DONE (s.flcDone true) := by
  have eq : s.flcDone true = (s.eraseGood x).flcEnd := by
    rw [flcDone_ends op runs free, State.flcWork, if_pos erase, if_pos rfl]
  obtain ⟨touched, mem, flc, healed, counted, cores⟩ := eraseGood_spec (s := s) (x := x) user
  rw [eq]
  refine ⟨(touched.mono (by decide) (by decide)).trans (flcEnd_touches _), fun k => ?_, ?_, ?_, ?_, ?_, flcEnd_spec cores⟩
  · rw [flcEnd_mem, mem]
    exact flash_sectorErased inside k
  · unfold State.openIntent
    rw [flcEnd_flc, flc]
    exact Cells.rd_wr_same (fun _ => 0) s.flc.intents x.bank 0
  · have same : (s.eraseGood x).flcEnd.suspect x.bank = (s.eraseGood x).suspect x.bank :=
      suspect_of_get (flcEnd_get _ (by omega))
    rw [same]
    exact healed
  · rw [flcEnd_mem, mem]
    rfl
  · exact (flcEnd_get _ (by decide)).trans counted

theorem flcDone_eraseBad_spec (erase : x.op = 3) (user : x.bank < 4) (inside : x.addr < 458752) :
    s.touches flcParts flcBlks (s.flcDone false) ∧ (s.flcDone false).getF Port.FLC_ERR 17 12 = 7 ∧
      (s.flcDone false).suspect x.bank = some (x.addr / 2048) ∧
      (s.flcDone false).openIntent x.bank = s.openIntent x.bank ∧
      (s.flcDone false).flc.op = none ∧ (s.flcDone false).flc.running = false ∧
      (s.flcDone false).get Port.FLC_STAT = inFld 0 0 1 ∧ (s.flcDone false).granted Act.flash = false ∧
      s.raises Irq.FLC_DONE (s.flcDone false) := by
  have eq : s.flcDone false = (s.eraseBad x).flcEnd := by
    rw [flcDone_ends op runs free, State.flcWork, if_pos erase, if_neg Bool.false_ne_true]
  obtain ⟨touched, error, marked, flc, cores⟩ := eraseBad_spec (s := s) user inside
  rw [eq]
  refine ⟨(touched.mono (by decide) (by decide)).trans (flcEnd_touches _), ?_, ?_, ?_, flcEnd_spec cores⟩
  · exact (getF_of_get (flcEnd_get _ (by decide)) 17 12).trans error
  · exact (suspect_of_get (flcEnd_get _ (by omega))).trans marked
  · unfold State.openIntent
    rw [flcEnd_flc, flc]

theorem flcDone_programBad_spec (program : x.op ≠ 3) :
    s.touches flcParts flcBlks (s.flcDone false) ∧ (s.flcDone false).getF Port.FLC_ERR 17 12 = 6 ∧
      (s.flcDone false).flc.op = none ∧ (s.flcDone false).flc.running = false ∧
      (s.flcDone false).get Port.FLC_STAT = inFld 0 0 1 ∧ (s.flcDone false).granted Act.flash = false ∧
      s.raises Irq.FLC_DONE (s.flcDone false) := by
  have eq : s.flcDone false = (s.programBad x).flcEnd := by
    rw [flcDone_ends op runs free, State.flcWork, if_neg program, if_neg Bool.false_ne_true]
  obtain ⟨touched, error, cores⟩ := programBad_spec s x
  rw [eq]
  exact ⟨(touched.mono (by decide) (by decide)).trans (flcEnd_touches _),
    (getF_of_get (flcEnd_get _ (by decide)) 17 12).trans error, flcEnd_spec cores⟩

end ends

/-! ## Suspension (R316) -/

theorem erasing_of {s : State} {x : FlashOp} (op : s.flc.op = some x) (runs : s.flc.running = true) (erase : x.op = 3) :
    s.erasing x.bank = true := by
  simp [State.erasing, op, runs, erase]

theorem eraseSuspend_spec {s : State} {x : FlashOp} (op : s.flc.op = some x) (runs : s.flc.running = true)
    (free : s.getB Port.FLC_STAT 16 = false) (erase : x.op = 3) (user : x.bank < 4) (ran : s.ranMin = true) :
    s.touches [.regs, .flc] [Blk.flc] s.eraseSuspend ∧ s.eraseSuspend.getB Port.FLC_STAT 16 = true ∧
      s.counts Port.FLC_SUSPCNT s.eraseSuspend ∧ s.eraseSuspend.flc = { s.flc with readAt := s.time.wall } := by
  have under := erasing_of op runs erase
  have eq : s.eraseSuspend = (({ s with flc := { s.flc with readAt := s.time.wall } } : State).setB Port.FLC_STAT 16
      true).count Port.FLC_SUSPCNT := by
    simp only [State.eraseSuspend, op]
    rw [if_neg (by simp [under, user]), if_neg (by rw [free]; decide), if_pos ran]
  rw [eq]
  refine ⟨?_, ?_, ?_, rfl⟩
  · exact (((flc_touches s _).seq (flcSet_touches _ _ (by decide))).seq (count_touches_flc _ (by decide))).mono (by decide)
      (by decide)
  · exact (getB_of_get (State.get_count_other _ (by decide)) 16).trans (State.getB_setB_same _ _ _ _ (by decide))
  · exact (State.get_count_same _ _).trans (congrArg satInc (State.get_setB_other _ _ _ (by decide)))

theorem eraseSuspend_idle {s : State} (h : s.flc.op = none ∨ s.flc.running = false) : s.eraseSuspend = s := by
  unfold State.eraseSuspend
  cases op : s.flc.op with
  | none => rfl
  | some x =>
    have still : s.flc.running = false := h.resolve_left (by rw [op]; exact Option.some_ne_none x)
    have none_ : s.erasing x.bank = false := by simp [State.erasing, op, still]
    exact if_pos (by rw [none_, Bool.false_and])

theorem eraseSuspend_early {s : State} (free : s.getB Port.FLC_STAT 16 = false) (early : s.ranMin = false) :
    s.eraseSuspend = s := by
  unfold State.eraseSuspend
  cases s.flc.op with
  | none => rfl
  | some x =>
    dsimp only
    rw [if_neg (show ¬s.getB 0x1000 16 = true by rw [free]; decide), if_neg (show ¬s.ranMin = true by rw [early]; decide),
      ite_self]

/-- The bank of a suspended erase has seen no read for RESUME_IDLE. -/
def State.resumeAt (s : State) : Nat := s.flc.readAt + max 1 (s.getF 0x1004 17 12) * 16

theorem eraseResume_spec {s : State} (suspended : s.getB Port.FLC_STAT 16 = true) (due : s.resumeAt ≤ s.time.wall) :
    s.touches [.regs, .flc] [Blk.flc] s.eraseResume ∧ s.eraseResume.getB Port.FLC_STAT 16 = false ∧
      s.eraseResume.flc = { s.flc with resumedAt := some s.time.wall } := by
  have eq : s.eraseResume =
      ({ s with flc := { s.flc with resumedAt := some s.time.wall } } : State).setB Port.FLC_STAT 16 false :=
    if_pos (by rw [Bool.and_eq_true]; exact ⟨suspended, decide_eq_true due⟩)
  rw [eq]
  exact ⟨((flc_touches s _).seq (flcSet_touches _ _ (by decide))).mono (by decide) (by decide),
    State.getB_setB_same _ _ _ _ (by decide), rfl⟩

theorem eraseResume_stands {s : State} (h : s.getB Port.FLC_STAT 16 = false ∨ s.time.wall < s.resumeAt) :
    s.eraseResume = s := by
  refine if_neg fun both => ?_
  obtain ⟨suspended, due⟩ := Bool.and_eq_true _ _ ▸ both
  obtain free | early := h
  · exact absurd (suspended.symm.trans free) (by decide)
  · exact absurd (of_decide_eq_true due) (Nat.not_le.mpr early)

/-! ## The journal scan (R319) -/

/-- FLC_SUSPECT of a bank by its journal. -/
def State.intentMark (s : State) (b : Nat) : Word :=
  if s.openIntent b = 0 then 0 else inFld 17 17 1 ||| inFld 7 0 (s.openIntent b - 1)

theorem scanTurn (t : State) (b : Nat) : (match t.openIntent b with
    | 0 => t.set (0x1008 + b) 0
    | k + 1 => t.set (0x1008 + b) (inFld 17 17 1 ||| inFld 7 0 k)) = t.set (0x1008 + b) (t.intentMark b) := by
  unfold State.intentMark
  cases t.openIntent b with
  | zero => rfl
  | succ k => rfl

theorem journalScan_idle {s : State} (h : s.domOn 14 = false ∨ s.getB Port.FLC_STAT 0 = true) : s.journalScan = s :=
  if_pos h

theorem journalScan_scans {s : State} (up : s.domOn 14 = true) (first : s.getB Port.FLC_STAT 0 = false) :
    s.journalScan = (forNat 5 (fun b t => t.set (0x1008 + b) (t.intentMark b)) s).setB Port.FLC_STAT 0 true := by
  have turn : (fun (b : Nat) (t : State) => match t.openIntent b with
      | 0 => t.set (0x1008 + b) 0
      | k + 1 => t.set (0x1008 + b) (inFld 17 17 1 ||| inFld 7 0 k)) = fun b t => t.set (0x1008 + b) (t.intentMark b) :=
    funext fun b => funext fun t => scanTurn t b
  rw [← turn]
  exact if_neg (by rw [up]; simpa using first)

theorem scanned_mark {s : State} {b : Nat} (hb : b < 5) :
    (forNat 5 (fun b t => t.set (0x1008 + b) (t.intentMark b)) s).get (0x1008 + b) = s.intentMark b := by
  refine (forNat_reaches (f := fun b t => t.set (0x1008 + b) (t.intentMark b)) (Q := fun t => t.flc = s.flc) (P := fun t => t.get (0x1008 + b) = s.intentMark b) hb rfl
    
    (fun _ _ _ h => h) (fun t h => ?_) fun i _ t flc h => ?_).2
  · refine (State.get_set_same _ _ _).trans ?_
    unfold State.intentMark State.openIntent
    rw [h]
  · by_cases same : i = b
    · subst same
      refine (State.get_set_same _ _ _).trans ?_
      unfold State.intentMark State.openIntent
      rw [flc]
    · exact (State.get_set_other _ _ (by omega)).trans h

theorem suspect_intentMark {s t : State} {b : Nat} (mark : t.get (0x1008 + b) = s.intentMark b) :
    t.suspect b = if s.openIntent b = 0 then none else some ((s.openIntent b - 1) % 256) := by
  unfold State.intentMark at mark
  split at mark
  · next closed => rw [suspect_clear mark, if_pos closed]
  · next intent => rw [suspect_marked mark, if_neg intent]

theorem journalScan_spec {s : State} (up : s.domOn 14 = true) (first : s.getB Port.FLC_STAT 0 = false) :
    s.touches [.regs] [Blk.flc] s.journalScan ∧ s.journalScan.getB Port.FLC_STAT 0 = true ∧
      (∀ b, b < 5 → s.journalScan.suspect b =
        if s.openIntent b = 0 then none else some ((s.openIntent b - 1) % 256)) ∧ s.journalScan.flc = s.flc := by
  have touched : s.touches [.regs] [Blk.flc] s.journalScan := by
    rw [journalScan_scans up first]
    exact (forNat_touches (fun i hi t => flcSet_touches t _ (by omega)) s).trans (flcSet_touches _ _ (by decide))
  refine ⟨touched, ?_, fun b hb => suspect_intentMark ?_, touched.1 .flc (by decide)⟩
  · rw [journalScan_scans up first]
    exact State.getB_setB_same _ _ _ _ (by decide)
  · rw [journalScan_scans up first]
    exact (State.get_setB_other _ _ _ (by unfold Port.FLC_STAT; omega)).trans (scanned_mark hb)

/-! ## The scrub of SRAM (R301 to R303) -/

/-- The parts and the blocks that a scrub step touches. -/
abbrev scrubParts : List Part := [.regs, .mem, .pends, .sluice, .evf]
abbrev scrubBlks : List (Nat × Nat) := [Blk.evf, Blk.mem, Blk.mnt]

theorem memSet_touches (s : State) {p : Nat} (v : Word) (h : 0x1400 ≤ p ∧ p ≤ 0x14FF) :
    State.touches scrubParts scrubBlks s (s.set p v) := (set_touches (b := Blk.mem) s v h).mono (by decide) (by decide)

theorem sramWr_touches (s : State) (k : Nat) (v : Word) : State.touches scrubParts scrubBlks s (s.sramWr k v) :=
  (mem_touches s _).mono (by decide) (by decide)

/-- What the scrub records of a word that is lost. -/
def State.lostNoted (s : State) (b w : Nat) : State :=
  (((s.count 0x1407).set 0x1408 (inFld 17 12 b)).set 0x1409 (BitVec.ofNat 18 w)).raise Irq.MEM_ECC

theorem lostNoted_touches (s : State) (b w : Nat) : State.touches scrubParts scrubBlks s (s.lostNoted b w) :=
  (((memSet_touches s _ (by decide)).trans (memSet_touches _ _ (by decide))).trans (memSet_touches _ _ (by decide))).trans
    ((raise_touches _ _).mono (by decide) (by decide))

theorem lostNoted_mem (s : State) (b w : Nat) : (s.lostNoted b w).mem = s.mem := by
  obtain ⟨_, _, _, _, rest⟩ := (raise_frame (((s.count 0x1407).set 0x1408 (inFld 17 12 b)).set 0x1409 (BitVec.ofNat 18 w))
    Irq.MEM_ECC).rest
  unfold State.lostNoted
  rw [rest]
  rfl

/-- The outcomes of a word's scrub: nothing, a correction, or a loss that is noted, with or without a rewrite. -/
theorem scrubWord_cases (s : State) (b w : Nat) :
    (s.sramBad (b * 16384 + w) = 0 ∧ s.scrubWord b w = s) ∨
    (s.sramBad (b * 16384 + w) = 1 ∧ s.scrubWord b w =
      (s.sramWr (b * 16384 + w) (s.sramRd (b * 16384 + w))).count 0x1406) ∨
    (s.sramBad (b * 16384 + w) ≠ 0 ∧ s.sramBad (b * 16384 + w) ≠ 1 ∧ (s.scrubWord b w = s.lostNoted b w ∨
      (∃ v, s.scrubWord b w = (s.lostNoted b w).sramWr (b * 16384 + w) v) ∨
      s.scrubWord b w = (s.lostNoted b w).sluiceAsk Act.chzscrub)) := by
  by_cases good : s.sramBad (b * 16384 + w) = 0
  · exact .inl ⟨good, if_pos good⟩
  by_cases single : s.sramBad (b * 16384 + w) = 1
  · exact .inr (.inl ⟨single, (if_neg good).trans (if_pos single)⟩)
  refine .inr (.inr ⟨good, single, ?_⟩)
  obtain ⟨u, eu⟩ : ∃ u, u = s.scrubWord b w := ⟨_, rfl⟩
  rw [← eu]
  unfold State.scrubWord at eu
  dsimp only at eu
  rw [if_neg good, if_neg single] at eu
  split at eu
  · split at eu
    · exact .inl eu
    · exact .inr (.inl ⟨_, eu⟩)
  · exact .inr (.inr eu)
  · exact .inl eu

theorem scrubWord_touches (s : State) (b w : Nat) : State.touches scrubParts scrubBlks s (s.scrubWord b w) := by
  have lost := lostNoted_touches s b w
  obtain ⟨-, eq⟩ | ⟨-, eq⟩ | ⟨-, -, eq | ⟨v, eq⟩ | eq⟩ := scrubWord_cases s b w <;> rw [eq]
  · exact .refl _ _ s
  · exact (sramWr_touches s _ _).trans (memSet_touches _ _ (by decide))
  · exact lost
  · exact lost.trans (sramWr_touches _ _ _)
  · exact lost.trans ((sluiceAsk_touches _ _).mono (by decide) (by decide))

theorem sramWr_apart (s : State) {k j : Nat} (v : Word) (h : k ≠ j) :
    (s.sramWr k v).sramRd j = s.sramRd j ∧ (s.sramWr k v).sramBad j = s.sramBad j := by
  refine ⟨by rw [State.sramRd_sramWr, if_neg h], ?_⟩
  unfold State.sramBad State.sramWr
  rw [Cells.rd_del, if_neg h]

theorem sluiceAsk_mem (s : State) (a : Nat) : (s.sluiceAsk a).mem = s.mem :=
  (sluiceAsk_touches s a).1 .mem (by decide)

/-- Another word stands. -/
theorem scrubWord_apart (s : State) {b w k : Nat} (h : b * 16384 + w ≠ k) :
    (s.scrubWord b w).sramRd k = s.sramRd k ∧ (s.scrubWord b w).sramBad k = s.sramBad k := by
  have noted : ∀ {t : State}, t.mem = s.mem → t.sramRd k = s.sramRd k ∧ t.sramBad k = s.sramBad k := fun same =>
    ⟨by unfold State.sramRd; rw [same], by unfold State.sramBad; rw [same]⟩
  have lost := noted (lostNoted_mem s b w)
  obtain ⟨-, eq⟩ | ⟨-, eq⟩ | ⟨-, -, eq | ⟨v, eq⟩ | eq⟩ := scrubWord_cases s b w <;> rw [eq]
  · exact ⟨rfl, rfl⟩
  · exact sramWr_apart s _ h
  · exact lost
  · obtain ⟨word, mark⟩ := sramWr_apart (s.lostNoted b w) v h
    exact ⟨word.trans lost.1, mark.trans lost.2⟩
  · exact noted ((sluiceAsk_mem _ _).trans (lostNoted_mem s b w))

/-- A word with one wrong bit is corrected; a good one stands. -/
theorem scrubWord_corrects {s : State} {b w : Nat} (single : s.sramBad (b * 16384 + w) = 1 ∨ s.sramBad (b * 16384 + w) = 0) :
    (s.scrubWord b w).sramRd (b * 16384 + w) = s.sramRd (b * 16384 + w) ∧
      (s.scrubWord b w).sramBad (b * 16384 + w) = 0 := by
  obtain ⟨good, eq⟩ | ⟨-, eq⟩ | ⟨bad, other, -⟩ := scrubWord_cases s b w
  · rw [eq]
    exact ⟨rfl, good⟩
  · rw [eq]
    exact ⟨(State.sramRd_sramWr _ _ _ _).trans (if_pos rfl), State.sramBad_sramWr_self _ _ _⟩
  · exact absurd single (by simp [bad, other])

/-- The eight words of a group. -/
theorem scrubWords_correct {s : State} {b g i : Nat} (hi : i < 8) (single : s.sramBad (b * 16384 + 8 * g + i) = 1) :
    (forNat 8 (fun i t => t.scrubWord b (8 * g + i)) s).sramRd (b * 16384 + 8 * g + i) =
        s.sramRd (b * 16384 + 8 * g + i) ∧
      (forNat 8 (fun i t => t.scrubWord b (8 * g + i)) s).sramBad (b * 16384 + 8 * g + i) = 0 := by
  have place : b * 16384 + 8 * g + i = b * 16384 + (8 * g + i) := by omega
  rw [place] at single ⊢
  refine (forNat_reaches (f := fun i t => t.scrubWord b (8 * g + i))
    (Q := fun t => t.sramRd (b * 16384 + (8 * g + i)) = s.sramRd (b * 16384 + (8 * g + i)) ∧
      (t.sramBad (b * 16384 + (8 * g + i)) = 1 ∨ t.sramBad (b * 16384 + (8 * g + i)) = 0))
    (P := fun t => t.sramBad (b * 16384 + (8 * g + i)) = 0) hi ⟨rfl, .inl single⟩
    (fun j _ t held => ?_) (fun t held => (scrubWord_corrects held.2).2) fun j _ t held good => ?_).imp And.left id
  · by_cases same : j = i
    · subst same
      obtain ⟨word, mark⟩ := scrubWord_corrects held.2
      exact ⟨word.trans held.1, .inr mark⟩
    · obtain ⟨word, mark⟩ := scrubWord_apart t (b := b) (w := 8 * g + j) (k := b * 16384 + (8 * g + i)) (by omega)
      rw [word, mark]
      exact held
  · by_cases same : j = i
    · subst same
      exact (scrubWord_corrects held.2).2
    · exact (scrubWord_apart t (by omega)).2.trans good

/-- A bank that is walked is the next one from itself on. -/
theorem nextBank_self {s : State} {b : Nat} (inside : b < 40) (walked : s.scrubbed b = true) :
    s.nextBank b = some (b, false) := by
  have found : ((List.range 40).filter fun x => decide (b ≤ x)).find? (fun x => s.scrubbed x) = some b := by
    rw [List.find?_filter, List.find?_range_eq_some]
    refine ⟨?_, List.mem_range.mpr inside, fun j below => ?_⟩
    · simp [walked]
    · simp [below]
  unfold State.nextBank
  rw [found]

section scrub
variable {s : State} (on : s.getB Port.MEM_SCRUB 17 = true) (shallow : s.level ≤ 2)
  (due : s.mem.scrubAt + max 1 (s.getF Port.MEM_SCRUB 5 0) * 16 ≤ s.time.wall)

theorem scrubStep_none (h : s.getB Port.MEM_SCRUB 17 = false ∨ 2 < s.level ∨
    s.time.wall < s.mem.scrubAt + max 1 (s.getF Port.MEM_SCRUB 5 0) * 16) : s.scrubStep = s := by
  refine if_pos ?_
  simp only [Bool.and_eq_false_iff, decide_eq_false_iff_not, Nat.not_le]
  obtain off | deep | early := h
  · exact .inl (.inl off)
  · exact .inl (.inr deep)
  · exact .inr early

include on shallow due in
theorem scrubStep_due : s.scrubStep = if s.granted Act.sramScrub then
    ({ s.scrubGroup with mem := { s.scrubGroup.mem with scrubAt := s.time.wall } } : State).sluiceDrop Act.sramScrub
    else s.sluiceAsk Act.sramScrub :=
  if_neg (by rw [show s.getB 0x1403 17 = true from on, decide_eq_true shallow, decide_eq_true due]; decide)

include on shallow due in
theorem scrubStep_asks (free : s.granted Act.sramScrub = false) :
    s.touches [.regs, .sluice] [Blk.mnt] s.scrubStep ∧ s.scrubStep.waits Act.sramScrub = true := by
  rw [scrubStep_due on shallow due, if_neg (by rw [free]; decide)]
  exact ⟨sluiceAsk_touches s _, sluiceAsk_waits (by decide) free⟩

variable {b g : Nat} (bank : s.getF Port.MEM_SCRUB_POS 17 12 = b) (group : s.getF Port.MEM_SCRUB_POS 10 0 = g)
  (inside : b < 40) (walked : s.scrubbed b = true) (within : g < 2047)
include bank group inside walked within

theorem scrubGroup_next : s.scrubGroup = (forNat 8 (fun i t => t.scrubWord b (8 * g + i)) s).set Port.MEM_SCRUB_POS
    (inFld 17 12 b ||| inFld 10 0 (g + 1)) := by
  have here : s.nextBank (s.getF 0x1404 17 12) = some (b, false) := by
    rw [show s.getF 0x1404 17 12 = b from bank]
    exact nextBank_self inside walked
  unfold State.scrubGroup
  dsimp only
  rw [here, show s.getF 0x1404 17 12 = b from bank, show s.getF 0x1404 10 0 = g from group]
  simp only [if_true, within]

include on shallow due in
theorem scrubStep_corrects {i : Nat} (grant : s.granted Act.sramScrub = true) (hi : i < 8)
    (single : s.sramBad (b * 16384 + 8 * g + i) = 1) :
    s.touches scrubParts scrubBlks s.scrubStep ∧ s.scrubStep.sramBad (b * 16384 + 8 * g + i) = 0 ∧
      s.scrubStep.sramRd (b * 16384 + 8 * g + i) = s.sramRd (b * 16384 + 8 * g + i) ∧
      s.scrubStep.getF Port.MEM_SCRUB_POS 10 0 = g + 1 ∧ s.scrubStep.getF Port.MEM_SCRUB_POS 17 12 = b ∧
      s.scrubStep.granted Act.sramScrub = false ∧ s.scrubStep.mem.scrubAt = s.time.wall := by
  obtain ⟨word, mark⟩ := scrubWords_correct hi single
  have walkedOn := forNat_touches (ps := scrubParts) (bs := scrubBlks)
    (fun i (_ : i < 8) t => scrubWord_touches t b (8 * g + i)) s
  rw [scrubStep_due on shallow due, if_pos grant, scrubGroup_next bank group inside walked within]
  obtain ⟨u, eu⟩ : ∃ u, u = forNat 8 (fun i t => t.scrubWord b (8 * g + i)) s := ⟨_, rfl⟩
  rw [← eu] at word mark walkedOn ⊢
  have position : ∀ hi lo, State.getF (({ u.set Port.MEM_SCRUB_POS (inFld 17 12 b ||| inFld 10 0 (g + 1)) with
      mem := { u.mem with scrubAt := s.time.wall } } : State).sluiceDrop Act.sramScrub) Port.MEM_SCRUB_POS hi lo =
      fld (inFld 17 12 b ||| inFld 10 0 (g + 1)) hi lo := fun hi lo =>
    congrArg (fld · hi lo) ((sluiceDrop_get _ _ (by decide)).trans (State.get_set_same u _ _))
  refine ⟨?_, mark, word, (position 10 0).trans ?_, (position 17 12).trans ?_, sluiceDrop_granted _ (by decide), rfl⟩
  · exact ((walkedOn.trans (memSet_touches u _ (by decide))).trans ((mem_touches _ _).mono (by decide) (by decide))).trans
      ((sluiceDrop_touches _ _).mono (by decide) (by decide))
  · rw [fld_or, fld_inFld_apart _ _ _ _ _ (by decide) (by decide), fld_inFld_same _ _ _ (by decide), Nat.zero_or]
    exact Nat.mod_eq_of_lt (by omega)
  · rw [fld_or, fld_inFld_same _ _ _ (by decide), fld_inFld_apart _ _ _ _ _ (by decide) (by decide), Nat.or_zero]
    exact Nat.mod_eq_of_lt (by omega)

end scrub

/-! ## An access that waits too long (R239) -/

/-- The access of core `c` is given up: its register reads as 0, its request is withdrawn. -/
def State.waitDropped (s : State) (c : Core) (w : ApWait) : State :=
  { s.updCore c fun x => { (if w.write then x else x.setReg w.reg 0) with apWait := none } with
    dmc := { s.dmc with queue := s.dmc.queue.filter fun r => decide (r.port ≠ c.num) } }

theorem waitExpire_early {s : State} {c : Core} {w : ApWait} (wait : (s.core c).apWait = some w)
    (early : (timeDiff s.time.link w.since).toNat < 1024) : s.waitExpire c = s := by
  simp only [State.waitExpire, wait]
  exact if_pos early

theorem waitExpire_over {s : State} {c : Core} {w : ApWait} (wait : (s.core c).apWait = some w)
    (over_ : 1024 ≤ (timeDiff s.time.link w.since).toNat) :
    s.waitExpire c = ((s.waitDropped c w).faultAt c 4 (nat1 w.write) w.addr).retire c := by
  simp only [State.waitExpire, wait]
  refine (if_neg (Nat.not_lt.mpr over_)).trans ?_
  cases c <;> rfl

theorem core_waitDropped (s : State) (c : Core) (w : ApWait) : ∃ win fixed, (s.waitDropped c w).core c =
    { s.core c with win := win, fixed := fixed, apWait := none } := by
  have kept : (s.waitDropped c w).core c = { (if w.write then s.core c else (s.core c).setReg w.reg 0) with
      apWait := none } := by cases c <;> rfl
  rw [kept]
  split
  · exact ⟨_, _, rfl⟩
  · obtain ⟨win, fixed, e⟩ := setReg_files (s.core c) w.reg 0
    rw [e]
    exact ⟨_, _, rfl⟩

theorem waitDropped_touches (s : State) (c : Core) (w : ApWait) :
    s.touches [.regs, .cores, .pends, .dmc] [Blk.dbg] (s.waitDropped c w) :=
  ((coreOnly_touches (updCore_coreOnly s c _)).seq (dmc_touches _ _)).mono (by decide) (by decide)

theorem apWait_fault (s : State) (c : Core) {n kind : Nat} (addr : Word) (room : (s.core c).res.toNat < 14) :
    (((s.faultAt c n kind addr).retire c).core c).apWait = (s.core c).apWait := by
  obtain ⟨_, _, _, retired⟩ := core_retire (s.faultAt c n kind addr) c
  rw [retired, State.faultAt, trapTo_room room, core_trapNow]
  obtain ⟨_, _, entered⟩ := enter_files (s.core c) (s.core c).pc ((s.core c).vector n)
  dsimp only
  rw [entered]
  rfl

theorem coreOnly_dmc {c : Core} {s t : State} (h : State.coreOnly c s t) : t.dmc = s.dmc :=
  (coreOnly_touches h).1 .dmc (by decide)

theorem waitExpire_spec {s : State} {c : Core} {w : ApWait} (wait : (s.core c).apWait = some w)
    (over_ : 1024 ≤ (timeDiff s.time.link w.since).toNat) (room : (s.core c).res.toNat < 14) :
    s.touches [.regs, .cores, .pends, .dmc] [Blk.dbg] (s.waitExpire c) ∧ ((s.waitExpire c).core c).apWait = none ∧
      ((s.waitExpire c).core c).pc = (s.core c).vbase + 16 ∧ fld ((s.waitExpire c).core c).tcause 17 12 = 4 ∧
      fld ((s.waitExpire c).core c).tcause 11 9 = nat1 w.write ∧ ((s.waitExpire c).core c).taddr = w.addr ∧
      ((s.waitExpire c).core c).reg 11 = (s.core c).pc ∧
      (s.waitExpire c).dmc.queue = s.dmc.queue.filter fun r => decide (r.port ≠ c.num) := by
  rw [waitExpire_over wait over_]
  obtain ⟨win, fixed, dropped⟩ := core_waitDropped s c w
  have room : ((s.waitDropped c w).core c).res.toNat < 14 := by rwa [dropped]
  obtain ⟨⟨⟨pc, -, -, ret, -, only⟩, -, number⟩, kind, addr⟩ := faultAt_trapped (n := 4) (kind := nat1 w.write) room w.addr
    (by decide) (by unfold nat1; split <;> decide)
  refine ⟨(waitDropped_touches s c w).trans ((coreOnly_touches only).mono (by decide) (by decide)), ?_, ?_, number, kind,
    addr, ?_, ?_⟩
  · rw [apWait_fault _ _ _ room, dropped]
  · rw [pc, dropped]
    rfl
  · rw [ret, dropped]
  · rw [coreOnly_dmc only]
    rfl

/-- Settles O30: an operation by its work and its end (`flcDone_ends`), a scrub step by its group's words
(`scrubWords_correct`), a wait by its fault (`waitExpire_over`). -/
theorem flashOperationsRunToTheirEnd : Obligations.FlashOperationsRunToTheirEnd := by
  unfold Obligations.FlashOperationsRunToTheirEnd
  refine fun s => ⟨fun h => ?_, fun x op still grant program => ?_, fun x op still grant erase => ?_,
    fun ok x d op runs free program word good => ?_, fun ok x op runs free program row good => ?_,
    fun ok x op runs free erase user inside good => ?_, fun ok x op runs free erase user inside bad => ?_,
    fun ok x op runs free program bad => ?_, fun x op runs free erase user ran => ?_, fun h => ?_, fun free early => ?_,
    fun suspended due => ?_, fun h => ?_, fun up first => ?_, fun h => ?_, fun h => ?_, fun on shallow due free => ?_,
    fun b g i on shallow due grant bank group inside walked within hi single => ?_, fun c w wait early => ?_,
    fun c w wait over_ room => ?_⟩
  · exact completes_eq rfl (flcStart_idle h) rfl
  · exact ⟨_, rfl, flcStart_program_spec op still grant program⟩
  · exact ⟨_, rfl, flcStart_erase_spec op still grant erase⟩
  · subst good
    obtain ⟨touched, flash, rest⟩ := flcDone_program_spec op runs free (by omega)
    rw [word] at flash
    refine ⟨_, rfl, touched, ?_, fun k apart => ?_, rest⟩
    · refine (flash _).trans ?_
      rw [if_pos (by simp), Nat.sub_self]
      rfl
    · rw [flash, if_neg (by simp only [List.length_singleton]; omega)]
  · subst good
    obtain ⟨touched, flash, rest⟩ := flcDone_program_spec op runs free (by omega)
    rw [row] at flash
    refine ⟨_, rfl, touched, fun i hi => ?_, fun k apart => ?_, rest⟩
    · refine (flash _).trans ?_
      rw [if_pos (by unfold flashKey; omega)]
      congr 1
      unfold flashKey
      omega
    · rw [flash, if_neg (by omega)]
  · subst good
    obtain ⟨touched, flash, closed, healed, rest⟩ := flcDone_erase_spec op runs free erase user inside
    refine ⟨_, rfl, touched, fun i hi => ?_, closed, healed, fun k apart => ?_, rest⟩
    · refine (flash _).trans (if_pos ?_)
      unfold flashKey
      omega
    · rw [flash, if_neg apart]
  · subst bad
    exact ⟨_, rfl, flcDone_eraseBad_spec op runs free erase user inside⟩
  · subst bad
    exact ⟨_, rfl, flcDone_programBad_spec op runs free (by omega)⟩
  · exact ⟨_, rfl, eraseSuspend_spec op runs free erase user ran⟩
  · exact completes_eq rfl (eraseSuspend_idle h) rfl
  · exact completes_eq rfl (eraseSuspend_early free early) rfl
  · exact ⟨_, rfl, eraseResume_spec suspended due⟩
  · exact completes_eq rfl (eraseResume_stands h) rfl
  · exact ⟨_, rfl, journalScan_spec up first⟩
  · exact completes_eq rfl (journalScan_idle h) rfl
  · exact completes_eq rfl (scrubStep_none h) rfl
  · exact ⟨_, rfl, scrubStep_asks on shallow due free⟩
  · exact ⟨_, rfl, scrubStep_corrects on shallow due bank group inside walked within grant hi single⟩
  · exact completes_eq rfl (waitExpire_early wait early) rfl
  · obtain ⟨touched, rest⟩ := waitExpire_spec wait over_ room
    exact ⟨_, rfl, touched.mono (by decide) (by decide), rest⟩

end Sys2Proof.Machine

/-! The statement of 13_memory_and_flash.md on the cycles of a flash command (O29). -/

namespace Sys2Proof.Machine

open Sys2Proof

/-! ## A core's sequence (R312) -/

/-- The parts and the blocks that a command cycle touches. -/
abbrev cycleParts : List Part := [.regs, .pends, .flc, .sluice, .evf]

section seq
variable (s : State) (c step bank addr row : Nat) (data : List Word)

theorem setSeq_touches : s.touches cycleParts flcBlks (s.setSeq c step bank addr row data) :=
  (flc_touches s _).mono (by decide) (by decide)

@[simp] theorem flcStep_setSeq : (s.setSeq c step bank addr row data).flcStep c = step := Cells.rd_wr_same _ _ _ _

@[simp] theorem seqBank_setSeq :
    Cells.rd (fun _ => 0) (s.setSeq c step bank addr row data).flc.seqBank c = bank := Cells.rd_wr_same _ _ _ _

@[simp] theorem seqAddr_setSeq :
    Cells.rd (fun _ => 0) (s.setSeq c step bank addr row data).flc.seqAddr c = addr := Cells.rd_wr_same _ _ _ _

@[simp] theorem seqRow_setSeq :
    Cells.rd (fun _ => 0) (s.setSeq c step bank addr row data).flc.seqRow c = row := Cells.rd_wr_same _ _ _ _

@[simp] theorem rowData_setSeq :
    Cells.rd (fun _ => []) (s.setSeq c step bank addr row data).flc.rowData c = data := Cells.rd_wr_same _ _ _ _

/-- A later cycle of the same core replaces what an earlier one left. -/
theorem place_setSeq (k : Core) (a : Word) : (s.setSeq c step bank addr row data).place k a = s.place k a := rfl

end seq

/-- A refused command: its error and the interrupt; the operation that stands goes on. -/
theorem flcRefuse_spec {s t : State} {code : Nat} (small : code < 64) (cores : ∀ c, t.core c = s.core c) :
    t.touches cycleParts flcBlks (t.flcRefuse code) ∧ (t.flcRefuse code).flc = t.flc ∧
      (t.flcRefuse code).getF Port.FLC_ERR 17 12 = code ∧ s.raises Irq.FLC_ERR (t.flcRefuse code) := by
  have shown := (flcSet_touches t (p := 0x1001) (withFld (t.get 0x1001) 17 12 code) (by decide)).mono
    (ps' := cycleParts) (bs' := flcBlks) (by decide) (by decide)
  refine ⟨shown.trans ((raise_touches _ _).mono (by decide) (by decide)), ?_, ?_, ?_⟩
  · exact (raise_touches (t.setF 0x1001 17 12 code) Irq.FLC_ERR).1 .flc (by decide)
  · exact (getF_of_get (raise_get _ _ _ (.inr (by decide))) 17 12).trans
      ((State.getF_setF_same _ _ _ _ _ (by decide)).trans (Nat.mod_eq_of_lt small))
  · exact raises_of_raise (by decide) fun c => (show (t.setF 0x1001 17 12 code).core c = t.core c by
      cases c <;> rfl).trans (cores c)

theorem core_setSeq (s : State) (c step bank addr row : Nat) (data : List Word) (k : Core) :
    (s.setSeq c step bank addr row data).core k = s.core k := by cases k <;> rfl

/-- What a refused sequence leaves: the error, and no sequence. -/
def State.seqRefused (s : State) (c code : Nat) (t : State) : Prop :=
  s.touches cycleParts flcBlks t ∧ t.flcStep c = 0 ∧ t.flc.op = s.flc.op ∧ t.getF Port.FLC_ERR 17 12 = code ∧
    s.raises Irq.FLC_ERR t

theorem seqClear_refused (s : State) (c : Nat) {code : Nat} (small : code < 64) :
    s.seqRefused c code ((s.seqClear c).flcRefuse code) := by
  obtain ⟨touched, flc, error, raised⟩ := flcRefuse_spec (s := s) (t := s.seqClear c) small
    (core_setSeq s c 0 0 0 0 [])
  refine ⟨(setSeq_touches s _ _ _ _ _ _).trans touched, ?_, ?_, error, raised⟩
  · unfold State.flcStep
    rw [flc]
    exact flcStep_setSeq s c 0 0 0 0 []
  · rw [flc]
    rfl

/-! ## A complete command (R313 to R315) -/

/-- FLC_STAT of an accepted operation. -/
abbrev flcPending (op b a : Nat) : Word :=
  inFld 17 17 1 ||| inFld 15 15 1 ||| inFld 14 12 op ||| inFld 11 9 b ||| inFld 8 1 (a / 2048) ||| inFld 0 0 1

/-- What an accepted command of core `c` leaves: the operation that waits for the Sluice. -/
def State.seqAccepted (s : State) (c : Nat) (x : FlashOp) (t : State) : Prop :=
  s.touches cycleParts flcBlks t ∧ t.flc.op = some x ∧ t.flc.running = false ∧ t.flcStep c = 0 ∧
    t.get Port.FLC_STAT = flcPending x.op x.bank x.addr ∧ (s.granted Act.flash = false → t.waits Act.flash = true)

theorem sluiceAsk_get (s : State) (a : Nat) {p : Nat} (h : p ≠ Port.MNT_WAIT) : (s.sluiceAsk a).get p = s.get p := by
  unfold State.sluiceAsk
  split
  · rfl
  · exact State.get_setB_other _ _ _ (Ne.symm h)

theorem seqClear_accepted {s : State} (c : Nat) {op b a : Nat} {data : List Word}
    (good : (s.seqClear c).flcCheck op b a = 0) :
    s.seqAccepted c ⟨op, b, a, data⟩ ((s.seqClear c).flcCommand op b a data) := by
  obtain ⟨t, et⟩ : ∃ t : State, t = { s.seqClear c with
      flc := { (s.seqClear c).flc with op := some ⟨op, b, a, data⟩, running := false } } := ⟨_, rfl⟩
  have eq : (s.seqClear c).flcCommand op b a data =
      (t.set Port.FLC_STAT (flcPending op b a)).sluiceAsk Act.flash := by
    rw [et]
    unfold State.flcCommand
    dsimp only
    exact if_neg (by rw [good]; decide)
  have held : s.touches cycleParts flcBlks t := by
    rw [et]
    exact (setSeq_touches s _ _ _ _ _ _).trans ((flc_touches _ _).mono (by decide) (by decide))
  have asked := sluiceAsk_touches (t.set Port.FLC_STAT (flcPending op b a)) Act.flash
  have flc : ((t.set Port.FLC_STAT (flcPending op b a)).sluiceAsk Act.flash).flc = t.flc := asked.1 .flc (by decide)
  rw [eq]
  refine ⟨?_, ?_, ?_, ?_, ?_, fun free => sluiceAsk_waits (by decide) ?_⟩
  · exact (held.trans ((flcSet_touches t _ (by decide)).mono (by decide) (by decide))).trans
      (asked.mono (by decide) (by decide))
  · rw [flc, et]
  · rw [flc, et]
  · unfold State.flcStep
    rw [flc, et]
    exact flcStep_setSeq s c 0 0 0 0 []
  · exact (sluiceAsk_get _ _ (by decide)).trans (State.get_set_same _ _ _)
  · have same : (t.set Port.FLC_STAT (flcPending op b a)).get Port.MNT_GRANT = s.get Port.MNT_GRANT := by
      rw [State.get_set_other _ _ (by decide), et]
      rfl
    exact (getB_of_get same _).trans free

theorem seqClear_rejected {s : State} (c : Nat) {op b a code : Nat} {data : List Word} (small : code < 64) (bad : code ≠ 0)
    (check : (s.seqClear c).flcCheck op b a = code) : s.seqRefused c code ((s.seqClear c).flcCommand op b a data) := by
  have eq : (s.seqClear c).flcCommand op b a data = (s.seqClear c).flcRefuse code := by
    unfold State.flcCommand
    dsimp only
    rw [check, if_pos bad]
  rw [eq]
  exact seqClear_refused s c small

theorem flcCheck_seqClear (s : State) (c op b a : Nat) : (s.seqClear c).flcCheck op b a = s.flcCheck op b a := rfl

/-! ### The check of a command -/

section check
variable {s : State} {op b a : Nat}

theorem flcCheck_boot : s.flcCheck op 4 a = FlcErr.prot := rfl

theorem flcCheck_busy (user : b < 4) (stands : s.flc.op.isSome = true) : s.flcCheck op b a = FlcErr.busy := by
  unfold State.flcCheck
  dsimp only
  rw [if_neg (by omega), if_pos (.inr stands)]

variable (user : b < 4) (scanned : s.getB Port.FLC_STAT 0 = true) (idle : s.flc.op = none)
include user scanned idle

theorem flcCheck_erase (clean : s.suspect b = none) : s.flcCheck 3 b a = 0 := by
  unfold State.flcCheck
  dsimp only
  rw [if_neg (by omega), if_neg (by rw [idle, show s.getB 0x1000 0 = true from scanned]; decide), if_pos rfl, clean]

theorem flcCheck_eraseOther {k : Nat} (suspect : s.suspect b = some k) (other : k ≠ a / 2048) :
    s.flcCheck 3 b a = FlcErr.suspect := by
  unfold State.flcCheck
  dsimp only
  rw [if_neg (by omega), if_neg (by rw [idle, show s.getB 0x1000 0 = true from scanned]; decide), if_pos rfl, suspect]
  exact if_neg other

theorem flcCheck_programs (program : op ≠ 3) : s.flcCheck op b a =
    if s.suspect b = some (a / 2048) then FlcErr.suspect
    else if (if op = 2 then [a, a + 1, a + 2, a + 3] else [a]).all (fun w => s.flashErased b w) then 0
    else FlcErr.notErased := by
  unfold State.flcCheck
  dsimp only
  rw [if_neg (by omega), if_neg (by rw [idle, show s.getB 0x1000 0 = true from scanned]; decide), if_neg program]

theorem flcCheck_suspect (program : op ≠ 3) (suspect : s.suspect b = some (a / 2048)) :
    s.flcCheck op b a = FlcErr.suspect := by
  rw [flcCheck_programs user scanned idle program, if_pos suspect]

theorem flcCheck_program (program : op ≠ 3) (clean : s.suspect b = none) : s.flcCheck op b a =
    if (if op = 2 then [a, a + 1, a + 2, a + 3] else [a]).all (fun w => s.flashErased b w) then 0
    else FlcErr.notErased := by
  rw [flcCheck_programs user scanned idle program, if_neg (by rw [clean]; exact fun h => nomatch h)]

end check

/-! ## The cycles (R312) -/

section cycle
variable {s : State} {c b o : Nat} {v : Word}

theorem flashCycle_first (start : s.flcStep c = 0) (lo : o % 8192 = 0x0AAA) :
    s.flashCycle c b o 0o525252 = s.setSeq c 1 b 0 0 [] := by
  unfold State.flashCycle
  dsimp only
  rw [if_neg (by rintro ⟨h, -⟩; revert h; decide), if_pos start, if_pos ⟨rfl, lo⟩]

theorem flashCycle_wrong (start : s.flcStep c = 0) (going : v ≠ 0o000360) (other : v ≠ 0o525252 ∨ o % 8192 ≠ 0x0AAA) :
    s.flashCycle c b o v = (s.seqClear c).flcRefuse FlcErr.seq := by
  unfold State.flashCycle
  dsimp only
  rw [if_neg fun h => going h.1, if_pos start, if_neg fun h => other.elim (fun k => k h.1) fun k => k h.2]

theorem flashCycle_second (start : s.flcStep c = 1) (bank : Cells.rd (fun _ => 0) s.flc.seqBank c = b)
    (lo : o % 8192 = 0x1555) : s.flashCycle c b o 0o252525 = s.setSeq c 2 b 0 0 [] := by
  unfold State.flashCycle
  dsimp only
  rw [if_neg (by rintro ⟨h, -⟩; revert h; decide), if_neg (by rw [start]; decide), if_neg (by rw [bank]; exact fun h => h rfl),
    if_pos start, if_pos ⟨rfl, lo⟩]

section third
variable (start : s.flcStep c = 2) (bank : Cells.rd (fun _ => 0) s.flc.seqBank c = b)
include start bank

theorem flashCycle_abandon : s.flashCycle c b o 0o000360 = s.seqClear c := by
  unfold State.flashCycle
  dsimp only
  exact if_pos ⟨rfl, .inr bank.symm, fun h => absurd (start.symm.trans h.1) (by decide)⟩

/-- The third cycle of a core in its bank. -/
theorem flashCycle_third (going : v ≠ 0o000360) : s.flashCycle c b o v =
    if v = 0o000240 then s.setSeq c 3 b o 0 [] else
    if v = 0o000241 ∧ o % 4 = 0 then s.setSeq c 3 b o 1 [] else
    if v = 0o000060 then (s.seqClear c).flcCommand 3 b o [] else (s.seqClear c).flcRefuse FlcErr.seq := by
  unfold State.flashCycle
  dsimp only
  rw [if_neg fun h => going h.1, if_neg (by rw [start]; decide), if_neg (by rw [bank]; exact fun h => h rfl),
    if_neg (by rw [start]; decide), if_pos start]

theorem flashCycle_word : s.flashCycle c b o 0o000240 = s.setSeq c 3 b o 0 [] := by
  rw [flashCycle_third start bank (by decide), if_pos rfl]

theorem flashCycle_row (aligned : o % 4 = 0) : s.flashCycle c b o 0o000241 = s.setSeq c 3 b o 1 [] := by
  rw [flashCycle_third start bank (by decide), if_neg (by decide), if_pos ⟨rfl, aligned⟩]

theorem flashCycle_erase : s.flashCycle c b o 0o000060 = (s.seqClear c).flcCommand 3 b o [] := by
  rw [flashCycle_third start bank (by decide), if_neg (by decide), if_neg (fun h => absurd h.1 (by decide)), if_pos rfl]

end third

/-- The data of a word. -/
theorem flashCycle_data (d : Word) : (s.setSeq c 3 b o 0 []).flashCycle c b o d =
    ((s.setSeq c 3 b o 0 []).seqClear c).flcCommand 1 b o [d] := by
  unfold State.flashCycle
  simp

/-- A core is in a PROGRAM_ROW of bank `b` at word `o`, its words `l` written. -/
def State.inRow (t : State) (c b o : Nat) (l : List Word) : Prop :=
  t.flcStep c = 3 ∧ Cells.rd (fun _ => 0) t.flc.seqBank c = b ∧ Cells.rd (fun _ => 0) t.flc.seqAddr c = o ∧
    Cells.rd (fun _ => 0) t.flc.seqRow c = 1 ∧ Cells.rd (fun _ => []) t.flc.rowData c = l

theorem inRow_setSeq (s : State) (c b o : Nat) (l : List Word) : (s.setSeq c 3 b o 1 l).inRow c b o l :=
  ⟨flcStep_setSeq _ _ _ _ _ _ _, seqBank_setSeq _ _ _ _ _ _ _, seqAddr_setSeq _ _ _ _ _ _ _, seqRow_setSeq _ _ _ _ _ _ _,
    rowData_setSeq _ _ _ _ _ _ _⟩

/-- The next word of a row. -/
theorem flashCycle_rowData {l : List Word} (row : s.inRow c b o l) (d : Word) : s.flashCycle c b (o + l.length) d =
    if l.length = 3 then (s.seqClear c).flcCommand 2 b o (l ++ [d]) else s.setSeq c 3 b o 1 (l ++ [d]) := by
  obtain ⟨step, bank, addr, kind, data⟩ := row
  unfold State.flashCycle
  simp [step, bank, addr, kind, data]

end cycle

/-! ## A core's write (R304) -/

/-- The word of its target that a window shows at offset 0. -/
def State.windowBase (s : State) (c : Core) (w : Nat) : Nat :=
  (s.get (Port.MEM_AP_BASE (4 * c.num + w))).toNat % 65536 * 8192

/-- A window onto flash. -/
theorem aperture_flash {s : State} {c : Core} {w o b k : Nat} : s.aperture c w o = .flash b k ↔
    fld (s.get (Port.MEM_AP_CFG (4 * c.num + w))) 17 15 = 3 ∧ b = fld (s.get (Port.MEM_AP_CFG (4 * c.num + w))) 14 12 ∧
      b ≤ 4 ∧ k < bankSize b ∧ k = s.windowBase c w + o := by
  unfold State.aperture State.windowBase
  dsimp only
  generalize fld (s.get (Port.MEM_AP_CFG (4 * c.num + w))) 17 15 = kind
  generalize fld (s.get (Port.MEM_AP_CFG (4 * c.num + w))) 14 12 = bank
  generalize (s.get (Port.MEM_AP_BASE (4 * c.num + w))).toNat % 65536 * 8192 + o = word
  constructor
  · intro h
    split at h
    · exact nomatch h
    split at h
    · split at h <;> exact nomatch h
    split at h
    · next flash =>
      split at h
      · next inside =>
        obtain ⟨rfl, rfl⟩ := Place.flash.inj h
        exact ⟨flash, rfl, inside.1, inside.2, rfl⟩
      · exact nomatch h
    · exact nomatch h
  · rintro ⟨flash, rfl, low, inside, rfl⟩
    rw [if_neg (by omega), if_neg (by omega), if_pos flash, if_pos ⟨low, inside⟩]

/-- The data address that a window shows at an offset. -/
abbrev windowAddr (win : Fin 4) (off : BitVec 13) : Word := BitVec.ofNat 18 (0x30000 + win.val * 0x2000 + off.toNat)

section write
variable {s : State} {c : Core} {win : Fin 4} {off : BitVec 13}

theorem flashWrite_cycle {b o : Nat} (shown : s.place c (windowAddr win off) = .flash b o) (up : s.domOn 14 = true)
    (v : Word) : s.flashWrite c win off v = s.flashCycle c.num b o v := by
  unfold State.flashWrite State.dataWrite
  dsimp only
  rw [shown, up]
  rfl

theorem flashWrite_faults (marked : s.place c (windowAddr win off) = .none) (v : Word) :
    s.flashWrite c win off v = s.faultAt c 4 1 (windowAddr win off) := by
  unfold State.flashWrite State.dataWrite
  dsimp only
  rw [marked]

/-- The words of a window follow one another in the bank. -/
theorem place_next {b o i : Nat} (shown : s.place c (windowAddr win off) = .flash b o) (aligned : off.toNat % 4 = 0)
    (small : i < 4) : o % 4 = 0 ∧ s.place c (windowAddr win (off + BitVec.ofNat 13 i)) = .flash b (o + i) := by
  have inside := off.isLt
  have window := win.isLt
  have next : (off + BitVec.ofNat 13 i).toNat = off.toNat + i := by
    rw [BitVec.toNat_add, BitVec.toNat_ofNat]
    omega
  have value : ∀ j, j < 4 → (BitVec.ofNat 18 (0x30000 + win.val * 0x2000 + (off.toNat + j))).toNat =
      0x30000 + win.val * 0x2000 + (off.toNat + j) := fun j hj => by
    rw [BitVec.toNat_ofNat]
    omega
  have shows : ∀ j, j < 4 → s.place c (BitVec.ofNat 18 (0x30000 + win.val * 0x2000 + (off.toNat + j))) =
      s.aperture c win.val (off.toNat + j) := fun j hj => by
    unfold State.place
    dsimp only
    rw [value j hj, if_neg (by omega), if_pos (by omega)]
    congr 1 <;> omega
  have first : s.aperture c win.val off.toNat = .flash b o := (shows 0 (by decide)).symm.trans shown
  unfold windowAddr
  rw [next, shows i small]
  obtain ⟨kind, bank, low, within, word⟩ := aperture_flash.mp first
  have size : bankSize b % 4 = 0 := by unfold bankSize; split <;> rfl
  have base : s.windowBase c win.val % 4 = 0 := by unfold State.windowBase; omega
  exact ⟨by omega, aperture_flash.mpr ⟨kind, bank, low, by omega, by omega⟩⟩

end write

/-! ## Commands that a core completes -/

section later
variable {s : State} {c step bank addr row : Nat} {data : List Word}

theorem seqAccepted_later {x : FlashOp} {t : State} (h : (s.setSeq c step bank addr row data).seqAccepted c x t) :
    s.seqAccepted c x t := by
  obtain ⟨touched, rest⟩ := h
  exact ⟨(setSeq_touches s _ _ _ _ _ _).trans touched, rest⟩

theorem seqRefused_later {code : Nat} {t : State} (h : (s.setSeq c step bank addr row data).seqRefused c code t) :
    s.seqRefused c code t := by
  obtain ⟨touched, step, op, error, raised⟩ := h
  exact ⟨(setSeq_touches s _ _ _ _ _ _).trans touched, step, op, error,
    fun k up => raised k ((congrArg CoreState.inReset (core_setSeq s _ _ _ _ _ _ k)).trans up)⟩

end later

/-- A PROGRAM_ROW of core `c` goes on: `s` is where it began, `t` is after its words `l`. -/
structure State.rowGoing (s : State) (c : Core) (b o : Nat) (l : List Word) (t : State) : Prop where
  seq : t.inRow c.num b o l
  up : t.domOn 14 = true
  places : ∀ a, t.place c a = s.place c a
  later : ∀ x u, t.seqAccepted c.num x u → s.seqAccepted c.num x u
  check : t.flcCheck 2 b o = s.flcCheck 2 b o

section rows
variable {s t : State} {c : Core} {win : Fin 4} {off : BitVec 13} {b o : Nat} {l : List Word} (h : s.rowGoing c b o l t)
  (shown : s.place c (windowAddr win off) = .flash b o) (aligned : off.toNat % 4 = 0)
include h shown aligned

/-- The next word of the row goes to the next word of its bank. -/
theorem State.rowGoing.cycle (small : l.length < 4) (d : Word) :
    t.flashWrite c win (off + BitVec.ofNat 13 l.length) d = if l.length = 3 then
      (t.seqClear c.num).flcCommand 2 b o (l ++ [d]) else t.setSeq c.num 3 b o 1 (l ++ [d]) :=
  (flashWrite_cycle ((h.places _).trans (place_next shown aligned small).2) h.up d).trans (flashCycle_rowData h.seq d)

theorem State.rowGoing.next {i : Nat} (length : l.length = i) (small : i < 3) (d : Word) :
    ∃ u, t.flashWrite c win (off + BitVec.ofNat 13 i) d = u ∧ s.rowGoing c b o (l ++ [d]) u := by
  subst length
  exact ⟨_, (h.cycle shown aligned (by omega) d).trans (if_neg (by omega)), inRow_setSeq _ _ _ _ _, h.up, h.places,
    fun x u k => h.later x u (seqAccepted_later k), h.check⟩

theorem State.rowGoing.last (length : l.length = 3) (good : s.flcCheck 2 b o = 0) (d : Word) :
    s.seqAccepted c.num ⟨2, b, o, l ++ [d]⟩ (t.flashWrite c win (off + BitVec.ofNat 13 3) d) := by
  have done := (h.cycle shown aligned (by omega) d).trans (if_pos length)
  rw [length] at done
  rw [done]
  exact h.later _ _ (seqClear_accepted c.num (h.check.trans good))

end rows

section commands
variable {s : State} {c : Core} {win : Fin 4} {off : BitVec 13} {b o : Nat}
  (shown : s.place c (windowAddr win off) = .flash b o) (up : s.domOn 14 = true) (start : s.flcStep c.num = 2)
  (bank : Cells.rd (fun _ => 0) s.flc.seqBank c.num = b)
include shown up start bank

/-- PROGRAM_WORD: the cycle that names the word, then its data. -/
theorem programCycles (d : Word) : s.flashCycles c win [(off, 0o000240), (off, d)] =
    ((s.setSeq c.num 3 b o 0 []).seqClear c.num).flcCommand 1 b o [d] := by
  have named : s.flashWrite c win off 0o000240 = s.setSeq c.num 3 b o 0 [] :=
    (flashWrite_cycle shown up _).trans (flashCycle_word start bank)
  unfold State.flashCycles State.flashCycles State.flashCycles
  rw [named, flashWrite_cycle (s := s.setSeq c.num 3 b o 0 []) shown up, flashCycle_data]

theorem programWord_accepted {d : Word} (good : s.flcCheck 1 b o = 0) :
    s.seqAccepted c.num ⟨1, b, o, [d]⟩ (s.flashCycles c win [(off, 0o000240), (off, d)]) := by
  rw [programCycles shown up start bank]
  exact seqAccepted_later (seqClear_accepted c.num good)

theorem programWord_refused {d : Word} {code : Nat} (small : code < 64) (bad : code ≠ 0) (check : s.flcCheck 1 b o = code) :
    s.seqRefused c.num code (s.flashCycles c win [(off, 0o000240), (off, d)]) := by
  rw [programCycles shown up start bank]
  exact seqRefused_later (seqClear_rejected c.num small bad check)

/-- PROGRAM_ROW: the cycle that names the row, then its four words. -/
theorem programRow_accepted {d0 d1 d2 d3 : Word} (aligned : off.toNat % 4 = 0) (good : s.flcCheck 2 b o = 0) :
    s.seqAccepted c.num ⟨2, b, o, [d0, d1, d2, d3]⟩
      (s.flashCycles c win [(off, 0o000241), (off, d0), (off + 1, d1), (off + 2, d2), (off + 3, d3)]) := by
  obtain ⟨row, -⟩ := place_next shown aligned (show 0 < 4 by decide)
  have named : s.flashWrite c win off 0o000241 = s.setSeq c.num 3 b o 1 [] :=
    (flashWrite_cycle shown up _).trans (flashCycle_row start bank row)
  have begun : s.rowGoing c b o [] (s.setSeq c.num 3 b o 1 []) :=
    ⟨inRow_setSeq _ _ _ _ _, up, fun _ => rfl, fun _ _ h => seqAccepted_later h, rfl⟩
  obtain ⟨t0, e0, h0⟩ : ∃ t, s.flashWrite c win off 0o000241 = t ∧ s.rowGoing c b o [] t := ⟨_, named, begun⟩
  obtain ⟨t1, e1, h1⟩ := h0.next (i := 0) shown aligned rfl (by decide) d0
  obtain ⟨t2, e2, h2⟩ := h1.next (i := 1) shown aligned rfl (by decide) d1
  obtain ⟨t3, e3, h3⟩ := h2.next (i := 2) shown aligned rfl (by decide) d2
  rw [show off + BitVec.ofNat 13 0 = off from BitVec.add_zero off] at e1
  unfold State.flashCycles State.flashCycles State.flashCycles State.flashCycles State.flashCycles State.flashCycles
  rw [e0, e1, show off + 1 = off + BitVec.ofNat 13 1 from rfl, e2, show off + 2 = off + BitVec.ofNat 13 2 from rfl, e3]
  exact h3.last shown aligned rfl good d3

theorem eraseCycle : s.flashWrite c win off 0o000060 = (s.seqClear c.num).flcCommand 3 b o [] :=
  (flashWrite_cycle shown up _).trans (flashCycle_erase start bank)

theorem eraseSector_accepted (good : s.flcCheck 3 b o = 0) :
    s.seqAccepted c.num ⟨3, b, o, []⟩ (s.flashWrite c win off 0o000060) := by
  rw [eraseCycle shown up start bank]
  exact seqClear_accepted c.num good

theorem eraseSector_refused {code : Nat} (small : code < 64) (bad : code ≠ 0) (check : s.flcCheck 3 b o = code) :
    s.seqRefused c.num code (s.flashWrite c win off 0o000060) := by
  rw [eraseCycle shown up start bank]
  exact seqClear_rejected c.num small bad check

end commands

/-- A data fault of a core's write. -/
theorem faultAt_faults {s : State} {c : Core} (room : (s.core c).res.toNat < 14) {kind : Nat} (addr : Word)
    (small : kind < 8) : s.touches [.regs, .cores, .pends] [Blk.dbg] (s.faultAt c 4 kind addr) ∧
      State.trapped c 4 (s.core c).pc s (s.faultAt c 4 kind addr) ∧
      fld ((s.faultAt c 4 kind addr).core c).tcause 11 9 = kind ∧ ((s.faultAt c 4 kind addr).core c).taddr = addr := by
  rw [State.faultAt, trapTo_room room, core_trapNow]
  exact ⟨coreOnly_touches (trapNow_coreOnly s c _), trapNow_trapped s c _ (show 4 < 64 by decide), trapCause_kind _ _ _ small, rfl⟩

/-- Settles O29: each cycle by the core's step (`flashCycle_third`, `flashCycle_rowData`), the commands by their check
(`flcCheck_programs`, `flcCheck_erase`). -/
theorem flashCommandsAreWrittenInCycles : Obligations.FlashCommandsAreWrittenInCycles := by
  unfold Obligations.FlashCommandsAreWrittenInCycles
  refine fun s => ⟨fun c win off v b o shown up start value lo => ?_,
    fun c win off v b o shown up start bank value lo => ?_, fun c win off v b o shown up start going other => ?_,
    fun c win off v marked room => ?_, fun c win off d b o shown up start bank user scanned idle erased clean => ?_,
    fun c win off d b o shown up start bank user scanned idle defined written clean => ?_,
    fun c win off d b o shown up start bank user stands => ?_,
    fun c win off d b o shown up start bank user scanned idle suspect => ?_,
    fun c win off d0 d1 d2 d3 b o shown up start bank user scanned idle aligned erased clean => ?_,
    fun c win off b o shown up start bank user scanned idle clean => ?_,
    fun c win off b o k shown up start bank user scanned idle suspect other => ?_,
    fun c win off b o shown up start bank boot => ?_, fun c win off b o shown up start bank => ?_⟩
  · subst value
    refine completes_eq rfl ((flashWrite_cycle shown up _).trans (flashCycle_first start lo))
      ⟨setSeq_touches _ _ _ _ _ _ _, flcStep_setSeq _ _ _ _ _ _ _, seqBank_setSeq _ _ _ _ _ _ _, rfl, rfl⟩
  · subst value
    refine completes_eq rfl ((flashWrite_cycle shown up _).trans (flashCycle_second start bank lo))
      ⟨setSeq_touches _ _ _ _ _ _ _, flcStep_setSeq _ _ _ _ _ _ _, seqBank_setSeq _ _ _ _ _ _ _, rfl, rfl⟩
  · exact completes_eq rfl ((flashWrite_cycle shown up _).trans (flashCycle_wrong start going other))
      (seqClear_refused s c.num (by decide))
  · obtain ⟨touched, rest⟩ := faultAt_faults room (windowAddr win off) (show 1 < 8 by decide)
    exact completes_eq rfl (flashWrite_faults marked v) ⟨touched.mono (by decide) (by decide), rest⟩
  · refine ⟨_, rfl, programWord_accepted shown up start bank ?_⟩
    rw [flcCheck_program user scanned idle (by decide) clean]
    exact if_pos (by simp [erased])
  · refine ⟨_, rfl, programWord_refused shown up start bank (by decide) (by decide) ?_⟩
    rw [flcCheck_program user scanned idle (by decide) clean]
    exact if_neg (by simp [written])
  · exact ⟨_, rfl, programWord_refused shown up start bank (by decide) (by decide) (flcCheck_busy user stands)⟩
  · exact ⟨_, rfl, programWord_refused shown up start bank (by decide) (by decide)
      (flcCheck_suspect user scanned idle (by decide) suspect)⟩
  · refine ⟨_, rfl, programRow_accepted shown up start bank aligned ?_⟩
    rw [flcCheck_program user scanned idle (by decide) clean, if_pos rfl]
    exact if_pos erased
  · exact ⟨_, rfl, eraseSector_accepted shown up start bank (flcCheck_erase user scanned idle clean)⟩
  · exact ⟨_, rfl, eraseSector_refused shown up start bank (by decide) (by decide)
      (flcCheck_eraseOther user scanned idle suspect other)⟩
  · subst boot
    exact ⟨_, rfl, eraseSector_refused shown up start bank (by decide) (by decide) flcCheck_boot⟩
  · exact completes_eq rfl ((flashWrite_cycle shown up _).trans (flashCycle_abandon start bank))
      ⟨setSeq_touches _ _ _ _ _ _ _, flcStep_setSeq _ _ _ _ _ _ _, rfl, rfl⟩

end Sys2Proof.Machine

/-! The statement of 15_security_and_update.md on the key slots (O35). -/

namespace Sys2Proof.Machine

open Sys2Proof

/-! ## Values of two registers -/

/-- A value that fits is read back from its registers. -/
theorem getWide_setWide {s : State} {p v : Nat} (fits : v < 2 ^ 36) : (s.setWide p 2 v).getWide p 2 = v := by
  have low : (s.setWide p 2 v).get p = BitVec.ofNat 18 v := by
    rw [State.get_setWide, length_splitWords, if_pos (by omega), Nat.sub_self]
    rfl
  have high : (s.setWide p 2 v).get (p + 1) = BitVec.ofNat 18 (v / 2 ^ 18) := by
    rw [State.get_setWide, length_splitWords, if_pos (by omega), Nat.add_sub_cancel_left]
    rfl
  show ((s.setWide p 2 v).get p).toNat + 2 ^ 18 * (((s.setWide p 2 v).get (p + 1)).toNat + 2 ^ 18 * 0) = v
  rw [low, high, BitVec.toNat_ofNat, BitVec.toNat_ofNat]
  omega

theorem getWide_of_get {s t : State} {p : Nat} (low : t.get p = s.get p) (high : t.get (p + 1) = s.get (p + 1)) :
    t.getWide p 2 = s.getWide p 2 := by
  show (t.get p).toNat + 2 ^ 18 * ((t.get (p + 1)).toNat + 2 ^ 18 * 0) =
    (s.get p).toNat + 2 ^ 18 * ((s.get (p + 1)).toNat + 2 ^ 18 * 0)
  rw [low, high]

/-! ## Slots (R344, R348) -/

theorem secSlots_touches (s : State) (x : Sec) : State.touches [.sec] [] s { s with sec := x } :=
  ⟨fun part other => by cases part <;> simp_all [Part.same], fun _ _ => rfl⟩

/-- The parts and the blocks that a key command without an output touches. -/
abbrev keyParts : List Part := [.regs, .sec]
abbrev keyBlks : List (Nat × Nat) := [Blk.cph, Blk.own]

/-- The status word of a slot that is filled. -/
abbrev filledStat (x : KeySlot) (usage : Nat) : Word :=
  inFld 17 17 (nat1 x.valid) ||| inFld 16 16 (nat1 x.k256) ||| inFld 7 0 usage

section fill
variable (s : State) {k : Nat} (x : KeySlot) (usage : Nat) {limit : Nat}

theorem fillSlot_touches (hk : k < 64) : s.touches keyParts keyBlks (s.fillSlot k x usage limit) := by
  have stored : s.touches keyParts keyBlks (s.setKeySlot k x) := (secSlots_touches s _).mono (by decide) (by decide)
  have shown := (set_touches (b := Blk.cph) (s.setKeySlot k x) (p := Port.CPH_SLOT_STAT k) (filledStat x usage)
    (by unfold Port.CPH_SLOT_STAT; show 0x6000 ≤ _ ∧ _ ≤ 0x64FF; omega)).mono (ps' := keyParts) (bs' := keyBlks)
    (by decide) (by decide)
  have counted := (setWide_touches (b := Blk.cph) ((s.setKeySlot k x).set (Port.CPH_SLOT_STAT k) (filledStat x usage))
    (p := Port.CPH_SLOT_COUNT_0 k) (n := 2) 0 (by unfold Port.CPH_SLOT_COUNT_0; show 0x6000 ≤ _ ∧ _ ≤ 0x64FF + 1; omega)).mono
    (ps' := keyParts) (bs' := keyBlks) (by decide) (by decide)
  exact ((stored.trans shown).trans counted).trans ((setWide_touches (b := Blk.cph) _ limit
    (by unfold Port.CPH_SLOT_LIMIT_0; show 0x6000 ≤ _ ∧ _ ≤ 0x64FF + 1; omega)).mono (by decide) (by decide))

/-- Registers outside the slot's five words stand. -/
theorem fillSlot_get {p : Nat} (away : p < Port.CPH_SLOT_STAT k ∨ Port.CPH_SLOT_STAT k + 5 ≤ p) :
    (s.fillSlot k x usage limit).get p = s.get p := by
  unfold Port.CPH_SLOT_STAT at away
  unfold State.fillSlot
  dsimp only
  rw [get_setWide_other _ _ (by unfold Port.CPH_SLOT_LIMIT_0; omega),
    get_setWide_other _ _ (by unfold Port.CPH_SLOT_COUNT_0; omega),
    State.get_set_other _ _ (by unfold Port.CPH_SLOT_STAT; omega)]
  rfl

theorem fillSlot_stat : (s.fillSlot k x usage limit).get (Port.CPH_SLOT_STAT k) = filledStat x usage := by
  unfold State.fillSlot
  dsimp only
  rw [get_setWide_other _ _ (by unfold Port.CPH_SLOT_LIMIT_0 Port.CPH_SLOT_STAT; omega),
    get_setWide_other _ _ (by unfold Port.CPH_SLOT_COUNT_0 Port.CPH_SLOT_STAT; omega)]
  exact State.get_set_same _ _ _

theorem fillSlot_usage (small : usage < 256) : (s.fillSlot k x usage limit).getF (Port.CPH_SLOT_STAT k) 7 0 = usage := by
  unfold State.getF
  rw [fillSlot_stat, fld_or, fld_or, fld_inFld_apart _ _ _ _ _ (by decide) (by decide),
    fld_inFld_apart _ _ _ _ _ (by decide) (by decide), fld_inFld_same _ _ _ (by decide), Nat.zero_or, Nat.zero_or]
  exact Nat.mod_eq_of_lt small

theorem fillSlot_valid : (s.fillSlot k x usage limit).getB (Port.CPH_SLOT_STAT k) 17 = x.valid := by
  have flag : bitOf (inFld 17 17 (nat1 x.valid)) 17 = x.valid := by cases x.valid <;> decide
  unfold State.getB
  rw [fillSlot_stat, bitOf_or, bitOf_or, flag, bitOf_inFld_apart _ _ _ _ (by decide) (by decide),
    bitOf_inFld_apart _ _ _ _ (by decide) (by decide), Bool.or_false, Bool.or_false]

theorem fillSlot_limit (fits : limit < 2 ^ 36) : (s.fillSlot k x usage limit).slotLimit k = limit :=
  getWide_setWide fits

theorem fillSlot_count : (s.fillSlot k x usage limit).slotCount k = 0 := by
  have kept : ∀ t : State, (t.setWide (Port.CPH_SLOT_LIMIT_0 k) 2 limit).getWide (Port.CPH_SLOT_COUNT_0 k) 2 =
      t.getWide (Port.CPH_SLOT_COUNT_0 k) 2 := fun t => getWide_of_get
    (get_setWide_other _ _ (by unfold Port.CPH_SLOT_LIMIT_0 Port.CPH_SLOT_COUNT_0; omega))
    (get_setWide_other _ _ (by unfold Port.CPH_SLOT_LIMIT_0 Port.CPH_SLOT_COUNT_0; omega))
  exact (kept _).trans (getWide_setWide (by decide))

theorem fillSlot_key : (s.fillSlot k x usage limit).keySlot k = x := State.keySlot_setKeySlot s k x

theorem fillSlot_otherKey {j : Nat} (other : j ≠ k) : (s.fillSlot k x usage limit).keySlot j = s.keySlot j :=
  State.keySlot_setKeySlot_other s x (Ne.symm other)

theorem fillSlot_otherStat {j : Nat} (other : j ≠ k) :
    (s.fillSlot k x usage limit).get (Port.CPH_SLOT_STAT j) = s.get (Port.CPH_SLOT_STAT j) :=
  fillSlot_get s x usage (by unfold Port.CPH_SLOT_STAT; omega)

theorem fillSlot_otherCount {j : Nat} (other : j ≠ k) : (s.fillSlot k x usage limit).slotCount j = s.slotCount j :=
  getWide_of_get (fillSlot_get s x usage (by unfold Port.CPH_SLOT_STAT Port.CPH_SLOT_COUNT_0; omega))
    (fillSlot_get s x usage (by unfold Port.CPH_SLOT_STAT Port.CPH_SLOT_COUNT_0; omega))

end fill

/-! ## The result of a key command (R346) -/

section result
variable (s : State) (m : Master) {r : Nat}

theorem keyRes_touches : State.touches [.regs] [Blk.own] s (s.keyRes m r) := by
  refine set_touches (b := Blk.own) s _ ?_
  show 0x10000 ≤ bank m 0x6024 ∧ bank m 0x6024 ≤ 0x4FFFF
  unfold bank
  have : m.num < 4 := by cases m <;> decide
  omega

theorem keyRes_get {p : Nat} (low : p < 0x10000) : (s.keyRes m r).get p = s.get p :=
  State.get_setF_other _ _ _ _ (by unfold bank; omega)

theorem keyRes_mem : (s.keyRes m r).mem = s.mem := State.setF_mem s _ _ _ _

theorem keyRes_sec : (s.keyRes m r).sec = s.sec := State.setF_sec s _ _ _ _

theorem keyRes_sramRd (k : Nat) : (s.keyRes m r).sramRd k = s.sramRd k := by
  unfold State.sramRd
  rw [keyRes_mem]

theorem keyRes_keySlot (j : Nat) : (s.keyRes m r).keySlot j = s.keySlot j := State.setF_keySlot s _ _ _ _ j

theorem keyRes_code (small : r < 8) : (s.keyRes m r).getF (bank m 0x6024) 14 12 = r :=
  (State.getF_setF_same _ _ _ _ _ (by decide)).trans (Nat.mod_eq_of_lt small)

end result

/-! ## Lengths of blocks (R340) -/

@[simp] theorem length_xorOctets (a b : List Octet) : (xorOctets a b).length = a.length := by
  induction a generalizing b with
  | nil => cases b <;> rfl
  | cons x r ih =>
    cases b with
    | nil => rfl
    | cons y t => simp [xorOctets, ih]

@[simp] theorem length_shiftRows (b : List Octet) : (shiftRows b).length = 16 := by
  simp [shiftRows, permute]

/-- A block is encrypted to a block. -/
theorem length_aesEnc (key : List Octet) {b : List Octet} (block : b.length = 16) : (aesEnc key b).length = 16 := by
  unfold aesEnc aesRounds
  split
  · exact block
  · rw [length_xorOctets, length_shiftRows]

/-- Whole chunks: as many as fit, each of its length. -/
theorem chunks_whole {α : Type} {k n : Nat} (some_ : 0 < k) {l : List α} (length : l.length = k * n) :
    (chunks k n l).length = n ∧ ∀ c ∈ chunks k n l, c.length = k := by
  induction n generalizing l with
  | zero => exact ⟨rfl, fun c h => nomatch h⟩
  | succ n ih =>
    have room : k * (n + 1) = k * n + k := Nat.mul_succ k n
    have full : l.isEmpty = false := by
      rw [← Bool.not_eq_true, List.isEmpty_iff_length_eq_zero]
      omega
    obtain ⟨count, each⟩ := ih (l := l.drop k) (by rw [List.length_drop]; omega)
    have eq : chunks k (n + 1) l = l.take k :: chunks k n (l.drop k) := by simp [chunks, full]
    rw [eq]
    refine ⟨by rw [List.length_cons, count], fun c h => ?_⟩
    obtain rfl | h := List.mem_cons.mp h
    · rw [List.length_take]
      omega
    · exact each c h

theorem length_flatten_chunks {α : Type} {k : Nat} {l : List (List α)} (each : ∀ c ∈ l, c.length = k) :
    l.flatten.length = l.length * k := by
  rw [List.length_flatten, List.map_eq_replicate_iff.mpr each, List.sum_replicate, smul_eq_mul]

/-- The registers of KW: an integrity value of eight octets and `n` semi-blocks. -/
def kwShape (n : Nat) (st : List Octet × List (List Octet)) : Prop :=
  st.1.length = 8 ∧ st.2.length = n ∧ ∀ c ∈ st.2, c.length = 8

theorem kwStep_shape {n : Nat} (key : List Octet) {st : List Octet × List (List Octet)} (shape : kwShape n st)
    {ti : Nat × Nat} (inside : ti.2 < n) : kwShape n (kwStep key st ti) := by
  obtain ⟨value, count, each⟩ := shape
  have semi : (st.2.getD ti.2 []).length = 8 := by
    rw [List.getD_eq_getElem _ _ (by omega)]
    exact each _ (List.getElem_mem _)
  have block := length_aesEnc key (b := st.1 ++ st.2.getD ti.2 []) (by rw [List.length_append, value, semi])
  refine ⟨?_, ?_, fun c h => ?_⟩
  · unfold kwStep
    rw [length_xorOctets, List.length_take, block]
    rfl
  · unfold kwStep
    rw [List.length_set, count]
  · obtain h | rfl := List.mem_or_eq_of_mem_set h
    · exact each c h
    · rw [List.length_drop, block]

theorem length_kwWrap (key : List Octet) {p : List Octet} {n : Nat} (whole : p.length = 8 * n) :
    (kwWrap key p).length = p.length + 8 := by
  obtain ⟨count, each⟩ := chunks_whole (k := 8) (n := n) (by decide) whole
  have size : p.length / 8 = n := by omega
  have shape : kwShape n ((kwPlan n).foldl (kwStep key) (kwIv, chunks 8 n p)) := by
    refine List.foldlRecOn (motive := kwShape n) (kwPlan n) (kwStep key) ⟨rfl, count, each⟩ fun st shape ti h => ?_
    obtain ⟨i, mem, rfl⟩ := List.mem_map.mp h
    exact kwStep_shape key shape (Nat.mod_lt _ (by have := List.mem_range.mp mem; omega))
  obtain ⟨value, regs, semi⟩ := shape
  unfold kwWrap
  dsimp only
  rw [size, count, List.length_append, value, length_flatten_chunks semi, regs]
  omega

/-! ## Octets of the mailbox (R341) -/

/-- The octet of nonet `j` of the mailbox from word `o` on. -/
def State.mbxOctet (s : State) (o j : Nat) : Octet :=
  (if j % 2 = 0 then (nonets (s.mbxRd (o + j / 2))).1 else (nonets (s.mbxRd (o + j / 2))).2).extractLsb' 0 8

theorem flatMap_pairs {α : Type} (a b : Nat → α) (n : Nat) : (List.range n).flatMap (fun i => [a i, b i]) =
    (List.range (2 * n)).map fun j => if j % 2 = 0 then a (j / 2) else b (j / 2) := by
  induction n with
  | zero => rfl
  | succ n ih =>
    rw [List.range_succ, List.flatMap_append, ih, show 2 * (n + 1) = 2 * n + 1 + 1 by omega, List.range_succ,
      List.range_succ, List.map_append, List.map_append, List.append_assoc]
    simp [show (2 * n + 1) / 2 = n by omega]

/-- A damage mark lies outside the octets. -/
theorem octet_lost (w : Word) : (nonets (w ||| lostWord)).1.extractLsb' 0 8 = (nonets w).1.extractLsb' 0 8 ∧
    (nonets (w ||| lostWord)).2.extractLsb' 0 8 = (nonets w).2.extractLsb' 0 8 := by
  have clear : ∀ i < 8, (0o400400#18).getLsbD (9 + i) = false ∧ (0o400400#18).getLsbD i = false := by decide
  unfold nonets
  constructor <;> ext i hi <;> simp [clear i hi]

theorem octetsOf_mbxNonets (s : State) (o k : Nat) :
    octetsOf (s.mbxNonets o k) = (List.range k).map (s.mbxOctet o) := by
  unfold State.mbxNonets nonetsTo octetsOf
  rw [List.flatMap_map, flatMap_pairs, List.map_take, List.map_map, ← List.map_take, List.take_range,
    Nat.min_eq_left (by omega)]
  refine List.map_congr_left fun j _ => ?_
  show (if j % 2 = 0 then (nonets (s.mbxEngine (o + j / 2))).1 else (nonets (s.mbxEngine (o + j / 2))).2).extractLsb' 0 8 =
    s.mbxOctet o j
  obtain ⟨upper, lower⟩ := octet_lost (s.mbxRd (o + j / 2))
  unfold State.mbxEngine State.mbxOctet
  split
  · split
    · exact upper
    · rfl
  · split
    · exact lower
    · rfl

/-- A run of nonets in the mailbox that the Rig's image does not shield. -/
theorem mbxProtected_free {s : State} (idle : s.liveState ≠ 1) (o : Nat) : s.mbxProtected o = false := by
  unfold State.mbxProtected
  dsimp only
  rw [decide_eq_false idle]
  rfl

/-- One word of the mailbox is stored. -/
theorem mbxWrs_word {s : State} {o : Nat} (inside : o < s.mbxWords) (idle : s.liveState ≠ 1) (v : Word) :
    s.mbxWrs o [v] = s.sramWr (s.mbxAddr o) v := by
  unfold State.mbxWrs State.mbxWrs
  rw [if_pos]
  rw [mbxProtected_free idle, decide_eq_true inside]
  rfl

/-- What mailbox writes from word `o` to `o + n` leave: all but those words of SRAM. -/
structure State.mbxFrame (s : State) (o n : Nat) (t : State) : Prop where
  mem : ∃ x, t = { s with mem := x } ∧ x.flash = s.mem.flash ∧ x.dram = s.mem.dram
  others : ∀ k, k < s.mbxAddr o ∨ s.mbxAddr o + n ≤ k → t.sramRd k = s.sramRd k

theorem State.mbxFrame.refl (s : State) (o n : Nat) : s.mbxFrame o n s := ⟨⟨s.mem, rfl, rfl, rfl⟩, fun _ _ => rfl⟩

section frame
variable {s t : State} {o n : Nat} (h : s.mbxFrame o n t)
include h

theorem State.mbxFrame.addr (w : Nat) : t.mbxAddr w = s.mbxAddr w := by
  obtain ⟨⟨x, rfl, -, -⟩, -⟩ := h
  rfl

theorem State.mbxFrame.words : t.mbxWords = s.mbxWords := by
  obtain ⟨⟨x, rfl, -, -⟩, -⟩ := h
  rfl

theorem State.mbxFrame.live : t.liveState = s.liveState := by
  obtain ⟨⟨x, rfl, -, -⟩, -⟩ := h
  rfl

theorem State.mbxFrame.store {w : Nat} (inside : o ≤ w ∧ w < o + n) (v : Word) :
    s.mbxFrame o n (t.sramWr (s.mbxAddr w) v) := by
  obtain ⟨⟨x, rfl, flash, dram⟩, others⟩ := h
  refine ⟨⟨_, rfl, flash, dram⟩, fun k apart => ?_⟩
  rw [State.sramRd_sramWr, if_neg (by unfold State.mbxAddr State.roleWord at apart ⊢; omega)]
  exact others k apart

end frame

theorem mbxAddr_inj {s : State} {a b : Nat} (h : s.mbxAddr a = s.mbxAddr b) : a = b := by
  unfold State.mbxAddr State.roleWord at h
  omega

theorem mbxRd_sramWr {s : State} {w u : Nat} (inside : u < s.mbxWords) (v : Word) :
    (s.sramWr (s.mbxAddr w) v).mbxRd u = if w = u then v else s.mbxRd u := by
  have same : (s.sramWr (s.mbxAddr w) v).mbxRd u = (s.sramWr (s.mbxAddr w) v).sramRd (s.mbxAddr u) := if_pos inside
  have before : s.mbxRd u = s.sramRd (s.mbxAddr u) := if_pos inside
  rw [same, before, State.sramRd_sramWr]
  by_cases hit : w = u
  · rw [if_pos hit, if_pos (congrArg s.mbxAddr hit)]
  · rw [if_neg hit, if_neg fun e => hit (mbxAddr_inj e)]

@[simp] theorem nonets_ofNonets (a b : Nonet) : nonets (ofNonets a b) = (a, b) := by
  unfold nonets ofNonets
  rw [BitVec.extractLsb'_append_eq_left, BitVec.extractLsb'_append_eq_right]

section put
variable {s : State} {o j : Nat} (inside : o + j / 2 < s.mbxWords) (idle : s.liveState ≠ 1)
include inside idle

theorem mbxPut_word (v : Nonet) : ∃ w, s.mbxPut o j v = s.sramWr (s.mbxAddr (o + j / 2)) w ∧
    w = if j % 2 = 0 then ofNonets v (nonets (s.mbxRd (o + j / 2))).2 else ofNonets (nonets (s.mbxRd (o + j / 2))).1 v :=
  ⟨_, mbxWrs_word inside idle _, rfl⟩

/-- A nonet that is put stands; the other octets of its word and of other words stand. -/
theorem mbxOctet_mbxPut (v : Nonet) {i : Nat} (within : o + i / 2 < s.mbxWords) :
    (s.mbxPut o j v).mbxOctet o i = if i = j then v.extractLsb' 0 8 else s.mbxOctet o i := by
  obtain ⟨w, eq, word⟩ := mbxPut_word inside idle v
  unfold State.mbxOctet
  rw [eq, mbxRd_sramWr within]
  by_cases hit : i = j
  · subst hit
    rw [if_pos rfl, if_pos rfl, word]
    split <;> rw [nonets_ofNonets]
  · rw [if_neg hit]
    by_cases half : o + j / 2 = o + i / 2
    · rw [if_pos half, word, ← half]
      by_cases even : j % 2 = 0
      · rw [if_pos even, if_neg (by omega), if_neg (by omega), nonets_ofNonets]
      · rw [if_neg even, if_pos (by omega), if_pos (by omega), nonets_ofNonets]
    · rw [if_neg half]

end put

/-- Nonets put one after another from nonet `a` on. -/
def State.putsFrom (t : State) (o a : Nat) (l : List Nonet) : State :=
  ((List.range' a l.length).zip l).foldl (fun t x => t.mbxPut o x.1 x.2) t

theorem putsFrom_cons (t : State) (o a : Nat) (v : Nonet) (r : List Nonet) :
    t.putsFrom o a (v :: r) = (t.mbxPut o a v).putsFrom o (a + 1) r := rfl

theorem mbxPuts_eq (t : State) (o : Nat) (l : List Nonet) : t.mbxPuts o l = t.putsFrom o 0 l := by
  unfold State.mbxPuts State.putsFrom indexed
  rw [List.range_eq_range']

/-- Nonets put stand as they were put; words before them and other octets stand. -/
theorem putsFrom_spec {s : State} {c n o : Nat} (idle : s.liveState ≠ 1) (l : List Nonet) :
    ∀ (a : Nat) (t : State), s.mbxFrame c n t → c ≤ o → o + (a + l.length + 1) / 2 ≤ c + n → c + n ≤ s.mbxWords →
      s.mbxFrame c n (t.putsFrom o a l) ∧ (∀ w, w < o → (t.putsFrom o a l).mbxRd w = t.mbxRd w) ∧
        ∀ i, i < a + l.length → (t.putsFrom o a l).mbxOctet o i =
          if a ≤ i then (l.getD (i - a) 0).extractLsb' 0 8 else t.mbxOctet o i := by
  induction l with
  | nil =>
    intro a t frame _ _ _
    exact ⟨frame, fun _ _ => rfl, fun i low => (if_neg (by simpa using low)).symm⟩
  | cons v r ih =>
    intro a t frame after room held
    rw [List.length_cons] at room
    have words := frame.words
    have inside : o + a / 2 < t.mbxWords := by omega
    have still : t.liveState ≠ 1 := by rw [frame.live]; exact idle
    obtain ⟨w, eq, -⟩ := mbxPut_word inside still v
    have put : s.mbxFrame c n (t.mbxPut o a v) := by
      rw [eq, frame.addr]
      exact frame.store (by omega) w
    obtain ⟨last, before, octets⟩ := ih (a + 1) _ put after (by omega) held
    rw [putsFrom_cons]
    refine ⟨last, fun u low => (before u low).trans ?_, fun i low => ?_⟩
    · rw [eq]
      exact (mbxRd_sramWr (by omega) w).trans (if_neg (by omega))
    · rw [List.length_cons] at low
      rw [octets i (by omega), mbxOctet_mbxPut inside still v (by omega)]
      by_cases first : i = a
      · subst first
        rw [if_neg (by omega), if_pos rfl, if_pos (Nat.le_refl i), Nat.sub_self, List.getD_cons_zero]
      · by_cases later : a + 1 ≤ i
        · rw [if_pos later, if_pos (by omega), show i - a = i - (a + 1) + 1 by omega, List.getD_cons_succ]
        · rw [if_neg later, if_neg first, if_neg (by omega)]

theorem octet_clean (v : Octet) : (v.setWidth 9 : Nonet).extractLsb' 0 8 = v := by
  ext i hi
  rw [BitVec.getElem_extractLsb', Nat.zero_add, BitVec.getLsbD_setWidth, decide_eq_true (by omega), Bool.true_and,
    BitVec.getLsbD_eq_getElem hi]

/-- Octets put as undamaged nonets read back. -/
theorem octetsOf_puts {s t : State} {c n o : Nat} (idle : s.liveState ≠ 1) (frame : s.mbxFrame c n t) (l : List Octet)
    (after : c ≤ o) (room : o + (l.length + 1) / 2 ≤ c + n) (held : c + n ≤ s.mbxWords) :
    s.mbxFrame c n (t.mbxPuts o (cleanNonets l)) ∧ (∀ w, w < o → (t.mbxPuts o (cleanNonets l)).mbxRd w = t.mbxRd w) ∧
      octetsOf ((t.mbxPuts o (cleanNonets l)).mbxNonets o l.length) = l := by
  have length : (cleanNonets l).length = l.length := List.length_map ..
  obtain ⟨last, before, octets⟩ := putsFrom_spec idle (cleanNonets l) 0 t frame after (by rw [length, Nat.zero_add]; exact room)
    held
  rw [mbxPuts_eq]
  refine ⟨last, before, ?_⟩
  rw [octetsOf_mbxNonets]
  refine List.ext_getElem (by simp) fun i hi hl => ?_
  rw [List.getElem_map, List.getElem_range, octets i (by omega), if_pos (Nat.zero_le i), Nat.sub_zero,
    List.getD_eq_getElem _ _ (by omega)]
  unfold cleanNonets
  rw [List.getElem_map]
  exact octet_clean _

/-! ## LOAD (R345, R346) -/

section load
variable {s : State} {m : Master} {k o n : Nat} {key : List Octet}

theorem keyLoad_denied {r : Nat} (h : s.kek m = .inr r) : s.keyLoad m = s.keyRes m r := by
  unfold State.keyLoad
  dsimp only
  rw [h]

variable (slot : s.getF (bank m 0x6021) 17 12 = k) (place : s.getF (bank m 0x6022) 13 0 = o) (h : s.kek m = .inl key)

include slot h in
theorem keyLoad_used (used : s.slotInUse k = true) : s.keyLoad m = s.keyRes m 4 := by
  unfold State.keyLoad
  dsimp only
  rw [h, slot]
  exact if_pos used

include slot place h

theorem keyLoad_header (free : s.slotInUse k = false) (inside : o < s.mbxWords)
    (bad : fld (s.mbxEngine o) 17 15 ≠ 1 ∨ fld (s.mbxEngine o) 14 6 ≠ 0 ∨
      (fld (s.mbxEngine o) 5 0 ≠ 32 ∧ fld (s.mbxEngine o) 5 0 ≠ 48)) : s.keyLoad m = s.keyRes m 2 := by
  unfold State.keyLoad
  dsimp only
  rw [h, slot, place]
  dsimp only
  rw [if_neg (by rw [free]; decide), if_neg (by omega), if_pos bad]

variable (free : s.slotInUse k = false) (inside : o < s.mbxWords) (version : fld (s.mbxEngine o) 17 15 = 1)
  (clean : fld (s.mbxEngine o) 14 6 = 0) (length : fld (s.mbxEngine o) 5 0 = n) (size : n = 32 ∨ n = 48)
  (room : s.mbxHas (o + 1) n = true) (whole : damaged (s.mbxNonets (o + 1) n) = false)
include free inside version clean length size room whole

theorem keyLoad_unwraps : (kwUnwrap key (octetsOf (s.mbxNonets (o + 1) n)) = none ∧ s.keyLoad m = s.keyRes m 1) ∨
    ∃ p, kwUnwrap key (octetsOf (s.mbxNonets (o + 1) n)) = some p ∧ s.keyLoad m = s.loadKey m k n p := by
  obtain ⟨t, et⟩ : ∃ t, t = s.keyLoad m := ⟨_, rfl⟩
  rw [← et]
  unfold State.keyLoad at et
  dsimp only at et
  rw [h, slot, place] at et
  dsimp only at et
  rw [if_neg (by rw [free]; decide), if_neg (by omega), if_neg (by rw [version, clean, length]; omega), length,
    if_neg (by rw [room]; decide), if_neg (by rw [whole]; decide)] at et
  cases opened : kwUnwrap key (octetsOf (s.mbxNonets (o + 1) n)) with
  | none =>
    rw [opened] at et
    exact .inl ⟨rfl, et⟩
  | some p =>
    rw [opened] at et
    exact .inr ⟨p, rfl, et⟩

end load

theorem loadKey_bad {s : State} {m : Master} {k n : Nat} {p : List Octet}
    (bad : ¬((p.getD 0 0).toNat = 1 ∧ (p.getD 1 0).toNat + 16 = n ∧ p.length + 8 = n ∧ (p.getD 2 0).toNat < 128 ∧
      (p.getD 7 0).toNat < 16)) : s.loadKey m k n p = s.keyRes m 2 := by
  unfold State.loadKey
  dsimp only
  exact if_pos (by
    have zero : (0#8 : Octet) = 0 := rfl
    rw [zero]
    omega)

theorem loadKey_good {s : State} {m : Master} {k n : Nat} {p : List Octet} (kind : (p.getD 0 0).toNat = 1)
    (size : (p.getD 1 0).toNat + 16 = n) (length : p.length + 8 = n) (usage : (p.getD 2 0).toNat < 128)
    (limit : (p.getD 7 0).toNat < 16) : s.loadKey m k n p =
      (s.fillSlot k (keyOf (p.drop 8)) (p.getD 2 0).toNat (natLE ((p.drop 3).take 5))).keyRes m 0 := by
  unfold State.loadKey
  dsimp only
  exact if_neg (by
    have zero : (0#8 : Octet) = 0 := rfl
    rw [zero]
    omega)

theorem fillSlot_keyRes_touches (s : State) (m : Master) {k r : Nat} (hk : k < 64) (x : KeySlot) (usage limit : Nat) :
    s.touches keyParts keyBlks ((s.fillSlot k x usage limit).keyRes m r) :=
  (fillSlot_touches s x usage hk).trans ((keyRes_touches _ m).mono (by decide) (by decide))

theorem loadKey_touches (s : State) (m : Master) {k : Nat} (hk : k < 64) (n : Nat) (p : List Octet) :
    s.touches keyParts keyBlks (s.loadKey m k n p) := by
  unfold State.loadKey
  dsimp only
  split
  · exact (keyRes_touches s m).mono (by decide) (by decide)
  · exact fillSlot_keyRes_touches s m hk _ _ _

/-- LIMIT of a blob fits its registers. -/
theorem limit_fits {p : List Octet} (length : 8 ≤ p.length) (small : (p.getD 7 0).toNat < 16) :
    natLE ((p.drop 3).take 5) < 2 ^ 36 := by
  match p, length, small with
  | a :: b :: c :: d :: e :: f :: g :: h :: r, _, small =>
    have d := d.isLt
    have e := e.isLt
    have f := f.isLt
    have g := g.isLt
    simp only [List.getD_cons_succ, List.getD_cons_zero] at small
    simp only [List.drop_succ_cons, List.drop_zero, List.take_succ_cons, List.take_zero, natLE]
    omega

/-- What a filled slot holds, the result set. -/
theorem fillSlot_keyRes_spec (s : State) (m : Master) {k usage limit : Nat} (hk : k < 64) (x : KeySlot) (small : usage < 256)
    (fits : limit < 2 ^ 36) :
    ((s.fillSlot k x usage limit).keyRes m 0).getF (bank m 0x6024) 14 12 = 0 ∧
      ((s.fillSlot k x usage limit).keyRes m 0).keySlot k = x ∧
      ((s.fillSlot k x usage limit).keyRes m 0).get (Port.CPH_SLOT_STAT k) = filledStat x usage ∧
      ((s.fillSlot k x usage limit).keyRes m 0).getF (Port.CPH_SLOT_STAT k) 7 0 = usage ∧
      ((s.fillSlot k x usage limit).keyRes m 0).getB (Port.CPH_SLOT_STAT k) 17 = x.valid ∧
      ((s.fillSlot k x usage limit).keyRes m 0).slotLimit k = limit ∧
      ((s.fillSlot k x usage limit).keyRes m 0).slotCount k = 0 ∧
      ∀ j, j ≠ k → ((s.fillSlot k x usage limit).keyRes m 0).keySlot j = s.keySlot j ∧
        (j < 64 → ((s.fillSlot k x usage limit).keyRes m 0).get (Port.CPH_SLOT_STAT j) = s.get (Port.CPH_SLOT_STAT j) ∧
          ((s.fillSlot k x usage limit).keyRes m 0).slotCount j = s.slotCount j) := by
  have same : ∀ p, p < 0x10000 → ((s.fillSlot k x usage limit).keyRes m 0).get p = (s.fillSlot k x usage limit).get p :=
    fun p low => keyRes_get _ m low
  have stat := same (Port.CPH_SLOT_STAT k) (by unfold Port.CPH_SLOT_STAT; omega)
  have count : ∀ j, j < 64 → ((s.fillSlot k x usage limit).keyRes m 0).slotCount j =
      (s.fillSlot k x usage limit).slotCount j := fun j hj =>
    getWide_of_get (same _ (by unfold Port.CPH_SLOT_COUNT_0; omega)) (same _ (by unfold Port.CPH_SLOT_COUNT_0; omega))
  have bound : ((s.fillSlot k x usage limit).keyRes m 0).slotLimit k = (s.fillSlot k x usage limit).slotLimit k :=
    getWide_of_get (same _ (by unfold Port.CPH_SLOT_LIMIT_0; omega)) (same _ (by unfold Port.CPH_SLOT_LIMIT_0; omega))
  refine ⟨keyRes_code _ m (by decide), (keyRes_keySlot _ m k).trans (fillSlot_key s x usage), stat.trans (fillSlot_stat s x usage),
    (getF_of_get stat 7 0).trans (fillSlot_usage s x usage small), (getB_of_get stat 17).trans (fillSlot_valid s x usage),
    bound.trans (fillSlot_limit s x usage fits), (count k hk).trans (fillSlot_count s x usage), fun j other =>
    ⟨(keyRes_keySlot _ m j).trans (fillSlot_otherKey s x usage other), fun hj =>
      ⟨(same _ (by unfold Port.CPH_SLOT_STAT; omega)).trans (fillSlot_otherStat s x usage other),
      (count j hj).trans (fillSlot_otherCount s x usage other)⟩⟩⟩

theorem keyCmd_load (s : State) (m : Master) : s.keyCmd m 1 = s.keyLoad m := by simp [State.keyCmd]
theorem keyCmd_clear (s : State) (m : Master) : s.keyCmd m 2 = s.keyClear m := by simp [State.keyCmd]
theorem keyCmd_derive (s : State) (m : Master) : s.keyCmd m 3 = s.keyDerive m := by simp [State.keyCmd]
theorem keyCmd_export (s : State) (m : Master) : s.keyCmd m 4 = s.keyExport m := by simp [State.keyCmd]

/-! ## CLEAR (R346) -/

theorem keyClear_used {s : State} {m : Master} {k : Nat} (slot : s.getF (bank m 0x6021) 17 12 = k)
    (used : s.slotInUse k = true) : s.keyClear m = s.keyRes m 4 := by
  subst slot
  exact if_pos used

theorem keyClear_free {s : State} {m : Master} {k : Nat} (slot : s.getF (bank m 0x6021) 17 12 = k)
    (free : s.slotInUse k = false) : s.keyClear m = (s.fillSlot k KeySlot.empty 0 0).keyRes m 0 := by
  subst slot
  exact if_neg (by rw [free]; decide)

/-! ## The mailbox under writes of registers -/

/-- What the mailbox shows depends on SRAM and on its partition. -/
theorem mbx_of_get {s t : State} (mem : t.mem = s.mem) (part0 : t.get (Port.MEM_PART 0) = s.get (Port.MEM_PART 0))
    (part1 : t.get (Port.MEM_PART 1) = s.get (Port.MEM_PART 1)) :
    (∀ o, t.mbxRd o = s.mbxRd o) ∧ ∀ o k, t.mbxNonets o k = s.mbxNonets o k := by
  have banks : ∀ r, t.roleBanks r = s.roleBanks r := fun r => by
    unfold State.roleBanks
    cases r <;> first | exact getF_of_get part0 _ _ | exact getF_of_get part1 _ _
  have words : t.mbxWords = s.mbxWords := by
    unfold State.mbxWords
    rw [banks]
  have addr : ∀ o, t.mbxAddr o = s.mbxAddr o := fun o => by
    unfold State.mbxAddr State.roleWord State.roleBase
    rw [banks, banks, banks, banks, banks]
  have rd : ∀ o, t.mbxRd o = s.mbxRd o := fun o => by
    unfold State.mbxRd State.sramRd
    rw [words, addr, mem]
  have engine : ∀ o, t.mbxEngine o = s.mbxEngine o := fun o => by
    unfold State.mbxEngine State.sramBad
    rw [rd, addr, mem]
  refine ⟨rd, fun o k => ?_⟩
  unfold State.mbxNonets
  simp only [engine]

/-! ## DERIVE (R346 to R348) -/

/-- A use of a slot without a limit is counted. -/
theorem useSlot_free {s : State} {k : Nat} (unlimited : s.slotLimit k = 0) :
    s.useSlot k = (true, s.setWide (Port.CPH_SLOT_COUNT_0 k) 2 (s.slotCount k + 1)) := by
  unfold State.useSlot
  dsimp only
  rw [if_neg fun h => h.1 unlimited, if_neg fun h => h.1 unlimited]

theorem useSlot_spent {s : State} {k : Nat} (limited : s.slotLimit k ≠ 0) (spent : s.slotCount k = s.slotLimit k) :
    s.useSlot k = (false, s) := by
  unfold State.useSlot
  dsimp only
  rw [if_pos ⟨limited, spent⟩]

/-- One block is encrypted as one. -/
theorem blocks16_single {x : List Octet} (block : x.length = 16) (f : List Octet → List Octet) :
    (blocks16 x).flatMap f = f x := by
  have whole : x.take 16 = x := List.take_of_length_le (by omega)
  have rest : x.drop 16 = [] := List.drop_eq_nil_of_le (by omega)
  have full : x.isEmpty = false := by
    rw [← Bool.not_eq_true, List.isEmpty_iff_length_eq_zero]
    omega
  unfold blocks16
  rw [block]
  simp [chunks, whole, rest, full]

theorem derive_own {b : Bool} (h : b = false) : ¬b = true := by
  rw [h]
  decide

theorem derive_may {a b : Bool} (valid : a = true) (usage : b = true) : ¬(a = false ∨ b = false) := by
  rw [valid, usage]
  decide

section derive
variable {s : State} {m : Master} {k o src : Nat}

theorem keyDerive_device (device : s.getB (bank m 0x6021) 5 = true) : s.keyDerive m = s.keyRes m 5 := by
  unfold State.keyDerive
  dsimp only
  exact if_pos device

variable (slot : s.getF (bank m 0x6021) 17 12 = k) (device : s.getB (bank m 0x6021) 5 = false)
  (source : s.getF (bank m 0x6021) 11 6 = src)

include device source in
theorem keyDerive_denied (bad : (s.keySlot src).valid = false ∨ s.slotUsage src 4 = false) :
    s.keyDerive m = s.keyRes m 3 := by
  subst source
  unfold State.keyDerive
  dsimp only
  have own : bitOf (s.get (bank m 0x6021)) 5 = false := device
  rw [if_neg (derive_own own)]
  exact if_pos bad

variable (valid : (s.keySlot src).valid = true) (derives : s.slotUsage src 4 = true)

include slot device source valid derives

theorem keyDerive_used (used : s.slotInUse k = true) : s.keyDerive m = s.keyRes m 4 := by
  subst slot source
  unfold State.keyDerive
  dsimp only
  have own : bitOf (s.get (bank m 0x6021)) 5 = false := device
  have valid : (s.keySlot (fld (s.get (bank m 0x6021)) 11 6)).valid = true := valid
  have derives : s.slotUsage (fld (s.get (bank m 0x6021)) 11 6) 4 = true := derives
  rw [if_neg (derive_own own), if_neg (derive_may valid derives)]
  exact if_pos used

variable (place : s.getF (bank m 0x6022) 13 0 = o) (free : s.slotInUse k = false) (room : s.mbxHas o 16 = true)
  (whole : damaged (s.mbxNonets o 16) = false) (short : s.getB (bank m 0x6023) 17 = false)
include place free room whole short

/-- DERIVE of a block that passes its checks, by the use of its source. -/
theorem keyDerive_uses {r : Bool × State} (used : s.useSlot src = r) : s.keyDerive m =
    if r.1 then (r.2.fillSlot k (keyOf (((blocks16 (octetsOf (r.2.mbxNonets o 16))).flatMap fun blk =>
        aesEnc (r.2.keySlot src).octets blk).take 16))
      (s.getF (bank m 0x6023) 7 0 &&& r.2.getF (Port.CPH_SLOT_STAT src) 7 0) (r.2.slotLimit src)).keyRes m 0
    else s.keyRes m 7 := by
  subst slot source place
  have length : (if bitOf (s.get (bank m 0x6023)) 17 = true then 32 else 16) = 16 :=
    if_neg (by rw [show bitOf (s.get (bank m 0x6023)) 17 = false from short]; decide)
  have own : bitOf (s.get (bank m 0x6021)) 5 = false := device
  have valid : (s.keySlot (fld (s.get (bank m 0x6021)) 11 6)).valid = true := valid
  have derives : s.slotUsage (fld (s.get (bank m 0x6021)) 11 6) 4 = true := derives
  have free : s.slotInUse (fld (s.get (bank m 0x6021)) 17 12) = false := free
  unfold State.keyDerive
  dsimp only
  rw [if_neg (derive_own own), if_neg (derive_may valid derives), if_neg (derive_own free), length,
    if_neg (by rw [room, whole]; decide), show s.useSlot (fld (s.get (bank m 0x6021)) 11 6) = r from used]
  obtain ⟨done, t⟩ := r
  cases done <;> rfl

theorem keyDerive_spent (limited : s.slotLimit src ≠ 0) (spent : s.slotCount src = s.slotLimit src) :
    s.keyDerive m = s.keyRes m 7 :=
  (keyDerive_uses slot device source valid derives place free room whole short (useSlot_spent limited spent)).trans
    (if_neg Bool.false_ne_true)

theorem keyDerive_derives (unlimited : s.slotLimit src = 0) : s.keyDerive m =
    ((s.setWide (Port.CPH_SLOT_COUNT_0 src) 2 (s.slotCount src + 1)).fillSlot k
      (keyOf (aesEnc (s.keySlot src).octets (octetsOf (s.mbxNonets o 16))))
      (s.getF (bank m 0x6023) 7 0 &&& s.getF (Port.CPH_SLOT_STAT src) 7 0) 0).keyRes m 0 := by
  obtain ⟨t, et⟩ : ∃ t, t = s.setWide (Port.CPH_SLOT_COUNT_0 src) 2 (s.slotCount src + 1) := ⟨_, rfl⟩
  have used : s.useSlot src = (true, t) := et ▸ useSlot_free unlimited
  have regs : ∀ p, p < Port.CPH_SLOT_COUNT_0 src ∨ Port.CPH_SLOT_COUNT_0 src + 2 ≤ p → t.get p = s.get p :=
    fun p away => et ▸ get_setWide_other s _ away
  have limit : t.slotLimit src = 0 := (getWide_of_get
    (regs _ (by unfold Port.CPH_SLOT_COUNT_0 Port.CPH_SLOT_LIMIT_0; omega))
    (regs _ (by unfold Port.CPH_SLOT_COUNT_0 Port.CPH_SLOT_LIMIT_0; omega))).trans unlimited
  have stat := regs (Port.CPH_SLOT_STAT src) (by unfold Port.CPH_SLOT_COUNT_0 Port.CPH_SLOT_STAT; omega)
  have same := (mbx_of_get (s := s) (t := t) (by rw [et]; rfl)
    (regs _ (by unfold Port.CPH_SLOT_COUNT_0 Port.MEM_PART; omega))
    (regs _ (by unfold Port.CPH_SLOT_COUNT_0 Port.MEM_PART; omega))).2 o 16
  have key : t.keySlot src = s.keySlot src := by rw [et]; rfl
  have block : (octetsOf (s.mbxNonets o 16)).length = 16 := by rw [octetsOf_mbxNonets]; simp
  rw [keyDerive_uses slot device source valid derives place free room whole short used, if_pos rfl, ← et]
  dsimp only
  rw [same, key, blocks16_single block, List.take_of_length_le (Nat.le_of_eq (length_aesEnc _ block)), limit,
    getF_of_get stat]

end derive

/-- What DERIVE leaves. -/
theorem keyDerive_spec {s : State} {m : Master} {k src : Nat} (hk : k < 64) (small : src < 64) (apart : src ≠ k)
    (room : s.slotCount src < 2 ^ 36 - 1) (x : KeySlot) {usage : Nat} (mask : usage < 256) {t : State}
    (et : t = ((s.setWide (Port.CPH_SLOT_COUNT_0 src) 2 (s.slotCount src + 1)).fillSlot k x usage 0).keyRes m 0) :
    s.touches keyParts keyBlks t ∧ t.getF (bank m 0x6024) 14 12 = 0 ∧ t.keySlot k = x ∧
      t.getF (Port.CPH_SLOT_STAT k) 7 0 = usage ∧ t.slotLimit k = 0 ∧ t.slotCount k = 0 ∧
      t.slotCount src = s.slotCount src + 1 ∧ ∀ j, j ≠ k → t.keySlot j = s.keySlot j := by
  subst et
  have counted := (setWide_touches (b := Blk.cph) s (p := Port.CPH_SLOT_COUNT_0 src) (n := 2) (s.slotCount src + 1)
    (by unfold Port.CPH_SLOT_COUNT_0; show 0x6000 ≤ _ ∧ _ ≤ 0x64FF + 1; omega)).mono
    (ps' := keyParts) (bs' := keyBlks) (by decide) (by decide)
  obtain ⟨code, key, -, mask, -, limit, count, others⟩ := fillSlot_keyRes_spec
    (s.setWide (Port.CPH_SLOT_COUNT_0 src) 2 (s.slotCount src + 1)) m hk x mask (limit := 0) (by decide)
  have used : (s.setWide (Port.CPH_SLOT_COUNT_0 src) 2 (s.slotCount src + 1)).slotCount src = s.slotCount src + 1 :=
    getWide_setWide (by omega)
  exact ⟨counted.trans (fillSlot_keyRes_touches _ m hk x usage 0), code, key, mask, limit, count,
    (((others src apart).2 small).2).trans used, fun j other => (others j other).1⟩

/-! ## EXPORT (R346) -/

theorem length_octets (k : KeySlot) : k.octets.length = 16 ∨ k.octets.length = 32 := by
  have full : (octetsBE 32 k.key.toNat).length = 32 := by simp [octetsBE]
  unfold KeySlot.octets
  split
  · exact .inr (by rw [List.length_take, full]; rfl)
  · exact .inl (by rw [List.length_take, full]; rfl)

/-- The blob of a slot without a limit (R345). -/
def State.slotBlob (s : State) (k : Nat) (key : List Octet) : List Octet :=
  kwWrap key ([0x01#8, BitVec.ofNat 8 (s.keySlot k).octets.length, BitVec.ofNat 8 (s.getF (Port.CPH_SLOT_STAT k) 7 0), 0, 0,
    0, 0, 0] ++ (s.keySlot k).octets)

theorem length_slotBlob (s : State) (k : Nat) (key : List Octet) : (s.slotBlob k key).length = (s.keySlot k).octets.length + 16 := by
  unfold State.slotBlob
  obtain short | long := length_octets (s.keySlot k)
  · rw [length_kwWrap key (n := 3) (by simp [short])]
    simp
  · rw [length_kwWrap key (n := 5) (by simp [long])]
    simp

section export_
variable {s : State} {m : Master} {k o : Nat} {key : List Octet}

theorem keyExport_denied {r : Nat} (h : s.kek m = .inr r) : s.keyExport m = s.keyRes m r := by
  unfold State.keyExport
  dsimp only
  rw [h]

variable (slot : s.getF (bank m 0x6021) 17 12 = k) (h : s.kek m = .inl key)
include slot h

theorem keyExport_kept (bad : (s.keySlot k).valid = false ∨ s.slotUsage k 6 = false) :
    s.keyExport m = s.keyRes m 5 := by
  subst slot
  unfold State.keyExport
  dsimp only
  rw [h]
  exact if_pos bad

variable (place : s.getF (bank m 0x6022) 13 0 = o) (device : s.getB (bank m 0x6021) 5 = true)
  (valid : (s.keySlot k).valid = true) (leaves : s.slotUsage k 6 = true) (unlimited : s.slotLimit k = 0)
  (room : s.mbxHas (o + 1) ((s.keySlot k).octets.length + 16) = true)
include place device valid leaves unlimited room

theorem keyExport_exports : s.keyExport m =
    ((s.mbxWrs o [inFld 17 15 1 ||| inFld 5 0 ((s.keySlot k).octets.length + 16)]).mbxPuts (o + 1)
      (cleanNonets (s.slotBlob k key))).keyRes m 0 := by
  subst slot place
  have own : bitOf (s.get (bank m 0x6021)) 5 = true := device
  have valid : (s.keySlot (fld (s.get (bank m 0x6021)) 17 12)).valid = true := valid
  have leaves : s.slotUsage (fld (s.get (bank m 0x6021)) 17 12) 6 = true := leaves
  have unlimited : s.slotLimit (fld (s.get (bank m 0x6021)) 17 12) = 0 := unlimited
  have room : s.mbxHas (s.getF (bank m 0x6022) 13 0 + 1)
      ((s.keySlot (fld (s.get (bank m 0x6021)) 17 12)).octets.length + 16) = true := room
  unfold State.keyExport State.slotBlob
  dsimp only
  rw [h]
  dsimp only
  rw [if_neg (derive_may valid leaves), if_neg (by rw [room]; decide), own]
  simp only [if_true]
  rw [if_pos unlimited]
  rfl

/-- What EXPORT leaves: the blob in the mailbox. -/
theorem keyExport_spec (idle : s.liveState ≠ 1) :
    s.touches [.regs, .mem] [Blk.own] (s.keyExport m) ∧ (s.keyExport m).getF (bank m 0x6024) 14 12 = 0 ∧
      (s.keyExport m).mbxRd o = (inFld 17 15 1 ||| inFld 5 0 ((s.keySlot k).octets.length + 16)) ∧
      octetsOf ((s.keyExport m).mbxNonets (o + 1) ((s.keySlot k).octets.length + 16)) = s.slotBlob k key ∧
      (s.keyExport m).sec = s.sec ∧
      (∀ x, (x < s.mbxAddr o ∨ s.mbxAddr o + 25 ≤ x) → (s.keyExport m).sramRd x = s.sramRd x) ∧
      (s.keyExport m).mem.flash = s.mem.flash ∧ (s.keyExport m).mem.dram = s.mem.dram := by
  have length := length_slotBlob s k key
  have size := length_octets (s.keySlot k)
  have fits : o + 1 + ((s.keySlot k).octets.length + 16 + 1) / 2 ≤ s.mbxWords := of_decide_eq_true room
  rw [keyExport_exports slot h place device valid leaves unlimited room, mbxWrs_word (by omega) idle]
  obtain ⟨t, et⟩ : ∃ t, t = s.sramWr (s.mbxAddr o) (inFld 17 15 1 ||| inFld 5 0 ((s.keySlot k).octets.length + 16)) :=
    ⟨_, rfl⟩
  have first : s.mbxFrame o (1 + ((s.keySlot k).octets.length + 16 + 1) / 2) t :=
    et ▸ (State.mbxFrame.refl s o _).store (by omega) _
  have header : t.mbxRd o = (inFld 17 15 1 ||| inFld 5 0 ((s.keySlot k).octets.length + 16)) := by
    rw [et]
    exact (mbxRd_sramWr (by omega) _).trans (if_pos rfl)
  obtain ⟨frame, before, octets⟩ := octetsOf_puts idle first (s.slotBlob k key) (o := o + 1) (by omega)
    (by rw [length]; omega) (by omega)
  rw [← et]
  rw [length] at octets
  obtain ⟨u, eu⟩ : ∃ u, u = t.mbxPuts (o + 1) (cleanNonets (s.slotBlob k key)) := ⟨_, rfl⟩
  rw [← eu] at frame before octets ⊢
  obtain ⟨⟨x, only, flash, dram⟩, others⟩ := frame
  obtain ⟨read, nonets_⟩ := mbx_of_get (s := u) (t := u.keyRes m 0) (keyRes_mem u m) (keyRes_get u m (by decide))
    (keyRes_get u m (by decide))
  refine ⟨?_, keyRes_code u m (by decide), (read o).trans ((before o (by omega)).trans header), ?_, ?_,
    fun y apart => (keyRes_sramRd u m y).trans (others y (by omega)), ?_, ?_⟩
  · rw [only]
    exact ((mem_touches s x).seq (keyRes_touches _ m)).mono (by decide) (by decide)
  · rw [nonets_]
    exact octets
  · rw [keyRes_sec, only]
  · rw [keyRes_mem, only]
    exact flash
  · rw [keyRes_mem, only]
    exact dram

end export_

/-- Settles O35: each command by its checks, and the slot it fills (`fillSlot_keyRes_spec`) or the blob it writes
(`keyExport_spec`). -/
theorem keySlotsAreFilledAndEmptied : Obligations.KeySlotsAreFilledAndEmptied := by
  unfold Obligations.KeySlotsAreFilledAndEmptied
  have slotLt : ∀ {s : State} {m : Master} {k : Nat}, s.getF (bank m 0x6021) 17 12 = k → k < 64 :=
    fun h => h ▸ fld_lt _ 17 12
  refine fun s => ⟨fun m k o r a slot place h => ?_, fun m k o key a slot place h used => ?_,
    fun m k o key a slot place h free inside bad => ?_,
    fun m k o n key a slot place h free inside version clean length size room whole => ?_,
    fun m k o n key p a slot place h free inside version clean length size room whole => ?_,
    fun m k o n key p a slot place h free inside version clean length size room whole => ?_,
    fun m k o a slot place used => ?_, fun m k o a slot place free => ?_, fun m k o a slot place device => ?_,
    fun m k o src a slot place device source bad => ?_,
    fun m k o src a slot place device source valid derives used => ?_,
    fun m k o src a slot place device source valid derives free room whole short limited spent => ?_,
    fun m k o src a slot place device source valid derives free room whole short unlimited count apart => ?_,
    fun m k o r a slot place h => ?_, fun m k o key a slot place h bad => ?_,
    fun m k o key a slot place device h valid leaves unlimited idle room => ?_⟩
  · exact completes_portCmd (act := fun t => t.keyCmd m 1) rfl a ((keyCmd_load s m).trans (keyLoad_denied h))
  · exact completes_portCmd (act := fun t => t.keyCmd m 1) rfl a ((keyCmd_load s m).trans (keyLoad_used slot h used))
  · exact completes_portCmd (act := fun t => t.keyCmd m 1) rfl a
      ((keyCmd_load s m).trans (keyLoad_header slot place h free inside bad))
  · refine completes_portCmd (act := fun t => t.keyCmd m 1) rfl a ?_
    obtain ⟨-, eq⟩ | ⟨p, opened, eq⟩ := keyLoad_unwraps slot place h free inside version clean length size room whole
    · rw [keyCmd_load, eq]
      exact ⟨(keyRes_touches s m).mono (by decide) (by decide), fun _ => rfl⟩
    · rw [keyCmd_load, eq]
      exact ⟨loadKey_touches s m (slotLt slot) n p, fun failed => nomatch opened.symm.trans failed⟩
  · refine completes_portCmd (act := fun t => t.keyCmd m 1) rfl a ?_
    obtain ⟨failed, eq⟩ | ⟨q, opened, eq⟩ := keyLoad_unwraps slot place h free inside version clean length size room whole
    · rw [keyCmd_load, eq]
      exact ⟨(keyRes_touches s m).mono (by decide) (by decide), fun opened => nomatch failed.symm.trans opened⟩
    · rw [keyCmd_load, eq]
      refine ⟨loadKey_touches s m (slotLt slot) n q, fun same bad => ?_⟩
      obtain rfl := Option.some.inj (opened.symm.trans same)
      exact loadKey_bad bad
  · refine completes_portCmd (act := fun t => t.keyCmd m 1) rfl a ?_
    obtain ⟨failed, eq⟩ | ⟨q, opened, eq⟩ := keyLoad_unwraps slot place h free inside version clean length size room whole
    · rw [keyCmd_load, eq]
      exact ⟨(keyRes_touches s m).mono (by decide) (by decide), fun opened => nomatch failed.symm.trans opened⟩
    · rw [keyCmd_load, eq]
      refine ⟨loadKey_touches s m (slotLt slot) n q, fun same kind words octets usage limit => ?_⟩
      obtain rfl := Option.some.inj (opened.symm.trans same)
      rw [loadKey_good kind words octets usage limit]
      obtain ⟨code, filled, -, mask, flag, bound, zero, others⟩ := fillSlot_keyRes_spec s m (slotLt slot)
        (keyOf (q.drop 8)) (usage := (q.getD 2 0).toNat) (by omega) (limit_fits (by omega) limit)
      exact ⟨code, filled, mask, flag, bound, zero, fun j hj other =>
        ⟨(others j other).1, ((others j other).2 hj).1⟩⟩
  · exact completes_portCmd (act := fun t => t.keyCmd m 2) rfl a ((keyCmd_clear s m).trans (keyClear_used slot used))
  · refine completes_portCmd (act := fun t => t.keyCmd m 2) rfl a ?_
    rw [keyCmd_clear, keyClear_free slot free]
    obtain ⟨code, filled, stat, -, -, bound, zero, others⟩ := fillSlot_keyRes_spec s m (slotLt slot) KeySlot.empty
      (usage := 0) (limit := 0) (by decide) (by decide)
    exact ⟨fillSlot_keyRes_touches s m (slotLt slot) _ _ _, code, filled, stat, zero, bound, fun j hj other =>
      ⟨(others j other).1, ((others j other).2 hj).1⟩⟩
  · exact completes_portCmd (act := fun t => t.keyCmd m 3) rfl a ((keyCmd_derive s m).trans (keyDerive_device device))
  · exact completes_portCmd (act := fun t => t.keyCmd m 3) rfl a
      ((keyCmd_derive s m).trans (keyDerive_denied device source bad))
  · exact completes_portCmd (act := fun t => t.keyCmd m 3) rfl a
      ((keyCmd_derive s m).trans (keyDerive_used slot device source valid derives used))
  · exact completes_portCmd (act := fun t => t.keyCmd m 3) rfl a
      ((keyCmd_derive s m).trans (keyDerive_spent slot device source valid derives place free room whole short limited
        spent))
  · refine completes_portCmd (act := fun t => t.keyCmd m 3) rfl a ?_
    have mask : s.getF (bank m 0x6023) 7 0 &&& s.getF (Port.CPH_SLOT_STAT src) 7 0 < 256 :=
      Nat.lt_of_le_of_lt Nat.and_le_left (fld_lt _ 7 0)
    obtain ⟨touched, rest⟩ := keyDerive_spec (slotLt slot) (source ▸ fld_lt _ 11 6) apart count _ mask
      (keyDerive_derives slot device source valid derives place free room whole short unlimited)
    rw [keyCmd_derive]
    exact ⟨touched.mono (by decide) (by decide), rest⟩
  · exact completes_portCmd (act := fun t => t.keyCmd m 4) rfl a ((keyCmd_export s m).trans (keyExport_denied h))
  · exact completes_portCmd (act := fun t => t.keyCmd m 4) rfl a ((keyCmd_export s m).trans (keyExport_kept slot h bad))
  · refine completes_portCmd (act := fun t => t.keyCmd m 4) rfl a ?_
    obtain ⟨touched, rest⟩ := keyExport_spec slot h place device valid leaves unlimited room idle
    rw [keyCmd_export]
    exact ⟨touched.mono (by decide) (by decide), rest⟩

end Sys2Proof.Machine

/-! The statements of 17_power_clocks_resets_maintenance.md on clocks, watchdogs and levels and of
18_events_timers_rtc.md on alarms (O44, O42, O57).  First, operation by operation, what leaves the always-on part of the
device as it is when a domain stops; then the resets, the levels and the calendar. -/

namespace Sys2Proof.Machine

open Sys2Proof

/-! ## The always-on part (R386) -/

/-- A register of AON outside the event fabric: power, clocks, resets, watchdogs, balls, timers and the RTC. -/
def aonPort (p : Nat) : Bool := decide (p < 0x0400) || inRange 0x0800 0x0CFF p

/-- The always-on registers as they read. -/
def aonOf (regs : Cells Word) (p : Nat) : Word := if aonPort p then Cells.rd coldOf regs p else 0

/-- Of a core, what the power controller sees of it, and whether RTC_ALARM is pending. -/
def CoreState.vital (c : CoreState) : Bool × Bool × Bool := (c.inReset, c.gated, c.ipend.getLsbD 4)

/-- What a domain that stops leaves as it is: always-on registers, time, power, the queue of commands, flash, and of the
cores what the power controller sees. -/
def State.aon (s : State) : (Nat → Word) × Time × List Instr × Pwr × Cells Word × (Bool × Bool × Bool) ×
    (Bool × Bool × Bool) :=
  (aonOf s.regs, s.time, s.pending, s.pwr, s.mem.flash, s.apc.vital, s.lkc.vital)

/-- How much of an always-on register is told by `State.aon`. -/
theorem get_of_aon {s t : State} (h : t.aon = s.aon) {p : Nat} (low : aonPort p = true) : t.get p = s.get p := by
  have regs := congrFun (congrArg Prod.fst h) p
  simp only [State.aon, aonOf, low, if_true] at regs
  exact regs

theorem time_of_aon {s t : State} (h : t.aon = s.aon) : t.time = s.time := congrArg (·.2.1) h
theorem pending_of_aon {s t : State} (h : t.aon = s.aon) : t.pending = s.pending := congrArg (·.2.2.1) h
theorem pwr_of_aon {s t : State} (h : t.aon = s.aon) : t.pwr = s.pwr := congrArg (·.2.2.2.1) h
theorem flash_of_aon {s t : State} (h : t.aon = s.aon) : t.mem.flash = s.mem.flash := congrArg (·.2.2.2.2.1) h

theorem vital_of_aon {s t : State} (h : t.aon = s.aon) (c : Core) : (t.core c).vital = (s.core c).vital := by
  cases c with
  | apc => exact congrArg (·.2.2.2.2.2.1) h
  | lkc => exact congrArg (·.2.2.2.2.2.2) h

theorem inReset_of_vital {x y : CoreState} (h : x.vital = y.vital) : x.inReset = y.inReset := congrArg Prod.fst h
theorem gated_of_vital {x y : CoreState} (h : x.vital = y.vital) : x.gated = y.gated := congrArg (·.2.1) h
theorem alarm_of_vital {x y : CoreState} (h : x.vital = y.vital) : x.ipend.getLsbD 4 = y.ipend.getLsbD 4 :=
  congrArg (·.2.2) h

theorem aon_of {s t : State} (regs : ∀ p, aonPort p = true → t.get p = s.get p) (time : t.time = s.time)
    (pending : t.pending = s.pending) (pwr : t.pwr = s.pwr) (flash : t.mem.flash = s.mem.flash)
    (apc : t.apc.vital = s.apc.vital) (lkc : t.lkc.vital = s.lkc.vital) : t.aon = s.aon := by
  have low : aonOf t.regs = aonOf s.regs := funext fun p => by
    unfold aonOf
    split
    · next low => exact regs p low
    · rfl
  unfold State.aon
  rw [low, time, pending, pwr, flash, apc, lkc]

@[simp] theorem aon_mk (regs latch time mem fuses rig apc lkc basin lanes rx tx link trim utv flc dmc sec host psm pwr
    sluice evf tim pins free pending) : State.aon ⟨regs, latch, time, mem, fuses, rig, apc, lkc, basin, lanes, rx, tx,
    link, trim, utv, flc, dmc, sec, host, psm, pwr, sluice, evf, tim, pins, free, pending⟩ =
      (aonOf regs, time, pending, pwr, mem.flash, apc.vital, lkc.vital) := rfl

@[simp] theorem aon_eta (s : State) : (aonOf s.regs, s.time, s.pending, s.pwr, s.mem.flash, s.apc.vital, s.lkc.vital) =
    s.aon := rfl

@[simp] theorem aon_ite (p : Prop) [Decidable p] (s t : State) :
    (if p then s else t).aon = if p then s.aon else t.aon := apply_ite State.aon p s t

@[simp] theorem aon_forEach {α : Type} (f : α → State → State) (h : ∀ a t, (f a t).aon = t.aon) (l : List α)
    (s : State) : (forEach l f s).aon = s.aon := forEach_keeps State.aon f h l s

@[simp] theorem aon_forNat (f : Nat → State → State) (h : ∀ a t, (f a t).aon = t.aon) (n : Nat)
    (s : State) : (forNat n f s).aon = s.aon := forNat_keeps State.aon f h n s

@[simp] theorem aon_snd_ite {α : Type} (p : Prop) [Decidable p] (x y : α × State) :
    (if p then x else y).2.aon = if p then x.2.aon else y.2.aon :=
  apply_ite (fun x : α × State => x.2.aon) p x y

@[simp] theorem aon_foldl {α : Type} (f : State → α → State) (h : ∀ t a, (f t a).aon = t.aon) (l : List α)
    (s : State) : (l.foldl f s).aon = s.aon := forEach_keeps State.aon (fun a t => f t a) (fun a t => h t a) l s

@[simp] theorem aon_snd_foldl {α β : Type} (f : β × State → α → β × State) (h : ∀ x a, (f x a).2.aon = x.2.aon)
    (l : List α) (x : β × State) : (l.foldl f x).2.aon = x.2.aon := by
  induction l generalizing x with
  | nil => rfl
  | cons a r ih => exact (ih _).trans (h x a)

theorem aon_basin (s : State) (x : Basin) : ({ s with basin := x } : State).aon = s.aon := rfl

theorem aon_of_eq {α : Type} {x : α × State} {a : α} {t : State} (e : x = (a, t)) : t.aon = x.2.aon := by rw [e]

/-! ### Registers -/

theorem aonPort_iff (p : Nat) : aonPort p = true ↔ p < 0x0400 ∨ (0x0800 ≤ p ∧ p ≤ 0x0CFF) := by
  simp [aonPort, inRange]

/-- Registers of a numbered unit lie above its first one. -/
@[simp] theorem le_unit_port {a b : Nat} (h : 0x0D00 ≤ a) : 0x0D00 ≤ a + b := Nat.le_add_right_of_le h

@[simp] theorem set_aon (s : State) {p : Nat} (v : Word) (h : 0x0D00 ≤ p) :
    (s.set p v).aon = s.aon :=
  aon_of (fun q low => s.get_set_other v (by rw [aonPort_iff] at low; omega)) rfl rfl rfl rfl rfl rfl

@[simp] theorem setF_aon (s : State) {p : Nat} (hi lo v : Nat) (h : 0x0D00 ≤ p) :
    (s.setF p hi lo v).aon = s.aon := set_aon s _ h

@[simp] theorem setB_aon (s : State) {p : Nat} (b : Nat) (v : Bool) (h : 0x0D00 ≤ p) :
    (s.setB p b v).aon = s.aon := set_aon s _ h

@[simp] theorem count_aon (s : State) {p : Nat} (h : 0x0D00 ≤ p) :
    (s.count p).aon = s.aon := set_aon s _ h

@[simp] theorem setWide_aon (s : State) {p : Nat} (n v : Nat) (h : 0x0D00 ≤ p) : (s.setWide p n v).aon = s.aon :=
  aon_of (fun q low => get_setWide_other s v (by rw [aonPort_iff] at low; omega)) rfl rfl rfl rfl rfl rfl

theorem coldRegs_aon (s : State) {cold : Nat → Bool} (h : ∀ p, aonPort p = true → cold p = false) :
    (s.coldRegs cold).aon = s.aon :=
  aon_of (fun q low => by rw [State.get_coldRegs, h q low]; simp) rfl rfl rfl rfl rfl rfl

@[simp] theorem coldRegs_inRange_aon (s : State) {lo hi : Nat} (h : 0x0D00 ≤ lo) :
    (s.coldRegs (inRange lo hi)).aon = s.aon :=
  coldRegs_aon s fun p low => by
    rw [aonPort_iff] at low
    simp only [inRange, Bool.and_eq_false_iff, decide_eq_false_iff_not]
    omega

/-! ### Raises -/

theorem pend_vital (c : CoreState) {n : Nat} (h : n ≠ 4) : (c.pend n).vital = c.vital := by
  unfold CoreState.pend
  split
  · rfl
  · simp [CoreState.vital, h.symm]

@[simp] theorem pendBoth_aon (s : State) {n : Nat} (h : n ≠ 4) : (s.pendBoth n).aon = s.aon :=
  aon_of (fun _ _ => rfl) rfl rfl rfl rfl (pend_vital _ h) (pend_vital _ h)

/-- Of both cores what the power controller sees. -/
def State.vitals (s : State) : (Bool × Bool × Bool) × (Bool × Bool × Bool) := (s.apc.vital, s.lkc.vital)

theorem pendBoth_vitals (s : State) {n : Nat} (h : n ≠ 4) : (s.pendBoth n).vitals = s.vitals :=
  Prod.ext (pend_vital _ h) (pend_vital _ h)

theorem guardCount_vitals (s : State) (ch : Nat) : (s.guardCount ch).vitals = s.vitals := by
  unfold State.guardCount
  extract_lets w lim n u
  have counted : u.vitals = s.vitals := by
    simp only [u]
    split <;> rfl
  split
  · rfl
  · split
    · exact (pendBoth_vitals (n := 12) _ (by decide)).trans counted
    · exact counted

theorem raiseChannel_vitals (s : State) (ch : Nat) : (s.raiseChannel ch).vitals = s.vitals := by
  unfold State.raiseChannel
  repeat' split
  · rfl
  · rfl
  · rfl
  · exact guardCount_vitals _ ch

theorem raiseProducer_vitals (s : State) (p : Nat) : (s.raiseProducer p).vitals = s.vitals := by
  unfold State.raiseProducer
  split
  · rfl
  · refine forNat_keeps State.vitals _ (fun ch t => ?_) 48 s
    split
    · exact raiseChannel_vitals t ch
    · rfl

theorem aon_of_frame {s t : State} (frame : RaiseFrame s t) (vitals : t.vitals = s.vitals) : t.aon = s.aon := by
  obtain ⟨regs, -, -, r, a, l, e, rfl⟩ := frame
  exact aon_of (fun p low => regs p (by rw [aonPort_iff] at low; omega)) rfl rfl rfl rfl (congrArg Prod.fst vitals)
    (congrArg Prod.snd vitals)

@[simp] theorem raiseProducer_aon (s : State) (p : Nat) : (s.raiseProducer p).aon = s.aon :=
  aon_of_frame (raiseProducer_frame s p) (raiseProducer_vitals s p)

@[simp] theorem raise_aon (s : State) {n : Nat} (h : n ≠ 4) : (s.raise n).aon = s.aon := by
  unfold State.raise
  split
  · exact pendBoth_aon s h
  · exact (raiseProducer_aon _ n).trans (pendBoth_aon s h)

@[simp] theorem ballEdge_aon (s old : State) (g : Nat) : (s.ballEdge old g).aon = s.aon := by
  simp [State.ballEdge]

/-- The edges that follow an operation add nothing to what it does to the always-on part. -/
theorem withEdges_aon (s : State) (f : State → State) : (s.withEdges f).aon = (f s).aon := by
  simp [State.withEdges]

@[simp] theorem sluiceDrop_aon (s : State) (a : Nat) : (s.sluiceDrop a).aon = s.aon := by
  unfold State.sluiceDrop
  rw [setB_aon _ _ _ (by decide), setB_aon _ _ _ (by decide), setB_aon _ _ _ (by decide)]
  rfl

/-! ### The operations of a domain that stops -/

@[simp] theorem nextFree_aon (s : State) : s.nextFree.aon = s.aon := by rfl

@[simp] theorem setLane_aon (s : State) (l : Nat) (x : Lane) : (s.setLane l x).aon = s.aon := by rfl

@[simp] theorem setChain_aon (s : State) (c : Nat) (x : RxState) : (s.setChain c x).aon = s.aon := by rfl

@[simp] theorem setTxc_aon (s : State) (t : Nat) (x : TxState) : (s.setTxc t x).aon = s.aon := by rfl

@[simp] theorem setEvent_aon (s : State) (q : Nat) (x : Option Event) : (s.setEvent q x).aon = s.aon := by rfl

@[simp] theorem setCal_aon (s : State) (c : Nat) (x : Option CalEntry) : (s.setCal c x).aon = s.aon := by rfl

@[simp] theorem setLedger_aon (s : State) (b : Nat) (x : Ledger) : (s.setLedger b x).aon = s.aon := by rfl

@[simp] theorem setUport_aon (s : State) (p : Nat) (x : UPort) : (s.setUport p x).aon = s.aon := by rfl

@[simp] theorem setQueue_aon (s : State) (q : Nat) (x : List Pkt) : (s.setQueue q x).aon = s.aon := by rfl

@[simp] theorem setCopy_aon (s : State) (m : Nat) (x : BsnCopy) : (s.setCopy m x).aon = s.aon := by rfl

@[simp] theorem sramWr_aon (s : State) (k : Nat) (v : Word) : (s.sramWr k v).aon = s.aon := by rfl

@[simp] theorem flashMark_aon (s : State) (b o e : Nat) : (s.flashMark b o e).aon = s.aon := by rfl

@[simp] theorem noteDram_aon (s : State) (f : State → State) (h : (f s).aon = s.aon) :
    (s.noteDram f).aon = s.aon := by
  simp [State.noteDram, h]

@[simp] theorem setHeader_aon (s : State) (p : Pkt) (i : Nat) (v : Word) : (s.setHeader p i v).aon = s.aon := by
  unfold State.setHeader
  split <;> simp

@[simp] theorem setHeaders_aon (s : State) (p : Pkt) (i : Nat) (l : List Word) :
    (s.setHeaders p i l).aon = s.aon := by
  induction l generalizing s i with
  | nil => rfl
  | cons v vs ih => simp [State.setHeaders, ih]

@[simp] theorem charge_aon (s : State) (c v : Nat) : (s.charge c v).aon = s.aon := by rfl

@[simp] theorem chargeD_aon (s : State) (d v : Nat) : (s.chargeD d v).aon = s.aon := by rfl

@[simp] theorem chargeAll_aon (s : State) (v : Nat) (l : List CellLoc) : (s.chargeAll v l).aon = s.aon :=
  aon_forEach _ (fun x t => by cases x <;> simp) l s

@[simp] theorem freeAll_aon (s : State) (l : List CellLoc) : (s.freeAll l).aon = s.aon :=
  aon_forEach _ (fun x t => by cases x <;> simp) l s

@[simp] theorem queueFlag_aon (s : State) (q b : Nat) : (s.queueFlag q b).aon = s.aon :=
  setB_aon s b true (by simp)

@[simp] theorem checkMarks_aon (s : State) (q old : Nat) : (s.checkMarks q old).aon = s.aon := by
  unfold State.checkMarks
  split <;> simp

@[simp] theorem marked_aon (s : State) (q : Nat) (f : State → State) (h : (f s).aon = s.aon) :
    (s.marked q f).aon = s.aon := by
  simp [State.marked, h]

@[simp] theorem takeCell_aon (s : State) (q : Nat) : (s.takeCell q).2.aon = s.aon := by
  simp [State.takeCell]

@[simp] theorem takeCells_aon (s : State) (q n : Nat) : (s.takeCells q n).2.aon = s.aon := by
  induction n generalizing s with
  | zero => rfl
  | succ n ih =>
    unfold State.takeCells
    split <;> rename_i taken <;> simp [ih, aon_of_eq taken]

@[simp] theorem takeHole_aon (s : State) (q : Nat) : (s.takeHole q).2.aon = s.aon := by
  unfold State.takeHole
  split <;> simp

@[simp] theorem holeCell_aon (s : State) (q : Nat) : (s.holeCell q).2.aon = s.aon := by
  unfold State.holeCell
  split <;> rename_i taken <;> simp [aon_of_eq taken]

@[simp] theorem idleRestart_aon (s : State) (q : Nat) : (s.idleRestart q).aon = s.aon := by rfl

@[simp] theorem readyCheck_aon (s : State) (q : Nat) : (s.readyCheck q).aon = s.aon := by
  simp [State.readyCheck, Port.HPT_HIRQ_PEND]

@[simp] theorem commitPkt_aon (s : State) (q : Nat) (p : Pkt) : (s.commitPkt q p).aon = s.aon := by
  simp [State.commitPkt]

@[simp] theorem unpopPkt_aon (s : State) (q : Nat) (p : Pkt) : (s.unpopPkt q p).aon = s.aon := by
  simp [State.unpopPkt]

@[simp] theorem commitHole_aon (s : State) (q : Nat) (c : CellLoc) (epoch : BitVec 6) (src source : Nat) (t : BitVec
    54) :
    (s.commitHole q c epoch src source t).aon = s.aon := by simp [State.commitHole]

@[simp] theorem basinEmpty_aon (s : State) : s.basinEmpty.aon = s.aon := by rfl

@[simp] theorem copyReset_aon (s : State) (m : Master) : (s.copyReset m).aon = s.aon := by
  have cold : ∀ t : State,
      (t.coldRegs fun k => decide (bank m 0x2010 ≤ k) && decide (k ≤ bank m 0x201F)).aon = t.aon := fun t =>
    coldRegs_inRange_aon t (by unfold bank; omega)
  unfold State.copyReset
  dsimp only
  rw [cold]
  repeat' split
  all_goals simp

@[simp] theorem ctxWr_aon (s : State) (c i : Nat) (v : Word) : (s.ctxWr c i v).aon = s.aon := by
  simp [State.ctxWr]

@[simp] theorem setCtxF_aon (s : State) (c i hi lo v : Nat) : (s.setCtxF c i hi lo v).aon = s.aon := by
  simp [State.setCtxF]

@[simp] theorem setSeqState_aon (s : State) (q v : Nat) : (s.setSeqState q v).aon = s.aon :=
  setF_aon s 14 12 v (by simp)

@[simp] theorem updEvent_aon (s : State) (q : Nat) (f : Event → Event) : (s.updEvent q f).aon = s.aon := by
  unfold State.updEvent
  split <;> simp

@[simp] theorem endEvent_aon (s : State) (q : Nat) (evstat : Nat) : (s.endEvent q evstat).aon = s.aon := by
  simp [State.endEvent]

@[simp] theorem noteWarn_aon (s : State) (b : Nat) : (s.noteWarn b).aon = s.aon := by simp [State.noteWarn]

@[simp] theorem settle_aon (s : State) (b : Nat) (a e : Nat) : (s.settle b a e).aon = s.aon := by
  simp [State.settle]

@[simp] theorem updTxc_aon (s : State) (t : Nat) (f : TxState → TxState) : (s.updTxc t f).aon = s.aon := by rfl

@[simp] theorem dropReqs_aon (s : State) (t : Nat) (p : TxReq → Bool) : (s.dropReqs t p).aon = s.aon := by
  simp [State.dropReqs]

@[simp] theorem txFail_aon (s : State) (o : TxOwner) (code : Nat) : (s.txFail o code).aon = s.aon := by
  unfold State.txFail
  split <;> simp

@[simp] theorem setLast_aon (s : State) (t v : Nat) : (s.setLast t v).aon = s.aon :=
  setF_aon s 14 12 v (by simp)

@[simp] theorem abortRun_aon (s : State) (t : Nat) (r : TxRun) (lost : Bool) :
    (s.abortRun t r lost).aon = s.aon := by simp [State.abortRun]

@[simp] theorem cutOwner_aon (s : State) (own : TxOwner → Bool) : (s.cutOwner own).aon = s.aon :=
  aon_forNat _ (fun t u => by dsimp only; split <;> simp) 2 s

@[simp] theorem txOff_aon (s : State) (t : Nat) : (s.txOff t).aon = s.aon := by
  unfold State.txOff
  dsimp only
  split <;> simp

@[simp] theorem updChain_aon (s : State) (c : Nat) (f : RxState → RxState) :
    (s.updChain c f).aon = s.aon := by rfl

@[simp] theorem setLaneState_aon (s : State) (l v : Nat) : (s.setLaneState l v).aon = s.aon :=
  setF_aon s 14 12 v (by simp)

@[simp] theorem updLane_aon (s : State) (l : Nat) (f : Lane → Lane) : (s.updLane l f).aon = s.aon := by rfl

@[simp] theorem storeOctets_aon (s : State) (p : Pkt) (octs : List Octet) :
    (s.storeOctets p octs).aon = s.aon := by
  refine aon_foldl _ (fun u x => ?_) _ s
  split <;> simp

@[simp] theorem setEntries_aon (s : State) (l : List OkEntry) : (s.setEntries l).aon = s.aon := by rfl

@[simp] theorem touchEntry_aon (s : State) (l c : Nat) (ep : BitVec 6) :
    (s.touchEntry l c ep).aon = s.aon := by rfl

@[simp] theorem touchPkt_aon (s : State) (l : Nat) (p : LanePkt) : (s.touchPkt l p).aon = s.aon := by
  unfold State.touchPkt
  split <;> simp

@[simp] theorem laneArrive_aon (s : State) (l n : Nat) : (s.laneArrive l n).aon = s.aon := by
  unfold State.laneArrive
  split <;> simp

@[simp] theorem fillPkt_aon (s : State) (lp : LanePkt) (octs : List Octet) :
    (s.fillPkt lp octs).2.aon = s.aon := by simp [State.fillPkt]

@[simp] theorem freeOctets_aon (s : State) (n : Nat) : (s.freeOctets n).2.aon = s.aon := by rfl

@[simp] theorem laneFree_aon (s : State) (l : Nat) : (s.laneFree l).aon = s.aon := by
  simp [State.laneFree]

@[simp] theorem laneAfter_aon (s : State) (l : Nat) : (s.laneAfter l).aon = s.aon := by simp [State.laneAfter]

@[simp] theorem endHolds_aon (s : State) (ctx : Option Nat) : (s.endHolds ctx).aon = s.aon := by
  unfold State.endHolds
  split <;> simp

@[simp] theorem laneClose_aon (s : State) (l : Nat) (lp : LanePkt) (p : Pkt) (checked crcOk trunc blankedBit
    faultBit deliver : Bool) :
    (s.laneClose l lp p checked crcOk trunc blankedBit faultBit deliver).aon = s.aon := by
  have counted : 0x0D00 ≤ if crcOk = true then Port.LAN_OKCNT l else Port.LAN_BADCNT l := by
    split <;> simp
  simp [State.laneClose, counted]

@[simp] theorem laneCut_aon (s : State) (l : Nat) (blankedBit faultBit deliver : Bool) :
    (s.laneCut l blankedBit faultBit deliver).aon = s.aon := by
  unfold State.laneCut
  dsimp only
  repeat' split
  all_goals simp

@[simp] theorem unfeed_aon (s : State) (cs : List Nat) (l : Nat) : (s.unfeed cs l).aon = s.aon := by
  unfold State.unfeed
  split <;> simp

@[simp] theorem dropReady_aon (s : State) (cs : List Nat) : (s.dropReady cs).aon = s.aon := by
  have unready : ∀ l, (forEach l (fun c t => t.setB (Port.RXC_STAT c) 0 false) s).aon = s.aon := fun l =>
    aon_forEach _ (fun c t => setB_aon t 0 false (by simp)) l s
  simp [State.dropReady, unready]

@[simp] theorem chainDown_aon (s : State) (c : Nat) : (s.chainDown c).aon = s.aon := by simp [State.chainDown]

@[simp] theorem laneStop_aon (s : State) (l : Nat) : (s.laneStop l).aon = s.aon := by simp [State.laneStop]

@[simp] theorem freeHole_aon (s : State) (e : OkEntry) : (s.freeHole e).aon = s.aon := by
  unfold State.freeHole
  split <;> simp

@[simp] theorem closeDone_aon (s : State) : s.closeDone.aon = s.aon := by simp [State.closeDone]

@[simp] theorem expireEntry_aon (s : State) (e : OkEntry) : (s.expireEntry e).aon = s.aon := by
  unfold State.expireEntry
  split <;> simp [Port.TRM_HOLECNT]

@[simp] theorem openEntry_aon (s : State) (c : Nat) (units : List Nat) : (s.openEntry c units).aon = s.aon := by
  unfold State.openEntry
  dsimp only
  repeat' split
  all_goals simp [Port.TRM_MIGCNT]

@[simp] theorem leaveLane_aon (s : State) (c l : Nat) : (s.leaveLane c l).aon = s.aon := by
  simp [State.leaveLane]

@[simp] theorem ctxPut_aon (s : State) (c i : Nat) (v : Word) : (s.ctxPut c i v).aon = s.aon := by
  simp [State.ctxPut]

@[simp] theorem leaveCalendar_aon (s : State) (c : Nat) : (s.leaveCalendar c).aon = s.aon := by
  unfold State.leaveCalendar
  dsimp only
  split <;> simp

@[simp] theorem withdraw_aon (s : State) (q : Nat) : (s.withdraw q).aon = s.aon := by simp [State.withdraw]

@[simp] theorem finishEvent_aon (s : State) (q : Nat) : (s.finishEvent q).aon = s.aon := by
  unfold State.finishEvent
  split <;> simp

@[simp] theorem takeSlot_aon (s : State) (c k : Nat) : (s.takeSlot c k).aon = s.aon := by simp [State.takeSlot]

@[simp] theorem slotFreed_aon (s : State) : s.slotFreed.aon = s.aon := by
  unfold State.slotFreed
  split <;> simp [Port.LTB_SEQCFG]

@[simp] theorem setLstate_aon (s : State) (p v : Nat) : (s.setLstate p v).aon = s.aon :=
  setF_aon s 17 15 v (by simp)

@[simp] theorem updPort_aon (s : State) (p : Nat) (f : UPort → UPort) : (s.updPort p f).aon = s.aon := by rfl

@[simp] theorem updUtv_aon (s : State) (f : Utvis → Utvis) : (s.updUtv f).aon = s.aon := by rfl

@[simp] theorem portDrop_aon (s : State) (p : Nat) : (s.portDrop p).aon = s.aon := by
  simp [State.portDrop]

@[simp] theorem portDown_aon (s : State) (p : Nat) : (s.portDown p).aon = s.aon := by simp [State.portDown]

@[simp] theorem endQuiet_aon (s : State) (c : Nat) : (s.endQuiet c).aon = s.aon := by
  unfold State.endQuiet
  dsimp only
  split <;> simp

@[simp] theorem setSeq_aon (s : State) (c step bank addr row : Nat) (data : List Word) :
    (s.setSeq c step bank addr row data).aon = s.aon := by rfl

@[simp] theorem seqClear_aon (s : State) (c : Nat) : (s.seqClear c).aon = s.aon := by rfl

@[simp] theorem flashStop_aon (s : State) : s.flashStop.aon = s.aon := by
  unfold State.flashStop
  split <;> simp

@[simp] theorem dramZero_aon (s : State) : s.dramZero.aon = s.aon := by rfl

@[simp] theorem holeRuns_aon (s : State) (q : Nat) (held : Bool) (l : List Pkt) :
    (s.holeRuns q held l).2.aon = s.aon := by
  induction l generalizing s held with
  | nil => rfl
  | cons p r ih => simp [State.holeRuns, ih]

@[simp] theorem queuesLose_aon (s : State) : s.queuesLose.aon = s.aon := by simp [State.queuesLose]

@[simp] theorem contextsLose_aon (s : State) : s.contextsLose.aon = s.aon := by simp [State.contextsLose]

@[simp] theorem dmcReset_aon (s : State) : s.dmcReset.aon = s.aon := by
  unfold State.dmcReset
  refine noteDram_aon s _ ?_
  extract_lets lost t u
  have cold : t.aon = s.aon := coldRegs_inRange_aon _ (by decide)
  split
  · have lost : t.queuesLose.contextsLose.dramZero.aon = t.aon := by simp
    exact (aon_basin _ _).trans (lost.trans cold)
  · exact (dramZero_aon t).trans cold

@[simp] theorem dmcOff_aon (s : State) : s.dmcOff.aon = s.aon := by
  unfold State.dmcOff
  split
  · exact noteDram_aon s _ (coldRegs_inRange_aon _ (by decide))
  · exact dmcReset_aon s

@[simp] theorem jobHold_aon (s : State) (j : SecJob) (v : Nat) : (s.jobHold j v).aon = s.aon := by
  simp [State.jobHold]

@[simp] theorem slotsEmpty_aon (s : State) : s.slotsEmpty.aon = s.aon := by simp [State.slotsEmpty]

@[simp] theorem lanesOff_aon (s : State) (base : Nat) : (s.lanesOff base).aon = s.aon := by
  refine aon_forNat _ (fun i t => ?_) 32 s
  dsimp only
  split <;> simp

@[simp] theorem seqsOff_aon (s : State) : s.seqsOff.aon = s.aon := by simp [State.seqsOff]

@[simp] theorem basinOff_aon (s : State) : s.basinOff.aon = s.aon := by simp [State.basinOff]

@[simp] theorem utvisOff_aon (s : State) : s.utvisOff.aon = s.aon := by simp [State.utvisOff]

@[simp] theorem cipherOff_aon (s : State) (rst : Bool) : (s.cipherOff rst).aon = s.aon := by
  simp [State.cipherOff]

@[simp] theorem endCalendar_aon (s : State) : s.endCalendar.aon = s.aon := by simp [State.endCalendar]
/-! ## A domain stops (R299, R387) -/

theorem domHidden_aon (s : State) {d : Nat} (rst : Bool) (h : 2 ≤ d) : (s.domHidden d rst).aon = s.aon := by
  have shared : d ≠ 0 ∧ d ≠ 1 := by omega
  unfold State.domHidden
  rw [if_neg shared.1, if_neg shared.2]
  simp

/-- No register of a switched domain is an always-on one. -/
theorem domPort_aon {d p : Nat} (low : aonPort p = true) : domPort d p = false := by
  rw [aonPort_iff] at low
  have none : portDomain (p % 65536) = none := by
    rw [Nat.mod_eq_of_lt (by omega)]
    unfold portDomain
    repeat rw [if_neg (by omega)]
  simp [domPort, none]

/-- Every port of a domain reads Cold: the always-on part stays. -/
theorem domCold_aon (s : State) (d : Nat) (more : Nat → Bool) :
    (s.coldRegs fun k => domPort d k && more k).aon = s.aon :=
  coldRegs_aon s fun p low => by rw [domPort_aon low]; rfl

/-- The domains that meet `off` go off or into reset, and the always-on part of the device is otherwise as it was.  A
core stays as the power controller sees it, or goes into reset with its domain. -/
structure State.halts (off : Nat → Prop) (s t : State) : Prop where
  regs : ∀ p, aonPort p = true → p ≠ Port.PWR_DOM_STAT → t.get p = s.get p
  gone : ∀ d, off d → t.domOn d = false
  kept : ∀ d, ¬ off d → t.domOn d = s.domOn d
  time : t.time = s.time
  pending : t.pending = s.pending
  flash : t.mem.flash = s.mem.flash
  other : ∀ c : Core, ¬ off c.num → (t.core c).vital = (s.core c).vital
  reset : ∀ c : Core, off c.num → s.domOn c.num = true → (t.core c).inReset = true
  stays : ∀ c : Core, (s.core c).inReset = true → (t.core c).inReset = true
  free : ∀ c : Core, (s.core c).gated = false → (t.core c).gated = false

theorem halts_none {off : Nat → Prop} (s : State) (h : ∀ d, off d → s.domOn d = false) : s.halts off s where
  regs := fun _ _ _ => rfl
  gone := h
  kept := fun _ _ => rfl
  time := rfl
  pending := rfl
  flash := rfl
  other := fun _ _ => rfl
  reset := fun c out on => by rw [h _ out] at on; contradiction
  stays := fun _ h => h
  free := fun _ h => h

/-- Domains that go off one after the other are gone together. -/
theorem State.halts.trans {off more both : Nat → Prop} {s t u : State} (h : s.halts off t) (k : t.halts more u)
    (e : ∀ d, both d ↔ off d ∨ more d) : s.halts both u where
  regs := fun p low stat => (k.regs p low stat).trans (h.regs p low stat)
  gone := fun d out => by
    by_cases later : more d
    · exact k.gone d later
    · exact (k.kept d later).trans (h.gone d (((e d).mp out).resolve_right later))
  kept := fun d on => (k.kept d fun m => on ((e d).mpr (.inr m))).trans (h.kept d fun m => on ((e d).mpr (.inl m)))
  time := k.time.trans h.time
  pending := k.pending.trans h.pending
  flash := k.flash.trans h.flash
  other := fun c on => (k.other c fun m => on ((e _).mpr (.inr m))).trans (h.other c fun m => on ((e _).mpr (.inl m)))
  reset := fun c out on => by
    by_cases first : off c.num
    · exact k.stays c (h.reset c first on)
    · exact k.reset c (((e _).mp out).resolve_left first) ((h.kept _ first).trans on)
  stays := fun c r => k.stays c (h.stays c r)
  free := fun c g => k.free c (h.free c g)

theorem halts_of_aon {s t : State} (h : t.aon = s.aon) : s.halts (fun _ => False) t where
  regs := fun _ low _ => get_of_aon h low
  gone := fun _ => False.elim
  kept := fun d _ => getB_of_get (get_of_aon h (p := Port.PWR_DOM_STAT) (by decide)) d
  time := time_of_aon h
  pending := pending_of_aon h
  flash := flash_of_aon h
  other := fun c _ => vital_of_aon h c
  reset := fun _ => False.elim
  stays := fun c r => (inReset_of_vital (vital_of_aon h c)).trans r
  free := fun c g => (gated_of_vital (vital_of_aon h c)).trans g

/-- What a reset of a core leaves before the core's own registers are cleared (R20). -/
def State.coreCut (s : State) (c : Core) : State :=
  ((s.copyReset c.master).seqClear c.num).coldRegs (aperturePort c.num)

theorem coreCut_aon (s : State) (c : Core) : (s.coreCut c).aon = s.aon := by
  have cold : ∀ p, aonPort p = true → aperturePort c.num p = false := fun p low => by
    rw [aonPort_iff] at low
    have above : p < 0x1410 := by omega
    simp only [aperturePort, inRange, Bool.or_eq_false_iff, Bool.and_eq_false_iff, decide_eq_false_iff_not]
    omega
  exact (coldRegs_aon _ cold).trans (by simp)

theorem coreReset_eq (s : State) (c : Core) :
    s.coreReset c = { (s.coreCut c).setCore c { CoreState.reset with inReset := true } with
      dmc := { ((s.coreCut c).setCore c { CoreState.reset with inReset := true }).dmc with
        queue := ((s.coreCut c).setCore c { CoreState.reset with inReset := true }).dmc.queue.filter
          fun r => decide (r.port ≠ c.num) } } := rfl

/-- A core that goes into reset leaves all registers, time, power and flash to what `coreCut` makes of them. -/
theorem coreReset_keeps (s : State) (c : Core) :
    (s.coreReset c).regs = (s.coreCut c).regs ∧ (s.coreReset c).time = (s.coreCut c).time ∧
    (s.coreReset c).pending = (s.coreCut c).pending ∧ (s.coreReset c).pwr = (s.coreCut c).pwr ∧
    (s.coreReset c).mem = (s.coreCut c).mem := by
  rw [coreReset_eq]
  cases c <;> exact ⟨rfl, rfl, rfl, rfl, rfl⟩

theorem coreReset_self (s : State) (c : Core) :
    (s.coreReset c).core c = { CoreState.reset with inReset := true } := by
  rw [coreReset_eq]
  cases c <;> rfl

theorem coreReset_other (s : State) {c k : Core} (h : k ≠ c) : (s.coreReset c).core k = (s.coreCut c).core k := by
  rw [coreReset_eq]
  cases c with
  | apc =>
    cases k with
    | apc => exact absurd rfl h
    | lkc => rfl
  | lkc =>
    cases k with
    | apc => rfl
    | lkc => exact absurd rfl h

/-- A domain goes off after what it leaves hidden (R299). -/
theorem domStop_on (s : State) {d : Nat} (rst : Bool) (on : s.domOn d = true) :
    s.domStop d rst = (((s.domHidden d rst).coldRegs fun k =>
      domPort d k && (rst || !inRange 0x6100 0x62FF k)).zeroDomain d).setB Port.PWR_DOM_STAT d false := if_pos on

theorem domStop_off (s : State) {d : Nat} (rst : Bool) (off : s.domOn d = false) : s.domStop d rst = s :=
  if_neg (by simp [off])

/-- What `domStop` does once the domain's blocks have stopped: of the always-on part it clears a bit of
`PWR_DOM_STAT`. -/
theorem halts_unshown {s t : State} {d : Nat} (in16 : d < 16) (more : Nat → Bool)
    (regs : ∀ p, aonPort p = true → t.get p = s.get p) (time : t.time = s.time) (pending : t.pending = s.pending)
    (flash : t.mem.flash = s.mem.flash) (other : ∀ c : Core, c.num ≠ d → (t.core c).vital = (s.core c).vital)
    (own : ∀ c : Core, c.num = d → (t.core c).inReset = true ∧ (t.core c).gated = false) :
    s.halts (· = d) (((t.coldRegs fun k => domPort d k && more k).zeroDomain d).setB Port.PWR_DOM_STAT d false) := by
  obtain ⟨u, eu⟩ : ∃ u, u = (t.coldRegs fun k => domPort d k && more k).zeroDomain d := ⟨_, rfl⟩
  have same : u.aon = t.aon := by
    rw [eu]
    exact domCold_aon t d more
  rw [← eu]
  have reads : ∀ p, aonPort p = true → u.get p = s.get p := fun p low => (get_of_aon same low).trans (regs p low)
  have core : ∀ c, (u.core c).vital = (t.core c).vital := vital_of_aon same
  have after : ∀ c, ((u.setB Port.PWR_DOM_STAT d false).core c).vital = (t.core c).vital := fun c =>
    (congrArg CoreState.vital (by cases c <;> rfl)).trans (core c)
  exact {
    regs := fun p low stat => (u.get_set_other _ (Ne.symm stat)).trans (reads p low)
    gone := fun e same => by
      subst same
      exact u.getB_setB_same _ _ _ (by omega)
    kept := fun e away => (u.getB_setB_other _ _ _ _ _ (by omega) (Ne.symm away)).trans
      (getB_of_get (reads Port.PWR_DOM_STAT (by decide)) e)
    time := (time_of_aon same).trans time
    pending := (pending_of_aon same).trans pending
    flash := (flash_of_aon same).trans flash
    other := fun c away => (after c).trans (other c away)
    reset := fun c out _ => (inReset_of_vital (after c)).trans (own c out).1
    stays := fun c r => by
      by_cases out : c.num = d
      · exact (inReset_of_vital (after c)).trans (own c out).1
      · exact (inReset_of_vital ((after c).trans (other c out))).trans r
    free := fun c g => by
      by_cases out : c.num = d
      · exact (gated_of_vital (after c)).trans (own c out).2
      · exact (gated_of_vital ((after c).trans (other c out))).trans g }

theorem Core.num_inj {k c : Core} (h : k.num = c.num) : k = c := by
  cases k with
  | apc =>
    cases c with
    | apc => rfl
    | lkc => exact absurd h (by decide)
  | lkc =>
    cases c with
    | apc => exact absurd h (by decide)
    | lkc => rfl

theorem domHidden_core (s : State) (c : Core) (rst : Bool) : s.domHidden c.num rst = s.coreReset c := by
  cases c <;> rfl

theorem domStop_halts (s : State) {d : Nat} (rst : Bool) (in16 : d < 16) : s.halts (· = d) (s.domStop d rst) := by
  cases on : s.domOn d with
  | false =>
    rw [domStop_off s rst on]
    exact halts_none s fun e same => same ▸ on
  | true =>
    rw [domStop_on s rst on]
    by_cases shared : 2 ≤ d
    · have hidden := domHidden_aon s rst shared
      have none : ∀ c : Core, c.num ≠ d := fun c => by
        have apart : c.num < 2 := by cases c <;> decide
        omega
      exact halts_unshown in16 _ (fun p low => get_of_aon hidden low) (time_of_aon hidden) (pending_of_aon hidden)
        (flash_of_aon hidden) (fun c _ => vital_of_aon hidden c) fun c own => absurd own (none c)
    · obtain ⟨c, rfl⟩ : ∃ c : Core, d = c.num := by
        have cases : d = 0 ∨ d = 1 := by omega
        rcases cases with rfl | rfl
        · exact ⟨.apc, rfl⟩
        · exact ⟨.lkc, rfl⟩
      have cut := coreCut_aon s c
      obtain ⟨regs, time, pending, -, mem⟩ := coreReset_keeps s c
      rw [domHidden_core]
      refine halts_unshown in16 _ (fun p low => ?_) (time.trans (time_of_aon cut))
        (pending.trans (pending_of_aon cut)) ((congrArg Mem.flash mem).trans (flash_of_aon cut)) (fun k other => ?_)
        fun k own => ?_
      · exact (congrArg (fun r => Cells.rd coldOf r p) regs).trans (get_of_aon cut low)
      · rw [coreReset_other s fun e => other (congrArg Core.num e)]
        exact vital_of_aon cut k
      · have same : k = c := Core.num_inj own
        rw [same, coreReset_self]
        exact ⟨rfl, rfl⟩

theorem domHidden_pwr (s : State) (d : Nat) (rst : Bool) : (s.domHidden d rst).pwr = s.pwr := by
  by_cases shared : 2 ≤ d
  · exact pwr_of_aon (domHidden_aon s rst shared)
  · have cases : d = 0 ∨ d = 1 := by omega
    rcases cases with rfl | rfl
    · obtain ⟨-, -, -, pwr, -⟩ := coreReset_keeps s .apc
      exact pwr.trans (pwr_of_aon (coreCut_aon s .apc))
    · obtain ⟨-, -, -, pwr, -⟩ := coreReset_keeps s .lkc
      exact pwr.trans (pwr_of_aon (coreCut_aon s .lkc))

theorem domStop_pwr (s : State) (d : Nat) (rst : Bool) : (s.domStop d rst).pwr = s.pwr := by
  cases on : s.domOn d with
  | false => rw [domStop_off s rst on]
  | true =>
    rw [domStop_on s rst on]
    exact domHidden_pwr s d rst

/-- Domains that stop one after the other. -/
theorem domStops_halts (rst : Bool) (l : List Nat) (s : State) (in16 : ∀ d ∈ l, d < 16) :
    s.halts (· ∈ l) (forEach l (fun d t => t.domStop d rst) s) := by
  induction l generalizing s with
  | nil => exact halts_none s fun d out => absurd out List.not_mem_nil
  | cons d r ih =>
    exact (domStop_halts s rst (in16 d List.mem_cons_self)).trans
      (ih _ fun e out => in16 e (List.mem_cons_of_mem _ out)) fun e => List.mem_cons

theorem groupDown_halts (s : State) (c : Core) : s.halts (· ∈ groupDoms c.num) (s.groupDown c.num) :=
  domStops_halts true _ s (by cases c <;> decide)

theorem core_mem_groupDoms (c : Core) : c.num ∈ groupDoms c.num := by cases c <;> decide

/-! ## Resets of a group (R19-R21) -/

theorem resetCause_get (s : State) (cls bit dom : Nat) {p : Nat} (cause : p ≠ Port.RST_CAUSE)
    (last : p ≠ Port.RST_LAST) :
    (s.resetCause cls bit dom).get p = s.get p := by
  unfold State.resetCause
  rw [State.get_set_other _ _ (Ne.symm last)]
  exact State.get_set_other _ _ (Ne.symm cause)

theorem resetCause_cause (s : State) (cls dom : Nat) {bit : Nat} (h : bit < 18) :
    (s.resetCause cls bit dom).getB Port.RST_CAUSE bit = true :=
  (getB_of_get (State.get_set_other _ _ (by decide)) bit).trans (s.getB_setB_same _ _ _ h)

theorem resetCause_last (s : State) (cls bit dom : Nat) :
    (s.resetCause cls bit dom).get Port.RST_LAST = inFld 17 15 cls ||| inFld 14 9 bit ||| inFld 3 0 dom :=
  State.get_set_same _ _ _

/-- A group's reset, once its domains are down. -/
def State.groupNoted (s : State) (c : Core) (cause : GroupCause) : State :=
  ((if c = .lkc then s.set Port.MEM_CSW_GRANT 0 else s).resetCause (3 + c.num) (groupBit c cause) 0).count
    (Port.RST_CNT c.num)

theorem groupReset_free (s : State) {c : Core} (cause : GroupCause) (free : s.held c.num = false) :
    s.groupReset c cause = (s.groupDown c.num).groupNoted c cause := if_neg (by simp [free])

theorem groupBit_lt (c : Core) (cause : GroupCause) : groupBit c cause < 18 := by
  cases c <;> cases cause <;> decide

theorem rstCnt_apart (c : Core) : Port.RST_CNT c.num ≠ Port.RST_CAUSE ∧ Port.RST_CNT c.num ≠ Port.RST_LAST ∧
    Port.RST_CNT c.num ≠ Port.MEM_CSW_GRANT ∧ Port.RST_CNT c.num ≠ Port.PWR_DOM_STAT ∧
    aonPort (Port.RST_CNT c.num) = true := by
  cases c <;> decide

theorem groupNoted_get (s : State) (c : Core) (cause : GroupCause) {p : Nat} (low : aonPort p = true)
    (apart : p ≠ Port.RST_CAUSE ∧ p ≠ Port.RST_LAST ∧ p ≠ Port.RST_CNT c.num) :
    (s.groupNoted c cause).get p = s.get p := by
  obtain ⟨noCause, noLast, noCnt⟩ := apart
  have grant : Port.MEM_CSW_GRANT ≠ p := fun e => by rw [← e] at low; contradiction
  unfold State.groupNoted
  rw [State.get_count_other _ (Ne.symm noCnt), resetCause_get _ _ _ _ noCause noLast]
  split
  · exact s.get_set_other _ grant
  · rfl

/-- A group's reset counts and records itself. -/
theorem groupNoted_records (s : State) (c : Core) (cause : GroupCause) :
    s.counts (Port.RST_CNT c.num) (s.groupNoted c cause) ∧
    (s.groupNoted c cause).getB Port.RST_CAUSE (groupBit c cause) = true ∧
    (s.groupNoted c cause).get Port.RST_LAST = inFld 17 15 (3 + c.num) ||| inFld 14 9 (groupBit c cause) := by
  obtain ⟨cause', last', grant, -, -⟩ := rstCnt_apart c
  unfold State.groupNoted State.counts
  refine ⟨?_, ?_, ?_⟩
  · rw [State.get_count_same, resetCause_get _ _ _ _ cause' last']
    split
    · rw [s.get_set_other _ (Ne.symm grant)]
    · rfl
  · rw [getB_of_get (State.get_count_other _ cause')]
    exact resetCause_cause _ _ _ (groupBit_lt c cause)
  · rw [State.get_count_other _ last', resetCause_last]
    cases c <;> cases cause <;> decide

theorem groupNoted_core (s : State) (c k : Core) (cause : GroupCause) :
    (s.groupNoted c cause).core k = s.core k := by
  cases c <;> cases k <;> rfl

/-! ## Resets of everything (R399, R402) -/

/-- The always-on registers, time, power and the queue of commands: what work on the flash leaves as it is. -/
def State.calm (s : State) : (Nat → Word) × Time × List Instr × Pwr := (aonOf s.regs, s.time, s.pending, s.pwr)

theorem calm_of_aon {s t : State} (h : t.aon = s.aon) : t.calm = s.calm :=
  congrArg (fun x => (x.1, x.2.1, x.2.2.1, x.2.2.2.1)) h

theorem get_of_calm {s t : State} (h : t.calm = s.calm) {p : Nat} (low : aonPort p = true) : t.get p = s.get p := by
  have regs := congrFun (congrArg Prod.fst h) p
  simp only [State.calm, aonOf, low, if_true] at regs
  exact regs

theorem time_of_calm {s t : State} (h : t.calm = s.calm) : t.time = s.time := congrArg (·.2.1) h
theorem pending_of_calm {s t : State} (h : t.calm = s.calm) : t.pending = s.pending := congrArg (·.2.2.1) h

theorem calm_forNat (f : Nat → State → State) (h : ∀ a t, (f a t).calm = t.calm) (n : Nat) (s : State) :
    (forNat n f s).calm = s.calm := forNat_keeps State.calm f h n s

theorem flashSet_calm (s : State) (b o : Nat) (v : Word) : (s.flashSet b o v).calm = s.calm := rfl

theorem programAt_calm (s : State) (b o : Nat) (l : List Word) : (s.programAt b o l).calm = s.calm := by
  induction l generalizing s o with
  | nil => rfl
  | cons v r ih => exact (ih _ _).trans (flashSet_calm s b o v)

theorem eraseWords_calm (s : State) (b k : Nat) : (s.eraseWords b k).calm = s.calm := rfl

theorem eraseBank_calm (s : State) (b n : Nat) : (s.eraseBank b n).calm = s.calm := by
  unfold State.eraseBank
  extract_lets t k
  have erased : t.calm = s.calm := calm_forNat _ (fun k u => eraseWords_calm u b k) n s
  split
  · exact (calm_of_aon (set_aon _ _ (by simp))).trans erased
  · exact erased

theorem activationCut_calm (s : State) (c : Nat) : (s.activationCut c).calm = s.calm := by
  unfold State.activationCut
  extract_lets n b k t m u flc m' v
  have erased : ∀ m, (t.eraseBank b m).calm = s.calm := fun m => eraseBank_calm t b m
  split
  · rfl
  · split
    · exact erased m
    · exact (calm_forNat _ (fun i u => calm_of_aon (flashMark_aon u b (m' + i) 3)) 4 v).trans
        ((programAt_calm _ b 0 _).trans (erased _))

theorem cutWork_calm (s : State) : s.cutWork.calm = s.calm :=
  (calm_of_aon (flashStop_aon _)).trans ((activationCut_calm _ 1).trans (activationCut_calm s 0))

theorem senseFuses_get (s : State) {p : Nat} (high : 0x0010 ≤ p) : s.senseFuses.get p = s.get p := by
  have apart : ∀ q, q < 0x0010 → q ≠ p := fun q low => by omega
  unfold State.senseFuses
  extract_lets f lc
  rw [State.get_set_other _ _ (apart Port.SYS_LC (by decide)),
    State.get_set_other _ _ (apart Port.SYS_PART (by decide)),
    State.get_set_other _ _ (apart Port.SYS_DIE (by decide)),
    State.get_set_other _ _ (apart Port.SYS_WAFER (by decide)),
    State.get_set_other _ _ (apart (Port.SYS_LOT 1) (by decide)),
    State.get_set_other _ _ (apart (Port.SYS_LOT 0) (by decide))]

/-- A register that no reset loads: above the identity registers, and not the domains' own. -/
theorem restart_get (s : State) (keep : Nat → Bool) {p : Nat} (high : 0x0010 ≤ p) (stat : p ≠ Port.PWR_DOM_STAT) :
    (s.restart keep).get p = if keep p then s.get p else coldOf p := by
  unfold State.restart
  extract_lets t0 q time mem flc r u
  rw [senseFuses_get _ high, State.get_set_other _ _ (Ne.symm stat)]
  exact Cells.rd_keep coldOf keep s.regs p

theorem restart_keeps (s : State) (keep : Nat → Bool) : (s.restart keep).pending = s.pending ∧
    (s.restart keep).fuses = s.fuses ∧ (s.restart keep).rig.booting = true ∧ (s.restart keep).time.link = 0 :=
  ⟨rfl, rfl, rfl, rfl⟩

/-- What a system reset leaves before its cause's own part (R402). -/
def State.sysAfter (s : State) (bit : Nat) (bootSel : BitVec 2) (stackId : BitVec 3) : State :=
  let c := ((s.txOff 0).txOff 1).cutWork
  let t := c.restart sysKeeps
  let t1 := { t with time := { t.time with link := c.time.link, led := c.time.led, stopped := c.time.stopped },
                     link := { t.link with ledgers := c.link.ledgers } }
  ((t1.setB Port.CLK_STAT 12 (s.getB Port.CLK_STAT 12)).straps bootSel stackId).resetCause 2 bit 0

theorem sysResetNow_refLoss (s : State) (b : BitVec 2) (i : BitVec 3) :
    s.sysResetNow .refLoss b i =
      (((({ s.sysAfter 8 b i with time := { (s.sysAfter 8 b i).time with stopped := true } }).setB Port.CLK_STAT 12
        true).setF Port.CLK_STAT 17 16 0).count Port.CLK_LOSSCNT).setB Port.LTB_STAT 0 true := rfl

theorem sysResetNow_pll (s : State) (b : BitVec 2) (i : BitVec 3) :
    s.sysResetNow .pll b i = (s.sysAfter 7 b i).count Port.CLK_LOSSCNT := rfl

theorem sysResetNow_watchdog (s : State) (c : Core) (b : BitVec 2) (i : BitVec 3) :
    s.sysResetNow (.watchdog c) b i = s.sysAfter (14 - c.num) b i := rfl

/-- The state whose registers a system reset keeps or clears: transmissions and flash work are cut. -/
theorem sysCut_calm (s : State) : ((s.txOff 0).txOff 1).cutWork.calm = s.calm :=
  (cutWork_calm _).trans (calm_of_aon ((txOff_aon _ 1).trans (txOff_aon s 0)))

theorem fuses_of_fused {s t : State} (h : t.fused = s.fused) : t.fuses = s.fuses := congrArg Prod.fst h

theorem sysCut_fuses (s : State) : ((s.txOff 0).txOff 1).cutWork.fuses = s.fuses :=
  fuses_of_fused ((cutWork_fused _).trans ((txOff_fused _ 1).trans (txOff_fused s 0)))

/-- Link time, the fuses and the commands that wait survive a system reset; the boot ROM has still to run. -/
structure State.outlives (s t : State) : Prop where
  link : t.time.link = s.time.link
  fuses : t.fuses = s.fuses
  booting : t.rig.booting = true
  groups : t.get Port.EVF_GRP = 0
  pending : t.pending = s.pending

theorem sysAfter_keeps (s : State) (bit : Nat) (b : BitVec 2) (i : BitVec 3) :
    (s.sysAfter bit b i).time.link = s.time.link ∧ (s.sysAfter bit b i).fuses = s.fuses ∧
    (s.sysAfter bit b i).rig.booting = true ∧ (s.sysAfter bit b i).pending = s.pending := by
  have cut := sysCut_calm s
  have fuses := sysCut_fuses s
  unfold State.sysAfter
  revert cut fuses
  generalize ((s.txOff 0).txOff 1).cutWork = c
  intro cut fuses
  obtain ⟨waiting, fused, booting, -⟩ := restart_keeps c sysKeeps
  have link : c.time.link = s.time.link := congrArg Time.link (time_of_calm cut)
  exact ⟨link, fused.trans fuses, booting, waiting.trans (pending_of_calm cut)⟩

/-- Of the registers a system reset keeps those of R402 and clears the others. -/
theorem sysAfter_get (s : State) (bit : Nat) (b : BitVec 2) (i : BitVec 3) {p : Nat} (high : 0x0010 ≤ p)
    (stat : p ≠ Port.PWR_DOM_STAT ∧ p ≠ Port.CLK_STAT ∧ p ≠ Port.RIG_STRAP)
    (apart : p ≠ Port.RST_CAUSE ∧ p ≠ Port.RST_LAST) :
    (s.sysAfter bit b i).get p = if sysKeeps p then ((s.txOff 0).txOff 1).cutWork.get p else coldOf p := by
  obtain ⟨noStat, noClock, noStrap⟩ := stat
  unfold State.sysAfter State.straps
  generalize ((s.txOff 0).txOff 1).cutWork = c
  dsimp only
  rw [resetCause_get _ _ _ _ apart.1 apart.2, State.get_set_other _ _ (Ne.symm noStrap)]
  refine Eq.trans ?_ (restart_get c sysKeeps high noStat)
  exact State.get_set_other _ _ (Ne.symm noClock)

theorem sysAfter_groups (s : State) (bit : Nat) (b : BitVec 2) (i : BitVec 3) :
    (s.sysAfter bit b i).get Port.EVF_GRP = 0 :=
  sysAfter_get s bit b i (by decide) (by decide) (by decide)

/-- A counter that R402 keeps. -/
theorem sysAfter_kept (s : State) (bit : Nat) (b : BitVec 2) (i : BitVec 3) {p : Nat} (high : 0x0010 ≤ p)
    (stat : p ≠ Port.PWR_DOM_STAT ∧ p ≠ Port.CLK_STAT ∧ p ≠ Port.RIG_STRAP)
    (apart : p ≠ Port.RST_CAUSE ∧ p ≠ Port.RST_LAST) (keeps : sysKeeps p = true) (low : aonPort p = true) :
    (s.sysAfter bit b i).get p = s.get p := by
  rw [sysAfter_get s bit b i high stat apart, keeps]
  exact get_of_calm (sysCut_calm s) low

theorem sysAfter_cause (s : State) {bit : Nat} (b : BitVec 2) (i : BitVec 3) (h : bit < 18) :
    (s.sysAfter bit b i).getB Port.RST_CAUSE bit = true := resetCause_cause _ _ _ h

theorem sysAfter_last (s : State) (bit : Nat) (b : BitVec 2) (i : BitVec 3) :
    (s.sysAfter bit b i).get Port.RST_LAST = inFld 17 15 2 ||| inFld 14 9 bit ||| inFld 3 0 0 :=
  resetCause_last _ _ _ _


/-! ## Watchdogs (R403-R405) -/

theorem pwr_touches (s : State) (x : Pwr) : State.touches [.pwr] [] s { s with pwr := x } :=
  ⟨fun part other => by cases part <;> simp_all [Part.same], fun _ _ => rfl⟩

theorem wdgTimeout_lt (s : State) (c : Nat) : s.wdgTimeout c < 2 ^ 16 := by
  unfold State.wdgTimeout
  omega

/-- A channel whose count starts again, before its OPEN shows. -/
def State.wdgFresh (s : State) (c : Nat) : State :=
  { s with pwr := { s.pwr with wdgTime := Cells.wr (fun _ => 0) s.pwr.wdgTime c (s.wdgTimeout c),
                               kick := Cells.wr (fun _ => 0) s.pwr.kick c 0,
                               warned := Cells.wr (fun _ => 0) s.pwr.warned c 0 } }

theorem wdgRestart_eq (s : State) (c : Nat) :
    s.wdgRestart c = ((s.wdgFresh c).setF (Port.WDG_STAT c) 15 0 (s.wdgTimeout c)).wdgShow c := rfl

theorem wdgRestart_get (s : State) (c : Nat) {p : Nat} (h : p ≠ Port.WDG_STAT c) :
    (s.wdgRestart c).get p = s.get p := by
  rw [wdgRestart_eq]
  exact (State.get_set_other _ _ (Ne.symm h)).trans (State.get_set_other _ _ (Ne.symm h))

theorem wdgRestart_count (s : State) (c : Nat) : (s.wdgRestart c).getF (Port.WDG_STAT c) 15 0 = s.wdgTimeout c := by
  rw [wdgRestart_eq]
  unfold State.wdgShow
  rw [State.getF_setB_apart _ _ _ _ _ _ _ (by decide) (by decide), State.getF_setF_same _ _ _ _ _ (by decide)]
  exact Nat.mod_eq_of_lt (wdgTimeout_lt s c)

theorem wdgRestart_core (s : State) (c : Nat) (k : Core) : (s.wdgRestart c).core k = s.core k := by
  cases k <;> rfl

theorem wdgRestart_touches (s : State) (c : Core) : s.touches [.regs, .pwr] [Blk.wdg] (s.wdgRestart c.num) := by
  have block : Blk.wdg.1 ≤ Port.WDG_STAT c.num ∧ Port.WDG_STAT c.num ≤ Blk.wdg.2 := by cases c <;> decide
  rw [wdgRestart_eq]
  exact ((pwr_touches s _).mono (by decide) (by decide)).trans
    (((set_touches _ _ block).trans (set_touches _ _ block)).mono (by decide) (by decide))

/-- What the expiry of a channel with ACTION 0 makes of the core's group. -/
structure State.groupExpires (c : Core) (s t : State) : Prop where
  expiries : s.counts (Port.WDG_EXPCNT c.num) t
  cause : t.getB Port.RST_CAUSE (14 - c.num) = true
  dom : t.domOn c.num = false
  reset : s.domOn c.num = true → (t.core c).inReset = true
  resets : s.counts (Port.RST_CNT c.num) t
  last : t.get Port.RST_LAST = inFld 17 15 (3 + c.num) ||| inFld 14 9 (14 - c.num)
  time : t.get (Port.WDG_TIME c.num) = s.get (Port.WDG_TIME c.num)

theorem wdgPorts (c : Core) :
    (aonPort (Port.WDG_EXPCNT c.num) = true ∧ Port.WDG_EXPCNT c.num ≠ Port.PWR_DOM_STAT ∧
      Port.WDG_EXPCNT c.num ≠ Port.RST_CAUSE ∧ Port.WDG_EXPCNT c.num ≠ Port.RST_LAST ∧
      Port.WDG_EXPCNT c.num ≠ Port.RST_CNT c.num) ∧
    (aonPort (Port.WDG_TIME c.num) = true ∧ Port.WDG_TIME c.num ≠ Port.PWR_DOM_STAT ∧
      Port.WDG_TIME c.num ≠ Port.RST_CAUSE ∧ Port.WDG_TIME c.num ≠ Port.RST_LAST ∧
      Port.WDG_TIME c.num ≠ Port.RST_CNT c.num ∧ Port.WDG_EXPCNT c.num ≠ Port.WDG_TIME c.num) := by
  cases c <;> decide

/-- A channel with ACTION 0 resets its core's group (R404). -/
theorem wdgExpire_group {s : State} {c : Core} (action : s.getF (Port.WDG_CFG c.num) 14 12 = 0)
    (free : s.held c.num = false) : State.groupExpires c s (s.wdgExpire c) := by
  obtain ⟨⟨expLow, expStat, expApart⟩, timeLow, timeStat, timeCause, timeLast, timeCnt, expTime⟩ := wdgPorts c
  obtain ⟨-, -, -, cntStat, cntLow⟩ := rstCnt_apart c
  obtain ⟨u, eu⟩ : ∃ u, u = s.count (Port.WDG_EXPCNT c.num) := ⟨_, rfl⟩
  have counted : u.get (Port.WDG_EXPCNT c.num) = satInc (s.get (Port.WDG_EXPCNT c.num)) := by
    rw [eu]
    exact s.get_count_same _
  have kept : ∀ p, Port.WDG_EXPCNT c.num ≠ p → u.get p = s.get p := fun p apart => by
    rw [eu]
    exact s.get_count_other apart
  have on : u.domOn c.num = s.domOn c.num := getB_of_get (kept Port.PWR_DOM_STAT expStat) c.num
  have run : s.wdgExpire c = (u.groupDown c.num).groupNoted c .watchdog := by
    rw [eu]
    exact (if_pos action).trans (groupReset_free _ _ free)
  have down := groupDown_halts u c
  obtain ⟨resets, cause, last⟩ := groupNoted_records (u.groupDown c.num) c .watchdog
  rw [run]
  exact {
    expiries := (groupNoted_get _ c _ expLow expApart).trans
      ((down.regs _ expLow expStat).trans counted)
    cause := cause
    dom := (getB_of_get (groupNoted_get _ c _ (by decide) (by cases c <;> decide)) c.num).trans
      (down.gone _ (core_mem_groupDoms c))
    reset := fun up => by
      rw [groupNoted_core]
      exact down.reset c (core_mem_groupDoms c) (on.trans up)
    resets := resets.trans (congrArg satInc ((down.regs _ cntLow cntStat).trans (kept _ expApart.2.2)))
    last := last
    time := (groupNoted_get _ c _ timeLow ⟨timeCause, timeLast, timeCnt⟩).trans
      ((down.regs _ timeLow timeStat).trans (kept _ expTime)) }

/-- A channel with ACTION 1 makes a system reset. -/
theorem wdgExpire_system {s : State} {c : Core} (action : s.getF (Port.WDG_CFG c.num) 14 12 = 1) :
    s.wdgExpire c = (s.count (Port.WDG_EXPCNT c.num)).sysAfter (14 - c.num) s.pins.bootSel s.pins.stackId :=
  (if_neg (by omega)).trans ((if_pos action).trans (sysResetNow_watchdog _ c _ _))

/-- A channel with ACTION 2 makes a cold reset. -/
theorem wdgExpire_cold {s : State} {c : Core} (action : s.getF (Port.WDG_CFG c.num) 14 12 = 2) :
    s.wdgExpire c = (s.count (Port.WDG_EXPCNT c.num)).coldResetNow (.watchdog c) s.pins.bootSel s.pins.stackId :=
  (if_neg (by omega)).trans (if_neg (by omega))

theorem coldReset_watchdog (s : State) (c : Core) (b : BitVec 2) (i : BitVec 3) :
    (s.coldResetNow (.watchdog c) b i).getB Port.RST_CAUSE (14 - c.num) = true ∧
    (s.coldResetNow (.watchdog c) b i).rig.booting = true ∧
    (s.coldResetNow (.watchdog c) b i).time.link = 0 ∧
    (s.coldResetNow (.watchdog c) b i).fuses = s.fuses ∧
    (s.coldResetNow (.watchdog c) b i).pending = s.pending := by
  have fuses : s.cutWork.fuses = s.fuses := fuses_of_fused (cutWork_fused s)
  have pending : s.cutWork.pending = s.pending := pending_of_calm (cutWork_calm s)
  refine ⟨resetCause_cause _ _ _ (show 14 - c.num < 18 by omega), ?_⟩
  unfold State.coldResetNow
  revert fuses pending
  generalize s.cutWork = c'
  intro fuses pending
  exact ⟨rfl, rfl, fuses, pending⟩

/-! ## The statement (O44) -/

theorem kicked {s t : State} {m : Master} {c : Core} {v : Word} (a : s.answers m (Port.WDG_KICK c.num) = true)
    {P : State → Prop} (run : s.wdgKickBy m c v = t) (h : P t) : Completes (.wdgKick m c v) s P :=
  completes_portCmd (act := fun t => t.wdgKickBy m c v) rfl a (by rw [run]; exact h)

/-- A kick of the channel's own core, with the channel on. -/
theorem wdgKickBy_own {s : State} {m : Master} {c : Core} {v : Word} (own : m.core = some c)
    (on : s.getB (Port.WDG_CFG c.num) 17 = true) :
    s.wdgKickBy m c v =
      if Cells.rd (fun _ => 0) s.pwr.kick c.num = 0 then
        (if v = 0o252525 then s.setKick c.num 1 else s.wdgExpire c)
      else if v = 0o525252 ∧ s.wdgOpen c.num then s.wdgRestart c.num else s.wdgExpire c :=
  if_neg (by simp [own, on])

theorem wdgEnd_none {s : State} {c : Core}
    (h : s.wdgCounts c.num = false ∨ s.getF (Port.WDG_STAT c.num) 15 0 ≠ 0) : s.wdgEnd c = s :=
  if_neg fun ⟨counts, _, zero⟩ => by
    rcases h with stands | left
    · rw [stands] at counts
      contradiction
    · exact left zero

theorem wdgEnd_on {s : State} {c : Core} (counts : s.wdgCounts c.num = true)
    (zero : s.getF (Port.WDG_STAT c.num) 15 0 = 0) (on : s.domOn c.num = true) : s.wdgEnd c = s.wdgExpire c :=
  (if_pos ⟨counts, .inl on, zero⟩).trans (if_pos (.inl on))

theorem wdgEnd_off {s : State} {c : Core} (counts : s.wdgCounts c.num = true)
    (zero : s.getF (Port.WDG_STAT c.num) 15 0 = 0) (off : s.domOn c.num = false) (reef : s.level ≠ 0)
    (action : s.getF (Port.WDG_CFG c.num) 14 12 = 0) : s.wdgEnd c = (s.wdgExpire c).wdgRestart c.num := by
  refine (if_pos ⟨counts, .inr reef, zero⟩).trans (if_neg ?_)
  simp [off, action]

theorem sysAfter_outlives (s : State) (bit : Nat) (b : BitVec 2) (i : BitVec 3) :
    State.outlives s (s.sysAfter bit b i) := by
  obtain ⟨link, fuses, booting, pending⟩ := sysAfter_keeps s bit b i
  exact ⟨link, fuses, booting, sysAfter_groups s bit b i, pending⟩

theorem State.outlives.set {s t : State} (h : State.outlives s t) {p : Nat} (v : Word) (apart : p ≠ Port.EVF_GRP) :
    State.outlives s (t.set p v) :=
  ⟨h.link, h.fuses, h.booting, (t.get_set_other v apart).trans h.groups, h.pending⟩

/-- A system reset after a loss of a clock: before the loss is counted. -/
structure State.clockReset (bit : Nat) (s t : State) : Prop where
  lives : State.outlives s t
  losses : t.get Port.CLK_LOSSCNT = s.get Port.CLK_LOSSCNT
  cause : t.getB Port.RST_CAUSE bit = true
  last : t.get Port.RST_LAST = inFld 17 15 2 ||| inFld 14 9 bit ||| inFld 3 0 0

theorem sysAfter_clockReset (s : State) {bit : Nat} (b : BitVec 2) (i : BitVec 3) (h : bit < 18) :
    State.clockReset bit s (s.sysAfter bit b i) :=
  ⟨sysAfter_outlives s bit b i, sysAfter_kept s bit b i (by decide) (by decide) (by decide) (by decide) (by decide),
    sysAfter_cause s b i h, sysAfter_last s bit b i⟩

/-- The system PLL's loss of lock is counted and recorded (R398). -/
theorem clockReset_counted {s u : State} (h : State.clockReset 7 s u) :
    (u.count Port.CLK_LOSSCNT).get Port.RST_LAST = inFld 17 15 2 ||| inFld 14 9 7 ∧
    (u.count Port.CLK_LOSSCNT).getB Port.RST_CAUSE 7 = true ∧ s.counts Port.CLK_LOSSCNT (u.count Port.CLK_LOSSCNT) ∧
    State.outlives s (u.count Port.CLK_LOSSCNT) :=
  ⟨(u.get_count_other (by decide)).trans (h.last.trans (by decide)),
    (getB_of_get (u.get_count_other (by decide)) 7).trans h.cause,
    (u.get_count_same _).trans (congrArg satInc h.losses), h.lives.set _ (by decide)⟩

/-- REFLOSS, and both PLL locks gone, while a system reset is held (R398). -/
def State.refHeld (s : State) : State :=
  (((({ s with time := { s.time with stopped := true } }).setB Port.CLK_STAT 12 true).setF Port.CLK_STAT 17 16 0).count
    Port.CLK_LOSSCNT).setB Port.LTB_STAT 0 true

/-- A loss of REFCLK sets REFLOSS, is counted and recorded, and holds the system reset (R398). -/
theorem clockReset_held {s u : State} (h : State.clockReset 8 s u) :
    u.refHeld.get Port.RST_LAST = inFld 17 15 2 ||| inFld 14 9 8 ∧ u.refHeld.getB Port.RST_CAUSE 8 = true ∧
    s.counts Port.CLK_LOSSCNT u.refHeld ∧ u.refHeld.time.stopped = true ∧ u.refHeld.getB Port.CLK_STAT 12 = true ∧
    u.refHeld.getF Port.CLK_STAT 17 16 = 0 ∧ State.outlives s u.refHeld := by
  obtain ⟨v, ev⟩ : ∃ v : State, v = { u with time := { u.time with stopped := true } } := ⟨_, rfl⟩
  have held : State.outlives s v := by
    rw [ev]
    exact ⟨h.lives.link, h.lives.fuses, h.lives.booting, h.lives.groups, h.lives.pending⟩
  have stopped : v.time.stopped = true := by rw [ev]
  have same : v.regs = u.regs := by rw [ev]
  have run : u.refHeld = (((v.setB Port.CLK_STAT 12 true).setF Port.CLK_STAT 17 16 0).count Port.CLK_LOSSCNT).setB
      Port.LTB_STAT 0 true := by rw [ev]; rfl
  have reads : ∀ p, p ≠ Port.LTB_STAT → p ≠ Port.CLK_LOSSCNT → p ≠ Port.CLK_STAT → u.refHeld.get p = u.get p :=
    fun p noLtb noCount noClock => by
      rw [run]
      exact (State.get_set_other _ _ (Ne.symm noLtb)).trans ((State.get_count_other _ (Ne.symm noCount)).trans
        ((State.get_set_other _ _ (Ne.symm noClock)).trans ((State.get_set_other _ _ (Ne.symm noClock)).trans
          (congrArg (fun r => Cells.rd coldOf r p) same))))
  have clock : u.refHeld.get Port.CLK_STAT =
      ((v.setB Port.CLK_STAT 12 true).setF Port.CLK_STAT 17 16 0).get Port.CLK_STAT := by
    rw [run]
    exact (State.get_set_other _ _ (by decide)).trans (State.get_count_other _ (by decide))
  refine ⟨(reads _ (by decide) (by decide) (by decide)).trans (h.last.trans (by decide)),
    (getB_of_get (reads _ (by decide) (by decide) (by decide)) 8).trans h.cause, ?_, ?_, ?_, ?_, ?_⟩
  · refine Eq.trans ?_ (congrArg satInc h.losses)
    rw [run]
    refine (State.get_set_other _ _ (by decide)).trans ((State.get_count_same _ _).trans (congrArg satInc ?_))
    exact (State.get_set_other _ _ (by decide)).trans ((State.get_set_other _ _ (by decide)).trans
      (congrArg (fun r => Cells.rd coldOf r Port.CLK_LOSSCNT) same))
  · rw [run]
    exact stopped
  · refine (getB_of_get clock 12).trans ?_
    rw [State.getB_setF_apart _ _ _ _ _ _ _ (by decide) (by decide)]
    exact v.getB_setB_same _ _ _ (by decide)
  · exact (getF_of_get clock 17 16).trans (State.getF_setF_same _ _ _ _ _ (by decide))
  · rw [run]
    exact (((held.set _ (by decide)).set _ (by decide)).set _ (by decide)).set _ (by decide)

theorem refLost_eq {s : State} (run : s.level ≠ 4) (clocked : s.getB Port.CLK_STAT 17 = true) :
    s.refLost = (s.sysAfter 8 s.pins.bootSel s.pins.stackId).refHeld :=
  (if_neg (by simp [run, clocked])).trans (sysResetNow_refLoss s _ _)

/-- Settles O44: a group's reset by `groupDown_halts`, a system reset by what `sysAfter` keeps. -/
theorem clocksAndWatchdogs : Obligations.ClocksAndWatchdogs := by
  unfold Obligations.ClocksAndWatchdogs
  intro s
  refine ⟨?lost, fun none => completes_eq rfl (if_pos none) rfl, ?back,
    fun b i none => completes_eq rfl (if_pos none) rfl, ?unlock, ?other, ?first, ?second, ?early, ?wrong, ?warns,
    ?quiet, ?expires, ?system, ?cold, ?off, fun c none => completes_eq rfl (wdgEnd_none none) rfl⟩
  case lost =>
    intro run clocked
    obtain ⟨last, cause, counts, stopped, loss, locks, lives⟩ := clockReset_held
      (sysAfter_clockReset s (bit := 8) s.pins.bootSel s.pins.stackId (by decide))
    exact completes_eq rfl (refLost_eq run clocked) ⟨last, cause, counts, stopped, loss, locks, lives.link,
      lives.fuses, lives.booting, lives.groups, lives.pending⟩
  case back =>
    intro b i run lost
    refine ⟨_, rfl, refBack_touches b i run lost, ?_⟩
    rw [refBack_of_lost b i run lost]
    refine ⟨rfl, ?_, rfl, rfl, rfl⟩
    exact (congrArg (fun w => fld w 17 16) (State.get_set_other _ _ (by decide))).trans
      (State.getF_setF_same _ _ _ _ _ (by decide))
  case unlock =>
    obtain ⟨last, cause, counts, lives⟩ := clockReset_counted
      (sysAfter_clockReset s (bit := 7) s.pins.bootSel s.pins.stackId (by decide))
    exact completes_eq rfl (sysResetNow_pll s _ _) ⟨last, cause, counts, lives.link, lives.fuses, lives.booting,
      lives.groups, lives.pending⟩
  case other =>
    intro m c v a other
    exact kicked a (if_pos (.inl other)) rfl
  case first =>
    intro m c v a own on fresh word
    exact kicked a ((wdgKickBy_own own on).trans ((if_pos fresh).trans (if_pos word))) rfl
  case second =>
    intro m c v a own on kicked' word opened
    refine kicked a ((wdgKickBy_own own on).trans ((if_neg kicked').trans (if_pos ⟨word, opened⟩))) ?_
    exact ⟨wdgRestart_touches s c, wdgRestart_count s c.num,
      Cells.rd_wr_same (fun _ => 0) s.pwr.kick c.num 0, Cells.rd_wr_same (fun _ => 0) s.pwr.warned c.num 0,
      fun p apart => wdgRestart_get s c.num apart⟩
  case early =>
    intro m c v a own on fresh word action free up
    have expires := wdgExpire_group action free
    refine kicked a ((wdgKickBy_own own on).trans ((if_pos fresh).trans (if_neg word))) ?_
    exact ⟨expires.expiries, expires.cause, expires.dom, expires.reset up, expires.resets, expires.last⟩
  case wrong =>
    intro m c v a own on kicked' word action free up
    have expires := wdgExpire_group action free
    have not : ¬(v = 0o525252 ∧ s.wdgOpen c.num = true) := fun ⟨good, opened⟩ => by
      rcases word with bad | closed
      · exact bad good
      · rw [closed] at opened
        contradiction
    refine kicked a ((wdgKickBy_own own on).trans ((if_neg kicked').trans (if_neg not))) ?_
    exact ⟨expires.expiries, expires.cause, expires.dom, expires.reset up, expires.resets, expires.last⟩
  case warns =>
    intro c counts warn fresh level
    refine completes_eq rfl (if_pos ⟨counts, warn, fresh, level⟩) ?_
    refine ⟨((pwr_touches s _).seq (raise_touches _ _)).mono (by decide) (by decide), ?_,
      raises_of_raise (by decide) fun k => by cases k <;> rfl⟩
    rw [show _ = _ from (raise_touches _ Irq.WDG_WARN).1 .pwr (by decide)]
    exact Cells.rd_wr_same (fun _ => 0) s.pwr.warned c.num 1
  case quiet =>
    intro c none
    refine completes_eq rfl (if_neg fun ⟨counts, warn, fresh, _⟩ => ?_) rfl
    rcases none with stands | zero | raised
    · rw [stands] at counts
      contradiction
    · exact warn zero
    · exact raised fresh
  case expires =>
    intro c counts zero action free up
    have expires := wdgExpire_group action free
    refine completes_eq rfl (wdgEnd_on counts zero up) ?_
    exact ⟨expires.expiries, expires.cause, expires.dom, expires.reset up, expires.resets, expires.last⟩
  case system =>
    intro c counts zero up action
    obtain ⟨expStat, expApart⟩ : (Port.WDG_EXPCNT c.num ≠ Port.PWR_DOM_STAT ∧
      Port.WDG_EXPCNT c.num ≠ Port.CLK_STAT ∧ Port.WDG_EXPCNT c.num ≠ Port.RIG_STRAP) ∧
      Port.WDG_EXPCNT c.num ≠ Port.RST_CAUSE ∧ Port.WDG_EXPCNT c.num ≠ Port.RST_LAST := by cases c <;> decide
    refine completes_eq rfl ((wdgEnd_on counts zero up).trans (wdgExpire_system action)) ?_
    have lives := sysAfter_outlives (s.count (Port.WDG_EXPCNT c.num)) (14 - c.num) s.pins.bootSel s.pins.stackId
    have kept := sysAfter_kept (s.count (Port.WDG_EXPCNT c.num)) (14 - c.num) s.pins.bootSel s.pins.stackId
      (by cases c <;> decide) expStat expApart (by cases c <;> decide) (by cases c <;> decide)
    exact ⟨kept.trans (s.get_count_same _), sysAfter_cause _ _ _ (by omega), lives.link, lives.fuses, lives.booting,
      lives.groups, lives.pending⟩
  case cold =>
    intro c counts zero up action
    obtain ⟨cause, booting, link, fuses, pending⟩ := coldReset_watchdog (s.count (Port.WDG_EXPCNT c.num)) c
      s.pins.bootSel s.pins.stackId
    exact completes_eq rfl ((wdgEnd_on counts zero up).trans (wdgExpire_cold action))
      ⟨cause, booting, link, congrArg Fuses.okh fuses, pending⟩
  case off =>
    intro c counts zero down reef free action
    have expires := wdgExpire_group action free
    refine completes_eq rfl (wdgEnd_off counts zero down reef action) ⟨?_, ?_⟩
    · exact (wdgRestart_get _ _ (by cases c <;> decide)).trans expires.expiries
    · rw [wdgRestart_count]
      unfold State.wdgTimeout
      rw [getF_of_get expires.time]


/-! ## The power controller's own steps (R390-R392) -/

theorem setPhase_phase (s : State) {v : Nat} (h : v < 8) : (s.setPhase v).phase = v :=
  (s.getF_setF_same _ _ _ _ (by decide)).trans (Nat.mod_eq_of_lt h)

theorem setPhase_level (s : State) (v : Nat) : (s.setPhase v).level = s.level :=
  s.getF_setF_apart _ _ _ _ _ _ _ (by decide) (by decide)

theorem setPhase_target (s : State) (v : Nat) : (s.setPhase v).target = s.target :=
  s.getF_setF_apart _ _ _ _ _ _ _ (by decide) (by decide)

theorem setPhase_get (s : State) (v : Nat) {p : Nat} (h : p ≠ Port.PWR_STAT) : (s.setPhase v).get p = s.get p :=
  s.get_set_other _ (Ne.symm h)

/-- A command of a master other than the debugger acts (R390). -/
theorem levelCmd_acts {s t : State} {m : Master} {i : Instr} {v : Word} (a : s.answers m Port.PWR_CMD = true)
    (run : exec i s = .next (s.levelCmd m v)) (other : m ≠ .dbg) (act : s.pwrCmd v = t) {P : State → Prop} (h : P t) :
    Completes i s P := by
  refine completes_portCmd (act := fun t => if m = .dbg then t else t.pwrCmd v) run a ?_
  rw [if_neg other, act]
  exact h

theorem levelCmd_dbg {s : State} {m : Master} {i : Instr} {v : Word} (a : s.answers m Port.PWR_CMD = true)
    (run : exec i s = .next (s.levelCmd m v)) (dbg : m = .dbg) : Completes i s fun t => t = s :=
  completes_portCmd (act := fun t => if m = .dbg then t else t.pwrCmd v) run a (if_pos dbg)

/-- A level asked for at rest becomes TARGET, and the entry begins. -/
theorem pwrCmd_enters {s : State} {v : Word} {n : Nat} (code : v.toNat = n) (level : 1 ≤ n ∧ n ≤ 4)
    (rest : s.phase = 0) (away : ¬(n = 1 ∧ s.level = 1)) :
    s.pwrCmd v = (s.setF Port.PWR_STAT 14 12 n).setPhase 1 := by
  subst code
  unfold State.pwrCmd
  dsimp only
  rw [if_neg (by omega), if_neg (by omega), if_neg fun bad => bad.elim (fun busy => busy rest) away]

/-- A level asked for in an entry or an exit, or Reef 1 in Reef 1, sets OVR. -/
theorem pwrCmd_overruns {s : State} {v : Word} (level : 1 ≤ v.toNat ∧ v.toNat ≤ 4)
    (bad : s.phase ≠ 0 ∨ (v.toNat = 1 ∧ s.level = 1)) : s.pwrCmd v = s.setB Port.PWR_STAT 7 true := by
  unfold State.pwrCmd
  dsimp only
  rw [if_neg (by omega), if_neg (by omega), if_pos bad]

theorem pwrCmd_cancel (s : State) : s.pwrCmd 5 = s.pwrAbandon := by
  unfold State.pwrCmd
  dsimp only
  exact if_pos (by decide)

theorem entered (s : State) {n : Nat} (level : 1 ≤ n ∧ n ≤ 4) :
    s.touches [.regs] [Blk.sys] ((s.setF Port.PWR_STAT 14 12 n).setPhase 1) ∧
    ((s.setF Port.PWR_STAT 14 12 n).setPhase 1).phase = 1 ∧ ((s.setF Port.PWR_STAT 14 12 n).setPhase 1).target = n ∧
    ((s.setF Port.PWR_STAT 14 12 n).setPhase 1).level = s.level ∧
    ∀ p, p ≠ Port.PWR_STAT → ((s.setF Port.PWR_STAT 14 12 n).setPhase 1).get p = s.get p := by
  refine ⟨(set_touches _ _ (by decide)).trans (set_touches _ _ (by decide)), setPhase_phase _ (by decide), ?_, ?_,
    fun p away => (setPhase_get _ _ away).trans (s.get_set_other _ (Ne.symm away))⟩
  · rw [setPhase_target]
    exact (s.getF_setF_same _ _ _ _ (by decide)).trans (Nat.mod_eq_of_lt (by omega))
  · rw [setPhase_level]
    exact s.getF_setF_apart _ _ _ _ _ _ _ (by decide) (by decide)

/-! ## An entry that is given up (R392) -/

/-- An entry before its point of no return. -/
def State.entering (s : State) : Prop := s.phase = 1 ∨ s.phase = 2

/-- The entry is given up: at rest again, counted, with PWR_EVT. -/
structure State.givesUp (s t : State) : Prop where
  touches : s.touches [.regs, .pends, .evf] [Blk.sys, Blk.evf] t
  phase : t.phase = 0
  abort : t.getB Port.PWR_STAT 8 = true
  level : t.level = s.level
  counts : s.counts Port.PWR_ABORTCNT t
  raises : s.raises Irq.PWR_EVT t

theorem level_of_get {s t : State} (h : t.get Port.PWR_STAT = s.get Port.PWR_STAT) : t.level = s.level :=
  getF_of_get h 17 15

theorem pwrAbandon_entering {s : State} (h : s.entering) :
    s.pwrAbandon = (((s.setPhase 0).setB Port.PWR_STAT 8 true).count Port.PWR_ABORTCNT).raise Irq.PWR_EVT := if_pos h

theorem pwrAbandon_rest {s : State} (h : ¬ s.entering) : s.pwrAbandon = s := if_neg h

theorem pwrAbandon_givesUp {s : State} (h : s.entering) : State.givesUp s s.pwrAbandon := by
  obtain ⟨u, eu⟩ : ∃ u, u = (s.setPhase 0).setB Port.PWR_STAT 8 true := ⟨_, rfl⟩
  have stat : ((u.count Port.PWR_ABORTCNT).raise Irq.PWR_EVT).get Port.PWR_STAT = u.get Port.PWR_STAT :=
    (raise_get _ _ _ (by decide)).trans (u.get_count_other (by decide))
  rw [pwrAbandon_entering h, ← eu]
  exact {
    touches := by
      rw [eu]
      exact ((((set_touches (b := Blk.sys) _ _ (by decide)).trans (set_touches _ _ (by decide))).trans
        (set_touches _ _ (by decide))).seq (raise_touches _ _)).mono (by decide) (by decide)
    phase := by
      rw [phase_of_get stat, eu]
      exact (State.getF_setB_apart _ _ _ _ _ _ _ (by decide) (by decide)).trans (setPhase_phase s (by decide))
    abort := by
      rw [getB_of_get stat, eu]
      exact State.getB_setB_same _ _ _ _ (by decide)
    level := by
      rw [level_of_get stat, eu]
      exact (State.getF_setB_apart _ _ _ _ _ _ _ (by decide) (by decide)).trans (setPhase_level s 0)
    counts := by
      refine (raise_get _ _ _ (by decide)).trans ((u.get_count_same _).trans (congrArg satInc ?_))
      rw [eu]
      exact (State.get_set_other _ _ (by decide)).trans (setPhase_get s 0 (by decide))
    raises := raises_of_raise (by decide) fun c => by
      rw [eu]
      cases c <;> rfl }

/-- A wake source that is recorded before the point of no return gives the entry up. -/
theorem wake_givesUp {s : State} (h : s.entering) {src : Nat} (small : src < 6) :
    State.givesUp s (s.setB Port.PWR_WAKE_SRC src true).wakeNow ∧
    (s.setB Port.PWR_WAKE_SRC src true).wakeNow.getB Port.PWR_WAKE_SRC src = true := by
  obtain ⟨u, eu⟩ : ∃ u, u = s.setB Port.PWR_WAKE_SRC src true := ⟨_, rfl⟩
  have stat : u.get Port.PWR_STAT = s.get Port.PWR_STAT := by
    rw [eu]
    exact s.get_set_other _ (by decide)
  have count : u.get Port.PWR_ABORTCNT = s.get Port.PWR_ABORTCNT := by
    rw [eu]
    exact s.get_set_other _ (by decide)
  have wrote : s.touches [.regs] [Blk.sys] u := by
    rw [eu]
    exact set_touches _ _ (by decide)
  have inEntry : u.entering := by
    unfold State.entering
    rw [phase_of_get stat]
    exact h
  have run : u.wakeNow = u.pwrAbandon := if_pos inEntry
  have up := pwrAbandon_givesUp inEntry
  rw [← eu, run]
  refine ⟨{
    touches := (wrote.mono (by decide) (by decide)).trans up.touches
    phase := up.phase
    abort := up.abort
    level := up.level.trans (level_of_get stat)
    counts := up.counts.trans (congrArg satInc count)
    raises := fun c live => up.raises c (by rw [eu]; cases c <;> exact live) }, ?_⟩
  rw [pwrAbandon_entering inEntry]
  refine (getB_of_get ((raise_get _ _ _ (by decide)).trans ((State.get_count_other _ (by decide)).trans
    ((State.get_set_other _ _ (by decide)).trans (setPhase_get u 0 (by decide))))) src).trans ?_
  rw [eu]
  exact s.getB_setB_same _ _ _ (by omega)

theorem wakeFrom_enabled {s : State} {src : Nat} (on : s.getB Port.PWR_WAKE src = true) :
    s.wakeFrom src = (s.setB Port.PWR_WAKE_SRC src true).wakeNow := if_pos on

theorem wakeFrom_disabled {s : State} {src : Nat} (off : s.getB Port.PWR_WAKE src = false) : s.wakeFrom src = s :=
  if_neg (by simp [off])


/-! ## Domains that go off in an entry (R391) -/

theorem core_pwr (s : State) (x : Pwr) (c : Core) : ({ s with pwr := x } : State).core c = s.core c := by
  cases c <;> rfl

theorem domOff_halts (s : State) {d : Nat} (in16 : d < 16) : s.halts (· = d) (s.domOff d) := by
  have h := domStop_halts s false in16
  exact {
    regs := h.regs
    gone := h.gone
    kept := h.kept
    time := h.time
    pending := h.pending
    flash := h.flash
    other := fun c away => (congrArg CoreState.vital (core_pwr _ _ c)).trans (h.other c away)
    reset := fun c out on => (congrArg CoreState.inReset (core_pwr _ _ c)).trans (h.reset c out on)
    stays := fun c r => (congrArg CoreState.inReset (core_pwr _ _ c)).trans (h.stays c r)
    free := fun c g => (congrArg CoreState.gated (core_pwr _ _ c)).trans (h.free c g) }

/-- The switch of the domain opens, and no other. -/
theorem domOff_on (s : State) {d e : Nat} (in16 : e < 16) :
    (s.domOff d).pwr.on.getLsbD e = (s.pwr.on.getLsbD e && decide (e ≠ d)) := by
  have on : (s.domOff d).pwr.on = s.pwr.on &&& ~~~(BitVec.twoPow 16 d) :=
    congrArg (fun x : Pwr => x.on &&& ~~~(BitVec.twoPow 16 d)) (domStop_pwr s d false)
  rw [on, BitVec.getLsbD_and, BitVec.getLsbD_not, BitVec.getLsbD_twoPow]
  by_cases same : d = e
  · simp [same, in16]
  · simp [same, Ne.symm same, in16]

/-- Domains go off one after the other. -/
def State.allOff (s : State) (l : List Nat) : State := forEach l (fun d u => u.domOff d) s

theorem allOff_cons (s : State) (d : Nat) (r : List Nat) : s.allOff (d :: r) = (s.domOff d).allOff r := rfl

theorem allOff_halts (l : List Nat) (s : State) (in16 : ∀ d ∈ l, d < 16) : s.halts (· ∈ l) (s.allOff l) := by
  induction l generalizing s with
  | nil => exact halts_none s fun d out => absurd out List.not_mem_nil
  | cons d r ih =>
    exact (domOff_halts s (in16 d List.mem_cons_self)).trans
      (ih _ fun e out => in16 e (List.mem_cons_of_mem _ out)) fun e => List.mem_cons

theorem allOff_on (l : List Nat) (s : State) {e : Nat} (in16 : e < 16) :
    (s.allOff l).pwr.on.getLsbD e = (s.pwr.on.getLsbD e && decide (e ∉ l)) := by
  induction l generalizing s with
  | nil => simp [State.allOff, forEach]
  | cons d r ih =>
    rw [allOff_cons, ih, domOff_on s in16]
    by_cases same : e = d <;> simp [same]

/-- The domains that an entry turns off, the highest first. -/
def State.offList (s : State) (l : Nat) : List Nat := (List.range 16).reverse.filter fun d => s.goesOff l d

theorem mem_offList (s : State) (l d : Nat) : d ∈ s.offList l ↔ d < 16 ∧ s.goesOff l d = true := by
  simp [State.offList]

/-! ## Clocks of the cores (R391, R394) -/

theorem gateCore_get (s : State) (c : Nat) (v : Bool) (p : Nat) : (s.gateCore c v).get p = s.get p := by
  unfold State.gateCore State.setCore
  split <;> rfl

theorem gateCore_self (s : State) (c : Core) (v : Bool) : ((s.gateCore c.num v).core c).gated = v := by
  cases c <;> rfl

theorem gateCore_other (s : State) {c k : Core} (v : Bool) (h : k ≠ c) : (s.gateCore c.num v).core k = s.core k := by
  cases c with
  | apc =>
    cases k with
    | apc => exact absurd rfl h
    | lkc => rfl
  | lkc =>
    cases k with
    | apc => rfl
    | lkc => exact absurd rfl h

/-- Beside the cores' clocks a gate changes nothing. -/
theorem gateCore_keeps (s : State) (c : Nat) (v : Bool) : (s.gateCore c v).time = s.time ∧
    (s.gateCore c v).pwr = s.pwr ∧ (s.gateCore c v).mem = s.mem ∧ (s.gateCore c v).link = s.link := by
  unfold State.gateCore State.setCore
  split <;> exact ⟨rfl, rfl, rfl, rfl⟩

/-- The clocks of the cores whose domains stay on are gated. -/
def State.gateOn (s : State) : State := forNat 2 (fun c u => if u.domOn c then u.gateCore c true else u) s

theorem gateOn_get (s : State) (p : Nat) : s.gateOn.get p = s.get p :=
  forNat_keeps (fun t => t.get p) _ (fun c u => by
    split
    · exact gateCore_get u c true p
    · rfl) 2 s

theorem gateOn_keeps (s : State) : s.gateOn.time = s.time ∧ s.gateOn.pwr = s.pwr ∧ s.gateOn.mem = s.mem := by
  have all := forNat_keeps (fun t : State => (t.time, t.pwr, t.mem))
    (fun c u => if u.domOn c then u.gateCore c true else u)
    (fun c u => by
      split
      · obtain ⟨time, pwr, mem, -⟩ := gateCore_keeps u c true
        exact Prod.ext time (Prod.ext pwr mem)
      · rfl) 2 s
  exact ⟨congrArg Prod.fst all, congrArg (·.2.1) all, congrArg (·.2.2) all⟩

/-- The clock of a core whose domain is on is gated. -/
def State.gateUp (s : State) (c : Core) : State := if s.domOn c.num then s.gateCore c.num true else s

theorem gateOn_eq (s : State) : s.gateOn = (s.gateUp .apc).gateUp .lkc := rfl

theorem gateUp_self (s : State) {c : Core} (on : s.domOn c.num = true) : ((s.gateUp c).core c).gated = true := by
  unfold State.gateUp
  rw [if_pos on]
  exact gateCore_self s c true

theorem gateUp_other (s : State) {c k : Core} (h : k ≠ c) : (s.gateUp c).core k = s.core k := by
  unfold State.gateUp
  split
  · exact gateCore_other s true h
  · rfl

theorem gateUp_domOn (s : State) (c : Core) (d : Nat) : (s.gateUp c).domOn d = s.domOn d := by
  unfold State.gateUp
  split
  · exact getB_of_get (gateCore_get s c.num true _) d
  · rfl

theorem gateOn_gated (s : State) {c : Core} (on : s.domOn c.num = true) : (s.gateOn.core c).gated = true := by
  rw [gateOn_eq]
  cases c with
  | apc =>
    rw [gateUp_other _ (by decide)]
    exact gateUp_self s on
  | lkc => exact gateUp_self _ ((gateUp_domOn s .apc _).trans on)

/-! ## The end of an entry (R391) -/

theorem setLevel_get (s : State) (v : Nat) {p : Nat} (low : aonPort p = true) :
    (s.setLevel v).get p = (s.setF Port.PWR_STAT 17 15 v).get p := get_of_aon (withEdges_aon s _) low

theorem setLevel_level (s : State) {v : Nat} (h : v < 8) : (s.setLevel v).level = v :=
  (level_of_get (setLevel_get s v (by decide))).trans
    ((s.getF_setF_same _ _ _ _ (by decide)).trans (Nat.mod_eq_of_lt h))

theorem setLevel_phase (s : State) (v : Nat) : (s.setLevel v).phase = s.phase :=
  (phase_of_get (setLevel_get s v (by decide))).trans (s.getF_setF_apart _ _ _ _ _ _ _ (by decide) (by decide))

theorem setLevel_other (s : State) (v : Nat) {p : Nat} (low : aonPort p = true) (h : p ≠ Port.PWR_STAT) :
    (s.setLevel v).get p = s.get p := (setLevel_get s v low).trans (s.get_set_other _ (Ne.symm h))

theorem target_lt (s : State) : s.target < 8 := fld_lt _ 14 12

/-- The state in which LEVEL has become TARGET: every domain to go off is off, the other cores' clocks are gated. -/
def State.inLevel (s : State) (l : Nat) : State :=
  ((((if l = 3 then s.endCalendar else s).allOff (s.offList l)).gateOn).setPhase 0).setLevel l

/-- In Reef 3 and Furl the system PLL stops. -/
def State.pllStopped (s : State) (l : Nat) : State := if 3 ≤ l then s.setB Port.CLK_STAT 16 false else s

/-- In Furl REFCLK stops as well. -/
def State.refStopped (s : State) : State :=
  ({ s with time := { s.time with stopped := true } }).setB Port.CLK_STAT 17 false

theorem entryDone_eq {s : State} (phase : s.phase = 2) (apc : s.coreWaits 0 = true) (lkc : s.coreWaits 1 = true)
    (sends : s.sendsYet s.target = false) :
    s.entryDone =
      if s.target = 4 then ((s.inLevel s.target).pllStopped s.target).refStopped
      else (s.inLevel s.target).pllStopped s.target :=
  if_neg (by simp [phase, apc, lkc, sends])

theorem entryDone_waits {s : State}
    (h : s.phase ≠ 2 ∨ s.coreWaits 0 = false ∨ s.coreWaits 1 = false ∨ s.sendsYet s.target = true) :
    s.entryDone = s := by
  refine if_pos ?_
  rcases h with away | busy | busy | sends
  · exact .inl away
  · exact .inr (.inl (by rw [busy]; rfl))
  · exact .inr (.inl (by rw [busy]; simp))
  · exact .inr (.inr sends)

/-- A level is reached: its domains are off, the others as they were. -/
structure State.reaches (l : Nat) (s t : State) : Prop where
  level : t.level = l
  phase : t.phase = 0
  off : ∀ d, d < 16 → s.goesOff l d = true → t.domOn d = false ∧ t.pwr.on.getLsbD d = false
  kept : ∀ d, d < 16 → s.goesOff l d = false → t.domOn d = s.domOn d ∧ t.pwr.on.getLsbD d = s.pwr.on.getLsbD d
  link : t.time.link = s.time.link
  flash : t.mem.flash = s.mem.flash

theorem quieted_aon (s : State) (l : Nat) : (if l = 3 then s.endCalendar else s).aon = s.aon := by
  split
  · exact endCalendar_aon s
  · rfl

theorem allOff_reached {s u : State} (l : Nat) (h : u.aon = s.aon) :
    s.halts (· ∈ s.offList l) (u.allOff (s.offList l)) :=
  (halts_of_aon h).trans (allOff_halts _ u fun d out => ((mem_offList s l d).mp out).1) fun d => by simp

theorem levelled_get (u : State) (l : Nat) {p : Nat} (low : aonPort p = true) (h : p ≠ Port.PWR_STAT) :
    ((u.gateOn.setPhase 0).setLevel l).get p = u.get p :=
  (setLevel_other _ l low h).trans ((setPhase_get _ 0 h).trans (gateOn_get u p))

theorem levelled_keeps (u : State) (l : Nat) : ((u.gateOn.setPhase 0).setLevel l).time = u.time ∧
    ((u.gateOn.setPhase 0).setLevel l).pwr = u.pwr ∧ ((u.gateOn.setPhase 0).setLevel l).mem.flash = u.mem.flash := by
  have edges : ((u.gateOn.setPhase 0).setLevel l).aon = ((u.gateOn.setPhase 0).setF Port.PWR_STAT 17 15 l).aon :=
    withEdges_aon _ _
  obtain ⟨time, pwr, mem⟩ := gateOn_keeps u
  exact ⟨(time_of_aon edges).trans time, (pwr_of_aon edges).trans pwr,
    (flash_of_aon edges).trans (congrArg Mem.flash mem)⟩

theorem inLevel_reaches (s : State) {l : Nat} (small : l < 8) : State.reaches l s (s.inLevel l) := by
  have quiet := quieted_aon s l
  unfold State.inLevel
  revert quiet
  generalize (if l = 3 then s.endCalendar else s) = u
  intro quiet
  have halts := allOff_reached l quiet
  have switches : ∀ d, d < 16 → (u.allOff (s.offList l)).pwr.on.getLsbD d =
      (s.pwr.on.getLsbD d && decide (d ∉ s.offList l)) := fun d in16 => by
    rw [allOff_on _ u in16, pwr_of_aon quiet]
  obtain ⟨time, pwr, flash⟩ := levelled_keeps (u.allOff (s.offList l)) l
  have shown : ∀ d, (((u.allOff (s.offList l)).gateOn.setPhase 0).setLevel l).domOn d =
      (u.allOff (s.offList l)).domOn d := fun d => getB_of_get (levelled_get _ l (by decide) (by decide)) d
  exact {
    level := setLevel_level _ small
    phase := (setLevel_phase _ l).trans (setPhase_phase _ (by decide))
    off := fun d in16 goes => by
      have out : d ∈ s.offList l := (mem_offList s l d).mpr ⟨in16, goes⟩
      refine ⟨(shown d).trans (halts.gone d out), ?_⟩
      rw [pwr, switches d in16]
      simp [out]
    kept := fun d in16 stays => by
      have out : d ∉ s.offList l := fun mem => by
        rw [((mem_offList s l d).mp mem).2] at stays
        contradiction
      refine ⟨(shown d).trans (halts.kept d out), ?_⟩
      rw [pwr, switches d in16]
      simp [out]
    link := congrArg Time.link (time.trans halts.time)
    flash := flash.trans halts.flash }

theorem inLevel_time (s : State) (l : Nat) : (s.inLevel l).time = s.time := by
  have quiet := quieted_aon s l
  obtain ⟨time, -, -⟩ := levelled_keeps ((if l = 3 then s.endCalendar else s).allOff (s.offList l)) l
  exact time.trans (allOff_reached l quiet).time

/-- A core whose domain stays on has its clock gated (R391). -/
theorem inLevel_gated {s : State} {l : Nat} {c : Core} (stays : s.goesOff l c.num = false)
    (on : s.domOn c.num = true) : ((s.inLevel l).core c).gated = true := by
  have quiet := quieted_aon s l
  obtain ⟨u, eu⟩ : ∃ u, u = (if l = 3 then s.endCalendar else s).allOff (s.offList l) := ⟨_, rfl⟩
  have out : c.num ∉ s.offList l := fun mem => by
    rw [((mem_offList s l _).mp mem).2] at stays
    contradiction
  have up : u.domOn c.num = true := by
    rw [eu]
    exact ((allOff_reached l quiet).kept _ out).trans on
  have run : s.inLevel l = (u.gateOn.setPhase 0).setLevel l := by
    rw [eu]
    rfl
  have edges : ((u.gateOn.setPhase 0).setLevel l).aon = ((u.gateOn.setPhase 0).setF Port.PWR_STAT 17 15 l).aon :=
    withEdges_aon _ _
  have core : ((u.gateOn.setPhase 0).setF Port.PWR_STAT 17 15 l).core c = u.gateOn.core c := by cases c <;> rfl
  rw [run, gated_of_vital (vital_of_aon edges c), core]
  exact gateOn_gated u up

theorem State.reaches.clock {l : Nat} {s t : State} (h : State.reaches l s t) (b : Nat) :
    State.reaches l s (t.setB Port.CLK_STAT b false) :=
  have same : ∀ d, (t.setB Port.CLK_STAT b false).domOn d = t.domOn d := fun d =>
    getB_of_get (t.get_set_other _ (by decide)) d
  { level := (level_of_get (t.get_set_other _ (by decide))).trans h.level
    phase := (phase_of_get (t.get_set_other _ (by decide))).trans h.phase
    off := fun d in16 goes => ⟨(same d).trans (h.off d in16 goes).1, (h.off d in16 goes).2⟩
    kept := fun d in16 stays => ⟨(same d).trans (h.kept d in16 stays).1, (h.kept d in16 stays).2⟩
    link := h.link
    flash := h.flash }

theorem State.reaches.pllStopped {l : Nat} {s t : State} (h : State.reaches l s t) (k : Nat) :
    State.reaches l s (t.pllStopped k) := by
  unfold State.pllStopped
  split
  · exact h.clock 16
  · exact h

theorem State.reaches.refStopped {l : Nat} {s t : State} (h : State.reaches l s t) :
    State.reaches l s t.refStopped :=
  State.reaches.clock (t := { t with time := { t.time with stopped := true } })
    ⟨h.level, h.phase, h.off, h.kept, h.link, h.flash⟩ 17

theorem refStopped_stops (s : State) : s.refStopped.getB Port.CLK_STAT 16 = s.getB Port.CLK_STAT 16 ∧
    s.refStopped.getB Port.CLK_STAT 17 = false ∧ s.refStopped.time.stopped = true :=
  ⟨State.getB_setB_other _ _ _ _ _ _ (by decide) (by decide), State.getB_setB_same _ _ _ _ (by decide), rfl⟩

theorem pllStopped_time (s : State) (l : Nat) : (s.pllStopped l).time = s.time := by
  unfold State.pllStopped
  split <;> rfl

theorem pllStopped_off (s : State) {l : Nat} (h : 3 ≤ l) : (s.pllStopped l).getB Port.CLK_STAT 16 = false := by
  unfold State.pllStopped
  rw [if_pos h]
  exact s.getB_setB_same _ _ _ (by decide)


/-! ## A core that boots (R361, R363) -/

/-- What image selection for a core leaves: the always-on part, the other core, and whether its clock is gated. -/
structure State.boots (c : Core) (s t : State) : Prop where
  calm : t.calm = s.calm
  other : ∀ k : Core, k ≠ c → t.core k = s.core k
  gated : (t.core c).gated = (s.core c).gated

theorem boots_refl (c : Core) (s : State) : State.boots c s s := ⟨rfl, fun _ _ => rfl, rfl⟩

theorem State.boots.trans {c : Core} {s t u : State} (h : State.boots c s t) (k : State.boots c t u) :
    State.boots c s u :=
  ⟨k.calm.trans h.calm, fun x away => (k.other x away).trans (h.other x away), k.gated.trans h.gated⟩

/-- An operation that leaves both cores. -/
theorem boots_of {c : Core} {s t : State} (calm : t.calm = s.calm) (core : ∀ k, t.core k = s.core k) :
    State.boots c s t := ⟨calm, fun k _ => core k, congrArg CoreState.gated (core c)⟩

theorem set_core (s : State) (p : Nat) (v : Word) (k : Core) : (s.set p v).core k = s.core k := by cases k <;> rfl

theorem set_boots (c : Core) (s : State) {p : Nat} (v : Word) (h : 0x0D00 ≤ p) : State.boots c s (s.set p v) :=
  boots_of (calm_of_aon (set_aon s v h)) (set_core s p v)

theorem setF_boots (c : Core) (s : State) {p : Nat} (hi lo v : Nat) (h : 0x0D00 ≤ p) :
    State.boots c s (s.setF p hi lo v) := set_boots c s _ h

theorem setB_boots (c : Core) (s : State) {p : Nat} (b : Nat) (v : Bool) (h : 0x0D00 ≤ p) :
    State.boots c s (s.setB p b v) := set_boots c s _ h

theorem setWide_boots (c : Core) (s : State) {p : Nat} (n v : Nat) (h : 0x0D00 ≤ p) :
    State.boots c s (s.setWide p n v) :=
  boots_of (calm_of_aon (setWide_aon s n v h)) fun k => by cases k <;> rfl

theorem updSec_boots (c : Core) (s : State) (f : Sec → Sec) : State.boots c s (s.updSec f) :=
  boots_of rfl fun k => by cases k <;> rfl

theorem flashSet_boots (c : Core) (s : State) (b o : Nat) (v : Word) : State.boots c s (s.flashSet b o v) :=
  boots_of rfl fun k => by cases k <;> rfl

theorem eraseWords_boots (c : Core) (s : State) (b n : Nat) : State.boots c s (s.eraseWords b n) :=
  boots_of rfl fun k => by cases k <;> rfl

theorem programAt_boots (c : Core) (s : State) (b o : Nat) (l : List Word) : State.boots c s (s.programAt b o l) := by
  induction l generalizing s o with
  | nil => exact boots_refl c s
  | cons v r ih => exact (flashSet_boots c s b o v).trans (ih _ _)

theorem logAppend_boots (c : Core) (s : State) (kind core len : Nat) :
    State.boots c s (s.logAppend kind core len).2 := by
  unfold State.logAppend
  split
  · exact boots_refl c s
  · exact programAt_boots c s _ _ _

/-- Words stored in registers of the LCF (R363). -/
theorem wrs_boots (c : Core) (s : State) {p : Nat} (l : List Word) (h : 0x0D00 ≤ p) :
    State.boots c s { s with regs := Cells.wrs coldOf s.regs p l } :=
  boots_of (calm_of_aon (aon_of (fun q low => by
    rw [aonPort_iff] at low
    exact (Cells.rd_wrs coldOf l s.regs p q).trans (if_neg (by omega))) rfl rfl rfl rfl rfl rfl))
    fun k => by cases k <;> rfl

theorem lcfShow_boots (c : Core) (s : State) : State.boots c s s.lcfShow := by
  unfold State.lcfShow
  extract_lets t t1
  have shown : State.boots c s t1 := (set_boots c s _ (by decide)).trans (setWide_boots c t 15 _ (by decide))
  refine shown.trans ?_
  refine forNat_inv (fun u => State.boots c t1 u) _ (fun i u h => h.trans ?_) 2 t1 (boots_refl c t1)
  dsimp only
  split
  · exact boots_refl c u
  · exact wrs_boots c u _ (by split <;> decide)

theorem declareDead_boots (c : Core) (s : State) (k why : Nat) (d : BitVec 256) :
    State.boots c s (s.declareDead k why d) := by
  unfold State.declareDead
  extract_lets t t1
  have logged : State.boots c s t := logAppend_boots c s 5 k 0
  have written : State.boots c t t1 := (eraseWords_boots c t 3 _).trans (programAt_boots c _ 3 _ _)
  exact (((logged.trans written).trans (updSec_boots c t1 _)).trans
    (setB_boots c _ _ _ (by decide))).trans (lcfShow_boots c _)

theorem bootReport_boots (c : Core) (s : State) (k src why : Nat) : State.boots c s (s.bootReport k src why) :=
  (setF_boots c s _ _ _ (by decide)).trans (setF_boots c _ _ _ _ (by decide))

theorem coreOf_num (c : Core) : coreOf c.num = c := by cases c <;> rfl

theorem coreGo_boots (c : Core) (s : State) (entry : Word) : State.boots c s (s.coreGo c.num entry) := by
  unfold State.coreGo
  rw [coreOf_num]
  refine ⟨by cases c <;> rfl, fun k away => ?_, by cases c <;> rfl⟩
  cases c with
  | apc =>
    cases k with
    | apc => exact absurd rfl away
    | lkc => rfl
  | lkc =>
    cases k with
    | apc => rfl
    | lkc => exact absurd rfl away

theorem imageStart_boots (c : Core) (s : State) (src why : Nat) (anchor : Bool) (i : ImageInfo) :
    State.boots c s (s.imageStart c.num src why anchor i) :=
  (((updSec_boots c s _).trans (bootReport_boots c _ _ _ _)).trans (setWide_boots c _ _ _ (by simp))).trans
    (coreGo_boots c _ _)

theorem anchorStart_boots (c : Core) (s : State) (why : Nat) : State.boots c s (s.anchorStart c.num why) := by
  unfold State.anchorStart
  split
  · exact imageStart_boots c s _ _ _ _
  · extract_lets t
    have shown : State.boots c s t := (bootReport_boots c s _ _ _).trans (updSec_boots c _ _)
    refine shown.trans ?_
    clear_value t
    cases c with
    | apc => exact ⟨rfl, fun k away => by cases k; exacts [absurd rfl away, rfl], rfl⟩
    | lkc => exact boots_refl _ _

theorem activeStart_boots (c : Core) (s : State) : State.boots c s (s.activeStart c.num) := by
  unfold State.activeStart
  dsimp only
  split
  · exact imageStart_boots c s _ _ _ _
  · exact anchorStart_boots c s _

theorem activate_boots (c : Core) (s : State) : State.boots c s (s.activate c.num) :=
  ((logAppend_boots c s 2 c.num _).trans (updSec_boots c _ _)).trans
    (setF_boots c _ _ _ _ (by decide))

theorem selectImage_boots (c : Core) (s : State) (group : Bool) : State.boots c s (s.selectImage c.num group) := by
  unfold State.selectImage
  extract_lets st e t
  split
  · exact boots_refl c s
  · split
    · exact (declareDead_boots c s _ _ _).trans (anchorStart_boots c _ _)
    · split
      · exact activate_boots c s
      · split
        · exact coreGo_boots c s e
        · exact activeStart_boots c s

/-- What the start of a core leaves: of the always-on registers all but its group's in `PWR_DOM_STAT` and its watchdog's
count, the other core, and clocks that run. -/
structure State.starts (c : Core) (s t : State) : Prop where
  regs : ∀ p, aonPort p = true → p ≠ Port.PWR_DOM_STAT → p ≠ Port.WDG_STAT c.num → t.get p = s.get p
  other : ∀ k : Core, k ≠ c → (t.core k).vital = (s.core k).vital
  free : ∀ k : Core, (s.core k).gated = false → (t.core k).gated = false

theorem coreStart_starts (c : Core) (s : State) : State.starts c s (s.coreStart c.num) := by
  have boots := selectImage_boots c s true
  unfold State.coreStart
  dsimp only
  revert boots
  generalize s.selectImage c.num true = t
  intro boots
  have free : ∀ k : Core, (s.core k).gated = false → (t.core k).gated = false := fun k g => by
    by_cases same : k = c
    · rw [same] at g ⊢
      exact boots.gated.trans g
    · rw [boots.other k same]
      exact g
  have regs : ∀ p, aonPort p = true → t.get p = s.get p := fun p low => get_of_calm boots.calm low
  split
  · have down := groupDown_halts t c
    have apart : ∀ k : Core, k ≠ c → k.num ∉ groupDoms c.num := fun k away => by
      cases c with
      | apc =>
        cases k with
        | apc => exact absurd rfl away
        | lkc => decide
      | lkc =>
        cases k with
        | apc => decide
        | lkc => exact absurd rfl away
    exact ⟨fun p low stat _ => (down.regs p low stat).trans (regs p low),
      fun k away => (down.other k (apart k away)).trans (congrArg CoreState.vital (boots.other k away)),
      fun k g => down.free k (free k g)⟩
  · exact ⟨fun p low _ stat => (wdgRestart_get t _ stat).trans (regs p low),
      fun k away => congrArg CoreState.vital ((wdgRestart_core t _ k).trans (boots.other k away)),
      fun k g => (congrArg CoreState.gated (wdgRestart_core t _ k)).trans (free k g)⟩


/-! ## The end of an exit (R394) -/

/-- Both cores' clocks run. -/
def State.coresRun (s : State) : State := (s.gateCore 0 false).gateCore 1 false

theorem coresRun_get (s : State) (p : Nat) : s.coresRun.get p = s.get p :=
  (gateCore_get _ 1 false p).trans (gateCore_get s 0 false p)

theorem coresRun_gated (s : State) (c : Core) : (s.coresRun.core c).gated = false := by
  cases c with
  | apc =>
    exact (congrArg CoreState.gated (gateCore_other (c := .lkc) (k := .apc) _ false (by decide))).trans
      (gateCore_self s .apc false)
  | lkc => exact gateCore_self _ .lkc false

theorem coresRun_keeps (s : State) : s.coresRun.time = s.time ∧ s.coresRun.pwr = s.pwr ∧ s.coresRun.mem = s.mem := by
  obtain ⟨time, pwr, mem, -⟩ := gateCore_keeps s 0 false
  obtain ⟨time', pwr', mem', -⟩ := gateCore_keeps (s.gateCore 0 false) 1 false
  exact ⟨time'.trans time, pwr'.trans pwr, mem'.trans mem⟩

/-- At rest in Run, the cores' clocks running. -/
def State.exitRest (s : State) : State := ((s.setPhase 0).setLevel 0).coresRun

/-- A core whose domain was off starts, with cause REEF. -/
def State.reefStart (s : State) (c : Core) : State :=
  if (s.core c).inReset ∧ s.domOn c.num then
    ((s.resetCause (3 + c.num) 5 0).count (Port.RST_CNT c.num)).coreStart c.num else s

theorem exitEnd_eq (s : State) : s.exitEnd = (s.exitRest.reefStart .apc).reefStart .lkc := rfl

theorem resetCause_core (s : State) (cls bit dom : Nat) (k : Core) : (s.resetCause cls bit dom).core k = s.core k :=
  (set_core _ _ _ k).trans (set_core s _ _ k)

/-- Registers of the resets and watchdogs, which the start of a core may write. -/
def startPort (p : Nat) : Bool :=
  decide (p = Port.PWR_DOM_STAT) || inRange 0x0210 0x0215 p || inRange 0x0B00 0x0B3F p

/-- What the end of an exit leaves: the always-on registers beside those of resets and watchdogs, a core that is not in
reset, and clocks that run. -/
structure State.begins (s t : State) : Prop where
  regs : ∀ p, aonPort p = true → startPort p = false → t.get p = s.get p
  live : ∀ k : Core, (s.core k).inReset = false → (t.core k).vital = (s.core k).vital
  free : ∀ k : Core, (s.core k).gated = false → (t.core k).gated = false

theorem State.begins.trans {s t u : State} (h : State.begins s t) (k : State.begins t u) : State.begins s u where
  regs := fun p low away => (k.regs p low away).trans (h.regs p low away)
  live := fun c up => (k.live c ((inReset_of_vital (h.live c up)).trans up)).trans (h.live c up)
  free := fun c g => k.free c (h.free c g)

theorem reefStart_begins (s : State) (c : Core) : State.begins s (s.reefStart c) := by
  unfold State.reefStart
  split
  · next down =>
    obtain ⟨u, eu⟩ : ∃ u, u = (s.resetCause (3 + c.num) 5 0).count (Port.RST_CNT c.num) := ⟨_, rfl⟩
    have core : ∀ k, u.core k = s.core k := fun k => by
      rw [eu]
      exact (set_core _ _ _ k).trans (resetCause_core s _ _ _ k)
    have start := coreStart_starts c u
    rw [← eu]
    refine ⟨fun p low away => ?_, fun k up => ?_, fun k g => start.free k ((congrArg CoreState.gated (core k)).trans g)⟩
    · simp only [startPort, inRange, Bool.or_eq_false_iff, Bool.and_eq_false_iff, decide_eq_false_iff_not] at away
      obtain ⟨⟨stat, resets⟩, dogs⟩ := away
      have dog : p ≠ Port.WDG_STAT c.num := by
        have block : 0x0B00 ≤ Port.WDG_STAT c.num ∧ Port.WDG_STAT c.num ≤ 0x0B3F := by cases c <;> decide
        omega
      have cnt : Port.RST_CNT c.num ≠ p := by
        have block : 0x0210 ≤ Port.RST_CNT c.num ∧ Port.RST_CNT c.num ≤ 0x0215 := by cases c <;> decide
        omega
      rw [start.regs p low stat dog, eu, State.get_count_other _ cnt]
      exact resetCause_get s _ _ _ (by unfold Port.RST_CAUSE; omega) (by unfold Port.RST_LAST; omega)
    · have other : k ≠ c := fun same => by
        rw [same, down.1] at up
        contradiction
      exact (start.other k other).trans (congrArg CoreState.vital (core k))
  · exact ⟨fun _ _ _ => rfl, fun _ _ => rfl, fun _ g => g⟩

theorem exitEnd_begins (s : State) : State.begins s.exitRest s.exitEnd := by
  rw [exitEnd_eq]
  exact (reefStart_begins s.exitRest .apc).trans (reefStart_begins _ .lkc)

theorem exitRest_get (s : State) {p : Nat} (low : aonPort p = true) :
    s.exitRest.get p = ((s.setPhase 0).setF Port.PWR_STAT 17 15 0).get p :=
  (coresRun_get _ p).trans (setLevel_get _ 0 low)

theorem exitRest_gated (s : State) (c : Core) : (s.exitRest.core c).gated = false := coresRun_gated _ c

/-- An exit ends in Run, at rest, with both cores' clocks running. -/
theorem exitEnd_rests (s : State) : s.exitEnd.level = 0 ∧ s.exitEnd.phase = 0 ∧
    ((s.exitEnd.core .apc).gated = false ∧ (s.exitEnd.core .lkc).gated = false) := by
  have begins := exitEnd_begins s
  have stat : s.exitEnd.get Port.PWR_STAT = ((s.setPhase 0).setF Port.PWR_STAT 17 15 0).get Port.PWR_STAT :=
    (begins.regs _ (by decide) (by decide)).trans (exitRest_get s (by decide))
  refine ⟨(level_of_get stat).trans (State.getF_setF_same _ _ _ _ _ (by decide)), ?_,
    begins.free .apc (exitRest_gated s .apc), begins.free .lkc (exitRest_gated s .lkc)⟩
  exact (phase_of_get stat).trans ((State.getF_setF_apart _ _ _ _ _ _ _ _ (by decide) (by decide)).trans
    (setPhase_phase s (by decide)))

/-- Beside PWR_STAT, and what the cores' starts write, the end of an exit leaves the always-on registers. -/
theorem exitEnd_get (s : State) {p : Nat} (low : aonPort p = true) (away : startPort p = false)
    (stat : p ≠ Port.PWR_STAT) : s.exitEnd.get p = s.get p :=
  ((exitEnd_begins s).regs p low away).trans ((exitRest_get s low).trans
    ((State.get_set_other _ _ (Ne.symm stat)).trans (setPhase_get s 0 stat)))

/-! ## The beginning of an exit (R394) -/

/-- From Furl the XREF input starts. -/
def State.xrefBack (s : State) : State :=
  if s.level = 4 then
    (({ s with time := { s.time with stopped := false } }).setB Port.CLK_STAT 17 true).setB Port.LTB_STAT 0 true
  else s

/-- The switches of the domains of Run close. -/
def State.runClosed (s : State) : State :=
  { s with pwr := { s.pwr with on := s.pwr.on ||| s.runDomains },
           link := { s.link with sniff := none, sniffOn := false } }

/-- An exit that has begun: the system PLL runs, and but in Reef 2 the cores' clocks. -/
def State.exitBegun (s : State) (reef2 : Bool) : State :=
  let t := (s.setB Port.CLK_STAT 16 true).setWindow false
  (if reef2 then t else t.coresRun).setPhase 4

theorem levelExit_eq (s : State) :
    s.levelExit =
      if (s.xrefBack.runClosed.exitBegun (decide (s.level = 2))).allUp then
        (s.xrefBack.runClosed.exitBegun (decide (s.level = 2))).exitEnd
      else s.xrefBack.runClosed.exitBegun (decide (s.level = 2)) := by
  unfold State.exitBegun
  simp only [decide_eq_true_eq]
  rfl

theorem xrefBack_get (s : State) {p : Nat} (low : aonPort p = true) (h : p ≠ Port.CLK_STAT) :
    s.xrefBack.get p = s.get p := by
  unfold State.xrefBack
  split
  · have ltb : Port.LTB_STAT ≠ p := fun e => by
      rw [← e] at low
      contradiction
    exact (State.get_set_other _ _ ltb).trans (State.get_set_other _ _ (Ne.symm h))
  · rfl

theorem xrefBack_keeps (s : State) : s.xrefBack.pwr = s.pwr ∧ s.xrefBack.mem = s.mem ∧
    s.xrefBack.time.stopped = (s.time.stopped && decide (s.level ≠ 4)) := by
  unfold State.xrefBack
  split
  · next furl => exact ⟨rfl, rfl, by simp [furl]⟩
  · next reef => exact ⟨rfl, rfl, by simp [reef]⟩

theorem windowed_aon (s : State) (v : Bool) : (s.setWindow v).aon = (s.setB Port.PWR_STAT 6 v).aon := withEdges_aon s _

theorem windowed_mem (s : State) (v : Bool) : (s.setWindow v).mem = s.mem := by
  obtain ⟨-, -, -, r, a, l, e, rest⟩ := withEdges_frame s fun t => t.setB Port.PWR_STAT 6 v
  exact (congrArg State.mem rest :)

theorem exitBegun_get (s : State) (reef2 : Bool) {p : Nat} (low : aonPort p = true) (stat : p ≠ Port.PWR_STAT) :
    (s.exitBegun reef2).get p = (s.setB Port.CLK_STAT 16 true).get p := by
  have window : ((s.setB Port.CLK_STAT 16 true).setWindow false).get p = (s.setB Port.CLK_STAT 16 true).get p :=
    (get_of_aon (windowed_aon _ false) low).trans (State.get_set_other _ _ (Ne.symm stat))
  unfold State.exitBegun
  dsimp only
  rw [setPhase_get _ _ stat]
  split
  · exact window
  · exact (coresRun_get _ p).trans window

theorem exitBegun_stat (s : State) (reef2 : Bool) : (s.exitBegun reef2).phase = 4 ∧
    (s.exitBegun reef2).level = s.level := by
  have window : ((s.setB Port.CLK_STAT 16 true).setWindow false).level = s.level :=
    (level_of_get (get_of_aon (windowed_aon _ false) (by decide))).trans
      ((State.getF_setB_apart _ _ _ _ _ _ _ (by decide) (by decide)).trans
        (level_of_get (s.get_set_other _ (by decide))))
  refine ⟨setPhase_phase _ (by decide), (setPhase_level _ 4).trans ?_⟩
  split
  · exact window
  · exact (level_of_get (coresRun_get _ _)).trans window

theorem exitBegun_keeps (s : State) (reef2 : Bool) : (s.exitBegun reef2).time = s.time ∧
    (s.exitBegun reef2).pwr = s.pwr ∧ (s.exitBegun reef2).mem = s.mem := by
  obtain ⟨t, et⟩ : ∃ t, t = (s.setB Port.CLK_STAT 16 true).setWindow false := ⟨_, rfl⟩
  have window : t.time = s.time ∧ t.pwr = s.pwr ∧ t.mem = s.mem := by
    have edges := windowed_aon (s.setB Port.CLK_STAT 16 true) false
    rw [et]
    exact ⟨(time_of_aon edges :), (pwr_of_aon edges :), windowed_mem _ false⟩
  have run : s.exitBegun reef2 = (if reef2 then t else t.coresRun).setPhase 4 := by
    rw [et]
    rfl
  obtain ⟨time, pwr, mem⟩ := coresRun_keeps t
  rw [run]
  split
  · exact window
  · exact ⟨time.trans window.1, pwr.trans window.2.1, mem.trans window.2.2⟩

/-! ## A wake in a level at rest (R393, R394) -/

/-- The state an exit begins with. -/
def State.exiting (s : State) : State := s.xrefBack.runClosed.exitBegun (decide (s.level = 2))

theorem exiting_get (s : State) {p : Nat} (low : aonPort p = true) (clock : p ≠ Port.CLK_STAT)
    (stat : p ≠ Port.PWR_STAT) : s.exiting.get p = s.get p :=
  (exitBegun_get _ _ low stat).trans ((State.get_set_other _ _ (Ne.symm clock)).trans (xrefBack_get s low clock))

theorem exiting_pwr (s : State) : s.exiting.pwr = { s.pwr with on := s.pwr.on ||| s.runDomains } := by
  obtain ⟨-, pwr, -⟩ := exitBegun_keeps s.xrefBack.runClosed (decide (s.level = 2))
  have run : s.xrefBack.runDomains = s.runDomains := by
    unfold State.runDomains
    rw [(xrefBack_keeps s).1, xrefBack_get s (by decide) (by decide)]
  refine pwr.trans ?_
  unfold State.runClosed
  rw [run, (xrefBack_keeps s).1]

theorem exiting_allUp (s : State) : s.exiting.allUp =
    (List.range 16).all fun d => !(s.pwr.on ||| s.runDomains).getLsbD d || s.domOn d := by
  have shown : ∀ d, s.exiting.domOn d = s.domOn d := fun d =>
    getB_of_get (exiting_get s (by decide) (by decide) (by decide)) d
  unfold State.allUp
  simp only [shown, exiting_pwr]

theorem levelExit_exiting (s : State) :
    s.levelExit = if s.exiting.allUp then s.exiting.exitEnd else s.exiting := levelExit_eq s

theorem wakeNow_reef {s : State} (rest : s.phase = 0) (reef : s.level ≠ 0) : s.wakeNow = s.levelExit := by
  refine (if_neg ?_).trans (if_pos ⟨rest, reef⟩)
  rw [rest]
  decide


/-- A wake in a level at rest while a domain of Run is not up: its switch closes, and PHASE is 4. -/
theorem wake_waits {s : State} {src d : Nat} (small : src < 6) (rest : s.phase = 0) (reef : s.level ≠ 0) (in16 : d < 16)
    (run : s.runDomains.getLsbD d = true) (down : s.domOn d = false) :
    (s.setB Port.PWR_WAKE_SRC src true).wakeNow.getB Port.PWR_WAKE_SRC src = true ∧
    (s.setB Port.PWR_WAKE_SRC src true).wakeNow.pwr.on = s.pwr.on ||| s.runDomains ∧
    (s.setB Port.PWR_WAKE_SRC src true).wakeNow.phase = 4 ∧
    (s.setB Port.PWR_WAKE_SRC src true).wakeNow.level = s.level ∧
    (s.setB Port.PWR_WAKE_SRC src true).wakeNow.getB Port.CLK_STAT 16 = true ∧
    (s.setB Port.PWR_WAKE_SRC src true).wakeNow.time.stopped = (s.time.stopped && decide (s.level ≠ 4)) ∧
    (s.setB Port.PWR_WAKE_SRC src true).wakeNow.mem = s.mem := by
  obtain ⟨u, eu⟩ : ∃ u, u = s.setB Port.PWR_WAKE_SRC src true := ⟨_, rfl⟩
  have other : ∀ p, p ≠ Port.PWR_WAKE_SRC → u.get p = s.get p := fun p away => by
    rw [eu]
    exact s.get_set_other _ (Ne.symm away)
  have noted : u.getB Port.PWR_WAKE_SRC src = true := by
    rw [eu]
    exact s.getB_setB_same _ _ _ (by omega)
  have same : u.pwr = s.pwr ∧ u.time = s.time ∧ u.mem = s.mem := by
    rw [eu]
    exact ⟨rfl, rfl, rfl⟩
  have level : u.level = s.level := level_of_get (other _ (by decide))
  have phase : u.phase = s.phase := phase_of_get (other _ (by decide))
  have runs : u.runDomains = s.runDomains := by
    unfold State.runDomains
    rw [same.1, other _ (by decide)]
  have waits : u.exiting.allUp = false := by
    rw [exiting_allUp, List.all_eq_false]
    refine ⟨d, List.mem_range.mpr in16, ?_⟩
    have off : u.domOn d = false := (getB_of_get (other Port.PWR_DOM_STAT (by decide)) d).trans down
    rw [BitVec.getLsbD_or, runs, run, off]
    simp
  have exits : u.wakeNow = u.exiting := by
    rw [wakeNow_reef (phase.trans rest) (level ▸ reef), levelExit_exiting, waits]
    exact if_neg (by decide)
  obtain ⟨time, -, mem⟩ := exitBegun_keeps u.xrefBack.runClosed (decide (u.level = 2))
  obtain ⟨-, xmem, stopped⟩ := xrefBack_keeps u
  obtain ⟨four, lvl⟩ := exitBegun_stat u.xrefBack.runClosed (decide (u.level = 2))
  rw [← eu, exits]
  refine ⟨(getB_of_get (exiting_get u (by decide) (by decide) (by decide)) src).trans noted, ?_, four, ?_, ?_, ?_, ?_⟩
  · rw [exiting_pwr, same.1, runs]
  · exact lvl.trans ((level_of_get (xrefBack_get u (by decide) (by decide))).trans level)
  · exact (getB_of_get (exitBegun_get _ _ (by decide) (by decide)) 16).trans (State.getB_setB_same _ _ _ _ (by decide))
  · refine (congrArg Time.stopped time).trans (stopped.trans ?_)
    rw [same.2.1, level]
  · exact mem.trans (xmem.trans same.2.2)

/-- With every domain of Run up the device is in Run at once. -/
theorem wake_runs {s : State} {src : Nat} (small : src < 6) (rest : s.phase = 0) (reef : s.level ≠ 0)
    (up : ∀ d, d < 16 → (s.pwr.on ||| s.runDomains).getLsbD d = true → s.domOn d = true) :
    (s.setB Port.PWR_WAKE_SRC src true).wakeNow.getB Port.PWR_WAKE_SRC src = true ∧
    (s.setB Port.PWR_WAKE_SRC src true).wakeNow.level = 0 ∧ (s.setB Port.PWR_WAKE_SRC src true).wakeNow.phase = 0 ∧
    ((s.setB Port.PWR_WAKE_SRC src true).wakeNow.core .apc).gated = false ∧
    ((s.setB Port.PWR_WAKE_SRC src true).wakeNow.core .lkc).gated = false := by
  obtain ⟨u, eu⟩ : ∃ u, u = s.setB Port.PWR_WAKE_SRC src true := ⟨_, rfl⟩
  have other : ∀ p, p ≠ Port.PWR_WAKE_SRC → u.get p = s.get p := fun p away => by
    rw [eu]
    exact s.get_set_other _ (Ne.symm away)
  have noted : u.getB Port.PWR_WAKE_SRC src = true := by
    rw [eu]
    exact s.getB_setB_same _ _ _ (by omega)
  have same : u.pwr = s.pwr := by rw [eu]; rfl
  have runs : u.runDomains = s.runDomains := by
    unfold State.runDomains
    rw [same, other _ (by decide)]
  have all : u.exiting.allUp = true := by
    rw [exiting_allUp, List.all_eq_true]
    intro d mem
    have shown : u.domOn d = s.domOn d := getB_of_get (other Port.PWR_DOM_STAT (by decide)) d
    rw [same, runs, shown, Bool.or_eq_true, Bool.not_eq_true']
    cases on : (s.pwr.on ||| s.runDomains).getLsbD d with
    | false => exact .inl rfl
    | true => exact .inr (up d (List.mem_range.mp mem) on)
  have exits : u.wakeNow = u.exiting.exitEnd := by
    rw [wakeNow_reef ((phase_of_get (other _ (by decide))).trans rest)
      ((level_of_get (other _ (by decide))) ▸ reef), levelExit_exiting, all]
    exact if_pos rfl
  obtain ⟨level, phase, apc, lkc⟩ := exitEnd_rests u.exiting
  rw [← eu, exits]
  exact ⟨(getB_of_get ((exitEnd_get _ (by decide) (by decide) (by decide)).trans
    (exiting_get u (by decide) (by decide) (by decide))) src).trans noted, level, phase, apc, lkc⟩

/-- A core in WAIT with an interrupt above its level, in an entry. -/
theorem wakeByIrq_due {s : State} {c : Core} (entry : s.phase = 2) (up : (s.core c).inReset = false)
    (waits : (s.core c).waiting = true) (above : (s.core c).above.isSome = true) :
    s.wakeByIrq = (s.setB Port.PWR_WAKE_SRC 5 true).wakeNow := by
  refine if_pos ⟨?_, .inr (.inl entry)⟩
  rw [List.any_eq_true]
  exact ⟨c, by cases c <;> decide, by simp [up, waits, above]⟩

theorem wakeByIrq_none {s : State} (apc : (s.core .apc).above = none) (lkc : (s.core .lkc).above = none) :
    s.wakeByIrq = s := by
  refine if_neg fun due => ?_
  obtain ⟨due, -⟩ := due
  simp [apc, lkc] at due

/-- Settles O42: `inLevel_reaches` says what an entry turns off, `pwrAbandon_givesUp` what giving it up does, and
`wake_waits` and `wake_runs` what an exit does. -/
theorem entryToAndExitFromALevel : Obligations.EntryToAndExitFromALevel := by
  unfold Obligations.EntryToAndExitFromALevel
  intro s
  refine ⟨?reef1, ?reef2, ?reef3, ?furl, ?busy, ?again, fun m a dbg => levelCmd_dbg a rfl dbg, ?cancel, ?idle,
    fun phase quiet => completes_eq rfl (if_pos ⟨phase, quiet⟩) rfl, ?stays, ?reached, ?gated, ?third, ?last, ?waits,
    ?disabled, ?gives, ?closes, ?runs, ?interrupt, ?none⟩
  case reef1 =>
    intro m a other rest away
    exact levelCmd_acts a rfl other (pwrCmd_enters (n := 1) rfl (by decide) rest fun bad => away bad.2)
      (entered s (by decide))
  case reef2 =>
    intro m a other rest
    exact levelCmd_acts a rfl other (pwrCmd_enters (n := 2) rfl (by decide) rest fun bad => absurd bad.1 (by decide))
      (entered s (by decide))
  case reef3 =>
    intro m a other rest
    exact levelCmd_acts a rfl other (pwrCmd_enters (n := 3) rfl (by decide) rest fun bad => absurd bad.1 (by decide))
      (entered s (by decide))
  case furl =>
    intro m a other rest
    exact levelCmd_acts a rfl other (pwrCmd_enters (n := 4) rfl (by decide) rest fun bad => absurd bad.1 (by decide))
      (entered s (by decide))
  case busy =>
    intro m a other under
    exact levelCmd_acts a rfl other (pwrCmd_overruns (by decide) (.inl under)) rfl
  case again =>
    intro m a other rest level
    exact levelCmd_acts a rfl other (pwrCmd_overruns (by decide) (.inr ⟨rfl, level⟩)) rfl
  case cancel =>
    intro m a other entry
    have gives := pwrAbandon_givesUp entry
    exact levelCmd_acts a rfl other (pwrCmd_cancel s) ⟨gives.touches, gives.phase, gives.abort, gives.level,
      gives.counts, gives.raises⟩
  case idle =>
    intro m a one two
    by_cases dbg : m = .dbg
    · exact levelCmd_dbg a rfl dbg
    · refine levelCmd_acts a rfl dbg ((pwrCmd_cancel s).trans (pwrAbandon_rest fun entry => ?_)) rfl
      exact entry.elim one two
  case stays =>
    intro none
    refine completes_eq rfl (if_neg fun ⟨phase, quiet⟩ => ?_) rfl
    rcases none with away | loud
    · exact away phase
    · rw [loud] at quiet
      contradiction
  case reached =>
    intro phase apc lkc sends
    have reaches := (inLevel_reaches s (target_lt s)).pllStopped s.target
    have last : State.reaches s.target s s.entryDone := by
      rw [entryDone_eq phase apc lkc sends]
      split
      · exact reaches.refStopped
      · exact reaches
    exact ⟨_, rfl, last.level, last.phase, fun d in16 => ⟨last.off d in16, last.kept d in16⟩, last.link, last.flash⟩
  case gated =>
    intro c phase apc lkc sends stays on one
    have run : s.entryDone = s.inLevel 1 := by
      rw [entryDone_eq phase apc lkc sends, one]
      exact (if_neg (by decide)).trans (if_neg (by decide))
    refine completes_eq rfl run ⟨inLevel_gated ?_ on, (inLevel_reaches s (by decide)).level⟩
    rw [← one]
    exact stays
  case third =>
    intro phase apc lkc sends three
    have run : s.entryDone = (s.inLevel 3).pllStopped 3 := by
      rw [entryDone_eq phase apc lkc sends, three]
      exact if_neg (by decide)
    refine completes_eq rfl run ⟨((inLevel_reaches s (by decide)).pllStopped 3).level, pllStopped_off _ (by decide), ?_⟩
    exact congrArg Time.stopped ((pllStopped_time _ 3).trans (inLevel_time s 3))
  case last =>
    intro phase apc lkc sends four
    have run : s.entryDone = ((s.inLevel 4).pllStopped 4).refStopped := by
      rw [entryDone_eq phase apc lkc sends, four]
      exact if_pos rfl
    obtain ⟨pll, ref, stopped⟩ := refStopped_stops ((s.inLevel 4).pllStopped 4)
    exact completes_eq rfl run ⟨((inLevel_reaches s (by decide)).pllStopped 4).refStopped.level,
      pll.trans (pllStopped_off _ (by decide)), ref, stopped⟩
  case waits =>
    intro none
    exact completes_eq rfl (entryDone_waits none) rfl
  case disabled =>
    intro src other off
    exact completes_eq rfl ((if_neg other).trans (wakeFrom_disabled off)) rfl
  case gives =>
    intro src other on entry
    obtain ⟨gives, noted⟩ := wake_givesUp entry src.isLt
    exact completes_eq rfl ((if_neg other).trans (wakeFrom_enabled on)) ⟨gives.touches, noted, gives.phase, gives.abort,
      gives.level, gives.counts, gives.raises⟩
  case closes =>
    intro src d other on rest reef run down
    exact completes_eq rfl ((if_neg other).trans (wakeFrom_enabled on)) (wake_waits src.isLt rest reef d.isLt run down)
  case runs =>
    intro src other on rest one up
    exact completes_eq rfl ((if_neg other).trans (wakeFrom_enabled on))
      (wake_runs src.isLt rest (by rw [one]; decide) up)
  case interrupt =>
    intro c entry up waits above
    obtain ⟨gives, noted⟩ := wake_givesUp (.inr entry) (src := 5) (by decide)
    exact completes_eq rfl ((if_pos rfl).trans (wakeByIrq_due entry up waits above)) ⟨gives.touches, noted, gives.phase,
      gives.abort, gives.level, gives.counts, gives.raises⟩
  case none =>
    intro src five apc lkc
    exact completes_eq rfl ((if_pos five).trans (wakeByIrq_none apc lkc)) rfl


/-! ## What a wake leaves of the real-time clock (R393, R437) -/

/-- The registers of the RTC stay, and RTC_ALARM stays pending in a core that runs. -/
structure State.keepsRtc (s t : State) : Prop where
  regs : ∀ p, 0x0C00 ≤ p → p ≤ 0x0CFF → t.get p = s.get p
  live : ∀ k : Core, (s.core k).inReset = false →
    (t.core k).inReset = false ∧ (t.core k).ipend.getLsbD 4 = (s.core k).ipend.getLsbD 4

theorem keepsRtc_refl (s : State) : State.keepsRtc s s := ⟨fun _ _ _ => rfl, fun _ up => ⟨up, rfl⟩⟩

theorem State.keepsRtc.trans {s t u : State} (h : State.keepsRtc s t) (k : State.keepsRtc t u) :
    State.keepsRtc s u where
  regs := fun p low high => (k.regs p low high).trans (h.regs p low high)
  live := fun c up => by
    obtain ⟨stays, bit⟩ := h.live c up
    obtain ⟨still, same⟩ := k.live c stays
    exact ⟨still, same.trans bit⟩

theorem keepsRtc_of {s t : State} (regs : ∀ p, 0x0C00 ≤ p → p ≤ 0x0CFF → t.get p = s.get p)
    (core : ∀ k, t.core k = s.core k) : State.keepsRtc s t :=
  ⟨regs, fun k up => by rw [core]; exact ⟨up, rfl⟩⟩

theorem rtcPort_aon {p : Nat} (low : 0x0C00 ≤ p) (high : p ≤ 0x0CFF) : aonPort p = true := by
  rw [aonPort_iff]
  omega

theorem keepsRtc_of_aon {s t : State} (h : t.aon = s.aon) : State.keepsRtc s t :=
  ⟨fun _ low high => get_of_aon h (rtcPort_aon low high), fun k up =>
    ⟨(inReset_of_vital (vital_of_aon h k)).trans up, alarm_of_vital (vital_of_aon h k)⟩⟩

theorem set_keepsRtc (s : State) {p : Nat} (v : Word) (h : p < 0x0C00 ∨ 0x0CFF < p) : State.keepsRtc s (s.set p v) :=
  keepsRtc_of (fun _ _ _ => s.get_set_other v (by omega)) (set_core s p v)

theorem gateCore_keepsRtc (s : State) (c : Nat) (v : Bool) : State.keepsRtc s (s.gateCore c v) :=
  ⟨fun p _ _ => gateCore_get s c v p, fun k up => by
    by_cases first : c = 0
    · subst first
      cases k <;> exact ⟨up, rfl⟩
    · have lkc : coreOf c = .lkc := if_neg first
      unfold State.gateCore
      rw [lkc]
      cases k <;> exact ⟨up, rfl⟩⟩

theorem coresRun_keepsRtc (s : State) : State.keepsRtc s s.coresRun :=
  (gateCore_keepsRtc s 0 false).trans (gateCore_keepsRtc _ 1 false)

theorem pwrAbandon_keepsRtc (s : State) : State.keepsRtc s s.pwrAbandon := by
  by_cases entry : s.entering
  · rw [pwrAbandon_entering entry]
    exact (((set_keepsRtc s _ (by decide)).trans (set_keepsRtc _ _ (by decide))).trans
      (set_keepsRtc _ _ (by decide))).trans (keepsRtc_of_aon (raise_aon _ (by decide)))
  · rw [pwrAbandon_rest entry]
    exact keepsRtc_refl s

theorem xrefBack_keepsRtc (s : State) : State.keepsRtc s s.xrefBack := by
  unfold State.xrefBack
  split
  · obtain ⟨u, eu⟩ : ∃ u : State, u = { s with time := { s.time with stopped := false } } := ⟨_, rfl⟩
    have first : State.keepsRtc s u := by
      rw [eu]
      exact keepsRtc_of (fun _ _ _ => rfl) fun k => by cases k <;> rfl
    rw [← eu]
    exact (first.trans (set_keepsRtc u _ (by decide))).trans (set_keepsRtc _ _ (by decide))
  · exact keepsRtc_refl s

theorem runClosed_keepsRtc (s : State) : State.keepsRtc s s.runClosed :=
  keepsRtc_of (fun _ _ _ => rfl) fun k => by cases k <;> rfl

theorem exitBegun_keepsRtc (s : State) (reef2 : Bool) : State.keepsRtc s (s.exitBegun reef2) := by
  unfold State.exitBegun
  extract_lets t
  have window : State.keepsRtc s t :=
    ((set_keepsRtc s _ (by decide)).trans (set_keepsRtc _ _ (by decide))).trans (keepsRtc_of_aon (windowed_aon _ false))
  refine window.trans (State.keepsRtc.trans ?_ (set_keepsRtc _ _ (by decide)))
  split
  · exact keepsRtc_refl t
  · exact coresRun_keepsRtc t

theorem exiting_keepsRtc (s : State) : State.keepsRtc s s.exiting :=
  ((xrefBack_keepsRtc s).trans (runClosed_keepsRtc _)).trans (exitBegun_keepsRtc _ _)

theorem exitRest_keepsRtc (s : State) : State.keepsRtc s s.exitRest :=
  (((set_keepsRtc s _ (by decide)).trans (set_keepsRtc (s.setPhase 0) (p := Port.PWR_STAT) _ (by decide))).trans
    (keepsRtc_of_aon (withEdges_aon (s.setPhase 0) _))).trans (coresRun_keepsRtc _)

theorem State.begins.keepsRtc {s t : State} (h : State.begins s t) : State.keepsRtc s t :=
  ⟨fun p low high => h.regs p (rtcPort_aon low high) (by
    simp only [startPort, inRange, Bool.or_eq_false_iff, Bool.and_eq_false_iff, decide_eq_false_iff_not,
      Port.PWR_DOM_STAT]
    omega), fun k up => ⟨(inReset_of_vital (h.live k up)).trans up, alarm_of_vital (h.live k up)⟩⟩

theorem levelExit_keepsRtc (s : State) : State.keepsRtc s s.levelExit := by
  rw [levelExit_exiting]
  split
  · exact ((exiting_keepsRtc s).trans (exitRest_keepsRtc _)).trans (exitEnd_begins _).keepsRtc
  · exact exiting_keepsRtc s

theorem wakeFrom_keepsRtc (s : State) (src : Nat) : State.keepsRtc s (s.wakeFrom src) := by
  unfold State.wakeFrom State.wakeNow
  split
  · have noted : State.keepsRtc s (s.setB Port.PWR_WAKE_SRC src true) := set_keepsRtc s _ (by decide)
    refine noted.trans ?_
    split
    · exact pwrAbandon_keepsRtc _
    · split
      · exact levelExit_keepsRtc _
      · exact keepsRtc_refl _
  · exact keepsRtc_refl s

/-! ## The alarm (R437) -/

theorem alarmCheck_meets {s : State} (h : s.alarmMeets = true) :
    s.alarmCheck = ((s.setB Port.RTC_STAT 16 true).raise Irq.RTC_ALARM).wakeFrom 2 := if_pos h

theorem alarmCheck_misses {s : State} (h : s.alarmMeets = false) : s.alarmCheck = s := if_neg (by simp [h])

/-- Of the RTC's registers a check of the alarm changes RTC_STAT alone. -/
theorem alarmCheck_get (s : State) {p : Nat} (low : 0x0C00 ≤ p) (high : p ≤ 0x0CFF) (stat : p ≠ Port.RTC_STAT) :
    s.alarmCheck.get p = s.get p := by
  unfold State.alarmCheck
  split
  · exact ((wakeFrom_keepsRtc _ 2).regs p low high).trans ((raise_get _ _ _ (by omega)).trans
      (s.get_set_other _ (Ne.symm stat)))
  · rfl

/-- A match sets ALARMF and raises RTC_ALARM. -/
theorem alarmCheck_raises {s : State} (h : s.alarmMeets = true) :
    s.alarmCheck.getB Port.RTC_STAT 16 = true ∧ s.raises Irq.RTC_ALARM s.alarmCheck := by
  obtain ⟨u, eu⟩ : ∃ u, u = s.setB Port.RTC_STAT 16 true := ⟨_, rfl⟩
  have core : ∀ k, u.core k = s.core k := fun k => by
    rw [eu]
    exact set_core s _ _ k
  have frame := raise_frame u Irq.RTC_ALARM
  rw [alarmCheck_meets h, ← eu]
  have wakes := wakeFrom_keepsRtc (u.raise Irq.RTC_ALARM) 2
  refine ⟨(getB_of_get ((wakes.regs _ (by decide) (by decide)).trans (raise_get _ _ _ (by decide))) 16).trans ?_,
    fun k up => ?_⟩
  · rw [eu]
    exact s.getB_setB_same _ _ _ (by decide)
  · have live : ((u.raise Irq.RTC_ALARM).core k).inReset = false := by
      rw [(raise_touches u Irq.RTC_ALARM).inReset (by decide), core]
      exact up
    exact (wakes.live k live).2.trans (raises_of_raise (by decide) core k up)

/-- An enabled alarm field of the calendar. -/
def State.alarmOn (s : State) (i : Nat) : Bool := s.getB (Port.RTC_ALM_SEC + i) 17

/-- A field equal to the calendar's. -/
def State.alarmFits (s : State) (i : Nat) : Prop :=
  s.get (Port.RTC_ALM_SEC + i) &&& fieldBits i = s.get (Port.RTC_SEC + i)

theorem alarmMeets_iff (s : State) :
    s.alarmMeets = true ↔ (List.range 6).any s.alarmOn = true ∧ ∀ i, i < 6 → s.alarmOn i = true → s.alarmFits i := by
  unfold State.alarmMeets
  rw [Bool.and_eq_true]
  refine and_congr ?_ ?_
  · simp [State.alarmOn]
  · simp only [List.all_eq_true, List.mem_filter, List.mem_range, decide_eq_true_eq, and_imp, State.alarmFits,
      State.alarmOn]

theorem alarmCheck_on (s : State) {i : Nat} (h : i < 6) : s.alarmCheck.alarmOn i = s.alarmOn i :=
  getB_of_get (alarmCheck_get s (by unfold Port.RTC_ALM_SEC; omega) (by unfold Port.RTC_ALM_SEC; omega)
    (by unfold Port.RTC_ALM_SEC Port.RTC_STAT; omega)) 17

theorem alarmCheck_fits (s : State) {i : Nat} (h : i < 6) : s.alarmCheck.alarmFits i ↔ s.alarmFits i := by
  unfold State.alarmFits
  rw [alarmCheck_get s (p := Port.RTC_ALM_SEC + i) (by unfold Port.RTC_ALM_SEC; omega)
      (by unfold Port.RTC_ALM_SEC; omega) (by unfold Port.RTC_ALM_SEC Port.RTC_STAT; omega),
    alarmCheck_get s (p := Port.RTC_SEC + i) (by unfold Port.RTC_SEC; omega) (by unfold Port.RTC_SEC; omega)
      (by unfold Port.RTC_SEC Port.RTC_STAT; omega)]

/-! ## The statement (O57) -/

/-- What a state in which the calendar has taken a value shares with the state before: ALARMF, the alarm and the
cores that run. -/
structure State.takes (s u : State) : Prop where
  flag : u.getB Port.RTC_STAT 16 = s.getB Port.RTC_STAT 16
  alarm : ∀ i, i < 6 → u.alarmOn i = s.alarmOn i
  live : ∀ k : Core, (s.core k).inReset = false → (u.core k).inReset = false

/-- An alarm that the check's outcome shows to match was flagged and raised. -/
theorem taken_match {s u : State} (h : State.takes s u)
    (m : (List.range 6).any u.alarmCheck.alarmOn = true ∧
      ∀ i, i < 6 → u.alarmCheck.alarmOn i = true → u.alarmCheck.alarmFits i) :
    u.alarmCheck.getB Port.RTC_STAT 16 = true ∧ s.raises Irq.RTC_ALARM u.alarmCheck := by
  obtain ⟨any, fits⟩ := m
  have enabled : (List.range 6).any u.alarmOn = true := by
    obtain ⟨i, mem, on⟩ := List.any_eq_true.mp any
    exact List.any_eq_true.mpr ⟨i, mem, (alarmCheck_on u (List.mem_range.mp mem)).symm.trans on⟩
  have meets : u.alarmMeets = true := (alarmMeets_iff u).mpr ⟨enabled, fun i in6 on =>
    (alarmCheck_fits u in6).mp (fits i in6 ((alarmCheck_on u in6).trans on))⟩
  obtain ⟨flag, raised⟩ := alarmCheck_raises meets
  exact ⟨flag, fun k up => raised k (h.live k up)⟩

/-- An alarm with an enabled field that differs leaves ALARMF. -/
theorem taken_differs {s u : State} (h : State.takes s u) {i : Nat} (in6 : i < 6) (on : u.alarmCheck.alarmOn i = true)
    (differs : ¬ u.alarmCheck.alarmFits i) : u.alarmCheck.getB Port.RTC_STAT 16 = s.getB Port.RTC_STAT 16 := by
  have misses : u.alarmMeets = false := Bool.eq_false_iff.mpr fun meets => by
    obtain ⟨-, fits⟩ := (alarmMeets_iff u).mp meets
    exact differs ((alarmCheck_fits u in6).mpr (fits i in6 ((alarmCheck_on u in6).symm.trans on)))
  rw [alarmCheck_misses misses]
  exact h.flag

/-- An alarm without an enabled field leaves ALARMF. -/
theorem taken_disabled {s u : State} (h : State.takes s u) (none : (List.range 6).any s.alarmOn = false) :
    u.alarmCheck.getB Port.RTC_STAT 16 = s.getB Port.RTC_STAT 16 := by
  have misses : u.alarmMeets = false := Bool.eq_false_iff.mpr fun meets => by
    obtain ⟨any, -⟩ := (alarmMeets_iff u).mp meets
    obtain ⟨i, mem, on⟩ := List.any_eq_true.mp any
    have off := List.any_eq_false.mp none i mem
    exact off ((h.alarm i (List.mem_range.mp mem)).symm.trans on)
  rw [alarmCheck_misses misses]
  exact h.flag

/-- A second boundary copies link time and raises a producer; the calendar is elsewhere. -/
theorem secondEdge_keepsRtc (s : State) : State.keepsRtc s s.secondEdge :=
  keepsRtc_of_aon ((raiseProducer_aon _ _).trans (setWide_aon s _ _ (by decide)))

theorem State.keepsRtc.takes {s t u : State} (h : State.takes s t) (k : State.keepsRtc t u) : State.takes s u where
  flag := (getB_of_get (k.regs _ (by decide) (by decide)) 16).trans h.flag
  alarm := fun i in6 => (getB_of_get (k.regs _ (by unfold Port.RTC_ALM_SEC; omega)
    (by unfold Port.RTC_ALM_SEC; omega)) 17).trans (h.alarm i in6)
  live := fun c up => (k.live c (h.live c up)).1

/-- Words stored in the calendar's own registers. -/
theorem setFields_takes (s : State) {l : List Word} (short : l.length ≤ 6) :
    State.takes s (s.setFields Port.RTC_SEC l) where
  flag := getB_of_get ((get_setFields s _ l _).trans (if_neg (by unfold Port.RTC_SEC Port.RTC_STAT; omega))) 16
  alarm := fun i _ => getB_of_get ((get_setFields s _ l _).trans
    (if_neg (by unfold Port.RTC_SEC Port.RTC_ALM_SEC; omega))) 17
  live := fun k up => by cases k <;> exact up

theorem takes_refl (s : State) : State.takes s s := ⟨rfl, fun _ _ => rfl, fun _ up => up⟩

theorem State.takes.trans {s t u : State} (h : State.takes s t) (k : State.takes t u) : State.takes s u :=
  ⟨k.flag.trans h.flag, fun i in6 => (k.alarm i in6).trans (h.alarm i in6), fun c up => k.live c (h.live c up)⟩

theorem set_takes (s : State) {p : Nat} (v : Word) (h : p < 0x0C17) : State.takes s (s.set p v) where
  flag := getB_of_get (s.get_set_other v (by unfold Port.RTC_STAT; omega)) 16
  alarm := fun i _ => getB_of_get (s.get_set_other v (by unfold Port.RTC_ALM_SEC; omega)) 17
  live := fun k up => by rw [set_core]; exact up

theorem stat_takes (s : State) {v : Word} (h : bitOf v 16 = s.getB Port.RTC_STAT 16) :
    State.takes s (s.set Port.RTC_STAT v) where
  flag := (congrArg (bitOf · 16) (s.get_set_same _ v)).trans h
  alarm := fun i _ => getB_of_get (s.get_set_other v (by unfold Port.RTC_STAT Port.RTC_ALM_SEC; omega)) 17
  live := fun k up => by rw [set_core]; exact up

theorem time_takes (s : State) (x : Time) : State.takes s { s with time := x } :=
  ⟨rfl, fun _ _ => rfl, fun k up => by cases k <;> exact up⟩

theorem words_length (c : Calendar) : c.words.length ≤ 6 := Nat.le_refl 6

/-- At a roll-over the calendar takes the next second. -/
theorem rtcWrap_takes {s : State} (run : s.time.rtcRunning = true) (free : s.time.rtcCommit = none)
    (last : s.get Port.RTC_SUB = 32767) : ∃ u, s.rtcWrap = u.alarmCheck ∧ State.takes s u := by
  have noCommit : ¬ s.time.rtcCommit.isSome = true := by simp [free]
  refine ⟨_, (if_neg noCommit).trans (if_neg (by simp [run, last])), ?_⟩
  exact (secondEdge_keepsRtc _).takes (((time_takes s _).trans (set_takes _ _ (by decide))).trans
    (setFields_takes _ (words_length _)))

/-- The fields of a commit that are staged enter the calendar. -/
def State.fieldsTaken (s : State) (m : Word) (l : List Word) : State :=
  forNat 6 (fun i v => if bitOf m i then v.set (Port.RTC_SEC + i) (l.getD i 0) else v) s

theorem fieldsTaken_takes (s : State) (m : Word) (l : List Word) : State.takes s (s.fieldsTaken m l) := by
  have upto : ∀ n ≤ 6, State.takes s
      (forNat n (fun i v => if bitOf m i then v.set (Port.RTC_SEC + i) (l.getD i 0) else v) s) := by
    intro n small
    induction n with
    | zero => exact takes_refl s
    | succ n ih =>
      rw [forNat_succ]
      refine (ih (by omega)).trans ?_
      split
      · exact set_takes _ _ (by unfold Port.RTC_SEC; omega)
      · exact takes_refl _
  exact upto 6 (Nat.le_refl 6)

/-- The state in which a commit has been applied, before the second boundary. -/
def State.committed (s : State) (m again : Word) (l : List Word) : State :=
  let t := { s with time := { s.time with rtcCommit := none, rtcRunning := true } }
  let keep := (s.get Port.RTC_STAT &&& ~~~(m &&& ~~~again)) &&& fieldMask 5 0
  (((t.fieldsTaken m l).setF Port.RTC_STAT 5 0 keep.toNat).setB Port.RTC_STAT 13 false).setDiv 0

theorem commitEdge_eq {s : State} {m again : Word} {l : List Word} (eq : s.time.rtcCommit = some (m, again, l)) :
    s.commitEdge = (s.committed m again l).secondEdge.alarmCheck := by
  unfold State.commitEdge
  rw [eq]
  rfl

theorem committed_takes (s : State) (m again : Word) (l : List Word) : State.takes s (s.committed m again l) := by
  unfold State.committed
  extract_lets src t keep
  have fields : State.takes s (t.fieldsTaken m l) := (time_takes s _).trans (fieldsTaken_takes t m l)
  clear_value t keep
  generalize t.fieldsTaken m l = u at fields
  have unstaged : State.takes u (u.setF Port.RTC_STAT 5 0 keep.toNat) :=
    stat_takes u (bitOf_withFld_apart _ _ _ _ _ (by decide) (by decide))
  have idle : ∀ v : State, State.takes v (v.setB Port.RTC_STAT 13 false) := fun v =>
    stat_takes v (bitOf_withBit_other _ _ _ _ (by decide) (by decide))
  exact ((fields.trans unstaged).trans (idle _)).trans (set_takes _ _ (by decide))

/-- At a commit's edge the calendar takes the staged fields. -/
theorem commitEdge_takes {s : State} (staged : s.time.rtcCommit.isSome = true) :
    ∃ u, s.commitEdge = u.alarmCheck ∧ State.takes s u := by
  obtain ⟨⟨m, again, l⟩, eq⟩ := Option.isSome_iff_exists.mp staged
  exact ⟨_, commitEdge_eq eq, (secondEdge_keepsRtc _).takes (committed_takes s m again l)⟩

/-- Settles O57: `alarmCheck_raises` for a match, and what the calendar's taking a value leaves of the alarm. -/
theorem anAlarmThatMatchesIsRaised : Obligations.AnAlarmThatMatchesIsRaised := by
  unfold Obligations.AnAlarmThatMatchesIsRaised
  intro s
  refine ⟨fun run free last => ?_, fun run free last => ?_, fun staged => ?_, fun staged => ?_⟩
  · obtain ⟨u, eq, taken⟩ := rtcWrap_takes run free last
    exact completes_eq rfl eq (taken_match taken)
  · obtain ⟨u, eq, taken⟩ := rtcWrap_takes run free last
    exact completes_eq rfl eq ⟨fun i in6 on differs => taken_differs taken in6 on differs, taken_disabled taken⟩
  · obtain ⟨u, eq, taken⟩ := commitEdge_takes staged
    exact completes_eq rfl eq (taken_match taken)
  · obtain ⟨u, eq, taken⟩ := commitEdge_takes staged
    exact completes_eq rfl eq ⟨fun i in6 on differs => taken_differs taken in6 on differs, taken_disabled taken⟩

end Sys2Proof.Machine
